-- ==== Sys2Proof/Word.lean ====
section
/-! DEFINITION. Words, bytes and the finite tables that the machine is built from.

The values of registers and fields are natural numbers kept below their width by the operations that write them; bytes of frames and of
HBM are bit vectors. -/

namespace Sys2Proof

/-- One byte of a frame, a cell, a record or a command. -/
abbrev Byte := BitVec 8

/-- A string of bytes, first byte first. -/
abbrev Bytes := List Byte

/-- A sparse table: the listed keys in rising order, every other key at its table's default. -/
abbrev Tab (α : Type) := List (Nat × α)

end Sys2Proof
end

