-- ==== Sys2Proof/Syntax/Operands.lean ====
section
/-! DEFINITION. What the operands of a command are made of: the command frame and the blocks that the parameter tables name. -/

namespace Sys2Proof

/-- The transport a command frame arrives on (Table 9-5). -/
inductive Transport where
  | mailbox (channel : Nat)
  | compat
  | dma (channel rspAddr rspLen : Nat)
  | inband (port srcMac : Nat) (tag : Option Nat)
  | dvorob (slot : Nat)
  deriving DecidableEq, Repr

/-- A command frame: the header of Table 9-1 but for its opcode, what the transport delivered, the parameter bytes and the MAC.
DESIGN CHOICE, unsafe: log entry 5. -/
structure Ocf where
  magic : Nat
  version : Nat
  role : Nat
  flags : Nat
  seq : Nat
  length : Nat
  tag : Nat
  sender : Nat
  keyId : Nat
  group : Nat
  reserved : Nat
  epoch : Nat
  params : Bytes
  mac : Bytes
  transport : Transport
  /-- The data present: the bytes that the transport delivered (R405). -/
  present : Nat
  /-- The offset of the first reserved parameter field that is not 0, if there is one. -/
  rsv : Option Nat
  deriving DecidableEq, Repr

/-- What the ECC of a memory access finds: clean, corrected, an error that a repeat read clears, or uncorrectable (R136, R391).
DESIGN CHOICE, safe: log entry 36. -/
inductive EccOutcome where
  | clean | corrected | transient | uncorrectable
  deriving DecidableEq, Repr

/-- A data cell of the Dvorob Link (Table 6-4): TYPE 1 to 4, its header fields and its payload. The first cell of a frame carries the frame tag
of Table 6-5 as fields, and `payload` holds frame bytes only. DESIGN CHOICE, safe: log entry 134. -/
structure DataCell where
  kind : Nat
  poison : Bool
  hop : Nat
  src : Nat
  dst : Nat
  via : Nat
  dstPort : Nat
  tc : Nat
  seq : Nat
  index : Nat
  lseq : Nat
  ack : Nat
  cls : Nat
  /-- Frame tag of a first cell: ORIG_PORT, FRAME_LEN, CUM_CELLS, NEXTHOP, MCAST_GROUP, mirror copy. -/
  origPort : Nat := 0
  frameLen : Nat := 0
  cumCells : Nat := 0
  nexthop : Nat := 0xFFFF
  group : Nat := 0
  mirror : Bool := false
  payload : Bytes
  deriving DecidableEq, Repr

/-- The header of a control cell as it arrives (R311, Table 6-4): the octal group it arrives on, LSEQ, ACK, and whether its CCRC is valid.
DESIGN CHOICE, safe: log entry 134. -/
structure LinkHeader where
  group : Nat
  lseq : Nat
  ack : Nat
  crcOk : Bool
  /-- DST and HOP of its header. -/
  dst : Nat
  hop : Nat
  deriving DecidableEq, Repr

/-- What a flow request asks for: a packet's operation; the lookup of a primary that a companion of the key given has led to (R118); or a
chained operation (R154, R181, R200): the insertion of the companion of a primary, after some NAT ports have been tried; the next NAT port of a
primary whose companion's key was taken; the removal of the companion of a primary; or a deletion, exported with an end reason. Keys are given as
zone, key type and key. -/
inductive Chain where
  | packet
  | reply (zone keyType key : Nat)
  | companion (zone keyType key tries : Nat)
  | port (tries : Nat)
  | drop (zone keyType key : Nat)
  | delete (reason : Nat)
  deriving DecidableEq, Repr

/-- A flow request (R171, R216): the requesting template and zone, the key, which of its sides the packet comes from, and what the engine needs
of the packet. -/
structure FlowReq where
  template : Nat
  zone : Nat
  keyType : Nat
  key : Nat
  /-- The packet's source is side A of the key. -/
  srcA : Bool
  proto : Nat
  /-- Frame length, including the FCS. -/
  len : Nat
  /-- TCP flags when the packet is TCP. -/
  tcp : Option Nat
  /-- Estate time at which the frame passed its check, in 1/16 ns. -/
  stamp : Nat
  chain : Chain := .packet
  /-- The packet is an ICMP echo request or reply (R196). -/
  echo : Bool := false
  /-- It comes from a deferred operation, whose frame has left (R184). -/
  deferred : Bool := false
  deriving DecidableEq, Repr

/-- An address and port that a rewrite puts in place of the packet's own; no port where it is kept. -/
structure Endpoint where
  addr : Nat
  port : Option Nat
  deriving DecidableEq, Repr

/-- A flow result (R175, R178, R182): success with its rewrites and the connection-tracking disposition of an invalid packet; a miss that may
not create, with CT_MISS or STATELESS; a creation refused for an empty pool; or a failure with a cause of Table 3-9. -/
inductive FlowResult where
  | ok (src dst : Option Endpoint) (ctInvalid : Option Nat)
  | missCt
  | stateless
  | starved (cause : Nat)
  deriving DecidableEq, Repr

/-- A learning record (Table 5-7). -/
structure LearnRecord where
  op : Nat
  refresh : Bool
  unsync : Bool
  fid : Nat
  mac : Nat
  originDev : Nat
  originPort : Nat
  stampS : Nat
  stampNs : Nat
  deriving DecidableEq, Repr

/-- The parameters of LEARN_MESSAGE (Table 5-6). -/
structure LearnMessageP where
  senderDev : Nat
  group : Nat
  msgSeq : Nat
  records : List LearnRecord
  deriving DecidableEq, Repr

/-- A request that a requester puts to an HBM controller (R369): the oldest record of a region's Tarn write-back buffer, the oldest bucket read
that a region's flow engine waits for, or an access of another requester: region, class (0 FR, 1 FW, 2 SP, 3 TM, 4 TL), read or write, region
address and bytes. -/
inductive HbmReqOp where
  | writeBack (region : Nat)
  | flowRead (region : Nat)
  | read (region cls addr len : Nat)
  | write (region cls addr : Nat) (data : Bytes)
  deriving DecidableEq, Repr

/-- What the host wrote in a receive descriptor (Table 11-7). -/
structure RxBuf where
  addr : Nat
  len : Nat
  deriving DecidableEq, Repr

/-- The receive descriptors that the device reads for a frame, from HEAD. -/
abbrev RxBufs := List RxBuf

/-- A transmit descriptor (Table 11-8) but for its STATUS. DESIGN CHOICE, safe: log entry 134. -/
structure TxDesc where
  addr : Nat
  len : Nat
  flags : Nat
  tc : Nat
  dest : Nat
  deriving DecidableEq, Repr

/-- The transmit descriptors of a frame, from HEAD. -/
abbrev TxDescs := List TxDesc

/-- What the checks of a word's execution find (R503, R514, R515): no error, an error in the microword or the nanoword, one whose golden copy fails
too, or an uncorrectable one in a register or line buffer. -/
inductive ParityOutcome where
  | good | micro | nano | golden | stateEcc
  deriving DecidableEq, Repr

/-- A work item that firmware submits (R520, R524): executor kind, the fields of Table 12-7 that it chooses, and the item that follows it. -/
structure NewItem where
  engine : Bool
  prio : Nat
  activity : Nat
  cls : Nat
  regionMask : Nat
  due : Nat
  entry : Nat
  arg : Nat
  chain : Option Nat
  deriving DecidableEq, Repr

/-- Items submitted in one clock, in acceptance order. -/
abbrev NewItems := List NewItem

/-- What Caldera samples in an energy period (R547, R548): the 64 sensors in 0.25 degrees C, the two HBM stack temperatures in degrees C, the
device power of the period in W, the slot utilization of each region over the last 1 ms in permille. DESIGN CHOICE, safe: log entry 36. -/
structure CalderaSample where
  sensors : List Int
  hbm : List Int
  power : Nat
  util : List Nat
  deriving DecidableEq, Repr

/-- What an Announce message says of its sender and grandmaster. -/
structure AnnounceData where
  priority1 : Nat
  clockClass : Nat
  accuracy : Nat
  variance : Nat
  priority2 : Nat
  identity : Nat
  steps : Nat
  sender : Nat
  senderPort : Nat
  deriving DecidableEq, Repr

/-- A PTP message as the instance takes it (R589, R590): its domainNumber, and by kind the stamps in 1/16 ns and the correction, already added,
in the same unit. A two-step Sync stands here once its Follow_Up has come. DESIGN CHOICE, safe: log entry 134. -/
inductive PtpMsg where
  | announce (domain : Nat) (data : AnnounceData) (utcOffset : Int) (utcValid leap61 leap59 : Bool)
  | sync (domain : Nat) (t1 t2 : Int)
  | delayResp (domain : Nat) (t4 : Int)
  | delayReq (domain : Nat) (t4 : Int) (requester seq : Nat)
  | pdelayReq (domain : Nat) (t2 : Int) (requester seq : Nat)
  | pdelayResp (domain : Nat) (roundTrip turnaround : Int)
  deriving DecidableEq, Repr

/-- The member TLV of Table 14-8. -/
structure MemberTlv where
  deviceId : Nat
  domainId : Nat
  groupId : Nat
  slot : Nat
  learnGroup : Nat
  timeState : Nat
  mode : Nat
  deriving DecidableEq, Repr

/-- A received LLDPDU (R594). DESIGN CHOICE, safe: log entry 134. -/
structure LldpPdu where
  chassis : Nat
  portId : Nat
  ttl : Nat
  member : Option MemberTlv
  deriving DecidableEq, Repr

/-- What a poll of an optics slot reads (R597, R598): acknowledged or not, the identifier byte, whether the module is CMIS, its module state
(5 ModuleFault), and its vendor name and part number. -/
structure OpticsRead where
  ack : Bool
  identifier : Nat
  cmis : Bool
  moduleState : Nat
  vendor : Bytes
  deriving DecidableEq, Repr

/-- A transition of a parse state (Table 2-2). -/
structure Trans where
  value : Nat
  mask : Nat
  action : Nat
  target : Nat
  deriving DecidableEq, Repr

/-- A parse state entry (Table 2-2). -/
structure ParseState where
  hdrId : Nat
  layer : Nat
  check : Nat
  lenMode : Nat
  lenFixed : Nat
  lenOff : Nat
  lenMask : Nat
  lenShift : Nat
  lenScale : Nat
  lenAdd : Nat
  selOff : Nat
  selWidth : Nat
  defAction : Nat
  defTarget : Nat
  trans : List Trans
  deriving DecidableEq, Repr

/-- A key descriptor (Table 3-10); the key as the number its bytes spell: 128 bits for the compact types, 384 for the wide ones. -/
structure KeyDesc where
  partition : Nat
  keyType : Nat
  zone : Nat
  key : Nat
  deriving DecidableEq, Repr

/-- The parameters of FLOW_INSERT (Table 3-12); SERVICE is the number of its 64 bits in a compact record and of its 192 in a wide one. -/
structure FlowBlock where
  key : KeyDesc
  flags : Nat
  template : Nat
  ageClass : Nat
  ctState : Nat
  ctAux : Nat
  expectGen : Nat
  templateData : Nat
  service : Nat
  deriving DecidableEq, Repr

/-- The blocks of a bulk insert (Table 12-11). -/
abbrev FlowBlocks := List FlowBlock

/-- A flow template (Table 4-1). -/
structure TemplateP where
  template : Nat
  partition : Nat
  keyType : Nat
  keyFlags : Nat
  flags : Nat
  serviceKind : Nat
  ageClass : Nat
  natPool : Nat
  ctAge : Nat
  lbPool : Nat
  replyZone : Nat
  ovlPolicy : Nat
  createLimit : Nat
  deferMaxAge : Nat
  exportField : Nat
  ctInvalid : Nat
  ctMiss : Nat
  slowReason : Nat
  templateData : Nat
  stateless : Nat
  flowAction : Nat
  keyMap : List Nat
  deriving DecidableEq, Repr

/-- A MAC-table filter (Table 5-8). -/
structure FlushFilter where
  mtch : Nat
  scope : Nat
  fid : Nat
  destType : Nat
  dest : Nat
  learnDev : Nat
  deriving DecidableEq, Repr

/-- The members of a multicast group, in order: a system port (0) or a LAG (1) (R309). -/
abbrev McastMembers := List (Nat × Nat)

/-- A prefix with its next hop (R245); the address as the number of its 32 or 128 bits. -/
structure Route where
  v6 : Bool
  len : Nat
  addr : Nat
  nexthop : Nat
  deriving DecidableEq, Repr

/-- The prefixes of a batch. -/
abbrev Routes := List Route

/-- Gate list entries (Table 7-2): GATES and INTERVAL. -/
abbrev GateEntries := List (Nat × Nat)

/-- The job parameters of Table 12-11; an embedded command frame is given as its opcode and frame. -/
inductive JobParams where
  | tableDump (table select cursor : Nat)
  | bulkInsert (count : Nat)
  | snapshot (scope : Nat)
  | delayed (opcode : Nat) (f : Ocf)
  | other
  deriving DecidableEq, Repr

end Sys2Proof
end

