-- ==== Sys2Proof/Syntax.lean ====
section
/-! DEFINITION. The commands of the device: one constructor of `Instr` per row of spec/opcode_table.json. The Ohmed commands stand first, in the
table's order, then the rows of events in the table's order, those without operands last: Lean's compiler takes no more than 244 constructors
with fields, and this order lets every command that the model itself builds be compiled.

A row for an Ohmed command carries the frame `h` (its header, transport and MAC) and the parameters of its command table; a parameter
block of four fields or more is a structure `<Command>P`. Every other row carries what its event brings with it. Each docstring cites the
rule that the table names for the row. -/

namespace Sys2Proof

/-- Parameters of PORT_DEFAULTS_WRITE (opcode 0x0307). -/
structure PortDefaultsWriteP where
  port : Nat
  missAction : Nat
  zone : Nat
  disp : List Nat
  deriving DecidableEq, Repr

/-- Parameters of CONTROL_MATCH_WRITE (opcode 0x0308). -/
structure ControlMatchWriteP where
  entry : Nat
  ethertype : Nat
  dst : Nat
  anyDst : Nat
  udpPort : Nat
  forward : Nat
  valid : Nat
  deriving DecidableEq, Repr

/-- Parameters of LIST_CREATE (opcode 0x030A). -/
structure ListCreateP where
  pipeMask : Nat
  list : Nat
  baseBank : Nat
  banks : Nat
  deriving DecidableEq, Repr

/-- Parameters of RULE_INSERT (opcode 0x030C). -/
structure RuleInsertP where
  pipeMask : Nat
  list : Nat
  flags : Nat
  priority : Nat
  value : Nat
  mask : Nat
  action : Nat
  deriving DecidableEq, Repr

/-- Parameters of TCAM_RAW_WRITE (opcode 0x0311). -/
structure TcamRawWriteP where
  pipeMask : Nat
  valid : Nat
  wide : Nat
  addr : Nat
  value : Nat
  mask : Nat
  action : Nat
  deriving DecidableEq, Repr

/-- Parameters of MIRROR_SESSION_WRITE (opcode 0x0314). -/
structure MirrorSessionWriteP where
  session : Nat
  dest : Nat
  tc : Nat
  trunc : Nat
  deriving DecidableEq, Repr

/-- Parameters of PARTITION_CREATE (opcode 0x0401). -/
structure PartitionCreateP where
  partition : Nat
  kind : Nat
  flags : Nat
  nbrLog2 : Nat
  seedA : Nat
  seedB : Nat
  ovfQuota : Nat
  sweepPeriod : Nat
  defaultAgeClass : Nat
  homeMap : List Nat
  deriving DecidableEq, Repr

/-- Parameters of FLOW_SEARCH_NEXT (opcode 0x0408). -/
structure FlowSearchNextP where
  cursor : Nat
  partition : Nat
  useTemplate : Nat
  template : Nat
  key : KeyDesc
  mask : Nat
  deriving DecidableEq, Repr

/-- Parameters of FLOW_FLUSH (opcode 0x0409). -/
structure FlowFlushP where
  partition : Nat
  useTemplate : Nat
  template : Nat
  key : KeyDesc
  mask : Nat
  deriving DecidableEq, Repr

/-- Parameters of NAT_POOL_WRITE (opcode 0x0412). -/
structure NatPoolWriteP where
  pool : Nat
  family : Nat
  addrCount : Nat
  portLo : Nat
  portHi : Nat
  deriving DecidableEq, Repr

/-- Parameters of NAT_POOL_ADDR_WRITE (opcode 0x0413). -/
structure NatPoolAddrWriteP where
  pool : Nat
  start : Nat
  count : Nat
  addrs : List Nat
  deriving DecidableEq, Repr

/-- Parameters of LB_POOL_WRITE (opcode 0x0416). -/
structure LbPoolWriteP where
  pool : Nat
  slots : Nat
  family : Nat
  healthPeriod : Nat
  minSamples : Nat
  failLimit : Nat
  rttFactor : Nat
  deriving DecidableEq, Repr

/-- Parameters of LB_BACKEND_WRITE (opcode 0x0417). -/
structure LbBackendWriteP where
  backend : Nat
  pool : Nat
  member : Nat
  addr : Nat
  port : Nat
  wbase : Nat
  wmin : Nat
  state : Nat
  deriving DecidableEq, Repr

/-- Parameters of GROUP_HOME_WRITE (opcode 0x041A). -/
structure GroupHomeWriteP where
  partition : Nat
  timeS : Nat
  timeNs : Nat
  start : Nat
  devices : List Nat
  deriving DecidableEq, Repr

/-- Parameters of EXPORT_PROFILE_WRITE (opcode 0x041B). -/
structure ExportProfileWriteP where
  profile : Nat
  flags : Nat
  collectorPort : Nat
  collector : Nat
  source : Nat
  sourcePort : Nat
  mtu : Nat
  odid : Nat
  rate : Nat
  burst : Nat
  activeTimeout : Nat
  templateRefresh : Nat
  flushDelay : Nat
  egressPort : Nat
  dstMac : Nat
  vlan : Nat
  tc : Nat
  dscp : Nat
  deriving DecidableEq, Repr

/-- Parameters of L2_TABLE_CONFIG (opcode 0x0503). -/
structure L2TableConfigP where
  macSeed : Nat
  hostSeed : Nat
  lsSeed : Nat
  ageTime : Nat
  flapLimit : Nat
  flapWindow : Nat
  pinHold : Nat
  conflictWindow : Nat
  deriving DecidableEq, Repr

/-- Parameters of L2_ENTRY_WRITE (opcode 0x0504). -/
structure L2EntryWriteP where
  fid : Nat
  mac : Nat
  static : Nat
  destType : Nat
  dest : Nat
  deriving DecidableEq, Repr

/-- Parameters of L2_LEARN_SHARE_CONFIG (opcode 0x050C). -/
structure L2LearnShareConfigP where
  mode : Nat
  learnGroup : Nat
  tc : Nat
  ports : List Nat
  deriving DecidableEq, Repr

/-- Parameters of VRF_WRITE (opcode 0x0602). -/
structure VrfWriteP where
  vrf : Nat
  missNexthop : Nat
  missValid : Nat
  ttlReason : Nat
  deriving DecidableEq, Repr

/-- Parameters of NEXTHOP_WRITE (opcode 0x0603). -/
structure NexthopWriteP where
  nexthop : Nat
  type : Nat
  smacIdx : Nat
  destType : Nat
  dest : Nat
  dmac : Nat
  vid : Nat
  ecmpBase : Nat
  ecmpSize : Nat
  reason : Nat
  deriving DecidableEq, Repr

/-- Parameters of HOST_ENTRY_WRITE (opcode 0x0605). -/
structure HostEntryWriteP where
  vrf : Nat
  family : Nat
  addr : Nat
  nexthop : Nat
  deriving DecidableEq, Repr

/-- Parameters of BUF_PROFILE_WRITE (opcode 0x0701). -/
structure BufProfileWriteP where
  profile : Nat
  alpha : Nat
  reserve : Nat
  flags : Nat
  headKeep : Nat
  spillOn : Nat
  spillMax : Nat
  deriving DecidableEq, Repr

/-- Parameters of BUF_REGION_WRITE (opcode 0x0703). -/
structure BufRegionWriteP where
  region : Nat
  portPendMax : Nat
  ingressPool : Nat
  fabRxPool : Nat
  deriving DecidableEq, Repr

/-- Parameters of PORT_PFC_WRITE (opcode 0x0704). -/
structure PortPfcWriteP where
  port : Nat
  mode : Nat
  lossless : Nat
  xoff : Nat
  xon : Nat
  headroom : Nat
  watchdog : Nat
  defaultPrio : Nat
  deriving DecidableEq, Repr

/-- Parameters of FABRIC_CONFIG (opcode 0x0740). -/
structure FabricConfigP where
  enable : Nat
  slot : Nat
  groupId : Nat
  directLimit : Nat
  grantWindow : Nat
  grantSize : Nat
  robTimeout : Nat
  flashOk : Bool
  deriving DecidableEq, Repr

/-- Parameters of FABRIC_LINK_WRITE (opcode 0x0741). -/
structure FabricLinkWriteP where
  group : Nat
  width : Nat
  rate : Nat
  flashOk : Bool
  deriving DecidableEq, Repr

/-- Parameters of PORT_SCHED_WRITE (opcode 0x0801). -/
structure PortSchedWriteP where
  port : Nat
  strictMask : Nat
  lenAdj : Nat
  weight : List Nat
  portRate : Nat
  portBurst : Nat
  latThreshold : Nat
  deriving DecidableEq, Repr

/-- Parameters of QUEUE_SHAPER_WRITE (opcode 0x0802). -/
structure QueueShaperWriteP where
  port : Nat
  tc : Nat
  flags : Nat
  rate : Nat
  burst : Nat
  deriving DecidableEq, Repr

/-- Parameters of GATE_CONFIG_WRITE (opcode 0x0804). -/
structure GateConfigWriteP where
  port : Nat
  flags : Nat
  listLen : Nat
  cycleTime : Nat
  baseS : Nat
  baseNs : Nat
  deriving DecidableEq, Repr

/-- Parameters of POLICER_WRITE (opcode 0x0810). -/
structure PolicerWriteP where
  region : Nat
  mode : Nat
  policer : Nat
  cir : Nat
  cbs : Nat
  pir : Nat
  ebsPbs : Nat
  flags : Nat
  lenAdj : Nat
  yellowAct : Nat
  redAct : Nat
  markDscp : Nat
  deriving DecidableEq, Repr

/-- Parameters of HWM_READ (opcode 0x0820). -/
structure HwmReadP where
  scope : Nat
  clear : Nat
  id : Nat
  count : Nat
  deriving DecidableEq, Repr

/-- Parameters of HBM_BUDGET_WRITE (opcode 0x0780). -/
structure HbmBudgetWriteP where
  fr : Nat
  fw : Nat
  sp : Nat
  tm : Nat
  tl : Nat
  ageLimit : Nat
  deriving DecidableEq, Repr

/-- Parameters of SYS_INTAKE_CONFIG (opcode 0x0109). -/
structure SysIntakeConfigP where
  stationMac : Nat
  groupMac : Nat
  replyTc : Nat
  flashOk : Bool
  deriving DecidableEq, Repr

/-- Parameters of PORT_CONFIG (opcode 0x0201). -/
structure PortConfigP where
  port : Nat
  speed : Nat
  lanes : Nat
  laneRate : Nat
  fec : Nat
  flags : Nat
  mtu : Nat
  deriving DecidableEq, Repr

/-- Parameters of PORT_OPTICS_ACCESS (opcode 0x0205). -/
structure PortOpticsAccessP where
  controller : Nat
  devAddr : Nat
  bank : Nat
  page : Nat
  offset : Nat
  len : Nat
  flags : Nat
  data : Bytes
  busData : Bytes
  ack : Bool
  deriving DecidableEq, Repr

/-- Parameters of DIAG_PRBS (opcode 0x0E01). -/
structure DiagPrbsP where
  port : Nat
  pattern : Nat
  dir : Nat
  laneMask : Nat
  measured : List Nat
  deriving DecidableEq, Repr

/-- Parameters of DIAG_ERROR_INJECT (opcode 0x0E05). -/
structure DiagErrorInjectP where
  kind : Nat
  severity : Nat
  count : Nat
  unit : Nat
  deriving DecidableEq, Repr

/-- Parameters of SEC_KEY_WRITE (opcode 0x0B01). -/
structure SecKeyWriteP where
  role : Nat
  keyId : Nat
  wrapped : Nat
  flashOk : Bool
  deriving DecidableEq, Repr

/-- Parameters of SEC_FW_WRITE (opcode 0x0B06). -/
structure SecFwWriteP where
  offset : Nat
  length : Nat
  data : Bytes
  flashOk : Bool
  deriving DecidableEq, Repr

/-- Parameters of JOB_SUBMIT (opcode 0x0D01). -/
structure JobSubmitP where
  jobType : Nat
  priority : Nat
  energyClass : Nat
  flags : Nat
  startS : Nat
  startNs : Nat
  bufAddr : Nat
  bufLen : Nat
  job : JobParams
  deriving DecidableEq, Repr

/-- Parameters of PWR_LIMITS_SET (opcode 0x0A03). -/
structure PwrLimitsSetP where
  capFloor : Nat
  capCeiling : Nat
  maintPermille : Nat
  hbmCFloor : Nat
  tjWarn : Nat
  shedNotice : Nat
  flashOk : Bool
  deriving DecidableEq, Repr

/-- Parameters of PWR_REDUCED_PROFILE_WRITE (opcode 0x0A04). -/
structure PwrReducedProfileWriteP where
  profile : Nat
  stepLimit : Nat
  cap : Nat
  octalPark : Nat
  inPark : Nat
  egPark : Nat
  deriving DecidableEq, Repr

/-- Parameters of PWR_SCHEDULE_WRITE (opcode 0x0A05). -/
structure PwrScheduleWriteP where
  entry : Nat
  action : Nat
  profile : Nat
  flags : Nat
  timeS : Nat
  timeNs : Nat
  cap : Nat
  period : Nat
  drain : Nat
  deriving DecidableEq, Repr

/-- Parameters of TIME_SOURCE_CONFIG (opcode 0x0901). -/
structure TimeSourceConfigP where
  phase1 : Nat
  phase2 : Nat
  flags : Nat
  ppsDelay : Nat
  lockThreshold : Nat
  stepThreshold : Nat
  holdoverLimit : Nat
  slewMax : Nat
  deriving DecidableEq, Repr

/-- Parameters of TIME_SET (opcode 0x0902). -/
structure TimeSetP where
  timeS : Nat
  timeNs : Nat
  utcOffset : Nat
  flags : Nat
  deriving DecidableEq, Repr

/-- Parameters of PTP_CLOCK_CONFIG (opcode 0x0904). -/
structure PtpClockConfigP where
  type : Nat
  domain : Nat
  priority1 : Nat
  priority2 : Nat
  clockClass : Nat
  step : Nat
  announceTimeout : Nat
  ipv4 : Nat
  ipv6 : Nat
  deriving DecidableEq, Repr

/-- Parameters of PTP_PORT_CONFIG (opcode 0x0905). -/
structure PtpPortConfigP where
  port : Nat
  ptpMode : Nat
  transport : Nat
  delay : Nat
  logAnnounce : Nat
  logSync : Nat
  logDelay : Nat
  asymNs : Nat
  deriving DecidableEq, Repr

/-- Parameters of TIME_OUTPUT_WRITE (opcode 0x0907). -/
structure TimeOutputWriteP where
  output : Nat
  mode : Nat
  group : Nat
  flags : Nat
  startS : Nat
  startNs : Nat
  period : Nat
  width : Nat
  deriving DecidableEq, Repr

/-- Parameters of LLDP_CONFIG (opcode 0x0909). -/
structure LldpConfigP where
  port : Nat
  flags : Nat
  txInterval : Nat
  systemName : Bytes
  deriving DecidableEq, Repr

/-- Parameters of OPTICS_SLOT_WRITE (opcode 0x090C). -/
structure OpticsSlotWriteP where
  slot : Nat
  controller : Nat
  muxAddr : Nat
  muxChannel : Nat
  firstLane : Nat
  lanes : Nat
  deriving DecidableEq, Repr

/-- Parameters of HW_RETIRE (opcode 0x0C04). -/
structure HwRetireP where
  kind : Nat
  flags : Nat
  index : Nat
  flashOk : Bool
  deriving DecidableEq, Repr

/-- A cell send: the port's octal group, and whether an uncorrectable Basin error takes the data cell that is about to go (R326). -/
structure CellSend where
  group : Nat
  basinError : Bool
  deriving DecidableEq, Repr

/-- What a REQUEST reports of a VOQ (R318): the cells of its backlog, and those of its head frame. -/
structure Backlog where
  cells : Nat
  head : Nat
  deriving DecidableEq, Repr

/-- A write of INT_STATUS: the ones that software writes, and the sources whose events fall into the same clock (R12, R494). -/
structure StatusClear where
  mask : Nat
  sets : Nat
  deriving DecidableEq, Repr

/-- The commands. -/
inductive Instr where
  /-- PARSE_STATE_WRITE (R50): Writes one state of the shadow parse graph. -/
  | parseStateWrite (h : Ocf) (pipeMask : Nat) (state : Nat) (entry : ParseState)
  /-- PARSE_GRAPH_COMMIT (R51): Checks the shadow graph and makes it active between two frames. -/
  | parseGraphCommit (h : Ocf) (pipeMask : Nat)
  /-- PARSE_STATE_READ (R661): Reads one state of the active or shadow graph. -/
  | parseStateRead (h : Ocf) (pipe : Nat) (state : Nat) (shadow : Nat)
  /-- KEY_PROFILE_WRITE (R76): Writes a key profile, refusing a width change under an enabled search profile. -/
  | keyProfileWrite (h : Ocf) (pipeMask : Nat) (profile : Nat) (selectors : List Nat)
  /-- SEARCH_PROFILE_WRITE (R76): Writes a search profile after width and bank checks. -/
  | searchProfileWrite (h : Ocf) (pipeMask : Nat) (profile : Nat) (word : Nat)
  /-- PORT_CLASS_MAP_WRITE (R71): Writes a port's 16-entry class map. -/
  | portClassMapWrite (h : Ocf) (port : Nat) (map : List Nat)
  /-- PORT_DEFAULTS_WRITE (R89): Writes a port's miss action, default zone and exception dispositions. -/
  | portDefaultsWrite (h : Ocf) (p : PortDefaultsWriteP)
  /-- CONTROL_MATCH_WRITE (R67): Writes control match entries 4 to 7. -/
  | controlMatchWrite (h : Ocf) (p : ControlMatchWriteP)
  /-- BANK_MODE_WRITE (R75): Sets a TCAM bank pair to 320-bit or 640-bit mode. -/
  | bankModeWrite (h : Ocf) (pipeMask : Nat) (pair : Nat) (mode : Nat)
  /-- LIST_CREATE (R82): Creates a rule list on contiguous banks. -/
  | listCreate (h : Ocf) (p : ListCreateP)
  /-- LIST_DELETE (R661): Invalidates every entry of a list and frees its banks. -/
  | listDelete (h : Ocf) (pipeMask : Nat) (list : Nat)
  /-- RULE_INSERT (R84): Inserts a rule in each named pipeline by the move procedure and returns its handle. -/
  | ruleInsert (h : Ocf) (p : RuleInsertP)
  /-- RULE_DELETE (R85): Deletes a rule and returns its counters per pipeline. -/
  | ruleDelete (h : Ocf) (handle : Nat)
  /-- RULE_ACTION_WRITE (R80): Replaces a rule's action word in one clock. -/
  | ruleActionWrite (h : Ocf) (handle : Nat) (action : Nat)
  /-- RULE_READ (R98): Returns a rule's value, mask, action, address and counters. -/
  | ruleRead (h : Ocf) (handle : Nat) (pipe : Nat)
  /-- LIST_RESPACE (R83): Rebuilds a list with hole spacing S. -/
  | listRespace (h : Ocf) (pipeMask : Nat) (list : Nat) (spacing : Nat)
  /-- TCAM_RAW_WRITE (R79): Writes an entry of a raw bank at an address. -/
  | tcamRawWrite (h : Ocf) (p : TcamRawWriteP)
  /-- TCAM_RAW_READ (R100): Reads a TCAM entry and its counters by address. -/
  | tcamRawRead (h : Ocf) (pipe : Nat) (addr : Nat)
  /-- RECIRC_CONFIG (R46): Sets a pipeline's recirculation slot reservation. -/
  | recircConfig (h : Ocf) (pipeMask : Nat) (slots : Nat)
  /-- MIRROR_SESSION_WRITE (R90): Writes a mirror session. -/
  | mirrorSessionWrite (h : Ocf) (p : MirrorSessionWriteP)
  /-- PARSE_COUNTERS_READ (R65): Returns a port's exception counters, clearing them with CLEAR. -/
  | parseCountersRead (h : Ocf) (port : Nat) (clear : Nat)
  /-- PARTITION_CREATE (R103): Creates a flow partition and returns its BASE. -/
  | partitionCreate (h : Ocf) (p : PartitionCreateP)
  /-- PARTITION_DELETE (R154): Deletes every record of a partition and frees its range, completing by event. -/
  | partitionDelete (h : Ocf) (partition : Nat)
  /-- PARTITION_READ (R103): Returns a partition's attributes, BASE, occupancy and achieved sweep period. -/
  | partitionRead (h : Ocf) (partition : Nat)
  /-- FLOW_INSERT (R165): Inserts or updates a flow record. -/
  | flowInsert (h : Ocf) (b : FlowBlock)
  /-- FLOW_UPDATE (R165): Replaces given state fields of an existing record. -/
  | flowUpdate (h : Ocf) (b : FlowBlock)
  /-- FLOW_READ (R152): Returns a record under its locks, settling the log with SETTLE. -/
  | flowRead (h : Ocf) (key : KeyDesc) (settle : Nat)
  /-- FLOW_DELETE (R154): Deletes a record and returns its exact final image. -/
  | flowDelete (h : Ocf) (key : KeyDesc)
  /-- FLOW_SEARCH_NEXT (R166): Returns up to 8 records after a cursor that match a filter. -/
  | flowSearchNext (h : Ocf) (p : FlowSearchNextP)
  /-- FLOW_FLUSH (R167): Deletes matching records created by T0, completing by event with the count. -/
  | flowFlush (h : Ocf) (p : FlowFlushP)
  /-- AGE_CLASS_WRITE (R155): Sets an aging class timeout. -/
  | ageClassWrite (h : Ocf) (cls : Nat) (timeout : Nat)
  /-- SWEEP_CONFIG (R157): Sets a partition's SWEEP_PERIOD. -/
  | sweepConfig (h : Ocf) (partition : Nat) (sweepPeriod : Nat)
  /-- FLOW_TABLE_STATUS (R158): Returns flow-store occupancies, hit counts and starvation counts per region. -/
  | flowTableStatus (h : Ocf)
  /-- FLOW_TEMPLATE_WRITE (R169): Writes a flow template, taking effect region by region. -/
  | flowTemplateWrite (h : Ocf) (t : TemplateP)
  /-- FLOW_TEMPLATE_READ (R168): Returns a flow template. -/
  | flowTemplateRead (h : Ocf) (template : Nat)
  /-- NAT_POOL_WRITE (R199): Writes a NAT pool and fills its rings, completing by event. -/
  | natPoolWrite (h : Ocf) (p : NatPoolWriteP)
  /-- NAT_POOL_ADDR_WRITE (R198): Writes up to 64 pool addresses. -/
  | natPoolAddrWrite (h : Ocf) (p : NatPoolAddrWriteP)
  /-- NAT_POOL_DELETE (R203): Deletes a NAT pool without allocated ports. -/
  | natPoolDelete (h : Ocf) (pool : Nat)
  /-- NAT_POOL_STATUS (R203): Returns free ports, ALLOCATED, NAT_LEAKED and NAT_EXHAUSTED per region. -/
  | natPoolStatus (h : Ocf) (pool : Nat)
  /-- LB_POOL_WRITE (R205): Writes a load-balancer pool and starts a new health period. -/
  | lbPoolWrite (h : Ocf) (p : LbPoolWriteP)
  /-- LB_BACKEND_WRITE (R206): Writes a backend, with ADDR and PORT effective at once. -/
  | lbBackendWrite (h : Ocf) (p : LbBackendWriteP)
  /-- LB_POOL_COMMIT (R208): Builds the shadow slot table and activates it region by region. -/
  | lbPoolCommit (h : Ocf) (pool : Nat)
  /-- LB_POOL_READ (R205): Returns members, weights, slot counts and health figures. -/
  | lbPoolRead (h : Ocf) (pool : Nat)
  /-- GROUP_HOME_WRITE (R220): Schedules replacement of HOME_MAP entries at an estate time. -/
  | groupHomeWrite (h : Ocf) (p : GroupHomeWriteP)
  /-- EXPORT_PROFILE_WRITE (R222): Writes an IPFIX export profile. -/
  | exportProfileWrite (h : Ocf) (p : ExportProfileWriteP)
  /-- EXPORT_STATUS (R227): Returns export queue and message counts per profile. -/
  | exportStatus (h : Ocf) (profile : Nat)
  /-- SERVICE_COUNTERS_READ (R185): Returns a template's service counters. -/
  | serviceCountersRead (h : Ocf) (template : Nat) (region : Nat)
  /-- VLAN_WRITE (R229): Writes a VLAN entry. -/
  | vlanWrite (h : Ocf) (vid : Nat) (entry : Nat)
  /-- PORT_L2_WRITE (R253): Sets a port's DEFAULT_VID and LEARN_MODE. -/
  | portL2Write (h : Ocf) (port : Nat) (defaultVid : Nat) (learnMode : Nat)
  /-- L2_TABLE_CONFIG (R238): Sets seeds, AGE_TIME and the flap and conflict parameters. -/
  | l2TableConfig (h : Ocf) (p : L2TableConfigP)
  /-- L2_ENTRY_WRITE (R237): Inserts or updates a MAC entry through the learn arbiter. -/
  | l2EntryWrite (h : Ocf) (p : L2EntryWriteP)
  /-- L2_ENTRY_DELETE (R258): Deletes a MAC entry through the learn arbiter. -/
  | l2EntryDelete (h : Ocf) (fid : Nat) (mac : Nat)
  /-- L2_ENTRY_READ (R273): Returns a MAC entry as it stands after earlier operations. -/
  | l2EntryRead (h : Ocf) (fid : Nat) (mac : Nat)
  /-- L2_SEARCH_NEXT (R274): Returns up to 16 MAC entries after a cursor. -/
  | l2SearchNext (h : Ocf) (cursor : Nat) (filter : FlushFilter)
  /-- L2_FLUSH (R275): Deletes matching MAC entries stamped by T0, bucket by bucket, completing by event. -/
  | l2Flush (h : Ocf) (filter : FlushFilter)
  /-- L2_UNPIN (R263): Clears PINNED on an entry and frees its tracker entry. -/
  | l2Unpin (h : Ocf) (fid : Nat) (mac : Nat)
  /-- LAG_WRITE (R251): Writes a LAG's members. -/
  | lagWrite (h : Ocf) (lag : Nat) (members : List Nat)
  /-- MCAST_GROUP_WRITE (R309): Writes a multicast group. -/
  | mcastGroupWrite (h : Ocf) (group : Nat) (members : McastMembers)
  /-- L2_LEARN_SHARE_CONFIG (R264): Sets INDEPENDENT or EXCHANGED learning and its group and ports. -/
  | l2LearnShareConfig (h : Ocf) (p : L2LearnShareConfigP)
  /-- DEVICE_REACH_WRITE (R252): Writes device-reach table entries. -/
  | deviceReachWrite (h : Ocf) (device : Nat) (destType : Nat) (dest : Nat)
  /-- L2_LEARN_NOTIFY_READ (R253): Returns up to 32 learn notifications. -/
  | l2LearnNotifyRead (h : Ocf) (count : Nat)
  /-- L2_STATUS (R257): Returns MAC occupancy and learning counters. -/
  | l2Status (h : Ocf)
  /-- LEARN_MESSAGE (R265): A peer learning message, authenticated with the estate-domain key, whose records are applied without reply. -/
  | learnMessage (h : Ocf) (m : LearnMessageP)
  /-- ROUTER_MAC_WRITE (R230): Writes a router MAC address. -/
  | routerMacWrite (h : Ocf) (index : Nat) (valid : Nat) (mac : Nat)
  /-- VRF_WRITE (R232): Sets a VRF's MISS_NEXTHOP and TTL_REASON. -/
  | vrfWrite (h : Ocf) (p : VrfWriteP)
  /-- NEXTHOP_WRITE (R247): Writes a next hop. -/
  | nexthopWrite (h : Ocf) (p : NexthopWriteP)
  /-- ECMP_MEMBERS_WRITE (R248): Writes ECMP members, which must be UNICAST next hops. -/
  | ecmpMembersWrite (h : Ocf) (base : Nat) (members : List Nat)
  /-- HOST_ENTRY_WRITE (R237): Inserts or updates a host entry. -/
  | hostEntryWrite (h : Ocf) (p : HostEntryWriteP)
  /-- HOST_ENTRY_DELETE (R236): Deletes a host entry. -/
  | hostEntryDelete (h : Ocf) (vrf : Nat) (family : Nat) (addr : Nat)
  /-- HOST_ENTRY_READ (R273): Returns a host entry. -/
  | hostEntryRead (h : Ocf) (vrf : Nat) (family : Nat) (addr : Nat)
  /-- HOST_SEARCH_NEXT (R274): Returns up to 16 host entries after a cursor, clearing HIT with CLEAR_HIT. -/
  | hostSearchNext (h : Ocf) (cursor : Nat) (clearHit : Nat)
  /-- LPM_ROUTE_ADD (R245): Adds up to 256 prefixes after checking the batch whole. -/
  | lpmRouteAdd (h : Ocf) (vrf : Nat) (routes : Routes)
  /-- LPM_ROUTE_REPLACE (R245): Changes the next hop of existing prefixes. -/
  | lpmRouteReplace (h : Ocf) (vrf : Nat) (routes : Routes)
  /-- LPM_ROUTE_DELETE (R246): Deletes prefixes. -/
  | lpmRouteDelete (h : Ocf) (vrf : Nat) (routes : Routes)
  /-- LPM_ROUTE_NEXT (R243): Walks a VRF's prefixes in address order with a cursor. -/
  | lpmRouteNext (h : Ocf) (vrf : Nat) (cursor : Nat) (count : Nat)
  /-- L3_STATUS (R243): Returns prefix counts, host occupancy and counters. -/
  | l3Status (h : Ocf)
  /-- BUF_PROFILE_WRITE (R327): Writes a shadow queue profile. -/
  | bufProfileWrite (h : Ocf) (p : BufProfileWriteP)
  /-- VOQ_PROFILE_MAP (R327): Assigns a profile to a range of VOQs in the shadow. -/
  | voqProfileMap (h : Ocf) (start : Nat) (count : Nat) (profile : Nat)
  /-- BUF_REGION_WRITE (R327): Writes shadow region pool sizes. -/
  | bufRegionWrite (h : Ocf) (p : BufRegionWriteP)
  /-- PORT_PFC_WRITE (R297): Writes a port's shadow pause or PFC settings. -/
  | portPfcWrite (h : Ocf) (p : PortPfcWriteP)
  /-- PORT_LINGER_WRITE (R303): Writes a port's shadow LINGER time. -/
  | portLingerWrite (h : Ocf) (port : Nat) (linger : Nat)
  /-- BUF_COMMIT (R289): Checks the shadow buffer configuration and applies it region by region. -/
  | bufCommit (h : Ocf)
  /-- VOQ_STATUS (R292): Returns VOQ state, cells and spilled pages. -/
  | voqStatus (h : Ocf) (region : Nat) (voq : Nat)
  /-- VOQ_COUNTERS_READ (R288): Returns VOQ admission and spill counters, clearing them with CLEAR. -/
  | voqCountersRead (h : Ocf) (region : Nat) (voq : Nat) (clear : Nat)
  /-- BUF_STATUS (R289): Returns pool use and per-port discard counters. -/
  | bufStatus (h : Ocf)
  /-- FABRIC_CONFIG (R329): Sets the device's fabric slot, group and grant parameters after the receive-pool check. -/
  | fabricConfig (h : Ocf) (p : FabricConfigP)
  /-- FABRIC_LINK_WRITE (R310): Makes an octal group a Dvorob Link port or returns it to Ethernet. -/
  | fabricLinkWrite (h : Ocf) (p : FabricLinkWriteP)
  /-- FABRIC_STATUS (R317): Returns fabric ports, neighbours and reachability. -/
  | fabricStatus (h : Ocf)
  /-- FABRIC_COUNTERS_READ (R325): Returns fabric replay, loss and poison counters. -/
  | fabricCountersRead (h : Ocf) (clear : Nat)
  /-- PORT_SCHED_WRITE (R334): Writes a port's strict mask, weights, LEN_ADJ, port shaper and latency threshold. -/
  | portSchedWrite (h : Ocf) (p : PortSchedWriteP)
  /-- QUEUE_SHAPER_WRITE (R341): Writes an egress queue's shaper. -/
  | queueShaperWrite (h : Ocf) (p : QueueShaperWriteP)
  /-- GATE_LIST_WRITE (R353): Writes entries of a port's administrative gate list. -/
  | gateListWrite (h : Ocf) (port : Nat) (start : Nat) (entries : GateEntries)
  /-- GATE_CONFIG_WRITE (R355): Sets a pending gate configuration and its change instant, or opens every gate. -/
  | gateConfigWrite (h : Ocf) (p : GateConfigWriteP)
  /-- GATE_STATUS (R359): Returns gate list parameters, W_t and gate counters. -/
  | gateStatus (h : Ocf) (port : Nat)
  /-- EGRESS_COUNTERS_READ (R363): Returns egress queue counters, clearing them with CLEAR. -/
  | egressCountersRead (h : Ocf) (port : Nat) (clear : Nat)
  /-- POLICER_WRITE (R350): Writes a policer and fills or keeps its buckets. -/
  | policerWrite (h : Ocf) (p : PolicerWriteP)
  /-- POLICER_READ (R352): Returns a policer's configuration, buckets and counters, clearing with CLEAR. -/
  | policerRead (h : Ocf) (region : Nat) (policer : Nat) (clear : Nat)
  /-- HWM_READ (R362): Returns high-water marks, clearing them with CLEAR. -/
  | hwmRead (h : Ocf) (p : HwmReadP)
  /-- HBM_BUDGET_WRITE (R377): Sets the five HBM shares and AGE_LIMIT from the next period boundary. -/
  | hbmBudgetWrite (h : Ocf) (p : HbmBudgetWriteP)
  /-- HBM_BUDGET_READ (R378): Returns shares, budgets in force and budget history. -/
  | hbmBudgetRead (h : Ocf)
  /-- HBM_STATUS (R396): Returns stack state, error counts and spill pages available. -/
  | hbmStatus (h : Ocf)
  /-- HBM_SCRUB_CONFIG (R393): Sets SCRUB_PERIOD. -/
  | hbmScrubConfig (h : Ocf) (scrubPeriod : Nat)
  /-- HBM_PC_RETIRE (R394): Retires a pseudo-channel, completing by event. -/
  | hbmPcRetire (h : Ocf) (pc : Nat)
  /-- SYS_IDENTITY (R416): Returns the device identity, accepted with EPOCH 0. -/
  | sysIdentity (h : Ocf)
  /-- SYS_STATUS (R409): Returns mode, readiness, command counters, windows and floors. -/
  | sysStatus (h : Ocf)
  /-- SYS_ECHO (R404): Returns its parameters with no effect. -/
  | sysEcho (h : Ocf)
  /-- SYS_GROUP_OPEN (R426): Opens a commit group for its sender. -/
  | sysGroupOpen (h : Ocf) (timeout : Nat)
  /-- SYS_GROUP_COMMIT (R429): Rechecks and applies a group's members in staging order. -/
  | sysGroupCommit (h : Ocf)
  /-- SYS_GROUP_ABORT (R431): Discards a commit group. -/
  | sysGroupAbort (h : Ocf)
  /-- SYS_COMPLETION_ACK (R424): Acknowledges completions by TAG, stopping their resends. -/
  | sysCompletionAck (h : Ocf) (tags : List Nat)
  /-- SYS_PENDING_READ (R422): Returns the sender's commands that replied 0x0001. -/
  | sysPendingRead (h : Ocf)
  /-- SYS_INTAKE_CONFIG (R433): Sets the station and group MAC and REPLY_TC as a persistent setting. -/
  | sysIntakeConfig (h : Ocf) (p : SysIntakeConfigP)
  /-- SYS_DEVICE_ID_WRITE (R605): Sets the device ID at once as a persistent setting. -/
  | sysDeviceIdWrite (h : Ocf) (deviceId : Nat) (flashOk : Bool)
  /-- SYS_RESET (R434): Replies and within 10 ms resets the device as SYSRST_N does. -/
  | sysReset (h : Ocf) (scope : Nat)
  /-- PORT_CONFIG (R438): Configures, changes or removes a front port. -/
  | portConfig (h : Ocf) (p : PortConfigP)
  /-- PORT_STATUS (R437): Returns link, mode, training, signal detect and FEC counts. -/
  | portStatus (h : Ocf) (port : Nat)
  /-- PORT_COUNTERS_READ (R658): Returns port counters, clearing them with CLEAR. -/
  | portCountersRead (h : Ocf) (port : Nat) (clear : Nat)
  /-- PORT_ADMIN (R660): Sets a port's ADMIN_UP, holding its link down or letting it train. -/
  | portAdmin (h : Ocf) (port : Nat) (adminUp : Nat)
  /-- PORT_OPTICS_ACCESS (R597): Reads or writes CMIS optics bytes over an I2C controller. -/
  | portOpticsAccess (h : Ocf) (p : PortOpticsAccessP)
  /-- DIAG_PRBS (R439): Generates or checks a PRBS pattern on a port's lanes. -/
  | diagPrbs (h : Ocf) (p : DiagPrbsP)
  /-- DIAG_LOOPBACK (R439): Sets a port's loopback mode. -/
  | diagLoopback (h : Ocf) (port : Nat) (mode : Nat)
  /-- DIAG_EYE_SCAN (R439): Returns eye height and width of a lane. -/
  | diagEyeScan (h : Ocf) (port : Nat) (lane : Nat) (measured : List Nat)
  /-- DIAG_REG_READ (R439): Returns register values from BAR 0. -/
  | diagRegRead (h : Ocf) (addr : Nat) (count : Nat)
  /-- DIAG_ERROR_INJECT (R626): Injects errors at a named hardware cell in Service mode. -/
  | diagErrorInject (h : Ocf) (p : DiagErrorInjectP)
  /-- DIAG_MEM_TEST (R439): Tests a named memory in Service mode, completing with failing addresses. -/
  | diagMemTest (h : Ocf) (memory : Nat) (failing : List Nat)
  /-- SEC_KEY_WRITE (R444): Writes a wrapped key to a slot and to flash. -/
  | secKeyWrite (h : Ocf) (p : SecKeyWriteP)
  /-- SEC_KEY_CLEAR (R446): Empties a key slot. -/
  | secKeyClear (h : Ocf) (role : Nat) (keyId : Nat) (flashOk : Bool)
  /-- SEC_KEY_STATUS (R447): Returns slot states, check values and MAC failure counts. -/
  | secKeyStatus (h : Ocf)
  /-- SEC_HOST_ACCESS (R441): Sets HOST_ACCESS as a persistent setting. -/
  | secHostAccess (h : Ocf) (hostAccess : Nat) (flashOk : Bool)
  /-- SEC_LIFECYCLE_SET (R451): Audits, burns the life-cycle fuses, replies and resets the device. -/
  | secLifecycleSet (h : Ocf) (target : Nat) (serial : Nat) (burnOk : Bool)
  /-- SEC_FW_WRITE (R455): Writes the image copy that is not running. -/
  | secFwWrite (h : Ocf) (p : SecFwWriteP)
  /-- SEC_FW_ACTIVATE (R455): Verifies the inactive copy, marks it preferred and optionally raises the rollback floor. -/
  | secFwActivate (h : Ocf) (raiseFloor : Nat) (flashOk : Bool)
  /-- SEC_FW_STATUS (R455): Returns image headers, verification and floor. -/
  | secFwStatus (h : Ocf)
  /-- AUDIT_READ (R459): Returns up to 64 audit entries and the head LINK. -/
  | auditRead (h : Ocf) (from_ : Nat) (count : Nat)
  /-- AUDIT_ACK (R459): Marks audit entries as exported. -/
  | auditAck (h : Ocf) (upto : Nat)
  /-- AUDIT_CONFIG (R460): Sets AUDIT_HOLD as a persistent setting. -/
  | auditConfig (h : Ocf) (auditHold : Nat) (flashOk : Bool)
  /-- JOB_SUBMIT (R537): Creates a host job work item and replies 0x0001 with its handle. -/
  | jobSubmit (h : Ocf) (p : JobSubmitP) (cmd : Instr)
  /-- JOB_CANCEL (R540): Cancels a host job under R527. -/
  | jobCancel (h : Ocf) (handle : Nat) (gen : Nat)
  /-- JOB_STATUS (R520): Returns a work-item descriptor. -/
  | jobStatus (h : Ocf) (handle : Nat) (gen : Nat)
  /-- GEYSER_CLASS_WRITE (R531): Sets an energy class's COST and MIN_SHARE from the next period. -/
  | geyserClassWrite (h : Ocf) (cls : Nat) (cost : Nat) (minShare : Nat)
  /-- GEYSER_ACTIVITY_WRITE (R533): Sets an activity's TIME_BUDGET and ITEM_LIMIT from the next period. -/
  | geyserActivityWrite (h : Ocf) (activity : Nat) (timeBudget : Nat) (itemLimit : Nat)
  /-- GEYSER_STATUS (R529): Returns Geyser levels, energy balance and activity use. -/
  | geyserStatus (h : Ocf)
  /-- FUM_STATUS (R517): Returns Fumarole engine states and machine-check records. -/
  | fumStatus (h : Ocf)
  /-- PWR_MODE_SET (R543): Starts a mode transition of Table 13-2 after its reply. -/
  | pwrModeSet (h : Ocf) (mode : Nat) (profile : Nat) (drain : Nat)
  /-- PWR_CAP_SET (R554): Sets the operator's power cap as a persistent setting. -/
  | pwrCapSet (h : Ocf) (cap : Nat) (flashOk : Bool)
  /-- PWR_LIMITS_SET (R553): Sets the installer's floor, ceiling and thermal and grant limits. -/
  | pwrLimitsSet (h : Ocf) (p : PwrLimitsSetP)
  /-- PWR_REDUCED_PROFILE_WRITE (R563): Writes a Reduced profile after parking checks. -/
  | pwrReducedProfileWrite (h : Ocf) (p : PwrReducedProfileWriteP)
  /-- PWR_SCHEDULE_WRITE (R571): Writes a mode schedule entry. -/
  | pwrScheduleWrite (h : Ocf) (p : PwrScheduleWriteP)
  /-- PWR_WAKE_CONFIG (R569): Sets which event inputs are wake sources. -/
  | pwrWakeConfig (h : Ocf) (wakeInputs : Nat)
  /-- PWR_STATUS (R548): Returns power, thermal, mode and schedule state. -/
  | pwrStatus (h : Ocf)
  /-- TIME_SOURCE_CONFIG (R579): Sets the phase source list, FREQ and time thresholds. -/
  | timeSourceConfig (h : Ocf) (p : TimeSourceConfigP)
  /-- TIME_SET (R584): Sets estate time, UTC_OFFSET and leap flags by step or slew. -/
  | timeSet (h : Ocf) (p : TimeSetP)
  /-- TIME_STATUS (R581): Returns time state, sources and step history. -/
  | timeStatus (h : Ocf)
  /-- PTP_CLOCK_CONFIG (R589): Sets the PTP clock type and instance parameters. -/
  | ptpClockConfig (h : Ocf) (p : PtpClockConfigP)
  /-- PTP_PORT_CONFIG (R591): Sets a port's PTP mode, transport and intervals. -/
  | ptpPortConfig (h : Ocf) (p : PtpPortConfigP)
  /-- PTP_STATUS (R590): Returns PTP data sets and port states. -/
  | ptpStatus (h : Ocf)
  /-- TIME_OUTPUT_WRITE (R588): Configures an event output or the 1PPS output. -/
  | timeOutputWrite (h : Ocf) (p : TimeOutputWriteP)
  /-- EVENT_STAMP_READ (R587): Returns each input's latest stamps without changing the queue. -/
  | eventStampRead (h : Ocf)
  /-- LLDP_CONFIG (R595): Sets a port's LLDP transmit, receive and interval. -/
  | lldpConfig (h : Ocf) (p : LldpConfigP)
  /-- DISCOVERY_READ (R594): Returns entries of a discovery table. -/
  | discoveryRead (h : Ocf) (table : Nat) (from_ : Nat) (count : Nat)
  /-- DOMAIN_CONFIG (R600): Sets DOMAIN_ID, MEMBER_TTL and HOSTLESS. -/
  | domainConfig (h : Ocf) (domainId : Nat) (memberTtl : Nat) (hostless : Nat)
  /-- OPTICS_SLOT_WRITE (R601): Defines an optics slot. -/
  | opticsSlotWrite (h : Ocf) (p : OpticsSlotWriteP)
  /-- OPTICS_STATUS (R597): Returns optics slot presence and module state. -/
  | opticsStatus (h : Ocf)
  /-- FAULT_STATUS (R614): Returns hardware cell error counts, retirements and readiness. -/
  | faultStatus (h : Ocf)
  /-- FAULT_POLICY_WRITE (R614): Sets a kind's permanent-fault threshold N in W. -/
  | faultPolicyWrite (h : Ocf) (kind : Nat) (n : Nat) (windowMs : Nat)
  /-- FAULT_LOG_READ (R624): Returns fault log entries. -/
  | faultLogRead (h : Ocf) (from_ : Nat) (count : Nat)
  /-- HW_RETIRE (R625): Retires a named hardware cell, completing by event. -/
  | hwRetire (h : Ocf) (p : HwRetireP)
  /-- FAULT_RECORD_CLEAR (R625): Clears the retirement record at the next reset, in FACTORY or RETURNED only. -/
  | faultRecordClear (h : Ocf)
  /-- SYSRST_N_ASSERT (R603): A low pulse on SYSRST_N of 1 µs or longer causes a warm reset with the scope of Table 15-2; a shorter pulse is ignored. -/
  | sysrstNAssert (ns : Nat)
  /-- POWER_GOOD_FALL (R603): A power-good input that falls during operation resets the device as PORST_N does. -/
  | powerGoodFall (input : Nat)
  /-- WARM_RESET (R604): A warm reset from a command, a life-cycle change, a Service-mode exit, a failed wake or a machine-check restart resets the items of Table 15-2 and keeps the rest. -/
  | warmReset (cause : Nat)
  /-- BOOT_IMAGE_VERIFY (R454): The boot ROM finishes reading an image copy and verifies it under R453; it boots the preferred copy, else the other, else stays in Reset. -/
  | bootImageVerify (flashResponds : Bool)
  /-- BOOT_FIRMWARE_START (R605): Firmware starts on core 0, sets EPOCH, rebuilds the audit ring, applies the persistent settings and begins powering domains. -/
  | bootFirmwareStart (flashOk : Bool) (readBackOk : Bool)
  /-- DOMAIN_POWER_GOOD (R546): A domain reports power good, and its units begin to come up. -/
  | domainPowerGood (domain : Nat)
  /-- DOMAIN_POWER_TIMEOUT (R546): A domain that does not report power good within 200 µs of its ramp start is handled as a fault. -/
  | domainPowerTimeout (domain : Nat)
  /-- FUNCTION_READY (R612): A function reports ready or failed, which sets its RDY bits and raises source 512 + f. -/
  | functionReady (fn : Nat) (ok : Bool)
  /-- FRAME_ARRIVAL (R277): A frame received on a port passes or fails its FCS and length check; a passing frame becomes a stored frame. -/
  | frameArrival (port : Nat) (data : Bytes) (fcsOk : Bool)
  /-- PFC_REFRESH (R298): Every 32,768 quanta while U(p, k) stays at or above XON, the device repeats the PFC or pause frame. -/
  | pfcRefresh (port : Nat) (prio : Nat)
  /-- PACKET_SLOT_GRANT (R47): An ingress pipeline grants a packet slot to a waiting requester and starts a pass of that frame. -/
  | packetSlotGrant (pipe : Nat) (parityError : Bool)
  /-- OCF_INTAKE (R409): An Ohmed command frame enters the command intake, or is discarded and counted in INTAKE_DROPPED when the intake is full. -/
  | ocfIntake (opcode : Nat) (f : Ocf)
  /-- FLOW_RESULT_RETURN (R175): A flow result reaches the ingress pipeline and is combined with the final-pass action and the forwarding result. -/
  | flowResultReturn (pipe : Nat) (id : Nat)
  /-- FLOW_RESULT_DEADLINE (R35): A flow result that has not returned within 4 µs is treated as state starvation with cause SC_DEADLINE. -/
  | flowResultDeadline (pipe : Nat) (id : Nat)
  /-- DESCRIPTOR_RELEASE (R37): An ingress pipeline releases a descriptor to the traffic manager in arrival order per ingress port. -/
  | descriptorRelease (pipe : Nat) (port : Nat)
  /-- FLOW_OP_ACCEPT (R150): A home-region flow engine accepts an operation once none of its locks is held, probes Tarn and the overflow store, and reads buckets as needed. -/
  | flowOpAccept (region : Nat) (ecc : EccOutcome)
  /-- DEFERRED_OP_RUN (R184): The flow engine takes the head of the deferred queue and runs it as a lookup-or-create, or discards it as expired. -/
  | deferredOpRun (region : Nat)
  /-- SINTER_IDLE_WRITEBACK (R140): A Sinter entry idle for 10 ms is written back by the routes of R141. -/
  | sinterIdleWriteback (region : Nat) (locator : Nat)
  /-- SINTER_LOG_REPLAY (R145): The flow engine replays the next log entry in LOG_SEQ order, adding its deltas or discarding it as an integrity error. -/
  | sinterLogReplay (region : Nat) (ecc : EccOutcome)
  /-- FLOW_AGING_SWEEP_VISIT (R157): A sweep work item visits a bucket or overflow entry, writes back Sinter, expires records and emits interim export records. -/
  | flowAgingSweepVisit (region : Nat) (partition : Nat) (overflow : Bool) (index : Nat)
  /-- RELOCATION_JOB (R127): A relocation job moves a stash record into its bucket, displacing up to 32 records along a locked path. -/
  | relocationJob (region : Nat)
  /-- TARN_ONLY_MIGRATE (R163): Once both HBM controllers are ready, firmware migrates each Tarn-only record into Deep Lake. -/
  | tarnOnlyMigrate (region : Nat)
  /-- NAT_BUFFER_REFILL (R200): A region's NAT buffer below 32 entries is refilled with 16 entries from its ring. -/
  | natBufferRefill (region : Nat) (pool : Nat) (ecc0 : EccOutcome) (ecc1 : EccOutcome)
  /-- NAT_RING_FILL (R199): NAT_POOL_WRITE's fill writes each region's ring, completing by event. -/
  | natRingFill (pool : Nat)
  /-- LB_HEALTH_PERIOD (R213): Once per HEALTH_PERIOD a work item reads and clears the health accumulators and adapts member weights. -/
  | lbHealthPeriod (pool : Nat)
  /-- GROUP_HOME_SWITCH (R220): At the estate time given by GROUP_HOME_WRITE, the device replaces its HOME_MAP entries. -/
  | groupHomeSwitch (partition : Nat)
  /-- EXPORT_MESSAGE_FLUSH (R227): FLUSH_DELAY after a message's first record, or when the next record would exceed MTU, the export message ends. -/
  | exportMessageFlush (profile : Nat)
  /-- EXPORT_MESSAGE_SEND (R228): An export message is sent when its profile's token bucket allows, with its header fields set. -/
  | exportMessageSend (profile : Nat) (lost : List Nat)
  /-- TEMPLATE_REFRESH (R228): Every TEMPLATE_REFRESH the profile sends its template set. -/
  | templateRefresh (profile : Nat)
  /-- FLAP_WINDOW_EXPIRE (R261): A move-tracker entry whose FLAP_WINDOW ends without pinning is freed. -/
  | flapWindowExpire (fid : Nat) (mac : Nat)
  /-- PIN_HOLD_EXPIRE (R263): PINNED clears PIN_HOLD after it was set, and the tracker entry is freed. -/
  | pinHoldExpire (fid : Nat) (mac : Nat)
  /-- MAC_AGING_VISIT (R260): The MAC aging sweep visits an entry, merges and clears HIT, and deletes it at AGE_CNT 4. -/
  | macAgingVisit (position : Nat)
  /-- CROSSBAR_GRANT (R27): The crossbar grants a cell to an egress pipeline that has a free egress cell credit. -/
  | crossbarGrant (pipe : Nat)
  /-- EGRESS_DECISION (R331): An egress pipeline makes one scheduling decision per clock for one eligible port, by strict priority and virtual time. -/
  | egressDecision (pipe : Nat)
  /-- REPLICATION_TAKE (R332): The replication engine takes a head frame from a CLASS 1 VOQ and places copies in member ports' replication queues. -/
  | replicationTake (pipe : Nat)
  /-- FRAME_TRANSMIT_COMPLETE (R280): A frame's last bit leaves the port and its cells are released from the VOQ's charge. -/
  | frameTransmitComplete (port : Nat)
  /-- SHAPER_SLOT_DUE (R343): A calendar-wheel slot falls due; coarse shapers move to fine slots and fine shapers become conforming. -/
  | shaperSlotDue (pipe : Nat) (coarse : Bool) (slot : Nat)
  /-- GATE_TRANSITION (R357): A gate list entry boundary opens or closes gates at the first clock at or after its instant. -/
  | gateTransition (port : Nat)
  /-- GATE_CHANGE_INSTANT (R355): At the change instant the pending gate list takes effect at entry 0 and raises source 246. -/
  | gateChangeInstant (port : Nat)
  /-- PAUSE_FRAME_RECEIVE (R301): A received pause or PFC frame stops service of the paused (port, TC). -/
  | pauseFrameReceive (port : Nat) (pfc : Bool) (enable : Nat) (quanta : List Nat)
  /-- PAUSE_EXPIRE (R301): The quanta of a received pause run out and service of the (port, TC) resumes. -/
  | pauseExpire (port : Nat) (tc : Nat)
  /-- PFC_WATCHDOG_EXPIRE (R302): A (port, TC) paused without a break for WATCHDOG ms has its frames discarded until the pause ends. -/
  | pfcWatchdogExpire (port : Nat) (tc : Nat)
  /-- LINK_DOWN (R303): A front port's link goes down; its VOQs enter hold, LAG live lists drop it and a PORT_STATE cell is sent. -/
  | linkDown (port : Nat)
  /-- LINK_UP (R306): A front port's link comes up; held VOQs leave hold and are served from their heads. -/
  | linkUp (port : Nat)
  /-- LINGER_EXPIRE (R306): When LINGER ends before the link returns, every held frame is discarded and source 206 is raised. -/
  | lingerExpire (port : Nat)
  /-- SPILL_PAGE_WRITE (R293): The spill engine moves the oldest 16 tail cells of a spilling VOQ to a new HBM page. -/
  | spillPageWrite (region : Nat) (voq : Nat)
  /-- SPILL_PAGE_REFILL (R293): The refill engine moves the oldest middle page back to the head of a spilling VOQ. -/
  | spillPageRefill (region : Nat) (voq : Nat) (ecc : EccOutcome)
  /-- FABRIC_CELL_SEND (R311): A Dvorob Link port sends the next cell, control cells ahead of data, on the chosen path. -/
  | fabricCellSend (cell : CellSend)
  /-- FABRIC_IDLE_SEND (R312): A port that has sent nothing for 1 µs sends an IDLE cell. -/
  | fabricIdleSend (group : Nat)
  /-- DATA_CELL_RECEIVE (R311): A data cell arrives; a failed CCRC triggers a REPLAY request, and a valid cell is relayed or stored toward reorder. -/
  | dataCellReceive (group : Nat) (cell : DataCell) (ccrc : Nat)
  /-- HELLO (R316): A HELLO control cell is received and the port comes up or is refused by group and slot. -/
  | hello (hd : LinkHeader) (groupId : Nat) (slot : Nat) (device : Nat) (reachVec : Nat)
  /-- REACH (R317): A REACH control cell updates the sender's direct-reach vector. -/
  | reach (hd : LinkHeader) (reachVec : Nat)
  /-- LOAD (R320): A LOAD control cell updates the sender's transmit occupancy toward each slot. -/
  | load (hd : LinkHeader) (occupancy : List Nat)
  /-- PORT_STATE (R304): A PORT_STATE control cell makes the member hold or release its VOQs for the port. -/
  | portState (hd : LinkHeader) (slot : Nat) (port : Nat) (up : Bool)
  /-- REQUEST (R318): A REQUEST control cell reports a remote VOQ's backlog to the destination's traffic manager. -/
  | request (hd : LinkHeader) (slot : Nat) (region : Nat) (port : Nat) (tc : Nat) (cls : Nat) (cells : Backlog)
  /-- GRANT (R318): A GRANT control cell gives a VOQ credit to send cells to its destination. -/
  | grant (hd : LinkHeader) (region : Nat) (voq : Nat) (cells : Nat)
  /-- REPLAY (R311): A REPLAY control cell makes the sender resend from the named LSEQ from its replay buffer. -/
  | replay (hd : LinkHeader) (lseq : Nat)
  /-- CREDIT (R316): A CREDIT control cell returns receive credits per hop class. -/
  | credit (hd : LinkHeader) (hop : Nat) (cells : Nat)
  /-- FLOW_REQ (R216): A FLOW_REQ control cell delivers a group-homed flow request to the home device. -/
  | flowReq (hd : LinkHeader) (slot : Nat) (id : Nat) (req : FlowReq)
  /-- FLOW_RESP (R216): A FLOW_RESP control cell delivers a group-homed flow result to the requesting device. -/
  | flowResp (hd : LinkHeader) (slot : Nat) (id : Nat) (res : FlowResult)
  /-- OCF (R408): An OCF control cell delivers a segment of an Ohmed command frame or reply. -/
  | ocf (hd : LinkHeader) (slot : Nat) (index : Nat) (total : Nat) (opcode : Nat) (f : Ocf)
  /-- LEARN (R265): A LEARN control cell delivers a learning message segment within a fabric group. -/
  | learn (hd : LinkHeader) (slot : Nat) (index : Nat) (total : Nat) (f : Ocf)
  /-- OCF_SEGMENT_TIMEOUT (R408): A frame whose cells do not all arrive within 100 µs of its first is discarded and counted in OCF_SEG_LOST. -/
  | ocfSegmentTimeout (slot : Nat)
  /-- HELLO_SEND (R316): Every 1 ms each Dvorob Link port sends a HELLO control cell. -/
  | helloSend (group : Nat)
  /-- VOQ_REQUEST_TIMER (R318): Every 4 µs a non-empty remote VOQ resends its REQUEST. -/
  | voqRequestTimer (region : Nat) (voq : Nat)
  /-- FABRIC_PORT_TIMEOUT (R312): A port with no valid cell for 10 µs, or 8 failed replays of one LSEQ, is declared failed. -/
  | fabricPortTimeout (group : Nat)
  /-- ROB_TIMEOUT (R325): A stream holding a buffered frame for ROB_TIMEOUT declares the missing SEQs lost. -/
  | robTimeout (slot : Nat) (pipe : Nat) (tc : Nat)
  /-- HBM_REQUEST_ACCEPT (R369): The controller accepts a request into its class queue at the budget gate, draining earlier writes to its granule. -/
  | hbmRequestAccept (req : HbmReqOp)
  /-- HBM_GATE_PASS (R380): A request passes the budget gate, charged to its own class or borrowed from one lender. -/
  | hbmGatePass (region : Nat)
  /-- FR_READ_REFUSE (R383): A flow-bucket read that has not passed the gate by its latest gate time is refused with SC_READ_BUDGET. -/
  | frReadRefuse (region : Nat)
  /-- PC_ISSUE (R374): At an issue opportunity a pseudo-channel scheduler chooses the next request to issue. -/
  | pcIssue (pc : Nat)
  /-- HBM_ACCESS_COMPLETE (R386): An HBM access completes and its data is checked and delivered to its region. -/
  | hbmAccessComplete (pc : Nat) (ecc : EccOutcome) (burst : Nat)
  /-- ROW_IDLE_CLOSE (R376): An open row closes after 200 ns without an access. -/
  | rowIdleClose (pc : Nat) (bank : Nat)
  /-- BANK_REFRESH (R388): A controller refreshes one bank, which is unavailable for at most 160 ns. -/
  | bankRefresh (pc : Nat) (bank : Nat)
  /-- HBM_TRAINING_COMPLETE (R389): A controller finishes training and zeroing and reports ready, or reports failed after 3 attempts. -/
  | hbmTrainingComplete (stack : Nat) (ok : Bool)
  /-- HBM_SCRUB_VISIT (R393): The scrub reads a burst in the TM class and applies the ECC rules. -/
  | hbmScrubVisit (region : Nat) (addr : Nat) (ecc : EccOutcome)
  /-- RETIRE_REMAP_DRAINED (R395): When every region's remap area is empty, the controller moves the retiring pseudo-channel's granules and powers it down. -/
  | retireRemapDrained (flashOk : Bool)
  /-- SELF_REFRESH_ENTRY (R397): Once flushes are complete, each controller completes its requests, saves training and places its stack in self-refresh. -/
  | selfRefreshEntry (stack : Nat)
  /-- HBM_WAKE_READY (R398): On a wake each controller restores training, exits self-refresh and reports ready, or retrains without zeroing. -/
  | hbmWakeReady (stack : Nat) (restored : Bool) (trained : Bool)
  /-- TCAM_SCRUB_VISIT (R81): The background scrub checks a TCAM entry and rewrites it from firmware's copy on a parity error. -/
  | tcamScrubVisit (pipe : Nat) (addr : Nat) (parityError : Bool)
  /-- MBX_OUT_POST (R469): Firmware places a whole reply message in a channel's outbound queue once it has room. -/
  | mbxOutPost (channel : Nat)
  /-- DOORBELL_TAKE (R470): Firmware takes a pending host-to-device doorbell. -/
  | doorbellTake (doorbell : Nat)
  /-- DMA_COMMAND_READ_COMPLETE (R412): The read of a DMA-described command completes, and the copy is checked and executed. -/
  | dmaCommandReadComplete (channel : Nat) (ok : Bool) (opcode : Nat) (f : Ocf)
  /-- COMMAND_TIMEOUT (R656): A command whose execution reaches 1 s is abandoned with HW_TIMEOUT. -/
  | commandTimeout (opcode : Nat) (f : Ocf)
  /-- COMPLETION_SEND (R424): A command that replied 0x0001 completes and sends its completion on its channel. -/
  | completionSend (id : Nat)
  /-- COMPLETION_RESEND (R424): At 1 s, 2 s and 4 s after the first send an unacknowledged completion is resent, and it expires at 60 s. -/
  | completionResend (id : Nat)
  /-- GROUP_TIMEOUT (R431): A commit group not committed within its TIMEOUT is discarded. -/
  | groupTimeout (group : Nat)
  /-- RX_FRAME_WRITE (R483): The head frame of the host port's egress queue is written to its receive ring with descriptors and HEAD, then source 96 + i. -/
  | rxFrameWrite (bufs : RxBufs) (dmaError : Bool)
  /-- TX_FRAME_FETCH (R486): The device fetches a transmit frame from a ring in round-robin order once the host port can charge it. -/
  | txFrameFetch (ring : Nat) (descs : TxDescs) (data : Bytes) (dmaError : Bool)
  /-- INTERRUPT_MESSAGE_SEND (R498): An armed group with a pending source and no hold-off sends its MSI-X message and starts hold-off. -/
  | interruptMessageSend (group : Nat)
  /-- HOLDOFF_EXPIRE (R498): A group's hold-off timer ends. -/
  | holdoffExpire (group : Nat)
  /-- PCIE_POWER_STATE_CHANGE (R501): The host changes the function's D-state or Bus Master Enable, stopping or resuming device writes to host memory. -/
  | pciePowerStateChange (dstate : Nat) (busMaster : Bool) (msixEnable : Bool) (pmeEnable : Bool)
  /-- MSIX_VECTOR_UNMASK (R499): Unmasking a vector whose PBA bit is set sends its message. -/
  | msixVectorUnmask (vector : Nat)
  /-- EVENT_INPUT_EDGE (R491): An event input holds a new level for FILTER cycles; an edge of the selected polarity raises source 288 + e and is stamped. -/
  | eventInputEdge (input : Nat) (rising : Bool)
  /-- EVENT_ASYNC_LATCH (R492): While the filter clock is stopped, an ASYNC_EN input's edge sets its asynchronous latch. -/
  | eventAsyncLatch (input : Nat) (rising : Bool)
  /-- WORK_ITEM_RELEASE (R525): Geyser moves items whose DUE tick has started from the delay list to their ready levels. -/
  | workItemRelease (items : NewItems)
  /-- WORK_ITEM_GRANT (R521): Geyser grants a waiting executor the first eligible ready item of its kind and region. -/
  | workItemGrant (engine : Bool) (executor : Nat)
  /-- WORK_ITEM_COMPLETE (R522): An executor completes its item; Geyser records RESULT and RUN_NS, charges energy and makes CHAIN ready. -/
  | workItemComplete (engine : Bool) (executor : Nat) (result : Nat)
  /-- ITEM_LIMIT_OVERRUN (R533): An item that runs past its activity's ITEM_LIMIT sets YIELD and counts ITEM_OVERRUN. -/
  | itemLimitOverrun (engine : Bool) (executor : Nat)
  /-- MICROWORD_EXECUTE (R509): A Fumarole engine fetches, checks and executes one microword and its nanoword and forms the next address. -/
  | microwordExecute (engine : Nat) (parity : ParityOutcome)
  /-- FUMAROLE_MEM_COMPLETE (R508): An engine's outstanding memory operation completes or a lock set is granted. -/
  | fumaroleMemComplete (engine : Nat) (error : Bool)
  /-- WAIT_LIMIT_EXPIRE (R512): A WAIT whose limit passes before its condition sends the engine to TARGET. -/
  | waitLimitExpire (engine : Nat)
  /-- TABLE_DUMP (R537): A TABLE_DUMP host job writes table records to its host buffer with a cursor. -/
  | tableDump (handle : Nat)
  /-- FLOW_BULK_INSERT (R538): A FLOW_BULK_INSERT host job executes its blocks in order as FLOW_INSERT. -/
  | flowBulkInsert (handle : Nat) (blocks : FlowBlocks)
  /-- COUNTER_SNAPSHOT (R537): A COUNTER_SNAPSHOT host job writes counter blocks with their read times to its buffer. -/
  | counterSnapshot (handle : Nat)
  /-- DELAYED_COMMAND (R539): At its start time a DELAYED_COMMAND job passes steps 12 to 14 and executes its embedded frame. -/
  | delayedCommand (handle : Nat)
  /-- CALDERA_PERIOD (R556): Each 100 µs Caldera samples sensors and currents and takes at most one thermal or cap action. -/
  | calderaPeriod (sample : CalderaSample)
  /-- SHED_NOTICE_END (R561): At the end of SHED_NOTICE and write-back, the shed region's links go down and its pipelines enter retention. -/
  | shedNoticeEnd (region : Nat)
  /-- SHED_RETURN (R562): A shed region whose temperatures stay within limits for 1 s returns with an empty Tarn slice. -/
  | shedReturn (region : Nat)
  /-- THERMAL_HOLD_CLEAR (R560): A thermal hold ends once its condition has stayed clear for 1 s. -/
  | thermalHoldClear (region : Nat)
  /-- DVFS_STEP_COMPLETE (R550): A region's DVFS step change completes within 20 µs with voltage and clock sequenced. -/
  | dvfsStepComplete (region : Nat)
  /-- REGULATOR_FAULT (R552): Adjacent regions' core voltages differing by more than 150 mV for 10 µs is a regulator fault. -/
  | regulatorFault (pair : Nat)
  /-- PARK_RETENTION_ENTRY (R565): A newly parked pipeline completes its frames and enters retention within 1 ms of the link-down. -/
  | parkRetentionEntry (pipe : Nat)
  /-- WAKE (R570): A wake source leaves Dormant mode, restoring domains, HBM, firmware and configuration. -/
  | wake (cause : Nat) (imageOk : Bool)
  /-- WAKE_COMPLETE (R570): The mode held before Dormant resumes, source 339 is raised and a held OCF executes. -/
  | wakeComplete (restoreOk : Bool)
  /-- DORMANT_OCF_HOLD (R410): In Dormant mode one OCF received on the management port is held as a wake source. -/
  | dormantOcfHold (opcode : Nat) (f : Ocf)
  /-- SCHEDULE_ENTRY_DUE (R571): A mode schedule entry falls due at a period boundary and takes its action or is skipped. -/
  | scheduleEntryDue (entry : Nat)
  /-- PTP_MESSAGE_RECEIVE (R590): A PTP message taken by the instance updates BMCA, path delay or a time measurement. -/
  | ptpMessageReceive (port : Nat) (msg : PtpMsg)
  /-- PTP_MESSAGE_SEND (R589): The PTP instance sends a message on a PTP port at its log interval. -/
  | ptpMessageSend (port : Nat) (kind : Nat)
  /-- PPS_EDGE (R579): A PPS input edge is stamped and taken as a measurement of the nanoseconds. -/
  | ppsEdge (rising : Bool)
  /-- ANNOUNCE_TIMEOUT (R580): Announce receipt timeout makes the slave port leave SLAVE and PTP invalid. -/
  | announceTimeout (port : Nat)
  /-- TIMED_OUTPUT_EDGE (R588): An event or 1PPS output makes its scheduled edge. -/
  | timedOutputEdge (output : Nat)
  /-- LLDP_TRANSMIT (R595): Every TX_INTERVAL, and within 1 s of link-up, a port sends an LLDPDU with the member TLV. -/
  | lldpTransmit (port : Nat)
  /-- LLDPDU_RECEIVE (R594): A received LLDPDU adds, updates or removes a neighbour and possibly a member entry. -/
  | lldpduReceive (port : Nat) (pdu : LldpPdu)
  /-- LLDP_TTL_EXPIRE (R594): A neighbour entry whose LLDPDU TTL passes leaves the table. -/
  | lldpTtlExpire (port : Nat) (chassis : Nat)
  /-- MEMBER_TTL_EXPIRE (R594): A domain member without evidence for MEMBER_TTL leaves the table. -/
  | memberTtlExpire (device : Nat)
  /-- OPTICS_POLL (R597): Every 100 ms firmware polls an optics slot and detects insertion or removal. -/
  | opticsPoll (slot : Nat) (poll : OpticsRead)
  /-- HW_CELL_ERROR (R614): A hardware cell takes its transient action for an error and counts it, retiring the cell at N events within W. -/
  | hwCellError (kind : Nat) (unit : Nat) (uncorrectable : Bool) (flashOk : Bool)
  /-- CHIP_MACHINE_CHECK (R622): A chip machine check enters the safe state by the steps of Table 15-10. -/
  | chipMachineCheck (cause : Nat) (unit : Nat)
  /-- SMBUS_WAKE_WRITE (R649): A write of 0x01 to the WAKE byte in Dormant mode is a wake source. -/
  | smbusWakeWrite (value : Nat)
  /-- SMBUS_RESET_WRITE (R623): A write of 0xA5 to the RESET byte while held restarts the device as a warm reset. -/
  | smbusResetWrite (value : Nat)
  /-- CH_IN_DATA (R467): Host write appending a word to a channel's inbound queue, rejected when full. -/
  | chInData (channel : Nat) (word : Nat)
  /-- CH_IN_EOM (R467): Host write appending the last word of a message, which firmware then takes. -/
  | chInEom (channel : Nat) (word : Nat)
  /-- CH_OUT_DATA (R469): Host read removing and returning the next outbound word, or setting UNDERRUN when empty. -/
  | chOutData (channel : Nat)
  /-- CH_CTRL_HOST_RESET (R473): Host write declaring a driver restart, flushing the channel's outbound queue as a host reset. -/
  | chCtrlHostReset (channel : Nat)
  /-- H2D_SET (R470): Host write setting host-to-device doorbells. -/
  | h2dSet (hi : Bool) (bits : Nat)
  /-- CMB_CTRL_GO (R478): Host write of GO posting the compatibility command buffer and setting FULL. -/
  | cmbCtrlGo (len : Nat)
  /-- CMB_WRITE_WHILE_FULL (R479): Host write to CMB_DATA or CMB_CTRL while FULL overwrites in place and sets COLLISION. -/
  | cmbWriteWhileFull (index : Nat) (word : Nat)
  /-- RING_CTRL_EN (R481): Host write of a ring's EN; from 0 to 1 it sets HEAD to 0. -/
  | ringCtrlEn (tx : Bool) (ring : Nat) (en : Bool)
  /-- RING_TAIL (R481): Host write of a ring's TAIL lending descriptors to the device. -/
  | ringTail (tx : Bool) (ring : Nat) (tail : Nat)
  /-- INT_STATUS_CLEAR (R654): Host W1C write clearing event status bits, re-arming first-event sources. -/
  | intStatusClear (group : Nat) (write : StatusClear)
  /-- INT_SET (R490): Host write raising event sources as hardware does. -/
  | intSet (group : Nat) (mask : Nat)
  /-- INT_CLAIM (R495): Host read of CLAIM that puts the lowest pending source of the group in service. -/
  | intClaim (group : Nat)
  /-- INT_COMPLETE (R497): Host write ending service of the named source, or counting BAD_COMPLETE. -/
  | intComplete (group : Nat) (source : Nat)
  /-- CH_OVF_COUNT_READ (R10): Read-to-clear of a channel's CH_OVF_COUNT. -/
  | chOvfCountRead (channel : Nat)
  /-- CH_DISCARD_READ (R10): Read-to-clear of a channel's CH_DISCARD. -/
  | chDiscardRead (channel : Nat)
  /-- CH_FLUSH_COUNT_READ (R10): Read-to-clear of a channel's CH_FLUSH_COUNT. -/
  | chFlushCountRead (channel : Nat)
  /-- RING_DROP_READ (R10): Read-to-clear of a receive ring's DROP counter. -/
  | ringDropRead (ring : Nat)
  /-- REASSERT_READ (R10): Read-to-clear of a source's REASSERT counter. -/
  | reassertRead (source : Nat)
  /-- REGISTER_WRITE (R10): A host write to a register field without a row of its own, with the effect of its access type. -/
  | registerWrite (bar : Nat) (offset : Nat) (word : Nat)
  /-- POWER_GOOD_RETURN (R603): A power-good input that rises again, or SYSCLK_25M that resumes, while PORST_N is high ends the power-on reset that its loss caused. -/
  | powerGoodReturn (input : Nat)
  /-- PCIE_LINK_CHANGE (R599): The PCIe link trains, enters or leaves L1, or goes down, including on loss or return of PCIE_REFCLK, which updates HIF.LINK and host presence and raises source 407. -/
  | pcieLinkChange (gen : Nat) (width : Nat) (lpm : Nat)
  /-- FREQ_MEASUREMENT (R580): At the end of each 1 ms measurement of the 10 MHz input, FREQ becomes valid when its frequency lies within ±50 ppm. -/
  | freqMeasurement (hz : Nat)
  /-- PORST_N_ASSERT (R603): PORST_N low, or any power-good input low, holds every domain but the always-on domain in reset as a power-on reset. -/
  | porstNAssert
  /-- PORST_N_RELEASE (R607): Release of PORST_N with every power-good input high starts the boot of Table 15-3. -/
  | porstNRelease
  /-- SYSCLK_LOSS (R644): SYSCLK_25M with no edge for 10 µs is treated as a low power-good input. -/
  | sysclkLoss
  /-- DOMAIN_POWER_UP (R546): Caldera starts the ramp of the next domain, at least 20 µs after the previous one. -/
  | domainPowerUp
  /-- RISING_COMPLETE (R542): When every unit that is not parked, shed or retired has reported ready or failed, the device enters its target mode and raises source 337. -/
  | risingComplete
  /-- ORIGINATED_FRAME_ENQUEUE (R657): Firmware enqueues a frame it originates in the CLASS 0 VOQ of its egress port once the host port can charge it whole. -/
  | originatedFrameEnqueue
  /-- LEARN_EVENT_APPLY (R257): The learn arbiter applies the next accepted event or MAC-table operation to the replicas in region order. -/
  | learnEventApply
  /-- LEARN_MESSAGE_SEND (R266): A learning message is sent when 32 records wait or 100 µs after the first record waits. -/
  | learnMessageSend
  /-- LPM_NODE_FREE (R246): Replaced LPM nodes are freed 256 clocks after the parent word switches. -/
  | lpmNodeFree
  /-- LOAD_SEND (R320): Every 2 µs the device sends LOAD control cells. -/
  | loadSend
  /-- HBM_BUDGET_PERIOD (R378): At each 1,024 ns period boundary every region and class receives its own budget. -/
  | hbmBudgetPeriod
  /-- CMB_TAKE (R478): Firmware takes the compatibility buffer when the channel's previous command has completed or replied 0x0001. -/
  | cmbTake
  /-- AUDIT_FLASH_WRITE (R456): An audit entry is written to the flash audit area within 10 ms, after any reservation write. -/
  | auditFlashWrite
  /-- RING_WAIT_EXPIRE (R484): When RING_WAIT ends before the ring lends enough descriptors, the frame is discarded and source 116 raised. -/
  | ringWaitExpire
  /-- PERST_N (R462): PERST_N resets configuration space, MSI-X and host-side state as a host reset. -/
  | perstN
  /-- FUNCTION_LEVEL_RESET (R462): A function level reset acts as PERST_N. -/
  | functionLevelReset
  /-- ENERGY_PERIOD_BOUNDARY (R529): At each 100 µs boundary Geyser sets B to the grant plus debt and resets class use and activity budgets. -/
  | energyPeriodBoundary
  /-- CAP_ACTION_UNDO (R557): After P stays below 95% of the cap for 10 ms, Caldera undoes one cap action. -/
  | capActionUndo
  /-- CAP_UNMET (R558): After 100 ms over the cap with every action exhausted, level source 336 asserts. -/
  | capUnmet
  /-- REDUCED_PROFILE_APPLY (R565): On entry to Reduced mode or a profile change the cap, parking and unparking are applied in order. -/
  | reducedProfileApply
  /-- DORMANT_DRAIN_END (R567): At DRAIN, frames still held are discarded and octal groups and pipelines power down. -/
  | dormantDrainEnd
  /-- DORMANT_FLUSH_COMPLETE (R149): Once Tarn, Sinter and log flushes complete, firmware saves configuration and domains power down into Dormant. -/
  | dormantFlushComplete
  /-- PPS_TIMEOUT (R580): PPS becomes invalid when 2.1 s pass without an edge and raises source 388. -/
  | ppsTimeout
  /-- FREQ_INVALID (R580): FREQ becomes invalid when out of range or without an edge for 1 µs and raises source 389. -/
  | freqInvalid
  /-- PTP_SYNC_TIMEOUT (R580): Three Sync intervals without a Sync make PTP invalid. -/
  | ptpSyncTimeout
  /-- HOLDOVER_EXPIRE (R581): When HOLDOVER_LIMIT passes the state goes to FREE_RUN and source 387 is raised. -/
  | holdoverExpire
  /-- LEAP_EVENT (R576): At the end of a UTC day with a leap flag set, UTC_OFFSET changes and source 392 is raised. -/
  | leapEvent
  /-- FIRMWARE_WATCHDOG (R621): No firmware heartbeat to the always-on domain for 2 s declares a chip machine check. -/
  | firmwareWatchdog
  /-- SAFE_STATE_RESTART (R622): 100 ms after a machine check the device restarts as a warm reset, unless MC_COUNT has reached 3. -/
  | safeStateRestart
  /-- SMBUS_TIMEOUT (R648): SMB_SCL held low for 35 ms releases the bus and discards the transaction. -/
  | smbusTimeout
  /-- CMB_RSP_ACK (R480): Host write releasing the compatibility reply and clearing RSP_VALID. -/
  | cmbRspAck
  /-- TCAP_TIME_NS_READ (R585): Host read of TIME_NS that latches the seconds, fraction and local counter. -/
  | tcapTimeNsRead
  /-- TCAP_CAPTURE (R585): Host write latching all time capture fields together. -/
  | tcapCapture
  /-- TCAP_EVQ_POP (R587): Host write removing the head entry of the event stamp queue. -/
  | tcapEvqPop
  /-- UR_COUNT_READ (R10): Read-to-clear of HIF.UR_COUNT. -/
  | urCountRead
  /-- CMB_COLL_COUNT_READ (R10): Read-to-clear of CMB_COLL_COUNT. -/
  | cmbCollCountRead
  /-- BAD_COMPLETE_READ (R10): Read-to-clear of INT.BAD_COMPLETE. -/
  | badCompleteRead
  /-- EVQ_OVF_READ (R10): Read-to-clear of TCAP.EVQ_OVF. -/
  | evqOvfRead
  /-- SYSRST_N_RELEASE (R477): Release of SYSRST_N after an assertion of 1 µs or longer ends the warm reset and starts the boot, with BAR 0 accesses refused for at most 1 ms after it. -/
  | sysrstNRelease
  /-- PERST_N_RELEASE (R569): De-assertion of PERST_N lets the PCIe link train and, in Dormant mode, is a wake source recorded as cause 4. -/
  | perstNRelease
  deriving DecidableEq, Repr

end Sys2Proof
end

