-- ==== Sys2Proof/Decode.lean ====
section
/-! DEFINITION. The command that a word of the opcode table spells. spec/opcode_table.json gives none of its 361 rows any bits: a command reaches
the block as an event or as a frame, never as an instruction word. So no word spells a command. -/

namespace Sys2Proof

/-- The command that the `nbits` bits of `w` spell: none, for the table gives no row bits. DESIGN CHOICE, safe: log entry 133. -/
def decodeTableWord (_nbits _w : Nat) : Option Instr := none

end Sys2Proof
end

