-- ==== Sys2Proof/Config.lean ====
section
/-! DEFINITION. The free values of the model: what the spec leaves open and every claim must hold for. None has a body. -/

namespace Sys2Proof.Config

/-- ECDSA P-384 with SHA-384 (R453): the signature is valid over the signed bytes under the public key of a fused key slot. The public keys
are fused by their hashes and stand in no table of the spec, so the answer is free (DESIGN CHOICE, safe: log entry 9). -/
opaque signatureValid : (keyIndex : Nat) → (signed signature : Bytes) → Bool

/-- Frames that an egress port's transmit buffer takes beyond the first (R331), and cells that an egress pipeline's credits cover beyond one
largest frame (R27): the spec gives neither size. DESIGN CHOICE, safe: log entry 22. -/
opaque txBufferDepth : Nat
opaque egressCredits : Nat

/-- The pseudo-channel, counted round from this number, that holds the substitute of a granule of a retired one (R395): the spec does not say
where in a remap area a substitute lies. DESIGN CHOICE, safe: log entry 27. -/
opaque remapStart : (region granule : Nat) → Nat

/-- The hash of a locator that indexes Sinter's sets (R137): the spec does not give the function. DESIGN CHOICE, safe: log entry 10. -/
opaque sinterIndex : (locator : Nat) → Nat

/-- The primary key of a companion that FLOW_INSERT creates (R117, Table 3-12): the command has no field for it. DESIGN CHOICE, safe: log entry 49. -/
opaque insertedPrimary : (partition zone keyType key : Nat) → Nat

/-- The power domain whose unit holds an SRAM macro (Table 15-6): the spec does not number the macros. DESIGN CHOICE, safe: log entry 50. -/
opaque macroFunction : (index : Nat) → Nat

/-- The deviation of a region's copy of the time base at an instant (R32), in 1/16 ns: the remainder by 129 less 64, so within 4 ns either way.
The spec bounds it and says no more. DESIGN CHOICE, safe: log entry 138. -/
opaque timeCopy : (region instant : Nat) → Nat

/-- A port is configured on another member of the fabric group, where no PORT_STATE has named it (R282): the spec does not say how a member learns it.
DESIGN CHOICE, safe: log entry 139. -/
opaque memberPort : (slot port : Nat) → Bool

/-- The payload of a control cell after its kind byte, of the values that it carries: the layouts are the firmware image's (R314).
DESIGN CHOICE, safe: log entry 134. -/
opaque controlBody : (kind : Nat) → (values : List Nat) → Bytes

/-- The slot of a group member that is no neighbour and from which nothing has come that names its device (R216, R265): the spec does not say how a
device learns it. DESIGN CHOICE, safe: log entry 139. -/
opaque memberSlot : (device : Nat) → Nat

/-- The microcode that the running image gives an engine's stores (R504): a microword and a nanoword. The spec gives none of it.
DESIGN CHOICE, safe: log entry 39. -/
opaque microword : (address : Nat) → BitVec 32
opaque nanoword : (address : Nat) → BitVec 160

/-- What FINDFREE writes where a bucket has no invalid slot (Table 12-3). DESIGN CHOICE, safe: log entry 42. -/
opaque noFreeSlot : (bucket : Bytes) → BitVec 64

/-- A byte of a region's exact-table or LPM memory that no TBL_WRITE has written (Table 12-4): the spec does not lay that memory out.
DESIGN CHOICE, unsafe: log entry 40. -/
opaque tableByte : (region address : Nat) → Byte

/-- A field of the MAC-table operation that a line buffer holds for ARB_SUBMIT (Table 12-4), by its place in Table 5-7: the spec does not lay
the line out. DESIGN CHOICE, safe: log entry 41. -/
opaque arbiterField : (line : Bytes) → (place : Nat) → Nat

/-- The memories that a code of DIAG_MEM_TEST names (R439): bit 0 HBM, bit 1 Tarn, bit 2 the Basin. The spec gives no codes.
DESIGN CHOICE, unsafe: log entry 43. -/
opaque testedMemory : (code : Nat) → BitVec 3

/-- ENTRY and ARG of the item that JOB_SUBMIT creates (Table 12-7), by JOB_TYPE: the image's routine, and what it is passed.
DESIGN CHOICE, safe: log entry 48. -/
opaque jobEntry : (jobType : Nat) → BitVec 16
opaque jobArg : (jobType : Nat) → BitVec 64

/-- Where the ring of a NAT pool and region begins in the table area, as a number of bytes (R199, Table 8-2). DESIGN CHOICE, safe: log entry 78. -/
opaque natRingBase : Nat → Nat → Nat

end Sys2Proof.Config
end

