-- ==== Sys2Proof/Machine/State/ClassifyPart.lean ====
section
/-! DEFINITION. State of the ingress pipelines: parse graphs, key and search profiles, TCAM banks, frames that wait for a packet slot and
descriptors that wait for release (chapters 1 and 2). A field's default is its value after PORST_N. -/

namespace Sys2Proof.Machine

/-- A state's transitions with every mask cut to its select field. DEDUCED, unsafe: log entry 51. -/
def cutMasks (selWidth : Nat) (ts : List Trans) : List Trans := ts.map (fun t => { t with mask := t.mask % 256 ^ selWidth })

/-- The eight transitions of an entry: those that Table 2-3 names, then unused ones, whose fields are 0. -/
def eightTrans (selWidth : Nat) (ts : List Trans) : List Trans := cutMasks selWidth ts ++ List.replicate (8 - ts.length) ⟨0, 0, 0, 0⟩

/-- A state of the default graph without computed length (Table 2-3). -/
def fixedState (n layer check len selOff selWidth act tgt : Nat) (ts : List Trans) : ParseState :=
  { hdrId := n, layer, check, lenMode := 0, lenFixed := len, lenOff := 0, lenMask := 0, lenShift := 0, lenScale := 0, lenAdd := 0, selOff,
    selWidth, defAction := act, defTarget := tgt, trans := eightTrans selWidth ts }

/-- A state whose length is computed. -/
def sizedState (n layer check off mask shift scale add selOff selWidth act tgt : Nat) (ts : List Trans) : ParseState :=
  { hdrId := n, layer, check, lenMode := 1, lenFixed := 0, lenOff := off, lenMask := mask, lenShift := shift, lenScale := scale, lenAdd := add,
    selOff, selWidth, defAction := act, defTarget := tgt, trans := eightTrans selWidth ts }

/-- Transitions that compare the whole select field. -/
def goTo (target : Nat) (vs : List Nat) : List Trans := vs.map (fun v => ⟨v, 0xFFFFFFFF, 1, target⟩)

/-- Transitions to ACCEPT. -/
def acceptOn (cls : Nat) (vs : List Nat) : List Trans := vs.map (fun v => ⟨v, 0xFFFFFFFF, 2, cls⟩)

/-- Transitions of the GRE flags state: bits C, K and S. -/
def greTo (target : Nat) (vs : List Nat) : List Trans := vs.map (fun v => ⟨v, 0xB000, 1, target⟩)

/-- The Ethertype transitions that states 0, 1 and 2 share. -/
def etherTrans : List Trans := goTo 3 [0x0800] ++ goTo 4 [0x86DD] ++ goTo 22 [0x0806] ++ acceptOn 12 [0x88B5, 0x88CC, 0x88F7]

/-- The next-header transitions of states 4 and 5. -/
def ipv6Trans : List Trans := goTo 5 [0, 43, 60] ++ goTo 6 [44] ++ goTo 24 [6] ++ goTo 25 [17] ++ goTo 10 [58] ++ goTo 18 [47]

/-- The next-header transitions of an inner IPv6 chain. -/
def innerTrans (ext tcp udp : Nat) : List Trans := goTo ext [0, 43, 60] ++ goTo 6 [44] ++ goTo tcp [6] ++ goTo udp [17]

/-- The protocol transitions of states 19, 20, 21 and 23. -/
def greTrans : List Trans := goTo 26 [0x6558] ++ goTo 27 [0x0800] ++ goTo 28 [0x86DD]

/-- The default parse graph (Table 2-3); a state not listed is unconfigured. DEDUCED, unsafe: log entry 51. -/
def defaultGraph : Tab ParseState :=
  [ (0, fixedState 0 1 0 14 12 2 2 0 (goTo 1 [0x8100, 0x88A8] ++ etherTrans)),
    (1, fixedState 1 0 0 4 2 2 2 0 (goTo 2 [0x8100, 0x88A8] ++ etherTrans)),
    (2, fixedState 2 0 0 4 2 2 2 0 etherTrans),
    (3, sizedState 3 2 1 0 0x0F 0 2 0 9 1 2 2 (goTo 7 [6] ++ goTo 8 [17] ++ goTo 9 [1] ++ goTo 18 [47])),
    (4, fixedState 4 2 2 40 6 1 2 6 ipv6Trans),
    (5, sizedState 5 0 6 1 0xFF 0 3 8 0 1 2 6 ipv6Trans),
    (6, fixedState 6 0 3 8 0 1 3 7 []),
    (7, sizedState 7 3 4 12 0x0F 4 2 0 0 1 2 3 []),
    (8, fixedState 8 3 5 8 2 2 2 4 (goTo 11 [4789] ++ acceptOn 12 [319, 320])),
    (9, fixedState 9 3 0 8 0 1 2 5 []),
    (10, fixedState 10 3 0 8 0 1 2 9 []),
    (11, fixedState 11 7 0 8 0 1 1 12 []),
    (12, fixedState 12 4 0 14 12 2 2 10 (goTo 13 [0x0800] ++ goTo 14 [0x86DD])),
    (13, sizedState 13 5 1 0 0x0F 0 2 0 9 1 2 10 (goTo 15 [6] ++ goTo 16 [17])),
    (14, fixedState 14 5 2 40 6 1 2 10 (innerTrans 17 15 16)),
    (15, sizedState 15 6 4 12 0x0F 4 2 0 0 1 2 10 []) ] ++
  [ (16, fixedState 16 6 5 8 0 1 2 10 []),
    (17, sizedState 17 0 6 1 0xFF 0 3 8 0 1 2 10 (innerTrans 17 15 16)),
    (18, fixedState 18 7 0 0 0 2 2 11
      (greTo 19 [0x0000] ++ greTo 20 [0x8000, 0x2000, 0x1000] ++ greTo 21 [0xA000, 0x9000, 0x3000] ++ greTo 23 [0xB000])),
    (19, fixedState 19 0 0 4 2 2 2 11 greTrans),
    (20, fixedState 20 0 0 8 2 2 2 11 greTrans),
    (21, fixedState 21 0 0 12 2 2 2 11 greTrans),
    (22, fixedState 22 0 0 28 0 1 2 1 []),
    (23, fixedState 23 0 0 16 2 2 2 11 greTrans),
    (24, sizedState 24 3 4 12 0x0F 4 2 0 0 1 2 7 []),
    (25, fixedState 25 3 5 8 2 2 2 8 (goTo 11 [4789] ++ acceptOn 12 [319, 320])),
    (26, fixedState 26 4 0 14 12 2 2 11 (goTo 27 [0x0800] ++ goTo 28 [0x86DD])),
    (27, sizedState 27 5 1 0 0x0F 0 2 0 9 1 2 11 (goTo 29 [6] ++ goTo 30 [17])),
    (28, fixedState 28 5 2 40 6 1 2 11 (innerTrans 31 29 30)),
    (29, sizedState 29 6 4 12 0x0F 4 2 0 0 1 2 11 []),
    (30, fixedState 30 6 5 8 0 1 2 11 []),
    (31, sizedState 31 0 6 1 0xFF 0 3 8 0 1 2 11 (innerTrans 31 29 30)) ]

/-- A valid TCAM entry (R78): its value already ANDed with its mask (R100), its rule handle and priority when a rule list placed it. -/
structure TcamEntry where
  value : Nat
  mask : Nat
  action : Nat
  pkts : Nat := 0
  bytes : Nat := 0
  /-- Rule handle; 0 for a raw entry. -/
  handle : Nat := 0
  prio : Nat := 0
  deriving DecidableEq, Repr

/-- A rule list: its lowest bank and its number of banks (R82). -/
structure RuleList where
  base : Nat
  banks : Nat
  deriving DecidableEq, Repr

/-- What a parse of a pass leaves (R54, R62). -/
structure Parse where
  /-- Layer pointers that are set, by layer 1 to 8. -/
  layers : Tab Nat := []
  /-- Header stack: HDR_ID and offset. -/
  stack : List (Nat × Nat) := []
  /-- Packet-type class, when accepted. -/
  cls : Nat := 0
  /-- Exception code; 0 for none. -/
  exc : Nat := 0
  /-- The last IP protocol or next-header value of the pass, and that of the L3 and IL3 headers' own chains. -/
  proto : Nat := 0
  outer : Nat := 0
  inner : Nat := 0
  deriving DecidableEq, Repr

/-- A frame on its way from arrival to release (R94, R276): its bytes without FCS after any STRIP_HDR, and what it carries from pass to
pass. -/
structure Frame where
  data : Bytes
  /-- ORIG_PORT and the port of this pass, as port fields. -/
  orig : Nat
  port : Nat
  pass : Nat := 0
  /-- Start state of this pass. -/
  start : Nat := 0
  zone : Nat := 0
  tc : Nat := 0
  /-- Received priority, and whether it is lossless (R297). -/
  prio : Nat := 0
  lossless : Bool := false
  /-- Region whose Basin slice stores it, and its cells there. -/
  region : Nat
  cells : Nat
  /-- It is charged to PFC headroom (R299). -/
  headroom : Bool := false
  /-- The colour an earlier policer gave: 0 green, 1 yellow, 2 red. -/
  colour : Option Nat := none
  /-- Marks of a colour action (R351), made at transmission. -/
  markDei : Bool := false
  markDscp : Option Nat := none
  /-- Estate time and local time at which it passed its check. -/
  stamp : Nat := 0
  /-- The stamp was taken while estate time was not traceable (R271). -/
  unsync : Bool := false
  arrived : Nat := 0
  deriving DecidableEq, Repr

/-- Where a frame goes (Table 5-3, R231, R232). -/
inductive Dest where
  | drop
  | port (p : Nat)
  | lag (l : Nat)
  | device (d : Nat)
  | group (g : Nat)
  | nexthop (n : Nat)
  | slow (reason : Nat)
  deriving DecidableEq, Repr

/-- The forwarding result of a final pass: its destination, whether it was bridged, its FID and VRF, and the flood group. -/
structure Fwd where
  dest : Dest := .drop
  /-- The VLAN entry is not valid: the frame is discarded (R229). -/
  bad : Bool := false
  /-- It would leave by the port it came in on (R231). -/
  same : Bool := false
  bridged : Bool := true
  fid : Nat := 0
  vrf : Nat := 0
  flood : Nat := 0
  deriving DecidableEq, Repr

/-- What a source lookup found (R254, R255). -/
inductive LearnOut where
  | none | fresh | move
  deriving DecidableEq, Repr

/-- A descriptor of a final pass that waits for its flow result or for release (R35 to R37). -/
structure Desc where
  id : Nat
  frame : Frame
  /-- The frame's bytes as received in this pass, for copies (R87, R86). -/
  raw : Bytes
  px : Parse
  /-- The combined action word. -/
  act : Nat
  /-- It waits for a flow result; its requesting template as the request was made under it (R170), home region and request. -/
  waiting : Bool := false
  tmpl : Option TemplateP := none
  home : Nat := 0
  req : Option FlowReq := none
  fwd : Fwd := {}
  /-- The post-translation result (R176). -/
  post : Option Dest := none
  learn : LearnOut := .none
  /-- Slow-path reason with starvation cause, when the frame goes to the slow path. -/
  slow : Option (Nat × Nat) := none
  deriving DecidableEq, Repr

/-- An ingress pipeline. -/
structure Pipe where
  active : Tab ParseState := defaultGraph
  shadow : Tab ParseState := defaultGraph
  /-- Key profiles: 20 or 40 selectors; an unlisted profile holds 20 selectors of 0. -/
  keyProfiles : Tab (List Nat) := []
  searchProfiles : Tab Nat := []
  /-- Pairs in 640-bit mode, one bit each. -/
  widePairs : Nat := 0
  lists : Tab RuleList := []
  /-- The entries whose valid bit is 1, by address; and what entries hold that were written and whose valid bit is 0 (R78). -/
  tcam : Tab TcamEntry := []
  invalid : Tab TcamEntry := []
  retiredBanks : Nat := 0
  recircSlots : Nat := 4
  /-- Slots of the current window, and the reserved slots taken by the recirculation port and by the management or host port. -/
  slot : Nat := 0
  takenRecirc : Nat := 0
  takenExt : Nat := 0
  turnFront : Nat := 0
  turnOther : Nat := 0
  /-- Frames that wait for a packet slot, in arrival order. -/
  wait : List Frame := []
  desc : List Desc := []
  nextId : Nat := 1
  /-- Flow results on their way to this pipeline, by descriptor. -/
  results : Tab FlowResult := []
  /-- Learn filter (R256): FID x 2^48 + MAC, and the learning port's destination. -/
  filter : List (Nat × Nat × Nat) := []
  hwErr : Nat := 0
  recircFull : Nat := 0
  unusedTemplate : Nat := 0
  deriving DecidableEq, Repr

/-- Classifier settings of a port (R63, R71, R88, R89). DESIGN CHOICE, unsafe: log entry 33. -/
structure PortClass where
  map : List Nat := List.replicate 16 0xFF
  miss : Nat := 0
  zone : Nat := 0
  /-- Disposition of each exception code. -/
  disp : List Nat := List.replicate 64 0
  deriving DecidableEq, Repr

/-- A control match entry 4 to 7. -/
structure ControlMatch where
  ethertype : Nat
  dst : Nat
  anyDst : Bool
  udpPort : Nat
  forward : Bool
  deriving DecidableEq, Repr

/-- A mirror session (R90). -/
structure Mirror where
  dest : Nat
  tc : Nat
  trunc : Nat
  deriving DecidableEq, Repr

/-- A frame that the control intake took (R66): its ingress port, the matching entry and its bytes. -/
structure ControlFrame where
  port : Nat
  entry : Nat
  data : Bytes
  deriving DecidableEq, Repr

/-- The parsers and classifiers. DESIGN CHOICE, unsafe: log entry 65. -/
structure ClassifyState where
  pipes : Tab Pipe := []
  ports : Tab PortClass := []
  control : Tab ControlMatch := []
  mirrors : Tab Mirror := []
  /-- Exception counters (R65) by 64 x port + code. -/
  exceptions : Tab Nat := []
  nextHandle : Nat := 1
  taken : List ControlFrame := []
  deriving DecidableEq, Repr

end Sys2Proof.Machine
end

