-- ==== Sys2Proof/Machine/State/BufPart.lean ====
section
/-! DEFINITION. State of the Basin, the virtual output queues, the Dvorob Link (chapter 6) and the egress traffic managers, shapers, gates and
policers (chapter 7). A VOQ is named by region x 2^17 + its number of Table 6-2. A field's default is its value after PORST_N. -/

namespace Sys2Proof.Machine

/-- A queue profile (Table 6-7). -/
structure QProfile where
  alpha : Nat
  reserve : Nat := 0
  spillEn : Bool := false
  headKeep : Nat := 256
  spillOn : Nat := 4096
  spillMax : Nat := 0
  deriving DecidableEq, Repr

/-- The default profiles of R327. -/
def defaultProfile (k : Nat) : QProfile :=
  if k < 8 then { alpha := 6 } else if k < 16 then { alpha := 4 } else if k = 16 then { alpha := 6, reserve := 64 } else { alpha := 6 }

/-- The default profile of a VOQ number (R327). -/
def defaultMap (voq : Nat) : Nat :=
  if voq < 65536 then voq % 8
  else if voq / 8 % 256 < 16 then 8 + voq % 8 else 16

/-- BUF_REGION_WRITE parameters of a region (Table 6-8). -/
structure RegionCfg where
  portPendMax : Nat := 4096
  ingressPool : Nat := 16384
  fabRxPool : Nat := 0
  deriving DecidableEq, Repr

/-- PORT_PFC_WRITE parameters of a port (Table 6-9). -/
structure PfcCfg where
  mode : Nat := 0
  lossless : Nat := 0
  xoff : Nat := 0
  xon : Nat := 0
  headroom : Nat := 0
  watchdog : Nat := 0
  defaultPrio : Nat := 0
  deriving DecidableEq, Repr

/-- A buffer configuration (R327). -/
structure BufCfg where
  profiles : Tab QProfile := []
  /-- Ranges of VOQ numbers and their profiles: start, count, profile, the latest first. -/
  map : List (Nat × Nat × Nat) := []
  regions : Tab RegionCfg := []
  pfc : Tab PfcCfg := []
  /-- LINGER in units of 100 µs. -/
  linger : Tab Nat := []
  deriving DecidableEq, Repr

/-- What a slow-path frame carries to its descriptor (Table 11-7). -/
structure SlowInfo where
  reason : Nat
  cause : Nat := 0
  template : Nat := 0
  zone : Nat := 0
  copy : Bool := false
  deriving DecidableEq, Repr

/-- A frame in a VOQ or beyond it. DEDUCED, unsafe: log entry 66. -/
structure QFrame where
  data : Bytes
  orig : Nat
  cells : Nat
  region : Nat
  prio : Nat := 0
  lossless : Bool := false
  headroom : Bool := false
  /-- Multicast: the number that its copies share (R308). -/
  shared : Option Nat := none
  /-- Next hop of the egress rewrite (R233); 65,536 for none. -/
  nexthop : Nat := 65536
  /-- The L3 layer pointer of its final pass. -/
  l3 : Option Nat := none
  /-- Group of a CLASS 1 frame, and whether its ingress port is left out (R309). -/
  group : Nat := 0
  leaveOut : Bool := false
  /-- Load-sharing hash of a multicast frame, which picks its LAG members (R309). -/
  hash : Option Nat := none
  mirror : Bool := false
  slow : Option SlowInfo := none
  markDei : Bool := false
  markDscp : Option Nat := none
  stamp : Nat := 0
  arrived : Nat := 0
  /-- Local time of its release by the reorder unit. -/
  released : Option Nat := none
  /-- The octal group and the hop class of the receive buffer that holds it (R316). -/
  rx : Option (Nat × Nat) := none
  deriving DecidableEq, Repr

/-- A virtual output queue. `frames` holds the frames not yet granted, oldest first; `head` and `pages` are the cells of its head segment and
its spilled pages, each with the cells in it of frames that are not lost, while it is in spill state (R292, R295). -/
structure Voq where
  frames : List QFrame := []
  reserve : Nat := 0
  shared : Nat := 0
  spill : Bool := false
  head : Nat := 0
  pages : List (Nat × Nat) := []
  /-- Grant credit in fabric cells (R318). -/
  credit : Nat := 0
  admitted : Nat := 0
  admittedBytes : Nat := 0
  discarded : Nat := 0
  discardedBytes : Nat := 0
  underrun : Nat := 0
  eccDiscard : Nat := 0
  deriving DecidableEq, Repr

/-- A frame granted to a port of an egress pipeline: the VOQ whose charge it still holds, if any; its bytes after the egress rewrite; and the
local and estate time of its first bit. -/
structure TxFrame where
  port : Nat
  tc : Nat
  frame : QFrame
  voq : Option Nat
  wire : Bytes := []
  /-- Its first bit has left the device. -/
  started : Bool := false
  start : Nat := 0
  startStamp : Nat := 0
  deriving DecidableEq, Repr

/-- A control cell of the Dvorob Link (Table 6-6). -/
inductive Control where
  | hello (groupId slot device reach : Nat)
  | reach (vector : Nat)
  | load (occupancy : List Nat)
  | portState (dst port : Nat) (up : Bool)
  /-- With its backlog a request carries the cells of the head frame, which a grant covers (R318). -/
  | request (dst region port tc cls cells head : Nat)
  | grant (dst region voq cells : Nat)
  | replay (lseq : Nat)
  | credit (hop cells : Nat)
  | flowReq (dst id : Nat) (req : FlowReq)
  | flowResp (dst id : Nat) (res : FlowResult)
  | ocf (dst : Nat) (data : Bytes)
  | learn (dst : Nat) (data : Bytes)
  /-- A segment of a command frame or of a learning message, as it came in to be relayed. -/
  | segment (dst index total opcode : Nat) (f : Ocf)
  | learnSegment (dst index total : Nat) (f : Ocf)
  /-- A cell of another slot that is relayed with HOP 1 (R321). -/
  | relayed (src : Nat) (c : Control)
  deriving DecidableEq, Repr

/-- SRC, DST, VIA and HOP of a cell that is no data cell (Table 6-4). -/
structure CellRoute where
  src : Nat
  dst : Nat
  via : Nat
  hop : Nat
  deriving DecidableEq, Repr

/-- A cell on the link: a control or data cell carries LSEQ, every cell carries ACK (R311). -/
inductive Cell where
  | idle (ack : Nat) (route : CellRoute)
  | control (lseq ack : Nat) (route : CellRoute) (c : Control)
  | data (c : DataCell)
  deriving DecidableEq, Repr

/-- A data cell that waits on a port, and the octal group that it came in on when it is relayed (R316, R321). -/
structure WaitCell where
  cell : DataCell
  inbound : Option Nat := none
  deriving DecidableEq, Repr

/-- A Dvorob Link port: an octal group (R310 to R317). -/
structure FabPort where
  width : Nat
  rate : Nat
  up : Bool := false
  /-- Slot and device ID of the neighbour. -/
  neighbour : Option (Nat × Nat) := none
  reach : Nat := 0
  /-- The neighbour's latest LOAD figures by slot. -/
  loads : List Nat := []
  control : List Control := []
  queue : List WaitCell := []
  /-- Cells sent and not yet acknowledged, at most 512. -/
  replayBuf : List Cell := []
  /-- Frames being relayed that came in here: the latest cell as it was sent on, and the octal group it left by (R321). -/
  relays : List (DataCell × Nat) := []
  /-- LSEQ of the next cell sent, and LSEQ expected next. -/
  lseqTx : Nat := 0
  lseqRx : Nat := 0
  /-- Consecutive replays of one LSEQ. -/
  tries : Nat := 0
  credit0 : Nat := 0
  credit1 : Nat := 0
  /-- Receive buffer cells in use by hop class. -/
  used0 : Nat := 0
  used1 : Nat := 0
  replays : Nat := 0
  refusals : Nat := 0
  linkDiscard : Nat := 0
  deriving DecidableEq, Repr

/-- A frame of a stream whose cells are arriving: SEQ, the Basin region that stores it, the first cell and the bytes so far. -/
structure Partial where
  seq : Nat
  region : Nat
  /-- The octal group and the hop class that it comes in by. -/
  rx : Nat × Nat
  first : DataCell
  data : Bytes
  cells : Nat
  deriving DecidableEq, Repr

/-- A frame that a reorder unit holds: SEQ, the Basin region that stores it, the first cell, its bytes, and whether it was poisoned. -/
structure RobFrame where
  seq : Nat
  region : Nat
  rx : Nat × Nat
  first : DataCell
  data : Bytes
  cells : Nat
  poison : Bool
  deriving DecidableEq, Repr

/-- A received stream (R323 to R326). -/
structure RxStream where
  expected : Nat := 0
  parts : List Partial := []
  held : List RobFrame := []
  /-- CUM_CELLS of the latest frame, and the cells that have arrived since of frames that were lost. -/
  cum : Nat := 0
  gone : Nat := 0
  lost : Nat := 0
  late : Nat := 0
  poisonRecv : Nat := 0
  deriving DecidableEq, Repr

/-- FABRIC_CONFIG (Table 6-10). -/
structure FabCfg where
  enable : Bool := false
  slot : Nat := 0
  groupId : Nat := 0
  directLimit : Nat := 128
  grantWindow : Nat := 256
  grantSize : Nat := 64
  robTimeout : Nat := 20
  deriving DecidableEq, Repr

/-- Dvorob Link: the octal groups and what crosses them. -/
structure Fabric where
  cfg : FabCfg := {}
  ports : Tab FabPort := []
  /-- Streams sent: next SEQ and CUM_CELLS, by the stream's key. -/
  txStreams : Tab (Nat × Nat) := []
  rxStreams : Tab RxStream := []
  /-- Remote VOQs that have asked for grants (R318): backlog and the cells of the head frame, by slot x 2^20 + region x 2^17 + VOQ number. -/
  requests : Tab (Nat × Nat) := []
  /-- Cells granted and not yet received, and received and not yet transmitted, by egress pipeline (R319). -/
  granted : Tab Nat := []
  received : Tab Nat := []
  /-- Ports of other members that are down: slot x 256 + port. -/
  remoteDown : List Nat := []
  /-- Ports of other members that PORT_STATE cells have named: slot x 256 + port. -/
  remotePorts : List Nat := []
  /-- Members that have become unreachable, whose VOQs are held (R304). -/
  downSlots : List Nat := []
  /-- POISON_SENT of the streams whose frames this device has sent or relayed, by ((source x 32 + destination) x 16 + pipeline) x 8 + TC. -/
  poisonSent : Tab Nat := []
  unreach : Nat := 0
  /-- Slots that HELLO or REACH has named. -/
  members : List Nat := []
  /-- Device IDs of slots whose learning messages have come over the link, by slot (R265). -/
  devices : Tab Nat := []
  /-- Cells sent, in order: octal group and cell. -/
  sent : List (Nat × Cell) := []
  /-- OCF and learning messages in segments, by slot: index of the latest segment. -/
  segments : Tab Nat := []
  deriving DecidableEq, Repr

/-- The Basin and its queues. -/
structure BufState where
  cfg : BufCfg := {}
  shadow : BufCfg := {}
  voqs : Tab Voq := []
  /-- Ingress pool cells by region, and by region x 2^16 + port field. -/
  ingress : Tab Nat := []
  pend : Tab Nat := []
  /-- Headroom cells and U(p, k), by 8 x port field + priority. -/
  headroom : Tab Nat := []
  u : Tab Nat := []
  /-- XOFF has been sent for a (port, priority). -/
  xoff : List Nat := []
  /-- Shared-pool cells and fabric receive cells in use, by region. -/
  shared : Tab Nat := []
  fabRx : Tab Nat := []
  /-- Copies left of each multicast frame. -/
  copies : Tab Nat := []
  nextShared : Nat := 0
  /-- Held system ports: slot x 256 + port. -/
  hold : List Nat := []
  /-- Free-page allocator: pages in use, by region x 2^22 + page. -/
  pages : List Nat := []
  /-- NO_VOQ by region, discards by 8 x region + TC. -/
  noVoq : Tab Nat := []
  discards : Tab Nat := []
  inDiscard : Tab Nat := []
  headroomOverrun : Tab Nat := []
  wdDiscard : Tab Nat := []
  downDiscard : Tab Nat := []
  lingerDiscard : Tab Nat := []
  txAbort : Tab Nat := []
  mcCopyDiscard : Nat := 0
  lagNoMember : Nat := 0
  deriving DecidableEq, Repr

/-- A gate configuration (R354, R355). -/
structure GateCfg where
  entries : List (Nat × Nat)
  cycleTime : Nat
  base : Nat
  deriving DecidableEq, Repr

/-- The gates of a port. -/
structure Gates where
  /-- Administrative entries written; an unlisted one is GATES 0xFF, INTERVAL 1,000. -/
  admin : Tab (Nat × Nat) := []
  oper : Option GateCfg := none
  pending : Option GateCfg := none
  /-- Change instant, in estate nanoseconds. -/
  change : Nat := 0
  unsyncOpen : Bool := false
  /-- Entry in force. -/
  entry : Nat := 0
  resync : Nat := 0
  deriving DecidableEq, Repr

/-- A token bucket (R341): tokens in 1/(8 x 10^6) bytes, refilled to a local time. -/
structure Shaper where
  rate : Nat
  burst : Nat
  tokens : Int := 0
  at_ : Nat := 0
  /-- It waits in a calendar wheel: coarse or fine, slot, and the number of the fine slot, of all since time 0, in which it becomes due. -/
  wheel : Option (Bool × Nat × Nat) := none
  deriving DecidableEq, Repr

/-- An egress queue. -/
structure EgQueue where
  tag : Nat := 0
  /-- It held a frame, and was eligible, when last looked at (R338). -/
  backlogged : Bool := false
  eligible : Bool := false
  shaper : Option Shaper := none
  /-- Replication queue (R332). -/
  repl : List TxFrame := []
  /-- Fabric receive queue. -/
  fabric : List TxFrame := []
  /-- Source served last. -/
  turn : Nat := 0
  /-- Paused since a local time (R301). -/
  paused : Option Nat := none
  /-- The watchdog of R302 discards. -/
  watchdog : Bool := false
  sent : Nat := 0
  sentBytes : Nat := 0
  latOver : Nat := 0
  oversize : Nat := 0
  latLocal : Nat × Nat := (0, 0)
  latFabric : Nat × Nat := (0, 0)
  deriving DecidableEq, Repr

/-- An egress port. -/
structure EgPort where
  strictMask : Nat := 0
  lenAdj : Int := 20
  weights : List Nat := List.replicate 8 1
  shaper : Option Shaper := none
  latThreshold : Nat := 0
  v : Nat := 0
  gates : Gates := {}
  /-- Frames that have crossed to the port, oldest first; the first is in transmission. -/
  tx : List TxFrame := []
  deriving DecidableEq, Repr

/-- An egress pipeline. -/
structure EgPipe where
  turn : Nat := 0
  /-- Frames granted that have still to cross, oldest first. -/
  granted : List TxFrame := []
  /-- Source served last by the replication engine, by TC. -/
  replTurn : Tab Nat := []
  deriving DecidableEq, Repr

/-- A policer (Table 7-8): tokens in 1/(8 x 10^6) bytes. -/
structure Policer where
  mode : Nat := 0
  cir : Nat := 0
  cbs : Nat := 0
  pir : Nat := 0
  ebs : Nat := 0
  flags : Nat := 0
  lenAdj : Int := 0
  yellowAct : Nat := 0
  redAct : Nat := 2
  markDscp : Nat := 0
  c : Nat := 0
  e : Nat := 0
  at_ : Nat := 0
  /-- Frames and bytes green, yellow, red; frames dropped. -/
  counts : List Nat := [0, 0, 0, 0, 0, 0, 0]
  deriving DecidableEq, Repr

/-- Egress scheduling. -/
structure EgressState where
  pipes : Tab EgPipe := []
  ports : Tab EgPort := []
  /-- By 8 x port field + TC. -/
  queues : Tab EgQueue := []
  /-- By region x 2^16 + index. -/
  policers : Tab Policer := []
  /-- High-water marks (Table 7-3) but for the latencies: value and estate time in ns. -/
  voqCells : Tab (Nat × Nat) := []
  sharedLow : Tab (Nat × Nat) := []
  ingressHigh : Tab (Nat × Nat) := []
  headroomHigh : Tab (Nat × Nat) := []
  deriving DecidableEq, Repr

end Sys2Proof.Machine
end

