-- ==== Sys2Proof/Machine/State/CommandPart.lean ====
section
/-! DEFINITION. State of the command protocol, the roles, the audit ring, boot and faults (chapters 9, 10, 15). A field's default is its
value after PORST_N. -/

namespace Sys2Proof.Machine

/-- The results of a reply: each field's size in bytes and its value, in order. -/
abbrev Results := List (Nat × Nat)

/-- A reply or a completion (R402, R424). -/
structure Reply where
  opcode : Nat
  /-- The command whose header the reply repeats. -/
  cmd : Ocf
  /-- The reply's own ROLE: the command's, or 0 when its MAC was not verified. -/
  role : Nat
  flags : Nat
  epoch : Nat
  status : Nat
  detail : Nat
  results : Results
  mac : Option Bytes
  deriving DecidableEq, Repr

/-- A kept reply with the frame it answered (R418). -/
structure Kept where
  opcode : Nat
  cmd : Ocf
  reply : Reply
  /-- The key that verified the command (R445). -/
  key : Option Bytes
  deriving DecidableEq, Repr

/-- A sequence window (R417). -/
structure Window where
  h : Nat := 0
  map : Nat := 0
  /-- Newest first, at most 8. -/
  kept : List Kept := []
  deriving DecidableEq, Repr

/-- A commit group (R426). -/
structure Group where
  sender : Nat
  timeout : Nat
  members : List Instr := []
  /-- Parameter bytes of the members. -/
  bytes : Nat := 0
  deriving DecidableEq, Repr

/-- A command that has replied 0x0001 (R424, R425). -/
structure PendCmd where
  opcode : Nat
  cmd : Ocf
  sender : Nat
  /-- The key that verified the command. -/
  key : Option Bytes
  /-- Host resets of its channel when the command was written (R474). -/
  hostGen : Nat
  /-- It changes state, so its completion enters the audit ring (Table 10-8). -/
  audited : Bool
  /-- Final status, detail and results, when it has completed. -/
  final : Option (Nat × Nat × Results) := none
  /-- How many times its completion has been sent. -/
  sends : Nat := 0
  deriving DecidableEq, Repr

/-- A table command that has taken effect but for the replicas that are not ready (R30, Table 15-4): the answer that it gives once they are. -/
structure TableWait where
  opcode : Nat
  cmd : Ocf
  key : Option Bytes
  hostGen : Nat
  audited : Bool
  status : Nat
  detail : Nat
  results : Results
  /-- Its place in the pending list, when it has replied 0x0001. -/
  pend : Option Nat := none
  deriving DecidableEq, Repr

/-- A frame in the command intake, and the host resets of its channel when it was written (R474). -/
structure IntakeEntry where
  opcode : Nat
  cmd : Ocf
  hostGen : Nat
  deriving DecidableEq, Repr

/-- A frame that firmware originates and that waits for the host port's charge (R657): egress port, traffic class, bytes without FCS. -/
structure OriginFrame where
  port : Nat
  tc : Nat
  data : Bytes
  deriving DecidableEq, Repr

/-- Command protocol state. -/
structure OcfState where
  epoch : Nat := 0
  /-- The flash write of the EPOCH record failed: only SYS_IDENTITY is accepted (R415). -/
  identityOnly : Bool := false
  /-- Frames in the command intake, oldest first (R409). -/
  intake : List IntakeEntry := []
  intakeDropped : Nat := 0
  segLost : Nat := 0
  noReplyFailed : Nat := 0
  /-- Rejections by status code. -/
  rejected : Tab Nat := []
  /-- Windows by sender or ROLE 0 channel, the most recently used first (R417, R419). -/
  windows : List (Nat × Window) := []
  /-- Windows of the estate-domain key by SENDER (R420). -/
  estateWindows : Tab Window := []
  floors : Tab Nat := []
  groups : Tab Group := []
  pend : Tab PendCmd := []
  nextPend : Nat := 1
  /-- Table commands that wait for a replica, oldest first. -/
  tableWaits : List TableWait := []
  stationMac : Nat := 0
  groupMac : Nat := 0x0B4F48000000
  replyTc : Nat := 7
  deviceId : Nat := 0
  /-- The frame held in Dormant mode (R410). -/
  held : Option (Nat × Ocf) := none
  /-- Frames to originate, oldest first (R657). -/
  origin : List OriginFrame := []
  /-- Replies for the Dvorob Link: destination slot and frame bytes (R408). -/
  fabricOut : List (Nat × Bytes) := []
  /-- Every reply and completion that the device has sent, in order. -/
  sent : List Reply := []
  deriving DecidableEq, Repr

/-- The life-cycle states (Table 10-3). -/
inductive Lifecycle where
  | factory | field | returned | void
  deriving DecidableEq, Repr

/-- An audit entry (Table 10-7) but for its 16 reserved bytes. -/
structure AuditEntry where
  entryNo : Nat
  timeS : Nat
  timeNs : Nat
  kind : Nat
  flags : Nat
  epoch : Nat
  role : Nat
  keyId : Nat
  sender : Nat
  opcode : Nat
  status : Nat
  seq : Nat
  channel : Nat
  data : Nat
  digest : Nat
  prevLink : Nat
  deriving DecidableEq, Repr

/-- The audit ring (R456 to R460). -/
structure Audit where
  /-- The most recent entries, oldest first, at most 4,096. -/
  ring : List AuditEntry := []
  /-- ENTRY_NO of the newest entry; 0 before the first. -/
  last : Nat := 0
  /-- LINK of the newest entry. -/
  head : Nat := 0
  exported : Nat := 0
  overwritten : Nat := 0
  hold : Bool := false
  /-- Entries held back while the ring is held full, oldest first; each takes its number and its PREV_LINK when it enters (R460). -/
  heldBack : List AuditEntry := []
  deriving DecidableEq, Repr

/-- The key store, life cycle and audit ring. -/
structure RoleState where
  /-- ACTIVE keys by slot 4 x ROLE + KEY_ID (R442). -/
  keys : Tab Bytes := []
  hostAccess : Nat := 0
  macFail : Tab Nat := []
  /-- Local times of the latest MAC failures of each role, newest first, at most 64 (R448). -/
  failTimes : Tab (List Nat) := []
  /-- Failures since the latest AUTH_FAIL entry, and the local time of that entry. -/
  failSince : Nat := 0
  lastAuthFail : Option Nat := none
  lifecycle : Lifecycle := .factory
  audit : Audit := {}
  deriving DecidableEq, Repr

/-- Persistent settings of the boot flash (R605); none where the flash holds no such setting. -/
structure Settings where
  hostAccess : Option Nat := none
  deviceId : Option Nat := none
  /-- STATION_MAC, GROUP_MAC, REPLY_TC. -/
  intake : Option (Nat × Nat × Nat) := none
  auditHold : Option Nat := none
  /-- CAP_FLOOR, CAP_CEILING, MAINT_PERMILLE, HBM_C_FLOOR, TJ_WARN, SHED_NOTICE. -/
  pwrLimits : Option (List Nat) := none
  pwrCap : Option Nat := none
  /-- ENABLE, SLOT, GROUP_ID, DIRECT_LIMIT, GRANT_WINDOW, GRANT_SIZE, ROB_TIMEOUT. -/
  fabric : Option (List Nat) := none
  /-- WIDTH and RATE of each octal group that is a Dvorob Link port. -/
  fabricLinks : Tab (Nat × Nat) := []
  deriving DecidableEq, Repr

/-- Fuses and boot flash. DESIGN CHOICE, unsafe: log entry 35. -/
structure Flash where
  -- fuses
  /-- HBM capacity and temperature grade of the ordering code (Table 0-1). -/
  h72 : Bool := true
  extended : Bool := false
  stepping : Nat := 1
  serial : Nat := 0
  lifecycle : Lifecycle := .factory
  /-- Earlier entries to FIELD. -/
  fieldEntries : Nat := 0
  makerKey : Bytes := List.replicate 32 0#8
  rollbackFloor : Nat := 0
  /-- Revoked key-hash slots, one bit each. -/
  revoked : Nat := 0
  -- boot flash
  imageA : List (Nat × Byte) := []
  imageB : List (Nat × Byte) := []
  /-- Copy B is preferred. -/
  preferB : Bool := false
  /-- Sealed copy of the OPERATOR and INSTALLER slots. -/
  keys : Tab Bytes := []
  epoch : Nat := 0
  identityMac : Nat := 0
  subsystem : Nat := 0
  /-- The OUI of the member TLV (R595). -/
  oui : Nat := 0
  settings : Settings := {}
  /-- Retired hardware cells: kind and index. -/
  retired : List (Nat × Nat) := []
  /-- FAULT_RECORD_CLEAR has been accepted and takes effect at the next reset. -/
  clearRetired : Bool := false
  wipeDone : Bool := false
  /-- Audit entries written to the flash, oldest first, and the reservation of R458. -/
  audit : List AuditEntry := []
  reservation : Nat := 0
  deriving DecidableEq, Repr

/-- A fault log entry (R624). -/
structure FaultLogEntry where
  timeS : Nat
  timeNs : Nat
  level : Nat
  kind : Nat
  index : Nat
  cause : Nat
  action : Nat
  deriving DecidableEq, Repr

/-- Boot, readiness and faults (chapter 15). DESIGN CHOICE, safe: log entry 132. -/
structure BootState where
  stage : Nat := 0
  copyB : Bool := false
  failReason : Nat := 0
  resetCause : Nat := 1
  prevTrip : Bool := false
  /-- The cause of a warm reset that a command or an event has called for and that has not begun (R434, R451, R542). -/
  resetDue : Option Nat := none
  /-- A thermal trip has occurred and the PORST_N that ends it has not (R603). -/
  tripped : Bool := false
  ready : Nat := 0
  failed : Nat := 0
  /-- Local times of the chip machine checks of the last 3,600 s. -/
  mcTimes : List Nat := []
  faultRec : Bytes := []
  /-- The device is in the safe state (R622). -/
  safe : Bool := false
  /-- It stays there (R623). -/
  heldSafe : Bool := false
  -- hardware cells
  /-- Error event times of each cell (kind x 2^32 + index), newest first, at most 255. -/
  events : Tab (List Nat) := []
  /-- Retired cells. -/
  retired : List (Nat × Nat) := []
  /-- N and WINDOW_MS by kind where FAULT_POLICY_WRITE set them. -/
  policy : Tab (Nat × Nat) := []
  /-- Spare rows used by macro. -/
  spares : Tab Nat := []
  /-- The most recent log entries, oldest first, at most 1,024. -/
  log : List FaultLogEntry := []
  /-- Injected errors to come: kind, unit, severity, count (R626). -/
  injected : List (Nat × Nat × Nat × Nat) := []
  -- pins
  porstHigh : Bool := true
  sysrstHigh : Bool := true
  /-- Power-good inputs PG_AON, PG_CORE, PG_SD, PG_HBM as bits 0 to 3. -/
  powerGood : Nat := 15
  sysclk : Bool := true
  /-- The SMBus target's byte pointer, when a transaction is open. -/
  smbPointer : Option Nat := none
  deriving DecidableEq, Repr

end Sys2Proof.Machine
end

