-- ==== Sys2Proof/Machine/State/EnginePart.lean ====
section
/-! DEFINITION. State of the Fumarole engines and of Geyser (chapter 12). A field's default is its value after PORST_N. -/

namespace Sys2Proof.Machine

/-- State of an engine as FUM_STATUS reports it. -/
inductive EngineState where
  | idle | running | waiting | stopped | retired | off
  deriving DecidableEq, Repr

/-- A memory operation that is outstanding (Table 12-4): its code, address and journal entry. -/
structure MemOp where
  code : Nat
  addr : Nat
  line : Nat
  mask : Nat := 0
  /-- Bytes to write, or operands. -/
  data : Bytes := []
  arg : Nat := 0
  deriving DecidableEq, Repr

/-- What a job carries from engine to engine (R517). -/
structure EngineCtx where
  x : List Nat := List.replicate 16 0
  lines : List Bytes := List.replicate 4 (List.replicate 256 0#8)
  cnt : Nat := 0
  /-- Write journal: operation, address, burst mask. -/
  journal : List (Nat × Nat × Nat) := []
  /-- Lock set: partition x 2^24 + offset. -/
  locks : List Nat := []
  /-- The region whose flow engine has granted the lock set, and the one that has been asked for it. -/
  held : Option Nat := none
  lockReq : Option Nat := none
  deriving DecidableEq, Repr

/-- A Fumarole engine (R503, R509). -/
structure Engine where
  /-- Idle, running, waiting or stopped; what is retired or off follows from its cell and its cluster. -/
  state : EngineState := .idle
  upc : Nat := 0
  stack : List Nat := []
  ctx : EngineCtx := {}
  zero : Bool := false
  carry : Bool := false
  mtch : Bool := false
  slotFree : Bool := false
  memError : Bool := false
  ops : List MemOp := []
  /-- Local time at which its WAIT began. -/
  waitStart : Option Nat := none
  /-- Parity errors of the word at `upc` in a row. -/
  retries : Nat := 0
  /-- Result of a job that has ended and whose completion Geyser has still to record. -/
  finished : Option Nat := none
  parityRetry : Nat := 0
  checks : Nat := 0
  /-- The latest record of R517: cause, upc, nanoword address, handle. -/
  record : Option (Nat × Nat × Nat × Nat) := none
  deriving DecidableEq, Repr

/-- STATE of a work item (Table 12-7). -/
inductive ItemState where
  | delayed | ready | running | done | cancelled
  deriving DecidableEq, Repr

/-- What a bulk insert has done: blocks taken, inserted, existed, failed, and the first failure's number and status (R165). -/
structure BulkCount where
  next : Nat := 0
  inserted : Nat := 0
  existed : Nat := 0
  failed : Nat := 0
  first : Option (Nat × Nat) := none
  deriving DecidableEq, Repr

/-- A block has ended, with its status and results: bit 0 of RESULT says that its record existed. -/
def BulkCount.take (c : BulkCount) (n status : Nat) (res : List (Nat × Nat)) : BulkCount :=
  let c := { c with next := n + 1 }
  if status != 0 then { c with
    failed := c.failed + 1
    first := c.first.or (some (n, status)) }
  else if (res.drop 2).head? = some (1, 1) then { c with existed := c.existed + 1 }
  else { c with inserted := c.inserted + 1 }

/-- A work item that is not FREE (Table 12-7). -/
structure WorkItem where
  gen : Nat
  state : ItemState
  engine : Bool
  prio : Nat
  activity : Nat
  cls : Nat
  restart : Bool := false
  chainEn : Bool := false
  hostJob : Bool := false
  cancelReq : Bool := false
  regionMask : Nat := 15
  due : Nat := 0
  entry : Nat := 0
  arg : Nat := 0
  chain : Nat := 0
  result : Nat := 0
  runNs : Nat := 0
  /-- Local time of its grant. -/
  started : Nat := 0
  /-- It has run past its activity's ITEM_LIMIT (R533). -/
  overran : Bool := false
  /-- What a restarted job takes up (R517). -/
  ctx : Option EngineCtx := none
  /-- A host job: its parameters, buffer, and the pending list's id (R537). -/
  job : JobParams := .other
  bufAddr : Nat := 0
  bufLen : Nat := 0
  pendId : Nat := 0
  /-- What a host job that has done its work completes with: status, detail and results. -/
  ending : Option (Nat × Nat × List (Nat × Nat)) := none
  /-- A delayed command, with the key that verified its frame. -/
  cmd : Option Instr := none
  frameKey : Option Bytes := none
  /-- Its command or block waits in a flow engine; and what a bulk insert has done. -/
  waits : Bool := false
  bulk : BulkCount := {}
  deriving DecidableEq, Repr

/-- An activity (Table 12-9). -/
structure Activity where
  budget : Nat
  limit : Nat
  deriving DecidableEq, Repr

/-- The default activities. -/
def defaultActivities : List Activity :=
  [⟨800, 200⟩, ⟨0, 100⟩, ⟨0, 20⟩, ⟨400, 20⟩, ⟨400, 10⟩, ⟨800, 20⟩, ⟨100, 50⟩, ⟨0, 50⟩, ⟨0, 50⟩, ⟨800, 50⟩, ⟨400, 100⟩, ⟨200, 20⟩,
   ⟨0, 100⟩, ⟨0, 100⟩, ⟨0, 100⟩, ⟨0, 100⟩]

/-- COST and MIN_SHARE of classes 0 to 7 (Table 12-8). -/
def defaultClasses : List (Nat × Nat) :=
  [(0, 0), (400, 200), (500, 160), (300, 40), (400, 0), (300, 0), (300, 0), (300, 0)]

/-- Fumarole and Geyser. -/
structure EngineStateAll where
  engines : Tab Engine := []
  /-- Contents of the microstore and nanostore that the running image gives (R504); a word not listed is free. -/
  micro : Tab Nat := []
  nano : Tab Nat := []
  /-- LPM and exact-table words written by TBL_WRITE, by address. -/
  tables : Tab Bytes := []
  jobCounters : Tab Nat := []
  -- Geyser
  items : Tab WorkItem := []
  /-- GEN of each descriptor that has been used. -/
  gens : Tab Nat := []
  /-- Delayed items in the order of their insertion. -/
  delayed : List Nat := []
  /-- Ready items by priority level, in ready order. -/
  ready : Tab (List Nat) := []
  /-- The item that each executor runs, and the local time at which an executor without one asked for work; core c is executor c, engine e is
  executor 32 + e. -/
  runs : Tab Nat := []
  asked : Tab Nat := []
  classes : List (Nat × Nat) := defaultClasses
  nextClasses : List (Nat × Nat) := defaultClasses
  activities : List Activity := defaultActivities
  nextActivities : List Activity := defaultActivities
  grant : Nat := 0
  balance : Int := 0
  use : List Nat := List.replicate 8 0
  actUse : List Nat := List.replicate 16 0
  /-- Classes counted as deferred in this period, and deferrals by class. -/
  deferredNow : Nat := 0
  deferrals : List Nat := List.replicate 8 0
  /-- Classes that have held an energy-eligible ready item throughout the period. -/
  heldReady : Nat := 0
  spill : List Nat := List.replicate 16 0
  overrun : List Nat := List.replicate 16 0
  readyCancelled : Nat := 0
  cancelled : Nat := 0
  maskOverride : Nat := 0
  deriving DecidableEq, Repr

end Sys2Proof.Machine
end

