-- ==== Sys2Proof/Machine/State/FlowPart.lean ====
section
/-! DEFINITION. State of the flow engines: partitions, Tarn, Sinter, the overflow store, templates and services (chapters 3 and 4). Deep Lake
buckets lie in HBM (HbmPart). A field's default is its value after PORST_N. -/

namespace Sys2Proof.Machine

/-- A flow partition (Table 3-1). -/
structure Partition where
  anchored : Bool
  wide : Bool
  adaptive : Bool
  groupHomed : Bool
  nbrLog2 : Nat
  seedA : Nat
  seedB : Nat
  ovfQuota : Nat
  sweepPeriod : Nat
  ageClass : Nat
  homeMap : List Nat
  base : Nat
  /-- First overflow-store index of its stash in each region; empty for a bucketed partition. -/
  stash : List Nat
  homeUnreach : Nat := 0
  /-- Local time at which the sweep last began, and the period it achieved, in ns (R158). -/
  sweepAt : Option Nat := none
  achieved : Nat := 0
  /-- HOME_MAP entries that take force at an estate time: time, start, devices, the earliest first (R220). -/
  homeSwitch : List (Nat × Nat × List Nat) := []
  deriving DecidableEq, Repr

/-- A flow record (Tables 3-3 and 3-4); a companion's `pkey` holds the primary key in the place of its activity fields (R117). -/
structure Rec where
  wide : Bool
  comp : Bool := false
  static : Bool := false
  partition : Nat
  template : Nat
  zone : Nat
  keyType : Nat
  ageClass : Nat := 0
  ctState : Nat := 0
  orient : Bool := false
  replySeen : Bool := false
  expState : Nat := 0
  tarnOnly : Bool := false
  gen : Nat := 0
  key : Nat
  service : Nat := 0
  first : Nat := 0
  last : Nat := 0
  pkts : Nat := 0
  bytes : Nat := 0
  tcpFlags : Nat := 0
  ctAux : Nat := 0
  templateData : Nat := 0
  rpkts : Nat := 0
  rbytes : Nat := 0
  pkey : Nat := 0
  deriving DecidableEq, Repr

/-- A Tarn way, or the pair of a wide record, which stands under its even way (R130). -/
structure TarnWay where
  img : Rec
  locator : Nat
  dirty : Bool := false
  pin : Bool := false
  deriving DecidableEq, Repr

/-- A Tarn set. -/
structure TarnSet where
  ways : Tab TarnWay := []
  plru : Nat := 0
  deriving DecidableEq, Repr

/-- A Sinter entry (R137). -/
structure SinterEntry where
  locator : Nat
  wide : Bool
  /-- Hash B [15:0] of the record's key. -/
  tag : Nat
  dpkts : Nat := 0
  dbytes : Nat := 0
  last : Nat := 0
  tcpFlags : Nat := 0
  drpkts : Nat := 0
  drbytes : Nat := 0
  deriving DecidableEq, Repr

/-- A record in the write-back buffer (R133, R135): whole, or its state fields alone; or the invalidation of its slot, where the record has been
deleted or moved before its write was accepted (R134). -/
structure WbItem where
  locator : Nat
  img : Rec
  whole : Bool
  gone : Bool := false
  deriving DecidableEq, Repr

/-- A Sinter log entry (Table 3-6), whose bytes lie in the log area. -/
structure LogEntry where
  locator : Nat
  tag : Nat
  wide : Bool
  reply : Bool
  tcpFlags : Nat
  last : Nat
  dpkts : Nat
  dbytes : Nat
  drpkts : Nat
  drbytes : Nat
  /-- LOG_SEQ. -/
  seq : Nat
  deriving DecidableEq, Repr

/-- Where a flow result goes: a pipeline's descriptor, another device's, the outcome of a deferred operation of a region and template, or
nowhere. -/
inductive Origin where
  | pipe (p id : Nat)
  | remote (slot id : Nat)
  | deferred (region template : Nat)
  | none
  deriving DecidableEq, Repr

/-- What an operation does that no request asks for: the work of a command on its key (R152 to R154, R165), a record of FLOW_FLUSH or of
PARTITION_DELETE, the aging check (R157), and a relocation (R126 to R129): of an overflow-store entry into a bucket, or of a stash entry along a path
of buckets, slots and the records' other buckets. -/
inductive FlowWork where
  | put (b : FlowBlock) (create : Bool)
  | read (settle : Bool)
  | delete
  | flush (p : FlowFlushP) (t0 : Nat)
  | purge
  | age
  | fill (index bucket : Nat)
  | relocate (index : Nat) (path : List (Nat × Nat × Nat))
  deriving DecidableEq, Repr

/-- A flow operation (R150): what its request asks for, on behalf of a packet, of a deferred operation (R184), of a command or of the engine
itself. -/
structure FlowOp where
  origin : Origin := .none
  partition : Nat
  req : FlowReq
  /-- Its template as it was when the operation came to the engine (R170). -/
  tmpl : Option TemplateP := none
  work : Option FlowWork := none
  /-- The command that waits for it, by its number. -/
  cmd : Option Nat := none
  /-- Locks beyond those of its key: of a relocation's path. -/
  locks : List Nat := []
  /-- Reads that SETTLE has repeated (R153). -/
  repeats : Nat := 0
  /-- HBM reads it has completed, and the one that is outstanding. -/
  reads : Nat := 0
  issued : Option Nat := none
  /-- A deletion whose Sinter entry is written back, or a read with SETTLE, waits until replay passes this log position (R153, R154). -/
  upTo : Option Nat := none
  /-- Its load-balancer slot lay in an uncorrectable burst (Table 8-6). -/
  slotLost : Bool := false
  /-- Local time at which the engine received it. -/
  at_ : Nat := 0
  deriving DecidableEq, Repr

/-- A deferred operation (R183): its request, whose stamp gives the flow time. -/
structure Deferred where
  partition : Nat
  req : FlowReq
  queuedAt : Nat
  deriving DecidableEq, Repr

/-- The command that waits for flow operations answers a frame, completes an entry of the pending list, or is a job's. -/
inductive FlowReply where
  | frame (opcode : Nat) (cmd : Ocf) (key : Option Bytes) (hostGen : Nat) (audited : Bool)
  | pend (id : Nat)
  | job (handle opcode : Nat) (cmd : Ocf) (audited : Bool)
  | bulk (handle index : Nat)
  deriving DecidableEq, Repr

/-- A command whose flow operations wait: where its answer goes, the partition of a PARTITION_DELETE, the operations that have not ended, and the
records deleted. -/
structure FlowCmd where
  reply : FlowReply
  purge : Option Nat := none
  left : Nat := 1
  deleted : Nat := 0
  deriving DecidableEq, Repr

/-- Flow state of a region. DESIGN CHOICE, unsafe: log entry 33. -/
structure FlowRegion where
  tarn : Tab TarnSet := []
  sinter : Tab (List SinterEntry) := []
  /-- Overflow store and stashes, by index; a wide record under its even index. -/
  ovf : Tab Rec := []
  wb : List WbItem := []
  log : List LogEntry := []
  /-- Entries appended and entries replayed since reset. -/
  logSeq : Nat := 0
  replayed : Nat := 0
  groups : Tab Nat := []
  queue : List FlowOp := []
  /-- Accepted operations that wait for an HBM read, oldest first. -/
  busy : List FlowOp := []
  /-- Reads with SETTLE that wait for replay, and hold no lock (R153). -/
  settling : List FlowOp := []
  /-- Locators of Sinter entries whose write-back found no route: it is tried again in the next budget period (R141). -/
  retry : List Nat := []
  deferred : List Deferred := []
  sinceDeferred : Nat := 0
  /-- Creation credit in 1/100,000 creations, and the local time to which it is refilled (R179). -/
  credit : Nat := 409600000
  creditAt : Nat := 0
  hits : Nat := 0
  misses : Nat := 0
  starved : Tab Nat := []
  recLost : Nat := 0
  integrity : Nat := 0
  staleComp : Nat := 0
  tarnCorrected : Nat := 0
  tarnLost : Nat := 0
  /-- Stash records whose relocation jobs wait, by index (R125). -/
  jobs : List Nat := []
  /-- Next way that migration looks at, by 16 x set + way, and its end (R163). -/
  migrateAt : Nat := 0
  migrated : Bool := false
  unplaced : Nat := 0
  /-- Health accumulators by backend: handshakes, failures, sum and largest time (R212). -/
  health : Tab (Nat × Nat × Nat × Nat) := []
  deriving DecidableEq, Repr

/-- A NAT pool (Table 4-9). -/
structure NatPool where
  family : Nat
  addrCount : Nat
  portLo : Nat
  portHi : Nat
  addrs : Tab Nat := []
  /-- Regions whose rings are still being filled, one bit each, and the entries written in each region's ring. -/
  filling : Nat := 15
  filled : Tab Nat := []
  /-- The pending command that the fill completes. -/
  fillId : Option Nat := none
  deriving DecidableEq, Repr

/-- A region's ring and buffer of a NAT pool (R199, R200): the initial sequence from `next` on, then the ports returned, oldest first. -/
structure NatRing where
  next : Nat := 0
  returned : List (Nat × Nat) := []
  buffer : List (Nat × Nat) := []
  allocated : Nat := 0
  leaked : Nat := 0
  exhausted : Nat := 0
  deriving DecidableEq, Repr

/-- A member of a load-balancer pool as committed (R206, R208). -/
structure LbMember where
  backend : Nat
  wbase : Nat
  wmin : Nat
  state : Nat
  /-- Adapted weight (R214). -/
  weight : Nat
  deriving DecidableEq, Repr

/-- The two slot tables of a pool in a region's table area (R207): an empty list is a table of NONE, and 0xFFFF is NONE. -/
structure SlotTables where
  active : List Nat := []
  shadow : List Nat := []
  deriving DecidableEq, Repr

/-- A load-balancer pool. -/
structure LbPool where
  /-- SLOTS in force, and SLOTS that the next commit takes (R207). -/
  slots : Nat
  nextSlots : Nat
  family : Nat
  healthPeriod : Nat
  minSamples : Nat
  failLimit : Nat
  rttFactor : Nat
  members : Tab LbMember := []
  /-- Slot tables by region. -/
  tables : Tab SlotTables := []
  /-- The last period's figures by member: n, f, mean. -/
  health : Tab (Nat × Nat × Nat) := []
  deriving DecidableEq, Repr

/-- A backend as written (Table 4-11). -/
structure Backend where
  pool : Nat
  member : Nat
  addr : Nat
  port : Nat
  wbase : Nat
  wmin : Nat
  state : Nat
  deriving DecidableEq, Repr

/-- An export record in a queue: the IPFIX template and its bytes. -/
structure ExportRec where
  template : Nat
  data : Bytes
  deriving DecidableEq, Repr

/-- An export profile (Table 4-13). -/
structure ExportProfile where
  flags : Nat
  collectorPort : Nat
  collector : Nat
  source : Nat
  sourcePort : Nat
  mtu : Nat
  odid : Nat
  rate : Nat
  burst : Nat
  activeTimeout : Nat
  templateRefresh : Nat
  flushDelay : Nat
  egressPort : Nat
  dstMac : Nat
  vlan : Nat
  tc : Nat
  dscp : Nat
  /-- The template set goes into the next message that is sent. -/
  templateDue : Bool := true
  /-- The message that is being built: whether it keeps room for the template set, and its records; and the messages that are ended. -/
  buildSet : Bool := false
  building : List ExportRec := []
  ended : List (Bool × List ExportRec) := []
  /-- Records on their way to the queue, which lies in HBM: they wait for its controllers or for budget. -/
  staged : List ExportRec := []
  /-- Token bucket in 1/8,000,000 bytes, and the local time to which it is refilled. -/
  tokens : Nat := 0
  tokensAt : Nat := 0
  sentRecords : Nat := 0
  sentMessages : Nat := 0
  dropped : Nat := 0
  skipped : Nat := 0
  deriving DecidableEq, Repr

/-- The flow tables and services. -/
structure FlowState where
  partitions : Tab Partition := []
  ageClasses : List Nat :=
    [1, 10, 100, 1000, 5000, 10000, 30000, 60000, 120000, 300000, 600000, 1800000, 3600000, 7200000, 43200000, 86400000]
  templates : Tab TemplateP := []
  regions : Tab FlowRegion := []
  /-- CREATE_LIMIT credits by 4 x template + region: credit in 10^-6 creations, refilled to a local time. -/
  limits : Tab (Nat × Nat) := []
  /-- Service counters of Table 4-4, by 256 x (4 x template + region) + counter. -/
  counters : Tab Nat := []
  pools : Tab NatPool := []
  /-- By 4 x pool + region. -/
  rings : Tab NatRing := []
  lbPools : Tab LbPool := []
  backends : Tab Backend := []
  profiles : Tab ExportProfile := []
  /-- Requests sent to other devices of the fabric group and not yet answered, by id (R216). -/
  asked : Tab Origin := []
  nextAsk : Nat := 1
  /-- Commands whose flow operations wait, by number. -/
  cmds : Tab FlowCmd := []
  nextCmd : Nat := 1
  /-- Data records sent by Observation Domain ID (R228). -/
  odidSeq : Tab Nat := []
  deriving DecidableEq, Repr

end Sys2Proof.Machine
end

