-- ==== Sys2Proof/Machine/State/FwdPart.lean ====
section
/-! DEFINITION. State of the forwarding tables and of address learning (chapter 5). The four region replicas hold the same entries at the same
places (R237), so the tables are held once, with the HIT bits of a MAC entry by region; a replica that an update in progress has not reached is
held beside them as it stands (R30, R31). A field's default is its value after PORST_N. -/

namespace Sys2Proof.Machine

/-- A MAC entry (Table 5-3). -/
structure MacEntry where
  static : Bool := false
  pinned : Bool := false
  remote : Bool := false
  /-- HIT of each region's replica. -/
  hit : Nat := 0
  destType : Nat
  dest : Nat
  fid : Nat
  mac : Nat
  learnDev : Nat := 0
  stampS : Nat := 0
  stampNs : Nat := 0
  ageCnt : Nat := 0
  unsync : Bool := false
  /-- Local time at which it was pinned. -/
  pinnedAt : Nat := 0
  deriving DecidableEq, Repr

/-- A host entry (Table 5-4). -/
structure HostEntry where
  v6 : Bool
  hit : Bool := false
  vrf : Nat
  nexthop : Nat
  addr : Nat
  deriving DecidableEq, Repr

/-- A prefix of a VRF. -/
structure Prefix where
  vrf : Nat
  v6 : Bool
  len : Nat
  addr : Nat
  nexthop : Nat
  deriving DecidableEq, Repr

/-- A node of the LPM trie (R242). DESIGN CHOICE, safe: log entry 137. -/
structure LpmNode where
  /-- The prefixes that end within its stride: bit 2^l - 1 + v for the prefix of l bits with value v. -/
  ends : Nat := 0
  /-- Its children, by the 8 bits of the stride. -/
  kids : Nat := 0
  /-- The result array: the next hop of each bit set in `ends`, in rising order of bit. -/
  results : List Nat := []
  /-- The child array: the address of the child of each bit set in `kids`, in rising order of bit. -/
  children : List Nat := []
  deriving DecidableEq, Repr

/-- An LPM replica (R241). -/
structure LpmTrie where
  /-- Stage S0: the root pointer of each VRF and family, by 2 x VRF + family. -/
  roots : Tab Nat := []
  /-- Node memory of S1 to S16, by 2^32 x stage + address. -/
  nodes : Tab LpmNode := []
  /-- The nodes that updates have replaced and that wait for their release 256 clocks later (R246): those of each update, the oldest first. -/
  replaced : List (List Nat) := []
  deriving DecidableEq, Repr

/-- The tables of one region's replica. -/
structure Replica where
  mac : Tab MacEntry
  host : Tab HostEntry
  trie : LpmTrie
  deriving DecidableEq, Repr

/-- A next hop (Table 5-5). -/
structure NextHop where
  type : Nat
  smacIdx : Nat
  destType : Nat
  dest : Nat
  dmac : Nat
  vid : Nat
  ecmpBase : Nat
  ecmpSize : Nat
  reason : Nat
  deriving DecidableEq, Repr

/-- A learn or move event (R255): the destination is the learning port or its LAG, and the stamp the estate time of the frame's check. -/
structure LearnEvent where
  pipe : Nat
  fid : Nat
  mac : Nat
  destType : Nat
  dest : Nat
  stamp : Nat
  unsync : Bool
  deriving DecidableEq, Repr

/-- A tracked move (R261): moves counted and the window's start, in estate time. -/
structure Track where
  count : Nat
  start : Nat
  deriving DecidableEq, Repr

/-- VRF settings (R232). DESIGN CHOICE, unsafe: log entry 33. -/
structure VrfCfg where
  missNexthop : Option Nat := none
  ttlReason : Nat := 0x40
  deriving DecidableEq, Repr

/-- Layer-2 settings of a port. DESIGN CHOICE, unsafe: log entry 33. -/
structure PortL2 where
  defaultVid : Nat := 0
  learnMode : Nat := 0
  deriving DecidableEq, Repr

/-- Forwarding tables and learning. -/
structure FwdState where
  vlans : Tab Nat := []
  ports : Tab PortL2 := []
  macSeed : Nat := 0xFFFFFFFF
  hostSeed : Nat := 0xFFFFFFFF
  lsSeed : Nat := 0xFFFFFFFF
  ageTime : Nat := 300
  flapLimit : Nat := 5
  flapWindow : Nat := 1000
  pinHold : Nat := 10
  conflictWindow : Nat := 10
  /-- MAC entries by place: 4 x bucket + slot, or 524,288 + overflow index. -/
  mac : Tab MacEntry := []
  /-- Host entries by place: 4 x bucket + slot, or 262,144 + overflow index. -/
  host : Tab HostEntry := []
  /-- The prefixes that commands have written, in the order of LPM_ROUTE_NEXT. -/
  lpm : List Prefix := []
  /-- The prefixes in the form in which lookups search them (R241, R242). -/
  trie : LpmTrie := {}
  /-- Replicas that an update in progress has not reached, by region (R30, R31). -/
  behind : Tab Replica := []
  routerMacs : Tab Nat := []
  vrfs : Tab VrfCfg := []
  nexthops : Tab NextHop := []
  ecmp : Tab Nat := []
  lags : Tab (List Nat) := []
  groups : Tab McastMembers := []
  reach : Tab (Nat × Nat) := []
  -- learning
  queue : List LearnEvent := []
  tracker : Tab Track := []
  notes : List LearnEvent := []
  /-- EXCHANGED learning, its group, traffic class and ports (R264, R265). -/
  exchanged : Bool := false
  learnGroup : Nat := 0
  shareTc : Nat := 0
  sharePorts : List Nat := []
  /-- Records that wait to be sent, each with the device that it is for, none for every member; and MSG_SEQ of the next message. -/
  outbox : List (Option Nat × LearnRecord) := []
  msgSeq : Nat := 0
  /-- SEQ of the latest learning message sent (R443). -/
  lastSeq : Nat := 0
  /-- MSG_SEQ of the latest message of each sender. -/
  heard : Tab Nat := []
  /-- Counters, by a number of the counter (L2 counters of chapter 5), and by port. -/
  counts : Tab Nat := []
  portCounts : Tab Nat := []
  deriving DecidableEq, Repr

end Sys2Proof.Machine
end

