-- ==== Sys2Proof/Machine/State/HbmPart.lean ====
section
/-! DEFINITION. State of the HBM controllers (chapter 8): the memory, the budget gate, the pseudo-channels and retirement. A byte at region
address RA of region r has the address r x 2^35 + RA. A field's default is its value after PORST_N. -/

namespace Sys2Proof.Machine

/-- What completes when an access does. -/
inductive HbmUse where
  /-- The oldest waiting operation of a region's flow engine goes on. -/
  | flow (region : Nat)
  | other
  deriving DecidableEq, Repr

/-- An accepted request (R369). -/
structure HbmReq where
  region : Nat
  cls : Nat
  write : Bool
  addr : Nat
  len : Nat
  /-- Bursts it is charged (R368, R379). -/
  bursts : Nat
  use : HbmUse
  /-- Local time of its acceptance, and its latest gate time. -/
  accepted : Nat
  latest : Option Nat := none
  /-- It is drained ahead of a read (R371). -/
  drained : Bool := false
  /-- Its place in the order of acceptance (R370). -/
  seq : Nat := 0
  /-- What a read takes, as the memory stood when it was accepted. -/
  data : Bytes := []
  deriving DecidableEq, Repr

/-- A pseudo-channel (R373 to R376). -/
structure Pc where
  reads : List HbmReq := []
  writes : List HbmReq := []
  issued : List HbmReq := []
  draining : Bool := false
  /-- Flow reads issued in a row while an aged request waited, and writes issued since the latest flow read of a drain. -/
  streak : Nat := 0
  sinceRead : Nat := 0
  openRow : Tab Nat := []
  lastRow : Tab Nat := []
  pred : Tab Nat := []
  /-- Local time of the latest access to a bank. -/
  accessAt : Tab Nat := []
  /-- Local time at which the latest refresh of a bank ends. -/
  refresh : Tab Nat := []
  correctable : Nat := 0
  replays : Nat := 0
  uncorrectable : Nat := 0
  deriving DecidableEq, Repr

/-- Budget statistics of a (region, class): bursts charged, borrowed and lent, periods that left requests waiting (Table 8-7). -/
structure BudgetStat where
  charged : Nat := 0
  borrowed : Nat := 0
  lent : Nat := 0
  waiting : Nat := 0
  /-- FR refusals. -/
  refused : Nat := 0
  deriving DecidableEq, Repr

/-- A state of a controller. -/
inductive StackState where
  | off | training | ready | failed
  deriving DecidableEq, Repr

/-- The HBM controllers. -/
structure HbmState where
  mem : List Host.Cell := []
  stackStates : List StackState := [.off, .off]
  /-- Failed training attempts. -/
  attempts : Tab Nat := []
  selfRefresh : Nat := 0
  /-- FR, FW, SP, TM, TL: in force, and to take force at the next period. -/
  shares : List Nat := [96, 40, 72, 16, 8]
  nextShares : List Nat := [96, 40, 72, 16, 8]
  ageLimit : Nat := 512
  nextAgeLimit : Nat := 512
  /-- C in force, and to take force at the next period (R384). -/
  ceiling : Nat := 232
  period : Nat := 0
  periodStart : Nat := 0
  /-- Own budget of the period and what is left of it, by 5 x region + class. -/
  own : Tab Nat := []
  left : Tab Nat := []
  /-- Bursts charged in the period by region, and what is left of the replay reserve (R382). -/
  charged : Tab Nat := []
  replayLeft : Tab Nat := []
  /-- Statistics of the current period and of the last 1,024, newest first. -/
  stats : Tab BudgetStat := []
  statHist : List (Tab BudgetStat) := []
  nextSeq : Nat := 0
  /-- Requests that wait at the gate, in acceptance order. -/
  gate : List HbmReq := []
  pcs : Tab Pc := []
  retired : List Nat := []
  /-- Retirement in progress: the pseudo-channel and the command it completes, if any; and those that wait. -/
  retiring : Option (Nat × Option Nat) := none
  retireWait : List Nat := []
  /-- Granules that the retirement in progress has moved, by region (R395). -/
  moved : Tab Nat := []
  scrubPeriod : Nat := 24
  /-- Bursts whose latest content is the poison code word (R391). -/
  poison : List Nat := []
  /-- Data of the latest read that completed for a requester outside the flow engines. -/
  readData : Bytes := []
  deriving DecidableEq, Repr

end Sys2Proof.Machine
end

