-- ==== Sys2Proof/Machine/State/HostPart.lean ====
section
/-! DEFINITION. State of the host interface (chapter 11): the PCIe function, mailboxes, doorbells, compatibility mailbox, slow-path rings,
interrupt controller and event inputs. A field's default is its value after PORST_N (Tables 11-3 to 11-11). -/

namespace Sys2Proof.Machine

/-- A message in an outbound queue (R469, R474): the words not yet read, and what CH_OUT_HEAD reports of it. -/
structure OutMsg where
  words : List Nat
  /-- CH_OUT_HEAD.LEN: words of the message when it was placed. -/
  len : Nat
  stale : Bool := false
  oldHost : Bool := false
  deriving DecidableEq, Repr

/-- A word of an inbound queue: its value, its end-of-message mark, and the host resets of the channel when it was written. -/
structure InWord where
  word : Nat
  eom : Bool
  hostGen : Nat
  deriving DecidableEq, Repr

/-- A native mailbox channel (Table 11-4). -/
structure Channel where
  inQ : List InWord := []
  /-- The message in progress has lost a word and is discarded at its last word (R468). -/
  broken : Bool := false
  /-- Host resets of this channel: the reply to a message written before the latest one carries OLD_HOST (R474). -/
  hostGen : Nat := 0
  outQ : List OutMsg := []
  /-- Messages that firmware holds until the outbound queue has room for the whole of the first (R469). -/
  waiting : List OutMsg := []
  underrun : Bool := false
  ovf : Bool := false
  peerReset : Bool := false
  ovfCount : Nat := 0
  discard : Nat := 0
  flushCount : Nat := 0
  /-- The peer-reset event of R473 that firmware has received and the count it carries. -/
  peerEvent : Option Nat := none
  deriving DecidableEq, Repr

/-- The compatibility mailbox (Table 11-5). -/
structure Cmb where
  /-- CMB_DATA[0..63]; an unlisted word is 0. -/
  data : Tab Nat := []
  len : Nat := 0
  full : Bool := false
  collision : Bool := false
  rspCollision : Bool := false
  rspTrunc : Bool := false
  rspValid : Bool := false
  collCount : Nat := 0
  rsp : List Nat := []
  rspLen : Nat := 0
  /-- The words that firmware copied at its latest take, until their frame enters the command intake (R478). -/
  taken : Option (List Nat) := none
  deriving DecidableEq, Repr

/-- A slow-path ring (Table 11-6). -/
structure Ring where
  base : Nat := 0
  sizeLog2 : Nat := 6
  head : Nat := 0
  tail : Nat := 0
  en : Bool := false
  fault : Bool := false
  noDesc : Bool := false
  drop : Nat := 0
  deriving DecidableEq, Repr

/-- GROUP_CFG of an interrupt group (Table 11-11). -/
structure GroupCfg where
  wakeEn : Bool := false
  mask : Bool := false
  pin : Nat := 0
  holdoff : Nat := 0
  vector : Nat
  deriving DecidableEq, Repr

/-- The claim that a group has in service (R495): its source, and whether its condition held at the claim. -/
structure Service where
  source : Nat
  level : Bool
  active : Bool
  deriving DecidableEq, Repr

/-- The interrupt controller (Table 11-11). Sources and groups are numbered as bits of a word. -/
structure IntCtl where
  /-- STATUS of the 1,024 sources as one word; a level source's bit is not held here (R490). -/
  status : Nat := 0
  enable : Nat := 0
  /-- GROUP_CFG by group; an unlisted group g has VECTOR g and every other field 0. -/
  cfg : Tab GroupCfg := []
  inService : Tab Service := []
  /-- SOURCE of the latest claim of each group. -/
  lastClaim : Tab Nat := []
  badComplete : Nat := 0
  reassert : Tab Nat := []
  /-- Armed groups (R498). -/
  armed : Nat := 2 ^ 64 - 1
  /-- Groups whose hold-off timer runs. -/
  holdoffRun : Nat := 0
  deriving DecidableEq, Repr

/-- CFG of an event input (Table 11-10). A FILTER of 0 acts as 1. -/
structure EvtCfg where
  en : Bool := false
  edge : Nat := 0
  asyncEn : Bool := false
  filter : Nat := 1
  deriving DecidableEq, Repr

/-- The event inputs (Table 11-10, R492). -/
structure Evt where
  cfg : Tab EvtCfg := []
  level : Nat := 0
  async : Nat := 0
  /-- The asynchronous latches, one bit per input. -/
  latch : Nat := 0
  filterClock : Bool := true
  deriving DecidableEq, Repr

/-- An entry of the MSI-X table: address, data, vector masked. -/
structure MsixEntry where
  addr : Nat := 0
  data : Nat := 0
  masked : Bool := true
  deriving DecidableEq, Repr

/-- The host interface. DESIGN CHOICE, safe: log entry 132. -/
structure HostIf where
  -- HIF and configuration space (Tables 11-1 and 11-3)
  linkGen : Nat := 0
  linkWidth : Nat := 0
  dstate : Nat := 0
  lpm : Nat := 0
  urBar : Nat := 0
  urOffset : Nat := 0
  urCount : Nat := 0
  hostEpoch : Nat := 0
  busMaster : Bool := false
  msixEnable : Bool := false
  pmeEn : Bool := false
  pmeStatus : Bool := false
  /-- PERST_N level: true while de-asserted. -/
  perstHigh : Bool := true
  msix : Tab MsixEntry := []
  pba : Nat := 0
  /-- WAKE_N is driven low (R501). -/
  wakeLow : Bool := false
  -- mailboxes
  chan : Tab Channel := []
  h2dPend : Nat := 0
  cmb : Cmb := {}
  -- rings
  rx : Tab Ring := []
  tx : Tab Ring := []
  /-- DMA.REASON_MAP: ring of each reason code; an unlisted reason has ring 0. -/
  reasonMap : Tab Nat := []
  ringWait : Nat := 100
  /-- The transmit ring served last, for the round-robin of R486. -/
  txTurn : Nat := 7
  int : IntCtl := {}
  evt : Evt := {}
  /-- The descriptor frame of the DMA-described command in progress on each channel: its opcode and frame (R412). -/
  dmaBusy : Tab (Nat × Ocf) := []
  deriving DecidableEq, Repr

end Sys2Proof.Machine
end

