-- ==== Sys2Proof/Machine/State/PortPart.lean ====
section
/-! DEFINITION. State of the ports (R435 to R439, Tables 9-13 to 9-16), and what the device has put out at its pins. A port is named by its
16-bit port field with the slot bits 0: front port n is n, the management port 0x2000, the host port 0x4000, recirculation port p
0x6000 + p. -/

namespace Sys2Proof.Machine

/-- The mode of a front port (Table 9-14). -/
structure PortCfg where
  speed : Nat
  lanes : Nat
  laneRate : Nat
  fec : Nat
  an : Bool
  training : Bool
  adminUp : Bool
  mtu : Nat
  deriving DecidableEq, Repr

/-- Counters of a port (Table 9-15, R34, R253, R304). Priorities and traffic classes index the lists. -/
structure PortCounters where
  rxFrames : Nat := 0
  rxBytes : Nat := 0
  txFrames : Nat := 0
  txBytes : Nat := 0
  fcs : Nat := 0
  undersize : Nat := 0
  oversize : Nat := 0
  rxPause : Nat := 0
  txPause : Nat := 0
  rxPfc : Tab Nat := []
  txPfc : Tab Nat := []
  deriving DecidableEq, Repr

/-- The ports. -/
structure PortState where
  cfg : Tab PortCfg := []
  /-- Front ports whose link is up, one bit each. -/
  up : Nat := 0
  /-- Lanes with signal detect. -/
  signal : Nat := 0
  fecCorrected : Tab Nat := []
  fecUncorrected : Tab Nat := []
  counters : Tab PortCounters := []
  loopback : Tab Nat := []
  /-- PATTERN, DIR and LANE_MASK of each port under test. -/
  prbs : Tab (Nat × Nat × Nat) := []
  deriving DecidableEq, Repr

/-- A frame on the wire: its port, its bytes without FCS, and whether its FCS was inverted (R606). -/
structure SentFrame where
  port : Nat
  data : Bytes
  poisoned : Bool := false
  deriving DecidableEq, Repr

/-- A write to an optics module (Table 9-15). -/
structure OpticsWrite where
  controller : Nat
  devAddr : Nat
  bank : Nat
  page : Nat
  offset : Nat
  data : Bytes
  deriving DecidableEq, Repr

/-- A PTP message that the firmware has composed (R589): port, messageType, domainNumber and the estate time. Its frame is originated under R657. -/
structure PtpSent where
  port : Nat
  kind : Nat
  domain : Nat
  time : Nat
  deriving DecidableEq, Repr

/-- What has left the device, each list in the order of its events, and what the latest host read returned. DESIGN CHOICE, safe: log entry 7. -/
structure Outputs where
  frames : List SentFrame := []
  /-- Writes to host memory: bus address and bytes. -/
  hostWrites : List (Nat × Bytes) := []
  /-- MSI-X vectors whose messages have been sent. -/
  messages : List Nat := []
  pme : Nat := 0
  /-- Edges of timed outputs: output, level, estate time. -/
  edges : List (Nat × Bool × Nat) := []
  optics : List OpticsWrite := []
  ptp : List PtpSent := []
  readData : Nat := 0
  readUr : Bool := false
  /-- Refused writes reported through Advanced Error Reporting (R476). -/
  urReports : Nat := 0
  deriving DecidableEq, Repr

end Sys2Proof.Machine
end

