-- ==== Sys2Proof/Machine/State/PowerPart.lean ====
section
/-! DEFINITION. State of Caldera, the operating modes, the time base, PTP and discovery (chapters 13 and 14). A field's default is its value
after PORST_N. Instants and intervals of estate time are counted in 1/16 ns (R575). -/

namespace Sys2Proof.Machine

/-- The operating modes (Table 13-1). -/
inductive Mode where
  | reset | dormant | rising | full | reduced | service
  deriving DecidableEq, Repr

/-- A power domain (R545, R546). -/
inductive DomainState where
  | off | ramping | on | retention
  deriving DecidableEq, Repr

/-- A Reduced profile (Table 13-9); no cap means that it follows CAP_CEILING (R564). -/
structure Profile where
  stepLimit : Nat := 0
  cap : Option Nat := none
  octalPark : Nat := 0
  inPark : Nat := 0
  egPark : Nat := 0
  deriving DecidableEq, Repr

/-- A mode schedule entry (Table 13-10). -/
structure SchedEntry where
  action : Nat := 0
  profile : Nat := 0
  en : Bool := false
  time : Nat := 0
  cap : Nat := 0
  period : Nat := 0
  drain : Nat := 0
  deriving DecidableEq, Repr

/-- A cap action that can be undone (R557). -/
inductive CapAction where
  | lowerC
  | stepDown (region : Nat)
  deriving DecidableEq, Repr

/-- Power, thermal control and modes. -/
structure PowerState where
  mode : Mode := .reset
  target : Mode := .full
  profile : Nat := 0
  /-- The profile that a transition to Reduced mode goes to. -/
  targetProfile : Nat := 0
  /-- Rising after a wake (R570). -/
  waking : Bool := false
  /-- Between the acceptance of a transition and its end (R543, R544). -/
  moving : Bool := false
  /-- On entry to Dormant mode, the flushes of R149 are complete. -/
  flushed : Bool := false
  /-- Mode and profile held before Dormant. -/
  before : Mode × Nat := (.full, 0)
  drain : Nat := 0
  domains : Tab DomainState := [(95, .on)]
  /-- Domains that have still to be powered: 94 and 84 for the boot ROM (Table 15-3), then the others in the order of R608. -/
  toPower : List Nat := [94, 84]
  step : Tab Nat := []
  /-- Step changes in progress: the step each region is going to (R550). -/
  stepping : Tab Nat := []
  /-- Latest sensor readings in 0.25 degrees C; none before the first sample. -/
  sensors : List Int := []
  hbmTemp : List Int := []
  /-- Power of the last 10 periods in W, newest first. -/
  powerHist : List Nat := []
  capFloor : Nat := 200
  capCeiling : Nat := 560
  maintPermille : Nat := 10
  hbmCFloor : Nat := 64
  tjWarn : Nat := 95
  shedNotice : Nat := 1
  /-- The operator's cap; none: equal to CAP_CEILING (R554). -/
  opCap : Option Nat := none
  ceilingC : Nat := 232
  /-- Periods since the latest action of R556. -/
  sinceAction : Nat := 10
  /-- Cap actions in force, the latest first. -/
  capActions : List CapAction := []
  /-- Regions of which the first TJ_WARN step has been reported while the condition holds (Table 13-5). -/
  warned : Nat := 0
  /-- Regions under a thermal hold (R560) and how long, in periods, each one's condition has stayed clear. -/
  hold : Nat := 0
  holdClear : Tab Nat := []
  /-- How long, in periods, each condition of Table 13-5 has held, by a number of the condition. -/
  condRun : Tab Nat := []
  /-- Periods for which P has stayed below 95% of the cap, and above it. -/
  underRun : Nat := 0
  overRun : Nat := 0
  capUnmet : Bool := false
  /-- Shed regions, those whose links have gone down, and those shed by fault (R561, R620). -/
  shed : Nat := 0
  shedDown : Nat := 0
  shedFault : Nat := 0
  shedClear : Tab Nat := []
  profiles : Tab Profile := []
  schedule : Tab SchedEntry := []
  /-- Schedule entries that fell due during a transition or in Dormant mode and wait for its end (R544, R573). -/
  deferredSched : List Nat := []
  schedSkipped : Nat := 0
  dormantDiscard : Tab Nat := []
  wakeInputs : Nat := 0
  wakeCause : Nat := 0
  /-- The wake sources that have occurred in Dormant mode, the first first: the code of PWR_WAKE.CAUSE and the local time (R569). -/
  wakeReq : List (Nat × Nat) := []
  octalParked : Nat := 0
  inParked : Nat := 0
  egParked : Nat := 0
  thermtripLow : Bool := false
  deriving DecidableEq, Repr

/-- The time states (Table 14-1). -/
inductive TimeState where
  | freeRun | acquiring | locked | holdover
  deriving DecidableEq, Repr

/-- The phase sources (R579). -/
inductive PhaseSource where
  | none | ptp | pps
  deriving DecidableEq, Repr

/-- An event stamp (R586). -/
structure Stamp where
  input : Nat
  rising : Bool
  async : Bool
  time : Nat
  deriving DecidableEq, Repr

/-- A timed output (Table 14-6): its setting and its level. DESIGN CHOICE, safe: log entry 132. -/
structure TimedOutput where
  mode : Nat := 0
  group : Nat := 0
  traceableOnly : Bool := false
  start : Nat := 0
  period : Nat := 0
  width : Nat := 0
  level : Bool := false
  deriving DecidableEq, Repr

/-- The time base and its capture registers. -/
structure TimeBase where
  /-- Estate time in 1/16 ns. -/
  now : Nat := 0
  /-- The local nanosecond counter of R342, and its fraction in 1/16 ns. -/
  localNs : Nat := 0
  localSub : Nat := 0
  /-- Frequency adjustment in 1/65,536 ppb (R575), and the remainder it has accumulated. -/
  freqAdj : Int := 0
  freqRem : Int := 0
  state : TimeState := .freeRun
  source : PhaseSource := .none
  ptpValid : Bool := false
  ppsValid : Bool := false
  freqValid : Bool := false
  /-- Measured frequency error of the 10 MHz input in 1/65,536 ppb. -/
  freqMeasured : Int := 0
  /-- Consecutive measurements within LOCK_THRESHOLD. -/
  streak : Nat := 0
  /-- Valid measurements of a higher-priority source that has become valid (R581). -/
  takeover : Nat := 0
  holdoverSince : Nat := 0
  stepCount : Nat := 0
  lastStep : Int := 0
  lastOffset : Int := 0
  /-- Mean frequency of the last 60 s in LOCKED, when the device has been LOCKED. -/
  lockedFreq : Option Int := none
  /-- Offset removed so far in LOCKED, in 1/16 ns x 10^-6, and what it was at measurements of the last 60 s, by local time. -/
  slewDone : Int := 0
  lockTrack : List (Nat × Int) := []
  utcOffset : Int := 0
  leap61 : Bool := false
  leap59 : Bool := false
  -- source configuration (Table 14-5)
  phase1 : PhaseSource := .none
  phase2 : PhaseSource := .none
  freqEn : Bool := false
  ppsDelay : Int := 0
  lockThreshold : Nat := 100
  stepThreshold : Nat := 1000
  holdoverLimit : Nat := 14400
  slewMax : Nat := 100
  /-- The offset that remains to be removed by adjusting the frequency, in 1/16 ns x 10^-6 (R583, R584). -/
  slewLeft : Int := 0
  /-- Time of the latest PPS edge. -/
  ppsLast : Option Nat := none
  -- capture (Table 14-3): the latched instant in 1/16 ns and local counter
  latched : Nat := 0
  latchedLocal : Nat := 0
  stamps : List Stamp := []
  evqOvf : Nat := 0
  /-- Latest rising and falling stamp of each input: key 2 x input, 2 x input + 1. -/
  latest : Tab Stamp := []
  outputs : Tab TimedOutput := []
  deriving DecidableEq, Repr

/-- The states of a PTP port. -/
inductive PtpPortState where
  | disabled | listening | master | passive | uncalibrated | slave
  deriving DecidableEq, Repr

/-- A request that a port is to answer: its ingress stamp, its sender's port identity and its sequenceId. -/
structure PtpAsk where
  stamp : Int
  requester : Nat
  seq : Nat
  deriving DecidableEq, Repr

/-- A PTP port. -/
structure PtpPort where
  ptpMode : Nat := 0
  transport : Nat := 0
  delay : Nat := 0
  logAnnounce : Int := 0
  logSync : Int := 0
  logDelay : Int := 0
  asymNs : Int := 0
  state : PtpPortState := .listening
  /-- The best foreign master heard, and how many of its Announces have been heard. -/
  foreign : Option AnnounceData := none
  heard : Nat := 0
  meanPathDelay : Option Int := none
  /-- Ingress stamp and origin of the latest Sync, for delay requests and two-step follow-up. -/
  syncT1 : Int := 0
  syncT2 : Int := 0
  /-- Egress stamp of the delay request sent last. -/
  delayT3 : Option Int := none
  /-- Egress stamp and sequenceId of the Sync sent last by a two-step clock, and of the Pdelay_Resp sent last. -/
  syncTx : Option (Nat × Nat) := none
  respTx : Option (Nat × Nat) := none
  /-- The latest Delay_Req and Pdelay_Req received. -/
  delayAsk : Option PtpAsk := none
  pdelayAsk : Option PtpAsk := none
  /-- SEQUENCE_ID of the next message of each kind. -/
  seqId : Nat := 0
  deriving DecidableEq, Repr

/-- The PTP instance. PRESUMED, unsafe: log entry 115. -/
structure PtpState where
  type : Nat := 0
  domain : Nat := 0
  priority1 : Nat := 128
  priority2 : Nat := 128
  clockClass : Nat := 248
  oneStep : Bool := false
  announceTimeout : Nat := 3
  ipv4 : Nat := 0
  ipv6 : Nat := 0
  ports : Tab PtpPort := []
  parent : Option AnnounceData := none
  /-- The port in the SLAVE state. -/
  slavePort : Option Nat := none
  overload : Nat := 0
  tcUncorrected : Nat := 0
  domainMismatch : Nat := 0
  /-- Event messages handled in the current second, and the local time at which that second began. -/
  rate : Nat := 0
  rateStart : Nat := 0
  deriving DecidableEq, Repr

/-- A discovery table entry (R594): when it was created and last heard from, in estate time. -/
structure Seen where
  created : Nat
  heard : Nat
  deriving DecidableEq, Repr

/-- An LLDP neighbour. -/
structure Neighbour where
  port : Nat
  chassis : Nat
  portId : Nat
  ttl : Nat
  member : Option MemberTlv
  seen : Seen
  deriving DecidableEq, Repr

/-- A domain member; EVIDENCE: bit 0 fabric peer, bit 1 LLDP member TLV, bit 2 learning message (R595). -/
structure Member where
  evidence : Nat
  seen : Seen
  deriving DecidableEq, Repr

/-- An optics slot (R597). -/
structure OpticsSlot where
  controller : Nat
  muxAddr : Nat
  muxChannel : Nat
  firstLane : Nat
  lanes : Nat
  present : Bool := false
  missed : Nat := 0
  identifier : Nat := 0
  /-- CMIS module state; 0 for a module that is not CMIS. -/
  moduleState : Nat := 0
  vendor : Bytes := []
  /-- Firmware requests ModuleReady rather than low power (R598). -/
  readyRequest : Bool := false
  fault : Bool := false
  seen : Seen := ⟨0, 0⟩
  deriving DecidableEq, Repr

/-- LLDP settings of a port. -/
structure LldpCfg where
  tx : Bool := false
  rx : Bool := false
  txInterval : Nat := 30
  systemName : Bytes := []
  deriving DecidableEq, Repr

/-- Discovery and headless operation. -/
structure DiscState where
  peers : Tab (Nat × Seen) := []
  neighbours : List Neighbour := []
  members : Tab Member := []
  optics : Tab OpticsSlot := []
  /-- Refusals of each full table. -/
  refused : Tab Nat := []
  dupId : Nat := 0
  lldp : Tab LldpCfg := []
  domainId : Nat := 0
  memberTtl : Nat := 900
  hostless : Nat := 0
  slowpathNoHost : Nat := 0
  /-- Host presence as last reported (R599). -/
  hostPresent : Bool := false
  deriving DecidableEq, Repr

end Sys2Proof.Machine
end

