-- ==== Sys2Proof/Machine/State.lean ====
section
/-! DEFINITION. The state of the device, its value after reset, and the reasons a step can stop. -/

namespace Sys2Proof.Machine

/-- Why a step stops with a fault. -/
inductive Fault where
  /-- An access of HBM beyond the capacity of the variant (Table 0-1). Raised by HBM_REQUEST_ACCEPT; safe, because no rule gives such an
  access an effect. -/
  | hbmAddress
  deriving DecidableEq, Repr

/-- Why a step has no meaning. -/
inductive Refusal where
  /-- The command has no meaning in this model. Raised by a dispatch arm; safe. -/
  | notModelled (mnemonic : String)
  /-- A nanoword holds a code or a field value that Tables 12-2 to 12-4 reserve. Raised by MICROWORD_EXECUTE; safe, because the spec gives such
  a word no effect. -/
  | reservedMicrocode
  deriving DecidableEq, Repr

/-- The state of the device: the commands that wait, oldest first, and every part of it that a chapter describes. -/
structure State where
  pending : List Instr := []
  host : HostIf := {}
  ocf : OcfState := {}
  roles : RoleState := {}
  flash : Flash := {}
  boot : BootState := {}
  power : PowerState := {}
  time : TimeBase := {}
  ptp : PtpState := {}
  disc : DiscState := {}
  ports : PortState := {}
  cls : ClassifyState := {}
  fwd : FwdState := {}
  flow : FlowState := {}
  buf : BufState := {}
  eg : EgressState := {}
  fab : Fabric := {}
  hbm : HbmState := {}
  eng : EngineStateAll := {}
  out : Outputs := {}
  deriving DecidableEq, Repr

/-- The device right after the release of PORST_N: the boot ROM is about to read the preferred image copy. DESIGN CHOICE, unsafe: log entry 1.
DESIGN CHOICE, unsafe: log entry 35. -/
def State.reset : State := {}

end Sys2Proof.Machine
end

