-- ==== Sys2Proof/Machine/Ops.lean ====
section
/-! DEFINITION. The named operations over numbers, byte strings, tables, byte memory and time, on which every meaning stands. -/

namespace Sys2Proof.Machine

/-! ## Numbers and bit fields -/

/-- The value of `n` in a register of `w` bits. -/
def wrap (w n : Nat) : Nat := n % 2 ^ w

/-- A counter of `w` bits that stops at its greatest value. -/
def satAdd (w n k : Nat) : Nat := min (n + k) (2 ^ w - 1)

/-- `k` more on a statistics counter of `w` bits, which wraps (R15). -/
def wrapAdd (w n k : Nat) : Nat := wrap w (n + k)

/-- One more on a 64-bit statistics counter, which wraps (R15). -/
def inc64 (n : Nat) : Nat := wrap 64 (n + 1)

/-- `k` more on a 64-bit statistics counter. -/
def add64 (n k : Nat) : Nat := wrap 64 (n + k)

/-- Bits [hi:lo] of a word (R9, conventions of chapter 0). -/
def field (hi lo n : Nat) : Nat := (n >>> lo) % 2 ^ (hi + 1 - lo)

/-- A word with bits [hi:lo] replaced. -/
def setField (hi lo v n : Nat) : Nat :=
  n - (field hi lo n) * 2 ^ lo + (v % 2 ^ (hi + 1 - lo)) * 2 ^ lo

/-- A Boolean as a bit. -/
def bit (b : Bool) : Nat := if b then 1 else 0

/-- Bit `i` of a bitmap set to `b`. -/
def setBit (n i : Nat) (b : Bool) : Nat :=
  if n.testBit i = b then n else if b then n + 2 ^ i else n - 2 ^ i

/-- The numbers below `w` whose bits are set. -/
def bitsOf (w n : Nat) : List Nat := (List.range w).filter n.testBit

/-- A value of `w` bits read as two's complement. -/
def signed (w n : Nat) : Int := if n < 2 ^ (w - 1) then n else (n : Int) - 2 ^ w

/-- An integer as `w` bits of two's complement. -/
def twos (w : Nat) (n : Int) : Nat := (n % (2 ^ w : Nat)).toNat

/-- The quotient rounded up. -/
def ceilDiv (a b : Nat) : Nat := (a + b - 1) / b

/-- The first of the numbers below `n`, counted from `start` with wrap, that satisfies `p`: one turn of a round-robin. -/
def nextTurn (n start : Nat) (p : Nat → Bool) : Option Nat :=
  ((List.range n).map (fun k => (start + k) % n)).find? p

/-! ## Byte strings -/

/-- The number that a byte string spells, most significant byte first (R9). -/
def beNat (bs : Bytes) : Nat := bs.foldl (fun a b => a * 256 + b.toNat) 0

/-- `n` as `k` bytes, most significant first. -/
def beBytes : Nat → Nat → Bytes
  | 0, _ => []
  | k + 1, n => beBytes k (n / 256) ++ [BitVec.ofNat 8 n]

/-- `n` as `k` bytes, least significant first. -/
def leBytes (k n : Nat) : Bytes := (beBytes k n).reverse

/-- The `len` bytes from `off`; bytes beyond the end read 0. -/
def slice (bs : Bytes) (off len : Nat) : Bytes :=
  let got := (bs.drop off).take len
  got ++ List.replicate (len - got.length) 0#8

/-- The number in `len` bytes from `off`. -/
def getBe (bs : Bytes) (off len : Nat) : Nat := beNat (slice bs off len)

/-- The string with the bytes from `off` replaced by `v`. -/
def patch (bs : Bytes) (off : Nat) (v : Bytes) : Bytes := bs.take off ++ v ++ bs.drop (off + v.length)

/-- A string cut or filled with zero bytes to `n` bytes. -/
def fit (n : Nat) (bs : Bytes) : Bytes := slice bs 0 n

/-- The 32-bit words of a message, byte 4i + j in bits [8j + 7:8j] of word i (R466). -/
def packWords : Nat → Bytes → List Nat
  | 0, _ => []
  | k + 1, bs => beNat ((slice bs 0 4).reverse) :: packWords k (bs.drop 4)

/-- The words of a message of any length. -/
def toWords (bs : Bytes) : List Nat := packWords (ceilDiv bs.length 4) bs

/-- The bytes of mailbox words (R466). -/
def ofWords (ws : List Nat) : Bytes := ws.flatMap (leBytes 4)

/-! ## Sparse tables -/

/-- The entry of a key, if it is listed. -/
def tget {α : Type} : Tab α → Nat → Option α
  | [], _ => none
  | (j, v) :: t, k => if j = k then some v else tget t k

/-- The entry of a key, or the table's default. -/
def tgetD {α : Type} (t : Tab α) (k : Nat) (d : α) : α := (tget t k).getD d

/-- The table with the entry of a key replaced. -/
def tset {α : Type} : Tab α → Nat → α → Tab α
  | [], k, v => [(k, v)]
  | (j, w) :: t, k, v => if k < j then (k, v) :: (j, w) :: t else if j = k then (k, v) :: t else (j, w) :: tset t k v

/-- The table without the entry of a key. -/
def tdel {α : Type} (t : Tab α) (k : Nat) : Tab α := t.filter (fun e => e.1 != k)

/-- The table with the entry of a key, or its default, changed by `f`. -/
def tmod {α : Type} (t : Tab α) (k : Nat) (d : α) (f : α → α) : Tab α := tset t k (f (tgetD t k d))

/-- One more on the 64-bit counter of a key. -/
def tinc (t : Tab Nat) (k : Nat) : Tab Nat := tmod t k 0 inc64

/-- `n` more on the 64-bit counter of a key. -/
def tadd (t : Tab Nat) (k n : Nat) : Tab Nat := tmod t k 0 (add64 · n)

/-- The keys of a table. -/
def tkeys {α : Type} (t : Tab α) : List Nat := t.map Prod.fst

/-- The values of a table. -/
def tvals {α : Type} (t : Tab α) : List α := t.map Prod.snd

/-- A list cut to its last `n` elements. -/
def lastN {α : Type} (n : Nat) (xs : List α) : List α := (xs.reverse.take n).reverse

/-- `f` applied for each element in turn. -/
def forEach {α β : Type} (xs : List α) (b : β) (f : α → β → β) : β := xs.foldl (fun b x => f x b) b

/-! ## Byte memory: cells in rising order of address, no cell equal to the byte 0 that an unlisted address reads as -/

/-- The memory's canonical form. -/
def memWf : List Host.Cell → Bool
  | [] => true
  | (_, b) :: [] => b != 0#8
  | (a, b) :: (a', b') :: m => b != 0#8 && decide (a < a') && memWf ((a', b') :: m)

/-- One byte of memory. DESIGN CHOICE, unsafe: log entry 102. -/
def memGet : List Host.Cell → Nat → Byte
  | [], _ => 0#8
  | (a, b) :: m, k => if a = k then b else memGet m k

/-- Memory with one byte written. -/
def memSet : List Host.Cell → Nat → Byte → List Host.Cell
  | [], k, v => if v = 0#8 then [] else [(k, v)]
  | (a, b) :: m, k, v =>
    if k < a then (if v = 0#8 then (a, b) :: m else (k, v) :: (a, b) :: m)
    else if a = k then (if v = 0#8 then m else (k, v) :: m)
    else (a, b) :: memSet m k v

/-- `n` bytes of memory. -/
def memRead (m : List Host.Cell) (a : Nat) : Nat → Bytes
  | 0 => []
  | n + 1 => memGet m a :: memRead m (a + 1) n

/-- Memory with a string written. -/
def memWrite (m : List Host.Cell) (a : Nat) : Bytes → List Host.Cell
  | [] => m
  | b :: bs => memWrite (memSet m a b) (a + 1) bs

/-- Memory with `n` bytes from `a` zeroed: the cells of the range leave the list. -/
def memZero (m : List Host.Cell) (a n : Nat) : List Host.Cell := m.filter (fun c => !(a ≤ c.1 && c.1 < a + n))

/-! ## Time -/

/-- One second of estate time in 1/16 ns. -/
def secondTicks : Nat := 16000000000

/-- Estate time in seconds and nanoseconds of an instant. -/
def timeS (t : Nat) : Nat := wrap 48 (t / secondTicks)
def timeNs (t : Nat) : Nat := t % secondTicks / 16

/-- The instant that seconds and nanoseconds name. -/
def ofSeconds (s ns : Nat) : Nat := s * secondTicks + ns * 16

/-- Estate time in nanoseconds. -/
def State.estateNs (s : State) : Nat := s.time.now / 16

/-- The copy of the time base in a region, within 4 ns of it (R32), in 1/16 ns. DESIGN CHOICE, safe: log entry 138. -/
def State.regionNow (s : State) (r : Nat) : Nat := s.time.now + Config.timeCopy r s.time.now % 129 - 64

/-- The time state is traceable (R578). -/
def State.traceable (s : State) : Bool := s.time.state = .locked || s.time.state = .holdover

/-! ## Regions, pipelines and functions -/

/-- The codes of Table 13-1. -/
def Mode.code : Mode → Nat
  | .reset => 0 | .dormant => 1 | .rising => 2 | .full => 3 | .reduced => 4 | .service => 5

/-- The codes of Table 10-3. -/
def Lifecycle.code : Lifecycle → Nat
  | .factory => 0 | .field => 1 | .returned => 2 | .void => 3

/-- The codes of Table 14-1. -/
def TimeState.code : TimeState → Nat
  | .freeRun => 0 | .acquiring => 1 | .locked => 2 | .holdover => 3

/-- The codes of STATE.SOURCE (Table 14-3). -/
def PhaseSource.code : PhaseSource → Nat
  | .none => 0 | .ptp => 1 | .pps => 2

/-- Function `f` has reported ready (R612). -/
def State.isReady (s : State) (f : Nat) : Bool := s.boot.ready.testBit f

/-- Firmware runs and takes work: it has started, and the device is not in the safe state, Reset or Dormant (Tables 13-1, 15-3, 15-10). -/
def State.running (s : State) : Bool :=
  (s.boot.stage = 2 || s.boot.stage = 3 || s.boot.stage = 4) && !s.boot.safe && s.boot.porstHigh && s.boot.sysrstHigh &&
  s.power.mode != .dormant && s.power.mode != .reset

/-- The pipeline of a front port's lane (R23). -/
def pipeOfLane (lane : Nat) : Nat := lane / 16

/-- The region of a pipeline (R22). -/
def regionOfPipe (p : Nat) : Nat := p / 4

/-- KIND of a port field (R435). -/
def portKind (p : Nat) : Nat := p / 2 ^ 13

/-- The pipeline that a local port attaches to (R23, R24). -/
def pipeOfPort (p : Nat) : Nat :=
  match portKind p with
  | 0 => pipeOfLane (p % 256)
  | 1 => 0
  | 2 => 1
  | _ => p % 16

/-- The management port and the host port. -/
def mgmtPort : Nat := 0x2000
def hostPort : Nat := 0x4000

/-- The recirculation port of a pipeline. -/
def recircPort (p : Nat) : Nat := 0x6000 + p

/-- Step index of a region (R549). -/
def State.stepOf (s : State) (r : Nat) : Nat := tgetD s.power.step r 0

/-- A wake source occurs, by its code of PWR_WAKE.CAUSE (R569). -/
def callWake (cause : Nat) (s : State) : State :=
  { s with power.wakeReq := s.power.wakeReq ++ [(cause, s.time.localNs)] }

/-- Adjacent regions (R25). -/
def adjacent (a b : Nat) : Bool := a != b && a + b != 3

/-- The four regions. -/
def regions : List Nat := [0, 1, 2, 3]

/-- The pipelines that a PIPE_MASK names, in ascending order (R97). -/
def pipesOf (mask : Nat) : List Nat := bitsOf 16 mask

/-! ## The region replicas (R30, R31, Table 15-4)

An update takes effect in the replicas in region order. It stops at a replica that is neither ready nor failed: that replica and the later ones
keep, as `behind`, the tables that they held, until it reports ready. -/

/-- An update reaches the replica of a region: no replica up to it is waited for. -/
def State.reaches (s : State) (r : Nat) : Bool := (List.range (r + 1)).all (fun q => s.isReady (90 + q) || s.boot.failed.testBit (90 + q))

/-- Every replica takes updates. -/
def State.allReached (s : State) : Bool := s.reaches 3

/-- A region's replica. -/
def State.replica (s : State) (r : Nat) : Replica := tgetD s.fwd.behind r ⟨s.fwd.mac, s.fwd.host, s.fwd.trie⟩

/-- The replicas that an update does not reach keep the tables that they hold. -/
def beginUpdate (s : State) : State :=
  if s.allReached then s
  else { s with
    fwd.behind := forEach (regions.filter (fun r => !s.reaches r && (tget s.fwd.behind r).isNone)) s.fwd.behind
      (fun r t => tset t r ⟨s.fwd.mac, s.fwd.host, s.fwd.trie⟩) }

/-- The replicas that updates now reach have taken them all. -/
def catchUp (s : State) : State := { s with fwd.behind := s.fwd.behind.filter (fun e => !s.reaches e.1) }

end Sys2Proof.Machine
end

