-- ==== Sys2Proof/Machine/Flags.lean ====
section
/-! DEFINITION. The interrupt sources and groups (R489 to R500): how a source's status is computed, raised, claimed and delivered. -/

namespace Sys2Proof.Machine

/-- The level sources: complete outbound messages (Table 11-9), CAP_UNMET (R558) and a held event stamp (R587). -/
def isLevel (src : Nat) : Bool := src < 16 || src = 336 || src = 394

/-- The runs of sources that the chapters name: first and last (R489, Table 11-9). -/
def sourceRuns : List (Nat × Nat) :=
  [(0, 116), (128, 194), (200, 206), (208, 239), (241, 246), (256, 268), (280, 282), (288, 339), (384, 394), (400, 407), (448, 487),
   (512, 610), (640, 719)]

/-- A source that some chapter names. -/
def isSource (src : Nat) : Bool := sourceRuns.any (fun r => r.1 ≤ src && src ≤ r.2)

/-- The reset values of a group's configuration (Table 11-11). -/
def groupCfgReset (g : Nat) : GroupCfg := { vector := g }

/-- GROUP_CFG[g]. -/
def State.groupCfg (s : State) (g : Nat) : GroupCfg := tgetD s.host.int.cfg g (groupCfgReset g)

/-- Mailbox channel `c`. -/
def State.chan (s : State) (c : Nat) : Channel := tgetD s.host.chan c {}

def State.setChan (s : State) (c : Nat) (v : Channel) : State := { s with host.chan := tset s.host.chan c v }

/-- A level source's condition. DEDUCED, unsafe: log entry 112. -/
def State.levelCond (s : State) (src : Nat) : Bool :=
  if src < 16 then (s.chan src).outQ != []
  else if src = 336 then s.power.capUnmet
  else if src = 394 then s.time.stamps != []
  else false

/-- The status bit of a source (R490). -/
def State.intStatus (s : State) (src : Nat) : Bool :=
  if isLevel src then s.levelCond src else s.host.int.status.testBit src

/-- An event source's event: its bit is set; a bit already set merges and counts in REASSERT, up to 255 (R490, R494). -/
def raise (src : Nat) (s : State) : State :=
  if isLevel src then s
  else if s.host.int.status.testBit src then
    { s with host.int.reassert := tmod s.host.int.reassert src 0 (satAdd 8 · 1) }
  else { s with host.int.status := setBit s.host.int.status src true }

/-- An event of a source that is raised only at the first event since it was cleared (R654). -/
def raiseFirst (src : Nat) (s : State) : State :=
  if s.host.int.status.testBit src then s else raise src s

/-- The source that a group has in service. -/
def State.serviceOf (s : State) (g : Nat) : Option Service := tget s.host.int.inService g

/-- A source is pending (R493). -/
def State.intPending (s : State) (src : Nat) : Bool :=
  s.intStatus src && s.host.int.enable.testBit src && !(((s.serviceOf (src / 16)).map Service.source) = some src)

/-- A level source in service whose condition has ended stays SPURIOUS until COMPLETE, though the condition come back (R496). -/
def settleLevels (s : State) : State :=
  { s with host.int.inService := s.host.int.inService.map (fun e =>
      (e.1, if e.2.level && !s.levelCond e.2.source then { e.2 with active := false } else e.2)) }

/-- The sources of a group, lowest first. -/
def groupSources (g : Nat) : List Nat := (List.range 16).map (16 * g + ·)

/-- A group has a pending source. -/
def State.groupPending (s : State) (g : Nat) : Bool := (groupSources g).any s.intPending

/-- STATUS[g] as software reads it. -/
def State.groupStatus (s : State) (g : Nat) : Nat :=
  forEach (List.range 16) 0 (fun k n => n + bit (s.intStatus (16 * g + k)) * 2 ^ k)

/-- A group meets R498 but for the function's state and MSI-X enable. -/
def State.groupWants (s : State) (g : Nat) : Bool :=
  s.host.int.armed.testBit g && s.groupPending g && !(s.groupCfg g).mask && !s.host.int.holdoffRun.testBit g

/-- A group meets R498 whole. -/
def State.groupSends (s : State) (g : Nat) : Bool := s.groupWants g && s.host.dstate = 0 && s.host.msixEnable

/-- INTA is asserted (R499). -/
def State.inta (s : State) : Bool := !s.host.msixEnable && s.host.dstate = 0 && (List.range 64).any s.groupWants

/-- Pin INT_N0 (1) or INT_N1 (2) is driven low (R500). -/
def State.intPinLow (s : State) (pin : Nat) : Bool :=
  (List.range 64).any (fun g => (s.groupCfg g).pin = pin && !(s.groupCfg g).mask && s.groupPending g)

/-- CAUSE[g].CODE (Table 11-12): none, active, spurious, cleared. -/
def State.causeCode (s : State) (g : Nat) : Nat :=
  match s.serviceOf g with
  | none => 0
  | some v =>
    if v.level then (if v.active && s.levelCond v.source then 1 else 2)
    else if s.intStatus v.source then 1 else 3

/-- What a read of CLAIM[g] returns. -/
def State.claimWord (s : State) (g : Nat) : Nat :=
  match s.serviceOf g with
  | some v => 2 ^ 30 + v.source
  | none =>
    match (groupSources g).find? s.intPending with
    | some src => 2 ^ 31 + src
    | none => 0

/-- A read of CLAIM[g] (R495, R498): it puts the lowest pending source in service; one that returns 0 arms the group. -/
def claim (g : Nat) (s : State) : State :=
  match s.serviceOf g with
  | some _ => s
  | none =>
    match (groupSources g).find? s.intPending with
    | some src =>
      { s with
        host.int.inService := tset s.host.int.inService g ⟨src, isLevel src, s.intStatus src⟩
        host.int.lastClaim := tset s.host.int.lastClaim g src }
    | none => { s with host.int.armed := setBit s.host.int.armed g true }

/-- A write of COMPLETE[g] (R497, R498). DEDUCED, unsafe: log entry 106. -/
def complete (g src : Nat) (s : State) : State :=
  let s := { s with host.int.armed := setBit s.host.int.armed g true }
  if (s.serviceOf g).map Service.source = some src then { s with host.int.inService := tdel s.host.int.inService g }
  else { s with host.int.badComplete := wrapAdd 32 s.host.int.badComplete 1 }

/-- The message of a vector: sent, or held in the PBA while the vector is masked (R499). -/
def sendVector (v : Nat) (s : State) : State :=
  if (tgetD s.host.msix v {}).masked then { s with host.pba := setBit s.host.pba v true }
  else { s with out.messages := s.out.messages ++ [v] }

/-- A group's message (R498): the hold-off timer starts and the group is disarmed. A HOLDOFF of 0 runs no timer. -/
def sendGroup (g : Nat) (s : State) : State :=
  let s := { s with host.int.armed := setBit s.host.int.armed g false }
  let s := if (s.groupCfg g).holdoff = 0 then s else { s with host.int.holdoffRun := setBit s.host.int.holdoffRun g true }
  sendVector (s.groupCfg g).vector { s with host.lpm := if s.host.lpm = 1 then 0 else s.host.lpm }

end Sys2Proof.Machine
end

