-- ==== Sys2Proof/Machine/Crypto.lean ====
section
/-! DEFINITION. SHA-256 (FIPS 180-4), HMAC-SHA-256 (RFC 2104), CRC-32C and the Internet checksum, which R401, R444, R457, and the flow,
frame and cell formats name. -/

namespace Sys2Proof.Machine

/-! ## SHA-256 -/

/-- A 32-bit rotation to the right. -/
def rotr (k x : Nat) : Nat := (x >>> k) ||| ((x <<< (32 - k)) % 2 ^ 32)

/-- The eight 32-bit words of a 256-bit number, the most significant first. -/
def words8 (n : Nat) : List Nat := (List.range 8).map (fun i => n >>> (32 * (7 - i)) % 2 ^ 32)

/-- The round constants, eight to a number. -/
def shaK : List Nat :=
  List.flatMap words8
    [
      0x428a2f9871374491b5c0fbcfe9b5dba53956c25b59f111f1923f82a4ab1c5ed5,
      0xd807aa9812835b01243185be550c7dc372be5d7480deb1fe9bdc06a7c19bf174,
      0xe49b69c1efbe47860fc19dc6240ca1cc2de92c6f4a7484aa5cb0a9dc76f988da,
      0x983e5152a831c66db00327c8bf597fc7c6e00bf3d5a7914706ca635114292967,
      0x27b70a852e1b21384d2c6dfc53380d13650a7354766a0abb81c2c92e92722c85,
      0xa2bfe8a1a81a664bc24b8b70c76c51a3d192e819d6990624f40e3585106aa070,
      0x19a4c1161e376c082748774c34b0bcb5391c0cb34ed8aa4a5b9cca4f682e6ff3,
      0x748f82ee78a5636f84c878148cc7020890befffaa4506cebbef9a3f7c67178f2]

/-- The initial hash value. -/
def shaInit : List Nat := words8 0x6a09e667bb67ae853c6ef372a54ff53a510e527f9b05688c1f83d9ab5be0cd19

/-- The next word of the message schedule, from the latest 16, newest first. -/
def shaNext (w : List Nat) : Nat :=
  let a := w.getD 14 0
  let b := w.getD 1 0
  let s0 := rotr 7 a ^^^ rotr 18 a ^^^ (a >>> 3)
  let s1 := rotr 17 b ^^^ rotr 19 b ^^^ (b >>> 10)
  wrap 32 (w.getD 15 0 + s0 + w.getD 6 0 + s1)

/-- The schedule, newest first, lengthened by `n` words. -/
def shaSched : Nat → List Nat → List Nat
  | 0, w => w
  | n + 1, w => shaSched n (shaNext w :: w)

/-- One round on the working variables a to h. -/
def shaRound (v : List Nat) (kw : Nat) : List Nat :=
  match v with
  | [a, b, c, d, e, f, g, h] =>
    let s1 := rotr 6 e ^^^ rotr 11 e ^^^ rotr 25 e
    let ch := (e &&& f) ^^^ ((e ^^^ 0xFFFFFFFF) &&& g)
    let t1 := h + s1 + ch + kw
    let s0 := rotr 2 a ^^^ rotr 13 a ^^^ rotr 22 a
    let maj := (a &&& b) ^^^ (a &&& c) ^^^ (b &&& c)
    [wrap 32 (t1 + s0 + maj), a, b, c, wrap 32 (d + t1), e, f, g]
  | _ => v

/-- The compression of one block, given as 16 words. -/
def shaBlock (h : List Nat) (ws : List Nat) : List Nat :=
  let sched := (shaSched 48 ws.reverse).reverse
  let v := (List.zipWith (· + ·) shaK sched).foldl shaRound h
  List.zipWith (fun a b => wrap 32 (a + b)) h v

/-- The words of a string whose length is a multiple of 4. -/
def beWords : Nat → Bytes → List Nat
  | 0, _ => []
  | k + 1, bs => beNat (bs.take 4) :: beWords k (bs.drop 4)

/-- The compression of `n` blocks. -/
def shaBlocks : Nat → List Nat → Bytes → List Nat
  | 0, h, _ => h
  | n + 1, h, bs => shaBlocks n (shaBlock h (beWords 16 (bs.take 64))) (bs.drop 64)

/-- The padded message. -/
def shaPad (bs : Bytes) : Bytes :=
  let z := (119 - bs.length % 64) % 64
  bs ++ 0x80#8 :: List.replicate z 0#8 ++ beBytes 8 (8 * bs.length)

/-- SHA-256 of a byte string. -/
def sha256 (bs : Bytes) : Bytes :=
  let p := shaPad bs
  (shaBlocks (p.length / 64) shaInit p).flatMap (beBytes 4)

/-- HMAC-SHA-256 with a key of at most 64 bytes. -/
def hmac (key msg : Bytes) : Bytes :=
  let k := fit 64 key
  let pad (c : Byte) := k.map (· ^^^ c)
  sha256 (pad 0x5C#8 ++ sha256 (pad 0x36#8 ++ msg))

/-! ## CRC-32C and checksums -/

/-- One bit of the reflected CRC-32C (polynomial 0x1EDC6F41). -/
def crcBit (c : Nat) : Nat := if c % 2 = 1 then (c / 2) ^^^ 0x82F63B78 else c / 2

/-- One byte of the CRC. -/
def crcByte (c : Nat) (b : Byte) : Nat :=
  crcBit (crcBit (crcBit (crcBit (crcBit (crcBit (crcBit (crcBit (c ^^^ b.toNat))))))))

/-- CRC-32C register after a string, from a given start value. -/
def crcFrom (start : Nat) (bs : Bytes) : Nat := bs.foldl crcByte start

/-- One bit and one byte of the reflected CRC of hash B (polynomial 0x741B8CD7). -/
def crcBitB (c : Nat) : Nat := if c % 2 = 1 then (c / 2) ^^^ 0xEB31D82E else c / 2

def crcByteB (c : Nat) (b : Byte) : Nat :=
  crcBitB (crcBitB (crcBitB (crcBitB (crcBitB (crcBitB (crcBitB (crcBitB (c ^^^ b.toNat))))))))

/-- One bit and one byte of the CRC of an Ethernet FCS. -/
def crcBitE (c : Nat) : Nat := if c % 2 = 1 then (c / 2) ^^^ 0xEDB88320 else c / 2

def crcByteE (c : Nat) (b : Byte) : Nat :=
  crcBitE (crcBitE (crcBitE (crcBitE (crcBitE (crcBitE (crcBitE (crcBitE (c ^^^ b.toNat))))))))

/-- The FCS of a frame as its 4 bytes (IEEE 802.3; PRESUMED, unsafe: log entry 45). -/
def frameCheck (bs : Bytes) : Bytes := leBytes 4 ((bs.foldl crcByteE 0xFFFFFFFF) ^^^ 0xFFFFFFFF)

/-- Hash A and hash B of a string with a seed (R112). -/
def hashA (seed : Nat) (bs : Bytes) : Nat := (bs.foldl crcByte seed) ^^^ 0xFFFFFFFF
def hashB (seed : Nat) (bs : Bytes) : Nat := (bs.foldl crcByteB seed) ^^^ 0xFFFFFFFF

/-- The ones' complement sum of the 16-bit words of a string. -/
def onesSum : Nat → Bytes → Nat
  | 0, _ => 0
  | k + 1, bs => beNat (slice bs 0 2) + onesSum k (bs.drop 2)

/-- A sum folded to 16 bits with end-around carry. -/
def fold16 (n : Nat) : Nat :=
  let a := n % 65536 + n / 65536
  let b := a % 65536 + a / 65536
  b % 65536 + b / 65536

/-- The Internet checksum of a string. -/
def inetChecksum (bs : Bytes) : Nat := 65535 - fold16 (onesSum (ceilDiv bs.length 2) bs)

/-- A checksum after the 16-bit word `old` that it covers becomes `new` (RFC 1624). -/
def checksumUpdate (sum old new : Nat) : Nat := 65535 - fold16 ((65535 - sum) + (65535 - old) + new)

end Sys2Proof.Machine
end

