-- ==== Sys2Proof/Machine/Parser.lean ====
section
/-! DEFINITION. The parser (R49 to R62), the classification key (R68, R69) and the TCAM search (R70 to R74). -/

namespace Sys2Proof.Machine

/-! ## The walk of a pass -/

/-- What the walk carries: the parse so far, whether the latest IP header is an inner one, and the end of its payload. -/
structure Walk where
  px : Parse := {}
  innerIp : Bool := false
  l3End : Nat

/-- A byte or header end at `e` bytes of a pass of `len` bytes against the limits of R57; 0 where it lies within them. -/
def beyond (len e check : Nat) : Nat :=
  if e > len then 1 else if e > 256 then (if check = 6 then 3 else 2) else 0

/-- One byte of the pass. -/
def byteAt (d : Bytes) (i : Nat) : Nat := (d.getD i 0#8).toNat

/-- The header length of R53. -/
def headerLen (st : ParseState) (d : Bytes) (off : Nat) : Nat :=
  if st.lenMode = 1 then (((byteAt d (off + st.lenOff)) >>> st.lenShift) &&& st.lenMask) * 2 ^ st.lenScale + st.lenAdd else st.lenFixed

/-- The byte checks of R57: the bytes that size the header. Where both bytes are beyond the limits, PX_TRUNC is yielded before the other codes.
DESIGN CHOICE, unsafe: log entry 144. -/
def byteCheck (st : ParseState) (len off : Nat) : Nat :=
  let a := if st.lenMode = 1 then beyond len (off + st.lenOff + 1) st.check else 0
  let b := if st.check = 1 || st.check = 2 then beyond len (off + 1) st.check else 0
  if a = 1 || b = 1 then 1 else if a != 0 then a else b

/-- The first non-zero exception. -/
def firstExc : List Nat → Nat
  | [] => 0
  | e :: es => if e != 0 then e else firstExc es

/-- A check that yields an exception when it fails. -/
def need (ok : Bool) (exc : Nat) : Nat := if ok then 0 else exc

/-- The checks of a header of length `n` at `off` (R57 to R61), in their order. A UDP length is compared with what is left of the L3 payload from the
UDP header on. DEDUCED, unsafe: log entry 144. -/
def headerCheck (st : ParseState) (d : Bytes) (off n l3End : Nat) : Nat :=
  let len := d.length
  let avail := len - off
  let ends := beyond len (off + n) st.check
  let b0 := byteAt d off
  match st.check with
  | 1 =>
    let ihl := b0 % 16
    let frag := getBe d (off + 6) 2
    firstExc
      [ byteCheck st len off,
        need (b0 / 16 = 4 && ihl ≥ 5) 4,
        ends,
        need (inetChecksum (slice d off (4 * ihl)) = 0) 5,
        need (getBe d (off + 2) 2 ≤ avail) 6,
        need (frag / 2 ^ 13 % 2 = 0 && frag % 2 ^ 13 = 0) 7 ]
  | 2 =>
    let pl := getBe d (off + 4) 2
    firstExc
      [ byteCheck st len off,
        need (b0 / 16 = 6) 4,
        ends,
        need ((pl != 0 || byteAt d (off + 6) = 59) && pl + 40 ≤ avail) 6 ]
  | 3 => firstExc [byteCheck st len off, ends, 7]
  | 4 =>
    let words := byteAt d (off + 12) / 16
    firstExc [byteCheck st len off, ends, need (words ≥ 5 && off + 4 * words ≤ l3End) 8]
  | 5 =>
    let ul := getBe d (off + 4) 2
    firstExc [byteCheck st len off, ends, need (8 ≤ ul && off + ul ≤ l3End) 8]
  | _ => firstExc [byteCheck st len off, ends]

/-- The select field (R54): a byte beyond the limits reads 0. -/
def selectField (st : ParseState) (d : Bytes) (off : Nat) : Nat :=
  forEach (List.range st.selWidth) 0 (fun k v =>
    let i := off + st.selOff + k
    v * 256 + (if i < d.length && i < 256 then byteAt d i else 0))

/-- What a state's header sets once it has passed its checks: the layer pointers, the protocol and the end of the L3 payload. An IPv6 fragment header,
which always fails, sets none of them. DESIGN CHOICE, unsafe: log entry 144. -/
def enter (st : ParseState) (d : Bytes) (off n : Nat) (w : Walk) : Walk :=
  let px := w.px
  let layers := if 1 ≤ st.layer && st.layer ≤ 7 then tset px.layers st.layer off else px.layers
  let layers := if st.check = 2 || st.check = 6 then tset layers 8 (off + n) else layers
  let inner := if st.check = 1 || st.check = 2 then st.layer = 5 else w.innerIp
  let proto := match st.check with
    | 1 => byteAt d (off + 9)
    | 2 => byteAt d (off + 6)
    | 6 => byteAt d off
    | _ => px.proto
  let sets := st.check = 1 || st.check = 2 || st.check = 6
  let l3End := match st.check with
    | 1 => off + getBe d (off + 2) 2
    | 2 => off + 40 + getBe d (off + 4) 2
    | _ => w.l3End
  { px := { px with
      layers := layers
      proto := proto
      outer := if sets && !inner then proto else px.outer
      inner := if sets && inner then proto else px.inner },
    innerIp := inner, l3End := l3End }

/-- A parse that ends in an exception: the header's own layer pointer and stack entry remain (R62). -/
def fail (code : Nat) (w : Walk) : Parse := { w.px with exc := code }

/-- The walk of a pass from a state (R54, R55): `fuel` visits are left. An IPv4 fragment has passed every other check of R58, so that its protocol
is known. DEDUCED, unsafe: log entry 52. -/
def walk (g : Tab ParseState) (d : Bytes) : Nat → Nat → Nat → Walk → Parse
  | 0, _, _, w => fail 9 w
  | fuel + 1, s, off, w =>
    match tget g s with
    | none => fail 13 w
    | some st =>
      let px := w.px
      let layers := if 1 ≤ st.layer && st.layer ≤ 7 then tset px.layers st.layer off else px.layers
      let seen : Walk := { w with px := { px with stack := px.stack ++ [(st.hdrId, off)], layers := layers } }
      let n := headerLen st d off
      match headerCheck st d off n w.l3End with
      | 0 =>
        let w := enter st d off n seen
        let sel := selectField st d off
        let (act, tgt) := match st.trans.find? (fun t => t.action != 0 && (sel &&& t.mask) = t.value) with
          | some t => (t.action, t.target)
          | none => (st.defAction, st.defTarget)
        if act = 1 then walk g d fuel tgt (off + n) w
        else if act = 2 then { w.px with cls := tgt }
        else fail tgt w
      | e + 1 => fail (e + 1) (if e = 6 && st.check = 1 then enter st d off n seen else seen)

/-- A pass over a frame from a start state (R49). Until it visits an IP state the L3 payload ends with the frame. DESIGN CHOICE, unsafe: log entry 144. -/
def parsePass (g : Tab ParseState) (start : Nat) (d : Bytes) : Parse := walk g d 16 start 0 { l3End := d.length }

/-! ## Tags and addresses -/

/-- A tag's TPID. -/
def isTag (t : Nat) : Bool := t = 0x8100 || t = 0x88A8

/-- The VLAN tags of a frame: outer and inner, each as its 16 bits. -/
def tagsOf (d : Bytes) : List Nat :=
  if isTag (getBe d 12 2) then
    getBe d 14 2 :: (if isTag (getBe d 16 2) then [getBe d 18 2] else [])
  else []

/-- The final Ethertype, read from byte 12 of the pass on, whatever header the pass starts with; so are the addresses and the tags.
DESIGN CHOICE, unsafe: log entry 144. -/
def finalEthertype (d : Bytes) : Nat := getBe d (12 + 4 * (tagsOf d).length) 2

/-- Destination and source MAC. -/
def dstMac (d : Bytes) : Nat := getBe d 0 6
def srcMac (d : Bytes) : Nat := getBe d 6 6

/-- A group address. -/
def isGroup (mac : Nat) : Bool := mac.testBit 40

/-! ## Keys -/

/-- What metadata selectors read (Table 2-8). -/
structure Meta where
  passPort : Nat
  origPort : Nat
  pass : Nat
  zone : Nat

/-- Metadata of an identifier. -/
def metaWord (m : Meta) (px : Parse) (d : Bytes) (cls : Nat) : Nat → Nat
  | 0 => m.passPort
  | 1 => m.origPort
  | 2 => (tagsOf d).getD 0 0
  | 3 => (tagsOf d).getD 1 0
  | 4 => m.pass * 2 ^ 14 + cls * 2 ^ 10 + px.exc
  | 5 => forEach (tkeys px.layers) 0 (fun k n => n + 2 ^ k)
  | 6 => m.zone
  | 7 => px.stack.length * 256 + px.proto
  | 8 => d.length + 4
  | _ => 0

/-- What a selector yields (R68, R69). -/
def selectorWord (m : Meta) (px : Parse) (d : Bytes) (cls sel : Nat) : Nat :=
  let off := field 26 19 sel
  let raw :=
    if sel.testBit 31 then metaWord m px d cls off
    else
      let layer := field 30 27 sel
      match (if layer = 0 then some 0 else tget px.layers layer) with
      | none => 0
      | some p =>
        let i := p + off
        if i + 1 < d.length && i + 1 < 256 then getBe d i 2 else 0
  raw &&& (sel % 65536)

/-- The key of a list of selectors, selector 0 in the most significant bits. -/
def keyOfSelectors (m : Meta) (px : Parse) (d : Bytes) (cls : Nat) (sels : List Nat) : Nat :=
  sels.foldl (fun k s => k * 65536 + selectorWord m px d cls s) 0

/-! ## TCAM -/

/-- A pipeline. -/
def State.pipe (s : State) (p : Nat) : Pipe := tgetD s.cls.pipes p {}

def State.setPipe (s : State) (p : Nat) (v : Pipe) : State := { s with cls.pipes := tset s.cls.pipes p v }

/-- An entry matches a key (R73). -/
def TcamEntry.hits (e : TcamEntry) (key : Nat) : Bool := (key &&& e.mask) = (e.value &&& e.mask)

/-- A pair is in 640-bit mode. -/
def Pipe.wideBank (p : Pipe) (bank : Nat) : Bool := p.widePairs.testBit (bank / 2)

/-- A bank that a search with this mask looks at: named, and not retired, nor the partner of a retired one in a 640-bit pair (R73, R81).
DEDUCED, unsafe: log entry 67. -/
def Pipe.searches (p : Pipe) (bankMask bank : Nat) : Bool :=
  bankMask.testBit bank && !p.retiredBanks.testBit bank && !(p.wideBank bank && p.retiredBanks.testBit (bank + 1))

/-- The matching entry of lowest address in the banks searched (R74). -/
def Pipe.search (p : Pipe) (bankMask key : Nat) : Option Nat :=
  ((p.tcam.filter (fun e => p.searches bankMask (e.1 / 2048) && e.2.hits key)).map Prod.fst).min?

/-- The search profile's banks without those retired, and without the partners of retired banks in 640-bit pairs (R81, R617). -/
def Pipe.keptBanks (p : Pipe) (word : Nat) : Nat :=
  (List.range 16).foldl (fun w b => if w.testBit b && p.searches w b = false then setBit w b false else w) word

/-- An entry's write sets its valid bit (R79). -/
def Pipe.putEntry (p : Pipe) (addr : Nat) (e : TcamEntry) : Pipe := { p with tcam := tset p.tcam addr e, invalid := tdel p.invalid addr }

/-- Entries lose their valid bit, and keep what they hold; the rules' handles and priorities are firmware's and go. -/
def Pipe.invalidate (p : Pipe) (q : Nat → TcamEntry → Bool) : Pipe :=
  let gone := p.tcam.filter (fun e => q e.1 e.2)
  { p with
    tcam := p.tcam.filter (fun e => !q e.1 e.2)
    invalid := gone.foldl (fun t e => tset t e.1 { e.2 with handle := 0, prio := 0 }) p.invalid }

/-- A match counts (R78). -/
def Pipe.countHit (p : Pipe) (addr len : Nat) : Pipe :=
  match tget p.tcam addr with
  | none => p
  | some e => { p with tcam := tset p.tcam addr { e with pkts := inc64 e.pkts, bytes := add64 e.bytes len } }

/-- The selectors of a key profile. -/
def Pipe.selectors (p : Pipe) (k : Nat) : List Nat := tgetD p.keyProfiles k (List.replicate 20 0)

/-- Classifier settings of a port. -/
def State.portClass (s : State) (port : Nat) : PortClass := tgetD s.cls.ports port {}

/-- The action of a pass of a class (R71 to R74): the matching entry's, whose counters count, or the port's miss action. -/
def classify (pipe port cls : Nat) (m : Meta) (px : Parse) (d : Bytes) (s : State) : Nat × State :=
  let pc := s.portClass port
  let p := s.pipe pipe
  let sp := pc.map.getD cls 0xFF
  let word := tgetD p.searchProfiles sp 0
  if sp = 0xFF || !word.testBit 31 then (pc.miss, s)
  else
    let key := keyOfSelectors m px d cls (p.selectors (field 25 21 word))
    match p.search (word % 65536) key with
    | none => (pc.miss, s)
    | some a => ((tgetD p.tcam a ⟨0, 0, 0, 0, 0, 0, 0⟩).action, s.setPipe pipe (p.countHit a (d.length + 4)))

/-! ## Action words (Table 2-10) -/

def actDisp (a : Nat) : Nat := field 127 126 a
def actFlow (a : Nat) : Bool := a.testBit 125
def actTemplate (a : Nat) : Nat := field 124 117 a
def actRecirc (a : Nat) : Bool := a.testBit 116
def actStrip (a : Nat) : Nat := field 115 112 a
def actState (a : Nat) : Nat := field 111 106 a
def actOvf (a : Nat) : Bool := a.testBit 105
def actMirror (a : Nat) : Bool := a.testBit 104
def actSession (a : Nat) : Nat := field 103 100 a
def actPol (a : Nat) : Bool := a.testBit 99
def actPolicer (a : Nat) : Nat := field 98 83 a
def actTcEn (a : Nat) : Bool := a.testBit 82
def actTc (a : Nat) : Nat := field 81 79 a
def actZoneEn (a : Nat) : Bool := a.testBit 78
def actZone (a : Nat) : Nat := field 77 62 a
def actRedir (a : Nat) : Bool := a.testBit 61
def actRedirType (a : Nat) : Bool := a.testBit 60
def actDest (a : Nat) : Nat := field 59 44 a
def actReason (a : Nat) : Nat := field 43 36 a
def actDscpEn (a : Nat) : Bool := a.testBit 35
def actDscp (a : Nat) : Nat := field 34 29 a

/-- An action word that no command may store (R87): a slow-path disposition with a reason below 0x40. -/
def badAction (a : Nat) : Bool := a.testBit 127 && actReason a < 0x40

/-- Reserved bits of an action word. -/
def reservedAction (a : Nat) : Bool := a % 2 ^ 29 != 0

/-- A field of the combined action word replaced where the other word's enable bit is 1. -/
def takeField (en hi lo a b : Nat) : Nat := if b.testBit en then setField hi lo (field hi lo b) a else a

/-- FLOW_ACTION or STATELESS combined into an action word (R175). -/
def combine (a b : Nat) : Nat :=
  let a := takeField 125 125 117 a b
  let a := takeField 104 104 100 a b
  let a := takeField 99 99 83 a b
  let a := takeField 82 82 79 a b
  let a := takeField 78 78 62 a b
  let a := takeField 61 61 44 a b
  let a := takeField 35 35 29 a b
  if actDisp b = 0 then a else setField 43 36 (actReason b) (setField 127 126 (actDisp b) a)

end Sys2Proof.Machine
end

