-- ==== Sys2Proof/Machine/Basin.lean ====
section
/-! DEFINITION. The Basin: pools, virtual output queues, admission and release, headroom, PFC, hold and linger (R276 to R308, R361). -/

namespace Sys2Proof.Machine

/-! ## Slots and ports -/

/-- The device's slot: 0 outside a fabric group (Table 6-2). -/
def State.ownSlot (s : State) : Nat := if s.fab.cfg.enable then s.fab.cfg.slot else 0

/-- An octal group is a Dvorob Link port. -/
def State.fabricGroup (s : State) (g : Nat) : Bool := (tget s.fab.ports g).isSome

/-- The identity of the fabric group and of the slot, as a member TLV carries them. -/
def State.fabricGroupId (s : State) : Nat := if s.fab.cfg.enable then s.fab.cfg.groupId else 0xFFFF
def State.fabricSlotOrNone (s : State) : Nat := if s.fab.cfg.enable then s.fab.cfg.slot else 0xFF
def State.learnGroupOrNone (s : State) : Nat := if s.fwd.exchanged then s.fwd.learnGroup else 0xFF

/-- A local front port's field carries the device's slot; the other kinds carry none (R435). -/
def State.sysPort (s : State) (port : Nat) : Nat := if portKind port = 0 then s.ownSlot * 256 + port % 256 else port

/-- The local port that a port field names, if the field is of this device. -/
def State.ofSysPort (s : State) (f : Nat) : Option Nat :=
  if portKind f != 0 then some f else if f / 256 = s.ownSlot then some (f % 256) else none

/-- The local port that the port field of a command names (R435): a front port of this device, or the management, host or a recirculation port. -/
def State.portArg (s : State) (f : Nat) : Option Nat :=
  if portKind f = 0 then (if f / 256 = s.ownSlot then some (f % 256) else none)
  else if f = mgmtPort || f = hostPort || (recircPort 0 ≤ f && f < recircPort 16) then some f
  else none

/-- The region of a local port (R276, R24). -/
def regionOfPort (port : Nat) : Nat := if portKind port = 0 then port % 256 / 64 else 0

/-- Cells of a frame of `n` bytes without its FCS (R276). -/
def cellsOf (n : Nat) : Nat := ceilDiv (n + 4) 256

/-- A local port's link is up; the management, host and recirculation ports have no link that goes down. DESIGN CHOICE, unsafe: log entry 89. -/
def State.linkUp (s : State) (port : Nat) : Bool := portKind port != 0 || s.ports.up.testBit port

/-- A system port is down, here or on another member (R304, R305). -/
def State.portIsDown (s : State) (f : Nat) : Bool :=
  match s.ofSysPort f with
  | some p => !s.linkUp p
  | none => s.fab.remoteDown.contains f || s.fab.downSlots.contains (f / 256)

/-! ## Configuration -/

def State.regionCfg (s : State) (r : Nat) : RegionCfg := tgetD s.buf.cfg.regions r {}
def BufCfg.pfcOf (c : BufCfg) (p : Nat) : PfcCfg := tgetD c.pfc p {}
def State.pfcCfg (s : State) (p : Nat) : PfcCfg := s.buf.cfg.pfcOf p

/-- LINGER of a port, in units of 100 µs; the default is 10 ms (R303). -/
def State.linger (s : State) (p : Nat) : Nat := tgetD s.buf.cfg.linger p 100

/-- Lossless priorities of a port: in 802.3x mode all frames count as one (R297). -/
def PfcCfg.priorities (c : PfcCfg) : List Nat :=
  if c.mode = 0 then [] else if c.mode = 1 then (if c.lossless = 0 then [] else [0]) else bitsOf 8 c.lossless

/-- A queue profile. -/
def BufCfg.profile (c : BufCfg) (k : Nat) : QProfile := tgetD c.profiles k (defaultProfile k)

/-- The profile number of a VOQ number (R327). -/
def BufCfg.profileOf (c : BufCfg) (voq : Nat) : Nat :=
  match c.map.find? (fun e => e.1 ≤ voq && voq < e.1 + e.2.1) with
  | some e => e.2.2
  | none => defaultMap voq

/-- Slots of the members that the device knows. -/
def State.memberSlots (s : State) : List Nat :=
  s.ownSlot :: (if s.fab.cfg.enable then s.fab.members.filter (· != s.ownSlot) else [])

/-- The slot of a device of the fabric group: that of a neighbour or of a sender of learning messages; else a member's whose device nothing has
named yet (free). DESIGN CHOICE, safe: log entry 139. -/
def State.slotOfDevice (s : State) (d : Nat) : Option Nat :=
  let named (k : Nat) : Option Nat := ((tget s.disc.peers k).map Prod.fst).or (tget s.fab.devices k)
  let others := s.memberSlots.drop 1
  match others.find? (fun k => named k = some d) with
  | some k => some k
  | none => (others.filter (fun k => (named k).isNone)).find? (· = Config.memberSlot d % 32)

/-- A device is a member of the own fabric group. -/
def State.fabricMember (s : State) (dev : Nat) : Bool := s.fab.cfg.enable && (dev = s.ocf.deviceId || (s.slotOfDevice dev).isSome)

/-- A port of another member is configured there, as far as the device knows (R282). DESIGN CHOICE, safe: log entry 139. -/
def State.farPort (s : State) (slot port : Nat) : Bool := s.fab.remotePorts.contains (slot * 256 + port) || Config.memberPort slot port

/-- A VOQ is enabled (R282). -/
def State.voqEnabled (s : State) (voq : Nat) : Bool :=
  let slot := voq / 2048 % 32
  let port := voq / 8 % 256
  if voq < 65536 then
    if slot = s.ownSlot then (tget s.ports.cfg port).isSome else s.memberSlots.contains slot && s.farPort slot port
  else if port < 16 then s.memberSlots.contains slot
  else (port = 16 || port = 17) && slot = s.ownSlot

/-- The numbers of the enabled VOQs of a region. -/
def State.enabledVoqs (s : State) : List Nat :=
  let tcs := List.range 8
  let own := (tkeys s.ports.cfg).flatMap (fun p => tcs.map (fun t => s.ownSlot * 2048 + p * 8 + t))
  let far := (s.memberSlots.drop 1).flatMap (fun k =>
    ((List.range 256).filter (s.farPort k)).flatMap (fun p => tcs.map (fun t => k * 2048 + p * 8 + t)))
  let mc := s.memberSlots.flatMap (fun k => (List.range 128).map (fun i => 65536 + k * 2048 + i))
  let loc := (List.range 16).map (fun i => 65536 + s.ownSlot * 2048 + 128 + i)
  own ++ far ++ mc ++ loc

/-- Headroom of a region's ports under a configuration (Table 6-1). -/
def BufCfg.headroomOf (c : BufCfg) (r : Nat) : Nat :=
  ((c.pfc.filter (fun e => regionOfPort e.1 = r)).map (fun e => e.2.priorities.length * e.2.headroom)).sum

/-- VOQ reserves of a region under a configuration. -/
def State.reservesOf (s : State) (c : BufCfg) : Nat := (s.enabledVoqs.map (fun v => (c.profile (c.profileOf v)).reserve)).sum

/-- The four pools other than the shared pool. -/
def State.otherPools (s : State) (c : BufCfg) (r : Nat) : Nat :=
  let g := tgetD c.regions r ({} : RegionCfg)
  g.ingressPool + g.fabRxPool + c.headroomOf r + s.reservesOf c

/-- The size S of a region's shared pool (Table 6-1). -/
def State.sharedSize (s : State) (r : Nat) : Nat := 131072 - s.otherPools s.buf.cfg r

/-- The free cells F of a region's shared pool. -/
def State.sharedFree (s : State) (r : Nat) : Nat := s.sharedSize r - tgetD s.buf.shared r 0

/-! ## High-water marks (R361) -/

/-- A mark that keeps its greatest sample. -/
def raiseMark (t : Tab (Nat × Nat)) (k v now : Nat) : Tab (Nat × Nat) := if v > (tgetD t k (0, 0)).1 then tset t k (v, now) else t

/-- SHARED_LOW keeps its least sample; its clear value is S. DESIGN CHOICE, unsafe: log entry 25. -/
def lowerMark (t : Tab (Nat × Nat)) (k v now clear : Nat) : Tab (Nat × Nat) :=
  if v < (tgetD t k (clear, 0)).1 then tset t k (v, now) else t

/-! ## PFC and pause (R297, R298) -/

/-- A pause frame (802.3x) or PFC frame of one priority. -/
def pauseFrame (s : State) (mode prio quanta : Nat) : Bytes :=
  let head := beBytes 6 0x0180C2000001 ++ beBytes 6 s.ocf.stationMac ++ beBytes 2 0x8808
  let body :=
    if mode = 1 then beBytes 2 0x0001 ++ beBytes 2 quanta
    else beBytes 2 0x0101 ++ beBytes 2 (2 ^ prio) ++ (List.range 8).flatMap (fun k => beBytes 2 (if k = prio then quanta else 0))
  fit 60 (head ++ body)

/-- The device sends a PFC or pause frame. -/
def sendPause (port prio quanta : Nat) (s : State) : State :=
  let mode := (s.pfcCfg port).mode
  let c := tgetD s.ports.counters port {}
  let c := if mode = 1 then { c with txPause := inc64 c.txPause } else { c with txPfc := tinc c.txPfc prio }
  { s with
    ports.counters := tset s.ports.counters port c
    out.frames := s.out.frames ++ [{ port := port, data := pauseFrame s mode prio quanta }] }

/-- U(p, k) has changed. -/
def checkXoff (port prio : Nat) (s : State) : State :=
  let k := 8 * port + prio
  let c := s.pfcCfg port
  let u := tgetD s.buf.u k 0
  if c.mode = 0 then s
  else if u > c.xoff && !s.buf.xoff.contains k then sendPause port prio 65535 { s with buf.xoff := k :: s.buf.xoff }
  else if u < c.xon && s.buf.xoff.contains k then sendPause port prio 0 { s with buf.xoff := s.buf.xoff.erase k }
  else s

/-- U(p, k) of a lossless frame rises or falls by some cells. -/
def addU (lossless : Bool) (port prio n : Nat) (s : State) : State :=
  if !lossless then s
  else checkXoff port prio { s with buf.u := tmod s.buf.u (8 * port + prio) 0 (· + n) }

def subU (lossless : Bool) (port prio n : Nat) (s : State) : State :=
  if !lossless then s
  else checkXoff port prio { s with buf.u := tmod s.buf.u (8 * port + prio) 0 (· - n) }

/-! ## The ingress pool -/

/-- Room in the headroom of a (port, priority) (R299). -/
def State.headroomFits (s : State) (port prio n : Nat) : Bool :=
  tgetD s.buf.headroom (8 * port + prio) 0 + n ≤ (s.pfcCfg port).headroom

/-- A frame's cells are charged to headroom. -/
def chargeHeadroom (port prio n : Nat) (s : State) : State :=
  let k := 8 * port + prio
  let used := tgetD s.buf.headroom k 0 + n
  { s with
    buf.headroom := tset s.buf.headroom k used
    eg.headroomHigh := raiseMark s.eg.headroomHigh k used s.estateNs }

/-- Room in the ingress pool for `n` cells of a port (R278). -/
def State.ingressFits (s : State) (r port n : Nat) : Bool :=
  let c := s.regionCfg r
  tgetD s.buf.ingress r 0 + n ≤ c.ingressPool && tgetD s.buf.pend (r * 65536 + port) 0 + n ≤ c.portPendMax

/-- A frame's cells are charged to the ingress pool. -/
def chargeIngress (r port n : Nat) (s : State) : State :=
  let used := tgetD s.buf.ingress r 0 + n
  { s with
    buf.ingress := tset s.buf.ingress r used
    buf.pend := tmod s.buf.pend (r * 65536 + port) 0 (· + n)
    eg.ingressHigh := raiseMark s.eg.ingressHigh r used s.estateNs }

/-- The charge of a stored frame is taken off its pool. -/
def uncharge (f : Frame) (s : State) : State :=
  if f.headroom then { s with buf.headroom := tmod s.buf.headroom (8 * f.orig + f.prio) 0 (· - f.cells) }
  else { s with
    buf.ingress := tmod s.buf.ingress f.region 0 (· - f.cells)
    buf.pend := tmod s.buf.pend (f.region * 65536 + f.orig) 0 (· - f.cells) }

/-- A stored frame is discarded before enqueue: its cells are freed. -/
def freeFrame (f : Frame) (s : State) : State := subU f.lossless f.orig f.prio f.cells (uncharge f s)

/-- A headroom refusal discards the frame (R299). -/
def overrun (port : Nat) (s : State) : State := raise 205 { s with buf.headroomOverrun := tinc s.buf.headroomOverrun port }

/-- An arriving frame's cells are charged (R277, R278, R299): the frame with its charge, or none where it is discarded. -/
def store (f : Frame) (s : State) : Option Frame × State :=
  if s.ingressFits f.region f.orig f.cells then
    (some f, addU f.lossless f.orig f.prio f.cells (chargeIngress f.region f.orig f.cells s))
  else if f.lossless then
    if s.headroomFits f.orig f.prio f.cells then
      (some { f with headroom := true }, addU true f.orig f.prio f.cells (chargeHeadroom f.orig f.prio f.cells s))
    else (none, overrun f.orig s)
  else (none, { s with buf.inDiscard := tinc s.buf.inDiscard f.orig })

/-! ## Virtual output queues -/

def State.voq (s : State) (k : Nat) : Voq := tgetD s.buf.voqs k {}
def State.setVoq (s : State) (k : Nat) (q : Voq) : State := { s with buf.voqs := tset s.buf.voqs k q }

/-- The key of a VOQ in a region, and its parts. -/
def voqKey (r voq : Nat) : Nat := r * 131072 + voq
def voqRegion (k : Nat) : Nat := k / 131072
def voqTc (k : Nat) : Nat := k % 8
def voqPort (k : Nat) : Nat := k / 8 % 256
def voqSlot (k : Nat) : Nat := k / 2048 % 32
def voqClass (k : Nat) : Nat := k / 65536 % 2

/-- The profile of a VOQ. -/
def State.voqProfile (s : State) (k : Nat) : QProfile := s.buf.cfg.profile (s.buf.cfg.profileOf (k % 131072))

/-- Cells of a queue's frames. -/
def cellSum (fs : List QFrame) : Nat := (fs.map QFrame.cells).sum

/-- Cells of a queue's middle segment, those of lost frames apart (R295). -/
def Voq.middle (q : Voq) : Nat := (q.pages.map Prod.snd).sum

/-- Cells of a queue's tail segment. -/
def Voq.tail (q : Voq) : Nat := cellSum q.frames - q.head - q.middle

/-- The frames of a queue, each with the place of its first cell, from the place of the first. -/
def starts : Nat → List QFrame → List (Nat × QFrame)
  | _, [] => []
  | a, f :: fs => (a, f) :: starts (a + f.cells) fs

/-- Cells of a frame between two places of its queue. -/
def overlap (lo hi : Nat) (e : Nat × QFrame) : Nat := min (e.1 + e.2.cells) hi - max e.1 lo

/-- The frames of a queue, each with the number of its cells between two places. -/
def placed (lo hi : Nat) (fs : List QFrame) : List (QFrame × Nat) := (starts 0 fs).map (fun e => (e.2, overlap lo hi e))

/-- The frames of a queue, each with the number of its cells on die. -/
def Voq.dieCells (q : Voq) : List (QFrame × Nat) := (placed q.head (q.head + q.middle) q.frames).map (fun e => (e.1, e.1.cells - e.2))

/-- Cells that a queue holds on die: those charged to its reserve and to the shared pool, and those in headroom (R292, R299). -/
def Voq.onDie (q : Voq) : Nat := q.reserve + q.shared + ((q.dieCells.filter (fun e => e.1.headroom)).map Prod.snd).sum

/-- The head frame leaves the queue, which leaves spill state when its middle is empty (R292). -/
def Voq.pop (q : Voq) : Voq :=
  match q.frames with
  | [] => q
  | f :: fs =>
    if q.pages = [] then { q with frames := fs, spill := false, head := 0 } else { q with frames := fs, head := q.head - f.cells }

/-- The head frame, when all its cells are in the head segment (R285, R292). A queue without pages is served whole. -/
def Voq.headFrame (q : Voq) : Option QFrame :=
  match q.frames with
  | [] => none
  | f :: _ => if q.spill && q.pages != [] && f.cells > q.head then none else some f

/-- Both controllers are ready (R161, R389). -/
def State.hbmReady (s : State) : Bool := s.hbm.stackStates = [.ready, .ready]

/-- A queue that holds more than SPILL_ON cells on die enters spill state (R292): its head keeps HEAD_KEEP cells, and the rest is its tail. -/
def enterSpill (k : Nat) (s : State) : State :=
  let q := s.voq k
  let p := s.voqProfile k
  if p.spillEn && s.hbmReady && !q.spill && q.onDie > p.spillOn then
    s.setVoq k { q with spill := true, head := min p.headKeep (cellSum q.frames) }
  else s

/-- The dynamic-threshold test of R286. -/
def admits (reserve alpha r d n free : Nat) : Bool :=
  let a := min n (reserve - r)
  let x := n - a
  x = 0 || (x ≤ free && (d + x) * 64 ≤ 2 ^ alpha * free)

/-- A frame's length as counters take it. -/
def QFrame.len (f : QFrame) : Nat := f.data.length + 4

/-- A VOQ discards a frame at admission (R286, R288). -/
def countDiscard (k : Nat) (f : QFrame) (s : State) : State :=
  let q := s.voq k
  let s := s.setVoq k { q with discarded := inc64 q.discarded, discardedBytes := add64 q.discardedBytes f.len }
  { s with buf.discards := tinc s.buf.discards (8 * voqRegion k + voqTc k) }

/-- A control cell to every neighbour: one on each port that is up. -/
def sendToNeighbours (c : Control) (s : State) : State :=
  { s with fab.ports := s.fab.ports.map (fun e => (e.1, if e.2.up then { e.2 with control := e.2.control ++ [c] } else e.2)) }

/-- A control cell for one slot waits on the ports that reach it: the lowest port that is up and whose neighbour is that slot, else the lowest
port that is up whose neighbour reaches it. -/
def sendToSlot (slot : Nat) (c : Control) (s : State) : State :=
  let ups := s.fab.ports.filter (fun e => e.2.up)
  let near := ups.find? (fun e => (e.2.neighbour.map Prod.fst) = some slot)
  match near.or (ups.find? (fun e => e.2.reach.testBit slot)) with
  | some (g, p) => { s with fab.ports := tset s.fab.ports g { p with control := p.control ++ [c] } }
  | none => s

/-- A PORT_STATE cell to every member of the fabric group (R304). -/
def sendPortState (port : Nat) (up : Bool) (s : State) : State :=
  forEach s.fab.members s (fun k s => sendToSlot k (.portState k port up) s)

/-- Dvorob Link cells of a frame (R314). DESIGN CHOICE, unsafe: log entry 92. -/
def QFrame.linkCells (f : QFrame) : Nat := 1 + ceilDiv (f.len - 224) 240

/-- The frames of a list whose cells all stand within the first `n`. -/
def within (n : Nat) : List QFrame → List QFrame
  | [] => []
  | f :: fs => if f.cells ≤ n then f :: within (n - f.cells) fs else []

/-- The frames that a queue can send: those of its head segment (R292, R318). -/
def Voq.headFrames (q : Voq) : List QFrame := if q.spill && q.pages != [] then within q.head q.frames else q.frames

/-- A VOQ for another slot asks for a grant of its head backlog (R318): the frames of its head segment, up to 1,024 fabric cells, with what the
first of them takes. -/
def requestGrant (k : Nat) (s : State) : State :=
  let q := s.voq k
  if voqSlot k = s.ownSlot then s
  else match q.headFrames with
    | [] => s
    | f :: fs =>
      let n := min 1024 (((f :: fs).map QFrame.linkCells).sum)
      sendToSlot (voqSlot k) (.request (voqSlot k) (voqRegion k) (voqPort k) (voqTc k) (voqClass k) n f.linkCells) s

/-- A frame joins a queue, and the marks and the spill state follow. -/
def appendVoq (k : Nat) (f : QFrame) (reserve shared pool : Nat) (s : State) : State :=
  let q := s.voq k
  let first := q.frames = []
  let q := { q with
    frames := q.frames ++ [f]
    reserve := q.reserve + reserve
    shared := q.shared + shared
    admitted := inc64 q.admitted
    admittedBytes := add64 q.admittedBytes f.len }
  let r := voqRegion k
  let s : State := { s.setVoq k q with buf.shared := tmod s.buf.shared r 0 (· + pool) }
  let now := s.estateNs
  let s : State := { s with
    eg.voqCells := raiseMark s.eg.voqCells k (q.onDie + 16 * q.pages.length) now
    eg.sharedLow := lowerMark s.eg.sharedLow r (s.sharedFree r) now (s.sharedSize r) }
  let s := enterSpill k s
  if first then requestGrant k s else s

/-- Admission of a unicast or local frame whose charge has been taken off its pool (R286, R299): the new state, or none where it is refused. -/
def admitVoq (k : Nat) (f : QFrame) (s : State) : Option State :=
  let q := s.voq k
  let p := s.voqProfile k
  if f.headroom then some (appendVoq k f 0 0 0 s)
  else if admits p.reserve p.alpha q.reserve q.shared f.cells (s.sharedFree (voqRegion k)) then
    let a := min f.cells (p.reserve - q.reserve)
    some (appendVoq k f a (f.cells - a) (f.cells - a) s)
  else if f.lossless && s.headroomFits f.orig f.prio f.cells then
    some (appendVoq k { f with headroom := true } 0 0 0 (chargeHeadroom f.orig f.prio f.cells s))
  else none

/-- The charge that `n` cells of a VOQ hold is released: shared cells first, then the reserve (R280). -/
def releaseCells (k n : Nat) (s : State) : State :=
  let q := s.voq k
  let x := min n q.shared
  { s.setVoq k { q with shared := q.shared - x, reserve := q.reserve - (n - x) } with
    buf.shared := tmod s.buf.shared (voqRegion k) 0 (· - x) }

/-- The headroom that a frame holds is released (R299). -/
def freeHeadroom (f : QFrame) (s : State) : State :=
  { s with buf.headroom := tmod s.buf.headroom (8 * f.orig + f.prio) 0 (· - f.cells) }

/-- A frame leaves the device from a VOQ, or is discarded there, with `n` of its cells on die: their charge is released; that of a multicast frame
with its last copy (R280, R298, R299, R308). DEDUCED, unsafe: log entry 90. -/
def releasePart (k : Nat) (f : QFrame) (n : Nat) (s : State) : State :=
  match f.shared with
  | none =>
    if f.headroom then subU f.lossless f.orig f.prio f.cells (freeHeadroom f s)
    else subU f.lossless f.orig f.prio n (releaseCells k n s)
  | some m =>
    let q := s.voq k
    let s := if f.headroom then s else s.setVoq k { q with shared := q.shared - n }
    let left := tgetD s.buf.copies m 0 - 1
    if left != 0 then { s with buf.copies := tset s.buf.copies m left }
    else
      let s : State := { s with buf.copies := tdel s.buf.copies m }
      let s := if f.headroom then freeHeadroom f s else { s with buf.shared := tmod s.buf.shared (voqRegion k) 0 (· - f.cells) }
      subU f.lossless f.orig f.prio f.cells s

/-- The same for a frame that stands on die whole. -/
def releaseFrame (k : Nat) (f : QFrame) (s : State) : State := releasePart k f f.cells s

/-- Cells of a frame leave the die for a spilled page: they leave the VOQ's charge, and U (R294, R298). A frame in headroom stays charged to it
(R299), and the pool's charge of a multicast frame stays with its other copies (R308). -/
def moveOff (k : Nat) (f : QFrame) (n : Nat) (s : State) : State :=
  if f.headroom then s
  else if f.shared.isSome then s.setVoq k { s.voq k with shared := (s.voq k).shared - n }
  else subU f.lossless f.orig f.prio n (releaseCells k n s)

/-- Cells of a frame come back on die: they are charged to D without the test of R286 (R293). -/
def moveOn (k : Nat) (f : QFrame) (n : Nat) (s : State) : State :=
  if f.headroom then s
  else
    let s := s.setVoq k { s.voq k with shared := (s.voq k).shared + n }
    if f.shared.isSome then s
    else addU f.lossless f.orig f.prio n { s with buf.shared := tmod s.buf.shared (voqRegion k) 0 (· + n) }

/-- Every frame of a VOQ is discarded with its pages, and each is counted by `f`. -/
def emptyVoq (k : Nat) (count : QFrame → State → State) (s : State) : State :=
  let q := s.voq k
  let s := s.setVoq k { q with frames := [], spill := false, head := 0, pages := [] }
  let s : State := { s with buf.pages := s.buf.pages.filter (fun g => !(g / 2 ^ 22 = voqRegion k && (q.pages.map Prod.fst).contains (g % 2 ^ 22))) }
  forEach q.dieCells s (fun e s => count e.1 (releasePart k e.1 e.2 s))

/-! ## Choosing a VOQ (R283) -/

/-- The VOQ number of a port field: CLASS 0 of a front port, CLASS 1 of the host and management ports. -/
def State.voqOfPort (s : State) (f tc : Nat) : Option Nat :=
  match portKind f with
  | 0 => some (f % 8192 * 8 + tc)
  | 1 => some (65536 + s.ownSlot * 2048 + 17 * 8 + tc)
  | 2 => some (65536 + s.ownSlot * 2048 + 16 * 8 + tc)
  | _ => none

/-- The (port, TC) is under the watchdog of R302. -/
def State.watchdogOn (s : State) (port tc : Nat) : Bool := (tgetD s.eg.queues (8 * port + tc) {}).watchdog

/-- A frame whose charge has been taken off its pool is discarded at enqueue. -/
def dropQueued (q : QFrame) (s : State) : State :=
  subU q.lossless q.orig q.prio q.cells (if q.headroom then freeHeadroom q s else s)

/-- A frame whose charge has been taken off its pool goes to a port (R282, R302, R305, R320, R286). A remote VOQ that was empty asks for a grant by
its own row (R318). -/
def enqueuePort (r f tc : Nat) (q : QFrame) (s : State) : State :=
  let gone (s : State) : State := dropQueued q s
  match s.voqOfPort f tc with
  | none => gone { s with buf.noVoq := tinc s.buf.noVoq r }
  | some v =>
    if !s.voqEnabled v then gone { s with buf.noVoq := tinc s.buf.noVoq r }
    else if voqSlot v != s.ownSlot && s.fab.downSlots.contains (voqSlot v) then gone { s with fab.unreach := inc64 s.fab.unreach }
    else if s.portIsDown f then gone { s with buf.downDiscard := tinc s.buf.downDiscard (8 * f + tc) }
    else if ((s.ofSysPort f).map (fun p => s.watchdogOn p tc)).getD false then
      gone { s with buf.wdDiscard := tinc s.buf.wdDiscard (8 * ((s.ofSysPort f).getD 0) + tc) }
    else match admitVoq (voqKey r v) q s with
      | some s => s
      | none =>
        let s := countDiscard (voqKey r v) q s
        gone (if q.lossless then overrun q.orig s else s)

/-- A copy of a frame is admitted as a frame of its own (R90, R87): it takes the shared pool's cells through its VOQ alone. -/
def enqueueCopy (r f tc : Nat) (q : QFrame) (s : State) : State :=
  enqueuePort r f tc { q with lossless := false, headroom := false } s

/-- A slow-path frame (R283, R600): discarded at enqueue while the host is absent and HOSTLESS is DISCARD. -/
def enqueueSlow (r tc : Nat) (q : QFrame) (s : State) : State :=
  if s.disc.hostless = 1 && !s.disc.hostPresent then
    dropQueued q { s with disc.slowpathNoHost := inc64 s.disc.slowpathNoHost }
  else enqueuePort r hostPort tc q s

/-- A CLASS 1 VOQ admits a copy of a multicast frame, RESERVE taken as 0; the pool's cells are free to it when an earlier copy holds them. -/
def State.admitsCopy (s : State) (k : Nat) (q : QFrame) (held : Bool) : Bool :=
  admits 0 (s.voqProfile k).alpha 0 (s.voq k).shared q.cells (s.sharedFree (voqRegion k) + (if held then q.cells else 0))

/-- A multicast frame's copies (R308), each with the number of copies placed before it. -/
def placeGroup (r m : Nat) (voqs : List Nat) (q : QFrame) (s : State) : Nat × State :=
  forEach voqs (0, s) (fun v (n, s) =>
    let k := voqKey r v
    if !s.voqEnabled v then (n, { s with buf.noVoq := tinc s.buf.noVoq r })
    else if voqSlot k != s.ownSlot && s.fab.downSlots.contains (voqSlot k) then (n, { s with fab.unreach := inc64 s.fab.unreach })
    else if q.headroom then (n + 1, appendVoq k { q with shared := some m } 0 0 0 s)
    else if s.admitsCopy k q (n != 0) then (n + 1, appendVoq k { q with shared := some m } 0 q.cells (if n = 0 then q.cells else 0) s)
    else (n, countDiscard k q s))

/-- Some VOQ of a multicast frame refuses its copy under R286. -/
def State.groupRefused (s : State) (r : Nat) (voqs : List Nat) (q : QFrame) : Bool :=
  voqs.any (fun v => s.voqEnabled v && !s.admitsCopy (voqKey r v) q false)

/-- A multicast frame's copies: one in each CLASS 1 VOQ named, the shared pool charged once (R308). A lossless frame of which a copy is refused goes
to headroom whole, when that has room, and every copy is then taken; without room the copies that are refused are discarded, and the overrun is
counted (R299). DESIGN CHOICE, unsafe: log entry 90. -/
def enqueueGroup (r : Nat) (voqs : List Nat) (q : QFrame) (s : State) : State :=
  let m := s.buf.nextShared
  let s : State := { s with buf.nextShared := m + 1 }
  let short := q.lossless && !q.headroom && s.groupRefused r voqs q
  let room := short && s.headroomFits q.orig q.prio q.cells
  let q := if room then { q with headroom := true } else q
  let s := if room then chargeHeadroom q.orig q.prio q.cells s else if short then overrun q.orig s else s
  let (n, s) := placeGroup r m voqs q s
  if n = 0 then dropQueued q s else { s with buf.copies := tset s.buf.copies m n }

/-! ## Links (R303 to R307) -/

/-- The neighbours of a port that goes down leave the discovery table (Table 14-7). -/
def dropNeighbours (port : Nat) (s : State) : State :=
  if s.disc.neighbours.any (fun n => n.port = port) then
    raise 401 { s with disc.neighbours := s.disc.neighbours.filter (fun n => n.port != port) }
  else s

/-- An egress port. -/
def State.egPort (s : State) (p : Nat) : EgPort := tgetD s.eg.ports p {}
def State.setEgPort (s : State) (p : Nat) (v : EgPort) : State := { s with eg.ports := tset s.eg.ports p v }
def State.egPipe (s : State) (p : Nat) : EgPipe := tgetD s.eg.pipes p {}
def State.setEgPipe (s : State) (p : Nat) (v : EgPipe) : State := { s with eg.pipes := tset s.eg.pipes p v }

/-- A Dvorob Link port. -/
def State.fabPort (s : State) (g : Nat) : FabPort := tgetD s.fab.ports g { width := 0, rate := 0 }
def State.setFabPort (s : State) (g : Nat) (p : FabPort) : State := { s with fab.ports := tset s.fab.ports g p }

/-- A control cell waits on a port. -/
def pushControl (g : Nat) (c : Control) (s : State) : State :=
  let p := s.fabPort g
  s.setFabPort g { p with control := p.control ++ [c] }

/-- Credits of a hop class go to the neighbour of a port; a CREDIT cell that still waits takes them up. DESIGN CHOICE, unsafe: log entry 91. -/
def sendCredit (g hop n : Nat) (s : State) : State :=
  let p := s.fabPort g
  match p.control.getLast? with
  | some (.credit h k) => if h = hop then s.setFabPort g { p with control := p.control.dropLast ++ [.credit h (k + n)] } else pushControl g (.credit hop n) s
  | _ => pushControl g (.credit hop n) s

/-- Cells take room in a port's receive buffer, which is a part of its region's fabric receive pool (R316). -/
def takeRx (g hop : Nat) (s : State) : State :=
  let p := s.fabPort g
  { s.setFabPort g (if hop = 0 then { p with used0 := p.used0 + 1 } else { p with used1 := p.used1 + 1 }) with
    buf.fabRx := tmod s.buf.fabRx (g / 8) 0 (· + 1) }

/-- Cells leave a port's receive buffer, and their credits go back to a neighbour that is up (R316). -/
def freeRx (g hop n : Nat) (s : State) : State :=
  let p := s.fabPort g
  let s : State := { s.setFabPort g (if hop = 0 then { p with used0 := p.used0 - n } else { p with used1 := p.used1 - n }) with
    buf.fabRx := tmod s.buf.fabRx (g / 8) 0 (· - n) }
  if p.up then sendCredit g hop n s else s

/-- Cells of a frame received over the Dvorob Link leave the grant window and the receive buffer that held them (R316, R319). -/
def freeFabric (pipe : Nat) (rx : Nat × Nat) (cells : Nat) (s : State) : State :=
  freeRx rx.1 rx.2 cells { s with fab.received := tmod s.fab.received pipe 0 (· - cells) }

/-- One copy of a replicated frame leaves or is discarded; the cells are freed with the last (R308). -/
def releaseReplica (m pipe : Nat) (f : QFrame) (s : State) : State :=
  let left := tgetD s.buf.copies m 0 - 1
  if left != 0 then { s with buf.copies := tset s.buf.copies m left }
  else
    let s : State := { s with buf.copies := tdel s.buf.copies m }
    if f.released.isSome then freeFabric pipe (f.rx.getD (0, 0)) f.cells s
    else subU f.lossless f.orig f.prio f.cells
      (if f.headroom then freeHeadroom f s else { s with buf.shared := tmod s.buf.shared f.region 0 (· - f.cells) })

/-- A granted frame goes: the charge it holds is released. -/
def releaseTx (t : TxFrame) (s : State) : State :=
  match t.voq, t.frame.shared with
  | some k, _ => releaseFrame k t.frame s
  | none, some m => releaseReplica m (pipeOfPort t.port) t.frame s
  | none, none => freeFabric (pipeOfPort t.port) (t.frame.rx.getD (0, 0)) t.frame.cells s

/-- An egress queue. -/
def State.egQueue (s : State) (port tc : Nat) : EgQueue := tgetD s.eg.queues (8 * port + tc) {}
def State.setEgQueue (s : State) (port tc : Nat) (q : EgQueue) : State := { s with eg.queues := tset s.eg.queues (8 * port + tc) q }

/-- A granted frame that had not crossed goes back to the head of its source: its VOQ, the port's replication queue, or its fabric receive queue. -/
def ungrant (t : TxFrame) (s : State) : State :=
  match t.voq with
  | some k =>
    let q := s.voq k
    s.setVoq k { q with frames := t.frame :: q.frames, head := if q.spill then q.head + t.frame.cells else q.head }
  | none =>
    let q := s.egQueue t.port t.tc
    let t : TxFrame := { t with wire := [] }
    s.setEgQueue t.port t.tc (if t.frame.shared.isSome then { q with repl := t :: q.repl } else { q with fabric := t :: q.fabric })

/-- The frames that wait for a port in its replication and fabric receive queues of a TC. -/
def EgQueue.waiting (q : EgQueue) : List TxFrame := q.repl ++ q.fabric

/-- A front port's link goes down (R303, R307): its VOQs enter hold; frames in transmission, and frames whose cells have crossed to the egress
pipeline, are lost and counted; the members hear of it. -/
def linkDown (port : Nat) (s : State) : State :=
  if !s.ports.up.testBit port then s
  else
    let f := s.sysPort port
    let e := s.egPort port
    let pp := s.egPipe (pipeOfPort port)
    let mine := pp.granted.filter (fun t => t.port = port)
    let lost := e.tx
    let s : State := { s with
      ports.up := setBit s.ports.up port false
      buf.hold := f :: s.buf.hold.erase f
      buf.txAbort := tadd s.buf.txAbort port lost.length }
    let s := s.setEgPort port { e with tx := [] }
    let s := s.setEgPipe (pipeOfPort port) { pp with granted := pp.granted.filter (fun t => t.port != port) }
    let s := forEach lost s releaseTx
    let s := forEach mine.reverse s ungrant
    dropNeighbours port (sendPortState port false s)

/-- A front port's link comes up: its VOQs leave hold (R306). -/
def linkComesUp (port : Nat) (s : State) : State :=
  if s.ports.up.testBit port then s
  else
    let f := s.sysPort port
    sendPortState port true { s with
      ports.up := setBit s.ports.up port true
      buf.hold := s.buf.hold.erase f }

/-- A VOQ is held: its port's link is down, or its slot is unreachable (R303, R304). -/
def State.voqHeld (s : State) (k : Nat) : Bool :=
  if voqClass k = 0 then s.buf.hold.contains (k / 8 % 8192) else voqSlot k != s.ownSlot && s.fab.downSlots.contains (voqSlot k)

/-- The VOQs of a system port, in every region. -/
def State.voqsOfPort (s : State) (f : Nat) : List Nat :=
  (tkeys s.buf.voqs).filter (fun k => voqClass k = 0 && k / 8 % 8192 = f)

/-- The CLASS 1 VOQs of an egress pipeline of another member, in every region. -/
def State.voqsOfPipe (s : State) (slot pipe : Nat) : List Nat :=
  (tkeys s.buf.voqs).filter (fun k => voqClass k = 1 && voqSlot k = slot && voqPort k = pipe)

/-- LINGER_DISCARD of a port and TC. -/
def countLinger (f tc : Nat) (s : State) : State := { s with buf.lingerDiscard := tinc s.buf.lingerDiscard (8 * f + tc) }

/-- The frames that wait for a port in its egress pipeline's queues are discarded, each counted for its TC. -/
def emptyPortQueues (port : Nat) (count : Nat → State → State) (s : State) : State :=
  forEach (List.range 8) s (fun tc s =>
    let q := s.egQueue port tc
    if q.waiting = [] then s
    else forEach q.waiting (s.setEgQueue port tc { q with repl := [], fabric := [] }) (fun t s => count tc (releaseTx t s)))

/-- LINGER ends first: every held frame is discarded, and source 206 is raised (R306). The CLASS 1 VOQs of an unreachable member's pipeline go with
the last of its ports to linger. A port that SPEED 0 has removed leaves the configuration (R438). DEDUCED, unsafe: log entry 141. -/
def endLinger (f : Nat) (s : State) : State :=
  let s : State := { s with buf.hold := s.buf.hold.erase f }
  let far := s.fab.downSlots.contains (f / 256) && !s.buf.hold.any (fun x => x / 16 = f / 16)
  let ks := s.voqsOfPort f ++ (if far then s.voqsOfPipe (f / 256) (f % 256 / 16) else [])
  let s := forEach ks s (fun k s => emptyVoq k (fun _ s => countLinger f (voqTc k) s) s)
  raise 206 (match s.ofSysPort f with
    | some p =>
      let s := emptyPortQueues p (countLinger f) s
      if ((tget s.ports.cfg p).map PortCfg.speed) = some 0 then { s with ports.cfg := tdel s.ports.cfg p } else s
    | none => s)

/-- LINGER_EXPIRE (R306, R438) of a system port: a local port whose mode has been removed loses its VOQs then. -/
def execLingerExpire (port : Nat) (s : State) : Host.Outcome State Fault Refusal :=
  .next (if s.buf.hold.contains port then endLinger port s else s)

/-- PFC_REFRESH (R298): the frame is repeated while U(p, k) stays at or above XON. -/
def execPfcRefresh (port prio : Nat) (s : State) : Host.Outcome State Fault Refusal :=
  .next (if s.buf.xoff.contains (8 * port + prio) && tgetD s.buf.u (8 * port + prio) 0 ≥ (s.pfcCfg port).xon then
    sendPause port prio 65535 s else s)

/-- Every frame of the device is lost (R606, Table 13-6): the stored frames, the queues and the frames beyond them. The table counts the frames
by region. -/
def dropAllFrames (s : State) : State × Tab Nat :=
  let waiting := (tvals s.cls.pipes).flatMap (fun p => p.wait.map Frame.region ++ p.desc.map (fun d => d.frame.region))
  let queued := s.buf.voqs.flatMap (fun e => e.2.frames.map (fun _ => voqRegion e.1))
  let granted := (tvals s.eg.pipes).flatMap (fun p => p.granted.map (fun t => t.frame.region)) ++
    (tvals s.eg.ports).flatMap (fun p => p.tx.map (fun t => t.frame.region)) ++
    (tvals s.eg.queues).flatMap (fun q => (q.repl ++ q.fabric).map (fun t => t.frame.region))
  let lost := forEach (waiting ++ queued ++ granted) ([] : Tab Nat) (fun r t => tadd t r 1)
  ({ s with
    cls.pipes := s.cls.pipes.map (fun e => (e.1, { e.2 with wait := [], desc := [], results := [] }))
    eg.pipes := s.eg.pipes.map (fun e => (e.1, { e.2 with granted := [] }))
    eg.ports := s.eg.ports.map (fun e => (e.1, { e.2 with tx := [] }))
    eg.queues := s.eg.queues.map (fun e => (e.1, { e.2 with repl := [], fabric := [] }))
    fab.ports := s.fab.ports.map (fun e => (e.1, { e.2 with queue := [], replayBuf := [], relays := [], used0 := 0, used1 := 0 }))
    fab.rxStreams := []
    fab.granted := []
    fab.received := []
    buf.voqs := s.buf.voqs.map (fun e => (e.1, { e.2 with frames := [], spill := false, head := 0, pages := [], reserve := 0, shared := 0 }))
    buf.ingress := []
    buf.pend := []
    buf.headroom := []
    buf.u := []
    buf.xoff := []
    buf.shared := []
    buf.fabRx := []
    buf.copies := []
    buf.pages := [] }, lost)

end Sys2Proof.Machine
end

