-- ==== Sys2Proof/Machine/Forward.lean ====
section
/-! DEFINITION. The forwarding tables and the forwarding decision: VLANs, the exact-match tables, the LPM, next hops, ECMP, LAGs and the device-reach
table (R229 to R252). -/

namespace Sys2Proof.Machine

/-! ## VLAN entries (Table 5-1) -/

/-- A VLAN's entry; an entry not written is 0, so not VALID. -/
def State.vlan (s : State) (vid : Nat) : Nat := tgetD s.fwd.vlans vid 0

def vlanValid (e : Nat) : Bool := e.testBit 63
def vlanLearn (e : Nat) : Bool := e.testBit 62
def vlanRoute (e : Nat) : Bool := e.testBit 61
def vlanShared (e : Nat) : Bool := e.testBit 60
def vlanFid (e : Nat) : Nat := field 59 48 e
def vlanVrf (e : Nat) : Nat := field 47 36 e
def vlanFlood (e : Nat) : Nat := field 35 22 e

/-- Layer-2 settings of a port. -/
def State.portL2 (s : State) (p : Nat) : PortL2 := tgetD s.fwd.ports p {}

/-- The VID of a frame (R229). -/
def State.vidOf (s : State) (port : Nat) (d : Bytes) : Nat :=
  match tagsOf d with
  | t :: _ => t % 4096
  | [] => (s.portL2 port).defaultVid

/-- Counters of chapter 5, by number. -/
def cntSamePort : Nat := 0
def cntBadSource : Nat := 1
def cntSecure : Nat := 2
def cntDropped : Nat := 3
def cntTableFull : Nat := 4
def cntMoves : Nat := 5
def cntStaticMove : Nat := 6
def cntUntracked : Nat := 7
def cntPinned : Nat := 8
def cntPinnedMoves : Nat := 9
def cntStale : Nat := 10
def cntConflicts : Nat := 11
def cntLost : Nat := 12
def cntUnsync : Nat := 13
def cntMsgGap : Nat := 14

/-- A counter of chapter 5 counts. -/
def count5 (k : Nat) (s : State) : State := { s with fwd.counts := tinc s.fwd.counts k }

/-- VLAN_DISCARD of a port. -/
def countVlan (port : Nat) (s : State) : State := { s with fwd.portCounts := tinc s.fwd.portCounts port }

/-! ## The MAC and host tables (R235 to R240) -/

/-- Bucket of a MAC key (Table 5-2). -/
def macBucket (seed fid mac : Nat) : Nat := hashA seed (beBytes 2 fid ++ beBytes 6 mac) % 131072

/-- Bucket of a host key. -/
def hostBucket (seed vrf : Nat) (v6 : Bool) (addr : Nat) : Nat :=
  hashA seed (beBytes 2 vrf ++ [if v6 then 6#8 else 4#8] ++ beBytes 16 addr) % 65536

/-- The entry of a MAC key in a table, and its place. -/
def macIn (t : Tab MacEntry) (fid mac : Nat) : Option (Nat × MacEntry) := t.find? (fun e => e.2.fid = fid && e.2.mac = mac)

/-- The entry of a host key in a table, and its place. -/
def hostIn (t : Tab HostEntry) (vrf : Nat) (v6 : Bool) (addr : Nat) : Option (Nat × HostEntry) :=
  t.find? (fun e => e.2.vrf = vrf && e.2.v6 = v6 && e.2.addr = addr)

/-- The same in the table as every update accepted so far leaves it. -/
def State.macFind (s : State) (fid mac : Nat) : Option (Nat × MacEntry) := macIn s.fwd.mac fid mac
def State.hostFind (s : State) (vrf : Nat) (v6 : Bool) (addr : Nat) : Option (Nat × HostEntry) := hostIn s.fwd.host vrf v6 addr

/-- The place of a new entry: the first invalid slot of its bucket, else the lowest free index of the overflow store (R236). -/
def freePlace {α : Type} (t : Tab α) (bucket base : Nat) : Option Nat :=
  match ((List.range 4).map (4 * bucket + ·)).find? (fun k => (tget t k).isNone) with
  | some k => some k
  | none => ((List.range 4096).map (base + ·)).find? (fun k => (tget t k).isNone)

/-- Entries of an overflow store. -/
def overflowUse {α : Type} (t : Tab α) (base : Nat) : Nat := (t.filter (fun e => e.1 ≥ base)).length

def macOverflow : Nat := 524288
def hostOverflow : Nat := 262144

/-- A MAC entry written at a place; the overflow store that passes 3,687 entries raises source 188 (R239). -/
def putMac (k : Nat) (e : MacEntry) (s : State) : State :=
  let s := beginUpdate s
  let before := overflowUse s.fwd.mac macOverflow
  let s : State := { s with fwd.mac := tset s.fwd.mac k e }
  if before ≤ 3687 && overflowUse s.fwd.mac macOverflow > 3687 then raise 188 s else s

/-- A new MAC entry, or none when its bucket and the overflow store are full. -/
def insertMac (e : MacEntry) (s : State) : Option State :=
  (freePlace s.fwd.mac (macBucket s.fwd.macSeed e.fid e.mac) macOverflow).map (fun k => putMac k e s)

/-- The same for a host entry, with source 189. -/
def putHost (k : Nat) (e : HostEntry) (s : State) : State :=
  let s := beginUpdate s
  let before := overflowUse s.fwd.host hostOverflow
  let s : State := { s with fwd.host := tset s.fwd.host k e }
  if before ≤ 3687 && overflowUse s.fwd.host hostOverflow > 3687 then raise 189 s else s

def insertHost (e : HostEntry) (s : State) : Option State :=
  (freePlace s.fwd.host (hostBucket s.fwd.hostSeed e.vrf e.v6 e.addr) hostOverflow).map (fun k => putHost k e s)

/-- Table 5-3 as a number of 192 bits. -/
def MacEntry.word (e : MacEntry) : Nat :=
  2 ^ 191 + bit e.static * 2 ^ 190 + bit e.pinned * 2 ^ 189 + bit e.remote * 2 ^ 188 + bit (e.hit != 0) * 2 ^ 187 + e.destType * 2 ^ 184 +
  e.dest * 2 ^ 168 + e.fid * 2 ^ 156 + e.mac * 2 ^ 108 + e.learnDev * 2 ^ 96 + e.stampS * 2 ^ 48 + e.stampNs * 2 ^ 16 +
  e.ageCnt * 2 ^ 13 + bit e.unsync * 2 ^ 12

/-- Table 5-4 as a number of 192 bits. -/
def HostEntry.word (e : HostEntry) : Nat :=
  2 ^ 191 + bit e.v6 * 2 ^ 190 + bit e.hit * 2 ^ 189 + e.vrf * 2 ^ 176 + e.nexthop * 2 ^ 160 + e.addr

/-- An entry's destination (DEST_TYPE and DEST of Table 5-3). -/
def destOf (t d : Nat) : Dest :=
  match t with
  | 0 => .port d
  | 1 => .lag d
  | 2 => .device d
  | 3 => .group d
  | 5 => .slow d
  | _ => .drop

/-! ## LPM (R241 to R246) -/

/-- Address bits of a family. -/
def addrBits (v6 : Bool) : Nat := if v6 then 128 else 32

/-- The root pointer of a VRF and family in S0. -/
def rootKey (vrf : Nat) (v6 : Bool) : Nat := 2 * vrf + bit v6

/-- A node of a stage in node memory. -/
def nodeKey (stage a : Nat) : Nat := stage * 2 ^ 32 + a

/-- The bit of `ends` of the prefix of `l` bits with value `v`. -/
def endBit (l v : Nat) : Nat := 2 ^ l - 1 + v

/-- How many bits of a bitmap stand below a bit: the place of that bit's word in its array. -/
def rank (m k : Nat) : Nat := ((List.range k).filter m.testBit).length

/-- A bit set, with its word in the array. -/
def setWord (m : Nat) (ws : List Nat) (k w : Nat) : Nat × List Nat :=
  if m.testBit k then (m, ws.set (rank m k) w) else (setBit m k true, ws.insertIdx (rank m k) w)

/-- A bit cleared, and its word out of the array. -/
def dropWord (m : Nat) (ws : List Nat) (k : Nat) : Nat × List Nat :=
  if m.testBit k then (setBit m k false, ws.eraseIdx (rank m k)) else (m, ws)

/-- The word of a bit. -/
def wordOf (m : Nat) (ws : List Nat) (k : Nat) : Option Nat := if m.testBit k then ws[rank m k]? else none

/-- A node with a prefix that ends in it, or without it. -/
def LpmNode.putEnd (n : LpmNode) (k hop : Nat) : LpmNode :=
  { n with ends := (setWord n.ends n.results k hop).1, results := (setWord n.ends n.results k hop).2 }
def LpmNode.dropEnd (n : LpmNode) (k : Nat) : LpmNode :=
  { n with ends := (dropWord n.ends n.results k).1, results := (dropWord n.ends n.results k).2 }

/-- A node with a child, or without it. -/
def LpmNode.putKid (n : LpmNode) (v a : Nat) : LpmNode :=
  { n with kids := (setWord n.kids n.children v a).1, children := (setWord n.kids n.children v a).2 }
def LpmNode.dropKid (n : LpmNode) (v : Nat) : LpmNode :=
  { n with kids := (dropWord n.kids n.children v).1, children := (dropWord n.kids n.children v).2 }

/-- The child of a stride. -/
def LpmNode.kid (n : LpmNode) (v : Nat) : Option Nat := wordOf n.kids n.children v

/-- The longest prefix of a node that a stride matches: its next hop (R242). -/
def LpmNode.hop (n : LpmNode) (v : Nat) : Option Nat :=
  [8, 7, 6, 5, 4, 3, 2, 1, 0].findSome? (fun l => wordOf n.ends n.results (endBit l (v / 2 ^ (8 - l))))

/-- The strides of an address: 8 bits each, 4 for IPv4 and 16 for IPv6 (R241). -/
def strides (v6 : Bool) (addr : Nat) : List Nat := (beBytes (addrBits v6 / 8) addr).map (·.toNat)

/-- A lookup from a node on, with the longest match so far (R242). -/
def LpmTrie.walk (t : LpmTrie) (stage a : Nat) (best : Option Nat) : List Nat → Option Nat
  | [] => best
  | v :: vs => match tget t.nodes (nodeKey stage a) with
    | none => best
    | some n =>
      let best := (n.hop v).or best
      match n.kid v with
      | none => best
      | some b => t.walk (stage + 1) b best vs

/-- The next hop of the longest matching prefix (R241, R242). -/
def LpmTrie.lookup (t : LpmTrie) (vrf : Nat) (v6 : Bool) (addr : Nat) : Option Nat :=
  match tget t.roots (rootKey vrf v6) with
  | none => none
  | some a => t.walk 1 a none (strides v6 addr)

/-- A node written into free memory of its stage, at the lowest free address: the address (R246). DESIGN CHOICE, safe: log entry 137. -/
def LpmTrie.place (t : LpmTrie) (stage : Nat) (n : LpmNode) : Nat × LpmTrie :=
  let used := (tkeys t.nodes).filter (fun k => k / 2 ^ 32 = stage)
  let a := ((List.range (used.length + 1)).find? (fun a => !used.contains (nodeKey stage a))).getD 0
  (a, { t with nodes := tset t.nodes (nodeKey stage a) n })

/-- A prefix as the strides that lead to its node, and its bit there: a prefix of 8k + 1 to 8k + 8 bits ends in the node of stage k + 1, and that
of 0 bits in the node of S1. DESIGN CHOICE, safe: log entry 137. -/
def Prefix.spot (p : Prefix) : List Nat × Nat :=
  let k := (p.len - 1) / 8
  let l := p.len - 8 * k
  ((strides p.v6 p.addr).take k, endBit l ((strides p.v6 p.addr).getD k 0 / 2 ^ (8 - l)))

/-- New nodes down to the one in which a prefix ends: the address of the first. -/
def LpmTrie.chain (t : LpmTrie) (stage : Nat) (n : LpmNode) : List Nat → Nat × LpmTrie
  | [] => t.place stage n
  | v :: vs =>
    let (a, t) := t.chain (stage + 1) n vs
    t.place stage (({} : LpmNode).putKid v a)

/-- The node that a child array's word of the node at `a` leads to is another: the one write that switches an update's path (R246). -/
def LpmTrie.switch (t : LpmTrie) (stage a v b : Nat) (n : LpmNode) : LpmTrie :=
  { t with nodes := tset t.nodes (nodeKey stage a) (n.putKid v b) }

/-- A prefix goes into the trie below the node at `a`. A node that changes is written anew into free memory and joins the nodes to free; the
result is the address that its parent's word is to hold. -/
def LpmTrie.add (t : LpmTrie) (stage a bitAt hop : Nat) (old : List Nat) : List Nat → Nat × List Nat × LpmTrie
  | [] =>
    let (b, t) := t.place stage ((tgetD t.nodes (nodeKey stage a) {}).putEnd bitAt hop)
    (b, nodeKey stage a :: old, t)
  | v :: vs =>
    let n := tgetD t.nodes (nodeKey stage a) {}
    match n.kid v with
    | some c =>
      let (b, old, t) := t.add (stage + 1) c bitAt hop old vs
      (a, old, t.switch stage a v b n)
    | none =>
      let (c, t) := t.chain (stage + 1) (({} : LpmNode).putEnd bitAt hop) vs
      let (b, t) := t.place stage (n.putKid v c)
      (b, nodeKey stage a :: old, t)

/-- A prefix leaves the trie below the node at `a`: the address that its parent's word is to hold, none where no node is left. -/
def LpmTrie.remove (t : LpmTrie) (stage a bitAt : Nat) (old : List Nat) : List Nat → Option Nat × List Nat × LpmTrie
  | [] =>
    let n := (tgetD t.nodes (nodeKey stage a) {}).dropEnd bitAt
    if n.ends = 0 && n.kids = 0 then (none, nodeKey stage a :: old, t)
    else
      let (b, t) := t.place stage n
      (some b, nodeKey stage a :: old, t)
  | v :: vs =>
    let n := tgetD t.nodes (nodeKey stage a) {}
    match n.kid v with
    | none => (some a, old, t)
    | some c =>
      match t.remove (stage + 1) c bitAt old vs with
      | (some b, old, t) => (some a, old, t.switch stage a v b n)
      | (none, old, t) =>
        let n := n.dropKid v
        if n.ends = 0 && n.kids = 0 then (none, nodeKey stage a :: old, t)
        else
          let (b, t) := t.place stage n
          (some b, nodeKey stage a :: old, t)

/-- A prefix added, or given another next hop: new nodes, one pointer switched, and the replaced nodes wait for their release (R246). -/
def LpmTrie.put (t : LpmTrie) (p : Prefix) : LpmTrie :=
  let k := rootKey p.vrf p.v6
  match tget t.roots k with
  | none =>
    let (a, t) := t.chain 1 (({} : LpmNode).putEnd p.spot.2 p.nexthop) p.spot.1
    { t with roots := tset t.roots k a }
  | some a =>
    let (b, old, t) := t.add 1 a p.spot.2 p.nexthop [] p.spot.1
    { t with
      roots := tset t.roots k b
      replaced := t.replaced ++ [old] }

/-- A prefix deleted. -/
def LpmTrie.del (t : LpmTrie) (p : Prefix) : LpmTrie :=
  let k := rootKey p.vrf p.v6
  match tget t.roots k with
  | none => t
  | some a =>
    let (b, old, t) := t.remove 1 a p.spot.2 [] p.spot.1
    { t with
      roots := (match b with
        | some b => tset t.roots k b
        | none => tdel t.roots k)
      replaced := t.replaced ++ [old] }

/-- The oldest update's replaced nodes are freed (R246). -/
def LpmTrie.release (t : LpmTrie) : LpmTrie :=
  match t.replaced with
  | [] => t
  | old :: rest => { t with
      nodes := t.nodes.filter (fun e => !old.contains e.1)
      replaced := rest }

/-- The order in which a walk meets prefixes: by VRF, family, address, length. -/
def Prefix.order (p : Prefix) : Nat := ((p.vrf * 2 + bit p.v6) * 2 ^ 128 + p.addr) * 256 + p.len

/-- A prefix in its place. -/
def insertPrefix (p : Prefix) : List Prefix → List Prefix
  | [] => [p]
  | q :: qs => if p.order < q.order then p :: q :: qs else if p.order = q.order then p :: qs else q :: insertPrefix p qs

/-- Prefixes counted against the store of R243, and the IPv6 prefixes longer than /64. -/
def State.lpmStore (s : State) : Nat := (s.fwd.lpm.map (fun p => if !p.v6 then 1 else if p.len ≤ 64 then 2 else 0)).sum
def State.lpmLong (s : State) : Nat := (s.fwd.lpm.filter (fun p => p.v6 && p.len > 64)).length

/-! ## LAG, device reach, next hops (R247 to R252) -/

/-- Members of a LAG. -/
def State.lagMembers (s : State) (l : Nat) : List Nat := tgetD s.fwd.lags l []

/-- The live list of a LAG: its members whose links are up, in member order (R251). -/
def State.lagLive (s : State) (l : Nat) : List Nat := (s.lagMembers l).filter (fun m => !s.portIsDown m)

/-- The member that a hash chooses (R251). -/
def State.lagChoice (s : State) (l h : Nat) : Option Nat :=
  let live := s.lagLive l
  live[((h / 65536 % 65536) * live.length) / 65536]?

/-- The lowest LAG that contains a system port. DESIGN CHOICE, unsafe: log entry 20. -/
def State.lagOf (s : State) (f : Nat) : Option Nat := (s.fwd.lags.find? (fun e => e.2.contains f)).map Prod.fst

/-- A device's entry in the reach table: a system port or a LAG; none for INVALID. -/
def State.reachOf (s : State) (d : Nat) : Option Dest := (tget s.fwd.reach d).map (fun e => destOf e.1 e.2)

/-- A next hop not written discards (DESIGN CHOICE, unsafe: log entry 1). DESIGN CHOICE, unsafe: log entry 13. -/
def emptyHop : NextHop := { type := 3, smacIdx := 0, destType := 0, dest := 0, dmac := 0, vid := 0, ecmpBase := 0, ecmpSize := 1, reason := 0x40 }

def State.hop (s : State) (n : Nat) : NextHop := tgetD s.fwd.nexthops n emptyHop

/-- An address of a frame's IP header, 16 bytes, and its family. -/
def ipAddrs (d : Bytes) (l3 : Nat) : Bool × Nat × Nat :=
  if byteAt d l3 / 16 = 6 then (true, getBe d (l3 + 8) 16, getBe d (l3 + 24) 16)
  else (false, getBe d (l3 + 12) 4, getBe d (l3 + 16) 4)

/-- The load-sharing hash (R249). The L3 layer pointer marks an IP frame; the ports are 0 where no TCP or UDP header was reached. -/
def State.lsHash (s : State) (px : Parse) (port : Nat) (d : Bytes) : Nat :=
  match tget px.layers 2 with
  | some l3 =>
    let (_, src, dst) := ipAddrs d l3
    let ports := if px.outer = 6 || px.outer = 17 then ((tget px.layers 3).map (fun l4 => slice d l4 4)).getD (beBytes 4 0) else beBytes 4 0
    hashA s.fwd.lsSeed (beBytes 16 src ++ beBytes 16 dst ++ beBytes 1 px.outer ++ ports)
  | none => hashA s.fwd.lsSeed (beBytes 6 (dstMac d) ++ beBytes 6 (srcMac d) ++ beBytes 2 (s.vidOf port d))

/-! ## The forwarding result (R229 to R232) -/

/-- The result of a VRF that has no matching prefix, or whose device is INVALID; none set discards (DESIGN CHOICE, unsafe: log entry 1).
DESIGN CHOICE, unsafe: log entry 13. -/
def State.missHop (s : State) (vrf : Nat) : Dest :=
  match (tgetD s.fwd.vrfs vrf {}).missNexthop with
  | some n => .nexthop n
  | none => .drop

/-- HIT of a host entry (Table 5-4). -/
def hitHost (vrf : Nat) (v6 : Bool) (addr : Nat) (s : State) : State :=
  match s.hostFind vrf v6 addr with
  | some (k, e) => { s with fwd.host := tset s.fwd.host k { e with hit := true } }
  | none => s

/-- A lookup of an IP destination in a region's host table and LPM (R232); a host entry that matches has HIT set (Table 5-4). -/
def ipLookup (r vrf : Nat) (v6 : Bool) (addr : Nat) (s : State) : Dest × State :=
  match hostIn (s.replica r).host vrf v6 addr with
  | some (_, e) => (.nexthop e.nexthop, hitHost vrf v6 addr s)
  | none =>
    match (s.replica r).trie.lookup vrf v6 addr with
    | some n => (.nexthop n, s)
    | none => (s.missHop vrf, s)

/-- TTL or hop limit of a header. -/
def ttlOf (d : Bytes) (l3 : Nat) : Nat := if byteAt d l3 / 16 = 6 then byteAt d (l3 + 7) else byteAt d (l3 + 8)

/-- A frame to a router MAC in a VLAN with ROUTE, with an IP header (R230). -/
def State.isRouted (s : State) (e : Nat) (px : Parse) (d : Bytes) : Bool :=
  (tvals s.fwd.routerMacs).contains (dstMac d) && vlanRoute e && (tget px.layers 2).isSome

/-- The forwarding result of a frame that came in at `port` and passes a pipeline of region `r` (R229 to R232, R252). A routed frame of the last hop is
looked up like any other, and goes to the slow path (R232). -/
def forward (r port : Nat) (px : Parse) (d : Bytes) (s : State) : Fwd × State :=
  let e := s.vlan (s.vidOf port d)
  if !vlanValid e then ({ bad := true }, s)
  else
    let base : Fwd := { fid := vlanFid e, vrf := vlanVrf e, flood := vlanFlood e }
    if s.isRouted e px d then
      let l3 := (tget px.layers 2).getD 0
      let (v6, _, dst) := ipAddrs d l3
      let (to_, s) := ipLookup r base.vrf v6 dst s
      let to_ := if ttlOf d l3 ≤ 1 then .slow (tgetD s.fwd.vrfs base.vrf {}).ttlReason else to_
      ({ base with bridged := false, dest := to_ }, s)
    else
      match macIn (s.replica r).mac base.fid (dstMac d) with
      | none => ({ base with dest := .group base.flood }, s)
      | some (_, m) =>
        let here := s.sysPort port
        let same := (m.destType = 0 && m.dest = here) || (m.destType = 1 && (s.lagMembers m.dest).contains here)
        if same then ({ base with dest := .drop, same := true }, s)
        else ({ base with dest := destOf m.destType m.dest }, s)

/-! ## From a destination to ports -/

/-- Where a frame goes in the end: nowhere, nowhere because a LAG has no live member, a system port, a multicast group, the slow path; with the
next hop that its egress applies. -/
inductive Target where
  | drop
  | lagEmpty
  | port (f nexthop : Nat)
  | group (g : Nat)
  | slow (reason : Nat)
  deriving DecidableEq, Repr

/-- The value that stands for no next hop: next hops are 0 to 65,535 (R233, R247). -/
def noHop : Nat := 65536

/-- A LAG's member for a hash. -/
def State.lagTarget (s : State) (l h nexthop : Nat) : Target :=
  match s.lagChoice l h with
  | some f => .port f nexthop
  | none => .lagEmpty

/-- A destination of DEST_TYPE 0 to 2; none for a device whose entry is INVALID (R252). -/
def State.plainTarget (s : State) (t d h nexthop : Nat) : Option Target :=
  match t with
  | 0 => some (.port d nexthop)
  | 1 => some (s.lagTarget d h nexthop)
  | _ => match s.reachOf d with
    | some (.port f) => some (.port f nexthop)
    | some (.lag l) => some (s.lagTarget l h nexthop)
    | _ => none

/-- A next hop's target (R233, R248, R250); none for a device whose entry is INVALID. -/
def State.hopTarget (s : State) (n h : Nat) : Option Target :=
  let x := s.hop n
  let unicast (n : Nat) : Option Target := let x := s.hop n; s.plainTarget x.destType x.dest h n
  match x.type with
  | 0 => unicast n
  | 1 => unicast (tgetD s.fwd.ecmp (x.ecmpBase + ((h % 65536) * x.ecmpSize) / 65536) 0)
  | 2 => some (.slow x.reason)
  | _ => some .drop

/-- The target of a destination (R231, R232, R252). -/
def State.target (s : State) (f : Fwd) (d : Dest) (h : Nat) : Target :=
  match d with
  | .drop => .drop
  | .port p => .port p noHop
  | .lag l => s.lagTarget l h noHop
  | .device k => (s.plainTarget 2 k h noHop).getD (.group f.flood)
  | .group g => .group g
  | .slow r => .slow r
  | .nexthop n =>
    match s.hopTarget n h with
    | some t => t
    | none => match s.missHop f.vrf with
      | .nexthop m => (s.hopTarget m h).getD .drop
      | _ => .drop

/-! ## The egress rewrite (R233) -/

/-- A frame with its outer VID replaced; an untagged frame takes a tag of the VID unless it is the egress port's DEFAULT_VID.
DESIGN CHOICE, unsafe: log entry 19. -/
def setVid (vid defaultVid : Nat) (d : Bytes) : Bytes :=
  if isTag (getBe d 12 2) then patch d 14 (beBytes 2 (getBe d 14 2 / 4096 * 4096 + vid))
  else if vid = defaultVid then d
  else d.take 12 ++ beBytes 2 0x8100 ++ beBytes 2 vid ++ d.drop 12

/-- TTL or hop limit less 1, with the IPv4 checksum updated. -/
def decTtl (l3 : Nat) (d : Bytes) : Bytes :=
  if byteAt d l3 / 16 = 6 then patch d (l3 + 7) (beBytes 1 (byteAt d (l3 + 7) - 1))
  else
    let old := getBe d (l3 + 8) 2
    let d := patch d (l3 + 8) (beBytes 1 (byteAt d (l3 + 8) - 1))
    patch d (l3 + 10) (beBytes 2 (checksumUpdate (getBe d (l3 + 10) 2) old (getBe d (l3 + 8) 2)))

/-- Where the IP header of a frame from the Dvorob Link lies: its tag carries no layer pointer (Table 6-5), so the egress goes by the Ethertype after
the tags. DESIGN CHOICE, unsafe: log entry 19. -/
def ipOffset (d : Bytes) : Option Nat :=
  if finalEthertype d = 0x0800 || finalEthertype d = 0x86DD then some (14 + 4 * (tagsOf d).length) else none

/-- The rewrite of a frame that leaves through a UNICAST next hop: `l3` is the L3 layer pointer, and a frame without one has no TTL or hop limit.
DESIGN CHOICE, unsafe: log entry 19. -/
def State.rewriteHop (s : State) (n port : Nat) (l3 : Option Nat) (d : Bytes) : Bytes :=
  let x := s.hop n
  if n = noHop || x.type != 0 then d
  else
    let d := match l3 with
      | some l3 => decTtl l3 d
      | none => d
    let d := beBytes 6 x.dmac ++ beBytes 6 (tgetD s.fwd.routerMacs x.smacIdx 0) ++ d.drop 12
    setVid x.vid (s.portL2 port).defaultVid d

end Sys2Proof.Machine
end

