-- ==== Sys2Proof/Machine/Gates.lean ====
section
/-! DEFINITION. Time-aware gates (R353 to R360): which entry is in force, how long a gate stays open, and the windows of a list. -/

namespace Sys2Proof.Machine

/-- An administrative entry not written holds GATES 0xFF and INTERVAL 1,000 (R353). -/
def Gates.adminEntry (g : Gates) (k : Nat) : Nat × Nat := tgetD g.admin k (0xFF, 1000)

/-- The entries of a list as they fall in one cycle, from a place in it (R354): cut at the end of the cycle, the last one extended to it. -/
def cycleEntries (cycle : Nat) : Nat → List (Nat × Nat) → List (Nat × Nat)
  | _, [] => []
  | at_, (g, i) :: es =>
    if at_ ≥ cycle then []
    else
      let d := if es = [] then cycle - at_ else min i (cycle - at_)
      (g, d) :: cycleEntries cycle (at_ + d) es

/-- The entries of one cycle of a configuration. -/
def GateCfg.cycle (c : GateCfg) : List (Nat × Nat) := cycleEntries c.cycleTime 0 c.entries

/-- The index of the entry at a place in the cycle, and what is left of it. -/
def entryAt : List (Nat × Nat) → Nat → Nat × Nat
  | [], _ => (0, 0)
  | (_, d) :: es, at_ => if at_ < d then (0, d - at_) else let r := entryAt es (at_ - d); (r.1 + 1, r.2)

/-- The place in the cycle at an instant of estate time in ns. -/
def GateCfg.place (c : GateCfg) (now : Nat) : Nat := if now < c.base then 0 else (now - c.base) % c.cycleTime

/-- The entry that the list has at an instant. -/
def GateCfg.entryNow (c : GateCfg) (now : Nat) : Nat := (entryAt c.cycle (c.place now)).1

/-- How long a run of entries keeps the gate of a TC open. -/
def openRun (tc : Nat) : List (Nat × Nat) → Nat
  | [] => 0
  | (g, d) :: es => if g.testBit tc then d + openRun tc es else 0

/-- Every entry of the cycle opens the gate. -/
def GateCfg.alwaysOpen (c : GateCfg) (tc : Nat) : Bool := c.cycle.all (fun e => e.1.testBit tc)

/-- W_t (R359); none where the TC is open in every entry. -/
def GateCfg.window (c : GateCfg) (tc : Nat) : Option Nat :=
  if c.alwaysOpen tc then none
  else
    let es := c.cycle ++ c.cycle
    some ((List.range c.cycle.length).foldl (fun m k => max m (openRun tc (es.drop k))) 0)

/-- What remains of a gate's open time from an instant on (R358); none where it has no end. -/
def GateCfg.remaining (c : GateCfg) (tc now : Nat) : Option Nat :=
  if c.alwaysOpen tc then none
  else
    let (k, left) := entryAt c.cycle (c.place now)
    let es := (c.cycle ++ c.cycle).drop k
    match es with
    | [] => some 0
    | (g, _) :: more => if g.testBit tc then some (left + openRun tc more) else some 0

/-- The list runs on time that is not traceable and UNSYNC_OPEN holds every gate open (R360). -/
def State.unsyncOpen (s : State) (g : Gates) : Bool := g.unsyncOpen && !s.traceable

/-- The list in force, if gates are not all open. -/
def State.listInForce (s : State) (g : Gates) : Option GateCfg := if s.unsyncOpen g then none else g.oper

/-- The gate of a TC is open, by the entry in force. -/
def State.gateOpen (s : State) (g : Gates) (tc : Nat) : Bool :=
  match s.listInForce g with
  | none => true
  | some c => ((c.entries[g.entry]?).map (fun e => e.1.testBit tc)).getD false

/-- Estate time in nanoseconds as a port's region reads it on its copy (R357, R32). -/
def State.portNs (s : State) (p : Nat) : Nat := s.regionNow (regionOfPort p) / 16

/-- The open time that remains at a port, with a change instant to come counted as a closing (R358). -/
def State.gateLeft (s : State) (p : Nat) (g : Gates) (tc : Nat) : Option Nat :=
  let now := s.portNs p
  let r := match s.listInForce g with
    | none => none
    | some c => c.remaining tc now
  match (if s.unsyncOpen g then none else g.pending) with
  | none => r
  | some _ => some (match r with
    | none => g.change - now
    | some n => min n (g.change - now))

/-- Nanoseconds × Gb/s that a frame takes on the wire with its 24 bytes of overhead. -/
def wireBits (len : Nat) : Nat := (len + 24) * 8

/-- Rate of a front port in Gb/s (Table 9-14). -/
def speedGbps : Nat → Nat
  | 1 => 10 | 2 => 25 | 3 => 50 | 4 => 100 | 5 => 200 | 6 => 400 | 7 => 800 | _ => 0

/-- Rate of a port; the management port runs at 10 Gb/s, and the host port has no gates. DESIGN CHOICE, unsafe: log entry 95. -/
def State.portRate (s : State) (p : Nat) : Nat := ((tget s.ports.cfg p).map (fun c => speedGbps c.speed)).getD 10

/-- A frame may start through the gate of its TC (R358). -/
def State.gateFits (s : State) (p tc len : Nat) (g : Gates) : Bool :=
  s.gateOpen g tc && (match s.gateLeft p g tc with
    | none => true
    | some ns => wireBits len ≤ ns * s.portRate p)

/-- A frame is too long for every window of its TC (R359). -/
def State.tooLong (s : State) (p tc len : Nat) (g : Gates) : Bool :=
  match s.listInForce g with
  | none => false
  | some c => match c.window tc with
    | none => false
    | some w => wireBits len > w * s.portRate p

/-- After a step of the time base each list takes the entry at its new position, and GATE_RESYNC counts (R360). -/
def resyncGates (s : State) : State :=
  { s with eg.ports := s.eg.ports.map (fun e => (e.1, match e.2.gates.oper with
      | none => e.2
      | some c => { e.2 with gates := { e.2.gates with
          entry := c.entryNow (s.portNs e.1)
          resync := inc64 e.2.gates.resync } })) }

end Sys2Proof.Machine
end

