-- ==== Sys2Proof/Machine/Operands.lean ====
section
/-! DEFINITION. The operand forms of commands: the Ohmed frame as bytes, its lengths, channels and senders, and the shape of a command's
own part (its check and its effect), which the protocol runs (R400 to R439). -/

namespace Sys2Proof

/-- FLAGS of Table 9-2. -/
def Ocf.isReply (h : Ocf) : Bool := h.flags.testBit 0
def Ocf.isEvent (h : Ocf) : Bool := h.flags.testBit 1
def Ocf.isDma (h : Ocf) : Bool := h.flags.testBit 2
def Ocf.noReply (h : Ocf) : Bool := h.flags.testBit 3
def Ocf.isMember (h : Ocf) : Bool := h.flags.testBit 4

/-- A role whose frames end in a MAC (R400). -/
def hasMac (role : Nat) : Bool := role = 1 || role = 2 || role = 3

/-- Frame length (R405). -/
def Ocf.frameLen (h : Ocf) : Nat := 32 + h.length + (if hasMac h.role then 16 else 0)

/-- Frame length limit of a transport (Table 9-5). -/
def Transport.limit : Transport → Nat
  | .mailbox _ => 1024
  | .compat => 256
  | .dma _ _ _ => 1048576
  | .inband _ _ _ => 16320
  | .dvorob _ => 16320

/-- A transport that accepts ROLE 0 (R407). -/
def Transport.acceptsHost : Transport → Bool
  | .mailbox _ | .compat | .dma _ _ _ => true
  | _ => false

/-- The ROLE 0 channel of a transport (R417, R422): a mailbox channel, or 16 for the compatibility block. -/
def Transport.hostChannel : Transport → Nat
  | .mailbox c => c
  | .dma c _ _ => c
  | _ => 16

/-- The channel of a frame (R422): by kind, its number or arrival port, and its source MAC. -/
def Transport.channel : Transport → Nat × Nat × Nat
  | .mailbox c | .dma c _ _ => (0, c, 0)
  | .compat => (1, 0, 0)
  | .inband p m _ => (2, p, m)
  | .dvorob k => (3, k, 0)

/-- The CHANNEL field of Table 10-7: transport in [15:12] in the order of Table 9-5, channel in [11:0]. DESIGN CHOICE, unsafe: log entry 110. -/
def Transport.auditChannel : Transport → Nat
  | .mailbox c => c
  | .compat => 0x1000
  | .dma c _ _ => 0x2000 + c
  | .inband p _ _ => 0x3000 + p % 4096
  | .dvorob k => 0x4000 + k

/-- The sender of a frame (R422): its (ROLE, SENDER) pair, or its channel under ROLE 0. -/
def Ocf.senderKey (h : Ocf) : Nat :=
  if h.role = 0 then h.transport.hostChannel else h.role * 2 ^ 16 + h.sender

end Sys2Proof

namespace Sys2Proof.Machine

/-- The header of Table 9-1 as bytes, with the fields that a reply replaces given. -/
def headerBytes (h : Ocf) (opcode role flags length epoch : Nat) : Bytes :=
  beBytes 2 h.magic ++ beBytes 1 h.version ++ beBytes 1 role ++ beBytes 2 opcode ++ beBytes 2 flags ++ beBytes 8 h.seq ++
  beBytes 4 length ++ beBytes 2 h.tag ++ beBytes 2 h.sender ++ beBytes 1 h.keyId ++ beBytes 1 h.group ++ beBytes 2 h.reserved ++
  beBytes 4 epoch

end Sys2Proof.Machine

namespace Sys2Proof

open Machine in
/-- Bytes 0 to 31 + LENGTH of a command frame, which its MAC covers (R401). DESIGN CHOICE, unsafe: log entry 5. -/
def Ocf.signedBytes (h : Ocf) (opcode : Nat) : Bytes :=
  headerBytes h opcode h.role h.flags h.length h.epoch ++ fit h.length h.params

end Sys2Proof

namespace Sys2Proof.Machine

/-- The MAC of R401. -/
def mac16 (key msg : Bytes) : Bytes := (hmac key msg).take 16

/-- Bytes of results. -/
def resultBytes (r : Results) : Bytes := r.flatMap (fun e => beBytes e.1 e.2)

/-- How many bytes results take. -/
def resultLen (r : Results) : Nat := (r.map Prod.fst).sum

/-- A byte string as one result field. -/
def blob (bs : Bytes) : Nat × Nat := (bs.length, beNat bs)

/-- The bytes of a reply before its MAC (R402). -/
def Reply.signedBytes (r : Reply) : Bytes :=
  headerBytes r.cmd r.opcode r.role r.flags (4 + resultLen r.results) r.epoch ++ beBytes 2 r.status ++ beBytes 2 r.detail ++
  resultBytes r.results

/-- A reply frame as bytes. -/
def Reply.bytes (r : Reply) : Bytes := r.signedBytes ++ r.mac.getD []

/-! ## A command's own part -/

/-- A status with its DETAIL. -/
abbrev Err := Nat × Nat

/-- A status whose DETAIL is 0xFFFF (R402). -/
def plain (status : Nat) : Option Err := some (status, 0xFFFF)

/-- A status whose DETAIL is the offset of the field that failed. DEDUCED, unsafe: log entry 88. -/
def badAt (status offset : Nat) : Option Err := some (status, offset)

/-- A field that takes its default when written as 0 (R659). DEDUCED, unsafe: log entry 87. -/
def orDefault (v d : Nat) : Nat := if v = 0 then d else v

/-- A field is outside its range. -/
def outside (v lo hi : Nat) : Bool := v < lo || v > hi

/-- The same for a signed field of `w` bits. -/
def outsideS (w v : Nat) (lo hi : Int) : Bool := signed w v < lo || signed w v > hi

/-- The first check that fails. -/
def firstErr : List (Bool × Err) → Option Err
  | [] => none
  | (bad, e) :: cs => if bad then some e else firstErr cs

/-- The first check that fails of two lists. -/
def firstOf (a b : List (Bool × Err)) : Option Err := firstErr (a ++ b)

/-- What a command's effect leaves: the state, the final status and detail, the results; a command that replies 0x0001 may leave its
completion to a later event. DESIGN CHOICE, unsafe: log entry 8. -/
structure Answer where
  st : State
  status : Nat := 0
  detail : Nat := 0xFFFF
  results : Results := []
  /-- The command completes by a later event, which knows it by the id that R424's pending list gave it. -/
  later : Bool := false
  /-- The results of a 0x0001 reply itself. -/
  early : Results := []
  /-- The command's flow operation waits, under this number (R150): its answer comes when that ends. -/
  waits : Option Nat := none

/-- A command's own part: what Table 9-4 and its chapter say of its opcode, its checks at step 14 of R413, and its effect. -/
structure Body where
  opcode : Nat
  /-- It changes state (R440, R658). -/
  changes : Bool
  /-- A read that carries flag CLEAR (R428, R658). -/
  clearRead : Bool := false
  /-- It replies 0x0001 (R424). -/
  pending : Bool := false
  /-- It is SEC_LIFECYCLE_SET with target FACTORY (Table 10-1). -/
  toFactory : Bool := false
  /-- LENGTH is valid for the opcode (step 13). -/
  lenOk : Nat → Bool := fun n => n ≤ 16256
  check : State → Option Err := fun _ => none
  apply : State → Answer

/-- A body that reads: no effect but its results. -/
def readBody (opcode : Nat) (len : Nat) (check : State → Option Err) (res : State → Results) : Body :=
  { opcode, changes := false, lenOk := (· = len), check, apply := fun s => { st := s, results := res s } }

/-- A body that writes and returns no results. -/
def writeBody (opcode : Nat) (len : Nat) (check : State → Option Err) (eff : State → State) : Body :=
  { opcode, changes := true, lenOk := (· = len), check, apply := fun s => { st := eff s } }

/-- Groupable (R428): a command that changes state, carries no CLEAR, does not reply 0x0001, and is neither of the classes 0x01, 0x0B, 0x0D,
0x0E nor FLOW_INSERT, FLOW_UPDATE, FLOW_DELETE or LEARN_MESSAGE. -/
def Body.groupable (b : Body) : Bool :=
  b.changes && !b.clearRead && !b.pending && !([0x01, 0x0B, 0x0D, 0x0E].contains (b.opcode / 256)) &&
  !([0x0404, 0x0405, 0x0407, 0x0520].contains b.opcode)

end Sys2Proof.Machine
end

