-- ==== Sys2Proof/Machine/Messages.lean ====
section
/-! DEFINITION. Frames that the firmware composes: UDP frames and PTP messages, and the queue of originated frames (R657, R589, R593). -/

namespace Sys2Proof.Machine

/-- A frame that firmware originates for a port (R657). -/
def originate (port tc : Nat) (data : Bytes) (s : State) : State :=
  { s with ocf.origin := s.ocf.origin ++ [⟨port, tc, data⟩] }

/-- The addresses of a UDP frame that firmware composes. -/
structure UdpPath where
  v6 : Bool
  dstMac : Nat
  srcMac : Nat
  vlan : Nat := 0
  dscp : Nat := 0
  hops : Nat := 64
  src : Nat
  dst : Nat
  srcPort : Nat
  dstPort : Nat
  deriving DecidableEq, Repr

/-- A message in Ethernet, IP and UDP, with its checksums. DESIGN CHOICE, unsafe: log entry 76. -/
def UdpPath.frame (p : UdpPath) (msg : Bytes) : Bytes :=
  let n := if p.v6 then 16 else 4
  let src := beBytes n p.src
  let dst := beBytes n p.dst
  let ulen := 8 + msg.length
  let udp (sum : Nat) : Bytes := beBytes 2 p.srcPort ++ beBytes 2 p.dstPort ++ beBytes 2 ulen ++ beBytes 2 sum ++ msg
  let sum := inetChecksum (src ++ dst ++ beBytes 4 17 ++ beBytes 4 ulen ++ udp 0)
  let v4 (c : Nat) : Bytes :=
    [0x45#8, BitVec.ofNat 8 (p.dscp * 4)] ++ beBytes 2 (20 + ulen) ++ beBytes 4 0x4000 ++ beBytes 1 p.hops ++ [17#8] ++ beBytes 2 c ++ src ++ dst
  let ip :=
    if p.v6 then beBytes 4 (6 * 2 ^ 28 + p.dscp * 2 ^ 22) ++ beBytes 2 ulen ++ [17#8] ++ beBytes 1 p.hops ++ src ++ dst else v4 (inetChecksum (v4 0))
  beBytes 6 p.dstMac ++ beBytes 6 p.srcMac ++ (if p.vlan = 0 then [] else beBytes 2 0x8100 ++ beBytes 2 p.vlan) ++
    beBytes 2 (if p.v6 then 0x86DD else 0x0800) ++ ip ++ udp (if sum = 0 then 0xFFFF else sum)

/-! ## PTP messages. PRESUMED, unsafe: log entry 143 -/

/-- The instance's own clockIdentity: STATION_MAC as an EUI-64 (PRESUMED, unsafe: log entry 34). -/
def State.clockIdentity (s : State) : Nat :=
  s.ocf.stationMac / 2 ^ 24 * 2 ^ 40 + 0xFFFE * 2 ^ 24 + s.ocf.stationMac % 2 ^ 24

/-- The instance's own data set. PRESUMED, unsafe: log entry 115. -/
def State.ownData (s : State) : AnnounceData :=
  { priority1 := s.ptp.priority1, clockClass := s.ptp.clockClass, accuracy := 0xFE, variance := 0xFFFF, priority2 := s.ptp.priority2,
    identity := s.clockIdentity, steps := 0, sender := s.clockIdentity, senderPort := 0 }

/-- A port's portIdentity: the clockIdentity and the port's number, from 1. -/
def State.portIdentity (s : State) (port : Nat) : Nat := s.clockIdentity * 65536 + (port + 1) % 65536

/-- A timestamp of 10 bytes: seconds and nanoseconds. -/
def ptpStamp (t : Nat) : Bytes := beBytes 6 (timeS t) ++ beBytes 4 (timeNs t)

/-- A peer-delay message. -/
def isPeerKind (kind : Nat) : Bool := kind = 0x2 || kind = 0x3 || kind = 0xA

/-- The requester and sequenceId that an answer repeats. -/
def PtpPort.askOf (p : PtpPort) (kind : Nat) : Option PtpAsk :=
  if kind = 0x9 then p.delayAsk else if kind = 0x3 || kind = 0xA then p.pdelayAsk else none

/-- The sequenceId of a message: an answer has its request's, a Follow_Up its Sync's. -/
def PtpPort.seqOf (p : PtpPort) (kind : Nat) : Nat :=
  match p.askOf kind with
  | some a => a.seq
  | none => if kind = 0x8 then (p.syncTx.getD (0, 0)).2 else p.seqId

/-- What follows the header of a message of a kind. -/
def ptpBody (p : PtpPort) (kind : Nat) (s : State) : Bytes :=
  let answer (t : Nat) : Bytes := ptpStamp t ++ beBytes 10 (((p.askOf kind).map PtpAsk.requester).getD 0)
  match kind with
  | 0x2 => beBytes 20 0
  | 0x3 => answer (((p.askOf kind).map PtpAsk.stamp).getD 0).toNat
  | 0x8 => ptpStamp (p.syncTx.getD (0, 0)).1
  | 0x9 => answer (((p.askOf kind).map PtpAsk.stamp).getD 0).toNat
  | 0xA => answer (p.respTx.getD (0, 0)).1
  | 0xB =>
    let d := match s.ptp.parent with
      | some d => { d with steps := d.steps + 1 }
      | none => s.ownData
    beBytes 10 0 ++ beBytes 2 (twos 16 s.time.utcOffset) ++ beBytes 1 0 ++ beBytes 1 d.priority1 ++ beBytes 1 d.clockClass ++
    beBytes 1 d.accuracy ++ beBytes 2 d.variance ++ beBytes 1 d.priority2 ++ beBytes 8 d.identity ++ beBytes 2 d.steps ++ beBytes 1 0xA0
  | _ => beBytes 10 0

/-- flagField: twoStepFlag in a two-step clock's Sync and Pdelay_Resp; the leap flags, UTC validity and the PTP timescale in an Announce. -/
def ptpFlags (kind : Nat) (s : State) : Nat :=
  if kind = 0xB then bit s.time.leap61 + 2 * bit s.time.leap59 + 4 * bit s.traceable + 8
  else if kind = 0x3 || (kind = 0 && !s.ptp.oneStep) then 0x0200
  else 0

/-- logMessageInterval of a message. -/
def PtpPort.logOf (p : PtpPort) (kind : Nat) : Int :=
  if kind = 0xB then p.logAnnounce else if kind = 0 || kind = 0x8 then p.logSync else if kind = 0x9 then p.logDelay else 0x7F

/-- A PTP message of a port (IEEE 1588-2019, 13.3). -/
def ptpMessage (port : Nat) (p : PtpPort) (kind : Nat) (s : State) : Bytes :=
  let body := ptpBody p kind s
  beBytes 1 kind ++ beBytes 1 0x12 ++ beBytes 2 (34 + body.length) ++ beBytes 1 s.ptp.domain ++ beBytes 1 0 ++ beBytes 2 (ptpFlags kind s) ++
    beBytes 12 0 ++ beBytes 10 (s.portIdentity port) ++ beBytes 2 (p.seqOf kind) ++
    beBytes 1 (if kind = 0 then 0 else if kind = 1 then 1 else if kind = 8 then 2 else if kind = 9 then 3 else 5) ++
    beBytes 1 (twos 8 (p.logOf kind)) ++ body

/-- The frame of a PTP message in the port's TRANSPORT, to the multicast address of its kind (R589). -/
def ptpFrame (port : Nat) (p : PtpPort) (kind : Nat) (s : State) : Bytes :=
  let msg := ptpMessage port p kind s
  let peer := isPeerKind kind
  let sock := if kind < 4 then 319 else 320
  match p.transport with
  | 0 =>
    beBytes 6 (if peer then 0x0180C200000E else 0x011B19000000) ++ beBytes 6 s.ocf.stationMac ++ beBytes 2 0x88F7 ++ msg
  | 1 =>
    ({ v6 := false, dstMac := if peer then 0x01005E00006B else 0x01005E000181, srcMac := s.ocf.stationMac, hops := if peer then 1 else 64,
       src := s.ptp.ipv4, dst := if peer then 0xE000006B else 0xE0000181, srcPort := sock, dstPort := sock } : UdpPath).frame msg
  | _ =>
    ({ v6 := true, dstMac := if peer then 0x33330000006B else 0x333300000181, srcMac := s.ocf.stationMac, hops := if peer then 1 else 64,
       src := s.ptp.ipv6, dst := if peer then 0xFF02 * 2 ^ 112 + 0x6B else 0xFF0E * 2 ^ 112 + 0x181, srcPort := sock, dstPort := sock } :
      UdpPath).frame msg

/-- Port `port` sends a message of a kind (messageType): its frame is originated (R657). -/
def sendPtp (port kind : Nat) (s : State) : State :=
  let p := tgetD s.ptp.ports port {}
  let s := originate port 7 (ptpFrame port p kind s) s
  { s with out.ptp := s.out.ptp ++ [⟨port, kind, s.ptp.domain, s.time.now⟩] }

/-! ## PTP messages in frames -/

/-- A PTP event message in a frame: the offset of its header, and of the UDP header that carries it. -/
def ptpAt (d : Bytes) : Option (Nat × Option Nat) :=
  let l3 := 14 + 4 * (tagsOf d).length
  let udp (l4 : Nat) : Option (Nat × Option Nat) :=
    if getBe d (l4 + 2) 2 = 319 && byteAt d (l4 + 8) % 16 < 4 then some (l4 + 8, some l4) else none
  if finalEthertype d = 0x88F7 then (if byteAt d l3 % 16 < 4 then some (l3, none) else none)
  else if finalEthertype d = 0x0800 && byteAt d (l3 + 9) = 17 then udp (l3 + 4 * (byteAt d l3 % 16))
  else if finalEthertype d = 0x86DD && byteAt d (l3 + 6) = 17 then udp (l3 + 40)
  else none

/-- The UDP checksum of a rewritten string of 16-bit words, updated word by word; an IPv4 checksum of 0 stays 0 (R593, R218). -/
def udpUpdate (l4 off len : Nat) (new : Bytes) (d : Bytes) : Bytes :=
  let sum := getBe d (l4 + 6) 2
  let v4 := finalEthertype d = 0x0800
  if v4 && sum = 0 then patch d off new
  else
    let sum := (List.range (len / 2)).foldl (fun c k => checksumUpdate c (getBe d (off + 2 * k) 2) (getBe new (2 * k) 2)) sum
    patch (patch d off new) (l4 + 6) (beBytes 2 (if sum = 0 then 0xFFFF else sum))

/-- Bytes of an event message are rewritten at transmission, with the UDP checksum that covers them (R593). -/
def ptpPatch (l4 : Option Nat) (off : Nat) (new : Bytes) (d : Bytes) : Bytes :=
  match l4 with
  | some l4 => udpUpdate l4 off new.length new d
  | none => patch d off new

end Sys2Proof.Machine
end

