-- ==== Sys2Proof/Machine/Policer.lean ====
section
/-! DEFINITION. Token buckets, policers and their commands (R341, R342, R345 to R352). -/

namespace Sys2Proof.Machine

/-- Tokens in a byte: they are counted in 1/(8 x 10^6) bytes, so that 1 kb/s over 1 ns is one token and refill loses nothing (R342). -/
def byteTokens : Nat := 8000000

/-- LEN_ADJ applied: never less than 1 byte (R339, R340). -/
def adjusted (len : Nat) (adj : Int) : Nat := (max 1 ((len : Int) + adj)).toNat

/-- Colours. -/
def green : Nat := 0
def yellow : Nat := 1
def red : Nat := 2

/-- Policer `i` of a region. -/
def State.policer (s : State) (r i : Nat) : Policer := tgetD s.eg.policers (r * 65536 + i) {}

/-- Buckets refilled to a local time (R348): with MODE 1 the overflow of C fills E. -/
def Policer.refill (p : Policer) (now : Nat) : Policer :=
  let dt := now - p.at_
  let cMax := p.cbs * byteTokens
  let eMax := p.ebs * byteTokens
  let c := p.c + p.cir * dt
  match p.mode with
  | 1 => { p with c := min c cMax, e := min eMax (p.e + (c - min c cMax)), at_ := now }
  | 2 => { p with c := min c cMax, e := min eMax (p.e + p.pir * dt), at_ := now }
  | _ => { p with at_ := now }

/-- The colour of a frame of adjusted length `l` with its input colour, and the buckets after it (R348, R349). -/
def Policer.colour (p : Policer) (l input : Nat) : Nat × Policer :=
  let aware := p.flags.testBit 0
  let t := l * byteTokens
  match p.mode with
  | 1 =>
    if aware && input = red then (red, p)
    else if (!aware || input = green) && p.c ≥ t then (green, { p with c := p.c - t })
    else if p.e ≥ t then (yellow, { p with e := p.e - t })
    else (red, p)
  | 2 =>
    if aware && input = red then (red, p)
    else if p.e < t then (red, p)
    else if (aware && input = yellow) || p.c < t then (yellow, { p with e := p.e - t })
    else (green, { p with e := p.e - t, c := p.c - t })
  | _ => (green, p)

/-- The counters of a colour: frames at 2 x colour, bytes after it; drops at 6 (R352). -/
def countColour (col len : Nat) (drop : Bool) (cs : List Nat) : List Nat :=
  cs.mapIdx (fun i n =>
    if i = 2 * col then inc64 n else if i = 2 * col + 1 then add64 n len else if i = 6 && drop then inc64 n else n)

/-- Input colour of a frame (R347). -/
def inputColour (p : Policer) (earlier : Option Nat) (d : Bytes) : Nat :=
  match earlier with
  | some c => c
  | none => if p.flags.testBit 2 && ((tagsOf d).headD 0).testBit 12 then yellow else green

/-- Action of a colour (R351). -/
def Policer.action (p : Policer) (col : Nat) : Nat := if col = yellow then p.yellowAct else if col = red then p.redAct else 0

/-- A policer runs on a frame (R345 to R351): whether it drops it, and the frame with its colour and marks. -/
def police (r i : Nat) (f : Frame) (s : State) : Bool × Frame × State :=
  let p := (s.policer r i).refill s.time.localNs
  let len := f.data.length + 4
  let (col, p) := p.colour (adjusted len p.lenAdj) (inputColour p f.colour f.data)
  let act := p.action col
  let p := { p with counts := countColour col len (act = 2) p.counts }
  let f := { f with colour := some col }
  let f := if act = 1 then { f with
      markDei := true
      markDscp := if p.markDscp.testBit 6 then some (p.markDscp % 64) else f.markDscp } else f
  (act = 2, f, { s with eg.policers := tset s.eg.policers (r * 65536 + i) p })

/-- A policer as POLICER_WRITE leaves it (R350). -/
def writtenPolicer (p : PolicerWriteP) (old : Policer) (now : Nat) : Policer :=
  let keep := p.flags.testBit 1
  let old := old.refill now
  { mode := p.mode, cir := p.cir, cbs := p.cbs, pir := p.pir, ebs := p.ebsPbs, flags := p.flags, lenAdj := signed 8 p.lenAdj,
    yellowAct := p.yellowAct, redAct := p.redAct, markDscp := p.markDscp,
    c := if keep then min old.c (p.cbs * byteTokens) else p.cbs * byteTokens,
    e := if keep then min old.e (p.ebsPbs * byteTokens) else p.ebsPbs * byteTokens,
    at_ := now, counts := old.counts }

/-- POLICER_WRITE (Table 7-8). -/
def bodyPolicerWrite (_h : Ocf) (p : PolicerWriteP) : Body :=
  let on := p.mode != 0
  writeBody 0x0810 28
    (fun _ => firstErr
      [ (p.region > 3 && p.region != 0xFF, (0x0181, 0)),
        (p.mode > 2, (0x0181, 1)),
        (on && outside p.cir 1000 3200000000, (0x0181, 4)),
        (p.cbs > 268435455, (0x0181, 8)),
        (p.mode = 2 && outside p.pir p.cir 3200000000, (0x0181, 12)),
        (p.mode = 1 && p.pir != 0, (0x0181, 12)),
        (p.ebsPbs > 268435455, (0x0181, 16)),
        (p.flags > 7, (0x0108, 20)),
        (outsideS 8 p.lenAdj (-64) 127, (0x0181, 21)),
        (p.yellowAct > 2, (0x0181, 22)),
        (p.redAct > 2, (0x0181, 23)),
        (p.markDscp > 127, (0x0108, 24)) ])
    fun s =>
      let rs := if p.region = 0xFF then regions else [p.region]
      { s with eg.policers := forEach rs s.eg.policers (fun r t =>
          tset t (r * 65536 + p.policer) (writtenPolicer p (s.policer r p.policer) s.time.localNs)) }

/-- POLICER_READ (R352): configuration, bucket levels in bytes, counters. -/
def bodyPolicerRead (_h : Ocf) (region policer clear : Nat) : Body :=
  { opcode := 0x0811, changes := clear = 1, clearRead := true, lenOk := (· = 4),
    check := fun _ => firstErr [(region > 3, (0x0181, 0)), (clear > 1, (0x0108, 3))]
    apply := fun s =>
      let p := (s.policer region policer).refill s.time.localNs
      { st := if clear = 1 then { s with
          eg.policers := tset s.eg.policers (region * 65536 + policer) { p with counts := List.replicate 7 0 } } else s
        results := [(1, p.mode), (4, p.cir), (4, p.cbs), (4, p.pir), (4, p.ebs), (1, p.flags), (1, twos 8 p.lenAdj), (1, p.yellowAct),
          (1, p.redAct), (1, p.markDscp), (4, p.c / byteTokens), (4, p.e / byteTokens)] ++ p.counts.map (fun n => (8, n)) } }

end Sys2Proof.Machine
end

