-- ==== Sys2Proof/Machine/Egress.lean ====
section
/-! DEFINITION. The egress traffic managers: sources and eligibility, strict and weighted service, shapers and calendar wheels, replication, gates,
received pause, transmission (R285, R301, R302, R309, R330 to R344, R353 to R363, R593). -/

namespace Sys2Proof.Machine

/-! ## Shapers -/

/-- Tokens refilled to a local time (R341, R342). -/
def Shaper.refill (h : Shaper) (now : Nat) : Shaper :=
  { h with tokens := min (h.burst * byteTokens : Nat) (h.tokens + (h.rate * (now - h.at_) : Nat)), at_ := now }

/-- A shaper refilled to a local time is placed in a calendar wheel while its count is below 0 (R343). The instant t at which it becomes conforming is
kept exact: t x RATE is the count that it lacks added to now x RATE. -/
def Shaper.place (h : Shaper) (now : Nat) : Shaper :=
  if h.tokens ≥ 0 then { h with wheel := none }
  else
    let d := (-h.tokens).toNat
    let t := now * h.rate + d
    let fine := ceilDiv t (32 * h.rate)
    { h with wheel := some (if d < 131072 * h.rate then (false, fine % 4096, fine) else (true, ceilDiv t (131072 * h.rate) % 4096, fine)) }

/-- A grant takes its adjusted length; a count below 0 puts the shaper in a calendar wheel (R341, R343). -/
def Shaper.charge (h : Shaper) (len now : Nat) : Shaper :=
  let h := h.refill now
  ({ h with tokens := h.tokens - (len * byteTokens : Nat) } : Shaper).place now

/-- A shaper conforms while it waits in no wheel; no shaper conforms always. -/
def conforms (h : Option Shaper) : Bool := ((h.map (fun x => x.wheel.isNone))).getD true

/-- A slot falls due (R343): a coarse one passes its shapers to the fine wheel, a fine one makes them conforming. A shaper whose rate has fallen while
it waited is placed anew. DESIGN CHOICE, safe: log entry 33. -/
def Shaper.due (coarse : Bool) (slot now : Nat) (h : Shaper) : Shaper :=
  match h.wheel with
  | some (c, k, t) =>
    if c = coarse && k = slot then
      if coarse then { h with wheel := some (false, t % 4096, t) } else (h.refill now).place now
    else h
  | none => h

/-- SHAPER_SLOT_DUE (R343). -/
def execShaperSlotDue (pipe : Nat) (coarse : Bool) (slot : Nat) (s : State) : Host.Outcome State Fault Refusal :=
  let now := s.time.localNs
  .next { s with
    eg.ports := s.eg.ports.map (fun e =>
      (e.1, if pipeOfPort e.1 = pipe then { e.2 with shaper := e.2.shaper.map (Shaper.due coarse slot now) } else e.2))
    eg.queues := s.eg.queues.map (fun e =>
      (e.1, if pipeOfPort (e.1 / 8) = pipe then { e.2 with shaper := e.2.shaper.map (Shaper.due coarse slot now) } else e.2)) }

/-! ## Sources (R285, R332) -/

/-- Sources of an egress queue, by number: 0 to 3 the VOQs of the regions, 4 the fabric receive queue, 5 the replication queue, and
6 + 4 x slot + region the remote VOQs. -/
def sourceCount : Nat := 134

/-- The VOQ of a region that feeds a port at a TC. -/
def State.feedVoq (s : State) (r port tc : Nat) : Option Nat := (s.voqOfPort (s.sysPort port) tc).map (voqKey r)

/-- The port's VOQs are held (R303). -/
def State.held (s : State) (port : Nat) : Bool := s.buf.hold.contains (s.sysPort port)

/-- The eligible head frame of a source that holds frames here (R285). -/
def State.sourceHead (s : State) (port tc i : Nat) : Option TxFrame :=
  if i < 4 then
    match s.feedVoq i port tc with
    | some k => if s.held port then none else (s.voq k).headFrame.map (fun f => { port, tc, frame := f, voq := some k })
    | none => none
  else if i = 4 then (s.egQueue port tc).fabric.head?
  else if i = 5 then (s.egQueue port tc).repl.head?
  else none

/-- The key under which a remote source's request stands. -/
def requestKey (i cls port tc : Nat) (own : Nat) : Nat :=
  (i / 4) * 2 ^ 20 + (i % 4) * 2 ^ 17 + cls * 65536 + own * 2048 + port * 8 + tc

/-- The cells that a remote source may be granted now: at least its head frame, at most GRANT_SIZE (R318, R319); 0 for none. A head frame larger than
GRANT_SIZE is granted whole. DEDUCED, unsafe: log entry 92. -/
def State.grantable (s : State) (pipe key : Nat) : Nat :=
  let (backlog, head) := tgetD s.fab.requests key (0, 0)
  let n := min backlog (max head s.fab.cfg.grantSize)
  if tgetD s.fab.granted pipe 0 + tgetD s.fab.received pipe 0 + n ≤ s.fab.cfg.grantWindow then n else 0

/-- The request of remote source `i` of a front port's queue. -/
def State.remoteKey (s : State) (port tc i : Nat) : Nat := requestKey (i - 6) 0 port tc s.ownSlot

/-- A source can be served now: a head frame that fits its gate, or a remote source that can be granted. -/
def State.sourceReady (s : State) (port tc i : Nat) : Bool :=
  match s.sourceHead port tc i with
  | some t => s.gateFits port tc t.frame.len (s.egPort port).gates
  | none => i ≥ 6 && portKind port = 0 && s.grantable (pipeOfPort port) (s.remoteKey port tc i) != 0

/-- A queue holds a frame, here or at a remote source that has asked for a grant. -/
def State.queueHolds (s : State) (port tc : Nat) : Bool :=
  (List.range sourceCount).any (fun i =>
    if i < 4 then ((s.feedVoq i port tc).map (fun k => (s.voq k).frames != [])).getD false
    else if i < 6 then (s.sourceHead port tc i).isSome
    else portKind port = 0 && (tgetD s.fab.requests (s.remoteKey port tc i) (0, 0)).1 != 0)

/-- An egress queue is eligible (R330). -/
def State.queueEligible (s : State) (port tc : Nat) : Bool :=
  let q := s.egQueue port tc
  q.paused.isNone && !q.watchdog && conforms q.shaper && s.gateOpen (s.egPort port).gates tc &&
  (List.range sourceCount).any (s.sourceReady port tc)

/-! ## Frames too long for every window (R359) -/

/-- The head frame of a source goes without being sent. -/
def dropHead (port tc i : Nat) (s : State) : State :=
  match s.sourceHead port tc i with
  | none => s
  | some t =>
    let q := s.egQueue port tc
    let s := match t.voq with
      | some k => s.setVoq k (s.voq k).pop
      | none => s.setEgQueue port tc (if i = 4 then { q with fabric := q.fabric.drop 1 } else { q with repl := q.repl.drop 1 })
    releaseTx t s

/-- Oversize head frames of a source are discarded; `fuel` bounds how many. DEDUCED, unsafe: log entry 24. -/
def dropOversize (port tc i : Nat) : Nat → State → State
  | 0, s => s
  | fuel + 1, s =>
    match s.sourceHead port tc i with
    | none => s
    | some t =>
      if s.tooLong port tc t.frame.len (s.egPort port).gates then
        let s := dropHead port tc i s
        let q := s.egQueue port tc
        dropOversize port tc i fuel (raiseFirst 245 (s.setEgQueue port tc { q with oversize := inc64 q.oversize }))
      else s

/-- How many frames a source holds. -/
def State.sourceLen (s : State) (port tc i : Nat) : Nat :=
  if i < 4 then ((s.feedVoq i port tc).map (fun k => (s.voq k).frames.length)).getD 0
  else if i = 4 then (s.egQueue port tc).fabric.length else (s.egQueue port tc).repl.length

/-- Every oversize head of a port goes. -/
def trimPort (port : Nat) (s : State) : State :=
  if (s.listInForce (s.egPort port).gates).isNone then s
  else forEach (List.range 8) s (fun tc s => forEach (List.range 6) s (fun i s => dropOversize port tc i (s.sourceLen port tc i) s))

/-! ## Virtual time (R337, R338) -/

/-- `a` is not earlier than `b` modulo 2^48. -/
def later48 (a b : Nat) : Bool := (a + 2 ^ 48 - b % 2 ^ 48) % 2 ^ 48 < 2 ^ 47

/-- The tag of a queue that has become backlogged or eligible again. -/
def noteQueue (port tc : Nat) (s : State) : State :=
  let q := s.egQueue port tc
  let v := (s.egPort port).v
  let holds := s.queueHolds port tc
  let ok := s.queueEligible port tc
  let tag :=
    if holds && !q.backlogged then v
    else if holds && ok && !q.eligible then (if later48 q.tag v then q.tag else v)
    else q.tag
  if q.backlogged = holds && q.eligible = ok && q.tag = tag then s
  else s.setEgQueue port tc { q with tag := tag, backlogged := holds, eligible := ok }

def noteQueues (port : Nat) (s : State) : State := forEach (List.range 8) s (fun tc s => noteQueue port tc s)

/-! ## Decisions (R331, R334, R337) -/

/-- The ports that an egress pipeline serves (R331). -/
def State.egressPorts (s : State) (pipe : Nat) : List Nat :=
  (tkeys s.ports.cfg).filter (fun p => pipeOfPort p = pipe) ++
  (if pipe = 0 then [mgmtPort] else if pipe = 1 then [hostPort] else [])

/-- The transmit buffer of a port can take one more frame. DESIGN CHOICE, safe: log entry 22. -/
def State.txRoom (s : State) (port : Nat) : Bool :=
  (s.egPort port).tx.length + ((s.egPipe (pipeOfPort port)).granted.filter (fun t => t.port = port)).length ≤ Config.txBufferDepth

/-- The queue that a port would serve: the eligible strict queue of the highest TC, else the weighted queue of the smallest tag with ties to the
higher TC. -/
def State.choice (s : State) (port : Nat) : Option Nat :=
  let e := s.egPort port
  let ok := (List.range 8).reverse.filter (s.queueEligible port)
  match ok.find? e.strictMask.testBit with
  | some tc => some tc
  | none => (ok.filter (fun tc => !e.strictMask.testBit tc)).foldl (fun best tc =>
      match best with
      | none => some tc
      | some b => if later48 (s.egQueue port tc).tag (s.egQueue port b).tag then some b else some tc) none

/-- A port is eligible (R331). -/
def State.portEligible (s : State) (port : Nat) : Bool :=
  s.linkUp port && conforms (s.egPort port).shaper && s.txRoom port && (s.choice port).isSome

/-- A frame's marks of R351 and of DSCP_EN, made on transmission. DEDUCED, unsafe: log entry 58. -/
def markFrame (dei : Bool) (dscp : Option Nat) (d : Bytes) : Bytes :=
  let d := if dei && isTag (getBe d 12 2) then patch d 14 (beBytes 2 (getBe d 14 2 ||| 0x1000)) else d
  let l3 := 14 + 4 * (tagsOf d).length
  match dscp with
  | none => d
  | some v =>
    if finalEthertype d = 0x0800 then
      let old := getBe d l3 2
      let d := patch d (l3 + 1) (beBytes 1 (v * 4 + byteAt d (l3 + 1) % 4))
      patch d (l3 + 10) (beBytes 2 (checksumUpdate (getBe d (l3 + 10) 2) old (getBe d l3 2)))
    else if finalEthertype d = 0x86DD then patch d l3 (beBytes 2 (setField 11 6 v (getBe d l3 2)))
    else d

/-- A queue and its port are charged for a grant of a stored length (R337, R341). DESIGN CHOICE, unsafe: log entry 23. -/
def chargeGrant (port tc len : Nat) (shape : Bool) (s : State) : State :=
  let e := s.egPort port
  let q := s.egQueue port tc
  let l := adjusted len e.lenAdj
  let now := s.time.localNs
  let weighted := !e.strictMask.testBit tc
  let charge (h : Option Shaper) : Option Shaper := if shape then h.map (·.charge l now) else h
  (s.setEgPort port { e with v := if weighted then q.tag else e.v, shaper := charge e.shaper }).setEgQueue port tc
    { q with
      tag := if weighted then wrap 48 (q.tag + ceilDiv (l * 65536) (e.weights.getD tc 1)) else q.tag
      shaper := charge q.shaper }

/-- A remote source is granted cells (R318, R333). DESIGN CHOICE, unsafe: log entry 23. -/
def grantRemote (pipe key n : Nat) (s : State) : State :=
  let slot := key / 2 ^ 20
  sendToSlot slot (.grant slot (key / 2 ^ 17 % 4) (key % 2 ^ 17) n) { s with
    fab.requests := let left := (tgetD s.fab.requests key (0, 0)).1 - n; if left = 0 then tdel s.fab.requests key else tset s.fab.requests key (left, 0)
    fab.granted := tmod s.fab.granted pipe 0 (· + n) }

/-- A port serves a queue: one frame or one remote grant, round-robin among its sources (R285). -/
def serve (port tc : Nat) (s : State) : State :=
  let q := s.egQueue port tc
  match nextTurn sourceCount (q.turn + 1) (s.sourceReady port tc) with
  | none => s
  | some i =>
    let s := s.setEgQueue port tc { q with turn := i }
    match s.sourceHead port tc i with
    | none =>
      let k := s.remoteKey port tc i
      let n := s.grantable (pipeOfPort port) k
      chargeGrant port tc (240 * n) false (grantRemote (pipeOfPort port) k n s)
    | some t =>
      let q := s.egQueue port tc
      let s := match t.voq with
        | some k => s.setVoq k (s.voq k).pop
        | none => s.setEgQueue port tc (if i = 4 then { q with fabric := q.fabric.drop 1 } else { q with repl := q.repl.drop 1 })
      let s := chargeGrant port tc t.frame.len true s
      let wire := markFrame t.frame.markDei t.frame.markDscp (s.rewriteHop t.frame.nexthop port t.frame.l3 t.frame.data)
      let p := s.egPipe (pipeOfPort port)
      s.setEgPipe (pipeOfPort port) { p with granted := p.granted ++ [{ t with wire := wire }] }

/-- A queue in spill state whose head has no whole frame at a grant opportunity (R294). -/
def countUnderrun (port : Nat) (s : State) : State :=
  forEach (List.range 32) s (fun n s =>
    match s.feedVoq (n / 8) port (n % 8) with
    | some k =>
      let v := s.voq k
      if v.spill && v.pages != [] && v.headFrame.isNone then s.setVoq k { v with underrun := inc64 v.underrun } else s
    | none => s)

/-- EGRESS_DECISION (R331): one decision for one port, round-robin among the eligible ports. -/
def execEgressDecision (pipe : Nat) (s : State) : Host.Outcome State Fault Refusal :=
  if !s.isReady (48 + pipe) then .next s
  else
    let ps := s.egressPorts pipe
    let s := forEach ps s (fun p s => noteQueues p (trimPort p s))
    let turn := (s.egPipe pipe).turn
    match (ps.filter (· > turn) ++ ps.filter (· ≤ turn)).find? s.portEligible with
    | none => .next (forEach ps s countUnderrun)
    | some port =>
      match s.choice port with
      | none => .next s
      | some tc =>
        let s := serve port tc s
        let p := s.egPipe pipe
        .next (noteQueues port (s.setEgPipe pipe { p with turn := port }))

/-- Cells that stand in the transmit buffers of a pipeline. -/
def State.crossedCells (s : State) (pipe : Nat) : Nat :=
  ((s.eg.ports.filter (fun e => pipeOfPort e.1 = pipe)).map (fun e => (e.2.tx.map (fun t => t.frame.cells)).sum)).sum

/-- The first bit of a port's head frame leaves, when the gate of its TC lets it start (R358). DEDUCED, unsafe: log entries 24 and 31. -/
def startHead (port : Nat) (s : State) : State :=
  let e := s.egPort port
  match e.tx with
  | [] => s
  | t :: ts =>
    if t.started || !s.gateFits port t.tc t.frame.len e.gates then s
    else s.setEgPort port { e with tx := { t with started := true, start := s.time.localNs, startStamp := s.regionNow (regionOfPort port) } :: ts }

/-- CROSSBAR_GRANT (R27): the cells of the oldest granted frame cross when the pipeline has credits for them. DESIGN CHOICE, safe: log entry 22. -/
def execCrossbarGrant (pipe : Nat) (s : State) : Host.Outcome State Fault Refusal :=
  let p := s.egPipe pipe
  .next (match p.granted with
    | [] => s
    | t :: ts =>
      if s.crossedCells pipe + t.frame.cells > 69 + Config.egressCredits then s
      else
        let s := s.setEgPipe pipe { p with granted := ts }
        let e := s.egPort t.port
        let s := s.setEgPort t.port { e with tx := e.tx ++ [t] }
        startHead t.port s)

/-! ## Transmission -/

/-- ASYM_NS of a port in 1/16 ns (R592). -/
def State.asymOf (s : State) (port : Nat) : Int := 16 * ((tget s.ptp.ports port).map PtpPort.asymNs).getD 0

/-- A transparent clock's correction at transmission (R591 to R593): the residence time in 2^-16 ns. ASYM_NS is taken into the stamp of a Sync or
Pdelay_Resp that came in, and of a Delay_Req or Pdelay_Req that leaves. PRESUMED, unsafe: log entry 143. -/
def correctPtp (t : TxFrame) (s : State) : Bytes :=
  let corrects := (s.ptp.type = 3 || s.ptp.type = 4) && t.frame.released.isNone && ((tget s.ptp.ports t.frame.orig).map (fun p => p.ptpMode == 2)).getD false
  match (if corrects then ptpAt t.wire else none) with
  | none => t.wire
  | some (off, l4) =>
    let kind := byteAt t.wire off % 16
    let asym : Int := if kind = 0 || kind = 3 then s.asymOf t.frame.orig else -s.asymOf t.port
    let time : Int := (t.startStamp : Int) - t.frame.stamp + asym
    ptpPatch l4 (off + 8) (beBytes 8 (twos 64 ((getBe t.wire (off + 8) 8 : Int) + time * 4096))) t.wire

/-- An event message of the instance's own is stamped as it leaves (R592): a one-step clock writes originTimestamp into its Sync (R593), and the
firmware keeps the stamps that Follow_Up and the path delay need. -/
def stampPtp (t : TxFrame) (s : State) : Bytes × State :=
  match (if t.frame.orig = hostPort then ptpAt t.wire else none), tget s.ptp.ports t.port with
  | some (off, l4), some p =>
    if getBe t.wire (off + 20) 10 != s.portIdentity t.port then (t.wire, s)
    else
      let seq := getBe t.wire (off + 30) 2
      let keep (p : PtpPort) : State := { s with ptp.ports := tset s.ptp.ports t.port p }
      match byteAt t.wire off % 16 with
      | 0 =>
        if s.ptp.oneStep then (ptpPatch l4 (off + 34) (ptpStamp t.startStamp) t.wire, s) else (t.wire, keep { p with syncTx := some (t.startStamp, seq) })
      | 1 => (t.wire, keep { p with delayT3 := some (t.startStamp : Int) })
      | 3 => (t.wire, keep { p with respTx := some (t.startStamp, seq) })
      | _ => (t.wire, s)
  | _, _ => (correctPtp t s, s)

/-- The latency sample of a frame: from its check or its release by the reorder unit to its first bit (Table 7-3, R363).
DEDUCED, unsafe: log entry 31. -/
def sampleLatency (t : TxFrame) (s : State) : State :=
  let q := s.egQueue t.port t.tc
  let v := min (t.start - (t.frame.released.getD t.frame.arrived)) (2 ^ 32 - 1)
  let mark (m : Nat × Nat) : Nat × Nat := if v > m.1 then (v, s.estateNs) else m
  let late := (s.egPort t.port).latThreshold != 0 && v > (s.egPort t.port).latThreshold
  let q := if t.frame.released.isSome then { q with latFabric := mark q.latFabric } else { q with latLocal := mark q.latLocal }
  let s := s.setEgQueue t.port t.tc (if late then { q with latOver := inc64 q.latOver } else q)
  if late then raiseFirst 244 s else s

/-- A frame that has left is counted for its egress queue. -/
def countSent (t : TxFrame) (s : State) : State :=
  let q := s.egQueue t.port t.tc
  s.setEgQueue t.port t.tc { q with sent := inc64 q.sent, sentBytes := add64 q.sentBytes t.frame.len }

/-- Transmit counters of a port. -/
def countTx (port len : Nat) (s : State) : State :=
  let c := tgetD s.ports.counters port {}
  { s with ports.counters := tset s.ports.counters port { c with txFrames := inc64 c.txFrames, txBytes := add64 c.txBytes len } }

/-- FRAME_TRANSMIT_COMPLETE (R280): the last bit of the port's head frame leaves; the host port's frames leave by RX_FRAME_WRITE. A head frame that has
not started starts when it can. -/
def execFrameTransmitComplete (port : Nat) (s : State) : Host.Outcome State Fault Refusal :=
  let e := s.egPort port
  .next (match e.tx with
    | [] => s
    | t :: ts =>
      if port = hostPort || !s.linkUp port then s
      else if !t.started then startHead port s
      else
        let (data, s) := stampPtp t s
        let s := countSent t (sampleLatency t s)
        let s := countTx port (data.length + 4) { s with out.frames := s.out.frames ++ [{ port, data }] }
        let e := s.egPort port
        startHead port (releaseTx t (s.setEgPort port { e with tx := ts })))

/-! ## Replication (R308, R309, R332) -/

/-- The load-sharing hash of a frame that carries no parse. DESIGN CHOICE, unsafe: log entry 32. -/
def State.hashOf (s : State) (pipe port : Nat) (d : Bytes) : Nat := s.lsHash (parsePass (s.pipe pipe).active 0 d) port d

/-- The system port that a group member means for a frame; a LAG is resolved by hash, on the device that serves it (R309). -/
def State.memberPort (s : State) (m : Nat × Nat) (h : Nat) : Option Nat := if m.1 = 1 then s.lagChoice m.2 h else some m.2

/-- The ingress port, or a LAG that contains it (R309). -/
def State.isOrigin (s : State) (m : Nat × Nat) (orig : Nat) : Bool :=
  if m.1 = 1 then (s.lagMembers m.2).contains orig else m.2 = orig

/-- The local ports that the copies of a frame go to through a pipeline, in the group's member order. DEDUCED, unsafe: log entry 94. -/
def State.copyPorts (s : State) (pipe : Nat) (f : QFrame) : List Nat :=
  let orig := if f.released.isSome then f.orig else s.sysPort f.orig
  let ms := (tgetD s.fwd.groups f.group []).filter (fun m => !(f.leaveOut && s.isOrigin m orig))
  let h := f.hash.getD (s.hashOf pipe f.orig f.data)
  (ms.filterMap (fun m => (s.memberPort m h).bind s.ofSysPort)).filter (fun p => pipeOfPort p = pipe)

/-- LAGs of a frame's group that have no live member, as the pipeline that serves the first member of each finds them. DEDUCED, unsafe: log entry 94. -/
def State.emptyLags (s : State) (pipe : Nat) (f : QFrame) : Nat :=
  ((tgetD s.fwd.groups f.group []).filter (fun m => m.1 = 1 && s.lagLive m.2 = [] &&
    (((s.lagMembers m.2).head?.bind s.ofSysPort).map pipeOfPort) = some pipe)).length

/-- Copies are placed in the replication queues of a pipeline; one that cannot be taken is discarded alone, and so is one for a (port, TC) under the
watchdog (R302). The copy of a LAG without a live member is counted in LAG_NO_MEMBER (R251). The number placed is returned. -/
def placeCopies (m tc pipe : Nat) (f : QFrame) (s : State) : Nat × State :=
  forEach (s.copyPorts pipe f) (0, { s with buf.lagNoMember := add64 s.buf.lagNoMember (s.emptyLags pipe f) }) (fun p (n, s) =>
    let q := s.egQueue p tc
    if q.watchdog then (n, { s with buf.wdDiscard := tinc s.buf.wdDiscard (8 * p + tc) })
    else if q.repl.length < 64 && s.linkUp p then
      (n + 1, s.setEgQueue p tc { q with repl := q.repl ++ [{ port := p, tc, frame := { f with shared := some m }, voq := none }] })
    else (n, { s with buf.mcCopyDiscard := inc64 s.buf.mcCopyDiscard }))

/-- The head frame of a CLASS 1 VOQ is replicated: the VOQ gives it up, and its cells are freed with its last copy. -/
def takeCopy (pipe tc k : Nat) (f : QFrame) (s : State) : State :=
  let v := s.voq k
  let s := s.setVoq k { v.pop with shared := if f.headroom then v.shared else v.shared - f.cells }
  match f.shared with
  | none => s
  | some m =>
    let (n, s) := placeCopies m tc pipe f s
    if n = 0 then releaseReplica m pipe f s
    else { s with buf.copies := tmod s.buf.copies m 0 (· + (n - 1)) }

/-- Sources of the replication engine at a TC: 0 to 3 the regions' VOQs, 4 + 4 x slot + region the remote ones. -/
def State.replHead (s : State) (pipe tc i : Nat) : Option (Nat × QFrame) :=
  if i < 4 then
    let k := voqKey i (65536 + s.ownSlot * 2048 + pipe * 8 + tc)
    (s.voq k).headFrame.map (fun f => (k, f))
  else none

def State.replRemote (s : State) (pipe tc i : Nat) : Nat := requestKey (i - 4) 1 pipe tc s.ownSlot

def State.replReady (s : State) (pipe tc i : Nat) : Bool :=
  (s.replHead pipe tc i).isSome || (i ≥ 4 && s.grantable pipe (s.replRemote pipe tc i) != 0)

/-- REPLICATION_TAKE (R332): the highest TC first, round-robin among its sources. -/
def execReplicationTake (pipe : Nat) (s : State) : Host.Outcome State Fault Refusal :=
  if !s.isReady (48 + pipe) then .next s
  else
    let p := s.egPipe pipe
    let pick := (List.range 8).reverse.findSome? (fun tc =>
      (nextTurn 132 (tgetD p.replTurn tc 131 + 1) (s.replReady pipe tc)).map (fun i => (tc, i)))
    match pick with
    | none => .next s
    | some (tc, i) =>
      let s := s.setEgPipe pipe { p with replTurn := tset p.replTurn tc i }
      .next (match s.replHead pipe tc i with
        | some (k, f) => takeCopy pipe tc k f s
        | none => grantRemote pipe (s.replRemote pipe tc i) (s.grantable pipe (s.replRemote pipe tc i)) s)

/-! ## Gates -/

/-- GATE_TRANSITION (R357): the entry that the list has at this instant takes force. DEDUCED, unsafe: log entry 24. -/
def execGateTransition (port : Nat) (s : State) : Host.Outcome State Fault Refusal :=
  let e := s.egPort port
  .next (match e.gates.oper with
    | none => s
    | some c => startHead port (s.setEgPort port { e with gates := { e.gates with entry := c.entryNow (s.portNs port) } }))

/-- GATE_CHANGE_INSTANT (R355, R359). DEDUCED, unsafe: log entry 24. -/
def execGateChangeInstant (port : Nat) (s : State) : Host.Outcome State Fault Refusal :=
  let e := s.egPort port
  .next (match e.gates.pending with
    | none => s
    | some c =>
      startHead port (trimPort port (raise 246 (s.setEgPort port { e with gates := { e.gates with
        oper := some c
        pending := none
        entry := 0 } }))))

/-! ## Received pause (R301, R302) -/

/-- A (port, TC) is paused, or released. -/
def setPause (port tc : Nat) (on : Bool) (s : State) : State :=
  let q := s.egQueue port tc
  s.setEgQueue port tc (if on then { q with paused := some (q.paused.getD s.time.localNs) } else { q with paused := none, watchdog := false })

/-- PAUSE_FRAME_RECEIVE (R301): an IEEE 802.3x frame pauses every TC of a port in that mode, a PFC frame the TCs of its enable vector.
DEDUCED, unsafe: log entry 21. -/
def execPauseFrameReceive (port : Nat) (pfc : Bool) (enable : Nat) (quanta : List Nat) (s : State) : Host.Outcome State Fault Refusal :=
  if !s.linkUp port then .next s
  else
    let c := tgetD s.ports.counters port {}
    let prios := (List.range 8).filter enable.testBit
    let c := if pfc then { c with rxPfc := forEach prios c.rxPfc (fun k t => tinc t k) } else { c with rxPause := inc64 c.rxPause }
    let s : State := { s with ports.counters := tset s.ports.counters port c }
    let mode := (s.pfcCfg port).mode
    .next (if !pfc && mode = 1 then forEach (List.range 8) s (fun tc s => setPause port tc (quanta.headD 0 != 0) s)
      else if pfc && mode = 2 then forEach prios s (fun tc s => setPause port tc (quanta.getD tc 0 != 0) s)
      else s)

/-- PAUSE_EXPIRE (R301). -/
def execPauseExpire (port tc : Nat) (s : State) : Host.Outcome State Fault Refusal := .next (setPause port tc false s)

/-- PFC_WATCHDOG_EXPIRE (R302): the frames held for the (port, TC) are discarded, and each that arrives, until the pause ends. -/
def execPfcWatchdogExpire (port tc : Nat) (s : State) : Host.Outcome State Fault Refusal :=
  let q := s.egQueue port tc
  if q.paused.isNone || (s.pfcCfg port).watchdog = 0 then .next s
  else
    let count (s : State) : State := { s with buf.wdDiscard := tinc s.buf.wdDiscard (8 * port + tc) }
    let ks := (regions.filterMap (fun r => s.feedVoq r port tc))
    let s := s.setEgQueue port tc { q with watchdog := true, repl := [], fabric := [] }
    let s := forEach (q.repl ++ q.fabric) s (fun t s => count (releaseTx t s))
    .next (raise 204 (forEach ks s (fun k s => emptyVoq k (fun _ s => count s) s)))

end Sys2Proof.Machine
end

