-- ==== Sys2Proof/Machine/CmdBuffer.lean ====
section
/-! DEFINITION. The own part of the buffer, scheduling, gate and high-water commands (Tables 6-11 and 7-4). -/

namespace Sys2Proof.Machine

/-! ## Buffer configuration (R289, R290, R327) -/

/-- ALPHA times a number of cells, rounded down (Table 6-3). -/
def alphaOf (code n : Nat) : Nat := n * 2 ^ code / 64

/-- Dvorob Link ports of a region. -/
def fabPortsIn (ports : Tab FabPort) (r : Nat) : Nat := (ports.filter (fun e => e.1 / 8 = r)).length

/-- The Dvorob Link check of R289 for a region. -/
def fabUnfit (c : BufCfg) (window : Nat) (ports : Tab FabPort) (r : Nat) : Bool :=
  let n := fabPortsIn ports r
  n != 0 && (tgetD c.regions r ({} : RegionCfg)).fabRxPool < 16 * window + 138 * n

/-- A VOQ cannot hold a frame of 64 cells (R289). -/
def voqUnfit (c : BufCfg) (size v : Nat) : Bool :=
  let p := c.profile (c.profileOf v)
  let most := min size (alphaOf p.alpha size)
  if v < 65536 then p.reserve + most < 64 else if v / 8 % 256 < 16 then most < 64 else false

/-- A configuration fails a check of R289 in a region. DESIGN CHOICE, unsafe: log entry 26. -/
def State.unfit (s : State) (c : BufCfg) (r : Nat) : Bool :=
  let g := tgetD c.regions r ({} : RegionCfg)
  let size := 131072 - s.otherPools c r
  s.enabledVoqs.any (voqUnfit c size) || g.portPendMax < 64 || g.portPendMax > g.ingressPool ||
  (c.pfc.filter (fun e => regionOfPort e.1 = r)).any (fun e => e.2.priorities != [] && e.2.headroom < 64) ||
  fabUnfit c s.fab.cfg.grantWindow s.fab.ports r

/-- BUF_COMMIT (R289, R290). DESIGN CHOICE, unsafe: log entry 25. DESIGN CHOICE, unsafe: log entry 26. -/
def bodyBufCommit (_h : Ocf) : Body :=
  writeBody 0x0706 0
    (fun s => firstErr
      [ (regions.any (fun r => s.otherPools s.buf.shadow r > 131072), (0x0372, 0xFFFF)),
        (regions.any (s.unfit s.buf.shadow), (0x0371, 0xFFFF)) ])
    fun s => forEach (tkeys s.buf.voqs) { s with buf.cfg := s.buf.shadow } enterSpill

/-- Spill pages of a region (R291). -/
def State.spillPages (s : State) : Nat := if s.flash.h72 then 3145728 else 1572864

/-- BUF_PROFILE_WRITE (Table 6-7). -/
def bodyBufProfileWrite (_h : Ocf) (p : BufProfileWriteP) : Body :=
  let keep := orDefault p.headKeep 256
  let on := orDefault p.spillOn 4096
  writeBody 0x0701 16
    (fun s => firstErr
      [ (p.profile > 63, (0x0171, 0)),
        (p.alpha > 9, (0x0171, 1)),
        (p.reserve > 4095, (0x0171, 2)),
        (p.flags > 1, (0x0108, 4)),
        (outside keep 16 4096 || keep % 16 != 0, (0x0171, 6)),
        (outside on 64 131072, (0x0171, 8)),
        (p.spillMax > s.spillPages, (0x0171, 12)) ])
    fun s => { s with
      buf.shadow.profiles := tset s.buf.shadow.profiles p.profile ⟨p.alpha, p.reserve, p.flags.testBit 0, keep, on, p.spillMax⟩ }

/-- VOQ_PROFILE_MAP (R327). -/
def bodyVoqProfileMap (_h : Ocf) (start count profile : Nat) : Body :=
  writeBody 0x0702 12
    (fun _ => firstErr
      [(start ≥ 131072, (0x0171, 0)), (count = 0 || start + count > 131072, (0x0171, 4)), (profile > 63, (0x0171, 8))])
    fun s => { s with buf.shadow.map := (start, count, profile) :: s.buf.shadow.map }

/-- BUF_REGION_WRITE (Table 6-8). -/
def bodyBufRegionWrite (_h : Ocf) (p : BufRegionWriteP) : Body :=
  let pend := orDefault p.portPendMax 4096
  let pool := orDefault p.ingressPool 16384
  writeBody 0x0703 12
    (fun _ => firstErr
      [ (p.region > 3 && p.region != 0xFF, (0x0171, 0)),
        (outside pend 64 16384, (0x0171, 2)),
        (outside pool 4096 65536, (0x0171, 4)),
        (p.fabRxPool != 0 && outside p.fabRxPool 2048 34816, (0x0171, 8)) ])
    fun s =>
      let rs := if p.region = 0xFF then regions else [p.region]
      { s with buf.shadow.regions := forEach rs s.buf.shadow.regions (fun r t => tset t r ⟨pend, pool, p.fabRxPool⟩) }

/-- A port field names a Dvorob Link port of this device. -/
def State.namesFabric (s : State) (field : Nat) : Bool :=
  portKind field = 0 && field / 256 = s.ownSlot && s.fabricGroup (field % 256 / 8)

/-- The checks of a port field: a Dvorob Link port, then a port that is not of this device. -/
def portChecks (s : State) (field busy bad : Nat) : List (Bool × Err) :=
  [ (s.namesFabric field, (busy, 0)), ((s.portArg field).isNone, (bad, 0)) ]

/-- PORT_PFC_WRITE (Table 6-9). -/
def bodyPortPfcWrite (_h : Ocf) (p : PortPfcWriteP) : Body :=
  writeBody 0x0704 16
    (fun s => firstOf (portChecks s p.port 0x0471 0x0171)
      ([ (p.mode > 2, (0x0171, 2)),
        (p.xon ≥ p.xoff, (0x0171, 6)),
        (p.watchdog > 1000, (0x0171, 10)),
        (p.defaultPrio > 7, (0x0171, 12)) ]))
    fun s => match s.portArg p.port with
      | some k => { s with
          buf.shadow.pfc := tset s.buf.shadow.pfc k ⟨p.mode, p.lossless, p.xoff, p.xon, p.headroom, p.watchdog, p.defaultPrio⟩ }
      | none => s

/-- PORT_LINGER_WRITE (R303). -/
def bodyPortLingerWrite (_h : Ocf) (port linger : Nat) : Body :=
  writeBody 0x0705 4
    (fun s => firstOf (portChecks s port 0x0471 0x0171)
      ([(linger > 500, (0x0171, 2))]))
    fun s => match s.portArg port with
      | some k => { s with buf.shadow.linger := tset s.buf.shadow.linger k linger }
      | none => s

/-- A VOQ that a command names. -/
def voqChecks (region voq : Nat) : List (Bool × Err) := [(region > 3, (0x0171, 0)), (voq ≥ 131072, (0x0171, 1))]

/-- State of a VOQ as VOQ_STATUS reports it: 0 idle, 1 active, 2 spill, 3 hold. -/
def State.voqState (s : State) (k : Nat) : Nat :=
  if s.voqHeld k then 3
  else if (s.voq k).spill then 2
  else if (s.voq k).frames != [] then 1 else 0

/-- VOQ_STATUS (Table 6-11). -/
def bodyVoqStatus (_h : Ocf) (region voq : Nat) : Body :=
  readBody 0x0707 8 (fun _ => firstErr (voqChecks region voq)) fun s =>
    let k := voqKey region voq
    [(1, s.voqState k), (4, (s.voq k).reserve), (4, (s.voq k).shared), (4, (s.voq k).pages.length)]

/-- VOQ_COUNTERS_READ (R288, R294, R295). -/
def bodyVoqCountersRead (_h : Ocf) (region voq clear : Nat) : Body :=
  { opcode := 0x0708, changes := clear = 1, clearRead := true, lenOk := (· = 8),
    check := fun _ => firstOf (voqChecks region voq) ([(clear > 1, (0x0108, 5))])
    apply := fun s =>
      let k := voqKey region voq
      let q := s.voq k
      let z : Voq := { q with admitted := 0, admittedBytes := 0, discarded := 0, discardedBytes := 0, underrun := 0, eccDiscard := 0 }
      { st := if clear = 1 then s.setVoq k z else s
        results := [q.admitted, q.admittedBytes, q.discarded, q.discardedBytes, q.underrun, q.eccDiscard].map (fun n => (8, n)) } }

/-- Pages of a region's spill area in use. -/
def State.pagesUsed (s : State) (r : Nat) : Nat := (s.buf.pages.filter (fun g => g / 2 ^ 22 = r)).length

/-- The ports that BUF_STATUS lists, as system ports: the configured front ports, the management port, and the ports of other members that have a
count. DESIGN CHOICE, unsafe: log entry 14. -/
def State.statusPorts (s : State) : List Nat :=
  let own := (tkeys s.ports.cfg).map s.sysPort ++ [mgmtPort, hostPort]
  let far := ((tkeys s.buf.downDiscard ++ tkeys s.buf.lingerDiscard).map (· / 8)).filter (fun f => !own.contains f)
  own ++ far.eraseDups

/-- BUF_STATUS (Table 6-11): per region, then per port. DESIGN CHOICE, unsafe: log entry 14. -/
def bodyBufStatus (_h : Ocf) : Body :=
  readBody 0x0709 0 (fun _ => none) fun s =>
    regions.flatMap (fun r =>
      let g := s.regionCfg r
      let head := ((s.buf.headroom.filter (fun e => regionOfPort (e.1 / 8) = r)).map Prod.snd).sum
      let res := ((s.buf.voqs.filter (fun e => voqRegion e.1 = r)).map (fun e => e.2.reserve)).sum
      [ (4, g.ingressPool), (4, tgetD s.buf.ingress r 0), (4, g.fabRxPool), (4, tgetD s.buf.fabRx r 0), (4, s.buf.cfg.headroomOf r),
        (4, head), (4, s.reservesOf s.buf.cfg), (4, res), (4, s.sharedSize r), (4, tgetD s.buf.shared r 0), (4, s.sharedFree r),
        (4, s.pagesUsed r), (8, tgetD s.buf.noVoq r 0) ] ++ (List.range 8).map (fun tc => (8, tgetD s.buf.discards (8 * r + tc) 0))) ++
    s.statusPorts.flatMap (fun f =>
      let byTc (t : Tab Nat) (port : Nat) : Results := (List.range 8).map (fun tc => (8, tgetD t (8 * port + tc) 0))
      let p := (s.ofSysPort f).getD f
      let own (t : Tab Nat) : Nat := if (s.ofSysPort f).isSome then tgetD t p 0 else 0
      [(2, f), (8, own s.buf.inDiscard), (8, own s.buf.headroomOverrun)] ++ byTc (if (s.ofSysPort f).isSome then s.buf.wdDiscard else []) p ++
      byTc s.buf.downDiscard f ++ byTc s.buf.lingerDiscard f ++ [(8, own s.buf.txAbort)])

/-! ## Egress scheduling (R334 to R344, R364) -/

/-- The port of an egress command: it exists when it is a configured front port, or the management or host port.
DESIGN CHOICE, unsafe: log entry 95. -/
def State.egressArg (s : State) (field : Nat) : Option Nat :=
  match s.portArg field with
  | some k => if (portKind k = 0 && (tget s.ports.cfg k).isSome) || k = mgmtPort || k = hostPort then some k else none
  | none => none

/-- The checks of the port field of an egress command. -/
def egressChecks (s : State) (field : Nat) : List (Bool × Err) :=
  [ (s.namesFabric field, (0x0481, 0)), ((s.egressArg field).isNone, (0x0181, 0)) ]

/-- A shaper with a new rate keeps its tokens within the new burst (R344); a new one starts full. DESIGN CHOICE, unsafe: log entry 33. -/
def newShaper (old : Option Shaper) (rate burst now : Nat) : Shaper :=
  match old with
  | some h => let h := h.refill now; { h with rate, burst, tokens := min h.tokens (burst * byteTokens : Nat) }
  | none => { rate, burst, tokens := (burst * byteTokens : Nat), at_ := now }

/-- PORT_SCHED_WRITE (Table 7-5, R335, R336). -/
def bodyPortSchedWrite (_h : Ocf) (p : PortSchedWriteP) : Body :=
  let ws := p.weight.map (orDefault · 1)
  writeBody 0x0801 24
    (fun s => firstOf (egressChecks s p.port)
      ([ ((bitsOf 8 p.strictMask).length > 4, (0x0183, 2)),
        (outsideS 8 p.lenAdj (-64) 127, (0x0181, 3)),
        (p.weight.length != 8 || ws.any (fun w => outside w 1 255), (0x0181, 4)),
        (p.portRate != 0 && outside p.portRate 1000 800000000, (0x0181, 12)),
        (p.portBurst > 16777215, (0x0181, 16)) ]))
    fun s => match s.egressArg p.port with
      | none => s
      | some k =>
        let e := s.egPort k
        let woken := (List.range 8).filter (fun tc => e.strictMask.testBit tc && !p.strictMask.testBit tc)
        let s := s.setEgPort k { e with
          strictMask := p.strictMask
          lenAdj := signed 8 p.lenAdj
          weights := ws
          shaper := if p.portRate = 0 then none else some (newShaper e.shaper p.portRate p.portBurst s.time.localNs)
          latThreshold := p.latThreshold }
        forEach woken s (fun tc s => s.setEgQueue k tc { s.egQueue k tc with tag := e.v })

/-- QUEUE_SHAPER_WRITE (Table 7-6). -/
def bodyQueueShaperWrite (_h : Ocf) (p : QueueShaperWriteP) : Body :=
  writeBody 0x0802 12
    (fun s => firstOf (egressChecks s p.port)
      ([ (p.tc > 7, (0x0181, 2)),
        (p.flags > 1, (0x0108, 3)),
        (p.flags = 1 && outside p.rate 1000 800000000, (0x0181, 4)),
        (p.flags = 1 && p.burst > 16777215, (0x0181, 8)) ]))
    fun s => match s.egressArg p.port with
      | none => s
      | some k =>
        let q := s.egQueue k p.tc
        s.setEgQueue k p.tc { q with shaper := if p.flags = 0 then none else some (newShaper q.shaper p.rate p.burst s.time.localNs) }

/-- GATE_LIST_WRITE (R353). -/
def bodyGateListWrite (_h : Ocf) (port start : Nat) (entries : GateEntries) : Body :=
  { opcode := 0x0803, changes := true, lenOk := (· = 4 + 8 * entries.length),
    check := fun s => firstOf (egressChecks s port)
      ([ (outside entries.length 1 64 || start + entries.length > 256, (0x0181, 3)),
        (entries.any (fun e => e.1 > 255 || outside e.2 64 1000000000), (0x0181, 4)) ])
    apply := fun s => match s.egressArg port with
      | none => { st := s }
      | some k =>
        let e := s.egPort k
        { st := s.setEgPort k { e with gates := { e.gates with
            admin := forEach ((List.range entries.length).zip entries) e.gates.admin (fun x t => tset t (start + x.1) x.2) } } } }

/-- The change instant of a pending list (R355). -/
def changeInstant (base cycle now : Nat) : Nat :=
  if base ≥ now + 100000 then base else base + ceilDiv (now + 100000 - base) cycle * cycle

/-- GATE_CONFIG_WRITE (Table 7-7, R355, R356). -/
def bodyGateConfigWrite (_h : Ocf) (p : GateConfigWriteP) : Body :=
  writeBody 0x0804 24
    (fun s =>
      let g := (s.egPort ((s.egressArg p.port).getD 0)).gates
      let on := p.flags.testBit 0
      firstOf (egressChecks s p.port)
      ([ (p.flags > 3, (0x0108, 2)),
          (p.baseNs > 999999999, (0x0181, 18)),
          (on && (outside p.listLen 1 256 || outside p.cycleTime 1000 1000000000 ||
            (List.range p.listLen).any (fun k => outside (g.adminEntry k).2 64 1000000000)), (0x0182, 0xFFFF)) ]))
    fun s => match s.egressArg p.port with
      | none => s
      | some k =>
        let e := s.egPort k
        let unsync := p.flags.testBit 1
        let base := p.baseS * 1000000000 + p.baseNs
        let list : GateCfg :=
          { entries := (List.range p.listLen).map e.gates.adminEntry, cycleTime := p.cycleTime, base := base }
        let on : Gates := { e.gates with
          unsyncOpen := unsync
          pending := some list
          change := changeInstant base p.cycleTime s.estateNs }
        let off : Gates := { e.gates with
          unsyncOpen := unsync
          oper := none
          pending := none
          entry := 0 }
        s.setEgPort k { e with gates := if p.flags.testBit 0 then on else off }

/-- GATE_STATUS (Table 7-4). -/
def bodyGateStatus (_h : Ocf) (port : Nat) : Body :=
  readBody 0x0805 4 (fun s => firstErr (egressChecks s port)) fun s =>
    let k := (s.egressArg port).getD 0
    let g := (s.egPort k).gates
    let cfg (c : Option GateCfg) : Results := match c with
      | some c => [(1, 1), (2, c.entries.length), (4, c.cycleTime), (8, c.base)]
      | none => [(1, 0), (2, 0), (4, 0), (8, 0)]
    cfg g.oper ++ cfg g.pending ++ [(8, g.change)] ++
    (List.range 8).map (fun tc => (4, ((g.oper.bind (fun c => c.window tc))).getD 0xFFFFFFFF)) ++
    (List.range 8).map (fun tc => (8, (s.egQueue k tc).oversize)) ++ [(8, g.resync)]

/-- EGRESS_COUNTERS_READ (Table 7-4). -/
def bodyEgressCountersRead (_h : Ocf) (port clear : Nat) : Body :=
  { opcode := 0x0806, changes := clear = 1, clearRead := true, lenOk := (· = 4),
    check := fun s => firstErr [((s.egressArg port).isNone, (0x0181, 0)), (clear > 1, (0x0108, 2))]
    apply := fun s =>
      let k := (s.egressArg port).getD 0
      { st := if clear = 1 then forEach (List.range 8) s (fun tc s =>
            s.setEgQueue k tc { s.egQueue k tc with sent := 0, sentBytes := 0, latOver := 0 }) else s
        results := (List.range 8).flatMap (fun tc =>
          let q := s.egQueue k tc
          [(8, q.sent), (8, q.sentBytes), (8, q.latOver)]) } }

/-! ## High-water marks (R361, R362) -/

/-- Where the marks of an ID stand: an egress queue or a (port, priority) pair is named by 8 x port field + TC (DESIGN CHOICE, unsafe: log entry 14).
An ID that names no port of this device stands beyond every queue. -/
def State.markKey (s : State) (scope id : Nat) : Nat :=
  if scope = 1 || scope = 2 then id
  else match s.portArg (id / 8) with
    | some k => 8 * k + id % 8
    | none => 8 * 65536

/-- The marks of an ID of a scope, each with its value and instant in ns. DESIGN CHOICE, unsafe: log entry 25. -/
def State.marks (s : State) (scope id : Nat) : List (Nat × Nat) :=
  let k := s.markKey scope id
  match scope with
  | 0 => [(tgetD s.eg.queues k {}).latLocal, (tgetD s.eg.queues k {}).latFabric]
  | 1 => [tgetD s.eg.voqCells k (0, 0)]
  | 2 => [tgetD s.eg.sharedLow k (s.sharedSize k, 0), tgetD s.eg.ingressHigh k (0, 0)]
  | _ => [tgetD s.eg.headroomHigh k (0, 0)]

/-- The marks of an ID at their clear values. -/
def clearMarks (scope id : Nat) (s : State) : State :=
  let k := s.markKey scope id
  match scope with
  | 0 => { s with eg.queues := (match tget s.eg.queues k with
      | some q => tset s.eg.queues k { q with latLocal := (0, 0), latFabric := (0, 0) }
      | none => s.eg.queues) }
  | 1 => { s with eg.voqCells := tdel s.eg.voqCells k }
  | 2 => { s with eg.sharedLow := tdel s.eg.sharedLow k, eg.ingressHigh := tdel s.eg.ingressHigh k }
  | _ => { s with eg.headroomHigh := tdel s.eg.headroomHigh k }

/-- IDs that a scope has: egress queues and (port, priority) pairs as 8 x port field + TC, VOQs as region x 2^17 + number (DESIGN CHOICE, unsafe: log entry 14). -/
def scopeSize : Nat → Nat
  | 1 => 4 * 131072
  | 2 => 4
  | _ => 8 * 65536

/-- HWM_READ (R362). -/
def bodyHwmRead (_h : Ocf) (p : HwmReadP) : Body :=
  { opcode := 0x0820, changes := p.clear = 1, clearRead := true, lenOk := (· = 8),
    check := fun _ => firstErr
      [ (p.scope > 3, (0x0181, 0)), (p.clear > 1, (0x0108, 1)), (p.id + p.count > scopeSize p.scope, (0x0181, 2)),
        (outside p.count 1 64, (0x0181, 6)) ]
    apply := fun s =>
      let ids := (List.range p.count).map (p.id + ·)
      { st := if p.clear = 1 then forEach ids s (fun id s => clearMarks p.scope id s) else s
        results := ids.flatMap (fun id => (s.marks p.scope id).flatMap (fun m => [(4, m.1), (6, m.2 / 1000000000), (4, m.2 % 1000000000)])) } }

end Sys2Proof.Machine
end

