-- ==== Sys2Proof/Machine/Hbm.lean ====
section
/-! DEFINITION. The HBM controllers: the address map, the budget gate, acceptance and order, the pseudo-channel schedulers, training, scrub and
retirement, and the spill and refill of queues (R291 to R296, R365 to R398). -/

namespace Sys2Proof.Machine

/-! ## The address map (R366, R367) -/

/-- The address of byte RA of region r. -/
def hbmAddr (r ra : Nat) : Nat := r * 2 ^ 35 + ra

/-- Bytes of a region's share. -/
def State.shareBytes (s : State) : Nat := if s.flash.h72 then 18 * 2 ^ 30 else 12 * 2 ^ 30

/-- The pseudo-channel of a region address. -/
def mapPc (r ra : Nat) : Nat :=
  let g := ra / 256
  (g % 64) ^^^ (g / 64 % 64) ^^^ (r * 16)

/-- Bank and row of a region address. -/
def State.bankRow (s : State) (r ra : Nat) : Nat × Nat :=
  let n := if s.flash.h72 then 1179648 else 786432
  let b := if s.flash.h72 then 48 else 32
  let m := (r * n + ra / 256 / 64) / 4
  (m % b, m / b)

/-- A place in the stacks (Table 8-1, R367). -/
structure HbmPlace where
  stack : Nat
  channel : Nat
  pseudoChannel : Nat
  sid : Nat
  bank : Nat
  row : Nat
  column : Nat
  byteInBurst : Nat
  deriving DecidableEq, Repr

/-- The place of the byte at a region address, before any retirement (R367). -/
def State.locate (s : State) (r ra : Nat) : HbmPlace :=
  let p := mapPc r ra
  let line := r * (if s.flash.h72 then 1179648 else 786432) + ra / 256 / 64
  let (b, row) := s.bankRow r ra
  { stack := p / 32, channel := p / 2 % 16, pseudoChannel := p % 2, sid := b / 16, bank := b % 16, row := row,
    column := line % 4 * 8 + ra / 32 % 8, byteInBurst := ra % 32 }

/-- The pseudo-channel that serves a region address; a granule of a retired one is served by a substitute's (R395).
DESIGN CHOICE, safe: log entry 27. -/
def State.pcOf (s : State) (r ra : Nat) : Nat :=
  let p := mapPc r ra
  if s.hbm.retired.contains p then
    (nextTurn 64 (Config.remapStart r (ra / 256)) (fun k => !s.hbm.retired.contains k)).getD p
  else p

/-- Bursts that an access covers, from its first. -/
def burstsOf (addr len : Nat) : List Nat := (List.range (ceilDiv (addr % 32 + len) 32)).map (addr / 32 + ·)

/-- Bursts that an access is charged (R368, R379). -/
def chargeOf (write : Bool) (addr len : Nat) : Nat :=
  let n := (burstsOf addr len).length
  if write && (addr % 32 != 0 || len % 32 != 0) then 2 * n else n

/-! ## Budgets (R377 to R384) -/

/-- Service classes. -/
def clsFR : Nat := 0
def clsFW : Nat := 1
def clsSP : Nat := 2
def clsTM : Nat := 3
def clsTL : Nat := 4

/-- Bursts of each region's FW budget kept for log replay (R382). -/
def replayReserve : Nat := 48

/-- One class's share cut towards its minimum: what is still to be cut, and the share. -/
def cutOne (need share least : Nat) : Nat × Nat :=
  let c := min need (share - least)
  (need - c, share - c)

/-- Shares after the ceiling (R384): SP, TM, TL, FW, FR in this order. -/
def cutShares (shares : List Nat) (ceiling : Nat) : List Nat :=
  let at_ (k : Nat) : Nat := shares.getD k 0
  let need := shares.sum - ceiling
  let (need, sp) := cutOne need (at_ 2) 0
  let (need, tm) := cutOne need (at_ 3) 4
  let (need, tl) := cutOne need (at_ 4) 4
  let (need, fw) := cutOne need (at_ 1) 8
  let (_, fr) := cutOne need (at_ 0) 16
  [fr, fw, sp, tm, tl]

/-- The own budget of a share in period k with q pseudo-channels retired (R378). -/
def ownBudget (share q k : Nat) : Nat :=
  let x := 4 * share * (64 - q)
  x * (k % 5 + 1) / 5 - x * (k % 5) / 5

/-- Requests of a (region, class) at the gate. -/
def State.gateOf (s : State) (r c : Nat) : List HbmReq := s.hbm.gate.filter (fun q => q.region = r && q.cls = c)

/-- What a class may lend now (R380); the reserve of log replay is no part of what FW has to lend (R382). DEDUCED, unsafe: log entry 96. -/
def State.lendable (s : State) (r c : Nat) : Nat :=
  if s.gateOf r c != [] then 0
  else
    let own := tgetD s.hbm.own (5 * r + c) 0 - (if c = clsFW then replayReserve else 0)
    let t := min 1024 (s.time.localNs - s.hbm.periodStart)
    tgetD s.hbm.left (5 * r + c) 0 - ceilDiv (own * (1024 - t)) 1024

/-- The lenders of a class of a region in their order: (region, class) pairs. -/
def lenders (r c : Nat) : List (Nat × Nat) :=
  let order := [clsTL, clsTM, clsSP, clsFW, clsFR]
  (order.filter (· != c)).map (fun d => (r, d)) ++
  [1, 2, 3].flatMap (fun k => order.map (fun d => ((r + k) % 4, d)))

/-- A statistic of a (region, class) changes. -/
def stat (r c : Nat) (f : BudgetStat → BudgetStat) (s : State) : State := { s with hbm.stats := tmod s.hbm.stats (5 * r + c) {} f }

/-- A charge is taken: from the class's own budget, or whole from one lender (R380, R384). DESIGN CHOICE, unsafe: log entry 96. -/
def charge (r c n : Nat) (s : State) : Option State :=
  let k := 5 * r + c
  let done (s : State) : State :=
    stat r c (fun b => { b with charged := b.charged + n }) { s with hbm.charged := tmod s.hbm.charged r 0 (· + n) }
  if tgetD s.hbm.left k 0 ≥ n then some (done { s with hbm.left := tmod s.hbm.left k 0 (· - n) })
  else if tgetD s.hbm.charged r 0 + n > s.hbm.ceiling * 256 * (64 - s.hbm.retired.length) / 320 then none
  else match (lenders r c).find? (fun l => s.lendable l.1 l.2 ≥ n) with
    | none => none
    | some (lr, lc) =>
      some (stat r c (fun b => { b with borrowed := b.borrowed + n }) (stat lr lc (fun b => { b with lent := b.lent + n })
        (done { s with hbm.left := tmod s.hbm.left (5 * lr + lc) 0 (· - n) })))

/-- A charge of log replay: from its reserve, else as any FW charge (R382). DESIGN CHOICE, unsafe: log entry 96. -/
def chargeReplay (r n : Nat) (s : State) : Option State :=
  if tgetD s.hbm.replayLeft r 0 ≥ n then
    some (stat r clsFW (fun b => { b with charged := b.charged + n }) { s with
      hbm.replayLeft := tmod s.hbm.replayLeft r 0 (· - n)
      hbm.charged := tmod s.hbm.charged r 0 (· + n) })
  else charge r clsFW n s

/-- A class has budget for a charge now. -/
def State.hasBudget (s : State) (r c n : Nat) : Bool := (charge r c n s).isSome

/-- The budgets of a new period. -/
def newBudgets (shares : List Nat) (q k : Nat) : Tab Nat :=
  forEach (List.range 20) ([] : Tab Nat) (fun i t => tset t i (ownBudget (shares.getD (i % 5) 0) q k))

/-- A new budget period (R377, R378, R384): written shares, AGE_LIMIT and the ceiling take force; own budget left over is lost. -/
def newPeriod (s : State) : State :=
  let k := s.time.localNs / 1024
  let s := forEach (List.range 20) s (fun i s => if s.gateOf (i / 5) (i % 5) = [] then s
    else stat (i / 5) (i % 5) (fun b => { b with waiting := b.waiting + 1 }) s)
  let was := s.hbm.ceiling
  let own := newBudgets (cutShares s.hbm.nextShares s.power.ceilingC) s.hbm.retired.length k
  let left := forEach regions own (fun r t => tmod t (5 * r + clsFW) 0 (· - replayReserve))
  let s : State := { s with
    hbm.shares := s.hbm.nextShares
    hbm.ageLimit := s.hbm.nextAgeLimit
    hbm.ceiling := s.power.ceilingC
    hbm.period := k
    hbm.periodStart := s.time.localNs
    hbm.own := own
    hbm.left := left
    hbm.replayLeft := forEach regions ([] : Tab Nat) (fun r t => tset t r replayReserve)
    hbm.charged := []
    hbm.statHist := (s.hbm.stats :: s.hbm.statHist).take 1024
    hbm.stats := [] }
  if s.hbm.ceiling != was then raise 268 s else s

/-- The ceiling that Caldera asks for; it takes force at the next period boundary (R384). -/
def setCeiling (c : Nat) (s : State) : State := { s with power.ceilingC := c }

/-! ## Acceptance (R369 to R371) -/

/-- Depth of a class queue. -/
def classDepth (c : Nat) : Nat := if c ≤ 1 then 1024 else if c = 2 then 512 else 256

/-- A class queue has room. -/
def State.classRoom (s : State) (r c : Nat) : Bool := (s.gateOf r c).length < classDepth c

/-- Two accesses touch one granule. -/
def sameGranule (a b : HbmReq) : Bool :=
  a.region = b.region && a.addr / 256 ≤ (b.addr + b.len - 1) / 256 && b.addr / 256 ≤ (a.addr + a.len - 1) / 256

/-- A pseudo-channel's queues. -/
def State.pc (s : State) (p : Nat) : Pc := tgetD s.hbm.pcs p {}
def State.setPc (s : State) (p : Nat) (v : Pc) : State := { s with hbm.pcs := tset s.hbm.pcs p v }

/-- Writes that a read drains: at the gate they pass in its class, and at a pseudo-channel they go first. -/
def drainFor (q : HbmReq) (s : State) : State :=
  let mark (w : HbmReq) : HbmReq := if w.write && sameGranule w q then { w with drained := true } else w
  let gated (w : HbmReq) : HbmReq := if w.write && sameGranule w q then { w with drained := true, cls := q.cls } else w
  { s with
    hbm.gate := s.hbm.gate.map gated
    hbm.pcs := s.hbm.pcs.map (fun e => (e.1, { e.2 with writes := e.2.writes.map mark })) }

/-- A request enters its class queue; its data effect is of this moment, for accesses to one granule take effect in this order (R370).
DESIGN CHOICE, safe: log entry 27. -/
def acceptHbm (q : HbmReq) (data : Bytes) (s : State) : State :=
  let a := hbmAddr q.region q.addr
  let q := { q with
    seq := s.hbm.nextSeq
    accepted := s.time.localNs
    data := if q.write then [] else memRead s.hbm.mem a q.len }
  let s : State := { s with hbm.nextSeq := s.hbm.nextSeq + 1 }
  if q.write then
    let whole := (burstsOf a q.len).filter (fun b => a ≤ 32 * b && 32 * b + 32 ≤ a + q.len)
    { s with
      hbm.gate := s.hbm.gate ++ [q]
      hbm.mem := memWrite s.hbm.mem a data
      hbm.poison := s.hbm.poison.filter (fun b => !whole.contains b) }
  else
    let s := drainFor q s
    { s with hbm.gate := s.hbm.gate ++ [q] }

/-! ## The gate (R380, R381, R383) -/

/-- The order of the classes at a gate. -/
def gateOrder : List Nat := [clsFR, clsFW, clsTL, clsTM, clsSP]

/-- A request can enter the queue of its pseudo-channel (R373). -/
def State.pcRoom (s : State) (q : HbmReq) : Bool :=
  let p := s.pc (s.pcOf q.region q.addr)
  if q.write then p.writes.length < 32
  else
    let flows := (p.reads.filter (fun x => x.cls = clsFR)).length
    if q.cls = clsFR then p.reads.length < 32 && flows < 8 else p.reads.length - flows < 24

/-- A request passes. -/
def passGate (q : HbmReq) (s : State) : State :=
  let p := s.pcOf q.region q.addr
  let v := s.pc p
  let s : State := { s with hbm.gate := s.hbm.gate.filter (fun x => x.seq != q.seq) }
  s.setPc p (if q.write then { v with writes := v.writes ++ [q] } else { v with reads := v.reads ++ [q] })

/-- HBM_GATE_PASS (R381): the first class in order whose oldest request has budget and room. -/
def execHbmGatePass (region : Nat) (s : State) : Host.Outcome State Fault Refusal :=
  let pick := gateOrder.findSome? (fun c =>
    match s.gateOf region c with
    | [] => none
    | q :: _ => if s.pcRoom q then (charge region c q.bursts s).map (fun s => (q, s)) else none)
  .next (match pick with
    | some (q, s) => passGate q s
    | none => s)

/-- A flow read is refused in a region (R383). -/
def countRefusal (r : Nat) (s : State) : State :=
  raiseFirst (264 + r) (stat r clsFR (fun b => { b with refused := b.refused + 1 }) s)

/-! ## A pseudo-channel (R373 to R376, R388) -/

/-- Nothing accepted earlier on the granule stands before a request. -/
def State.clearToIssue (s : State) (p : Pc) (q : HbmReq) : Bool :=
  (s.hbm.gate ++ p.reads ++ p.writes).all (fun x => x.seq ≥ q.seq || !sameGranule x q || (!x.write && !q.write))

/-- A request can be chosen: its order is kept and its bank is free of refresh. -/
def State.issuable (s : State) (p : Pc) (q : HbmReq) : Bool :=
  s.clearToIssue p q && tgetD p.refresh (s.bankRow q.region q.addr).1 0 ≤ s.time.localNs

/-- Its row is open. -/
def State.rowOpen (s : State) (p : Pc) (q : HbmReq) : Bool :=
  let (b, r) := s.bankRow q.region q.addr
  tget p.openRow b = some r

/-- It has waited AGE_LIMIT or longer. -/
def State.aged (s : State) (q : HbmReq) : Bool := s.time.localNs - q.accepted ≥ s.hbm.ageLimit

/-- The drain of R375 begins, or goes on. -/
def State.drainsNow (s : State) (p : Pc) : Bool :=
  if p.draining then p.writes.length > 8
  else p.writes != [] && (p.writes.length ≥ 24 || p.reads = [] || p.writes.any s.aged)

/-- The oldest by acceptance. -/
def oldest (qs : List HbmReq) : Option HbmReq :=
  qs.foldl (fun best q => match best with
    | none => some q
    | some b => if q.seq < b.seq then some q else some b) none

/-- Within a class: an open row first, then age. -/
def State.bestOf (s : State) (p : Pc) (qs : List HbmReq) : Option HbmReq := (oldest (qs.filter (s.rowOpen p))).or (oldest qs)

/-- The request of highest rank (R374): flow writeback, telemetry and logs, table maintenance, spill. -/
def State.byRank (s : State) (p : Pc) (qs : List HbmReq) : Option HbmReq :=
  [clsFW, clsTL, clsTM, clsSP].findSome? (fun c => s.bestOf p (qs.filter (fun q => q.cls = c)))

/-- The aged request or the one of highest rank among those that are no flow reads (R374). -/
def State.agedOrRanked (s : State) (p : Pc) (qs : List HbmReq) : Option HbmReq := (oldest (qs.filter s.aged)).or (s.byRank p qs)

/-- The scheduler's choice (R374, R375): while a drain keeps a flow read waiting, writes alone. DEDUCED, safe: log entry 27. -/
def State.issueChoice (s : State) (p : Pc) : Option HbmReq :=
  let reads := p.reads.filter (s.issuable p)
  let drains := s.drainsNow p
  let ready := p.writes.filter (s.issuable p)
  let writes := ready.filter (fun q => drains && !q.drained)
  let flows := reads.filter (fun q => q.cls = clsFR)
  let others := reads.filter (fun q => q.cls != clsFR) ++ writes
  match oldest (ready.filter (fun q => q.drained)) with
  | some q => some q
  | none =>
    if flows = [] then s.agedOrRanked p others
    else if p.sinceRead < 4 && writes != [] then s.agedOrRanked p writes
    else if p.streak ≥ 16 && others.any s.aged then s.agedOrRanked p others
    else s.bestOf p flows

/-- An access to a bank (R376): its predictor moves, and its row stays open or closes. -/
def accessRow (q : HbmReq) (s : State) (p : Pc) : Pc :=
  let (b, row) := s.bankRow q.region q.addr
  let pred := match tget p.lastRow b with
    | none => tgetD p.pred b 0
    | some r => if r = row then min 3 (tgetD p.pred b 0 + 1) else tgetD p.pred b 0 - 1
  let inBank := (p.reads ++ p.writes).filter (fun x => (s.bankRow x.region x.addr).1 = b)
  let same := inBank.any (fun x => (s.bankRow x.region x.addr).2 = row)
  let other := inBank.any (fun x => (s.bankRow x.region x.addr).2 != row)
  let keep := same || (pred ≥ 2 && !other)
  { p with
    pred := tset p.pred b pred
    lastRow := tset p.lastRow b row
    accessAt := tset p.accessAt b s.time.localNs
    openRow := if keep then tset p.openRow b row else tdel p.openRow b }

/-- PC_ISSUE (R373, R374): at most 2 accesses are issued and incomplete. -/
def execPcIssue (pc : Nat) (s : State) : Host.Outcome State Fault Refusal :=
  let p := s.pc pc
  if p.issued.length ≥ 2 then .next s
  else match s.issueChoice p with
    | none => .next s
    | some q =>
      let drains := s.drainsNow p
      let agedWaits := (p.reads.filter (fun x => x.cls != clsFR) ++ p.writes).any (fun x => x.seq != q.seq && s.aged x)
      let flow := !q.write && q.cls = clsFR
      let p := { p with
        reads := p.reads.filter (fun x => x.seq != q.seq)
        writes := p.writes.filter (fun x => x.seq != q.seq)
        issued := p.issued ++ [q]
        draining := drains
        streak := if flow && agedWaits then p.streak + 1 else 0
        sinceRead := if flow then 0 else if q.write && drains then p.sinceRead + 1 else p.sinceRead }
      .next (s.setPc pc (accessRow q s p))

/-- ROW_IDLE_CLOSE (R376): once the bank has seen no access for 200 ns. -/
def execRowIdleClose (pc bank : Nat) (s : State) : Host.Outcome State Fault Refusal :=
  let p := s.pc pc
  .next (if (tget p.openRow bank).isSome && s.time.localNs ≥ tgetD p.accessAt bank 0 + 200 then
    s.setPc pc { p with openRow := tdel p.openRow bank } else s)

/-- Banks of a pseudo-channel (Table 8-1). -/
def State.bankCount (s : State) : Nat := if s.flash.h72 then 48 else 32

/-- BANK_REFRESH (R388): the bank is unavailable for 160 ns; never all banks at once. -/
def execBankRefresh (pc bank : Nat) (s : State) : Host.Outcome State Fault Refusal :=
  let p := s.pc pc
  let others := (p.refresh.filter (fun e => e.1 != bank && s.time.localNs < e.2)).length
  .next (if others + 1 ≥ s.bankCount then s else s.setPc pc { p with
    refresh := tset p.refresh bank (s.time.localNs + 160)
    openRow := tdel p.openRow bank })

/-- What the ECC of a read finds (R391): a poisoned burst is uncorrectable until it is written whole. -/
def eccRead (pc : Nat) (ecc : EccOutcome) (burst : Nat) (s : State) : EccOutcome × State :=
  let p := s.pc pc
  let ecc := if s.hbm.poison.contains burst then .uncorrectable else ecc
  match ecc with
  | .clean => (ecc, s)
  | .corrected => (ecc, s.setPc pc { p with correctable := inc64 p.correctable })
  | .transient => (ecc, s.setPc pc { p with replays := inc64 p.replays })
  | .uncorrectable =>
    let s := s.setPc pc { p with uncorrectable := inc64 p.uncorrectable }
    (ecc, raiseFirst (258 + pc / 32) { s with
      hbm.poison := if s.hbm.poison.contains burst then s.hbm.poison else burst :: s.hbm.poison })

/-! ## Training, scrub, self-refresh (R389 to R393, R397, R398) -/

def State.stack (s : State) (k : Nat) : StackState := s.hbm.stackStates.getD k .off
def setStack (k : Nat) (v : StackState) (s : State) : State := { s with hbm.stackStates := s.hbm.stackStates.mapIdx (fun i x => if i = k then v else x) }

/-- The bytes of the bucket, table and log areas that lie on a stack read 0 (R389). DEDUCED, unsafe: log entry 30. -/
def zeroStack (k : Nat) (s : State) : State :=
  { s with hbm.mem := s.hbm.mem.filter (fun c => mapPc (c.1 / 2 ^ 35) (c.1 % 2 ^ 35) / 32 != k) }

/-- HBM_TRAINING_COMPLETE (R389, R390). -/
def execHbmTrainingComplete (stack : Nat) (ok : Bool) (s : State) : Host.Outcome State Fault Refusal :=
  if s.stack stack != .training then .next s
  else if ok then .next (setStack stack .ready (zeroStack stack s))
  else
    let n := tgetD s.hbm.attempts stack 0 + 1
    let s : State := { s with hbm.attempts := tset s.hbm.attempts stack n }
    .next (if n ≥ 3 then raise (256 + stack) (setStack stack .failed s) else s)

/-- Every accepted request has completed. -/
def State.hbmIdle (s : State) : Bool :=
  s.hbm.gate = [] && (tvals s.hbm.pcs).all (fun p => p.reads = [] && p.writes = [] && p.issued = [])

/-- Deep Lake's contents are abandoned (R399). -/
def abandonLake (s : State) : State := { s with hbm.mem := s.hbm.mem.filter (fun c => c.1 % 2 ^ 35 ≥ 2 ^ 32) }

/-- HBM_WAKE_READY (R398, R399). -/
def execHbmWakeReady (stack : Nat) (restored trained : Bool) (s : State) : Host.Outcome State Fault Refusal :=
  if !s.hbm.selfRefresh.testBit stack || !s.power.waking then .next s
  else
    let s : State := { s with hbm.selfRefresh := setBit s.hbm.selfRefresh stack false }
    .next (if restored || trained then setStack stack .ready s
      else abandonLake (raise (256 + stack) (setStack stack .failed s)))

/-- HBM_SCRUB_VISIT (R393): one burst is read in the TM class and R391 applies to it. -/
def execHbmScrubVisit (region addr : Nat) (ecc : EccOutcome) (s : State) : Host.Outcome State Fault Refusal :=
  if !s.hbmReady || addr ≥ s.shareBytes then .next s
  else .next (match charge region clsTM 1 s with
    | none => s
    | some s => (eccRead (s.pcOf region addr) ecc (hbmAddr region addr / 32) s).2)

/-! ## Spill (R291 to R296) -/

/-- Pages that a region may use: its spill area less the remap areas (R395). DESIGN CHOICE, unsafe: log entry 96. -/
def State.pageLimit (s : State) : Nat :=
  let q := s.hbm.retired.length + (if s.hbm.retiring.isSome then 1 else 0)
  if s.flash.h72 then 3145728 - 73728 * q else 1572864 - 49152 * q

/-- Pages in use by a region. -/
def State.pageUse (s : State) (r : Nat) : List Nat := (s.buf.pages.filter (fun g => g / 2 ^ 22 = r)).map (· % 2 ^ 22)

/-- The lowest free page of a region below a limit: the pages in use never fill the first of their number + 1. -/
def State.freePage (s : State) (r limit : Nat) : Option Nat :=
  let used := s.pageUse r
  ((List.range (used.length + 1)).find? (fun k => !used.contains k)).filter (fun k => k < limit)

/-- A queue wants its oldest page, and has room for it (R293). -/
def State.wantsRefill (s : State) (k : Nat) : Bool :=
  let q := s.voq k
  q.spill && q.pages != [] && q.head < (s.voqProfile k).headKeep && s.sharedFree (voqRegion k) ≥ 16

/-- Some queue of a region can be refilled, so that no page is spilled first (R293). -/
def State.refillWaits (s : State) (r : Nat) : Bool := (tkeys s.buf.voqs).any (fun k => voqRegion k = r && s.wantsRefill k)

/-- A spill page's region address (Table 8-2). -/
def pageAddr (g : Nat) : Nat := 0x180000000 + 4096 * g

/-- A frame's cells as they are stored: its bytes and FCS, and zeros to the end of its last cell. -/
def QFrame.stored (f : QFrame) : Bytes := fit (256 * f.cells) (f.data ++ frameCheck f.data)

/-- The bytes of 16 cells of a queue from a place. -/
def pageBytes (lo : Nat) (fs : List QFrame) : Bytes := fit 4096 ((fs.flatMap QFrame.stored).drop (256 * lo))

/-- The frames of a queue, with the bytes of some cells as they were read back: from the place `lo`, for the frames from the place `a`. -/
def refit (lo : Nat) (bs : Bytes) : Nat → List QFrame → List QFrame
  | _, [] => []
  | a, f :: fs =>
    let at_ := max a lo
    let part := (bs.drop (256 * (at_ - lo))).take (256 * (a + f.cells - at_))
    { f with data := (patch f.stored (256 * (at_ - a)) part).take f.data.length } :: refit lo bs (a + f.cells) fs

/-- SPILL_PAGE_WRITE (R293, R296): the oldest 16 cells of the tail are written to a new page. DESIGN CHOICE, unsafe: log entry 28. -/
def execSpillPageWrite (region voq : Nat) (s : State) : Host.Outcome State Fault Refusal :=
  let k := voqKey region voq
  let s := enterSpill k s
  let q := s.voq k
  if !q.spill || q.tail < 16 || q.pages.length ≥ min (s.voqProfile k).spillMax s.pageLimit || !s.hbmReady || s.refillWaits region then .next s
  else match s.freePage region s.pageLimit with
    | none => .next s
    | some g =>
      match charge region clsSP 128 s with
      | none => .next s
      | some s =>
        let lo := cellSum q.frames - q.tail
        let s : State := { s with
          hbm.mem := memWrite s.hbm.mem (hbmAddr region (pageAddr g)) (pageBytes lo q.frames)
          hbm.poison := s.hbm.poison.filter (fun b => b / 128 != hbmAddr region (pageAddr g) / 4096) }
        let s := forEach (placed lo (lo + 16) q.frames) s (fun e s => moveOff k e.1 e.2 s)
        let q := s.voq k
        let s : State := { s.setVoq k { q with pages := q.pages ++ [(g, 16)] } with buf.pages := (region * 2 ^ 22 + g) :: s.buf.pages }
        let n := (s.pageUse region).length
        .next (if n * 10 > s.pageLimit * 9 && (n - 1) * 10 ≤ s.pageLimit * 9 then raise (200 + region) s else s)

/-- Cells taken off the pages of a middle, from the oldest: those of a lost frame in later pages (R295). -/
def dropLive : Nat → List (Nat × Nat) → List (Nat × Nat)
  | _, [] => []
  | n, (g, k) :: gs => (g, k - n) :: dropLive (n - k) gs

/-- An uncorrectable refill (R295) of the page that was the oldest: every frame with one of its `n` cells, which follow the head, is discarded whole
and counted; the order of the rest is kept. A lost frame's cells on die, its headroom and its share in a multicast frame are released, and its
cells in later pages are no longer anyone's. -/
def loseFrames (k n : Nat) (s : State) : State :=
  let q := s.voq k
  let inPage := overlap q.head (q.head + n)
  let later := overlap (q.head + n) (q.head + n + q.middle)
  let bad := (starts 0 q.frames).filter (fun e => inPage e != 0)
  let s := s.setVoq k { q with
    frames := ((starts 0 q.frames).filter (fun e => inPage e = 0)).map Prod.snd
    head := q.head - (bad.map (overlap 0 q.head)).sum
    pages := dropLive (bad.map later).sum q.pages
    eccDiscard := add64 q.eccDiscard bad.length }
  forEach bad s (fun e s => releasePart k e.2 (e.2.cells - inPage e - later e) s)

/-- What the ECC finds in a page's 128 bursts: the operand's outcome for the first of them, and any poison (R391). -/
def pageEcc (region g : Nat) (ecc : EccOutcome) (s : State) : EccOutcome × State :=
  let first := hbmAddr region (pageAddr g) / 32
  let burst := (((List.range 128).map (first + ·)).find? s.hbm.poison.contains).getD first
  eccRead (s.pcOf region (pageAddr g + 32 * (burst - first))) ecc burst s

/-- SPILL_PAGE_REFILL (R293, R295): the oldest page joins the head with what its bytes read; the queue leaves spill state with its last page.
DESIGN CHOICE, unsafe: log entry 28. -/
def execSpillPageRefill (region voq : Nat) (ecc : EccOutcome) (s : State) : Host.Outcome State Fault Refusal :=
  let k := voqKey region voq
  if !s.wantsRefill k || !s.hbmReady then .next s
  else match charge region clsSP 128 s with
    | none => .next s
    | some s =>
      let q := s.voq k
      match q.pages with
      | [] => .next s
      | (g, n) :: gs =>
        let (ecc, s) := pageEcc region g ecc s
        let s : State := { s.setVoq k { q with pages := gs } with buf.pages := s.buf.pages.erase (region * 2 ^ 22 + g) }
        let s :=
          if ecc = .uncorrectable then loseFrames k n s
          else
            let bytes := (memRead s.hbm.mem (hbmAddr region (pageAddr g)) 4096).drop (256 * (16 - n))
            let s := forEach (placed q.head (q.head + n) q.frames) s (fun e s => moveOn k e.1 e.2 s)
            s.setVoq k { s.voq k with head := q.head + n, frames := refit q.head bytes 0 q.frames }
        let q := s.voq k
        .next (if q.pages = [] then s.setVoq k { q with spill := false, head := 0 } else s)

/-! ## Retirement (R394 to R396) -/

/-- A retirement begins. -/
def beginRetire (p : Nat) (id : Option Nat) (s : State) : State := { s with hbm.retiring := some (p, id) }

/-- A page of the remap area moves to a free page below it, in its queue's place. DESIGN CHOICE, unsafe: log entry 29. -/
def movePages (limit : Nat) : List Nat → State → Option State
  | [], s => some s
  | g :: gs, s =>
    if g % 2 ^ 22 < limit then movePages limit gs s
    else match s.freePage (g / 2 ^ 22) limit with
      | none => none
      | some n =>
        let swap (r : Nat) (x : Nat) : Nat := if r = g / 2 ^ 22 && x = g % 2 ^ 22 then n else x
        movePages limit gs { s with
          buf.pages := (g / 2 ^ 22 * 2 ^ 22 + n) :: s.buf.pages.erase g
          hbm.mem := memWrite s.hbm.mem (hbmAddr (g / 2 ^ 22) (pageAddr n))
            (memRead s.hbm.mem (hbmAddr (g / 2 ^ 22) (pageAddr (g % 2 ^ 22))) 4096)
          buf.voqs := s.buf.voqs.map (fun e => (e.1, { e.2 with pages := e.2.pages.map (fun p => (swap (voqRegion e.1) p.1, p.2)) })) }

/-- A cell joins the retirement record (R615); a failed flash write raises source 719. -/
def recordRetired (kind index : Nat) (flashOk : Bool) (s : State) : State :=
  let s : State := { s with boot.retired := (kind, index) :: s.boot.retired }
  if flashOk then { s with flash.retired := (kind, index) :: s.flash.retired } else raise 719 s

/-- Granules of a region that a retirement has still to move: those of the pseudo-channel outside the area that it withdraws.
DESIGN CHOICE, unsafe: log entry 29. -/
def State.granulesLeft (s : State) (r : Nat) : Nat := (if s.flash.h72 then 1161216 else 774144) - tgetD s.hbm.moved r 0

/-- Steps 1 and 2 of R395: once every page of the remap areas has found another, granules move as far as each region's own TM budget goes, with 16
bursts for the read and the write of one. DESIGN CHOICE, unsafe: log entry 29. -/
def moveGranules (s : State) : State :=
  match s.hbm.retiring with
  | none => s
  | some _ =>
    match movePages s.pageLimit s.buf.pages s with
    | none => s
    | some s => forEach regions s (fun r s =>
      let n := min (s.granulesLeft r) (tgetD s.hbm.left (5 * r + clsTM) 0 / 16)
      match charge r clsTM (16 * n) s with
      | none => s
      | some s => { s with hbm.moved := tmod s.hbm.moved r 0 (· + n) })

/-- RETIRE_REMAP_DRAINED (R395): the remap areas are empty and the granules have moved, so the pseudo-channel powers down. -/
def retireDone (flashOk : Bool) (s : State) : Option (Option Nat × State) :=
  match s.hbm.retiring with
  | none => none
  | some (p, id) =>
    if regions.any (fun r => s.granulesLeft r != 0) then none
    else
      let s := raise (260 + p / 32) { recordRetired 2 p flashOk s with
        hbm.retired := p :: s.hbm.retired
        hbm.retiring := none
        hbm.moved := [] }
      some (id, match s.hbm.retireWait with
        | [] => s
        | w :: ws => beginRetire w none { s with hbm.retireWait := ws })

/-! ## Commands (Table 8-7) -/

/-- HBM_BUDGET_WRITE (Table 8-8, R377). -/
def bodyHbmBudgetWrite (_h : Ocf) (p : HbmBudgetWriteP) : Body :=
  let fr := orDefault p.fr 96
  let fw := orDefault p.fw 40
  let tm := orDefault p.tm 16
  let tl := orDefault p.tl 8
  let age := orDefault p.ageLimit 512
  writeBody 0x0780 8
    (fun _ => firstErr
      [ (fr < 16, (0x0173, 0)), (fw < 8, (0x0173, 1)), (tm < 4, (0x0173, 3)), (tl < 4, (0x0173, 4)),
        (fr + fw + p.sp + tm + tl > 232, (0x0173, 0xFFFF)), (outside age 128 4096, (0x0173, 6)) ])
    fun s => { s with
      hbm.nextShares := [fr, fw, p.sp, tm, tl]
      hbm.nextAgeLimit := age }

/-- The sum of a statistic over the last 1,024 periods. DESIGN CHOICE, safe: log entry 27. -/
def State.statSum (s : State) (k : Nat) (f : BudgetStat → Nat) : Nat := (s.hbm.statHist.map (fun t => f (tgetD t k {}))).sum

/-- HBM_BUDGET_READ. -/
def bodyHbmBudgetRead (_h : Ocf) : Body :=
  readBody 0x0781 0 (fun _ => none) fun s =>
    s.hbm.shares.map (fun n => (1, n)) ++ (cutShares s.hbm.shares s.hbm.ceiling).map (fun n => (1, n)) ++
    (List.range 20).flatMap (fun k =>
      [(8, s.statSum k BudgetStat.charged), (8, s.statSum k BudgetStat.borrowed), (8, s.statSum k BudgetStat.lent),
       (8, s.statSum k BudgetStat.waiting)]) ++
    regions.map (fun r => (8, s.statSum (5 * r) BudgetStat.refused))

/-- The code of a stack's state: 0 off, 1 training, 2 ready, 3 failed. -/
def StackState.code : StackState → Nat
  | .off => 0 | .training => 1 | .ready => 2 | .failed => 3

/-- Ports leaked in a region. -/
def State.leakedIn (s : State) (r : Nat) : Nat := ((s.flow.rings.filter (fun e => e.1 % 4 = r)).map (fun e => e.2.leaked)).sum

/-- HBM_STATUS. -/
def bodyHbmStatus (_h : Ocf) : Body :=
  readBody 0x0782 0 (fun _ => none) fun s =>
    let temp (k : Nat) : Int := s.power.hbmTemp.getD k 0
    [0, 1].flatMap (fun k => [(1, (s.stack k).code), (2, twos 16 (temp k)), (1, if temp k > 85 then 2 else 1)]) ++
    [(1, s.hbm.retired.length)] ++ s.hbm.retired.map (fun p => (1, p)) ++
    [(4, (if s.flash.h72 then 73728 else 49152) * s.hbm.retired.length), (4, s.pageLimit)] ++
    (List.range 64).flatMap (fun p => [(8, (s.pc p).correctable), (8, (s.pc p).replays), (8, (s.pc p).uncorrectable)]) ++
    regions.flatMap (fun r => [(8, (tgetD s.flow.regions r {}).recLost), (8, s.leakedIn r)])

/-- HBM_SCRUB_CONFIG (R393). -/
def bodyHbmScrubConfig (_h : Ocf) (scrubPeriod : Nat) : Body :=
  let h := orDefault scrubPeriod 24
  writeBody 0x0783 4
    (fun s => firstErr [(outside h 1 168, (0x0173, 0)), (!s.hbmReady, (0x0473, 0xFFFF))])
    fun s => { s with hbm.scrubPeriod := h }

/-- HBM_PC_RETIRE (R394): it completes when the retirement does; one that names a retired pseudo-channel has nothing to do. DESIGN CHOICE, safe: log
entry 29. -/
def bodyHbmPcRetire (_h : Ocf) (pc : Nat) : Body :=
  { opcode := 0x0784, changes := true, pending := true, lenOk := (· = 4),
    check := fun s => firstErr
      [ (pc > 63, (0x0173, 0)), (!s.hbmReady, (0x0473, 0xFFFF)), (s.hbm.retiring.isSome, (0x0474, 0xFFFF)),
        (s.hbm.retired.length ≥ 8, (0x0373, 0xFFFF)) ]
    apply := fun s =>
      if s.hbm.retired.contains pc then { st := s }
      else { st := beginRetire pc (some s.ocf.nextPend) s, later := true } }

end Sys2Proof.Machine
end

