-- ==== Sys2Proof/Machine/FlowStore.lean ====
section
/-! DEFINITION. The stores of flow state (R101 to R163): records as bytes, keys and their places, Deep Lake buckets with the write-back buffer
over them, the overflow store, Tarn, Sinter and its log. -/

namespace Sys2Proof.Machine

/-! ## Records as bytes (Tables 3-3 and 3-4) -/

/-- A number built from fields, most significant first: each field's width and value. -/
def packFields (fs : List (Nat × Nat)) : Nat := fs.foldl (fun n f => n * 2 ^ f.1 + f.2 % 2 ^ f.1) 0

/-- The 64 header bits of a valid record. -/
def Rec.header (x : Rec) : Nat :=
  packFields
    [ (1, 1), (1, bit x.wide), (1, bit x.comp), (1, bit x.static), (6, x.partition), (8, x.template), (16, x.zone), (4, x.keyType),
      (4, x.ageClass), (4, x.ctState), (1, bit x.orient), (1, bit x.replySeen), (2, x.expState), (1, bit x.tarnOnly), (13, x.gen) ]

/-- The bits that follow SERVICE: activity and auxiliary fields, or a companion's primary key (R117). -/
def Rec.tail (x : Rec) : List (Nat × Nat) :=
  if x.comp then (if x.wide then [(384, x.pkey)] else [(128, x.pkey), (128, 0)])
  else
    [ (32, x.first), (32, x.last), (48, x.pkts), (64, x.bytes), (8, x.tcpFlags), (8, 0), (16, x.ctAux), (32, x.templateData), (16, 0) ] ++
    (if x.wide then [(48, x.rpkts), (64, x.rbytes), (16, 0)] else [])

/-- Bytes of a record. -/
def recLen (wide : Bool) : Nat := if wide then 128 else 64

/-- A record as the bytes of its slot. -/
def Rec.encode (x : Rec) : Bytes :=
  let key := if x.wide then [(384, x.key), (192, x.service)] else [(128, x.key), (64, x.service)]
  beBytes (recLen x.wide) (packFields ((64, x.header) :: key ++ x.tail))

/-- The record that the bytes of a slot hold; none when VALID is 0. -/
def decodeRec (bs : Bytes) : Option Rec :=
  let wide := bs.length = 128
  let n := beNat bs
  let h := n >>> (if wide then 960 else 448)
  let bodyLo (hi lo : Nat) : Nat := field hi lo n
  let t := if wide then bodyLo 383 128 else bodyLo 255 0
  let comp := h.testBit 61
  if !h.testBit 63 then none
  else some
    { wide := wide
      comp := comp
      static := h.testBit 60
      partition := field 59 54 h
      template := field 53 46 h
      zone := field 45 30 h
      keyType := field 29 26 h
      ageClass := field 25 22 h
      ctState := field 21 18 h
      orient := h.testBit 17
      replySeen := h.testBit 16
      expState := field 15 14 h
      tarnOnly := h.testBit 13
      gen := field 12 0 h
      key := if wide then bodyLo 959 576 else bodyLo 447 320
      service := if wide then bodyLo 575 384 else bodyLo 319 256
      first := if comp then 0 else field 255 224 t
      last := if comp then 0 else field 223 192 t
      pkts := if comp then 0 else field 191 144 t
      bytes := if comp then 0 else field 143 80 t
      tcpFlags := if comp then 0 else field 79 72 t
      ctAux := if comp then 0 else field 63 48 t
      templateData := if comp then 0 else field 47 16 t
      rpkts := if comp || !wide then 0 else bodyLo 127 80
      rbytes := if comp || !wide then 0 else bodyLo 79 16
      pkey := if !comp then 0 else if wide then bodyLo 383 0 else field 255 128 t }

/-- The 64 bits of SERVICE that Table 4-7 lays out (R194). -/
def Rec.svc (x : Rec) : Nat := if x.wide then x.service / 2 ^ 128 else x.service

/-- SERVICE from its 64 bits. -/
def serviceOf64 (wide : Bool) (v : Nat) : Nat := if wide then v * 2 ^ 128 else v

def Rec.backend (x : Rec) : Nat := field 63 46 x.svc
def Rec.natPool (x : Rec) : Nat := field 45 40 x.svc
def Rec.natAddr (x : Rec) : Nat := field 39 28 x.svc
def Rec.natPort (x : Rec) : Nat := field 27 12 x.svc
def Rec.kind (x : Rec) : Nat := if x.comp then 0 else field 11 10 x.svc
def Rec.alloc (x : Rec) : Bool := !x.comp && x.svc.testBit 9

/-- Zone and key type of a companion's primary (R117). -/
def Rec.primaryZone (x : Rec) : Nat := field 63 48 x.svc
def Rec.primaryType (x : Rec) : Nat := field 47 44 x.svc

/-- A record with its activity fields taken from another (R101). -/
def Rec.withActivity (x y : Rec) : Rec :=
  { x with first := y.first, last := y.last, pkts := y.pkts, bytes := y.bytes, tcpFlags := y.tcpFlags, rpkts := y.rpkts, rbytes := y.rbytes }

/-- A change of a state field increments GEN (R115). DESIGN CHOICE, unsafe: log entry 69. -/
def Rec.bump (x : Rec) : Rec := { x with gen := wrap 13 (x.gen + 1) }

/-! ## Flow time (R102) -/

/-- Flow time of an estate time in 1/16 ns. -/
def flowTime (t : Nat) : Nat := wrap 32 (t / 16 / 65536)

/-- The later of two flow times. -/
def laterOf (a b : Nat) : Nat := if wrap 32 (b + 2 ^ 32 - a) < 2 ^ 31 then b else a

/-! ## Keys and places (R109 to R114) -/

/-- A key type of the wide partitions. -/
def wideType (kt : Nat) : Bool := 8 ≤ kt && kt ≤ 10

/-- A key type is valid for a partition's width (R109). -/
def validType (wide : Bool) (kt : Nat) : Bool := if wide then wideType kt else kt ≤ 3

/-- A flow key: zone, key type and key. -/
structure FlowKey where
  zone : Nat
  kt : Nat
  key : Nat
  deriving DecidableEq, Repr

/-- The hash input (R111). -/
def FlowKey.input (k : FlowKey) : Bytes :=
  beBytes 2 k.zone ++ beBytes 1 k.kt ++ beBytes (if wideType k.kt then 48 else 16) k.key

/-- The key of a record, and that of a request. -/
def Rec.flowKey (x : Rec) : FlowKey := ⟨x.zone, x.keyType, x.key⟩
def reqKey (q : FlowReq) : FlowKey := ⟨q.zone, q.keyType, q.key⟩

/-- The primary's key that a companion holds. -/
def Rec.primaryKey (x : Rec) : FlowKey := ⟨x.primaryZone, x.primaryType, x.pkey⟩

/-- Hashes, home region, offsets, buckets and Tarn set of a key in a partition (R113). -/
structure Place where
  hA : Nat
  hB : Nat
  home : Nat
  oA : Nat
  oB : Nat
  bktA : Nat
  bktB : Nat
  set : Nat
  deriving DecidableEq, Repr

/-- The place of a key. -/
def Partition.place (p : Partition) (k : FlowKey) : Place :=
  let a := hashA p.seedA k.input
  let b := hashB p.seedB k.input
  let n := 2 ^ p.nbrLog2
  let oA := a % n
  let oB := if b % n = oA then oA ^^^ 1 else b % n
  { hA := a, hB := b, home := a / 2 ^ 30, oA := oA, oB := oB, bktA := p.base + oA, bktB := p.base + oB,
    set := field 29 16 a ^^^ field 13 0 b }

/-- The locks of an operation: partition x 2^24 + offset (R114). -/
def Partition.locks (p : Partition) (pn : Nat) (x : Place) : List Nat :=
  if p.anchored then [pn * 2 ^ 24 + x.oA, pn * 2 ^ 24 + x.oB] else [pn * 2 ^ 24 + x.oA]

def State.partition (s : State) (pn : Nat) : Option Partition := tget s.flow.partitions pn
def State.region (s : State) (r : Nat) : FlowRegion := tgetD s.flow.regions r {}
def State.setRegion (s : State) (r : Nat) (v : FlowRegion) : State := { s with flow.regions := tset s.flow.regions r v }
def State.template (s : State) (t : Nat) : Option TemplateP := tget s.flow.templates t

/-- A record matches a key (R121). -/
def Rec.hasKey (x : Rec) (pn : Nat) (k : FlowKey) : Bool := x.partition = pn && x.flowKey = k

/-! ## Locators (Table 3-5) -/

def locLake (bucket slot : Nat) : Nat := bucket * 4 + slot
def locOvf (i : Nat) : Nat := 2 * 2 ^ 30 + i
def locTarn (set way : Nat) : Nat := 3 * 2 ^ 30 + set * 16 + way
def locSpace (l : Nat) : Nat := l / 2 ^ 30
def locPos (l : Nat) : Nat := l % 2 ^ 30
def locBucket (l : Nat) : Nat := l % 2 ^ 30 / 4

/-- The bucket group of a Deep Lake locator (R113). -/
def locGroup (l : Nat) : Nat := locBucket l / 256

/-! ## Deep Lake slots, with the write-back buffer over them (R120, R133, R134) -/

/-- Address of a slot. -/
def slotAddr (r loc : Nat) : Nat := hbmAddr r (locPos loc * 64)

/-- What the memory holds in a slot. -/
def State.lakeMem (s : State) (r loc : Nat) (wide : Bool) : Option Rec := decodeRec (memRead s.hbm.mem (slotAddr r loc) (recLen wide))

/-- What a buffered write leaves of the slot that it is for. -/
def WbItem.over (w : WbItem) (m : Option Rec) : Option Rec :=
  if w.gone then none else if w.whole then some w.img else m.map (fun x => w.img.withActivity x)

/-- The record of a slot as an operation reads it: the buffered images lie over the memory (R134). -/
def State.lakeRec (s : State) (r loc : Nat) (wide : Bool) : Option Rec :=
  forEach ((s.region r).wb.filter (fun w => w.locator = loc)) (s.lakeMem r loc wide) WbItem.over

/-- Records of a slot written to memory. -/
def State.putLake (s : State) (r loc : Nat) (x : Rec) : State := { s with hbm.mem := memWrite s.hbm.mem (slotAddr r loc) x.encode }

/-- A slot is invalidated. Where the write-back buffer holds a record for it, the write that waits becomes that of an invalid slot, so that nothing
leaves the buffer before its write is accepted (R134). DESIGN CHOICE, unsafe: log entry 69. -/
def freeLake (r loc : Nat) (wide : Bool) (s : State) : State :=
  let v := s.region r
  if v.wb.any (fun w => w.locator = loc) then
    s.setRegion r { v with wb := v.wb.map (fun w => if w.locator = loc then { w with gone := true } else w) }
  else { s with hbm.mem := memZero s.hbm.mem (slotAddr r loc) (recLen wide) }

/-- Slots of a bucket. -/
def slotsOf (wide : Bool) : List Nat := if wide then [0, 2] else [0, 1, 2, 3]

/-- The valid records of a bucket with their locators. -/
def State.bucketRecs (s : State) (r b : Nat) (wide : Bool) : List (Nat × Rec) :=
  (slotsOf wide).filterMap (fun k => (s.lakeRec r (locLake b k) wide).map (fun x => (locLake b k, x)))

/-- The first invalid slot of a bucket. -/
def State.freeSlot (s : State) (r b : Nat) (wide : Bool) : Option Nat :=
  ((slotsOf wide).map (locLake b)).find? (fun l => (s.lakeRec r l wide).isNone)

/-- The record of a key in a bucket. -/
def State.inBucket (s : State) (r b pn : Nat) (wide : Bool) (k : FlowKey) : Option (Nat × Rec) :=
  (s.bucketRecs r b wide).find? (fun e => e.2.hasKey pn k)

/-! ## The overflow store (R123 to R125, R160) -/

/-- Entries of a record. -/
def entriesOf (wide : Bool) : Nat := if wide then 2 else 1

/-- An index is in use. -/
def ovfUsed (t : Tab Rec) (i : Nat) : Bool := (tget t i).isSome || (i % 2 = 1 && ((tget t (i - 1)).map Rec.wide).getD false)

/-- Blocks of 256 entries that are stashes in a region. -/
def State.stashes (s : State) (r : Nat) : List Nat := (tvals s.flow.partitions).filterMap (fun p => p.stash[r]?)

/-- The lowest free place for a record among the indexes named. -/
def freeOvf (t : Tab Rec) (wide : Bool) (is : List Nat) : Option Nat :=
  is.find? (fun i => !ovfUsed t i && (!wide || (i % 2 = 0 && !ovfUsed t (i + 1))))

/-- Entries of a partition in a region's overflow store outside stashes and in them. -/
def FlowRegion.ovfCount (v : FlowRegion) (pn : Nat) : Nat :=
  ((v.ovf.filter (fun e => e.2.partition = pn)).map (fun e => entriesOf e.2.wide)).sum

/-- Entries in use. -/
def FlowRegion.ovfUse (v : FlowRegion) : Nat := (v.ovf.map (fun e => entriesOf e.2.wide)).sum

/-- Entries in use of a stash. -/
def FlowRegion.stashUse (v : FlowRegion) (base : Nat) : Nat :=
  ((v.ovf.filter (fun e => e.1 / 256 = base / 256)).map (fun e => entriesOf e.2.wide)).sum

/-- A record is placed at an index; 90% occupancy raises source 164 + r (R160). -/
def putOvf (r i : Nat) (x : Rec) (s : State) : State :=
  let v := s.region r
  let w := { v with ovf := tset v.ovf i x }
  let above (used size : Nat) : Bool := used * 10 > size * 9
  let block := i / 256 * 256
  let inStash := (s.stashes r).contains block
  let passes := (above w.ovfUse 32768 && !above v.ovfUse 32768) || (inStash && above (w.stashUse block) 256 && !above (v.stashUse block) 256)
  let s := s.setRegion r w
  if passes then raise (164 + r) s else s

/-- The place in the overflow store for a new record of a bucketed partition (R123, R124). -/
def State.ovfPlace (s : State) (r pn : Nat) (p : Partition) : Option Nat :=
  let v := s.region r
  if v.ovfCount pn + entriesOf p.wide > p.ovfQuota then none
  else
    let stash := s.stashes r
    freeOvf v.ovf p.wide ((List.range 32768).filter (fun i => !stash.contains (i / 256 * 256)))

/-- The place in a stash (R124, R125). -/
def State.stashPlace (s : State) (r : Nat) (p : Partition) : Option Nat :=
  p.stash[r]?.bind (fun b => freeOvf (s.region r).ovf p.wide ((List.range 256).map (b + ·)))

/-- The record of a key in the overflow store. -/
def State.inOvf (s : State) (r pn : Nat) (k : FlowKey) : Option (Nat × Rec) :=
  ((s.region r).ovf.find? (fun e => e.2.hasKey pn k)).map (fun e => (e.1, e.2))

/-- The locator at which a new record is placed (R123, R125). -/
def State.placeNew (s : State) (r pn : Nat) (p : Partition) (x : Place) : Option Nat :=
  match s.freeSlot r x.bktA p.wide with
  | some l => some l
  | none =>
    if p.anchored then
      match s.freeSlot r x.bktB p.wide with
      | some l => some l
      | none => (s.stashPlace r p).map locOvf
    else (s.ovfPlace r pn p).map locOvf

/-! ## Tarn (R130 to R136) -/

/-- A way or pair is free of records. -/
def TarnSet.free (t : TarnSet) (w : Nat) : Bool := (tget t.ways w).isNone && !(w % 2 = 1 && ((tget t.ways (w - 1)).map (fun x => x.img.wide)).getD false)

/-- The keys of the records that lie in a way, or in a pair. -/
def TarnSet.overlap (t : TarnSet) (wide : Bool) (w : Nat) : List Nat :=
  if wide then [w, w + 1].filter (fun k => (tget t.ways k).isSome)
  else if (tget t.ways w).isSome then [w] else if w % 2 = 1 && !t.free w then [w - 1] else []

/-- The records named satisfy a condition. -/
def TarnSet.allAt (t : TarnSet) (ks : List Nat) (f : TarnWay → Bool) : Bool := ks.all (fun k => ((tget t.ways k).map f).getD true)

/-- The tree pseudo-LRU choice among the leaves that qualify: node n has children 2n + 1 and 2n + 2, and a bit of 1 names the right half as
the older. PRESUMED, unsafe: log entry 68. -/
def plruPick (plru : Nat) (ok : Nat → Bool) : Nat → Nat → Nat → Nat
  | 0, _, lo => lo
  | d + 1, node, lo =>
    let half := 2 ^ d
    let left := (List.range half).any (fun k => ok (lo + k))
    let right := (List.range half).any (fun k => ok (lo + half + k))
    if (if plru.testBit node then right else !left) then plruPick plru ok d (2 * node + 2) (lo + half)
    else plruPick plru ok d (2 * node + 1) lo

/-- The tree after a use of a way: every node on its path names the other half. PRESUMED, unsafe: log entry 68. -/
def plruTouch : Nat → Nat → Nat → Nat → Nat
  | 0, _, _, plru => plru
  | d + 1, node, way, plru =>
    if way / 2 ^ d % 2 = 1 then plruTouch d (2 * node + 2) way (setBit plru node false)
    else plruTouch d (2 * node + 1) way (setBit plru node true)

/-- The retired ways of a region's slice (R616). -/
def State.deadWays (s : State) (r : Nat) : List Nat :=
  (s.boot.retired.filter (fun c => c.1 = 3 && c.2 / 16 = r)).map (fun c => c.2 % 16)

/-- The victim for a record, by the order of R131, among the ways that are not retired; `room` is what the write-back buffer can still take. -/
def TarnSet.victim (t : TarnSet) (wide : Bool) (dead : List Nat) (room : Nat) : Option Nat :=
  let units := if wide then [0, 2, 4, 6, 8, 10, 12, 14].filter (fun w => !dead.contains w && !dead.contains (w + 1))
    else (List.range 16).filter (fun w => !dead.contains w)
  let unpinned (w : Nat) : Bool := t.allAt (t.overlap wide w) (fun x => !x.pin)
  let clean (w : Nat) : Bool := unpinned w && t.allAt (t.overlap wide w) (fun x => !x.dirty)
  let choose (ok : Nat → Bool) : Option Nat :=
    if !units.any ok then none
    else if wide then some (2 * plruPick t.plru (fun k => units.contains (2 * k) && ok (2 * k)) 3 0 0)
    else some (plruPick t.plru (fun k => units.contains k && ok k) 4 0 0)
  let dirtyIn (w : Nat) : Nat := ((t.overlap wide w).filter (fun k => ((tget t.ways k).map TarnWay.dirty).getD false)).length
  match units.find? (fun w => t.free w && (!wide || t.free (w + 1))) with
  | some w => some w
  | none =>
    match choose unpinned with
    | none => none
    | some w => if dirtyIn w ≤ room then some w else choose clean

/-- A Tarn set of a region. -/
def State.tarnSet (s : State) (r k : Nat) : TarnSet := tgetD (s.region r).tarn k {}
def State.setTarn (s : State) (r k : Nat) (t : TarnSet) : State :=
  let v := s.region r
  s.setRegion r { v with tarn := tset v.tarn k t }

/-- The way that holds the record of a key. -/
def State.inTarn (s : State) (r set pn : Nat) (k : FlowKey) : Option (Nat × TarnWay) :=
  (s.tarnSet r set).ways.find? (fun e => e.2.img.hasKey pn k)

/-- Room in the write-back buffer. -/
def State.wbRoom (s : State) (r : Nat) : Nat := 512 - (s.region r).wb.length

/-- A record enters the write-back buffer. -/
def pushWb (r : Nat) (w : WbItem) (s : State) : State :=
  let v := s.region r
  s.setRegion r { v with wb := v.wb ++ [w] }

/-- A way is evicted: a dirty record's state fields go to the write-back buffer (R133). -/
def evict (r set w : Nat) (s : State) : State :=
  let t := s.tarnSet r set
  match tget t.ways w with
  | none => s
  | some x =>
    let s := s.setTarn r set { t with ways := tdel t.ways w }
    if x.dirty then pushWb r ⟨x.locator, x.img, false, false⟩ s else s

/-- A record is installed; none when no victim exists (R131). -/
def install (r set : Nat) (x : TarnWay) (s : State) : Option State :=
  (s.tarnSet r set).victim x.img.wide (s.deadWays r) (s.wbRoom r) |>.map (fun w =>
    let s := forEach ((s.tarnSet r set).overlap x.img.wide w) s (evict r set)
    let t := s.tarnSet r set
    s.setTarn r set { t with ways := tset t.ways w x, plru := plruTouch 4 0 w t.plru })

/-- A use of a way. -/
def touch (r set w : Nat) (s : State) : State :=
  let t := s.tarnSet r set
  s.setTarn r set { t with plru := plruTouch 4 0 w t.plru }

/-- The Tarn set of a record. -/
def State.setOf (s : State) (x : Rec) : Nat := ((s.partition x.partition).map (fun p => (p.place x.flowKey).set)).getD 0

/-! ## Finding a record (R121, R122, R161) -/

/-- Where a record was found: its locator, its fields with the activity that its owner holds, and its way when it is resident. -/
structure Found where
  loc : Nat
  img : Rec
  way : Option Nat
  deriving DecidableEq, Repr

/-- The activity fields that a record's owner holds. -/
def State.ownerRec (s : State) (r loc : Nat) (x : Rec) : Rec :=
  match locSpace loc with
  | 0 => ((s.lakeRec r loc x.wide).map x.withActivity).getD x
  | 2 => (tgetD (s.region r).ovf (locPos loc) x)
  | _ => x

/-- The record of a key in the write-back buffer (R134). -/
def State.inWb (s : State) (r pn : Nat) (k : FlowKey) : Option Found :=
  ((s.region r).wb.find? (fun w => !w.gone && w.img.hasKey pn k)).bind (fun w =>
    (s.lakeRec r w.locator w.img.wide).bind (fun x => if x.hasKey pn k then some ⟨w.locator, x, none⟩ else none))

/-- The record of a key on die: in Tarn, in the overflow store, or in the write-back buffer, which a Tarn miss probes (R122, R134). -/
def State.onDie (s : State) (r pn : Nat) (x : Place) (k : FlowKey) : Option Found :=
  match s.inTarn r x.set pn k with
  | some (w, t) => some ⟨t.locator, s.ownerRec r t.locator t.img, some w⟩
  | none => ((s.inOvf r pn k).map (fun e => ⟨locOvf e.1, e.2, none⟩)).or (s.inWb r pn k)

/-- The record of a key in Deep Lake, and the buckets read to find it or to know it absent. -/
def State.inLake (s : State) (r pn : Nat) (p : Partition) (x : Place) (k : FlowKey) : Option Found × Nat :=
  if !s.hbmReady then (none, 0)
  else match s.inBucket r x.bktA pn p.wide k with
    | some (l, y) => (some ⟨l, y, none⟩, 1)
    | none =>
      if !p.anchored then (none, 1)
      else ((s.inBucket r x.bktB pn p.wide k).map (fun e => ⟨e.1, e.2, none⟩), 2)

/-- The record of a key. -/
def State.findRec (s : State) (r pn : Nat) (p : Partition) (k : FlowKey) : Option Found :=
  let x := p.place k
  (s.onDie r pn x k).or (s.inLake r pn p x k).1

/-- A found record of Deep Lake that is not resident is installed clean (R131); a record that is left out is used all the same (R132). -/
def bringIn (r : Nat) (p : Partition) (f : Found) (s : State) : Found × State :=
  let set := (p.place f.img.flowKey).set
  match f.way with
  | some w => (f, touch r set w s)
  | none =>
    if locSpace f.loc != 0 then (f, s)
    else match install r set { img := f.img, locator := f.loc } s with
      | none => (f, s)
      | some s => ({ f with way := (s.inTarn r set f.img.partition f.img.flowKey).map Prod.fst }, s)

/-- The state fields of a record change in the place that owns them; none when it is neither resident nor in the overflow store (R132,
R133). -/
def writeState (r : Nat) (p : Partition) (f : Found) (x : Rec) (s : State) : Option State :=
  let set := (p.place f.img.flowKey).set
  match f.way with
  | some w =>
    let t := s.tarnSet r set
    (tget t.ways w).map (fun e => s.setTarn r set { t with
      ways := tset t.ways w { e with
        img := x.withActivity e.img
        dirty := true } })
  | none =>
    if locSpace f.loc = 2 then (tget (s.region r).ovf (locPos f.loc)).map (fun e =>
      let v := s.region r
      s.setRegion r { v with ovf := tset v.ovf (locPos f.loc) (x.withActivity e) })
    else none

/-! ## Activity fields and Sinter (R137 to R142) -/

/-- Deltas of a record's activity fields. -/
structure Delta where
  last : Nat
  tcpFlags : Nat
  pkts : Nat
  bytes : Nat
  rpkts : Nat
  rbytes : Nat
  deriving DecidableEq, Repr

/-- Deltas are added (R141, R148). -/
def Rec.add (x : Rec) (d : Delta) : Rec :=
  { x with
    last := laterOf x.last d.last
    tcpFlags := x.tcpFlags ||| d.tcpFlags
    pkts := wrap 48 (x.pkts + d.pkts)
    bytes := wrap 64 (x.bytes + d.bytes)
    rpkts := wrap 48 (x.rpkts + d.rpkts)
    rbytes := wrap 64 (x.rbytes + d.rbytes) }

def SinterEntry.delta (e : SinterEntry) : Delta := ⟨e.last, e.tcpFlags, e.dpkts, e.dbytes, e.drpkts, e.drbytes⟩
def LogEntry.delta (e : LogEntry) : Delta := ⟨e.last, e.tcpFlags, e.dpkts, e.dbytes, e.drpkts, e.drbytes⟩

/-- The owner's activity fields of a locator change (R142): in the write-back buffer while the whole record waits there, else in memory; in the
overflow store; or in a pinned way. -/
def addActivity (r loc : Nat) (wide : Bool) (d : Delta) (s : State) : State :=
  let v := s.region r
  match locSpace loc with
  | 0 =>
    let holds (w : WbItem) : Bool := w.whole && !w.gone && w.locator = loc
    if v.wb.any holds then s.setRegion r { v with wb := v.wb.map (fun w => if holds w then { w with img := w.img.add d } else w) }
    else match s.lakeMem r loc wide with
      | some x => s.putLake r loc (x.add d)
      | none => s
  | 2 => match tget v.ovf (locPos loc) with
    | some x => s.setRegion r { v with ovf := tset v.ovf (locPos loc) (x.add d) }
    | none => s
  | _ =>
    let set := locPos loc / 16
    let t := s.tarnSet r set
    match tget t.ways (locPos loc % 16) with
    | some w => s.setTarn r set { t with ways := tset t.ways (locPos loc % 16) { w with img := w.img.add d } }
    | none => s

/-- A Sinter set: the entries of a locator's set, the least recently used first. DESIGN CHOICE, safe: log entry 10. -/
def sinterSet (loc : Nat) : Nat := Config.sinterIndex loc % 4096
def State.sinterOf (s : State) (r loc : Nat) : List SinterEntry := tgetD (s.region r).sinter (sinterSet loc) []
def State.setSinter (s : State) (r loc : Nat) (es : List SinterEntry) : State :=
  let v := s.region r
  s.setRegion r { v with sinter := if es = [] then tdel v.sinter (sinterSet loc) else tset v.sinter (sinterSet loc) es }

/-- The entry of a locator. -/
def State.sinterEntry (s : State) (r loc : Nat) : Option SinterEntry := (s.sinterOf r loc).find? (fun e => e.locator = loc)

/-- An entry leaves Sinter. -/
def dropSinter (r loc : Nat) (s : State) : State := s.setSinter r loc ((s.sinterOf r loc).filter (fun e => e.locator != loc))

/-- The limit of R139. -/
def SinterEntry.full (e : SinterEntry) : Bool :=
  e.dpkts = 2 ^ 24 - 1 || e.drpkts = 2 ^ 24 - 1 || e.dbytes > 2 ^ 40 - 16384 || e.drbytes > 2 ^ 40 - 16384

/-- Bursts that a merge of activity fields is charged (R368, R382). -/
def mergeBursts (wide : Bool) : Nat := if wide then 4 else 2

/-- A bucket group has pending log entries (R144). -/
def State.groupPendingLog (s : State) (r loc : Nat) : Bool := locSpace loc = 0 && tgetD (s.region r).groups (locGroup loc) 0 != 0

/-- The 32 bytes of a log entry (Table 3-6). -/
def LogEntry.encode (e : LogEntry) : Bytes :=
  beBytes 4 e.locator ++ beBytes 2 e.tag ++ beBytes 1 (bit e.wide + 2 * bit e.reply) ++ beBytes 1 e.tcpFlags ++ beBytes 4 e.last ++
  beBytes 3 e.dpkts ++ beBytes 5 e.dbytes ++ beBytes 3 e.drpkts ++ beBytes 5 e.drbytes ++ beBytes 4 e.seq

/-- Where an entry of the log lies: the ring fills the first 4 MiB of the log area (R143, Table 8-2). -/
def logAddr (r seq : Nat) : Nat := hbmAddr r (0x140000000 + seq % 131072 * 32)

/-- An entry is appended to the Sinter log, and written to its place in the log area (R143, R144, R147). -/
def appendLog (r : Nat) (e : SinterEntry) (s : State) : Option State :=
  let v := s.region r
  if v.log.length ≥ 131072 || tgetD v.groups (locGroup e.locator) 0 ≥ 255 then none
  else (charge r clsTL 1 s).map (fun s =>
    let v := s.region r
    let l : LogEntry :=
      { locator := e.locator, tag := e.tag, wide := e.wide, reply := e.drpkts != 0 || e.drbytes != 0, tcpFlags := e.tcpFlags, last := e.last,
        dpkts := e.dpkts, dbytes := e.dbytes, drpkts := e.drpkts, drbytes := e.drbytes, seq := wrap 32 v.logSeq }
    let s := { s with hbm.mem := memWrite s.hbm.mem (logAddr r v.logSeq) l.encode }
    let s := s.setRegion r { v with
      log := v.log ++ [l]
      logSeq := v.logSeq + 1
      groups := tmod v.groups (locGroup e.locator) 0 (· + 1) }
    if v.log.length = 98304 then raise (160 + r) s else s)

/-- Routes 1 and 2 of R141, with the classes whose budget may be taken, in order. -/
def writeDirect (r : Nat) (classes : List Nat) (e : SinterEntry) (s : State) : Option State :=
  let done (s : State) : State := addActivity r e.locator e.wide e.delta (dropSinter r e.locator s)
  if locSpace e.locator != 0 then some (done s)
  else if !s.hbmReady then none
  else (classes.findSome? (fun c => charge r c (mergeBursts e.wide) s)).map done

/-- A write-back of an entry by the first route available; none where it stays (R141). -/
def writeBack (r : Nat) (e : SinterEntry) (s : State) : Option State :=
  match writeDirect r [clsFW] e s with
  | some s => some s
  | none => if locSpace e.locator = 0 && s.hbmReady then (appendLog r e s).map (dropSinter r e.locator) else none

/-- A write-back that found no route is tried again in the next budget period (R141). -/
def retryLater (r loc : Nat) (s : State) : State :=
  let v := s.region r
  s.setRegion r { v with retry := if v.retry.contains loc then v.retry else v.retry ++ [loc] }

/-- The write-back of a locator's entry, if it has one: by the first route available, or in a later period. -/
def settleEntry (r loc : Nat) (s : State) : State :=
  match s.sinterEntry r loc with
  | none => s
  | some e => (writeBack r e s).getD (retryLater r loc s)

/-- The write-backs that found no route are tried again (R141). -/
def retryEntries (r : Nat) (s : State) : State :=
  let v := s.region r
  forEach v.retry (s.setRegion r { v with retry := [] }) (settleEntry r)

/-- An update of a counted packet (R138). -/
structure Update where
  reply : Bool
  len : Nat
  last : Nat
  tcpFlags : Nat

/-- An entry with an update added: the reply deltas of a wide record count apart. -/
def SinterEntry.take (e : SinterEntry) (u : Update) : SinterEntry :=
  let e := { e with last := laterOf e.last u.last, tcpFlags := e.tcpFlags ||| u.tcpFlags }
  if e.wide && u.reply then { e with drpkts := e.drpkts + 1, drbytes := e.drbytes + u.len }
  else { e with dpkts := e.dpkts + 1, dbytes := e.dbytes + u.len }

/-- The first entry of a full set, in order of use, that can be written back at once. -/
def makeRoom (r : Nat) : List SinterEntry → State → Option State
  | [], _ => none
  | e :: es, s => match writeBack r e s with
    | some s => some s
    | none => makeRoom r es s

/-- An update is added; none where Sinter cannot accept it (R138, R139). An entry that reaches its limit is written back (R140). -/
def sinterUpdate (r loc : Nat) (wide : Bool) (tag : Nat) (u : Update) (s : State) : Option State :=
  let put (e : SinterEntry) (s : State) : State :=
    let s := s.setSinter r loc ((s.sinterOf r loc).filter (fun x => x.locator != loc) ++ [e])
    if e.full then settleEntry r loc s else s
  match s.sinterEntry r loc with
  | some e => if e.full then none else some (put (e.take u) s)
  | none =>
    let fresh : SinterEntry := { locator := loc, wide := wide, tag := tag, last := u.last }
    let room := if (s.sinterOf r loc).length < 4 then some s else makeRoom r (s.sinterOf r loc) s
    room.map (put (fresh.take u))

/-! ## The Sinter log (R145, R146) -/

/-- A record integrity error of a region (R146). -/
def countIntegrity (r : Nat) (s : State) : State :=
  raise (168 + r) (s.setRegion r { s.region r with integrity := inc64 (s.region r).integrity })

/-- The oldest log entry is replayed: its deltas are added, or it is discarded as an integrity error. -/
def replayOne (r : Nat) (s : State) : State :=
  let v := s.region r
  match v.log with
  | [] => s
  | e :: es =>
    let s := s.setRegion r { v with
      log := es
      replayed := v.replayed + 1
      groups := tmod v.groups (locGroup e.locator) 0 (· - 1) }
    let tagOf (x : Rec) : Option Nat := (s.partition x.partition).map (fun p => (p.place x.flowKey).hB % 65536)
    match s.lakeRec r e.locator e.wide with
    | some x =>
      if tagOf x = some e.tag then addActivity r e.locator e.wide e.delta s
      else countIntegrity r s
    | none => countIntegrity r s

/-- The oldest log entry lies in an uncorrectable burst, which is one entry long: it is lost, and counted (Table 8-6). Its bucket group is that of
the entry as it was written. DESIGN CHOICE, unsafe: log entry 136. -/
def loseLogEntry (r : Nat) (s : State) : State :=
  let v := s.region r
  match v.log with
  | [] => s
  | e :: es =>
    countIntegrity r (s.setRegion r { v with
      log := es
      replayed := v.replayed + 1
      groups := tmod v.groups (locGroup e.locator) 0 (· - 1) })

/-- Bursts of a replay (R382). -/
def replayBursts (e : LogEntry) : Nat := 1 + mergeBursts e.wide

/-- The whole log is replayed. -/
def replayAll (r : Nat) (s : State) : State := forEach (s.region r).log s (fun _ s => replayOne r s)

/-- Deltas of a locator that the log still holds. -/
def State.logDeltas (s : State) (r loc : Nat) : List Delta := ((s.region r).log.filter (fun e => e.locator = loc)).map LogEntry.delta

/-- The owner's activity fields plus the Sinter delta (R152). -/
def State.merged (s : State) (r : Nat) (f : Found) : Rec := ((s.sinterEntry r f.loc).map (fun e => f.img.add e.delta)).getD f.img

/-- The exact activity fields (R148). -/
def State.exact (s : State) (r : Nat) (f : Found) : Rec := (s.logDeltas r f.loc).foldl Rec.add (s.merged r f)

/-! ## A new record (R135, R161) -/

/-- The tag of a record's Sinter entry. -/
def tagOf (p : Partition) (x : Rec) : Nat := (p.place x.flowKey).hB % 65536

/-- Why a record could not be placed, as a cause of Table 3-9. -/
abbrev Cause := Nat

/-- A new record takes its place: written through and installed, or in the overflow store or the stash (R135), or in Tarn alone (R161).
DEDUCED, unsafe: log entry 86. -/
def createRec (r : Nat) (p : Partition) (x : Rec) (s : State) : Except Cause (Nat × State) :=
  let pl := p.place x.flowKey
  if s.hbmReady then
    match s.placeNew r x.partition p pl with
    | none => .error 6
    | some l =>
      if locSpace l = 2 then
        let s := putOvf r (locPos l) x s
        let v := s.region r
        .ok (l, if p.anchored then s.setRegion r { v with jobs := v.jobs ++ [locPos l] } else s)
      else if s.wbRoom r = 0 then .error 5
      else
        let s := pushWb r ⟨l, x, true, false⟩ s
        .ok (l, (install r pl.set { img := x, locator := l } s).getD s)
  else
    let t := s.tarnSet r pl.set
    match t.victim p.wide (s.deadWays r) (s.wbRoom r) with
    | some w =>
      let loc := locTarn pl.set w
      let y := { x with tarnOnly := true }
      .ok (loc, (install r pl.set { img := y, locator := loc, pin := true } s).getD s)
    | none =>
      match (if p.anchored then s.stashPlace r p else s.ovfPlace r x.partition p) with
      | some i => .ok (locOvf i, putOvf r i { x with tarnOnly := true } s)
      | none => .error 9

/-- A record leaves Tarn and its store (R154). -/
def removeRec (r : Nat) (p : Partition) (f : Found) (s : State) : State :=
  let set := (p.place f.img.flowKey).set
  let s := dropSinter r f.loc s
  let s := match s.inTarn r set f.img.partition f.img.flowKey with
    | some (w, _) =>
      let t := s.tarnSet r set
      s.setTarn r set { t with ways := tdel t.ways w }
    | none => s
  match locSpace f.loc with
  | 0 => freeLake r f.loc f.img.wide s
  | 2 =>
    let v := s.region r
    s.setRegion r { v with ovf := tdel v.ovf (locPos f.loc) }
  | _ => s

/-! ## Moves (R126, R129, R163) -/

/-- A Sinter entry follows its record to a new locator; where its new set is full it is written back at once, and none is the answer while it
cannot be (R129). -/
def moveSinter (r old new : Nat) (s : State) : Option State :=
  match s.sinterEntry r old with
  | none => some s
  | some e =>
    let s := dropSinter r old s
    let e := { e with locator := new }
    if (s.sinterOf r new).length < 4 then some (s.setSinter r new (s.sinterOf r new ++ [e]))
    else writeBack r e s

/-- Tarn's locator of a record changes. -/
def moveTarn (r old new : Nat) (s : State) : State :=
  let v := s.region r
  s.setRegion r { v with tarn := v.tarn.map (fun t => (t.1, { t.2 with
    ways := t.2.ways.map (fun w => (w.1, if w.2.locator = old then { w.2 with locator := new } else w.2)) })) }

/-- A record moves to an invalid Deep Lake slot: it is written there before its old place is freed (R128, R129). -/
def moveRec (r : Nat) (old new : Nat) (wide : Bool) (s : State) : Option State :=
  let img := if locSpace old = 2 then tget (s.region r).ovf (locPos old) else s.lakeRec r old wide
  match img with
  | none => none
  | some x =>
    let y := if x.tarnOnly then { x with tarnOnly := false }.bump else x
    (moveSinter r old new (s.putLake r new y)).map (fun s =>
      let s := moveTarn r old new s
      if locSpace old = 2 then
        let v := s.region r
        s.setRegion r { v with ovf := tdel v.ovf (locPos old) }
      else freeLake r old wide s)

/-! ## Creation credits (R179) -/

/-- Refill of a region's creation credit in 1/100,000 creations per ns, by DVFS step. -/
def State.creditRate (s : State) (r : Nat) : Nat := [4000, 3375, 2750, 2000].getD (s.stepOf r) 4000

/-- A region's creation credit is refilled to now. -/
def refillCredit (r : Nat) (s : State) : State :=
  let v := s.region r
  s.setRegion r { v with
    credit := min 409600000 (v.credit + s.creditRate r * (s.time.localNs - v.creditAt))
    creditAt := s.time.localNs }

/-- The bytes that a buffered write puts in its slot; none where nothing is left of the record (R134). -/
def State.wbBytes (s : State) (r : Nat) (w : WbItem) : Option Bytes :=
  if w.gone then some (List.replicate (recLen w.img.wide) 0)
  else (w.over (s.lakeMem r w.locator w.img.wide)).map Rec.encode

/-- By the time at which a flush completes, the HBM controllers have accepted every write of the buffer (R134, R149). -/
def drainWb (r : Nat) (s : State) : State :=
  let s := forEach (s.region r).wb s (fun w s => match s.wbBytes r w with
    | some bs => { s with hbm.mem := memWrite s.hbm.mem (slotAddr r w.locator) bs }
    | none => s)
  s.setRegion r { s.region r with wb := [] }

/-! ## Flushes (R149, R561, R562) -/

/-- Every dirty record's state fields reach Deep Lake, the write-back buffer empties, every Sinter entry is written back, and the log is
replayed until it is empty. -/
def flushRegion (r : Nat) (s : State) : State :=
  let s := forEach (s.region r).tarn s (fun t s => forEach t.2.ways s (fun w s =>
    if w.2.dirty && locSpace w.2.locator = 0 then
      match s.lakeRec r w.2.locator w.2.img.wide with
      | some x => s.setTarn r t.1 { s.tarnSet r t.1 with
          ways := tset (s.tarnSet r t.1).ways w.1 { w.2 with dirty := false } } |> (fun s => pushWb r ⟨w.2.locator, w.2.img.withActivity x, false, false⟩ s)
      | none => s
    else s))
  let s := drainWb r s
  let s := forEach (s.region r).sinter s (fun t s => forEach t.2 s (fun e s => addActivity r e.locator e.wide e.delta s))
  replayAll r (s.setRegion r { s.region r with
    sinter := []
    retry := [] })

/-- The flow engine of a region resumes with an empty Tarn slice (R562). -/
def emptyTarn (r : Nat) (s : State) : State := s.setRegion r { s.region r with tarn := [] }

/-- Domains 64 to 71 lose power (R545): what the flow slices hold on die is gone. DEDUCED, unsafe: log entry 84. -/
def emptyFlowDie (s : State) : State :=
  { s with flow.regions := s.flow.regions.map (fun e => (e.1, { e.2 with
      tarn := [], sinter := [], ovf := [], wb := [], queue := [], busy := [], settling := [], retry := [], deferred := [] })) }

end Sys2Proof.Machine
end

