-- ==== Sys2Proof/Machine/Protocol.lean ====
section
/-! DEFINITION. The audit ring (R456 to R460), replies and their transports (R402, R403, R469, R480, R412), the checks of a command frame
and their order (R413), sequence windows (R417 to R420), and the pending list (R424, R425). -/

namespace Sys2Proof.Machine

/-! ## Audit ring -/

/-- An audit entry as its 128 bytes (Table 10-7). -/
def AuditEntry.bytes (e : AuditEntry) : Bytes :=
  beBytes 8 e.entryNo ++ beBytes 6 e.timeS ++ beBytes 4 e.timeNs ++ beBytes 1 e.kind ++ beBytes 1 e.flags ++ beBytes 4 e.epoch ++
  beBytes 1 e.role ++ beBytes 1 e.keyId ++ beBytes 2 e.sender ++ beBytes 2 e.opcode ++ beBytes 2 e.status ++ beBytes 8 e.seq ++
  beBytes 2 e.channel ++ beBytes 6 e.data ++ beBytes 32 e.digest ++ beBytes 32 e.prevLink ++ beBytes 16 0

/-- LINK of an entry (R457). -/
def AuditEntry.link (e : AuditEntry) : Nat := beNat (sha256 e.bytes)

/-- The entries that no AUDIT_ACK has named. -/
def Audit.unexported (a : Audit) : Nat := a.last - a.exported

/-- The ring is held full (R460): a new entry would overwrite an unexported one. -/
def Audit.full (a : Audit) : Bool :=
  a.hold && a.ring.length ≥ 4096 && (match a.ring with | e :: _ => decide (a.exported < e.entryNo) | [] => false)

/-- The newest ENTRY_NO that the flash reserves (R458). -/
def reserveEntry (n : Nat) (s : State) : State := if n > s.flash.reservation then { s with flash.reservation := n + 63 } else s

/-- The next entry would overwrite an unexported one. -/
def Audit.loses (a : Audit) : Bool :=
  match a.ring with
  | o :: _ => decide (a.ring.length ≥ 4096 ∧ a.exported < o.entryNo)
  | [] => false

/-- An entry in the ring, the head, and the count of overwritten entries. -/
def enterAudit (e : AuditEntry) (s : State) : State :=
  { s with
    roles.audit.ring := lastN 4096 (s.roles.audit.ring ++ [e])
    roles.audit.last := e.entryNo
    roles.audit.head := e.link
    roles.audit.overwritten := if s.roles.audit.loses then inc64 s.roles.audit.overwritten else s.roles.audit.overwritten }

/-- An entry enters the ring: the reservation of R458 first, then the entry. Source 281 is raised at the entry that brings the unexported ones to
3,072 (R459). DEDUCED, unsafe: log entry 112. -/
def putAudit (e : AuditEntry) (s : State) : State :=
  let t := enterAudit e (reserveEntry e.entryNo s)
  if t.roles.audit.unexported = 3072 then raise 281 t else t

/-- An entry enters the ring, or is held back while that would overwrite an unexported one under AUDIT_HOLD; BOOT, WIPE and LIFECYCLE entries never
are (R460). DEDUCED, unsafe: log entry 112. -/
def offerAudit (e : AuditEntry) (s : State) : State :=
  if s.roles.audit.full && !([0x03, 0x05, 0x06].contains e.kind) then { s with roles.audit.heldBack := s.roles.audit.heldBack ++ [e] }
  else putAudit { e with entryNo := s.roles.audit.last + 1, prevLink := s.roles.audit.head } s

/-- The entries that were held back enter, as far as the ring has room for them. -/
def releaseAudit (s : State) : State := forEach s.roles.audit.heldBack { s with roles.audit.heldBack := [] } offerAudit

/-- The next entry, of a kind of Table 10-8, before its command's fields. -/
def State.auditBase (s : State) (kind data : Nat) : AuditEntry :=
  { entryNo := s.roles.audit.last + 1, timeS := timeS s.time.now, timeNs := timeNs s.time.now, kind := kind,
    flags := bit (!s.traceable), epoch := s.ocf.epoch, role := 0xFF, keyId := 0, sender := 0, opcode := 0, status := 0, seq := 0,
    channel := 0, data := data, digest := 0, prevLink := s.roles.audit.head }

/-- An entry of a kind that no command made. -/
def auditEvent (kind data : Nat) (s : State) : State := offerAudit (s.auditBase kind data) s

/-- An entry of a command (COMMAND, RESULT, LIFECYCLE, FW_ACTIVATE). -/
def auditCommand (kind opcode : Nat) (h : Ocf) (status data : Nat) (s : State) : State :=
  offerAudit { s.auditBase kind data with
    role := h.role, keyId := h.keyId, sender := h.sender, opcode := opcode, status := status, seq := h.seq,
    channel := h.transport.auditChannel, digest := beNat (sha256 (fit h.length h.params)) } s

/-! ## Replies -/

/-- The reply to a frame (R402): its MAC and ROLE only under the key that verified it. -/
def mkReply (opcode : Nat) (h : Ocf) (key : Option Bytes) (event again : Bool) (status detail : Nat) (res : Results) (epoch : Nat) :
    Reply :=
  let r : Reply :=
    { opcode, cmd := h, role := if key.isSome then h.role else 0,
      flags := h.flags ||| (1 + 2 * bit event + 32 * bit again), epoch, status, detail, results := res, mac := none }
  { r with mac := key.map (fun k => mac16 k r.signedBytes) }

/-- A reply sent again: RETRANSMIT is set and the MAC computed anew. -/
def Reply.again (r : Reply) (key : Option Bytes) : Reply :=
  let r := { r with flags := r.flags ||| 32, mac := none }
  { r with mac := key.map (fun k => mac16 k r.signedBytes) }

/-- A message for a channel's outbound queue, which firmware holds until it fits whole (R469). -/
def postMessage (c hostGen : Nat) (bs : Bytes) (s : State) : State :=
  let ch := s.chan c
  let ws := toWords bs
  s.setChan c { ch with
    waiting := ch.waiting ++ [{ words := ws, len := ws.length, oldHost := decide (hostGen < ch.hostGen) }] }

/-- A reply of the compatibility block finds the earlier one unread (R480). -/
def collide (s : State) : State :=
  if s.host.cmb.rspValid then
    raise 113 { s with
      host.cmb.rspCollision := true
      host.cmb.collCount := wrapAdd 32 s.host.cmb.collCount 1 }
  else s

/-- The words of a reply stand in the response registers (R480). -/
def placeRsp (ws : List Nat) (cut : Bool) (s : State) : State :=
  { s with
    host.cmb.rsp := ws
    host.cmb.rspLen := ws.length
    host.cmb.rspTrunc := cut
    host.cmb.rspValid := true }

/-- A reply of the compatibility block (R480). -/
def postCompat (bs : Bytes) (s : State) : State :=
  raise 112 (placeRsp (toWords (bs.take 256)) (decide (bs.length > 256)) (collide s))

/-- An in-band reply (Table 9-5): to the command's source, from the station address, with its outer tag, padded to 60 bytes. -/
def inbandFrame (stationMac dstMac : Nat) (tag : Option Nat) (bs : Bytes) : Bytes :=
  let f := beBytes 6 dstMac ++ beBytes 6 stationMac ++ (match tag with | some t => beBytes 4 t | none => []) ++
    beBytes 2 0x88B5 ++ bs
  fit (max 60 f.length) f

/-- The answer to a descriptor frame (R412): the described command's status and detail, the reply's length and the bytes written; none where the
descriptor has NO_REPLY (R403). -/
def answerDescriptor (c : Nat) (status detail needed written : Nat) (s : State) : State :=
  match tget s.host.dmaBusy c with
  | none => s
  | some (opcode, d) =>
    let r := mkReply opcode d none false false status detail [(4, needed), (4, written)] s.ocf.epoch
    let s : State := { s with host.dmaBusy := tdel s.host.dmaBusy c }
    if d.noReply then s else postMessage c (s.chan c).hostGen r.bytes { s with ocf.sent := s.ocf.sent ++ [r] }

/-- The function may reach host memory (R485). -/
def State.dmaOpen (s : State) : Bool := s.host.linkGen != 0 && s.host.dstate = 0 && s.host.busMaster

/-- Bytes written to host memory. -/
def dmaPut (addr : Nat) (put : Bytes) (s : State) : State :=
  if put.isEmpty then s else { s with out.hostWrites := s.out.hostWrites ++ [(addr, put)] }

/-- A reply goes on the transport by which its command arrived (Table 9-5). A completion of a DMA-described command goes out on the command's
channel (R424). A reply that cannot be written to host memory (R485) answers its descriptor with 0x0503. DESIGN CHOICE, unsafe: log entry 108. -/
def carry (r : Reply) (hostGen : Nat) (s : State) : State :=
  match r.cmd.transport with
  | .mailbox c => postMessage c hostGen r.bytes s
  | .compat => postCompat r.bytes s
  | .dma c addr len =>
    if r.flags.testBit 1 then postMessage c hostGen r.bytes s
    else if !s.dmaOpen then answerDescriptor c 0x0503 0xFFFF 0 0 s
    else
      answerDescriptor c r.status r.detail r.bytes.length (r.bytes.take len).length (raise (48 + c) (dmaPut addr (r.bytes.take len) s))
  | .inband port mac tag =>
    { s with ocf.origin := s.ocf.origin ++ [⟨port, s.ocf.replyTc, inbandFrame s.ocf.stationMac mac tag r.bytes⟩] }
  | .dvorob slot => { s with ocf.fabricOut := s.ocf.fabricOut ++ [(slot, r.bytes)] }

/-- A reply leaves. -/
def deliver (r : Reply) (hostGen : Nat) (s : State) : State := carry r hostGen { s with ocf.sent := s.ocf.sent ++ [r] }

/-- A reply that is not sent (R403): where a descriptor described the frame, its own answer tells of no reply. DESIGN CHOICE, unsafe: log entry 108. -/
def suppress (r : Reply) (s : State) : State :=
  match r.cmd.transport with
  | .dma c _ _ => answerDescriptor c r.status r.detail 0 0 s
  | _ => s

/-- A status of success: OK, ACCEPTED_PENDING or STAGED. -/
def okStatus (status : Nat) : Bool := status ≤ 2

/-- The device answers a frame, or counts its failure when no reply may be sent (R403); a rejection is counted per status code. -/
def respond (opcode : Nat) (h : Ocf) (hostGen : Nat) (r : Reply) (s : State) : State :=
  let s := if okStatus r.status then s else { s with ocf.rejected := tinc s.ocf.rejected r.status }
  if h.noReply || opcode = 0x0520 then
    suppress r (if okStatus r.status then s else { s with ocf.noReplyFailed := inc64 s.ocf.noReplyFailed })
  else deliver r hostGen s

/-- A kept reply goes out again, to the frame that asks for it (R418). -/
def resend (k : Kept) (h : Ocf) (gen : Nat) (s : State) : State :=
  let r : Reply := { k.reply with cmd := h }
  if h.noReply then suppress r s else deliver (r.again k.key) gen s

/-! ## Sequence windows -/

/-- What the window check of R417 finds. -/
inductive SeqCheck where
  | fresh | replay | seen
  deriving DecidableEq, Repr

/-- check(seq) of R417. -/
def Window.check (w : Window) (seq : Nat) : SeqCheck :=
  if seq > w.h then .fresh
  else if w.h - seq ≥ 64 then .replay
  else if w.map.testBit (w.h - seq) then .seen
  else .fresh

/-- record(seq) of R417. -/
def Window.record (w : Window) (seq : Nat) : Window :=
  if seq > w.h then
    { w with h := seq, map := (if seq - w.h ≥ 64 then 0 else wrap 64 (w.map <<< (seq - w.h))) + 1 }
  else { w with map := setBit w.map (w.h - seq) true }

/-- A frame under the estate-domain key (R420, R443). -/
def estateFrame (h : Ocf) : Bool := h.role = 1 && h.keyId = 3

/-- The window that serves a frame, if the device keeps one. -/
def State.windowOf (s : State) (h : Ocf) : Option Window :=
  if estateFrame h then some (tgetD s.ocf.estateWindows h.sender {})
  else tget s.ocf.windows h.senderKey

/-- The role of a window's key. -/
def windowRole (key : Nat) : Nat := key / 2 ^ 16

/-- The windows with one put first; the least recently used of 1,024 is freed and raises its role's floor (R419). -/
def useWindow (key : Nat) (w : Window) (s : State) : State :=
  let rest := s.ocf.windows.filter (fun e => e.1 != key)
  let s := { s with ocf.windows := (key, w) :: rest.take 1023 }
  match rest.drop 1023 with
  | (k, old) :: _ =>
    { s with ocf.floors := tset s.ocf.floors (windowRole k) (max (tgetD s.ocf.floors (windowRole k) 0) old.h) }
  | [] => s

/-- Step 11: the device records SEQ. -/
def recordSeq (h : Ocf) (s : State) : State :=
  if estateFrame h then
    { s with ocf.estateWindows := tset s.ocf.estateWindows h.sender ((tgetD s.ocf.estateWindows h.sender {}).record h.seq) }
  else useWindow h.senderKey (((tget s.ocf.windows h.senderKey).getD {}).record h.seq) s

/-- The reply to a recorded frame is kept, newest first, 8 per window (R418); estate-domain windows keep none (R420). -/
def keepReply (k : Kept) (s : State) : State :=
  if estateFrame k.cmd then s
  else match tget s.ocf.windows k.cmd.senderKey with
    | none => s
    | some w => useWindow k.cmd.senderKey { w with kept := (k :: w.kept).take 8 } s

/-- Two frames are identical (R418): header, parameters within LENGTH, and MAC. -/
def sameFrame (op op' : Nat) (h h' : Ocf) : Bool :=
  op = op' && h.signedBytes op = h'.signedBytes op' && (!hasMac h.role || h.mac = h'.mac)

/-! ## Rights and life cycle -/

/-- Rights of OPERATOR (Table 10-1). -/
def operatorRight (opcode : Nat) (changes : Bool) : Bool :=
  match opcode / 256 with
  | 0x01 => !([0x010A, 0x0109, 0x010B].contains opcode)
  | 0x0A => opcode != 0x0A03
  | 0x0B => !changes || opcode = 0x0B0A
  | 0x0E => opcode = 0x0E04
  | _ => true

/-- Rights of INSTALLER; `toFactory` marks SEC_LIFECYCLE_SET with target FACTORY. -/
def installerRight (opcode : Nat) (toFactory : Bool) : Bool :=
  match opcode / 256 with
  | 0x0B => !(opcode = 0x0B05 && toFactory)
  | 0x0E => !([0x0E05, 0x0E06].contains opcode)
  | _ => true

/-- Rights of MAKER. -/
def makerRight (opcode : Nat) (changes : Bool) : Bool :=
  match opcode / 256 with
  | 0x01 => !changes || opcode = 0x010B
  | 0x0A => !changes || opcode = 0x0A01
  | 0x0B => true
  | 0x0E => true
  | _ => !changes

/-- Rights of HOST (R441). -/
def State.hostRight (s : State) (opcode : Nat) (changes toFactory : Bool) : Bool :=
  match s.roles.lifecycle with
  | .factory => installerRight opcode toFactory
  | .field =>
    if s.roles.hostAccess = 0 then operatorRight opcode changes
    else if s.roles.hostAccess = 1 then !changes
    else opcode = 0x0101
  | _ => !changes

/-- The rights of a frame's role (R440, R441, R443). -/
def State.hasRight (s : State) (h : Ocf) (opcode : Nat) (changes toFactory : Bool) : Bool :=
  if opcode = 0x0520 then estateFrame h
  else if estateFrame h then operatorRight opcode changes && !changes
  else match h.role with
    | 0 => s.hostRight opcode changes toFactory
    | 1 => operatorRight opcode changes
    | 2 => installerRight opcode toFactory
    | _ => makerRight opcode changes

/-- The frames that the life-cycle state accepts (Table 10-3). -/
def State.lifecycleAccepts (s : State) (h : Ocf) (opcode : Nat) (changes : Bool) : Bool :=
  match s.roles.lifecycle with
  | .factory => true
  | .field => h.role != 3 || !changes || opcode = 0x0B05
  | .returned => h.role = 0 || h.role = 3
  | .void => [0x0101, 0x0B09, 0x0B08].contains opcode

/-- The key that a frame names (Table 10-2). -/
def State.keyOf (s : State) (h : Ocf) : Option Bytes :=
  if h.role = 3 then (if h.keyId = 0 then some s.flash.makerKey else none)
  else if (h.role = 1 || h.role = 2) && h.keyId < 4 then tget s.roles.keys (4 * h.role + h.keyId)
  else none

/-- A MAC failure (R448): counted per role, source 280 at 64 within a second, an AUTH_FAIL entry at most once a second. -/
def macFailure (h : Ocf) (s : State) : State :=
  let now := s.time.localNs
  let ts := (now :: tgetD s.roles.failTimes h.role []).take 64
  let s := { s with
    roles.macFail := tinc s.roles.macFail h.role
    roles.failTimes := tset s.roles.failTimes h.role ts
    roles.failSince := s.roles.failSince + 1 }
  let s := if ts.length = 64 && now - ts.getLastD 0 ≤ 1000000000 then raiseFirst 280 s else s
  let due := match s.roles.lastAuthFail with
    | none => true
    | some t => decide (now - t ≥ 1000000000)
  if due then
    auditEvent 0x04 s.roles.failSince { s with
      roles.failSince := 0
      roles.lastAuthFail := some now }
  else s

/-! ## The checks of R413 -/

/-- Steps 1 to 4: MAGIC, VERSION, the lengths and the header. -/
def headerError (h : Ocf) : Option Nat :=
  if h.magic != 0x4F48 then some 0x0101
  else if h.version != 1 then some 0x0102
  else if h.frameLen > h.transport.limit then some 0x0104
  else if h.frameLen > h.present then some 0x0103
  else if h.role ≥ 4 || h.flags / 64 != 0 || h.reserved != 0 || h.sender ≥ 4096 || h.seq = 0 || h.isReply || h.isEvent then
    some 0x0106
  else none

/-- What steps 1 to 10 find. -/
inductive Gate where
  | reject (status : Nat)
  | badMac
  | resend (k : Kept)
  | pass (key : Option Bytes)
  deriving DecidableEq, Repr

/-- Step 8: SEQ against the window (R417 to R420), where the frame passes step 7. -/
def State.seqGate (s : State) (opcode : Nat) (h : Ocf) : Option Gate :=
  match s.windowOf h with
  | none => if h.seq ≤ tgetD s.ocf.floors h.role 0 then some (.reject 0x0205) else none
  | some w =>
    match w.check h.seq with
    | .fresh => none
    | .replay => some (.reject 0x0205)
    | .seen =>
      if estateFrame h then some (.reject 0x0205)
      else match w.kept.find? (fun k => sameFrame opcode k.opcode h k.cmd) with
        | some k => some (.resend k)
        | none => some (.reject 0x0205)

/-- Steps 1 to 10 for a defined opcode. A DMA flag in a frame that reaches execution is a descriptor fault (R412). When the EPOCH record
could not be written, only SYS_IDENTITY is accepted (R415). DESIGN CHOICE, unsafe: log entry 108. DEDUCED, unsafe: log entry 109. -/
def State.gate (s : State) (h : Ocf) (opcode : Nat) (changes toFactory : Bool) : Gate :=
  match headerError h with
  | some e => .reject e
  | none =>
    if h.isDma then .reject 0x0109
    else if h.role = 0 && !h.transport.acceptsHost then .reject 0x0206
    else if s.ocf.identityOnly && opcode != 0x0101 then .reject 0x0401
    else if h.epoch != s.ocf.epoch && !(opcode = 0x0101 && h.epoch = 0) then .reject 0x0207
    else match s.seqGate opcode h with
      | some g => g
      | none =>
        if !s.hasRight h opcode changes toFactory then .reject 0x0203
        else if !s.lifecycleAccepts h opcode changes then .reject 0x0204
        else if h.role = 0 then .pass none
        else match s.keyOf h with
          | none => .reject 0x0202
          | some k => if h.mac = mac16 k (h.signedBytes opcode) then .pass (some k) else .badMac

/-! ## Pending commands -/

/-- The commands of a sender that replied 0x0001 and are not acknowledged; those with NO_REPLY are not counted (R403, R425). -/
def State.unacked (s : State) (sender : Nat) : List PendCmd :=
  (tvals s.ocf.pend).filter (fun p => p.sender = sender && !p.cmd.noReply)

/-- The limits of R425. -/
def State.pendError (s : State) (h : Ocf) (pending : Bool) : Option Err :=
  if h.noReply then none
  else if pending && ((s.unacked h.senderKey).length ≥ 16 || ((tvals s.ocf.pend).filter (fun p => !p.cmd.noReply)).length ≥ 64) then
    plain 0x0301
  else if (s.unacked h.senderKey).any (fun p => p.cmd.tag = h.tag) then plain 0x0405
  else none

/-- A command that replied 0x0001 has completed: its final status, detail and results stand in the pending list. DESIGN CHOICE, unsafe: log entry 8. -/
def finish (id status detail : Nat) (res : Results) (s : State) : State :=
  match tget s.ocf.pend id with
  | none => s
  | some p => { s with ocf.pend := tset s.ocf.pend id { p with final := some (status, detail, res) } }

/-- What the frame's message was in the intake, if it stands there: its host generation, and the intake without it.
DESIGN CHOICE, safe: log entry 6. -/
def takeIntake (opcode : Nat) (h : Ocf) (s : State) : Nat × State :=
  let mine (e : IntakeEntry) : Bool := e.opcode = opcode && e.cmd = h
  match s.ocf.intake.find? mine with
  | some e => (e.hostGen, { s with ocf.intake := s.ocf.intake.eraseP mine })
  | none => ((s.chan h.transport.hostChannel).hostGen, s)

/-- The reply to a frame that was recorded, which its window keeps. -/
def answerFrame (opcode : Nat) (h : Ocf) (key : Option Bytes) (gen status detail : Nat) (res : Results) (s : State) : State :=
  let r := mkReply opcode h key false false status detail res s.ocf.epoch
  respond opcode h gen r (keepReply ⟨opcode, h, r, key⟩ s)

end Sys2Proof.Machine
end

