-- ==== Sys2Proof/Machine/Geyser.lean ====
section
/-! DEFINITION. Geyser, the task scheduler: work items, the delay list and the ready levels, grants, energy classes and activities (R520 to
R536). -/

namespace Sys2Proof.Machine

/-! ## Work items -/

/-- A host job's descriptor is FREE once its completion has been acknowledged or has expired (R522). -/
def State.itemGone (s : State) (i : WorkItem) : Bool :=
  i.hostJob && (i.state = .done || i.state = .cancelled) && (tget s.ocf.pend i.pendId).isNone

/-- The work item of a handle; none while its descriptor is FREE. -/
def State.item (s : State) (k : Nat) : Option WorkItem := (tget s.eng.items k).filter (fun i => !s.itemGone i)
def State.setItem (s : State) (k : Nat) (i : WorkItem) : State := { s with eng.items := tset s.eng.items k i }

/-- Descriptors that are FREE leave the table. -/
def dropFreed (s : State) : State := { s with eng.items := s.eng.items.filter (fun e => !s.itemGone e.2) }

/-- The lowest FREE handle: the items of a table never fill the first of their number + 1. DESIGN CHOICE, unsafe: log entry 117. -/
def State.freeHandle (s : State) : Option Nat :=
  ((List.range (s.eng.items.length + 1)).find? (fun k => (s.item k).isNone)).filter (fun k => k < 65536)

/-- The current tick (R525). -/
def State.dueTick (s : State) : Nat := wrap 48 (s.estateNs / 1000)

/-- Ticks from now to a DUE. -/
def State.ticksTo (s : State) (due : Nat) : Nat := wrap 48 (due + 2 ^ 48 - s.dueTick)

/-- A DUE is not later than the current tick. -/
def State.isDue (s : State) (due : Nat) : Bool := s.ticksTo due = 0 || s.ticksTo due ≥ 2 ^ 47

/-- Class e has a ready item. -/
def State.classReady (s : State) (e : Nat) : Bool :=
  (tvals s.eng.ready).any (fun hs => hs.any (fun h => ((tget s.eng.items h).map WorkItem.cls) = some e))

/-- A class that holds no ready item has not held one throughout the period (R532). -/
def noteReady (s : State) : State :=
  { s with eng.heldReady := forEach (List.range 8) s.eng.heldReady (fun e m => if s.classReady e then m else setBit m e false) }

/-- An item becomes ready at the end of its level. -/
def enterReady (h : Nat) (i : WorkItem) (s : State) : State :=
  let s := s.setItem h { i with state := .ready }
  { s with
    eng.ready := tset s.eng.ready i.prio (tgetD s.eng.ready i.prio [] ++ [h])
    eng.delayed := s.eng.delayed.erase h }

/-- An item leaves the delay list and its level. -/
def leaveLists (h : Nat) (i : WorkItem) (s : State) : State :=
  noteReady { s with
    eng.delayed := s.eng.delayed.erase h
    eng.ready := tset s.eng.ready i.prio ((tgetD s.eng.ready i.prio []).erase h) }

/-- A chain or a POST makes an item ready (R522, R527). -/
def makeReady (h : Nat) (s : State) : State :=
  match s.item h with
  | none => s
  | some i =>
    if i.state = .delayed || i.state = .done then enterReady h i s
    else if i.state = .cancelled then { s with eng.readyCancelled := inc64 s.eng.readyCancelled }
    else s

/-- An item takes the lowest FREE descriptor, and is ready at once or waits for its DUE; fewer than 6,554 free descriptors raise source 484
(R525, R536). -/
def submitItem (i : WorkItem) (s : State) : Option (Nat × State) :=
  let s := dropFreed s
  match s.freeHandle with
  | none => none
  | some h =>
    let gen := wrap 16 (tgetD s.eng.gens h 0 + 1)
    let i := { i with gen := gen, state := .delayed }
    let s : State := { s.setItem h i with eng.gens := tset s.eng.gens h gen }
    let s := if s.isDue i.due then enterReady h i s else { s with eng.delayed := s.eng.delayed ++ [h] }
    some (h, if 65536 - s.eng.items.length = 6553 then raise 484 s else s)

/-- DUE order of two delayed items, with ties to the lower handle when `byHandle`. -/
def dueLe (s : State) (byHandle : Bool) (a b : Nat) : Bool :=
  let d (h : Nat) : Int :=
    let t := s.ticksTo (((tget s.eng.items h).map WorkItem.due).getD 0)
    if t ≥ 2 ^ 47 then (t : Int) - 2 ^ 48 else t
  if d a = d b then !byHandle || a ≤ b else d a < d b

/-- Items that fall due become ready: the first 16 in DUE order and then insertion order, in DUE order and then handle order (R524, R525).
DEDUCED, unsafe: log entry 118. -/
def releaseDue (s : State) : State :=
  let due := s.eng.delayed.filter (fun h => ((s.item h).map (fun i => s.isDue i.due)).getD false)
  let now := ((due.mergeSort (dueLe s false)).take 16).mergeSort (dueLe s true)
  forEach now s (fun h s => match s.item h with
    | some i => enterReady h i s
    | none => s)

/-- An item as firmware submits it. -/
def firmwareItem (n : NewItem) : WorkItem :=
  { gen := 0, state := .delayed, engine := n.engine, prio := n.prio, activity := n.activity, cls := n.cls, chainEn := n.chain.isSome,
    regionMask := n.regionMask, due := n.due, entry := n.entry, arg := n.arg, chain := n.chain.getD 0 }

/-- WORK_ITEM_RELEASE (R524, R525): the releases of a clock, then the items that firmware submits in it. DESIGN CHOICE, unsafe: log entry 117. -/
def execWorkItemRelease (items : NewItems) (s : State) : Host.Outcome State Fault Refusal :=
  .next (if !s.isReady 95 then s
  else forEach items (releaseDue s) (fun n s => ((submitItem (firmwareItem n) s).map Prod.snd).getD s))

/-! ## Executors and grants (R521, R523, R530, R534) -/

/-- The key of an executor, its region, and its function. -/
def execKey (engine : Bool) (n : Nat) : Nat := if engine then 32 + n else n
def execRegion (engine : Bool) (n : Nat) : Nat := if engine then n / 8 else n / 4
def execFn (engine : Bool) (n : Nat) : Nat := if engine then 80 + n / 8 else 84 + n / 4

def State.engine (s : State) (e : Nat) : Engine := tgetD s.eng.engines e {}
def State.setEngine (s : State) (e : Nat) (v : Engine) : State := { s with eng.engines := tset s.eng.engines e v }

/-- An executor takes work: its cluster is ready, its cell is not retired, and it is not stopped (R517, R618). -/
def State.live (s : State) (engine : Bool) (n : Nat) : Bool :=
  s.isReady (execFn engine n) && !s.boot.retired.contains (if engine then 5 else 6, n) && !(engine && (s.engine n).state = .stopped)

/-- The live executors of a kind. -/
def State.liveOnes (s : State) (engine : Bool) : List Nat := (List.range (if engine then 32 else 16)).filter (s.live engine)

/-- The item that an executor runs. -/
def State.running_ (s : State) (engine : Bool) (n : Nat) : Option (Nat × WorkItem) :=
  (tget s.eng.runs (execKey engine n)).bind (fun h => (s.item h).map (fun i => (h, i)))

/-- No live executor of an item's kind lies in its REGION_MASK (R523). -/
def State.overridden (s : State) (i : WorkItem) : Bool :=
  !(s.liveOnes i.engine).any (fun n => i.regionMask.testBit (execRegion i.engine n))

/-- An item may go to an executor, by kind and region. -/
def State.suits (s : State) (engine : Bool) (n : Nat) (i : WorkItem) : Bool :=
  i.engine = engine && (i.regionMask.testBit (execRegion engine n) || s.overridden i)

/-- COST and MIN_SHARE of a class. -/
def State.energyClass (s : State) (e : Nat) : Nat × Nat := s.eng.classes.getD e (0, 0)

/-- An item is energy-eligible (R528, R530). -/
def State.eligible (s : State) (i : WorkItem) : Bool :=
  i.cls = 0 || decide (s.eng.use.getD i.cls 0 < (s.energyClass i.cls).2) || decide (s.eng.balance > 0)

/-- An activity is within its TIME_BUDGET (R533). -/
def State.withinBudget (s : State) (a : Nat) : Bool :=
  let b := (s.eng.activities.getD a ⟨0, 100⟩).budget
  b = 0 || s.eng.actUse.getD a 0 < b

/-- The ready items that suit an executor, in the order of choose (R534). -/
def State.candidates (s : State) (engine : Bool) (n : Nat) : List (Nat × WorkItem) :=
  ((List.range 64).reverse.flatMap (fun p => tgetD s.eng.ready p [])).filterMap (fun h =>
    (s.item h).bind (fun i => if s.suits engine n i then some (h, i) else none))

/-- choose (R534). -/
def State.chooseItem (s : State) (engine : Bool) (n : Nat) : Option (Nat × WorkItem) :=
  let ok := (s.candidates engine n).filter (fun e => s.eligible e.2)
  (ok.find? (fun e => s.withinBudget e.2.activity)).or ok.head?

/-- An executor waits for work. -/
def State.waits (s : State) (engine : Bool) (n : Nat) : Bool := s.live engine n && (tget s.eng.runs (execKey engine n)).isNone

/-- An executor is served before another for an item: it has waited longer, with ties to the lower number (R521).
DESIGN CHOICE, unsafe: log entry 119. -/
def State.before (s : State) (engine : Bool) (a b : Nat) : Bool :=
  let t (n : Nat) : Nat := tgetD s.eng.asked (execKey engine n) 0
  t a < t b || (t a = t b && a < b)

/-- Each class whose items are deferred is counted once a period (R530). -/
def noteDeferred (cs : List (Nat × WorkItem)) (s : State) : State :=
  forEach (cs.filter (fun e => !s.eligible e.2)) s (fun e s =>
    let c := e.2.cls
    if s.eng.deferredNow.testBit c then s
    else { s with
      eng.deferredNow := setBit s.eng.deferredNow c true
      eng.deferrals := s.eng.deferrals.mapIdx (fun i n => if i = c then inc64 n else n) })

/-- What an engine starts a job with: ARG in X0, an empty stack and an empty journal, or what a restarted job carries (R509, R510, R516,
R517). PRESUMED, unsafe: log entry 120. -/
def startEngine (n : Nat) (i : WorkItem) (s : State) : State :=
  let e := s.engine n
  let ctx : EngineCtx := match i.ctx with
    | some c => c
    | none => { e.ctx with x := i.arg :: e.ctx.x.drop 1, journal := [] }
  s.setEngine n { e with
    state := .running
    upc := (i.entry + bit i.restart) % 16384
    stack := []
    ctx := ctx
    memError := false
    ops := []
    waitStart := none
    retries := 0
    finished := none }

/-- Geyser grants nothing on the way into Dormant mode (R535). -/
def State.grantsOff (s : State) : Bool := s.power.moving && s.power.target = .dormant

/-- An item goes to an executor. -/
def grantItem (engine : Bool) (n h : Nat) (i : WorkItem) (s : State) : State :=
  let s := if s.withinBudget i.activity then s
    else { s with eng.spill := s.eng.spill.mapIdx (fun k x => if k = i.activity then inc64 x else x) }
  let s := if i.regionMask.testBit (execRegion engine n) then s
    else raiseFirst 487 { s with eng.maskOverride := inc64 s.eng.maskOverride }
  let s := leaveLists h i s
  let s : State := { s.setItem h { i with state := .running, started := s.time.localNs, overran := false } with
    eng.runs := tset s.eng.runs (execKey engine n) h }
  if engine then startEngine n i s else s

/-- WORK_ITEM_GRANT. -/
def execWorkItemGrant (engine : Bool) (executor : Nat) (s : State) : Host.Outcome State Fault Refusal :=
  if !s.isReady 95 || !s.running || s.grantsOff || !s.waits engine executor then .next s
  else
    let s := noteDeferred (s.candidates engine executor) s
    match s.chooseItem engine executor with
    | none => .next s
    | some (h, i) =>
      let rivals := (List.range (if engine then 32 else 16)).filter (fun n =>
        n != executor && s.waits engine n && s.suits engine n i && s.before engine n executor)
      .next (if rivals = [] then grantItem engine executor h i s else s)

/-! ## Completion, overrun and cancel (R522, R527, R529, R533) -/

/-- An executor asks for work. DESIGN CHOICE, unsafe: log entry 119. -/
def askWork (k : Nat) (s : State) : State :=
  { s with
    eng.runs := tdel s.eng.runs k
    eng.asked := tset s.eng.asked k s.time.localNs }

/-- Run time in whole µs is charged to a class and an activity. DESIGN CHOICE, unsafe: log entry 119. -/
def chargeRun (i : WorkItem) (us : Nat) (s : State) : State :=
  let s : State := { s with eng.actUse := s.eng.actUse.mapIdx (fun k x => if k = i.activity then x + us else x) }
  if i.cls = 0 then s
  else { s with
    eng.use := s.eng.use.mapIdx (fun k x => if k = i.cls then x + us else x)
    eng.balance := s.eng.balance - ((s.energyClass i.cls).1 * us : Nat) }

/-- A host job's item becomes DONE and its command completes; firmware releases its own item at once. DESIGN CHOICE, unsafe: log entry 117. -/
def concludeItem (h : Nat) (i : WorkItem) (s : State) : State :=
  if i.hostJob then
    let (status, detail, res) := i.ending.getD (i.result, 0xFFFF, [])
    finish i.pendId status detail res (s.setItem h i)
  else { s with eng.items := tdel s.eng.items h }

/-- An item completes at its executor. -/
def completeItem (engine : Bool) (n h : Nat) (i : WorkItem) (result : Nat) (s : State) : State :=
  let ns := s.time.localNs - i.started
  let s := askWork (execKey engine n) (chargeRun i (ceilDiv ns 1000) s)
  let i := { i with state := .done, result := result, runNs := min ns (2 ^ 32 - 1) }
  let s := concludeItem h i s
  if i.chainEn then makeReady i.chain s else s

/-- Result of the item that an executor may complete now: an engine's at its END, once its memory operations but a LOCK_TAKE have completed
(DESIGN CHOICE, unsafe: log entry 121), a host job's once its work is done, another's as its routine
gives it. -/
def State.readyResult (s : State) (engine : Bool) (n : Nat) (i : WorkItem) (given : Nat) : Option Nat :=
  if engine then (s.engine n).finished.filter (fun _ => (s.engine n).ops.all (fun op => op.code = 5))
  else if i.hostJob then i.ending.map Prod.fst
  else some given

/-- WORK_ITEM_COMPLETE. -/
def execWorkItemComplete (engine : Bool) (executor result : Nat) (s : State) : Host.Outcome State Fault Refusal :=
  match s.running_ engine executor with
  | none => .next s
  | some (h, i) =>
    .next (match s.readyResult engine executor i result with
      | none => s
      | some r =>
        let s := completeItem engine executor h i r s
        if engine then s.setEngine executor { s.engine executor with state := .idle, finished := none } else s)

/-- ITEM_LIMIT_OVERRUN (R533). -/
def execItemLimitOverrun (engine : Bool) (executor : Nat) (s : State) : Host.Outcome State Fault Refusal :=
  .next (match s.running_ engine executor with
    | none => s
    | some (h, i) =>
      if i.overran then s
      else
        let s := s.setItem h { i with overran := true }
        raiseFirst 486 { s with eng.overrun := s.eng.overrun.mapIdx (fun k x => if k = i.activity then inc64 x else x) })

/-- A cancel (R527). A delayed item whose DUE has come is cancelled in the clock in which it becomes ready. DEDUCED, unsafe: log entry 118. -/
def cancelItem (h : Nat) (i : WorkItem) (s : State) : State :=
  if i.state = .delayed || i.state = .ready then
    let s := if i.state = .delayed && s.isDue i.due then { s with eng.readyCancelled := inc64 s.eng.readyCancelled } else s
    let s : State := { leaveLists h i s with eng.cancelled := inc64 s.eng.cancelled }
    concludeItem h { i with state := .cancelled, ending := some (0x04D2, 0xFFFF, []) } s
  else s.setItem h { i with cancelReq := true }

/-- D_min of classes in nJ per period (R531). -/
def minDemand (cs : List (Nat × Nat)) : Nat := ((cs.drop 1).map (fun c => c.1 * c.2)).sum
def State.dMin (s : State) : Nat := minDemand s.eng.nextClasses

/-- Entry to Dormant mode (R535): every host job ends with 0x0402, and the other items are discarded. -/
def endItems (s : State) : State :=
  let s := forEach s.eng.items s (fun e s =>
    if e.2.hostJob && e.2.state != .done && e.2.state != .cancelled then finish e.2.pendId 0x0402 0xFFFF [] s else s)
  { s with
    eng.items := []
    eng.delayed := []
    eng.ready := []
    eng.runs := []
    eng.heldReady := 0 }

/-! ## The end of a host job's work -/

/-- A job has done its work, with a status and results; a cancel makes the status 0x04D2 (R540). -/
def endJob (handle : Nat) (i : WorkItem) (status : Nat) (res : Results) (s : State) : State :=
  s.setItem handle { i with ending := some (if i.cancelReq then 0x04D2 else status, 0xFFFF, res) }

/-- STATUS, DETAIL and results of an embedded frame, as a job's results. -/
def embeddedResults (status detail : Nat) (res : Results) : Results := [(2, status), (2, detail)] ++ res

end Sys2Proof.Machine
end

