-- ==== Sys2Proof/Machine/OcfRun.lean ====
section
/-! DEFINITION. How a command frame is executed: the checks of R413 in their order, the record of SEQ, the audit entries, staging in a commit
group, the command's own check and effect, and the reply. `bodyOf` names the own part of each groupable command. -/

namespace Sys2Proof.Machine

/-- The command intake takes frames: firmware runs and function 94 is ready (Table 15-4). -/
def State.accepts (s : State) : Bool := s.running && s.isReady 94

/-- The state that staged members would leave: a member that now fails its own check is passed over (R427). -/
def stagedState (bodyOf : Instr → Option Body) (ms : List Instr) (s : State) : State :=
  ms.foldl (fun s i =>
    match bodyOf i with
    | none => s
    | some b => if (b.check s).isSome then s else (b.apply s).st) s

/-- Step 12 of R413 and R427: why a group member cannot be staged. -/
def memberError (h : Ocf) (b : Body) (s : State) : Option Err :=
  if !b.groupable then plain 0x010A
  else match tget s.ocf.groups h.group with
    | none => plain 0x0404
    | some g =>
      if h.group = 0 || g.sender != h.senderKey then plain 0x0404
      else if g.members.length ≥ 256 || g.bytes + h.length > 65536 then plain 0x0303
      else none

/-- Steps 13 and 14: the parameter length, which R406 limits but for SEC_FW_WRITE (Table 10-9), the reserved fields, the limits of R425, and the command's own check. DESIGN CHOICE, unsafe: log entry 5.
DEDUCED, unsafe: log entry 88. -/
def ownError (h : Ocf) (b : Body) (s own : State) : Option Err :=
  if !b.lenOk h.length || (h.length > 16256 && b.opcode != 0x0B06) then plain 0x0107
  else match h.rsv with
    | some off => badAt 0x0108 off
    | none =>
      match s.pendError h b.pending with
      | some e => some e
      | none => b.check own

/-- A frame is entered in the audit ring at step 11: a state-changing command or a group member (Table 10-8). DEDUCED, unsafe: log entry 105. -/
def Body.audited (b : Body) (h : Ocf) : Bool := b.changes || h.isMember

/-- The device ends a frame that was recorded: a RESULT entry where Table 10-8 asks for one, then the reply. -/
def conclude (h : Ocf) (b : Body) (key : Option Bytes) (gen status detail : Nat) (res : Results) (s : State) : State :=
  answerFrame b.opcode h key gen status detail res
    (if b.audited h && !okStatus status then auditCommand 0x02 b.opcode h status 0 s else s)

/-- A member joins its group (R427). -/
def stage (i : Instr) (h : Ocf) (s : State) : State :=
  match tget s.ocf.groups h.group with
  | none => s
  | some g => { s with
      ocf.groups := tset s.ocf.groups h.group { g with
        members := g.members ++ [i]
        bytes := g.bytes + h.length } }

/-- The commands that read or write the entries of the MAC, host or LPM tables (Table 5-10). -/
def tableOpcode (opcode : Nat) : Bool := (0x0504 ≤ opcode && opcode ≤ 0x0509) || (0x0605 ≤ opcode && opcode ≤ 0x060C)

/-- A command that has taken effect waits for a replica: a table command, and a group whose members have written a table (R30, Table 15-4). -/
def State.waitsFor (s : State) (opcode : Nat) : Bool :=
  !s.allReached && (tableOpcode opcode || (opcode = 0x0105 && s.fwd.behind != []))

/-- The answer of a command that waited for a replica. -/
def endTableWait (w : TableWait) (s : State) : State :=
  match w.pend with
  | some id => finish id w.status w.detail w.results s
  | none =>
    answerFrame w.opcode w.cmd w.key w.hostGen w.status w.detail w.results
      (if w.audited && !okStatus w.status then auditCommand 0x02 w.opcode w.cmd w.status 0 s else s)

/-- A replica has reported ready, or has failed: it takes the updates that it waited for, and once every replica has them the commands complete, in
the order of their acceptance (R30, Table 15-4). DEDUCED, unsafe: log entry 140. -/
def resumeTables (s : State) : State :=
  let s := catchUp s
  if s.allReached then forEach s.ocf.tableWaits { s with ocf.tableWaits := [] } endTableWait else s

/-- The command's effect, and its reply: 0x0001 with an entry in the pending list, or its final status; a table command's comes once every replica
has taken the update, and a flow command's when its operation ends. -/
def perform (h : Ocf) (b : Body) (key : Option Bytes) (gen : Nat) (s : State) : State :=
  let a := b.apply s
  match a.waits with
  | some id => { a.st with flow.cmds := tset a.st.flow.cmds id { reply := .frame b.opcode h key gen (b.audited h) } }
  | none =>
  if b.pending && a.status = 0 then
    let p : PendCmd :=
      { opcode := b.opcode, cmd := h, sender := h.senderKey, key := key, hostGen := gen, audited := b.changes,
        final := if a.later || a.st.waitsFor b.opcode then none else some (a.status, a.detail, a.results) }
    conclude h b key gen 0x0001 0xFFFF a.early { a.st with
      ocf.pend := tset a.st.ocf.pend s.ocf.nextPend p
      ocf.nextPend := s.ocf.nextPend + 1
      ocf.tableWaits := if a.later || !a.st.waitsFor b.opcode then a.st.ocf.tableWaits
        else a.st.ocf.tableWaits ++ [⟨b.opcode, h, key, gen, b.audited h, a.status, a.detail, a.results, some s.ocf.nextPend⟩] }
  else if a.st.waitsFor b.opcode then { a.st with
    ocf.tableWaits := a.st.ocf.tableWaits ++ [⟨b.opcode, h, key, gen, b.audited h, a.status, a.detail, a.results, none⟩] }
  else conclude h b key gen a.status a.detail a.results a.st

/-- Steps 12 to 14 and the effect, for a frame that passed step 11 and was entered in the audit ring. -/
def execute (bodyOf : Instr → Option Body) (i : Instr) (h : Ocf) (b : Body) (key : Option Bytes) (gen : Nat) (s : State) : State :=
  if h.isMember then
    match memberError h b s with
    | some e => conclude h b key gen e.1 e.2 [] s
    | none =>
      let members := ((tget s.ocf.groups h.group).map Group.members).getD []
      match ownError h b s (stagedState bodyOf members s) with
      | some e => conclude h b key gen e.1 e.2 [] s
      | none => conclude h b key gen 0x0002 0xFFFF [] (stage i h s)
  else
    match ownError h b s s with
    | some e => conclude h b key gen e.1 e.2 [] s
    | none => perform h b key gen s

/-- A frame that passed steps 1 to 10: SEQ is recorded, a state-changing command or group member is entered in the audit ring, and the rest
follows. A state-changing command is rejected while the ring is held full (R460). -/
def takeIn (bodyOf : Instr → Option Body) (i : Instr) (h : Ocf) (b : Body) (key : Option Bytes) (gen : Nat) (s : State) : State :=
  let s := recordSeq h s
  if b.changes && s.roles.audit.full && b.opcode != 0x0B0A then answerFrame b.opcode h key gen 0x03B2 0xFFFF [] s
  else execute bodyOf i h b key gen (if b.audited h then auditCommand 0x01 b.opcode h 0 0 s else s)

/-- The frames that have started and wait for a replica or for a flow operation: opcode, frame, and whether it changes state. -/
def State.started (s : State) : List (Nat × Ocf × Bool) :=
  (s.ocf.tableWaits.filter (fun w => w.pend.isNone)).map (fun w => (w.opcode, w.cmd, w.audited)) ++
  (tvals s.flow.cmds).filterMap (fun c => match c.reply with
    | .frame opcode h _ _ audited => some (opcode, h, audited)
    | _ => none)

/-- Two state-changing commands do not run together (R423): they are of one class, or one of them is a group's commit (R429). -/
def exclusive (a b : Nat) : Bool := a / 256 = b / 256 || a = 0x0105 || b = 0x0105

/-- A frame may start: no earlier frame of its channel waits or runs (R422), and where it changes state no command of its class does (R423).
DEDUCED, unsafe: log entry 6. -/
def State.mayStart (s : State) (opcode : Nat) (changes : Bool) (h : Ocf) : Bool :=
  s.started.all (fun w => w.2.1.transport.channel != h.transport.channel && !(changes && w.2.2 && exclusive w.1 opcode)) &&
  (s.ocf.intake.takeWhile (fun e => !(e.opcode = opcode && e.cmd = h))).all (fun e => e.cmd.transport.channel != h.transport.channel)

/-- A command frame, executed once it may start. DESIGN CHOICE, safe: log entry 6. -/
def ocfRun (bodyOf : Instr → Option Body) (i : Instr) (h : Ocf) (b : Body) (s : State) : State :=
  if !(s.accepts && s.mayStart b.opcode b.changes h) then s
  else
    let (gen, s) := takeIntake b.opcode h s
    match s.gate h b.opcode b.changes b.toFactory with
    | .reject st => respond b.opcode h gen (mkReply b.opcode h none false false st 0xFFFF [] s.ocf.epoch) s
    | .badMac => respond b.opcode h gen (mkReply b.opcode h none false false 0x0201 0xFFFF [] s.ocf.epoch) (macFailure h s)
    | .resend k => resend k h gen s
    | .pass key => takeIn bodyOf i h b key gen s

end Sys2Proof.Machine
end

