-- ==== Sys2Proof/Machine/Security.lean ====
section
/-! DEFINITION. The key store, the life cycle, firmware images and the audit commands (chapter 10): the own part of each command of class
0x0B, and the operations that boot and reset share with them. -/

namespace Sys2Proof.Machine

/-! ## Firmware images -/

/-- The image copy A or B. -/
def State.image (s : State) (b : Bool) : List Host.Cell := if b then s.flash.imageB else s.flash.imageA

/-- A header field of a copy (Table 10-6). -/
def imageField (img : List Host.Cell) (off len : Nat) : Nat := beNat (memRead img off len)

/-- The state allows the image's KIND (Table 10-3). -/
def kindAllowed (l : Lifecycle) (kind : Nat) : Bool :=
  kind = 0 || (kind = 1 && (l = .factory || l = .returned))

/-- R453: 0 when the copy verifies, otherwise the code of R609. DESIGN CHOICE, safe: log entry 9. -/
def verifyImage (f : Flash) (l : Lifecycle) (img : List Host.Cell) : Nat :=
  if imageField img 0 4 != 0x414B4657 then 0x02
  else if !kindAllowed l (imageField img 6 1) then 0x05
  else if imageField img 8 4 < f.rollbackFloor then 0x04
  else if f.revoked.testBit (imageField img 7 1) || imageField img 7 1 ≥ 4 then 0x06
  else if !Config.signatureValid (imageField img 7 1) (memRead img 0 32 ++ memRead img 128 (imageField img 16 4)) (memRead img 32 96) then
    0x03
  else 0

/-- FW_VERSION of the running copy. -/
def State.fwVersion (s : State) : Nat := imageField (s.image s.boot.copyB) 12 4

/-! ## Keys -/

/-- The check value of a key (procedure under R447): the first 4 bytes of HMAC-SHA-256(key, "KCV"). -/
def checkValue (key : Bytes) : Nat := beNat ((hmac key [0x4B#8, 0x43#8, 0x56#8]).take 4)

/-- The mask of R444 that wraps a key: HMAC-SHA-256(K, W). -/
def wrapMask (k : Bytes) (seq role keyId : Nat) : Bytes :=
  hmac k ([0x41#8, 0x4B#8, 0x57#8, 0x52#8, 0x41#8, 0x50#8] ++ beBytes 8 seq ++ beBytes 1 role ++ beBytes 1 keyId)

/-- The new key of a SEC_KEY_WRITE (R444): unwrapped with the key that verified the command, or 32 zero bytes for ROLE 0. -/
def State.unwrap (s : State) (h : Ocf) (role keyId wrapped : Nat) : Bytes :=
  let k := if h.role = 0 then List.replicate 32 0#8 else (s.keyOf h).getD []
  List.zipWith (· ^^^ ·) (beBytes 32 wrapped) (wrapMask k h.seq role keyId)

/-- The check of the named slot (R655): its range, its writer, and MAKER outside FACTORY. -/
def slotError (h : Ocf) (role keyId : Nat) (s : State) : Option Err :=
  firstErr
    [ (role != 1 && role != 2, (0x01B1, 0)),
      (keyId ≥ 4, (0x01B1, 1)),
      (h.role = 3 && role = 1, (0x0203, 0xFFFF)),
      (h.role = 3 && s.roles.lifecycle != .factory, (0x0204, 0xFFFF)) ]

/-- The ACTIVE INSTALLER slots. -/
def State.installerKeys (s : State) : List Nat := (tkeys s.roles.keys).filter (fun k => 8 ≤ k && k < 12)

/-- SEC_KEY_WRITE (R444, R445). -/
def bodySecKeyWrite (h : Ocf) (p : SecKeyWriteP) : Body :=
  { opcode := 0x0B01, changes := true, lenOk := (· = 36), check := slotError h p.role p.keyId,
    apply := fun s =>
      if !p.flashOk then { st := s, status := 0x0501 }
      else
        let key := s.unwrap h p.role p.keyId p.wrapped
        let slot := 4 * p.role + p.keyId
        { st := { s with
            roles.keys := tset s.roles.keys slot key
            flash.keys := tset s.flash.keys slot key }
          results := [(4, checkValue key)] } }

/-- SEC_KEY_CLEAR (R446, R655). -/
def bodySecKeyClear (h : Ocf) (role keyId : Nat) (flashOk : Bool) : Body :=
  let slot := 4 * role + keyId
  { opcode := 0x0B02, changes := true, lenOk := (· = 4),
    check := fun s => match slotError h role keyId s with
      | some e => some e
      | none => if role = 2 && s.roles.lifecycle = .field && s.installerKeys = [slot] then plain 0x04B2 else none
    apply := fun s =>
      if !flashOk then { st := s, status := 0x0501 }
      else { st := { s with
        roles.keys := tdel s.roles.keys slot
        flash.keys := tdel s.flash.keys slot } } }

/-- SEC_KEY_STATUS (Table 10-9): each slot of Table 10-2 as state and check value, then the MAC failure counts of roles 1 to 3. -/
def bodySecKeyStatus (_h : Ocf) : Body :=
  readBody 0x0B03 0 (fun _ => none) fun s =>
    ((List.range 8).flatMap fun k => match tget s.roles.keys (k + 4) with
      | some key => [(1, 1), (4, checkValue key)]
      | none => [(1, 0), (4, 0)]) ++
    [(1, 1), (4, checkValue s.flash.makerKey)] ++ [1, 2, 3].map (fun r => (8, tgetD s.roles.macFail r 0))

/-- SEC_HOST_ACCESS (R441, R605). -/
def bodySecHostAccess (_h : Ocf) (hostAccess : Nat) (flashOk : Bool) : Body :=
  { opcode := 0x0B04, changes := true, lenOk := (· = 4),
    check := fun _ => if hostAccess > 2 then badAt 0x01B1 0 else none
    apply := fun s =>
      if !flashOk then { st := s, status := 0x0501 }
      else { st := { s with
        roles.hostAccess := hostAccess
        flash.settings.hostAccess := some hostAccess } } }

/-! ## Life cycle -/

/-- The life-cycle state of a code. -/
def lifecycleOf : Nat → Option Lifecycle
  | 0 => some .factory | 1 => some .field | 2 => some .returned | 3 => some .void | _ => none

/-- The moves of Table 10-4 and the roles that may issue each. -/
def lifecycleMove (l t : Lifecycle) (role : Nat) : Bool :=
  match l, t with
  | .factory, .field => role = 2 || role = 3 || role = 0
  | .field, .returned => role = 2 || role = 3
  | .returned, .factory => role = 3
  | .factory, .void | .field, .void => role = 2 || role = 3
  | .returned, .void => role = 3
  | _, _ => false

/-- The condition of a move (Table 10-4). -/
def lifecycleCondition (l t : Lifecycle) (s : State) : Bool :=
  match l, t with
  | .factory, .field => s.installerKeys != []
  | .returned, .factory => s.flash.wipeDone
  | _, _ => true

/-- Why SEC_LIFECYCLE_SET is refused (R450). The state that a move leaves is the fuses', which differs from the state in force from a burn up to
its reset. DEDUCED, unsafe: log entry 104. -/
def lifecycleError (h : Ocf) (target serial : Nat) (s : State) : Option Err :=
  match lifecycleOf target with
  | none => badAt 0x01B1 0
  | some t =>
    firstErr
      [ (s.power.mode = .service, (0x0402, 0xFFFF)),
        (!lifecycleMove s.flash.lifecycle t h.role, (0x04B1, 0)),
        (s.flash.lifecycle = .factory && t = .field && s.flash.fieldEntries ≥ 8, (0x03B1, 0xFFFF)),
        (serial != s.flash.serial, (0x04B1, 8)),
        (!lifecycleCondition s.flash.lifecycle t s, (0x04B1, 0)) ]

/-- SEC_LIFECYCLE_SET (R451): the audit entry, the fuses, then the reset that R451 calls for; a failed burn leaves the state.
A fuse burnt to VOID does not come back. DEDUCED, unsafe: log entry 104. DESIGN CHOICE, unsafe: log entry 110. -/
def bodySecLifecycleSet (h : Ocf) (target serial : Nat) (burnOk : Bool) : Body :=
  { opcode := 0x0B05, changes := true, toFactory := target = 0, lenOk := (· = 16), check := lifecycleError h target serial,
    apply := fun s =>
      let t := (lifecycleOf target).getD .void
      let s := auditCommand 0x05 0x0B05 h 0 (s.flash.lifecycle.code * 2 ^ 40 + t.code * 2 ^ 32) s
      if !burnOk then { st := s, status := 0x0501 }
      else { st := { s with
        flash.lifecycle := if s.flash.lifecycle = .void then .void else t
        flash.fieldEntries := s.flash.fieldEntries + bit (t = .field)
        flash.wipeDone := s.flash.wipeDone && !(t = .returned || t = .void)
        boot.resetDue := some 0x04 } } }

/-! ## Images -/

/-- SEC_FW_WRITE (R455): the copy that is not running. -/
def bodySecFwWrite (h : Ocf) (p : SecFwWriteP) : Body :=
  { opcode := 0x0B06, changes := true,
    lenOk := fun n => n = 8 + p.length && n ≤ (if h.role = 0 then 1048544 else 1048528),
    check := fun _ => firstErr [(p.offset + p.length > 16777216, (0x01B1, 0)), (p.data.length != p.length, (0x01B1, 4))],
    apply := fun s =>
      if !p.flashOk then { st := s, status := 0x0501 }
      else if s.boot.copyB then { st := { s with flash.imageA := memWrite s.flash.imageA p.offset p.data } }
      else { st := { s with flash.imageB := memWrite s.flash.imageB p.offset p.data } } }

/-- SEC_FW_ACTIVATE (R455): the copy that is not running becomes preferred; RAISE_FLOOR burns the floor up to its SVN. -/
def bodySecFwActivate (h : Ocf) (raiseFloor : Nat) (flashOk : Bool) : Body :=
  { opcode := 0x0B07, changes := true, lenOk := (· = 4),
    check := fun s =>
      if raiseFloor > 1 then badAt 0x01B1 0
      else if verifyImage s.flash s.roles.lifecycle (s.image !s.boot.copyB) != 0 then plain 0x01B2
      else none
    apply := fun s =>
      if !flashOk then { st := s, status := 0x0501 }
      else
        let svn := imageField (s.image !s.boot.copyB) 8 4
        { st := auditCommand 0x07 0x0B07 h 0 0 { s with
            flash.preferB := !s.boot.copyB
            flash.rollbackFloor := if raiseFloor = 1 then max s.flash.rollbackFloor svn else s.flash.rollbackFloor } } }

/-- SEC_FW_STATUS (Table 10-9): for each copy its header, verification result and preference; the running copy, floor and revoked slots. -/
def bodySecFwStatus (_h : Ocf) : Body :=
  readBody 0x0B08 0 (fun _ => none) fun s =>
    [false, true].flatMap (fun b =>
      [blob (memRead (s.image b) 0 128), (1, verifyImage s.flash s.roles.lifecycle (s.image b)), (1, bit (s.flash.preferB = b))]) ++
    [(1, bit s.boot.copyB), (4, s.flash.rollbackFloor), (1, s.flash.revoked)]

/-! ## Audit commands -/

/-- AUDIT_READ (R459). -/
def bodyAuditRead (_h : Ocf) (from_ count : Nat) : Body :=
  readBody 0x0B09 12 (fun _ => if count = 0 || count > 64 then badAt 0x01B1 8 else none) fun s =>
    ((s.roles.audit.ring.filter (fun e => from_ ≤ e.entryNo)).take count).map (fun e => blob e.bytes) ++ [(32, s.roles.audit.head)]

/-- AUDIT_ACK (R459, R460). DEDUCED, unsafe: log entry 109. -/
def bodyAuditAck (_h : Ocf) (upto : Nat) : Body :=
  writeBody 0x0B0A 8 (fun s => if upto > s.roles.audit.last then badAt 0x01B1 0 else none) fun s =>
    releaseAudit { s with roles.audit.exported := max s.roles.audit.exported upto }

/-- AUDIT_CONFIG (R460, R605). -/
def bodyAuditConfig (_h : Ocf) (auditHold : Nat) (flashOk : Bool) : Body :=
  { opcode := 0x0B0B, changes := true, lenOk := (· = 4),
    check := fun _ => if auditHold > 1 then badAt 0x01B1 0 else none
    apply := fun s =>
      if !flashOk then { st := s, status := 0x0501 }
      else { st := { s with
        roles.audit.hold := auditHold = 1
        flash.settings.auditHold := some auditHold } } }

/-! ## JTAG (R449, R452, R647) -/

/-- JTAG instructions by the names and classes of Table 10-3: the four it names, the other boundary-scan ones of IEEE 1149.1, and internal test. -/
inductive JtagInstr where
  | bypass | idcode | samplePreload | extest | otherScan | internalTest
  deriving DecidableEq, Repr

/-- The device identification register: bits [31:28] are STEPPING, and the rest does not change (R647). -/
def State.idcode (s : State) : Nat := setField 31 28 s.flash.stepping 0x19256F35

/-- The reset controller opens a JTAG instruction by the life-cycle state that it read at PORST_N (R449, Table 10-3); in RETURNED, by the wipe's end
too (R452). BYPASS stays open throughout: DEDUCED, unsafe: log entry 148. -/
def State.jtagOpen (s : State) (i : JtagInstr) : Bool :=
  i = .bypass || match s.roles.lifecycle with
    | .factory => true
    | .field => i != .otherScan && i != .internalTest
    | .returned => s.flash.wipeDone
    | .void => i = .idcode

end Sys2Proof.Machine
end

