-- ==== Sys2Proof/Machine/System.lean ====
section
/-! DEFINITION. The command intake, completions and commit groups, and the own parts of the system, port and diagnostic commands (chapter 9,
classes 0x01, 0x02 and 0x0E). -/

namespace Sys2Proof.Machine

/-! ## Intake -/

/-- The opcodes that Table 9-4's chapters define, as ranges. -/
def opcodeRanges : List (Nat × Nat) :=
  [(0x0101, 0x010B), (0x0201, 0x0205), (0x0301, 0x0315), (0x0401, 0x040C), (0x0410, 0x041D), (0x0501, 0x050F), (0x0520, 0x0520),
   (0x0601, 0x060D), (0x0701, 0x0709), (0x0740, 0x0743), (0x0780, 0x0784), (0x0801, 0x0806), (0x0810, 0x0811), (0x0820, 0x0820),
   (0x0901, 0x090D), (0x0A01, 0x0A07), (0x0B01, 0x0B0B), (0x0C01, 0x0C05), (0x0D01, 0x0D07), (0x0E01, 0x0E06)]

/-- The opcode is defined (R404). -/
def definedOpcode (opcode : Nat) : Bool := opcodeRanges.any (fun r => r.1 ≤ opcode && opcode ≤ r.2)

/-- The opcodes whose commands change no state when they carry no CLEAR. DEDUCED, unsafe: log entry 109. -/
def readOpcodes : List Nat :=
  [0x0101, 0x0102, 0x0103, 0x0108, 0x0202, 0x0203, 0x0303, 0x030F, 0x0312, 0x0315, 0x0403, 0x0406, 0x0408, 0x040C, 0x0411, 0x0415, 0x0419,
   0x041C, 0x041D, 0x0506, 0x0507, 0x050F, 0x0607, 0x0608, 0x060C, 0x060D, 0x0707, 0x0708, 0x0709, 0x0742, 0x0743] ++
  [0x0781, 0x0782, 0x0805, 0x0806, 0x0811, 0x0820, 0x0903, 0x0906, 0x0908, 0x090A, 0x090D, 0x0A07, 0x0B03, 0x0B08, 0x0B09, 0x0C01, 0x0C03,
   0x0D03, 0x0D06, 0x0D07, 0x0E03, 0x0E04]

/-- A frame fails before execution: the device answers it without a MAC. -/
def rejectFrame (opcode : Nat) (f : Ocf) (status : Nat) (s : State) : State :=
  respond opcode f (s.chan f.transport.hostChannel).hostGen (mkReply opcode f none false false status 0xFFFF [] s.ocf.epoch) s

/-- The words of the first complete message of a channel, and the queue after it. DESIGN CHOICE, safe: log entry 129. -/
def headMessage : List InWord → Option (List InWord × List InWord)
  | [] => none
  | w :: ws => if w.eom then some ([w], ws) else (headMessage ws).map (fun r => (w :: r.1, r.2))

/-- The frame's message leaves its transport: the head message of its mailbox channel, with doorbell c when the queue empties (R467, R471), or
the taken compatibility buffer (R478). None when no message is there to take. DESIGN CHOICE, safe: log entry 129. -/
def takeMessage (t : Transport) (s : State) : Option (Nat × State) :=
  match t with
  | .mailbox c =>
    if !s.isReady (84 + c / 4) then none
    else match headMessage (s.chan c).inQ with
      | none => none
      | some (ws, rest) =>
        let s' := s.setChan c { s.chan c with inQ := rest }
        some ((ws.getLast?.map InWord.hostGen).getD 0, if rest.isEmpty then raise (32 + c) s' else s')
  | .compat => s.host.cmb.taken.map (fun _ => (0, { s with host.cmb.taken := none }))
  | .dma _ _ _ => none
  | .inband _ _ _ | .dvorob _ => some (0, s)

/-- The descriptor is well formed (R411, R412). -/
def descriptorOk (f : Ocf) : Bool :=
  let p := fit 24 f.params
  f.role = 0 && f.length = 24 && getBe p 0 8 % 8 = 0 && 32 ≤ getBe p 8 4 && getBe p 8 4 ≤ 1048576 &&
  getBe p 12 4 ≤ 1048576 && getBe p 16 8 % 8 = 0

/-- A frame that the intake has taken from its transport: answered at once when steps 1 to 5 of R413 fail, read by DMA when it is a descriptor,
entered in the intake otherwise. DESIGN CHOICE, safe: log entry 6. -/
def intakeFrame (opcode : Nat) (f : Ocf) (gen : Nat) (s : State) : State :=
  match headerError f with
  | some e => rejectFrame opcode f e s
  | none =>
    if f.isDma then
      match f.transport with
      | .mailbox c =>
        if descriptorOk f then { s with host.dmaBusy := tset s.host.dmaBusy c (opcode, f) } else rejectFrame opcode f 0x0109 s
      | _ => rejectFrame opcode f 0x0109 s
    else if !definedOpcode opcode then rejectFrame opcode f 0x0105 s
    else { s with ocf.intake := s.ocf.intake ++ [⟨opcode, f, gen⟩] }

/-- The transport discards a frame that finds the intake full or not ready (R409, Table 15-4); PCIe frames wait. -/
def Transport.drops (t : Transport) : Bool :=
  match t with
  | .inband _ _ _ | .dvorob _ => true
  | _ => false

/-- A frame that Dormant mode holds: one, from the management port (R410). -/
def holdDormant (opcode : Nat) (f : Ocf) (s : State) : State :=
  match f.transport with
  | .inband p _ _ => if p = mgmtPort && s.ocf.held.isNone then callWake 1 { s with ocf.held := some (opcode, f) } else s
  | _ => s

/-- A descriptor of this channel is in progress: its channel starts no further frame (R422). -/
def State.channelBusy (s : State) (t : Transport) : Bool :=
  match t with
  | .mailbox c => (tget s.host.dmaBusy c).isSome
  | _ => false

/-- OCF_INTAKE (R409, R410). DESIGN CHOICE, safe: log entry 6. -/
def execOcfIntake (opcode : Nat) (f : Ocf) (s : State) : Host.Outcome State Fault Refusal :=
  if s.power.mode = .dormant then .next (holdDormant opcode f s)
  else if !s.accepts || s.ocf.intake.length ≥ 64 then
    .next (if Transport.drops f.transport then { s with ocf.intakeDropped := inc64 s.ocf.intakeDropped } else s)
  else if s.channelBusy f.transport then .next s
  else match takeMessage f.transport s with
    | none => .next s
    | some (gen, s) => .next (intakeFrame opcode f gen s)

/-- DORMANT_OCF_HOLD (R410): as the intake does in Dormant mode. -/
def execDormantOcfHold (opcode : Nat) (f : Ocf) (s : State) : Host.Outcome State Fault Refusal :=
  .next (if s.power.mode = .dormant then holdDormant opcode f s else s)

/-- DMA_COMMAND_READ_COMPLETE (R412): a failed read, or a described frame that sets DMA, answers the descriptor; otherwise the copy enters the
intake as a frame of the DMA-described transport. DESIGN CHOICE, unsafe: log entry 108. -/
def execDmaCommandReadComplete (channel : Nat) (ok : Bool) (opcode : Nat) (f : Ocf) (s : State) : Host.Outcome State Fault Refusal :=
  match tget s.host.dmaBusy channel with
  | none => .next s
  | some (_, d) =>
    let p := fit 24 d.params
    let fail st := answerDescriptor channel st 0xFFFF 0 0 { s with ocf.rejected := tinc s.ocf.rejected st }
    if !ok then .next (fail 0x0503)
    else if f.isDma then .next (fail 0x0109)
    else
      .next (intakeFrame opcode { f with
        transport := .dma channel (getBe p 16 8) (getBe p 12 4)
        present := getBe p 8 4 } (s.chan channel).hostGen s)

/-! ## Completions and groups -/

/-- The completion of a pending command as a frame (R424). -/
def completionOf (p : PendCmd) (again : Bool) (epoch : Nat) : Reply :=
  let f := p.final.getD (0, 0xFFFF, [])
  mkReply p.opcode p.cmd p.key true again f.1 f.2.1 f.2.2 epoch

/-- COMPLETION_SEND (R424): a completed command enters its RESULT and sends its completion; one with NO_REPLY sends nothing and leaves the
list (R403). DESIGN CHOICE, unsafe: log entry 8. -/
def execCompletionSend (id : Nat) (s : State) : Host.Outcome State Fault Refusal :=
  match tget s.ocf.pend id with
  | none => .next s
  | some p =>
    match p.final with
    | none => .next s
    | some (st, _, _) =>
      if p.sends != 0 then .next s
      else
        let s := if p.audited then auditCommand 0x02 p.opcode p.cmd st 0 s else s
        if p.cmd.noReply then
          .next { s with
            ocf.pend := tdel s.ocf.pend id
            ocf.noReplyFailed := if okStatus st then s.ocf.noReplyFailed else inc64 s.ocf.noReplyFailed }
        else
          .next (deliver (completionOf p false s.ocf.epoch) p.hostGen
            { s with ocf.pend := tset s.ocf.pend id { p with sends := 1 } })

/-- COMPLETION_RESEND (R424): three resends, then the entry expires. -/
def execCompletionResend (id : Nat) (s : State) : Host.Outcome State Fault Refusal :=
  match tget s.ocf.pend id with
  | none => .next s
  | some p =>
    if p.sends = 0 then .next s
    else if p.sends ≥ 4 then .next { s with ocf.pend := tdel s.ocf.pend id }
    else
      .next (deliver (completionOf p true s.ocf.epoch) p.hostGen
        { s with ocf.pend := tset s.ocf.pend id { p with sends := p.sends + 1 } })

/-- GROUP_TIMEOUT (R431). -/
def execGroupTimeout (group : Nat) (s : State) : Host.Outcome State Fault Refusal :=
  .next { s with ocf.groups := tdel s.ocf.groups group }

/-- AUDIT_FLASH_WRITE (R456): the oldest entry of the ring that the flash does not hold. -/
def execAuditFlashWrite (s : State) : Host.Outcome State Fault Refusal :=
  let last := (s.flash.audit.getLast?.map AuditEntry.entryNo).getD 0
  match s.roles.audit.ring.find? (fun e => last < e.entryNo) with
  | none => .next s
  | some e => .next { s with flash.audit := lastN 4096 (s.flash.audit ++ [e]) }

/-! ## System commands -/

/-- The ordering code (R6, R7), 16 bytes of ASCII. -/
def Flash.orderingCode (f : Flash) : Bytes :=
  fit 16 ([0x41#8, 0x4B#8, 0x56#8, 0x39#8, 0x32#8, 0x35#8, 0x36#8, 0x2D#8, 0x48#8] ++
    (if f.h72 then [0x37#8, 0x32#8] else [0x34#8, 0x38#8]) ++ [if f.extended then 0x58#8 else 0x43#8])

/-- SYS_IDENTITY (Table 9-11). -/
def bodySysIdentity (_h : Ocf) : Body :=
  readBody 0x0101 0 (fun _ => none) fun s =>
    [blob s.flash.orderingCode, (1, s.flash.stepping), (1, s.roles.lifecycle.code), (1, s.power.mode.code), (1, 0), (4, s.fwVersion),
     (4, s.ocf.epoch), (2, s.ocf.deviceId), (2, 0), (8, s.flash.serial), (6, s.ocf.stationMac), (2, 0)]

/-- SYS_STATUS (Table 9-10). -/
def bodySysStatus (_h : Ocf) : Body :=
  readBody 0x0102 0 (fun _ => none) fun s =>
    [(1, s.power.mode.code), (16, s.boot.ready), (16, s.boot.failed), (8, s.ocf.intakeDropped), (8, s.ocf.segLost),
     (8, s.ocf.noReplyFailed)] ++
    s.ocf.rejected.flatMap (fun e => [(2, e.1), (8, e.2)]) ++ [(4, s.ocf.windows.length + s.ocf.estateWindows.length)] ++
    [0, 1, 2, 3].map (fun r => (8, tgetD s.ocf.floors r 0))

/-- SYS_ECHO (R404, Table 9-10). -/
def bodySysEcho (h : Ocf) : Body :=
  { opcode := 0x0103, changes := false, lenOk := (· ≤ 1024), apply := fun s => { st := s, results := [blob (fit h.length h.params)] } }

/-- The number of the next group: the lowest of 1 to 255 that is not open. -/
def State.freeGroup (s : State) : Nat :=
  (((List.range 255).map (· + 1)).find? (fun n => (tget s.ocf.groups n).isNone)).getD 0

/-- SYS_GROUP_OPEN (R426). -/
def bodySysGroupOpen (h : Ocf) (timeout : Nat) : Body :=
  { opcode := 0x0104, changes := true, lenOk := (· = 4),
    check := fun s =>
      if timeout < 10 || timeout > 60000 then badAt 0x0111 0
      else if (tvals s.ocf.groups).any (fun g => g.sender = h.senderKey) || s.ocf.groups.length ≥ 8 then plain 0x0302
      else none
    apply := fun s =>
      { st := { s with ocf.groups := tset s.ocf.groups s.freeGroup { sender := h.senderKey, timeout } }, results := [(1, s.freeGroup)] } }

/-- GROUP of the header names an open group of the sender. -/
def ownGroupError (h : Ocf) (s : State) : Option Err :=
  match tget s.ocf.groups h.group with
  | some g => if h.group != 0 && g.sender = h.senderKey then none else plain 0x0404
  | none => plain 0x0404

/-- The first member that fails its own check, each checked against the state that the members before it leave (R429). -/
def firstBadMember (bodyOf : Instr → Option Body) : Nat → List Instr → State → Option Err
  | _, [], _ => none
  | k, i :: is, s =>
    match bodyOf i with
    | none => firstBadMember bodyOf (k + 1) is s
    | some b =>
      match b.check s with
      | some e => some (e.1, k)
      | none => firstBadMember bodyOf (k + 1) is (b.apply s).st

/-- The members applied in staging order, up to one that a hardware error stops (R430). -/
def applyMembers (bodyOf : Instr → Option Body) : Nat → List Instr → State → Answer
  | _, [], s => { st := s }
  | k, i :: is, s =>
    match bodyOf i with
    | none => applyMembers bodyOf (k + 1) is s
    | some b =>
      let a := b.apply s
      if a.status != 0 then { st := s, status := 0x0501, detail := k } else applyMembers bodyOf (k + 1) is a.st

/-- SYS_GROUP_COMMIT (R429, R430): the group closes whatever its members do. -/
def bodySysGroupCommit (bodyOf : Instr → Option Body) (h : Ocf) : Body :=
  { opcode := 0x0105, changes := true, lenOk := (· = 0), check := ownGroupError h,
    apply := fun s =>
      let ms := ((tget s.ocf.groups h.group).map Group.members).getD []
      let s := { s with ocf.groups := tdel s.ocf.groups h.group }
      match firstBadMember bodyOf 0 ms s with
      | some e => { st := s, status := e.1, detail := e.2 }
      | none => applyMembers bodyOf 0 ms s }

/-- SYS_GROUP_ABORT (R431). -/
def bodySysGroupAbort (h : Ocf) : Body :=
  writeBody 0x0106 0 (ownGroupError h) fun s => { s with ocf.groups := tdel s.ocf.groups h.group }

/-- SYS_COMPLETION_ACK (R424): a TAG whose command has not completed is left alone. -/
def bodySysCompletionAck (h : Ocf) (tags : List Nat) : Body :=
  { opcode := 0x0107, changes := true, lenOk := fun n => n = 2 + 2 * tags.length,
    check := fun _ => if tags.length = 0 || tags.length > 16 then badAt 0x0111 0 else none
    apply := fun s =>
      { st := { s with
          ocf.pend := s.ocf.pend.filter (fun e =>
            !(e.2.sender = h.senderKey && tags.contains e.2.cmd.tag && e.2.sends != 0)) } } }

/-- SYS_PENDING_READ (R422, Table 9-10): opcode, TAG, SEQ and status, 0x0001 while the command runs. -/
def bodySysPendingRead (h : Ocf) : Body :=
  readBody 0x0108 0 (fun _ => none) fun s =>
    (s.unacked h.senderKey).flatMap (fun p =>
      [(2, p.opcode), (2, p.cmd.tag), (8, p.cmd.seq), (2, (p.final.map Prod.fst).getD 0x0001)])

/-- A group address: the first transmitted bit of a 48-bit MAC address is 1. -/
def isGroupMac (mac : Nat) : Bool := mac.testBit 40

/-- SYS_INTAKE_CONFIG (R433, R605). -/
def bodySysIntakeConfig (_h : Ocf) (p : SysIntakeConfigP) : Body :=
  { opcode := 0x0109, changes := true, lenOk := (· = 16),
    check := fun _ => firstErr
      [(isGroupMac p.stationMac, (0x0111, 0)), (!isGroupMac p.groupMac, (0x0111, 6)), (p.replyTc > 7, (0x0111, 12))],
    apply := fun s =>
      if !p.flashOk then { st := s, status := 0x0501 }
      else { st := { s with
        ocf.stationMac := p.stationMac
        ocf.groupMac := p.groupMac
        ocf.replyTc := p.replyTc
        flash.settings.intake := some (p.stationMac, p.groupMac, p.replyTc) } } }

/-- SYS_DEVICE_ID_WRITE (Table 9-10, R605). -/
def bodySysDeviceIdWrite (_h : Ocf) (deviceId : Nat) (flashOk : Bool) : Body :=
  { opcode := 0x010A, changes := true, lenOk := (· = 2),
    check := fun _ => if deviceId ≥ 4096 then badAt 0x0111 0 else none
    apply := fun s =>
      if !flashOk then { st := s, status := 0x0501 }
      else { st := { s with
        ocf.deviceId := deviceId
        flash.settings.deviceId := some deviceId } } }

/-- SYS_RESET (R434): the reply, then a warm reset with cause COMMAND. -/
def bodySysReset (_h : Ocf) (scope : Nat) : Body :=
  writeBody 0x010B 4 (fun _ => if scope != 0 then badAt 0x0111 0 else none) fun s => { s with boot.resetDue := some 0x03 }

end Sys2Proof.Machine
end

