-- ==== Sys2Proof/Machine/HostRegs.lean ====
section
/-! DEFINITION. The host's register accesses (chapter 11, and the TCAP, RDY and MIR blocks of chapters 13 to 15), mailboxes, doorbells, rings'
registers, interrupts, event inputs and the PCIe function. -/

namespace Sys2Proof.Machine

/-! ## The PCIe function -/

/-- What the function's configuration space reports of the device (Table 11-1). -/
structure PciFunction where
  vendor : Nat
  device : Nat
  revision : Nat
  classCode : Nat
  /-- Subsystem vendor and subsystem ID. -/
  subsystem : Nat
  serial : Nat
  /-- Bytes; the fastest link in units of 0.1 GT/s, its lanes, and the MSI-X vectors. -/
  maxPayload : Nat
  maxRequest : Nat
  maxRate : Nat
  lanes : Nat
  vectors : Nat
  deriving DecidableEq, Repr

/-- The PCIe function (R461). -/
def State.pciFunction (s : State) : PciFunction :=
  ⟨0x1F9A, 0x9256, s.flash.stepping, 0x028000, s.flash.subsystem, s.flash.serial, 512, 4096, 320, 8, 64⟩

/-! ## Reach and refusal -/

/-- A host access reaches the device: PERST_N is high, the link is up, the device has power, and it is not Dormant. -/
def State.hostReach (s : State) : Bool :=
  s.host.perstHigh && s.host.linkGen != 0 && s.boot.porstHigh && s.boot.powerGood = 15 && s.boot.sysclk && s.power.mode != .dormant

/-- BAR 0 beyond HIF, RDY, INT and EVT, and BAR 2, answer (R477, Table 15-10). DESIGN CHOICE, unsafe: log entry 107. -/
def State.barOpen (s : State) : Bool := s.boot.sysrstHigh && !s.boot.safe

/-- Channel `c` is accessible (R476): its cluster has reported ready. -/
def State.chOpen (s : State) (c : Nat) : Bool := s.barOpen && s.isReady (84 + c / 4)

/-- A refused access (R476): logged, counted and raised. -/
def refuseAccess (bar off : Nat) (s : State) : State :=
  raise 114 { s with
    host.urBar := bar
    host.urOffset := off
    host.urCount := satAdd 32 s.host.urCount 1 }

/-- What a host read leaves: the returned word and its status. -/
def readBack (v : Nat) (s : State) : State := { s with out.readData := v, out.readUr := false }

/-- A refused read completes with Unsupported Request status. -/
def readRefused (bar off : Nat) (s : State) : State := { refuseAccess bar off s with out.readUr := true }

/-- A refused write is discarded and reported through Advanced Error Reporting. -/
def writeRefused (bar off : Nat) (s : State) : State :=
  let s := refuseAccess bar off s
  { s with out.urReports := s.out.urReports + 1 }

/-- A write to a BAR 0 or BAR 2 block that may be refused. -/
def guarded (isOpen : Bool) (bar off : Nat) (f : State → State) (s : State) : Host.Outcome State Fault Refusal :=
  .next (if !s.hostReach then s else if isOpen then f s else writeRefused bar off s)

/-- A read of such a block. -/
def guardedRead (isOpen : Bool) (bar off : Nat) (f : State → State) (s : State) : Host.Outcome State Fault Refusal :=
  .next (if !s.hostReach then s else if isOpen then f s else readRefused bar off s)

/-- The offset of a register of channel `c`. -/
def chanOff (c r : Nat) : Nat := 0x20000 + 0x1000 * c + r

/-! ## Mailboxes -/

/-- The inbound queue without the words of an incomplete message at its end (R468). -/
def dropIncomplete (q : List InWord) : List InWord := ((q.reverse).dropWhile (fun w => !w.eom)).reverse

/-- A host word for the inbound queue (R467, R468). -/
def pushWord (c word : Nat) (eom : Bool) (s : State) : State :=
  let ch := s.chan c
  if ch.inQ.length ≥ 256 then
    raise (16 + c) (s.setChan c { ch with
      ovf := true
      ovfCount := wrapAdd 32 ch.ovfCount 1
      broken := !eom
      inQ := if eom then dropIncomplete ch.inQ else ch.inQ })
  else if eom && ch.broken then
    s.setChan c { ch with broken := false, inQ := dropIncomplete ch.inQ }
  else s.setChan c { ch with inQ := ch.inQ ++ [⟨wrap 32 word, eom, ch.hostGen⟩] }

/-- CH_IN_DATA (R467). DESIGN CHOICE, safe: log entry 130. -/
def execChInData (channel word : Nat) (s : State) : Host.Outcome State Fault Refusal :=
  guarded (s.chOpen channel) 0 (chanOff channel 0) (pushWord channel word false) s

/-- CH_IN_EOM (R467): the last word of a message. -/
def execChInEom (channel word : Nat) (s : State) : Host.Outcome State Fault Refusal :=
  guarded (s.chOpen channel) 0 (chanOff channel 4) (pushWord channel word true) s

/-- The next outbound word leaves the queue (R469). -/
def popWord (c : Nat) (s : State) : State :=
  let ch := s.chan c
  match ch.outQ with
  | [] => raise (16 + c) (readBack 0 (s.setChan c { ch with underrun := true }))
  | m :: ms =>
    match m.words with
    | [] => readBack 0 (s.setChan c { ch with outQ := ms })
    | [w] => readBack w (s.setChan c { ch with outQ := ms })
    | w :: ws => readBack w (s.setChan c { ch with outQ := { m with words := ws } :: ms })

/-- CH_OUT_DATA (R469). -/
def execChOutData (channel : Nat) (s : State) : Host.Outcome State Fault Refusal :=
  guardedRead (s.chOpen channel) 0 (chanOff channel 0x14) (fun s => settleLevels (popWord channel s)) s

/-- Words held in an outbound queue. -/
def Channel.outCount (ch : Channel) : Nat := (ch.outQ.map (fun m => m.words.length)).sum

/-- MBX_OUT_POST (R469): the first whole message that waits enters the outbound queue once it fits. -/
def execMbxOutPost (channel : Nat) (s : State) : Host.Outcome State Fault Refusal :=
  let ch := s.chan channel
  match ch.waiting with
  | [] => .next s
  | m :: ms =>
    if s.running && s.isReady (84 + channel / 4) && ch.outCount + m.len ≤ 256 then
      .next (s.setChan channel { ch with outQ := ch.outQ ++ [m], waiting := ms })
    else .next s

/-- A host reset of some channels (R473, R474): their outbound words are flushed and counted, firmware gets a peer-reset event, and what it
still holds for them becomes a reply to an older host. `own` is a HOST_RESET of the channel itself, which also drops the words of a message
in progress; PERST_N and a function level reset leave those to the next message's last word. -/
def hostReset (cs : List Nat) (own : Bool) (s : State) : State :=
  let s := forEach cs s (fun c s =>
    let ch := s.chan c
    let n := ch.outCount
    s.setChan c { ch with
      outQ := []
      flushCount := wrapAdd 32 ch.flushCount n
      hostGen := ch.hostGen + 1
      peerEvent := some n
      waiting := ch.waiting.map (fun m => { m with oldHost := true })
      inQ := if own then dropIncomplete ch.inQ else ch.inQ
      broken := !own && (ch.broken || dropIncomplete ch.inQ != ch.inQ) })
  settleLevels { s with host.hostEpoch := wrap 16 (s.host.hostEpoch + 1) }

/-- CH_CTRL.HOST_RESET (R473). -/
def execChCtrlHostReset (channel : Nat) (s : State) : Host.Outcome State Fault Refusal :=
  guarded (s.chOpen channel) 0 (chanOff channel 0x30) (hostReset [channel] true) s

/-- The firmware side of channels resets (R473): inbound words are flushed and counted, PEER_RESET is set; what stands in the outbound queue
becomes STALE (R474). -/
def firmwareReset (cs : List Nat) (s : State) : State :=
  forEach cs s (fun c s =>
    let ch := s.chan c
    raise (16 + c) (s.setChan c { ch with
      inQ := []
      broken := false
      discard := wrapAdd 32 ch.discard ch.inQ.length
      peerReset := true
      waiting := []
      outQ := ch.outQ.map (fun m => { m with stale := true }) }))

/-- H2D_SET (R470, R472): a doorbell that is already set merges. -/
def execH2dSet (hi : Bool) (bits : Nat) (s : State) : Host.Outcome State Fault Refusal :=
  guarded s.barOpen 0 (0x30000 + 4 * bit hi)
    (fun s => { s with host.h2dPend := s.host.h2dPend ||| (wrap 32 bits <<< (32 * bit hi)) }) s

/-- DOORBELL_TAKE (R470, R472): a doorbell of a cluster that is not ready stays pending. -/
def execDoorbellTake (doorbell : Nat) (s : State) : Host.Outcome State Fault Refusal :=
  if s.running && (doorbell ≥ 16 || s.isReady (84 + doorbell / 4)) then
    .next { s with host.h2dPend := setBit s.host.h2dPend doorbell false }
  else .next s

/-! ## Compatibility mailbox -/

/-- A host write to CMB_DATA (index 0 to 63) or CMB_CTRL (index 64): in place, with a collision while FULL is 1 (R478, R479). -/
def cmbWrite (index word : Nat) (s : State) : State :=
  let hit := s.host.cmb.full
  let s := if index < 64 then { s with host.cmb.data := tset s.host.cmb.data index (wrap 32 word) }
    else { s with
      host.cmb.len := word % 128
      host.cmb.full := hit || word.testBit 31 }
  if hit then
    raise 113 { s with
      host.cmb.collision := true
      host.cmb.collCount := wrapAdd 32 s.host.cmb.collCount 1 }
  else s

/-- CMB_CTRL_GO (R478). -/
def execCmbCtrlGo (len : Nat) (s : State) : Host.Outcome State Fault Refusal :=
  guarded s.barOpen 2 0x100 (cmbWrite 64 (2 ^ 31 + len)) s

/-- CMB_WRITE_WHILE_FULL (R479). -/
def execCmbWriteWhileFull (index word : Nat) (s : State) : Host.Outcome State Fault Refusal :=
  guarded s.barOpen 2 (4 * index) (cmbWrite index word) s

/-- CMB_RSP_ACK (Table 11-5). -/
def execCmbRspAck (s : State) : Host.Outcome State Fault Refusal :=
  guarded s.barOpen 2 0x304 (fun s => { s with host.cmb.rspValid := false }) s

/-- The compatibility channel's previous command has completed or has replied 0x0001 (R478). -/
def State.compatIdle (s : State) : Bool :=
  s.host.cmb.taken.isNone && s.ocf.intake.all (fun e => e.cmd.transport != .compat) &&
  s.started.all (fun w => w.2.1.transport != .compat)

/-- CMB_TAKE (R478): the words 0 to LEN - 1 are copied whole and FULL is cleared. -/
def execCmbTake (s : State) : Host.Outcome State Fault Refusal :=
  if s.running && s.host.cmb.full && s.compatIdle then
    .next { s with
      host.cmb.taken := some ((List.range s.host.cmb.len).map (fun k => tgetD s.host.cmb.data k 0))
      host.cmb.full := false }
  else .next s

/-! ## Ring registers and host presence -/

/-- Receive or transmit ring `i`. -/
def State.ring (s : State) (tx : Bool) (i : Nat) : Ring := tgetD (if tx then s.host.tx else s.host.rx) i {}

def State.setRing (s : State) (tx : Bool) (i : Nat) (r : Ring) : State :=
  if tx then { s with host.tx := tset s.host.tx i r } else { s with host.rx := tset s.host.rx i r }

/-- The host is present (R599). -/
def State.hostHere (s : State) : Bool :=
  s.host.linkGen != 0 && s.host.lpm ≤ 1 && s.host.dstate = 0 && s.host.busMaster && (List.range 8).any (fun i => (s.ring false i).en)

/-- A change of host presence raises source 407 (R599). -/
def updatePresence (s : State) : State :=
  if s.hostHere = s.disc.hostPresent then s else raise 407 { s with disc.hostPresent := s.hostHere }

/-- Offset of a register of a ring (Table 11-6). -/
def ringOff (tx : Bool) (i r : Nat) : Nat := 0x40000 + 0x800 * bit tx + 0x100 * i + r

/-- RING_CTRL_EN (R481): from 0 to 1 it sets HEAD to 0. -/
def execRingCtrlEn (tx : Bool) (ring : Nat) (en : Bool) (s : State) : Host.Outcome State Fault Refusal :=
  guarded s.barOpen 0 (ringOff tx ring 0x14)
    (fun s =>
      let r := s.ring tx ring
      updatePresence (s.setRing tx ring { r with en := en, head := if en && !r.en then 0 else r.head })) s

/-- RING_TAIL (R481): a TAIL outside the ring is not taken. DESIGN CHOICE, unsafe: log entry 107. -/
def execRingTail (tx : Bool) (ring tail : Nat) (s : State) : Host.Outcome State Fault Refusal :=
  guarded s.barOpen 0 (ringOff tx ring 0x10)
    (fun s =>
      let r := s.ring tx ring
      if tail < 2 ^ r.sizeLog2 then s.setRing tx ring { r with tail := tail } else s) s

/-! ## Interrupts -/

/-- The status bits of a group that `mask` names are cleared. -/
def clearStatus (group mask : Nat) (s : State) : State :=
  { s with host.int.status := forEach (bitsOf 16 mask) s.host.int.status (fun k n => setBit n (16 * group + k) false) }

/-- The events of a group's sources that `mask` names; a source that no chapter names never asserts (R489). -/
def raiseMask (group mask : Nat) (s : State) : State :=
  forEach (bitsOf 16 mask) s (fun k s => if isSource (16 * group + k) then raise (16 * group + k) s else s)

/-- INT_STATUS_CLEAR (R490, R654): software's ones. Events of the sources in `sets` fall into the same clock, and win (R12, R494). -/
def execIntStatusClear (group : Nat) (write : StatusClear) (s : State) : Host.Outcome State Fault Refusal :=
  guarded true 0 (0x10000 + 4 * group) (fun s => clearStatus group (write.mask &&& (write.sets ^^^ 0xFFFF)) (raiseMask group write.sets s)) s

/-- INT_SET (Table 11-11). -/
def execIntSet (group mask : Nat) (s : State) : Host.Outcome State Fault Refusal :=
  guarded true 0 (0x10200 + 4 * group) (raiseMask group mask) s

/-- INT_CLAIM (R495). -/
def execIntClaim (group : Nat) (s : State) : Host.Outcome State Fault Refusal :=
  guardedRead true 0 (0x10400 + 4 * group) (fun s => claim group (readBack (s.claimWord group) s)) s

/-- INT_COMPLETE (R497). -/
def execIntComplete (group source : Nat) (s : State) : Host.Outcome State Fault Refusal :=
  guarded true 0 (0x10600 + 4 * group) (complete group source) s

/-- What a group's wish to send does in each power state (R498, R501). -/
def execInterruptMessageSend (group : Nat) (s : State) : Host.Outcome State Fault Refusal :=
  let awake := (s.groupCfg group).wakeEn && s.host.pmeEn && !s.host.pmeStatus
  if !s.groupWants group then .next s
  else if s.groupSends group && s.host.linkGen != 0 && s.host.lpm ≤ 1 then .next (sendGroup group s)
  else if s.host.lpm = 2 || s.host.linkGen = 0 then
    .next (if awake then { s with host.pmeStatus := true, host.wakeLow := true } else s)
  else if s.host.dstate = 3 then
    .next (if awake then { s with host.pmeStatus := true, out.pme := s.out.pme + 1 } else s)
  else .next s

/-- HOLDOFF_EXPIRE (R498). DESIGN CHOICE, safe: log entry 3. -/
def execHoldoffExpire (group : Nat) (s : State) : Host.Outcome State Fault Refusal :=
  .next { s with host.int.holdoffRun := setBit s.host.int.holdoffRun group false }

/-- What PERST_N and a function level reset share (R462): configuration space, the MSI-X table, the fields so marked, and a host reset. -/
def functionReset (s : State) : State :=
  let off (t : Tab Ring) := t.map (fun e => (e.1, { e.2 with en := false }))
  let s : State := { s with
    host.busMaster := false
    host.msixEnable := false
    host.pmeEn := false
    host.pmeStatus := false
    host.dstate := 0
    host.msix := []
    host.pba := 0
    host.rx := off s.host.rx
    host.tx := off s.host.tx
    host.int.enable := 0
    host.int.cfg := s.host.int.cfg.map (fun e => (e.1, { e.2 with vector := e.1 }))
    host.int.armed := 2 ^ 64 - 1 }
  updatePresence (hostReset (List.range 16) false s)

/-- PERST_N (R462): the link goes down as well. -/
def execPerstN (s : State) : Host.Outcome State Fault Refusal :=
  .next (functionReset { s with
    host.perstHigh := false
    host.linkGen := 0
    host.linkWidth := 0
    host.lpm := 0 })

/-- FUNCTION_LEVEL_RESET (R462). -/
def execFunctionLevelReset (s : State) : Host.Outcome State Fault Refusal :=
  .next (if s.hostReach then functionReset s else s)

/-- PERST_N_RELEASE (R569): the link may train; in Dormant mode it is a wake source. -/
def execPerstNRelease (s : State) : Host.Outcome State Fault Refusal :=
  let s := { s with host.perstHigh := true }
  .next (if s.power.mode = .dormant then callWake 4 s else s)

/-- PCIE_POWER_STATE_CHANGE (R485, R501). -/
def execPciePowerStateChange (dstate : Nat) (busMaster msixEnable pmeEnable : Bool) (s : State) :
    Host.Outcome State Fault Refusal :=
  .next (if s.hostReach then
    updatePresence { s with
      host.dstate := if dstate = 0 then 0 else 3
      host.busMaster := busMaster
      host.msixEnable := msixEnable
      host.pmeEn := pmeEnable }
  else s)

/-- PCIE_LINK_CHANGE (R599, R501): WAKE_N is released once the link is back in L0. -/
def execPcieLinkChange (gen width lpm : Nat) (s : State) : Host.Outcome State Fault Refusal :=
  .next (if s.power.mode = .dormant then s
  else updatePresence { s with
      host.linkGen := gen
      host.linkWidth := if gen = 0 then 0 else width
      host.lpm := if gen = 0 then 0 else lpm
      host.wakeLow := s.host.wakeLow && !(gen != 0 && lpm = 0) })

/-- MSIX_VECTOR_UNMASK (R499). -/
def execMsixVectorUnmask (vector : Nat) (s : State) : Host.Outcome State Fault Refusal :=
  if !s.hostReach then .next s
  else
    let e := tgetD s.host.msix vector {}
    let s := { s with host.msix := tset s.host.msix vector { e with masked := false } }
    .next (if s.host.pba.testBit vector && s.host.msixEnable && s.host.dstate = 0 then
      sendVector vector { s with host.pba := setBit s.host.pba vector false }
    else s)

/-! ## Event inputs and time capture -/

/-- A stamp enters the event stamp queue, or is discarded and counted (R587); the latest stamp of its input and edge is kept. -/
def pushStamp (e : Stamp) (s : State) : State :=
  let s := { s with time.latest := tset s.time.latest (2 * e.input + bit (!e.rising)) e }
  if s.time.stamps.length ≥ 256 then raise 393 { s with time.evqOvf := satAdd 32 s.time.evqOvf 1 }
  else { s with time.stamps := s.time.stamps ++ [e] }

/-- CFG of event input `e`. -/
def State.evtCfg (s : State) (e : Nat) : EvtCfg := tgetD s.host.evt.cfg e {}

/-- The polarity that EDGE selects (Table 11-10). -/
def EvtCfg.selects (c : EvtCfg) (rising : Bool) : Bool :=
  (c.edge = 0 && rising) || (c.edge = 1 && !rising) || c.edge = 2

/-- EVENT_INPUT_EDGE (R491, R586). -/
def execEventInputEdge (input : Nat) (rising : Bool) (s : State) : Host.Outcome State Fault Refusal :=
  if !s.host.evt.filterClock then .next s
  else
    let s := { s with host.evt.level := setBit s.host.evt.level input rising }
    let c := s.evtCfg input
    .next (if c.en && c.selects rising then
      pushStamp ⟨input, rising, false, s.time.now⟩
        (raise (288 + input) { s with host.evt.async := setBit s.host.evt.async input false })
    else s)

/-- EVENT_ASYNC_LATCH (R492). -/
def execEventAsyncLatch (input : Nat) (rising : Bool) (s : State) : Host.Outcome State Fault Refusal :=
  let c := s.evtCfg input
  .next (if !s.host.evt.filterClock && c.en && c.asyncEn && c.selects rising then
    let s : State := { s with host.evt.latch := setBit s.host.evt.latch input true }
    if s.power.wakeInputs.testBit input then callWake 2 s else s
  else s)

/-- The filter clock runs again (R492): each set latch raises its source, sets its ASYNC bit and is stamped with this instant. -/
def resumeFilter (s : State) : State :=
  let s := forEach (bitsOf 32 s.host.evt.latch) s (fun e s =>
    pushStamp ⟨e, (s.evtCfg e).edge != 1, true, s.time.now⟩
      (raise (288 + e) { s with host.evt.async := setBit s.host.evt.async e true }))
  { s with host.evt.latch := 0, host.evt.filterClock := true }

/-- The shadow fields of Table 14-3 are latched (R585). -/
def latchTime (s : State) : State := { s with time.latched := s.time.now, time.latchedLocal := s.time.localNs }

/-- TCAP_TIME_NS_READ (R585). -/
def execTcapTimeNsRead (s : State) : Host.Outcome State Fault Refusal :=
  guardedRead s.barOpen 0 0x2000 (fun s => latchTime (readBack (timeNs s.time.now) s)) s

/-- TCAP_CAPTURE (R585). -/
def execTcapCapture (s : State) : Host.Outcome State Fault Refusal := guarded s.barOpen 0 0x2020 latchTime s

/-- The oldest stamp leaves the event stamp queue (R587). -/
def popStamp (s : State) : State := settleLevels { s with time.stamps := s.time.stamps.drop 1 }

/-- TCAP_EVQ_POP (R587). -/
def execTcapEvqPop (s : State) : Host.Outcome State Fault Refusal := guarded s.barOpen 0 0x204C popStamp s

/-! ## Read-to-clear counters (R10) -/

/-- UR_COUNT_READ. -/
def execUrCountRead (s : State) : Host.Outcome State Fault Refusal :=
  guardedRead true 0 0x008 (fun s => readBack s.host.urCount { s with host.urCount := 0 }) s

/-- CH_OVF_COUNT_READ. -/
def execChOvfCountRead (channel : Nat) (s : State) : Host.Outcome State Fault Refusal :=
  guardedRead (s.chOpen channel) 0 (chanOff channel 0x24)
    (fun s => readBack (s.chan channel).ovfCount (s.setChan channel { s.chan channel with ovfCount := 0 })) s

/-- CH_DISCARD_READ. -/
def execChDiscardRead (channel : Nat) (s : State) : Host.Outcome State Fault Refusal :=
  guardedRead (s.chOpen channel) 0 (chanOff channel 0x28)
    (fun s => readBack (s.chan channel).discard (s.setChan channel { s.chan channel with discard := 0 })) s

/-- CH_FLUSH_COUNT_READ. -/
def execChFlushCountRead (channel : Nat) (s : State) : Host.Outcome State Fault Refusal :=
  guardedRead (s.chOpen channel) 0 (chanOff channel 0x2C)
    (fun s => readBack (s.chan channel).flushCount (s.setChan channel { s.chan channel with flushCount := 0 })) s

/-- CMB_COLL_COUNT_READ. -/
def execCmbCollCountRead (s : State) : Host.Outcome State Fault Refusal :=
  guardedRead s.barOpen 2 0x108 (fun s => readBack s.host.cmb.collCount { s with host.cmb.collCount := 0 }) s

/-- RING_DROP_READ: a receive ring's DROP. -/
def execRingDropRead (ring : Nat) (s : State) : Host.Outcome State Fault Refusal :=
  guardedRead s.barOpen 0 (ringOff false ring 0x1C)
    (fun s => readBack (s.ring false ring).drop (s.setRing false ring { s.ring false ring with drop := 0 })) s

/-- BAD_COMPLETE_READ. -/
def execBadCompleteRead (s : State) : Host.Outcome State Fault Refusal :=
  guardedRead true 0 0x10708 (fun s => readBack s.host.int.badComplete { s with host.int.badComplete := 0 }) s

/-- REASSERT_READ. -/
def execReassertRead (source : Nat) (s : State) : Host.Outcome State Fault Refusal :=
  guardedRead true 0 (0x11000 + 4 * source)
    (fun s => readBack (tgetD s.host.int.reassert source 0) { s with host.int.reassert := tdel s.host.int.reassert source }) s

/-- EVQ_OVF_READ. -/
def execEvqOvfRead (s : State) : Host.Outcome State Fault Refusal :=
  guardedRead s.barOpen 0 0x2054 (fun s => readBack s.time.evqOvf { s with time.evqOvf := 0 }) s

end Sys2Proof.Machine
end

