-- ==== Sys2Proof/Machine/Time.lean ====
section
/-! DEFINITION. Estate time, its sources and states, timed outputs and PTP (chapter 14, R575 to R593). Offsets are the time base less the
source, in 1/16 ns. -/

namespace Sys2Proof.Machine

/-! ## The time base -/

/-- The time base counts one cycle of the 25 MHz reference: 40 ns, changed by the frequency adjustment and by at most SLEW_MAX while an offset
remains to be removed (R575, R583); the local counter advances at the same rate (R342). DESIGN CHOICE, unsafe: log entry 2.
DESIGN CHOICE, unsafe: log entry 114. -/
def tick (s : State) : State :=
  let most : Int := 640 * s.time.slewMax
  let take : Int := max (-most) (min most s.time.slewLeft)
  let unit : Int := 65536 * 1000000000
  let acc : Int := s.time.freqRem + 640 * s.time.freqAdj + take * 65536000
  let step := (640 + acc / unit).toNat
  { s with
    time.now := s.time.now + step
    time.freqRem := acc % unit
    time.slewLeft := s.time.slewLeft - take
    time.slewDone := if s.time.state = .locked then s.time.slewDone + take else s.time.slewDone
    time.localNs := wrap 64 (s.time.localNs + (s.time.localSub + step) / 16)
    time.localSub := (s.time.localSub + step) % 16 }

/-- An idle device: one cycle of the reference passes, where the reference runs and nothing holds the always-on domain (DESIGN CHOICE, unsafe: log entry 2). -/
def idle (s : State) : State := if s.boot.porstHigh && s.boot.powerGood = 15 && s.boot.sysclk then tick s else s

/-- The frequency of HOLDOVER and FREE_RUN (R583): FREQ when valid and enabled, else the mean of LOCKED, else nominal.
DESIGN CHOICE, unsafe: log entry 114. -/
def State.freeFreq (s : State) : Int :=
  if s.time.freqValid && s.time.freqEn then s.time.freqMeasured else s.time.lockedFreq.getD 0

/-- One minute of the local counter. -/
def minuteNs : Nat := 60000000000

/-- A measurement in LOCKED is a point of the last 60 s: those before fall away but for the latest of them (R583). -/
def trackLock (s : State) : State :=
  let now := s.time.localNs
  let old := s.time.lockTrack.filter (fun e => e.1 + minuteNs ≤ now)
  { s with time.lockTrack := old.getLast?.toList ++ s.time.lockTrack.filter (fun e => now < e.1 + minuteNs) ++ [(now, s.time.slewDone)] }

/-- The mean frequency of the last 60 s in LOCKED, or since it began (R583): the oscillator's adjustment with the offset that has been removed.
DESIGN CHOICE, unsafe: log entry 114. -/
def State.meanFreq (s : State) : Int :=
  match s.time.lockTrack with
  | [] => s.time.freqAdj
  | (t, d) :: _ => if s.time.localNs ≤ t then s.time.freqAdj else s.time.freqAdj + (s.time.slewDone - d) * 4096000 / ((s.time.localNs - t : Nat) : Int)

/-- A change of the time state raises source 384 (R581). -/
def setTimeState (t : TimeState) (s : State) : State :=
  if s.time.state = t then s
  else
    let s := if s.time.state = .locked then { s with time.lockedFreq := some s.meanFreq, time.lockTrack := [] } else s
    let s := { s with time.state := t, time.streak := 0 }
    let s := match t with
      | .holdover => { s with time.holdoverSince := s.time.localNs, time.freqAdj := s.freeFreq, time.slewLeft := 0 }
      | .freeRun => { s with time.freqAdj := s.freeFreq, time.slewLeft := 0 }
      | .locked => trackLock s
      | _ => s
    raise 384 s

/-- A phase source is on the list and valid (R579, R580). -/
def State.sourceUsable (s : State) (p : PhaseSource) : Bool :=
  match p with
  | .none => false
  | .ptp => (s.time.phase1 = .ptp || s.time.phase2 = .ptp) && s.time.ptpValid
  | .pps => (s.time.phase1 = .pps || s.time.phase2 = .pps) && s.time.ppsValid

/-- The first valid source on the list. -/
def State.firstSource (s : State) : PhaseSource :=
  if s.sourceUsable s.time.phase1 then s.time.phase1
  else if s.sourceUsable s.time.phase2 then s.time.phase2
  else .none

/-- Table 14-2 after a source has become valid or invalid, or has left the list. -/
def reselect (s : State) : State :=
  let f := s.firstSource
  match s.time.state with
  | .freeRun | .holdover =>
    if f = .none then s else setTimeState .acquiring { s with time.source := f, time.takeover := 0 }
  | .locked =>
    if s.sourceUsable s.time.source then s
    else if f = .none then setTimeState .holdover (raise 386 { s with time.source := .none })
    else setTimeState .acquiring (raise 386 { s with time.source := f, time.takeover := 0 })
  | .acquiring =>
    if s.sourceUsable s.time.source then s
    else if f = .none then setTimeState .freeRun (raise 386 { s with time.source := .none })
    else { s with time.source := f, time.streak := 0, time.takeover := 0 }

/-- The level that a pulse train has at its position (R588, Table 14-6). -/
def State.trainLevel (s : State) (o : TimedOutput) : Bool :=
  o.start ≤ s.time.now && (s.time.now - o.start) % (16 * o.period) < 16 * o.width && !(o.traceableOnly && !s.traceable)

/-- An output takes a level; a change is an edge at its pin. -/
def driveOutput (k : Nat) (level : Bool) (s : State) : State :=
  let o := tgetD s.time.outputs k {}
  if o.level = level then s
  else { s with
    time.outputs := tset s.time.outputs k { o with level := level }
    out.edges := s.out.edges ++ [(k, level, s.time.now)] }

/-- Every pulse train recomputes its position (R588). -/
def retrainOutputs (s : State) : State :=
  forEach (List.range 9) s (fun k s =>
    let o := tgetD s.time.outputs k {}
    if o.mode = 2 then driveOutput k (s.trainLevel o) s else s)

/-- The time base steps to an instant (R582): counted, recorded, source 385; the gate lists and the pulse trains follow (R360, R588), and the last PPS
edge keeps its distance. DESIGN CHOICE, unsafe: log entry 114. -/
def stepTime (t : Nat) (s : State) : State :=
  raise 385 (retrainOutputs (resyncGates { s with
    time.lastStep := (t : Int) - s.time.now
    time.stepCount := inc64 s.time.stepCount
    time.now := t
    time.ppsLast := s.time.ppsLast.map (fun e => ((e : Int) + t - s.time.now).toNat)
    time.slewLeft := 0 }))

/-- LOCK_THRESHOLD and STEP_THRESHOLD in 1/16 ns. -/
def State.lockTicks (s : State) : Nat := 16 * s.time.lockThreshold
def State.stepTicks (s : State) : Nat := 16 * s.time.stepThreshold

/-- A measurement of the selected source (R581 to R583). -/
def measureSelected (off : Int) (s : State) : State :=
  let s := { s with time.lastOffset := off }
  let big := off.natAbs > s.stepTicks
  match s.time.state with
  | .acquiring =>
    if big then { stepTime ((s.time.now : Int) - off).toNat s with time.streak := 0 }
    else
      let k := if off.natAbs ≤ s.lockTicks then s.time.streak + 1 else 0
      let s := { s with time.streak := k, time.slewLeft := -off * 1000000 }
      if k ≥ 16 then setTimeState .locked s else s
  | .locked => if big then setTimeState .acquiring s else trackLock { s with time.slewLeft := -off * 1000000 }
  | _ => s

/-- A measurement of a source: a higher-priority one takes over at its second valid measurement (R581). -/
def measure (p : PhaseSource) (off : Int) (s : State) : State :=
  if p = s.time.source then measureSelected off s
  else if s.sourceUsable p && s.firstSource = p then
    if s.time.takeover = 0 then { s with time.takeover := 1 }
    else measureSelected off { s with
      time.source := p
      time.takeover := 0
      time.streak := 0 }
  else s

/-! ## PPS and FREQ -/

/-- One second and one millisecond in 1/16 ns. -/
def milliTicks : Nat := 16000000

/-- The offset of a PPS edge from the whole second of the time base nearest to it, with PPS_DELAY taken off (R579, R581). -/
def ppsOffset (now : Nat) (delayNs : Int) : Int :=
  let e : Int := (now : Int) - delayNs * 16
  (e + secondTicks / 2) % (secondTicks : Int) - secondTicks / 2

/-- PPS becomes invalid (R580). -/
def losePps (s : State) : State :=
  if s.time.ppsValid then reselect (raise 388 { s with time.ppsValid := false, time.takeover := 0 }) else s

/-- PPS_EDGE (R579, R580, R586). -/
def execPpsEdge (rising : Bool) (s : State) : Host.Outcome State Fault Refusal :=
  let s := pushStamp ⟨32, rising, false, s.time.now⟩ s
  if !rising then .next s
  else
    let gap := s.time.ppsLast.map (fun t => s.time.now - t)
    let s := { s with time.ppsLast := some s.time.now }
    match gap with
    | none => .next s
    | some g =>
      if secondTicks - milliTicks ≤ g && g ≤ secondTicks + milliTicks then
        let s := if s.time.ppsValid then s else reselect { s with time.ppsValid := true }
        .next (measure .pps (ppsOffset s.time.now s.time.ppsDelay) s)
      else .next (losePps s)

/-- PPS_TIMEOUT (R580). -/
def execPpsTimeout (s : State) : Host.Outcome State Fault Refusal := .next { losePps s with time.ppsLast := none }

/-- The frequency that HOLDOVER and FREE_RUN follow is taken anew. -/
def refreshFreq (s : State) : State :=
  match s.time.state with
  | .freeRun | .holdover => { s with time.freqAdj := s.freeFreq }
  | _ => s

/-- FREQ becomes invalid (R580). -/
def loseFreq (s : State) : State :=
  if s.time.freqValid then refreshFreq (raise 389 { s with time.freqValid := false }) else s

/-- FREQ_INVALID (R580). -/
def execFreqInvalid (s : State) : Host.Outcome State Fault Refusal := .next (loseFreq s)

/-- FREQ_MEASUREMENT (R580): valid within 50 ppm of 10 MHz. -/
def execFreqMeasurement (hz : Nat) (s : State) : Host.Outcome State Fault Refusal :=
  let err : Int := (hz : Int) - 10000000
  if err.natAbs ≤ 500 then
    .next (refreshFreq { s with time.freqValid := true, time.freqMeasured := err * 100 * 65536 })
  else .next (loseFreq s)

/-- HOLDOVER_EXPIRE (R581). -/
def execHoldoverExpire (s : State) : Host.Outcome State Fault Refusal :=
  .next (if s.time.state = .holdover then setTimeState .freeRun (raise 387 s) else s)

/-- LEAP_EVENT (R576). -/
def execLeapEvent (s : State) : Host.Outcome State Fault Refusal :=
  .next (if s.time.leap61 then
    raise 392 { s with time.utcOffset := s.time.utcOffset + 1, time.leap61 := false }
  else if s.time.leap59 then
    raise 392 { s with time.utcOffset := s.time.utcOffset - 1, time.leap59 := false }
  else s)

/-! ## Timed outputs -/

/-- The level that an output's mode gives it outside a pulse train (Table 14-6). -/
def State.outputLevel (s : State) (o : TimedOutput) : Bool :=
  match o.mode with
  | 1 => true
  | 2 => o.level && !(o.traceableOnly && !s.traceable)
  | 3 => s.groupPending o.group && !(s.groupCfg o.group).mask
  | 4 => s.traceable
  | _ => false

/-- TIMED_OUTPUT_EDGE (R588): the next edge of a pulse train, or the level that another mode's condition now gives. With neither image copy verified,
event output 7 is a 1 Hz square wave (R609). -/
def execTimedOutputEdge (output : Nat) (s : State) : Host.Outcome State Fault Refusal :=
  let o := tgetD s.time.outputs output {}
  let level := if output = 7 && s.boot.stage = 15 then !o.level else if o.mode = 2 then !o.level && !(o.traceableOnly && !s.traceable) else s.outputLevel o
  .next (driveOutput output level s)

/-! ## PTP -/

/-- The order of the default data set comparison (IEEE 1588-2019, 9.3.4), lower first. PRESUMED, unsafe: log entry 115. -/
def announceRank (d : AnnounceData) : List Nat :=
  [d.priority1, d.clockClass, d.accuracy, d.variance, d.priority2, d.identity, d.steps, d.sender, d.senderPort]

/-- One list of numbers comes before another. -/
def listLt : List Nat → List Nat → Bool
  | a :: as, b :: bs => a < b || (a = b && listLt as bs)
  | [], _ :: _ => true
  | _, [] => false

/-- Ports that take part in the BMCA: PTP_MODE CLOCK. -/
def State.clockPorts (s : State) : List (Nat × PtpPort) := s.ptp.ports.filter (fun e => e.2.ptpMode = 1)

/-- The best qualified foreign master, with its port: one heard at least twice. -/
def State.bestForeign (s : State) : Option (Nat × AnnounceData) :=
  s.clockPorts.foldl (fun acc e =>
    match e.2.foreign with
    | some d =>
      if e.2.heard < 2 then acc
      else match acc with
        | some (_, b) => if listLt (announceRank d) (announceRank b) then some (e.1, d) else acc
        | none => some (e.1, d)
    | none => acc) none

/-- The state that the BMCA gives a port. -/
def State.bmcaState (s : State) (best : Option (Nat × AnnounceData)) (port : Nat) (p : PtpPort) : PtpPortState :=
  if p.ptpMode != 1 then .disabled
  else if s.ptp.type != 1 && s.ptp.type != 2 then .listening
  else match best with
    | some (k, b) =>
      if listLt (announceRank b) (announceRank s.ownData) then
        if k = port then .slave
        else match p.foreign with
          | some d => if p.heard ≥ 2 && d.identity = b.identity && d.steps ≤ b.steps then .passive else .master
          | none => .master
      else .master
    | none => .master

/-- The BMCA runs (R590): port states, the parent, and with them the validity of PTP (R580). -/
def bmca (s : State) : State :=
  let best := s.bestForeign
  let ports := s.ptp.ports.map (fun e => (e.1, { e.2 with state := s.bmcaState best e.1 e.2 }))
  let changed := ports.any (fun e => ((tget s.ptp.ports e.1).map PtpPort.state) != some e.2.state)
  let slave := (ports.find? (fun e => e.2.state = .slave)).map Prod.fst
  let parent := if slave.isSome then best.map Prod.snd else none
  let moved := (parent.map AnnounceData.sender) != (s.ptp.parent.map AnnounceData.sender)
  let s' := { s with ptp.ports := ports, ptp.slavePort := slave, ptp.parent := parent }
  let s' := if changed then raise 391 s' else s'
  let s' := if moved then raise 390 s' else s'
  if slave = s.ptp.slavePort then s'
  else reselect { s' with time.ptpValid := slave.isSome, time.takeover := 0 }

/-- domainNumber of a message. -/
def msgDomain : PtpMsg → Nat
  | .announce d _ _ _ _ _ => d
  | .sync d _ _ => d
  | .delayResp d _ => d
  | .delayReq d _ _ _ => d
  | .pdelayReq d _ _ _ => d
  | .pdelayResp d _ _ => d

/-- An event message (R590 bounds their rate). -/
def isEventMsg : PtpMsg → Bool
  | .sync _ _ _ | .delayReq _ _ _ _ | .pdelayReq _ _ _ _ | .pdelayResp _ _ _ => true
  | _ => false

/-- A peer-delay message. -/
def isPeerMsg : PtpMsg → Bool
  | .pdelayReq _ _ _ _ | .pdelayResp _ _ _ => true
  | _ => false

/-- The rate of R590: 64,000 event messages a second. -/
def takeRate (s : State) : Bool × State :=
  let s := if s.time.localNs - s.ptp.rateStart ≥ 1000000000 then { s with ptp.rateStart := s.time.localNs, ptp.rate := 0 } else s
  if s.ptp.rate ≥ 64000 then (false, { s with ptp.overload := inc64 s.ptp.overload })
  else (true, { s with ptp.rate := s.ptp.rate + 1 })

def setPtpPort (port : Nat) (p : PtpPort) (s : State) : State := { s with ptp.ports := tset s.ptp.ports port p }

/-- A message that the instance takes (R580, R581, R584, R590). -/
def handlePtp (port : Nat) (p : PtpPort) (m : PtpMsg) (s : State) : State :=
  match m with
  | .announce _ d utc utcValid l61 l59 =>
    let again := p.foreign.map (fun f => (f.sender, f.senderPort)) = some (d.sender, d.senderPort)
    let s := bmca (setPtpPort port { p with foreign := some d, heard := if again then p.heard + 1 else 1 } s)
    if s.ptp.slavePort = some port && s.time.source = .ptp && s.time.state = .locked && utcValid then
      { s with time.utcOffset := utc, time.leap61 := l61, time.leap59 := l59 }
    else s
  | .sync _ t1 t2 =>
    let s := setPtpPort port { p with syncT1 := t1, syncT2 := t2 } s
    if s.ptp.slavePort != some port then s
    else
      let s := if s.time.ptpValid then s else reselect { s with time.ptpValid := true }
      match p.meanPathDelay with
      | none => s
      | some d => measure .ptp (t2 - t1 - d - p.asymNs * 16) s
  | .delayResp _ t4 =>
    match p.delayT3 with
    | none => s
    | some t3 => setPtpPort port { p with meanPathDelay := some (((p.syncT2 - p.syncT1) + (t4 - t3)) / 2), delayT3 := none } s
  | .delayReq _ t r q => if p.state = .master then sendPtp port 0x9 (setPtpPort port { p with delayAsk := some ⟨t, r, q⟩ } s) else s
  | .pdelayReq _ t r q => if p.delay = 1 then sendPtp port 0x3 (setPtpPort port { p with pdelayAsk := some ⟨t, r, q⟩ } s) else s
  | .pdelayResp _ rt turn => if p.delay = 1 then setPtpPort port { p with meanPathDelay := some ((rt - turn) / 2) } s else s

/-- PTP_MESSAGE_RECEIVE (R589 to R591): discarded while the PTP firmware is not ready (Table 15-4). -/
def execPtpMessageReceive (port : Nat) (msg : PtpMsg) (s : State) : Host.Outcome State Fault Refusal :=
  match tget s.ptp.ports port with
  | none => .next s
  | some p =>
    if !s.running || !s.isReady 98 || s.ptp.type = 0 || p.ptpMode = 0 then .next s
    else if p.ptpMode != 1 && !(s.ptp.type = 4 && isPeerMsg msg) then .next s
    else if p.ptpMode = 1 && msgDomain msg != s.ptp.domain then .next { s with ptp.domainMismatch := inc64 s.ptp.domainMismatch }
    else if isEventMsg msg then
      match takeRate s with
      | (false, s) => .next s
      | (true, s) => .next (handlePtp port p msg s)
    else .next (handlePtp port p msg s)

/-- The kinds that a port in each state sends: a master Sync, Follow_Up, Delay_Resp and Announce; a slave Delay_Req; any port of the P2P
mechanism the peer-delay messages. An answer needs its request, and a Follow_Up the stamp of what it follows. -/
def ptpMaySend (s : State) (p : PtpPort) (kind : Nat) : Bool :=
  match kind with
  | 0x0 | 0xB => p.state = .master
  | 0x8 => p.state = .master && !s.ptp.oneStep && p.syncTx.isSome
  | 0x9 => p.state = .master && p.delayAsk.isSome
  | 0x1 => p.state = .slave && p.delay = 0
  | 0x2 => p.delay = 1
  | 0x3 => p.delay = 1 && p.pdelayAsk.isSome
  | 0xA => p.delay = 1 && p.pdelayAsk.isSome && p.respTx.isSome
  | _ => false

/-- A CLOCK port sends; so does a port of a peer-to-peer transparent clock the peer-delay messages (Table 14-4). -/
def State.ptpTakesPart (s : State) (p : PtpPort) (kind : Nat) : Bool :=
  p.ptpMode = 1 || (p.ptpMode = 2 && s.ptp.type = 4 && isPeerKind kind)

/-- PTP_MESSAGE_SEND (R589). -/
def execPtpMessageSend (port kind : Nat) (s : State) : Host.Outcome State Fault Refusal :=
  match tget s.ptp.ports port with
  | none => .next s
  | some p =>
    if s.running && s.isReady 98 && s.ptp.type != 0 && ptpMaySend s p kind && s.ptpTakesPart p kind then
      let s := sendPtp port kind s
      .next (setPtpPort port { p with
        seqId := if (p.askOf kind).isSome || kind = 0x8 then p.seqId else wrap 16 (p.seqId + 1)
        delayT3 := if kind = 0x1 then none else p.delayT3 } s)
    else .next s

/-- PTP_SYNC_TIMEOUT (R580). -/
def execPtpSyncTimeout (s : State) : Host.Outcome State Fault Refusal :=
  .next (if s.time.ptpValid then reselect { s with time.ptpValid := false, time.takeover := 0 } else s)

/-- ANNOUNCE_TIMEOUT (R580): the port forgets its foreign master, and the BMCA runs. -/
def execAnnounceTimeout (port : Nat) (s : State) : Host.Outcome State Fault Refusal :=
  match tget s.ptp.ports port with
  | none => .next s
  | some p => .next (bmca (setPtpPort port { p with foreign := none, heard := 0 } s))

/-! ## Time commands -/

/-- A phase source of its code. -/
def phaseOf : Nat → PhaseSource
  | 1 => .ptp | 2 => .pps | _ => .none

/-- TIME_SOURCE_CONFIG (Table 14-5, R584). -/
def bodyTimeSourceConfig (_h : Ocf) (p : TimeSourceConfigP) : Body :=
  let lock := orDefault p.lockThreshold 100
  let step := orDefault p.stepThreshold 1000
  let hold := orDefault p.holdoverLimit 14400
  let slew := orDefault p.slewMax 100
  writeBody 0x0901 24
    (fun _ => firstErr
      [ (p.phase1 > 2, (0x0191, 0)),
        (p.phase2 > 2 || (p.phase2 != 0 && p.phase2 = p.phase1), (0x0191, 1)),
        (p.flags > 1, (0x0191, 2)),
        (outsideS 32 p.ppsDelay (-1000000) 1000000, (0x0191, 4)),
        (outside lock 10 10000, (0x0191, 8)),
        (outside step 100 1000000000 || step ≤ lock, (0x0191, 12)),
        (outside hold 1 86400, (0x0191, 16)),
        (outside slew 1 500, (0x0191, 20)) ])
    fun s => refreshFreq (reselect { s with
      time.phase1 := phaseOf p.phase1
      time.phase2 := phaseOf p.phase2
      time.freqEn := p.flags.testBit 0
      time.ppsDelay := signed 32 p.ppsDelay
      time.lockThreshold := lock
      time.stepThreshold := step
      time.holdoverLimit := hold
      time.slewMax := slew })

/-- TIME_SET (R584). -/
def bodyTimeSet (_h : Ocf) (p : TimeSetP) : Body :=
  writeBody 0x0902 16
    (fun s => firstErr
      [ (p.timeNs ≥ 1000000000, (0x0191, 6)),
        (p.flags > 7, (0x0108, 12)),
        (s.time.state = .acquiring || s.time.state = .locked, (0x0491, 0xFFFF)) ])
    fun s =>
      let t := ofSeconds p.timeS p.timeNs
      let s := { s with
        time.utcOffset := signed 16 p.utcOffset
        time.leap61 := p.flags.testBit 0
        time.leap59 := p.flags.testBit 1 }
      let s := if s.time.state = .holdover then setTimeState .freeRun s else s
      if p.flags.testBit 2 then { s with time.slewLeft := ((t : Int) - s.time.now) * 1000000 } else stepTime t s

/-- TIME_STATUS (Table 14-10). -/
def bodyTimeStatus (_h : Ocf) : Body :=
  readBody 0x0903 0 (fun _ => none) fun s =>
    [ (1, s.time.state.code), (1, s.time.source.code), (1, bit s.time.ptpValid), (1, bit s.time.ppsValid), (1, bit s.time.freqValid),
      (8, twos 64 s.time.lastOffset), (8, twos 64 s.time.freqAdj),
      (8, if s.time.state = .holdover then s.time.localNs - s.time.holdoverSince else 0), (8, s.time.stepCount),
      (8, twos 64 s.time.lastStep), (2, twos 16 s.time.utcOffset), (1, bit s.time.leap61 + 2 * bit s.time.leap59) ]

/-- PTP_CLOCK_CONFIG. -/
def bodyPtpClockConfig (_h : Ocf) (p : PtpClockConfigP) : Body :=
  writeBody 0x0904 28
    (fun _ => firstErr [(p.type > 4, (0x0191, 0)), (p.step > 1, (0x0191, 5)), (p.announceTimeout < 2, (0x0191, 6))])
    fun s => bmca { s with
      ptp.type := p.type
      ptp.domain := p.domain
      ptp.priority1 := p.priority1
      ptp.priority2 := p.priority2
      ptp.clockClass := p.clockClass
      ptp.oneStep := p.step = 1
      ptp.announceTimeout := p.announceTimeout
      ptp.ipv4 := p.ipv4
      ptp.ipv6 := p.ipv6 }

/-- PTP_STATUS (Table 14-10): the own data set, the parent's, then each port's state and mean path delay, and the counters. -/
def bodyPtpStatus (_h : Ocf) : Body :=
  readBody 0x0906 0 (fun _ => none) fun s =>
    let ds (d : AnnounceData) : Results :=
      [(1, d.priority1), (1, d.clockClass), (1, d.accuracy), (2, d.variance), (1, d.priority2), (8, d.identity), (2, d.steps), (8, d.sender),
       (2, d.senderPort)]
    [(1, s.ptp.type), (1, s.ptp.domain)] ++ ds s.ownData ++ (match s.ptp.parent with | some d => ds d | none => []) ++
    s.ptp.ports.flatMap (fun e =>
      [(2, e.1), (1, match e.2.state with
          | .disabled => 3 | .listening => 4 | .master => 6 | .passive => 7 | .uncalibrated => 8 | .slave => 9),
       (8, twos 64 (e.2.meanPathDelay.getD 0))]) ++
    [(8, s.ptp.overload), (8, s.ptp.tcUncorrected)]

/-- TIME_OUTPUT_WRITE (Table 14-6). -/
def bodyTimeOutputWrite (_h : Ocf) (p : TimeOutputWriteP) : Body :=
  writeBody 0x0907 32
    (fun _ => firstErr
      [ (p.output > 8, (0x0191, 0)),
        (p.mode > 4, (0x0191, 1)),
        (p.mode = 3 && p.group > 63, (0x0191, 2)),
        (p.flags > 1, (0x0191, 3)),
        (p.mode = 2 && p.startNs ≥ 1000000000, (0x0191, 10)),
        (p.mode = 2 && outside p.period 100 1000000000000, (0x0191, 16)),
        (p.mode = 2 && outside p.width 40 (p.period - 40), (0x0191, 24)) ])
    fun s =>
      let old := tgetD s.time.outputs p.output {}
      let o : TimedOutput :=
        { mode := p.mode, group := p.group, traceableOnly := p.flags.testBit 0, start := ofSeconds p.startS p.startNs, period := p.period,
          width := p.width, level := old.level }
      let s := { s with time.outputs := tset s.time.outputs p.output o }
      driveOutput p.output (if p.mode = 2 then s.trainLevel o else s.outputLevel o) s

/-- EVENT_STAMP_READ (R587): input, edge and time of each latest stamp. -/
def bodyEventStampRead (_h : Ocf) : Body :=
  readBody 0x0908 0 (fun _ => none) fun s =>
    s.time.latest.flatMap (fun e => [(1, e.2.input), (1, if e.2.rising then 1 else 2), (6, timeS e.2.time), (4, timeNs e.2.time)])

end Sys2Proof.Machine
end

