-- ==== Sys2Proof/Machine/Discovery.lean ====
section
/-! DEFINITION. Discovery: fabric peers, LLDP neighbours, domain members and optics slots (R594 to R601). -/

namespace Sys2Proof.Machine

/-- An entry that appears now. -/
def State.seenNow (s : State) : Seen := ⟨s.time.now, s.time.now⟩

/-- A refusal of a full table (0 peers, 1 neighbours, 2 members). -/
def refuseEntry (t : Nat) (s : State) : State := { s with disc.refused := tinc s.disc.refused t }

/-- Evidence for a member (R594, R595): bit 0 fabric peer, 1 member TLV, 2 learning message. -/
def noteMember (device kind : Nat) (s : State) : State :=
  match tget s.disc.members device with
  | some m =>
    let e := setBit m.evidence kind true
    let s' := { s with disc.members := tset s.disc.members device { evidence := e, seen := { m.seen with heard := s.time.now } } }
    if e = m.evidence then s' else raise 402 s'
  | none =>
    if s.disc.members.length ≥ 4096 then refuseEntry 2 s
    else raise 402 { s with disc.members := tset s.disc.members device { evidence := setBit 0 kind true, seen := s.seenNow } }

/-- A duplicate of the own device ID (R596). DESIGN CHOICE, unsafe: log entry 116. -/
def noteDuplicate (s : State) : State := raise 403 { s with disc.dupId := inc64 s.disc.dupId }

/-- MEMBER_TTL_EXPIRE (R594). -/
def execMemberTtlExpire (device : Nat) (s : State) : Host.Outcome State Fault Refusal :=
  .next (if (tget s.disc.members device).isSome then raise 402 { s with disc.members := tdel s.disc.members device } else s)

/-! ## LLDP -/

/-- LLDP settings of a port. -/
def State.lldp (s : State) (port : Nat) : LldpCfg := tgetD s.disc.lldp port {}

/-- One TLV: type in 7 bits, length in 9 (IEEE 802.1AB). -/
def tlv (type : Nat) (v : Bytes) : Bytes := beBytes 2 (type * 512 + v.length) ++ v

/-- The port field of R435 for a local port. -/
def State.portField (s : State) (port : Nat) : Nat := if portKind port = 0 then s.ownSlot * 256 + port else port

/-- GROUP_ID, SLOT and LEARN_GROUP of the member TLV (Table 14-8). -/
def memberTlvBytes (s : State) : Bytes :=
  beBytes 2 s.ocf.deviceId ++ beBytes 2 s.disc.domainId ++ beBytes 2 s.fabricGroupId ++ beBytes 1 s.fabricSlotOrNone ++
  beBytes 1 s.learnGroupOrNone ++ beBytes 1 s.time.state.code ++ beBytes 1 s.power.mode.code

/-- The LLDPDU of a port with a TTL (R595), as an Ethernet frame. -/
def lldpFrame (port ttl : Nat) (s : State) : Bytes :=
  let f := beBytes 6 0x0180C200000E ++ beBytes 6 s.ocf.stationMac ++ beBytes 2 0x88CC ++ tlv 1 (4#8 :: beBytes 6 s.ocf.stationMac) ++
    tlv 2 (7#8 :: beBytes 2 (s.portField port)) ++ tlv 3 (beBytes 2 ttl) ++
    (if (s.lldp port).systemName.isEmpty then [] else tlv 5 (s.lldp port).systemName) ++
    tlv 127 (beBytes 3 s.flash.oui ++ [1#8] ++ memberTlvBytes s) ++ tlv 0 []
  fit (max 60 f.length) f

/-- LLDP_TRANSMIT (R595). DESIGN CHOICE, unsafe: log entry 116. -/
def execLldpTransmit (port : Nat) (s : State) : Host.Outcome State Fault Refusal :=
  .next (if s.running && (s.lldp port).tx && s.ports.up.testBit port then
    originate port 7 (lldpFrame port (4 * (s.lldp port).txInterval) s) s
  else s)

/-- The shutdown LLDPDU of a port (R595, R660). -/
def lldpShutdown (port : Nat) (s : State) : State :=
  if (s.lldp port).tx && s.ports.up.testBit port then originate port 7 (lldpFrame port 0 s) s else s

/-- A neighbour's place in the table: its port and chassis. -/
def sameNeighbour (port chassis : Nat) (n : Neighbour) : Bool := n.port = port && n.chassis = chassis

/-- A neighbour leaves the table. -/
def dropNeighbour (port chassis : Nat) (s : State) : State :=
  if s.disc.neighbours.any (sameNeighbour port chassis) then
    raise 401 { s with disc.neighbours := s.disc.neighbours.filter (fun n => !sameNeighbour port chassis n) }
  else s

/-- What a member TLV says beyond the neighbour entry (R594, R596). DESIGN CHOICE, unsafe: log entry 116. -/
def noteTlv (chassis : Nat) (m : MemberTlv) (s : State) : State :=
  if m.deviceId = s.ocf.deviceId && chassis != s.ocf.stationMac then noteDuplicate s
  else if m.domainId = s.disc.domainId then noteMember m.deviceId 1 s
  else s

/-- LLDPDU_RECEIVE (R594 to R596). -/
def execLldpduReceive (port : Nat) (pdu : LldpPdu) (s : State) : Host.Outcome State Fault Refusal :=
  if !s.running || !(s.lldp port).rx then .next s
  else if pdu.ttl = 0 then .next (dropNeighbour port pdu.chassis s)
  else
    let s := match s.disc.neighbours.find? (sameNeighbour port pdu.chassis) with
      | some n =>
        let n' := { n with portId := pdu.portId, ttl := pdu.ttl, member := pdu.member, seen := { n.seen with heard := s.time.now } }
        let s' := { s with disc.neighbours := s.disc.neighbours.map (fun x => if sameNeighbour port pdu.chassis x then n' else x) }
        if n.portId = pdu.portId && n.ttl = pdu.ttl && n.member = pdu.member then s' else raise 401 s'
      | none =>
        if s.disc.neighbours.length ≥ 1024 || (s.disc.neighbours.filter (fun n => n.port = port)).length ≥ 4 then refuseEntry 1 s
        else raise 401 { s with
          disc.neighbours := s.disc.neighbours ++ [⟨port, pdu.chassis, pdu.portId, pdu.ttl, pdu.member, s.seenNow⟩] }
    .next (match pdu.member with
      | some m => noteTlv pdu.chassis m s
      | none => s)

/-- LLDP_TTL_EXPIRE (R594). -/
def execLldpTtlExpire (port chassis : Nat) (s : State) : Host.Outcome State Fault Refusal := .next (dropNeighbour port chassis s)

/-! ## Optics -/

/-- The configured front ports whose lanes lie in a slot. -/
def State.slotPorts (s : State) (o : OpticsSlot) : List Nat :=
  tkeys (s.ports.cfg.filter (fun e => e.1 < o.firstLane + o.lanes && o.firstLane < e.1 + e.2.lanes))

/-- Firmware requests ModuleReady (R598): a port of the slot is administratively up, and its octal groups are not parked. -/
def State.wantsReady (s : State) (o : OpticsSlot) : Bool :=
  (s.slotPorts o).any (fun p => ((tget s.ports.cfg p).map PortCfg.adminUp).getD false) &&
  (List.range 32).all (fun g => !(s.power.octalParked.testBit g && o.firstLane < 8 * g + 8 && 8 * g < o.firstLane + o.lanes))

/-- The links of a slot's ports go down. -/
def slotDown (o : OpticsSlot) (s : State) : State := forEach (s.slotPorts o) s linkDown

/-- OPTICS_POLL (R597, R598). -/
def execOpticsPoll (slot : Nat) (poll : OpticsRead) (s : State) : Host.Outcome State Fault Refusal :=
  match tget s.disc.optics slot with
  | none => .next s
  | some o =>
    let put (o : OpticsSlot) (s : State) : State := { s with disc.optics := tset s.disc.optics slot o }
    if !s.running then .next s
    else if poll.ack && poll.identifier != 0 then
      let faulted := poll.cmis && poll.moduleState = 5
      let o' := { o with
        present := true
        missed := 0
        identifier := poll.identifier
        moduleState := if poll.cmis then poll.moduleState else 0
        vendor := poll.vendor
        readyRequest := poll.cmis && s.wantsReady o
        fault := faulted
        seen := if o.present then { o.seen with heard := s.time.now } else s.seenNow }
      let s := if o.present then put o' s else raise 404 (put o' s)
      .next (if faulted && !o.fault then slotDown o (raise 406 s) else s)
    else if poll.ack then .next (put { o with missed := 0 } s)
    else if !o.present then .next s
    else if o.missed + 1 ≥ 3 then
      .next (slotDown o (raise 405 (put { o with
        present := false
        missed := 0
        readyRequest := false
        fault := false } s)))
    else .next (put { o with missed := o.missed + 1 } s)

/-! ## Commands -/

/-- A front port of this device that is configured, from a 16-bit port field (R435). -/
def State.localPort (s : State) (field : Nat) : Option Nat :=
  if portKind field = 0 && field / 256 % 32 = s.ownSlot then some (field % 256) else none

/-- PTP or LLDP named for a Dvorob Link port (R601). -/
def State.isFabricPort (s : State) (field : Nat) : Bool :=
  portKind field = 0 && field / 256 % 32 = s.ownSlot && s.fabricGroup (field % 256 / 8)

/-- A port field that names a front port of this device or the management port (R589). -/
def State.frontOrMgmt (s : State) (field : Nat) : Bool := (s.localPort field).isSome || field = mgmtPort

/-- PTP_PORT_CONFIG (R601). -/
def bodyPtpPortConfig (_h : Ocf) (p : PtpPortConfigP) : Body :=
  writeBody 0x0905 12
    (fun s => firstErr
      [ (s.isFabricPort p.port, (0x0492, 0)),
        (!s.frontOrMgmt p.port, (0x0191, 0)),
        (p.ptpMode > 2, (0x0191, 2)),
        (p.transport > 2, (0x0191, 3)),
        (p.delay > 1, (0x0191, 4)),
        (outsideS 8 p.logAnnounce (-3) 4, (0x0191, 5)),
        (outsideS 8 p.logSync (-7) 1, (0x0191, 6)),
        (outsideS 8 p.logDelay (-7) 5, (0x0191, 7)) ])
    fun s =>
      let k := (s.localPort p.port).getD p.port
      let old : PtpPort := tgetD s.ptp.ports k {}
      bmca (setPtpPort k { old with
        ptpMode := p.ptpMode
        transport := p.transport
        delay := p.delay
        logAnnounce := signed 8 p.logAnnounce
        logSync := signed 8 p.logSync
        logDelay := signed 8 p.logDelay
        asymNs := signed 32 p.asymNs } s)

/-- LLDP_CONFIG (R595, R601). -/
def bodyLldpConfig (_h : Ocf) (p : LldpConfigP) : Body :=
  let iv := orDefault p.txInterval 30
  { opcode := 0x0909, changes := true, lenOk := (· = 8 + p.systemName.length),
    check := fun s => firstErr
      [ (s.isFabricPort p.port, (0x0492, 0)),
        ((s.localPort p.port).isNone, (0x0191, 0)),
        (p.flags > 3, (0x0108, 2)),
        (outside iv 5 3600, (0x0191, 4)),
        (p.systemName.length > 64, (0x0191, 6)) ]
    apply := fun s =>
      let k := (s.localPort p.port).getD 0
      { st := { s with disc.lldp := tset s.disc.lldp k ⟨p.flags.testBit 0, p.flags.testBit 1, iv, p.systemName⟩ } } }

/-- An instant as a result: 6 bytes of seconds and 4 of nanoseconds. -/
def timeResult (t : Nat) : Results := [(6, timeS t), (4, timeNs t)]

/-- The entries of a discovery table from an index (Table 14-10). -/
def discoveryEntries (table : Nat) (s : State) : List Results :=
  match table with
  | 0 => s.disc.peers.map (fun e => [(1, e.1), (2, e.2.1)] ++ timeResult e.2.2.created ++ timeResult e.2.2.heard)
  | 1 => s.disc.neighbours.map (fun n =>
      [(2, s.portField n.port), (8, n.chassis), (2, n.portId), (2, n.ttl)] ++ timeResult n.seen.created ++ timeResult n.seen.heard)
  | 2 => s.disc.members.map (fun e => [(2, e.1), (1, e.2.evidence)] ++ timeResult e.2.seen.created ++ timeResult e.2.seen.heard)
  | _ => s.disc.optics.map (fun e =>
      [(1, e.1), (1, bit e.2.present), (1, e.2.identifier)] ++ timeResult e.2.seen.created ++ timeResult e.2.seen.heard)

/-- DISCOVERY_READ (R594). -/
def bodyDiscoveryRead (_h : Ocf) (table from_ count : Nat) : Body :=
  readBody 0x090A 6
    (fun _ => firstErr [(table > 3, (0x0191, 0)), (count = 0 || count > 32, (0x0191, 4))])
    fun s => (((discoveryEntries table s).drop from_).take count).flatten

/-- DOMAIN_CONFIG (R600). -/
def bodyDomainConfig (_h : Ocf) (domainId memberTtl hostless : Nat) : Body :=
  let ttl := orDefault memberTtl 900
  writeBody 0x090B 10
    (fun _ => firstErr [(outside ttl 60 86400, (0x0191, 2)), (hostless > 1, (0x0191, 6))])
    fun s => { s with
      disc.domainId := domainId
      disc.memberTtl := ttl
      disc.hostless := hostless }

/-- OPTICS_SLOT_WRITE (R597, R601). -/
def bodyOpticsSlotWrite (_h : Ocf) (p : OpticsSlotWriteP) : Body :=
  writeBody 0x090C 8
    (fun s => firstErr
      [ (p.slot > 63, (0x0191, 0)),
        (p.controller > 1, (0x0191, 1)),
        (p.muxAddr > 127, (0x0191, 2)),
        (p.muxChannel > 7, (0x0191, 3)),
        (outside p.lanes 1 8, (0x0191, 5)),
        (p.firstLane + p.lanes > 256, (0x0191, 4)),
        (s.disc.optics.any (fun e => e.1 != p.slot && e.2.firstLane < p.firstLane + p.lanes && p.firstLane < e.2.firstLane + e.2.lanes),
          (0x0493, 0xFFFF)) ])
    fun s => { s with
      disc.optics := tset s.disc.optics p.slot
        ({ controller := p.controller, muxAddr := p.muxAddr, muxChannel := p.muxChannel, firstLane := p.firstLane, lanes := p.lanes } : OpticsSlot) }

/-- OPTICS_STATUS (Table 14-10). -/
def bodyOpticsStatus (_h : Ocf) : Body :=
  readBody 0x090D 0 (fun _ => none) fun s =>
    s.disc.optics.flatMap (fun e =>
      [(1, e.1), (1, bit e.2.present), (1, e.2.identifier), (1, e.2.moduleState), blob (fit 32 e.2.vendor), (1, bit e.2.fault)])

end Sys2Proof.Machine
end

