-- ==== Sys2Proof/Machine/Export.lean ====
section
/-! DEFINITION. What flow records say of a connection (R195, Tables 4-7 and 4-8), and IPFIX export (R221 to R228). -/

namespace Sys2Proof.Machine

/-! ## The sides of a connection -/

/-- An address and port. -/
structure Side where
  addr : Nat
  port : Nat
  deriving DecidableEq, Repr

/-- The addresses, ports and protocol of a key of type 0, 1, 8 or 9 (Table 3-2). -/
structure KeyEnds where
  a : Side
  b : Side
  proto : Nat

/-- A key read as its ends. -/
def keyEnds (kt key : Nat) : KeyEnds :=
  if wideType kt then
    let ports := kt = 8
    { a := ⟨field 383 256 key, if ports then field 127 112 key else 0⟩, b := ⟨field 255 128 key, if ports then field 111 96 key else 0⟩,
      proto := field 95 88 key }
  else
    let ports := kt = 0
    { a := ⟨field 127 96 key, if ports then field 63 48 key else 0⟩, b := ⟨field 95 64 key, if ports then field 47 32 key else 0⟩,
      proto := field 31 24 key }

/-- A key of type 0, 1, 8 or 9 from its ends. -/
def keyFrom (kt : Nat) (a b : Side) (proto : Nat) : Nat :=
  let ports := kt = 0 || kt = 8
  let pa := if ports then a.port else 0
  let pb := if ports then b.port else 0
  if wideType kt then packFields [(128, a.addr), (128, b.addr), (16, pa), (16, pb), (8, proto), (88, 0)]
  else packFields [(32, a.addr), (32, b.addr), (16, pa), (16, pb), (8, proto), (24, 0)]

/-- The ends in the order of R110: whether the source is side A, side A and side B. -/
def orderEnds (symmetric : Bool) (kt : Nat) (src dst : Side) : Bool × Side × Side :=
  let rank (x : Side) : Nat := if kt = 0 || kt = 8 then x.addr * 65536 + x.port else x.addr
  if symmetric && rank dst < rank src then (false, dst, src) else (true, src, dst)

/-- Initiator and responder of a primary record, per ORIENT. -/
def Rec.initiator (x : Rec) : Side := let e := keyEnds x.keyType x.key; if x.orient then e.b else e.a
def Rec.responder (x : Rec) : Side := let e := keyEnds x.keyType x.key; if x.orient then e.a else e.b
def Rec.proto (x : Rec) : Nat := (keyEnds x.keyType x.key).proto

/-- The NAT address and port of a record, and its backend's. DESIGN CHOICE, unsafe: log entry 78. -/
def State.natSide (s : State) (x : Rec) : Side :=
  ⟨((tget s.flow.pools x.natPool).map (fun p => tgetD p.addrs x.natAddr 0)).getD 0, x.natPort⟩
def State.backendSide (s : State) (x : Rec) : Side :=
  match tget s.flow.backends x.backend with
  | some b => ⟨b.addr, if b.port = 0 then x.responder.port else b.port⟩
  | none => x.responder

/-- A record translates its source, or its destination (Table 4-8). -/
def Rec.snat (x : Rec) : Bool := x.kind = 1 || x.kind = 3
def Rec.lb (x : Rec) : Bool := x.kind = 2 || x.kind = 3

/-- TCP or UDP, and ICMP or ICMPv6. -/
def portProto (p : Nat) : Bool := p = 6 || p = 17
def icmpProto (p : Nat) : Bool := p = 1 || p = 58

/-- An ICMP record of echo messages, as far as its key says: its identifier is not 0. DESIGN CHOICE, unsafe: log entry 71. -/
def Rec.isEcho (x : Rec) : Bool := icmpProto x.proto && x.initiator.port != 0

/-- Source and destination of the initiator-direction packet after its rewrites (Table 4-8, R196): an echo message carries its identifier in place of
both ports, and a protocol without ports carries none. -/
def State.postSides (s : State) (x : Rec) (echo : Bool) : Side × Side :=
  let src := if x.snat then s.natSide x else x.initiator
  let dst := if x.lb then s.backendSide x else x.responder
  if portProto x.proto then (src, dst)
  else
    let id := if !echo then 0 else if x.snat then x.natPort else x.initiator.port
    (⟨src.addr, id⟩, ⟨dst.addr, id⟩)

/-! ## Records and templates (Table 4-14) -/

/-- Information elements and lengths of a template. -/
def ipfixFields (id : Nat) : List (Nat × Nat) :=
  let v6 := id % 2 = 1
  let n := if v6 then 16 else 4
  let ends := [(234, 4), (if v6 then 27 else 8, n), (if v6 then 28 else 12, n), (7, 2), (11, 2), (4, 1)]
  let post := [(if v6 then 281 else 225, n), (if v6 then 282 else 226, n), (227, 2), (228, 2)]
  let counts := [(6, 2), (152, 8), (153, 8), (86, 8), (85, 8), (136, 1)]
  if id ≥ 260 then ends ++ [(152, 8)] ++ post else if id ≥ 258 then ends ++ counts ++ post else ends ++ counts

/-- The template set. -/
def templateSet : Bytes :=
  let recs := [256, 257, 258, 259, 260, 261].flatMap (fun id =>
    beBytes 2 id ++ beBytes 2 (ipfixFields id).length ++ (ipfixFields id).flatMap (fun f => beBytes 2 f.1 ++ beBytes 2 f.2))
  beBytes 2 2 ++ beBytes 2 (4 + recs.length) ++ recs

/-- The latest estate instant not later than now whose flow time is the one given (R226). -/
def flowInstant (now ft : Nat) : Nat :=
  let t := now / 16 / 65536
  let d := wrap 32 (t % 2 ^ 32 + 2 ^ 32 - ft)
  if d = 0 then now else (t + 1 - d) * 65536 * 16 - 1

/-- UTC milliseconds of an estate time (R576). -/
def State.utcMs (s : State) (t : Nat) : Nat := twos 64 ((t / 16000000 : Nat) - 1000 * s.time.utcOffset)

/-- A data record; `swap` is the second record of BIFLOW_SPLIT (R223). DESIGN CHOICE, unsafe: log entry 76. -/
def ipfixRecord (s : State) (x : Rec) (start swap : Bool) (pkts bytes reason : Nat) : ExportRec :=
  let v6 := if wideType x.keyType then 1 else 0
  let id := (if start then 260 else if x.kind != 0 then 258 else 256) + v6
  let (ps, pd) := s.postSides x x.isEcho
  let src := if swap then x.responder else x.initiator
  let dst := if swap then x.initiator else x.responder
  let t0 := s.utcMs (flowInstant s.time.now x.first)
  let ends := [x.zone, src.addr, dst.addr, src.port, dst.port, x.proto]
  let post := [ps.addr, pd.addr, ps.port, pd.port]
  let vals := if start then ends ++ [t0] ++ post
    else ends ++ [x.tcpFlags, t0, s.utcMs (flowInstant s.time.now x.last), pkts, bytes, reason] ++ (if x.kind != 0 then post else [])
  ⟨id, (List.zipWith (fun f v => beBytes f.2 v) (ipfixFields id) vals).flatten⟩

/-! ## Messages (R222, R227, R228) -/

/-- Records in sets: neighbours of one template share a set. -/
def dataSets : List ExportRec → List (Nat × Bytes)
  | [] => []
  | x :: xs => match dataSets xs with
    | (id, bs) :: more => if id = x.template then (id, x.data ++ bs) :: more else (x.template, x.data) :: (id, bs) :: more
    | [] => [(x.template, x.data)]

/-- Length of the IP packet of a message. -/
def ExportProfile.packetLen (p : ExportProfile) (withSet : Bool) (recs : List ExportRec) : Nat :=
  (if p.flags.testBit 3 then 40 else 20) + 8 + 16 + (if withSet then templateSet.length else 0) +
    ((dataSets recs).map (fun e => 4 + e.2.length)).sum

/-- The IPFIX message. DESIGN CHOICE, unsafe: log entry 76. -/
def ipfixMessage (withSet : Bool) (recs : List ExportRec) (utcS seq odid : Nat) : Bytes :=
  let sets := (if withSet then templateSet else []) ++ (dataSets recs).flatMap (fun e => beBytes 2 e.1 ++ beBytes 2 (4 + e.2.length) ++ e.2)
  beBytes 2 10 ++ beBytes 2 (16 + sets.length) ++ beBytes 4 utcS ++ beBytes 4 seq ++ beBytes 4 odid ++ sets

/-- The frame that carries a message. -/
def exportFrame (p : ExportProfile) (stationMac : Nat) (msg : Bytes) : Bytes :=
  ({ v6 := p.flags.testBit 3, dstMac := p.dstMac, srcMac := stationMac, vlan := p.vlan, dscp := p.dscp, src := p.source, dst := p.collector,
     srcPort := p.sourcePort, dstPort := p.collectorPort } : UdpPath).frame msg

def State.setProfile (s : State) (k : Nat) (p : ExportProfile) : State := { s with flow.profiles := tset s.flow.profiles k p }

/-- The message that is being built ends. -/
def ExportProfile.endMessage (p : ExportProfile) : ExportProfile :=
  if p.building.isEmpty then p else { p with ended := p.ended ++ [(p.buildSet, p.building)], building := [] }

/-- Records in a profile's queue. -/
def ExportProfile.queued (p : ExportProfile) : Nat := p.staged.length + p.building.length + (p.ended.map (fun m => m.2.length)).sum

/-- A record joins the message that is being built, or begins one, which keeps room for the template set while that is due (R227). -/
def ExportProfile.build (p : ExportProfile) (x : ExportRec) : ExportProfile :=
  let p := if !p.building.isEmpty && p.packetLen p.buildSet (p.building ++ [x]) > p.mtu then p.endMessage else p
  let p := if p.building.isEmpty then { p with buildSet := p.templateDue } else p
  { p with building := p.building ++ [x] }

/-- The queues lie in Region 0's log area (Table 8-2), 128 bytes to a record: an access to `n` records is charged to the telemetry-and-logs class.
DESIGN CHOICE, unsafe: log entry 147. -/
def chargeExport (n : Nat) (s : State) : Option State := if s.hbmReady then charge 0 clsTL (4 * n) s else none

/-- A record that the queue has room for is written to it, or waits for that (R227). -/
def stageExport (k : Nat) (x : ExportRec) (s : State) : State :=
  match tget s.flow.profiles k with
  | none => s
  | some p =>
    match (if p.staged.isEmpty then chargeExport 1 s else none) with
    | some s => s.setProfile k (p.build x)
    | none => s.setProfile k { p with staged := p.staged ++ [x] }

/-- A record enters a profile's queue (R227). -/
def queueExport (k : Nat) (x : ExportRec) (s : State) : State :=
  match tget s.flow.profiles k with
  | none => s
  | some p =>
    if p.queued ≥ 65536 then raise 187 (s.setProfile k { p with dropped := inc64 p.dropped })
    else stageExport k x s

/-- The records that waited for budget are written, in their order, as far as the new budgets go. -/
def unstageExports (s : State) : State :=
  forEach (tkeys s.flow.profiles) s (fun k s =>
    match tget s.flow.profiles k with
    | none => s
    | some p => forEach p.staged (s.setProfile k { p with staged := [] }) (stageExport k))

/-- The profile that a record's template exports to, when export is enabled (R224). -/
def State.exportsTo (s : State) (x : Rec) : Option Nat :=
  (s.template x.template).bind (fun t =>
    let k := t.exportField % 16
    if t.exportField.testBit 7 && !x.comp && ((tget s.flow.profiles k).map (fun p => p.flags.testBit 0)).getD false then some k else none)

/-- A key type that is exported (R223). -/
def exportedType (kt : Nat) : Bool := kt = 0 || kt = 1 || kt = 8 || kt = 9

/-- A record, with its exact activity fields, is exported with an end reason, or as a start record (R223, R224). -/
def exportRec (x : Rec) (reason : Option Nat) (s : State) : State :=
  match s.exportsTo x with
  | none => s
  | some k =>
    match tget s.flow.profiles k with
    | none => s
    | some p =>
      if reason.isNone && !p.flags.testBit 1 then s
      else if !exportedType x.keyType then s.setProfile k { p with skipped := inc64 p.skipped }
      else match reason with
        | none => queueExport k (ipfixRecord s x true false 0 0 0) s
        | some e =>
          if x.wide && p.flags.testBit 2 then
            queueExport k (ipfixRecord s x false true x.rpkts x.rbytes e) (queueExport k (ipfixRecord s x false false x.pkts x.bytes e) s)
          else queueExport k (ipfixRecord s x false false (x.pkts + x.rpkts) (x.bytes + x.rbytes) e) s

/-- EXPORT_MESSAGE_FLUSH (R227). -/
def execExportMessageFlush (profile : Nat) (s : State) : Host.Outcome State Fault Refusal :=
  .next (match tget s.flow.profiles profile with
    | some p => s.setProfile profile p.endMessage
    | none => s)

/-- The records of a message without those at the places `lost`, counted from `i`. -/
def unlost (lost : List Nat) : Nat → List ExportRec → List ExportRec
  | _, [] => []
  | i, x :: xs => if lost.contains i then unlost lost (i + 1) xs else x :: unlost lost (i + 1) xs

/-- A message of a profile leaves: its frame, the token bucket, and the counters (R222, R228). -/
def emitMessage (k : Nat) (p : ExportProfile) (tokens : Nat) (withSet : Bool) (recs : List ExportRec) (s : State) : State :=
  let seq := tgetD s.flow.odidSeq p.odid 0
  let utcS := twos 32 ((s.time.now / secondTicks : Nat) - s.time.utcOffset)
  let s := originate ((s.ofSysPort p.egressPort).getD p.egressPort) p.tc
    (exportFrame p s.ocf.stationMac (ipfixMessage withSet recs utcS seq p.odid)) s
  let s := s.setProfile k { p with
    templateDue := p.templateDue && !withSet
    tokens := tokens - p.packetLen withSet recs * byteTokens
    tokensAt := s.time.localNs
    sentRecords := add64 p.sentRecords recs.length
    sentMessages := inc64 p.sentMessages }
  { s with flow.odidSeq := tset s.flow.odidSeq p.odid (wrap 32 (seq + recs.length)) }

/-- EXPORT_MESSAGE_SEND (R222, R227, R228): the oldest ended message is read from the queue and sent, when the class has budget and the token bucket
allows it. A template set that is due goes into it, or ahead of it in a message of its own where MTU leaves no room. The records at the places
`lost` lay in uncorrectable bursts (Table 8-6); a message that has lost all it holds is not sent. DESIGN CHOICE, unsafe: log entries 136 and 147. -/
def execExportMessageSend (profile : Nat) (lost : List Nat) (s : State) : Host.Outcome State Fault Refusal :=
  .next (match tget s.flow.profiles profile with
    | none => s
    | some p =>
      match p.ended with
      | [] => s
      | (_, all) :: more =>
        let recs := unlost lost 0 all
        let tokens := min (p.burst * byteTokens) (p.tokens + p.rate * (s.time.localNs - p.tokensAt))
        if p.templateDue && !recs.isEmpty && p.packetLen true recs > p.mtu then
          if tokens < p.packetLen true [] * byteTokens then s else emitMessage profile p tokens true [] s
        else if !(p.templateDue || recs.isEmpty) && tokens < p.packetLen false recs * byteTokens then s
        else if p.templateDue && tokens < p.packetLen true recs * byteTokens then s
        else match chargeExport all.length s with
          | none => s
          | some s =>
            let q := { p with
              ended := more
              dropped := add64 p.dropped (all.length - recs.length) }
            if !p.templateDue && recs.isEmpty then s.setProfile profile q else emitMessage profile q tokens p.templateDue recs s)

/-- TEMPLATE_REFRESH (R228): the set goes into the next message. -/
def execTemplateRefresh (profile : Nat) (s : State) : Host.Outcome State Fault Refusal :=
  .next (match tget s.flow.profiles profile with
    | some p => s.setProfile profile { p with templateDue := true }
    | none => s)

end Sys2Proof.Machine
end

