-- ==== Sys2Proof/Machine/FlowEngine.lean ====
section
/-! DEFINITION. The flow engines: requests and answers, connection tracking, creation, companions and deletions (R116 to R118, R154, R174 to
R220). -/

namespace Sys2Proof.Machine

/-! ## Counters and causes (R159, R185, R186) -/

/-- Counters of Table 4-4 by number: CREATED, MISS_NOCREATE, KEY_UNFORMED, OVL_PKTS[1..9], OVL_BYTES[1..9], DEFER_QUEUED, DEFER_REJECTED,
DEFER_EXPIRED, DEFER_FAILED, DEFER_DONE, CT_INVALID_PKTS, NAT_EXHAUSTED, LB_NO_BACKEND, COMP_FAILED, REASSIGNED, ICMP_ERR_SLOW. -/
def cCreated : Nat := 0
def cMissNoCreate : Nat := 1
def cKeyUnformed : Nat := 2
def cOvlPkts (c : Nat) : Nat := 2 + c
def cOvlBytes (c : Nat) : Nat := 11 + c
def cDeferQueued : Nat := 21
def cDeferRejected : Nat := 22
def cDeferExpired : Nat := 23
def cDeferFailed : Nat := 24
def cDeferDone : Nat := 25
def cCtInvalid : Nat := 26
def cNatExhausted : Nat := 27
def cLbNoBackend : Nat := 28
def cCompFailed : Nat := 29
def cReassigned : Nat := 30
def cIcmpErrSlow : Nat := 31

/-- A service counter of a template and region. -/
def countSvc (t r k n : Nat) (s : State) : State := { s with flow.counters := tadd s.flow.counters (256 * (4 * t + r) + k) n }

/-- A starvation cause counts in its region; the first SC_CREATE_BUDGET raises source 176 + r. -/
def countStarved (r c : Nat) (s : State) : State :=
  let v := s.region r
  let s := s.setRegion r { v with starved := tinc v.starved c }
  if c = 8 then raiseFirst (176 + r) s else s

/-! ## Requests and answers -/

/-- HOME_UNREACH of a GROUP_HOMED partition, when the home of a key is another device (R217). -/
def countHome (pn : Nat) (away : Partition → Bool) (s : State) : State :=
  match s.partition pn with
  | some p => if away p then
      { s with flow.partitions := tset s.flow.partitions pn { p with homeUnreach := inc64 p.homeUnreach } }
    else s
  | none => s

/-- The device that holds a key's record (R108). -/
def State.homeDevice (s : State) (p : Partition) (pl : Place) : Nat :=
  if p.groupHomed then p.homeMap.getD (pl.hB / 2 ^ 27) s.ocf.deviceId else s.ocf.deviceId

/-- A key's record is held by another device. -/
def State.homedAway (s : State) (k : FlowKey) (p : Partition) : Bool := p.groupHomed && s.homeDevice p (p.place k) != s.ocf.deviceId

/-- A request that cannot be made counts in HOME_UNREACH, when the home of its key is another device (R217). -/
def countUnreach (pn : Nat) (k : FlowKey) (s : State) : State := countHome pn (s.homedAway k) s

/-- A port that is up reaches a slot. -/
def State.slotReachable (s : State) (k : Nat) : Bool :=
  s.fab.ports.any (fun e => e.2.up && ((e.2.neighbour.map Prod.fst) = some k || e.2.reach.testBit k))

/-- An operation of a request as it comes to an engine: with its template as it is then (R170). -/
def State.opOf (s : State) (pn : Nat) (o : Origin) (q : FlowReq) : FlowOp :=
  { origin := o, partition := pn, req := q, tmpl := s.template q.template, at_ := s.time.localNs }

/-- An operation waits at a region's flow engine. -/
def pushOp (r : Nat) (op : FlowOp) (s : State) : State :=
  let v := s.region r
  s.setRegion r { v with queue := v.queue ++ [op] }

/-- The flow slices of a region are ready. -/
def State.flowReady (s : State) (r : Nat) : Bool :=
  s.isReady (64 + 2 * r) && s.isReady (65 + 2 * r) && !s.power.shedDown.testBit r

/-- A request goes to the flow engine of its home region, or over the Dvorob Link to its home device (R216); none where that cannot be reached
(R217), the engine is not ready (Table 15-4) or the partition does not exist. DESIGN CHOICE, unsafe: log entry 74. -/
def ask (pn : Nat) (o : Origin) (q : FlowReq) (s : State) : Option State :=
  match s.partition pn with
  | none => none
  | some p =>
    let pl := p.place (reqKey q)
    let d := s.homeDevice p pl
    if d = s.ocf.deviceId then
      if !s.flowReady pl.home then none else
      some (pushOp pl.home (s.opOf pn o q) s)
    else match (s.slotOfDevice d).filter s.slotReachable with
      | none => none
      | some k =>
        let id := s.flow.nextAsk
        some (sendToSlot k (.flowReq k id q) { s with
          flow.asked := if o = .none then s.flow.asked else tset s.flow.asked id o
          flow.nextAsk := id + 1 })

/-- A result goes to the descriptor that waits for it (R35), or back over the link; that of a deferred operation counts as its outcome (R184).
DESIGN CHOICE, unsafe: log entry 73. -/
def answer (o : Origin) (res : FlowResult) (s : State) : State :=
  match o with
  | .pipe p id =>
    let v := s.pipe p
    if v.desc.any (fun d => d.id = id && d.waiting) then s.setPipe p { v with results := tset v.results id res } else s
  | .remote k id => sendToSlot k (.flowResp k id res) s
  | .deferred r t => countSvc t r (match res with | .ok _ _ _ => cDeferDone | _ => cDeferFailed) 1 s
  | .none => s

/-- An operation ends with a result. -/
def endOp (op : FlowOp) (res : FlowResult) (s : State) : State := answer op.origin res s

/-- It fails with a cause of Table 3-9. -/
def failOp (r : Nat) (op : FlowOp) (c : Cause) (s : State) : State := endOp op (.starved c) (countStarved r c s)

/-- An operation goes on as another request, which fails with SC_DEADLINE where it cannot be made (R118, R217). -/
def goOn (r : Nat) (op : FlowOp) (q : FlowReq) (s : State) : State :=
  match ask op.partition op.origin q s with
  | some s => s
  | none => failOp r op 1 (countUnreach op.partition (reqKey q) s)

/-! ## Connection tracking (R187 to R193) -/

/-- Events of a TCP packet (R188). -/
inductive TcpEvent where
  | rst | synAck | syn | fin | ack | none
  deriving DecidableEq, Repr

/-- The event of a packet's flags. -/
def tcpEvent (flags : Nat) : TcpEvent :=
  if flags.testBit 2 then .rst
  else if flags.testBit 1 && flags.testBit 4 then .synAck
  else if flags.testBit 1 then .syn
  else if flags.testBit 0 then .fin
  else if flags.testBit 4 then .ack
  else .none

/-- Table 4-6: the new state of a record in a state, for an event from the initiator or in reply; `side` is the side that CT_AUX records. -/
def tcpNext (st : Nat) (ev : TcpEvent) (reply side : Bool) : Option Nat :=
  match st, ev, reply with
  | 1, .syn, false => some 1
  | 1, .synAck, true => some 2
  | 1, .rst, _ => some 6
  | 2, .synAck, true | 2, .ack, true => some 2
  | 2, .ack, false => some 3
  | 2, .fin, false => some 4
  | 2, .rst, _ => some 6
  | 3, .ack, _ => some 3
  | 7, .ack, _ => some 7
  | 3, .fin, _ | 7, .fin, _ => some 4
  | 3, .rst, _ | 7, .rst, _ => some 6
  | 4, .ack, _ => some 4
  | 4, .fin, _ => some (if reply = side then 4 else 5)
  | 4, .rst, _ => some 6
  | 5, .ack, _ | 5, .fin, _ => some 5
  | 5, .rst, _ => some 6
  | 5, .syn, false | 6, .syn, false => some 1
  | 6, .rst, _ | 6, .ack, _ | 6, .fin, _ => some 6
  | _, _, _ => none

/-- Estate microseconds of a stamp modulo 32,768. -/
def micros (t : Nat) : Nat := t / 16000 % 32768

/-- CT_AUX after a transition (R192). -/
def auxAfter (old new : Nat) (aux : Nat) (reply : Bool) (stamp : Nat) : Nat :=
  if new = 1 then (if old = 1 then aux else 32768 + micros stamp)
  else if new = 4 then (if old = 4 then aux else if reply then 32768 else 0)
  else 0

/-- A nibble of a word. -/
def nibble (k n : Nat) : Nat := n / 16 ^ k % 16

/-- What tracking leaves of a record: its state fields, whether the packet is invalid, and a health sample: handshakes, failures, sum and largest
time. -/
structure Tracked where
  img : Rec
  invalid : Bool := false
  sample : Option (Nat × Nat × Nat × Nat) := none

/-- The handshake sample of R193 at a SYN-ACK. -/
def handshake (x : Rec) (stamp : Nat) : Option (Nat × Nat × Nat × Nat) :=
  let d := wrap 32 (flowTime stamp + 2 ^ 32 - x.first)
  if d ≤ 498 then
    let t := (micros stamp + 32768 - x.ctAux % 32768) % 32768
    some (1, 0, t, t)
  else if x.ctAux < 32768 then some (1, 0, 0, 0)
  else none

/-- A packet moves a record (R189 to R191); the record's template is given where it is used. DEDUCED, unsafe: log entry 72. -/
def track (t : Option TemplateP) (x : Rec) (reply : Bool) (q : FlowReq) : Tracked :=
  let seen : Rec := { x with replySeen := x.replySeen || reply }
  match t with
  | none => { img := seen }
  | some t =>
    if !t.flags.testBit 1 then
      { img := if reply && !x.replySeen then { seen with ageClass := t.ageClass / 16 } else seen }
    else match q.tcp with
      | none =>
        if x.ctState = 8 && reply then { img := { seen with ctState := 9, ageClass := t.ageClass / 16, ctAux := 0 } } else { img := seen }
      | some fl =>
        let ev := tcpEvent fl
        match tcpNext x.ctState ev reply (x.ctAux ≥ 32768) with
        | none => { img := seen, invalid := true }
        | some k =>
          let aux := auxAfter x.ctState k x.ctAux reply q.stamp
          let moved : Rec := if k = x.ctState then { seen with ctAux := aux } else { seen with
            ctState := k, ctAux := aux, ageClass := nibble k t.ctAge }
          let sample :=
            if x.ctState = 1 && k = 2 then handshake x q.stamp
            else if x.ctState = 1 && ev = .rst && reply then some (0, 1, 0, 0)
            else none
          { img := moved, sample := sample }

/-- A health sample of a backend is added, for a balanced record of an ADAPTIVE partition (R212). -/
def addHealth (r : Nat) (x : Rec) (d : Nat × Nat × Nat × Nat) (s : State) : State :=
  if x.lb && ((s.partition x.partition).map Partition.adaptive).getD false then
    let v := s.region r
    s.setRegion r { v with health := tmod v.health x.backend (0, 0, 0, 0) (fun h =>
      (h.1 + d.1, h.2.1 + d.2.1, h.2.2.1 + d.2.2.1, max h.2.2.2 d.2.2.2)) }
  else s

/-! ## Services (R194 to R211) -/

/-- The rewrites of a packet of a record (Table 4-8): source and destination. Of the ICMP messages only the echo ones have an identifier that is
rewritten (R196). -/
def State.rewrites (s : State) (x : Rec) (reply echo : Bool) : Option Endpoint × Option Endpoint :=
  let n := s.natSide x
  let b := s.backendSide x
  let bPort := ((tget s.flow.backends x.backend).map Backend.port).getD 0
  let p := x.proto
  let port (v : Nat) : Option Nat := if portProto p then some v else none
  let ident (v : Nat) : Option Nat := if portProto p || echo then some v else none
  if !reply then
    (if x.snat then some ⟨n.addr, ident n.port⟩ else none, if x.lb then some ⟨b.addr, if bPort = 0 then none else port b.port⟩ else none)
  else
    (if x.lb then some ⟨x.responder.addr, port x.responder.port⟩ else none, if x.snat then some ⟨x.initiator.addr, ident x.initiator.port⟩ else none)

/-- The companion's key (R195, R196), and whether the reply's source is its side A: the reply's source is where the initiator's packets go after
their rewrites, and its destination where they come from. DEDUCED, unsafe: log entry 71. -/
def State.companionEnds (s : State) (x : Rec) (echo : Bool) : Option (Bool × FlowKey) :=
  if x.comp || x.kind = 0 then none
  else (s.template x.template).map (fun t =>
    let (ps, pd) := s.postSides x echo
    let (srcA, a, b) := orderEnds (t.keyFlags.testBit 0) x.keyType pd ps
    (srcA, ⟨t.replyZone, x.keyType, keyFrom x.keyType a b x.proto⟩))

/-- The keys that the companion of a record may have: an ICMP record does not say whether an echo message made it when its identifier is 0. -/
def State.companionKeys (s : State) (x : Rec) : List FlowKey :=
  (([x.isEcho, true].eraseDups).filterMap (fun e => (s.companionEnds x (e && icmpProto x.proto)).map Prod.snd)).eraseDups

/-- A record of a template is made with SUPPRESS 1 when the template's export is disabled (R221). -/
def suppressed (t : Option TemplateP) : Bool := (t.map (fun t => !t.exportField.testBit 7)).getD true

/-- The companion of a primary (R117): where the reply's source is side A, the initiator (Table 3-3) is side B (DEDUCED, unsafe: log entry 47). -/
def companionOf (x : Rec) (k : FlowKey) (replyA suppress : Bool) : Rec :=
  { wide := x.wide, comp := true, orient := replyA, expState := 2 * bit suppress, partition := x.partition, template := x.template, zone := k.zone, keyType := k.kt, key := k.key,
    service := serviceOf64 x.wide (x.zone * 2 ^ 48 + x.keyType * 2 ^ 44), pkey := x.key }

/-- A request of the engine's own for a key. -/
def ownReq (template : Nat) (k : FlowKey) (stamp : Nat) (c : Chain) : FlowReq :=
  { template := template, zone := k.zone, keyType := k.kt, key := k.key, srcA := true, proto := 0, len := 0, tcp := none, stamp := stamp, chain := c }

/-- A chained operation of the engine's own. -/
def chainOp (pn template : Nat) (k : FlowKey) (c : Chain) (s : State) : State := (ask pn .none (ownReq template k s.time.now c) s).getD s

/-- A companion cannot be placed: its primary is deleted and exported with end reason 0x05 (R181). -/
def failCompanion (pn template : Nat) (k : FlowKey) (s : State) : State :=
  match s.partition pn with
  | none => s
  | some p => chainOp pn template k (.delete 5) (countSvc template (p.place k).home cCompFailed 1 s)

/-- The chained insert of a primary's companion, after `tries` ports (R181). -/
def chainCompanion (x : Rec) (echo : Bool) (tries : Nat) (s : State) : State :=
  match s.companionEnds x echo with
  | none => s
  | some (replyA, k) =>
    let q := { ownReq x.template k s.time.now (.companion x.zone x.keyType x.key tries) with
      srcA := replyA
      echo := echo }
    match ask x.partition .none q s with
    | some s => s
    | none => failCompanion x.partition x.template x.flowKey (countUnreach x.partition k s)

/-- The chained deletion of a primary's companion (R154), which names its primary, so that it takes no other connection's. Where a home map has
made the primary's record one of a former home, its companion there goes (R220). DEDUCED, unsafe: log entry 145. -/
def dropCompanion (x : Rec) (s : State) : State :=
  match s.partition x.partition with
  | none => s
  | some p =>
    forEach (s.companionKeys x) s (fun k s =>
      let c := Chain.drop x.zone x.keyType x.key
      if s.homedAway x.flowKey p then pushOp (p.place k).home (s.opOf x.partition .none (ownReq x.template k s.time.now c)) s
      else chainOp x.partition x.template k c s)

/-- A ring of a NAT pool in a region. -/
def State.natRing (s : State) (pool r : Nat) : NatRing := tgetD s.flow.rings (4 * pool + r) {}
def State.setNatRing (s : State) (pool r : Nat) (v : NatRing) : State := { s with flow.rings := tset s.flow.rings (4 * pool + r) v }

/-- Ports of a pool that a region owns, and the entry of its initial ring at a place (R199). -/
def NatPool.ringSize (p : NatPool) : Nat := (p.portHi + 1 - p.portLo) / 4 * p.addrCount
def NatPool.entry (p : NatPool) (r i : Nat) : Nat × Nat :=
  let k := i / p.addrCount
  (i % p.addrCount, p.portLo + k / 64 * 256 + r * 64 + k % 64)

/-- The ring still holds ports. -/
def State.ringHolds (s : State) (pool r : Nat) : Bool :=
  let v := s.natRing pool r
  v.returned != [] || ((tget s.flow.pools pool).map (fun p => decide (v.next < p.ringSize))).getD false

/-- A deleted primary's port returns to the region that owns it (R201). -/
def returnPort (x : Rec) (s : State) : State :=
  if x.snat && x.alloc && (tget s.flow.pools x.natPool).isSome then
    let r := x.natPort / 64 % 4
    let v := s.natRing x.natPool r
    s.setNatRing x.natPool r { v with returned := v.returned ++ [(x.natAddr, x.natPort)], allocated := v.allocated - 1 }
  else s

/-- A lost record's port leaks (R392). DEDUCED, unsafe: log entry 75. -/
def leakPort (x : Rec) (s : State) : State :=
  if x.snat && x.alloc && (tget s.flow.pools x.natPool).isSome then
    let r := x.natPort / 64 % 4
    let v := s.natRing x.natPool r
    s.setNatRing x.natPool r { v with allocated := v.allocated - 1, leaked := v.leaked + 1 }
  else s

/-- The active slot table of a pool in a region (R207). -/
def LbPool.active (p : LbPool) (r : Nat) : List Nat := (tgetD p.tables r {}).active

/-- The backend that a key's slot of a pool names in the active table of its home region (R207, R209); a slot that names a member whose backend has
left finds none until the next commit (R206). DESIGN CHOICE, unsafe: log entry 79. -/
def State.slotBackend (s : State) (pool : Nat) (pl : Place) : Option Nat :=
  (tget s.flow.lbPools pool).bind (fun p =>
    let slots := p.active pl.home
    if slots.isEmpty then none
    else (tget p.members (slots.getD ((pl.hA ^^^ pl.hB) % slots.length) 0xFFFF)).map LbMember.backend)

/-- A backend's pool, and its committed state there. -/
def State.committedState (s : State) (b : Nat) : Option (Nat × Nat) :=
  (tget s.flow.backends b).bind (fun e =>
    (tget s.flow.lbPools e.pool).bind (fun p =>
      (tget p.members e.member).bind (fun m => if m.backend = b then some (e.pool, m.state) else none)))

/-- A packet of a record makes the engine choose a backend again (R211). -/
def State.reassigns (s : State) (x : Rec) : Bool := x.lb && (s.committedState x.backend).map Prod.snd = some 2

/-- A record with a part of its 64 SERVICE bits replaced. -/
def Rec.setSvc (x : Rec) (hi lo v : Nat) : Rec := { x with service := serviceOf64 x.wide (setField hi lo v x.svc) }

/-- A new backend, when the record's is in state REASSIGN and its slot holds one that can be read (R211). -/
def State.reassign (s : State) (pl : Place) (lost : Bool) (x : Rec) : Option Rec :=
  if lost || !s.reassigns x then none
  else (s.committedState x.backend).bind (fun c => (s.slotBackend c.1 pl).map (fun b => x.setSvc 63 46 b))

/-! ## A packet that finds its record -/

/-- The record of a hit, with what changes of its state fields. -/
def runHit (r : Nat) (p : Partition) (op : FlowOp) (reply : Bool) (f : Found) (s : State) : State :=
  let q := op.req
  let pl := p.place f.img.flowKey
  let t := track (s.template f.img.template) f.img reply q
  let moved := s.reassign pl op.slotLost t.img
  let x := moved.getD t.img
  let x := if x = f.img then x else x.bump
  let (g, s1) := bringIn r p f s
  let written := if x = f.img then some s1 else writeState r p g x s1
  match written with
  | none => failOp r op 4 s1
  | some s2 =>
    match sinterUpdate r f.loc f.img.wide (tagOf p f.img) ⟨reply, q.len, flowTime q.stamp, q.tcp.getD 0⟩ s2 with
    | none => failOp r op 7 s1
    | some s =>
      let s := if t.invalid then countSvc x.template r cCtInvalid 1 s else s
      let s := (t.sample.map (fun d => addHealth r f.img d s)).getD s
      let s := if moved.isSome then
          chainCompanion x (q.echo || x.isEcho) 0 (dropCompanion f.img (countSvc x.template r cReassigned 1 s))
        else s
      let (src, dst) := s.rewrites x reply q.echo
      let bad := if t.invalid then (s.template x.template).map TemplateP.ctInvalid else none
      endOp op (.ok src dst bad) s

/-! ## A packet that may create a record (R177 to R180) -/

/-- The first two conditions of R177. -/
def mayCreate (t : TemplateP) (q : FlowReq) : Bool :=
  let ev := (q.tcp.map tcpEvent).getD .none
  t.flags.testBit 0 && (!t.flags.testBit 1 || q.tcp.isNone || ev = .syn || (t.flags.testBit 2 && ev != .rst))

/-- The creation credits of a region and a template at now. -/
def refillCredits (t r : Nat) (limit : Nat) (s : State) : State :=
  let s := refillCredit r s
  if limit = 0 then s
  else
    let k := 4 * t + r
    let (c, at_) := tgetD s.flow.limits k (limit * 1000000, s.time.localNs)
    { s with flow.limits := tset s.flow.limits k (min (limit * 1000000) (c + limit * (s.time.localNs - at_)), s.time.localNs) }

/-- Each credit that applies allows one creation. -/
def State.creditsAllow (s : State) (t r limit : Nat) : Bool :=
  (s.region r).credit ≥ 100000 && (limit = 0 || (tgetD s.flow.limits (4 * t + r) (0, 0)).1 ≥ 1000000)

/-- A creation takes one unit of each. -/
def takeCredits (t r limit : Nat) (s : State) : State :=
  let v := s.region r
  let s := s.setRegion r { v with credit := v.credit - 100000 }
  if limit = 0 then s else { s with flow.limits := tmod s.flow.limits (4 * t + r) (0, 0) (fun c => (c.1 - 1000000, c.2)) }

/-- A failed creation under policy LATER with a full deferred queue counts as SC_CREATE_BUDGET (R180). DESIGN CHOICE, unsafe: log entry 73. -/
def State.createCause (s : State) (r : Nat) (t : TemplateP) (c : Cause) : Cause :=
  if field (2 * c + 1) (2 * c) t.ovlPolicy = 3 && (s.region r).deferred.length ≥ 16384 then 8 else c

/-- What the service of a creation comes to: the 64 SERVICE bits, a failure cause, or STATELESS with the counter that counts it. -/
inductive Service64 where
  | ok (v : Nat)
  | fail (c : Cause)
  | refuse (counter : Nat)

/-- The port and the backend of a new record (R200, R202, R209); a lost slot is NONE (Table 8-6). -/
def State.chooseService (s : State) (r : Nat) (t : TemplateP) (pl : Place) (lost : Bool) : Service64 :=
  let kind := t.serviceKind
  let nat := kind = 1 || kind = 3
  let lb := kind = 2 || kind = 3
  let ring := s.natRing t.natPool r
  let filling := ((tget s.flow.pools t.natPool).map (fun p => p.filling.testBit r)).getD false
  if lb && (lost || (s.slotBackend (t.lbPool % 4096) pl).isNone) then .refuse cLbNoBackend
  else if nat && ring.buffer.isEmpty then
    if filling || s.ringHolds t.natPool r then .fail 8 else .refuse cNatExhausted
  else
    let b := if lb then (s.slotBackend (t.lbPool % 4096) pl).getD 0 else 0
    let (a, port) := ring.buffer.headD (0, 0)
    .ok (if nat then packFields [(18, b), (6, t.natPool), (12, a), (16, port), (2, kind), (1, 1), (9, 0)]
      else packFields [(18, b), (34, 0), (2, kind), (10, 0)])

/-- The record that a creation makes (R177, R110, R187 to R192, R221). DEDUCED, unsafe: log entry 72. -/
def newRec (p : Partition) (pn : Nat) (t : TemplateP) (q : FlowReq) (svc : Nat) : Rec :=
  let ct := t.flags.testBit 1
  let st := if !ct then 0 else match q.tcp with
    | none => 8
    | some fl => if tcpEvent fl = .syn then 1 else 7
  let ft := flowTime q.stamp
  let x : Rec :=
    { wide := p.wide, partition := pn, template := t.template, zone := q.zone, keyType := q.keyType, key := q.key,
      ageClass := if 1 ≤ st && st ≤ 7 then nibble st t.ctAge else t.ageClass % 16
      ctState := st
      orient := !q.srcA
      service := serviceOf64 p.wide svc
      first := ft, last := ft, pkts := 1, bytes := q.len, tcpFlags := q.tcp.getD 0
      ctAux := if st = 1 then micros q.stamp else 0
      templateData := t.templateData }
  { x with expState := 2 * bit (suppressed (some t)) }

/-- A packet that finds no record (R177, R178, R180, R181). DEDUCED, unsafe: log entry 71. -/
def runMiss (r : Nat) (p : Partition) (op : FlowOp) (s : State) : State :=
  let q := op.req
  let count (k : Nat) (s : State) : State := if q.deferred then s else countSvc q.template r k 1 s
  match op.tmpl with
  | none => endOp op .stateless s
  | some t =>
    if !mayCreate t q then
      endOp op (if !t.flags.testBit 0 || (t.flags.testBit 1 && !t.flags.testBit 2) then .missCt else .stateless) (count cMissNoCreate s)
    else
      let s := refillCredits t.template r t.createLimit s
      if !s.creditsAllow t.template r t.createLimit then failOp r op 8 s
      else
        let pl := p.place (reqKey q)
        match s.chooseService r t pl op.slotLost with
        | .fail c => failOp r op c s
        | .refuse k =>
          let ring := s.natRing t.natPool r
          let s := if k = cNatExhausted then raise 184 (s.setNatRing t.natPool r { ring with exhausted := inc64 ring.exhausted }) else s
          endOp op .stateless (count k s)
        | .ok v =>
          let x := newRec p op.partition t q v
          match createRec r p x s with
          | .error c => failOp r op (s.createCause r t c) s
          | .ok (_, s) =>
            let s := takeCredits t.template r t.createLimit s
            let s := if x.snat then
                let ring := s.natRing x.natPool r
                s.setNatRing x.natPool r { ring with buffer := ring.buffer.tail, allocated := ring.allocated + 1 }
              else s
            let s := countSvc t.template r cCreated 1 s
            let s := if t.flags.testBit 3 then exportRec x none s else s
            let (src, dst) := s.rewrites x false q.echo
            chainCompanion x q.echo 0 (endOp op (.ok src dst none) s)

/-- A packet's operation (R118, R174): `via` is the companion that led to it. DEDUCED, unsafe: log entry 70. -/
def runPacket (r : Nat) (p : Partition) (op : FlowOp) (via : Option FlowKey) (s : State) : State :=
  let q := op.req
  match s.findRec r op.partition p (reqKey q), via with
  | some f, _ =>
    if !f.img.comp then runHit r p op (via.isSome || q.srcA = f.img.orient) f s
    else
      let k := f.img.primaryKey
      let q' : FlowReq := { q with zone := k.zone, keyType := k.kt, key := k.key, chain := .reply q.zone q.keyType q.key }
      goOn r op q' (bringIn r p f s).2
  | none, none => runMiss r p op s
  | none, some k =>
    let v := s.region r
    let s := s.setRegion r { v with staleComp := inc64 v.staleComp }
    let s := chainOp op.partition q.template k (.drop q.zone q.keyType q.key) s
    goOn r op { q with zone := k.zone, keyType := k.kt, key := k.key, chain := .packet } s

/-! ## Companions (R181, R200) -/

/-- The next port of the buffer for a primary whose companion's key is taken: the previous port returns to the ring tail. -/
def nextPort (r : Nat) (p : Partition) (f : Found) (s : State) : Option (Rec × State) :=
  let (f, s) := bringIn r p f s
  let ring := s.natRing f.img.natPool r
  match ring.buffer with
  | [] => none
  | (a, port) :: rest =>
    if !(f.img.snat && f.img.alloc) then none
    else
      let x := ((f.img.setSvc 39 28 a).setSvc 27 12 port).bump
      (writeState r p f x s).map (fun s => (x, s.setNatRing f.img.natPool r { ring with
        buffer := rest
        returned := ring.returned ++ [(f.img.natAddr, f.img.natPort)] }))

/-- A primary takes its next port, at its home and under its locks, and its companion is inserted again (R200, R218). -/
def runPort (r : Nat) (p : Partition) (op : FlowOp) (tries : Nat) (s : State) : State :=
  match s.findRec r op.partition p (reqKey op.req) with
  | none => s
  | some f =>
    match nextPort r p f s with
    | some (x, s) => chainCompanion x op.req.echo (tries + 1) s
    | none => failCompanion op.partition op.req.template (reqKey op.req) s

/-- The CREATE_ONLY insert of a companion. DEDUCED, unsafe: log entry 71. -/
def runCompanion (r : Nat) (p : Partition) (op : FlowOp) (k : FlowKey) (tries : Nat) (s : State) : State :=
  let q := op.req
  let fail (s : State) : State := failCompanion op.partition q.template k s
  match s.findRec r op.partition p (reqKey q) with
  | some _ =>
    if tries ≥ 3 then fail s
    else match ask op.partition .none { ownReq q.template k s.time.now (.port tries) with echo := q.echo } s with
      | some s => s
      | none => fail (countUnreach op.partition k s)
  | none =>
    let limit := (op.tmpl.map TemplateP.createLimit).getD 0
    let s := refillCredits q.template r limit s
    if !s.creditsAllow q.template r limit then fail s
    else
      let primary : Rec := { wide := p.wide, partition := op.partition, template := q.template, zone := k.zone, keyType := k.kt, key := k.key }
      match createRec r p (companionOf primary (reqKey q) q.srcA (suppressed op.tmpl)) s with
      | .error _ => fail s
      | .ok (_, s) => takeCredits q.template r limit s

/-! ## Deletions (R154, R201, R224) -/

/-- A record is deleted, its Sinter entry written back and no log entry of it left: its port returns, its companion is deleted by a chained
operation, and its final image is exported. -/
def removeWhole (r : Nat) (p : Partition) (f : Found) (reason : Option Nat) (s : State) : State :=
  let s := removeRec r p f s
  if f.img.comp then s
  else
    let s := dropCompanion f.img (returnPort f.img s)
    match reason with
    | some e => exportRec f.img (some e) s
    | none => s

/-- An accepted operation waits, with its locks held. -/
def park (r : Nat) (op : FlowOp) (s : State) : State :=
  let v := s.region r
  s.setRegion r { v with busy := v.busy ++ [op] }

/-- A deletion goes as far as budget and the log allow (R154): what it has deleted, if it has ended. It waits with its locks held, first for the budget of
its Sinter write-back, then for the log position in force when that was made. -/
def deleteStep (r : Nat) (p : Partition) (op : FlowOp) (reason : Nat) (s : State) : State × Option (Option Rec) :=
  match s.findRec r op.partition p (reqKey op.req) with
  | none => (s, some none)
  | some f =>
    if f.img.comp then (removeWhole r p f none s, some (some f.img))
    else match op.upTo with
      | some n => if (s.region r).replayed ≥ n then (removeWhole r p f (some reason) s, some (some f.img)) else (park r op s, none)
      | none =>
        let done := match s.sinterEntry r f.loc with
          | none => some s
          | some e => writeDirect r [clsFW, clsTM] e s
        match done with
        | none => (park r op s, none)
        | some s =>
          if s.groupPendingLog r f.loc then (park r { op with upTo := some (s.region r).logSeq } s, none)
          else match s.findRec r op.partition p (reqKey op.req) with
            | some f => (removeWhole r p f (some reason) s, some (some f.img))
            | none => (s, some none)

/-- A chained or aging deletion of a primary. DESIGN CHOICE, unsafe: log entry 74. -/
def runDelete (r : Nat) (p : Partition) (op : FlowOp) (reason : Nat) (s : State) : State :=
  match s.findRec r op.partition p (reqKey op.req) with
  | some f => if f.img.comp then s else (deleteStep r p op reason s).1
  | none => s

/-- The removal of the companion of the primary named, and of no other. DESIGN CHOICE, unsafe: log entry 74. -/
def runDrop (r : Nat) (p : Partition) (op : FlowOp) (primary : FlowKey) (s : State) : State :=
  match s.findRec r op.partition p (reqKey op.req) with
  | some f => if f.img.comp && f.img.primaryKey = primary then removeWhole r p f none s else s
  | none => s

end Sys2Proof.Machine
end

