-- ==== Sys2Proof/Machine/FlowWork.lean ====
section
/-! DEFINITION. Operations of the flow engines that no request asks for: the work of flow commands (R151 to R154, R164 to R167), the aging check
(R155 to R157) and relocations (R126 to R129); and the answers of the commands that waited for them. -/

namespace Sys2Proof.Machine

/-! ## Locks (R114, R150) -/

/-- The locks of an operation. -/
def State.opLocks (s : State) (op : FlowOp) : List Nat :=
  match s.partition op.partition with
  | some p => p.locks op.partition (p.place (reqKey op.req)) ++ op.locks
  | none => []

/-- What the engines and the jobs that wait for a restart carry. -/
def State.engineCtxs (s : State) : List EngineCtx :=
  (tvals s.eng.engines).map Engine.ctx ++ (tvals s.eng.items).filterMap WorkItem.ctx

/-- Locks held in a region. -/
def State.heldLocks (s : State) (r : Nat) : List Nat :=
  (s.region r).busy.flatMap s.opLocks ++ s.engineCtxs.flatMap (fun c => if c.held = some r then c.locks else [])

/-- None of the locks is among those named. -/
def clear (locks held : List Nat) : Bool := locks.all (fun l => !held.contains l)

/-- Locks that an operation which comes now finds taken: those held, and those that an earlier operation waits for (R150). -/
def State.takenLocks (s : State) (r : Nat) : List Nat := s.heldLocks r ++ (s.region r).queue.flatMap s.opLocks

/-! ## Records of a partition -/

/-- A value in its place of a rising list. -/
def insertSorted (n : Nat) : List Nat → List Nat
  | [] => [n]
  | m :: ms => if n ≤ m then n :: m :: ms else m :: insertSorted n ms

/-- A number in its place of a rising list without repeats. -/
def insertNew (n : Nat) (xs : List Nat) : List Nat := if xs.contains n then xs else insertSorted n xs

/-- Buckets of a region that can hold a record: those with a byte that is not 0, and those of the write-back buffer. -/
def State.usedBuckets (s : State) (r : Nat) : List Nat :=
  let cells := (s.hbm.mem.filter (fun c => c.1 / 2 ^ 35 = r && c.1 % 2 ^ 35 < 2 ^ 32)).map (fun c => c.1 % 2 ^ 35 / 256)
  forEach ((s.region r).wb.map (fun w => locBucket w.locator)) (cells.eraseReps) insertNew

/-- Every record of a region in the order of R166, with its place in the walk: Tarn-only records, the overflow store, Deep Lake. -/
def State.records (s : State) (r : Nat) : List (Nat × Found) :=
  let v := s.region r
  let pinned := v.tarn.flatMap (fun t => (t.2.ways.filter (fun w => w.2.pin)).map (fun w => (t.1 * 16 + w.1, Found.mk w.2.locator w.2.img (some w.1))))
  let ovf := v.ovf.map (fun e => (2 ^ 40 + e.1, Found.mk (locOvf e.1) e.2 none))
  let lake := (s.usedBuckets r).flatMap (fun b =>
    match s.flow.partitions.find? (fun e => e.2.base ≤ b && b < e.2.base + 2 ^ e.2.nbrLog2) with
    | none => []
    | some (pn, p) => (s.bucketRecs r b p.wide).map (fun e => (2 ^ 41 + e.1, (s.findRec r pn p e.2.flowKey).getD ⟨e.1, e.2, none⟩)))
  pinned ++ ovf ++ lake

/-- Records of a partition in a region. -/
def State.recordsOf (s : State) (r pn : Nat) : List Found := ((s.records r).map Prod.snd).filter (fun f => f.img.partition = pn)

/-! ## Blocks (R165) -/

/-- The flow key that a descriptor names. -/
def descKey (k : KeyDesc) : FlowKey := ⟨k.zone, k.keyType, k.key⟩

/-- SERVICE as a command may write it into a new record, or into one that holds a port of the allocator (R204). -/
def serviceOf (old : Option Rec) (wide comp : Bool) (given : Nat) : Nat :=
  let v := if wide then given / 2 ^ 128 else given
  if comp then given
  else match old with
    | some x =>
      if x.alloc then serviceOf64 wide (setField 9 9 1 (setField 45 12 (field 45 12 x.svc) v)) else serviceOf64 wide (setField 9 9 0 v)
    | none => serviceOf64 wide (setField 9 9 0 v)

/-- The state fields that a block gives, over those of a record (R165, R187, R221). A record that holds a port of the allocator stays a primary, so that
no command loses the port (R204). DESIGN CHOICE, unsafe: log entry 49. -/
def blockRec (s : State) (p : Partition) (b : FlowBlock) (old : Option Rec) : Rec :=
  let comp := b.flags.testBit 2 && !(old.map Rec.alloc).getD false
  let base : Rec := old.getD
    { wide := p.wide, partition := b.key.partition, template := b.template, zone := b.key.zone, keyType := b.key.keyType, key := b.key.key }
  let x : Rec := { base with
    comp := comp
    static := b.flags.testBit 0
    template := b.template
    ageClass := if b.ageClass = 0xFF then p.ageClass else b.ageClass
    ctState := if ((s.template b.template).map (fun t => t.flags.testBit 1)).getD true then b.ctState else 0
    ctAux := if comp then 0 else b.ctAux
    templateData := if comp then 0 else b.templateData
    service := serviceOf old p.wide comp b.service
    pkey := if !comp then 0 else if base.comp then base.pkey
      else Config.insertedPrimary b.key.partition b.key.zone b.key.keyType b.key.key % (if p.wide then 2 ^ 384 else 2 ^ 128) }
  { x with expState := x.expState % 2 + 2 * bit (suppressed (s.template b.template)) }

/-- An EXPECT_GEN that does not hold. -/
def genDiffers (b : FlowBlock) (x : Rec) : Bool := b.expectGen.testBit 15 && b.expectGen % 8192 != x.gen

/-- LOCATOR, GEN, RESULT and the reserved byte. -/
def insertResult (loc gen existed : Nat) : Results := [(4, loc), (2, gen), (1, existed), (1, 0)]

/-- How an operation ends for the command that waits for it: its status and results; none while it goes on waiting. -/
abbrev WorkEnd := Option (Nat × Results)

/-- The status of a command whose record no store takes: no slot, the write-back buffer full, or no Tarn slot for a state change. DESIGN CHOICE, unsafe:
log entry 80. -/
def tableFull : WorkEnd := some (0x0341, [])

/-- A block updates its record, in the place that owns its state fields (R132, R133). -/
def updateRec (b : FlowBlock) (p : Partition) (r : Nat) (f : Found) (s : State) : State × WorkEnd :=
  let x := { blockRec s p b (some f.img) with gen := f.img.gen }.bump
  let (g, s1) := bringIn r p f s
  match writeState r p g x s1 with
  | some s => (s, some (0, insertResult f.loc x.gen 1))
  | none => (s1, tableFull)

/-- A block creates its record: FIRST_SEEN and LAST_SEEN are now. A record that another device holds is not created here (R108).
DESIGN CHOICE, safe: log entry 49. DESIGN CHOICE, unsafe: log entry 80. -/
def insertRec (b : FlowBlock) (p : Partition) (r : Nat) (s : State) : State × WorkEnd :=
  let now := flowTime s.time.now
  let x := blockRec s p b none
  let x := if x.comp then x else { x with first := now, last := now }
  if s.homedAway (descKey b.key) p then (s, tableFull)
  else match createRec r p x s with
    | .error _ => (s, tableFull)
    | .ok (loc, s) =>
      let start := ((s.template b.template).map (fun t => t.flags.testBit 3)).getD false
      (if start then exportRec x none s else s, some (0, insertResult loc x.gen 0))

/-- An insert or update of a block. -/
def putBlock (r : Nat) (p : Partition) (b : FlowBlock) (create : Bool) (s : State) : State × WorkEnd :=
  match s.findRec r b.key.partition p (descKey b.key) with
  | some f =>
    if create && b.flags.testBit 1 then (s, some (0x0444, []))
    else if genDiffers b f.img then (s, some (0x0442, []))
    else updateRec b p r f s
  | none => if create then insertRec b p r s else (s, some (0x0441, []))

/-! ## Reads and deletions (R152 to R154, R167) -/

/-- A record as results, with its locator. -/
def recResult (loc : Nat) (x : Rec) : Results := [(4, loc), blob x.encode]

/-- A read; with SETTLE it waits, without locks, until replay has passed the log position in force, and is repeated at most 3 times (R152, R153).
DESIGN CHOICE, safe: log entry 80. -/
def readWork (r : Nat) (p : Partition) (op : FlowOp) (settle : Bool) (s : State) : State × WorkEnd :=
  match s.findRec r op.partition p (reqKey op.req) with
  | none => (s, some (0x0441, []))
  | some f =>
    let pend := s.groupPendingLog r f.loc
    if settle && pend && op.repeats < 3 then
      let v := s.region r
      (s.setRegion r { v with settling := v.settling ++ [{ op with
        repeats := op.repeats + 1
        upTo := some v.logSeq }] }, none)
    else (s, some (0, recResult f.loc (s.merged r f) ++ [(1, bit pend), (3, 0)]))

/-- FLOW_DELETE returns the final image. -/
def deleteWork (r : Nat) (p : Partition) (op : FlowOp) (s : State) : State × WorkEnd :=
  let (s, out) := deleteStep r p op 4 s
  (s, out.map (fun x => match x with
    | some x => (0, [blob x.encode])
    | none => (0x0441, [])))

/-- A deletion among many, which counts the record that it deletes. -/
def countWork (r : Nat) (p : Partition) (op : FlowOp) (s : State) : State × WorkEnd :=
  let (s, out) := deleteStep r p op 4 s
  (s, out.map (fun x => (0, [(8, bit x.isSome)])))

/-- The 56 bytes of a key descriptor as a number (Table 3-10). -/
def descNumber (partition kt zone key : Nat) : Nat :=
  packFields [(8, partition), (8, kt), (16, zone), (32, 0), (384, if wideType kt then key else key * 2 ^ 256)]

/-- A filter: partition, optional template, key descriptor under a mask (R166, R167). -/
def filterTakes (partition : Nat) (template : Option Nat) (k : KeyDesc) (mask : Nat) (x : Rec) : Bool :=
  x.partition = partition && (template.map (fun t => x.template == t)).getD true &&
  (descNumber x.partition x.keyType x.zone x.key &&& mask) = (descNumber k.partition k.keyType k.zone k.key &&& mask)

/-- A FLOW_FLUSH takes a record: its filter matches, and FIRST_SEEN is not later than T0; a companion goes with its primary, but that of a former home
is taken by itself (R167, R220). DESIGN CHOICE, unsafe: log entry 82. -/
def State.flushTakes (s : State) (q : Partition) (p : FlowFlushP) (t0 : Nat) (x : Rec) : Bool :=
  (if x.comp then s.homedAway x.flowKey q else wrap 32 (t0 + 2 ^ 32 - x.first) < 2 ^ 31) &&
  filterTakes p.partition (if p.useTemplate = 1 then some p.template else none) p.key p.mask x

/-- A record of FLOW_FLUSH, looked at again under its locks. -/
def flushWork (r : Nat) (p : Partition) (op : FlowOp) (q : FlowFlushP) (t0 : Nat) (s : State) : State × WorkEnd :=
  match s.findRec r op.partition p (reqKey op.req) with
  | some f => if s.flushTakes p q t0 f.img then countWork r p op s else (s, some (0, [(8, 0)]))
  | none => (s, some (0, [(8, 0)]))

/-! ## The aging check (R155 to R157, R193, R224, R225) -/

/-- Timeout of an aging class in flow-time ticks, rounded up. -/
def State.ageTicks (s : State) (c : Nat) : Nat := ceilDiv (s.flow.ageClasses.getD c 0 * 1000000) 65536

/-- A record with its exact activity fields is expired (R156). -/
def State.expired (s : State) (x : Rec) : Bool :=
  !x.static && !x.comp && wrap 32 (flowTime s.time.now + 2 ^ 32 - x.last) ≥ s.ageTicks x.ageClass + 1

/-- End reason of an aged record (Table 4-15). -/
def Rec.ageReason (x : Rec) : Nat := if x.ctState = 5 || x.ctState = 6 then 3 else 1

/-- The active-timeout window of a record, when an interim record is due (R224). -/
def State.interimDue (s : State) (x : Rec) : Option Nat :=
  ((s.exportsTo x).bind (tget s.flow.profiles)).bind (fun p =>
    if p.activeTimeout = 0 || x.expState ≥ 2 then none
    else
      let k := wrap 32 (flowTime s.time.now + 2 ^ 32 - x.first) / (p.activeTimeout * 1000000000 / 65536)
      if k ≥ 1 && k % 2 != x.expState % 2 then some (k % 2) else none)

/-- The sweep looks at a record under its locks (R157). A companion whose key another device has become the home of leaves (R220).
DEDUCED, unsafe: log entry 145. -/
def ageWork (r : Nat) (p : Partition) (op : FlowOp) (s : State) : State :=
  let pn := op.partition
  let k := reqKey op.req
  match s.findRec r pn p k with
  | none => s
  | some f =>
    if f.img.comp then (if s.homedAway k p then removeWhole r p f none s else s)
    else if s.groupPendingLog r f.loc then s
    else
      let s := settleEntry r f.loc s
      match s.findRec r pn p k with
      | none => s
      | some f =>
        let x := s.exact r f
        if s.expired x then
          let s := if x.ctState = 1 || x.ctState = 2 then addHealth r x (0, 1, 0, 0) s else s
          runDelete r p { op with
            work := none
            req := ownReq x.template k s.time.now (.delete x.ageReason)
            reads := 2 } x.ageReason s
        else match s.interimDue x with
          | none => s
          | some w =>
            let (f, s) := bringIn r p f s
            let y := { f.img with expState := f.img.expState / 2 * 2 + w }.bump
            match writeState r p f y s with
            | some s => exportRec (y.withActivity x) (some 2) s
            | none => s

/-! ## Relocation (R126 to R129) -/

/-- A step of a path: bucket, slot's locator, and the record's other bucket. -/
abbrev PathStep := Nat × Nat × Nat

/-- choose_slot (R127): from slot (n - 1) mod S of bucket b. -/
def chooseSlot (r : Nat) (p : Partition) (pn b n : Nat) (path : List PathStep) (s : State) : Option (Nat × Rec) :=
  let slots := slotsOf p.wide
  let k := (n - 1) % slots.length
  (slots.drop k ++ slots.take k).findSome? (fun sl =>
    let l := locLake b sl
    (s.lakeRec r l p.wide).bind (fun x =>
      if path.any (fun e => e.2.1 = l) || s.groupPendingLog r l || !clear (p.locks pn (p.place x.flowKey)) (s.heldLocks r) then none
      else some (l, x)))

/-- The path from a bucket to one with an invalid slot, of at most `fuel` steps, if there is one, and the steps taken. -/
def findPath (r : Nat) (p : Partition) (pn : Nat) (s : State) : Nat → Nat → List PathStep → Option (List PathStep) × Nat
  | 0, _, path => (none, path.length)
  | fuel + 1, b, path =>
    match chooseSlot r p pn b (path.length + 1) path s with
    | none => (none, path.length)
    | some (l, x) =>
      let pl := p.place x.flowKey
      let nb := if pl.bktA = b then pl.bktB else pl.bktA
      let path := path ++ [(b, l, nb)]
      if (s.freeSlot r nb p.wide).isSome then (some path, path.length) else findPath r p pn s fuel nb path

/-- Records move from the end of a path backwards, each into the first invalid slot of its other bucket. -/
def movePath (r : Nat) (p : Partition) : List PathStep → State → Option State
  | [], s => some s
  | (_, l, nb) :: rest, s =>
    match s.freeSlot r nb p.wide with
    | none => none
    | some free => (moveRec r l free p.wide s).bind (movePath r p rest)

/-- The buckets' locks of a path, which a relocation takes together. -/
def pathLocks (p : Partition) (pn : Nat) (path : List PathStep) : List Nat :=
  ((path.map (fun e => e.1)) ++ (path.getLast?.map (fun e => e.2.2)).toList).eraseDups.map (fun b => pn * 2 ^ 24 + (b - p.base))

/-- An overflow-store or stash record that an operation is for still lies at its index. -/
def State.ovfHolds (s : State) (r i : Nat) (op : FlowOp) : Bool :=
  ((tget (s.region r).ovf i).map (fun x => x.hasKey op.partition (reqKey op.req))).getD false

/-- A record moves into a bucket's invalid slot, or waits for a route for its Sinter entry with its locks held (R126, R129). -/
def fillWork (r : Nat) (p : Partition) (op : FlowOp) (i b : Nat) (s : State) : State :=
  if !s.ovfHolds r i op then s
  else match s.freeSlot r b p.wide with
    | none => s
    | some l => (moveRec r (locOvf i) l p.wide s).getD (park r op s)

/-- The moves of a relocation: with no displacement, or along its path from the end backwards, once no record of it has a log entry that waits
(R127 to R129). -/
def relocateMoves (r : Nat) (p : Partition) (op : FlowOp) (i : Nat) (path : List PathStep) (s : State) : Option State :=
  match path with
  | [] =>
    let pl := p.place (reqKey op.req)
    match (s.freeSlot r pl.bktA p.wide).or (s.freeSlot r pl.bktB p.wide) with
    | some l => moveRec r (locOvf i) l p.wide s
    | none => some s
  | (_, l, _) :: _ =>
    if path.any (fun e => s.groupPendingLog r e.2.1) then none
    else (movePath r p path.reverse s).bind (moveRec r (locOvf i) l p.wide)

/-- A relocation of a stash record, which waits for a Sinter route with its locks held (R129). -/
def relocateWork (r : Nat) (p : Partition) (op : FlowOp) (i : Nat) (path : List PathStep) (s : State) : State :=
  if !s.ovfHolds r i op then s else (relocateMoves r p op i path s).getD (park r op s)

/-! ## Work, and the commands that wait for it -/

/-- What an operation's work does; one that has not ended has put itself where it waits. -/
def doWork (r : Nat) (p : Partition) (op : FlowOp) (w : FlowWork) (s : State) : State × WorkEnd :=
  match w with
  | .put b create => putBlock r p b create s
  | .read settle => readWork r p op settle s
  | .delete => deleteWork r p op s
  | .flush q t0 => flushWork r p op q t0 s
  | .purge => countWork r p op s
  | .age => (ageWork r p op s, none)
  | .fill i b => (fillWork r p op i b s, none)
  | .relocate i path => (relocateWork r p op i path s, none)

/-- An operation of a command or of the engine itself takes effect at once, when its locks are free and no earlier operation waits for one of them; else it
waits in the queue (R150). DESIGN CHOICE, safe: log entry 80. -/
def submit (r : Nat) (p : Partition) (op : FlowOp) (w : FlowWork) (s : State) : State × WorkEnd :=
  let op := { op with work := some w }
  if clear (s.opLocks op) (s.takenLocks r) then doWork r p op w s else (pushOp r op s, none)

/-- The operation of a command, by number, or of the engine itself, on a key. -/
def State.workOp (s : State) (pn : Nat) (k : FlowKey) (cmd : Option Nat) : FlowOp :=
  { s.opOf pn .none (ownReq 0 k s.time.now .packet) with cmd := cmd }

/-- A partition has lost its last record, and goes. -/
def dropPartition (pn : Nat) (s : State) : State := { s with flow.partitions := tdel s.flow.partitions pn }

/-- Every record of a partition with its region. -/
def State.partitionKeys (s : State) (pn : Nat) : List (Nat × Rec) := regions.flatMap (fun r => (s.recordsOf r pn).map (fun f => (r, f.img)))

/-- The deletions of PARTITION_DELETE have ended: the records that came since go too, and then the partition. -/
def endPurge (id pid pn : Nat) (c : FlowCmd) (s : State) : State :=
  match s.partitionKeys pn with
  | [] => finish pid 0 0xFFFF [] (dropPartition pn { s with flow.cmds := tdel s.flow.cmds id })
  | ks => forEach ks { s with flow.cmds := tset s.flow.cmds id { c with left := ks.length } } (fun e s =>
      pushOp e.1 { s.workOp pn e.2.flowKey (some id) with work := some .purge } s)

/-- The number that results count. -/
def countOf (res : Results) : Nat := match res with
  | (8, n) :: _ => n
  | _ => 0

/-- The block of a bulk insert that waited has ended (R165, R538). -/
def endBulk (handle index status : Nat) (res : Results) (s : State) : State :=
  match s.item handle with
  | some i => s.setItem handle { i with
      waits := false
      bulk := i.bulk.take index status res }
  | none => s

/-- The frame of a delayed command that waited has ended (R539). -/
def endDelayed (handle status : Nat) (res : Results) (s : State) : State :=
  match s.item handle with
  | some i => endJob handle { i with waits := false } 0 (embeddedResults status 0xFFFF res) s
  | none => s

/-- The operations of a command are abandoned (R656). -/
def abandon (id : Nat) (s : State) : State :=
  let keep (ops : List FlowOp) : List FlowOp := ops.filter (fun op => op.cmd != some id)
  forEach regions s (fun r s =>
    let v := s.region r
    s.setRegion r { v with
      queue := keep v.queue
      busy := keep v.busy
      settling := keep v.settling })

/-- The operation of a command has ended, and with the last of them the command. -/
def endFlowCmd (id status : Nat) (res : Results) (s : State) : State :=
  match tget s.flow.cmds id with
  | none => s
  | some c =>
    let s' : State := { s with flow.cmds := tdel s.flow.cmds id }
    let result (audited : Bool) (opcode : Nat) (h : Ocf) : State :=
      if audited && !okStatus status then auditCommand 0x02 opcode h status 0 s' else s'
    match c.reply with
    | .frame opcode h key gen audited => answerFrame opcode h key gen status 0xFFFF res (result audited opcode h)
    | .job handle opcode h audited => endDelayed handle status res (result audited opcode h)
    | .bulk handle index => endBulk handle index status res s'
    | .pend pid =>
      let c := { c with
        left := c.left - 1
        deleted := c.deleted + countOf res }
      if c.left != 0 then { s with flow.cmds := tset s.flow.cmds id c }
      else match c.purge with
        | none => finish pid 0 0xFFFF [(8, c.deleted)] s'
        | some pn => endPurge id pid pn c s

/-- The end of an operation's work, for the command that waits for it. -/
def endWork (op : FlowOp) (e : WorkEnd) (s : State) : State :=
  match op.cmd, e with
  | some id, some (status, res) => endFlowCmd id status res s
  | _, _ => s

end Sys2Proof.Machine
end

