-- ==== Sys2Proof/Machine/FlowAccept.lean ====
section
/-! DEFINITION. The acceptance of flow operations under their locks, their reads, and what makes those that wait go on (R122, R136, R150, R153, R154,
R184). -/

namespace Sys2Proof.Machine

/-- The first operation that needs no lock that is held or that an earlier one waits for, and the others. -/
def pickOp (s : State) : List Nat → List FlowOp → Option (FlowOp × List FlowOp)
  | _, [] => none
  | held, op :: ops =>
    if clear (s.opLocks op) held then some (op, ops)
    else (pickOp s (s.opLocks op ++ held) ops).map (fun e => (e.1, op :: e.2))

/-- HBM reads that an operation needs: buckets, and the slot of a load-balancer pool (R122, R207). An operation of a command or of the engine itself makes
its reads as it takes effect, and one that waits for replay has made them. DESIGN CHOICE, safe: log entry 80. -/
def State.readsOf (s : State) (r : Nat) (op : FlowOp) : Nat × Nat :=
  match s.partition op.partition with
  | none => (0, 0)
  | some p =>
    if op.work.isSome || op.upTo.isSome then (0, 0)
    else
      let k := reqKey op.req
      let pl := p.place k
      let (f, n) := match s.onDie r op.partition pl k with
        | some f => (some f, 0)
        | none => s.inLake r op.partition p pl k
      let slot := match f, op.req.chain with
        | some f, .packet | some f, .reply _ _ _ => s.reassigns f.img
        | none, .packet => (op.tmpl.map (fun t => mayCreate t op.req && (t.serviceKind = 2 || t.serviceKind = 3))).getD false
        | _, _ => false
      (n, bit (slot && s.hbmReady))

/-- An operation whose reads are complete takes effect. DESIGN CHOICE, safe: log entry 11. DESIGN CHOICE, unsafe: log entry 69. -/
def finalize (r : Nat) (op : FlowOp) (s : State) : State :=
  match s.partition op.partition, op.work with
  | none, _ => endOp op .stateless (endWork op (some (0x0142, [])) s)
  | some p, some w =>
    let (s, e) := doWork r p op w s
    endWork op e s
  | some p, none =>
    match op.req.chain with
    | .packet => runPacket r p op none s
    | .reply z kt k => runPacket r p op (some ⟨z, kt, k⟩) s
    | .companion z kt k tries => runCompanion r p op ⟨z, kt, k⟩ tries s
    | .port tries => runPort r p op tries s
    | .drop z kt k => runDrop r p op ⟨z, kt, k⟩ s
    | .delete reason => runDelete r p op reason s

/-- An accepted operation goes on: it waits for its next read, or takes effect. DESIGN CHOICE, safe: log entry 11. -/
def runOp (r : Nat) (op : FlowOp) (s : State) : State :=
  let (b, n) := s.readsOf r op
  if op.reads < b + n then park r op s else finalize r op s

/-- An operation that holds its locks waits for budget or for replay, not for a read: a deletion, or a relocation without a Sinter route. -/
def FlowOp.stalled (op : FlowOp) : Bool :=
  op.issued.isNone && (op.work.isSome || (match op.req.chain with | .delete _ => true | _ => false))

/-- Operations that wait for budget or for the log are tried again, in acceptance order (R129, R154). -/
def retryWaits (r : Nat) (s : State) : State :=
  let waits := (s.region r).busy.filter (fun op => op.stalled && decide (op.reads ≥ (s.readsOf r op).1 + (s.readsOf r op).2))
  forEach waits s (fun op s =>
    let v := s.region r
    runOp r op (s.setRegion r { v with busy := v.busy.erase op }))

/-- Replay has moved on: the reads with SETTLE that waited for its position are repeated (R153). -/
def repeatReads (r : Nat) (s : State) : State :=
  let ripe (op : FlowOp) : Bool := (op.upTo.map (fun n => decide ((s.region r).replayed ≥ n))).getD true
  let v := s.region r
  forEach (v.settling.filter ripe) (s.setRegion r { v with settling := v.settling.filter (fun op => !ripe op) }) (fun op s =>
    let op := { op with upTo := none }
    if clear (s.opLocks op) (s.takenLocks r) then runOp r op s else pushOp r op s)

/-- What the ECC of the way that holds a key finds (R136): a corrected error counts; an uncorrectable one costs a clean record its way, and a
dirty one the record. DEDUCED, unsafe: log entry 75. -/
def tarnEcc (r : Nat) (ecc : EccOutcome) (pn : Nat) (p : Partition) (k : FlowKey) (s : State) : State :=
  let pl := p.place k
  match s.inTarn r pl.set pn k, ecc with
  | none, _ | _, .clean => s
  | some (w, t), .uncorrectable =>
    if !t.dirty && !t.pin then
      let e := s.tarnSet r pl.set
      s.setTarn r pl.set { e with ways := tdel e.ways w }
    else
      let v := s.region r
      let s := raise (168 + r) (s.setRegion r { v with tarnLost := inc64 v.tarnLost })
      leakPort t.img (removeRec r p ⟨t.locator, t.img, some w⟩ s)
  | some _, _ =>
    let v := s.region r
    s.setRegion r { v with tarnCorrected := inc64 v.tarnCorrected }

/-- The head of the deferred queue as an operation, or its expiry (R184). One whose key another device holds goes to that device, which answers
(R216); one that cannot go fails (R217). -/
def takeDeferred (r : Nat) (s : State) : Option FlowOp × State :=
  let v := s.region r
  match v.deferred with
  | [] => (none, s)
  | d :: ds =>
    let s := s.setRegion r { v with deferred := ds, sinceDeferred := 0 }
    let t := d.req.template
    let limit := ((s.template t).map TemplateP.deferMaxAge).getD 0
    let away := ((s.partition d.partition).map (s.homedAway (reqKey d.req))).getD false
    if s.time.localNs - d.queuedAt > limit * 1000000 then (none, countSvc t r cDeferExpired 1 s)
    else if away then (none, match ask d.partition (.deferred r t) d.req s with
      | some s => s
      | none => countSvc t r cDeferFailed 1 (countStarved r 1 (countUnreach d.partition (reqKey d.req) s)))
    else (some (s.opOf d.partition (.deferred r t) d.req), s)

/-- FLOW_OP_ACCEPT (R150, R122, R136): the first operation whose locks are free; after 15 others the head of the deferred queue goes first
(R184). DESIGN CHOICE, safe: log entry 11. -/
def execFlowOpAccept (region : Nat) (ecc : EccOutcome) (s : State) : Host.Outcome State Fault Refusal :=
  if !s.flowReady region then .next s
  else
    let s := if (s.region region).sinceDeferred ≥ 15 then
        match takeDeferred region s with
        | (some op, s) => s.setRegion region { s.region region with queue := op :: (s.region region).queue }
        | (none, s) => s
      else s
    .next (match pickOp s (s.heldLocks region) (s.region region).queue with
      | none => s
      | some (op, rest) =>
        let v := s.region region
        let hit := ((s.partition op.partition).map (fun p =>
          (s.inTarn region (p.place (reqKey op.req)).set op.partition (reqKey op.req)).isSome)).getD false
        let s := s.setRegion region { v with
          queue := rest
          sinceDeferred := if op.req.deferred then 0 else min 15 (v.sinceDeferred + 1)
          hits := if hit then inc64 v.hits else v.hits
          misses := if hit then v.misses else inc64 v.misses }
        let s := ((s.partition op.partition).map (fun p => tarnEcc region ecc op.partition p (reqKey op.req) s)).getD s
        runOp region op s)

/-- DEFERRED_OP_RUN (R184). -/
def execDeferredOpRun (region : Nat) (s : State) : Host.Outcome State Fault Refusal :=
  if !s.flowReady region then .next s
  else .next (match takeDeferred region s with
    | (some op, s) =>
      if clear (s.opLocks op) (s.takenLocks region) then runOp region op s
      else s.setRegion region { s.region region with queue := op :: (s.region region).queue }
    | (none, s) => s)

end Sys2Proof.Machine
end

