-- ==== Sys2Proof/Machine/FlowRows.lean ====
section
/-! DEFINITION. What the flow engines and Geyser's flow jobs do by themselves: Sinter and its log, the aging sweep, relocation, migration, NAT
rings, load-balancer health and the switch of home maps (R126 to R129, R139 to R147, R156 to R158, R163, R199, R200, R207 to R220). -/

namespace Sys2Proof.Machine

/-! ## Sinter -/

/-- SINTER_IDLE_WRITEBACK (R140, R141). -/
def execSinterIdleWriteback (region locator : Nat) (s : State) : Host.Outcome State Fault Refusal := .next (settleEntry region locator s)

/-- SINTER_LOG_REPLAY (R145, R382, R392): the oldest entry, within its budget; deletions and reads that waited for it go on. -/
def execSinterLogReplay (region : Nat) (ecc : EccOutcome) (s : State) : Host.Outcome State Fault Refusal :=
  .next (match (s.region region).log with
    | [] => s
    | e :: _ =>
      if !s.hbmReady then s
      else match chargeReplay region (replayBursts e) s with
        | none => s
        | some s => repeatReads region (retryWaits region (if ecc = .uncorrectable then loseLogEntry region s else replayOne region s)))

/-! ## The aging sweep (R126, R155 to R158, R193, R224, R225) -/

/-- The sweep checks a record, once the operations that hold its locks or wait for them have gone before (R150, R157). -/
def flowAgeVisit (r : Nat) (p : Partition) (pn : Nat) (k : FlowKey) (s : State) : State := (submit r p (s.workOp pn k none) .age s).1

/-- Overflow-store and stash records move into the invalid slots of a bucket that is theirs (R126). -/
def fillBucket (r : Nat) (p : Partition) (pn b : Nat) (s : State) : State :=
  let mine := (s.region r).ovf.filter (fun e =>
    let pl := p.place e.2.flowKey
    e.2.partition = pn && (pl.bktA = b || (p.anchored && pl.bktB = b)))
  forEach mine s (fun e s => if (s.freeSlot r b p.wide).isNone then s else (submit r p (s.workOp pn e.2.flowKey none) (.fill e.1 b) s).1)

/-- The sweep of a partition begins again: the period that it achieved. -/
def startSweep (pn : Nat) (p : Partition) (s : State) : State :=
  let now := s.time.localNs
  { s with flow.partitions := tset s.flow.partitions pn { p with
      achieved := (p.sweepAt.map (fun t => now - t)).getD p.achieved
      sweepAt := some now } }

/-- FLOW_AGING_SWEEP_VISIT (R157): a bucket, by its offset in the partition, or an overflow-store or stash entry. DESIGN CHOICE, safe: log entry 77. -/
def execFlowAgingSweepVisit (region partition : Nat) (overflow : Bool) (index : Nat) (s : State) : Host.Outcome State Fault Refusal :=
  match s.partition partition with
  | none => .next s
  | some p =>
    if !s.flowReady region then .next s
    else if overflow then
      .next (match tget (s.region region).ovf index with
        | some x => if x.partition = partition then flowAgeVisit region p partition x.flowKey s else s
        | none => s)
    else if index ≥ 2 ^ p.nbrLog2 || !s.hbmReady then .next s
    else match charge region clsTM 8 s with
      | none => .next s
      | some s =>
        let b := p.base + index
        let s := if region = 0 && index = 0 then startSweep partition p s else s
        let keys := (s.bucketRecs region b p.wide).map (fun e => e.2.flowKey)
        let s := forEach keys s (flowAgeVisit region p partition)
        .next (fillBucket region p partition b s)

/-! ## Relocation (R127 to R129) -/

/-- The reads of a relocation: the record's two buckets, then one bucket a step (R128). -/
def chargeSteps (r : Nat) : Nat → State → Option State
  | 0, s => charge r clsTM 16 s
  | n + 1, s => (charge r clsTM 8 s).bind (chargeSteps r n)

/-- A relocation once its first locks are free: the path that it takes when no slot is free in the record's buckets, and its locks; none while it waits for
budget or for the locks of the path, and an empty list of moves when it finds no path (R127, R128). -/
def startRelocation (r : Nat) (p : Partition) (op : FlowOp) (i : Nat) (s : State) : Option State :=
  let pl := p.place (reqKey op.req)
  if ((s.freeSlot r pl.bktA p.wide).or (s.freeSlot r pl.bktB p.wide)).isSome then
    (chargeSteps r 0 s).map (fun s => relocateWork r p { op with work := some (.relocate i []) } i [] s)
  else
    let (path, steps) := findPath r p op.partition s 32 pl.bktA []
    match path with
    | none => chargeSteps r steps s
    | some path =>
      let op := { op with
        locks := pathLocks p op.partition path
        work := some (.relocate i path) }
      if !clear (s.opLocks op) (s.takenLocks r) then none else (chargeSteps r steps s).map (relocateWork r p op i path)

/-- RELOCATION_JOB: the oldest job of a region. One whose record finds no place leaves it in the stash, and the sweep tries again (R126, R128).
DESIGN CHOICE, safe: log entry 77. -/
def execRelocationJob (region : Nat) (s : State) : Host.Outcome State Fault Refusal :=
  match (s.region region).jobs with
  | [] => .next s
  | i :: rest =>
    let v := s.region region
    let done := s.setRegion region { v with jobs := rest }
    if !s.hbmReady || !s.flowReady region then .next s
    else match tget v.ovf i with
      | none => .next done
      | some x =>
        match s.partition x.partition with
        | none => .next done
        | some p =>
          let op := s.workOp x.partition x.flowKey none
          if !clear (s.opLocks op) (s.takenLocks region) then .next s
          else .next ((startRelocation region p op i done).getD s)

/-! ## Migration from Tarn-only operation (R163) -/

/-- The next Tarn-only record in set order, from a place on. -/
def FlowRegion.nextPinned (v : FlowRegion) (from_ : Nat) : Option (Nat × Nat × TarnWay) :=
  v.tarn.findSome? (fun t => (t.2.ways.find? (fun w => w.2.pin && t.1 * 16 + w.1 ≥ from_)).map (fun w => (t.1, w.1, w.2)))

/-- A Tarn-only record is placed whole, with its Sinter entry written into it, and starts a relocation job where it comes to a stash (R125); none
while the write-back buffer is full. -/
def migrateOne (r set w : Nat) (t : TarnWay) (s : State) : Option State :=
  match s.partition t.img.partition with
  | none => some s
  | some p =>
    let x := ((s.sinterEntry r t.locator).map (fun e => t.img.add e.delta)).getD t.img
    let x := { x with tarnOnly := false }.bump
    let e := s.tarnSet r set
    match s.placeNew r x.partition p (p.place x.flowKey) with
    | none =>
      let v := s.region r
      some (s.setRegion r { v with unplaced := inc64 v.unplaced })
    | some l =>
      let s := dropSinter r t.locator s
      if locSpace l = 2 then
        let s := putOvf r (locPos l) x (s.setTarn r set { e with ways := tdel e.ways w })
        let v := s.region r
        some (if p.anchored then s.setRegion r { v with jobs := v.jobs ++ [locPos l] } else s)
      else if s.wbRoom r = 0 then none
      else some (pushWb r ⟨l, x, true, false⟩ (s.setTarn r set { e with ways := tset e.ways w { img := x, locator := l } }))

/-- TARN_ONLY_MIGRATE: one record; the end of a region's migration raises source 172 + r. DESIGN CHOICE, safe: log entry 77. -/
def execTarnOnlyMigrate (region : Nat) (s : State) : Host.Outcome State Fault Refusal :=
  let v := s.region region
  if !s.hbmReady || v.migrated then .next s
  else match v.nextPinned v.migrateAt with
    | none => .next (raise (172 + region) (s.setRegion region { v with migrated := true, migrateAt := 0 }))
    | some (set, w, t) =>
      if !clear (((s.partition t.img.partition).map (fun p => p.locks t.img.partition (p.place t.img.flowKey))).getD []) (s.takenLocks region) then
        .next s
      else match migrateOne region set w t s with
        | none => .next s
        | some s => .next (s.setRegion region { s.region region with migrateAt := set * 16 + w + 1 })

/-! ## NAT rings (R199, R200) -/

/-- Entries taken from the head of a ring: the initial sequence first, then the ports returned. -/
def takeRing (p : NatPool) (r : Nat) : Nat → NatRing → NatRing
  | 0, v => v
  | n + 1, v =>
    if v.next < p.ringSize then takeRing p r n { v with next := v.next + 1, buffer := v.buffer ++ [p.entry r v.next] }
    else match v.returned with
      | [] => v
      | e :: es => takeRing p r n { v with returned := es, buffer := v.buffer ++ [e] }

/-- One burst of a ring: 8 entries, which an uncorrectable burst loses (Table 8-6). DESIGN CHOICE, unsafe: log entry 136. -/
def takeRingBurst (p : NatPool) (r : Nat) (ecc : EccOutcome) (v : NatRing) : NatRing :=
  let w := takeRing p r 8 v
  if ecc = .uncorrectable then { w with
    buffer := v.buffer
    leaked := v.leaked + (w.buffer.length - v.buffer.length) }
  else w

/-- NAT_BUFFER_REFILL: 16 entries, a read of 2 bursts in the table-maintenance class. -/
def execNatBufferRefill (region pool : Nat) (ecc0 ecc1 : EccOutcome) (s : State) : Host.Outcome State Fault Refusal :=
  match tget s.flow.pools pool with
  | none => .next s
  | some p =>
    let v := s.natRing pool region
    if v.buffer.length ≥ 32 || p.filling.testBit region || !s.ringHolds pool region || !s.hbmReady then .next s
    else .next (match charge region clsTM 2 s with
      | none => s
      | some s => s.setNatRing pool region (takeRingBurst p region ecc1 (takeRingBurst p region ecc0 v)))

/-- The bytes of entries of a region's initial ring (R199). -/
def NatPool.ringBytes (p : NatPool) (r from_ n : Nat) : Bytes :=
  (List.range n).flatMap (fun i => let e := p.entry r (from_ + i); beBytes 4 (e.1 * 65536 + e.2))

/-- Where an entry of a region's ring lies in the table area. DESIGN CHOICE, safe: log entry 78. -/
def natRingAddr (pool r i : Nat) : Nat := hbmAddr r (2 ^ 32 + Config.natRingBase pool r % (2 ^ 30 - 2 ^ 28) + 4 * i)

/-- A region's ring is written as far as the table-maintenance budget goes, 8 entries to a burst (R199). -/
def fillRing (pool r : Nat) (s : State) : State :=
  match tget s.flow.pools pool with
  | none => s
  | some p =>
    let done := tgetD p.filled r 0
    let own := tgetD s.hbm.left (5 * r + clsTM) 0
    let n := min ((p.ringSize - done) / 8) (if own = 0 then 8 else own)
    if !p.filling.testBit r then s
    else match charge r clsTM n s with
      | none => s
      | some s => { s with
          hbm.mem := memWrite s.hbm.mem (natRingAddr pool r done) (p.ringBytes r done (8 * n))
          flow.pools := tset s.flow.pools pool { p with
            filled := tset p.filled r (done + 8 * n)
            filling := setBit p.filling r (decide (done + 8 * n < p.ringSize)) } }

/-- NAT_RING_FILL: the fill of every region goes on, and with the last ring NAT_POOL_WRITE completes. DESIGN CHOICE, safe: log entry 78. -/
def execNatRingFill (pool : Nat) (s : State) : Host.Outcome State Fault Refusal :=
  match tget s.flow.pools pool with
  | none => .next s
  | some p =>
    if p.filling = 0 || !s.hbmReady then .next s
    else
      let s := forEach regions s (fillRing pool)
      .next (match tget s.flow.pools pool with
        | none => s
        | some q =>
          if q.filling != 0 then s
          else
            let s : State := { s with flow.pools := tset s.flow.pools pool { q with fillId := none } }
            match p.fillId with
            | some id => finish id 0 0xFFFF [] s
            | none => s)

/-! ## Load-balancer pools (R205 to R215) -/

/-- The index of the greatest value, ties to the lower place. -/
def argMax (xs : List (Nat × Int)) : Option Nat :=
  (xs.foldl (fun best e => match best with
    | none => some e
    | some b => if e.2 > b.2 then some e else some b) none).map Prod.fst

/-- One more to the members with the largest remainders, ties to the lower (R208). -/
def addLeft : Nat → List (Nat × Nat × Nat) → List (Nat × Nat × Nat)
  | 0, ts => ts
  | n + 1, ts =>
    match argMax ((ts.filter (fun e => e.2.2 != 0)).map (fun e => (e.1, (e.2.2 : Int)))) with
    | none => ts
    | some m => addLeft n (ts.map (fun e => if e.1 = m then (e.1, e.2.1 + 1, 0) else e))

/-- Slot targets of members with weights. -/
def slotTargets (slots : Nat) (taking : List (Nat × Nat)) : Tab Nat :=
  let w := (taking.map Prod.snd).sum
  if w = 0 then []
  else
    let ts := taking.map (fun e => (e.1, slots * e.2 / w, slots * e.2 % w))
    let left := slots - (ts.map (fun e => e.2.1)).sum
    (addLeft left ts).map (fun e => (e.1, e.2.1))

/-- Slots that members keep, in slot order up to their targets, with the counts kept. -/
def keepSlots (t : Tab Nat) : List Nat → Tab Nat → List Nat × Tab Nat
  | [], c => ([], c)
  | m :: ms, c =>
    let keeps := tgetD c m 0 < tgetD t m 0
    let (rest, c) := keepSlots t ms (if keeps then tmod c m 0 (· + 1) else c)
    ((if keeps then m else 0xFFFF) :: rest, c)

/-- Free slots handed to the member with the largest deficit. -/
def fillSlots (t : Tab Nat) : List Nat → Tab Nat → List Nat
  | [], _ => []
  | m :: ms, c =>
    if m != 0xFFFF then m :: fillSlots t ms c
    else match argMax (t.map (fun e => (e.1, (e.2 : Int) - tgetD c e.1 0))) with
      | none => 0xFFFF :: fillSlots t ms c
      | some k => k :: fillSlots t ms (tmod c k 0 (· + 1))

/-- The slot table that R208 builds from another. -/
def buildSlots (slots : Nat) (old : List Nat) (taking : List (Nat × Nat)) : List Nat :=
  let t := slotTargets slots taking
  let (kept, c) := keepSlots t old []
  fillSlots t kept c

/-- Members that take part, with their weights. -/
def LbPool.taking (p : LbPool) : List (Nat × Nat) :=
  (p.members.filter (fun e => e.2.state = 0 && e.2.weight > 0)).map (fun e => (e.1, e.2.weight))

/-- The shadow table is built from the active one, or from a table of NONE where the size changes, and made active in each region in the order 0 to 3; the
old active table becomes the shadow (R207, R208). -/
def LbPool.commit (p : LbPool) : LbPool :=
  let old := if p.slots != p.nextSlots || (p.active 0).isEmpty then List.replicate p.nextSlots 0xFFFF else p.active 0
  let new := buildSlots p.nextSlots old p.taking
  { p with
    slots := p.nextSlots
    tables := forEach regions p.tables (fun r t => tset t r { active := new, shadow := (tgetD t r {}).active }) }

/-- The figures of a backend over the four regions: n, f and the mean time. DESIGN CHOICE, unsafe: log entry 79. -/
def State.healthOf (s : State) (b : Nat) : Nat × Nat × Nat :=
  let hs := regions.map (fun r => tgetD (s.region r).health b (0, 0, 0, 0))
  let n := (hs.map (fun h => h.1)).sum
  (n, (hs.map (fun h => h.2.1)).sum, if n = 0 then 0 else (hs.map (fun h => h.2.2.1)).sum / n)

/-- The accumulators of a backend start again at 0. -/
def clearHealth (b : Nat) (s : State) : State :=
  forEach regions s (fun r s =>
    let v := s.region r
    s.setRegion r { v with health := tdel v.health b })

/-- The lower median of at least two values (R213). -/
def lowerMedian (xs : List Nat) : Option Nat :=
  if xs.length < 2 then none else some ((xs.foldr insertSorted []).getD ((xs.length - 1) / 2) 0)

/-- The adapted weight of a member after a period (R213, R214). -/
def adaptWeight (p : LbPool) (med : Option Nat) (m : LbMember) (h : Nat × Nat × Nat) : Nat :=
  let (n, f, a) := h
  let lo := max m.wmin 1
  let w := m.weight
  if n + f < p.minSamples then w
  else if f * 256 > p.failLimit * (n + f) then max lo (w / 2)
  else if n > 0 && (med.map (fun x => decide (a * 16 > p.rttFactor * x))).getD false then max lo (w - ceilDiv w 8)
  else if w < m.wbase then min m.wbase (w + ceilDiv m.wbase 8)
  else w

/-- LB_HEALTH_PERIOD (R213, R215). -/
def execLbHealthPeriod (pool : Nat) (s : State) : Host.Outcome State Fault Refusal :=
  match tget s.flow.lbPools pool with
  | none => .next s
  | some p =>
    let figures := p.members.map (fun e => (e.1, s.healthOf e.2.backend))
    let adapts (e : Nat × LbMember) : Bool := e.2.state = 0 && e.2.wbase ≥ 1
    let active := p.members.filter adapts
    let fig (m : Nat) : Nat × Nat × Nat := tgetD figures m (0, 0, 0)
    let med := lowerMedian ((active.filter (fun e => (fig e.1).1 ≥ p.minSamples)).map (fun e => (fig e.1).2.2))
    let members := p.members.map (fun e => if adapts e then (e.1, { e.2 with weight := adaptWeight p med e.2 (fig e.1) }) else e)
    let failing := active.any (fun e =>
      let n := (fig e.1).1 + (fig e.1).2.1
      n ≥ p.minSamples && (fig e.1).2.1 * 256 > p.failLimit * n)
    let s := forEach p.members s (fun e s => clearHealth e.2.backend s)
    let changed := members != p.members
    let q := { p with members := members, health := figures }
    let s : State := { s with flow.lbPools := tset s.flow.lbPools pool (if changed then q.commit else q) }
    let s := if changed then raise 185 s else s
    .next (if failing then raise 186 s else s)

/-! ## Home maps (R220) -/

/-- GROUP_HOME_SWITCH. -/
def execGroupHomeSwitch (partition : Nat) (s : State) : Host.Outcome State Fault Refusal :=
  match s.partition partition with
  | none => .next s
  | some p =>
    match p.homeSwitch with
    | [] => .next s
    | (_, start, devices) :: more =>
      .next { s with flow.partitions := tset s.flow.partitions partition { p with
        homeMap := p.homeMap.mapIdx (fun i d => if i < start then d else devices.getD (i - start) d)
        homeSwitch := more } }

end Sys2Proof.Machine
end

