-- ==== Sys2Proof/Machine/HbmRows.lean ====
section
/-! DEFINITION. The commands of the HBM controllers that reach the flow engines: acceptance of requests, refusal and completion of flow reads, the
budget period and the end of a retirement (R134, R141, R154, R369, R383, R386, R391, R392, R395). -/

namespace Sys2Proof.Machine

/-- HBM_BUDGET_PERIOD: after the new budgets, what waited for budget goes on: deletions and relocations, write-backs that found no route, and export
records (R129, R141, R154, R227). -/
def execHbmBudgetPeriod (s : State) : Host.Outcome State Fault Refusal :=
  .next (unstageExports (forEach regions (newPeriod s) (fun r s => retryEntries r (retryWaits r s))))

/-! ## Acceptance -/

/-- Bursts of the write of a record: whole, or its state fields merged (R133, R368); an invalid slot is written whole. -/
def wbBursts (w : WbItem) : Nat :=
  match w.whole || w.gone, w.img.wide with
  | true, false => 2
  | true, true => 4
  | false, false => 3
  | false, true => 6

/-- The oldest record of a write-back buffer is accepted and leaves it (R134). -/
def acceptWriteBack (r : Nat) (s : State) : State :=
  let v := s.region r
  match v.wb with
  | [] => s
  | w :: rest =>
    if !s.classRoom r clsFW || !s.hbmReady then s
    else
      let bytes := s.wbBytes r w
      let s := s.setRegion r { v with wb := rest }
      match bytes with
      | none => s
      | some bs =>
        acceptHbm { region := r, cls := clsFW, write := true, addr := locPos w.locator * 64, len := recLen w.img.wide, bursts := wbBursts w,
                    use := .other, accepted := 0 } bs s

/-- Region address of the slot of a pool that an operation reads, in the table area. DESIGN CHOICE, unsafe: log entry 79. -/
def FlowOp.slotAddr (op : FlowOp) (pl : Place) : Nat :=
  let pool := (op.tmpl.map TemplateP.lbPool).getD 0
  2 ^ 32 + (pool % 4096 * 65536 + (pl.hA ^^^ pl.hB) % 65536) * 2

/-- Region address of the next read of an operation: its buckets in order, then the granule with its slot of a load-balancer pool. -/
def State.readAddr (s : State) (r : Nat) (op : FlowOp) : Nat :=
  match s.partition op.partition with
  | none => 0
  | some p =>
    let pl := p.place (reqKey op.req)
    if op.reads < (s.readsOf r op).1 then (if op.reads = 0 then pl.bktA else pl.bktB) * 256
    else op.slotAddr pl / 256 * 256

/-- A read serves a frame, and so has a latest gate time (R383). -/
def FlowOp.servesFrame (op : FlowOp) : Bool := !op.req.deferred && op.origin != .none

/-- An operation in `busy` is replaced. -/
def setBusy (r : Nat) (old new : FlowOp) (s : State) : State :=
  let v := s.region r
  s.setRegion r { v with busy := v.busy.map (fun op => if op = old then new else op) }

/-- An operation leaves `busy`. -/
def dropBusy (r : Nat) (op : FlowOp) (s : State) : State :=
  let v := s.region r
  s.setRegion r { v with busy := v.busy.erase op }

/-- The oldest read that a flow engine waits for is accepted; a bucket read that serves a frame is refused when the queue is full (R383). DEDUCED, unsafe: log entry 85. -/
def acceptFlowRead (r : Nat) (s : State) : State :=
  match (s.region r).busy.find? (fun op => op.issued.isNone && op.upTo.isNone && op.reads < (s.readsOf r op).1 + (s.readsOf r op).2) with
  | none => s
  | some op =>
    if !s.hbmReady then s
    else
    let timed := op.servesFrame && op.reads < (s.readsOf r op).1
    if !s.classRoom r clsFR then
      if timed then failOp r op 3 (countRefusal r (dropBusy r op s)) else s
    else
      let s := setBusy r op { op with issued := some s.hbm.nextSeq } s
      acceptHbm { region := r, cls := clsFR, write := false, addr := s.readAddr r op, len := 256, bursts := 8, use := .flow r, accepted := 0,
                  latest := if timed then some (op.at_ + 3000) else none } [] s

/-- HBM_REQUEST_ACCEPT (R134, R369, R383). DESIGN CHOICE, safe: log entry 37. -/
def execHbmRequestAccept (req : HbmReqOp) (s : State) : Host.Outcome State Fault Refusal :=
  match req with
  | .writeBack r => .next (acceptWriteBack r s)
  | .flowRead r => .next (acceptFlowRead r s)
  | .read r c a n =>
    if a + n > s.shareBytes then .fault .hbmAddress
    else .next (if n = 0 || !s.classRoom r c || !s.hbmReady then s
      else acceptHbm { region := r, cls := c, write := false, addr := a, len := n, bursts := chargeOf false a n, use := .other, accepted := 0 } [] s)
  | .write r c a data =>
    if a + data.length > s.shareBytes then .fault .hbmAddress
    else .next (if data.isEmpty || !s.classRoom r c || !s.hbmReady then s
      else acceptHbm { region := r, cls := c, write := true, addr := a, len := data.length, bursts := chargeOf true a data.length, use := .other,
                       accepted := 0 } data s)

/-- FR_READ_REFUSE (R383): the oldest flow read at the gate of a region that serves a frame and has met its latest gate time.
DEDUCED, unsafe: log entry 85. -/
def execFrReadRefuse (region : Nat) (s : State) : Host.Outcome State Fault Refusal :=
  .next (match (s.gateOf region clsFR).find? (fun q => q.latest.any (fun t => t ≤ s.time.localNs)) with
    | none => s
    | some q =>
      let s : State := { s with hbm.gate := s.hbm.gate.filter (fun x => x.seq != q.seq) }
      match (s.region region).busy.find? (fun op => op.issued = some q.seq) with
      | none => s
      | some op => failOp region op 3 (countRefusal region (dropBusy region op s)))

/-! ## Completion -/

/-- An uncorrectable burst of the bucket area (Table 8-6): every slot with a byte in it is lost, with its Sinter entry; a primary's NAT port
leaks. The burst is written. -/
def loseBurst (r ra : Nat) (s : State) : State :=
  let b := ra / 256
  match (s.flow.partitions.find? (fun e => e.2.base ≤ b && b < e.2.base + 2 ^ e.2.nbrLog2)) with
  | none => s
  | some (_, p) =>
    let hit (l : Nat) : Bool :=
      let lo := locPos l * 64
      lo ≤ ra / 32 * 32 && ra / 32 * 32 < lo + recLen p.wide
    let lost := (s.bucketRecs r b p.wide).filter (fun e => hit e.1)
    let s := forEach lost s (fun e s =>
      let v := s.region r
      let s := s.setRegion r { v with recLost := inc64 v.recLost }
      leakPort e.2 (removeRec r p ⟨e.1, e.2, none⟩ s))
    { s with hbm.poison := s.hbm.poison.filter (· != hbmAddr r ra / 32) }

/-- An uncorrectable burst of a slot table is written again, from the table of the next region (Table 8-6). -/
def rewriteSlots (r ra : Nat) (s : State) : State := { s with hbm.poison := s.hbm.poison.filter (· != hbmAddr r ra / 32) }

/-- An uncorrectable burst of the table area holds the slot that an operation reads. -/
def State.losesSlot (s : State) (op : FlowOp) (ra : Nat) : Bool :=
  ((s.partition op.partition).map (fun p => op.slotAddr (p.place (reqKey op.req)) / 32 == ra / 32)).getD false

/-- HBM_ACCESS_COMPLETE (R386, R391, R392): the oldest issued access of a pseudo-channel; `burst` is the burst of it that the ECC check names. -/
def execHbmAccessComplete (pc : Nat) (ecc : EccOutcome) (burst : Nat) (s : State) : Host.Outcome State Fault Refusal :=
  let p := s.pc pc
  match p.issued with
  | [] => .next s
  | q :: rest =>
    let s := s.setPc pc { p with issued := rest }
    let ra := (q.addr / 32 + burst) * 32
    let inside := ra < q.addr + q.len
    let reads := !q.write || q.addr % 32 != 0 || q.len % 32 != 0 || q.bursts > q.len / 32
    let (found, s) := if reads && inside then eccRead pc ecc (hbmAddr q.region ra / 32) s else (.clean, s)
    let s := if found = .uncorrectable && ra < 2 ^ 32 then loseBurst q.region ra s else s
    match q.use with
    | .other => .next (if q.write then s else { s with hbm.readData := q.data })
    | .flow r =>
      match (s.region r).busy.find? (fun op => op.issued = some q.seq) with
      | none => .next s
      | some op =>
        let table := found = .uncorrectable && 2 ^ 32 ≤ ra
        let next := { op with reads := op.reads + 1, issued := none, slotLost := op.slotLost || (table && s.losesSlot op ra) }
        let s := dropBusy r op s
        .next (runOp r next (if table then rewriteSlots q.region ra s else s))

/-- RETIRE_REMAP_DRAINED (R394, R395). -/
def execRetireRemapDrained (flashOk : Bool) (s : State) : Host.Outcome State Fault Refusal :=
  let s := moveGranules s
  .next (match retireDone flashOk s with
    | none => s
    | some (some id, s) => finish id 0 0xFFFF [] s
    | some (none, s) => s)

end Sys2Proof.Machine
end

