-- ==== Sys2Proof/Machine/CmdFlow.lean ====
section
/-! DEFINITION. The own part of the flow table and flow service commands (Tables 3-11 and 4-17). -/

namespace Sys2Proof.Machine

/-! ## Commands as operations -/

/-- A command's operation on one key: it ends at once, or waits under a number (R150 to R154). -/
def startWork (pn : Nat) (k : FlowKey) (w : FlowWork) (s : State) : Answer :=
  match s.partition pn with
  | none => { st := s, status := 0x0142, detail := 0 }
  | some p =>
    let id := s.flow.nextCmd
    match submit (p.place k).home p (s.workOp pn k (some id)) w s with
    | (s, some (status, res)) => { st := s, status := status, results := res }
    | (s, none) => { st := { s with flow.nextCmd := id + 1 }, waits := some id }

/-- The operations of a command on many records: how many wait, how many records went, and the state. -/
def startMany (p : Partition) (pn : Nat) (w : FlowWork) (ks : List (Nat × Rec)) (s : State) : Nat × Nat × State :=
  ks.foldl (fun (left, n, s) e =>
    match submit e.1 p (s.workOp pn e.2.flowKey (some s.flow.nextCmd)) w s with
    | (s, some (_, res)) => (left, n + countOf res, s)
    | (s, none) => (left + 1, n, s)) (0, 0, s)

/-- The command of 0x0001 that they belong to completes when the last of them ends. -/
def waitMany (purge : Option Nat) (left n : Nat) (pid : Nat) (s : State) : State :=
  let id := s.flow.nextCmd
  { s with
    flow.cmds := tset s.flow.cmds id { reply := .pend pid, purge := purge, left := left, deleted := n }
    flow.nextCmd := id + 1 }

/-! ## Partitions -/

/-- The lowest free aligned range of 2^n buckets (R106). -/
def State.freeRange (s : State) (n : Nat) : Option Nat :=
  let size := 2 ^ n
  let taken := (tvals s.flow.partitions).map (fun p => (p.base, p.base + 2 ^ p.nbrLog2))
  ((List.range (2 ^ (24 - n))).find? (fun k => taken.all (fun t => k * size + size ≤ t.1 || t.2 ≤ k * size))).map (· * size)

/-- The highest free block of 256 overflow-store entries of a region (R124). -/
def State.freeStash (s : State) (r : Nat) : Option Nat :=
  ((List.range 128).reverse.map (· * 256)).find? (fun b =>
    !(s.stashes r).contains b && (s.region r).stashUse b = 0)

/-- PARTITION_CREATE (Table 3-1, R103 to R106, R124). -/
def bodyPartitionCreate (_h : Ocf) (p : PartitionCreateP) : Body :=
  let wide := p.flags.testBit 0
  let anchored := p.kind = 1
  let sweep := orDefault p.sweepPeriod 1000
  let most := if !anchored then 24 else if wide then 21 else 20
  { opcode := 0x0401, changes := true, lenOk := (· = 84),
    check := fun s => firstErr
      [ (p.partition > 63, (0x0142, 0)),
        (p.kind > 1, (0x0142, 1)),
        (p.flags > 7, (0x0108, 2)),
        (outside p.nbrLog2 8 most, (0x0142, 3)),
        (p.ovfQuota > 30720 || (anchored && p.ovfQuota != 0), (0x0142, 12)),
        (outside sweep 1 60000, (0x0142, 14)),
        (p.defaultAgeClass > 15, (0x0142, 16)),
        (p.homeMap.any (· > 0xFFF), (0x0108, 20)),
        ((s.partition p.partition).isSome, (0x0443, 0)),
        (anchored && ((tvals s.flow.partitions).filter Partition.anchored).length ≥ 8, (0x0343, 0xFFFF)),
        ((s.freeRange p.nbrLog2).isNone || (anchored && regions.any (fun r => (s.freeStash r).isNone)), (0x0342, 0xFFFF)) ]
    apply := fun s =>
      let base := (s.freeRange p.nbrLog2).getD 0
      let q : Partition :=
        { anchored := anchored, wide := wide, adaptive := p.flags.testBit 1, groupHomed := p.flags.testBit 2, nbrLog2 := p.nbrLog2,
          seedA := p.seedA, seedB := p.seedB, ovfQuota := p.ovfQuota, sweepPeriod := sweep, ageClass := p.defaultAgeClass,
          homeMap := p.homeMap, base := base, stash := if anchored then regions.filterMap s.freeStash else [] }
      { st := { s with flow.partitions := tset s.flow.partitions p.partition q }, results := [(4, base)] } }

/-- A partition that has not been created. -/
def noPartition (pn : Nat) (off : Nat) (s : State) : Bool × Err := ((s.partition pn).isNone, (0x0142, off))

/-- PARTITION_DELETE (R154). DESIGN CHOICE, unsafe: log entry 89. -/
def bodyPartitionDelete (_h : Ocf) (partition : Nat) : Body :=
  { opcode := 0x0402, changes := true, pending := true, lenOk := (· = 4), check := fun s => firstErr [noPartition partition 0 s]
    apply := fun s =>
      match s.partition partition with
      | none => { st := s }
      | some p =>
        let (left, n, t) := startMany p partition .purge (s.partitionKeys partition) s
        if left = 0 then { st := dropPartition partition t }
        else { st := waitMany (some partition) left n s.ocf.nextPend t, later := true } }

/-- PARTITION_READ. -/
def bodyPartitionRead (_h : Ocf) (partition : Nat) : Body :=
  readBody 0x0403 4 (fun s => firstErr [noPartition partition 0 s]) fun s =>
    match s.partition partition with
    | none => []
    | some p =>
      [ (1, bit p.anchored), (1, bit p.wide + 2 * bit p.adaptive + 4 * bit p.groupHomed), (1, p.nbrLog2), (4, p.seedA), (4, p.seedB),
        (2, p.ovfQuota), (2, p.sweepPeriod), (1, p.ageClass) ] ++ p.homeMap.map (fun d => (2, d)) ++ [(4, p.base)] ++
      regions.map (fun r => (4, (s.recordsOf r partition).length)) ++ [(4, p.achieved / 1000000), (8, p.homeUnreach)]

/-! ## Key descriptors and records -/

/-- Bits of a key that its type leaves 0 (Table 3-2). DEDUCED, unsafe: log entry 81. -/
def unusedKeyBits (kt key : Nat) : Bool :=
  match kt with
  | 0 => key % 2 ^ 24 != 0
  | 1 => key % 2 ^ 24 != 0 || field 63 32 key != 0
  | 2 => key % 2 ^ 20 != 0
  | 8 => key % 2 ^ 88 != 0
  | 9 => key % 2 ^ 88 != 0 || field 127 96 key != 0
  | _ => false

/-- The checks of a key descriptor at an offset (R164). DEDUCED, unsafe: log entry 81. -/
def keyChecks (k : KeyDesc) (off : Nat) (s : State) : List (Bool × Err) :=
  let wide := ((s.partition k.partition).map Partition.wide).getD false
  [ (k.partition > 63, (0x0141, off)), noPartition k.partition off s,
    (!validType wide k.keyType, (0x0141, off + 1)),
    (unusedKeyBits k.keyType k.key || k.key ≥ (if wide then 2 ^ 384 else 2 ^ 128), (0x0141, off + 8)) ]

/-- The checks of a FLOW_INSERT block (Table 3-12, R165). -/
def blockChecks (b : FlowBlock) (s : State) : List (Bool × Err) :=
  let wide := ((s.partition b.key.partition).map Partition.wide).getD false
  let own : List (Bool × Err) :=
  [ (b.flags > 7, (0x0108, 56)),
    (b.ageClass > 15 && b.ageClass != 0xFF, (0x0143, 58)),
    (b.ctState ≥ 16, (0x0108, 59)), (b.ctState > 9, (0x0143, 59)),
    (field 14 13 b.expectGen != 0, (0x0108, 62)),
    ((if b.flags.testBit 2 then (if wide then b.service % 2 ^ 172 else b.service % 2 ^ 44)
      else (if wide then b.service % 2 ^ 137 else b.service % 2 ^ 9)) != 0, (0x0108, 72)) ]
  keyChecks b.key 0 s ++ own

/-- FLOW_INSERT (R165, R204). -/
def bodyFlowInsert (_h : Ocf) (b : FlowBlock) : Body :=
  { opcode := 0x0404, changes := true, lenOk := (· = 96), check := fun s => firstErr (blockChecks b s)
    apply := startWork b.key.partition (descKey b.key) (.put b true) }

/-- FLOW_UPDATE (R165). -/
def bodyFlowUpdate (_h : Ocf) (b : FlowBlock) : Body :=
  { opcode := 0x0405, changes := true, lenOk := (· = 96), check := fun s => firstErr (blockChecks b s)
    apply := startWork b.key.partition (descKey b.key) (.put b false) }

/-- FLOW_READ (R152, R153). -/
def bodyFlowRead (_h : Ocf) (key : KeyDesc) (settle : Nat) : Body :=
  { opcode := 0x0406, changes := false, lenOk := (· = 60), check := fun s => firstOf (keyChecks key 0 s) [(settle > 1, (0x0108, 56))]
    apply := startWork key.partition (descKey key) (.read (settle = 1)) }

/-- FLOW_DELETE (R154). -/
def bodyFlowDelete (_h : Ocf) (key : KeyDesc) : Body :=
  { opcode := 0x0407, changes := true, lenOk := (· = 56), check := fun s => firstErr (keyChecks key 0 s)
    apply := startWork key.partition (descKey key) .delete }

/-! ## Search and flush -/

/-- Every record with its region in the order of R166, with its place in the walk, which a cursor names. -/
def State.flowWalk (s : State) : List (Nat × Nat × Found) :=
  let all := regions.flatMap (fun r => (s.records r).map (fun e => (e.1 / 2 ^ 40 * 2 ^ 43 + r * 2 ^ 41 + e.1 % 2 ^ 40, r, e.2)))
  [0, 1, 2, 3].flatMap (fun stage => all.filter (fun e => e.1 / 2 ^ 43 = stage))

/-- FLOW_SEARCH_NEXT (R166): a cursor is the place in the walk after the last record returned. DESIGN CHOICE, unsafe: log entry 82. -/
def bodyFlowSearchNext (_h : Ocf) (p : FlowSearchNextP) : Body :=
  readBody 0x0408 124 (fun s => firstErr [noPartition p.partition 8 s, (p.useTemplate > 1, (0x0143, 9))]) fun s =>
    let tmpl := if p.useTemplate = 1 then some p.template else none
    let left := s.flowWalk.filter (fun e => e.1 ≥ p.cursor && filterTakes p.partition tmpl p.key p.mask e.2.2.img)
    let got := left.take 8
    let next := if left.length ≤ 8 then 0xFFFFFFFFFFFFFFFF else ((got.getLast?).map (fun e => e.1 + 1)).getD 0xFFFFFFFFFFFFFFFF
    [(8, next), (1, got.length), (3, 0)] ++ got.flatMap (fun e => recResult e.2.2.loc (s.merged e.2.1 e.2.2))

/-- FLOW_FLUSH (R167). DESIGN CHOICE, unsafe: log entry 82. -/
def bodyFlowFlush (_h : Ocf) (p : FlowFlushP) : Body :=
  { opcode := 0x0409, changes := true, pending := true, lenOk := (· = 116),
    check := fun s => firstErr [noPartition p.partition 0 s, (p.useTemplate > 1, (0x0143, 1))]
    apply := fun s =>
      match s.partition p.partition with
      | none => { st := s }
      | some q =>
        let t0 := flowTime s.time.now
        let (left, n, t) := startMany q p.partition (.flush p t0) ((s.partitionKeys p.partition).filter (fun e => s.flushTakes q p t0 e.2)) s
        if left = 0 then { st := t, results := [(8, n)] }
        else { st := waitMany none left n s.ocf.nextPend t, later := true } }

/-! ## Aging, sweep and status -/

/-- AGE_CLASS_WRITE (R155). DEDUCED, unsafe: log entry 87. -/
def bodyAgeClassWrite (_h : Ocf) (cls timeout : Nat) : Body :=
  let t := orDefault timeout (({} : FlowState).ageClasses.getD cls 1)
  writeBody 0x040A 8 (fun _ => firstErr [(cls > 15, (0x0143, 0)), (outside t 1 86400000, (0x0143, 1))])
    fun s => { s with flow.ageClasses := s.flow.ageClasses.mapIdx (fun i x => if i = cls then t else x) }

/-- SWEEP_CONFIG. -/
def bodySweepConfig (_h : Ocf) (partition sweepPeriod : Nat) : Body :=
  let t := orDefault sweepPeriod 1000
  writeBody 0x040B 4 (fun s => firstErr [noPartition partition 0 s, (outside t 1 60000, (0x0142, 1))])
    fun s => match s.partition partition with
      | none => s
      | some p => { s with flow.partitions := tset s.flow.partitions partition { p with sweepPeriod := t } }

/-- FLOW_TABLE_STATUS (R158). -/
def bodyFlowTableStatus (_h : Ocf) : Body :=
  readBody 0x040C 0 (fun _ => none) fun s =>
    regions.flatMap (fun r =>
      let v := s.region r
      let ways := (v.tarn.map (fun t => (t.2.ways.map (fun w => entriesOf w.2.img.wide)).sum)).sum
      [(4, ways), (4, (v.sinter.map (fun e => e.2.length)).sum), (4, v.log.length), (4, v.ovfUse)] ++
      (s.stashes r).map (fun b => (2, v.stashUse b)) ++ [(8, v.hits), (8, v.misses)] ++
      (List.range 9).map (fun c => (8, tgetD v.starved (c + 1) 0)) ++
      [(8, v.staleComp), (8, v.integrity), (8, v.tarnCorrected), (8, v.tarnLost), (8, v.unplaced)]) ++
    (s.flow.partitions.flatMap (fun e => [(1, e.1), (4, e.2.achieved / 1000000)]))

/-! ## Templates -/

/-- Address family of a key type; 0 for a type without addresses. -/
def keyFamily (kt : Nat) : Nat := if kt = 0 || kt = 1 then 4 else if kt = 8 || kt = 9 then 6 else 0

/-- FLOW_TEMPLATE_WRITE (Table 4-1, R169, R170). DEDUCED, unsafe: log entry 88. -/
def bodyFlowTemplateWrite (_h : Ocf) (t : TemplateP) : Body :=
  writeBody 0x0410 160
    (fun s =>
      let nat := t.serviceKind = 1 || t.serviceKind = 3
      let lb := t.serviceKind = 2 || t.serviceKind = 3
      let wide := ((s.partition t.partition).map Partition.wide).getD false
      firstErr
        [ ((s.partition t.partition).isNone, (0x0145, 1)),
          (!validType wide t.keyType, (0x0145, 2)),
          (t.keyFlags > 3, (0x0108, 3)), (t.flags > 15, (0x0108, 4)),
          (t.serviceKind > 3 || (t.serviceKind != 0 && t.keyType != 0 && t.keyType != 8), (0x0145, 5)),
          (nat && ((tget s.flow.pools t.natPool).map NatPool.family) != some (keyFamily t.keyType), (0x0145, 7)),
          (t.ctAge % 16 != 0, (0x0108, 8)),
          (t.lbPool > 4095, (0x0108, 12)),
          (lb && ((tget s.flow.lbPools t.lbPool).map LbPool.family) != some (keyFamily t.keyType), (0x0145, 12)),
          (t.ovlPolicy % 4 != 0 || t.ovlPolicy ≥ 2 ^ 20, (0x0145, 16)),
          (outside t.deferMaxAge 1 1000, (0x0145, 22)),
          (field 6 4 t.exportField != 0, (0x0108, 24)),
          (t.ctInvalid > 3, (0x0145, 25)), (t.ctMiss > 3, (0x0145, 26)),
          (t.slowReason < 0x40, (0x0145, 27)),
          (reservedAction t.stateless, (0x0108, 32)), (badAction t.stateless, (0x0145, 32)),
          (reservedAction t.flowAction, (0x0108, 48)), (badAction t.flowAction, (0x0145, 48)),
          ((t.keyType = 3 || t.keyType = 10) && t.keyMap.any (fun s => !s.testBit 31 && field 30 27 s > 8), (0x0145, 64)) ])
    fun s => { s with flow.templates := tset s.flow.templates t.template t }

/-- FLOW_TEMPLATE_READ. -/
def bodyFlowTemplateRead (_h : Ocf) (template : Nat) : Body :=
  readBody 0x0411 4 (fun s => firstErr [((s.template template).isNone, (0x0145, 0))]) fun s =>
    match s.template template with
    | none => []
    | some t =>
      [ (1, t.template), (1, t.partition), (1, t.keyType), (1, t.keyFlags), (1, t.flags), (1, t.serviceKind), (1, t.ageClass), (1, t.natPool),
        (4, t.ctAge), (2, t.lbPool), (2, t.replyZone), (4, t.ovlPolicy), (2, t.createLimit), (2, t.deferMaxAge), (1, t.exportField),
        (1, t.ctInvalid), (1, t.ctMiss), (1, t.slowReason), (4, t.templateData), (16, t.stateless), (16, t.flowAction) ] ++
      t.keyMap.map (fun k => (4, k))

/-! ## NAT pools -/

/-- A pool has allocated ports (R203). -/
def State.poolBusy (s : State) (pool : Nat) : Bool := regions.any (fun r => (s.natRing pool r).allocated != 0)

/-- Ports of a pool (R198). -/
def NatPool.ports (p : NatPool) : Nat := p.addrCount * (p.portHi + 1 - p.portLo)

/-- A fill that a new write or a deletion overtakes completes its command. -/
def endFill (pool : Nat) (s : State) : State :=
  match (tget s.flow.pools pool).bind NatPool.fillId with
  | some id => finish id 0 0xFFFF [] s
  | none => s

/-- The rings of a pool are empty. -/
def clearRings (pool : Nat) (s : State) : State := forEach regions s (fun r s => { s with flow.rings := tdel s.flow.rings (4 * pool + r) })

/-- NAT_POOL_WRITE (Table 4-9, R198, R199, R203). DESIGN CHOICE, unsafe: log entry 78. -/
def bodyNatPoolWrite (_h : Ocf) (p : NatPoolWriteP) : Body :=
  { opcode := 0x0412, changes := true, pending := true, lenOk := (· = 8),
    check := fun s =>
      let others := (s.flow.pools.filter (fun e => e.1 != p.pool)).map (fun e => e.2.ports)
      firstErr
        [ (p.pool > 63, (0x0146, 0)), (p.family != 4 && p.family != 6, (0x0146, 1)), (outside p.addrCount 1 4096, (0x0146, 2)),
          (p.portLo < 1024 || p.portLo % 256 != 0, (0x0146, 4)),
          ((p.portHi + 1) % 256 != 0 || p.portHi ≤ p.portLo, (0x0146, 6)),
          (others.sum + p.addrCount * (p.portHi + 1 - p.portLo) > 268435456, (0x0345, 0xFFFF)),
          (s.poolBusy p.pool, (0x0445, 0)) ]
    apply := fun s =>
      let addrs := ((tget s.flow.pools p.pool).map NatPool.addrs).getD []
      let q : NatPool :=
        { family := p.family, addrCount := p.addrCount, portLo := p.portLo, portHi := p.portHi, addrs := addrs, fillId := some s.ocf.nextPend }
      let s := clearRings p.pool (endFill p.pool s)
      { st := { s with flow.pools := tset s.flow.pools p.pool q }, later := true } }

/-- NAT_POOL_ADDR_WRITE. -/
def bodyNatPoolAddrWrite (_h : Ocf) (p : NatPoolAddrWriteP) : Body :=
  { opcode := 0x0413, changes := true, lenOk := (fun n => n ≥ 8 && (n - 8) % 16 = 0),
    check := fun s =>
      match tget s.flow.pools p.pool with
      | none => badAt 0x0146 0
      | some q => firstErr
          [ (p.addrs.length != p.count, (0x0107, 0xFFFF)), (outside p.count 1 64, (0x0146, 4)), (p.start + p.count > q.addrCount, (0x0146, 2)),
            (q.family = 4 && p.addrs.any (· ≥ 2 ^ 32), (0x0146, 8)) ]
    apply := fun s =>
      match tget s.flow.pools p.pool with
      | none => { st := s }
      | some q =>
        let addrs := (p.addrs.zipIdx).foldl (fun t e => tset t (p.start + e.2) e.1) q.addrs
        { st := { s with flow.pools := tset s.flow.pools p.pool { q with addrs := addrs } } } }

/-- NAT_POOL_DELETE (R203). -/
def bodyNatPoolDelete (_h : Ocf) (pool : Nat) : Body :=
  writeBody 0x0414 4
    (fun s => firstErr [((tget s.flow.pools pool).isNone, (0x0146, 0)), (s.poolBusy pool, (0x0445, 0))])
    fun s =>
      let s := clearRings pool (endFill pool s)
      { s with flow.pools := tdel s.flow.pools pool }

/-- NAT_POOL_STATUS. -/
def bodyNatPoolStatus (_h : Ocf) (pool : Nat) : Body :=
  readBody 0x0415 4 (fun s => firstErr [((tget s.flow.pools pool).isNone, (0x0146, 0))]) fun s =>
    match tget s.flow.pools pool with
    | none => []
    | some p => regions.flatMap (fun r =>
        let v := s.natRing pool r
        [(4, p.ringSize - v.next + v.returned.length + v.buffer.length), (4, v.allocated), (4, v.leaked), (8, v.exhausted)])

/-! ## Load-balancer pools -/

/-- Slots that a pool counts against the limit (R205, R207). -/
def LbPool.limitSlots (p : LbPool) : Nat := max p.slots p.nextSlots

/-- LB_POOL_WRITE (Table 4-10, R205, R207). -/
def bodyLbPoolWrite (_h : Ocf) (p : LbPoolWriteP) : Body :=
  let period := orDefault p.healthPeriod 1000
  let samples := orDefault p.minSamples 32
  let limit := orDefault p.failLimit 26
  let rtt := orDefault p.rttFactor 32
  let slots := if p.slots = 1 then 65536 else 4096
  writeBody 0x0416 12
    (fun s =>
      let old := tget s.flow.lbPools p.pool
      let others := (s.flow.lbPools.filter (fun e => e.1 != p.pool)).map (fun e => e.2.limitSlots)
      let now := max slots ((old.map LbPool.slots).getD 0)
      let named := s.flow.backends.any (fun e => e.2.pool = p.pool) ||
        s.flow.templates.any (fun e => (e.2.serviceKind = 2 || e.2.serviceKind = 3) && e.2.lbPool = p.pool)
      firstErr
        [ (p.pool > 4095, (0x0108, 0)), (p.slots > 1, (0x0146, 2)), (p.family != 4 && p.family != 6, (0x0146, 3)),
          (outside period 10 10000, (0x0146, 4)), (rtt < 16 || rtt > 255, (0x0146, 9)),
          ((old.map LbPool.family).getD p.family != p.family && named, (0x0146, 3)),
          (others.sum + now > 33554432, (0x0346, 0xFFFF)) ])
    fun s =>
      let q : LbPool := match tget s.flow.lbPools p.pool with
        | some q => { q with
            nextSlots := slots, family := p.family, healthPeriod := period, minSamples := samples, failLimit := limit, rttFactor := rtt }
        | none =>
          { slots := slots, nextSlots := slots, family := p.family, healthPeriod := period, minSamples := samples, failLimit := limit,
            rttFactor := rtt }
      { s with flow.lbPools := tset s.flow.lbPools p.pool q }

/-- A backend that is written with another pool or member leaves its former member at once (R206): until that pool's next commit its slots find no
backend, and its health accumulators start again at 0. -/
def leaveMember (p : LbBackendWriteP) (s : State) : State :=
  match tget s.flow.backends p.backend with
  | none => s
  | some b =>
    if b.pool = p.pool && b.member = p.member then s
    else clearHealth p.backend { s with flow.lbPools := (match tget s.flow.lbPools b.pool with
      | none => s.flow.lbPools
      | some q => if (tget q.members b.member).map LbMember.backend != some p.backend then s.flow.lbPools
        else tset s.flow.lbPools b.pool { q with
          members := tdel q.members b.member
          health := tdel q.health b.member }) }

/-- LB_BACKEND_WRITE (Table 4-11, R206). -/
def bodyLbBackendWrite (_h : Ocf) (p : LbBackendWriteP) : Body :=
  writeBody 0x0417 32
    (fun s => firstErr
      [ (p.backend > 262143, (0x0108, 0)), (p.pool > 4095, (0x0108, 4)), ((tget s.flow.lbPools p.pool).isNone, (0x0146, 4)),
        (p.member > 4095 || s.flow.backends.any (fun e => e.1 != p.backend && e.2.pool = p.pool && e.2.member = p.member), (0x0146, 6)),
        (((tget s.flow.lbPools p.pool).map LbPool.family).getD 0 = 4 && p.addr ≥ 2 ^ 32, (0x0146, 8)),
        (p.wmin > p.wbase, (0x0146, 28)), (p.state > 2, (0x0146, 30)) ])
    fun s =>
      let s := leaveMember p s
      { s with flow.backends := tset s.flow.backends p.backend ⟨p.pool, p.member, p.addr, p.port, p.wbase, p.wmin, p.state⟩ }

/-- A backend as its pool's commit takes it (R206, R214). -/
def commitMember (p : LbPool) (index : Nat) (b : Backend) : LbMember :=
  let fresh : LbMember := ⟨index, b.wbase, b.wmin, b.state, b.wbase⟩
  match tget p.members b.member with
  | none => fresh
  | some m =>
    if m.backend != index || m.wbase != b.wbase then fresh
    else if b.wbase = 0 then { fresh with weight := 0 }
    else { fresh with weight := min b.wbase (max (max b.wmin 1) m.weight) }

/-- LB_POOL_COMMIT (R206 to R208, R214). -/
def bodyLbPoolCommit (_h : Ocf) (pool : Nat) : Body :=
  writeBody 0x0418 4
    (fun s => firstErr [(pool > 4095, (0x0108, 0)), ((tget s.flow.lbPools pool).isNone, (0x0146, 0))])
    fun s => match tget s.flow.lbPools pool with
      | none => s
      | some p =>
        let mine := s.flow.backends.filter (fun e => e.2.pool = pool)
        let members := mine.foldl (fun t e => tset t e.2.member (commitMember p e.1 e.2)) ([] : Tab LbMember)
        { s with flow.lbPools := tset s.flow.lbPools pool { p with members := members }.commit }

/-- LB_POOL_READ. -/
def bodyLbPoolRead (_h : Ocf) (pool : Nat) : Body :=
  readBody 0x0419 4 (fun s => firstErr [(pool > 4095, (0x0108, 0)), ((tget s.flow.lbPools pool).isNone, (0x0146, 0))]) fun s =>
    match tget s.flow.lbPools pool with
    | none => []
    | some p => [(4, p.slots), (4, p.nextSlots), (2, p.members.length), (2, 0)] ++ p.members.flatMap (fun e =>
        let h := tgetD p.health e.1 (0, 0, 0)
        [(2, e.1), (4, e.2.backend), (2, e.2.wbase), (2, e.2.weight), (1, e.2.state), (1, 0), (4, ((p.active 0).filter (· = e.1)).length), (4, h.1),
         (4, h.2.1), (4, h.2.2)])

/-! ## Home maps, export and counters -/

/-- A switch of a home map in its place by time. DESIGN CHOICE, unsafe: log entry 82. -/
def insertSwitch (e : Nat × Nat × List Nat) : List (Nat × Nat × List Nat) → List (Nat × Nat × List Nat)
  | [] => [e]
  | f :: fs => if e.1 < f.1 then e :: f :: fs else f :: insertSwitch e fs

/-- GROUP_HOME_WRITE (R220). -/
def bodyGroupHomeWrite (_h : Ocf) (p : GroupHomeWriteP) : Body :=
  { opcode := 0x041A, changes := true, lenOk := (fun n => n ≥ 12 && n ≤ 76 && n % 2 = 0),
    check := fun s => firstErr
      [ noPartition p.partition 0 s, (!((s.partition p.partition).map Partition.groupHomed).getD false, (0x0142, 0)),
        (p.timeNs ≥ 1000000000, (0x0142, 7)), (p.start + p.devices.length > 32 || p.devices.isEmpty, (0x0142, 11)),
        (p.devices.any (· > 0xFFF), (0x0108, 12)) ]
    apply := fun s =>
      match s.partition p.partition with
      | none => { st := s }
      | some q => { st := { s with flow.partitions := tset s.flow.partitions p.partition { q with
          homeSwitch := insertSwitch (ofSeconds p.timeS p.timeNs, p.start, p.devices) q.homeSwitch } } } }

/-- EXPORT_PROFILE_WRITE (Table 4-13): the queue stays, and the template set goes into the next message. DESIGN CHOICE, unsafe: log entry 83. -/
def bodyExportProfileWrite (_h : Ocf) (p : ExportProfileWriteP) : Body :=
  let refresh := orDefault p.templateRefresh 600
  let flush := orDefault p.flushDelay 100
  let v6 := p.flags.testBit 3
  writeBody 0x041B 72
    (fun _ => firstErr
      [ (p.profile > 15, (0x0147, 0)), (p.flags > 15, (0x0108, 1)),
        (!v6 && p.collector ≥ 2 ^ 32, (0x0147, 4)), (!v6 && p.source ≥ 2 ^ 32, (0x0147, 20)),
        (outside p.mtu 576 9216, (0x0147, 38)), (outside p.rate 1000 10000000, (0x0147, 44)), (outside p.burst 1500 1048576, (0x0147, 48)),
        (p.activeTimeout > 3600, (0x0147, 52)), (outside refresh 1 3600, (0x0147, 54)), (outside flush 1 1000, (0x0147, 56)),
        (p.egressPort ≥ 2 ^ 13, (0x0108, 58)), (p.vlan ≥ 4096, (0x0108, 66)), (p.tc > 7, (0x0147, 68)), (p.dscp > 63, (0x0108, 69)) ])
    fun s =>
      let old := tget s.flow.profiles p.profile
      let base : ExportProfile :=
        { flags := p.flags, collectorPort := orDefault p.collectorPort 4739, collector := p.collector, source := p.source,
          sourcePort := p.sourcePort, mtu := p.mtu, odid := p.odid, rate := p.rate, burst := p.burst, activeTimeout := p.activeTimeout,
          templateRefresh := refresh, flushDelay := flush, egressPort := p.egressPort, dstMac := p.dstMac, vlan := p.vlan, tc := p.tc,
          dscp := p.dscp, tokens := p.burst * byteTokens, tokensAt := s.time.localNs }
      s.setProfile p.profile (match old with
        | none => base
        | some o => { base with
            buildSet := o.buildSet, building := o.building, ended := o.ended, staged := o.staged, sentRecords := o.sentRecords, sentMessages := o.sentMessages,
            dropped := o.dropped, skipped := o.skipped })

/-- EXPORT_STATUS. -/
def bodyExportStatus (_h : Ocf) (profile : Nat) : Body :=
  readBody 0x041C 4 (fun _ => firstErr [(profile > 15, (0x0147, 0))]) fun s =>
    match tget s.flow.profiles profile with
    | none => [(4, 0), (8, 0), (8, 0), (8, 0), (8, 0)]
    | some p => [(4, p.queued), (8, p.sentRecords), (8, p.sentMessages), (8, p.dropped), (8, p.skipped)]

/-- SERVICE_COUNTERS_READ (Table 4-4): one region, or all with 0xFF. DESIGN CHOICE, unsafe: log entry 83. -/
def bodyServiceCountersRead (_h : Ocf) (template region : Nat) : Body :=
  readBody 0x041D 4 (fun _ => firstErr [(region > 3 && region != 0xFF, (0x0145, 1))]) fun s =>
    (if region = 0xFF then regions else [region]).flatMap (fun r =>
      (List.range 32).map (fun k => (8, tgetD s.flow.counters (256 * (4 * template + r) + k) 0)))

end Sys2Proof.Machine
end

