-- ==== Sys2Proof/Machine/Learning.lean ====
section
/-! DEFINITION. Address learning within a device and across devices: events, the learn arbiter, moves and pinning, aging, learning messages and
flushes (R253 to R275). -/

namespace Sys2Proof.Machine

/-- The stamp of an entry, a record or an event in nanoseconds of estate time. -/
def stampOf (s ns : Nat) : Nat := s * 1000000000 + ns
def MacEntry.stamp (e : MacEntry) : Nat := stampOf e.stampS e.stampNs
def recordStamp (r : LearnRecord) : Nat := stampOf r.stampS r.stampNs

/-- The key of the move tracker and of the learn filters. -/
def trackKey (fid mac : Nat) : Nat := fid * 2 ^ 48 + mac

/-- Learning in a FID is exchanged (R264). -/
def State.shares (s : State) (fid : Nat) : Bool :=
  s.fwd.exchanged && s.fwd.vlans.any (fun e => vlanValid e.2 && vlanFid e.2 = fid && vlanShared e.2)

/-- The record of an entry (Table 5-7); a LAG is named by its first member. -/
def State.recordOf (s : State) (op : Nat) (refresh : Bool) (e : MacEntry) : LearnRecord :=
  { op, refresh, unsync := e.unsync, fid := e.fid, mac := e.mac, originDev := e.learnDev,
    originPort := if e.destType = 1 then (s.lagMembers e.dest).headD 0 else e.dest,
    stampS := e.stampS, stampNs := e.stampNs }

/-- A record that every member of the group is sent (R266). -/
def sendRecord (op : Nat) (refresh : Bool) (e : MacEntry) (s : State) : State :=
  if s.shares e.fid && !e.remote && !e.static then { s with fwd.outbox := s.fwd.outbox ++ [(none, s.recordOf op refresh e)] } else s

/-- A MAC entry leaves the table; a pinned entry frees its tracker entry. -/
def deleteMac (k : Nat) (e : MacEntry) (s : State) : State :=
  let s := beginUpdate s
  let s : State := { s with
    fwd.mac := tdel s.fwd.mac k
    fwd.tracker := if e.pinned then tdel s.fwd.tracker (trackKey e.fid e.mac) else s.fwd.tracker }
  sendRecord 2 false e s

/-- What the tracker says of a move (R261, R262): pin the entry, or apply the move. -/
def trackMove (key stamp : Nat) (s : State) : Bool × State :=
  let fresh (s : State) : State :=
    if s.fwd.tracker.length < 4096 then { s with fwd.tracker := tset s.fwd.tracker key ⟨1, stamp⟩ } else count5 cntUntracked s
  match tget s.fwd.tracker key with
  | none => (false, fresh s)
  | some t =>
    if stamp > t.start + s.fwd.flapWindow * 1000000 then (false, fresh { s with fwd.tracker := tdel s.fwd.tracker key })
    else if t.count + 1 > s.fwd.flapLimit then (true, s)
    else (false, { s with fwd.tracker := tset s.fwd.tracker key { t with count := t.count + 1 } })

/-- The entry with the pin of the one that it replaces: what clears PINNED is R263's. DESIGN CHOICE, unsafe: log entry 17. -/
def MacEntry.keepPin (n e : MacEntry) : MacEntry := { n with pinned := e.pinned, pinnedAt := e.pinnedAt }

/-- A station move of the entry `e` at place `k` to the entry `n`, through the tracker (R259, R261, R262); one of a pinned entry is only counted. -/
def moveEntry (k : Nat) (e n : MacEntry) (s : State) : State :=
  if e.pinned then count5 cntPinnedMoves s
  else
  let (pin, s) := trackMove (trackKey e.fid e.mac) n.stamp s
  if pin then raise 190 (count5 cntPinned (putMac k { e with pinned := true, pinnedAt := s.time.localNs } s))
  else sendRecord 1 false n (count5 cntMoves (putMac k n s))

/-- The outcome of R269 and R271 for an arrival against an entry that another device learned: what becomes of it. -/
inductive Against where
  | move | win | lose | stale
  deriving DecidableEq, Repr

/-- R269: the arrival's stamp and device against the entry's. -/
def State.against (s : State) (unsync : Bool) (stamp dev : Nat) (e : MacEntry) : Against :=
  let w : Int := s.fwd.conflictWindow * 100000
  let d : Int := (stamp : Int) - e.stamp
  if unsync || e.unsync then .move
  else if d > w then .move
  else if d < -w then .stale
  else if d < 0 || (d = 0 && dev < e.learnDev) then .win else .lose

/-- Either stamp is UNSYNC (R271). -/
def countUnsync (u : Bool) (s : State) : State := if u then count5 cntUnsync s else s

/-- A learn or move event of this device (R257, R259, R262, R269). DESIGN CHOICE, unsafe: log entry 16. -/
def applyLocal (ev : LearnEvent) (s : State) : State :=
  let n : MacEntry :=
    { destType := ev.destType, dest := ev.dest, fid := ev.fid, mac := ev.mac, learnDev := s.ocf.deviceId, stampS := ev.stamp / 1000000000,
      stampNs := ev.stamp % 1000000000, unsync := ev.unsync }
  match s.macFind ev.fid ev.mac with
  | none =>
    match insertMac n s with
    | some s => sendRecord 1 false n s
    | none => count5 cntTableFull s
  | some (k, e) =>
    let same := e.destType = ev.destType && e.dest = ev.dest
    let moved : MacEntry := { n with hit := e.hit, ageCnt := e.ageCnt }
    if e.static then (if same then s else count5 cntStaticMove s)
    else if e.remote then
      match s.against ev.unsync ev.stamp s.ocf.deviceId e with
      | .move => moveEntry k e moved (countUnsync (ev.unsync || e.unsync) s)
      | .win => sendRecord 1 false n (count5 cntConflicts (putMac k (n.keepPin e) s))
      | .lose => count5 cntConflicts s
      | .stale => count5 cntStale s
    else if same then (if e.pinned then s else putMac k moved s)
    else moveEntry k e moved s

/-- The key of an event leaves its pipeline's filter (R256). -/
def unfilter (ev : LearnEvent) (s : State) : State :=
  let p := s.pipe ev.pipe
  s.setPipe ev.pipe { p with filter := p.filter.erase (trackKey ev.fid ev.mac, ev.destType, ev.dest) }

/-- The arbiter applies the oldest event. -/
def applyEvent (ev : LearnEvent) (s : State) : State := unfilter ev (applyLocal ev s)

/-- Every event accepted so far is applied, ahead of an operation accepted after them (R258). DEDUCED, unsafe: log entry 15. -/
def settleLearning (s : State) : State := forEach s.fwd.queue { s with fwd.queue := [] } applyEvent

/-- An event reaches the learn queue (R257). -/
def acceptEvent (ev : LearnEvent) (s : State) : State :=
  if s.fwd.queue.length ≥ 8192 then unfilter ev (raise 191 (count5 cntDropped s))
  else { s with fwd.queue := s.fwd.queue ++ [ev] }

/-- A pipeline issues an event through its filter (R256); a full filter holds no more keys, and the event is issued.
DESIGN CHOICE, unsafe: log entry 16. -/
def issueEvent (ev : LearnEvent) (s : State) : State :=
  let p := s.pipe ev.pipe
  let k := (trackKey ev.fid ev.mac, ev.destType, ev.dest)
  if p.filter.contains k then s
  else acceptEvent ev (if p.filter.length < 256 then s.setPipe ev.pipe { p with filter := p.filter ++ [k] } else s)

/-- An event of a NOTIFY port (R253); one that finds the queue full is lost. DESIGN CHOICE, unsafe: log entry 16. -/
def notifyEvent (ev : LearnEvent) (s : State) : State :=
  raise 194 (if s.fwd.notes.length < 1024 then { s with fwd.notes := s.fwd.notes ++ [ev] } else s)

/-- LEARN_EVENT_APPLY (R257). -/
def execLearnEventApply (s : State) : Host.Outcome State Fault Refusal :=
  .next (match s.fwd.queue with
    | [] => s
    | ev :: rest => if s.isReady 96 then applyEvent ev { s with fwd.queue := rest } else s)

/-- FLAP_WINDOW_EXPIRE (R261): a window that ends without pinning frees its tracker entry. -/
def execFlapWindowExpire (fid mac : Nat) (s : State) : Host.Outcome State Fault Refusal :=
  let pinned := ((s.macFind fid mac).map (fun e => e.2.pinned)).getD false
  .next (if pinned then s else { s with fwd.tracker := tdel s.fwd.tracker (trackKey fid mac) })

/-- PINNED clears, and the tracker entry is freed (R263). -/
def unpin (fid mac : Nat) (s : State) : State :=
  match s.macFind fid mac with
  | some (k, e) => if e.pinned then
      { putMac k { e with pinned := false } s with fwd.tracker := tdel s.fwd.tracker (trackKey fid mac) }
    else s
  | none => s

/-- PIN_HOLD_EXPIRE (R263). -/
def execPinHoldExpire (fid mac : Nat) (s : State) : Host.Outcome State Fault Refusal := .next (unpin fid mac s)

/-- The visit of an entry by the aging sweep (R260, R266). -/
def ageVisit (k : Nat) (e : MacEntry) (s : State) : State :=
  if e.static then s
  else if e.hit != 0 then
    let n := { e with hit := 0, ageCnt := 0 }
    sendRecord 1 true n (putMac k n s)
  else if e.ageCnt + 1 ≥ 4 then deleteMac k e s
  else putMac k { e with ageCnt := e.ageCnt + 1 } s

/-- MAC_AGING_VISIT. -/
def execMacAgingVisit (position : Nat) (s : State) : Host.Outcome State Fault Refusal :=
  let s := settleLearning s
  .next (match tget s.fwd.mac position with
    | some e => ageVisit position e s
    | none => s)

/-- LPM_NODE_FREE (R246): the nodes that an update replaced are freed. -/
def execLpmNodeFree (s : State) : Host.Outcome State Fault Refusal := .next { s with fwd.trie := s.fwd.trie.release }

/-! ## Learning messages -/

/-- The entry that a remote record installs (R267). -/
def State.remoteEntry (s : State) (r : LearnRecord) : MacEntry :=
  let own := s.fabricMember r.originDev
  { remote := true, destType := if own then 0 else 2, dest := if own then r.originPort else r.originDev, fid := r.fid, mac := r.mac,
    learnDev := r.originDev, stampS := r.stampS, stampNs := r.stampNs, unsync := r.unsync }

/-- A local entry that lost a conflict. -/
def lostConflict (e : MacEntry) (s : State) : State := if e.remote then s else raise 192 (count5 cntLost s)

/-- A LEARN or CORRECTION record (R267 to R271). DEDUCED, unsafe: log entry 17. -/
def applyRecord (sender : Nat) (r : LearnRecord) (s : State) : State :=
  let n := s.remoteEntry r
  match s.macFind r.fid r.mac with
  | none => (insertMac n s).getD (count5 cntTableFull s)
  | some (k, e) =>
    let same := e.destType = n.destType && e.dest = n.dest
    if e.static then (if same then s else count5 cntStaticMove s)
    else if e.learnDev = r.originDev then
      if recordStamp r < e.stamp then count5 cntStale s
      else if same then putMac k (n.keepPin e) s
      else moveEntry k e n s
    else
      match s.against r.unsync (recordStamp r) r.originDev e with
      | .move => moveEntry k e n (countUnsync (r.unsync || e.unsync) s)
      | .win => lostConflict e (count5 cntConflicts (putMac k (n.keepPin e) s))
      | .stale => count5 cntStale s
      | .lose =>
        let s := count5 cntConflicts s
        if e.remote || r.op != 1 || !s.shares r.fid then s
        else { s with fwd.outbox := s.fwd.outbox ++ [(some sender, s.recordOf 3 false e)] }

/-- A WITHDRAW record (R268). -/
def applyWithdraw (r : LearnRecord) (s : State) : State :=
  match s.macFind r.fid r.mac with
  | none => s
  | some (k, e) =>
    if e.static || e.learnDev != r.originDev then s
    else if recordStamp r < e.stamp then count5 cntStale s
    else deleteMac k e s

/-- MSG_SEQ of a sender (R272). -/
def noteSeq (m : LearnMessageP) (s : State) : State :=
  let gap := match tget s.fwd.heard m.senderDev with
    | some k => m.msgSeq != wrap 32 (k + 1)
    | none => false
  let s : State := { s with fwd.heard := tset s.fwd.heard m.senderDev m.msgSeq }
  if gap then raise 193 (count5 cntMsgGap s) else s

/-- A learning message takes effect (R264 to R272, R596). -/
def takeMessageRecords (via : Transport) (m : LearnMessageP) (s : State) : State :=
  if m.senderDev = s.ocf.deviceId then noteDuplicate s
  else if !s.fwd.exchanged || m.group != s.fwd.learnGroup then s
  else
    let s := noteSeq m (noteMember m.senderDev 2 (settleLearning s))
    let s : State := match via with
      | .dvorob slot => { s with fab.devices := tset s.fab.devices slot m.senderDev }
      | _ => s
    forEach m.records s (fun r s => if r.op = 2 then applyWithdraw r s else applyRecord m.senderDev r s)

/-- LEARN_MESSAGE (R265). DEDUCED, unsafe: log entry 18. -/
def bodyLearnMessage (h : Ocf) (m : LearnMessageP) : Body :=
  { opcode := 0x0520, changes := true, lenOk := (· = 8 + 32 * m.records.length),
    check := fun _ => firstErr
      [ (m.senderDev > 4095, (0x0151, 0)),
        (m.group > 255, (0x0151, 2)),
        (outside m.records.length 1 32, (0x0151, 3)),
        (m.records.any (fun r => outside r.op 1 3 || r.fid > 4095 || r.originDev > 4095), (0x0151, 8)) ]
    apply := fun s => { st := takeMessageRecords h.transport m s } }

/-- A learning record as its 32 bytes. -/
def recordBytes (r : LearnRecord) : Bytes :=
  beBytes 1 r.op ++ beBytes 1 (bit r.refresh + 2 * bit r.unsync) ++ beBytes 2 r.fid ++ beBytes 6 r.mac ++ beBytes 2 r.originDev ++
  beBytes 2 r.originPort ++ beBytes 2 0 ++ beBytes 6 r.stampS ++ beBytes 4 r.stampNs ++ beBytes 6 0

/-- The parameters of a learning message. -/
def messageBytes (m : LearnMessageP) : Bytes :=
  beBytes 2 m.senderDev ++ beBytes 1 m.group ++ beBytes 1 m.records.length ++ beBytes 4 m.msgSeq ++ m.records.flatMap recordBytes

/-- A learning message as an Ohmed frame: ROLE 1, KEY_ID 3, SENDER the device ID and SEQ its estate time (R265, R443). -/
def learnFrame (m : LearnMessageP) (seq : Nat) (s : State) : Bytes :=
  let ps := messageBytes m
  let head := beBytes 2 0x4F48 ++ beBytes 1 1 ++ beBytes 1 1 ++ beBytes 2 0x0520 ++ beBytes 2 8 ++ beBytes 8 seq ++ beBytes 4 ps.length ++
    beBytes 2 0 ++ beBytes 2 s.ocf.deviceId ++ beBytes 1 3 ++ beBytes 1 0 ++ beBytes 2 0 ++ beBytes 4 s.ocf.epoch ++ ps
  head ++ mac16 ((tget s.roles.keys 7).getD []) head

/-- The records of the next message: up to 32 from the head of the outbox that go to one receiver. -/
def nextBatch (box : List (Option Nat × LearnRecord)) : List (Option Nat × LearnRecord) :=
  match box with
  | [] => []
  | e :: _ => (box.takeWhile (fun x => x.1 = e.1)).take 32

/-- The slots of fabric-group members that a message goes to. -/
def State.learnSlots (s : State) (dest : Option Nat) : List Nat :=
  match dest with
  | none => s.memberSlots.drop 1
  | some d => (s.slotOfDevice d).toList

/-- A frame in pieces of the size that a control cell carries (R408); `fuel` bounds their number. -/
def ocfPieces : Nat → Bytes → List Bytes
  | 0, _ => []
  | fuel + 1, d => if d = [] then [] else d.take 232 :: ocfPieces fuel (d.drop 232)

/-- LEARN_MESSAGE_SEND (R265, R266): over the Dvorob Link within the fabric group, in-band to the rest. DEDUCED, unsafe: log entry 17. -/
def execLearnMessageSend (s : State) : Host.Outcome State Fault Refusal :=
  match nextBatch s.fwd.outbox with
  | [] => .next s
  | (dest, r) :: more =>
    if !s.fwd.exchanged then .next s
    else
      let m : LearnMessageP :=
        { senderDev := s.ocf.deviceId, group := s.fwd.learnGroup, msgSeq := s.fwd.msgSeq, records := r :: more.map Prod.snd }
      let seq := max s.estateNs (s.fwd.lastSeq + 1)
      let data := learnFrame m seq s
      let slots := s.learnSlots dest
      let s : State := { s with
        fwd.outbox := s.fwd.outbox.drop (1 + more.length)
        fwd.msgSeq := wrap 32 (s.fwd.msgSeq + 1)
        fwd.lastSeq := seq }
      let s := forEach slots s (fun k s => forEach (ocfPieces 71 data) s (fun x s => sendToSlot k (.learn k x) s))
      let inband := match dest with
        | none => true
        | some _ => slots.isEmpty
      .next (if inband then
        forEach s.fwd.sharePorts s (fun f s =>
          originate ((s.ofSysPort f).getD f) s.fwd.shareTc (inbandFrame s.ocf.stationMac s.ocf.groupMac none data) s)
      else s)

/-! ## Flush and walks -/

/-- An entry matches a filter (Table 5-8). -/
def filterHits (f : FlushFilter) (e : MacEntry) : Bool :=
  (!f.mtch.testBit 0 || e.fid = f.fid) && (!f.mtch.testBit 1 || (e.destType = f.destType && e.dest = f.dest)) &&
  (!f.mtch.testBit 2 || e.learnDev = f.learnDev) &&
  ((f.scope.testBit 0 && !e.static && !e.remote) || (f.scope.testBit 1 && e.remote) || (f.scope.testBit 2 && e.static))

/-- A flush (R275): it deletes the entries that match and whose stamp is not later than T0. -/
def flushMac (f : FlushFilter) (s : State) : Nat × State :=
  let t0 := s.estateNs
  let hits := s.fwd.mac.filter (fun e => filterHits f e.2 && e.2.stamp ≤ t0)
  (hits.length, forEach hits s (fun e s => deleteMac e.1 e.2 s))

/-- The entries of a walk from a cursor: up to 16, and the cursor of the next call. -/
def walkFrom {α : Type} (t : Tab α) (cursor : Nat) (p : α → Bool) : Nat × Tab α :=
  let hits := t.filter (fun e => cursor ≤ e.1 && p e.2)
  let got := hits.take 16
  (if hits.length ≤ 16 then 2 ^ 64 - 1 else ((got.getLast?).map (fun e => e.1 + 1)).getD 0, got)

/-- The cursor that ends a walk. -/
def endCursor : Nat := 2 ^ 64 - 1

end Sys2Proof.Machine
end

