-- ==== Sys2Proof/Machine/CmdForward.lean ====
section
/-! DEFINITION. The own part of the forwarding and learning commands (Table 5-10). -/

namespace Sys2Proof.Machine

/-- VLAN_WRITE (Table 5-1). -/
def bodyVlanWrite (_h : Ocf) (vid entry : Nat) : Body :=
  writeBody 0x0501 12
    (fun _ => firstErr [(vid > 4095, (0x0151, 0)), (entry % 2 ^ 22 != 0, (0x0108, 2))])
    fun s => { s with fwd.vlans := if entry = 0 then tdel s.fwd.vlans vid else tset s.fwd.vlans vid entry }

/-- PORT_L2_WRITE (R229, R253). -/
def bodyPortL2Write (_h : Ocf) (port defaultVid learnMode : Nat) : Body :=
  writeBody 0x0502 8
    (fun s => firstErr
      [((s.portArg port).isNone, (0x0151, 0)), (defaultVid > 4095, (0x0151, 2)), (learnMode > 3, (0x0151, 4))])
    fun s => match s.portArg port with
      | some k => { s with fwd.ports := tset s.fwd.ports k ⟨defaultVid, learnMode⟩ }
      | none => s

/-- L2_TABLE_CONFIG (Table 5-9, R238). -/
def bodyL2TableConfig (_h : Ocf) (p : L2TableConfigP) : Body :=
  let age := orDefault p.ageTime 300
  let limit := orDefault p.flapLimit 5
  let window := orDefault p.flapWindow 1000
  let hold := orDefault p.pinHold 10
  let conflict := orDefault p.conflictWindow 10
  writeBody 0x0503 24
    (fun s =>
      let s := settleLearning s
      firstErr
        [ (outside age 1 86400, (0x0151, 12)),
          (outside limit 2 255, (0x0151, 16)),
          (outside window 10 60000, (0x0151, 18)),
          (outside hold 1 3600, (0x0151, 20)),
          (outside conflict 1 1000, (0x0151, 22)),
          (p.macSeed != s.fwd.macSeed && s.fwd.mac != [], (0x0152, 0)),
          (p.hostSeed != s.fwd.hostSeed && s.fwd.host != [], (0x0152, 4)) ])
    fun s =>
      let s := settleLearning s
      { s with
        fwd.macSeed := p.macSeed
        fwd.hostSeed := p.hostSeed
        fwd.lsSeed := p.lsSeed
        fwd.ageTime := age
        fwd.flapLimit := limit
        fwd.flapWindow := window
        fwd.pinHold := hold
        fwd.conflictWindow := conflict }

/-- DEST is outside the range of its DEST_TYPE (Table 5-3). -/
def badDest (t d : Nat) : Bool :=
  match t with
  | 0 => d ≥ 8192 && !(d = mgmtPort || d = hostPort)
  | 1 => d > 255
  | 2 => d > 4095
  | 3 => d > 16383
  | 5 => d < 0x40 || d > 0xFF
  | _ => false

/-- The MAC entry that a command writes: learned by this device, with its stamp now (DESIGN CHOICE, unsafe: log entry 12). -/
def commandEntry (p : L2EntryWriteP) (s : State) : MacEntry :=
  { static := p.static = 1, destType := p.destType, dest := p.dest, fid := p.fid, mac := p.mac, learnDev := s.ocf.deviceId,
    stampS := timeS s.time.now, stampNs := timeNs s.time.now, unsync := !s.traceable }

/-- L2_ENTRY_WRITE (R236, R237). DESIGN CHOICE, unsafe: log entry 12. -/
def bodyL2EntryWrite (_h : Ocf) (p : L2EntryWriteP) : Body :=
  { opcode := 0x0504, changes := true, lenOk := (· = 12),
    check := fun _ => firstErr
      [ (p.fid > 4095, (0x0151, 0)),
        (p.static > 1, (0x0108, 8)),
        (p.destType > 5, (0x0151, 9)),
        (badDest p.destType p.dest, (0x0151, 10)) ]
    apply := fun s =>
      let s := settleLearning s
      let n := commandEntry p s
      match s.macFind p.fid p.mac with
      | some (k, e) => { st := putMac k { n with hit := e.hit } { s with
          fwd.tracker := if e.pinned then tdel s.fwd.tracker (trackKey p.fid p.mac) else s.fwd.tracker } }
      | none => match insertMac n s with
        | some s => { st := s }
        | none => { st := s, status := 0x0351 } }

/-- The check of a command that names a MAC entry. -/
def macKeyError (fid mac : Nat) (s : State) : Option Err :=
  if fid > 4095 then badAt 0x0151 0
  else if ((settleLearning s).macFind fid mac).isNone then plain 0x0451 else none

/-- L2_ENTRY_DELETE. -/
def bodyL2EntryDelete (_h : Ocf) (fid mac : Nat) : Body :=
  writeBody 0x0505 8 (macKeyError fid mac) fun s =>
    let s := settleLearning s
    match s.macFind fid mac with
    | some (k, e) => deleteMac k e s
    | none => s

/-- L2_ENTRY_READ (R273): the events accepted before it are applied first. -/
def bodyL2EntryRead (_h : Ocf) (fid mac : Nat) : Body :=
  { opcode := 0x0506, changes := false, lenOk := (· = 8), check := macKeyError fid mac,
    apply := fun s =>
      let s := settleLearning s
      { st := s, results := match s.macFind fid mac with
          | some (_, e) => [(24, e.word)]
          | none => [] } }

/-- L2_SEARCH_NEXT (R274). -/
def bodyL2SearchNext (_h : Ocf) (cursor : Nat) (filter : FlushFilter) : Body :=
  { opcode := 0x0507, changes := false, lenOk := (· = 20),
    check := fun _ => firstErr [(filter.mtch > 7, (0x0108, 8)), (filter.scope > 7, (0x0108, 9)), (filter.fid > 4095, (0x0151, 10))]
    apply := fun s =>
      let s := settleLearning s
      let (next, got) := walkFrom s.fwd.mac cursor (filterHits filter)
      { st := s, results := (8, next) :: got.map (fun e => (24, e.2.word)) } }

/-- L2_FLUSH (R275): its completion carries the count. -/
def bodyL2Flush (_h : Ocf) (filter : FlushFilter) : Body :=
  { opcode := 0x0508, changes := true, pending := true, lenOk := (· = 12),
    check := fun _ => firstErr
      [ (filter.mtch > 7, (0x0108, 0)), (filter.scope > 7, (0x0108, 1)), (filter.fid > 4095, (0x0151, 2)),
        (filter.destType > 5, (0x0151, 4)), (filter.learnDev > 4095, (0x0151, 8)) ]
    apply := fun s =>
      let (n, s) := flushMac filter (settleLearning s)
      { st := s, results := [(4, n)] } }

/-- L2_UNPIN (R263). -/
def bodyL2Unpin (_h : Ocf) (fid mac : Nat) : Body :=
  writeBody 0x0509 8 (macKeyError fid mac) fun s => unpin fid mac (settleLearning s)

/-- LAG_WRITE (R251). -/
def bodyLagWrite (_h : Ocf) (lag : Nat) (members : List Nat) : Body :=
  { opcode := 0x050A, changes := true, lenOk := (· = 4 * ceilDiv (2 + 2 * members.length) 4),
    check := fun _ => firstErr
      [(lag > 255, (0x0151, 0)), (members.length > 64, (0x0151, 1)), (members.any (· ≥ 8192), (0x0151, 2))]
    apply := fun s => { st := { s with fwd.lags := if members = [] then tdel s.fwd.lags lag else tset s.fwd.lags lag members } } }

/-- MCAST_GROUP_WRITE (R309). -/
def bodyMcastGroupWrite (_h : Ocf) (group : Nat) (members : McastMembers) : Body :=
  { opcode := 0x050B, changes := true, lenOk := (· = 4 + 4 * members.length),
    check := fun _ => firstErr
      [ (group > 16383, (0x0151, 0)),
        (members.any (fun m => m.1 > 1 || (m.1 = 1 && m.2 > 255) || (m.1 = 0 && badDest 0 m.2)), (0x0151, 4)) ]
    apply := fun s => { st := { s with fwd.groups := if members = [] then tdel s.fwd.groups group else tset s.fwd.groups group members } } }

/-- L2_LEARN_SHARE_CONFIG (R264, R265). -/
def bodyL2LearnShareConfig (_h : Ocf) (p : L2LearnShareConfigP) : Body :=
  { opcode := 0x050C, changes := true, lenOk := (· = 4 * ceilDiv (4 + 2 * p.ports.length) 4),
    check := fun s => firstErr
      [ (p.mode > 1, (0x0151, 0)), (p.tc > 7, (0x0151, 2)),
        (p.ports.length > 4 || p.ports.any (fun f => (s.portArg f).isNone), (0x0151, 4)) ]
    apply := fun s => { st := { s with
      fwd.exchanged := p.mode = 1
      fwd.learnGroup := p.learnGroup
      fwd.shareTc := p.tc
      fwd.sharePorts := p.ports
      fwd.outbox := if p.mode = 1 then s.fwd.outbox else [] } } }

/-- DEVICE_REACH_WRITE (R252): DEST_TYPE 0 a system port, 1 a LAG, 2 INVALID (DESIGN CHOICE, unsafe: log entry 13). -/
def bodyDeviceReachWrite (_h : Ocf) (device destType dest : Nat) : Body :=
  writeBody 0x050D 8
    (fun _ => firstErr
      [(device > 4095, (0x0151, 0)), (destType > 2, (0x0151, 2)), (destType < 2 && badDest destType dest, (0x0151, 4))])
    fun s => { s with fwd.reach := if destType = 2 then tdel s.fwd.reach device else tset s.fwd.reach device (destType, dest) }

/-- L2_LEARN_NOTIFY_READ (R253): the oldest notifications leave the queue. DEDUCED, unsafe: log entry 18. -/
def bodyL2LearnNotifyRead (_h : Ocf) (count : Nat) : Body :=
  { opcode := 0x050E, changes := true, lenOk := (· = 4),
    check := fun _ => if outside count 1 32 then badAt 0x0151 0 else none
    apply := fun s =>
      { st := { s with fwd.notes := s.fwd.notes.drop count }
        results := (s.fwd.notes.take count).flatMap (fun e =>
          [(2, e.fid), (6, e.mac), (1, e.destType), (2, e.dest), (8, e.stamp)]) } }

/-- L2_STATUS: occupancy, then every counter of chapter 5. -/
def bodyL2Status (_h : Ocf) : Body :=
  readBody 0x050F 0 (fun _ => none) fun s =>
    let s := settleLearning s
    [(4, s.fwd.mac.length), (4, overflowUse s.fwd.mac macOverflow), (4, s.fwd.tracker.length)] ++
    (List.range 15).map (fun k => (8, tgetD s.fwd.counts k 0)) ++ [(8, s.buf.lagNoMember)] ++ s.fwd.portCounts.flatMap (fun e => [(2, s.sysPort e.1), (8, e.2)])

/-! ## Layer 3 -/

/-- ROUTER_MAC_WRITE (R230). -/
def bodyRouterMacWrite (_h : Ocf) (index valid mac : Nat) : Body :=
  writeBody 0x0601 8
    (fun _ => firstErr [(index > 15, (0x0162, 0)), (valid > 1, (0x0108, 1)), (isGroupMac mac, (0x0162, 2))])
    fun s => { s with fwd.routerMacs := if valid = 0 then tdel s.fwd.routerMacs index else tset s.fwd.routerMacs index mac }

/-- VRF_WRITE (R232). -/
def bodyVrfWrite (_h : Ocf) (p : VrfWriteP) : Body :=
  writeBody 0x0602 8
    (fun _ => firstErr
      [(p.vrf > 4095, (0x0162, 0)), (p.missValid > 1, (0x0108, 4)), (p.ttlReason < 0x40, (0x0162, 5))])
    fun s => { s with fwd.vrfs := tset s.fwd.vrfs p.vrf ⟨if p.missValid = 1 then some p.missNexthop else none, p.ttlReason⟩ }

/-- A prefix, a host entry or an ECMP member names a next hop (R248). -/
def State.hopUsed (s : State) (n : Nat) : Bool :=
  s.fwd.lpm.any (fun p => p.nexthop = n) || s.fwd.host.any (fun e => e.2.nexthop = n) || s.fwd.ecmp.any (fun e => e.2 = n)

/-- NEXTHOP_WRITE (Table 5-5, R248). -/
def bodyNexthopWrite (_h : Ocf) (p : NexthopWriteP) : Body :=
  let size := if p.type = 1 then p.ecmpSize else 1
  writeBody 0x0603 24
    (fun s => firstErr
      [ (p.type > 3, (0x0162, 2)),
        (p.smacIdx > 15, (0x0162, 3)),
        (p.destType > 2, (0x0162, 4)),
        (badDest p.destType p.dest, (0x0162, 6)),
        (p.vid > 4095, (0x0162, 14)),
        (outside size 1 256, (0x0162, 18)),
        (p.type = 1 && p.ecmpBase + p.ecmpSize > 65536, (0x0162, 16)),
        (p.type = 2 && p.reason < 0x40, (0x0162, 20)),
        (s.hopUsed p.nexthop, (0x0463, 0)) ])
    fun s => { s with
      fwd.nexthops := tset s.fwd.nexthops p.nexthop
        ⟨p.type, p.smacIdx, p.destType, p.dest, p.dmac, p.vid, p.ecmpBase, p.ecmpSize, p.reason⟩ }

/-- ECMP_MEMBERS_WRITE (R248). -/
def bodyEcmpMembersWrite (_h : Ocf) (base : Nat) (members : List Nat) : Body :=
  { opcode := 0x0604, changes := true, lenOk := (· = 4 * ceilDiv (4 + 2 * members.length) 4),
    check := fun s => firstErr
      [ (outside members.length 1 256, (0x0162, 2)),
        (base + members.length > 65536, (0x0162, 0)),
        (members.any (fun m => (s.hop m).type != 0), (0x0162, 4 + 2 * members.findIdx (fun m => (s.hop m).type != 0))) ]
    apply := fun s =>
      { st := { s with
          fwd.ecmp := forEach ((List.range members.length).zip members) s.fwd.ecmp (fun e t => tset t (base + e.1) e.2) } } }

/-- The checks of a host key: VRF, FAMILY 4 or 6, and an IPv4 address of 32 bits. -/
def hostKeyChecks (vrf family addr : Nat) : List (Bool × Err) :=
  [ (vrf > 4095, (0x0162, 0)), (family != 4 && family != 6, (0x0162, 2)), (family = 4 && addr ≥ 2 ^ 32, (0x0162, 4)) ]

/-- HOST_ENTRY_WRITE (R236, R237). -/
def bodyHostEntryWrite (_h : Ocf) (p : HostEntryWriteP) : Body :=
  { opcode := 0x0605, changes := true, lenOk := (· = 24), check := fun _ => firstErr (hostKeyChecks p.vrf p.family p.addr)
    apply := fun s =>
      match s.hostFind p.vrf (p.family = 6) p.addr with
      | some (k, e) => { st := putHost k { e with nexthop := p.nexthop } s }
      | none => match insertHost { v6 := p.family = 6, vrf := p.vrf, nexthop := p.nexthop, addr := p.addr } s with
        | some s => { st := s }
        | none => { st := s, status := 0x0361 } }

/-- The check of a command that names a host entry. -/
def hostKeyError (vrf family addr : Nat) (s : State) : Option Err :=
  match firstErr (hostKeyChecks vrf family addr) with
  | some e => some e
  | none => if (s.hostFind vrf (family = 6) addr).isNone then plain 0x0461 else none

/-- HOST_ENTRY_DELETE. -/
def bodyHostEntryDelete (_h : Ocf) (vrf family addr : Nat) : Body :=
  writeBody 0x0606 20 (hostKeyError vrf family addr) fun s =>
    match s.hostFind vrf (family = 6) addr with
    | some (k, _) => { beginUpdate s with fwd.host := tdel s.fwd.host k }
    | none => s

/-- HOST_ENTRY_READ (R273). -/
def bodyHostEntryRead (_h : Ocf) (vrf family addr : Nat) : Body :=
  readBody 0x0607 20 (hostKeyError vrf family addr) fun s =>
    match s.hostFind vrf (family = 6) addr with
    | some (_, e) => [(24, e.word)]
    | none => []

/-- HOST_SEARCH_NEXT (R274, R658). -/
def bodyHostSearchNext (_h : Ocf) (cursor clearHit : Nat) : Body :=
  { opcode := 0x0608, changes := clearHit = 1, clearRead := true, lenOk := (· = 12),
    check := fun _ => if clearHit > 1 then badAt 0x0108 8 else none
    apply := fun s =>
      let (next, got) := walkFrom s.fwd.host cursor (fun _ => true)
      { st := if clearHit = 1 then { s with
          fwd.host := forEach got s.fwd.host (fun e t => tset t e.1 { e.2 with hit := false }) } else s
        results := (8, next) :: got.map (fun e => (24, e.2.word)) } }

/-! ## LPM -/

/-- A prefix of a command, as an entry of its VRF. -/
def prefixOf (vrf : Nat) (r : Route) : Prefix := ⟨vrf, r.v6, r.len, r.addr, r.nexthop⟩

/-- A prefix with a length beyond its family, or address bits beyond its length (R245). -/
def badRoute (r : Route) : Bool :=
  r.len > addrBits r.v6 || r.addr ≥ 2 ^ addrBits r.v6 || r.addr % 2 ^ (addrBits r.v6 - r.len) != 0

/-- A prefix is present in its VRF. -/
def State.hasPrefix (s : State) (p : Prefix) : Bool := s.fwd.lpm.any (fun q => q.order = p.order)

/-- Length of a batch of prefixes. -/
def routesLen (rs : Routes) (n : Nat) : Bool := n = 4 + 20 * rs.length

/-- Where the first route of a batch that meets `bad` lies within the parameters (R402). -/
def routeAt {α : Type} (bad : α → Bool) (rs : List α) : Nat := 4 + 20 * rs.findIdx bad

/-- The checks of every batch. -/
def batchChecks (vrf : Nat) (rs : Routes) : List (Bool × Err) :=
  [ (vrf > 4095, (0x0161, 0)), (outside rs.length 1 256, (0x0161, 2)), (rs.any badRoute, (0x0161, routeAt badRoute rs)) ]

/-- The place of the first element that an earlier one equals, the length where none does. -/
def firstRepeat (ps : List Nat) : Nat := ((List.range ps.length).find? (fun k => (ps.take k).contains (ps.getD k 0))).getD ps.length

/-- Two prefixes of a batch are the same. -/
def repeats (ps : List Nat) : Bool := !decide ps.Nodup

/-- Prefixes are written, each into the trie of every replica that the update reaches (R30, R246). -/
def putRoutes (ps : List Prefix) (s : State) : State :=
  { beginUpdate s with
    fwd.lpm := forEach ps s.fwd.lpm insertPrefix
    fwd.trie := forEach ps s.fwd.trie (fun p t => t.put p) }

/-- Prefixes are deleted. -/
def dropRoutes (ps : List Prefix) (s : State) : State :=
  { beginUpdate s with
    fwd.lpm := s.fwd.lpm.filter (fun q => !(ps.map Prefix.order).contains q.order)
    fwd.trie := forEach ps s.fwd.trie (fun p t => t.del p) }

/-- LPM_ROUTE_ADD (R243, R245, R246). -/
def bodyLpmRouteAdd (_h : Ocf) (vrf : Nat) (routes : Routes) : Body :=
  let ps := routes.map (prefixOf vrf)
  { opcode := 0x0609, changes := true, lenOk := routesLen routes,
    check := fun s => match firstErr (batchChecks vrf routes) with
      | some e => some e
      | none => firstErr
        [ (ps.any s.hasPrefix || repeats (ps.map Prefix.order), (0x0462, min (routeAt s.hasPrefix ps) (4 + 20 * firstRepeat (ps.map Prefix.order)))),
          ((putRoutes ps s).lpmStore > 2097152 || (putRoutes ps s).lpmLong > 131072, (0x0362, 0xFFFF)) ]
    apply := fun s => { st := putRoutes ps s } }

/-- LPM_ROUTE_REPLACE (R245, R246). -/
def bodyLpmRouteReplace (_h : Ocf) (vrf : Nat) (routes : Routes) : Body :=
  let ps := routes.map (prefixOf vrf)
  { opcode := 0x060A, changes := true, lenOk := routesLen routes,
    check := fun s => match firstErr (batchChecks vrf routes) with
      | some e => some e
      | none => firstErr [(!ps.all s.hasPrefix, (0x0461, routeAt (fun p => !s.hasPrefix p) ps))]
    apply := fun s => { st := putRoutes ps s } }

/-- LPM_ROUTE_DELETE (R246). -/
def bodyLpmRouteDelete (_h : Ocf) (vrf : Nat) (routes : Routes) : Body :=
  let ps := routes.map (prefixOf vrf)
  { opcode := 0x060B, changes := true, lenOk := routesLen routes,
    check := fun s => match firstErr (batchChecks vrf routes) with
      | some e => some e
      | none => firstErr [(!ps.all s.hasPrefix, (0x0461, routeAt (fun p => !s.hasPrefix p) ps))]
    apply := fun s => { st := dropRoutes ps s } }

/-- LPM_ROUTE_NEXT (Table 5-10): the prefixes of a VRF in address order from a cursor, which is a place in that order. -/
def bodyLpmRouteNext (_h : Ocf) (vrf cursor count : Nat) : Body :=
  readBody 0x060C 12
    (fun _ => firstErr [(vrf > 4095, (0x0161, 0)), (outside count 1 256, (0x0161, 10))])
    fun s =>
      let ps := s.fwd.lpm.filter (fun p => p.vrf = vrf)
      let next := if cursor + count ≥ ps.length then endCursor else cursor + count
      (8, next) :: ((ps.drop cursor).take count).flatMap (fun p => [(1, if p.v6 then 6 else 4), (1, p.len), (16, p.addr), (2, p.nexthop)])

/-- L3_STATUS. -/
def bodyL3Status (_h : Ocf) : Body :=
  readBody 0x060D 0 (fun _ => none) fun s =>
    [ (4, (s.fwd.lpm.filter (fun p => !p.v6)).length), (4, (s.fwd.lpm.filter (fun p => p.v6)).length), (4, s.lpmStore), (4, s.lpmLong),
      (4, s.fwd.host.length), (4, overflowUse s.fwd.host hostOverflow) ]

end Sys2Proof.Machine
end

