-- ==== Sys2Proof/Machine/CmdParse.lean ====
section
/-! DEFINITION. The parser and classifier commands (opcodes 0x0301 to 0x0315; R50, R51, R67, R75, R76, R79 to R85, R97 to R100, R661). -/

namespace Sys2Proof.Machine

/-- CLS_BAD_GEOMETRY at a field. -/
def badGeometry (off : Nat) : Err := (0x0131, off)

/-- The pipelines of a mask change, in ascending order (R97). -/
def forPipes (mask : Nat) (f : Pipe → Pipe) (s : State) : State := forEach (pipesOf mask) s (fun p s => s.setPipe p (f (s.pipe p)))

/-- Some pipeline of a mask satisfies a test. -/
def State.anyPipe (s : State) (mask : Nat) (q : Pipe → Bool) : Bool := (pipesOf mask).any (fun p => q (s.pipe p))

/-! ## Parse graphs -/

/-- A parse state entry as its 96 bytes (Table 2-2). -/
def parseStateBytes (e : ParseState) : Bytes :=
  [e.hdrId, e.layer, e.check, e.lenMode, e.lenFixed, e.lenOff, e.lenMask, e.lenShift, e.lenScale, e.lenAdd, e.selOff, e.selWidth, e.defAction,
    e.defTarget, 0, 0].flatMap (beBytes 1) ++
  e.trans.flatMap (fun t => beBytes 4 t.value ++ beBytes 4 t.mask ++ beBytes 1 t.action ++ beBytes 1 t.target)

/-- PARSE_STATE_WRITE (R50, R52): it makes the state configured, and no command makes it unconfigured again. DEDUCED, unsafe: log entry 64. -/
def bodyParseStateWrite (_h : Ocf) (pipeMask state : Nat) (entry : ParseState) : Body :=
  writeBody 0x0301 100
    (fun _ => firstErr
      [ (pipeMask = 0, badGeometry 0),
        (state > 63, badGeometry 2),
        (entry.lenShift > 7, badGeometry 11),
        (entry.lenScale > 7, badGeometry 12) ])
    (forPipes pipeMask (fun p => { p with shadow := tset p.shadow state entry }))

/-- An action and target that R51 refuses; `unused` allows ACTION 0x00. -/
def badMove (g : Tab ParseState) (unused : Bool) (action target : Nat) : Bool :=
  match action with
  | 0 => !unused
  | 1 => (tget g target).isNone
  | 2 => target > 15
  | 3 => target = 0 || target > 0x0A
  | _ => true

/-- A configured state that R51 refuses. -/
def badState (g : Tab ParseState) (e : ParseState) : Bool :=
  e.layer > 7 || e.check > 6 || e.lenMode > 1 || outside e.selWidth 1 4 || badMove g false e.defAction e.defTarget ||
  e.trans.any (fun t => badMove g true t.action t.target)

/-- A graph that fails R51. -/
def badGraph (g : Tab ParseState) : Bool := (tget g 0).isNone || (tvals g).any (badState g)

/-- PARSE_GRAPH_COMMIT (R50, R51). -/
def bodyParseGraphCommit (_h : Ocf) (pipeMask : Nat) : Body :=
  writeBody 0x0302 4
    (fun s => firstErr [(pipeMask = 0, badGeometry 0), (s.anyPipe pipeMask (fun p => badGraph p.shadow), (0x0132, 0xFFFF))])
    (forPipes pipeMask (fun p => { p with active := p.shadow, shadow := p.active }))

/-- PARSE_STATE_READ: whether the state is configured, and its entry. -/
def bodyParseStateRead (_h : Ocf) (pipe state shadow : Nat) : Body :=
  readBody 0x0303 4
    (fun _ => firstErr [(pipe > 15, badGeometry 0), (state > 63, badGeometry 1), (shadow > 1, badGeometry 2)])
    fun s =>
      let p := s.pipe pipe
      match tget (if shadow = 1 then p.shadow else p.active) state with
      | some e => [(1, 1), (3, 0), blob (parseStateBytes e)]
      | none => [(1, 0), (3, 0), (96, 0)]

/-! ## Profiles -/

/-- Width of a key profile: 40 selectors form 640 bits. -/
def Pipe.wideProfile (p : Pipe) (k : Nat) : Bool := (p.selectors k).length = 40

/-- An enabled search profile names a key profile. -/
def Pipe.keyProfileUsed (p : Pipe) (k : Nat) : Bool := p.searchProfiles.any (fun e => e.2.testBit 31 && field 25 21 e.2 = k)

/-- KEY_PROFILE_WRITE (R68, R76). -/
def bodyKeyProfileWrite (_h : Ocf) (pipeMask profile : Nat) (selectors : List Nat) : Body :=
  { opcode := 0x0304, changes := true, lenOk := fun n => (n = 84 || n = 164) && n = 4 + 4 * selectors.length,
    check := fun s => firstErr
      [ (pipeMask = 0, badGeometry 0),
        (profile > 31, badGeometry 2),
        (selectors.any (fun x => field 18 16 x != 0), (0x0108, 4)),
        (selectors.any (fun x => !x.testBit 31 && field 30 27 x > 8), badGeometry 4),
        (s.anyPipe pipeMask (fun p => p.keyProfileUsed profile && p.wideProfile profile != decide (selectors.length = 40)), badGeometry 4) ]
    apply := fun s => { st := forPipes pipeMask (fun p => { p with keyProfiles := tset p.keyProfiles profile selectors }) s } }

/-- A search profile that R76 refuses. -/
def Pipe.badSearch (p : Pipe) (w : Nat) : Bool :=
  let wide := w.testBit 30
  let banks := bitsOf 16 w
  (if wide then banks.any (fun b => !(p.wideBank b && w.testBit (b / 2 * 2) && w.testBit (b / 2 * 2 + 1))) else banks.any p.wideBank) ||
  wide != p.wideProfile (field 25 21 w)

/-- SEARCH_PROFILE_WRITE (R71, R76); a retired bank stays out of BANK_MASK (R81). -/
def bodySearchProfileWrite (_h : Ocf) (pipeMask profile word : Nat) : Body :=
  writeBody 0x0305 8
    (fun s => firstErr
      [ (pipeMask = 0, badGeometry 0),
        (profile > 63, badGeometry 2),
        (field 29 26 word != 0 || field 20 16 word != 0, (0x0108, 4)),
        (s.anyPipe pipeMask (fun p => p.badSearch word), badGeometry 4) ])
    (forPipes pipeMask (fun p => { p with searchProfiles := tset p.searchProfiles profile (p.keptBanks word) }))

/-! ## Ports, control match, mirrors, recirculation -/

/-- PORT_CLASS_MAP_WRITE (R71). -/
def bodyPortClassMapWrite (_h : Ocf) (port : Nat) (map : List Nat) : Body :=
  { opcode := 0x0306, changes := true, lenOk := fun n => n = 20 && map.length = 16,
    check := fun s => firstErr
      [((s.portArg port).isNone, badGeometry 0), (map.any (fun k => k > 63 && k != 0xFF), badGeometry 2)]
    apply := fun s =>
      let k := (s.portArg port).getD 0
      { st := { s with cls.ports := tset s.cls.ports k { s.portClass k with map := map } } } }

/-- PORT_DEFAULTS_WRITE (R63, R87 to R89). -/
def bodyPortDefaultsWrite (_h : Ocf) (p : PortDefaultsWriteP) : Body :=
  { opcode := 0x0307, changes := true, lenOk := fun n => n = 84 && p.disp.length = 64,
    check := fun s => firstErr
      [ ((s.portArg p.port).isNone, badGeometry 0),
        (reservedAction p.missAction, (0x0108, 2)),
        (badAction p.missAction, badGeometry 2),
        (p.disp.any (· > 3), badGeometry 20) ]
    apply := fun s =>
      let k := (s.portArg p.port).getD 0
      { st := { s with cls.ports := tset s.cls.ports k { s.portClass k with miss := p.missAction, zone := p.zone, disp := p.disp } } } }

/-- CONTROL_MATCH_WRITE (R66, R67). -/
def bodyControlMatchWrite (_h : Ocf) (p : ControlMatchWriteP) : Body :=
  writeBody 0x0308 16
    (fun _ => firstErr
      [(outside p.entry 4 7, badGeometry 0), (p.anyDst > 1, badGeometry 9), (p.forward > 1, badGeometry 12), (p.valid > 1, badGeometry 13)])
    fun s => { s with
      cls.control := if p.valid = 1 then tset s.cls.control p.entry ⟨p.ethertype, p.dst, p.anyDst = 1, p.udpPort, p.forward = 1⟩
        else tdel s.cls.control p.entry }

/-- RECIRC_CONFIG (R46). -/
def bodyRecircConfig (_h : Ocf) (pipeMask slots : Nat) : Body :=
  writeBody 0x0313 4 (fun _ => firstErr [(pipeMask = 0, badGeometry 0), (slots > 16, badGeometry 2)])
    (forPipes pipeMask (fun p => { p with recircSlots := slots }))

/-- MIRROR_SESSION_WRITE (R90). -/
def bodyMirrorSessionWrite (_h : Ocf) (p : MirrorSessionWriteP) : Body :=
  writeBody 0x0314 8
    (fun _ => firstErr
      [ (p.session > 15, badGeometry 0),
        (portKind p.dest > 2 || (portKind p.dest != 0 && p.dest % 8192 != 0), badGeometry 1),
        (p.tc > 7, badGeometry 3),
        (p.trunc != 0 && outside p.trunc 64 256, badGeometry 4) ])
    fun s => { s with cls.mirrors := tset s.cls.mirrors p.session ⟨p.dest, p.tc, p.trunc⟩ }

/-- PARSE_COUNTERS_READ (R65, R13): the counters of codes 0x00 to 0x3F. -/
def bodyParseCountersRead (_h : Ocf) (port clear : Nat) : Body :=
  { opcode := 0x0315, changes := clear = 1, clearRead := true, lenOk := (· = 4),
    check := fun s => firstErr [((s.portArg port).isNone, badGeometry 0), (clear > 1, (0x0108, 2))]
    apply := fun s =>
      let k := (s.portArg port).getD 0
      { st := if clear = 1 then { s with cls.exceptions := s.cls.exceptions.filter (fun e => e.1 / 64 != k) } else s
        results := (List.range 64).map (fun c => (8, tgetD s.cls.exceptions (64 * k + c) 0)) } }

/-! ## Banks and lists (R75, R82 to R84) -/

/-- A bank holds a valid entry. -/
def Pipe.bankHolds (p : Pipe) (b : Nat) : Bool := p.tcam.any (fun e => e.1 / 2048 = b)

/-- The list that owns a bank. -/
def Pipe.listOf (p : Pipe) (b : Nat) : Option Nat :=
  (p.lists.find? (fun e => e.2.base ≤ b && b < e.2.base + e.2.banks)).map Prod.fst

/-- BANK_MODE_WRITE refuses a pair (R75). -/
def Pipe.pairBusy (p : Pipe) (j : Nat) : Bool :=
  let bs := [2 * j, 2 * j + 1]
  bs.any (fun b => (p.listOf b).isSome || p.bankHolds b || p.searchProfiles.any (fun e => e.2.testBit 31 && e.2.testBit b))

/-- BANK_MODE_WRITE. -/
def bodyBankModeWrite (_h : Ocf) (pipeMask pair mode : Nat) : Body :=
  writeBody 0x0309 4
    (fun s => firstErr
      [ (pipeMask = 0, badGeometry 0),
        (pair > 7, badGeometry 2),
        (mode > 1, badGeometry 3),
        (s.anyPipe pipeMask (fun p => p.pairBusy pair), badGeometry 2) ])
    (forPipes pipeMask (fun p => { p with widePairs := setBit p.widePairs pair (mode = 1) }))

/-- Banks that a new list cannot have (R82). DEDUCED, unsafe: log entry 64. -/
def Pipe.badBanks (p : Pipe) (base n : Nat) : Bool :=
  let bs := (List.range n).map (base + ·)
  let wide := p.wideBank base
  bs.any (fun b => (p.listOf b).isSome || p.bankHolds b || p.wideBank b != wide) || (wide && (base % 2 = 1 || n % 2 = 1))

/-- LIST_CREATE (R82). -/
def bodyListCreate (_h : Ocf) (p : ListCreateP) : Body :=
  writeBody 0x030A 8
    (fun s => firstErr
      [ (p.pipeMask = 0, badGeometry 0),
        (p.list > 15 || s.anyPipe p.pipeMask (fun x => (tget x.lists p.list).isSome), badGeometry 2),
        (p.baseBank > 15, badGeometry 3),
        (p.banks = 0 || p.baseBank + p.banks > 16, badGeometry 4),
        (s.anyPipe p.pipeMask (fun x => x.badBanks p.baseBank p.banks), badGeometry 3) ])
    (forPipes p.pipeMask (fun x => { x with lists := tset x.lists p.list ⟨p.baseBank, p.banks⟩ }))

/-- The checks of a command that names a list. -/
def listChecks (pipeMask list : Nat) (s : State) : List (Bool × Err) :=
  [ (pipeMask = 0, badGeometry 0),
    (list > 15, badGeometry 2),
    (s.anyPipe pipeMask (fun p => (tget p.lists list).isNone), (0x0432, 2)) ]

/-- LIST_DELETE. -/
def bodyListDelete (_h : Ocf) (pipeMask list : Nat) : Body :=
  writeBody 0x030B 4 (fun s => firstErr (listChecks pipeMask list s))
    (forPipes pipeMask (fun p => { p.invalidate (fun a _ => p.listOf (a / 2048) = some list) with lists := tdel p.lists list }))

/-- A rule list: its banks' mode, its number of positions, and the address of a position (R82). -/
def Pipe.ruleList (p : Pipe) (l : Nat) : RuleList := tgetD p.lists l ⟨0, 0⟩
def Pipe.listWide (p : Pipe) (l : Nat) : Bool := p.wideBank (p.ruleList l).base

/-- The banks of a list that can hold rules, a pair under its even bank: those that are not retired, nor a pair with one that is (R617).
DEDUCED, unsafe: log entry 67. -/
def Pipe.listBanks (p : Pipe) (l : Nat) : List Nat :=
  let x := p.ruleList l
  if p.listWide l then
    ((List.range (x.banks / 2)).map (x.base + 2 * ·)).filter (fun b => !p.retiredBanks.testBit b && !p.retiredBanks.testBit (b + 1))
  else ((List.range x.banks).map (x.base + ·)).filter (fun b => !p.retiredBanks.testBit b)

def Pipe.listSize (p : Pipe) (l : Nat) : Nat := 2048 * (p.listBanks l).length
def Pipe.posAddr (p : Pipe) (l k : Nat) : Nat := 2048 * (p.listBanks l).getD (k / 2048) 0 + k % 2048
def Pipe.addrPos (p : Pipe) (l a : Nat) : Nat := 2048 * (p.listBanks l).findIdx (· = a / 2048) + a % 2048

/-- The rules of a list by position. -/
def Pipe.rules (p : Pipe) (l : Nat) : Tab TcamEntry :=
  (p.tcam.filter (fun e => p.listOf (e.1 / 2048) = some l)).map (fun e => (p.addrPos l e.1, e.2))

/-- The lowest free position from one on, below a limit. -/
def freeAbove (rules : Tab TcamEntry) (limit : Nat) : Nat → Nat → Option Nat
  | 0, _ => none
  | fuel + 1, k => if k ≥ limit then none else if (tget rules k).isNone then some k else freeAbove rules limit fuel (k + 1)

/-- The highest free position below one. -/
def freeBelow (rules : Tab TcamEntry) : Nat → Option Nat
  | 0 => none
  | k + 1 => if (tget rules k).isNone then some k else freeBelow rules k

/-- Rules in consecutive positions moved up or down by one. -/
def shiftRules (rules : Tab TcamEntry) (lo hi : Nat) (up : Bool) : Tab TcamEntry :=
  rules.map (fun e => if lo ≤ e.1 && e.1 < hi then (if up then e.1 - 1 else e.1 + 1, e.2) else e)

/-- R84 in positions: the rules with a new one, its position, and the moves taken; none where the list is full. The first rule of an empty list goes to
position 0. DESIGN CHOICE, unsafe: log entry 144. -/
def placeRule (rules : Tab TcamEntry) (size : Nat) (e : TcamEntry) : Option (Tab TcamEntry × Nat × Nat) :=
  let p := match rules.find? (fun x => x.2.prio > e.prio) with
    | some x => x.1
    | none => ((rules.getLast?).map (fun x => x.1 + 1)).getD 0
  let dn := freeAbove rules size (rules.length + 1) p
  let up := freeBelow rules p
  let goDown : Option Nat := match dn, up with
    | some d, none => some d
    | some d, some u => if d - p ≤ p - 1 - u then some d else none
    | none, _ => none
  match goDown, up with
  | some d, _ => some (tset (shiftRules rules p d false) p e, p, d - p)
  | none, some u => some (tset (shiftRules rules (u + 1) p true) (p - 1) e, p - 1, p - 1 - u)
  | none, none => none

/-- A list's rules put back at their addresses. -/
def Pipe.setRules (p : Pipe) (l : Nat) (rules : Tab TcamEntry) : Pipe :=
  forEach rules (p.invalidate (fun a _ => p.listOf (a / 2048) = some l)) (fun e q => q.putEntry (p.posAddr l e.1) e.2)

/-- The 640 bits of VALUE or MASK as an entry stores them: a 320-bit rule uses the first 40 bytes. -/
def tcamBits (wide : Bool) (n : Nat) : Nat := if wide then n else n / 2 ^ 320
def tcamBytes (wide : Bool) (n : Nat) : Nat := if wide then n else n * 2 ^ 320

/-- An entry as it is stored (R100). -/
def newEntry (wide : Bool) (value mask action handle prio : Nat) : TcamEntry :=
  let m := tcamBits wide mask
  { value := tcamBits wide value &&& m, mask := m, action := action, handle := handle, prio := prio }

/-- Bytes 40 to 79 of a 320-bit rule are 0. DEDUCED, unsafe: log entry 64. -/
def tailSet (wide : Bool) (n : Nat) : Bool := !wide && n % 2 ^ 320 != 0

/-- A pipeline with a new rule in a list (R84); the same pipeline where the list is full. -/
def Pipe.withRule (x : Pipe) (l : Nat) (e : TcamEntry) : Pipe :=
  match placeRule (x.rules l) (x.listSize l) e with
  | some (rs, _, _) => x.setRules l rs
  | none => x

/-- The address that a new rule takes in a pipeline, and the moves. -/
def Pipe.rulePlace (x : Pipe) (l : Nat) (e : TcamEntry) : Nat × Nat :=
  match placeRule (x.rules l) (x.listSize l) e with
  | some (_, pos, moves) => (x.posAddr l pos, moves)
  | none => (0, 0)

/-- The entry of a RULE_INSERT (Table 2-12). -/
def insertedEntry (p : RuleInsertP) (handle : Nat) : TcamEntry := newEntry (p.flags.testBit 0) p.value p.mask p.action handle p.priority

/-- The entry of a handle in a pipeline. -/
def Pipe.ruleOf (p : Pipe) (h : Nat) : Option (Nat × TcamEntry) := if h = 0 then none else p.tcam.find? (fun e => e.2.handle = h)

/-- A handle is in use. -/
def State.handleUsed (s : State) (h : Nat) : Bool := s.cls.pipes.any (fun e => (e.2.ruleOf h).isSome)

/-- The handles in use. -/
def State.handles (s : State) : List Nat := (s.cls.pipes.flatMap (fun e => e.2.tcam.map (fun x => x.2.handle))).filter (· != 0)

/-- The first handle from one on that is not 0 and not in use; `fuel` bounds how many are passed over. -/
def State.freshHandle (s : State) : Nat → Nat → Nat
  | 0, h => h
  | fuel + 1, h => if h = 0 || s.handleUsed h then s.freshHandle fuel (wrap 32 (h + 1)) else h

/-- RULE_INSERT (Table 2-12, R84, R98 to R100): its results are the handle, the address in the lowest pipeline of the mask, and the most moves that
any pipeline took. DESIGN CHOICE, unsafe: log entry 65. -/
def bodyRuleInsert (_h : Ocf) (p : RuleInsertP) : Body :=
  let wide := p.flags.testBit 0
  { opcode := 0x030C, changes := true, lenOk := (· = 184),
    check := fun s => firstOf ((decide (p.flags > 1), (0x0108, 3)) :: listChecks p.pipeMask p.list s)
      [ (s.anyPipe p.pipeMask (fun x => x.listWide p.list != wide), badGeometry 3),
        (tailSet wide p.value, (0x0108, 48)),
        (tailSet wide p.mask, (0x0108, 128)),
        (reservedAction p.action, (0x0108, 168)),
        (badAction p.action, badGeometry 168),
        (s.anyPipe p.pipeMask (fun x => (placeRule (x.rules p.list) (x.listSize p.list) (insertedEntry p 0)).isNone), (0x0331, 0xFFFF)) ]
    apply := fun s =>
      let h := s.cls.nextHandle
      let e := insertedEntry p h
      let places := (pipesOf p.pipeMask).map (fun k => (s.pipe k).rulePlace p.list e)
      { st := let t := forPipes p.pipeMask (fun x => x.withRule p.list e) s
              { t with cls.nextHandle := t.freshHandle (t.handles.length + 1) (wrap 32 (h + 1)) }
        results := [(4, h), (2, ((places.head?).map Prod.fst).getD 0), (2, (places.map Prod.snd).foldl max 0)] } }

/-- RULE_DELETE (R85). -/
def bodyRuleDelete (_h : Ocf) (handle : Nat) : Body :=
  { opcode := 0x030D, changes := true, lenOk := (· = 4),
    check := fun s => firstErr [(!s.handleUsed handle, (0x0431, 0))]
    apply := fun s =>
      { st := { s with cls.pipes := s.cls.pipes.map (fun e => (e.1, e.2.invalidate (fun _ x => x.handle = handle))) }
        results := s.cls.pipes.flatMap (fun e => match e.2.ruleOf handle with
          | some (_, x) => [(1, e.1), (7, 0), (8, x.pkts), (8, x.bytes)]
          | none => []) } }

/-- RULE_ACTION_WRITE (R80). -/
def bodyRuleActionWrite (_h : Ocf) (handle action : Nat) : Body :=
  writeBody 0x030E 20
    (fun s => firstErr
      [ (reservedAction action, (0x0108, 4)),
        (badAction action, badGeometry 4),
        (!s.handleUsed handle, (0x0431, 0)) ])
    fun s => { s with
      cls.pipes := s.cls.pipes.map (fun e => (e.1, { e.2 with
        tcam := e.2.tcam.map (fun x => if x.2.handle = handle then (x.1, { x.2 with action := action }) else x) })) }

/-- An entry as results: value, mask, action, address, counters. -/
def entryResults (wide : Bool) (addr : Nat) (e : TcamEntry) : Results :=
  [(80, tcamBytes wide e.value), (80, tcamBytes wide e.mask), (16, e.action), (2, addr), (6, 0), (8, e.pkts), (8, e.bytes)]

/-- RULE_READ. -/
def bodyRuleRead (_h : Ocf) (handle pipe : Nat) : Body :=
  readBody 0x030F 8
    (fun s => firstErr [(pipe > 15, badGeometry 4), (((s.pipe pipe).ruleOf handle).isNone, (0x0431, if s.handleUsed handle then 4 else 0))])
    fun s => match (s.pipe pipe).ruleOf handle with
      | some (a, e) => entryResults ((s.pipe pipe).wideBank (a / 2048)) a e
      | none => []

/-- The position of rule `i` at a spacing (R83). -/
def spacedPos (spacing i : Nat) : Nat := spacing * (i / (spacing - 1)) + i % (spacing - 1)

/-- A list of `n` rules fits its positions at a spacing. -/
def spacingFits (spacing n size : Nat) : Bool := n = 0 || spacedPos spacing (n - 1) < size

/-- LIST_RESPACE (R83). -/
def bodyListRespace (_h : Ocf) (pipeMask list spacing : Nat) : Body :=
  let sp := orDefault spacing 8
  writeBody 0x0310 4
    (fun s => firstOf (listChecks pipeMask list s)
      [ (outside sp 2 64, badGeometry 3),
        (s.anyPipe pipeMask (fun p => !spacingFits sp (p.rules list).length (p.listSize list)), (0x0331, 0xFFFF)) ])
    (forPipes pipeMask (fun p => p.setRules list ((p.rules list).mapIdx (fun i e => (spacedPos sp i, e.2)))))

/-- An address that TCAM_RAW_WRITE cannot have: its bank belongs to a list, or its width or place does not fit the pair. -/
def Pipe.badRaw (p : Pipe) (wide : Bool) (addr : Nat) : Bool :=
  let b := addr / 2048
  (p.listOf b).isSome || p.wideBank b != wide || (wide && b % 2 = 1)

/-- TCAM_RAW_WRITE (R78, R79, R82). -/
def bodyTcamRawWrite (_h : Ocf) (p : TcamRawWriteP) : Body :=
  let wide := p.wide = 1
  writeBody 0x0311 184
    (fun s => firstErr
      [ (p.pipeMask = 0, badGeometry 0),
        (p.valid > 1, badGeometry 2),
        (p.wide > 1, badGeometry 3),
        (p.addr > 32767, badGeometry 4),
        (s.anyPipe p.pipeMask (fun x => x.badRaw wide p.addr), badGeometry 4),
        (tailSet wide p.value, (0x0108, 46)),
        (tailSet wide p.mask, (0x0108, 126)),
        (reservedAction p.action, (0x0108, 166)),
        (badAction p.action, badGeometry 166) ])
    (forPipes p.pipeMask (fun x =>
      let e := newEntry wide p.value p.mask p.action 0 0
      if p.valid = 1 then x.putEntry p.addr e else { x with tcam := tdel x.tcam p.addr, invalid := tset x.invalid p.addr e }))

/-- TCAM_RAW_READ: valid, width, and the entry. -/
def bodyTcamRawRead (_h : Ocf) (pipe addr : Nat) : Body :=
  readBody 0x0312 4
    (fun _ => firstErr [(pipe > 15, badGeometry 0), (addr > 32767, badGeometry 1)])
    fun s =>
      let p := s.pipe pipe
      let wide := p.wideBank (addr / 2048)
      match tget p.tcam addr with
      | some e => [(1, 1), (1, bit wide), (2, 0)] ++ entryResults wide addr e
      | none => [(1, 0), (1, bit wide), (2, 0)] ++ entryResults wide addr (tgetD p.invalid addr ⟨0, 0, 0, 0, 0, 0, 0⟩)

end Sys2Proof.Machine
end

