-- ==== Sys2Proof/Machine/Cells.lean ====
section
/-! DEFINITION. The cells of the Dvorob Link as their 256 bytes: the header with its CCRC, the frame tag, and the payload (R313, R314, Tables 6-4 to
6-6). -/

namespace Sys2Proof.Machine

end Sys2Proof.Machine

namespace Sys2Proof

open Machine in
/-- The 16-byte frame tag with which the payload of a frame's first cell begins (Table 6-5). -/
def DataCell.tag (c : DataCell) : Bytes :=
  beBytes 2 c.origPort ++ beBytes 2 c.frameLen ++ beBytes 4 c.cumCells ++ beBytes 2 c.nexthop ++ beBytes 2 c.group ++ beBytes 1 (bit c.mirror) ++
  beBytes 3 0

open Machine in
/-- The valid payload bytes of a data cell (R314). -/
def DataCell.body (c : DataCell) : Bytes := if c.kind = 1 || c.kind = 4 then c.tag ++ c.payload else c.payload

end Sys2Proof

namespace Sys2Proof.Machine

/-- Header bits [127:32] of a cell and its payload, without the CCRC (Table 6-4). -/
structure CellImage where
  type : Nat
  poison : Bool := false
  route : CellRoute
  dstPort : Nat := 0
  tc : Nat := 0
  seq : Nat := 0
  index : Nat := 0
  lseq : Nat := 0
  ack : Nat
  cls : Nat := 0
  body : Bytes := []
  deriving DecidableEq, Repr

/-- Header bits [127:32] as 12 bytes. -/
def CellImage.head (c : CellImage) : Bytes :=
  beBytes 12 (packFields
    [ (4, c.type), (1, bit c.poison), (1, c.route.hop), (5, c.route.src), (5, c.route.dst), (5, c.route.via), (8, c.dstPort), (3, c.tc),
      (24, c.seq), (7, c.index), (8, c.body.length), (12, c.lseq), (12, c.ack), (1, c.cls) ])

/-- The 240 bytes after the header. -/
def CellImage.payload (c : CellImage) : Bytes := fit 240 c.body

/-- CCRC (Table 6-4). -/
def CellImage.ccrc (c : CellImage) : Nat := hashA 0xFFFFFFFF (c.head ++ c.payload)

/-- A cell's 256 bytes (R313). -/
def CellImage.bytes (c : CellImage) : Bytes := c.head ++ beBytes 4 c.ccrc ++ c.payload

end Sys2Proof.Machine

namespace Sys2Proof

open Machine in
/-- A data cell. -/
def DataCell.image (c : DataCell) : CellImage :=
  { type := c.kind, poison := c.poison, route := ⟨c.src, c.dst, c.via, c.hop⟩, dstPort := c.dstPort, tc := c.tc, seq := c.seq, index := c.index,
    lseq := c.lseq, ack := c.ack, cls := c.cls, body := c.body }

end Sys2Proof

namespace Sys2Proof.Machine

/-- The kind of a control cell (Table 6-6). -/
def Control.kind : Control → Nat
  | .hello .. => 1
  | .reach _ => 2
  | .load _ => 3
  | .portState .. => 4
  | .request .. => 5
  | .grant .. => 6
  | .replay _ => 7
  | .credit .. => 8
  | .flowReq .. => 9
  | .flowResp .. => 10
  | .ocf .. => 11
  | .learn .. => 12
  | .segment .. => 11
  | .learnSegment .. => 12
  | .relayed _ c => c.kind

/-- An optional number as values. -/
def optValues (n : Option Nat) : List Nat := match n with | some k => [1, k] | none => [0, 0]

end Sys2Proof.Machine

namespace Sys2Proof

open Machine in
/-- The values of a flow request. -/
def FlowReq.values (q : FlowReq) : List Nat :=
  [q.template, q.zone, q.keyType, q.key, bit q.srcA, q.proto, q.len] ++ optValues q.tcp ++ [q.stamp] ++
  (match q.chain with
    | .packet => [0]
    | .reply z t k => [1, z, t, k]
    | .companion z t k n => [2, z, t, k, n]
    | .delete r => [3, r]
    | .port n => [4, n]
    | .drop z t k => [5, z, t, k]) ++ [bit q.echo, bit q.deferred]

end Sys2Proof

namespace Sys2Proof.Machine

/-- The values of a rewrite. -/
def endValues (e : Option Endpoint) : List Nat := match e with | some e => [1, e.addr] ++ optValues e.port | none => [0]

end Sys2Proof.Machine

namespace Sys2Proof

open Machine in
/-- The values of a flow result. -/
def FlowResult.values : FlowResult → List Nat
  | .ok src dst ct => 0 :: endValues src ++ endValues dst ++ optValues ct
  | .missCt => [1]
  | .stateless => [2]
  | .starved c => [3, c]

end Sys2Proof

namespace Sys2Proof.Machine

/-- The values that a control cell carries. -/
def Control.values : Control → List Nat
  | .hello g k d r => [g, k, d, r]
  | .reach v => [v]
  | .load os => os
  | .portState _ p up => [p, bit up]
  | .request _ r p t c n h => [r, p, t, c, n, h]
  | .grant _ r v n => [r, v, n]
  | .replay l => [l]
  | .credit h n => [h, n]
  | .flowReq _ i q => i :: q.values
  | .flowResp _ i x => i :: x.values
  | .ocf _ d => d.map (·.toNat)
  | .learn _ d => d.map (·.toNat)
  | .segment _ i n op f => [i, n, op] ++ (f.signedBytes op).map (·.toNat)
  | .learnSegment _ i n f => [i, n] ++ (f.signedBytes 0x0520).map (·.toNat)
  | .relayed _ c => c.values

/-- The destination that a control cell names: none for one that is for the neighbour. -/
def Control.dst : Control → Option Nat
  | .portState d _ _ => some d
  | .request d _ _ _ _ _ _ => some d
  | .grant d _ _ _ => some d
  | .flowReq d _ _ => some d
  | .flowResp d _ _ => some d
  | .ocf d _ => some d
  | .learn d _ => some d
  | .segment d _ _ _ _ => some d
  | .learnSegment d _ _ _ => some d
  | .relayed _ c => c.dst
  | _ => none

/-- A cell's header and payload: the kind of a control cell stands in payload byte 0, and the firmware image fixes the rest (R314). Header fields
that Table 6-4 gives to frames are 0 in the cells that carry none. DESIGN CHOICE, safe: log entry 134. -/
def Cell.image : Cell → CellImage
  | .idle ack r => { type := 0, route := r, ack := ack }
  | .control l a r c => { type := 5, route := r, lseq := l, ack := a, body := (BitVec.ofNat 8 c.kind :: Config.controlBody c.kind c.values).take 240 }
  | .data c => c.image

/-- A cell's 256 bytes. -/
def Cell.bytes (c : Cell) : Bytes := c.image.bytes

end Sys2Proof.Machine

namespace Sys2Proof

open Machine in
/-- The CCRC of a data cell is valid (R311). -/
def DataCell.valid (c : DataCell) (ccrc : Nat) : Bool := ccrc = c.image.ccrc

end Sys2Proof
end

