-- ==== Sys2Proof/Machine/FabricLink.lean ====
section
/-! DEFINITION. The Dvorob Link: ports and hellos, control and data cells, replay and credits, grants, path choice, segmentation, the reorder
units, and the fabric commands (R304, R310 to R329, R408, R216). -/

namespace Sys2Proof.Machine

/-! ## Ports and reachability (R310 to R317) -/

/-- The Dvorob Link logic runs for an octal group (Tables 10-3 and 15-4). -/
def State.fabRuns (s : State) (g : Nat) : Bool := s.fab.cfg.enable && s.roles.lifecycle != .void && s.isReady 97 && s.isReady g && s.fabricGroup g

/-- Slot of a port's neighbour. -/
def FabPort.slot (p : FabPort) : Option Nat := p.neighbour.map Prod.fst

/-- The direct-reach vector of the device (R317). -/
def State.reachVector (s : State) : Nat :=
  s.fab.ports.foldl (fun n e => match (if e.2.up then e.2.slot else none) with | some k => setBit n k true | none => n) 0

/-- A slot is reachable: direct, or direct from a direct neighbour (R317). -/
def State.reachable (s : State) (k : Nat) : Bool := s.fab.ports.any (fun e => e.2.up && (e.2.slot = some k || e.2.reach.testBit k))

/-- The system ports of a slot. -/
def portsOfSlot (k : Nat) : List Nat := (List.range 256).map (256 * k + ·)

/-- Every VOQ for an unreachable slot is held, as though its ports had gone down (R304). -/
def holdSlot (k : Nat) (s : State) : State :=
  { s with
    buf.hold := s.buf.hold.filter (fun f => f / 256 != k) ++ portsOfSlot k
    fab.downSlots := k :: s.fab.downSlots.erase k }

/-- A slot that is reachable again leaves hold, but for its ports that PORT_STATE has said are down. -/
def releaseSlot (k : Nat) (s : State) : State :=
  { s with
    buf.hold := s.buf.hold.filter (fun f => f / 256 != k || s.fab.remoteDown.contains f)
    fab.downSlots := s.fab.downSlots.erase k }

/-- What follows a change of the ports that are up: REACH to every neighbour when the direct-reach vector has changed, and hold or release of the
slots whose reachability has (R304, R317). -/
def reachChanged (before : Nat) (known : List Nat) (s : State) : State :=
  let s := if s.reachVector = before then s else sendToNeighbours (.reach s.reachVector) s
  forEach s.fab.members s (fun k s =>
    let was := known.contains k
    let now := s.reachable k
    if was && !now then
      let s := holdSlot k s
      if (tget s.disc.peers k).isSome then raise 400 { s with disc.peers := tdel s.disc.peers k } else s
    else if !was && now then releaseSlot k s
    else s)

/-- The slots that are reachable now. -/
def State.reachableSlots (s : State) : List Nat := s.fab.members.filter s.reachable

/-! ## Streams (R323 to R326) -/

/-- The egress pipeline that a cell is for. -/
def egressOf (cls port : Nat) : Nat := if cls = 1 then port % 16 else pipeOfLane port

/-- Key of a stream sent, by destination slot, and of a stream received, by source slot. -/
def streamKey (slot pipe tc : Nat) : Nat := (slot * 16 + pipe) * 8 + tc

def State.rxStream (s : State) (k : Nat) : RxStream := tgetD s.fab.rxStreams k {}
def State.setRxStream (s : State) (k : Nat) (x : RxStream) : State := { s with fab.rxStreams := tset s.fab.rxStreams k x }

/-- A frame that this device ends with a poisoned cell is counted by its stream (R326). -/
def countPoison (c : DataCell) (s : State) : State :=
  { s with fab.poisonSent := tinc s.fab.poisonSent (streamKey (c.src * 32 + c.dst) (egressOf c.cls c.dstPort) c.tc) }

/-- The poisoned cell that ends a frame at a cell: LEN 0 in a DATA_LAST cell. A frame of which nothing has been sent goes as a poisoned DATA_ONLY cell
that keeps its tag. DESIGN CHOICE, unsafe: log entry 142. -/
def poisonAt (c : DataCell) (index : Nat) : DataCell :=
  { c with kind := if c.kind = 1 || c.kind = 4 then 4 else 3, poison := true, index := index, payload := [] }

/-- A cell after a frame's first, as it repeats the frame's header fields. -/
def afterFirst (c : DataCell) : DataCell :=
  { c with kind := 2, origPort := 0, frameLen := 0, cumCells := 0, nexthop := 0xFFFF, group := 0, mirror := false }

/-- The poisoned last cell of a relayed frame whose inbound port has failed (R326). -/
def poisonRelay (r : DataCell × Nat) (s : State) : State :=
  let c := poisonAt (afterFirst r.1) (r.1.index + 1)
  let p := s.fabPort r.2
  countPoison c (s.setFabPort r.2 { p with queue := p.queue ++ [{ cell := c }] })

/-- Frames of this device that begin in a list of cells. -/
def framesIn (cs : List WaitCell) : Nat := (cs.filter (fun c => c.inbound.isNone && (c.cell.kind = 1 || c.cell.kind = 4))).length

/-- A relayed cell leaves the receive buffer that it came into (R316). -/
def leaveRx (w : WaitCell) (s : State) : State := match w.inbound with | some g => freeRx g 0 1 s | none => s

/-- A port fails (R312, R322, R326): what waits on it goes, frames that it relays end with a poisoned cell, and those that are relayed to it are
lost. Cells that it has received keep their room in its buffer until they leave. -/
def failPort (g : Nat) (s : State) : State :=
  let p := s.fabPort g
  if !p.up then s
  else
    let before := s.reachVector
    let known := s.reachableSlots
    let s := s.setFabPort g { p with
      up := false
      neighbour := none
      reach := 0
      loads := []
      control := []
      queue := []
      replayBuf := []
      relays := []
      lseqTx := 0
      lseqRx := 0
      tries := 0
      credit0 := 0
      credit1 := 0
      linkDiscard := add64 p.linkDiscard (framesIn p.queue) }
    let s := forEach p.queue s leaveRx
    let s : State := { s with
      fab.ports := s.fab.ports.map (fun e => (e.1, { e.2 with relays := e.2.relays.filter (fun r => r.2 != g) })) }
    let s := forEach (p.relays.filter (fun r => r.2 != g)) s poisonRelay
    reachChanged before known (raise (208 + g) s)

/-- FABRIC_PORT_TIMEOUT (R312). -/
def execFabricPortTimeout (group : Nat) (s : State) : Host.Outcome State Fault Refusal := .next (failPort group s)

/-! ## Arrival of cells (R311) -/

/-- Cells that an ACK covers leave the replay buffer. -/
def acknowledge (ack : Nat) (buf : List Cell) : List Cell :=
  let seqOf (c : Cell) : Nat := match c with | .idle _ _ => 4096 | .control l _ _ _ => l | .data d => d.lseq
  if buf.any (fun c => seqOf c = ack) then (buf.dropWhile (fun c => seqOf c != ack)).drop 1 else buf

/-- One injected error of a kind, at a unit that `p` accepts, is used up by an error of that kind (R626). DESIGN CHOICE, safe: log entry 123. -/
def useInjected (kind : Nat) (p : Nat → Bool) (s : State) : State :=
  match s.boot.injected.find? (fun e => e.1 = kind && p e.2.1) with
  | none => s
  | some (k, u, sev, n) => { s with
      boot.injected := (if n ≤ 1 then [] else [(k, u, sev, n - 1)]) ++ s.boot.injected.erase (k, u, sev, n) }

/-- A cell whose CCRC fails is discarded and asked for again; 8 replays of one LSEQ in a row that fail fail the port.
DESIGN CHOICE, unsafe: log entry 91. -/
def askReplay (g : Nat) (s : State) : State :=
  let s := useInjected 9 (· = g) s
  let p := s.fabPort g
  if p.tries ≥ 8 then failPort g s
  else s.setFabPort g { p with tries := p.tries + 1, control := p.control ++ [.replay p.lseqRx] }

/-- A cell arrives: the state with its LSEQ and ACK taken when it is the next in order, else none with what the receiver does.
DESIGN CHOICE, unsafe: log entry 91. -/
def receiveCell (hd : LinkHeader) (s : State) : Bool × State :=
  let p := s.fabPort hd.group
  if !s.fabRuns hd.group then (false, s)
  else if !hd.crcOk then (false, if p.up then askReplay hd.group s else s)
  else if !p.up || hd.lseq != p.lseqRx then (false, s)
  else (true, s.setFabPort hd.group { p with lseqRx := (hd.lseq + 1) % 4096, tries := 0, replayBuf := acknowledge hd.ack p.replayBuf })

/-- A control cell that arrives in order has an effect. -/
def onControl (hd : LinkHeader) (f : State → State) (s : State) : Host.Outcome State Fault Refusal :=
  match receiveCell hd s with
  | (true, s) => .next (f s)
  | (false, s) => .next s

/-- The port with the lowest occupancy of some ports, ties to the lower octal group, and its occupancy. -/
def leastLoaded (ps : Tab FabPort) : Option (Nat × Nat) :=
  ps.foldl (fun best e =>
    let n := e.2.queue.length
    match best with
    | some b => if n < b.2 then some (e.1, n) else best
    | none => some (e.1, n)) none

/-- Ports that are up to a slot. -/
def State.portsTo (s : State) (k : Nat) : Tab FabPort := s.fab.ports.filter (fun e => e.2.up && e.2.slot = some k)

/-- A control cell of HOP 0 for another slot goes on toward it with HOP 1 (R321), always by the lowest port that is up to it (R315); it came from its
source, the neighbour. -/
def relayControl (hd : LinkHeader) (c : Control) (s : State) : State :=
  match s.portsTo hd.dst with
  | (g, _) :: _ => pushControl g (.relayed ((s.fabPort hd.group).slot.getD 0) c) s
  | [] => s

/-- A control cell that names a slot: it has its effect at that slot, and a slot on its way relays it. DEDUCED, unsafe: log entry 135. -/
def onAddressed (hd : LinkHeader) (c : Control) (f : State → State) (s : State) : Host.Outcome State Fault Refusal :=
  onControl hd (fun s =>
    if hd.dst = s.ownSlot then f s
    else if hd.hop = 0 then relayControl hd c s
    else s) s

/-! ## Hellos (R316, R594) -/

/-- Receive buffer of a port by hop class: half of its equal share of the region's pool (DESIGN CHOICE, unsafe: log entry 46). -/
def State.hopShare (s : State) (g : Nat) : Nat :=
  (s.regionCfg (g / 8)).fabRxPool / (max 1 (fabPortsIn s.fab.ports (g / 8))) / 2

/-- A refusal of R316. -/
def refusePort (g : Nat) (s : State) : State :=
  let p := s.fabPort g
  raise 243 (failPort g (s.setFabPort g { p with refusals := inc64 p.refusals }))

/-- The fabric-peer table follows a hello. -/
def notePeer (slot device : Nat) (s : State) : State :=
  let now := s.time.now
  let s := noteMember device 0 s
  match tget s.disc.peers slot with
  | some (d, seen) =>
    let s' := { s with disc.peers := tset s.disc.peers slot (device, { seen with heard := now }) }
    if d = device then s' else raise 400 s'
  | none => raise 400 { s with disc.peers := tset s.disc.peers slot (device, s.seenNow) }

/-- A slot is bound to another device on another port. -/
def State.slotTaken (s : State) (g slot device : Nat) : Bool :=
  s.fab.ports.any (fun e => e.1 != g && e.2.up && e.2.slot = some slot && e.2.neighbour != some (slot, device))

/-- The own HELLO (Table 6-6). -/
def State.ownHello (s : State) : Control := .hello s.fab.cfg.groupId s.ownSlot s.ocf.deviceId s.reachVector

/-- HELLO: hellos that agree bring the port up; a hello of its own and the credits of what its buffer has free go to the neighbour.
DESIGN CHOICE, unsafe: log entries 46 and 93. -/
def execHello (hd : LinkHeader) (groupId slot device reachVec : Nat) (s : State) : Host.Outcome State Fault Refusal :=
  let g := hd.group
  let p := s.fabPort g
  if !s.fabRuns g then .next s
  else if !hd.crcOk then .next (receiveCell hd s).2
  else if p.up && hd.lseq != p.lseqRx then .next s
  else
    let s := s.setFabPort g { p with lseqRx := (hd.lseq + 1) % 4096, tries := 0, replayBuf := acknowledge hd.ack p.replayBuf }
    if slot = s.ownSlot || s.slotTaken g slot device then .next (refusePort g s)
    else if groupId != s.fab.cfg.groupId || (p.up && p.neighbour != some (slot, device)) then .next (failPort g s)
    else
      let before := s.reachVector
      let known := s.reachableSlots
      let q := s.fabPort g
      let share := s.hopShare g
      let s : State := { s with fab.members := if s.fab.members.contains slot then s.fab.members else s.fab.members ++ [slot] }
      let s := s.setFabPort g (if p.up then { q with reach := reachVec } else { q with
        up := true
        neighbour := some (slot, device)
        reach := reachVec
        control := q.control ++ [s.ownHello, .credit 0 (share - q.used0), .credit 1 (share - q.used1)] })
      let s := if p.up then s else raise (208 + g) s
      .next (notePeer slot device (reachChanged before known s))

/-- HELLO_SEND (Table 6-6): a port that is not up sends nothing else. -/
def execHelloSend (group : Nat) (s : State) : Host.Outcome State Fault Refusal :=
  .next (if s.fabRuns group then
    pushControl group s.ownHello s
  else s)

/-- REACH (R317): the slots that a neighbour reaches; those that it names are members. -/
def execReach (hd : LinkHeader) (reachVec : Nat) (s : State) : Host.Outcome State Fault Refusal :=
  onControl hd (fun s =>
    let known := s.reachableSlots
    let s := s.setFabPort hd.group { s.fabPort hd.group with reach := reachVec }
    let named := (bitsOf 32 reachVec).filter (fun k => k != s.ownSlot && !s.fab.members.contains k)
    reachChanged s.reachVector known { s with fab.members := s.fab.members ++ named }) s

/-- LOAD (R320): a neighbour's transmit occupancy toward each slot. -/
def execLoad (hd : LinkHeader) (occupancy : List Nat) (s : State) : Host.Outcome State Fault Refusal :=
  onControl hd (fun s =>
    let k := (s.fabPort hd.group).slot
    { s with fab.ports := s.fab.ports.map (fun e => (e.1, if e.2.slot = k && k.isSome then { e.2 with loads := occupancy } else e.2)) }) s

/-- PORT_STATE (R304): a member's front port. -/
def execPortState (hd : LinkHeader) (slot port : Nat) (up : Bool) (s : State) : Host.Outcome State Fault Refusal :=
  onAddressed hd (.portState hd.dst port up) (fun s =>
    let f := slot * 256 + port
    let s' : State := { s with fab.remotePorts := f :: s.fab.remotePorts.erase f }
    if slot = s.ownSlot then s
    else if up then { s' with
      fab.remoteDown := s.fab.remoteDown.erase f
      buf.hold := if s.fab.downSlots.contains slot then s.buf.hold else s.buf.hold.erase f }
    else { s' with
      fab.remoteDown := f :: s.fab.remoteDown.erase f
      buf.hold := f :: s.buf.hold.erase f }) s

/-- CREDIT (R316). -/
def execCredit (hd : LinkHeader) (hop cells : Nat) (s : State) : Host.Outcome State Fault Refusal :=
  onControl hd (fun s =>
    let p := s.fabPort hd.group
    s.setFabPort hd.group (if hop = 0 then { p with credit0 := p.credit0 + cells } else { p with credit1 := p.credit1 + cells })) s

/-- LSEQ of a cell. -/
def cellSeq (c : Cell) : Option Nat :=
  match c with | .idle _ _ => none | .control l _ _ _ => some l | .data d => some d.lseq

/-- A cell with another ACK. -/
def withAck (a : Nat) (c : Cell) : Cell :=
  match c with | .idle _ r => .idle a r | .control l _ r k => .control l a r k | .data d => .data { d with ack := a }

/-- The latest LSEQ that a port has received in order. -/
def FabPort.ackNow (p : FabPort) : Nat := (p.lseqRx + 4095) % 4096

/-- REPLAY (R311): the cells from an LSEQ on go again, in order, each with the latest ACK. DESIGN CHOICE, unsafe: log entry 91. -/
def execReplay (hd : LinkHeader) (lseq : Nat) (s : State) : Host.Outcome State Fault Refusal :=
  onControl hd (fun s =>
    let p := s.fabPort hd.group
    let again := p.replayBuf.dropWhile (fun c => cellSeq c != some lseq)
    let s := s.setFabPort hd.group { p with replays := inc64 p.replays }
    { s with fab.sent := s.fab.sent ++ again.map (fun c => (hd.group, withAck p.ackNow c)) }) s

/-! ## Path choice and segmentation (R314, R318, R320, R323) -/

/-- The path of a frame to a slot: the octal group, and the intermediate slot or the own slot; none where the slot is unreachable. -/
def State.path (s : State) (d : Nat) : Option (Nat × Nat) :=
  let direct := leastLoaded (s.portsTo d)
  let viaCost (v : Nat) : Option (Nat × Nat × Nat) :=
    let ps := s.portsTo v
    if v = d || !ps.any (fun e => e.2.reach.testBit d) then none
    else (leastLoaded ps).map (fun b => (b.2 + ((ps.head?.map (fun e => e.2.loads.getD d 0)).getD 0), b.1, v))
  let best := ((List.range 32).filterMap viaCost).foldl (fun (b : Option (Nat × Nat × Nat)) c =>
    match b with
    | some x => if c.1 < x.1 then some c else b
    | none => some c) none
  match direct, best with
  | some (g, n), some (c, h, v) => if n ≤ s.fab.cfg.directLimit || n ≤ c then some (g, s.ownSlot) else some (h, v)
  | some (g, _), none => some (g, s.ownSlot)
  | none, some (_, h, v) => some (h, v)
  | none, none => none

/-- A string in pieces of at most 240 bytes; `fuel` bounds their number. -/
def pieces : Nat → Bytes → List Bytes
  | 0, _ => []
  | fuel + 1, d => if d = [] then [] else d.take 240 :: pieces fuel (d.drop 240)

/-- The cells of a frame: the first takes 224 bytes after its tag. -/
def segment (c : DataCell) (d : Bytes) : List DataCell :=
  let rest := pieces 69 (d.drop 224)
  let n := rest.length
  { c with kind := if n = 0 then 4 else 1, payload := d.take 224 } ::
    rest.mapIdx (fun i x => { afterFirst c with
      kind := if i + 1 = n then 3 else 2
      index := i + 1
      payload := x })

/-- A transparent clock's event message that leaves by another device keeps its correction (R593). -/
def countUncorrected (f : QFrame) (s : State) : State :=
  if (s.ptp.type = 3 || s.ptp.type = 4) && ((tget s.ptp.ports f.orig).map (fun p => p.ptpMode == 2)).getD false && (ptpAt f.data).isSome then
    { s with ptp.tcUncorrected := inc64 s.ptp.tcUncorrected }
  else s

/-- A frame goes to a slot over the link. DEDUCED, unsafe: log entry 90. -/
def sendFrame (k : Nat) (f : QFrame) (s : State) : State :=
  let d := voqSlot k
  match s.path d with
  | none => { s with fab.unreach := inc64 s.fab.unreach }
  | some (g, via) =>
    let pipe := egressOf (voqClass k) (voqPort k)
    let sk := streamKey d pipe (voqTc k)
    let (seq, cum) := tgetD s.fab.txStreams sk (0, 0)
    let data := markFrame f.markDei f.markDscp f.data
    let n := f.linkCells
    let cell : DataCell :=
      { kind := 1, poison := false, hop := 0, src := s.ownSlot, dst := d, via := via, dstPort := voqPort k, tc := voqTc k, seq := seq, index := 0,
        lseq := 0, ack := 0, cls := voqClass k, origPort := s.sysPort f.orig, frameLen := f.len, cumCells := wrap 32 (cum + n),
        nexthop := min f.nexthop 0xFFFF, group := f.group, mirror := f.mirror, payload := [] }
    let s : State := { s with fab.txStreams := tset s.fab.txStreams sk (wrap 24 (seq + 1), wrap 32 (cum + n)) }
    let p := s.fabPort g
    countUncorrected f (s.setFabPort g { p with queue := p.queue ++ (segment cell (data ++ frameCheck data)).map (fun c => { cell := c }) })

/-- A VOQ for another slot sends head frames while the next fits in its credit (R318) and the VOQ is not held (R303, R304); `fuel` bounds how many. -/
def sendHeads (k : Nat) : Nat → State → State
  | 0, s => s
  | fuel + 1, s =>
    let q := s.voq k
    match q.headFrame with
    | none => s
    | some f =>
      if f.linkCells > q.credit || s.voqHeld k then s
      else
        let s := s.setVoq k { q.pop with credit := q.credit - f.linkCells }
        sendHeads k fuel (releaseFrame k f (sendFrame k f s))

/-- VOQs that have kept credit send the head frames that fit in it (R318). DESIGN CHOICE, unsafe: log entry 92. -/
def sendKept (s : State) : State :=
  forEach ((tkeys s.buf.voqs).filter (fun k => voqSlot k != s.ownSlot && (s.voq k).credit != 0)) s (fun k s => sendHeads k (s.voq k).frames.length s)

/-- GRANT (R318). -/
def execGrant (hd : LinkHeader) (region voq cells : Nat) (s : State) : Host.Outcome State Fault Refusal :=
  onAddressed hd (.grant hd.dst region voq cells) (fun s =>
    let k := voqKey region voq
    let q := s.voq k
    sendHeads k q.frames.length (s.setVoq k { q with credit := q.credit + cells })) s

/-- REQUEST (R318): the backlog of a remote VOQ, and the cells of its head frame, which a grant covers. DEDUCED, unsafe: log entry 92. -/
def execRequest (hd : LinkHeader) (slot region port tc cls : Nat) (cells : Backlog) (s : State) : Host.Outcome State Fault Refusal :=
  onAddressed hd (.request hd.dst region port tc cls cells.cells cells.head) (fun s =>
    let k := requestKey (4 * slot + region) cls port tc s.ownSlot
    { s with fab.requests := if cells.cells = 0 then tdel s.fab.requests k else tset s.fab.requests k (cells.cells, cells.head) }) s

/-- VOQ_REQUEST_TIMER (R318): what kept credit covers goes, and the VOQ asks again for what is left. -/
def execVoqRequestTimer (region voq : Nat) (s : State) : Host.Outcome State Fault Refusal :=
  let k := voqKey region voq
  .next (requestGrant k (if voqSlot k = s.ownSlot then s else sendHeads k (s.voq k).frames.length s))

/-- LOAD_SEND (Table 6-6): the lowest occupancy of a direct port to each slot, 0xFFFF where there is none. DESIGN CHOICE, unsafe: log entry 92. -/
def execLoadSend (s : State) : Host.Outcome State Fault Refusal :=
  .next (sendToNeighbours (.load ((List.range 32).map (fun k => ((leastLoaded (s.portsTo k)).map Prod.snd).getD 0xFFFF))) s)

/-! ## Sending cells (R311, R315, R408) -/

/-- Replies for a slot become segments of up to 232 bytes (R408). -/
def sendReplies (s : State) : State :=
  let out := s.ocf.fabricOut
  forEach out { s with ocf.fabricOut := [] } (fun e s =>
    let n := ceilDiv e.2.length 232
    forEach (List.range n) s (fun i s => sendToSlot e.1 (.ocf e.1 ((e.2.drop (232 * i)).take 232)) s))

/-- A port sends a cell with the next LSEQ. -/
def emit (g : Nat) (p : FabPort) (c : Cell) (s : State) : State :=
  { s.setFabPort g { p with lseqTx := (p.lseqTx + 1) % 4096, replayBuf := p.replayBuf ++ [c] } with fab.sent := s.fab.sent ++ [(g, c)] }

/-- A control cell that a port may send: any while it is up, a hello while it is not. -/
def isHello (c : Control) : Bool := match c with | .hello _ _ _ _ => true | _ => false

/-- SRC, DST, VIA and HOP of a control cell: one that names no slot is for the neighbour; one for a slot beyond it goes by the neighbour; a relayed one
has its source, and this device as its intermediate. DEDUCED, safe: log entry 134. -/
def State.routeOf (s : State) (p : FabPort) (c : Control) : CellRoute :=
  let near := p.slot.getD 0
  let dst := c.dst.getD near
  match c with
  | .relayed src _ => ⟨src, dst, s.ownSlot, 1⟩
  | _ => ⟨s.ownSlot, dst, if dst = near then s.ownSlot else near, 0⟩

/-- The device makes ready what its ports can send: replies for members, and what kept credit covers. -/
def State.linkReady (s : State) : State := sendKept (sendReplies s)

/-- A port has a credit for a cell's hop class (R316). -/
def FabPort.hasCredit (p : FabPort) (w : WaitCell) : Bool := if w.cell.hop = 0 then p.credit0 != 0 else p.credit1 != 0

/-- What a port sends next (R315): a control cell first, else the first data cell whose hop class has a credit; nothing while the replay buffer is
full. -/
def FabPort.nextCell (p : FabPort) : Option (Control ⊕ WaitCell) :=
  if p.replayBuf.length ≥ 512 then none
  else match p.control.find? (fun c => p.up || isHello c) with
    | some c => some (.inl c)
    | none => if p.up then (p.queue.find? p.hasCredit).map .inr else none

/-- One frame by its stream and SEQ: cells of one frame agree in these. -/
def sameCellFrame (a b : DataCell) : Bool :=
  a.src = b.src && a.dst = b.dst && a.dstPort = b.dstPort && a.tc = b.tc && a.cls = b.cls && a.seq = b.seq

/-- A control cell leaves a port; one sent while the port is not up takes an LSEQ too, and is not replayed (R311). -/
def sendControl (g : Nat) (c : Control) (s : State) : State :=
  let p := s.fabPort g
  let x : Cell := .control p.lseqTx p.ackNow (s.routeOf p c) c
  let p : FabPort := { p with control := p.control.erase c }
  if p.up then emit g p x s
  else { s.setFabPort g { p with lseqTx := (p.lseqTx + 1) % 4096 } with fab.sent := s.fab.sent ++ [(g, x)] }

/-- A data cell leaves a port, and the receive buffer that it came into. -/
def sendData (g : Nat) (w : WaitCell) (s : State) : State :=
  let p := s.fabPort g
  let c := w.cell
  let p : FabPort := { p with
    queue := p.queue.erase w
    credit0 := if c.hop = 0 then p.credit0 - 1 else p.credit0
    credit1 := if c.hop = 0 then p.credit1 else p.credit1 - 1 }
  leaveRx w (emit g p (.data { c with lseq := p.lseqTx, ack := p.ackNow }) s)

/-- A cell that the Basin cannot supply (R326): its frame ends with a poisoned cell in its place, and the frame's other cells go. -/
def poisonHere (g : Nat) (w : WaitCell) (s : State) : State :=
  let p := s.fabPort g
  let rest := p.queue.filter (fun x => sameCellFrame x.cell w.cell && x != w)
  let w' : WaitCell := { w with cell := poisonAt w.cell w.cell.index }
  let s := s.setFabPort g { p with queue := (p.queue.map (fun x => if x = w then w' else x)).filter (fun x => !rest.contains x) }
  let s := forEach rest s leaveRx
  let s : State := { s with
    fab.ports := s.fab.ports.map (fun e => (e.1, { e.2 with relays := e.2.relays.filter (fun r => !sameCellFrame r.1 w.cell) })) }
  countPoison w.cell (sendData g w' s)

/-- FABRIC_CELL_SEND (R315, R326): an uncorrectable Basin error takes a data cell that is about to go. -/
def execFabricCellSend (cell : CellSend) (s : State) : Host.Outcome State Fault Refusal :=
  if !s.fabRuns cell.group then .next s
  else
    let s := s.linkReady
    match (s.fabPort cell.group).nextCell with
    | none => .next s
    | some (.inl c) => .next (sendControl cell.group c s)
    | some (.inr w) => .next (if cell.basinError then poisonHere cell.group w (useInjected 8 (fun _ => true) s) else sendData cell.group w s)

/-- FABRIC_IDLE_SEND (R312): a port that has nothing that it can send. -/
def execFabricIdleSend (group : Nat) (s : State) : Host.Outcome State Fault Refusal :=
  if !s.fabRuns group then .next s
  else
    let s := s.linkReady
    let p := s.fabPort group
    .next (if p.up && p.nextCell.isNone then
      { s with fab.sent := s.fab.sent ++ [(group, .idle p.ackNow ⟨s.ownSlot, p.slot.getD 0, s.ownSlot, 0⟩)] }
    else s)

/-! ## Receiving frames (R319, R321, R324 to R326) -/

/-- A cell for another slot is relayed with HOP 1, on the path of its frame (R321); it keeps its room in the receive buffer until it leaves (R316). A
cell of a frame that has no path, or whose path has gone, is lost. -/
def relayCell (g : Nat) (c : DataCell) (s : State) : State :=
  let s := takeRx g c.hop s
  let p := s.fabPort g
  let first := c.kind = 1 || c.kind = 4
  let out := if first then (leastLoaded (s.portsTo c.dst)).map Prod.fst
    else (p.relays.find? (fun r => sameCellFrame r.1 c)).map Prod.snd
  match out with
  | none => freeRx g c.hop 1 s
  | some h =>
    let c' : DataCell := { c with hop := 1 }
    let others := p.relays.filter (fun r => !sameCellFrame r.1 c)
    let s := s.setFabPort g { p with relays := if c.kind = 1 || c.kind = 2 then others ++ [(c', h)] else others }
    let o := s.fabPort h
    s.setFabPort h { o with queue := o.queue ++ [{ cell := c', inbound := some g }] }

/-- `a` is later than `b` modulo 2^24. -/
def seqLater (a b : Nat) : Bool := let d := wrap 24 (a + 2 ^ 24 - b); d != 0 && d < 2 ^ 23

/-- A frame that the reorder unit releases enters its egress queue or the replication queues (R324, R309). -/
def enterEgress (pipe : Nat) (f : RobFrame) (s : State) : State :=
  let c := f.first
  let lost (s : State) : State := freeFabric pipe f.rx f.cells s
  let q : QFrame :=
    { data := f.data.take (c.frameLen - 4), l3 := ipOffset f.data, orig := c.origPort, cells := f.cells, region := f.region
      nexthop := if c.nexthop = 0xFFFF then noHop else c.nexthop, group := c.group, leaveOut := true, mirror := c.mirror, stamp := s.time.now
      arrived := s.time.localNs, released := some s.time.localNs, rx := some f.rx }
  if c.cls = 1 then
    let m := s.buf.nextShared
    let (n, s) := placeCopies m c.tc pipe q { s with buf.nextShared := m + 1 }
    if n = 0 then lost s else { s with buf.copies := tset s.buf.copies m n }
  else
    let port := c.dstPort
    let x := s.egQueue port c.tc
    let k := 8 * port + c.tc
    if (tget s.ports.cfg port).isNone then lost { s with buf.noVoq := tinc s.buf.noVoq f.region }
    else if !s.linkUp port then lost { s with buf.downDiscard := tinc s.buf.downDiscard (8 * s.sysPort port + c.tc) }
    else if x.watchdog then lost { s with buf.wdDiscard := tinc s.buf.wdDiscard k }
    else s.setEgQueue port c.tc { x with fabric := x.fabric ++ [{ port := port, tc := c.tc, frame := q, voq := none }] }

/-- Cells that CUM_CELLS shows to be lost leave the grant window (R319). -/
def noteCum (k pipe : Nat) (f : RobFrame) (s : State) : State :=
  let x := s.rxStream k
  let lost := wrap 32 (f.first.cumCells + 2 ^ 32 + 2 ^ 32 - x.cum - f.cells) - x.gone
  let s := s.setRxStream k { x with cum := f.first.cumCells, gone := 0, expected := wrap 24 (f.seq + 1) }
  { s with fab.granted := tmod s.fab.granted pipe 0 (· - lost) }

/-- A frame whose turn it is: a poisoned one is discarded whole (R326), any other is released. -/
def takeFrame (pipe k : Nat) (f : RobFrame) (s : State) : State :=
  let s := noteCum k pipe f s
  if f.poison then
    let x := s.rxStream k
    raise 242 (freeFabric pipe f.rx f.cells (s.setRxStream k { x with poisonRecv := inc64 x.poisonRecv }))
  else enterEgress pipe f s

/-- Buffered frames that now follow in SEQ order are released. -/
def releaseHeld (pipe k : Nat) : Nat → State → State
  | 0, s => s
  | fuel + 1, s =>
    let x := s.rxStream k
    match x.held.find? (fun f => f.seq = x.expected) with
    | none => s
    | some f => releaseHeld pipe k fuel (takeFrame pipe k f (s.setRxStream k { x with held := x.held.erase f }))

/-- A frame that has arrived whole (R324). -/
def arriveFrame (pipe k : Nat) (f : RobFrame) (s : State) : State :=
  let x := s.rxStream k
  if f.seq = x.expected then releaseHeld pipe k x.held.length (takeFrame pipe k f s)
  else if seqLater f.seq x.expected then s.setRxStream k { x with held := x.held ++ [f] }
  else freeFabric pipe f.rx f.cells (s.setRxStream k { x with late := inc64 x.late })

/-- A cell for this device joins its frame; the frame's last cell completes it. A cell of a frame that has been given up has left the window of its
grants with it (R319). -/
def localCell (g : Nat) (c : DataCell) (s : State) : State :=
  let pipe := egressOf c.cls c.dstPort
  let k := streamKey c.src pipe c.tc
  let x := s.rxStream k
  let s := takeRx g c.hop { s with
    fab.granted := if seqLater x.expected c.seq then s.fab.granted else tmod s.fab.granted pipe 0 (· - 1)
    fab.received := tmod s.fab.received pipe 0 (· + 1) }
  let old := x.parts.find? (fun p => p.seq = c.seq)
  let part : Option Partial :=
    if c.kind = 1 || c.kind = 4 then some { seq := c.seq, region := g / 8, rx := (g, c.hop), first := c, data := c.payload, cells := 1 }
    else old.bind (fun p => if c.index = p.cells then some { p with data := p.data ++ c.payload, cells := p.cells + 1 }
      else if c.poison then some { p with cells := p.cells + 1 } else none)
  let parts := x.parts.filter (fun p => p.seq != c.seq)
  match part with
  | none => freeFabric pipe (g, c.hop) 1 s
  | some p =>
    if c.kind = 3 || c.kind = 4 then
      arriveFrame pipe k { seq := p.seq, region := p.region, rx := p.rx, first := p.first, data := p.data, cells := p.cells, poison := c.poison }
        (s.setRxStream k { x with parts := parts })
    else s.setRxStream k { x with parts := parts ++ [p] }

/-- DATA_CELL_RECEIVE (R311, R313, R321, R324): its CCRC is that of its header and payload, or the cell is discarded. -/
def execDataCellReceive (group : Nat) (cell : DataCell) (ccrc : Nat) (s : State) : Host.Outcome State Fault Refusal :=
  match receiveCell { group := group, lseq := cell.lseq, ack := cell.ack, crcOk := cell.valid ccrc, dst := cell.dst, hop := cell.hop } s with
  | (false, s) => .next s
  | (true, s) =>
    .next (if cell.dst = s.ownSlot then localCell group cell s
      else if cell.hop = 0 then relayCell group cell s
      else sendCredit group cell.hop 1 s)

/-- ROB_TIMEOUT (R325): the SEQs before the lowest buffered one are lost, with what has arrived of them. -/
def execRobTimeout (slot pipe tc : Nat) (s : State) : Host.Outcome State Fault Refusal :=
  let k := streamKey slot pipe tc
  let x := s.rxStream k
  let low := x.held.foldl (fun (m : Option RobFrame) f => match m with
    | some b => if seqLater b.seq f.seq then some f else m
    | none => some f) none
  .next (match low with
    | none => s
    | some f =>
      let n := wrap 24 (f.seq + 2 ^ 24 - x.expected)
      let dead := x.parts.filter (fun p => seqLater f.seq p.seq)
      let s := s.setRxStream k { x with
        expected := f.seq
        lost := add64 x.lost n
        gone := x.gone + (dead.map Partial.cells).sum
        parts := x.parts.filter (fun p => !seqLater f.seq p.seq) }
      let s := forEach dead s (fun p s => freeFabric pipe p.rx p.cells s)
      raise 241 (releaseHeld pipe k x.held.length s))

/-! ## Flow requests and command frames (R216, R408) -/

/-- FLOW_REQ (R216): a request for a record that this device holds. -/
def execFlowReq (hd : LinkHeader) (slot id : Nat) (req : FlowReq) (s : State) : Host.Outcome State Fault Refusal :=
  onAddressed hd (.flowReq hd.dst id req) (fun s =>
    let reply (r : FlowResult) (s : State) : State := sendToSlot slot (.flowResp slot id r) s
    match s.template req.template with
    | none => reply .stateless s
    | some t => match s.partition t.partition with
      | none => reply .stateless s
      | some p =>
        let home := (p.place (reqKey req)).home
        if s.flowReady home then
          pushOp home (s.opOf t.partition (.remote slot id) req) s
        else reply (.starved 1) s) s

/-- FLOW_RESP (R216): the result goes to what asked. -/
def execFlowResp (hd : LinkHeader) (slot id : Nat) (res : FlowResult) (s : State) : Host.Outcome State Fault Refusal :=
  onAddressed hd (.flowResp hd.dst id res) (fun s =>
    let _ := slot
    match tget s.flow.asked id with
    | none => s
    | some o => answer o res { s with flow.asked := tdel s.flow.asked id }) s

/-- A segment of a frame (R408): the last of a run of segments completes it. DEDUCED, unsafe: log entry 94. -/
def takeSegment (key index total : Nat) (f : State → State) (s : State) : State :=
  let next := match tget s.fab.segments key with
    | some k => k + 1
    | none => 0
  if index != next then s
  else if index + 1 = total then f { s with fab.segments := tdel s.fab.segments key }
  else { s with fab.segments := tset s.fab.segments key index }

/-- A frame from a slot enters the command intake, or is discarded (R409). -/
def fabricIntake (slot opcode : Nat) (f : Ocf) (s : State) : State :=
  if !s.accepts || s.ocf.intake.length ≥ 64 then { s with ocf.intakeDropped := inc64 s.ocf.intakeDropped }
  else intakeFrame opcode { f with transport := .dvorob slot } 0 s

/-- OCF. -/
def execOcf (hd : LinkHeader) (slot index total opcode : Nat) (f : Ocf) (s : State) : Host.Outcome State Fault Refusal :=
  onAddressed hd (.segment hd.dst index total opcode f) (takeSegment slot index total (fabricIntake slot opcode f)) s

/-- LEARN (R265): a learning message is an Ohmed frame with opcode 0x0520. -/
def execLearn (hd : LinkHeader) (slot index total : Nat) (f : Ocf) (s : State) : Host.Outcome State Fault Refusal :=
  onAddressed hd (.learnSegment hd.dst index total f) (takeSegment (32 + slot) index total (fabricIntake slot 0x0520 f)) s

/-- OCF_SEGMENT_TIMEOUT (R408). -/
def execOcfSegmentTimeout (slot : Nat) (s : State) : Host.Outcome State Fault Refusal :=
  let keys := [slot, 32 + slot].filter (fun k => (tget s.fab.segments k).isSome)
  .next { s with
    fab.segments := keys.foldl tdel s.fab.segments
    ocf.segLost := add64 s.ocf.segLost keys.length }

/-! ## Commands (Tables 6-10 and 6-11, R328, R329) -/

/-- FABRIC_CONFIG in force, as its setting keeps it. -/
def fabCfgOf (p : FabricConfigP) : FabCfg :=
  { enable := p.enable = 1, slot := p.slot, groupId := p.groupId, directLimit := orDefault p.directLimit 128,
    grantWindow := orDefault p.grantWindow 256, grantSize := orDefault p.grantSize 64, robTimeout := orDefault p.robTimeout 20 }

def FabCfg.setting (c : FabCfg) : List Nat :=
  [bit c.enable, c.slot, c.groupId, c.directLimit, c.grantWindow, c.grantSize, c.robTimeout]

/-- A port is up. -/
def State.anyFabUp (s : State) : Bool := s.fab.ports.any (fun e => e.2.up)

/-- FABRIC_CONFIG (R316, R328, R329, R605). A group left brings its ports down. DESIGN CHOICE, unsafe: log entry 93. -/
def bodyFabricConfig (_h : Ocf) (p : FabricConfigP) : Body :=
  let c := fabCfgOf p
  { opcode := 0x0740, changes := true, lenOk := (· = 12),
    check := fun s => firstErr
      [ (p.enable > 1, (0x0172, 0)),
        (p.slot > 31, (0x0172, 1)),
        (outside c.directLimit 16 4096, (0x0172, 4)),
        (outside c.grantWindow 64 2048, (0x0172, 6)),
        (outside c.grantSize 16 1024, (0x0172, 8)),
        (outside c.robTimeout 2 1000, (0x0172, 10)),
        (s.anyFabUp && (p.slot != s.fab.cfg.slot || p.groupId != s.fab.cfg.groupId), (0x0472, 0xFFFF)),
        (regions.any (fabUnfit s.buf.cfg c.grantWindow s.fab.ports), (0x0371, 0xFFFF)) ]
    apply := fun s =>
      if !p.flashOk then { st := s, status := 0x0501 }
      else
        let s := if c.enable then s else forEach (tkeys s.fab.ports) s failPort
        { st := { s with fab.cfg := c, flash.settings.fabric := some c.setting } } }

/-- The largest width of 1, 2, 4 or 8 for which an octal group has an aligned group of lanes without a retired one (R312, Table 15-6). -/
def State.widthLeft (s : State) (g : Nat) : Nat :=
  let dead (l : Nat) : Bool := s.boot.retired.contains (1, 8 * g + l)
  let fits (w : Nat) : Bool := (List.range (8 / w)).any (fun k => (List.range w).all (fun i => !dead (w * k + i)))
  ([8, 4, 2, 1].find? fits).getD 0

/-- FABRIC_LINK_WRITE (R310, R328, R329, R438, R605). DESIGN CHOICE, unsafe: log entry 93. -/
def bodyFabricLinkWrite (_h : Ocf) (p : FabricLinkWriteP) : Body :=
  let old (s : State) : Option (Nat × Nat) := (tget s.fab.ports p.group).map (fun x => (x.width, x.rate))
  let new (s : State) : Tab FabPort :=
    if p.width = 0 then tdel s.fab.ports p.group else tset s.fab.ports p.group { width := p.width, rate := p.rate }
  { opcode := 0x0741, changes := true, lenOk := (· = 4),
    check := fun s => firstErr
      [ (p.group > 31, (0x0172, 0)),
        (!([0, 1, 2, 4, 8].contains p.width) || p.width > s.widthLeft p.group, (0x0172, 1)),
        (p.rate > 1, (0x0172, 2)),
        ((s.fabPort p.group).up && old s != some (p.width, p.rate), (0x0472, 0xFFFF)),
        (p.width != 0 && (tkeys s.ports.cfg).any (fun k => k / 8 = p.group), (0x0421, 0)),
        (regions.any (fabUnfit s.buf.cfg s.fab.cfg.grantWindow (new s)), (0x0371, 0xFFFF)) ]
    apply := fun s =>
      if !p.flashOk then { st := s, status := 0x0501 }
      else
        let s : State := { s with flash.settings.fabricLinks :=
          if p.width = 0 then tdel s.flash.settings.fabricLinks p.group else tset s.flash.settings.fabricLinks p.group (p.width, p.rate) }
        { st := if old s = some (p.width, p.rate) then s else { s with fab.ports := new s } } }

/-- FABRIC_STATUS: the ports with width, rate, state, neighbour and its device ID, then the reachability map. -/
def bodyFabricStatus (_h : Ocf) : Body :=
  readBody 0x0742 0 (fun _ => none) fun s =>
    s.fab.ports.flatMap (fun e =>
      let n := e.2.neighbour.getD (0xFF, 0xFFFF)
      [(1, e.1), (1, e.2.width), (1, e.2.rate), (1, bit e.2.up), (1, n.1), (1, 0), (2, n.2), (4, e.2.reach)]) ++
    [(4, forEach s.reachableSlots 0 (fun k m => setBit m k true))]

/-- FABRIC_COUNTERS_READ. -/
def bodyFabricCountersRead (_h : Ocf) (clear : Nat) : Body :=
  { opcode := 0x0743, changes := clear = 1, clearRead := true, lenOk := (· = 4), check := fun _ => firstErr [(clear > 1, (0x0108, 0))],
    apply := fun s =>
      { st := if clear = 1 then { s with
          fab.ports := s.fab.ports.map (fun e => (e.1, { e.2 with replays := 0, refusals := 0, linkDiscard := 0 }))
          fab.rxStreams := s.fab.rxStreams.map (fun e => (e.1, { e.2 with lost := 0, late := 0, poisonRecv := 0 }))
          fab.poisonSent := []
          fab.unreach := 0 } else s
        results :=
          s.fab.ports.flatMap (fun e => [(1, e.1), (7, 0), (8, e.2.replays), (8, e.2.refusals), (8, e.2.linkDiscard)]) ++
          s.fab.rxStreams.flatMap (fun e => [(2, e.1), (6, 0), (8, e.2.lost), (8, e.2.late), (8, e.2.poisonRecv)]) ++
          s.fab.poisonSent.flatMap (fun e => [(4, e.1), (4, 0), (8, e.2)]) ++
          [(8, s.fab.unreach)] } }

end Sys2Proof.Machine
end

