-- ==== Sys2Proof/Machine/Registers.lean ====
section
/-! DEFINITION. The register map: what a read of each address of BAR 0 and BAR 2 returns, what a write without a row of its own does (R10, R11,
R464), and the bytes of the board controller's target (R648 to R650). -/

namespace Sys2Proof.Machine

/-! ## Values that registers report -/

/-- Tj(r): the highest reading of sensors 14r to 14r + 13 (R547); none before the first sample. -/
def State.tj (s : State) (r : Nat) : Option Int := ((s.power.sensors.drop (14 * r)).take 14).max?

/-- P: the average of the last 10 periods (R548). -/
def State.powerNow (s : State) : Nat :=
  if s.power.powerHist.isEmpty then 0 else s.power.powerHist.sum / s.power.powerHist.length

/-- The cap of a Reduced profile (R564). -/
def State.profileCap (s : State) (k : Nat) : Nat := (tgetD s.power.profiles k {}).cap.getD s.power.capCeiling

/-- The operator's cap (R554). -/
def State.operatorCap (s : State) : Nat := s.power.opCap.getD s.power.capCeiling

/-- The cap in force (R554). -/
def State.capInForce (s : State) : Nat := if s.power.mode = .reduced then s.profileCap s.power.profile else s.operatorCap

/-- The words of the fault record (Table 15-5). -/
def State.faultWord (s : State) (k : Nat) : Nat := getBe s.boot.faultRec (4 * k) 4

/-- Chip machine checks within the last 3,600 s (MC_COUNT). -/
def State.mcCount (s : State) : Nat := (s.boot.mcTimes.filter (fun t => s.time.localNs < t + 3600 * 1000000000)).length

/-! ## Reads -/

/-- HIF (Table 11-3). -/
def readHif (s : State) : Nat → Nat
  | 0x000 => s.host.linkGen * 2 ^ 16 + s.host.linkWidth * 2 ^ 8 + s.host.dstate * 2 ^ 4 + s.host.lpm
  | 0x004 => s.host.urBar * 2 ^ 28 + s.host.urOffset
  | 0x008 => s.host.urCount
  | 0x00C => s.host.hostEpoch
  | 0x010 => forEach (List.range 16) 0 (fun c n => n + bit (s.chOpen c) * 2 ^ c)
  | _ => 0

/-- RDY (Table 15-5). -/
def readRdy (s : State) (o : Nat) : Nat :=
  if o < 0x010 then field (8 * o + 31) (8 * o) s.boot.ready
  else if o < 0x020 then field (8 * (o - 0x10) + 31) (8 * (o - 0x10)) s.boot.failed
  else if o = 0x020 then bit s.boot.prevTrip * 2 ^ 8 + s.boot.resetCause
  else if o = 0x024 then s.boot.failReason * 2 ^ 8 + bit s.boot.copyB * 2 ^ 4 + s.boot.stage
  else if o = 0x028 then min 255 s.mcCount
  else if 0x040 ≤ o && o < 0x080 then s.faultWord ((o - 0x40) / 4)
  else 0

/-- TCAP (Table 14-3), without the latch of a TIME_NS read. -/
def readTcap (s : State) : Nat → Nat
  | 0x000 => timeNs s.time.now
  | 0x004 => wrap 32 (timeS s.time.latched)
  | 0x008 => timeS s.time.latched / 2 ^ 32
  | 0x00C => s.time.latched % 16
  | 0x010 => wrap 32 s.time.latchedLocal
  | 0x014 => wrap 32 (s.time.latchedLocal / 2 ^ 32)
  | 0x018 => timeNs s.time.latched
  | 0x030 => bit s.time.freqValid * 2 ^ 20 + s.time.source.code * 2 ^ 16 + bit (!s.traceable) * 2 ^ 8 + s.time.state.code
  | 0x034 => bit s.time.leap59 * 2 ^ 17 + bit s.time.leap61 * 2 ^ 16 + twos 16 s.time.utcOffset
  | 0x040 => match s.time.stamps with
    | [] => 0
    | e :: _ => 2 ^ 31 + bit e.async * 2 ^ 28 + (if e.rising then 1 else 2) * 2 ^ 24 + e.input * 2 ^ 16
  | 0x044 => ((s.time.stamps.head?).map (fun e => timeNs e.time)).getD 0
  | 0x048 => ((s.time.stamps.head?).map (fun e => wrap 32 (timeS e.time))).getD 0
  | 0x050 => s.time.stamps.length
  | 0x054 => s.time.evqOvf
  | _ => 0

/-- MIR (Table 13-8). -/
def readMir (s : State) (o : Nat) : Nat :=
  if o = 0x000 then
    if s.power.mode = .reset then 0x302
    else (if s.power.moving || s.power.mode = .rising then s.power.target else s.power.mode).code * 2 ^ 8 + s.power.mode.code
  else if o = 0x004 then s.power.profile * 2 ^ 16
  else if o = 0x008 then forEach regions 0 (fun r n => n + s.stepOf r * 4 ^ r)
  else if 0x00C ≤ o && o < 0x01C then twos 16 ((s.tj ((o - 0x0C) / 4)).getD 0)
  else if o = 0x01C then s.powerNow * 2 ^ 16 + s.capInForce
  else if o = 0x020 then s.power.ceilingC
  else if o = 0x024 then s.power.shed
  else if o = 0x028 then s.power.octalParked
  else if o = 0x02C then s.power.egParked * 2 ^ 16 + s.power.inParked
  else if o = 0x030 then s.power.wakeCause
  else 0

/-- The INT registers (Table 11-11), without the effects of a claim. -/
def readInt (s : State) (o : Nat) : Nat :=
  let g := o % 0x100 / 4
  let cfg := s.groupCfg g
  if o < 0x100 then s.groupStatus g
  else if o < 0x200 then field (16 * g + 15) (16 * g) s.host.int.enable
  else if o < 0x300 then 0
  else if o < 0x400 then
    bit cfg.wakeEn * 2 ^ 31 + bit cfg.mask * 2 ^ 30 + cfg.pin * 2 ^ 28 + cfg.holdoff * 2 ^ 16 + cfg.vector
  else if o < 0x500 then s.claimWord g
  else if o < 0x600 then s.causeCode g * 2 ^ 24 + tgetD s.host.int.lastClaim g 0
  else if o < 0x700 then 0
  else if o = 0x700 then forEach (List.range 32) 0 (fun g n => n + bit (s.groupPending g) * 2 ^ g)
  else if o = 0x704 then forEach (List.range 32) 0 (fun g n => n + bit (s.groupPending (32 + g)) * 2 ^ g)
  else if o = 0x708 then s.host.int.badComplete
  else if 0x1000 ≤ o && o < 0x2000 then tgetD s.host.int.reassert ((o - 0x1000) / 4) 0
  else if 0x2000 ≤ o && o < 0x2080 then
    let c := s.evtCfg ((o - 0x2000) / 4)
    bit c.en * 2 ^ 31 + c.edge * 2 ^ 29 + bit c.asyncEn * 2 ^ 28 + c.filter
  else if o = 0x2080 then s.host.evt.level
  else if o = 0x2084 then s.host.evt.async
  else 0

/-- A channel's registers (Table 11-4), without the effect of a CH_OUT_DATA read. -/
def readChan (s : State) (c o : Nat) : Nat :=
  let ch := s.chan c
  match o with
  | 0x008 => 256 - ch.inQ.length
  | 0x010 => match ch.outQ with
    | [] => 0
    | m :: _ => 2 ^ 31 + bit m.stale * 2 ^ 30 + bit m.oldHost * 2 ^ 29 + m.len
  | 0x014 => ((ch.outQ.head?).map (fun m => m.words.headD 0)).getD 0
  | 0x018 => ch.outCount
  | 0x020 => bit ch.underrun * 4 + bit ch.ovf * 2 + bit ch.peerReset
  | 0x024 => ch.ovfCount
  | 0x028 => ch.discard
  | 0x02C => ch.flushCount
  | _ => 0

/-- The DMA registers (Table 11-6, R482, R484). -/
def readDma (s : State) (o : Nat) : Nat :=
  if o < 0x1000 then
    let tx := decide (o ≥ 0x800)
    let r := s.ring tx (o % 0x800 / 0x100)
    match o % 0x100 with
    | 0x00 => wrap 32 r.base
    | 0x04 => r.base / 2 ^ 32
    | 0x08 => r.sizeLog2
    | 0x0C => r.head
    | 0x10 => r.tail
    | 0x14 => bit r.en
    | 0x18 => bit r.fault * 2 + bit r.noDesc
    | 0x1C => r.drop
    | _ => 0
  else if o < 0x1100 then
    let k := 4 * ((o - 0x1000) / 4)
    forEach (List.range 4) 0 (fun j n => n + tgetD s.host.reasonMap (k + j) 0 * 2 ^ (8 * j))
  else if o = 0x1100 then s.host.ringWait
  else 0

/-- The MSI-X table: message address low and high, data, vector control. -/
def readMsix (s : State) (o : Nat) : Nat :=
  let e := tgetD s.host.msix (o / 16) {}
  match o % 16 with
  | 0 => wrap 32 e.addr
  | 4 => e.addr / 2 ^ 32
  | 8 => e.data
  | _ => bit e.masked

/-- A register of BAR 0 (Table 11-2); an address that no block occupies reads 0 (R464). -/
def State.readBar0 (s : State) (a : Nat) : Nat :=
  if a < 0x1000 then readHif s a
  else if a < 0x2000 then readRdy s (a - 0x1000)
  else if a < 0x3000 then readTcap s (a - 0x2000)
  else if a < 0x4000 then readMir s (a - 0x3000)
  else if 0x10000 ≤ a && a < 0x12100 then readInt s (a - 0x10000)
  else if 0x20000 ≤ a && a < 0x30000 then readChan s ((a - 0x20000) / 0x1000) (a % 0x1000)
  else if a = 0x30008 then wrap 32 s.host.h2dPend
  else if a = 0x3000C then s.host.h2dPend / 2 ^ 32
  else if 0x40000 ≤ a && a < 0x41200 then readDma s (a - 0x40000)
  else if 0x80000 ≤ a && a < 0x80400 then readMsix s (a - 0x80000)
  else if a = 0x81000 then wrap 32 s.host.pba
  else if a = 0x81004 then s.host.pba / 2 ^ 32
  else 0

/-! ## Writes -/

/-- A write to a DMA register (R481; Table 11-6). A RING_WAIT above 1,000 is stored as 1,000. DESIGN CHOICE, unsafe: log entry 107. -/
def writeDma (o w : Nat) (s : State) : State :=
  if o < 0x1000 then
    let tx := decide (o ≥ 0x800)
    let i := o % 0x800 / 0x100
    let r := s.ring tx i
    match o % 0x100 with
    | 0x00 => if r.en then s else s.setRing tx i { r with base := r.base / 2 ^ 32 * 2 ^ 32 + w / 64 * 64 }
    | 0x04 => if r.en then s else s.setRing tx i { r with base := w * 2 ^ 32 + r.base % 2 ^ 32 }
    | 0x08 => if r.en then s else s.setRing tx i { r with sizeLog2 := min 16 (max 6 (w % 32)) }
    | 0x10 => if w % 65536 < 2 ^ r.sizeLog2 then s.setRing tx i { r with tail := w % 65536 } else s
    | 0x14 => updatePresence (s.setRing tx i { r with en := w.testBit 0, head := if w.testBit 0 && !r.en then 0 else r.head })
    | 0x18 => s.setRing tx i { r with fault := r.fault && !w.testBit 1, noDesc := r.noDesc && !w.testBit 0 }
    | _ => s
  else if o < 0x1100 then
    let k := 4 * ((o - 0x1000) / 4)
    { s with host.reasonMap := forEach (List.range 4) s.host.reasonMap (fun j m => tset m (k + j) (field (8 * j + 2) (8 * j) w)) }
  else if o = 0x1100 then { s with host.ringWait := min 1000 (w % 1024) }
  else s

/-- A write to an INT or EVT register (Tables 11-10 and 11-11). -/
def writeInt (o w : Nat) (s : State) : State :=
  let g := o % 0x100 / 4
  if o < 0x100 then
    clearStatus g (w % 65536) s
  else if o < 0x200 then { s with host.int.enable := setField (16 * g + 15) (16 * g) w s.host.int.enable }
  else if o < 0x300 then raiseMask g (w % 65536) s
  else if o < 0x400 then
    let c : GroupCfg :=
      { wakeEn := w.testBit 31, mask := w.testBit 30, pin := field 29 28 w, holdoff := field 25 16 w, vector := field 5 0 w }
    { s with host.int.cfg := tset s.host.int.cfg g c }
  else if 0x600 ≤ o && o < 0x700 then complete g (w % 1024) s
  else if 0x2000 ≤ o && o < 0x2080 then
    let c : EvtCfg :=
      { en := w.testBit 31, edge := field 30 29 w, asyncEn := w.testBit 28, filter := w % 256 }
    { s with host.evt.cfg := tset s.host.evt.cfg ((o - 0x2000) / 4) c }
  else if o = 0x2084 then { s with host.evt.async := s.host.evt.async &&& ((2 ^ 32 - 1) ^^^ w) }
  else s

/-- A write to a channel register (Table 11-4). -/
def writeChan (c o w : Nat) (s : State) : State :=
  match o with
  | 0x000 => pushWord c w false s
  | 0x004 => pushWord c w true s
  | 0x020 =>
    let ch := s.chan c
    s.setChan c { ch with
      underrun := ch.underrun && !w.testBit 2
      ovf := ch.ovf && !w.testBit 1
      peerReset := ch.peerReset && !w.testBit 0 }
  | 0x030 => if w.testBit 0 then hostReset [c] true s else s
  | _ => s

/-- A write to the MSI-X table. -/
def writeMsix (o w : Nat) (s : State) : State :=
  let v := o / 16
  let e := tgetD s.host.msix v {}
  let put (e : MsixEntry) (s : State) : State := { s with host.msix := tset s.host.msix v e }
  match o % 16 with
  | 0 => put { e with addr := e.addr / 2 ^ 32 * 2 ^ 32 + w } s
  | 4 => put { e with addr := w * 2 ^ 32 + e.addr % 2 ^ 32 } s
  | 8 => put { e with data := w } s
  | _ =>
    let s := put { e with masked := w.testBit 0 } s
    if !w.testBit 0 && s.host.pba.testBit v && s.host.msixEnable && s.host.dstate = 0 then
      sendVector v { s with host.pba := setBit s.host.pba v false }
    else s

/-- A write to BAR 2 (Table 11-5). -/
def writeCmb (o w : Nat) (s : State) : State :=
  if o < 0x100 then cmbWrite (o / 4) w s
  else if o = 0x100 then cmbWrite 64 w s
  else if o = 0x104 then { s with
    host.cmb.collision := s.host.cmb.collision && !w.testBit 2
    host.cmb.rspCollision := s.host.cmb.rspCollision && !w.testBit 3 }
  else if o = 0x304 && w.testBit 0 then { s with host.cmb.rspValid := false }
  else s

/-- A read of BAR 2. -/
def State.readBar2 (s : State) (o : Nat) : Nat :=
  let m := s.host.cmb
  if o < 0x100 then tgetD m.data (o / 4) 0
  else if o = 0x100 then bit m.full * 2 ^ 31 + m.len
  else if o = 0x104 then
    bit m.rspTrunc * 16 + bit m.rspCollision * 8 + bit m.collision * 4 + bit m.rspValid * 2 + bit m.full
  else if o = 0x108 then m.collCount
  else if 0x200 ≤ o && o < 0x300 then m.rsp.getD ((o - 0x200) / 4) 0
  else if o = 0x300 then m.rspLen
  else 0

/-- The blocks of BAR 0 that answer while others are refused: HIF, RDY, INT and EVT (R477). -/
def alwaysOpen (a : Nat) : Bool := a < 0x2000 || (0x10000 ≤ a && a < 0x12100)

/-- A write that the device takes (R10, R464): a register that takes no write ignores it. -/
def writeBar0 (a w : Nat) (s : State) : State :=
  if a = 0x2020 then (if w.testBit 0 then latchTime s else s)
  else if a = 0x204C then (if w.testBit 0 then popStamp s else s)
  else if 0x10000 ≤ a && a < 0x12100 then writeInt (a - 0x10000) w s
  else if 0x20000 ≤ a && a < 0x30000 then writeChan ((a - 0x20000) / 0x1000) (a % 0x1000) w s
  else if a = 0x30000 then { s with host.h2dPend := s.host.h2dPend ||| w }
  else if a = 0x30004 then { s with host.h2dPend := s.host.h2dPend ||| (w <<< 32) }
  else if 0x40000 ≤ a && a < 0x41200 then writeDma (a - 0x40000) w s
  else if 0x80000 ≤ a && a < 0x80400 then writeMsix (a - 0x80000) w s
  else s

/-- REGISTER_WRITE (R10, R464, R476, R477). DESIGN CHOICE, safe: log entry 130. -/
def execRegisterWrite (bar offset word : Nat) (s : State) : Host.Outcome State Fault Refusal :=
  let w := wrap 32 word
  if offset % 4 != 0 then .next s
  else if bar = 0 then
    let isOpen :=
      if alwaysOpen offset then true
      else if 0x20000 ≤ offset && offset < 0x30000 then s.chOpen ((offset - 0x20000) / 0x1000)
      else s.barOpen
    guarded isOpen 0 offset (writeBar0 offset w) s
  else if bar = 2 then guarded s.barOpen 2 offset (writeCmb offset w) s
  else .next s

/-- DIAG_REG_READ (Table 9-16): values of registers from ADDR, read without side effects. -/
def bodyDiagRegRead (_h : Ocf) (addr count : Nat) : Body :=
  readBody 0x0E04 6
    (fun _ => firstErr [(addr % 4 != 0 || addr ≥ 0x1000000, (0x01E1, 0)), (count = 0 || count > 256, (0x01E1, 4))])
    fun s => (List.range count).map (fun k => (4, s.readBar0 (addr + 4 * k)))

/-! ## The board controller's target -/

/-- A thermal action of Table 13-5 is in force: a thermal hold, a shed region, a trip, or C below the installer's floor.
DESIGN CHOICE, unsafe: log entry 111. -/
def State.thermalAction (s : State) : Bool :=
  s.power.hold != 0 || s.power.shed != 0 || s.power.thermtripLow || s.power.ceilingC < s.power.hbmCFloor

/-- SMB_ALERT_N is driven low (R650). DESIGN CHOICE, unsafe: log entry 111. -/
def State.smbAlertLow (s : State) : Bool := s.boot.stage = 15 || s.boot.heldSafe || s.thermalAction

/-- The target's bytes (Table 16-9). -/
def State.smbByte (s : State) (p : Nat) : Nat :=
  if p = 0x00 then (if s.boot.stage = 15 then s.boot.failReason else 0)
  else if p = 0x01 then s.boot.stage + bit s.boot.heldSafe * 16 + bit (s.power.mode = .dormant) * 32
  else if p = 0x04 then s.power.mode.code
  else if p = 0x05 then
    match (regions.filterMap s.tj).max? with
    | none => 0x80
    | some t => twos 8 (t / 4)
  else if p = 0x06 then s.powerNow / 256
  else if p = 0x07 then s.powerNow % 256
  else if 0x40 ≤ p && p < 0x80 then ((slice s.boot.faultRec (p - 0x40) 1).headD 0#8).toNat
  else 0

/-- SMBUS_WAKE_WRITE (R569, R649): 0x01 in Dormant mode is a wake source. -/
def execSmbusWakeWrite (value : Nat) (s : State) : Host.Outcome State Fault Refusal :=
  .next (if value = 0x01 && s.power.mode = .dormant then callWake 5 s else s)

/-- SMBUS_RESET_WRITE (R623, R649): 0xA5 while held calls for a warm reset with cause MACHINE_CHECK. -/
def execSmbusResetWrite (value : Nat) (s : State) : Host.Outcome State Fault Refusal :=
  .next (if value = 0xA5 && s.boot.heldSafe && s.boot.porstHigh then
    { s with boot.heldSafe := false, boot.resetDue := some 0x07 }
  else s)

/-- SMBUS_TIMEOUT (R648): the bus is released and the transaction discarded. -/
def execSmbusTimeout (s : State) : Host.Outcome State Fault Refusal := .next { s with boot.smbPointer := none }

end Sys2Proof.Machine
end

