-- ==== Sys2Proof/Machine/Power.lean ====
section
/-! DEFINITION. Caldera: DVFS steps, caps, thermal actions, shedding, Reduced and Dormant modes and the mode schedule (chapter 13). -/

namespace Sys2Proof.Machine

/-! ## Domains, ports and parking -/

def setDomain (d : Nat) (v : DomainState) (s : State) : State := { s with power.domains := tset s.power.domains d v }

/-- State of a power domain. -/
def State.domain (s : State) (d : Nat) : DomainState := tgetD s.power.domains d .off

/-- The configured front ports of an octal group. -/
def State.octalPorts (s : State) (g : Nat) : List Nat := (tkeys s.ports.cfg).filter (fun p => p / 8 = g)

/-- The links of an octal group go down (R303). -/
def octalDown (g : Nat) (s : State) : State := forEach (s.octalPorts g) s linkDown

/-- Functions that no longer report ready. -/
def clearReady (fs : List Nat) (s : State) : State :=
  { s with boot.ready := forEach fs s.boot.ready (fun f n => setBit n f false) }

/-- The device parks, sheds or has retired the unit of a domain: firmware does not power it (R544, R608). -/
def State.unitHeld (s : State) (d : Nat) : Bool :=
  if d < 32 then s.power.octalParked.testBit d || s.power.shedDown.testBit (d / 8)
  else if d < 48 then s.power.inParked.testBit (d - 32) || s.power.shedDown.testBit ((d - 32) / 4)
  else if d < 64 then s.power.egParked.testBit (d - 48) || s.power.shedDown.testBit ((d - 48) / 4)
  else false

/-- Domains join the queue of R546 unless their units are held. -/
def queuePower (ds : List Nat) (s : State) : State :=
  { s with power.toPower := s.power.toPower ++ ds.filter (fun d => !s.unitHeld d && !s.power.toPower.contains d && s.domain d != .on) }

/-! ## DVFS steps -/

/-- The step that a region has or is going to. -/
def State.goal (s : State) (r : Nat) : Nat := tgetD s.power.stepping r (s.stepOf r)

/-- The step of a region at which no further change waits. -/
def goStep (r k : Nat) (s : State) : State :=
  { s with power.stepping := if s.stepOf r = k then tdel s.power.stepping r else tset s.power.stepping r k }

/-- The faster neighbours step down with a region so that no pair differs by more than 2 (R551). -/
def holdNeighbours (r : Nat) (s : State) : State :=
  forEach (regions.filter (adjacent r)) s (fun b s => if s.goal r > s.goal b + 2 then goStep b (s.goal r - 2) s else s)

/-- A region goes to a slower step, its neighbours with it as far as needed. -/
def slowTo (r k : Nat) (s : State) : State :=
  let s := holdNeighbours r (goStep r k s)
  forEach regions s holdNeighbours

/-- The lowest step index that the Reduced profile in force permits a region (R566). -/
def State.fastest (s : State) (r : Nat) : Nat :=
  if s.power.mode = .reduced then
    let lim (x : Nat) := field (2 * x + 1) (2 * x) (tgetD s.power.profiles s.power.profile {}).stepLimit
    (regions.filter (adjacent r)).foldl (fun m b => max m (lim b - 2)) (lim r)
  else 0

/-- The step nearest to `k` that a region may take while its neighbours have theirs (R551). -/
def State.stepToward (s : State) (r k : Nat) : Nat :=
  (regions.filter (adjacent r)).foldl (fun m b => min (s.stepOf b + 2) (max m (s.stepOf b - 2))) k

/-- DVFS_STEP_COMPLETE (R550): a step that a neighbour's does not allow yet is taken as far as it does. DEDUCED, unsafe: log entry 113. -/
def execDvfsStepComplete (region : Nat) (s : State) : Host.Outcome State Fault Refusal :=
  match tget s.power.stepping region with
  | none => .next s
  | some k =>
    let k' := s.stepToward region k
    if k' = s.stepOf region then .next s
    else
      let s := refillCredit region s
      .next (raise (320 + region) { s with
        power.step := tset s.power.step region k'
        power.stepping := if k' = k then tdel s.power.stepping region else s.power.stepping })

/-! ## Cap actions -/

/-- A region can step down without breaking R551, and the profile does not hold it. DEDUCED, unsafe: log entry 113. -/
def State.canSlow (s : State) (r : Nat) : Bool :=
  s.goal r < 3 && (regions.filter (adjacent r)).all (fun b => s.goal r + 1 ≤ s.goal b + 2) && s.fastest r = 0

/-- Slot utilization as R556 counts it. -/
def State.utilOf (s : State) (util : List Nat) (r : Nat) : Nat :=
  if s.power.shedDown.testBit r || (List.range 4).all (fun k => s.power.inParked.testBit (4 * r + k)) then 0 else util.getD r 0

/-- The region that the cap law slows: the lowest utilization, then the lowest number. -/
def State.slowChoice (s : State) (util : List Nat) : Option Nat :=
  (regions.filter s.canSlow).foldl (fun b r => match b with
    | none => some r
    | some k => if s.utilOf util r < s.utilOf util k then some r else some k) none

/-- The cap action of R556, when one is possible. -/
def capAction (util : List Nat) (s : State) : Option State :=
  if s.power.ceilingC ≥ s.power.hbmCFloor + 16 then
    some { setCeiling (s.power.ceilingC - 16) s with power.capActions := .lowerC :: s.power.capActions }
  else match s.slowChoice util with
    | some r => some { goStep r (s.goal r + 1) s with power.capActions := .stepDown r :: s.power.capActions }
    | none => none

/-- CAP_ACTION_UNDO (R557): after 10 ms under 95% of the cap, one step up, or C up by 16. -/
def execCapActionUndo (s : State) : Host.Outcome State Fault Refusal :=
  if s.power.underRun < 100 || s.power.sinceAction < 10 then .next s
  else
    let s := { s with power.underRun := 0, power.sinceAction := 0 }
    let ups := regions.filter (fun r => s.goal r > s.fastest r && !s.power.hold.testBit r && !s.power.shed.testBit r &&
      (regions.filter (adjacent r)).all (fun b => s.goal b ≤ s.goal r + 1))
    let best := ups.foldl (fun b r => match b with
      | none => some r
      | some k => if s.goal r > s.goal k then some r else some k) none
    let s := { s with power.capActions := s.power.capActions.drop 1 }
    .next (match best with
      | some r => goStep r (s.goal r - 1) s
      | none => if s.power.ceilingC < 232 then setCeiling (min 232 (s.power.ceilingC + 16)) s else s)

/-- CAP_UNMET (R558): 100 ms over the cap with no action left. -/
def execCapUnmet (s : State) : Host.Outcome State Fault Refusal :=
  .next (if s.power.overRun ≥ 1000 && (capAction [] s).isNone && s.powerNow > s.capInForce then
    { s with power.capUnmet := true } else s)

/-! ## Thermal actions -/

/-- The adjacent pairs in the order of their indexes (R560). -/
def pairs : List (Nat × Nat) := [(0, 1), (0, 2), (1, 3), (2, 3)]

/-- The index of an adjacent pair. -/
def pairIndex (a b : Nat) : Nat := (pairs.findIdx? (fun p => p = (min a b, max a b))).getD 0

/-- Ordered adjacent pairs. -/
def directedPairs : List (Nat × Nat) := pairs ++ pairs.map (fun p => (p.2, p.1))

/-- Tj in degrees C is at or above a limit. -/
def State.hot (s : State) (r : Nat) (degrees : Int) : Bool :=
  match s.tj r with
  | some t => t ≥ 4 * degrees
  | none => false

/-- Tj(a) exceeds Tj(b) by more than a difference in degrees C. -/
def State.hotter (s : State) (a b : Nat) (degrees : Int) : Bool :=
  match s.tj a, s.tj b with
  | some x, some y => x - y > 4 * degrees
  | _, _ => false

/-- Numbers of the timed conditions of Table 13-5: a difference above 35 degrees, one above 45, and Tj at 105. -/
def condDiff35 (a b : Nat) : Nat := 16 + 4 * a + b
def condDiff45 (a b : Nat) : Nat := 32 + 4 * a + b
def condHot105 (r : Nat) : Nat := 48 + r

/-- How long, in periods, a condition has held. -/
def State.condFor (s : State) (k : Nat) : Nat := tgetD s.power.condRun k 0

/-- A condition is sampled. -/
def sampleCond (k : Nat) (holds : Bool) (s : State) : State :=
  { s with power.condRun := if holds then tset s.power.condRun k (s.condFor k + 1) else tdel s.power.condRun k }

/-- Every timed condition is sampled. -/
def sampleConds (s : State) : State :=
  let s := forEach directedPairs s (fun p s =>
    sampleCond (condDiff45 p.1 p.2) (s.hotter p.1 p.2 45) (sampleCond (condDiff35 p.1 p.2) (s.hotter p.1 p.2 35) s))
  forEach regions s (fun r s => sampleCond (condHot105 r) (s.hot r 105) s)

/-- Step 1 of a shedding (R561). -/
def beginShed (r : Nat) (s : State) : State :=
  if s.power.shed.testBit r then s else raise (328 + r) { s with power.shed := setBit s.power.shed r true }

/-- A thermal step down: the region comes under a thermal hold (R560). -/
def thermalSlow (r : Nat) (s : State) : State :=
  let s := slowTo r (min 3 (s.goal r + 1)) s
  { s with power.hold := setBit s.power.hold r true, power.holdClear := tdel s.power.holdClear r }

/-- The thermal action that Table 13-5 calls for now, the severest first: a shedding, C to 32, a step for TJ_WARN, a step for a difference, C
down by 16. DEDUCED, unsafe: log entry 113. -/
def thermalAction (s : State) : Option State :=
  let shedDiff := directedPairs.find? (fun p => s.condFor (condDiff45 p.1 p.2) ≥ 10 && !s.power.shed.testBit p.1)
  let shedHot := regions.find? (fun r => s.condFor (condHot105 r) ≥ 10 && !s.power.shed.testBit r)
  let warm := regions.find? (fun r => s.hot r s.power.tjWarn && s.goal r < 3)
  let diff := directedPairs.find? (fun p => s.condFor (condDiff35 p.1 p.2) ≥ 100 && s.goal p.1 < 3)
  match shedDiff, shedHot with
  | some p, _ => some (beginShed p.1 s)
  | none, some r => some (beginShed r s)
  | none, none =>
    if s.power.hbmTemp.any (· ≥ 105) && s.power.ceilingC > 32 then
      some (setCeiling 32 (forEach [0, 1] s (fun k s => if s.power.hbmTemp.getD k 0 ≥ 105 then raise (262 + k) s else s)))
    else match warm with
      | some r => some (thermalSlow r (if s.power.warned.testBit r then s
          else raise (324 + r) { s with power.warned := setBit s.power.warned r true }))
      | none =>
        match diff with
        | some p =>
          some (raise (332 + pairIndex p.1 p.2) (thermalSlow p.1 { s with power.condRun := tset s.power.condRun (condDiff35 p.1 p.2) 0 }))
        | none =>
          if s.power.hbmTemp.any (· ≥ 95) && s.power.ceilingC > s.power.hbmCFloor then
            some (setCeiling (max s.power.hbmCFloor (s.power.ceilingC - 16)) s)
          else none

/-- The thermal trip (R560): domains 0 to 94 lose power, THERMTRIP_N is asserted, and the device stays in Reset until PORST_N. -/
def thermalTrip (s : State) : State :=
  { s with
    power.thermtripLow := true
    power.domains := [(95, .on)]
    power.toPower := []
    power.mode := .reset
    power.moving := false
    boot.tripped := true
    boot.ready := 0
    ports.up := 0
    host.linkGen := 0
    host.linkWidth := 0 }

/-- A region's thermal condition is clear in the latest sample: below TJ_WARN, and no difference above 35 degrees. -/
def State.coolNow (s : State) (r : Nat) : Bool :=
  !s.hot r s.power.tjWarn && (regions.filter (adjacent r)).all (fun b => !s.hotter r b 35)

/-- A shed region may return (R562). -/
def State.returnsNow (s : State) (r : Nat) : Bool :=
  !s.hot r ((s.power.tjWarn : Int) - 10) && (regions.filter (adjacent r)).all (fun b => !s.hotter r b 30 && !s.hotter b r 30)

/-- CALDERA_PERIOD (R547, R548, R556, R558, R560): the sample, the timed conditions, then at most one action. -/
def execCalderaPeriod (sample : CalderaSample) (s : State) : Host.Outcome State Fault Refusal :=
  if s.power.thermtripLow || s.power.mode = .reset || s.power.mode = .dormant then .next s
  else
    let was := s.power.hbmTemp
    let s := forEach [0, 1] s (fun k s =>
      if sample.hbm.getD k 0 ≥ 85 && was.getD k 0 < 85 then raise (262 + k) s else s)
    let s := sampleConds { s with
      power.sensors := sample.sensors
      power.hbmTemp := sample.hbm
      power.powerHist := (sample.power :: s.power.powerHist).take 10
      power.sinceAction := s.power.sinceAction + 1 }
    if sample.sensors.any (· ≥ 460) then .next (thermalTrip s)
    else
      let s := forEach regions s (fun r s => { s with
        power.warned := setBit s.power.warned r (s.power.warned.testBit r && s.hot r s.power.tjWarn)
        power.holdClear := if s.coolNow r then tset s.power.holdClear r (tgetD s.power.holdClear r 0 + 1) else tdel s.power.holdClear r
        power.shedClear := if s.returnsNow r then tset s.power.shedClear r (tgetD s.power.shedClear r 0 + 1) else tdel s.power.shedClear r })
      let above := decide (s.powerNow > s.capInForce)
      let s := settleLevels { s with
        power.overRun := if above then s.power.overRun + 1 else 0
        power.underRun := if s.powerNow * 100 < s.capInForce * 95 then s.power.underRun + 1 else 0
        power.capUnmet := s.power.capUnmet && above }
      if s.power.sinceAction < 10 then .next s
      else match thermalAction s with
        | some t => .next { t with power.sinceAction := 0 }
        | none =>
          if !above then .next s
          else match capAction sample.util s with
            | some t => .next { t with power.sinceAction := 0 }
            | none => .next s

/-- THERMAL_HOLD_CLEAR (R560): the condition has stayed clear for 1 s. -/
def execThermalHoldClear (region : Nat) (s : State) : Host.Outcome State Fault Refusal :=
  .next (if tgetD s.power.holdClear region 0 ≥ 10000 then { s with power.hold := setBit s.power.hold region false } else s)

/-! ## Shedding -/

/-- The pipeline domains of a region, ingress then egress. -/
def pipeDomains (r : Nat) : List Nat :=
  (List.range 4).map (fun k => 32 + 4 * r + k) ++ (List.range 4).map (fun k => 48 + 4 * r + k)

/-- Steps 3 and 4 of R561: the links go down, the pipelines enter retention, and the region goes to the lowest step that R551 allows. -/
def finishShed (r : Nat) (s : State) : State :=
  let s := { s with power.shedDown := setBit s.power.shedDown r true }
  let s := forEach ((List.range 8).map (8 * r + ·)) s octalDown
  let s := forEach (pipeDomains r) s (fun d s => if s.domain d = .on then setDomain d .retention s else s)
  slowTo r (min 3 ((regions.filter (adjacent r)).foldl (fun m b => min m (s.goal b + 2)) 3)) (clearReady (pipeDomains r) s)

/-- SHED_NOTICE_END (R561): the write-back of step 2, then steps 3 and 4. -/
def execShedNoticeEnd (region : Nat) (s : State) : Host.Outcome State Fault Refusal :=
  .next (if s.power.shed.testBit region && !s.power.shedDown.testBit region then finishShed region (flushRegion region s) else s)

/-- SHED_RETURN (R562). A region shed by fault does not return until the next reset (R620). -/
def execShedReturn (region : Nat) (s : State) : Host.Outcome State Fault Refusal :=
  .next (if s.power.shedDown.testBit region && !s.power.shedFault.testBit region && tgetD s.power.shedClear region 0 ≥ 10000 then
    let s := emptyTarn region { s with
      power.shed := setBit s.power.shed region false
      power.shedDown := setBit s.power.shedDown region false }
    raise (328 + region) (queuePower ((List.range 8).map (8 * region + ·) ++ pipeDomains region) s)
  else s)

/-! ## Modes -/

/-- Schedule entries are taken again once a transition or Rising has ended: the ones that waited, in ENTRY order (R544, R572). The action
itself is given. -/
def endTransition (s : State) : State := raise 337 { s with power.moving := false, power.target := s.power.mode }

/-- Units that a new profile parks: their links go down and their domains lose power; units that it no longer parks are powered (R565). -/
def applyParking (octal inP egP : Nat) (s : State) : State :=
  let newly := (List.range 32).filter (fun g => octal.testBit g && !s.power.octalParked.testBit g)
  let back := (List.range 32).filter (fun g => !octal.testBit g && s.power.octalParked.testBit g) ++
    ((List.range 16).filter (fun p => !inP.testBit p && s.power.inParked.testBit p)).map (32 + ·) ++
    ((List.range 16).filter (fun p => !egP.testBit p && s.power.egParked.testBit p)).map (48 + ·)
  let s := forEach newly s (fun g s => clearReady [g] (setDomain g .off (octalDown g s)))
  queuePower back { s with
    power.octalParked := octal
    power.inParked := inP
    power.egParked := egP }

/-- An ingress pipeline holds no frame: none waits for a slot, and it holds no descriptor. DEDUCED, unsafe: log entry 113. -/
def State.ingressIdle (s : State) (pipe : Nat) : Bool := (s.pipe pipe).wait = [] && (s.pipe pipe).desc = []

/-- An egress pipeline holds no frame: none stands in its egress queues. -/
def State.egressIdle (s : State) (pipe : Nat) : Bool := s.eg.ports.all (fun e => pipeOfPort e.1 != pipe || e.2.tx = [])

/-- PARK_RETENTION_ENTRY (R565): a parked pipeline enters retention once it has completed the frames that it held. -/
def execParkRetentionEntry (pipe : Nat) (s : State) : Host.Outcome State Fault Refusal :=
  let go (parked : Bool) (d : Nat) (s : State) : State :=
    if parked && s.domain d = .on then clearReady [d] (setDomain d .retention s) else s
  .next (go (s.power.egParked.testBit pipe && s.egressIdle pipe) (48 + pipe)
    (go (s.power.inParked.testBit pipe && s.ingressIdle pipe) (32 + pipe) s))

/-- Full mode is entered from Reduced (Table 13-2): parked units return, every region not under a hold goes to 1.60 GHz, or as near as R551 lets it
beside one that is, and C goes to 232. -/
def enterFull (s : State) : State :=
  let s := applyParking 0 0 0 { s with power.mode := .full }
  let s := forEach regions s (fun r s => if s.power.hold.testBit r || s.power.shed.testBit r then s else goStep r 0 s)
  let s := forEach regions s holdNeighbours
  endTransition { setCeiling 232 s with power.capActions := [] }

/-- A transition of Table 13-2 that a command or the schedule may ask for. -/
def State.mayMove (s : State) (mode profile : Nat) : Bool :=
  match s.power.mode, mode with
  | .full, 4 => true
  | .reduced, 4 => profile != s.power.profile
  | .reduced, 3 => true
  | .full, 1 | .reduced, 1 => true
  | .full, 5 => s.roles.lifecycle = .factory || (s.roles.lifecycle = .returned && s.flash.wipeDone)
  | .service, 3 => true
  | _, _ => false

/-- A command that replied 0x0001 has not completed (R567). -/
def State.unfinished (s : State) : Bool := (tvals s.ocf.pend).any (fun p => p.final.isNone)

/-- A transition begins (R543, R567). -/
def beginMove (mode profile drain : Nat) (s : State) : State :=
  match s.power.mode, mode with
  | .service, _ => { s with boot.resetDue := some 0x05 }
  | _, 3 => enterFull s
  | _, 4 => { s with power.moving := true, power.target := .reduced, power.targetProfile := profile }
  | _, 5 => endTransition { s with power.mode := .service }
  | m, _ => raise 337 { s with
      power.moving := true
      power.target := .dormant
      power.before := (m, s.power.profile)
      power.drain := drain }

/-- A schedule entry's action (R572), or none when it is not allowed now. -/
def schedAction (e : SchedEntry) (s : State) : Option State :=
  match e.action with
  | 1 => if s.mayMove 3 0 && s.power.mode != .service then some (beginMove 3 0 0 s) else none
  | 2 => if s.mayMove 4 e.profile then some (beginMove 4 e.profile 0 s) else none
  | 3 => if s.mayMove 1 0 && !s.unfinished then some (beginMove 1 0 e.drain s) else none
  | _ => if outside e.cap s.power.capFloor s.power.capCeiling then none else some { s with power.opCap := some e.cap }

/-- A due entry acts, or is skipped and counted with source 338 (R572). -/
def actOrSkip (e : SchedEntry) (s : State) : State :=
  match schedAction e s with
  | some t => t
  | none => raise 338 { s with power.schedSkipped := inc64 s.power.schedSkipped }

/-- Schedule entries that waited for the end of a transition or of Rising, in ascending order; one that begins a new transition leaves the rest
waiting (R544). -/
def runDeferred : List Nat → State → State
  | [], s => { s with power.deferredSched := [] }
  | k :: ks, s =>
    if s.power.moving then { s with power.deferredSched := k :: ks }
    else runDeferred ks (actOrSkip (tgetD s.power.schedule k {}) s)

/-- REDUCED_PROFILE_APPLY (R565): the cap takes force with the mode, then parking, then the profile's step limits; the transition ends,
and what waited for its end follows. -/
def execReducedProfileApply (s : State) : Host.Outcome State Fault Refusal :=
  if !(s.power.moving && s.power.target = .reduced) then .next s
  else
    let k := s.power.targetProfile
    let p := tgetD s.power.profiles k {}
    let s := applyParking p.octalPark p.inPark p.egPark { s with power.mode := .reduced, power.profile := k }
    let s := forEach regions s (fun r s => if s.goal r < s.fastest r then slowTo r (s.fastest r) s else s)
    let s := endTransition s
    .next (runDeferred s.power.deferredSched s)

/-- TIME of an entry after it falls due (R571): the smallest multiple of PERIOD that puts it after now. -/
def nextTime (e : SchedEntry) (now : Nat) : Nat :=
  let p := e.period * secondTicks
  if now < e.time then e.time + p else e.time + p * ((now - e.time) / p + 1)

/-- SCHEDULE_ENTRY_DUE (R571 to R573). -/
def execScheduleEntryDue (entry : Nat) (s : State) : Host.Outcome State Fault Refusal :=
  let e := tgetD s.power.schedule entry {}
  if !e.en || s.power.mode = .reset then .next s
  else
    let e' := if e.period = 0 then { e with en := false } else { e with time := nextTime e s.time.now }
    let s := { s with power.schedule := tset s.power.schedule entry e' }
    let wait (s : State) : State := { s with power.deferredSched := (s.power.deferredSched ++ [entry]).mergeSort }
    if s.power.mode = .dormant then
      match e.action with
      | 1 | 2 => .next (wait (callWake 3 s))
      | 3 => .next s
      | _ => .next (wait s)
    else if s.power.moving || s.power.mode = .rising then .next (wait s)
    else .next (actOrSkip e s)

/-! ## Dormant mode -/

/-- DORMANT_DRAIN_END (Table 13-6, step 3). -/
def execDormantDrainEnd (s : State) : Host.Outcome State Fault Refusal :=
  if !(s.power.moving && s.power.target = .dormant) then .next s
  else
    let (s, lost) := dropAllFrames s
    let s := forEach (List.range 32) s octalDown
    let s := forEach (List.range 64) s (fun d s => setDomain d .off s)
    .next (clearReady (List.range 64) { s with
      power.dormantDiscard := forEach lost s.power.dormantDiscard (fun e t => tadd t e.1 e.2) })

/-- A stack holds its contents and is not in self-refresh yet. -/
def State.stackAwake (s : State) : Bool := [0, 1].any (fun k => s.stack k = .ready)

/-- Steps 6 and 7 of Table 13-6, once no stack is left to enter self-refresh (R397, R473, R568): the mailboxes, and the domains but 95.
DEDUCED, unsafe: log entry 84. -/
def enterDormant (s : State) : State :=
  let s := hostReset (List.range 16) false (firmwareReset (List.range 16) (emptyFlowDie s))
  { s with
    power.mode := .dormant
    power.moving := false
    power.flushed := false
    power.domains := [(95, .on)]
    power.toPower := []
    power.wakeReq := []
    power.wakeCause := 0
    boot.ready := 0
    host.linkGen := 0
    host.linkWidth := 0
    host.lpm := 0
    host.evt.filterClock := false
    ocf.groups := []
    ocf.windows := s.ocf.windows.map (fun e => (e.1, { e.2 with kept := [] }))
    ocf.intake := [] }

/-- No flow operation is queued or in progress, so nothing can become dirty after the flush. -/
def State.flowIdle (s : State) : Bool := regions.all (fun r => let v := s.region r; v.queue = [] && v.busy = [] && v.settling = [])

/-- DORMANT_FLUSH_COMPLETE (Table 13-6, step 4; R149): the flushes and the end of Geyser's items. With no stack to put in self-refresh, Dormant mode
follows at once. DEDUCED, unsafe: log entry 84. -/
def execDormantFlushComplete (s : State) : Host.Outcome State Fault Refusal :=
  if !(s.power.moving && s.power.target = .dormant && !s.power.flushed && (List.range 64).all (fun d => s.domain d = .off) && s.eng.runs = [] &&
      s.flowIdle) then .next s
  else
    let s := endItems (forEach regions s flushRegion)
    .next (if s.stackAwake then { s with power.flushed := true } else enterDormant s)

/-- SELF_REFRESH_ENTRY (R397): on entry to Dormant mode, after the flushes and once every accepted request has completed; after the last stack, Dormant
mode. DEDUCED, unsafe: log entry 84. -/
def execSelfRefreshEntry (stack : Nat) (s : State) : Host.Outcome State Fault Refusal :=
  if !(s.power.moving && s.power.target = .dormant && s.power.flushed && s.hbmIdle && s.stack stack = .ready) then .next s
  else
    let s := setStack stack .off { s with hbm.selfRefresh := setBit s.hbm.selfRefresh stack true }
    .next (if s.stackAwake then s else enterDormant s)

/-- The first wake source; of several in one cycle of the reference, the lowest code (R569, R650). DESIGN CHOICE, unsafe: log entry 103. -/
def State.firstWake (s : State) : Option Nat :=
  match s.power.wakeReq with
  | [] => none
  | (c, t) :: ws => some ((ws.filter (fun w => w.2 = t)).foldl (fun m w => min m w.1) c)

/-- A wake source of its cause has occurred first. -/
def State.wakeCalled (s : State) (cause : Nat) : Bool := s.firstWake = some cause

/-- The order in which a wake powers the domains (Table 13-7): 94, 84 to 87, 88, 89, then the rest as R608. -/
def wakeOrder : List Nat :=
  [94, 84, 85, 86, 87, 88, 89] ++ [80, 81, 82, 83, 90, 91, 92, 93] ++ (List.range 16).map (64 + ·) ++ (List.range 32).map (32 + ·) ++
  List.range 32

/-- WAKE (R569, R570): the cause is recorded, the filter clock runs again, and the device rises toward the mode it held; a firmware copy that
fails R453 resets the device (R611). -/
def execWake (cause : Nat) (imageOk : Bool) (s : State) : Host.Outcome State Fault Refusal :=
  if s.power.mode != .dormant || !s.wakeCalled cause then .next s
  else
    let s := resumeFilter { s with
      power.wakeCause := cause
      power.mode := .rising
      power.target := s.power.before.1
      power.waking := true }
    if !imageOk then .next { s with boot.resetDue := some 0x06 }
    else .next (queuePower wakeOrder { s with boot.stage := 3 })

/-- Every unit that is not parked, shed or retired has reported ready or failed, the functions without a domain among them (R542, R612).
DESIGN CHOICE, unsafe: log entry 103. -/
def State.allReported (s : State) : Bool :=
  s.power.toPower = [] && (List.range 99).all (fun f => s.unitHeld f || s.isReady f || s.boot.failed.testBit f)

/-- WAKE_COMPLETE (R542, R570): the mode held before Dormant resumes, with sources 337 and 339, and a held frame enters the intake; a failed restore resets the device.
DESIGN CHOICE, unsafe: log entry 103. -/
def execWakeComplete (restoreOk : Bool) (s : State) : Host.Outcome State Fault Refusal :=
  if !(s.power.mode = .rising && s.power.waking) || (restoreOk && !s.allReported) then .next s
  else if !restoreOk then .next { s with boot.resetDue := some 0x06 }
  else
    let s := raise 339 <| raise 337 { s with
      power.mode := s.power.before.1
      power.target := s.power.before.1
      power.profile := s.power.before.2
      power.waking := false
      power.wakeReq := []
      boot.stage := 4
      ocf.intake := s.ocf.intake ++ (s.ocf.held.map (fun h => ⟨h.1, h.2, 0⟩)).toList
      ocf.held := none }
    let s := if s.power.mode = .full then setCeiling 232 s else s
    .next (runDeferred s.power.deferredSched s)

/-! ## Commands -/

/-- PWR_MODE_SET (R543, R567). -/
def bodyPwrModeSet (_h : Ocf) (mode profile drain : Nat) : Body :=
  writeBody 0x0A01 4
    (fun s => firstErr
      [ (!([1, 3, 4, 5].contains mode), (0x01A1, 0)),
        (profile > 3, (0x01A1, 1)),
        (drain > 100, (0x01A1, 2)),
        (s.power.mode = .rising || s.power.moving, (0x04A3, 0xFFFF)),
        (!s.mayMove mode profile, (0x04A1, 0)),
        (mode = 1 && s.unfinished, (0x04A3, 0xFFFF)) ])
    (beginMove mode profile drain)

/-- A cap outside the installer's range (R554). -/
def State.capOutside (s : State) (cap : Nat) : Bool := outside cap s.power.capFloor s.power.capCeiling

/-- PWR_CAP_SET (R554, R605). -/
def bodyPwrCapSet (_h : Ocf) (cap : Nat) (flashOk : Bool) : Body :=
  { opcode := 0x0A02, changes := true, lenOk := (· = 4),
    check := fun s => if s.capOutside cap then badAt 0x04A4 0 else none
    apply := fun s =>
      if !flashOk then { st := s, status := 0x0501 }
      else { st := { s with
        power.opCap := some cap
        flash.settings.pwrCap := some cap } } }

/-- PWR_LIMITS_SET (R553 to R555, Table 13-11). -/
def bodyPwrLimitsSet (_h : Ocf) (p : PwrLimitsSetP) : Body :=
  let lo := orDefault p.capFloor 200
  let hi := orDefault p.capCeiling 560
  let mp := orDefault p.maintPermille 10
  let cf := orDefault p.hbmCFloor 64
  let tw := orDefault p.tjWarn 95
  { opcode := 0x0A03, changes := true, lenOk := (· = 8),
    check := fun s => firstErr
      [ (outside lo 120 hi, (0x01A1, 0)),
        (outside hi lo 560, (0x01A1, 2)),
        (outside mp 1 50, (0x01A1, 4)),
        (outside cf 32 232, (0x01A1, 5)),
        (outside tw 70 100, (0x01A1, 6)),
        (p.shedNotice > 10, (0x01A1, 7)),
        ((s.power.opCap.map (fun c => outside c lo hi)).getD false ||
          s.power.profiles.any (fun e => (e.2.cap.map (fun c => outside c lo hi)).getD false), (0x04A4, 0xFFFF)),
        (lo * mp * 100 < s.dMin, (0x03A1, 0xFFFF)) ]
    apply := fun s =>
      if !p.flashOk then { st := s, status := 0x0501 }
      else { st := { s with
        power.capFloor := lo
        power.capCeiling := hi
        power.maintPermille := mp
        power.hbmCFloor := cf
        power.tjWarn := tw
        power.shedNotice := p.shedNotice
        flash.settings.pwrLimits := some [lo, hi, mp, cf, tw, p.shedNotice] } } }

/-- R563: a profile that may not be written. -/
def parkConflict (octal inP egP : Nat) (s : State) : Bool :=
  (List.range 2).any (fun p => inP.testBit p || egP.testBit p) ||
  (List.range 16).any (fun p => (inP.testBit p || egP.testBit p) && !(octal.testBit (2 * p) && octal.testBit (2 * p + 1))) ||
  (List.range 32).any (fun g => octal.testBit g && s.fabricGroup g)

/-- PWR_REDUCED_PROFILE_WRITE (R563, R564). -/
def bodyPwrReducedProfileWrite (_h : Ocf) (p : PwrReducedProfileWriteP) : Body :=
  writeBody 0x0A04 16
    (fun s => firstErr
      [ (p.profile > 3, (0x01A1, 0)),
        (s.power.mode = .reduced && s.power.profile = p.profile, (0x04A3, 0)),
        (s.capOutside p.cap, (0x04A4, 2)),
        (parkConflict p.octalPark p.inPark p.egPark s, (0x04A2, 0xFFFF)) ])
    fun s => { s with power.profiles := tset s.power.profiles p.profile ⟨p.stepLimit, some p.cap, p.octalPark, p.inPark, p.egPark⟩ }

/-- PWR_SCHEDULE_WRITE (R571, Table 13-10). -/
def bodyPwrScheduleWrite (_h : Ocf) (p : PwrScheduleWriteP) : Body :=
  writeBody 0x0A05 24
    (fun _ => firstErr
      [ (p.entry > 63, (0x01A1, 0)),
        (outside p.action 1 4, (0x01A1, 1)),
        (p.action = 2 && p.profile > 3, (0x01A1, 2)),
        (p.flags > 1, (0x01A1, 3)),
        (p.timeNs ≥ 1000000000, (0x01A1, 10)),
        (p.period != 0 && outside p.period 60 604800, (0x01A1, 16)),
        (p.action = 3 && p.drain > 100, (0x01A1, 20)) ])
    fun s =>
      let e : SchedEntry :=
        { action := p.action, profile := p.profile, en := p.flags.testBit 0, time := ofSeconds p.timeS p.timeNs, cap := p.cap,
          period := p.period, drain := p.drain }
      { s with power.schedule := tset s.power.schedule p.entry e }

/-- PWR_WAKE_CONFIG (R569). -/
def bodyPwrWakeConfig (_h : Ocf) (wakeInputs : Nat) : Body :=
  writeBody 0x0A06 4 (fun _ => none) fun s => { s with power.wakeInputs := wakeInputs }

/-- PWR_STATUS (Table 13-12). -/
def bodyPwrStatus (_h : Ocf) : Body :=
  readBody 0x0A07 0 (fun _ => none) fun s =>
    [(1, s.power.mode.code), (1, s.power.profile)] ++ regions.map (fun r => (1, s.stepOf r)) ++
    regions.map (fun r => (2, twos 16 ((s.tj r).getD 0))) ++ s.power.sensors.map (fun t => (2, twos 16 t)) ++
    [ (2, s.powerNow), (2, s.capInForce), (4, s.capInForce * s.power.maintPermille * 100), (4, s.power.capFloor * s.power.maintPermille * 100),
      (1, s.power.ceilingC), (1, s.power.hold), (1, s.power.shed), (4, s.power.octalParked), (2, s.power.inParked), (2, s.power.egParked) ] ++
    s.power.schedule.flatMap (fun e => [(1, e.1), (1, e.2.action), (1, bit e.2.en), (6, timeS e.2.time), (4, timeNs e.2.time)]) ++
    [(8, s.power.schedSkipped)] ++ regions.map (fun r => (8, tgetD s.power.dormantDiscard r 0))

end Sys2Proof.Machine
end

