-- ==== Sys2Proof/Machine/Faults.lean ====
section
/-! DEFINITION. Hardware cells, block failures, the chip machine check and the safe state (R18 to R21, R522, R612 to R626), and the own part of
the commands of Table 15-11. -/

namespace Sys2Proof.Machine

/-! ## The fault log and the fault record -/

/-- An entry of the fault log (R624); the 1,024 most recent are kept. -/
def logFault (level kind index cause action : Nat) (s : State) : State :=
  { s with boot.log := lastN 1024 (s.boot.log ++
      [{ timeS := timeS s.time.now, timeNs := timeNs s.time.now, level, kind, index, cause, action }]) }

/-- A word of CHAIN (Table 15-9). -/
def chainWord (level kind index : Nat) : Nat := level * 2 ^ 24 + kind * 2 ^ 16 + index % 2 ^ 16

/-- The fault record of a chip machine check (Table 15-9). -/
def faultRecord (s : State) (cause unit : Nat) (chain : List Nat) : Bytes :=
  fit 64 (beBytes 6 (timeS s.time.now) ++ beBytes 4 (timeNs s.time.now) ++ beBytes 1 cause ++ beBytes 1 (bit (!s.traceable)) ++ beBytes 4 unit ++
    beBytes 4 s.ocf.epoch ++ (chain.take 11).flatMap (beBytes 4))

/-! ## The end of every frame (R606) -/

/-- The frames in transmission on the front ports end with an inverted FCS. -/
def abortFrames (s : State) : State :=
  forEach s.eg.ports s (fun e s => match e.2.tx with
    | t :: _ => if portKind e.1 = 0 && t.started then { s with out.frames := s.out.frames ++ [{ port := e.1, data := t.wire, poisoned := true }] } else s
    | [] => s)

/-- The frames of which cells have left a port, each with the cell that would come next: its next cell waits on the port, or has still to come in
to be relayed. -/
def State.cutFrames (s : State) (g : Nat) (p : FabPort) : List DataCell :=
  let cells := p.queue.map WaitCell.cell
  let here := cells.filter (fun c => (c.kind = 2 || c.kind = 3) && !cells.any (fun x => sameCellFrame x c && x.index < c.index))
  let coming := (tvals s.fab.ports).flatMap (fun q => q.relays.filter (fun r => r.2 = g && !cells.any (fun x => sameCellFrame x r.1)))
  here ++ coming.map (fun r => { afterFirst r.1 with index := r.1.index + 1 })

/-- Each frame in flight on a Dvorob Link port, of which cells have been sent, ends with a poisoned last cell. -/
def abortCells (s : State) : State :=
  forEach s.fab.ports s (fun e s =>
    forEach (s.cutFrames e.1 e.2) s (fun c s =>
      let p := s.fabPort e.1
      countPoison c (emit e.1 p (.data { poisonAt c c.index with lseq := p.lseqTx, ack := p.ackNow }) s)))

/-- Every frame in the device ends or is lost, and no link stays up. -/
def loseFramesAll (s : State) : State :=
  let s := (dropAllFrames (abortCells (abortFrames s))).1
  { s with
    ports.up := 0
    fab.ports := s.fab.ports.map (fun e => (e.1, { width := e.2.width, rate := e.2.rate, replays := e.2.replays, refusals := e.2.refusals, linkDiscard := e.2.linkDiscard })) }

/-! ## The chip machine check (R621 to R623) -/

/-- Entry to the safe state (Table 15-10). DEDUCED, unsafe: log entry 124. -/
def machineCheck (cause unit : Nat) (chain : List Nat) (s : State) : State :=
  if s.boot.safe then s
  else
    let times := s.time.localNs :: s.boot.mcTimes.filter (fun t => s.time.localNs < t + 3600 * 1000000000)
    let rec_ := faultRecord s cause unit chain
    let s := loseFramesAll s
    { s with
      boot.faultRec := rec_
      boot.mcTimes := times
      boot.safe := true
      boot.heldSafe := decide (times.length ≥ 3)
      boot.ready := 0
      power.mode := .reset
      power.moving := false
      power.waking := false
      power.toPower := []
      power.domains := [(95, .on), (94, tgetD s.power.domains 94 .off)] }

/-- The function that stands for a hardware cell or a function as UNIT; none for a unit of the chip level. -/
def chainBlock (cause unit : Nat) : Option Nat :=
  match cause with
  | 0x02 | 0x05 | 0x06 => some unit
  | 0x03 => some (88 + unit / 32)
  | _ => none

/-- CHAIN of a cause whose reports the device has not made before: from the hardware cell upward, one word for each level that the error passed
(R20, Table 15-9). DESIGN CHOICE, unsafe: log entry 124. -/
def chainOf (cause unit : Nat) : List Nat :=
  (if cause = 0x03 then [chainWord 0 2 unit] else []) ++
  (match chainBlock cause unit with | some f => [chainWord 1 0 f] | none => []) ++
  (if cause = 0x04 then [chainWord 2 0 unit] else if cause = 0x06 then [chainWord 2 unit (unit % 4)] else []) ++
  [chainWord 3 cause 0]

/-- CHIP_MACHINE_CHECK: a cause of Table 15-8. -/
def execChipMachineCheck (cause unit : Nat) (s : State) : Host.Outcome State Fault Refusal :=
  .next (if 1 ≤ cause && cause ≤ 7 && s.boot.porstHigh then machineCheck cause unit (chainOf cause unit) s else s)

/-- FIRMWARE_WATCHDOG: no heartbeat for 2 s. -/
def execFirmwareWatchdog (s : State) : Host.Outcome State Fault Refusal :=
  .next (if s.running then machineCheck 0x07 0 (chainOf 0x07 0) s else s)

/-- REGULATOR_FAULT (R552): the core voltages of an adjacent pair of regions. -/
def execRegulatorFault (pair : Nat) (s : State) : Host.Outcome State Fault Refusal :=
  .next (if s.boot.porstHigh && s.power.mode != .reset then machineCheck 0x04 pair (chainOf 0x04 pair) s else s)

/-! ## Work items of executors that fail (R517, R523) -/

/-- A job goes back to the head of its level with RESTART set. -/
def restartItem (engine : Bool) (n : Nat) (s : State) : State :=
  match s.running_ engine n with
  | none => s
  | some (h, i) =>
    let ctx := if engine then some (s.engine n).ctx else none
    let s := s.setItem h { i with state := .ready, restart := true, ctx := ctx }
    let s : State := { s with
      eng.ready := tset s.eng.ready i.prio (h :: tgetD s.eng.ready i.prio [])
      eng.runs := tdel s.eng.runs (execKey engine n) }
    if engine then s.setEngine n { s.engine n with ctx := {}, ops := [], waitStart := none, finished := none } else s

/-- The items of a failed cluster go elsewhere. -/
def restartCluster (engine : Bool) (r : Nat) (s : State) : State :=
  let k := if engine then 8 else 4
  forEach ((List.range k).map (k * r + ·)) s (fun n s => restartItem engine n s)

/-! ## Block failures (R612, R619, R620; Tables 15-4 and 15-7) -/

/-- The functions that fail with one, itself among them. -/
def failsWith (s : State) (f : Nat) : List Nat :=
  let failed (g : Nat) : Bool := s.boot.failed.testBit g
  if 64 ≤ f && f < 80 then
    let pair := [f / 2 * 2, f / 2 * 2 + 1]
    if f < 72 then pair else pair ++ (List.range 4).map (32 + 4 * ((f - 72) / 2) + ·)
  else if 90 ≤ f && f < 94 then f :: (List.range 4).map (32 + 4 * (f - 90) + ·)
  else if f = 95 then [95, 80, 81, 82, 83, 94, 98]
  else if f = 94 then [94, 98]
  else if 84 ≤ f && f < 88 && [84, 85, 86, 87].all (fun g => g = f || failed g) then [f, 94, 98]
  else [f]

/-- The region that holds a function (Table 1-2); none for the HBM pairs and the management domain. -/
def regionOfFunction (f : Nat) : Option Nat :=
  if f < 32 then some (f / 8)
  else if f < 64 then some (f % 16 / 4)
  else if f < 72 then some ((f - 64) / 2)
  else if f < 80 then some ((f - 72) / 2)
  else if f < 88 then some (f % 4)
  else if f < 90 then none
  else if f < 94 then some (f - 90)
  else none

/-- A region shed by fault (R620). -/
def shedByFault (r : Nat) (s : State) : State :=
  if s.power.shedFault.testBit r then s
  else
    let stores := (List.range 2).all (fun k => !s.boot.failed.testBit (64 + 2 * r + k))
    let s := beginShed r { s with power.shedFault := setBit s.power.shedFault r true }
    let s := if s.power.shedDown.testBit r then s else finishShed r (if stores then flushRegion r s else s)
    raise (713 + r) s

/-- What the region, or the device, does about a failed function. -/
def blockAction (f : Nat) (s : State) : State :=
  if f < 32 then failPort f (octalDown f s)
  else if f < 48 then octalDown (2 * (f - 32) + 1) (octalDown (2 * (f - 32)) s)
  else if f < 64 then octalDown (2 * (f - 48) + 1) (octalDown (2 * (f - 48)) s)
  else if f < 72 then s
  else if f < 80 then shedByFault ((f - 72) / 2) s
  else if f < 84 then restartCluster true (f - 80) s
  else if f < 88 then restartCluster false (f - 84) s
  else if f < 90 then setStack (f - 88) .failed (if s.stack (f - 88) = .failed then s else raise (256 + (f - 88)) s)
  else if f < 94 then shedByFault (f - 90) (resumeTables s)
  else s

/-- A function fails: it stays failed until the next reset. -/
def failOne (f : Nat) (s : State) : State :=
  if s.boot.failed.testBit f then s
  else
    let s : State := { s with
      boot.failed := setBit s.boot.failed f true
      boot.ready := setBit s.boot.ready f false }
    blockAction f (raise (512 + f) s)

/-- What a block reports about its failure: the hardware cell whose error it could not contain, if one. -/
abbrev FaultOrigin := Option (Nat × Nat)

/-- The original cause as the fault log and CHAIN carry it: the cell's kind, 0 without a cell. DESIGN CHOICE, unsafe: log entry 124. -/
def causeOf (o : FaultOrigin) : Nat := (o.map Prod.fst).getD 0

/-- The level above a failed block acts, and enters the block's report: its function number and the original cause (R20, R21, R619). The region
contains the error by shedding, or by going on without the block; a unit of no region reports to the chip. -/
def reportBlock (f : Nat) (o : FaultOrigin) (s : State) : State :=
  match regionOfFunction f with
  | some r => logFault 2 f r (causeOf o) (if s.power.shedFault.testBit r && (f / 8 = 9 || 90 ≤ f) then 4 else 0) s
  | none => logFault 3 f 0 (causeOf o) 0 s

/-- A block fails, and with it what depends on it; when the last service-core cluster fails the device takes a chip machine check. -/
def failFunction (f : Nat) (o : FaultOrigin) (s : State) : State :=
  let s := forEach (failsWith s f) (logFault 1 0 f (causeOf o) 3 s) failOne
  if [84, 85, 86, 87].all (fun g => s.boot.failed.testBit g) then
    let cell := match o with | some (k, i) => [chainWord 0 k i] | none => []
    machineCheck 0x06 f (cell ++ chainOf 0x06 f) (logFault 2 f (f % 4) (causeOf o) 5 s)
  else reportBlock f o s

/-! ## Hardware cells (R614 to R618) -/

/-- Default N and W in ms (Table 15-6). -/
def defaultPolicy (kind : Nat) : Nat × Nat :=
  match kind with
  | 1 => (64, 1000) | 2 => (16, 60000) | 3 => (32, 1000) | 4 => (16, 60000) | 5 => (64, 1000) | 6 => (3, 3600000) | _ => (2, 3600000)

/-- Cells of a kind; a row of a macro has the index 2^16 x macro + row. DESIGN CHOICE, safe: log entry 50. -/
def cellCount (kind : Nat) : Nat :=
  match kind with
  | 1 => 256 | 2 => 64 | 3 => 64 | 4 => 256 | 5 => 32 | 6 => 16 | 7 => 2 ^ 32 | _ => 0

/-- The key of a cell in the table of events. -/
def cellKey (kind index : Nat) : Nat := kind * 2 ^ 32 + index

/-- Retired cells of a kind that satisfy a test. -/
def State.retiredOf (s : State) (kind : Nat) (p : Nat → Bool) : Nat := (s.boot.retired.filter (fun c => c.1 = kind && p c.2)).length

/-- The function of a macro: the spec does not number the macros (free). DESIGN CHOICE, safe: log entry 50. -/
def macroFunction (m : Nat) : Nat := Config.macroFunction m % 95

/-- The region in which a spare row of a domain's unit is used. The HBM pairs belong to the chip level; the model counts the pair of stack 0 to
region 0 and that of stack 1 to region 2. DESIGN CHOICE, unsafe: log entry 50. -/
def regionOfDomain (d : Nat) : Option Nat := if d = 88 then some 0 else if d = 89 then some 2 else regionOfFunction d

/-- The function that fails when a kind's limit is passed by one more cell. -/
def blockOf (kind index : Nat) : Nat :=
  match kind with
  | 1 => index / 8
  | 3 => 64 + 2 * (index / 16)
  | 4 => 32 + index / 16
  | 5 => 80 + index / 8
  | 6 => 84 + index / 4
  | _ => macroFunction (index / 2 ^ 16)

/-- The kind's limit has been reached in the cell's block (Table 15-6). -/
def State.limitReached (s : State) (kind index : Nat) : Bool :=
  match kind with
  | 3 => s.retiredOf 3 (fun i => i / 16 = index / 16) ≥ 4
  | 4 => s.retiredOf 4 (fun i => i / 16 = index / 16) ≥ 8
  | 5 => s.retiredOf 5 (fun i => i / 8 = index / 8) ≥ 8
  | 6 => s.retiredOf 6 (fun i => i / 4 = index / 4) ≥ 4
  | 7 => tgetD s.boot.spares (index / 2 ^ 16) 0 ≥ 4
  | _ => false

/-- The width of an octal group without one more lane. -/
def State.widthWithout (s : State) (lane : Nat) : Nat :=
  State.widthLeft { s with boot.retired := (1, lane) :: s.boot.retired } (lane / 8)

/-- Retiring the cell would fail its block although its kind's limit has not been reached: the last engine or core of a cluster, or the last
lane of a Dvorob Link port. -/
def State.lastUnit (s : State) (kind index : Nat) : Bool :=
  match kind with
  | 1 => s.fabricGroup (index / 8) && s.widthWithout index = 0
  | 5 => s.retiredOf 5 (fun i => i / 8 = index / 8) = 7
  | 6 => s.retiredOf 6 (fun i => i / 4 = index / 4) = 3
  | _ => false

/-- A lane (R618): a Dvorob Link port narrows to what is left and carries nothing until its hellos agree again. -/
def retireLane (lane : Nat) (s : State) : State :=
  let g := lane / 8
  if !s.fabricGroup g then s
  else
    let p := s.fabPort g
    let w := min p.width (s.widthLeft g)
    if w = p.width then s
    else if p.up then
      let s := failPort g s
      s.setFabPort g { s.fabPort g with width := w }
    else raise (208 + g) (s.setFabPort g { p with width := w })

/-- A Tarn-only record leaves its way with what Sinter holds of it, and is created again elsewhere, or is lost (R136, R616). DEDUCED, unsafe: log
entry 124. -/
def rehouse (r : Nat) (x : TarnWay) (s : State) : State :=
  let whole := s.merged r { loc := x.locator, img := x.img, way := none }
  let s := dropSinter r x.locator s
  let lost (s : State) : State :=
    let v := s.region r
    leakPort whole (raise (168 + r) (s.setRegion r { v with tarnLost := inc64 v.tarnLost }))
  match s.partition x.img.partition with
  | none => lost s
  | some p => match createRec r p (if s.hbmReady then { whole with tarnOnly := false }.bump else whole) s with
    | .ok (_, s) => s
    | .error _ => lost s

/-- A Tarn way (R616). DEDUCED, unsafe: log entry 124. -/
def retireWay (index : Nat) (s : State) : State :=
  let r := index / 16
  let w := index % 16
  let s := forEach (tkeys (s.region r).tarn) s (fun set s =>
    let t := s.tarnSet r set
    let hit := (t.overlap false w)
    let s := s.setTarn r set { t with ways := hit.foldl tdel t.ways }
    forEach hit s (fun k s => match tget t.ways k with
      | some x =>
        if locSpace x.locator = 3 then rehouse r x s
        else if x.dirty then pushWb r ⟨x.locator, x.img, false, false⟩ s
        else s
      | none => s))
  raise (672 + r) s

/-- Rules put back one by one under R84; the handles of those that find no room. -/
def reinsert (l : Nat) : List TcamEntry → Pipe → Pipe × List Nat
  | [], p => (p, [])
  | e :: es, p =>
    match placeRule (p.rules l) (p.listSize l) e with
    | some (rs, _, _) => reinsert l es (p.setRules l rs)
    | none =>
      let (p, lost) := reinsert l es p
      (p, e.handle :: lost)

/-- A TCAM bank (R617), with its partner when the pair is wide. -/
def retireBank (index : Nat) (s : State) : State :=
  let k := index / 16
  let b := index % 16
  let p := s.pipe k
  let gone := if p.wideBank b then [b / 2 * 2, b / 2 * 2 + 1] else [b]
  let owner := p.listOf b
  let lost := (p.tcam.filter (fun e => gone.contains (e.1 / 2048) && owner.isSome)).map Prod.snd
  let q : Pipe := { p.invalidate (fun a _ => gone.contains (a / 2048)) with retiredBanks := forEach gone p.retiredBanks (fun b m => setBit m b true) }
  let q : Pipe := { q with searchProfiles := q.searchProfiles.map (fun e => (e.1, q.keptBanks e.2)) }
  let (q, handles) := match owner with
    | some l => reinsert l lost q
    | none => (q, [])
  raise (676 + k) (forEach handles (s.setPipe k q) (logFault 0 4 · 0 2))

/-- A retirement takes its effect, once the cell stands in the record. -/
def retireEffect (kind index : Nat) (s : State) : State :=
  match kind with
  | 1 => raise (640 + index / 8) (retireLane index s)
  | 3 => retireWay index s
  | 4 => retireBank index s
  | 5 => raise (480 + index / 8) (restartItem true index s)
  | 6 => raise (692 + index) (restartItem false index s)
  | _ =>
    let m := index / 2 ^ 16
    raise (match regionOfDomain (macroFunction m) with | some r => 708 + r | none => 712)
      { s with boot.spares := tmod s.boot.spares m 0 (· + 1) }

/-- A pseudo-channel (R394): the ninth is a chip machine check. It joins the record when RETIRE_REMAP_DRAINED completes it. -/
def retirePc (p : Nat) (s : State) : State :=
  let n := s.hbm.retired.length + s.hbm.retireWait.length + (if s.hbm.retiring.isSome then 1 else 0)
  if s.hbm.retireWait.contains p || (s.hbm.retiring.map Prod.fst) = some p then s
  else if n ≥ 8 then machineCheck 0x03 p (chainOf 0x03 p) s
  else if s.hbm.retiring.isSome then { s with hbm.retireWait := s.hbm.retireWait ++ [p] } else beginRetire p none s

/-- A cell is retired (R614 to R618): beyond its kind's limit, its block fails instead. -/
def retireCell (kind index : Nat) (flashOk : Bool) (s : State) : State :=
  if s.boot.retired.contains (kind, index) then s
  else if kind = 2 then retirePc index (logFault 0 2 index 0 2 s)
  else if s.limitReached kind index then failFunction (blockOf kind index) (some (kind, index)) (logFault 0 kind index 0 5 s)
  else
    let last := s.lastUnit kind index
    let s := retireEffect kind index (recordRetired kind index flashOk (logFault 0 kind index 0 2 s))
    if last && kind != 1 then failFunction (blockOf kind index) (some (kind, index)) s else s

/-- N and W of a kind. -/
def State.policyOf (s : State) (kind : Nat) : Nat × Nat := tgetD s.boot.policy kind (defaultPolicy kind)

/-- A cell has recorded N error events within W (R614). -/
def State.permanent (s : State) (kind index : Nat) : Bool :=
  let (n, w) := s.policyOf kind
  let ts := tgetD s.boot.events (cellKey kind index) []
  match ts.head?, ts[n - 1]? with
  | some a, some b => decide (a - b ≤ w * 1000000)
  | _, _ => false

/-- A front-port lane is reported only (Table 15-6). -/
def State.frontLane (s : State) (kind index : Nat) : Bool := kind = 1 && !s.fabricGroup (index / 8)

/-- An error event of a cell is counted, and a permanent fault retires it. -/
def countCell (kind index : Nat) (flashOk : Bool) (s : State) : State :=
  let k := cellKey kind index
  let s := logFault 0 kind index 0 0 { s with boot.events := tset s.boot.events k ((s.time.localNs :: tgetD s.boot.events k []).take 255) }
  if !s.permanent kind index then s
  else if s.frontLane kind index then raise (640 + index / 8) s
  else retireCell kind index flashOk s

/-- An error that is an error event of its kind (Table 15-6): of an SRAM row, only an uncorrectable one. -/
def isEvent (kind : Nat) (uncorrectable : Bool) : Bool := 1 ≤ kind && kind ≤ 6 || (kind = 7 && uncorrectable)

/-- An engine that a machine check has stopped takes work again. -/
def resumeEngine (e : Nat) (s : State) : State := askWork (execKey true e) (s.setEngine e { s.engine e with state := .idle })

/-- What HW_CELL_ERROR does of a cell in service. -/
def cellError (kind unit : Nat) (uncorrectable flashOk : Bool) (s : State) : State :=
  let s := useInjected kind (· = unit) s
  if !isEvent kind uncorrectable then logFault 0 kind unit 0 1 s
  else
    let s := if kind = 6 then restartItem false unit s else s
    countCell kind unit flashOk s

/-- HW_CELL_ERROR (R517, R614 to R618): an error event of a cell. For an engine that a machine check has stopped it is firmware's test: one that
fails retires it at once, and one that passes puts it back to work. DESIGN CHOICE, safe: log entry 123. -/
def execHwCellError (kind unit : Nat) (uncorrectable flashOk : Bool) (s : State) : Host.Outcome State Fault Refusal :=
  .next (if !s.running || unit ≥ cellCount kind then s
  else if kind = 5 && (s.engine unit).state = .stopped && !s.boot.retired.contains (5, unit) then
    (if uncorrectable then retireCell 5 unit flashOk s else resumeEngine unit s)
  else cellError kind unit uncorrectable flashOk s)

/-! ## Commands (Table 15-11) -/

/-- Events of a cell within its window. -/
def State.eventsInWindow (s : State) (key : Nat) : Nat :=
  let w := (s.policyOf (key / 2 ^ 32)).2 * 1000000
  ((tgetD s.boot.events key []).filter (fun t => s.time.localNs - t ≤ w)).length

/-- FAULT_STATUS. -/
def bodyFaultStatus (_h : Ocf) : Body :=
  readBody 0x0C01 0 (fun _ => none) fun s =>
    s.boot.events.flatMap (fun e =>
      [(1, e.1 / 2 ^ 32), (4, e.1 % 2 ^ 32), (2, s.eventsInWindow e.1), (1, bit (s.boot.retired.contains (e.1 / 2 ^ 32, e.1 % 2 ^ 32)))]) ++
    s.boot.spares.flatMap (fun e => [(2, e.1), (1, e.2)]) ++
    [(16, s.boot.ready), (16, s.boot.failed), (1, bit s.boot.prevTrip), (1, s.boot.resetCause), (1, s.mcCount)]

/-- FAULT_POLICY_WRITE (R614). -/
def bodyFaultPolicyWrite (_h : Ocf) (kind n windowMs : Nat) : Body :=
  writeBody 0x0C02 8 (fun _ => firstErr [(outside kind 1 7, (0x01C1, 0)), (n = 0, (0x01C1, 1)), (outside windowMs 1 86400000, (0x01C1, 4))])
    fun s => { s with boot.policy := tset s.boot.policy kind (n, windowMs) }

/-- An entry of the fault log as results: 32 bytes. -/
def FaultLogEntry.results (e : FaultLogEntry) : Results :=
  [(6, e.timeS), (4, e.timeNs), (1, e.level), (1, e.kind), (4, e.index), (1, e.cause), (1, e.action), (14, 0)]

/-- FAULT_LOG_READ: from the oldest entry, which has number 0. DESIGN CHOICE, unsafe: log entry 125. -/
def bodyFaultLogRead (_h : Ocf) (from_ count : Nat) : Body :=
  readBody 0x0C03 4 (fun _ => firstErr [(outside count 1 64, (0x01C1, 2))]) fun s =>
    ((s.boot.log.drop from_).take count).flatMap FaultLogEntry.results

/-- HW_RETIRE (R625). For a pseudo-channel it acts as HBM_PC_RETIRE. DESIGN CHOICE, safe: log entry 123. -/
def bodyHwRetire (h : Ocf) (p : HwRetireP) : Body :=
  let kind := p.kind
  let index := p.index
  let pc := bodyHbmPcRetire h index
  { opcode := 0x0C04, changes := true, pending := true, lenOk := (· = 8),
    check := fun s => firstOf
      [ (outside kind 1 7, (0x01C1, 0)), (p.flags > 1, (0x0108, 1)),
        (index ≥ cellCount kind || s.boot.retired.contains (kind, index), (0x01C1, 4)) ]
      (if kind = 2 then (match pc.check s with | some e => [(true, e)] | none => [])
      else
        [ (s.limitReached kind index, (0x03C1, 0xFFFF)),
          (p.flags = 0 && s.lastUnit kind index, (0x04C2, 0xFFFF)) ])
    apply := fun s => if kind = 2 then pc.apply s else { st := retireCell kind index p.flashOk s } }

/-- FAULT_RECORD_CLEAR (R625): accepted in FACTORY and RETURNED; it takes effect at the next reset. -/
def bodyFaultRecordClear (_h : Ocf) : Body :=
  writeBody 0x0C05 0 (fun s => firstErr [(s.roles.lifecycle != .factory && s.roles.lifecycle != .returned, (0x0204, 0xFFFF))])
    fun s => { s with flash.clearRetired := true }

end Sys2Proof.Machine
end

