-- ==== Sys2Proof/Machine/Engines.lean ====
section
/-! DEFINITION. The Fumarole engines: microwords and nanowords, memory operations, parity, the journal and machine checks (R503 to R519), and
Geyser's energy period (R529). -/

namespace Sys2Proof.Machine

/-! ## Microwords and nanowords (Tables 12-1 and 12-2) -/

/-- The microword and the nanoword of an address. DESIGN CHOICE, safe: log entry 39. -/
def State.microAt (s : State) (a : Nat) : Nat := tgetD s.eng.micro a (Config.microword a).toNat
def State.nanoAt (s : State) (a : Nat) : Nat := tgetD s.eng.nano a (Config.nanoword a).toNat

/-- A microword's fields. -/
structure Micro where
  nano : Nat
  seq : Nat
  cond : Nat
  target : Nat
  deriving DecidableEq, Repr

def microOf (w : Nat) : Micro := ⟨field 31 21 w, field 20 18 w, field 17 14 w, field 13 0 w⟩

/-- A nanoword's fields. -/
structure Nano where
  alu : Nat
  srcA : Nat
  srcB : Nat
  dst : Nat
  immB : Bool
  mem : Nat
  addr : Nat
  line : Nat
  place : Nat
  dreg : Nat
  cntOp : Nat
  imm : Nat
  status : Nat
  event : Nat
  deriving DecidableEq, Repr

def nanoOf (w : Nat) : Nano :=
  { alu := field 159 152 w, srcA := field 151 148 w, srcB := field 147 144 w, dst := field 143 140 w, immB := w.testBit 139,
    mem := field 135 132 w, addr := field 131 128 w, line := field 127 126 w, place := field 125 120 w, dreg := field 119 116 w,
    cntOp := field 115 114 w, imm := field 95 64 w, status := field 63 56 w, event := field 55 48 w }

/-- A code or a field value that Tables 12-2 to 12-4 reserve. DESIGN CHOICE, safe: log entry 38. -/
def Nano.reserved (n : Nano) : Bool :=
  !(n.alu ≤ 0x0B || (0x10 ≤ n.alu && n.alu ≤ 0x12)) || n.mem ≥ 14 || n.cntOp = 3 ||
  ((n.alu = 0x0A || n.alu = 0x0B || n.mem = 9 || n.mem = 10) && n.place ≥ 32) || (n.alu = 0x11 && n.place ≥ 4)

/-! ## Registers, line buffers and the ALU (R503, Table 12-3) -/

def EngineCtx.reg (c : EngineCtx) (k : Nat) : Nat := c.x.getD k 0
def EngineCtx.setReg (c : EngineCtx) (k v : Nat) : EngineCtx := { c with x := c.x.set k (wrap 64 v) }
def EngineCtx.lineAt (c : EngineCtx) (k : Nat) : Bytes := c.lines.getD k []
def EngineCtx.setLine (c : EngineCtx) (k : Nat) (b : Bytes) : EngineCtx := { c with lines := c.lines.set k (fit 256 b) }

/-- The bytes of slot `k` of a bucket in a line buffer: 128 when its record is wide. -/
def slotBytes (line : Bytes) (k : Nat) : Bytes := slice line (64 * k) (if (getBe line (64 * k) 1).testBit 6 then 128 else 64)

/-- The key descriptor of Table 3-10 in a line buffer. PRESUMED, unsafe: log entry 120. -/
def descOf (line : Bytes) : Nat × FlowKey :=
  let kt := getBe line 1 1
  (getBe line 0 1, ⟨getBe line 2 2, kt, if wideType kt then getBe line 8 48 else getBe line 8 16⟩)

/-- Slot `k` holds a record, or the second half of a wide one. -/
def slotUsed (line : Bytes) (k : Nat) : Bool :=
  (getBe line (64 * k) 1).testBit 7 ||
  (k % 2 = 1 && (getBe line (64 * (k - 1)) 1).testBit 7 && (getBe line (64 * (k - 1)) 1).testBit 6)

/-- An ALU operation: what it writes to DST, its carry, its flags. DESIGN CHOICE, safe: log entry 42. -/
def aluStep (n : Nano) (e : Engine) : Engine :=
  let c := e.ctx
  let a := c.reg n.srcA
  let b := if n.immB then n.imm else c.reg n.srcB
  let put (v : Nat) : EngineCtx := c.setReg n.dst v
  let flagged (v : Nat) (carry : Bool) : Engine := { e with zero := wrap 64 v = 0, carry := carry }
  let logic (v : Nat) : Engine := { e with ctx := put v, zero := wrap 64 v = 0 }
  let line := c.lineAt n.line
  match n.alu with
  | 0x01 => { e with ctx := put b }
  | 0x02 => { flagged (a + b) (a + b ≥ 2 ^ 64) with ctx := put (a + b) }
  | 0x03 => { flagged (a + 2 ^ 64 - b) (a < b) with ctx := put (a + 2 ^ 64 - b) }
  | 0x04 => logic (a &&& b)
  | 0x05 => logic (a ||| b)
  | 0x06 => logic (a ^^^ b)
  | 0x07 => logic (a <<< (b % 64))
  | 0x08 => logic (a >>> (b % 64))
  | 0x09 => flagged (a + 2 ^ 64 - b) (a < b)
  | 0x0A => { e with ctx := put (getBe line (8 * n.place) 8) }
  | 0x0B => { e with ctx := c.setLine n.line (patch line (8 * n.place) (beBytes 8 a)) }
  | 0x10 =>
    let bs := slice line 0 (n.imm % 64)
    { e with ctx := put (if n.imm.testBit 31 then hashB (wrap 32 b) bs else hashA (wrap 32 b) bs) }
  | 0x11 =>
    let (pn, k) := descOf (c.lineAt 3)
    { e with mtch := ((decodeRec (slotBytes line n.place)).map (fun x => x.hasKey pn k)).getD false }
  | 0x12 =>
    match [0, 1, 2, 3].find? (fun k => !slotUsed line k) with
    | some k => { e with ctx := put k, slotFree := true }
    | none => { e with ctx := put (Config.noFreeSlot line).toNat, slotFree := false }
  | _ => e

/-- CNT_OP. -/
def cntStep (n : Nano) (c : EngineCtx) : EngineCtx :=
  if n.cntOp = 1 then { c with cnt := n.imm % 2 ^ 16 } else if n.cntOp = 2 then { c with cnt := c.cnt - 1 } else c

/-! ## Memory operations (Table 12-4, R507, R508, R516) -/

/-- What issuing a nanoword's memory operation does: it goes on, it waits for one of the 4 outstanding to complete, or it stops the engine with
a cause of Table 12-6. -/
inductive Issue where
  | go (e : Engine) (s : State)
  | hold
  | stop (cause : Nat)

/-- An operation whose completion adds a journal entry (R516). -/
def journals (code arg : Nat) : Bool := code = 2 || code = 3 || code = 7 || (code = 8 && arg.testBit 0) || code = 10

/-- An operation joins those outstanding; one that would make a 129th journal entry stops the engine. -/
def queueOp (op : MemOp) (e : Engine) (s : State) : Issue :=
  if journals op.code op.arg && e.ctx.journal.length + (e.ops.filter (fun o => journals o.code o.arg)).length ≥ 128 then .stop 9
  else .go { e with ops := e.ops ++ [op] } s

/-- A nanoword's memory operation is issued, with its registers as they were before the word. PRESUMED, unsafe: log entry 120. -/
def issueMem (n : Nano) (old : EngineCtx) (e : Engine) (s : State) : Issue :=
  let a := old.reg n.addr
  let op : MemOp := { code := n.mem, addr := a, line := n.line, data := e.ctx.lineAt n.line, arg := n.imm }
  match n.mem with
  | 0 => .go e s
  | 4 => if e.ctx.locks.length ≥ 33 then .stop 7 else .go { e with ctx := { e.ctx with locks := e.ctx.locks ++ [wrap 30 a] } } s
  | 6 => .go { e with ctx := { e.ctx with locks := [], held := none, lockReq := none } } s
  | 13 => .go e (makeReady (a % 2 ^ 16) s)
  | m =>
    if e.ops.length ≥ 4 then .hold
    else if m ≤ 3 then
      if field 35 0 a ≥ 0x180000000 || a ≥ 2 ^ 38 then .stop 6
      else queueOp { op with addr := field 37 36 a * 2 ^ 36 + field 35 0 a / 256 * 256, mask := if m = 3 then n.imm % 256 else 0xFF } e s
    else match m with
      | 5 => queueOp { op with arg := n.imm % 4 } { e with ctx := { e.ctx with lockReq := some (n.imm % 4) } } s
      | 7 => queueOp { op with arg := old.reg n.srcB } e s
      | 9 | 10 => queueOp { op with mask := n.place } e s
      | 12 => queueOp { op with addr := old.reg n.srcA, mask := old.reg n.srcB, arg := n.imm % 16 } e s
      | _ => queueOp op e s

/-- The region and the region address of an HBM operation. -/
def MemOp.region (op : MemOp) : Nat := op.addr / 2 ^ 36
def MemOp.ra (op : MemOp) : Nat := op.addr % 2 ^ 36

/-- The bursts of a granule that a mask names are written from a line. -/
def writeBursts (r ra mask : Nat) (line : Bytes) (s : State) : State :=
  forEach (bitsOf 8 mask) s (fun k s => { s with hbm.mem := memWrite s.hbm.mem (hbmAddr r (ra + 32 * k)) (slice line (32 * k) 32) })

/-- 32 bytes of a region's table memory. DESIGN CHOICE, unsafe: log entry 40. -/
def State.tableRead (s : State) (r a : Nat) : Bytes :=
  tgetD s.eng.tables (4 * a + r) ((List.range 32).map (fun k => Config.tableByte r (a + k)))

/-- The MAC-table operation of a line as a learning record of the device itself. DESIGN CHOICE, safe: log entry 41. -/
def arbiterRecord (s : State) (line : Bytes) : LearnRecord :=
  let f := Config.arbiterField line
  { op := f 0 % 4, refresh := false, unsync := f 1 % 2 = 1, fid := f 2 % 4096, mac := f 3 % 2 ^ 48, originDev := s.ocf.deviceId,
    originPort := f 4 % 2 ^ 16, stampS := timeS s.time.now, stampNs := timeNs s.time.now }

/-- An overflow-store entry read into a line, or written from it: none deletes the entry. -/
def overflowAccess (op : MemOp) (c : EngineCtx) (s : State) : EngineCtx × State :=
  let r := op.arg / 2 % 4
  let v := s.region r
  let i := op.addr % 32768
  if op.arg.testBit 0 then
    (c, match decodeRec (slotBytes op.data 0) with
      | some x => putOvf r i x s
      | none => s.setRegion r { v with ovf := tdel v.ovf i })
  else (c.setLine op.line (patch (c.lineAt op.line) 0 (match tget v.ovf i with
    | some x => x.encode
    | none => List.replicate 64 0#8)), s)

/-- TCAM_COPY (R79). -/
def tcamCopy (pipe src dst : Nat) (s : State) : State :=
  let p := s.pipe pipe
  s.setPipe pipe (match tget p.tcam src with
    | some x => p.putEntry dst x
    | none =>
      let q := p.invalidate (fun a _ => a = dst)
      { q with invalid := match tget p.invalid src with
        | some x => tset q.invalid dst x
        | none => tdel q.invalid dst })

/-- An operation of engine `n` takes its effect: none while it cannot, for want of budget, of its locks or of a Sinter route.
DESIGN CHOICE, unsafe: log entry 40. -/
def memEffect (n : Nat) (op : MemOp) (c : EngineCtx) (s : State) : Option (EngineCtx × State) :=
  match op.code with
  | 1 => (charge op.region clsTM 8 s).map (fun s => (c.setLine op.line (memRead s.hbm.mem (hbmAddr op.region op.ra) 256), s))
  | 2 => (charge op.region clsTM 8 s).map (fun s => (c, writeBursts op.region op.ra 0xFF op.data s))
  | 3 => (charge op.region clsTM (2 * (bitsOf 8 op.mask).length) s).map (fun s => (c, writeBursts op.region op.ra op.mask op.data s))
  | 5 => if clear c.locks (s.heldLocks op.arg) then some ({ c with held := some op.arg, lockReq := none }, s) else none
  | 7 => (moveSinter (n / 8) op.addr op.arg s).map (fun s => (c, moveTarn (n / 8) op.addr op.arg s))
  | 8 => some (overflowAccess op c s)
  | 9 => some (c.setLine op.line (patch (c.lineAt op.line) (8 * op.mask) (s.tableRead (n / 8) op.addr)), s)
  | 10 => some (c, forEach regions s (fun r s => { s with eng.tables := tset s.eng.tables (4 * op.addr + r) (slice op.data (8 * op.mask) 32) }))
  | 11 => some (c, applyRecord s.ocf.deviceId (arbiterRecord s op.data) s)
  | 12 => some (c, tcamCopy op.arg op.addr op.mask s)
  | _ => some (c, s)

/-- Two HBM operations on one granule: they take effect in the order of their issue (R370). -/
def opsMeet (a b : MemOp) : Bool := 1 ≤ a.code && a.code ≤ 3 && 1 ≤ b.code && b.code ≤ 3 && a.addr = b.addr

/-- The oldest outstanding operation that can complete, and its effect; one on the granule of an earlier one, `held`, waits for that.
DESIGN CHOICE, safe: log entry 121. -/
def firstDone (n : Nat) (c : EngineCtx) (s : State) (held : List MemOp) : List MemOp → Option (MemOp × EngineCtx × State)
  | [] => none
  | op :: ops =>
    if held.any (fun o => opsMeet o op) then firstDone n c s held ops
    else match memEffect n op c s with
      | some (c', s') => some (op, c', s')
      | none => firstDone n c s (op :: held) ops

/-- FUMAROLE_MEM_COMPLETE (R508, R516): an operation that reports an error has no effect but the flag. DESIGN CHOICE, safe: log entry 121. -/
def execFumaroleMemComplete (engine : Nat) (error : Bool) (s : State) : Host.Outcome State Fault Refusal :=
  let e := s.engine engine
  .next (if error then
    (match e.ops.find? (fun op => op.code != 5) with
    | none => s
    | some op => s.setEngine engine { e with ops := e.ops.erase op, memError := true })
  else match firstDone engine e.ctx s [] e.ops with
    | none => s
    | some (op, c, s) =>
      let c := if journals op.code op.arg then { c with journal := c.journal ++ [(op.code, op.addr, op.mask)] } else c
      s.setEngine engine { e with ops := e.ops.erase op, ctx := c })

/-! ## Machine checks (R517, R518) -/

/-- A relocation that is abandoned (R518): each old slot whose record also lies at a journalled new slot is invalidated.
DEDUCED, unsafe: log entry 122. -/
def undoMoves (journal : List (Nat × Nat × Nat)) (s : State) : State :=
  let granules := (journal.filter (fun j => (j.1 = 2 || j.1 = 3) && j.2.1 % 2 ^ 36 < 2 ^ 32)).map (fun j => (j.2.1 / 2 ^ 36, j.2.1 % 2 ^ 36 / 256))
  forEach granules s (fun g s =>
    let (r, b) := g
    match s.flow.partitions.find? (fun e => e.2.base ≤ b && b < e.2.base + 2 ^ e.2.nbrLog2) with
    | none => s
    | some (pn, p) => forEach (s.bucketRecs r b p.wide) s (fun x s =>
        let pl := p.place x.2.flowKey
        let other := if pl.bktA = b then pl.bktB else pl.bktA
        if other = b then s
        else match s.inBucket r other pn p.wide x.2.flowKey with
          | some (l, _) => if granules.contains (r, other) then s else freeLake r l p.wide s
          | none => s))

/-- An engine stops on a machine check: its job goes to the head of its level to be restarted, or is abandoned with 0x0501 when it was a
restart already. DEDUCED, unsafe: log entry 122. -/
def stopEngine (n cause : Nat) (s : State) : State :=
  let e := s.engine n
  let m := microOf (s.microAt e.upc)
  let h := tgetD s.eng.runs (execKey true n) 0
  let s := raise (448 + n) (s.setEngine n { e with checks := inc64 e.checks, record := some (cause, e.upc, m.nano, h) })
  let again := ((s.running_ true n).map (fun i => i.2.restart)).getD false
  let s :=
    if again then
      match s.running_ true n with
      | none => s
      | some (h, i) =>
        let s := if i.activity = 5 then undoMoves e.ctx.journal s else s
        completeItem true n h { i with ending := some (0x0501, 0xFFFF, []) } 0x0501 s
    else restartItem true n s
  s.setEngine n { s.engine n with state := .stopped, ctx := {}, ops := [], waitStart := none, retries := 0, finished := none }

/-! ## The step of an engine (R509 to R515) -/

/-- COND (Table 12-5) on the flags of an engine and the state of its job. -/
def condHolds (e : Engine) (i : WorkItem) (cond : Nat) : Bool :=
  match cond with
  | 0 => true
  | 1 => e.zero
  | 2 => !e.zero
  | 3 => e.carry
  | 4 => e.mtch
  | 5 => !e.mtch
  | 6 => e.slotFree
  | 7 => e.ops = []
  | 8 => e.ctx.held.isSome
  | 9 => e.ctx.lockReq.isSome
  | 10 => e.ctx.cnt = 0
  | 11 => e.memError
  | 12 => i.cancelReq
  | 13 => i.overran
  | 14 => i.restart
  | _ => false

/-- The next address, or a cause of Table 12-6; WAIT and END are apart. -/
def nextAddress (m : Micro) (n : Nano) (c : Bool) (e : Engine) : Except Nat Engine :=
  let at_ (u : Nat) : Engine := { e with upc := u % 16384 }
  let fall := at_ (e.upc + 1)
  match m.seq with
  | 1 => .ok (at_ m.target)
  | 2 => .ok (if c then at_ m.target else fall)
  | 3 =>
    if !c then .ok fall
    else if e.stack.length ≥ 8 then .error 4
    else .ok { at_ m.target with stack := (e.upc + 1) % 16384 :: e.stack }
  | 4 =>
    if !c then .ok fall
    else match e.stack with
      | [] => .error 5
      | u :: us => .ok { at_ u with stack := us }
  | 5 => .ok (at_ ((m.target &&& 0x3FF0) ||| (e.ctx.reg n.dreg &&& 0xF)))
  | _ => .ok fall

/-- A word with no parity error takes effect. -/
def runWord (k : Nat) (i : WorkItem) (e : Engine) (s : State) : Host.Outcome State Fault Refusal :=
  let m := microOf (s.microAt e.upc)
  let n := nanoOf (s.nanoAt m.nano)
  if n.reserved then .refused .reservedMicrocode
  else
    let old := e.ctx
    let e1 := aluStep n { e with retries := 0 }
    match issueMem n old { e1 with ctx := cntStep n e1.ctx } s with
    | .hold => .next s
    | .stop cause => .next (stopEngine k cause s)
    | .go e s =>
      let s : State := if n.event = 0 then s else { s with eng.jobCounters := tinc s.eng.jobCounters n.event }
      let c := condHolds e i m.cond
      match m.seq with
      | 6 => .next (s.setEngine k (if c then { e with upc := (e.upc + 1) % 16384 } else { e with state := .waiting, waitStart := some s.time.localNs }))
      | 7 => .next (s.setEngine k { e with finished := some n.status })
      | _ => match nextAddress m n c e with
        | .ok e => .next (s.setEngine k e)
        | .error cause => .next (stopEngine k cause (s.setEngine k e))

/-- A parity error: the word is rewritten from the golden copy and fetched again; the third in a row stops the engine (R514). -/
def parityError (k cause : Nat) (e : Engine) (s : State) : State :=
  if e.retries ≥ 2 then stopEngine k cause s
  else s.setEngine k { e with retries := e.retries + 1, parityRetry := inc64 e.parityRetry }

/-- A golden copy that fails stops the engine, and the cluster reports it at block level (R515). -/
def goldenError (k : Nat) (s : State) : State := logFault 1 5 (80 + k / 8) 3 5 (stopEngine k 3 s)

/-- MICROWORD_EXECUTE: a running engine executes a word; one in a WAIT looks at its condition again (R512). DESIGN CHOICE, safe: log entry 38. -/
def execMicrowordExecute (engine : Nat) (parity : ParityOutcome) (s : State) : Host.Outcome State Fault Refusal :=
  let e := s.engine engine
  match s.running_ true engine with
  | none => .next s
  | some (_, i) =>
    if !s.live true engine || e.finished.isSome then .next s
    else if e.state = .waiting then
      .next (if condHolds e i (microOf (s.microAt e.upc)).cond then
        s.setEngine engine { e with state := .running, waitStart := none, upc := (e.upc + 1) % 16384 }
      else s)
    else if e.state != .running then .next s
    else match parity with
      | .good => runWord engine i e s
      | .micro => .next (parityError engine 1 e s)
      | .nano => .next (parityError engine 2 e s)
      | .golden => .next (goldenError engine s)
      | .stateEcc => .next (stopEngine engine 8 s)

/-- WAIT_LIMIT_EXPIRE (R512). -/
def execWaitLimitExpire (engine : Nat) (s : State) : Host.Outcome State Fault Refusal :=
  let e := s.engine engine
  .next (if e.state = .waiting then
    s.setEngine engine { e with state := .running, waitStart := none, upc := (microOf (s.microAt e.upc)).target }
  else s)

/-! ## The energy period -/

/-- ENERGY_PERIOD_BOUNDARY (R529, R532, R533). -/
def execEnergyPeriodBoundary (s : State) : Host.Outcome State Fault Refusal :=
  if !s.isReady 95 then .next s
  else
    let short := (List.range 8).any (fun e => s.eng.heldReady.testBit e && s.eng.use.getD e 0 < (s.energyClass e).2)
    let g := s.capInForce * s.power.maintPermille * 100
    let s : State := { s with
      eng.grant := g
      eng.balance := (g : Int) + min s.eng.balance 0
      eng.use := List.replicate 8 0
      eng.actUse := List.replicate 16 0
      eng.classes := s.eng.nextClasses
      eng.activities := s.eng.nextActivities
      eng.deferredNow := 0
      eng.heldReady := forEach (List.range 8) 0 (fun e m => setBit m e (s.classReady e)) }
    .next (if short then raise 485 s else s)

end Sys2Proof.Machine
end

