-- ==== Sys2Proof/Machine/Ports.lean ====
section
/-! DEFINITION. Front ports and their links (R435 to R439, R613, R660), and the own part of the port and diagnostic commands (Tables 9-15 and
9-16). -/

namespace Sys2Proof.Machine

/-! ## Links -/

/-- The lanes of a port. -/
def lanesOf (port : Nat) (c : PortCfg) : List Nat := (List.range c.lanes).map (port + ·)

/-- Firmware holds the slot of a port down: its module is in ModuleFault (R598). -/
def State.moduleFault (s : State) (port : Nat) (c : PortCfg) : Bool :=
  (tvals s.disc.optics).any (fun o => o.fault && port < o.firstLane + o.lanes && o.firstLane < port + c.lanes)

/-- A port may train (R613, R660, Table 10-3): configured and up, not in VOID, its octal group and pipelines ready,
neither parked nor shed, and no module fault. -/
def State.mayTrain (s : State) (port : Nat) (c : PortCfg) : Bool :=
  let g := port / 8
  let p := pipeOfLane port
  c.speed != 0 && c.adminUp && s.roles.lifecycle != .void && !s.fabricGroup g && s.isReady g && s.isReady (32 + p) && s.isReady (48 + p) &&
  !s.power.octalParked.testBit g && !s.power.shedDown.testBit (g / 8) && !s.moduleFault port c

/-- Signal detect of a port's lanes. DESIGN CHOICE, unsafe: log entry 125. -/
def setSignal (port : Nat) (c : PortCfg) (b : Bool) (s : State) : State :=
  { s with ports.signal := forEach (lanesOf port c) s.ports.signal (fun l m => setBit m l b) }

/-- LINK_UP: a port's lanes have trained. -/
def execLinkUp (port : Nat) (s : State) : Host.Outcome State Fault Refusal :=
  .next (match tget s.ports.cfg port with
    | none => s
    | some c => if s.mayTrain port c then linkComesUp port (setSignal port c true s) else s)

/-- LINK_DOWN (R303): the partner or the medium is gone. -/
def execLinkDown (port : Nat) (s : State) : Host.Outcome State Fault Refusal :=
  .next (match tget s.ports.cfg port with
    | none => s
    | some c => linkDown port (setSignal port c false s))

/-! ## Port commands (Table 9-15) -/

/-- The modes of Table 9-13 as SPEED, LANES, LANE_RATE, FEC. -/
def portModes : List (Nat × Nat × Nat × Nat) :=
  [ (7, 8, 0, 2), (6, 4, 0, 2), (6, 8, 1, 2), (5, 2, 0, 2), (5, 4, 1, 2), (4, 1, 0, 2), (4, 2, 1, 2), (4, 4, 2, 1), (3, 1, 1, 2), (2, 1, 2, 0),
    (2, 1, 2, 1), (1, 1, 3, 0) ]

/-- The local front port of a field, whether or not it is configured. -/
def State.frontArg (s : State) (field : Nat) : Option Nat := if portKind field = 0 && field / 256 = s.ownSlot then some (field % 256) else none

/-- A front port of the device that is configured and not being removed. -/
def State.configured (s : State) (port : Nat) : Bool := ((tget s.ports.cfg port).map (fun c => c.speed != 0)).getD false

/-- The lanes that a port asks for belong to another port or to a Dvorob Link port (R438). -/
def State.lanesBusy (s : State) (port lanes : Nat) : Bool :=
  s.fabricGroup (port / 8) || s.ports.cfg.any (fun e => e.1 != port && e.2.speed != 0 && e.1 < port + lanes && port < e.1 + e.2.lanes)

/-- A port is set administratively down (R660). -/
def adminDown (port : Nat) (s : State) : State := linkDown port (if s.ports.up.testBit port then lldpShutdown port s else s)

/-- A port is removed (R438): at the end of LINGER where it holds frames, else at once. DESIGN CHOICE, unsafe: log entry 125. -/
def removePort (port : Nat) (s : State) : State :=
  let s := adminDown port s
  match tget s.ports.cfg port with
  | none => s
  | some c =>
    if s.buf.hold.contains (s.sysPort port) then { s with ports.cfg := tset s.ports.cfg port { c with speed := 0, adminUp := false } }
    else { s with ports.cfg := tdel s.ports.cfg port }

/-- A port takes a mode. -/
def setPort (port : Nat) (c : PortCfg) (s : State) : State :=
  let old := tget s.ports.cfg port
  let sameMode := old.map (fun o => (o.speed, o.lanes, o.laneRate, o.fec)) = some (c.speed, c.lanes, c.laneRate, c.fec)
  let s := if !c.adminUp then adminDown port s else if sameMode then s else linkDown port s
  { s with ports.cfg := tset s.ports.cfg port c }

/-- PORT_CONFIG (Table 9-14, R436 to R438). -/
def bodyPortConfig (_h : Ocf) (p : PortConfigP) : Body :=
  let mtu := orDefault p.mtu 16352
  writeBody 0x0201 12
    (fun s => match s.frontArg p.port with
      | none => badAt 0x0122 0
      | some k =>
        if p.speed = 0 then firstErr [(p.flags > 7, (0x0108, 6)), (!s.configured k, (0x0422, 0))]
        else firstErr
          [ (!portModes.contains (p.speed, p.lanes, p.laneRate, p.fec), (0x0121, 2)),
            (k % max 1 p.lanes != 0, (0x0121, 0)),
            (p.flags > 7, (0x0108, 6)),
            (outside mtu 64 16352, (0x0122, 8)),
            (s.lanesBusy k p.lanes, (0x0421, 0)) ])
    fun s => match s.frontArg p.port with
      | none => s
      | some k =>
        if p.speed = 0 then removePort k s
        else
          let c : PortCfg :=
            { speed := p.speed, lanes := p.lanes, laneRate := p.laneRate, fec := p.fec, an := p.flags.testBit 0, training := p.flags.testBit 1,
              adminUp := p.flags.testBit 2, mtu := mtu }
          setPort k c s

/-- The checks of a command that names a configured front port; `bad` is the status of a field that names none. -/
def frontChecks (field bad : Nat) (s : State) : List (Bool × Err) :=
  [ ((s.frontArg field).isNone, (bad, 0)), (((s.frontArg field).map s.configured) != some true, (0x0422, 0)) ]

/-- PORT_STATUS. -/
def bodyPortStatus (_h : Ocf) (port : Nat) : Body :=
  readBody 0x0202 4 (fun s => firstErr (frontChecks port 0x0122 s)) fun s =>
    match (s.frontArg port).bind (fun k => (tget s.ports.cfg k).map (fun c => (k, c))) with
    | none => []
    | some (k, c) =>
      let up := s.ports.up.testBit k
      [(1, bit up), (1, c.speed), (1, c.lanes), (1, c.laneRate), (1, c.fec), (1, bit c.an), (1, bit (c.training && !up && c.adminUp)),
       (1, forEach (List.range c.lanes) 0 (fun l m => setBit m l (s.ports.signal.testBit (k + l)))),
       (8, tgetD s.ports.fecCorrected k 0), (8, tgetD s.ports.fecUncorrected k 0)]

/-- A port whose counters a command reads (R435). -/
def State.counterArg (s : State) (field : Nat) : Option Nat := (s.portArg field).filter (fun k => portKind k != 0 || s.configured k)

/-- Counters of a port as results. -/
def PortCounters.results (c : PortCounters) : Results :=
  [c.rxFrames, c.rxBytes, c.txFrames, c.txBytes, c.fcs, c.undersize, c.oversize, c.rxPause, c.txPause].map (fun n => (8, n)) ++
  (List.range 8).map (fun k => (8, tgetD c.rxPfc k 0)) ++ (List.range 8).map (fun k => (8, tgetD c.txPfc k 0))

/-- PORT_COUNTERS_READ (R13). -/
def bodyPortCountersRead (_h : Ocf) (port clear : Nat) : Body :=
  { opcode := 0x0203, changes := clear = 1, clearRead := true, lenOk := (· = 4),
    check := fun s => firstErr
      [ ((s.portArg port).isNone, (0x0122, 0)), (clear > 1, (0x0108, 2)), ((s.counterArg port).isNone, (0x0422, 0)) ]
    apply := fun s =>
      match s.counterArg port with
      | none => { st := s }
      | some k =>
        let c := tgetD s.ports.counters k {}
        { st := if clear = 1 then { s with ports.counters := tdel s.ports.counters k } else s, results := c.results } }

/-- PORT_ADMIN (R660). -/
def bodyPortAdmin (_h : Ocf) (port adminUp : Nat) : Body :=
  writeBody 0x0204 4 (fun s => firstOf (frontChecks port 0x0122 s) [(adminUp > 1, (0x0122, 2))])
    fun s => match (s.frontArg port).bind (fun k => (tget s.ports.cfg k).map (fun c => (k, c))) with
      | none => s
      | some (k, c) => setPort k { c with adminUp := adminUp = 1 } s

/-- PORT_OPTICS_ACCESS: a CMIS access of a module, which acknowledges it or not. -/
def bodyPortOpticsAccess (_h : Ocf) (p : PortOpticsAccessP) : Body :=
  let write := p.flags.testBit 0
  { opcode := 0x0205, changes := write, lenOk := fun n => n = if write then 8 + ceilDiv p.len 4 * 4 else 8,
    check := fun _ => firstErr
      [ (p.controller > 1, (0x0122, 0)), (p.devAddr > 127, (0x0122, 1)), (outside p.len 1 128, (0x0122, 5)), (p.flags > 1, (0x0108, 6)) ]
    apply := fun s =>
      if !p.ack then { st := s, status := 0x0501 }
      else if write then { st := { s with out.optics := s.out.optics ++
          [{ controller := p.controller, devAddr := p.devAddr, bank := p.bank, page := p.page, offset := p.offset, data := fit p.len p.data }] } }
      else { st := s, results := [blob (fit p.len p.busData)] } }

/-! ## Diagnostics (R439, R626, Table 9-16) -/

/-- A port under test must be administratively down. -/
def testChecks (field : Nat) (s : State) : List (Bool × Err) :=
  frontChecks field 0x01E1 s ++
  [(((s.frontArg field).bind (fun k => (tget s.ports.cfg k).map PortCfg.adminUp)).getD false, (0x04E1, 0))]

/-- Lanes of the port of a field. -/
def State.lanesOfField (s : State) (field : Nat) : Nat :=
  ((s.frontArg field).bind (fun k => (tget s.ports.cfg k).map PortCfg.lanes)).getD 0

/-- DIAG_PRBS: `measured` holds the bits checked and the bit errors of the lanes under check. -/
def bodyDiagPrbs (_h : Ocf) (p : DiagPrbsP) : Body :=
  { opcode := 0x0E01, changes := true, lenOk := (· = 8),
    check := fun s => firstOf
      [ (p.pattern > 3, (0x01E1, 2)), (p.dir > 3, (0x01E1, 3)) ]
      (testChecks p.port s ++ [(decide (p.laneMask ≥ 2 ^ s.lanesOfField p.port), (0x01E1, 4))])
    apply := fun s =>
      match s.frontArg p.port with
      | none => { st := s }
      | some k =>
        { st := { s with ports.prbs := if p.pattern = 0 then tdel s.ports.prbs k else tset s.ports.prbs k (p.pattern, p.dir, p.laneMask) }
          results := p.measured.map (fun n => (8, n)) } }

/-- DIAG_LOOPBACK. -/
def bodyDiagLoopback (_h : Ocf) (port mode : Nat) : Body :=
  writeBody 0x0E02 4
    (fun s => firstOf
      [ (mode > 3, (0x01E1, 2)), (s.power.mode != .full && s.power.mode != .service, (0x0402, 0xFFFF)) ]
      (testChecks port s))
    fun s => match s.frontArg port with
      | none => s
      | some k => { s with ports.loopback := if mode = 0 then tdel s.ports.loopback k else tset s.ports.loopback k mode }

/-- DIAG_EYE_SCAN: `measured` holds the height and width of each eye. -/
def bodyDiagEyeScan (_h : Ocf) (port lane : Nat) (measured : List Nat) : Body :=
  readBody 0x0E03 4 (fun s => firstErr (testChecks port s ++ [(decide (lane ≥ s.lanesOfField port), (0x01E1, 2))]))
    (fun _ => measured.map (fun n => (2, n)))

/-- DIAG_ERROR_INJECT (R626). -/
def bodyDiagErrorInject (_h : Ocf) (p : DiagErrorInjectP) : Body :=
  writeBody 0x0E05 8
    (fun s => firstErr
      [ (s.power.mode != .service, (0x0402, 0xFFFF)), (outside p.kind 1 9, (0x01E1, 0)), (p.severity > 1, (0x01E1, 1)),
        (outside p.count 1 1024, (0x01E1, 2)), (p.kind ≤ 7 && p.unit ≥ cellCount p.kind, (0x01E1, 4)) ])
    fun s => { s with boot.injected := s.boot.injected ++ [(p.kind, p.unit, p.severity, p.count)] }

/-- A test overwrites a memory: what lay in it is lost. DESIGN CHOICE, unsafe: log entry 43. -/
def wipeMemory (mask : Nat) (s : State) : State :=
  let s : State := if mask.testBit 0 then { s with hbm.mem := [] } else s
  let s : State := if mask.testBit 1 then { s with flow.regions := s.flow.regions.map (fun e => (e.1, { e.2 with tarn := [] })) } else s
  if mask.testBit 2 then (dropAllFrames s).1 else s

/-- DIAG_MEM_TEST: `failing` holds the addresses that failed. DESIGN CHOICE, unsafe: log entry 43. -/
def bodyDiagMemTest (_h : Ocf) (memory : Nat) (failing : List Nat) : Body :=
  { opcode := 0x0E06, changes := true, pending := true, lenOk := (· = 4),
    check := fun s => firstErr [(s.power.mode != .service, (0x0402, 0xFFFF))]
    apply := fun s => { st := wipeMemory (Config.testedMemory memory).toNat s, results := failing.map (fun a => (8, a)) } }

end Sys2Proof.Machine
end

