-- ==== Sys2Proof/Machine/Ingress.lean ====
section
/-! DEFINITION. The ingress pipelines: arrival, packet slots, passes, the control intake, recirculation, flow requests and results, overload
policies, and release to the traffic managers (R34 to R37, R45 to R49, R62 to R67, R86 to R96, R171 to R186, R229 to R234, R254, R255, R276 to
R283, R299, R345, R591). -/

namespace Sys2Proof.Machine

/-! ## Arrival (R34, R276 to R278, R297, R437) -/

/-- An ingress pipeline is ready. -/
def State.ingressReady (s : State) (p : Nat) : Bool := s.isReady (32 + p)

/-- Greatest frame length of a port. -/
def State.mtuOf (s : State) (port : Nat) : Nat := ((tget s.ports.cfg port).map PortCfg.mtu).getD 16352

/-- Priority of a received frame, and whether it is lossless (R297): in 802.3x mode all frames of a port count as one priority. -/
def State.priorityOf (s : State) (port : Nat) (d : Bytes) : Nat × Bool :=
  let c := s.pfcCfg port
  let k := if c.mode = 1 then 0 else match tagsOf d with
    | t :: _ => t / 2 ^ 13
    | [] => c.defaultPrio
  (k, c.priorities.contains k)

/-- A frame that has passed its check. DESIGN CHOICE, unsafe: log entry 53. -/
def State.newFrame (s : State) (port : Nat) (d : Bytes) : Frame :=
  let (k, l) := s.priorityOf port d
  { data := d, orig := port, port := port, zone := (s.portClass port).zone, prio := k, lossless := l, region := regionOfPort port,
    cells := cellsOf d.length, stamp := s.regionNow (regionOfPort port), unsync := !s.traceable, arrived := s.time.localNs }

/-- A frame waits for a packet slot of its pipeline. -/
def await (pipe : Nat) (f : Frame) (s : State) : State :=
  let p := s.pipe pipe
  s.setPipe pipe { p with wait := p.wait ++ [f] }

/-- Receive counters of a port. -/
def countRx (port len : Nat) (s : State) : State :=
  let c := tgetD s.ports.counters port {}
  { s with ports.counters := tset s.ports.counters port { c with rxFrames := inc64 c.rxFrames, rxBytes := add64 c.rxBytes len } }

/-- FRAME_ARRIVAL (R277): the frame is given without its FCS. DESIGN CHOICE, unsafe: log entry 53. -/
def execFrameArrival (port : Nat) (data : Bytes) (fcsOk : Bool) (s : State) : Host.Outcome State Fault Refusal :=
  let here := (portKind port = 0 && (tget s.ports.cfg port).isSome && s.linkUp port) || port = mgmtPort
  if !here || !s.ingressReady (pipeOfPort port) then .next s
  else
    let len := data.length + 4
    let short := len < 64
    let long := len > s.mtuOf port
    if short || long || !fcsOk then
      let c := tgetD s.ports.counters port {}
      .next { s with ports.counters := tset s.ports.counters port { c with
        fcs := if fcsOk then c.fcs else inc64 c.fcs
        undersize := if short then inc64 c.undersize else c.undersize
        oversize := if long then inc64 c.oversize else c.oversize } }
    else
      .next (match store (s.newFrame port data) (countRx port len s) with
        | (some f, s) => await (pipeOfPort port) f s
        | (none, s) => s)

/-! ## A pass -/

/-- A pass of a frame: its pipeline, the frame as received in the pass, its parse and packet-type class. -/
structure Pass where
  pipe : Nat
  frame : Frame
  px : Parse
  cls : Nat

/-- Metadata of a pass (Table 2-8). -/
def State.passMeta (s : State) (x : Pass) : Meta :=
  { passPort := s.sysPort x.frame.port, origPort := s.sysPort x.frame.orig, pass := x.frame.pass, zone := x.frame.zone }

/-- A frame in the queues beyond the pipelines. -/
def Frame.queued (f : Frame) : QFrame :=
  { data := f.data, orig := f.orig, cells := f.cells, region := f.region, prio := f.prio, lossless := f.lossless, headroom := f.headroom,
    markDei := f.markDei, markDscp := f.markDscp, stamp := f.stamp, arrived := f.arrived }

/-- A copy of a frame as received in a pass: a frame of its own (R90). -/
def Frame.copyOf (f : Frame) (d : Bytes) : QFrame :=
  { data := d, orig := f.orig, cells := cellsOf d.length, region := f.region, prio := f.prio, stamp := f.stamp, arrived := f.arrived }

/-- The mirror copy of an action (R90). DEDUCED, unsafe: log entry 57. -/
def mirrorCopy (a : Nat) (f : Frame) (raw : Bytes) (s : State) : State :=
  match (if actMirror a then tget s.cls.mirrors (actSession a) else none) with
  | none => s
  | some m =>
    let d := if m.trunc = 0 then raw else raw.take (m.trunc - 4)
    enqueueCopy f.region m.dest m.tc { f.copyOf d with mirror := true } s

/-- The slow-path copy of DISP 0b11 (R87). -/
def slowCopy (a : Nat) (f : Frame) (raw : Bytes) (s : State) : State :=
  if actDisp a != 3 then s
  else enqueueSlow f.region f.tc { f.copyOf raw with slow := some { reason := actReason a, zone := f.zone, copy := true } } s

/-- The copies of an action. DEDUCED, unsafe: log entry 57. -/
def copies (a : Nat) (f : Frame) (raw : Bytes) (s : State) : State := slowCopy a f raw (mirrorCopy a f raw s)

/-- The traffic class and zone that an action sets (R88). DEDUCED, unsafe: log entry 58. -/
def Frame.take (f : Frame) (a : Nat) : Frame :=
  { f with tc := if actTcEn a then actTc a else f.tc, zone := if actZoneEn a then actZone a else f.zone }

/-- An action word redirected to the slow path. DEDUCED, unsafe: log entry 56. -/
def slowAction (reason a : Nat) : Nat := setField 43 36 reason (setField 127 126 2 a)

/-- The policer of an action runs (R345): whether it drops the frame. -/
def runPolicer (pipe a : Nat) (f : Frame) (s : State) : Bool × Frame × State :=
  if actPol a then police (regionOfPipe pipe) (actPolicer a) f s else (false, f, s)

/-! ## The end of a final pass (R175, R234, R345) -/

/-- The combined action of a final pass takes effect: the descriptor that waits for release, or none where the frame is discarded.
DEDUCED, unsafe: log entry 58. -/
def endPass (pipe : Nat) (d : Desc) (s : State) : Option Desc × State :=
  let a := d.act
  let disp := if d.slow.isSome then 2 else actDisp a
  let f := d.frame.take a
  let f := if actDscpEn a && (disp = 0 || disp = 3) then { f with markDscp := some (actDscp a) } else f
  let (drop, f, s) := runPolicer pipe a f s
  if drop || disp = 1 then (none, freeFrame f (copies (if d.slow.isSome then slowAction 0 a else a) f d.raw s))
  else (some { d with
    frame := f
    waiting := false
    slow := if d.slow.isSome then d.slow else if disp = 2 then some (actReason a, 0) else none }, s)

/-- A descriptor joins its pipeline's list. -/
def pushDesc (pipe : Nat) (d : Desc) (s : State) : State :=
  let p := s.pipe pipe
  s.setPipe pipe { p with desc := p.desc ++ [d], nextId := p.nextId + 1 }

/-- A descriptor that waits for nothing but release. -/
def pushDone (pipe : Nat) (r : Option Desc × State) : State :=
  match r with
  | (some d, s) => pushDesc pipe d s
  | (none, s) => s

/-- The frame takes STATELESS of a template. -/
def Desc.stateless (d : Desc) (t : TemplateP) : Desc := { d with act := combine d.act t.stateless }

/-- A deferred operation is queued in the home region (R183, R186). DESIGN CHOICE, unsafe: log entry 60. -/
def deferOp (r : Nat) (t : TemplateP) (q : FlowReq) (s : State) : State :=
  let v := s.region r
  if v.deferred.length ≥ 16384 then countSvc t.template r cDeferRejected 1 s
  else
    let s := countSvc t.template r cDeferQueued 1 (s.setRegion r { v with
      deferred := v.deferred ++ [{ partition := t.partition, req := { q with deferred := true }, queuedAt := s.time.localNs }] })
    if v.deferred.length = 12288 then raise (180 + r) s else s

/-- The overload policy of a cause (R182, Table 4-3). -/
def overload (t : TemplateP) (c : Cause) (d : Desc) (s : State) : Desc × State :=
  let r := d.home
  let s := countSvc t.template r (cOvlBytes c) (d.frame.data.length + 4) (countSvc t.template r (cOvlPkts c) 1 s)
  let d := { d with tmpl := some t }
  match field (2 * c + 1) (2 * c) t.ovlPolicy with
  | 0 => (d.stateless t, s)
  | 1 => ({ d with slow := some (t.slowReason, c) }, s)
  | 2 => ({ d with act := setField 127 126 1 d.act }, s)
  | _ => (d.stateless t, (d.req.map (fun q => deferOp r t q s)).getD s)

/-- Overload in the pipeline itself, whose causes count in the home region. -/
def overloadHere (t : TemplateP) (c : Cause) (d : Desc) (s : State) : Desc × State := overload t c d (countStarved d.home c s)

/-! ## Flow keys (R171 to R173, R197) -/

/-- The L3 and L4 pointers and the protocol that a template takes. -/
def keyLayers (t : TemplateP) (px : Parse) : Option Nat × Option Nat × Nat :=
  if t.keyFlags.testBit 1 then (tget px.layers 5, tget px.layers 6, px.inner) else (tget px.layers 2, tget px.layers 3, px.outer)

/-- ICMP echo request and reply. -/
def isEcho (proto type : Nat) : Bool := (proto = 1 && (type = 8 || type = 0)) || (proto = 58 && (type = 128 || type = 129))

/-- An ICMP or ICMPv6 error message: destination unreachable, source quench, redirect, time exceeded and parameter problem, and the ICMPv6
types below 128 (PRESUMED, unsafe: log entry 44). -/
def isIcmpError (t : TemplateP) (px : Parse) (d : Bytes) : Bool :=
  match keyLayers t px with
  | (some _, some l4, p) =>
    let type := byteAt d l4
    (p = 1 && [3, 4, 5, 11, 12].contains type) || (p = 58 && type < 128)
  | _ => false

/-- The ports of an IP key: TCP and UDP ports, the echo identifier on both sides, else 0. -/
def keyPorts (proto : Nat) (l4 : Option Nat) (d : Bytes) : Nat × Nat :=
  match l4 with
  | none => (0, 0)
  | some o =>
    if portProto proto then (getBe d o 2, getBe d (o + 2) 2)
    else if isEcho proto (byteAt d o) then (getBe d (o + 4) 2, getBe d (o + 4) 2)
    else (0, 0)

/-- A layer pointer that a key of type 0 or 8 needs (R173). -/
def l4Needed (proto : Nat) : Bool := portProto proto || icmpProto proto

/-- The key of a packet under a template, and whether its source is side A; none where it cannot be formed. -/
def State.formKey (s : State) (t : TemplateP) (x : Pass) : Option (Bool × Nat) :=
  let d := x.frame.data
  let (l3, l4, proto) := keyLayers t x.px
  let sels (n : Nat) : Nat := keyOfSelectors (s.passMeta x) x.px d x.cls (t.keyMap.take n)
  match t.keyType with
  | 2 => match tget x.px.layers 1 with
    | none => none
    | some o => some (true, packFields [(48, srcMac (d.drop o)), (48, dstMac (d.drop o)), (12, (tagsOf (d.drop o)).headD 0), (20, 0)])
  | 3 => some (true, sels 8)
  | 10 => some (true, sels 24)
  | kt => match l3 with
    | none => none
    | some o =>
      if (byteAt d o / 16 != (if wideType kt then 6 else 4)) || ((kt = 0 || kt = 8) && l4Needed proto && l4.isNone) then none
      else
        let (_, src, dst) := ipAddrs d o
        let (ps, pd) := keyPorts proto l4 d
        let (srcA, a, b) := orderEnds (t.keyFlags.testBit 0) kt ⟨src, ps⟩ ⟨dst, pd⟩
        some (srcA, keyFrom kt a b proto)

/-- The flow request of a packet. DEDUCED, unsafe: log entry 70. -/
def flowRequest (t : TemplateP) (x : Pass) (key : Bool × Nat) : FlowReq :=
  let (_, l4, proto) := keyLayers t x.px
  let tcp := if proto = 6 then l4.map (fun o => byteAt x.frame.data (o + 13)) else none
  let echo := (l4.map (fun o => isEcho proto (byteAt x.frame.data o))).getD false
  { template := t.template, zone := x.frame.zone, keyType := t.keyType, key := key.2, srcA := key.1, proto := proto,
    len := x.frame.data.length + 4, tcp := tcp, stamp := x.frame.stamp, echo := echo }

/-- Descriptors of a pipeline that wait for a flow result. -/
def Pipe.pendingResults (p : Pipe) : Nat := (p.desc.filter (fun d => d.waiting)).length

/-- A final pass whose action asks for a flow (R36, R171 to R173, R197, R217). DESIGN CHOICE, unsafe: log entry 60. -/
def requestFlow (x : Pass) (d : Desc) (s : State) : State :=
  let p := s.pipe x.pipe
  match s.template (actTemplate d.act) with
  | none =>
    pushDone x.pipe (endPass x.pipe d (s.setPipe x.pipe { p with unusedTemplate := inc64 p.unusedTemplate }))
  | some t =>
    let here := regionOfPipe x.pipe
    if t.serviceKind != 0 && isIcmpError t x.px x.frame.data then
      pushDone x.pipe (endPass x.pipe { d with slow := some (t.slowReason, 0) } (countSvc t.template here cIcmpErrSlow 1 s))
    else
      let x : Pass := { x with frame := x.frame.take d.act }
      match s.formKey t x with
      | none => pushDone x.pipe (endPass x.pipe (d.stateless t) (countSvc t.template here cKeyUnformed 1 s))
      | some key =>
        let q := flowRequest t x key
        let home := ((s.partition t.partition).map (fun p => (p.place (reqKey q)).home)).getD here
        let d : Desc := { d with tmpl := some t, home := home, req := some q }
        let fail (c : Cause) (s : State) : State :=
          let (d, s) := overloadHere t c d s
          pushDone x.pipe (endPass x.pipe d s)
        if p.pendingResults ≥ 8192 then fail 2 s
        else match ask t.partition (.pipe x.pipe d.id) q s with
          | none => fail 1 (countUnreach t.partition (reqKey q) s)
          | some s => pushDesc x.pipe { d with waiting := true } s

/-! ## Source lookups (R254, R255) -/

/-- The destination that stands for a learning port: the port, or the LAG that contains it. -/
def State.learnDest (s : State) (orig : Nat) : Nat × Nat :=
  match s.lagOf (s.sysPort orig) with
  | some l => (1, l)
  | none => (0, s.sysPort orig)

/-- HIT of a MAC entry in a region's replica (Table 5-3). -/
def hitMac (r fid mac : Nat) (s : State) : State :=
  match s.macFind fid mac with
  | some (k, e) => { s with fwd.mac := tset s.fwd.mac k { e with hit := setBit e.hit r true } }
  | none => s

/-- The source lookup of a final pass: the event it calls for, whether the source is unknown or elsewhere, and HIT set on any match (Table 5-3).
DEDUCED, unsafe: log entry 86. -/
def sourceLookup (pipe fid orig mac : Nat) (s : State) : LearnOut × Bool × State :=
  if isGroup mac || mac = 0 then (.none, false, count5 cntBadSource s)
  else
    let (t, p) := s.learnDest orig
    match macIn (s.replica (regionOfPipe pipe)).mac fid mac with
    | none => (.fresh, true, s)
    | some (_, e) =>
      let s := hitMac (regionOfPipe pipe) fid mac s
      if e.destType = t && e.dest = p then (.none, false, s)
      else (if e.static || e.pinned then .none else .move, true, s)

/-! ## Passes (R62 to R66, R86 to R95) -/

/-- A final pass with its action. DEDUCED, unsafe: log entry 55. DEDUCED, unsafe: log entry 57. -/
def finalPass (x : Pass) (a : Nat) (s : State) : State :=
  let f := x.frame
  let disp := actDisp a
  let through := disp = 0 || disp = 3
  let vlan := s.vlan (s.vidOf f.orig f.data)
  let (learn, strange, s) :=
    if vlanValid vlan && vlanLearn vlan then sourceLookup x.pipe (vlanFid vlan) f.orig (srcMac f.data) s else (.none, false, s)
  if !vlanValid vlan then freeFrame f (copies a f f.data (countVlan f.orig s))
  else if strange && (s.portL2 f.orig).learnMode = 3 && disp != 1 then freeFrame f (copies a f f.data (count5 cntSecure s))
  else
    let (fwd, s) := if through then forward (regionOfPipe x.pipe) f.orig x.px f.data s else ({ fid := vlanFid vlan }, s)
    let d : Desc := { id := (s.pipe x.pipe).nextId, frame := f, raw := f.data, px := x.px, act := a, fwd := fwd, learn := learn }
    if actFlow a && through then requestFlow x d s else pushDone x.pipe (endPass x.pipe d s)

/-- The bytes that STRIP_HDR leaves (R93). DEDUCED, unsafe: log entry 56. -/
def stripped (a : Nat) (px : Parse) (d : Bytes) : Bytes :=
  if actStrip a = 0 then d
  else match px.stack[actStrip a]? with
    | some (_, off) => d.drop off
    | none => d

/-- A recirculating pass (R92 to R95). DEDUCED, unsafe: log entry 56. -/
def recirculate (x : Pass) (a : Nat) (s : State) : State :=
  let raw := x.frame.data
  let f := x.frame.take a
  let s := copies a f raw s
  let (drop, f, s) := runPolicer x.pipe a f s
  if drop then freeFrame f s
  else
    let p := s.pipe x.pipe
    if (p.wait.filter (fun w => w.port = recircPort x.pipe)).length ≥ 256 then
      let s := raise (144 + x.pipe) (s.setPipe x.pipe { p with recircFull := inc64 p.recircFull })
      if actOvf a then finalPass { x with frame := f } (slowAction 0x0B 0) s else freeFrame f s
    else await x.pipe { f with
      data := stripped a x.px raw
      port := recircPort x.pipe
      pass := f.pass + 1
      start := actState a } s

/-- The action asks for another pass (R86, R87). -/
def wantsPass (a : Nat) : Bool := actRecirc a && (actDisp a = 0 || actDisp a = 3)

/-- The action word without the pass that it asks for, and without what such an action ignores (R92): FLOW_EN, REDIR_EN and DSCP_EN. -/
def noRecirc (a : Nat) : Nat :=
  if wantsPass a then setField 116 116 0 (setField 125 125 0 (setField 61 61 0 (setField 35 35 0 a))) else a

/-- An exception counts for its port (R65). -/
def countException (port code : Nat) (s : State) : State := { s with cls.exceptions := tinc s.cls.exceptions (64 * port + code) }

/-- Class 15's action for a frame with an exception (R63). -/
def classify15 (x : Pass) (s : State) : Nat × State := classify x.pipe x.frame.port 15 (s.passMeta { x with cls := 15 }) x.px x.frame.data s

/-- PX_PASSLIMIT takes its port's disposition (R63, R91); the actions that follow it take no further pass. DEDUCED, unsafe: log entry 56. -/
def passLimit (x : Pass) (s : State) : State :=
  let s := countException x.frame.port 10 s
  let x : Pass := { x with px := { x.px with exc := 10 } }
  let pc := s.portClass x.frame.port
  match pc.disp.getD 10 0 with
  | 0 => finalPass x (slowAction 10 0) s
  | 1 => finalPass x (setField 127 126 1 0) s
  | 2 => finalPass x (noRecirc pc.miss) s
  | _ =>
    let (a, s) := classify15 x s
    finalPass { x with cls := 15 } (noRecirc a) s

/-- An action taken in a pass: another pass, or the final pass; another pass after pass 2 is an exception (R91). -/
def act (x : Pass) (a : Nat) (s : State) : State :=
  if !wantsPass a then finalPass x a s else if x.frame.pass < 2 then recirculate x a s else passLimit x s

/-- A frame with a parse exception takes its port's disposition (R63). -/
def exception (x : Pass) (code : Nat) (s : State) : State :=
  let s := countException x.frame.port code s
  let x : Pass := { x with px := { x.px with exc := code } }
  let pc := s.portClass x.frame.port
  match pc.disp.getD code 0 with
  | 0 => finalPass x (slowAction code 0) s
  | 1 => finalPass x (setField 127 126 1 0) s
  | 2 => act x pc.miss s
  | _ =>
    let (a, s) := classify15 x s
    act { x with cls := 15 } a s

/-- A PTP multicast address. PRESUMED, unsafe: log entry 61. -/
def isPtpMulticast (mac : Nat) : Bool := mac = 0x011B19000000 || mac = 0x0180C200000E

/-- A PTP frame is addressed to the instance: by its MAC over Ethernet, by its IP address over UDP (Table 14-4). -/
def State.ptpAddressed (s : State) (px : Parse) (d : Bytes) : Bool :=
  if finalEthertype d = 0x88F7 then isPtpMulticast (dstMac d)
  else match tget px.layers 2 with
    | none => false
    | some l3 =>
      let (v6, _, dst) := ipAddrs d l3
      if v6 then dst = s.ptp.ipv6 || (dst / 2 ^ 112 / 256 = 0xFF && (dst % 2 ^ 112 = 0x181 || dst % 2 ^ 112 = 0x6B))
      else dst = s.ptp.ipv4 || (dst ≥ 0xE0000181 && dst ≤ 0xE0000184) || dst = 0xE000006B

/-- The offset of a PTP header. -/
def ptpHeader (px : Parse) (d : Bytes) : Option Nat :=
  if finalEthertype d = 0x88F7 then some (14 + 4 * (tagsOf d).length) else (tget px.layers 3).map (· + 8)

/-- A PTP frame goes to the control intake (Table 14-4). -/
def State.takesPtp (s : State) (port : Nat) (px : Parse) (d : Bytes) : Bool :=
  match tget s.ptp.ports port with
  | none => false
  | some p =>
    let kind := ((ptpHeader px d).map (fun o => byteAt d o % 16)).getD 0
    match p.ptpMode with
    | 1 => s.ptpAddressed px d
    | 2 => s.ptp.type = 4 && (kind = 2 || kind = 3 || kind = 10)
    | _ => false

/-- The control match entry that takes a frame, and whether the frame is forwarded too (R66, Table 2-6). -/
def State.controlMatch (s : State) (port : Nat) (px : Parse) (d : Bytes) : Option (Nat × Bool) :=
  let et := finalEthertype d
  let udp := if px.outer = 17 then (tget px.layers 3).map (fun o => getBe d (o + 2) 2) else none
  if et = 0x88B5 && (dstMac d = s.ocf.stationMac || dstMac d = s.ocf.groupMac) then some (0, false)
  else if et = 0x88CC && dstMac d = 0x0180C200000E then some (1, false)
  else if et = 0x88F7 && s.takesPtp port px d then some (2, false)
  else if (udp = some 319 || udp = some 320) && s.takesPtp port px d then some (3, false)
  else (s.cls.control.find? (fun e =>
    (e.2.ethertype = et) && (e.2.anyDst || e.2.dst = dstMac d) && (e.2.udpPort = 0 || udp = some e.2.udpPort))).map (fun e =>
      (e.1, e.2.forward))

/-- A pass of a frame (R54, R62 to R66). A frame of an intake-and-forward entry goes on like any other. DEDUCED, unsafe: log entries 55 and 144. -/
def runPass (pipe : Nat) (f : Frame) (parityError : Bool) (s : State) : State :=
  let p := s.pipe pipe
  if parityError then
    let s := countException f.port 0x0C (s.setPipe pipe { p with hwErr := inc64 p.hwErr })
    raise (128 + pipe) (freeFrame f s)
  else
    let px := parsePass p.active f.start f.data
    let x : Pass := { pipe := pipe, frame := f, px := px, cls := px.cls }
    if px.exc != 0 then exception x px.exc s
    else
      let m := s.controlMatch f.orig px f.data
      let s : State := match m with
        | some (k, _) => { s with cls.taken := s.cls.taken ++ [{ port := f.orig, entry := k, data := f.data }] }
        | none => s
      if (m.map (fun e => !e.2)).getD false then freeFrame f s
      else
        let (a, s) := classify pipe f.port px.cls (s.passMeta x) px f.data s
        act x a s

/-! ## Packet slots (R45 to R48) -/

/-- The management or host port that attaches to a pipeline. -/
def externalPort (pipe : Nat) : Option Nat := if pipe = 0 then some mgmtPort else if pipe = 1 then some hostPort else none

/-- A frame of a port waits. -/
def Pipe.waits (p : Pipe) (port : Nat) : Bool := p.wait.any (fun f => f.port = port)

/-- The port that the next slot goes to: a reserved requester, else a front port in turn, else one of the others in turn.
DEDUCED, unsafe: log entry 54. -/
def Pipe.nextPort (p : Pipe) (pipe : Nat) : Option Nat :=
  let rc := recircPort pipe
  let ext := (externalPort pipe).filter p.waits
  if p.waits rc && p.takenRecirc < p.recircSlots then some rc
  else if ext.isSome && p.takenExt < 1 then ext
  else
    match nextTurn 256 (p.turnFront + 1) p.waits with
    | some port => some port
    | none =>
      let others := (if p.waits rc then [rc] else []) ++ ext.toList
      match others.find? (· != p.turnOther) with
      | some port => some port
      | none => others.head?

/-- A slot is taken: the window of 64 moves on. DEDUCED, unsafe: log entry 54. -/
def Pipe.took (p : Pipe) (pipe port : Nat) : Pipe :=
  let p : Pipe :=
    if portKind port = 0 then { p with turnFront := port }
    else if port = recircPort pipe then { p with takenRecirc := p.takenRecirc + 1, turnOther := port }
    else { p with takenExt := p.takenExt + 1, turnOther := port }
  if p.slot + 1 ≥ 64 then { p with slot := 0, takenRecirc := 0, takenExt := 0 } else { p with slot := p.slot + 1 }

/-- The list without its first element that satisfies `q`, and that element. -/
def takeFirst {α : Type} (q : α → Bool) : List α → Option (α × List α)
  | [] => none
  | x :: xs => if q x then some (x, xs) else (takeFirst q xs).map (fun r => (r.1, x :: r.2))

/-- PACKET_SLOT_GRANT (R47). -/
def execPacketSlotGrant (pipe : Nat) (parityError : Bool) (s : State) : Host.Outcome State Fault Refusal :=
  let p := s.pipe pipe
  if !s.ingressReady pipe then .next s
  else match p.nextPort pipe with
    | none => .next s
    | some port =>
      match takeFirst (fun f => f.port = port) p.wait with
      | none => .next s
      | some (f, rest) => .next (runPass pipe f parityError (s.setPipe pipe ({ p with wait := rest }.took pipe port)))

/-! ## Flow results (R175, R176, R196) -/

/-- A checksum updated for a string of 16-bit words that has changed; `udp` 4 keeps 0 and neither 4 nor 6 leaves 0 (R196). -/
def fixSum (at_ udp : Nat) (old new : Bytes) (d : Bytes) : Bytes :=
  let sum := getBe d at_ 2
  if udp = 4 && sum = 0 then d
  else
    let sum := (List.range (old.length / 2)).foldl (fun c k => checksumUpdate c (getBe old (2 * k) 2) (getBe new (2 * k) 2)) sum
    patch d at_ (beBytes 2 (if udp != 0 && sum = 0 then 0xFFFF else sum))

/-- The checksum of an L4 header: its offset in the header. -/
def sumOffset (proto : Nat) : Option Nat :=
  if proto = 6 then some 16 else if proto = 17 then some 6 else if icmpProto proto then some 2 else none

/-- A side of a packet rewritten (R196): the address with the IPv4 header checksum and the checksum over the pseudo-header, then the port or the
echo identifier. -/
def putEndpoint (l3 : Nat) (l4 : Option Nat) (proto : Nat) (source : Bool) (e : Endpoint) (d : Bytes) : Bytes :=
  let v6 := byteAt d l3 / 16 = 6
  let n := if v6 then 16 else 4
  let off := l3 + (if v6 then (if source then 8 else 24) else (if source then 12 else 16))
  let old := slice d off n
  let new := beBytes n e.addr
  let udp := if proto = 17 then (if v6 then 6 else 4) else 0
  let d := patch d off new
  let d := if v6 then d else fixSum (l3 + 10) 0 old new d
  match l4, sumOffset proto with
  | some l4, some k =>
    let d := if proto = 1 then d else fixSum (l4 + k) udp old new d
    match e.port with
    | none => d
    | some p =>
      let at_ := if portProto proto then (if source then l4 else l4 + 2) else l4 + 4
      let was := slice d at_ 2
      fixSum (l4 + k) udp was (beBytes 2 p) (patch d at_ (beBytes 2 p))
  | _, _ => d

/-- The rewrites of a result. -/
def rewritten (t : TemplateP) (px : Parse) (src dst : Option Endpoint) (d : Bytes) : Bytes :=
  match keyLayers t px with
  | (some l3, l4, proto) =>
    let d := (src.map (fun e => putEndpoint l3 l4 proto true e d)).getD d
    (dst.map (fun e => putEndpoint l3 l4 proto false e d)).getD d
  | _ => d

/-- A disposition of CT_INVALID or CT_MISS (R189): `plain` is what 0 PASS keeps. DEDUCED, unsafe: log entry 59. -/
def ctDisposition (t : TemplateP) (code : Nat) (plain stateless : Desc) : Desc :=
  match code with
  | 1 => { plain with act := setField 127 126 1 plain.act }
  | 2 => { plain with slow := some (t.slowReason, 0) }
  | 3 => stateless
  | _ => plain

/-- The post-translation lookup (R176). -/
def postLookup (d : Desc) (t : TemplateP) (dst : Option Endpoint) (s : State) : Desc × State :=
  match dst with
  | none => (d, s)
  | some e =>
    let (r, s) := ipLookup (regionOfPipe (pipeOfPort d.frame.port)) d.fwd.vrf (wideType t.keyType) e.addr s
    ({ d with post := some r }, s)

/-- A flow result applied to its descriptor, under the template as the request was made (R170). DEDUCED, unsafe: log entry 59. -/
def applyResult (d : Desc) (res : FlowResult) (s : State) : Desc × State :=
  match d.tmpl with
  | none => (d, s)
  | some t =>
    match res with
    | .ok src dst bad =>
      let f : Frame := { d.frame with data := rewritten t d.px src dst d.frame.data }
      let d : Desc := { d with frame := f }
      let hit : Desc := { d with act := combine d.act t.flowAction }
      postLookup (ctDisposition t (bad.getD 0) hit (d.stateless t)) t dst s
    | .missCt => (ctDisposition t t.ctMiss d (d.stateless t), s)
    | .stateless => (d.stateless t, s)
    | .starved c => overload t c d s

/-- A descriptor ends its wait: it is replaced in its place, or removed. -/
def settleDesc (pipe id : Nat) (r : Option Desc × State) : State :=
  let s := r.2
  let p := s.pipe pipe
  match r.1 with
  | some d => s.setPipe pipe { p with desc := p.desc.map (fun e => if e.id = id then d else e), results := tdel p.results id }
  | none => s.setPipe pipe { p with desc := p.desc.filter (fun e => e.id != id), results := tdel p.results id }

/-- A descriptor of a pipeline that waits for its flow result. -/
def State.waitingDesc (s : State) (pipe id : Nat) : Option Desc := (s.pipe pipe).desc.find? (fun d => d.id = id && d.waiting)

/-- FLOW_RESULT_RETURN (R175). -/
def execFlowResultReturn (pipe id : Nat) (s : State) : Host.Outcome State Fault Refusal :=
  .next (match s.waitingDesc pipe id, tget (s.pipe pipe).results id with
    | some d, some res =>
      let (d, s) := applyResult d res s
      settleDesc pipe id (endPass pipe d s)
    | _, _ => s)

/-- The operation of a frame is withdrawn, so that the frame counts once (R185): it leaves its engine, and a result that comes over the link later
finds nothing. DESIGN CHOICE, unsafe: log entry 146. -/
def withdraw (o : Origin) (s : State) : State :=
  let s := forEach regions s (fun r s =>
    let v := s.region r
    if (v.queue ++ v.busy).any (fun op => op.origin = o) then s.setRegion r { v with
      queue := v.queue.filter (fun op => op.origin != o)
      busy := v.busy.filter (fun op => op.origin != o) }
    else s)
  { s with flow.asked := s.flow.asked.filter (fun e => e.2 != o) }

/-- FLOW_RESULT_DEADLINE (R35): the result has not returned, and the frame takes its template's overload policy. -/
def execFlowResultDeadline (pipe id : Nat) (s : State) : Host.Outcome State Fault Refusal :=
  .next (match s.waitingDesc pipe id, tget (s.pipe pipe).results id with
    | some d, none =>
      let s := withdraw (.pipe pipe id) s
      let (d, s) := match d.tmpl with
        | some t => overloadHere t 1 d s
        | none => (d, s)
      settleDesc pipe id (endPass pipe d s)
    | _, _ => s)

/-! ## Release (R37, R234, R255, R280, R283) -/

/-- The VOQs that a multicast frame enters (R308): one for each slot and egress pipeline that serves a member. Every pipeline that serves a member of
a LAG serves the LAG, and takes part in its resolution there (R309). DEDUCED, unsafe: log entry 94. -/
def State.groupVoqs (s : State) (g tc : Nat) : List Nat :=
  let ports := (tgetD s.fwd.groups g []).flatMap (fun m => if m.1 = 1 then s.lagMembers m.2 else [m.2])
  let ks := ports.filterMap (fun f =>
    match portKind f with
    | 0 => some (f / 256 % 32 * 16 + pipeOfLane (f % 256))
    | 1 => some (s.ownSlot * 16)
    | 2 => some (s.ownSlot * 16 + 1)
    | _ => none)
  ks.eraseDups.map (fun k => 65536 + k / 16 * 2048 + k % 16 * 8 + tc)

/-- The event of a released frame (R253, R255). -/
def issueLearn (pipe : Nat) (d : Desc) (s : State) : State :=
  if d.learn = .none || d.slow.isSome || !s.isReady 96 then s
  else
    let (t, p) := s.learnDest d.frame.orig
    let ev : LearnEvent :=
      { pipe := pipe, fid := d.fwd.fid, mac := srcMac d.raw, destType := t, dest := p, stamp := d.frame.stamp / 16, unsync := d.frame.unsync }
    match (s.portL2 d.frame.orig).learnMode with
    | 0 => issueEvent ev s
    | 1 => notifyEvent ev s
    | _ => s

/-- The charge of a frame moves off its pool; one in headroom stays there (R280, R299). -/
def liftCharge (f : Frame) (s : State) : State := if f.headroom then s else uncharge f s

/-- The final destination of a descriptor (R234). -/
def Desc.dest (d : Desc) : Dest :=
  if actRedir d.act then (if actRedirType d.act then .nexthop (actDest d.act) else .port (actDest d.act))
  else d.post.getD d.fwd.dest

/-- The frame of a descriptor goes to its destination (R234, R283). -/
def dispatchFrame (d : Desc) (s : State) : State :=
  let f := d.frame
  let q : QFrame := { f.queued with l3 := tget d.px.layers 2 }
  match d.slow with
  | some (reason, cause) =>
    let info : SlowInfo := { reason := reason, cause := cause, template := if cause = 0 then 0 else (d.tmpl.map TemplateP.template).getD 0, zone := f.zone }
    enqueueSlow f.region f.tc { q with slow := some info } (liftCharge f s)
  | none =>
    let usesLookup := !actRedir d.act && d.post.isNone
    let s := if usesLookup && d.fwd.same then count5 cntSamePort s else s
    let h := s.lsHash d.px f.orig f.data
    match s.target d.fwd d.dest h with
    | .drop => freeFrame f s
    | .lagEmpty => freeFrame f { s with buf.lagNoMember := inc64 s.buf.lagNoMember }
    | .port p n => enqueuePort f.region p f.tc { q with nexthop := n } (liftCharge f s)
    | .group g =>
      enqueueGroup f.region (s.groupVoqs g f.tc) { q with group := g, leaveOut := true, hash := some h } (liftCharge f s)
    | .slow r => enqueueSlow f.region f.tc { q with slow := some { reason := r, zone := f.zone } } (liftCharge f s)

/-- DESCRIPTOR_RELEASE (R37): the oldest descriptor of a port, once it waits for no result. -/
def execDescriptorRelease (pipe port : Nat) (s : State) : Host.Outcome State Fault Refusal :=
  let p := s.pipe pipe
  .next (match takeFirst (fun d => d.frame.port = port) p.desc with
    | none => s
    | some (d, rest) =>
      if d.waiting then s
      else
        let s := s.setPipe pipe { p with desc := rest }
        let a := if d.slow.isSome then slowAction 0 d.act else d.act
        dispatchFrame d (issueLearn pipe d (copies a d.frame d.raw s)))

/-! ## Originated frames (R657) -/

/-- A frame cut to no less than the shortest. DESIGN CHOICE, unsafe: log entry 63. -/
def padFrame (d : Bytes) : Bytes := if d.length < 60 then fit 60 d else d

/-- A frame stored as one of the host port's goes to the CLASS 0 VOQ of a port at once. -/
def enqueueDirect (f tc : Nat) (d : Bytes) (s : State) : State :=
  let x := s.newFrame hostPort d
  enqueuePort 0 f tc x.queued (uncharge x (chargeIngress 0 hostPort x.cells s))

/-- ORIGINATED_FRAME_ENQUEUE: the oldest frame, once the host port can charge it whole. DESIGN CHOICE, unsafe: log entry 63. -/
def execOriginatedFrameEnqueue (s : State) : Host.Outcome State Fault Refusal :=
  .next (match s.ocf.origin with
    | [] => s
    | o :: rest =>
      let d := padFrame o.data
      if !s.running || !s.ingressFits 0 hostPort (cellsOf d.length) then s
      else enqueueDirect (s.sysPort o.port) o.tc d { s with ocf.origin := rest })

/-- TCAM_SCRUB_VISIT (R81): firmware rewrites an entry that has a parity error from its own copy, which is what the entry held. -/
def execTcamScrubVisit (pipe addr : Nat) (parityError : Bool) (s : State) : Host.Outcome State Fault Refusal :=
  let p := s.pipe pipe
  .next (match (if parityError then tget p.tcam addr else none) with
    | some e => s.setPipe pipe { p with tcam := tset p.tcam addr e }
    | none => s)

end Sys2Proof.Machine
end

