-- ==== Sys2Proof/Machine/Rings.lean ====
section
/-! DEFINITION. The slow-path rings: frames written to receive rings and fetched from transmit rings (R482 to R488). -/

namespace Sys2Proof.Machine

/-- Descriptors that a ring lends the device (R481). -/
def Ring.owned (r : Ring) : Nat := (r.tail + 2 ^ r.sizeLog2 - r.head) % 2 ^ r.sizeLog2

/-- Address of a descriptor, `k` after HEAD. -/
def Ring.descAddr (r : Ring) (k : Nat) : Nat := r.base + 32 * ((r.head + k) % 2 ^ r.sizeLog2)

/-- A ring moves past `n` descriptors. -/
def Ring.advance (r : Ring) (n : Nat) : Ring := { r with head := (r.head + n) % 2 ^ r.sizeLog2 }

/-- The head frame of the host port's egress queue, its slow-path reason and its receive ring (R482). -/
def State.rxHead (s : State) : Option (TxFrame × SlowInfo × Nat) :=
  ((s.egPort hostPort).tx.head?).map (fun t =>
    let info : SlowInfo := t.frame.slow.getD { reason := 0 }
    (t, info, tgetD s.host.reasonMap info.reason 0))

/-- The bytes that each buffer takes of a frame; none where the buffers do not hold it, or one would take nothing. -/
def splitFrame : List RxBuf → Bytes → Option (List (RxBuf × Bytes))
  | [], d => if d = [] then some [] else none
  | b :: bs, d => if d = [] then none else (splitFrame bs (d.drop b.len)).map ((b, d.take b.len) :: ·)

/-- Bytes 12 to 31 of a receive descriptor, little-endian (R9, Table 11-7). -/
def rxStatus (t : TxFrame) (i : SlowInfo) (orig frag total : Nat) (first last : Bool) : Bytes :=
  leBytes 2 frag ++ leBytes 1 (1 + 2 * bit first + 4 * bit last + 8 * bit i.copy) ++ leBytes 1 i.reason ++ leBytes 2 orig ++
  leBytes 2 (if first then total else 0) ++ leBytes 1 i.cause ++ leBytes 1 (if i.cause = 0 then 0 else i.template) ++ leBytes 2 i.zone ++
  leBytes 4 (timeNs t.frame.stamp) ++ leBytes 4 (timeS t.frame.stamp % 2 ^ 32)

/-- Writes to host memory, in order. -/
def writeHost (ws : List (Nat × Bytes)) (s : State) : State := { s with out.hostWrites := s.out.hostWrites ++ ws }

/-- A DMA fault of a ring (R488). -/
def ringFault (tx : Bool) (i : Nat) (s : State) : State :=
  updatePresence (raise 115 (s.setRing tx i { s.ring tx i with en := false, fault := true }))

/-- The host port's head frame goes; the next begins. -/
def dropRxHead (t : TxFrame) (s : State) : State :=
  let e := s.egPort hostPort
  startHead hostPort (releaseTx t (s.setEgPort hostPort { e with tx := e.tx.drop 1 }))

/-- RX_FRAME_WRITE (R482, R483): the operand gives what the host wrote in the descriptors from HEAD; data, then descriptors from the last to
the first, then HEAD. DESIGN CHOICE, unsafe: log entry 62. -/
def execRxFrameWrite (bufs : RxBufs) (dmaError : Bool) (s : State) : Host.Outcome State Fault Refusal :=
  match s.rxHead with
  | none => .next s
  | some (t, info, i) =>
    let r := s.ring false i
    if !s.dmaOpen || !r.en || bufs.length > r.owned then .next s
    else match splitFrame bufs t.wire with
      | none => .next s
      | some parts =>
        if dmaError then .next (dropRxHead t (ringFault false i s))
        else
          let n := parts.length
          let orig := if t.frame.released.isSome then t.frame.orig else s.sysPort t.frame.orig
          let descs := parts.mapIdx (fun k p =>
            (r.descAddr k + 12, rxStatus t info orig p.2.length t.wire.length (k = 0) (k + 1 = n)))
          let s := writeHost (parts.map (fun p => (p.1.addr, p.2)) ++ descs.reverse) s
          let s := raise (96 + i) (s.setRing false i (r.advance n))
          .next (dropRxHead t (countTx hostPort t.frame.len (countSent t (sampleLatency t s))))

/-- RING_WAIT_EXPIRE (R484). -/
def execRingWaitExpire (s : State) : Host.Outcome State Fault Refusal :=
  match s.rxHead with
  | none => .next s
  | some (t, _, i) =>
    if !s.dmaOpen then .next s
    else
      let r := s.ring false i
      .next (dropRxHead t (raise 116 (s.setRing false i { r with drop := wrapAdd 32 r.drop 1, noDesc := true })))

/-! ## Transmit rings -/

/-- STATUS codes of Table 11-8. -/
def txAccepted : Nat := 0
def txBadLength : Nat := 1
def txDmaError : Nat := 2
def txBadFlags : Nat := 3

/-- FLAGS of a frame's descriptors: SOF on the first alone, EOF on the last alone, DIRECT with a front port and a traffic class. -/
def txFlagsOk (ds : TxDescs) : Bool :=
  ds.zipIdx.all (fun (d, k) => d.flags < 8 && d.flags.testBit 0 = decide (k = 0) && d.flags.testBit 1 = decide (k + 1 = ds.length)) &&
  match ds.head? with
  | some d => !d.flags.testBit 2 || (d.tc < 8 && portKind d.dest = 0)
  | none => false

/-- Length of a frame, and whether it is one that the device takes (R486). -/
def txLength (ds : TxDescs) : Nat := (ds.map TxDesc.len).sum
def txLengthOk (ds : TxDescs) : Bool := ds.all (fun d => 1 ≤ d.len && d.len ≤ 16348) && txLength ds ≤ 16348

/-- STATUS with DONE in every descriptor of a frame. -/
def writeTxStatus (r : Ring) (n status : Nat) (s : State) : State :=
  writeHost ((List.range n).map (fun k => (r.descAddr k + 24, beBytes 1 (1 + 2 * status)))) s

/-- The device is done with a frame: STATUS, HEAD and source 104 + i (R487). DESIGN CHOICE, unsafe: log entry 62. -/
def endTx (i n status : Nat) (s : State) : State :=
  let r := s.ring true i
  raise (104 + i) ((writeTxStatus r n status s).setRing true i (r.advance n))

/-- A transmit ring has work. -/
def State.txWork (s : State) (i : Nat) : Bool := (s.ring true i).en && (s.ring true i).owned != 0

/-- TX_FRAME_FETCH (R486, R487): rings with work take turns; the operands give the frame's descriptors and the bytes they name.
DESIGN CHOICE, unsafe: log entry 62. -/
def execTxFrameFetch (ring : Nat) (descs : TxDescs) (data : Bytes) (dmaError : Bool) (s : State) : Host.Outcome State Fault Refusal :=
  let r := s.ring true ring
  let n := descs.length
  if !s.dmaOpen || nextTurn 8 (s.host.txTurn + 1) s.txWork != some ring || n = 0 || n > r.owned then .next s
  else
    let turn (s : State) : State := { s with host.txTurn := ring }
    if dmaError then .next (turn (writeTxStatus r n txDmaError (ringFault true ring s)))
    else if !txFlagsOk descs then .next (turn (endTx ring n txBadFlags s))
    else if !txLengthOk descs then .next (turn (endTx ring n txBadLength s))
    else
      let d := padFrame (fit (txLength descs) data)
      if !s.ingressFits 0 hostPort (cellsOf d.length) then .next s
      else
        let s := turn (endTx ring n txAccepted (countRx hostPort (d.length + 4) s))
        let h := descs.headD ⟨0, 0, 0, 0, 0⟩
        .next (if h.flags.testBit 2 then enqueueDirect h.dest h.tc d s
          else match store (s.newFrame hostPort d) s with
            | (some f, s) => await 1 f s
            | (none, s) => s)

end Sys2Proof.Machine
end

