-- ==== Sys2Proof/Machine/Jobs.lean ====
section
/-! DEFINITION. Host jobs (R537 to R540), and the own part of the engine and job commands (Table 12-12). -/

namespace Sys2Proof.Machine

/-! ## JOB_SUBMIT -/

/-- START as a tick that does not wrap: an estate time, or a delay in µs. -/
def State.startTick (s : State) (p : JobSubmitP) : Nat :=
  if p.flags.testBit 0 then p.startS * 1000000 + p.startNs / 1000 else s.estateNs / 1000 + p.startNs

/-- What JOB_PARAMS of a job type must hold (Table 12-11). DEDUCED, unsafe: log entry 126. -/
def jobChecks (p : JobSubmitP) : List (Bool × Err) :=
  match p.jobType, p.job with
  | 1, .tableDump table select _ =>
    [ (table > 3, (0x01D1, 32)), ((table = 0 && select > 63) || (table = 3 && select > 4095), (0x01D1, 33)) ]
  | 2, .bulkInsert count => [ (96 * count > p.bufLen, (0x01D1, 32)) ]
  | 3, .snapshot scope => [ (scope > 15, (0x0108, 32)) ]
  | 4, .delayed _ _ => []
  | _, _ => [ (true, (0x01D1, 32)) ]

/-- Length of JOB_SUBMIT by job type (Tables 12-10 and 12-11); a type that is reserved fails a later check. -/
def jobLenOk (jobType n : Nat) : Bool :=
  if jobType = 1 then n = 44 else if jobType = 2 then n = 36 else if jobType = 3 then n = 36 else n ≥ 32 && n ≤ 16256

/-- An opcode that a delayed command may not have (R539). -/
def notDelayable (opcode : Nat) : Bool := opcode / 256 = 0x0B || opcode / 256 = 0x0D || [0x0104, 0x0105, 0x0106].contains opcode

/-- The embedded frame on its outer frame's transport, with the length of JOB_PARAMS as the data present (R539). -/
def embedded (h f : Ocf) : Ocf := { f with transport := h.transport, present := h.length - 32 }

/-- Steps 1 to 10 for an embedded frame: a status, or the key that verified it. DEDUCED, unsafe: log entry 128. -/
def embeddedGate (bodyOf : Instr → Option Body) (opcode : Nat) (f : Ocf) (cmd : Instr) (s : State) : Gate :=
  match headerError f with
  | some e => .reject e
  | none =>
    if f.isMember || notDelayable opcode then .reject 0x01D2
    else match (bodyOf cmd).filter (fun b => b.opcode = opcode) with
      | none => .reject 0x0105
      | some b => match s.gate f opcode b.changes b.toFactory with
        | .resend _ => .reject 0x0205
        | g => g

/-- The item of a host job. DESIGN CHOICE, safe: log entry 48. DESIGN CHOICE, unsafe: log entry 119. -/
def jobItem (p : JobSubmitP) (id due : Nat) : WorkItem :=
  { gen := 0, state := .delayed, engine := false, prio := p.priority, activity := 10, cls := orDefault p.energyClass 4, hostJob := true,
    due := due, entry := (Config.jobEntry p.jobType).toNat, arg := (Config.jobArg p.jobType).toNat, job := p.job, bufAddr := p.bufAddr,
    bufLen := p.bufLen, pendId := id }

/-- A job is created; the reply carries its HANDLE and GEN. -/
def createJob (i : WorkItem) (s : State) : Answer :=
  match submitItem i s with
  | none => { st := s, status := 0x0301 }
  | some (k, s) => { st := s, later := true, early := [(2, k), (2, tgetD s.eng.gens k 0)] }

/-- JOB_SUBMIT (Table 12-10, R537 to R539). DEDUCED, unsafe: log entry 128. -/
def bodyJobSubmit (bodyOf : Instr → Option Body) (h : Ocf) (p : JobSubmitP) (cmd : Instr) : Body :=
  { opcode := 0x0D01, changes := true, pending := true, lenOk := jobLenOk p.jobType
    check := fun s =>
      let onHost := match h.transport with
        | .mailbox _ => true
        | .dma _ _ _ => true
        | _ => false
      let start := if p.flags.testBit 0 then p.startNs ≥ 1000000000 else p.startS != 0
      firstOf
        [ (outside p.jobType 1 4, (0x01D1, 0)), (p.priority > 47, (0x01D1, 1)), (p.energyClass > 7, (0x01D1, 2)), (p.flags > 1, (0x0108, 3)),
          (start, (0x01D1, if p.flags.testBit 0 then 10 else 4)),
          (s.startTick p > s.estateNs / 1000 + (2 ^ 47 - 1), (0x01D1, 4)),
          (p.bufAddr % 8 != 0, (0x01D1, 16)), (p.bufLen > 268435456, (0x01D1, 24)) ]
        (jobChecks p ++ [(p.jobType != 4 && !onHost, (0x04D1, 0xFFFF))])
    apply := fun s =>
      let i := jobItem p s.ocf.nextPend (wrap 48 (max (s.startTick p) (s.estateNs / 1000)))
      match p.job with
      | .delayed opcode f =>
        let f := embedded h f
        match embeddedGate bodyOf opcode f cmd s with
        | .reject e => { st := s, status := e }
        | .badMac => { st := macFailure f s, status := 0x0201 }
        | .resend _ => { st := s, status := 0x0205 }
        | .pass key => createJob { i with job := .delayed opcode f, cmd := some cmd, frameKey := key } (recordSeq f s)
      | _ => createJob i s }

/-! ## The work of jobs -/

/-- The item of a handle is a host job that runs and has still to do its work. -/
def State.jobAt (s : State) (handle : Nat) : Option WorkItem :=
  (s.item handle).filter (fun i => i.hostJob && i.state = .running && i.ending.isNone && !i.waits)

/-- The records or blocks that a job gets to: after a cancel, the one at which it finds CANCEL_REQ (R538). -/
def reached {α : Type} (i : WorkItem) (xs : List α) : List α := if i.cancelReq then xs.take 1 else xs

/-- The first pieces that fit in a buffer. -/
def fitPrefix : Nat → List (Nat × Bytes) → List (Nat × Bytes)
  | _, [] => []
  | room, b :: bs => if b.2.length ≤ room then b :: fitPrefix (room - b.2.length) bs else []

/-- A job writes pieces to its buffer. -/
def writeJob (i : WorkItem) (ps : List (Nat × Bytes)) (s : State) : State :=
  if ps.isEmpty then s else writeHost [(i.bufAddr, ps.flatMap Prod.snd)] s

/-- The records of a table from a cursor on, with their places (R166, R274, Table 5-10). -/
def State.dumpWalk (s : State) (table select cursor : Nat) : List (Nat × Bytes) :=
  let all : List (Nat × Bytes) := match table with
    | 0 => (s.flowWalk.filter (fun e => e.2.2.img.partition = select)).map (fun e =>
        (e.1, resultBytes (recResult e.2.2.loc (s.merged e.2.1 e.2.2))))
    | 1 => s.fwd.mac.map (fun e => (e.1, beBytes 24 e.2.word))
    | 2 => s.fwd.host.map (fun e => (e.1, beBytes 24 e.2.word))
    | _ => ((s.fwd.lpm.filter (fun p => p.vrf = select)).zipIdx).map (fun e =>
        (e.2, beBytes 1 (if e.1.v6 then 6 else 4) ++ beBytes 1 e.1.len ++ beBytes 16 e.1.addr ++ beBytes 2 e.1.nexthop))
  all.filter (fun e => e.1 ≥ cursor)

/-- TABLE_DUMP: as many records as fit, then COUNT, BYTES, MORE and CURSOR. -/
def dumpTable (handle : Nat) (i : WorkItem) (table select cursor : Nat) (s : State) : State :=
  let s := if table = 1 then settleLearning s else s
  let left := s.dumpWalk table select cursor
  let got := fitPrefix i.bufLen (reached i left)
  let more := decide (got.length < left.length)
  let next := if more then ((got.getLast?).map (fun e => e.1 + 1)).getD cursor else endCursor
  endJob handle i 0 [(4, got.length), (4, (got.flatMap Prod.snd).length), (1, bit more), (3, 0), (8, next)] (writeJob i got s)

/-- TABLE_DUMP (R537, R538). DEDUCED, unsafe: log entry 126. -/
def execTableDump (handle : Nat) (s : State) : Host.Outcome State Fault Refusal :=
  .next (match s.jobAt handle with
    | none => s
    | some i => match i.job with
      | .tableDump table select cursor => if s.dmaOpen then dumpTable handle i table select cursor s else s
      | _ => s)

/-- The results of a bulk insert. -/
def BulkCount.results (c : BulkCount) : Results :=
  let (first, status) := c.first.getD (0xFFFFFFFF, 0)
  [(4, c.inserted), (4, c.existed), (4, c.failed), (4, first), (2, status), (2, 0)]

/-- Blocks of a bulk insert, each executed as FLOW_INSERT, up to one whose operation waits: the number under which it does, and what has been done. -/
def bulkBlocks : List (FlowBlock × Nat) → BulkCount → State → BulkCount × Option Nat × State
  | [], c, s => (c, none, s)
  | (b, n) :: bs, c, s =>
    match firstErr (blockChecks b s) with
    | some e => bulkBlocks bs (c.take n e.1 []) s
    | none =>
      let a := startWork b.key.partition (descKey b.key) (.put b true) s
      if a.waits.isSome then (c, a.waits.map (fun _ => n), a.st) else bulkBlocks bs (c.take n a.status a.results) a.st

/-- FLOW_BULK_INSERT (R165, R537, R538): the operand gives the blocks that the buffer holds. A block whose operation waits stops the job until that has
ended. DEDUCED, unsafe: log entry 126. -/
def execFlowBulkInsert (handle : Nat) (blocks : FlowBlocks) (s : State) : Host.Outcome State Fault Refusal :=
  .next (match s.jobAt handle with
    | none => s
    | some i => match i.job with
      | .bulkInsert count =>
        if !s.dmaOpen || blocks.length != count then s
        else
          let id := s.flow.nextCmd
          let (c, waits, s) := bulkBlocks (reached i (blocks.zipIdx.drop i.bulk.next)) i.bulk s
          let i := { i with bulk := c }
          match waits with
          | some n => { (s.setItem handle { i with waits := true }) with flow.cmds := tset s.flow.cmds id { reply := .bulk handle n } }
          | none => endJob handle i 0 c.results s
      | _ => s)

/-- The blocks of a snapshot's scope, each after what names it: ports, service counters, VOQs and policers that hold a count.
DESIGN CHOICE, unsafe: log entry 127. -/
def State.snapshotBlocks (s : State) (scope : Nat) : List (Nat × Bytes) :=
  let stamp := beBytes 6 (timeS s.time.now) ++ beBytes 4 (timeNs s.time.now)
  let blk (name : Results) (b : Body) : Nat × Bytes := (0, stamp ++ resultBytes (name ++ (b.apply s).results))
  let h : Ocf := ⟨0, 0, 0, 0, 0, 0, 0, 0, 0, 0, 0, 0, [], [], .compat, 0, none⟩
  let ports := (tkeys s.ports.cfg).map s.sysPort ++ [mgmtPort, hostPort]
  let services := (tkeys s.flow.counters).map (· / 256)
  (if scope.testBit 0 then ports.map (fun p => blk [(2, p)] (bodyPortCountersRead h p 0)) else []) ++
  (if scope.testBit 1 then services.eraseReps.map (fun k => blk [(1, k / 4), (1, k % 4)] (bodyServiceCountersRead h (k / 4) (k % 4))) else []) ++
  (if scope.testBit 2 then (tkeys s.buf.voqs).map (fun k =>
    blk [(1, voqRegion k), (4, k % 131072)] (bodyVoqCountersRead h (voqRegion k) (k % 131072) 0)) else []) ++
  (if scope.testBit 3 then (tkeys s.eg.policers).map (fun k => blk [(1, k / 65536), (2, k % 65536)] (bodyPolicerRead h (k / 65536) (k % 65536) 0))
    else [])

/-- COUNTER_SNAPSHOT (R537, R538). DESIGN CHOICE, unsafe: log entry 127. -/
def execCounterSnapshot (handle : Nat) (s : State) : Host.Outcome State Fault Refusal :=
  .next (match s.jobAt handle with
    | none => s
    | some i => match i.job with
      | .snapshot scope =>
        if !s.dmaOpen then s
        else
          let all := s.snapshotBlocks scope
          let got := fitPrefix i.bufLen (reached i all)
          endJob handle i 0 [(4, (got.flatMap Prod.snd).length), (1, bit (decide (got.length < all.length))), (3, 0)] (writeJob i got s)
      | _ => s)

/-- The effect of an embedded frame: a command that is pending has an entry of its own in the pending list. DEDUCED, unsafe: log entry 128. -/
def performDelayed (f : Ocf) (b : Body) (key : Option Bytes) (s : State) : Answer :=
  let a := b.apply s
  if b.pending && a.status = 0 then
    let p : PendCmd :=
      { opcode := b.opcode, cmd := f, sender := f.senderKey, key := key, hostGen := (s.chan f.transport.hostChannel).hostGen,
        audited := b.changes, final := if a.later then none else some (a.status, a.detail, a.results) }
    { st := { a.st with
        ocf.pend := tset a.st.ocf.pend s.ocf.nextPend p
        ocf.nextPend := s.ocf.nextPend + 1 }
      status := 0x0001
      results := a.early }
  else a

/-- Steps 12 to 14 of an embedded frame, its audit entries, and its effect (R539). -/
def runEmbedded (b : Body) (f : Ocf) (key : Option Bytes) (s : State) : Answer :=
  if b.changes && s.roles.audit.full && b.opcode != 0x0B0A then { st := s, status := 0x03B2 }
  else
    let s := if b.changes then auditCommand 0x01 b.opcode f 0 0 s else s
    let a : Answer := match ownError f b s s with
      | some e => { st := s, status := e.1, detail := e.2 }
      | none => performDelayed f b key s
    if b.changes && !okStatus a.status then { a with st := auditCommand 0x02 b.opcode f a.status 0 a.st } else a

/-- DELAYED_COMMAND (R539): a job whose cancel is seen before its frame executes has no effect; one whose flow operation waits ends with that. -/
def runDelayedJob (bodyOf : Instr → Option Body) (handle : Nat) (s : State) : State :=
  match s.jobAt handle with
  | none => s
  | some i => match i.job, i.cmd.bind bodyOf with
    | .delayed _ f, some b =>
      if i.cancelReq then endJob handle i 0 [] s
      else
        let a := runEmbedded b f i.frameKey s
        match a.st.item handle, a.waits with
        | some i, some id =>
          { (a.st.setItem handle { i with waits := true }) with
            flow.cmds := tset a.st.flow.cmds id { reply := .job handle b.opcode f b.changes } }
        | some i, none => endJob handle i 0 (embeddedResults a.status a.detail a.results) a.st
        | none, _ => a.st
    | _, _ => s

/-! ## Commands on items -/

/-- The host job that HANDLE and GEN name. -/
def State.hostJobOf (s : State) (handle gen : Nat) : Option WorkItem := (s.item handle).filter (fun i => i.hostJob && i.gen = gen)

/-- JOB_CANCEL (R527, R540). -/
def bodyJobCancel (_h : Ocf) (handle gen : Nat) : Body :=
  let open_ (s : State) : Option WorkItem := (s.hostJobOf handle gen).filter (fun i => i.state != .done && i.state != .cancelled)
  writeBody 0x0D02 4 (fun s => if (open_ s).isNone then badAt 0x04D3 0 else none)
    fun s => ((open_ s).map (fun i => cancelItem handle i s)).getD s

/-- STATE of Table 12-7. -/
def ItemState.code : ItemState → Nat
  | .delayed => 1
  | .ready => 2
  | .running => 3
  | .done => 4
  | .cancelled => 5

/-- The descriptor of an item (Table 12-7). -/
def WorkItem.descriptor (i : WorkItem) (handle : Nat) : Results :=
  [ (2, handle), (2, i.gen), (1, i.state.code), (1, 128 * bit i.engine + i.prio), (1, 16 * i.activity + i.cls),
    (1, 128 * bit i.restart + 64 * bit i.chainEn + 32 * bit i.hostJob + 16 * bit i.cancelReq + i.regionMask), (6, i.due), (2, i.entry),
    (8, i.arg), (2, i.chain), (2, i.result), (4, i.runNs) ]

/-- JOB_STATUS. DEDUCED, unsafe: log entry 128. -/
def bodyJobStatus (_h : Ocf) (handle gen : Nat) : Body :=
  readBody 0x0D03 4 (fun s => if (s.hostJobOf handle gen).isNone then badAt 0x04D3 0 else none)
    fun s => ((s.hostJobOf handle gen).map (fun i => i.descriptor handle)).getD []

/-! ## Geyser and Fumarole commands -/

/-- G_floor, in nJ per period (R531). -/
def State.gFloor (s : State) : Nat := s.power.capFloor * s.power.maintPermille * 100

/-- The classes that a write would leave. -/
def State.classesWith (s : State) (cls cost share : Nat) : List (Nat × Nat) :=
  s.eng.nextClasses.mapIdx (fun k c => if k = cls then (cost, share) else c)

/-- GEYSER_CLASS_WRITE (R528, R531). -/
def bodyGeyserClassWrite (_h : Ocf) (cls cost minShare : Nat) : Body :=
  writeBody 0x0D04 8
    (fun s =>
      let cs := s.classesWith cls cost minShare
      firstErr
        [ (outside cls 1 7, (0x01D1, 0)), (outside cost 1 65535, (0x01D1, 2)), (minShare > 1600, (0x01D1, 4)),
          (minDemand cs > s.gFloor || ((cs.drop 1).map Prod.snd).sum > 1600, (0x03D1, 0xFFFF)) ])
    fun s => { s with eng.nextClasses := s.classesWith cls cost minShare }

/-- GEYSER_ACTIVITY_WRITE (R533). -/
def bodyGeyserActivityWrite (_h : Ocf) (activity timeBudget itemLimit : Nat) : Body :=
  writeBody 0x0D05 8
    (fun _ => firstErr [(outside activity 5 15, (0x01D1, 0)), (outside itemLimit 1 10000, (0x01D1, 4))])
    fun s => { s with eng.nextActivities := s.eng.nextActivities.mapIdx (fun k a => if k = activity then ⟨timeBudget, itemLimit⟩ else a) }

/-- GEYSER_STATUS. -/
def bodyGeyserStatus (_h : Ocf) : Body :=
  readBody 0x0D06 0 (fun _ => none) fun s =>
    let e := s.eng
    let used := (e.items.filter (fun x => !s.itemGone x.2)).length
    (List.range 64).map (fun p => (4, (tgetD e.ready p []).length)) ++
    [ (4, e.delayed.length), (4, 65536 - used), (8, e.grant), (8, twos 64 e.balance), (8, minDemand e.classes), (8, s.gFloor) ] ++
    (List.range 8).flatMap (fun c => [(4, e.use.getD c 0), (8, e.deferrals.getD c 0)]) ++
    (List.range 16).flatMap (fun a => [(4, e.actUse.getD a 0), (8, e.spill.getD a 0), (8, e.overrun.getD a 0)]) ++
    [ (8, e.readyCancelled), (8, e.cancelled), (8, e.maskOverride) ]

/-- State of an engine, its cell and cluster counted. -/
def State.engineState (s : State) (e : Nat) : EngineState :=
  if s.boot.retired.contains (5, e) then .retired else if !s.isReady (80 + e / 8) then .off else (s.engine e).state

/-- The codes of FUM_STATUS, in the order that it names the states. -/
def EngineState.code : EngineState → Nat
  | .idle => 0
  | .running => 1
  | .waiting => 2
  | .stopped => 3
  | .retired => 4
  | .off => 5

/-- FUM_STATUS (R517). -/
def bodyFumStatus (_h : Ocf) : Body :=
  readBody 0x0D07 0 (fun _ => none) fun s =>
    (List.range 32).flatMap (fun n =>
      let e := s.engine n
      let (cause, upc, nano, handle) := e.record.getD (0, 0, 0, 0)
      [(1, (s.engineState n).code), (4, e.parityRetry), (4, e.checks), (1, cause), (2, upc), (2, nano), (2, handle)])

end Sys2Proof.Machine
end

