-- ==== Sys2Proof/Machine/Staging.lean ====
section
/-! DEFINITION. The own part of each command as a member of a commit group and as the frame of a delayed command: every command but
SYS_GROUP_COMMIT and JOB_SUBMIT, which R428 and R539 let be neither. -/

namespace Sys2Proof.Machine

/-- The own part of a command that a group or a delayed command may hold. -/
def bodyOf : Instr → Option Body
  | .parseStateWrite h pipeMask state entry => some (bodyParseStateWrite h pipeMask state entry)
  | .parseGraphCommit h pipeMask => some (bodyParseGraphCommit h pipeMask)
  | .parseStateRead h pipe state shadow => some (bodyParseStateRead h pipe state shadow)
  | .keyProfileWrite h pipeMask profile selectors => some (bodyKeyProfileWrite h pipeMask profile selectors)
  | .searchProfileWrite h pipeMask profile word => some (bodySearchProfileWrite h pipeMask profile word)
  | .portClassMapWrite h port map => some (bodyPortClassMapWrite h port map)
  | .portDefaultsWrite h p => some (bodyPortDefaultsWrite h p)
  | .controlMatchWrite h p => some (bodyControlMatchWrite h p)
  | .bankModeWrite h pipeMask pair mode => some (bodyBankModeWrite h pipeMask pair mode)
  | .listCreate h p => some (bodyListCreate h p)
  | .listDelete h pipeMask list => some (bodyListDelete h pipeMask list)
  | .ruleInsert h p => some (bodyRuleInsert h p)
  | .ruleDelete h handle => some (bodyRuleDelete h handle)
  | .ruleActionWrite h handle action => some (bodyRuleActionWrite h handle action)
  | .ruleRead h handle pipe => some (bodyRuleRead h handle pipe)
  | .listRespace h pipeMask list spacing => some (bodyListRespace h pipeMask list spacing)
  | .tcamRawWrite h p => some (bodyTcamRawWrite h p)
  | .tcamRawRead h pipe addr => some (bodyTcamRawRead h pipe addr)
  | .recircConfig h pipeMask slots => some (bodyRecircConfig h pipeMask slots)
  | .mirrorSessionWrite h p => some (bodyMirrorSessionWrite h p)
  | .parseCountersRead h port clear => some (bodyParseCountersRead h port clear)
  | .partitionCreate h p => some (bodyPartitionCreate h p)
  | .partitionDelete h partition => some (bodyPartitionDelete h partition)
  | .partitionRead h partition => some (bodyPartitionRead h partition)
  | .flowInsert h b => some (bodyFlowInsert h b)
  | .flowUpdate h b => some (bodyFlowUpdate h b)
  | .flowRead h key settle => some (bodyFlowRead h key settle)
  | .flowDelete h key => some (bodyFlowDelete h key)
  | .flowSearchNext h p => some (bodyFlowSearchNext h p)
  | .flowFlush h p => some (bodyFlowFlush h p)
  | .ageClassWrite h cls timeout => some (bodyAgeClassWrite h cls timeout)
  | .sweepConfig h partition sweepPeriod => some (bodySweepConfig h partition sweepPeriod)
  | .flowTableStatus h => some (bodyFlowTableStatus h)
  | .flowTemplateWrite h t => some (bodyFlowTemplateWrite h t)
  | .flowTemplateRead h template => some (bodyFlowTemplateRead h template)
  | .natPoolWrite h p => some (bodyNatPoolWrite h p)
  | .natPoolAddrWrite h p => some (bodyNatPoolAddrWrite h p)
  | .natPoolDelete h pool => some (bodyNatPoolDelete h pool)
  | .natPoolStatus h pool => some (bodyNatPoolStatus h pool)
  | .lbPoolWrite h p => some (bodyLbPoolWrite h p)
  | .lbBackendWrite h p => some (bodyLbBackendWrite h p)
  | .lbPoolCommit h pool => some (bodyLbPoolCommit h pool)
  | .lbPoolRead h pool => some (bodyLbPoolRead h pool)
  | .groupHomeWrite h p => some (bodyGroupHomeWrite h p)
  | .exportProfileWrite h p => some (bodyExportProfileWrite h p)
  | .exportStatus h profile => some (bodyExportStatus h profile)
  | .serviceCountersRead h template region => some (bodyServiceCountersRead h template region)
  | .vlanWrite h vid entry => some (bodyVlanWrite h vid entry)
  | .portL2Write h port defaultVid learnMode => some (bodyPortL2Write h port defaultVid learnMode)
  | .l2TableConfig h p => some (bodyL2TableConfig h p)
  | .l2EntryWrite h p => some (bodyL2EntryWrite h p)
  | .l2EntryDelete h fid mac => some (bodyL2EntryDelete h fid mac)
  | .l2EntryRead h fid mac => some (bodyL2EntryRead h fid mac)
  | .l2SearchNext h cursor filter => some (bodyL2SearchNext h cursor filter)
  | .l2Flush h filter => some (bodyL2Flush h filter)
  | .l2Unpin h fid mac => some (bodyL2Unpin h fid mac)
  | .lagWrite h lag members => some (bodyLagWrite h lag members)
  | .mcastGroupWrite h group members => some (bodyMcastGroupWrite h group members)
  | .l2LearnShareConfig h p => some (bodyL2LearnShareConfig h p)
  | .deviceReachWrite h device destType dest => some (bodyDeviceReachWrite h device destType dest)
  | .l2LearnNotifyRead h count => some (bodyL2LearnNotifyRead h count)
  | .l2Status h => some (bodyL2Status h)
  | .learnMessage h m => some (bodyLearnMessage h m)
  | .routerMacWrite h index valid mac => some (bodyRouterMacWrite h index valid mac)
  | .vrfWrite h p => some (bodyVrfWrite h p)
  | .nexthopWrite h p => some (bodyNexthopWrite h p)
  | .ecmpMembersWrite h base members => some (bodyEcmpMembersWrite h base members)
  | .hostEntryWrite h p => some (bodyHostEntryWrite h p)
  | .hostEntryDelete h vrf family addr => some (bodyHostEntryDelete h vrf family addr)
  | .hostEntryRead h vrf family addr => some (bodyHostEntryRead h vrf family addr)
  | .hostSearchNext h cursor clearHit => some (bodyHostSearchNext h cursor clearHit)
  | .lpmRouteAdd h vrf routes => some (bodyLpmRouteAdd h vrf routes)
  | .lpmRouteReplace h vrf routes => some (bodyLpmRouteReplace h vrf routes)
  | .lpmRouteDelete h vrf routes => some (bodyLpmRouteDelete h vrf routes)
  | .lpmRouteNext h vrf cursor count => some (bodyLpmRouteNext h vrf cursor count)
  | .l3Status h => some (bodyL3Status h)
  | .bufProfileWrite h p => some (bodyBufProfileWrite h p)
  | .voqProfileMap h start count profile => some (bodyVoqProfileMap h start count profile)
  | .bufRegionWrite h p => some (bodyBufRegionWrite h p)
  | .portPfcWrite h p => some (bodyPortPfcWrite h p)
  | .portLingerWrite h port linger => some (bodyPortLingerWrite h port linger)
  | .bufCommit h => some (bodyBufCommit h)
  | .voqStatus h region voq => some (bodyVoqStatus h region voq)
  | .voqCountersRead h region voq clear => some (bodyVoqCountersRead h region voq clear)
  | .bufStatus h => some (bodyBufStatus h)
  | .fabricConfig h p => some (bodyFabricConfig h p)
  | .fabricLinkWrite h p => some (bodyFabricLinkWrite h p)
  | .fabricStatus h => some (bodyFabricStatus h)
  | .fabricCountersRead h clear => some (bodyFabricCountersRead h clear)
  | .portSchedWrite h p => some (bodyPortSchedWrite h p)
  | .queueShaperWrite h p => some (bodyQueueShaperWrite h p)
  | .gateListWrite h port start entries => some (bodyGateListWrite h port start entries)
  | .gateConfigWrite h p => some (bodyGateConfigWrite h p)
  | .gateStatus h port => some (bodyGateStatus h port)
  | .egressCountersRead h port clear => some (bodyEgressCountersRead h port clear)
  | .policerWrite h p => some (bodyPolicerWrite h p)
  | .policerRead h region policer clear => some (bodyPolicerRead h region policer clear)
  | .hwmRead h p => some (bodyHwmRead h p)
  | .hbmBudgetWrite h p => some (bodyHbmBudgetWrite h p)
  | .hbmBudgetRead h => some (bodyHbmBudgetRead h)
  | .hbmStatus h => some (bodyHbmStatus h)
  | .hbmScrubConfig h scrubPeriod => some (bodyHbmScrubConfig h scrubPeriod)
  | .hbmPcRetire h pc => some (bodyHbmPcRetire h pc)
  | .sysIdentity h => some (bodySysIdentity h)
  | .sysStatus h => some (bodySysStatus h)
  | .sysEcho h => some (bodySysEcho h)
  | .sysGroupOpen h timeout => some (bodySysGroupOpen h timeout)
  | .sysGroupAbort h => some (bodySysGroupAbort h)
  | .sysCompletionAck h tags => some (bodySysCompletionAck h tags)
  | .sysPendingRead h => some (bodySysPendingRead h)
  | .sysIntakeConfig h p => some (bodySysIntakeConfig h p)
  | .sysDeviceIdWrite h deviceId flashOk => some (bodySysDeviceIdWrite h deviceId flashOk)
  | .sysReset h scope => some (bodySysReset h scope)
  | .portConfig h p => some (bodyPortConfig h p)
  | .portStatus h port => some (bodyPortStatus h port)
  | .portCountersRead h port clear => some (bodyPortCountersRead h port clear)
  | .portAdmin h port adminUp => some (bodyPortAdmin h port adminUp)
  | .portOpticsAccess h p => some (bodyPortOpticsAccess h p)
  | .diagPrbs h p => some (bodyDiagPrbs h p)
  | .diagLoopback h port mode => some (bodyDiagLoopback h port mode)
  | .diagEyeScan h port lane measured => some (bodyDiagEyeScan h port lane measured)
  | .diagRegRead h addr count => some (bodyDiagRegRead h addr count)
  | .diagErrorInject h p => some (bodyDiagErrorInject h p)
  | .diagMemTest h memory failing => some (bodyDiagMemTest h memory failing)
  | .secKeyWrite h p => some (bodySecKeyWrite h p)
  | .secKeyClear h role keyId flashOk => some (bodySecKeyClear h role keyId flashOk)
  | .secKeyStatus h => some (bodySecKeyStatus h)
  | .secHostAccess h hostAccess flashOk => some (bodySecHostAccess h hostAccess flashOk)
  | .secLifecycleSet h target serial burnOk => some (bodySecLifecycleSet h target serial burnOk)
  | .secFwWrite h p => some (bodySecFwWrite h p)
  | .secFwActivate h raiseFloor flashOk => some (bodySecFwActivate h raiseFloor flashOk)
  | .secFwStatus h => some (bodySecFwStatus h)
  | .auditRead h from_ count => some (bodyAuditRead h from_ count)
  | .auditAck h upto => some (bodyAuditAck h upto)
  | .auditConfig h auditHold flashOk => some (bodyAuditConfig h auditHold flashOk)
  | .jobCancel h handle gen => some (bodyJobCancel h handle gen)
  | .jobStatus h handle gen => some (bodyJobStatus h handle gen)
  | .geyserClassWrite h cls cost minShare => some (bodyGeyserClassWrite h cls cost minShare)
  | .geyserActivityWrite h activity timeBudget itemLimit => some (bodyGeyserActivityWrite h activity timeBudget itemLimit)
  | .geyserStatus h => some (bodyGeyserStatus h)
  | .fumStatus h => some (bodyFumStatus h)
  | .pwrModeSet h mode profile drain => some (bodyPwrModeSet h mode profile drain)
  | .pwrCapSet h cap flashOk => some (bodyPwrCapSet h cap flashOk)
  | .pwrLimitsSet h p => some (bodyPwrLimitsSet h p)
  | .pwrReducedProfileWrite h p => some (bodyPwrReducedProfileWrite h p)
  | .pwrScheduleWrite h p => some (bodyPwrScheduleWrite h p)
  | .pwrWakeConfig h wakeInputs => some (bodyPwrWakeConfig h wakeInputs)
  | .pwrStatus h => some (bodyPwrStatus h)
  | .timeSourceConfig h p => some (bodyTimeSourceConfig h p)
  | .timeSet h p => some (bodyTimeSet h p)
  | .timeStatus h => some (bodyTimeStatus h)
  | .ptpClockConfig h p => some (bodyPtpClockConfig h p)
  | .ptpPortConfig h p => some (bodyPtpPortConfig h p)
  | .ptpStatus h => some (bodyPtpStatus h)
  | .timeOutputWrite h p => some (bodyTimeOutputWrite h p)
  | .eventStampRead h => some (bodyEventStampRead h)
  | .lldpConfig h p => some (bodyLldpConfig h p)
  | .discoveryRead h table from_ count => some (bodyDiscoveryRead h table from_ count)
  | .domainConfig h domainId memberTtl hostless => some (bodyDomainConfig h domainId memberTtl hostless)
  | .opticsSlotWrite h p => some (bodyOpticsSlotWrite h p)
  | .opticsStatus h => some (bodyOpticsStatus h)
  | .faultStatus h => some (bodyFaultStatus h)
  | .faultPolicyWrite h kind n windowMs => some (bodyFaultPolicyWrite h kind n windowMs)
  | .faultLogRead h from_ count => some (bodyFaultLogRead h from_ count)
  | .hwRetire h p => some (bodyHwRetire h p)
  | .faultRecordClear h => some (bodyFaultRecordClear h)
  | _ => none

end Sys2Proof.Machine
end

