-- ==== Sys2Proof/Machine/Commands.lean ====
section
/-! DEFINITION. The meaning of each row that is an Ohmed command: the checks and records of R413 around its own part. -/

namespace Sys2Proof.Machine

/-- A command that waits for its flow operation. -/
def State.flowCmdOf (s : State) (opcode : Nat) (f : Ocf) : Option Nat :=
  (s.flow.cmds.find? (fun e => match e.2.reply with
    | .frame o h _ _ _ => o = opcode && h = f
    | _ => false)).map Prod.fst

/-- COMMAND_TIMEOUT (R656): a frame in the intake, or a command that waits for a replica or for a flow operation, whose execution reaches 1 s is
abandoned and answered HW_TIMEOUT; what it has written stays. -/
def execCommandTimeout (opcode : Nat) (f : Ocf) (s : State) : Host.Outcome State Fault Refusal :=
  if !s.accepts then .next s
  else match s.ocf.tableWaits.find? (fun w => w.opcode = opcode && w.cmd = f && w.pend = none) with
  | some w =>
    .next (endTableWait { w with status := 0x0502, detail := 0xFFFF, results := [] } { s with ocf.tableWaits := s.ocf.tableWaits.erase w })
  | none =>
  match s.flowCmdOf opcode f with
  | some id => .next (endFlowCmd id 0x0502 [] (abandon id s))
  | none =>
  if !s.ocf.intake.any (fun e => e.opcode = opcode && e.cmd = f) then .next s
  else
    let changes := !readOpcodes.contains opcode
    let b : Body := { opcode, changes, apply := fun s => { st := s } }
    let (gen, s) := takeIntake opcode f s
    match s.gate f opcode changes false with
    | .pass key =>
      let s := recordSeq f s
      .next (conclude f b key gen 0x0502 0xFFFF [] (if b.audited f then auditCommand 0x01 opcode f 0 0 s else s))
    | .reject st => .next (rejectFrame opcode f st s)
    | .badMac => .next (rejectFrame opcode f 0x0201 (macFailure f s))
    | .resend k => .next (resend k f gen s)

/-- PARSE_STATE_WRITE (R50). -/
def execParseStateWrite (h : Ocf) (pipeMask : Nat) (state : Nat) (entry : ParseState) (s : State) : Host.Outcome State Fault Refusal :=
  .next (ocfRun bodyOf (.parseStateWrite h pipeMask state entry) h (bodyParseStateWrite h pipeMask state entry) s)

/-- PARSE_GRAPH_COMMIT (R51). -/
def execParseGraphCommit (h : Ocf) (pipeMask : Nat) (s : State) : Host.Outcome State Fault Refusal :=
  .next (ocfRun bodyOf (.parseGraphCommit h pipeMask) h (bodyParseGraphCommit h pipeMask) s)

/-- PARSE_STATE_READ (R661). -/
def execParseStateRead (h : Ocf) (pipe : Nat) (state : Nat) (shadow : Nat) (s : State) : Host.Outcome State Fault Refusal :=
  .next (ocfRun bodyOf (.parseStateRead h pipe state shadow) h (bodyParseStateRead h pipe state shadow) s)

/-- KEY_PROFILE_WRITE (R76). -/
def execKeyProfileWrite (h : Ocf) (pipeMask : Nat) (profile : Nat) (selectors : List Nat) (s : State) : Host.Outcome State Fault Refusal :=
  .next (ocfRun bodyOf (.keyProfileWrite h pipeMask profile selectors) h (bodyKeyProfileWrite h pipeMask profile selectors) s)

/-- SEARCH_PROFILE_WRITE (R76). -/
def execSearchProfileWrite (h : Ocf) (pipeMask : Nat) (profile : Nat) (word : Nat) (s : State) : Host.Outcome State Fault Refusal :=
  .next (ocfRun bodyOf (.searchProfileWrite h pipeMask profile word) h (bodySearchProfileWrite h pipeMask profile word) s)

/-- PORT_CLASS_MAP_WRITE (R71). -/
def execPortClassMapWrite (h : Ocf) (port : Nat) (map : List Nat) (s : State) : Host.Outcome State Fault Refusal :=
  .next (ocfRun bodyOf (.portClassMapWrite h port map) h (bodyPortClassMapWrite h port map) s)

/-- PORT_DEFAULTS_WRITE (R89). -/
def execPortDefaultsWrite (h : Ocf) (p : PortDefaultsWriteP) (s : State) : Host.Outcome State Fault Refusal :=
  .next (ocfRun bodyOf (.portDefaultsWrite h p) h (bodyPortDefaultsWrite h p) s)

/-- CONTROL_MATCH_WRITE (R67). -/
def execControlMatchWrite (h : Ocf) (p : ControlMatchWriteP) (s : State) : Host.Outcome State Fault Refusal :=
  .next (ocfRun bodyOf (.controlMatchWrite h p) h (bodyControlMatchWrite h p) s)

/-- BANK_MODE_WRITE (R75). -/
def execBankModeWrite (h : Ocf) (pipeMask : Nat) (pair : Nat) (mode : Nat) (s : State) : Host.Outcome State Fault Refusal :=
  .next (ocfRun bodyOf (.bankModeWrite h pipeMask pair mode) h (bodyBankModeWrite h pipeMask pair mode) s)

/-- LIST_CREATE (R82). -/
def execListCreate (h : Ocf) (p : ListCreateP) (s : State) : Host.Outcome State Fault Refusal :=
  .next (ocfRun bodyOf (.listCreate h p) h (bodyListCreate h p) s)

/-- LIST_DELETE (R661). -/
def execListDelete (h : Ocf) (pipeMask : Nat) (list : Nat) (s : State) : Host.Outcome State Fault Refusal :=
  .next (ocfRun bodyOf (.listDelete h pipeMask list) h (bodyListDelete h pipeMask list) s)

/-- RULE_INSERT (R84). -/
def execRuleInsert (h : Ocf) (p : RuleInsertP) (s : State) : Host.Outcome State Fault Refusal :=
  .next (ocfRun bodyOf (.ruleInsert h p) h (bodyRuleInsert h p) s)

/-- RULE_DELETE (R85). -/
def execRuleDelete (h : Ocf) (handle : Nat) (s : State) : Host.Outcome State Fault Refusal :=
  .next (ocfRun bodyOf (.ruleDelete h handle) h (bodyRuleDelete h handle) s)

/-- RULE_ACTION_WRITE (R80). -/
def execRuleActionWrite (h : Ocf) (handle : Nat) (action : Nat) (s : State) : Host.Outcome State Fault Refusal :=
  .next (ocfRun bodyOf (.ruleActionWrite h handle action) h (bodyRuleActionWrite h handle action) s)

/-- RULE_READ (R98). -/
def execRuleRead (h : Ocf) (handle : Nat) (pipe : Nat) (s : State) : Host.Outcome State Fault Refusal :=
  .next (ocfRun bodyOf (.ruleRead h handle pipe) h (bodyRuleRead h handle pipe) s)

/-- LIST_RESPACE (R83). -/
def execListRespace (h : Ocf) (pipeMask : Nat) (list : Nat) (spacing : Nat) (s : State) : Host.Outcome State Fault Refusal :=
  .next (ocfRun bodyOf (.listRespace h pipeMask list spacing) h (bodyListRespace h pipeMask list spacing) s)

/-- TCAM_RAW_WRITE (R79). -/
def execTcamRawWrite (h : Ocf) (p : TcamRawWriteP) (s : State) : Host.Outcome State Fault Refusal :=
  .next (ocfRun bodyOf (.tcamRawWrite h p) h (bodyTcamRawWrite h p) s)

/-- TCAM_RAW_READ (R100). -/
def execTcamRawRead (h : Ocf) (pipe : Nat) (addr : Nat) (s : State) : Host.Outcome State Fault Refusal :=
  .next (ocfRun bodyOf (.tcamRawRead h pipe addr) h (bodyTcamRawRead h pipe addr) s)

/-- RECIRC_CONFIG (R46). -/
def execRecircConfig (h : Ocf) (pipeMask : Nat) (slots : Nat) (s : State) : Host.Outcome State Fault Refusal :=
  .next (ocfRun bodyOf (.recircConfig h pipeMask slots) h (bodyRecircConfig h pipeMask slots) s)

/-- MIRROR_SESSION_WRITE (R90). -/
def execMirrorSessionWrite (h : Ocf) (p : MirrorSessionWriteP) (s : State) : Host.Outcome State Fault Refusal :=
  .next (ocfRun bodyOf (.mirrorSessionWrite h p) h (bodyMirrorSessionWrite h p) s)

/-- PARSE_COUNTERS_READ (R65). -/
def execParseCountersRead (h : Ocf) (port : Nat) (clear : Nat) (s : State) : Host.Outcome State Fault Refusal :=
  .next (ocfRun bodyOf (.parseCountersRead h port clear) h (bodyParseCountersRead h port clear) s)

/-- PARTITION_CREATE (R103). -/
def execPartitionCreate (h : Ocf) (p : PartitionCreateP) (s : State) : Host.Outcome State Fault Refusal :=
  .next (ocfRun bodyOf (.partitionCreate h p) h (bodyPartitionCreate h p) s)

/-- PARTITION_DELETE (R154). -/
def execPartitionDelete (h : Ocf) (partition : Nat) (s : State) : Host.Outcome State Fault Refusal :=
  .next (ocfRun bodyOf (.partitionDelete h partition) h (bodyPartitionDelete h partition) s)

/-- PARTITION_READ (R103). -/
def execPartitionRead (h : Ocf) (partition : Nat) (s : State) : Host.Outcome State Fault Refusal :=
  .next (ocfRun bodyOf (.partitionRead h partition) h (bodyPartitionRead h partition) s)

/-- FLOW_INSERT (R165). -/
def execFlowInsert (h : Ocf) (b : FlowBlock) (s : State) : Host.Outcome State Fault Refusal :=
  .next (ocfRun bodyOf (.flowInsert h b) h (bodyFlowInsert h b) s)

/-- FLOW_UPDATE (R165). -/
def execFlowUpdate (h : Ocf) (b : FlowBlock) (s : State) : Host.Outcome State Fault Refusal :=
  .next (ocfRun bodyOf (.flowUpdate h b) h (bodyFlowUpdate h b) s)

/-- FLOW_READ (R152). -/
def execFlowRead (h : Ocf) (key : KeyDesc) (settle : Nat) (s : State) : Host.Outcome State Fault Refusal :=
  .next (ocfRun bodyOf (.flowRead h key settle) h (bodyFlowRead h key settle) s)

/-- FLOW_DELETE (R154). -/
def execFlowDelete (h : Ocf) (key : KeyDesc) (s : State) : Host.Outcome State Fault Refusal :=
  .next (ocfRun bodyOf (.flowDelete h key) h (bodyFlowDelete h key) s)

/-- FLOW_SEARCH_NEXT (R166). -/
def execFlowSearchNext (h : Ocf) (p : FlowSearchNextP) (s : State) : Host.Outcome State Fault Refusal :=
  .next (ocfRun bodyOf (.flowSearchNext h p) h (bodyFlowSearchNext h p) s)

/-- FLOW_FLUSH (R167). -/
def execFlowFlush (h : Ocf) (p : FlowFlushP) (s : State) : Host.Outcome State Fault Refusal :=
  .next (ocfRun bodyOf (.flowFlush h p) h (bodyFlowFlush h p) s)

/-- AGE_CLASS_WRITE (R155). -/
def execAgeClassWrite (h : Ocf) (cls : Nat) (timeout : Nat) (s : State) : Host.Outcome State Fault Refusal :=
  .next (ocfRun bodyOf (.ageClassWrite h cls timeout) h (bodyAgeClassWrite h cls timeout) s)

/-- SWEEP_CONFIG (R157). -/
def execSweepConfig (h : Ocf) (partition : Nat) (sweepPeriod : Nat) (s : State) : Host.Outcome State Fault Refusal :=
  .next (ocfRun bodyOf (.sweepConfig h partition sweepPeriod) h (bodySweepConfig h partition sweepPeriod) s)

/-- FLOW_TABLE_STATUS (R158). -/
def execFlowTableStatus (h : Ocf) (s : State) : Host.Outcome State Fault Refusal :=
  .next (ocfRun bodyOf (.flowTableStatus h) h (bodyFlowTableStatus h) s)

/-- FLOW_TEMPLATE_WRITE (R169). -/
def execFlowTemplateWrite (h : Ocf) (t : TemplateP) (s : State) : Host.Outcome State Fault Refusal :=
  .next (ocfRun bodyOf (.flowTemplateWrite h t) h (bodyFlowTemplateWrite h t) s)

/-- FLOW_TEMPLATE_READ (R168). -/
def execFlowTemplateRead (h : Ocf) (template : Nat) (s : State) : Host.Outcome State Fault Refusal :=
  .next (ocfRun bodyOf (.flowTemplateRead h template) h (bodyFlowTemplateRead h template) s)

/-- NAT_POOL_WRITE (R199). -/
def execNatPoolWrite (h : Ocf) (p : NatPoolWriteP) (s : State) : Host.Outcome State Fault Refusal :=
  .next (ocfRun bodyOf (.natPoolWrite h p) h (bodyNatPoolWrite h p) s)

/-- NAT_POOL_ADDR_WRITE (R198). -/
def execNatPoolAddrWrite (h : Ocf) (p : NatPoolAddrWriteP) (s : State) : Host.Outcome State Fault Refusal :=
  .next (ocfRun bodyOf (.natPoolAddrWrite h p) h (bodyNatPoolAddrWrite h p) s)

/-- NAT_POOL_DELETE (R203). -/
def execNatPoolDelete (h : Ocf) (pool : Nat) (s : State) : Host.Outcome State Fault Refusal :=
  .next (ocfRun bodyOf (.natPoolDelete h pool) h (bodyNatPoolDelete h pool) s)

/-- NAT_POOL_STATUS (R203). -/
def execNatPoolStatus (h : Ocf) (pool : Nat) (s : State) : Host.Outcome State Fault Refusal :=
  .next (ocfRun bodyOf (.natPoolStatus h pool) h (bodyNatPoolStatus h pool) s)

/-- LB_POOL_WRITE (R205). -/
def execLbPoolWrite (h : Ocf) (p : LbPoolWriteP) (s : State) : Host.Outcome State Fault Refusal :=
  .next (ocfRun bodyOf (.lbPoolWrite h p) h (bodyLbPoolWrite h p) s)

/-- LB_BACKEND_WRITE (R206). -/
def execLbBackendWrite (h : Ocf) (p : LbBackendWriteP) (s : State) : Host.Outcome State Fault Refusal :=
  .next (ocfRun bodyOf (.lbBackendWrite h p) h (bodyLbBackendWrite h p) s)

/-- LB_POOL_COMMIT (R208). -/
def execLbPoolCommit (h : Ocf) (pool : Nat) (s : State) : Host.Outcome State Fault Refusal :=
  .next (ocfRun bodyOf (.lbPoolCommit h pool) h (bodyLbPoolCommit h pool) s)

/-- LB_POOL_READ (R205). -/
def execLbPoolRead (h : Ocf) (pool : Nat) (s : State) : Host.Outcome State Fault Refusal :=
  .next (ocfRun bodyOf (.lbPoolRead h pool) h (bodyLbPoolRead h pool) s)

/-- GROUP_HOME_WRITE (R220). -/
def execGroupHomeWrite (h : Ocf) (p : GroupHomeWriteP) (s : State) : Host.Outcome State Fault Refusal :=
  .next (ocfRun bodyOf (.groupHomeWrite h p) h (bodyGroupHomeWrite h p) s)

/-- EXPORT_PROFILE_WRITE (R222). -/
def execExportProfileWrite (h : Ocf) (p : ExportProfileWriteP) (s : State) : Host.Outcome State Fault Refusal :=
  .next (ocfRun bodyOf (.exportProfileWrite h p) h (bodyExportProfileWrite h p) s)

/-- EXPORT_STATUS (R227). -/
def execExportStatus (h : Ocf) (profile : Nat) (s : State) : Host.Outcome State Fault Refusal :=
  .next (ocfRun bodyOf (.exportStatus h profile) h (bodyExportStatus h profile) s)

/-- SERVICE_COUNTERS_READ (R185). -/
def execServiceCountersRead (h : Ocf) (template : Nat) (region : Nat) (s : State) : Host.Outcome State Fault Refusal :=
  .next (ocfRun bodyOf (.serviceCountersRead h template region) h (bodyServiceCountersRead h template region) s)

/-- VLAN_WRITE (R229). -/
def execVlanWrite (h : Ocf) (vid : Nat) (entry : Nat) (s : State) : Host.Outcome State Fault Refusal :=
  .next (ocfRun bodyOf (.vlanWrite h vid entry) h (bodyVlanWrite h vid entry) s)

/-- PORT_L2_WRITE (R253). -/
def execPortL2Write (h : Ocf) (port : Nat) (defaultVid : Nat) (learnMode : Nat) (s : State) : Host.Outcome State Fault Refusal :=
  .next (ocfRun bodyOf (.portL2Write h port defaultVid learnMode) h (bodyPortL2Write h port defaultVid learnMode) s)

/-- L2_TABLE_CONFIG (R238). -/
def execL2TableConfig (h : Ocf) (p : L2TableConfigP) (s : State) : Host.Outcome State Fault Refusal :=
  .next (ocfRun bodyOf (.l2TableConfig h p) h (bodyL2TableConfig h p) s)

/-- L2_ENTRY_WRITE (R237). -/
def execL2EntryWrite (h : Ocf) (p : L2EntryWriteP) (s : State) : Host.Outcome State Fault Refusal :=
  .next (ocfRun bodyOf (.l2EntryWrite h p) h (bodyL2EntryWrite h p) s)

/-- L2_ENTRY_DELETE (R258). -/
def execL2EntryDelete (h : Ocf) (fid : Nat) (mac : Nat) (s : State) : Host.Outcome State Fault Refusal :=
  .next (ocfRun bodyOf (.l2EntryDelete h fid mac) h (bodyL2EntryDelete h fid mac) s)

/-- L2_ENTRY_READ (R273). -/
def execL2EntryRead (h : Ocf) (fid : Nat) (mac : Nat) (s : State) : Host.Outcome State Fault Refusal :=
  .next (ocfRun bodyOf (.l2EntryRead h fid mac) h (bodyL2EntryRead h fid mac) s)

/-- L2_SEARCH_NEXT (R274). -/
def execL2SearchNext (h : Ocf) (cursor : Nat) (filter : FlushFilter) (s : State) : Host.Outcome State Fault Refusal :=
  .next (ocfRun bodyOf (.l2SearchNext h cursor filter) h (bodyL2SearchNext h cursor filter) s)

/-- L2_FLUSH (R275). -/
def execL2Flush (h : Ocf) (filter : FlushFilter) (s : State) : Host.Outcome State Fault Refusal :=
  .next (ocfRun bodyOf (.l2Flush h filter) h (bodyL2Flush h filter) s)

/-- L2_UNPIN (R263). -/
def execL2Unpin (h : Ocf) (fid : Nat) (mac : Nat) (s : State) : Host.Outcome State Fault Refusal :=
  .next (ocfRun bodyOf (.l2Unpin h fid mac) h (bodyL2Unpin h fid mac) s)

/-- LAG_WRITE (R251). -/
def execLagWrite (h : Ocf) (lag : Nat) (members : List Nat) (s : State) : Host.Outcome State Fault Refusal :=
  .next (ocfRun bodyOf (.lagWrite h lag members) h (bodyLagWrite h lag members) s)

/-- MCAST_GROUP_WRITE (R309). -/
def execMcastGroupWrite (h : Ocf) (group : Nat) (members : McastMembers) (s : State) : Host.Outcome State Fault Refusal :=
  .next (ocfRun bodyOf (.mcastGroupWrite h group members) h (bodyMcastGroupWrite h group members) s)

/-- L2_LEARN_SHARE_CONFIG (R264). -/
def execL2LearnShareConfig (h : Ocf) (p : L2LearnShareConfigP) (s : State) : Host.Outcome State Fault Refusal :=
  .next (ocfRun bodyOf (.l2LearnShareConfig h p) h (bodyL2LearnShareConfig h p) s)

/-- DEVICE_REACH_WRITE (R252). -/
def execDeviceReachWrite (h : Ocf) (device : Nat) (destType : Nat) (dest : Nat) (s : State) : Host.Outcome State Fault Refusal :=
  .next (ocfRun bodyOf (.deviceReachWrite h device destType dest) h (bodyDeviceReachWrite h device destType dest) s)

/-- L2_LEARN_NOTIFY_READ (R253). -/
def execL2LearnNotifyRead (h : Ocf) (count : Nat) (s : State) : Host.Outcome State Fault Refusal :=
  .next (ocfRun bodyOf (.l2LearnNotifyRead h count) h (bodyL2LearnNotifyRead h count) s)

/-- L2_STATUS (R257). -/
def execL2Status (h : Ocf) (s : State) : Host.Outcome State Fault Refusal :=
  .next (ocfRun bodyOf (.l2Status h) h (bodyL2Status h) s)

/-- LEARN_MESSAGE (R265). -/
def execLearnMessage (h : Ocf) (m : LearnMessageP) (s : State) : Host.Outcome State Fault Refusal :=
  .next (ocfRun bodyOf (.learnMessage h m) h (bodyLearnMessage h m) s)

/-- ROUTER_MAC_WRITE (R230). -/
def execRouterMacWrite (h : Ocf) (index : Nat) (valid : Nat) (mac : Nat) (s : State) : Host.Outcome State Fault Refusal :=
  .next (ocfRun bodyOf (.routerMacWrite h index valid mac) h (bodyRouterMacWrite h index valid mac) s)

/-- VRF_WRITE (R232). -/
def execVrfWrite (h : Ocf) (p : VrfWriteP) (s : State) : Host.Outcome State Fault Refusal :=
  .next (ocfRun bodyOf (.vrfWrite h p) h (bodyVrfWrite h p) s)

/-- NEXTHOP_WRITE (R247). -/
def execNexthopWrite (h : Ocf) (p : NexthopWriteP) (s : State) : Host.Outcome State Fault Refusal :=
  .next (ocfRun bodyOf (.nexthopWrite h p) h (bodyNexthopWrite h p) s)

/-- ECMP_MEMBERS_WRITE (R248). -/
def execEcmpMembersWrite (h : Ocf) (base : Nat) (members : List Nat) (s : State) : Host.Outcome State Fault Refusal :=
  .next (ocfRun bodyOf (.ecmpMembersWrite h base members) h (bodyEcmpMembersWrite h base members) s)

/-- HOST_ENTRY_WRITE (R237). -/
def execHostEntryWrite (h : Ocf) (p : HostEntryWriteP) (s : State) : Host.Outcome State Fault Refusal :=
  .next (ocfRun bodyOf (.hostEntryWrite h p) h (bodyHostEntryWrite h p) s)

/-- HOST_ENTRY_DELETE (R236). -/
def execHostEntryDelete (h : Ocf) (vrf : Nat) (family : Nat) (addr : Nat) (s : State) : Host.Outcome State Fault Refusal :=
  .next (ocfRun bodyOf (.hostEntryDelete h vrf family addr) h (bodyHostEntryDelete h vrf family addr) s)

/-- HOST_ENTRY_READ (R273). -/
def execHostEntryRead (h : Ocf) (vrf : Nat) (family : Nat) (addr : Nat) (s : State) : Host.Outcome State Fault Refusal :=
  .next (ocfRun bodyOf (.hostEntryRead h vrf family addr) h (bodyHostEntryRead h vrf family addr) s)

/-- HOST_SEARCH_NEXT (R274). -/
def execHostSearchNext (h : Ocf) (cursor : Nat) (clearHit : Nat) (s : State) : Host.Outcome State Fault Refusal :=
  .next (ocfRun bodyOf (.hostSearchNext h cursor clearHit) h (bodyHostSearchNext h cursor clearHit) s)

/-- LPM_ROUTE_ADD (R245). -/
def execLpmRouteAdd (h : Ocf) (vrf : Nat) (routes : Routes) (s : State) : Host.Outcome State Fault Refusal :=
  .next (ocfRun bodyOf (.lpmRouteAdd h vrf routes) h (bodyLpmRouteAdd h vrf routes) s)

/-- LPM_ROUTE_REPLACE (R245). -/
def execLpmRouteReplace (h : Ocf) (vrf : Nat) (routes : Routes) (s : State) : Host.Outcome State Fault Refusal :=
  .next (ocfRun bodyOf (.lpmRouteReplace h vrf routes) h (bodyLpmRouteReplace h vrf routes) s)

/-- LPM_ROUTE_DELETE (R246). -/
def execLpmRouteDelete (h : Ocf) (vrf : Nat) (routes : Routes) (s : State) : Host.Outcome State Fault Refusal :=
  .next (ocfRun bodyOf (.lpmRouteDelete h vrf routes) h (bodyLpmRouteDelete h vrf routes) s)

/-- LPM_ROUTE_NEXT (R243). -/
def execLpmRouteNext (h : Ocf) (vrf : Nat) (cursor : Nat) (count : Nat) (s : State) : Host.Outcome State Fault Refusal :=
  .next (ocfRun bodyOf (.lpmRouteNext h vrf cursor count) h (bodyLpmRouteNext h vrf cursor count) s)

/-- L3_STATUS (R243). -/
def execL3Status (h : Ocf) (s : State) : Host.Outcome State Fault Refusal :=
  .next (ocfRun bodyOf (.l3Status h) h (bodyL3Status h) s)

/-- BUF_PROFILE_WRITE (R327). -/
def execBufProfileWrite (h : Ocf) (p : BufProfileWriteP) (s : State) : Host.Outcome State Fault Refusal :=
  .next (ocfRun bodyOf (.bufProfileWrite h p) h (bodyBufProfileWrite h p) s)

/-- VOQ_PROFILE_MAP (R327). -/
def execVoqProfileMap (h : Ocf) (start : Nat) (count : Nat) (profile : Nat) (s : State) : Host.Outcome State Fault Refusal :=
  .next (ocfRun bodyOf (.voqProfileMap h start count profile) h (bodyVoqProfileMap h start count profile) s)

/-- BUF_REGION_WRITE (R327). -/
def execBufRegionWrite (h : Ocf) (p : BufRegionWriteP) (s : State) : Host.Outcome State Fault Refusal :=
  .next (ocfRun bodyOf (.bufRegionWrite h p) h (bodyBufRegionWrite h p) s)

/-- PORT_PFC_WRITE (R297). -/
def execPortPfcWrite (h : Ocf) (p : PortPfcWriteP) (s : State) : Host.Outcome State Fault Refusal :=
  .next (ocfRun bodyOf (.portPfcWrite h p) h (bodyPortPfcWrite h p) s)

/-- PORT_LINGER_WRITE (R303). -/
def execPortLingerWrite (h : Ocf) (port : Nat) (linger : Nat) (s : State) : Host.Outcome State Fault Refusal :=
  .next (ocfRun bodyOf (.portLingerWrite h port linger) h (bodyPortLingerWrite h port linger) s)

/-- BUF_COMMIT (R289). -/
def execBufCommit (h : Ocf) (s : State) : Host.Outcome State Fault Refusal :=
  .next (ocfRun bodyOf (.bufCommit h) h (bodyBufCommit h) s)

/-- VOQ_STATUS (R292). -/
def execVoqStatus (h : Ocf) (region : Nat) (voq : Nat) (s : State) : Host.Outcome State Fault Refusal :=
  .next (ocfRun bodyOf (.voqStatus h region voq) h (bodyVoqStatus h region voq) s)

/-- VOQ_COUNTERS_READ (R288). -/
def execVoqCountersRead (h : Ocf) (region : Nat) (voq : Nat) (clear : Nat) (s : State) : Host.Outcome State Fault Refusal :=
  .next (ocfRun bodyOf (.voqCountersRead h region voq clear) h (bodyVoqCountersRead h region voq clear) s)

/-- BUF_STATUS (R289). -/
def execBufStatus (h : Ocf) (s : State) : Host.Outcome State Fault Refusal :=
  .next (ocfRun bodyOf (.bufStatus h) h (bodyBufStatus h) s)

/-- FABRIC_CONFIG (R329). -/
def execFabricConfig (h : Ocf) (p : FabricConfigP) (s : State) : Host.Outcome State Fault Refusal :=
  .next (ocfRun bodyOf (.fabricConfig h p) h (bodyFabricConfig h p) s)

/-- FABRIC_LINK_WRITE (R310). -/
def execFabricLinkWrite (h : Ocf) (p : FabricLinkWriteP) (s : State) : Host.Outcome State Fault Refusal :=
  .next (ocfRun bodyOf (.fabricLinkWrite h p) h (bodyFabricLinkWrite h p) s)

/-- FABRIC_STATUS (R317). -/
def execFabricStatus (h : Ocf) (s : State) : Host.Outcome State Fault Refusal :=
  .next (ocfRun bodyOf (.fabricStatus h) h (bodyFabricStatus h) s)

/-- FABRIC_COUNTERS_READ (R325). -/
def execFabricCountersRead (h : Ocf) (clear : Nat) (s : State) : Host.Outcome State Fault Refusal :=
  .next (ocfRun bodyOf (.fabricCountersRead h clear) h (bodyFabricCountersRead h clear) s)

/-- PORT_SCHED_WRITE (R334). -/
def execPortSchedWrite (h : Ocf) (p : PortSchedWriteP) (s : State) : Host.Outcome State Fault Refusal :=
  .next (ocfRun bodyOf (.portSchedWrite h p) h (bodyPortSchedWrite h p) s)

/-- QUEUE_SHAPER_WRITE (R341). -/
def execQueueShaperWrite (h : Ocf) (p : QueueShaperWriteP) (s : State) : Host.Outcome State Fault Refusal :=
  .next (ocfRun bodyOf (.queueShaperWrite h p) h (bodyQueueShaperWrite h p) s)

/-- GATE_LIST_WRITE (R353). -/
def execGateListWrite (h : Ocf) (port : Nat) (start : Nat) (entries : GateEntries) (s : State) : Host.Outcome State Fault Refusal :=
  .next (ocfRun bodyOf (.gateListWrite h port start entries) h (bodyGateListWrite h port start entries) s)

/-- GATE_CONFIG_WRITE (R355). -/
def execGateConfigWrite (h : Ocf) (p : GateConfigWriteP) (s : State) : Host.Outcome State Fault Refusal :=
  .next (ocfRun bodyOf (.gateConfigWrite h p) h (bodyGateConfigWrite h p) s)

/-- GATE_STATUS (R359). -/
def execGateStatus (h : Ocf) (port : Nat) (s : State) : Host.Outcome State Fault Refusal :=
  .next (ocfRun bodyOf (.gateStatus h port) h (bodyGateStatus h port) s)

/-- EGRESS_COUNTERS_READ (R363). -/
def execEgressCountersRead (h : Ocf) (port : Nat) (clear : Nat) (s : State) : Host.Outcome State Fault Refusal :=
  .next (ocfRun bodyOf (.egressCountersRead h port clear) h (bodyEgressCountersRead h port clear) s)

/-- POLICER_WRITE (R350). -/
def execPolicerWrite (h : Ocf) (p : PolicerWriteP) (s : State) : Host.Outcome State Fault Refusal :=
  .next (ocfRun bodyOf (.policerWrite h p) h (bodyPolicerWrite h p) s)

/-- POLICER_READ (R352). -/
def execPolicerRead (h : Ocf) (region : Nat) (policer : Nat) (clear : Nat) (s : State) : Host.Outcome State Fault Refusal :=
  .next (ocfRun bodyOf (.policerRead h region policer clear) h (bodyPolicerRead h region policer clear) s)

/-- HWM_READ (R362). -/
def execHwmRead (h : Ocf) (p : HwmReadP) (s : State) : Host.Outcome State Fault Refusal :=
  .next (ocfRun bodyOf (.hwmRead h p) h (bodyHwmRead h p) s)

/-- HBM_BUDGET_WRITE (R377). -/
def execHbmBudgetWrite (h : Ocf) (p : HbmBudgetWriteP) (s : State) : Host.Outcome State Fault Refusal :=
  .next (ocfRun bodyOf (.hbmBudgetWrite h p) h (bodyHbmBudgetWrite h p) s)

/-- HBM_BUDGET_READ (R378). -/
def execHbmBudgetRead (h : Ocf) (s : State) : Host.Outcome State Fault Refusal :=
  .next (ocfRun bodyOf (.hbmBudgetRead h) h (bodyHbmBudgetRead h) s)

/-- HBM_STATUS (R396). -/
def execHbmStatus (h : Ocf) (s : State) : Host.Outcome State Fault Refusal :=
  .next (ocfRun bodyOf (.hbmStatus h) h (bodyHbmStatus h) s)

/-- HBM_SCRUB_CONFIG (R393). -/
def execHbmScrubConfig (h : Ocf) (scrubPeriod : Nat) (s : State) : Host.Outcome State Fault Refusal :=
  .next (ocfRun bodyOf (.hbmScrubConfig h scrubPeriod) h (bodyHbmScrubConfig h scrubPeriod) s)

/-- HBM_PC_RETIRE (R394). -/
def execHbmPcRetire (h : Ocf) (pc : Nat) (s : State) : Host.Outcome State Fault Refusal :=
  .next (ocfRun bodyOf (.hbmPcRetire h pc) h (bodyHbmPcRetire h pc) s)

/-- SYS_IDENTITY (R416). -/
def execSysIdentity (h : Ocf) (s : State) : Host.Outcome State Fault Refusal :=
  .next (ocfRun bodyOf (.sysIdentity h) h (bodySysIdentity h) s)

/-- SYS_STATUS (R409). -/
def execSysStatus (h : Ocf) (s : State) : Host.Outcome State Fault Refusal :=
  .next (ocfRun bodyOf (.sysStatus h) h (bodySysStatus h) s)

/-- SYS_ECHO (R404). -/
def execSysEcho (h : Ocf) (s : State) : Host.Outcome State Fault Refusal :=
  .next (ocfRun bodyOf (.sysEcho h) h (bodySysEcho h) s)

/-- SYS_GROUP_OPEN (R426). -/
def execSysGroupOpen (h : Ocf) (timeout : Nat) (s : State) : Host.Outcome State Fault Refusal :=
  .next (ocfRun bodyOf (.sysGroupOpen h timeout) h (bodySysGroupOpen h timeout) s)

/-- SYS_GROUP_COMMIT (R429). -/
def execSysGroupCommit (h : Ocf) (s : State) : Host.Outcome State Fault Refusal :=
  .next (ocfRun bodyOf (.sysGroupCommit h) h (bodySysGroupCommit bodyOf h) s)

/-- SYS_GROUP_ABORT (R431). -/
def execSysGroupAbort (h : Ocf) (s : State) : Host.Outcome State Fault Refusal :=
  .next (ocfRun bodyOf (.sysGroupAbort h) h (bodySysGroupAbort h) s)

/-- SYS_COMPLETION_ACK (R424). -/
def execSysCompletionAck (h : Ocf) (tags : List Nat) (s : State) : Host.Outcome State Fault Refusal :=
  .next (ocfRun bodyOf (.sysCompletionAck h tags) h (bodySysCompletionAck h tags) s)

/-- SYS_PENDING_READ (R422). -/
def execSysPendingRead (h : Ocf) (s : State) : Host.Outcome State Fault Refusal :=
  .next (ocfRun bodyOf (.sysPendingRead h) h (bodySysPendingRead h) s)

/-- SYS_INTAKE_CONFIG (R433). -/
def execSysIntakeConfig (h : Ocf) (p : SysIntakeConfigP) (s : State) : Host.Outcome State Fault Refusal :=
  .next (ocfRun bodyOf (.sysIntakeConfig h p) h (bodySysIntakeConfig h p) s)

/-- SYS_DEVICE_ID_WRITE (R605). -/
def execSysDeviceIdWrite (h : Ocf) (deviceId : Nat) (flashOk : Bool) (s : State) : Host.Outcome State Fault Refusal :=
  .next (ocfRun bodyOf (.sysDeviceIdWrite h deviceId flashOk) h (bodySysDeviceIdWrite h deviceId flashOk) s)

/-- SYS_RESET (R434). -/
def execSysReset (h : Ocf) (scope : Nat) (s : State) : Host.Outcome State Fault Refusal :=
  .next (ocfRun bodyOf (.sysReset h scope) h (bodySysReset h scope) s)

/-- PORT_CONFIG (R438). -/
def execPortConfig (h : Ocf) (p : PortConfigP) (s : State) : Host.Outcome State Fault Refusal :=
  .next (ocfRun bodyOf (.portConfig h p) h (bodyPortConfig h p) s)

/-- PORT_STATUS (R437). -/
def execPortStatus (h : Ocf) (port : Nat) (s : State) : Host.Outcome State Fault Refusal :=
  .next (ocfRun bodyOf (.portStatus h port) h (bodyPortStatus h port) s)

/-- PORT_COUNTERS_READ (R658). -/
def execPortCountersRead (h : Ocf) (port : Nat) (clear : Nat) (s : State) : Host.Outcome State Fault Refusal :=
  .next (ocfRun bodyOf (.portCountersRead h port clear) h (bodyPortCountersRead h port clear) s)

/-- PORT_ADMIN (R660). -/
def execPortAdmin (h : Ocf) (port : Nat) (adminUp : Nat) (s : State) : Host.Outcome State Fault Refusal :=
  .next (ocfRun bodyOf (.portAdmin h port adminUp) h (bodyPortAdmin h port adminUp) s)

/-- PORT_OPTICS_ACCESS (R597). -/
def execPortOpticsAccess (h : Ocf) (p : PortOpticsAccessP) (s : State) : Host.Outcome State Fault Refusal :=
  .next (ocfRun bodyOf (.portOpticsAccess h p) h (bodyPortOpticsAccess h p) s)

/-- DIAG_PRBS (R439). -/
def execDiagPrbs (h : Ocf) (p : DiagPrbsP) (s : State) : Host.Outcome State Fault Refusal :=
  .next (ocfRun bodyOf (.diagPrbs h p) h (bodyDiagPrbs h p) s)

/-- DIAG_LOOPBACK (R439). -/
def execDiagLoopback (h : Ocf) (port : Nat) (mode : Nat) (s : State) : Host.Outcome State Fault Refusal :=
  .next (ocfRun bodyOf (.diagLoopback h port mode) h (bodyDiagLoopback h port mode) s)

/-- DIAG_EYE_SCAN (R439). -/
def execDiagEyeScan (h : Ocf) (port : Nat) (lane : Nat) (measured : List Nat) (s : State) : Host.Outcome State Fault Refusal :=
  .next (ocfRun bodyOf (.diagEyeScan h port lane measured) h (bodyDiagEyeScan h port lane measured) s)

/-- DIAG_REG_READ (R439). -/
def execDiagRegRead (h : Ocf) (addr : Nat) (count : Nat) (s : State) : Host.Outcome State Fault Refusal :=
  .next (ocfRun bodyOf (.diagRegRead h addr count) h (bodyDiagRegRead h addr count) s)

/-- DIAG_ERROR_INJECT (R626). -/
def execDiagErrorInject (h : Ocf) (p : DiagErrorInjectP) (s : State) : Host.Outcome State Fault Refusal :=
  .next (ocfRun bodyOf (.diagErrorInject h p) h (bodyDiagErrorInject h p) s)

/-- DIAG_MEM_TEST (R439). -/
def execDiagMemTest (h : Ocf) (memory : Nat) (failing : List Nat) (s : State) : Host.Outcome State Fault Refusal :=
  .next (ocfRun bodyOf (.diagMemTest h memory failing) h (bodyDiagMemTest h memory failing) s)

/-- SEC_KEY_WRITE (R444). -/
def execSecKeyWrite (h : Ocf) (p : SecKeyWriteP) (s : State) : Host.Outcome State Fault Refusal :=
  .next (ocfRun bodyOf (.secKeyWrite h p) h (bodySecKeyWrite h p) s)

/-- SEC_KEY_CLEAR (R446). -/
def execSecKeyClear (h : Ocf) (role : Nat) (keyId : Nat) (flashOk : Bool) (s : State) : Host.Outcome State Fault Refusal :=
  .next (ocfRun bodyOf (.secKeyClear h role keyId flashOk) h (bodySecKeyClear h role keyId flashOk) s)

/-- SEC_KEY_STATUS (R447). -/
def execSecKeyStatus (h : Ocf) (s : State) : Host.Outcome State Fault Refusal :=
  .next (ocfRun bodyOf (.secKeyStatus h) h (bodySecKeyStatus h) s)

/-- SEC_HOST_ACCESS (R441). -/
def execSecHostAccess (h : Ocf) (hostAccess : Nat) (flashOk : Bool) (s : State) : Host.Outcome State Fault Refusal :=
  .next (ocfRun bodyOf (.secHostAccess h hostAccess flashOk) h (bodySecHostAccess h hostAccess flashOk) s)

/-- SEC_LIFECYCLE_SET (R451). -/
def execSecLifecycleSet (h : Ocf) (target : Nat) (serial : Nat) (burnOk : Bool) (s : State) : Host.Outcome State Fault Refusal :=
  .next (ocfRun bodyOf (.secLifecycleSet h target serial burnOk) h (bodySecLifecycleSet h target serial burnOk) s)

/-- SEC_FW_WRITE (R455). -/
def execSecFwWrite (h : Ocf) (p : SecFwWriteP) (s : State) : Host.Outcome State Fault Refusal :=
  .next (ocfRun bodyOf (.secFwWrite h p) h (bodySecFwWrite h p) s)

/-- SEC_FW_ACTIVATE (R455). -/
def execSecFwActivate (h : Ocf) (raiseFloor : Nat) (flashOk : Bool) (s : State) : Host.Outcome State Fault Refusal :=
  .next (ocfRun bodyOf (.secFwActivate h raiseFloor flashOk) h (bodySecFwActivate h raiseFloor flashOk) s)

/-- SEC_FW_STATUS (R455). -/
def execSecFwStatus (h : Ocf) (s : State) : Host.Outcome State Fault Refusal :=
  .next (ocfRun bodyOf (.secFwStatus h) h (bodySecFwStatus h) s)

/-- AUDIT_READ (R459). -/
def execAuditRead (h : Ocf) (from_ : Nat) (count : Nat) (s : State) : Host.Outcome State Fault Refusal :=
  .next (ocfRun bodyOf (.auditRead h from_ count) h (bodyAuditRead h from_ count) s)

/-- AUDIT_ACK (R459). -/
def execAuditAck (h : Ocf) (upto : Nat) (s : State) : Host.Outcome State Fault Refusal :=
  .next (ocfRun bodyOf (.auditAck h upto) h (bodyAuditAck h upto) s)

/-- AUDIT_CONFIG (R460). -/
def execAuditConfig (h : Ocf) (auditHold : Nat) (flashOk : Bool) (s : State) : Host.Outcome State Fault Refusal :=
  .next (ocfRun bodyOf (.auditConfig h auditHold flashOk) h (bodyAuditConfig h auditHold flashOk) s)

/-- JOB_SUBMIT (R537). -/
def execJobSubmit (h : Ocf) (p : JobSubmitP) (cmd : Instr) (s : State) : Host.Outcome State Fault Refusal :=
  .next (ocfRun bodyOf (.jobSubmit h p cmd) h (bodyJobSubmit bodyOf h p cmd) s)

/-- JOB_CANCEL (R540). -/
def execJobCancel (h : Ocf) (handle : Nat) (gen : Nat) (s : State) : Host.Outcome State Fault Refusal :=
  .next (ocfRun bodyOf (.jobCancel h handle gen) h (bodyJobCancel h handle gen) s)

/-- JOB_STATUS (R520). -/
def execJobStatus (h : Ocf) (handle : Nat) (gen : Nat) (s : State) : Host.Outcome State Fault Refusal :=
  .next (ocfRun bodyOf (.jobStatus h handle gen) h (bodyJobStatus h handle gen) s)

/-- GEYSER_CLASS_WRITE (R531). -/
def execGeyserClassWrite (h : Ocf) (cls : Nat) (cost : Nat) (minShare : Nat) (s : State) : Host.Outcome State Fault Refusal :=
  .next (ocfRun bodyOf (.geyserClassWrite h cls cost minShare) h (bodyGeyserClassWrite h cls cost minShare) s)

/-- GEYSER_ACTIVITY_WRITE (R533). -/
def execGeyserActivityWrite (h : Ocf) (activity : Nat) (timeBudget : Nat) (itemLimit : Nat) (s : State) : Host.Outcome State Fault Refusal :=
  .next (ocfRun bodyOf (.geyserActivityWrite h activity timeBudget itemLimit) h (bodyGeyserActivityWrite h activity timeBudget itemLimit) s)

/-- GEYSER_STATUS (R529). -/
def execGeyserStatus (h : Ocf) (s : State) : Host.Outcome State Fault Refusal :=
  .next (ocfRun bodyOf (.geyserStatus h) h (bodyGeyserStatus h) s)

/-- FUM_STATUS (R517). -/
def execFumStatus (h : Ocf) (s : State) : Host.Outcome State Fault Refusal :=
  .next (ocfRun bodyOf (.fumStatus h) h (bodyFumStatus h) s)

/-- PWR_MODE_SET (R543). -/
def execPwrModeSet (h : Ocf) (mode : Nat) (profile : Nat) (drain : Nat) (s : State) : Host.Outcome State Fault Refusal :=
  .next (ocfRun bodyOf (.pwrModeSet h mode profile drain) h (bodyPwrModeSet h mode profile drain) s)

/-- PWR_CAP_SET (R554). -/
def execPwrCapSet (h : Ocf) (cap : Nat) (flashOk : Bool) (s : State) : Host.Outcome State Fault Refusal :=
  .next (ocfRun bodyOf (.pwrCapSet h cap flashOk) h (bodyPwrCapSet h cap flashOk) s)

/-- PWR_LIMITS_SET (R553). -/
def execPwrLimitsSet (h : Ocf) (p : PwrLimitsSetP) (s : State) : Host.Outcome State Fault Refusal :=
  .next (ocfRun bodyOf (.pwrLimitsSet h p) h (bodyPwrLimitsSet h p) s)

/-- PWR_REDUCED_PROFILE_WRITE (R563). -/
def execPwrReducedProfileWrite (h : Ocf) (p : PwrReducedProfileWriteP) (s : State) : Host.Outcome State Fault Refusal :=
  .next (ocfRun bodyOf (.pwrReducedProfileWrite h p) h (bodyPwrReducedProfileWrite h p) s)

/-- PWR_SCHEDULE_WRITE (R571). -/
def execPwrScheduleWrite (h : Ocf) (p : PwrScheduleWriteP) (s : State) : Host.Outcome State Fault Refusal :=
  .next (ocfRun bodyOf (.pwrScheduleWrite h p) h (bodyPwrScheduleWrite h p) s)

/-- PWR_WAKE_CONFIG (R569). -/
def execPwrWakeConfig (h : Ocf) (wakeInputs : Nat) (s : State) : Host.Outcome State Fault Refusal :=
  .next (ocfRun bodyOf (.pwrWakeConfig h wakeInputs) h (bodyPwrWakeConfig h wakeInputs) s)

/-- PWR_STATUS (R548). -/
def execPwrStatus (h : Ocf) (s : State) : Host.Outcome State Fault Refusal :=
  .next (ocfRun bodyOf (.pwrStatus h) h (bodyPwrStatus h) s)

/-- TIME_SOURCE_CONFIG (R579). -/
def execTimeSourceConfig (h : Ocf) (p : TimeSourceConfigP) (s : State) : Host.Outcome State Fault Refusal :=
  .next (ocfRun bodyOf (.timeSourceConfig h p) h (bodyTimeSourceConfig h p) s)

/-- TIME_SET (R584). -/
def execTimeSet (h : Ocf) (p : TimeSetP) (s : State) : Host.Outcome State Fault Refusal :=
  .next (ocfRun bodyOf (.timeSet h p) h (bodyTimeSet h p) s)

/-- TIME_STATUS (R581). -/
def execTimeStatus (h : Ocf) (s : State) : Host.Outcome State Fault Refusal :=
  .next (ocfRun bodyOf (.timeStatus h) h (bodyTimeStatus h) s)

/-- PTP_CLOCK_CONFIG (R589). -/
def execPtpClockConfig (h : Ocf) (p : PtpClockConfigP) (s : State) : Host.Outcome State Fault Refusal :=
  .next (ocfRun bodyOf (.ptpClockConfig h p) h (bodyPtpClockConfig h p) s)

/-- PTP_PORT_CONFIG (R591). -/
def execPtpPortConfig (h : Ocf) (p : PtpPortConfigP) (s : State) : Host.Outcome State Fault Refusal :=
  .next (ocfRun bodyOf (.ptpPortConfig h p) h (bodyPtpPortConfig h p) s)

/-- PTP_STATUS (R590). -/
def execPtpStatus (h : Ocf) (s : State) : Host.Outcome State Fault Refusal :=
  .next (ocfRun bodyOf (.ptpStatus h) h (bodyPtpStatus h) s)

/-- TIME_OUTPUT_WRITE (R588). -/
def execTimeOutputWrite (h : Ocf) (p : TimeOutputWriteP) (s : State) : Host.Outcome State Fault Refusal :=
  .next (ocfRun bodyOf (.timeOutputWrite h p) h (bodyTimeOutputWrite h p) s)

/-- EVENT_STAMP_READ (R587). -/
def execEventStampRead (h : Ocf) (s : State) : Host.Outcome State Fault Refusal :=
  .next (ocfRun bodyOf (.eventStampRead h) h (bodyEventStampRead h) s)

/-- LLDP_CONFIG (R595). -/
def execLldpConfig (h : Ocf) (p : LldpConfigP) (s : State) : Host.Outcome State Fault Refusal :=
  .next (ocfRun bodyOf (.lldpConfig h p) h (bodyLldpConfig h p) s)

/-- DISCOVERY_READ (R594). -/
def execDiscoveryRead (h : Ocf) (table : Nat) (from_ : Nat) (count : Nat) (s : State) : Host.Outcome State Fault Refusal :=
  .next (ocfRun bodyOf (.discoveryRead h table from_ count) h (bodyDiscoveryRead h table from_ count) s)

/-- DOMAIN_CONFIG (R600). -/
def execDomainConfig (h : Ocf) (domainId : Nat) (memberTtl : Nat) (hostless : Nat) (s : State) : Host.Outcome State Fault Refusal :=
  .next (ocfRun bodyOf (.domainConfig h domainId memberTtl hostless) h (bodyDomainConfig h domainId memberTtl hostless) s)

/-- OPTICS_SLOT_WRITE (R601). -/
def execOpticsSlotWrite (h : Ocf) (p : OpticsSlotWriteP) (s : State) : Host.Outcome State Fault Refusal :=
  .next (ocfRun bodyOf (.opticsSlotWrite h p) h (bodyOpticsSlotWrite h p) s)

/-- OPTICS_STATUS (R597). -/
def execOpticsStatus (h : Ocf) (s : State) : Host.Outcome State Fault Refusal :=
  .next (ocfRun bodyOf (.opticsStatus h) h (bodyOpticsStatus h) s)

/-- FAULT_STATUS (R614). -/
def execFaultStatus (h : Ocf) (s : State) : Host.Outcome State Fault Refusal :=
  .next (ocfRun bodyOf (.faultStatus h) h (bodyFaultStatus h) s)

/-- FAULT_POLICY_WRITE (R614). -/
def execFaultPolicyWrite (h : Ocf) (kind : Nat) (n : Nat) (windowMs : Nat) (s : State) : Host.Outcome State Fault Refusal :=
  .next (ocfRun bodyOf (.faultPolicyWrite h kind n windowMs) h (bodyFaultPolicyWrite h kind n windowMs) s)

/-- FAULT_LOG_READ (R624). -/
def execFaultLogRead (h : Ocf) (from_ : Nat) (count : Nat) (s : State) : Host.Outcome State Fault Refusal :=
  .next (ocfRun bodyOf (.faultLogRead h from_ count) h (bodyFaultLogRead h from_ count) s)

/-- HW_RETIRE (R625). -/
def execHwRetire (h : Ocf) (p : HwRetireP) (s : State) : Host.Outcome State Fault Refusal :=
  .next (ocfRun bodyOf (.hwRetire h p) h (bodyHwRetire h p) s)

/-- FAULT_RECORD_CLEAR (R625). -/
def execFaultRecordClear (h : Ocf) (s : State) : Host.Outcome State Fault Refusal :=
  .next (ocfRun bodyOf (.faultRecordClear h) h (bodyFaultRecordClear h) s)

/-- DELAYED_COMMAND (R539). -/
def execDelayedCommand (handle : Nat) (s : State) : Host.Outcome State Fault Refusal := .next (runDelayedJob bodyOf handle s)

/-- The frame of a command and its own part; none for the other rows. -/
def frameOf : Instr → Option (Ocf × Body)
  | .parseStateWrite h pipeMask state entry => some (h, bodyParseStateWrite h pipeMask state entry)
  | .parseGraphCommit h pipeMask => some (h, bodyParseGraphCommit h pipeMask)
  | .parseStateRead h pipe state shadow => some (h, bodyParseStateRead h pipe state shadow)
  | .keyProfileWrite h pipeMask profile selectors => some (h, bodyKeyProfileWrite h pipeMask profile selectors)
  | .searchProfileWrite h pipeMask profile word => some (h, bodySearchProfileWrite h pipeMask profile word)
  | .portClassMapWrite h port map => some (h, bodyPortClassMapWrite h port map)
  | .portDefaultsWrite h p => some (h, bodyPortDefaultsWrite h p)
  | .controlMatchWrite h p => some (h, bodyControlMatchWrite h p)
  | .bankModeWrite h pipeMask pair mode => some (h, bodyBankModeWrite h pipeMask pair mode)
  | .listCreate h p => some (h, bodyListCreate h p)
  | .listDelete h pipeMask list => some (h, bodyListDelete h pipeMask list)
  | .ruleInsert h p => some (h, bodyRuleInsert h p)
  | .ruleDelete h handle => some (h, bodyRuleDelete h handle)
  | .ruleActionWrite h handle action => some (h, bodyRuleActionWrite h handle action)
  | .ruleRead h handle pipe => some (h, bodyRuleRead h handle pipe)
  | .listRespace h pipeMask list spacing => some (h, bodyListRespace h pipeMask list spacing)
  | .tcamRawWrite h p => some (h, bodyTcamRawWrite h p)
  | .tcamRawRead h pipe addr => some (h, bodyTcamRawRead h pipe addr)
  | .recircConfig h pipeMask slots => some (h, bodyRecircConfig h pipeMask slots)
  | .mirrorSessionWrite h p => some (h, bodyMirrorSessionWrite h p)
  | .parseCountersRead h port clear => some (h, bodyParseCountersRead h port clear)
  | .partitionCreate h p => some (h, bodyPartitionCreate h p)
  | .partitionDelete h partition => some (h, bodyPartitionDelete h partition)
  | .partitionRead h partition => some (h, bodyPartitionRead h partition)
  | .flowInsert h b => some (h, bodyFlowInsert h b)
  | .flowUpdate h b => some (h, bodyFlowUpdate h b)
  | .flowRead h key settle => some (h, bodyFlowRead h key settle)
  | .flowDelete h key => some (h, bodyFlowDelete h key)
  | .flowSearchNext h p => some (h, bodyFlowSearchNext h p)
  | .flowFlush h p => some (h, bodyFlowFlush h p)
  | .ageClassWrite h cls timeout => some (h, bodyAgeClassWrite h cls timeout)
  | .sweepConfig h partition sweepPeriod => some (h, bodySweepConfig h partition sweepPeriod)
  | .flowTableStatus h => some (h, bodyFlowTableStatus h)
  | .flowTemplateWrite h t => some (h, bodyFlowTemplateWrite h t)
  | .flowTemplateRead h template => some (h, bodyFlowTemplateRead h template)
  | .natPoolWrite h p => some (h, bodyNatPoolWrite h p)
  | .natPoolAddrWrite h p => some (h, bodyNatPoolAddrWrite h p)
  | .natPoolDelete h pool => some (h, bodyNatPoolDelete h pool)
  | .natPoolStatus h pool => some (h, bodyNatPoolStatus h pool)
  | .lbPoolWrite h p => some (h, bodyLbPoolWrite h p)
  | .lbBackendWrite h p => some (h, bodyLbBackendWrite h p)
  | .lbPoolCommit h pool => some (h, bodyLbPoolCommit h pool)
  | .lbPoolRead h pool => some (h, bodyLbPoolRead h pool)
  | .groupHomeWrite h p => some (h, bodyGroupHomeWrite h p)
  | .exportProfileWrite h p => some (h, bodyExportProfileWrite h p)
  | .exportStatus h profile => some (h, bodyExportStatus h profile)
  | .serviceCountersRead h template region => some (h, bodyServiceCountersRead h template region)
  | .vlanWrite h vid entry => some (h, bodyVlanWrite h vid entry)
  | .portL2Write h port defaultVid learnMode => some (h, bodyPortL2Write h port defaultVid learnMode)
  | .l2TableConfig h p => some (h, bodyL2TableConfig h p)
  | .l2EntryWrite h p => some (h, bodyL2EntryWrite h p)
  | .l2EntryDelete h fid mac => some (h, bodyL2EntryDelete h fid mac)
  | .l2EntryRead h fid mac => some (h, bodyL2EntryRead h fid mac)
  | .l2SearchNext h cursor filter => some (h, bodyL2SearchNext h cursor filter)
  | .l2Flush h filter => some (h, bodyL2Flush h filter)
  | .l2Unpin h fid mac => some (h, bodyL2Unpin h fid mac)
  | .lagWrite h lag members => some (h, bodyLagWrite h lag members)
  | .mcastGroupWrite h group members => some (h, bodyMcastGroupWrite h group members)
  | .l2LearnShareConfig h p => some (h, bodyL2LearnShareConfig h p)
  | .deviceReachWrite h device destType dest => some (h, bodyDeviceReachWrite h device destType dest)
  | .l2LearnNotifyRead h count => some (h, bodyL2LearnNotifyRead h count)
  | .l2Status h => some (h, bodyL2Status h)
  | .learnMessage h m => some (h, bodyLearnMessage h m)
  | .routerMacWrite h index valid mac => some (h, bodyRouterMacWrite h index valid mac)
  | .vrfWrite h p => some (h, bodyVrfWrite h p)
  | .nexthopWrite h p => some (h, bodyNexthopWrite h p)
  | .ecmpMembersWrite h base members => some (h, bodyEcmpMembersWrite h base members)
  | .hostEntryWrite h p => some (h, bodyHostEntryWrite h p)
  | .hostEntryDelete h vrf family addr => some (h, bodyHostEntryDelete h vrf family addr)
  | .hostEntryRead h vrf family addr => some (h, bodyHostEntryRead h vrf family addr)
  | .hostSearchNext h cursor clearHit => some (h, bodyHostSearchNext h cursor clearHit)
  | .lpmRouteAdd h vrf routes => some (h, bodyLpmRouteAdd h vrf routes)
  | .lpmRouteReplace h vrf routes => some (h, bodyLpmRouteReplace h vrf routes)
  | .lpmRouteDelete h vrf routes => some (h, bodyLpmRouteDelete h vrf routes)
  | .lpmRouteNext h vrf cursor count => some (h, bodyLpmRouteNext h vrf cursor count)
  | .l3Status h => some (h, bodyL3Status h)
  | .bufProfileWrite h p => some (h, bodyBufProfileWrite h p)
  | .voqProfileMap h start count profile => some (h, bodyVoqProfileMap h start count profile)
  | .bufRegionWrite h p => some (h, bodyBufRegionWrite h p)
  | .portPfcWrite h p => some (h, bodyPortPfcWrite h p)
  | .portLingerWrite h port linger => some (h, bodyPortLingerWrite h port linger)
  | .bufCommit h => some (h, bodyBufCommit h)
  | .voqStatus h region voq => some (h, bodyVoqStatus h region voq)
  | .voqCountersRead h region voq clear => some (h, bodyVoqCountersRead h region voq clear)
  | .bufStatus h => some (h, bodyBufStatus h)
  | .fabricConfig h p => some (h, bodyFabricConfig h p)
  | .fabricLinkWrite h p => some (h, bodyFabricLinkWrite h p)
  | .fabricStatus h => some (h, bodyFabricStatus h)
  | .fabricCountersRead h clear => some (h, bodyFabricCountersRead h clear)
  | .portSchedWrite h p => some (h, bodyPortSchedWrite h p)
  | .queueShaperWrite h p => some (h, bodyQueueShaperWrite h p)
  | .gateListWrite h port start entries => some (h, bodyGateListWrite h port start entries)
  | .gateConfigWrite h p => some (h, bodyGateConfigWrite h p)
  | .gateStatus h port => some (h, bodyGateStatus h port)
  | .egressCountersRead h port clear => some (h, bodyEgressCountersRead h port clear)
  | .policerWrite h p => some (h, bodyPolicerWrite h p)
  | .policerRead h region policer clear => some (h, bodyPolicerRead h region policer clear)
  | .hwmRead h p => some (h, bodyHwmRead h p)
  | .hbmBudgetWrite h p => some (h, bodyHbmBudgetWrite h p)
  | .hbmBudgetRead h => some (h, bodyHbmBudgetRead h)
  | .hbmStatus h => some (h, bodyHbmStatus h)
  | .hbmScrubConfig h scrubPeriod => some (h, bodyHbmScrubConfig h scrubPeriod)
  | .hbmPcRetire h pc => some (h, bodyHbmPcRetire h pc)
  | .sysIdentity h => some (h, bodySysIdentity h)
  | .sysStatus h => some (h, bodySysStatus h)
  | .sysEcho h => some (h, bodySysEcho h)
  | .sysGroupOpen h timeout => some (h, bodySysGroupOpen h timeout)
  | .sysGroupCommit h => some (h, bodySysGroupCommit bodyOf h)
  | .sysGroupAbort h => some (h, bodySysGroupAbort h)
  | .sysCompletionAck h tags => some (h, bodySysCompletionAck h tags)
  | .sysPendingRead h => some (h, bodySysPendingRead h)
  | .sysIntakeConfig h p => some (h, bodySysIntakeConfig h p)
  | .sysDeviceIdWrite h deviceId flashOk => some (h, bodySysDeviceIdWrite h deviceId flashOk)
  | .sysReset h scope => some (h, bodySysReset h scope)
  | .portConfig h p => some (h, bodyPortConfig h p)
  | .portStatus h port => some (h, bodyPortStatus h port)
  | .portCountersRead h port clear => some (h, bodyPortCountersRead h port clear)
  | .portAdmin h port adminUp => some (h, bodyPortAdmin h port adminUp)
  | .portOpticsAccess h p => some (h, bodyPortOpticsAccess h p)
  | .diagPrbs h p => some (h, bodyDiagPrbs h p)
  | .diagLoopback h port mode => some (h, bodyDiagLoopback h port mode)
  | .diagEyeScan h port lane measured => some (h, bodyDiagEyeScan h port lane measured)
  | .diagRegRead h addr count => some (h, bodyDiagRegRead h addr count)
  | .diagErrorInject h p => some (h, bodyDiagErrorInject h p)
  | .diagMemTest h memory failing => some (h, bodyDiagMemTest h memory failing)
  | .secKeyWrite h p => some (h, bodySecKeyWrite h p)
  | .secKeyClear h role keyId flashOk => some (h, bodySecKeyClear h role keyId flashOk)
  | .secKeyStatus h => some (h, bodySecKeyStatus h)
  | .secHostAccess h hostAccess flashOk => some (h, bodySecHostAccess h hostAccess flashOk)
  | .secLifecycleSet h target serial burnOk => some (h, bodySecLifecycleSet h target serial burnOk)
  | .secFwWrite h p => some (h, bodySecFwWrite h p)
  | .secFwActivate h raiseFloor flashOk => some (h, bodySecFwActivate h raiseFloor flashOk)
  | .secFwStatus h => some (h, bodySecFwStatus h)
  | .auditRead h from_ count => some (h, bodyAuditRead h from_ count)
  | .auditAck h upto => some (h, bodyAuditAck h upto)
  | .auditConfig h auditHold flashOk => some (h, bodyAuditConfig h auditHold flashOk)
  | .jobSubmit h p cmd => some (h, bodyJobSubmit bodyOf h p cmd)
  | .jobCancel h handle gen => some (h, bodyJobCancel h handle gen)
  | .jobStatus h handle gen => some (h, bodyJobStatus h handle gen)
  | .geyserClassWrite h cls cost minShare => some (h, bodyGeyserClassWrite h cls cost minShare)
  | .geyserActivityWrite h activity timeBudget itemLimit => some (h, bodyGeyserActivityWrite h activity timeBudget itemLimit)
  | .geyserStatus h => some (h, bodyGeyserStatus h)
  | .fumStatus h => some (h, bodyFumStatus h)
  | .pwrModeSet h mode profile drain => some (h, bodyPwrModeSet h mode profile drain)
  | .pwrCapSet h cap flashOk => some (h, bodyPwrCapSet h cap flashOk)
  | .pwrLimitsSet h p => some (h, bodyPwrLimitsSet h p)
  | .pwrReducedProfileWrite h p => some (h, bodyPwrReducedProfileWrite h p)
  | .pwrScheduleWrite h p => some (h, bodyPwrScheduleWrite h p)
  | .pwrWakeConfig h wakeInputs => some (h, bodyPwrWakeConfig h wakeInputs)
  | .pwrStatus h => some (h, bodyPwrStatus h)
  | .timeSourceConfig h p => some (h, bodyTimeSourceConfig h p)
  | .timeSet h p => some (h, bodyTimeSet h p)
  | .timeStatus h => some (h, bodyTimeStatus h)
  | .ptpClockConfig h p => some (h, bodyPtpClockConfig h p)
  | .ptpPortConfig h p => some (h, bodyPtpPortConfig h p)
  | .ptpStatus h => some (h, bodyPtpStatus h)
  | .timeOutputWrite h p => some (h, bodyTimeOutputWrite h p)
  | .eventStampRead h => some (h, bodyEventStampRead h)
  | .lldpConfig h p => some (h, bodyLldpConfig h p)
  | .discoveryRead h table from_ count => some (h, bodyDiscoveryRead h table from_ count)
  | .domainConfig h domainId memberTtl hostless => some (h, bodyDomainConfig h domainId memberTtl hostless)
  | .opticsSlotWrite h p => some (h, bodyOpticsSlotWrite h p)
  | .opticsStatus h => some (h, bodyOpticsStatus h)
  | .faultStatus h => some (h, bodyFaultStatus h)
  | .faultPolicyWrite h kind n windowMs => some (h, bodyFaultPolicyWrite h kind n windowMs)
  | .faultLogRead h from_ count => some (h, bodyFaultLogRead h from_ count)
  | .hwRetire h p => some (h, bodyHwRetire h p)
  | .faultRecordClear h => some (h, bodyFaultRecordClear h)
  | _ => none

end Sys2Proof.Machine
end

