-- ==== Sys2Proof/Machine/Startup.lean ====
section
/-! DEFINITION. Resets, boot and readiness (R602 to R613, Tables 15-1 to 15-4). -/

namespace Sys2Proof.Machine

/-! ## Resets -/

/-- PORST_N is low, or a power-good input, or SYSCLK_25M is lost (R603, R644). -/
def State.heldDown (s : State) : Bool := !s.boot.porstHigh || s.boot.powerGood != 15 || !s.boot.sysclk

/-- The boot flash after a reset: FAULT_RECORD_CLEAR takes its effect (R625). -/
def Flash.afterReset (f : Flash) : Flash := if f.clearRetired then { f with retired := [], clearRetired := false } else f

/-- What has left the device up to a reset: frames in transmission end (R606), and every other frame is lost. -/
def State.endedOut (s : State) : Outputs × List (Nat × Cell) :=
  let t := loseFramesAll s
  (t.out, t.fab.sent)

/-- A power-on reset (R604): fuses and flash stay; the pins are as they are. While it is held, no domain is powered. DEDUCED, unsafe: log entry 99. -/
def powerOnReset (s : State) : State :=
  let (out, cells) := s.endedOut
  let r : State := { State.reset with
    pending := s.pending
    flash := s.flash.afterReset
    out := out
    fab.sent := cells
    ocf.sent := s.ocf.sent }
  { r with
    roles.lifecycle := s.flash.lifecycle
    host.perstHigh := s.host.perstHigh
    boot.prevTrip := s.boot.tripped
    boot.porstHigh := s.boot.porstHigh
    boot.sysrstHigh := s.boot.sysrstHigh
    boot.powerGood := s.boot.powerGood
    boot.sysclk := s.boot.sysclk
    power.toPower := if s.heldDown then [] else r.power.toPower }

/-- The boot begins (Table 15-3) where nothing holds the device: domains 94 and 84 are powered for the boot ROM.
DESIGN CHOICE, unsafe: log entry 97. -/
def startBoot (s : State) : State :=
  if s.heldDown || !s.boot.sysrstHigh then s
  else { s with power.toPower := [94, 84].filter (fun d => s.domain d != .on) }

/-- A power-on reset that falls into another one stands for the same trip (R603). -/
def keepTrip (s : State) : State := { s with boot.tripped := s.boot.tripped || (s.heldDown && s.boot.prevTrip) }

/-- PORST_N_ASSERT (R603, R607). -/
def execPorstNAssert (s : State) : Host.Outcome State Fault Refusal := .next (powerOnReset { keepTrip s with boot.porstHigh := false })

/-- PORST_N_RELEASE (Table 15-3). -/
def execPorstNRelease (s : State) : Host.Outcome State Fault Refusal :=
  .next (if s.boot.porstHigh then s else startBoot { s with boot.porstHigh := true })

/-- POWER_GOOD_FALL (R603): PG_AON, PG_CORE, PG_SD or PG_HBM. -/
def execPowerGoodFall (input : Nat) (s : State) : Host.Outcome State Fault Refusal :=
  .next (powerOnReset { keepTrip s with boot.powerGood := setBit s.boot.powerGood input false })

/-- SYSCLK_LOSS (R644). -/
def execSysclkLoss (s : State) : Host.Outcome State Fault Refusal := .next (powerOnReset { keepTrip s with boot.sysclk := false })

/-- POWER_GOOD_RETURN (R603, R644): a power-good input, or SYSCLK_25M as input 4. -/
def execPowerGoodReturn (input : Nat) (s : State) : Host.Outcome State Fault Refusal :=
  let t : State := if input < 4 then { s with boot.powerGood := setBit s.boot.powerGood input true } else { s with boot.sysclk := true }
  .next (if s.heldDown then startBoot t else s)

/-- The host interface across a warm reset (Tables 11-3 to 11-11; R462, R473, R474, R654): the link, configuration space, MSI-X table, event
inputs, interrupt status, the outbound queues and what is marked S:keep stay. DEDUCED, unsafe: log entry 98. -/
def HostIf.afterWarm (h : HostIf) : HostIf :=
  let ring (r : Ring) : Ring := { base := r.base, sizeLog2 := r.sizeLog2 }
  let chan (c : Channel) : Channel :=
    { outQ := c.outQ, peerReset := c.peerReset, discard := c.discard, flushCount := c.flushCount, hostGen := c.hostGen }
  let fresh : HostIf := {}
  { h with
    chan := h.chan.map (fun e => (e.1, chan e.2))
    h2dPend := 0
    cmb := fresh.cmb
    rx := h.rx.map (fun e => (e.1, ring e.2))
    tx := h.tx.map (fun e => (e.1, ring e.2))
    reasonMap := []
    ringWait := fresh.ringWait
    txTurn := fresh.txTurn
    int := { status := h.int.status }
    evt := { h.evt with filterClock := true }
    dmaBusy := [] }

/-- A warm reset with its cause (R604, Table 15-2). DESIGN CHOICE, unsafe: log entry 97. DEDUCED, unsafe: log entry 98. -/
def warmReset (cause : Nat) (s : State) : State :=
  let s := firmwareReset (List.range 16) s
  let (out, cells) := s.endedOut
  let r : State := { State.reset with
    pending := s.pending
    flash := s.flash.afterReset
    host := s.host.afterWarm
    out := out
    fab.sent := cells
    ocf.sent := s.ocf.sent
    ocf.epoch := s.ocf.epoch
    time := { s.time with outputs := [], stamps := [], evqOvf := 0, latest := [] }
    roles.audit := { s.roles.audit with hold := false }
    roles.lifecycle := s.flash.lifecycle }
  { r with
    boot.resetCause := cause
    boot.faultRec := s.boot.faultRec
    boot.mcTimes := s.boot.mcTimes
    boot.porstHigh := s.boot.porstHigh
    boot.sysrstHigh := s.boot.sysrstHigh
    boot.powerGood := s.boot.powerGood
    boot.sysclk := s.boot.sysclk
    power.profiles := s.power.profiles
    power.schedule := s.power.schedule
    power.capFloor := s.power.capFloor
    power.capCeiling := s.power.capCeiling
    power.opCap := s.power.opCap
    power.domains := if s.domain 94 = .on then [(94, .on), (95, .on)] else [(95, .on)]
    power.toPower := [] }

/-- A warm reset acts now: not while a power-on reset is held, nor in a thermal trip, nor in a safe state that is held (R560, R607, R623).
DEDUCED, unsafe: log entry 99. -/
def State.mayWarm (s : State) : Bool := !s.heldDown && !s.boot.tripped && !s.boot.heldSafe

/-- SYSRST_N_ASSERT (R603): a pulse shorter than 1 µs is ignored. -/
def execSysrstNAssert (ns : Nat) (s : State) : Host.Outcome State Fault Refusal :=
  .next (if ns < 1000 then s
  else
    let s : State := { s with boot.sysrstHigh := false }
    if s.mayWarm then warmReset 0x02 s else s)

/-- SYSRST_N_RELEASE (R477). -/
def execSysrstNRelease (s : State) : Host.Outcome State Fault Refusal :=
  .next (if s.boot.sysrstHigh then s
  else
    let s : State := { s with boot.sysrstHigh := true }
    if s.mayWarm then startBoot s else s)

/-- WARM_RESET: the reset that a command or an event has called for (R434, R451, R542, R570, R623). -/
def execWarmReset (cause : Nat) (s : State) : Host.Outcome State Fault Refusal :=
  .next (if s.boot.resetDue = some cause && s.mayWarm then startBoot (warmReset cause s) else s)

/-- SAFE_STATE_RESTART (R622, R623). -/
def execSafeStateRestart (s : State) : Host.Outcome State Fault Refusal :=
  .next (if s.boot.safe && s.mayWarm then startBoot (warmReset 0x07 s) else s)

/-! ## Boot -/

/-- The code of R609 of a copy: 0 when it verifies. -/
def State.copyFails (s : State) (b flashResponds : Bool) : Nat :=
  if !flashResponds then 0x01 else verifyImage s.flash s.roles.lifecycle (s.image b)

/-- BOOT_IMAGE_VERIFY (R453, R454, R609, R610): the preferred copy, else the other; with neither, the device stays in Reset.
DESIGN CHOICE, unsafe: log entry 97. -/
def execBootImageVerify (flashResponds : Bool) (s : State) : Host.Outcome State Fault Refusal :=
  if s.heldDown || !s.boot.sysrstHigh || s.boot.safe || s.boot.tripped || s.boot.stage != 0 || s.power.mode != .reset || s.domain 94 != .on ||
    s.domain 84 != .on then .next s
  else
    let first := s.flash.preferB
    let code := s.copyFails first flashResponds
    if code = 0 then .next { s with
      boot.stage := 1
      boot.copyB := first
      boot.failReason := 0
      power.mode := .rising }
    else if s.copyFails (!first) flashResponds = 0 then .next { s with
      boot.stage := 1
      boot.copyB := !first
      boot.failReason := code
      power.mode := .rising }
    else .next { s with
      boot.stage := 15
      boot.failReason := code }

/-- The new EPOCH (R415). DESIGN CHOICE, unsafe: log entry 100. -/
def nextEpoch (kept recorded : Nat) : Nat :=
  let e := wrap 32 (max kept recorded + 1)
  if e = 0 then 1 else e

/-- EPOCH advances. When the flash write fails, only SYS_IDENTITY is accepted until the next reset. -/
def advanceEpoch (flashOk : Bool) (s : State) : State :=
  let e := nextEpoch s.ocf.epoch s.flash.epoch
  let s : State := { s with
    ocf.epoch := e
    ocf.identityOnly := !flashOk }
  if flashOk then { s with flash.epoch := e } else s

/-- The BOOT entry (R415, R458): after a power-on reset the ring is rebuilt from the flash, and numbers that were reserved are reported.
DESIGN CHOICE, unsafe: log entry 100. -/
def bootAudit (s : State) : State :=
  if s.boot.resetCause != 0x01 then auditEvent 0x03 s.boot.resetCause (releaseAudit s)
  else
    let last := s.flash.audit.getLast?
    let l := (last.map AuditEntry.entryNo).getD 0
    let v := max s.flash.reservation l
    let s : State := { s with roles.audit := { s.roles.audit with
      ring := lastN 4096 s.flash.audit
      last := v
      head := (last.map AuditEntry.link).getD 0 } }
    let e := s.auditBase 0x03 (if v > l then v - l else s.boot.resetCause)
    let s := putAudit (if v > l then { e with flags := e.flags + 2 } else e) s
    if s.roles.audit.unexported > 3072 then raise 281 s else s

/-- The wipe of R452: keys and configuration records go. A read-back that fails leaves the marker clear and raises source 282.
DESIGN CHOICE, unsafe: log entry 102. -/
def wipe (readBackOk : Bool) (s : State) : State :=
  if !(s.roles.lifecycle = .returned || s.roles.lifecycle = .void) || s.flash.wipeDone then s
  else
    let s : State := { s with
      flash.keys := []
      flash.settings := {}
      hbm.mem := [] }
    if readBackOk then { auditEvent 0x06 0 s with flash.wipeDone := true } else raise 282 s

/-- The persistent settings (R605), each at its default where the flash holds none. -/
def applySettings (s : State) : State :=
  let c := s.flash.settings
  let mac := c.intake.getD (s.flash.identityMac, 0x0B4F48000000, 7)
  let lim := c.pwrLimits.getD [200, 560, 10, 64, 95, 1]
  let fab := c.fabric.getD [0, 0, 0, 128, 256, 64, 20]
  { s with
    roles.keys := s.flash.keys
    roles.hostAccess := c.hostAccess.getD 0
    roles.audit := { s.roles.audit with hold := c.auditHold.getD 0 = 1 }
    ocf.deviceId := c.deviceId.getD 0
    ocf.stationMac := mac.1
    ocf.groupMac := mac.2.1
    ocf.replyTc := mac.2.2
    power.capFloor := lim.getD 0 200
    power.capCeiling := lim.getD 1 560
    power.maintPermille := lim.getD 2 10
    power.hbmCFloor := lim.getD 3 64
    power.tjWarn := lim.getD 4 95
    power.shedNotice := lim.getD 5 1
    power.opCap := c.pwrCap
    fab.cfg := { enable := fab.getD 0 0 = 1, slot := fab.getD 1 0, groupId := fab.getD 2 0, directLimit := fab.getD 3 128,
                 grantWindow := fab.getD 4 256, grantSize := fab.getD 5 64, robTimeout := fab.getD 6 20 }
    fab.ports := c.fabricLinks.map (fun e => (e.1, { width := e.2.1, rate := e.2.2 })) }

/-- Every cell of the retirement record is retired (R615): a Dvorob Link port comes up at what its lanes leave. -/
def applyRetired (s : State) : State :=
  let cells := s.flash.retired
  let of_ (kind : Nat) : List Nat := (cells.filter (fun c => c.1 = kind)).map Prod.snd
  let s : State := { s with
    boot.retired := cells
    hbm.retired := of_ 2
    boot.spares := forEach (of_ 7) s.boot.spares (fun i t => tmod t (i / 2 ^ 16) 0 (· + 1)) }
  let s := forEach (of_ 4) s (fun i s =>
    let p := s.pipe (i / 16)
    s.setPipe (i / 16) { p with retiredBanks := setBit p.retiredBanks (i % 16) true })
  { s with fab.ports := s.fab.ports.map (fun e => (e.1, { e.2 with width := min e.2.width (s.widthLeft e.1) })) }

/-- The order of R608. -/
def bootOrder : List Nat :=
  [85, 86, 87, 88, 89] ++ [80, 81, 82, 83] ++ [90, 91, 92, 93] ++ (List.range 16).map (64 + ·) ++ (List.range 32).map (32 + ·) ++ List.range 32

/-- BOOT_FIRMWARE_START (Table 15-3, step 6). -/
def execBootFirmwareStart (flashOk readBackOk : Bool) (s : State) : Host.Outcome State Fault Refusal :=
  .next (if s.boot.stage != 1 || s.heldDown || !s.boot.sysrstHigh || s.boot.safe then s
  else
    let s := wipe readBackOk (bootAudit (advanceEpoch flashOk { s with boot.stage := 2 }))
    queuePower bootOrder (applyRetired (applySettings s)))

/-- FAULT_REC enters the fault log (R623). -/
def logFaultRecord (s : State) : State :=
  let r := s.boot.faultRec
  { s with boot.log := lastN 1024 (s.boot.log ++
      [{ timeS := getBe r 0 6, timeNs := getBe r 6 4, level := 3, kind := 0, index := getBe r 12 4, cause := getBe r 10 1, action := 5 }]) }

/-- Step 7 of Table 15-3 begins: the interrupt controller runs (R610, R623). DEDUCED, unsafe: log entry 101. -/
def beginRise (s : State) : State :=
  if s.boot.stage != 2 then s
  else
    let s : State := { s with boot.stage := 3 }
    let s := if s.boot.copyB != s.flash.preferB then raise 718 s else s
    if s.boot.resetCause = 0x07 then raise 717 (logFaultRecord s) else s

/-! ## Power domains (R546, R608) -/

/-- DOMAIN_POWER_UP: one ramp at a time; a unit that has come to be parked or shed is passed over. -/
def execDomainPowerUp (s : State) : Host.Outcome State Fault Refusal :=
  .next (if s.heldDown || !s.boot.sysrstHigh || s.boot.safe || s.boot.tripped || s.power.domains.any (fun e => e.2 = .ramping) then s
  else match s.power.toPower.filter (fun d => !s.unitHeld d) with
    | [] => s
    | d :: ds => setDomain d .ramping (beginRise { s with power.toPower := ds }))

/-- A controller of a domain that has power trains, unless it leaves self-refresh (R389, R398). -/
def startStack (k : Nat) (s : State) : State :=
  if s.hbm.selfRefresh.testBit k then s
  else setStack k .training { s with hbm.attempts := tdel s.hbm.attempts k }

/-- DOMAIN_POWER_GOOD. -/
def execDomainPowerGood (domain : Nat) (s : State) : Host.Outcome State Fault Refusal :=
  .next (if s.domain domain != .ramping then s
  else
    let s := setDomain domain .on s
    if domain = 88 || domain = 89 then startStack (domain - 88) s else s)

/-- DOMAIN_POWER_TIMEOUT: the unit fails; domain 94 without power good is a chip machine check (R612, Table 15-8). -/
def execDomainPowerTimeout (domain : Nat) (s : State) : Host.Outcome State Fault Refusal :=
  .next (if s.domain domain != .ramping then s
  else
    let s := setDomain domain .off s
    if domain = 94 then machineCheck 0x05 94 (chainOf 0x05 94) s else failFunction domain none s)

/-! ## Readiness (R612, R613, Table 15-4) -/

/-- The power that a function needs. -/
def State.fnPowered (s : State) (f : Nat) : Bool :=
  if f < 64 then s.domain f = .on
  else if f < 80 then s.domain (f / 2 * 2) = .on && s.domain (f / 2 * 2 + 1) = .on
  else if f < 94 then s.domain f = .on
  else s.domain 94 = .on

/-- The functions that a function depends on are ready. -/
def State.depsReady (s : State) (f : Nat) : Bool :=
  if 32 ≤ f && f < 48 then
    let r := (f - 32) / 4
    let hbm := (List.range 2).all (fun k => s.stack k = .ready) || (List.range 2).any (fun k => s.stack k = .failed)
    s.isReady (72 + 2 * r) && s.isReady (73 + 2 * r) && s.isReady (90 + r) && (!s.power.waking || hbm)
  else if 80 ≤ f && f < 84 then s.isReady 95
  else if 88 ≤ f && f < 90 then s.stack (f - 88) = .ready
  else if f = 94 then s.isReady 95 && (List.range 4).any (fun r => s.isReady (84 + r))
  else if f = 98 then s.isReady 94
  else true

/-- FUNCTION_READY: a function reports ready or failed. DEDUCED, unsafe: log entry 101. -/
def execFunctionReady (fn : Nat) (ok : Bool) (s : State) : Host.Outcome State Fault Refusal :=
  .next (if fn ≥ 99 || !s.running || s.isReady fn || s.boot.failed.testBit fn then s
  else if !ok then failFunction fn none s
  else if s.unitHeld fn || !s.fnPowered fn || !s.depsReady fn then s
  else resumeTables (raise (512 + fn) { s with boot.ready := setBit s.boot.ready fn true }))

/-- RISING_COMPLETE (R542): the target mode, source 337, and the schedule entries that waited (R544). -/
def execRisingComplete (s : State) : Host.Outcome State Fault Refusal :=
  .next (if !s.running || s.power.mode != .rising || s.power.waking || s.boot.stage != 3 || !s.allReported then s
  else
    let s := raise 337 { s with
      power.mode := s.power.target
      boot.stage := 4 }
    runDeferred s.power.deferredSched s)

end Sys2Proof.Machine
end

