-- ==== Sys2Proof/Machine/Dispatch.lean ====
section
/-! DEFINITION. The dispatch of commands to their meanings, one arm per constructor. -/

namespace Sys2Proof.Machine

/-- The effect of a command on everything but the queue of waiting commands. -/
def exec (i : Instr) (s : State) : Host.Outcome State Fault Refusal :=
  match i with
  | .porstNAssert => Sys2Proof.Machine.execPorstNAssert s
  | .porstNRelease => Sys2Proof.Machine.execPorstNRelease s
  | .sysrstNAssert ns => Sys2Proof.Machine.execSysrstNAssert ns s
  | .powerGoodFall input => Sys2Proof.Machine.execPowerGoodFall input s
  | .sysclkLoss => Sys2Proof.Machine.execSysclkLoss s
  | .warmReset cause => Sys2Proof.Machine.execWarmReset cause s
  | .bootImageVerify flashResponds => Sys2Proof.Machine.execBootImageVerify flashResponds s
  | .bootFirmwareStart flashOk readBackOk => Sys2Proof.Machine.execBootFirmwareStart flashOk readBackOk s
  | .domainPowerUp => Sys2Proof.Machine.execDomainPowerUp s
  | .domainPowerGood domain => Sys2Proof.Machine.execDomainPowerGood domain s
  | .domainPowerTimeout domain => Sys2Proof.Machine.execDomainPowerTimeout domain s
  | .functionReady fn ok => Sys2Proof.Machine.execFunctionReady fn ok s
  | .risingComplete => Sys2Proof.Machine.execRisingComplete s
  | .frameArrival port data fcsOk => Sys2Proof.Machine.execFrameArrival port data fcsOk s
  | .pfcRefresh port prio => Sys2Proof.Machine.execPfcRefresh port prio s
  | .packetSlotGrant pipe parityError => Sys2Proof.Machine.execPacketSlotGrant pipe parityError s
  | .ocfIntake opcode f => Sys2Proof.Machine.execOcfIntake opcode f s
  | .flowResultReturn pipe id => Sys2Proof.Machine.execFlowResultReturn pipe id s
  | .flowResultDeadline pipe id => Sys2Proof.Machine.execFlowResultDeadline pipe id s
  | .descriptorRelease pipe port => Sys2Proof.Machine.execDescriptorRelease pipe port s
  | .originatedFrameEnqueue => Sys2Proof.Machine.execOriginatedFrameEnqueue s
  | .flowOpAccept region ecc => Sys2Proof.Machine.execFlowOpAccept region ecc s
  | .deferredOpRun region => Sys2Proof.Machine.execDeferredOpRun region s
  | .sinterIdleWriteback region locator => Sys2Proof.Machine.execSinterIdleWriteback region locator s
  | .sinterLogReplay region ecc => Sys2Proof.Machine.execSinterLogReplay region ecc s
  | .flowAgingSweepVisit region partition overflow index => Sys2Proof.Machine.execFlowAgingSweepVisit region partition overflow index s
  | .relocationJob region => Sys2Proof.Machine.execRelocationJob region s
  | .tarnOnlyMigrate region => Sys2Proof.Machine.execTarnOnlyMigrate region s
  | .natBufferRefill region pool ecc0 ecc1 => Sys2Proof.Machine.execNatBufferRefill region pool ecc0 ecc1 s
  | .natRingFill pool => Sys2Proof.Machine.execNatRingFill pool s
  | .lbHealthPeriod pool => Sys2Proof.Machine.execLbHealthPeriod pool s
  | .groupHomeSwitch partition => Sys2Proof.Machine.execGroupHomeSwitch partition s
  | .exportMessageFlush profile => Sys2Proof.Machine.execExportMessageFlush profile s
  | .exportMessageSend profile lost => Sys2Proof.Machine.execExportMessageSend profile lost s
  | .templateRefresh profile => Sys2Proof.Machine.execTemplateRefresh profile s
  | .learnEventApply => Sys2Proof.Machine.execLearnEventApply s
  | .flapWindowExpire fid mac => Sys2Proof.Machine.execFlapWindowExpire fid mac s
  | .pinHoldExpire fid mac => Sys2Proof.Machine.execPinHoldExpire fid mac s
  | .macAgingVisit position => Sys2Proof.Machine.execMacAgingVisit position s
  | .learnMessageSend => Sys2Proof.Machine.execLearnMessageSend s
  | .lpmNodeFree => Sys2Proof.Machine.execLpmNodeFree s
  | .crossbarGrant pipe => Sys2Proof.Machine.execCrossbarGrant pipe s
  | .egressDecision pipe => Sys2Proof.Machine.execEgressDecision pipe s
  | .replicationTake pipe => Sys2Proof.Machine.execReplicationTake pipe s
  | .frameTransmitComplete port => Sys2Proof.Machine.execFrameTransmitComplete port s
  | .shaperSlotDue pipe coarse slot => Sys2Proof.Machine.execShaperSlotDue pipe coarse slot s
  | .gateTransition port => Sys2Proof.Machine.execGateTransition port s
  | .gateChangeInstant port => Sys2Proof.Machine.execGateChangeInstant port s
  | .pauseFrameReceive port pfc enable quanta => Sys2Proof.Machine.execPauseFrameReceive port pfc enable quanta s
  | .pauseExpire port tc => Sys2Proof.Machine.execPauseExpire port tc s
  | .pfcWatchdogExpire port tc => Sys2Proof.Machine.execPfcWatchdogExpire port tc s
  | .linkDown port => Sys2Proof.Machine.execLinkDown port s
  | .linkUp port => Sys2Proof.Machine.execLinkUp port s
  | .lingerExpire port => Sys2Proof.Machine.execLingerExpire port s
  | .spillPageWrite region voq => Sys2Proof.Machine.execSpillPageWrite region voq s
  | .spillPageRefill region voq ecc => Sys2Proof.Machine.execSpillPageRefill region voq ecc s
  | .fabricCellSend cell => Sys2Proof.Machine.execFabricCellSend cell s
  | .fabricIdleSend group => Sys2Proof.Machine.execFabricIdleSend group s
  | .dataCellReceive group cell ccrc => Sys2Proof.Machine.execDataCellReceive group cell ccrc s
  | .hello hd groupId slot device reachVec => Sys2Proof.Machine.execHello hd groupId slot device reachVec s
  | .reach hd reachVec => Sys2Proof.Machine.execReach hd reachVec s
  | .load hd occupancy => Sys2Proof.Machine.execLoad hd occupancy s
  | .portState hd slot port up => Sys2Proof.Machine.execPortState hd slot port up s
  | .request hd slot region port tc cls cells => Sys2Proof.Machine.execRequest hd slot region port tc cls cells s
  | .grant hd region voq cells => Sys2Proof.Machine.execGrant hd region voq cells s
  | .replay hd lseq => Sys2Proof.Machine.execReplay hd lseq s
  | .credit hd hop cells => Sys2Proof.Machine.execCredit hd hop cells s
  | .flowReq hd slot id req => Sys2Proof.Machine.execFlowReq hd slot id req s
  | .flowResp hd slot id res => Sys2Proof.Machine.execFlowResp hd slot id res s
  | .ocf hd slot index total opcode f => Sys2Proof.Machine.execOcf hd slot index total opcode f s
  | .learn hd slot index total f => Sys2Proof.Machine.execLearn hd slot index total f s
  | .ocfSegmentTimeout slot => Sys2Proof.Machine.execOcfSegmentTimeout slot s
  | .helloSend group => Sys2Proof.Machine.execHelloSend group s
  | .loadSend => Sys2Proof.Machine.execLoadSend s
  | .voqRequestTimer region voq => Sys2Proof.Machine.execVoqRequestTimer region voq s
  | .fabricPortTimeout group => Sys2Proof.Machine.execFabricPortTimeout group s
  | .robTimeout slot pipe tc => Sys2Proof.Machine.execRobTimeout slot pipe tc s
  | .hbmRequestAccept req => Sys2Proof.Machine.execHbmRequestAccept req s
  | .hbmGatePass region => Sys2Proof.Machine.execHbmGatePass region s
  | .frReadRefuse region => Sys2Proof.Machine.execFrReadRefuse region s
  | .hbmBudgetPeriod => Sys2Proof.Machine.execHbmBudgetPeriod s
  | .pcIssue pc => Sys2Proof.Machine.execPcIssue pc s
  | .hbmAccessComplete pc ecc burst => Sys2Proof.Machine.execHbmAccessComplete pc ecc burst s
  | .rowIdleClose pc bank => Sys2Proof.Machine.execRowIdleClose pc bank s
  | .bankRefresh pc bank => Sys2Proof.Machine.execBankRefresh pc bank s
  | .hbmTrainingComplete stack ok => Sys2Proof.Machine.execHbmTrainingComplete stack ok s
  | .hbmScrubVisit region addr ecc => Sys2Proof.Machine.execHbmScrubVisit region addr ecc s
  | .retireRemapDrained flashOk => Sys2Proof.Machine.execRetireRemapDrained flashOk s
  | .selfRefreshEntry stack => Sys2Proof.Machine.execSelfRefreshEntry stack s
  | .hbmWakeReady stack restored trained => Sys2Proof.Machine.execHbmWakeReady stack restored trained s
  | .tcamScrubVisit pipe addr parityError => Sys2Proof.Machine.execTcamScrubVisit pipe addr parityError s
  | .mbxOutPost channel => Sys2Proof.Machine.execMbxOutPost channel s
  | .cmbTake => Sys2Proof.Machine.execCmbTake s
  | .doorbellTake doorbell => Sys2Proof.Machine.execDoorbellTake doorbell s
  | .dmaCommandReadComplete channel ok opcode f => Sys2Proof.Machine.execDmaCommandReadComplete channel ok opcode f s
  | .commandTimeout opcode f => Sys2Proof.Machine.execCommandTimeout opcode f s
  | .completionSend id => Sys2Proof.Machine.execCompletionSend id s
  | .completionResend id => Sys2Proof.Machine.execCompletionResend id s
  | .groupTimeout group => Sys2Proof.Machine.execGroupTimeout group s
  | .auditFlashWrite => Sys2Proof.Machine.execAuditFlashWrite s
  | .rxFrameWrite bufs dmaError => Sys2Proof.Machine.execRxFrameWrite bufs dmaError s
  | .ringWaitExpire => Sys2Proof.Machine.execRingWaitExpire s
  | .txFrameFetch ring descs data dmaError => Sys2Proof.Machine.execTxFrameFetch ring descs data dmaError s
  | .interruptMessageSend group => Sys2Proof.Machine.execInterruptMessageSend group s
  | .holdoffExpire group => Sys2Proof.Machine.execHoldoffExpire group s
  | .perstN => Sys2Proof.Machine.execPerstN s
  | .functionLevelReset => Sys2Proof.Machine.execFunctionLevelReset s
  | .pciePowerStateChange dstate busMaster msixEnable pmeEnable => Sys2Proof.Machine.execPciePowerStateChange dstate busMaster msixEnable pmeEnable s
  | .msixVectorUnmask vector => Sys2Proof.Machine.execMsixVectorUnmask vector s
  | .eventInputEdge input rising => Sys2Proof.Machine.execEventInputEdge input rising s
  | .eventAsyncLatch input rising => Sys2Proof.Machine.execEventAsyncLatch input rising s
  | .workItemRelease items => Sys2Proof.Machine.execWorkItemRelease items s
  | .workItemGrant engine executor => Sys2Proof.Machine.execWorkItemGrant engine executor s
  | .workItemComplete engine executor result => Sys2Proof.Machine.execWorkItemComplete engine executor result s
  | .itemLimitOverrun engine executor => Sys2Proof.Machine.execItemLimitOverrun engine executor s
  | .energyPeriodBoundary => Sys2Proof.Machine.execEnergyPeriodBoundary s
  | .microwordExecute engine parity => Sys2Proof.Machine.execMicrowordExecute engine parity s
  | .fumaroleMemComplete engine error => Sys2Proof.Machine.execFumaroleMemComplete engine error s
  | .waitLimitExpire engine => Sys2Proof.Machine.execWaitLimitExpire engine s
  | .tableDump handle => Sys2Proof.Machine.execTableDump handle s
  | .flowBulkInsert handle blocks => Sys2Proof.Machine.execFlowBulkInsert handle blocks s
  | .counterSnapshot handle => Sys2Proof.Machine.execCounterSnapshot handle s
  | .delayedCommand handle => Sys2Proof.Machine.execDelayedCommand handle s
  | .calderaPeriod sample => Sys2Proof.Machine.execCalderaPeriod sample s
  | .shedNoticeEnd region => Sys2Proof.Machine.execShedNoticeEnd region s
  | .shedReturn region => Sys2Proof.Machine.execShedReturn region s
  | .thermalHoldClear region => Sys2Proof.Machine.execThermalHoldClear region s
  | .capActionUndo => Sys2Proof.Machine.execCapActionUndo s
  | .capUnmet => Sys2Proof.Machine.execCapUnmet s
  | .dvfsStepComplete region => Sys2Proof.Machine.execDvfsStepComplete region s
  | .regulatorFault pair => Sys2Proof.Machine.execRegulatorFault pair s
  | .reducedProfileApply => Sys2Proof.Machine.execReducedProfileApply s
  | .parkRetentionEntry pipe => Sys2Proof.Machine.execParkRetentionEntry pipe s
  | .dormantDrainEnd => Sys2Proof.Machine.execDormantDrainEnd s
  | .dormantFlushComplete => Sys2Proof.Machine.execDormantFlushComplete s
  | .wake cause imageOk => Sys2Proof.Machine.execWake cause imageOk s
  | .wakeComplete restoreOk => Sys2Proof.Machine.execWakeComplete restoreOk s
  | .dormantOcfHold opcode f => Sys2Proof.Machine.execDormantOcfHold opcode f s
  | .scheduleEntryDue entry => Sys2Proof.Machine.execScheduleEntryDue entry s
  | .ptpMessageReceive port msg => Sys2Proof.Machine.execPtpMessageReceive port msg s
  | .ptpMessageSend port kind => Sys2Proof.Machine.execPtpMessageSend port kind s
  | .ppsEdge rising => Sys2Proof.Machine.execPpsEdge rising s
  | .ppsTimeout => Sys2Proof.Machine.execPpsTimeout s
  | .freqInvalid => Sys2Proof.Machine.execFreqInvalid s
  | .ptpSyncTimeout => Sys2Proof.Machine.execPtpSyncTimeout s
  | .announceTimeout port => Sys2Proof.Machine.execAnnounceTimeout port s
  | .holdoverExpire => Sys2Proof.Machine.execHoldoverExpire s
  | .leapEvent => Sys2Proof.Machine.execLeapEvent s
  | .timedOutputEdge output => Sys2Proof.Machine.execTimedOutputEdge output s
  | .lldpTransmit port => Sys2Proof.Machine.execLldpTransmit port s
  | .lldpduReceive port pdu => Sys2Proof.Machine.execLldpduReceive port pdu s
  | .lldpTtlExpire port chassis => Sys2Proof.Machine.execLldpTtlExpire port chassis s
  | .memberTtlExpire device => Sys2Proof.Machine.execMemberTtlExpire device s
  | .opticsPoll slot poll => Sys2Proof.Machine.execOpticsPoll slot poll s
  | .hwCellError kind unit uncorrectable flashOk => Sys2Proof.Machine.execHwCellError kind unit uncorrectable flashOk s
  | .chipMachineCheck cause unit => Sys2Proof.Machine.execChipMachineCheck cause unit s
  | .firmwareWatchdog => Sys2Proof.Machine.execFirmwareWatchdog s
  | .safeStateRestart => Sys2Proof.Machine.execSafeStateRestart s
  | .smbusWakeWrite value => Sys2Proof.Machine.execSmbusWakeWrite value s
  | .smbusResetWrite value => Sys2Proof.Machine.execSmbusResetWrite value s
  | .smbusTimeout => Sys2Proof.Machine.execSmbusTimeout s
  | .chInData channel word => Sys2Proof.Machine.execChInData channel word s
  | .chInEom channel word => Sys2Proof.Machine.execChInEom channel word s
  | .chOutData channel => Sys2Proof.Machine.execChOutData channel s
  | .chCtrlHostReset channel => Sys2Proof.Machine.execChCtrlHostReset channel s
  | .h2dSet hi bits => Sys2Proof.Machine.execH2dSet hi bits s
  | .cmbCtrlGo len => Sys2Proof.Machine.execCmbCtrlGo len s
  | .cmbWriteWhileFull index word => Sys2Proof.Machine.execCmbWriteWhileFull index word s
  | .cmbRspAck => Sys2Proof.Machine.execCmbRspAck s
  | .ringCtrlEn tx ring en => Sys2Proof.Machine.execRingCtrlEn tx ring en s
  | .ringTail tx ring tail => Sys2Proof.Machine.execRingTail tx ring tail s
  | .intStatusClear group write => Sys2Proof.Machine.execIntStatusClear group write s
  | .intSet group mask => Sys2Proof.Machine.execIntSet group mask s
  | .intClaim group => Sys2Proof.Machine.execIntClaim group s
  | .intComplete group source => Sys2Proof.Machine.execIntComplete group source s
  | .tcapTimeNsRead => Sys2Proof.Machine.execTcapTimeNsRead s
  | .tcapCapture => Sys2Proof.Machine.execTcapCapture s
  | .tcapEvqPop => Sys2Proof.Machine.execTcapEvqPop s
  | .urCountRead => Sys2Proof.Machine.execUrCountRead s
  | .chOvfCountRead channel => Sys2Proof.Machine.execChOvfCountRead channel s
  | .chDiscardRead channel => Sys2Proof.Machine.execChDiscardRead channel s
  | .chFlushCountRead channel => Sys2Proof.Machine.execChFlushCountRead channel s
  | .cmbCollCountRead => Sys2Proof.Machine.execCmbCollCountRead s
  | .ringDropRead ring => Sys2Proof.Machine.execRingDropRead ring s
  | .badCompleteRead => Sys2Proof.Machine.execBadCompleteRead s
  | .reassertRead source => Sys2Proof.Machine.execReassertRead source s
  | .evqOvfRead => Sys2Proof.Machine.execEvqOvfRead s
  | .registerWrite bar offset word => Sys2Proof.Machine.execRegisterWrite bar offset word s
  | .parseStateWrite h pipeMask state entry => Sys2Proof.Machine.execParseStateWrite h pipeMask state entry s
  | .parseGraphCommit h pipeMask => Sys2Proof.Machine.execParseGraphCommit h pipeMask s
  | .parseStateRead h pipe state shadow => Sys2Proof.Machine.execParseStateRead h pipe state shadow s
  | .keyProfileWrite h pipeMask profile selectors => Sys2Proof.Machine.execKeyProfileWrite h pipeMask profile selectors s
  | .searchProfileWrite h pipeMask profile word => Sys2Proof.Machine.execSearchProfileWrite h pipeMask profile word s
  | .portClassMapWrite h port map => Sys2Proof.Machine.execPortClassMapWrite h port map s
  | .portDefaultsWrite h p => Sys2Proof.Machine.execPortDefaultsWrite h p s
  | .controlMatchWrite h p => Sys2Proof.Machine.execControlMatchWrite h p s
  | .bankModeWrite h pipeMask pair mode => Sys2Proof.Machine.execBankModeWrite h pipeMask pair mode s
  | .listCreate h p => Sys2Proof.Machine.execListCreate h p s
  | .listDelete h pipeMask list => Sys2Proof.Machine.execListDelete h pipeMask list s
  | .ruleInsert h p => Sys2Proof.Machine.execRuleInsert h p s
  | .ruleDelete h handle => Sys2Proof.Machine.execRuleDelete h handle s
  | .ruleActionWrite h handle action => Sys2Proof.Machine.execRuleActionWrite h handle action s
  | .ruleRead h handle pipe => Sys2Proof.Machine.execRuleRead h handle pipe s
  | .listRespace h pipeMask list spacing => Sys2Proof.Machine.execListRespace h pipeMask list spacing s
  | .tcamRawWrite h p => Sys2Proof.Machine.execTcamRawWrite h p s
  | .tcamRawRead h pipe addr => Sys2Proof.Machine.execTcamRawRead h pipe addr s
  | .recircConfig h pipeMask slots => Sys2Proof.Machine.execRecircConfig h pipeMask slots s
  | .mirrorSessionWrite h p => Sys2Proof.Machine.execMirrorSessionWrite h p s
  | .parseCountersRead h port clear => Sys2Proof.Machine.execParseCountersRead h port clear s
  | .partitionCreate h p => Sys2Proof.Machine.execPartitionCreate h p s
  | .partitionDelete h partition => Sys2Proof.Machine.execPartitionDelete h partition s
  | .partitionRead h partition => Sys2Proof.Machine.execPartitionRead h partition s
  | .flowInsert h b => Sys2Proof.Machine.execFlowInsert h b s
  | .flowUpdate h b => Sys2Proof.Machine.execFlowUpdate h b s
  | .flowRead h key settle => Sys2Proof.Machine.execFlowRead h key settle s
  | .flowDelete h key => Sys2Proof.Machine.execFlowDelete h key s
  | .flowSearchNext h p => Sys2Proof.Machine.execFlowSearchNext h p s
  | .flowFlush h p => Sys2Proof.Machine.execFlowFlush h p s
  | .ageClassWrite h cls timeout => Sys2Proof.Machine.execAgeClassWrite h cls timeout s
  | .sweepConfig h partition sweepPeriod => Sys2Proof.Machine.execSweepConfig h partition sweepPeriod s
  | .flowTableStatus h => Sys2Proof.Machine.execFlowTableStatus h s
  | .flowTemplateWrite h t => Sys2Proof.Machine.execFlowTemplateWrite h t s
  | .flowTemplateRead h template => Sys2Proof.Machine.execFlowTemplateRead h template s
  | .natPoolWrite h p => Sys2Proof.Machine.execNatPoolWrite h p s
  | .natPoolAddrWrite h p => Sys2Proof.Machine.execNatPoolAddrWrite h p s
  | .natPoolDelete h pool => Sys2Proof.Machine.execNatPoolDelete h pool s
  | .natPoolStatus h pool => Sys2Proof.Machine.execNatPoolStatus h pool s
  | .lbPoolWrite h p => Sys2Proof.Machine.execLbPoolWrite h p s
  | .lbBackendWrite h p => Sys2Proof.Machine.execLbBackendWrite h p s
  | .lbPoolCommit h pool => Sys2Proof.Machine.execLbPoolCommit h pool s
  | .lbPoolRead h pool => Sys2Proof.Machine.execLbPoolRead h pool s
  | .groupHomeWrite h p => Sys2Proof.Machine.execGroupHomeWrite h p s
  | .exportProfileWrite h p => Sys2Proof.Machine.execExportProfileWrite h p s
  | .exportStatus h profile => Sys2Proof.Machine.execExportStatus h profile s
  | .serviceCountersRead h template region => Sys2Proof.Machine.execServiceCountersRead h template region s
  | .vlanWrite h vid entry => Sys2Proof.Machine.execVlanWrite h vid entry s
  | .portL2Write h port defaultVid learnMode => Sys2Proof.Machine.execPortL2Write h port defaultVid learnMode s
  | .l2TableConfig h p => Sys2Proof.Machine.execL2TableConfig h p s
  | .l2EntryWrite h p => Sys2Proof.Machine.execL2EntryWrite h p s
  | .l2EntryDelete h fid mac => Sys2Proof.Machine.execL2EntryDelete h fid mac s
  | .l2EntryRead h fid mac => Sys2Proof.Machine.execL2EntryRead h fid mac s
  | .l2SearchNext h cursor filter => Sys2Proof.Machine.execL2SearchNext h cursor filter s
  | .l2Flush h filter => Sys2Proof.Machine.execL2Flush h filter s
  | .l2Unpin h fid mac => Sys2Proof.Machine.execL2Unpin h fid mac s
  | .lagWrite h lag members => Sys2Proof.Machine.execLagWrite h lag members s
  | .mcastGroupWrite h group members => Sys2Proof.Machine.execMcastGroupWrite h group members s
  | .l2LearnShareConfig h p => Sys2Proof.Machine.execL2LearnShareConfig h p s
  | .deviceReachWrite h device destType dest => Sys2Proof.Machine.execDeviceReachWrite h device destType dest s
  | .l2LearnNotifyRead h count => Sys2Proof.Machine.execL2LearnNotifyRead h count s
  | .l2Status h => Sys2Proof.Machine.execL2Status h s
  | .learnMessage h m => Sys2Proof.Machine.execLearnMessage h m s
  | .routerMacWrite h index valid mac => Sys2Proof.Machine.execRouterMacWrite h index valid mac s
  | .vrfWrite h p => Sys2Proof.Machine.execVrfWrite h p s
  | .nexthopWrite h p => Sys2Proof.Machine.execNexthopWrite h p s
  | .ecmpMembersWrite h base members => Sys2Proof.Machine.execEcmpMembersWrite h base members s
  | .hostEntryWrite h p => Sys2Proof.Machine.execHostEntryWrite h p s
  | .hostEntryDelete h vrf family addr => Sys2Proof.Machine.execHostEntryDelete h vrf family addr s
  | .hostEntryRead h vrf family addr => Sys2Proof.Machine.execHostEntryRead h vrf family addr s
  | .hostSearchNext h cursor clearHit => Sys2Proof.Machine.execHostSearchNext h cursor clearHit s
  | .lpmRouteAdd h vrf routes => Sys2Proof.Machine.execLpmRouteAdd h vrf routes s
  | .lpmRouteReplace h vrf routes => Sys2Proof.Machine.execLpmRouteReplace h vrf routes s
  | .lpmRouteDelete h vrf routes => Sys2Proof.Machine.execLpmRouteDelete h vrf routes s
  | .lpmRouteNext h vrf cursor count => Sys2Proof.Machine.execLpmRouteNext h vrf cursor count s
  | .l3Status h => Sys2Proof.Machine.execL3Status h s
  | .bufProfileWrite h p => Sys2Proof.Machine.execBufProfileWrite h p s
  | .voqProfileMap h start count profile => Sys2Proof.Machine.execVoqProfileMap h start count profile s
  | .bufRegionWrite h p => Sys2Proof.Machine.execBufRegionWrite h p s
  | .portPfcWrite h p => Sys2Proof.Machine.execPortPfcWrite h p s
  | .portLingerWrite h port linger => Sys2Proof.Machine.execPortLingerWrite h port linger s
  | .bufCommit h => Sys2Proof.Machine.execBufCommit h s
  | .voqStatus h region voq => Sys2Proof.Machine.execVoqStatus h region voq s
  | .voqCountersRead h region voq clear => Sys2Proof.Machine.execVoqCountersRead h region voq clear s
  | .bufStatus h => Sys2Proof.Machine.execBufStatus h s
  | .fabricConfig h p => Sys2Proof.Machine.execFabricConfig h p s
  | .fabricLinkWrite h p => Sys2Proof.Machine.execFabricLinkWrite h p s
  | .fabricStatus h => Sys2Proof.Machine.execFabricStatus h s
  | .fabricCountersRead h clear => Sys2Proof.Machine.execFabricCountersRead h clear s
  | .portSchedWrite h p => Sys2Proof.Machine.execPortSchedWrite h p s
  | .queueShaperWrite h p => Sys2Proof.Machine.execQueueShaperWrite h p s
  | .gateListWrite h port start entries => Sys2Proof.Machine.execGateListWrite h port start entries s
  | .gateConfigWrite h p => Sys2Proof.Machine.execGateConfigWrite h p s
  | .gateStatus h port => Sys2Proof.Machine.execGateStatus h port s
  | .egressCountersRead h port clear => Sys2Proof.Machine.execEgressCountersRead h port clear s
  | .policerWrite h p => Sys2Proof.Machine.execPolicerWrite h p s
  | .policerRead h region policer clear => Sys2Proof.Machine.execPolicerRead h region policer clear s
  | .hwmRead h p => Sys2Proof.Machine.execHwmRead h p s
  | .hbmBudgetWrite h p => Sys2Proof.Machine.execHbmBudgetWrite h p s
  | .hbmBudgetRead h => Sys2Proof.Machine.execHbmBudgetRead h s
  | .hbmStatus h => Sys2Proof.Machine.execHbmStatus h s
  | .hbmScrubConfig h scrubPeriod => Sys2Proof.Machine.execHbmScrubConfig h scrubPeriod s
  | .hbmPcRetire h pc => Sys2Proof.Machine.execHbmPcRetire h pc s
  | .sysIdentity h => Sys2Proof.Machine.execSysIdentity h s
  | .sysStatus h => Sys2Proof.Machine.execSysStatus h s
  | .sysEcho h => Sys2Proof.Machine.execSysEcho h s
  | .sysGroupOpen h timeout => Sys2Proof.Machine.execSysGroupOpen h timeout s
  | .sysGroupCommit h => Sys2Proof.Machine.execSysGroupCommit h s
  | .sysGroupAbort h => Sys2Proof.Machine.execSysGroupAbort h s
  | .sysCompletionAck h tags => Sys2Proof.Machine.execSysCompletionAck h tags s
  | .sysPendingRead h => Sys2Proof.Machine.execSysPendingRead h s
  | .sysIntakeConfig h p => Sys2Proof.Machine.execSysIntakeConfig h p s
  | .sysDeviceIdWrite h deviceId flashOk => Sys2Proof.Machine.execSysDeviceIdWrite h deviceId flashOk s
  | .sysReset h scope => Sys2Proof.Machine.execSysReset h scope s
  | .portConfig h p => Sys2Proof.Machine.execPortConfig h p s
  | .portStatus h port => Sys2Proof.Machine.execPortStatus h port s
  | .portCountersRead h port clear => Sys2Proof.Machine.execPortCountersRead h port clear s
  | .portAdmin h port adminUp => Sys2Proof.Machine.execPortAdmin h port adminUp s
  | .portOpticsAccess h p => Sys2Proof.Machine.execPortOpticsAccess h p s
  | .diagPrbs h p => Sys2Proof.Machine.execDiagPrbs h p s
  | .diagLoopback h port mode => Sys2Proof.Machine.execDiagLoopback h port mode s
  | .diagEyeScan h port lane measured => Sys2Proof.Machine.execDiagEyeScan h port lane measured s
  | .diagRegRead h addr count => Sys2Proof.Machine.execDiagRegRead h addr count s
  | .diagErrorInject h p => Sys2Proof.Machine.execDiagErrorInject h p s
  | .diagMemTest h memory failing => Sys2Proof.Machine.execDiagMemTest h memory failing s
  | .secKeyWrite h p => Sys2Proof.Machine.execSecKeyWrite h p s
  | .secKeyClear h role keyId flashOk => Sys2Proof.Machine.execSecKeyClear h role keyId flashOk s
  | .secKeyStatus h => Sys2Proof.Machine.execSecKeyStatus h s
  | .secHostAccess h hostAccess flashOk => Sys2Proof.Machine.execSecHostAccess h hostAccess flashOk s
  | .secLifecycleSet h target serial burnOk => Sys2Proof.Machine.execSecLifecycleSet h target serial burnOk s
  | .secFwWrite h p => Sys2Proof.Machine.execSecFwWrite h p s
  | .secFwActivate h raiseFloor flashOk => Sys2Proof.Machine.execSecFwActivate h raiseFloor flashOk s
  | .secFwStatus h => Sys2Proof.Machine.execSecFwStatus h s
  | .auditRead h from_ count => Sys2Proof.Machine.execAuditRead h from_ count s
  | .auditAck h upto => Sys2Proof.Machine.execAuditAck h upto s
  | .auditConfig h auditHold flashOk => Sys2Proof.Machine.execAuditConfig h auditHold flashOk s
  | .jobSubmit h p cmd => Sys2Proof.Machine.execJobSubmit h p cmd s
  | .jobCancel h handle gen => Sys2Proof.Machine.execJobCancel h handle gen s
  | .jobStatus h handle gen => Sys2Proof.Machine.execJobStatus h handle gen s
  | .geyserClassWrite h cls cost minShare => Sys2Proof.Machine.execGeyserClassWrite h cls cost minShare s
  | .geyserActivityWrite h activity timeBudget itemLimit => Sys2Proof.Machine.execGeyserActivityWrite h activity timeBudget itemLimit s
  | .geyserStatus h => Sys2Proof.Machine.execGeyserStatus h s
  | .fumStatus h => Sys2Proof.Machine.execFumStatus h s
  | .pwrModeSet h mode profile drain => Sys2Proof.Machine.execPwrModeSet h mode profile drain s
  | .pwrCapSet h cap flashOk => Sys2Proof.Machine.execPwrCapSet h cap flashOk s
  | .pwrLimitsSet h p => Sys2Proof.Machine.execPwrLimitsSet h p s
  | .pwrReducedProfileWrite h p => Sys2Proof.Machine.execPwrReducedProfileWrite h p s
  | .pwrScheduleWrite h p => Sys2Proof.Machine.execPwrScheduleWrite h p s
  | .pwrWakeConfig h wakeInputs => Sys2Proof.Machine.execPwrWakeConfig h wakeInputs s
  | .pwrStatus h => Sys2Proof.Machine.execPwrStatus h s
  | .timeSourceConfig h p => Sys2Proof.Machine.execTimeSourceConfig h p s
  | .timeSet h p => Sys2Proof.Machine.execTimeSet h p s
  | .timeStatus h => Sys2Proof.Machine.execTimeStatus h s
  | .ptpClockConfig h p => Sys2Proof.Machine.execPtpClockConfig h p s
  | .ptpPortConfig h p => Sys2Proof.Machine.execPtpPortConfig h p s
  | .ptpStatus h => Sys2Proof.Machine.execPtpStatus h s
  | .timeOutputWrite h p => Sys2Proof.Machine.execTimeOutputWrite h p s
  | .eventStampRead h => Sys2Proof.Machine.execEventStampRead h s
  | .lldpConfig h p => Sys2Proof.Machine.execLldpConfig h p s
  | .discoveryRead h table from_ count => Sys2Proof.Machine.execDiscoveryRead h table from_ count s
  | .domainConfig h domainId memberTtl hostless => Sys2Proof.Machine.execDomainConfig h domainId memberTtl hostless s
  | .opticsSlotWrite h p => Sys2Proof.Machine.execOpticsSlotWrite h p s
  | .opticsStatus h => Sys2Proof.Machine.execOpticsStatus h s
  | .faultStatus h => Sys2Proof.Machine.execFaultStatus h s
  | .faultPolicyWrite h kind n windowMs => Sys2Proof.Machine.execFaultPolicyWrite h kind n windowMs s
  | .faultLogRead h from_ count => Sys2Proof.Machine.execFaultLogRead h from_ count s
  | .hwRetire h p => Sys2Proof.Machine.execHwRetire h p s
  | .faultRecordClear h => Sys2Proof.Machine.execFaultRecordClear h s
  | .sysrstNRelease => Sys2Proof.Machine.execSysrstNRelease s
  | .perstNRelease => Sys2Proof.Machine.execPerstNRelease s
  | .powerGoodReturn input => Sys2Proof.Machine.execPowerGoodReturn input s
  | .pcieLinkChange gen width lpm => Sys2Proof.Machine.execPcieLinkChange gen width lpm s
  | .freqMeasurement hz => Sys2Proof.Machine.execFreqMeasurement hz s

end Sys2Proof.Machine
end

