-- ==== Sys2Proof/Machine/Step.lean ====
section
/-! DEFINITION. One step of the block: the command at the front of the queue, or one idle cycle of the reference clock. -/

namespace Sys2Proof.Machine

/-- One step: the oldest waiting command takes its effect on the state with the rest of the queue; with an empty queue the block idles for a
cycle of the reference. DESIGN CHOICE, unsafe: log entry 2. DESIGN CHOICE, safe: log entry 131. DESIGN CHOICE, safe: log entry 133. -/
def step (s : State) : Host.Outcome State Fault Refusal :=
  match s.pending with
  | [] => .next (idle s)
  | c :: cs => exec c { s with pending := cs }

/-- The state with the command that a word spells at the front of its queue; the same state where the word spells none.
DESIGN CHOICE, safe: log entry 133. -/
def State.withFetchWord (s : State) (nbits w : Nat) : State :=
  match decodeTableWord nbits w with
  | some c => { s with pending := c :: s.pending }
  | none => s

end Sys2Proof.Machine
end

