-- ==== Sys2Proof/Safety.lean ====
section
/-! DEFINITION. What the statements speak of: a state in order, what a fuse holds, a frame that passes the checks of R413, what answering it
records, and what a command leaves. -/

namespace Sys2Proof.Machine

/-- The block's memories are in their canonical form: addresses strictly rising, no listed byte 0. They are the HBM stacks and the two image
copies of the boot flash. -/
def State.memoryCanonical (s : State) : Prop :=
  memWf s.hbm.mem = true ∧ memWf s.flash.imageA = true ∧ memWf s.flash.imageB = true

/-- What the fuses hold that no command and no event of the table burns: variant, stepping, serial number and MAKER key. -/
def State.fused (s : State) : Bool × Bool × Nat × Nat × Bytes :=
  (s.flash.h72, s.flash.extended, s.flash.stepping, s.flash.serial, s.flash.makerKey)

/-- The parameters that R553 names: CAP_FLOOR, CAP_CEILING, MAINT_PERMILLE, HBM_C_FLOOR, TJ_WARN and SHED_NOTICE. -/
def PowerState.limits (p : PowerState) : Nat × Nat × Nat × Nat × Nat × Nat :=
  (p.capFloor, p.capCeiling, p.maintPermille, p.hbmCFloor, p.tjWarn, p.shedNotice)

/-- The rows that may change the parameters of R553: PWR_LIMITS_SET, the two rows that run a command inside another (SYS_GROUP_COMMIT and
DELAYED_COMMAND), and the resets with the boot that follows, which put the stored values in force. -/
def setsLimits : Instr → Bool
  | .pwrLimitsSet .. | .sysGroupCommit .. | .delayedCommand .. => true
  | .porstNAssert | .sysrstNAssert .. | .powerGoodFall .. | .sysclkLoss | .warmReset .. | .bootFirmwareStart .. | .safeStateRestart .. => true
  | _ => false

/-- The rows that may clear the status bit of an event source: software's writes of ones, and what the power-on reset follows from. -/
def clearsStatus : Instr → Bool
  | .intStatusClear .. | .registerWrite .. => true
  | .porstNAssert | .powerGoodFall .. | .sysclkLoss => true
  | _ => false

/-- The SEQ values that a sequence window knows as used (R417): the highest one recorded and the marked ones of the 63 below it. -/
def Window.holds (w : Window) (q : Nat) : Bool := decide (q ≤ w.h) && decide (w.h - q < 64) && w.map.testBit (w.h - q)

/-- The entries of an audit ring form a chain up to the head (R456, R457): each names the one before it, but for a BOOT entry with GAP (FLAGS bit 1),
and the last one's LINK is the head. -/
def Audit.chained (a : Audit) : Prop :=
  (∀ k e f, a.ring[k]? = some e → a.ring[k + 1]? = some f → f.flags.testBit 1 = false → f.entryNo = e.entryNo + 1 ∧ f.prevLink = e.link) ∧
  (∀ e, a.ring.getLast? = some e → a.last = e.entryNo ∧ a.head = e.link)

/-- A flow record whose fields fit Tables 3-3 and 3-4: a companion holds no activity and a primary no primary key. -/
structure Rec.InRange (x : Rec) : Prop where
  partition : x.partition < 2 ^ 6
  template : x.template < 2 ^ 8
  zone : x.zone < 2 ^ 16
  keyType : x.keyType < 2 ^ 4
  ageClass : x.ageClass < 2 ^ 4
  ctState : x.ctState < 2 ^ 4
  expState : x.expState < 2 ^ 2
  gen : x.gen < 2 ^ 13
  key : x.key < (if x.wide then 2 ^ 384 else 2 ^ 128)
  service : x.service < (if x.wide then 2 ^ 192 else 2 ^ 64)
  activity : x.first < 2 ^ 32 ∧ x.last < 2 ^ 32 ∧ x.pkts < 2 ^ 48 ∧ x.bytes < 2 ^ 64 ∧ x.tcpFlags < 2 ^ 8 ∧ x.ctAux < 2 ^ 16 ∧ x.templateData < 2 ^ 32
  reverse : x.rpkts < 2 ^ 48 ∧ x.rbytes < 2 ^ 64
  compact : x.wide = false → x.rpkts = 0 ∧ x.rbytes = 0
  companion : x.comp = true → x.first = 0 ∧ x.last = 0 ∧ x.pkts = 0 ∧ x.bytes = 0 ∧ x.tcpFlags = 0 ∧ x.ctAux = 0 ∧ x.templateData = 0 ∧ x.rpkts = 0 ∧
    x.rbytes = 0 ∧ x.pkey < (if x.wide then 2 ^ 384 else 2 ^ 128)
  primary : x.comp = false → x.pkey = 0

/-! ## Commands that run -/

/-- The records that answering a command frame leaves, whatever the command: the intake without it, sequence windows and floors, the reply on
its transport, the audit ring and its flash reservation, and interrupt sources. -/
structure Book where
  intake : List IntakeEntry
  windows : List (Nat × Window)
  estateWindows : Tab Window
  floors : Tab Nat
  origin : List OriginFrame
  fabricOut : List (Nat × Bytes)
  sent : List Reply
  ring : List AuditEntry
  last : Nat
  head : Nat
  overwritten : Nat
  heldBack : List AuditEntry
  reservation : Nat
  status : Nat
  reassert : Tab Nat
  chan : Tab Channel
  rsp : List Nat
  rspLen : Nat
  rspTrunc : Bool
  rspValid : Bool
  rspCollision : Bool
  collCount : Nat
  dmaBusy : Tab (Nat × Ocf)
  hostWrites : List (Nat × Bytes)

/-- A state with these records. -/
def State.book (s : State) (b : Book) : State :=
  { s with
    ocf := { s.ocf with
      intake := b.intake
      windows := b.windows
      estateWindows := b.estateWindows
      floors := b.floors
      origin := b.origin
      fabricOut := b.fabricOut
      sent := b.sent }
    roles := { s.roles with audit := { s.roles.audit with
      ring := b.ring
      last := b.last
      head := b.head
      overwritten := b.overwritten
      heldBack := b.heldBack } }
    flash := { s.flash with reservation := b.reservation }
    host := { s.host with
      int := { s.host.int with
        status := b.status
        reassert := b.reassert }
      chan := b.chan
      cmb := { s.host.cmb with
        rsp := b.rsp
        rspLen := b.rspLen
        rspTrunc := b.rspTrunc
        rspValid := b.rspValid
        rspCollision := b.rspCollision
        collCount := b.collCount }
      dmaBusy := b.dmaBusy }
    out := { s.out with hostWrites := b.hostWrites } }

/-- A frame that may start (R422, R423) and passes steps 1 to 11 of R413 for its opcode, is not a group member, has no reserved parameter field set, may be added to the
pending list where it replies 0x0001, and finds the audit ring not held full where it changes state; LENGTH is `len`,
within the limit of R406 that SEC_FW_WRITE is not under. -/
structure Taken (s : State) (h : Ocf) (opcode : Nat) (changes pending : Bool) (len : Nat) : Prop where
  accepts : s.accepts = true
  starts : s.mayStart opcode changes h = true
  gate : ∃ key, s.gate h opcode changes false = .pass key
  room : changes = true → s.roles.audit.full = false
  alone : h.isMember = false
  reserved : h.rsv = none
  tag : s.pendError h pending = none
  length : h.length = len
  fits : h.length ≤ 16256 ∨ opcode = 0x0B06

/-- The reply of R402 to a frame, sent after every earlier one; none where the frame asks for none (R403), though a descriptor that described it is
answered (R412). -/
def Replied (s : State) (h : Ocf) (opcode status : Nat) (res : Results) (b : Book) : Prop :=
  if h.noReply then b.sent = s.ocf.sent ∨ (∃ r, b.sent = s.ocf.sent ++ [r] ∧ ∃ c a n, h.transport = .dma c a n)
  else ∃ r rest, b.sent = s.ocf.sent ++ r :: rest ∧ r.opcode = opcode ∧ r.cmd = h ∧ r.flags.testBit 0 = true ∧ r.epoch = s.ocf.epoch ∧
    r.status = status ∧ r.detail = 0xFFFF ∧ r.results = res

/-- The command runs: its next state is `t` with the records of an answered frame, and its reply has status 0 and the results given. Nothing
but `t` and those records differs, so this says what the command leaves unchanged as well. -/
def Runs (c : Instr) (h : Ocf) (opcode : Nat) (s : State) (res : Results) (t : State) : Prop :=
  ∃ b : Book, exec c s = .next (t.book b) ∧ Replied s h opcode 0 res b

/-- The command is accepted and goes on (R424): its reply has status 0x0001, and it stands in the pending list, with its final status and
results where it has completed already. -/
def Accepted (c : Instr) (h : Ocf) (opcode : Nat) (s : State) (early : Results) (final : Option (Nat × Nat × Results)) (t : State) : Prop :=
  ∃ (b : Book) (p : PendCmd),
    exec c s = .next ((({ t with
      ocf.pend := tset t.ocf.pend s.ocf.nextPend p
      ocf.nextPend := s.ocf.nextPend + 1 } : State)).book b) ∧
    p.opcode = opcode ∧ p.cmd = h ∧ p.sender = h.senderKey ∧ p.final = final ∧ p.sends = 0 ∧ Replied s h opcode 1 early b

/-- The command runs, as `Runs` says, with an effect that may itself raise interrupts: `run` gives the results and the next state from the
state as it stands once the frame is entered in the records. -/
def RunsBy (c : Instr) (h : Ocf) (opcode : Nat) (s : State) (run : State → Results × State) : Prop :=
  ∃ k b : Book, exec c s = .next ((run (s.book k)).2.book b) ∧ Replied (run (s.book k)).2 h opcode 0 (run (s.book k)).1 b

/-- The command is accepted, as `Accepted` says, with an effect that may itself raise interrupts. -/
def AcceptedBy (c : Instr) (h : Ocf) (opcode : Nat) (s : State) (early : Results)
    (run : State → Option (Nat × Nat × Results) × State) : Prop :=
  ∃ (k b : Book) (p : PendCmd),
    exec c s = .next (({ (run (s.book k)).2 with
      ocf.pend := tset (run (s.book k)).2.ocf.pend s.ocf.nextPend p
      ocf.nextPend := s.ocf.nextPend + 1 } : State).book b) ∧
    p.opcode = opcode ∧ p.cmd = h ∧ p.sender = h.senderKey ∧ p.final = (run (s.book k)).1 ∧ p.sends = 0 ∧
    Replied (run (s.book k)).2 h opcode 1 early b

/-- The frame is refused at step 14 with a status and DETAIL, and nothing but the records changes. -/
def Refused (c : Instr) (h : Ocf) (opcode : Nat) (s : State) (status detail : Nat) : Prop :=
  ∃ b : Book, ∃ n : Tab Nat, ∃ m : Nat,
    exec c s = .next (({ s with ocf.rejected := n, ocf.noReplyFailed := m } : State).book b) ∧
    (h.noReply = false → ∃ r rest, b.sent = s.ocf.sent ++ r :: rest ∧ r.opcode = opcode ∧ r.cmd = h ∧ r.status = status ∧
      r.detail = detail ∧ r.results = [])

/-! ## Operands in their ranges -/

/-- A key descriptor of Table 3-10 that names a partition `p` and a key of a type it may hold (R164). -/
def KeyOk (s : State) (k : KeyDesc) (p : Partition) : Prop :=
  k.partition ≤ 63 ∧ s.partition k.partition = some p ∧ validType p.wide k.keyType = true ∧ unusedKeyBits k.keyType k.key = false ∧
  k.key < (if p.wide then 2 ^ 384 else 2 ^ 128)

/-- A block of Table 3-12 with its fields in their ranges (R165). -/
def BlockOk (s : State) (b : FlowBlock) (p : Partition) : Prop :=
  KeyOk s b.key p ∧ b.flags ≤ 7 ∧ (b.ageClass ≤ 15 ∨ b.ageClass = 0xFF) ∧ b.ctState ≤ 9 ∧ field 14 13 b.expectGen = 0 ∧
  (if b.flags.testBit 2 then (if p.wide then b.service % 2 ^ 172 else b.service % 2 ^ 44)
    else (if p.wide then b.service % 2 ^ 137 else b.service % 2 ^ 9)) = 0

/-- A template of Table 4-1 with its fields in their ranges, whose partition, pools and actions exist (R169, R170). -/
def TemplateOk (s : State) (t : TemplateP) (p : Partition) : Prop :=
  s.partition t.partition = some p ∧ validType p.wide t.keyType = true ∧ t.keyFlags ≤ 3 ∧ t.flags ≤ 15 ∧ t.serviceKind ≤ 3 ∧
  (t.serviceKind = 0 ∨ t.keyType = 0 ∨ t.keyType = 8) ∧
  (t.serviceKind = 1 ∨ t.serviceKind = 3 → (tget s.flow.pools t.natPool).map NatPool.family = some (keyFamily t.keyType)) ∧
  (t.serviceKind = 2 ∨ t.serviceKind = 3 → (tget s.flow.lbPools t.lbPool).map LbPool.family = some (keyFamily t.keyType)) ∧
  t.ctAge % 16 = 0 ∧ t.lbPool ≤ 4095 ∧ t.ovlPolicy % 4 = 0 ∧ t.ovlPolicy < 2 ^ 20 ∧ 1 ≤ t.deferMaxAge ∧ t.deferMaxAge ≤ 1000 ∧
  field 6 4 t.exportField = 0 ∧ t.ctInvalid ≤ 3 ∧ t.ctMiss ≤ 3 ∧ 0x40 ≤ t.slowReason ∧
  reservedAction t.stateless = false ∧ badAction t.stateless = false ∧ reservedAction t.flowAction = false ∧ badAction t.flowAction = false ∧
  (t.keyType = 3 ∨ t.keyType = 10 → ∀ x ∈ t.keyMap, x.testBit 31 = true ∨ field 30 27 x ≤ 8)

end Sys2Proof.Machine
end

