-- ==== Sys2Proof/Certificates/Slice0/Obligations.lean ====
section
/-! DEFINITION. The statements for the provers. -/

open Sys2Proof Sys2Proof.Machine

/-! ## Forwarding (chapter 5) -/

/-- VLAN_WRITE, PORT_L2_WRITE, LAG_WRITE, MCAST_GROUP_WRITE, DEVICE_REACH_WRITE, L2_LEARN_SHARE_CONFIG and L2_TABLE_CONFIG run on operands in
their ranges, and each changes its own table or setting and nothing else (Tables 5-1, 5-9 and 5-10; R251 to R253, R264, R309).
The model's own choices here: log entries 13 and 14. -/
def Obligations.ForwardingSettingsRun : Prop :=
  (∀ s h vid entry, Taken s h 0x0501 true false 12 → vid ≤ 4095 → entry % 2 ^ 22 = 0 →
    Runs (.vlanWrite h vid entry) h 0x0501 s []
      { s with fwd.vlans := if entry = 0 then tdel s.fwd.vlans vid else tset s.fwd.vlans vid entry }) ∧
  (∀ s h port vid mode k, Taken s h 0x0502 true false 8 → s.portArg port = some k → vid ≤ 4095 → mode ≤ 3 →
    Runs (.portL2Write h port vid mode) h 0x0502 s [] { s with fwd.ports := tset s.fwd.ports k ⟨vid, mode⟩ }) ∧
  (∀ s h lag members, Taken s h 0x050A true false (4 * ceilDiv (2 + 2 * members.length) 4) → lag ≤ 255 → members.length ≤ 64 →
    (∀ m ∈ members, m < 8192) →
    Runs (.lagWrite h lag members) h 0x050A s []
      { s with fwd.lags := if members = [] then tdel s.fwd.lags lag else tset s.fwd.lags lag members }) ∧
  (∀ s h group (members : McastMembers), Taken s h 0x050B true false (4 + 4 * members.length) → group ≤ 16383 →
    (∀ m ∈ members, m.1 = 0 ∧ badDest 0 m.2 = false ∨ m.1 = 1 ∧ m.2 ≤ 255) →
    Runs (.mcastGroupWrite h group members) h 0x050B s []
      { s with fwd.groups := if members = [] then tdel s.fwd.groups group else tset s.fwd.groups group members }) ∧
  (∀ s h device destType dest, Taken s h 0x050D true false 8 → device ≤ 4095 → destType ≤ 2 → (destType < 2 → badDest destType dest = false) →
    Runs (.deviceReachWrite h device destType dest) h 0x050D s []
      { s with fwd.reach := if destType = 2 then tdel s.fwd.reach device else tset s.fwd.reach device (destType, dest) }) ∧
  (∀ s h (p : L2LearnShareConfigP), Taken s h 0x050C true false (4 * ceilDiv (4 + 2 * p.ports.length) 4) → p.mode ≤ 1 → p.tc ≤ 7 →
    p.ports.length ≤ 4 → (∀ f ∈ p.ports, (s.portArg f).isSome) →
    Runs (.l2LearnShareConfig h p) h 0x050C s []
      { s with
        fwd.exchanged := decide (p.mode = 1)
        fwd.learnGroup := p.learnGroup
        fwd.shareTc := p.tc
        fwd.sharePorts := p.ports
        fwd.outbox := if p.mode = 1 then s.fwd.outbox else [] }) ∧
  (∀ s h (p : L2TableConfigP), Taken s h 0x0503 true false 24 → s.fwd.queue = [] → (p.macSeed = s.fwd.macSeed ∨ s.fwd.mac = []) →
    (p.hostSeed = s.fwd.hostSeed ∨ s.fwd.host = []) → p.ageTime ≤ 86400 → p.flapLimit ≠ 1 → p.flapLimit ≤ 255 → (p.flapWindow = 0 ∨ 10 ≤ p.flapWindow) → p.flapWindow ≤ 60000 →
    p.pinHold ≤ 3600 → p.conflictWindow ≤ 1000 →
    Runs (.l2TableConfig h p) h 0x0503 s []
      { s with
        fwd.macSeed := p.macSeed
        fwd.hostSeed := p.hostSeed
        fwd.lsSeed := p.lsSeed
        fwd.ageTime := orDefault p.ageTime 300
        fwd.flapLimit := orDefault p.flapLimit 5
        fwd.flapWindow := orDefault p.flapWindow 1000
        fwd.pinHold := orDefault p.pinHold 10
        fwd.conflictWindow := orDefault p.conflictWindow 10 })

/-- L2_ENTRY_WRITE, L2_ENTRY_DELETE, L2_ENTRY_READ, L2_SEARCH_NEXT, L2_UNPIN, L2_STATUS and L2_LEARN_NOTIFY_READ run when no learn event waits
and every region's replica takes updates (R30):
a written entry holds the command's fields, this device and the time of the write (R236, R237; the fields that the command does not name are the
model's, log entry 12), a deleted one is gone, and a read returns the entry as it stands (R273, R274). L2_FLUSH is accepted and deletes what its
filter matches (R275), and a LEARN_MESSAGE's records are applied (R265).
The model's own choices here: log entries 12, 14, 15, 18 and 140. -/
def Obligations.MacTableCommandsRun : Prop :=
  (∀ s h (p : L2EntryWriteP) k e, Taken s h 0x0504 true false 12 → s.allReached = true → s.fwd.queue = [] → p.fid ≤ 4095 → p.static ≤ 1 → p.destType ≤ 5 →
    badDest p.destType p.dest = false → s.macFind p.fid p.mac = some (k, e) →
    Runs (.l2EntryWrite h p) h 0x0504 s []
      { s with
        fwd.mac := tset s.fwd.mac k { commandEntry p s with hit := e.hit }
        fwd.tracker := if e.pinned then tdel s.fwd.tracker (trackKey p.fid p.mac) else s.fwd.tracker }) ∧
  (∀ s h (p : L2EntryWriteP) k, Taken s h 0x0504 true false 12 → s.allReached = true → s.fwd.queue = [] → p.fid ≤ 4095 → p.static ≤ 1 → p.destType ≤ 5 →
    badDest p.destType p.dest = false → s.macFind p.fid p.mac = none →
    freePlace s.fwd.mac (macBucket s.fwd.macSeed p.fid p.mac) macOverflow = some k →
    Runs (.l2EntryWrite h p) h 0x0504 s [] { s with fwd.mac := tset s.fwd.mac k (commandEntry p s) }) ∧
  (∀ s h fid mac k e, Taken s h 0x0505 true false 8 → s.allReached = true → s.fwd.queue = [] → fid ≤ 4095 → s.macFind fid mac = some (k, e) →
    Runs (.l2EntryDelete h fid mac) h 0x0505 s [] (deleteMac k e s)) ∧
  (∀ s h fid mac k e, Taken s h 0x0506 false false 8 → s.allReached = true → s.fwd.queue = [] → fid ≤ 4095 → s.macFind fid mac = some (k, e) →
    Runs (.l2EntryRead h fid mac) h 0x0506 s [(24, e.word)] s) ∧
  (∀ s h cursor (f : FlushFilter), Taken s h 0x0507 false false 20 → s.allReached = true → s.fwd.queue = [] → f.mtch ≤ 7 → f.scope ≤ 7 → f.fid ≤ 4095 →
    Runs (.l2SearchNext h cursor f) h 0x0507 s
      ((8, (walkFrom s.fwd.mac cursor (filterHits f)).1) ::
        (walkFrom s.fwd.mac cursor (filterHits f)).2.map (fun e => (24, e.2.word))) s) ∧
  (∀ s h fid mac k e, Taken s h 0x0509 true false 8 → s.allReached = true → s.fwd.queue = [] → fid ≤ 4095 → s.macFind fid mac = some (k, e) → e.pinned = true →
    Runs (.l2Unpin h fid mac) h 0x0509 s []
      { s with
        fwd.mac := tset s.fwd.mac k { e with pinned := false }
        fwd.tracker := tdel s.fwd.tracker (trackKey fid mac) }) ∧
  (∀ s h, Taken s h 0x050F false false 0 → s.fwd.queue = [] →
    Runs (.l2Status h) h 0x050F s
      ([(4, s.fwd.mac.length), (4, overflowUse s.fwd.mac macOverflow), (4, s.fwd.tracker.length)] ++
        (List.range 15).map (fun k => (8, tgetD s.fwd.counts k 0)) ++ [(8, s.buf.lagNoMember)] ++
        s.fwd.portCounts.flatMap (fun e => [(2, s.sysPort e.1), (8, e.2)])) s) ∧
  (∀ s h count, Taken s h 0x050E true false 4 → 1 ≤ count → count ≤ 32 →
    Runs (.l2LearnNotifyRead h count) h 0x050E s
      ((s.fwd.notes.take count).flatMap (fun e => [(2, e.fid), (6, e.mac), (1, e.destType), (2, e.dest), (8, e.stamp)]))
      { s with fwd.notes := s.fwd.notes.drop count }) ∧
  (∀ s h (f : FlushFilter), Taken s h 0x0508 true true 12 → s.allReached = true → s.fwd.queue = [] → f.mtch ≤ 7 → f.scope ≤ 7 → f.fid ≤ 4095 → f.destType ≤ 5 →
    f.learnDev ≤ 4095 →
    Accepted (.l2Flush h f) h 0x0508 s [] (some (0, 0xFFFF, [(4, (flushMac f s).1)])) (flushMac f s).2) ∧
  (∀ s h (m : LearnMessageP), Taken s h 0x0520 true false (8 + 32 * m.records.length) → m.senderDev ≤ 4095 → m.group ≤ 255 →
    1 ≤ m.records.length → m.records.length ≤ 32 → (∀ r ∈ m.records, 1 ≤ r.op ∧ r.op ≤ 3 ∧ r.fid ≤ 4095 ∧ r.originDev ≤ 4095) →
    ∃ k b : Book, exec (.learnMessage h m) s = .next ((takeMessageRecords h.transport m (s.book k)).book b))

/-- The layer 3 commands of Table 5-10 run on operands in their ranges: ROUTER_MAC_WRITE (R230), VRF_WRITE (R232), NEXTHOP_WRITE of a next hop
that nothing names and ECMP_MEMBERS_WRITE of UNICAST members (R248), the host-table commands (R236, R273, R274), and L3_STATUS.
The model's own choices here: log entries 12, 14 and 140. -/
def Obligations.Layer3CommandsRun : Prop :=
  (∀ s h index valid mac, Taken s h 0x0601 true false 8 → index ≤ 15 → valid ≤ 1 → isGroupMac mac = false →
    Runs (.routerMacWrite h index valid mac) h 0x0601 s []
      { s with fwd.routerMacs := if valid = 0 then tdel s.fwd.routerMacs index else tset s.fwd.routerMacs index mac }) ∧
  (∀ s h (p : VrfWriteP), Taken s h 0x0602 true false 8 → p.vrf ≤ 4095 → p.missValid ≤ 1 → 0x40 ≤ p.ttlReason →
    Runs (.vrfWrite h p) h 0x0602 s []
      { s with fwd.vrfs := tset s.fwd.vrfs p.vrf ⟨if p.missValid = 1 then some p.missNexthop else none, p.ttlReason⟩ }) ∧
  (∀ s h (p : NexthopWriteP), Taken s h 0x0603 true false 24 → p.type ≤ 3 → p.smacIdx ≤ 15 → p.destType ≤ 2 →
    badDest p.destType p.dest = false → p.vid ≤ 4095 → (p.type = 1 → 1 ≤ p.ecmpSize ∧ p.ecmpSize ≤ 256 ∧ p.ecmpBase + p.ecmpSize ≤ 65536) →
    (p.type = 2 → 0x40 ≤ p.reason) → s.hopUsed p.nexthop = false →
    Runs (.nexthopWrite h p) h 0x0603 s []
      { s with
        fwd.nexthops := tset s.fwd.nexthops p.nexthop
          ⟨p.type, p.smacIdx, p.destType, p.dest, p.dmac, p.vid, p.ecmpBase, p.ecmpSize, p.reason⟩ }) ∧
  (∀ s h base members, Taken s h 0x0604 true false (4 * ceilDiv (4 + 2 * members.length) 4) → 1 ≤ members.length → members.length ≤ 256 →
    base + members.length ≤ 65536 → (∀ m ∈ members, (s.hop m).type = 0) →
    Runs (.ecmpMembersWrite h base members) h 0x0604 s []
      { s with fwd.ecmp := forEach ((List.range members.length).zip members) s.fwd.ecmp (fun e t => tset t (base + e.1) e.2) }) ∧
  (∀ s h (p : HostEntryWriteP) k e, Taken s h 0x0605 true false 24 → s.allReached = true → p.vrf ≤ 4095 → (p.family = 4 ∧ p.addr < 2 ^ 32 ∨ p.family = 6) →
    s.hostFind p.vrf (p.family = 6) p.addr = some (k, e) →
    Runs (.hostEntryWrite h p) h 0x0605 s [] { s with fwd.host := tset s.fwd.host k { e with nexthop := p.nexthop } }) ∧
  (∀ s h (p : HostEntryWriteP) k, Taken s h 0x0605 true false 24 → s.allReached = true → p.vrf ≤ 4095 → (p.family = 4 ∧ p.addr < 2 ^ 32 ∨ p.family = 6) →
    s.hostFind p.vrf (p.family = 6) p.addr = none →
    freePlace s.fwd.host (hostBucket s.fwd.hostSeed p.vrf (p.family = 6) p.addr) hostOverflow = some k →
    Runs (.hostEntryWrite h p) h 0x0605 s []
      { s with fwd.host := tset s.fwd.host k { v6 := p.family = 6, vrf := p.vrf, nexthop := p.nexthop, addr := p.addr } }) ∧
  (∀ s h vrf family addr k e, Taken s h 0x0606 true false 20 → s.allReached = true → vrf ≤ 4095 → (family = 4 ∧ addr < 2 ^ 32 ∨ family = 6) →
    s.hostFind vrf (family = 6) addr = some (k, e) →
    Runs (.hostEntryDelete h vrf family addr) h 0x0606 s [] { s with fwd.host := tdel s.fwd.host k }) ∧
  (∀ s h vrf family addr k e, Taken s h 0x0607 false false 20 → s.allReached = true → vrf ≤ 4095 → (family = 4 ∧ addr < 2 ^ 32 ∨ family = 6) →
    s.hostFind vrf (family = 6) addr = some (k, e) →
    Runs (.hostEntryRead h vrf family addr) h 0x0607 s [(24, e.word)] s) ∧
  (∀ s h cursor clearHit, Taken s h 0x0608 (decide (clearHit = 1)) false 12 → s.allReached = true → clearHit ≤ 1 →
    Runs (.hostSearchNext h cursor clearHit) h 0x0608 s
      ((8, (walkFrom s.fwd.host cursor (fun _ => true)).1) ::
        (walkFrom s.fwd.host cursor (fun _ => true)).2.map (fun e => (24, e.2.word)))
      (if clearHit = 1 then
        { s with fwd.host := forEach (walkFrom s.fwd.host cursor (fun _ => true)).2 s.fwd.host (fun e t => tset t e.1 { e.2 with hit := false }) }
      else s)) ∧
  (∀ s h, Taken s h 0x060D false false 0 →
    Runs (.l3Status h) h 0x060D s
      [ (4, (s.fwd.lpm.filter (fun p => !p.v6)).length), (4, (s.fwd.lpm.filter (fun p => p.v6)).length), (4, s.lpmStore), (4, s.lpmLong),
        (4, s.fwd.host.length), (4, overflowUse s.fwd.host hostOverflow) ] s)

/-- The prefix commands (R243 to R246): a batch of well-formed prefixes is added, replaced or deleted whole, in the list of prefixes and in
the trie, when every region's replica takes updates (R30); LPM_ROUTE_NEXT walks a VRF's prefixes.
The model's own choices here: log entries 14, 137 and 140. -/
def Obligations.PrefixCommandsRun : Prop :=
  (∀ s h vrf (routes : Routes), Taken s h 0x0609 true false (4 + 20 * routes.length) → s.allReached = true → vrf ≤ 4095 → 1 ≤ routes.length → routes.length ≤ 256 →
    (∀ r ∈ routes, badRoute r = false) → (∀ r ∈ routes, s.hasPrefix (prefixOf vrf r) = false) →
    ((routes.map (prefixOf vrf)).map Prefix.order).Nodup →
    (putRoutes (routes.map (prefixOf vrf)) s).lpmStore ≤ 2097152 → (putRoutes (routes.map (prefixOf vrf)) s).lpmLong ≤ 131072 →
    Runs (.lpmRouteAdd h vrf routes) h 0x0609 s []
      { s with
        fwd.lpm := forEach (routes.map (prefixOf vrf)) s.fwd.lpm insertPrefix
        fwd.trie := forEach (routes.map (prefixOf vrf)) s.fwd.trie (fun p t => t.put p) }) ∧
  (∀ s h vrf (routes : Routes), Taken s h 0x060A true false (4 + 20 * routes.length) → s.allReached = true → vrf ≤ 4095 → 1 ≤ routes.length → routes.length ≤ 256 →
    (∀ r ∈ routes, badRoute r = false) → (∀ r ∈ routes, s.hasPrefix (prefixOf vrf r) = true) →
    Runs (.lpmRouteReplace h vrf routes) h 0x060A s []
      { s with
        fwd.lpm := forEach (routes.map (prefixOf vrf)) s.fwd.lpm insertPrefix
        fwd.trie := forEach (routes.map (prefixOf vrf)) s.fwd.trie (fun p t => t.put p) }) ∧
  (∀ s h vrf (routes : Routes), Taken s h 0x060B true false (4 + 20 * routes.length) → s.allReached = true → vrf ≤ 4095 → 1 ≤ routes.length → routes.length ≤ 256 →
    (∀ r ∈ routes, badRoute r = false) → (∀ r ∈ routes, s.hasPrefix (prefixOf vrf r) = true) →
    Runs (.lpmRouteDelete h vrf routes) h 0x060B s []
      { s with
        fwd.lpm := s.fwd.lpm.filter (fun q => !((routes.map (prefixOf vrf)).map Prefix.order).contains q.order)
        fwd.trie := forEach (routes.map (prefixOf vrf)) s.fwd.trie (fun p t => t.del p) }) ∧
  (∀ s h vrf cursor count, Taken s h 0x060C false false 12 → s.allReached = true → vrf ≤ 4095 → 1 ≤ count → count ≤ 256 →
    Runs (.lpmRouteNext h vrf cursor count) h 0x060C s
      ((8, if cursor + count ≥ (s.fwd.lpm.filter (fun p => p.vrf = vrf)).length then endCursor else cursor + count) ::
        (((s.fwd.lpm.filter (fun p => p.vrf = vrf)).drop cursor).take count).flatMap
          (fun p => [(1, if p.v6 then 6 else 4), (1, p.len), (16, p.addr), (2, p.nexthop)])) s)

/-! ## Parsing and classification (chapter 2) -/

/-- The parse-graph, profile, port and bank commands run on operands in their ranges, and change exactly what they name, in every pipeline of the
mask (R46, R50, R51, R67, R68, R71, R75, R76, R88 to R90, R97). The two reads return the graph entry and the exception counters (R13, R65).
The model's own choices here: log entries 14, 51 and 64. -/
def Obligations.ClassifierSettingsRun : Prop :=
  (∀ s h mask state (e : ParseState), Taken s h 0x0301 true false 100 → mask ≠ 0 → state ≤ 63 → e.lenShift ≤ 7 → e.lenScale ≤ 7 →
    Runs (.parseStateWrite h mask state e) h 0x0301 s [] (forPipes mask (fun p => { p with shadow := tset p.shadow state e }) s)) ∧
  (∀ s h mask, Taken s h 0x0302 true false 4 → mask ≠ 0 → s.anyPipe mask (fun p => badGraph p.shadow) = false →
    Runs (.parseGraphCommit h mask) h 0x0302 s [] (forPipes mask (fun p => { p with active := p.shadow, shadow := p.active }) s)) ∧
  (∀ s h pipe state shadow e, Taken s h 0x0303 false false 4 → pipe ≤ 15 → state ≤ 63 → shadow ≤ 1 →
    tget (if shadow = 1 then (s.pipe pipe).shadow else (s.pipe pipe).active) state = some e →
    Runs (.parseStateRead h pipe state shadow) h 0x0303 s [(1, 1), (3, 0), blob (parseStateBytes e)] s) ∧
  (∀ s h mask profile (sel : List Nat), Taken s h 0x0304 true false (4 + 4 * sel.length) → sel.length = 20 ∨ sel.length = 40 → mask ≠ 0 →
    profile ≤ 31 → (∀ x ∈ sel, field 18 16 x = 0) → (∀ x ∈ sel, x.testBit 31 = false → field 30 27 x ≤ 8) →
    s.anyPipe mask (fun p => p.keyProfileUsed profile && p.wideProfile profile != decide (sel.length = 40)) = false →
    Runs (.keyProfileWrite h mask profile sel) h 0x0304 s []
      (forPipes mask (fun p => { p with keyProfiles := tset p.keyProfiles profile sel }) s)) ∧
  (∀ s h mask profile word, Taken s h 0x0305 true false 8 → mask ≠ 0 → profile ≤ 63 → field 29 26 word = 0 → field 20 16 word = 0 →
    s.anyPipe mask (fun p => p.badSearch word) = false →
    Runs (.searchProfileWrite h mask profile word) h 0x0305 s []
      (forPipes mask (fun p => { p with searchProfiles := tset p.searchProfiles profile (p.keptBanks word) }) s)) ∧
  (∀ s h port (map : List Nat) k, Taken s h 0x0306 true false 20 → map.length = 16 → s.portArg port = some k → (∀ x ∈ map, x ≤ 63 ∨ x = 0xFF) →
    Runs (.portClassMapWrite h port map) h 0x0306 s [] { s with cls.ports := tset s.cls.ports k { s.portClass k with map := map } }) ∧
  (∀ s h (p : PortDefaultsWriteP) k, Taken s h 0x0307 true false 84 → p.disp.length = 64 → s.portArg p.port = some k →
    reservedAction p.missAction = false → badAction p.missAction = false → (∀ d ∈ p.disp, d ≤ 3) →
    Runs (.portDefaultsWrite h p) h 0x0307 s []
      { s with cls.ports := tset s.cls.ports k { s.portClass k with miss := p.missAction, zone := p.zone, disp := p.disp } }) ∧
  (∀ s h (p : ControlMatchWriteP), Taken s h 0x0308 true false 16 → 4 ≤ p.entry → p.entry ≤ 7 → p.anyDst ≤ 1 → p.forward ≤ 1 → p.valid ≤ 1 →
    Runs (.controlMatchWrite h p) h 0x0308 s []
      { s with cls.control := if p.valid = 1 then
                 tset s.cls.control p.entry ⟨p.ethertype, p.dst, p.anyDst = 1, p.udpPort, p.forward = 1⟩
               else tdel s.cls.control p.entry }) ∧
  (∀ s h mask pair mode, Taken s h 0x0309 true false 4 → mask ≠ 0 → pair ≤ 7 → mode ≤ 1 → s.anyPipe mask (fun p => p.pairBusy pair) = false →
    Runs (.bankModeWrite h mask pair mode) h 0x0309 s []
      (forPipes mask (fun p => { p with widePairs := setBit p.widePairs pair (mode = 1) }) s)) ∧
  (∀ s h mask slots, Taken s h 0x0313 true false 4 → mask ≠ 0 → slots ≤ 16 →
    Runs (.recircConfig h mask slots) h 0x0313 s [] (forPipes mask (fun p => { p with recircSlots := slots }) s)) ∧
  (∀ s h (p : MirrorSessionWriteP), Taken s h 0x0314 true false 8 → p.session ≤ 15 →
    (portKind p.dest = 0 ∨ portKind p.dest ≤ 2 ∧ p.dest % 8192 = 0) → p.tc ≤ 7 →
    (p.trunc = 0 ∨ 64 ≤ p.trunc ∧ p.trunc ≤ 256) →
    Runs (.mirrorSessionWrite h p) h 0x0314 s [] { s with cls.mirrors := tset s.cls.mirrors p.session ⟨p.dest, p.tc, p.trunc⟩ }) ∧
  (∀ s h port clear k, Taken s h 0x0315 (decide (clear = 1)) false 4 → s.portArg port = some k → clear ≤ 1 →
    Runs (.parseCountersRead h port clear) h 0x0315 s ((List.range 64).map (fun c => (8, tgetD s.cls.exceptions (64 * k + c) 0)))
      (if clear = 1 then { s with cls.exceptions := s.cls.exceptions.filter (fun e => e.1 / 64 != k) } else s))

/-- The rule-list and TCAM commands run on operands in their ranges and on lists that exist (R78 to R85, R97 to R100): a list takes its banks, a
rule takes its place in every pipeline of the mask, a handle's rule is read, rewritten or deleted, and a raw entry is written or read.
The model's own choices here: log entries 14, 64, 65 and 67. -/
def Obligations.RuleCommandsRun : Prop :=
  (∀ s h (p : ListCreateP), Taken s h 0x030A true false 8 → p.pipeMask ≠ 0 → p.list ≤ 15 → p.baseBank ≤ 15 → 1 ≤ p.banks →
    p.baseBank + p.banks ≤ 16 → s.anyPipe p.pipeMask (fun x => (tget x.lists p.list).isSome) = false →
    s.anyPipe p.pipeMask (fun x => x.badBanks p.baseBank p.banks) = false →
    Runs (.listCreate h p) h 0x030A s []
      (forPipes p.pipeMask (fun x => { x with lists := tset x.lists p.list ⟨p.baseBank, p.banks⟩ }) s)) ∧
  (∀ s h mask list, Taken s h 0x030B true false 4 → mask ≠ 0 → list ≤ 15 → s.anyPipe mask (fun p => (tget p.lists list).isNone) = false →
    Runs (.listDelete h mask list) h 0x030B s []
      (forPipes mask (fun p => { p with
        tcam := p.tcam.filter (fun e => p.listOf (e.1 / 2048) != some list)
        invalid := (p.invalidate (fun a _ => p.listOf (a / 2048) = some list)).invalid
        lists := tdel p.lists list }) s)) ∧
  (∀ s h (p : RuleInsertP), Taken s h 0x030C true false 184 → p.flags ≤ 1 → p.pipeMask ≠ 0 → p.list ≤ 15 →
    s.anyPipe p.pipeMask (fun x => (tget x.lists p.list).isNone) = false →
    s.anyPipe p.pipeMask (fun x => x.listWide p.list != p.flags.testBit 0) = false →
    tailSet (p.flags.testBit 0) p.value = false → tailSet (p.flags.testBit 0) p.mask = false →
    reservedAction p.action = false → badAction p.action = false →
    s.anyPipe p.pipeMask (fun x => (placeRule (x.rules p.list) (x.listSize p.list) (insertedEntry p 0)).isNone) = false →
    Runs (.ruleInsert h p) h 0x030C s
      [ (4, s.cls.nextHandle),
        (2, ((((pipesOf p.pipeMask).map (fun k => (s.pipe k).rulePlace p.list (insertedEntry p s.cls.nextHandle))).head?).map Prod.fst).getD 0),
        (2, (((pipesOf p.pipeMask).map (fun k => (s.pipe k).rulePlace p.list (insertedEntry p s.cls.nextHandle))).map Prod.snd).foldl max 0) ]
      { forPipes p.pipeMask (fun x => x.withRule p.list (insertedEntry p s.cls.nextHandle)) s with
        cls.nextHandle :=
          (forPipes p.pipeMask (fun x => x.withRule p.list (insertedEntry p s.cls.nextHandle)) s).freshHandle
            ((forPipes p.pipeMask (fun x => x.withRule p.list (insertedEntry p s.cls.nextHandle)) s).handles.length + 1)
            (wrap 32 (s.cls.nextHandle + 1)) }) ∧
  (∀ s h handle, Taken s h 0x030D true false 4 → s.handleUsed handle = true →
    Runs (.ruleDelete h handle) h 0x030D s
      (s.cls.pipes.flatMap (fun e => match e.2.ruleOf handle with
        | some (_, x) => [(1, e.1), (7, 0), (8, x.pkts), (8, x.bytes)]
        | none => []))
      { s with
        cls.pipes := s.cls.pipes.map (fun e => (e.1, { e.2 with
          tcam := e.2.tcam.filter (fun x => x.2.handle != handle)
          invalid := (e.2.invalidate (fun _ x => x.handle = handle)).invalid })) }) ∧
  (∀ s h handle action, Taken s h 0x030E true false 20 → reservedAction action = false → badAction action = false → s.handleUsed handle = true →
    Runs (.ruleActionWrite h handle action) h 0x030E s []
      { s with
        cls.pipes := s.cls.pipes.map (fun e => (e.1, { e.2 with
          tcam := e.2.tcam.map (fun x => if x.2.handle = handle then (x.1, { x.2 with action := action }) else x) })) }) ∧
  (∀ s h handle pipe a e, Taken s h 0x030F false false 8 → pipe ≤ 15 → (s.pipe pipe).ruleOf handle = some (a, e) →
    Runs (.ruleRead h handle pipe) h 0x030F s (entryResults ((s.pipe pipe).wideBank (a / 2048)) a e) s) ∧
  (∀ s h mask list spacing, Taken s h 0x0310 true false 4 → mask ≠ 0 → list ≤ 15 → s.anyPipe mask (fun p => (tget p.lists list).isNone) = false →
    2 ≤ orDefault spacing 8 → spacing ≤ 64 →
    s.anyPipe mask (fun p => !spacingFits (orDefault spacing 8) (p.rules list).length (p.listSize list)) = false →
    Runs (.listRespace h mask list spacing) h 0x0310 s []
      (forPipes mask (fun p => p.setRules list ((p.rules list).mapIdx (fun i e => (spacedPos (orDefault spacing 8) i, e.2)))) s)) ∧
  (∀ s h (p : TcamRawWriteP), Taken s h 0x0311 true false 184 → p.pipeMask ≠ 0 → p.valid ≤ 1 → p.wide ≤ 1 → p.addr ≤ 32767 →
    s.anyPipe p.pipeMask (fun x => x.badRaw (decide (p.wide = 1)) p.addr) = false →
    tailSet (decide (p.wide = 1)) p.value = false → tailSet (decide (p.wide = 1)) p.mask = false →
    reservedAction p.action = false → badAction p.action = false →
    Runs (.tcamRawWrite h p) h 0x0311 s []
      (forPipes p.pipeMask (fun x =>
        if p.valid = 1 then x.putEntry p.addr (newEntry (decide (p.wide = 1)) p.value p.mask p.action 0 0)
        else { x with
          tcam := tdel x.tcam p.addr
          invalid := tset x.invalid p.addr (newEntry (decide (p.wide = 1)) p.value p.mask p.action 0 0) }) s)) ∧
  (∀ s h pipe addr e, Taken s h 0x0312 false false 4 → pipe ≤ 15 → addr ≤ 32767 → tget (s.pipe pipe).tcam addr = none →
    tget (s.pipe pipe).invalid addr = some e →
    Runs (.tcamRawRead h pipe addr) h 0x0312 s
      ([(1, 0), (1, Machine.bit ((s.pipe pipe).wideBank (addr / 2048))), (2, 0)] ++ entryResults ((s.pipe pipe).wideBank (addr / 2048)) addr e) s) ∧
  (∀ s h pipe addr e, Taken s h 0x0312 false false 4 → pipe ≤ 15 → addr ≤ 32767 → tget (s.pipe pipe).tcam addr = some e →
    Runs (.tcamRawRead h pipe addr) h 0x0312 s
      ([(1, 1), (1, Machine.bit ((s.pipe pipe).wideBank (addr / 2048))), (2, 0)] ++ entryResults ((s.pipe pipe).wideBank (addr / 2048)) addr e) s)

/-! ## Flow tables (chapters 3 and 4) -/

/-- The partition and aging commands run (R103 to R106, R124, R154, R155, R158, R659): a created partition takes the lowest free aligned range of
buckets, and an Anchored one a block of overflow entries in every region; PARTITION_DELETE is accepted, deletes the partition's records, each
once its locks are free, and then the partition; PARTITION_READ and FLOW_TABLE_STATUS return what stands, and the two timing commands write one setting.
The model's own choices here: log entries 14, 87 and 89. -/
def Obligations.PartitionCommandsRun : Prop :=
  (∀ s h (p : PartitionCreateP) base, Taken s h 0x0401 true false 84 → p.partition ≤ 63 → p.kind ≤ 1 → p.flags ≤ 7 → 8 ≤ p.nbrLog2 →
    (p.kind = 0 → p.nbrLog2 ≤ 24 ∧ p.ovfQuota ≤ 30720) →
    (p.kind = 1 → p.nbrLog2 ≤ (if p.flags.testBit 0 then 21 else 20) ∧ p.ovfQuota = 0 ∧
      ((tvals s.flow.partitions).filter Partition.anchored).length < 8 ∧ ∀ r ∈ regions, (s.freeStash r).isSome) →
    p.sweepPeriod ≤ 60000 → p.defaultAgeClass ≤ 15 → (∀ d ∈ p.homeMap, d ≤ 0xFFF) → s.partition p.partition = none →
    s.freeRange p.nbrLog2 = some base →
    Runs (.partitionCreate h p) h 0x0401 s [(4, base)]
      { s with
        flow.partitions := tset s.flow.partitions p.partition
          { anchored := decide (p.kind = 1)
            wide := p.flags.testBit 0
            adaptive := p.flags.testBit 1
            groupHomed := p.flags.testBit 2
            nbrLog2 := p.nbrLog2
            seedA := p.seedA
            seedB := p.seedB
            ovfQuota := p.ovfQuota
            sweepPeriod := orDefault p.sweepPeriod 1000
            ageClass := p.defaultAgeClass
            homeMap := p.homeMap
            base := base
            stash := if p.kind = 1 then regions.filterMap s.freeStash else [] } }) ∧
  (∀ s h partition p, Taken s h 0x0402 true true 4 → s.partition partition = some p →
    AcceptedBy (.partitionDelete h partition) h 0x0402 s [] (fun u =>
      let m := startMany p partition .purge (u.partitionKeys partition) u
      if m.1 = 0 then (some (0, 0xFFFF, []), { m.2.2 with flow.partitions := tdel m.2.2.flow.partitions partition })
      else (none, waitMany (some partition) m.1 m.2.1 s.ocf.nextPend m.2.2))) ∧
  (∀ s h partition p, Taken s h 0x0403 false false 4 → s.partition partition = some p →
    Runs (.partitionRead h partition) h 0x0403 s
      ([ (1, Machine.bit p.anchored), (1, Machine.bit p.wide + 2 * Machine.bit p.adaptive + 4 * Machine.bit p.groupHomed), (1, p.nbrLog2),
         (4, p.seedA), (4, p.seedB), (2, p.ovfQuota), (2, p.sweepPeriod), (1, p.ageClass) ] ++ p.homeMap.map (fun d => (2, d)) ++
        [(4, p.base)] ++ regions.map (fun r => (4, (s.recordsOf r partition).length)) ++
        [(4, p.achieved / 1000000), (8, p.homeUnreach)]) s) ∧
  (∀ s h cls timeout, Taken s h 0x040A true false 8 → cls ≤ 15 → timeout ≤ 86400000 →
    Runs (.ageClassWrite h cls timeout) h 0x040A s []
      { s with
        flow.ageClasses := s.flow.ageClasses.mapIdx (fun i x =>
          if i = cls then orDefault timeout (({} : FlowState).ageClasses.getD cls 1) else x) }) ∧
  (∀ s h partition period p, Taken s h 0x040B true false 4 → s.partition partition = some p → period ≤ 60000 →
    Runs (.sweepConfig h partition period) h 0x040B s []
      { s with flow.partitions := tset s.flow.partitions partition { p with sweepPeriod := orDefault period 1000 } }) ∧
  (∀ s h, Taken s h 0x040C false false 0 →
    Runs (.flowTableStatus h) h 0x040C s
      (regions.flatMap (fun r =>
        [ (4, ((s.region r).tarn.map (fun t => (t.2.ways.map (fun w => entriesOf w.2.img.wide)).sum)).sum),
          (4, ((s.region r).sinter.map (fun e => e.2.length)).sum), (4, (s.region r).log.length), (4, (s.region r).ovfUse) ] ++
        (s.stashes r).map (fun b => (2, (s.region r).stashUse b)) ++ [(8, (s.region r).hits), (8, (s.region r).misses)] ++
        (List.range 9).map (fun c => (8, tgetD (s.region r).starved (c + 1) 0)) ++
        [ (8, (s.region r).staleComp), (8, (s.region r).integrity), (8, (s.region r).tarnCorrected), (8, (s.region r).tarnLost),
          (8, (s.region r).unplaced) ]) ++
        s.flow.partitions.flatMap (fun e => [(1, e.1), (4, e.2.achieved / 1000000)])) s)

/-- The flow record commands run on blocks and keys in their ranges when the locks of the key are free and no earlier operation waits for one of them
(R150 to R154, R165 to R167): an insert of a new key whose home is this device creates the record where a store takes it and answers its locator, an
insert or update of an existing one changes it in the place that owns its state fields and advances its GEN, a read returns the record with its
activity, a delete removes it and returns it, a search returns up to eight records in the order of R166, and a flush deletes every primary that its
filter takes, in part once their locks are free.
Where an operation holds the key's locks, a command waits in its region's queue and is answered when its turn has come (R150, R424).
The model's own choices here: log entries 14, 49, 69, 80 and 82.  -/
def Obligations.FlowRecordCommandsRun : Prop :=
  (∀ s h b p r x y, Taken s h 0x0404 true false 96 → BlockOk s b p → r = (p.place (descKey b.key)).home →
    clear (p.locks b.key.partition (p.place (descKey b.key))) (s.takenLocks r) = true →
    s.findRec r b.key.partition p (descKey b.key) = none → s.homedAway (descKey b.key) p = false →
    x = blockRec s p b none → y = (if x.comp then x else { x with first := flowTime s.time.now, last := flowTime s.time.now }) →
    (∀ k : Book, ∃ l t, createRec r p y (s.book k) = .ok (l, t)) →
    RunsBy (.flowInsert h b) h 0x0404 s (fun u =>
      match createRec r p y u with
      | .error _ => ([], u)
      | .ok (l, v) => (insertResult l y.gen 0,
          if ((s.template b.template).map (fun t => t.flags.testBit 3)).getD false then exportRec y none v else v))) ∧
  (∀ s h b p r f x, Taken s h 0x0404 true false 96 → BlockOk s b p → r = (p.place (descKey b.key)).home →
    clear (p.locks b.key.partition (p.place (descKey b.key))) (s.takenLocks r) = true →
    s.findRec r b.key.partition p (descKey b.key) = some f → b.flags.testBit 1 = false → genDiffers b f.img = false →
    x = { blockRec s p b (some f.img) with gen := f.img.gen }.bump →
    (∀ k : Book, (writeState r p (bringIn r p f (s.book k)).1 x (bringIn r p f (s.book k)).2).isSome) →
    RunsBy (.flowInsert h b) h 0x0404 s (fun u =>
      (insertResult f.loc x.gen 1, (writeState r p (bringIn r p f u).1 x (bringIn r p f u).2).getD u))) ∧
  (∀ s h b p r f x, Taken s h 0x0405 true false 96 → BlockOk s b p → r = (p.place (descKey b.key)).home →
    clear (p.locks b.key.partition (p.place (descKey b.key))) (s.takenLocks r) = true →
    s.findRec r b.key.partition p (descKey b.key) = some f → genDiffers b f.img = false →
    x = { blockRec s p b (some f.img) with gen := f.img.gen }.bump →
    (∀ k : Book, (writeState r p (bringIn r p f (s.book k)).1 x (bringIn r p f (s.book k)).2).isSome) →
    RunsBy (.flowUpdate h b) h 0x0405 s (fun u =>
      (insertResult f.loc x.gen 1, (writeState r p (bringIn r p f u).1 x (bringIn r p f u).2).getD u))) ∧
  (∀ s h k p r f settle, Taken s h 0x0406 false false 60 → KeyOk s k p → r = (p.place (descKey k)).home →
    clear (p.locks k.partition (p.place (descKey k))) (s.takenLocks r) = true →
    s.findRec r k.partition p (descKey k) = some f → settle ≤ 1 → (settle = 1 → s.groupPendingLog r f.loc = false) →
    Runs (.flowRead h k settle) h 0x0406 s (recResult f.loc (s.merged r f) ++ [(1, Machine.bit (s.groupPendingLog r f.loc)), (3, 0)]) s) ∧
  (∀ s h k p r f, Taken s h 0x0407 true false 56 → KeyOk s k p → r = (p.place (descKey k)).home →
    clear (p.locks k.partition (p.place (descKey k))) (s.takenLocks r) = true →
    s.findRec r k.partition p (descKey k) = some f → s.sinterEntry r f.loc = none → s.groupPendingLog r f.loc = false →
    RunsBy (.flowDelete h k) h 0x0407 s (fun u => ([blob f.img.encode], removeWhole r p f (some 4) u))) ∧
  (∀ s h (p : FlowSearchNextP) q left, Taken s h 0x0408 false false 124 → s.partition p.partition = some q → p.useTemplate ≤ 1 →
    left = s.flowWalk.filter (fun e => e.1 ≥ p.cursor &&
      filterTakes p.partition (if p.useTemplate = 1 then some p.template else none) p.key p.mask e.2.2.img) →
    Runs (.flowSearchNext h p) h 0x0408 s
      ([ (8, if left.length ≤ 8 then 0xFFFFFFFFFFFFFFFF else (((left.take 8).getLast?).map (fun e => e.1 + 1)).getD 0xFFFFFFFFFFFFFFFF),
         (1, (left.take 8).length), (3, 0) ] ++ (left.take 8).flatMap (fun e => recResult e.2.2.loc (s.merged e.2.1 e.2.2))) s) ∧
  (∀ s h (p : FlowFlushP) q, Taken s h 0x0409 true true 116 → s.partition p.partition = some q → p.useTemplate ≤ 1 →
    AcceptedBy (.flowFlush h p) h 0x0409 s [] (fun u =>
      let m := startMany q p.partition (.flush p (flowTime s.time.now))
        ((u.partitionKeys p.partition).filter (fun e => s.flushTakes q p (flowTime s.time.now) e.2)) u
      if m.1 = 0 then (some (0, 0xFFFF, [(8, m.2.1)]), m.2.2) else (none, waitMany none m.1 m.2.1 s.ocf.nextPend m.2.2))) ∧
  (∀ s h b p r create opcode i, BlockOk s b p → r = (p.place (descKey b.key)).home →
    clear (p.locks b.key.partition (p.place (descKey b.key))) (s.takenLocks r) = false →
    (opcode, create, i) = (0x0404, true, Instr.flowInsert h b) ∨ (opcode, create, i) = (0x0405, false, Instr.flowUpdate h b) →
    Taken s h opcode true false 96 →
    ∃ (k : Book) (key : Option Bytes) (gen : Nat), k.sent = s.ocf.sent ∧
      exec i s = .next { pushOp r { s.workOp b.key.partition (descKey b.key) (some s.flow.nextCmd) with work := some (.put b create) } (s.book k) with
        flow.nextCmd := s.flow.nextCmd + 1
        flow.cmds := tset s.flow.cmds s.flow.nextCmd { reply := .frame opcode h key gen true } }) ∧
  (∀ s h k p r settle, Taken s h 0x0406 false false 60 → KeyOk s k p → r = (p.place (descKey k)).home → settle ≤ 1 →
    clear (p.locks k.partition (p.place (descKey k))) (s.takenLocks r) = false →
    ∃ (b : Book) (key : Option Bytes) (gen : Nat), b.sent = s.ocf.sent ∧
      exec (.flowRead h k settle) s =
        .next { pushOp r { s.workOp k.partition (descKey k) (some s.flow.nextCmd) with work := some (.read (decide (settle = 1))) } (s.book b) with
          flow.nextCmd := s.flow.nextCmd + 1
          flow.cmds := tset s.flow.cmds s.flow.nextCmd { reply := .frame 0x0406 h key gen false } }) ∧
  (∀ s h k p r, Taken s h 0x0407 true false 56 → KeyOk s k p → r = (p.place (descKey k)).home →
    clear (p.locks k.partition (p.place (descKey k))) (s.takenLocks r) = false →
    ∃ (b : Book) (key : Option Bytes) (gen : Nat), b.sent = s.ocf.sent ∧
      exec (.flowDelete h k) s =
        .next { pushOp r { s.workOp k.partition (descKey k) (some s.flow.nextCmd) with work := some .delete } (s.book b) with
          flow.nextCmd := s.flow.nextCmd + 1
          flow.cmds := tset s.flow.cmds s.flow.nextCmd { reply := .frame 0x0407 h key gen true } })

/-- The template and NAT pool commands run on operands in their ranges (Tables 4-1 and 4-9; R169, R170, R198, R199, R203): a template is written
whole and read back; a pool that has no port allocated is written, and its command stays pending until its rings are filled; addresses are written
to their places; a pool without allocated ports is deleted with its rings; and the status gives each region's free, allocated and leaked ports. A
written pool whose fill ends early completes the earlier command.
The model's own choices here: log entries 8, 14 and 78. -/
def Obligations.NatCommandsRun : Prop :=
  (∀ s h t p, Taken s h 0x0410 true false 160 → TemplateOk s t p →
    Runs (.flowTemplateWrite h t) h 0x0410 s [] { s with flow.templates := tset s.flow.templates t.template t }) ∧
  (∀ s h template t, Taken s h 0x0411 false false 4 → s.template template = some t →
    Runs (.flowTemplateRead h template) h 0x0411 s
      ([ (1, t.template), (1, t.partition), (1, t.keyType), (1, t.keyFlags), (1, t.flags), (1, t.serviceKind), (1, t.ageClass), (1, t.natPool),
         (4, t.ctAge), (2, t.lbPool), (2, t.replyZone), (4, t.ovlPolicy), (2, t.createLimit), (2, t.deferMaxAge), (1, t.exportField),
         (1, t.ctInvalid), (1, t.ctMiss), (1, t.slowReason), (4, t.templateData), (16, t.stateless), (16, t.flowAction) ] ++
        t.keyMap.map (fun k => (4, k))) s) ∧
  (∀ s h (p : NatPoolWriteP), Taken s h 0x0412 true true 8 → p.pool ≤ 63 → (p.family = 4 ∨ p.family = 6) → 1 ≤ p.addrCount →
    p.addrCount ≤ 4096 → 1024 ≤ p.portLo → p.portLo % 256 = 0 → (p.portHi + 1) % 256 = 0 → p.portLo < p.portHi →
    ((s.flow.pools.filter (fun e => e.1 != p.pool)).map (fun e => e.2.ports)).sum + p.addrCount * (p.portHi + 1 - p.portLo) ≤ 268435456 →
    s.poolBusy p.pool = false →
    Accepted (.natPoolWrite h p) h 0x0412 s [] none
      { clearRings p.pool (endFill p.pool s) with
        flow.pools := tset s.flow.pools p.pool
          { family := p.family
            addrCount := p.addrCount
            portLo := p.portLo
            portHi := p.portHi
            addrs := ((tget s.flow.pools p.pool).map NatPool.addrs).getD []
            fillId := some s.ocf.nextPend } }) ∧
  (∀ s h (p : NatPoolAddrWriteP) q, Taken s h 0x0413 true false (8 + 16 * p.count) → tget s.flow.pools p.pool = some q → p.addrs.length = p.count →
    1 ≤ p.count → p.count ≤ 64 → p.start + p.count ≤ q.addrCount → (q.family = 4 → ∀ a ∈ p.addrs, a < 2 ^ 32) →
    Runs (.natPoolAddrWrite h p) h 0x0413 s []
      { s with
        flow.pools := tset s.flow.pools p.pool { q with addrs := (p.addrs.zipIdx).foldl (fun t e => tset t (p.start + e.2) e.1) q.addrs } }) ∧
  (∀ s h pool q, Taken s h 0x0414 true false 4 → tget s.flow.pools pool = some q → s.poolBusy pool = false →
    Runs (.natPoolDelete h pool) h 0x0414 s []
      { clearRings pool (endFill pool s) with flow.pools := tdel s.flow.pools pool }) ∧
  (∀ s h pool p, Taken s h 0x0415 false false 4 → tget s.flow.pools pool = some p →
    Runs (.natPoolStatus h pool) h 0x0415 s
      (regions.flatMap (fun r =>
        [ (4, p.ringSize - (s.natRing pool r).next + (s.natRing pool r).returned.length + (s.natRing pool r).buffer.length),
          (4, (s.natRing pool r).allocated), (4, (s.natRing pool r).leaked), (8, (s.natRing pool r).exhausted) ])) s)

/-- The load-balancer, home-map, export and service-counter commands run on operands in their ranges (Tables 4-4, 4-10, 4-11 and 4-13; R205 to
R208, R214, R220).
The model's own choices here: log entries 14, 79, 82, 83 and 147. -/
def Obligations.ServiceCommandsRun : Prop :=
  (∀ s h (p : LbPoolWriteP), Taken s h 0x0416 true false 12 → p.pool ≤ 4095 → p.slots ≤ 1 → (p.family = 4 ∨ p.family = 6) →
    (p.healthPeriod = 0 ∨ 10 ≤ p.healthPeriod) → p.healthPeriod ≤ 10000 → (p.rttFactor = 0 ∨ 16 ≤ p.rttFactor) → p.rttFactor ≤ 255 →
    ((∀ q, tget s.flow.lbPools p.pool = some q → q.family = p.family) ∨
      (∀ e ∈ s.flow.backends, e.2.pool ≠ p.pool) ∧
        ∀ e ∈ s.flow.templates, e.2.serviceKind = 2 ∨ e.2.serviceKind = 3 → e.2.lbPool ≠ p.pool) →
    ((s.flow.lbPools.filter (fun e => e.1 != p.pool)).map (fun e => e.2.limitSlots)).sum +
      max (if p.slots = 1 then 65536 else 4096) (((tget s.flow.lbPools p.pool).map LbPool.slots).getD 0) ≤ 33554432 →
    Runs (.lbPoolWrite h p) h 0x0416 s []
      { s with
        flow.lbPools := tset s.flow.lbPools p.pool
          (match tget s.flow.lbPools p.pool with
          | some q => { q with
              nextSlots := if p.slots = 1 then 65536 else 4096
              family := p.family
              healthPeriod := orDefault p.healthPeriod 1000
              minSamples := orDefault p.minSamples 32
              failLimit := orDefault p.failLimit 26
              rttFactor := orDefault p.rttFactor 32 }
          | none =>
            { slots := if p.slots = 1 then 65536 else 4096
              nextSlots := if p.slots = 1 then 65536 else 4096
              family := p.family
              healthPeriod := orDefault p.healthPeriod 1000
              minSamples := orDefault p.minSamples 32
              failLimit := orDefault p.failLimit 26
              rttFactor := orDefault p.rttFactor 32 }) }) ∧
  (∀ s h (p : LbBackendWriteP) q, Taken s h 0x0417 true false 32 → p.backend ≤ 262143 → p.pool ≤ 4095 → tget s.flow.lbPools p.pool = some q →
    p.member ≤ 4095 → (∀ e ∈ s.flow.backends, e.1 ≠ p.backend → ¬(e.2.pool = p.pool ∧ e.2.member = p.member)) →
    (q.family = 4 → p.addr < 2 ^ 32) → p.wmin ≤ p.wbase → p.state ≤ 2 →
    Runs (.lbBackendWrite h p) h 0x0417 s []
      { (leaveMember p s) with
        flow.backends := tset s.flow.backends p.backend ⟨p.pool, p.member, p.addr, p.port, p.wbase, p.wmin, p.state⟩ }) ∧
  (∀ s h pool p, Taken s h 0x0418 true false 4 → pool ≤ 4095 → tget s.flow.lbPools pool = some p →
    Runs (.lbPoolCommit h pool) h 0x0418 s []
      { s with
        flow.lbPools := tset s.flow.lbPools pool
          ({ p with
            members := (s.flow.backends.filter (fun e => e.2.pool = pool)).foldl
              (fun t e => tset t e.2.member (commitMember p e.1 e.2)) [] } : LbPool).commit }) ∧
  (∀ s h pool p, Taken s h 0x0419 false false 4 → pool ≤ 4095 → tget s.flow.lbPools pool = some p →
    Runs (.lbPoolRead h pool) h 0x0419 s
      ([(4, p.slots), (4, p.nextSlots), (2, p.members.length), (2, 0)] ++ p.members.flatMap (fun e =>
        [ (2, e.1), (4, e.2.backend), (2, e.2.wbase), (2, e.2.weight), (1, e.2.state), (1, 0), (4, ((p.active 0).filter (· = e.1)).length),
          (4, (tgetD p.health e.1 (0, 0, 0)).1), (4, (tgetD p.health e.1 (0, 0, 0)).2.1), (4, (tgetD p.health e.1 (0, 0, 0)).2.2) ])) s) ∧
  (∀ s h (p : GroupHomeWriteP) q, Taken s h 0x041A true false (12 + 2 * p.devices.length) → s.partition p.partition = some q →
    q.groupHomed = true → p.timeNs < 1000000000 → p.devices ≠ [] → p.start + p.devices.length ≤ 32 → (∀ d ∈ p.devices, d ≤ 0xFFF) →
    Runs (.groupHomeWrite h p) h 0x041A s []
      { s with
        flow.partitions := tset s.flow.partitions p.partition { q with
          homeSwitch := insertSwitch (ofSeconds p.timeS p.timeNs, p.start, p.devices) q.homeSwitch } }) ∧
  (∀ s h (p : ExportProfileWriteP), Taken s h 0x041B true false 72 → p.profile ≤ 15 → p.flags ≤ 15 →
    (p.flags.testBit 3 = false → p.collector < 2 ^ 32 ∧ p.source < 2 ^ 32) → 576 ≤ p.mtu → p.mtu ≤ 9216 → 1000 ≤ p.rate → p.rate ≤ 10000000 →
    1500 ≤ p.burst → p.burst ≤ 1048576 → p.activeTimeout ≤ 3600 → p.templateRefresh ≤ 3600 → p.flushDelay ≤ 1000 → p.egressPort < 2 ^ 13 →
    p.vlan < 4096 → p.tc ≤ 7 → p.dscp ≤ 63 →
    Runs (.exportProfileWrite h p) h 0x041B s []
      { s with
        flow.profiles := tset s.flow.profiles p.profile
          (let fresh : ExportProfile :=
            { flags := p.flags
              collectorPort := orDefault p.collectorPort 4739
              collector := p.collector
              source := p.source
              sourcePort := p.sourcePort
              mtu := p.mtu
              odid := p.odid
              rate := p.rate
              burst := p.burst
              activeTimeout := p.activeTimeout
              templateRefresh := orDefault p.templateRefresh 600
              flushDelay := orDefault p.flushDelay 100
              egressPort := p.egressPort
              dstMac := p.dstMac
              vlan := p.vlan
              tc := p.tc
              dscp := p.dscp
              tokens := p.burst * byteTokens
              tokensAt := s.time.localNs }
          match tget s.flow.profiles p.profile with
          | none => fresh
          | some o => { fresh with
              buildSet := o.buildSet
              building := o.building
              ended := o.ended
              staged := o.staged
              sentRecords := o.sentRecords
              sentMessages := o.sentMessages
              dropped := o.dropped
              skipped := o.skipped }) }) ∧
  (∀ s h profile, Taken s h 0x041C false false 4 → profile ≤ 15 →
    Runs (.exportStatus h profile) h 0x041C s
      (match tget s.flow.profiles profile with
      | none => [(4, 0), (8, 0), (8, 0), (8, 0), (8, 0)]
      | some p => [(4, p.queued), (8, p.sentRecords), (8, p.sentMessages), (8, p.dropped), (8, p.skipped)]) s) ∧
  (∀ s h template region, Taken s h 0x041D false false 4 → (region ≤ 3 ∨ region = 0xFF) →
    Runs (.serviceCountersRead h template region) h 0x041D s
      ((if region = 0xFF then regions else [region]).flatMap (fun r =>
        (List.range 32).map (fun k => (8, tgetD s.flow.counters (256 * (4 * template + r) + k) 0)))) s)

/-! ## Buffers, egress, HBM and the Dvorob Link (chapters 6 to 8) -/

/-- The buffer commands run on operands in their ranges (Tables 6-7 to 6-9 and 6-11; R288 to R291, R294, R295, R303, R327, R659): the five write
commands change the shadow configuration only, BUF_COMMIT puts it in force when it fits every region, and the reads return, and with CLEAR zero, the
counters that they name.
The model's own choices here: log entries 14, 25 and 26. -/
def Obligations.BufferCommandsRun : Prop :=
  (∀ s h (p : BufProfileWriteP), Taken s h 0x0701 true false 16 → p.profile ≤ 63 → p.alpha ≤ 9 → p.reserve ≤ 4095 → p.flags ≤ 1 →
    p.headKeep % 16 = 0 → p.headKeep ≤ 4096 → (p.spillOn = 0 ∨ 64 ≤ p.spillOn) → p.spillOn ≤ 131072 → p.spillMax ≤ s.spillPages →
    Runs (.bufProfileWrite h p) h 0x0701 s []
      { s with
        buf.shadow.profiles := tset s.buf.shadow.profiles p.profile
          ⟨p.alpha, p.reserve, p.flags.testBit 0, orDefault p.headKeep 256, orDefault p.spillOn 4096, p.spillMax⟩ }) ∧
  (∀ s h start count profile, Taken s h 0x0702 true false 12 → 1 ≤ count → start + count ≤ 131072 → profile ≤ 63 →
    Runs (.voqProfileMap h start count profile) h 0x0702 s [] { s with buf.shadow.map := (start, count, profile) :: s.buf.shadow.map }) ∧
  (∀ s h (p : BufRegionWriteP), Taken s h 0x0703 true false 12 → (p.region ≤ 3 ∨ p.region = 0xFF) → (p.portPendMax = 0 ∨ 64 ≤ p.portPendMax) →
    p.portPendMax ≤ 16384 → (p.ingressPool = 0 ∨ 4096 ≤ p.ingressPool) → p.ingressPool ≤ 65536 →
    (p.fabRxPool = 0 ∨ 2048 ≤ p.fabRxPool ∧ p.fabRxPool ≤ 34816) →
    Runs (.bufRegionWrite h p) h 0x0703 s []
      { s with
        buf.shadow.regions := forEach (if p.region = 0xFF then regions else [p.region]) s.buf.shadow.regions
          (fun r t => tset t r ⟨orDefault p.portPendMax 4096, orDefault p.ingressPool 16384, p.fabRxPool⟩) }) ∧
  (∀ s h (p : PortPfcWriteP) k, Taken s h 0x0704 true false 16 → s.namesFabric p.port = false → s.portArg p.port = some k → p.mode ≤ 2 →
    p.xon < p.xoff → p.watchdog ≤ 1000 → p.defaultPrio ≤ 7 →
    Runs (.portPfcWrite h p) h 0x0704 s []
      { s with
        buf.shadow.pfc := tset s.buf.shadow.pfc k ⟨p.mode, p.lossless, p.xoff, p.xon, p.headroom, p.watchdog, p.defaultPrio⟩ }) ∧
  (∀ s h port linger k, Taken s h 0x0705 true false 4 → s.namesFabric port = false → s.portArg port = some k → linger ≤ 500 →
    Runs (.portLingerWrite h port linger) h 0x0705 s [] { s with buf.shadow.linger := tset s.buf.shadow.linger k linger }) ∧
  (∀ s h, Taken s h 0x0706 true false 0 → (∀ r ∈ regions, s.otherPools s.buf.shadow r ≤ 131072) →
    (∀ r ∈ regions, s.unfit s.buf.shadow r = false) →
    Runs (.bufCommit h) h 0x0706 s [] (forEach (tkeys s.buf.voqs) { s with buf.cfg := s.buf.shadow } enterSpill)) ∧
  (∀ s h region voq, Taken s h 0x0707 false false 8 → region ≤ 3 → voq < 131072 →
    Runs (.voqStatus h region voq) h 0x0707 s
      [ (1, s.voqState (voqKey region voq)), (4, (s.voq (voqKey region voq)).reserve), (4, (s.voq (voqKey region voq)).shared),
        (4, (s.voq (voqKey region voq)).pages.length) ] s) ∧
  (∀ s h region voq clear, Taken s h 0x0708 (decide (clear = 1)) false 8 → region ≤ 3 → voq < 131072 → clear ≤ 1 →
    Runs (.voqCountersRead h region voq clear) h 0x0708 s
      [ (8, (s.voq (voqKey region voq)).admitted), (8, (s.voq (voqKey region voq)).admittedBytes), (8, (s.voq (voqKey region voq)).discarded),
        (8, (s.voq (voqKey region voq)).discardedBytes), (8, (s.voq (voqKey region voq)).underrun), (8, (s.voq (voqKey region voq)).eccDiscard) ]
      (if clear = 1 then
        { s with
          buf.voqs := tset s.buf.voqs (voqKey region voq) { s.voq (voqKey region voq) with
            admitted := 0
            admittedBytes := 0
            discarded := 0
            discardedBytes := 0
            underrun := 0
            eccDiscard := 0 } }
      else s)) ∧
  (∀ s h, Taken s h 0x0709 false false 0 →
    Runs (.bufStatus h) h 0x0709 s
        (regions.flatMap (fun r =>
          [ (4, (s.regionCfg r).ingressPool), (4, tgetD s.buf.ingress r 0), (4, (s.regionCfg r).fabRxPool), (4, tgetD s.buf.fabRx r 0),
            (4, s.buf.cfg.headroomOf r), (4, ((s.buf.headroom.filter (fun e => regionOfPort (e.1 / 8) = r)).map Prod.snd).sum),
            (4, s.reservesOf s.buf.cfg), (4, ((s.buf.voqs.filter (fun e => voqRegion e.1 = r)).map (fun e => e.2.reserve)).sum),
            (4, s.sharedSize r), (4, tgetD s.buf.shared r 0), (4, s.sharedFree r), (4, s.pagesUsed r), (8, tgetD s.buf.noVoq r 0) ] ++
          (List.range 8).map (fun tc => (8, tgetD s.buf.discards (8 * r + tc) 0))) ++
        s.statusPorts.flatMap (fun f =>
          let own (t : Tab Nat) : Nat := ((s.ofSysPort f).map (fun p => tgetD t p 0)).getD 0
          [(2, f), (8, own s.buf.inDiscard), (8, own s.buf.headroomOverrun)] ++
          (List.range 8).map (fun tc => (8, ((s.ofSysPort f).map (fun p => tgetD s.buf.wdDiscard (8 * p + tc) 0)).getD 0)) ++
          (List.range 8).map (fun tc => (8, tgetD s.buf.downDiscard (8 * f + tc) 0)) ++
          (List.range 8).map (fun tc => (8, tgetD s.buf.lingerDiscard (8 * f + tc) 0)) ++ [(8, own s.buf.txAbort)])) s)

/-- The egress commands run on operands in their ranges and on ports that exist (Tables 7-4 to 7-8; R335, R336, R344, R352, R353, R355, R356,
R361, R362): the scheduler, shapers and gate lists of one port change, a policer is written in the regions named, and each read returns, and with
CLEAR zeroes, what it names.
The model's own choices here: log entries 14, 25, 33 and 95. -/
def Obligations.EgressCommandsRun : Prop :=
  (∀ s h (p : PortSchedWriteP) k, Taken s h 0x0801 true false 24 → s.namesFabric p.port = false → s.egressArg p.port = some k →
    (bitsOf 8 p.strictMask).length ≤ 4 → -64 ≤ signed 8 p.lenAdj → signed 8 p.lenAdj ≤ 127 → p.weight.length = 8 → (∀ w ∈ p.weight, w ≤ 255) →
    (p.portRate = 0 ∨ 1000 ≤ p.portRate ∧ p.portRate ≤ 800000000) → p.portBurst ≤ 16777215 →
    Runs (.portSchedWrite h p) h 0x0801 s []
      (forEach ((List.range 8).filter (fun tc => (s.egPort k).strictMask.testBit tc && !p.strictMask.testBit tc))
        (s.setEgPort k { s.egPort k with
          strictMask := p.strictMask
          lenAdj := signed 8 p.lenAdj
          weights := p.weight.map (orDefault · 1)
          shaper := if p.portRate = 0 then none else some (newShaper (s.egPort k).shaper p.portRate p.portBurst s.time.localNs)
          latThreshold := p.latThreshold })
        (fun tc t => t.setEgQueue k tc { t.egQueue k tc with tag := (s.egPort k).v }))) ∧
  (∀ s h (p : QueueShaperWriteP) k, Taken s h 0x0802 true false 12 → s.namesFabric p.port = false → s.egressArg p.port = some k → p.tc ≤ 7 →
    p.flags ≤ 1 → (p.flags = 1 → 1000 ≤ p.rate ∧ p.rate ≤ 800000000 ∧ p.burst ≤ 16777215) →
    Runs (.queueShaperWrite h p) h 0x0802 s []
      (s.setEgQueue k p.tc { s.egQueue k p.tc with
        shaper := if p.flags = 0 then none else some (newShaper (s.egQueue k p.tc).shaper p.rate p.burst s.time.localNs) })) ∧
  (∀ s h port start (entries : GateEntries) k, Taken s h 0x0803 true false (4 + 8 * entries.length) → s.namesFabric port = false →
    s.egressArg port = some k → 1 ≤ entries.length → entries.length ≤ 64 → start + entries.length ≤ 256 →
    (∀ e ∈ entries, e.1 ≤ 255 ∧ 64 ≤ e.2 ∧ e.2 ≤ 1000000000) →
    Runs (.gateListWrite h port start entries) h 0x0803 s []
      (s.setEgPort k { s.egPort k with
        gates := { (s.egPort k).gates with
          admin := forEach ((List.range entries.length).zip entries) (s.egPort k).gates.admin (fun x t => tset t (start + x.1) x.2) } })) ∧
  (∀ s h (p : GateConfigWriteP) k, Taken s h 0x0804 true false 24 → s.namesFabric p.port = false → s.egressArg p.port = some k → p.flags ≤ 3 →
    p.baseNs ≤ 999999999 → p.flags.testBit 0 = true → 1 ≤ p.listLen → p.listLen ≤ 256 → 1000 ≤ p.cycleTime → p.cycleTime ≤ 1000000000 →
    (∀ n < p.listLen, 64 ≤ ((s.egPort k).gates.adminEntry n).2 ∧ ((s.egPort k).gates.adminEntry n).2 ≤ 1000000000) →
    Runs (.gateConfigWrite h p) h 0x0804 s []
      (s.setEgPort k { s.egPort k with
        gates := { (s.egPort k).gates with
          unsyncOpen := p.flags.testBit 1
          pending := some
            { entries := (List.range p.listLen).map (s.egPort k).gates.adminEntry
              cycleTime := p.cycleTime
              base := p.baseS * 1000000000 + p.baseNs }
          change := changeInstant (p.baseS * 1000000000 + p.baseNs) p.cycleTime s.estateNs } })) ∧
  (∀ s h (p : GateConfigWriteP) k, Taken s h 0x0804 true false 24 → s.namesFabric p.port = false → s.egressArg p.port = some k → p.flags ≤ 3 →
    p.baseNs ≤ 999999999 → p.flags.testBit 0 = false →
    Runs (.gateConfigWrite h p) h 0x0804 s []
      (s.setEgPort k { s.egPort k with
        gates := { (s.egPort k).gates with
          unsyncOpen := p.flags.testBit 1
          oper := none
          pending := none
          entry := 0 } })) ∧
  (∀ s h port k, Taken s h 0x0805 false false 4 → s.namesFabric port = false → s.egressArg port = some k →
    Runs (.gateStatus h port) h 0x0805 s
      ([(s.egPort k).gates.oper, (s.egPort k).gates.pending].flatMap (fun c => match c with
          | some c => [(1, 1), (2, c.entries.length), (4, c.cycleTime), (8, c.base)]
          | none => [(1, 0), (2, 0), (4, 0), (8, 0)]) ++
        [(8, (s.egPort k).gates.change)] ++
        (List.range 8).map (fun tc => (4, ((s.egPort k).gates.oper.bind (fun c => c.window tc)).getD 0xFFFFFFFF)) ++
        (List.range 8).map (fun tc => (8, (s.egQueue k tc).oversize)) ++ [(8, (s.egPort k).gates.resync)]) s) ∧
  (∀ s h port clear k, Taken s h 0x0806 (decide (clear = 1)) false 4 → s.egressArg port = some k → clear ≤ 1 →
    Runs (.egressCountersRead h port clear) h 0x0806 s
      ((List.range 8).flatMap (fun tc => [(8, (s.egQueue k tc).sent), (8, (s.egQueue k tc).sentBytes), (8, (s.egQueue k tc).latOver)]))
      (if clear = 1 then forEach (List.range 8) s (fun tc t =>
        t.setEgQueue k tc { t.egQueue k tc with
          sent := 0
          sentBytes := 0
          latOver := 0 }) else s)) ∧
  (∀ s h (p : PolicerWriteP), Taken s h 0x0810 true false 28 → (p.region ≤ 3 ∨ p.region = 0xFF) → p.mode ≤ 2 →
    (p.mode ≠ 0 → 1000 ≤ p.cir ∧ p.cir ≤ 3200000000) → p.cbs ≤ 268435455 → (p.mode = 2 → p.cir ≤ p.pir ∧ p.pir ≤ 3200000000) →
    (p.mode = 1 → p.pir = 0) → p.ebsPbs ≤ 268435455 → p.flags ≤ 7 → -64 ≤ signed 8 p.lenAdj → signed 8 p.lenAdj ≤ 127 → p.yellowAct ≤ 2 →
    p.redAct ≤ 2 → p.markDscp ≤ 127 →
    Runs (.policerWrite h p) h 0x0810 s []
      { s with
        eg.policers := forEach (if p.region = 0xFF then regions else [p.region]) s.eg.policers
          (fun r t => tset t (r * 65536 + p.policer) (writtenPolicer p (s.policer r p.policer) s.time.localNs)) }) ∧
  (∀ s h region policer clear p, Taken s h 0x0811 (decide (clear = 1)) false 4 → region ≤ 3 → clear ≤ 1 →
    p = (s.policer region policer).refill s.time.localNs →
    Runs (.policerRead h region policer clear) h 0x0811 s
      ([ (1, p.mode), (4, p.cir), (4, p.cbs), (4, p.pir), (4, p.ebs), (1, p.flags), (1, twos 8 p.lenAdj), (1, p.yellowAct), (1, p.redAct),
         (1, p.markDscp), (4, p.c / byteTokens), (4, p.e / byteTokens) ] ++ p.counts.map (fun n => (8, n)))
      (if clear = 1 then
        { s with eg.policers := tset s.eg.policers (region * 65536 + policer) { p with counts := List.replicate 7 0 } }
      else s)) ∧
  (∀ s h (p : HwmReadP), Taken s h 0x0820 (decide (p.clear = 1)) false 8 → p.scope ≤ 3 → p.clear ≤ 1 → 1 ≤ p.count → p.count ≤ 64 →
    p.id + p.count ≤ scopeSize p.scope →
    Runs (.hwmRead h p) h 0x0820 s
      (((List.range p.count).map (p.id + ·)).flatMap (fun id =>
        (s.marks p.scope id).flatMap (fun m => [(4, m.1), (6, m.2 / 1000000000), (4, m.2 % 1000000000)])))
      (if p.clear = 1 then forEach ((List.range p.count).map (p.id + ·)) s (fun id t => clearMarks p.scope id t) else s))

/-- The HBM commands run on operands in their ranges (R373 to R375, R393 to R395, R659), and so do the Dvorob Link commands whose settings the boot
flash takes (R310, R316, R328, R329, R605): shares that fit 232 wait for the next period, a retirement begins and completes later, the group setting
and the link ports are written with their settings, and the reads return what they name.
The model's own choices here: log entries 14, 27, 93 and 142. -/
def Obligations.HbmAndFabricCommandsRun : Prop :=
  (∀ s h (p : HbmBudgetWriteP), Taken s h 0x0780 true false 8 → (p.fr = 0 ∨ 16 ≤ p.fr) → (p.fw = 0 ∨ 8 ≤ p.fw) → (p.tm = 0 ∨ 4 ≤ p.tm) →
    (p.tl = 0 ∨ 4 ≤ p.tl) → orDefault p.fr 96 + orDefault p.fw 40 + p.sp + orDefault p.tm 16 + orDefault p.tl 8 ≤ 232 →
    (p.ageLimit = 0 ∨ 128 ≤ p.ageLimit ∧ p.ageLimit ≤ 4096) →
    Runs (.hbmBudgetWrite h p) h 0x0780 s []
      { s with
        hbm.nextShares := [orDefault p.fr 96, orDefault p.fw 40, p.sp, orDefault p.tm 16, orDefault p.tl 8]
        hbm.nextAgeLimit := orDefault p.ageLimit 512 }) ∧
  (∀ s h, Taken s h 0x0781 false false 0 →
    Runs (.hbmBudgetRead h) h 0x0781 s
      (s.hbm.shares.map (fun n => (1, n)) ++ (cutShares s.hbm.shares s.hbm.ceiling).map (fun n => (1, n)) ++
        (List.range 20).flatMap (fun k => [ (8, s.statSum k BudgetStat.charged), (8, s.statSum k BudgetStat.borrowed),
          (8, s.statSum k BudgetStat.lent), (8, s.statSum k BudgetStat.waiting) ]) ++
        regions.map (fun r => (8, s.statSum (5 * r) BudgetStat.refused))) s) ∧
  (∀ s h, Taken s h 0x0782 false false 0 →
    Runs (.hbmStatus h) h 0x0782 s
      ([0, 1].flatMap (fun k => [ (1, (s.stack k).code), (2, twos 16 (s.power.hbmTemp.getD k 0)),
          (1, if s.power.hbmTemp.getD k 0 > 85 then 2 else 1) ]) ++
        [(1, s.hbm.retired.length)] ++ s.hbm.retired.map (fun p => (1, p)) ++
        [(4, (if s.flash.h72 then 73728 else 49152) * s.hbm.retired.length), (4, s.pageLimit)] ++
        (List.range 64).flatMap (fun p => [(8, (s.pc p).correctable), (8, (s.pc p).replays), (8, (s.pc p).uncorrectable)]) ++
        regions.flatMap (fun r => [(8, (tgetD s.flow.regions r {}).recLost), (8, s.leakedIn r)])) s) ∧
  (∀ s h period, Taken s h 0x0783 true false 4 → period ≤ 168 → s.hbmReady = true →
    Runs (.hbmScrubConfig h period) h 0x0783 s [] { s with hbm.scrubPeriod := orDefault period 24 }) ∧
  (∀ s h pc, Taken s h 0x0784 true true 4 → pc ≤ 63 → s.hbmReady = true → s.hbm.retiring = none → s.hbm.retired.length < 8 →
    pc ∉ s.hbm.retired →
    Accepted (.hbmPcRetire h pc) h 0x0784 s [] none { s with hbm.retiring := some (pc, some s.ocf.nextPend) }) ∧
  (∀ s h pc, Taken s h 0x0784 true true 4 → pc ≤ 63 → s.hbmReady = true → s.hbm.retiring = none → s.hbm.retired.length < 8 →
    pc ∈ s.hbm.retired → Accepted (.hbmPcRetire h pc) h 0x0784 s [] (some (0, 0xFFFF, [])) s) ∧
  (∀ s h (p : FabricConfigP), Taken s h 0x0740 true false 12 → p.enable ≤ 1 → p.slot ≤ 31 → (p.directLimit = 0 ∨ 16 ≤ p.directLimit) →
    p.directLimit ≤ 4096 → (p.grantWindow = 0 ∨ 64 ≤ p.grantWindow) → p.grantWindow ≤ 2048 → (p.grantSize = 0 ∨ 16 ≤ p.grantSize) →
    p.grantSize ≤ 1024 → p.robTimeout ≠ 1 → p.robTimeout ≤ 1000 →
    (s.anyFabUp = false ∨ p.slot = s.fab.cfg.slot ∧ p.groupId = s.fab.cfg.groupId) →
    (∀ r ∈ regions, fabUnfit s.buf.cfg (orDefault p.grantWindow 256) s.fab.ports r = false) → p.flashOk = true →
    RunsBy (.fabricConfig h p) h 0x0740 s (fun u =>
      ([], { (if p.enable = 1 then u else forEach (tkeys u.fab.ports) u failPort) with
        fab.cfg := fabCfgOf p
        flash.settings.fabric := some (fabCfgOf p).setting }))) ∧
  (∀ s h (p : FabricLinkWriteP), Taken s h 0x0741 true false 4 → p.group ≤ 31 → p.width ∈ [0, 1, 2, 4, 8] → p.width ≤ s.widthLeft p.group →
    p.rate ≤ 1 → (s.fabPort p.group).up = false → (p.width = 0 ∨ ∀ k ∈ tkeys s.ports.cfg, k / 8 ≠ p.group) →
    (∀ r ∈ regions, fabUnfit s.buf.cfg s.fab.cfg.grantWindow
      (if p.width = 0 then tdel s.fab.ports p.group else tset s.fab.ports p.group { width := p.width, rate := p.rate }) r = false) →
    (tget s.fab.ports p.group).map (fun x => (x.width, x.rate)) ≠ some (p.width, p.rate) → p.flashOk = true →
    Runs (.fabricLinkWrite h p) h 0x0741 s []
      { s with
        flash.settings.fabricLinks :=
          if p.width = 0 then tdel s.flash.settings.fabricLinks p.group else tset s.flash.settings.fabricLinks p.group (p.width, p.rate)
        fab.ports := if p.width = 0 then tdel s.fab.ports p.group else tset s.fab.ports p.group { width := p.width, rate := p.rate } }) ∧
  (∀ s h (p : FabricLinkWriteP), Taken s h 0x0741 true false 4 → p.group ≤ 31 → p.width ∈ [0, 1, 2, 4, 8] → p.width ≤ s.widthLeft p.group →
    p.rate ≤ 1 → (p.width = 0 ∨ ∀ k ∈ tkeys s.ports.cfg, k / 8 ≠ p.group) →
    (∀ r ∈ regions, fabUnfit s.buf.cfg s.fab.cfg.grantWindow
      (if p.width = 0 then tdel s.fab.ports p.group else tset s.fab.ports p.group { width := p.width, rate := p.rate }) r = false) →
    (tget s.fab.ports p.group).map (fun x => (x.width, x.rate)) = some (p.width, p.rate) → p.flashOk = true →
    Runs (.fabricLinkWrite h p) h 0x0741 s []
      { s with
        flash.settings.fabricLinks :=
          if p.width = 0 then tdel s.flash.settings.fabricLinks p.group
          else tset s.flash.settings.fabricLinks p.group (p.width, p.rate) }) ∧
  (∀ s h, Taken s h 0x0742 false false 0 →
    Runs (.fabricStatus h) h 0x0742 s
      (s.fab.ports.flatMap (fun e =>
        [ (1, e.1), (1, e.2.width), (1, e.2.rate), (1, Machine.bit e.2.up), (1, (e.2.neighbour.getD (0xFF, 0xFFFF)).1), (1, 0),
          (2, (e.2.neighbour.getD (0xFF, 0xFFFF)).2), (4, e.2.reach) ]) ++
        [(4, forEach s.reachableSlots 0 (fun k m => setBit m k true))]) s) ∧
  (∀ s h clear, Taken s h 0x0743 (decide (clear = 1)) false 4 → clear ≤ 1 →
    Runs (.fabricCountersRead h clear) h 0x0743 s
      (s.fab.ports.flatMap (fun e => [(1, e.1), (7, 0), (8, e.2.replays), (8, e.2.refusals), (8, e.2.linkDiscard)]) ++
        s.fab.rxStreams.flatMap (fun e =>
          [(2, e.1), (6, 0), (8, e.2.lost), (8, e.2.late), (8, e.2.poisonRecv)]) ++
        s.fab.poisonSent.flatMap (fun e => [(4, e.1), (4, 0), (8, e.2)]) ++ [(8, s.fab.unreach)])
      (if clear = 1 then
        { s with
          fab.ports := s.fab.ports.map (fun e => (e.1, { e.2 with
            replays := 0
            refusals := 0
            linkDiscard := 0 }))
          fab.rxStreams := s.fab.rxStreams.map (fun e => (e.1, { e.2 with
            lost := 0
            late := 0
            poisonRecv := 0 }))
          fab.poisonSent := []
          fab.unreach := 0 }
      else s))

/-! ## System, ports and security (chapters 9 and 10) -/

/-- The system commands run (Table 9-10; R422, R424, R426 to R431, R433, R434, R605): the reads return the identity, status, echo and pending list; a
group is opened under the lowest free number, aborted, or committed with every member applied in order; acknowledged completions leave the pending
list; the two settings are stored in the boot flash too; and SYS_RESET makes a warm reset due.
The model's own choices here: log entries 6, 8, 14 and 105. -/
def Obligations.SystemCommandsRun : Prop :=
  (∀ s h, Taken s h 0x0101 false false 0 →
    Runs (.sysIdentity h) h 0x0101 s
      [ blob s.flash.orderingCode, (1, s.flash.stepping), (1, s.roles.lifecycle.code), (1, s.power.mode.code), (1, 0), (4, s.fwVersion),
        (4, s.ocf.epoch), (2, s.ocf.deviceId), (2, 0), (8, s.flash.serial), (6, s.ocf.stationMac), (2, 0) ] s) ∧
  (∀ s h, Taken s h 0x0102 false false 0 →
    RunsBy (.sysStatus h) h 0x0102 s (fun u =>
      ([ (1, s.power.mode.code), (16, s.boot.ready), (16, s.boot.failed), (8, s.ocf.intakeDropped), (8, s.ocf.segLost),
         (8, s.ocf.noReplyFailed) ] ++ s.ocf.rejected.flatMap (fun e => [(2, e.1), (8, e.2)]) ++
        [(4, u.ocf.windows.length + u.ocf.estateWindows.length)] ++ [0, 1, 2, 3].map (fun r => (8, tgetD u.ocf.floors r 0)), u))) ∧
  (∀ s h, Taken s h 0x0103 false false h.length → h.length ≤ 1024 → Runs (.sysEcho h) h 0x0103 s [blob (fit h.length h.params)] s) ∧
  (∀ s h timeout, Taken s h 0x0104 true false 4 → 10 ≤ timeout → timeout ≤ 60000 → (∀ g ∈ tvals s.ocf.groups, g.sender ≠ h.senderKey) →
    s.ocf.groups.length < 8 →
    Runs (.sysGroupOpen h timeout) h 0x0104 s [(1, s.freeGroup)]
      { s with ocf.groups := tset s.ocf.groups s.freeGroup { sender := h.senderKey, timeout } }) ∧
  (∀ s h g, Taken s h 0x0105 true false 0 → h.group ≠ 0 → tget s.ocf.groups h.group = some g → g.sender = h.senderKey →
    (∀ k : Book, firstBadMember bodyOf 0 g.members ({ s with ocf.groups := tdel s.ocf.groups h.group }.book k) = none) →
    (∀ k : Book, (applyMembers bodyOf 0 g.members ({ s with ocf.groups := tdel s.ocf.groups h.group }.book k)).status = 0) →
    (∀ k : Book, (applyMembers bodyOf 0 g.members ({ s with ocf.groups := tdel s.ocf.groups h.group }.book k)).st.allReached = true) →
    RunsBy (.sysGroupCommit h) h 0x0105 s (fun u =>
      ([], (applyMembers bodyOf 0 g.members { u with ocf.groups := tdel u.ocf.groups h.group }).st))) ∧
  (∀ s h g, Taken s h 0x0106 true false 0 → h.group ≠ 0 → tget s.ocf.groups h.group = some g → g.sender = h.senderKey →
    Runs (.sysGroupAbort h) h 0x0106 s [] { s with ocf.groups := tdel s.ocf.groups h.group }) ∧
  (∀ s h tags, Taken s h 0x0107 true false (2 + 2 * tags.length) → tags ≠ [] → tags.length ≤ 16 →
    Runs (.sysCompletionAck h tags) h 0x0107 s []
      { s with ocf.pend := s.ocf.pend.filter (fun e => !(e.2.sender = h.senderKey && tags.contains e.2.cmd.tag && e.2.sends != 0)) }) ∧
  (∀ s h, Taken s h 0x0108 false false 0 →
    Runs (.sysPendingRead h) h 0x0108 s
      ((s.unacked h.senderKey).flatMap (fun p =>
        [(2, p.opcode), (2, p.cmd.tag), (8, p.cmd.seq), (2, (p.final.map Prod.fst).getD 0x0001)])) s) ∧
  (∀ s h (p : SysIntakeConfigP), Taken s h 0x0109 true false 16 → isGroupMac p.stationMac = false → isGroupMac p.groupMac = true →
    p.replyTc ≤ 7 → p.flashOk = true →
    Runs (.sysIntakeConfig h p) h 0x0109 s []
      { s with
        ocf.stationMac := p.stationMac
        ocf.groupMac := p.groupMac
        ocf.replyTc := p.replyTc
        flash.settings.intake := some (p.stationMac, p.groupMac, p.replyTc) }) ∧
  (∀ s h deviceId, Taken s h 0x010A true false 2 → deviceId < 4096 →
    Runs (.sysDeviceIdWrite h deviceId true) h 0x010A s []
      { s with
        ocf.deviceId := deviceId
        flash.settings.deviceId := some deviceId }) ∧
  (∀ s h, Taken s h 0x010B true false 4 → Runs (.sysReset h 0) h 0x010B s [] { s with boot.resetDue := some 0x03 })

/-- The port and diagnostic commands run on ports of the device and operands in their ranges (Tables 9-13 to 9-16; R13, R435 to R439, R626, R660): a
port takes a mode of Table 9-13, is removed, or is set up or down; the reads return its status and counters; an optics access reads or writes
its module; and the tests run on a port that is down, the memory test and error injection in Service mode.
The model's own choices here: log entries 14, 36, 43 and 125. -/
def Obligations.PortCommandsRun : Prop :=
  (∀ s h (p : PortConfigP) k, Taken s h 0x0201 true false 12 → s.frontArg p.port = some k → p.speed ≠ 0 →
    (p.speed, p.lanes, p.laneRate, p.fec) ∈ portModes → k % p.lanes = 0 → p.flags ≤ 7 → (p.mtu = 0 ∨ 64 ≤ p.mtu) → p.mtu ≤ 16352 →
    s.lanesBusy k p.lanes = false →
    RunsBy (.portConfig h p) h 0x0201 s (fun u =>
      ([], setPort k
        { speed := p.speed
          lanes := p.lanes
          laneRate := p.laneRate
          fec := p.fec
          an := p.flags.testBit 0
          training := p.flags.testBit 1
          adminUp := p.flags.testBit 2
          mtu := orDefault p.mtu 16352 } u))) ∧
  (∀ s h (p : PortConfigP) k, Taken s h 0x0201 true false 12 → s.frontArg p.port = some k → p.speed = 0 → p.flags ≤ 7 →
    s.configured k = true → RunsBy (.portConfig h p) h 0x0201 s (fun u => ([], removePort k u))) ∧
  (∀ s h port k c, Taken s h 0x0202 false false 4 → s.frontArg port = some k → tget s.ports.cfg k = some c → c.speed ≠ 0 →
    Runs (.portStatus h port) h 0x0202 s
      [ (1, Machine.bit (s.ports.up.testBit k)), (1, c.speed), (1, c.lanes), (1, c.laneRate), (1, c.fec), (1, Machine.bit c.an),
        (1, Machine.bit (c.training && !s.ports.up.testBit k && c.adminUp)),
        (1, forEach (List.range c.lanes) 0 (fun l m => setBit m l (s.ports.signal.testBit (k + l)))),
        (8, tgetD s.ports.fecCorrected k 0), (8, tgetD s.ports.fecUncorrected k 0) ] s) ∧
  (∀ s h port clear k, Taken s h 0x0203 (decide (clear = 1)) false 4 → s.counterArg port = some k → clear ≤ 1 →
    Runs (.portCountersRead h port clear) h 0x0203 s (tgetD s.ports.counters k {}).results
      (if clear = 1 then { s with ports.counters := tdel s.ports.counters k } else s)) ∧
  (∀ s h port up k c, Taken s h 0x0204 true false 4 → s.frontArg port = some k → tget s.ports.cfg k = some c → c.speed ≠ 0 → up ≤ 1 →
    RunsBy (.portAdmin h port up) h 0x0204 s (fun u => ([], setPort k { c with adminUp := decide (up = 1) } u))) ∧
  (∀ s h (p : PortOpticsAccessP), Taken s h 0x0205 false false 8 → p.flags = 0 → p.controller ≤ 1 → p.devAddr ≤ 127 → 1 ≤ p.len → p.len ≤ 128 →
    p.ack = true → Runs (.portOpticsAccess h p) h 0x0205 s [blob (fit p.len p.busData)] s) ∧
  (∀ s h (p : PortOpticsAccessP), Taken s h 0x0205 true false (8 + ceilDiv p.len 4 * 4) → p.flags = 1 → p.controller ≤ 1 → p.devAddr ≤ 127 →
    1 ≤ p.len → p.len ≤ 128 → p.ack = true →
    Runs (.portOpticsAccess h p) h 0x0205 s []
      { s with
        out.optics := s.out.optics ++
          [⟨p.controller, p.devAddr, p.bank, p.page, p.offset, fit p.len p.data⟩] }) ∧
  (∀ s h (p : DiagPrbsP) k c, Taken s h 0x0E01 true false 8 → p.pattern ≤ 3 → p.dir ≤ 3 → s.frontArg p.port = some k →
    tget s.ports.cfg k = some c → c.speed ≠ 0 → c.adminUp = false → p.laneMask < 2 ^ c.lanes →
    Runs (.diagPrbs h p) h 0x0E01 s (p.measured.map (fun n => (8, n)))
      { s with ports.prbs := if p.pattern = 0 then tdel s.ports.prbs k else tset s.ports.prbs k (p.pattern, p.dir, p.laneMask) }) ∧
  (∀ s h port mode k c, Taken s h 0x0E02 true false 4 → mode ≤ 3 → (s.power.mode = .full ∨ s.power.mode = .service) →
    s.frontArg port = some k → tget s.ports.cfg k = some c → c.speed ≠ 0 → c.adminUp = false →
    Runs (.diagLoopback h port mode) h 0x0E02 s []
      { s with ports.loopback := if mode = 0 then tdel s.ports.loopback k else tset s.ports.loopback k mode }) ∧
  (∀ s h port lane measured k c, Taken s h 0x0E03 false false 4 → s.frontArg port = some k → tget s.ports.cfg k = some c → c.speed ≠ 0 →
    c.adminUp = false → lane < c.lanes → Runs (.diagEyeScan h port lane measured) h 0x0E03 s (measured.map (fun n => (2, n))) s) ∧
  (∀ s h addr count, Taken s h 0x0E04 false false 6 → addr % 4 = 0 → addr < 0x1000000 → 1 ≤ count → count ≤ 256 →
    RunsBy (.diagRegRead h addr count) h 0x0E04 s (fun u => ((List.range count).map (fun k => (4, u.readBar0 (addr + 4 * k))), u))) ∧
  (∀ s h (p : DiagErrorInjectP), Taken s h 0x0E05 true false 8 → s.power.mode = .service → 1 ≤ p.kind → p.kind ≤ 9 → p.severity ≤ 1 →
    1 ≤ p.count → p.count ≤ 1024 → (p.kind ≤ 7 → p.unit < cellCount p.kind) →
    Runs (.diagErrorInject h p) h 0x0E05 s []
      { s with boot.injected := s.boot.injected ++ [(p.kind, p.unit, p.severity, p.count)] }) ∧
  (∀ s h memory failing, Taken s h 0x0E06 true true 4 → s.power.mode = .service →
    AcceptedBy (.diagMemTest h memory failing) h 0x0E06 s [] (fun u =>
      (some (0, 0xFFFF, failing.map (fun a => (8, a))), wipeMemory (Config.testedMemory memory).toNat u)))

/-- The security and audit commands run for a role and life-cycle state that allow them, with a boot flash and fuses that take the write (R441,
R444 to R446, R450, R451, R453, R455, R459, R460, R605, R655): a key is written under its wrap or cleared, the life cycle moves and a reset falls
due, an image copy is written or made the preferred one, and the audit ring is read, acknowledged and configured.
The model's own choices here: log entries 9, 14, 104, 105 and 110. -/
def Obligations.SecurityCommandsRun : Prop :=
  (∀ s h (p : SecKeyWriteP), Taken s h 0x0B01 true false 36 → slotError h p.role p.keyId s = none → p.flashOk = true →
    Runs (.secKeyWrite h p) h 0x0B01 s [(4, checkValue (s.unwrap h p.role p.keyId p.wrapped))]
      { s with
        roles.keys := tset s.roles.keys (4 * p.role + p.keyId) (s.unwrap h p.role p.keyId p.wrapped)
        flash.keys := tset s.flash.keys (4 * p.role + p.keyId) (s.unwrap h p.role p.keyId p.wrapped) }) ∧
  (∀ s h role keyId, Taken s h 0x0B02 true false 4 → slotError h role keyId s = none →
    ¬(role = 2 ∧ s.roles.lifecycle = .field ∧ s.installerKeys = [4 * role + keyId]) →
    Runs (.secKeyClear h role keyId true) h 0x0B02 s []
      { s with
        roles.keys := tdel s.roles.keys (4 * role + keyId)
        flash.keys := tdel s.flash.keys (4 * role + keyId) }) ∧
  (∀ s h, Taken s h 0x0B03 false false 0 →
    Runs (.secKeyStatus h) h 0x0B03 s
      (((List.range 8).flatMap fun k => match tget s.roles.keys (k + 4) with
        | some key => [(1, 1), (4, checkValue key)]
        | none => [(1, 0), (4, 0)]) ++
        [(1, 1), (4, checkValue s.flash.makerKey)] ++ [1, 2, 3].map (fun r => (8, tgetD s.roles.macFail r 0))) s) ∧
  (∀ s h access, Taken s h 0x0B04 true false 4 → access ≤ 2 →
    Runs (.secHostAccess h access true) h 0x0B04 s []
      { s with
        roles.hostAccess := access
        flash.settings.hostAccess := some access }) ∧
  (∀ s h target t, Taken s h 0x0B05 true false 16 → lifecycleOf target = some t → s.power.mode ≠ .service →
    lifecycleMove s.flash.lifecycle t h.role = true →
    (s.flash.lifecycle = .factory → t = .field → s.flash.fieldEntries < 8) → lifecycleCondition s.flash.lifecycle t s = true →
    Runs (.secLifecycleSet h target s.flash.serial true) h 0x0B05 s []
      { s with
        flash.lifecycle := t
        flash.fieldEntries := if t = .field then s.flash.fieldEntries + 1 else s.flash.fieldEntries
        flash.wipeDone := s.flash.wipeDone && !(decide (t = .returned) || decide (t = .void))
        boot.resetDue := some 0x04 }) ∧
  (∀ s h (p : SecFwWriteP), Taken s h 0x0B06 true false (8 + p.length) → 8 + p.length ≤ (if h.role = 0 then 1048544 else 1048528) →
    p.offset + p.length ≤ 16777216 → p.data.length = p.length → p.flashOk = true →
    Runs (.secFwWrite h p) h 0x0B06 s []
      { s with
        flash.imageA := if s.boot.copyB then memWrite s.flash.imageA p.offset p.data else s.flash.imageA
        flash.imageB := if s.boot.copyB then s.flash.imageB else memWrite s.flash.imageB p.offset p.data }) ∧
  (∀ s h floor, Taken s h 0x0B07 true false 4 → floor ≤ 1 → verifyImage s.flash s.roles.lifecycle (s.image !s.boot.copyB) = 0 →
    Runs (.secFwActivate h floor true) h 0x0B07 s []
      { s with
        flash.preferB := !s.boot.copyB
        flash.rollbackFloor :=
          if floor = 1 then max s.flash.rollbackFloor (imageField (s.image !s.boot.copyB) 8 4) else s.flash.rollbackFloor }) ∧
  (∀ s h, Taken s h 0x0B08 false false 0 →
    Runs (.secFwStatus h) h 0x0B08 s
      ([false, true].flatMap (fun b =>
        [ blob (memRead (s.image b) 0 128), (1, verifyImage s.flash s.roles.lifecycle (s.image b)), (1, Machine.bit (s.flash.preferB = b)) ]) ++
        [(1, Machine.bit s.boot.copyB), (4, s.flash.rollbackFloor), (1, s.flash.revoked)]) s) ∧
  (∀ s h from_ count, Taken s h 0x0B09 false false 12 → 1 ≤ count → count ≤ 64 →
    Runs (.auditRead h from_ count) h 0x0B09 s
      (((s.roles.audit.ring.filter (fun e => from_ ≤ e.entryNo)).take count).map (fun e => blob e.bytes) ++ [(32, s.roles.audit.head)]) s) ∧
  (∀ s h upto, Taken s h 0x0B0A true false 8 → upto ≤ s.roles.audit.last →
    Runs (.auditAck h upto) h 0x0B0A s [] { s with roles.audit.exported := max s.roles.audit.exported upto }) ∧
  (∀ s h hold, Taken s h 0x0B0B true false 4 → hold ≤ 1 →
    Runs (.auditConfig h hold true) h 0x0B0B s []
      { s with
        roles.audit.hold := decide (hold = 1)
        flash.settings.auditHold := some hold })

/-! ## Jobs, power, time, discovery and faults (chapters 12 to 15) -/

/-- The job and engine commands run on operands in their ranges (Tables 12-10 to 12-12; R517, R525, R527, R528, R531, R533, R537 to R540): a host
job takes the lowest free descriptor and its reply carries HANDLE and GEN, a delayed command's frame passes the checks of R413 first, a job
that is not at its end is cancelled, and the class and activity settings wait for the next period.
The model's own choices here: log entries 14, 48, 117, 126 and 128. -/
def Obligations.JobCommandsRun : Prop :=
  (∀ s h (p : JobSubmitP) cmd c k len, Taken s h 0x0D01 true true len → jobLenOk p.jobType len = true → p.priority ≤ 47 → p.energyClass ≤ 7 →
    p.flags ≤ 1 → (p.flags = 1 → p.startNs < 1000000000) → (p.flags = 0 → p.startS = 0) →
    s.startTick p ≤ s.estateNs / 1000 + (2 ^ 47 - 1) → p.bufAddr % 8 = 0 → p.bufLen ≤ 268435456 →
    ((∃ table select cursor, p.jobType = 1 ∧ p.job = .tableDump table select cursor ∧ table ≤ 3 ∧ (table = 0 → select ≤ 63) ∧
        (table = 3 → select ≤ 4095)) ∨
      (∃ count, p.jobType = 2 ∧ p.job = .bulkInsert count ∧ 96 * count ≤ p.bufLen) ∨
      (∃ scope, p.jobType = 3 ∧ p.job = .snapshot scope ∧ scope ≤ 15)) →
    (h.transport = .mailbox c ∨ ∃ a n, h.transport = .dma c a n) → (dropFreed s).freeHandle = some k →
    AcceptedBy (.jobSubmit h p cmd) h 0x0D01 s [(2, k), (2, wrap 16 (tgetD s.eng.gens k 0 + 1))] (fun u =>
      (none, ((submitItem (jobItem p s.ocf.nextPend (wrap 48 (max (s.startTick p) (s.estateNs / 1000)))) u).map Prod.snd).getD u))) ∧
  (∀ s h (p : JobSubmitP) cmd opcode f key k len, Taken s h 0x0D01 true true len → 32 ≤ len → len ≤ 16256 → p.jobType = 4 → p.priority ≤ 47 →
    p.energyClass ≤ 7 → p.flags ≤ 1 → (p.flags = 1 → p.startNs < 1000000000) → (p.flags = 0 → p.startS = 0) →
    s.startTick p ≤ s.estateNs / 1000 + (2 ^ 47 - 1) → p.bufAddr % 8 = 0 → p.bufLen ≤ 268435456 → p.job = .delayed opcode f →
    embeddedGate bodyOf opcode (embedded h f) cmd (recordSeq h s) = .pass key → (dropFreed s).freeHandle = some k →
    AcceptedBy (.jobSubmit h p cmd) h 0x0D01 s [(2, k), (2, wrap 16 (tgetD s.eng.gens k 0 + 1))] (fun u =>
      (none, ((submitItem
        { jobItem p s.ocf.nextPend (wrap 48 (max (s.startTick p) (s.estateNs / 1000))) with
          job := .delayed opcode (embedded h f)
          cmd := some cmd
          frameKey := key } (recordSeq (embedded h f) u)).map Prod.snd).getD u))) ∧
  (∀ s h handle gen i, Taken s h 0x0D02 true false 4 → s.hostJobOf handle gen = some i → i.state ≠ .done → i.state ≠ .cancelled →
    RunsBy (.jobCancel h handle gen) h 0x0D02 s (fun u => ([], cancelItem handle i u))) ∧
  (∀ s h handle gen i, Taken s h 0x0D03 false false 4 → s.hostJobOf handle gen = some i →
    Runs (.jobStatus h handle gen) h 0x0D03 s (i.descriptor handle) s) ∧
  (∀ s h cls cost share, Taken s h 0x0D04 true false 8 → 1 ≤ cls → cls ≤ 7 → 1 ≤ cost → cost ≤ 65535 → share ≤ 1600 →
    minDemand (s.classesWith cls cost share) ≤ s.gFloor → (((s.classesWith cls cost share).drop 1).map Prod.snd).sum ≤ 1600 →
    Runs (.geyserClassWrite h cls cost share) h 0x0D04 s [] { s with eng.nextClasses := s.classesWith cls cost share }) ∧
  (∀ s h activity budget limit, Taken s h 0x0D05 true false 8 → 5 ≤ activity → activity ≤ 15 → 1 ≤ limit → limit ≤ 10000 →
    Runs (.geyserActivityWrite h activity budget limit) h 0x0D05 s []
      { s with eng.nextActivities := s.eng.nextActivities.mapIdx (fun k a => if k = activity then ⟨budget, limit⟩ else a) }) ∧
  (∀ s h, Taken s h 0x0D06 false false 0 →
    Runs (.geyserStatus h) h 0x0D06 s
      ((List.range 64).map (fun p => (4, (tgetD s.eng.ready p []).length)) ++
        [ (4, s.eng.delayed.length), (4, 65536 - (s.eng.items.filter (fun x => !s.itemGone x.2)).length), (8, s.eng.grant),
          (8, twos 64 s.eng.balance), (8, minDemand s.eng.classes), (8, s.gFloor) ] ++
        (List.range 8).flatMap (fun c => [(4, s.eng.use.getD c 0), (8, s.eng.deferrals.getD c 0)]) ++
        (List.range 16).flatMap (fun a => [(4, s.eng.actUse.getD a 0), (8, s.eng.spill.getD a 0), (8, s.eng.overrun.getD a 0)]) ++
        [(8, s.eng.readyCancelled), (8, s.eng.cancelled), (8, s.eng.maskOverride)]) s) ∧
  (∀ s h, Taken s h 0x0D07 false false 0 →
    Runs (.fumStatus h) h 0x0D07 s
      ((List.range 32).flatMap (fun n =>
        [ (1, (s.engineState n).code), (4, (s.engine n).parityRetry), (4, (s.engine n).checks), (1, ((s.engine n).record.getD (0, 0, 0, 0)).1),
          (2, ((s.engine n).record.getD (0, 0, 0, 0)).2.1), (2, ((s.engine n).record.getD (0, 0, 0, 0)).2.2.1),
          (2, ((s.engine n).record.getD (0, 0, 0, 0)).2.2.2) ])) s)

/-- The power commands run on operands in their ranges (Tables 13-10 to 13-12; R543, R553 to R555, R563, R564, R567, R569, R571, R605): a mode
change that Table 13-3 allows begins, the caps, limits, profiles, schedule and wake inputs are written, and PWR_STATUS returns what stands.
The model's own choices here: log entry 14. -/
def Obligations.PowerCommandsRun : Prop :=
  (∀ s h mode profile drain, Taken s h 0x0A01 true false 4 → mode ∈ [1, 3, 4, 5] → profile ≤ 3 → drain ≤ 100 → s.power.mode ≠ .rising →
    s.power.moving = false → s.mayMove mode profile = true → (mode = 1 → s.unfinished = false) →
    RunsBy (.pwrModeSet h mode profile drain) h 0x0A01 s (fun u => ([], beginMove mode profile drain u))) ∧
  (∀ s h cap, Taken s h 0x0A02 true false 4 → s.power.capFloor ≤ cap → cap ≤ s.power.capCeiling →
    Runs (.pwrCapSet h cap true) h 0x0A02 s []
      { s with
        power.opCap := some cap
        flash.settings.pwrCap := some cap }) ∧
  (∀ s h (p : PwrLimitsSetP), Taken s h 0x0A03 true false 8 → 120 ≤ orDefault p.capFloor 200 →
    orDefault p.capFloor 200 ≤ orDefault p.capCeiling 560 → orDefault p.capCeiling 560 ≤ 560 → p.maintPermille ≤ 50 →
    32 ≤ orDefault p.hbmCFloor 64 → orDefault p.hbmCFloor 64 ≤ 232 → 70 ≤ orDefault p.tjWarn 95 → orDefault p.tjWarn 95 ≤ 100 →
    p.shedNotice ≤ 10 →
    (∀ c, s.power.opCap = some c → orDefault p.capFloor 200 ≤ c ∧ c ≤ orDefault p.capCeiling 560) →
    (∀ e ∈ s.power.profiles, ∀ c, e.2.cap = some c → orDefault p.capFloor 200 ≤ c ∧ c ≤ orDefault p.capCeiling 560) →
    s.dMin ≤ orDefault p.capFloor 200 * orDefault p.maintPermille 10 * 100 → p.flashOk = true →
    Runs (.pwrLimitsSet h p) h 0x0A03 s []
      { s with
        power.capFloor := orDefault p.capFloor 200
        power.capCeiling := orDefault p.capCeiling 560
        power.maintPermille := orDefault p.maintPermille 10
        power.hbmCFloor := orDefault p.hbmCFloor 64
        power.tjWarn := orDefault p.tjWarn 95
        power.shedNotice := p.shedNotice
        flash.settings.pwrLimits := some [ orDefault p.capFloor 200, orDefault p.capCeiling 560, orDefault p.maintPermille 10,
          orDefault p.hbmCFloor 64, orDefault p.tjWarn 95, p.shedNotice ] }) ∧
  (∀ s h (p : PwrReducedProfileWriteP), Taken s h 0x0A04 true false 16 → p.profile ≤ 3 →
    ¬(s.power.mode = .reduced ∧ s.power.profile = p.profile) → s.power.capFloor ≤ p.cap → p.cap ≤ s.power.capCeiling →
    parkConflict p.octalPark p.inPark p.egPark s = false →
    Runs (.pwrReducedProfileWrite h p) h 0x0A04 s []
      { s with power.profiles := tset s.power.profiles p.profile ⟨p.stepLimit, some p.cap, p.octalPark, p.inPark, p.egPark⟩ }) ∧
  (∀ s h (p : PwrScheduleWriteP), Taken s h 0x0A05 true false 24 → p.entry ≤ 63 → 1 ≤ p.action → p.action ≤ 4 → (p.action = 2 → p.profile ≤ 3) →
    p.flags ≤ 1 → p.timeNs < 1000000000 → (p.period = 0 ∨ 60 ≤ p.period ∧ p.period ≤ 604800) → (p.action = 3 → p.drain ≤ 100) →
    Runs (.pwrScheduleWrite h p) h 0x0A05 s []
      { s with
        power.schedule := tset s.power.schedule p.entry
          { action := p.action
            profile := p.profile
            en := p.flags.testBit 0
            time := ofSeconds p.timeS p.timeNs
            cap := p.cap
            period := p.period
            drain := p.drain } }) ∧
  (∀ s h inputs, Taken s h 0x0A06 true false 4 → Runs (.pwrWakeConfig h inputs) h 0x0A06 s [] { s with power.wakeInputs := inputs }) ∧
  (∀ s h, Taken s h 0x0A07 false false 0 →
    Runs (.pwrStatus h) h 0x0A07 s
      ([(1, s.power.mode.code), (1, s.power.profile)] ++ regions.map (fun r => (1, s.stepOf r)) ++
        regions.map (fun r => (2, twos 16 ((s.tj r).getD 0))) ++ s.power.sensors.map (fun t => (2, twos 16 t)) ++
        [ (2, s.powerNow), (2, s.capInForce), (4, s.capInForce * s.power.maintPermille * 100),
          (4, s.power.capFloor * s.power.maintPermille * 100), (1, s.power.ceilingC), (1, s.power.hold), (1, s.power.shed),
          (4, s.power.octalParked), (2, s.power.inParked), (2, s.power.egParked) ] ++
        s.power.schedule.flatMap (fun e => [(1, e.1), (1, e.2.action), (1, Machine.bit e.2.en), (6, timeS e.2.time), (4, timeNs e.2.time)]) ++
        [(8, s.power.schedSkipped)] ++ regions.map (fun r => (8, tgetD s.power.dormantDiscard r 0))) s)

/-- The time commands run on operands in their ranges (Tables 14-5, 14-6 and 14-10; R577, R580, R584 to R587, R589, R601): sources are chosen again
after a change, the time is stepped or slewed while no source disciplines it, the PTP settings are written and the best master chosen again, an
output takes its mode and level, and the reads return what stands.
The model's own choices here: log entries 14, 34 and 115. -/
def Obligations.TimeCommandsRun : Prop :=
  (∀ s h (p : TimeSourceConfigP), Taken s h 0x0901 true false 24 → p.phase1 ≤ 2 → p.phase2 ≤ 2 → (p.phase2 = 0 ∨ p.phase2 ≠ p.phase1) →
    p.flags ≤ 1 → -1000000 ≤ signed 32 p.ppsDelay → signed 32 p.ppsDelay ≤ 1000000 → 10 ≤ orDefault p.lockThreshold 100 →
    orDefault p.lockThreshold 100 ≤ 10000 → 100 ≤ orDefault p.stepThreshold 1000 → orDefault p.stepThreshold 1000 ≤ 1000000000 →
    orDefault p.lockThreshold 100 < orDefault p.stepThreshold 1000 → p.holdoverLimit ≤ 86400 → p.slewMax ≤ 500 →
    RunsBy (.timeSourceConfig h p) h 0x0901 s (fun u =>
      ([], refreshFreq (reselect { u with
        time.phase1 := phaseOf p.phase1
        time.phase2 := phaseOf p.phase2
        time.freqEn := p.flags.testBit 0
        time.ppsDelay := signed 32 p.ppsDelay
        time.lockThreshold := orDefault p.lockThreshold 100
        time.stepThreshold := orDefault p.stepThreshold 1000
        time.holdoverLimit := orDefault p.holdoverLimit 14400
        time.slewMax := orDefault p.slewMax 100 })))) ∧
  (∀ s h (p : TimeSetP), Taken s h 0x0902 true false 16 → p.timeNs < 1000000000 → p.flags ≤ 7 → s.time.state ≠ .acquiring →
    s.time.state ≠ .locked →
    RunsBy (.timeSet h p) h 0x0902 s (fun u =>
      let v : State := { u with
        time.utcOffset := signed 16 p.utcOffset
        time.leap61 := p.flags.testBit 0
        time.leap59 := p.flags.testBit 1 }
      let v := if s.time.state = .holdover then setTimeState .freeRun v else v
      ([], if p.flags.testBit 2 then { v with time.slewLeft := ((ofSeconds p.timeS p.timeNs : Int) - v.time.now) * 1000000 }
        else stepTime (ofSeconds p.timeS p.timeNs) v))) ∧
  (∀ s h, Taken s h 0x0903 false false 0 →
    Runs (.timeStatus h) h 0x0903 s
      [ (1, s.time.state.code), (1, s.time.source.code), (1, Machine.bit s.time.ptpValid), (1, Machine.bit s.time.ppsValid),
        (1, Machine.bit s.time.freqValid), (8, twos 64 s.time.lastOffset), (8, twos 64 s.time.freqAdj),
        (8, if s.time.state = .holdover then s.time.localNs - s.time.holdoverSince else 0), (8, s.time.stepCount),
        (8, twos 64 s.time.lastStep), (2, twos 16 s.time.utcOffset), (1, Machine.bit s.time.leap61 + 2 * Machine.bit s.time.leap59) ] s) ∧
  (∀ s h (p : PtpClockConfigP), Taken s h 0x0904 true false 28 → p.type ≤ 4 → p.step ≤ 1 → 2 ≤ p.announceTimeout →
    RunsBy (.ptpClockConfig h p) h 0x0904 s (fun u =>
      ([], bmca { u with
        ptp.type := p.type
        ptp.domain := p.domain
        ptp.priority1 := p.priority1
        ptp.priority2 := p.priority2
        ptp.clockClass := p.clockClass
        ptp.oneStep := decide (p.step = 1)
        ptp.announceTimeout := p.announceTimeout
        ptp.ipv4 := p.ipv4
        ptp.ipv6 := p.ipv6 }))) ∧
  (∀ s h (p : PtpPortConfigP), Taken s h 0x0905 true false 12 → s.isFabricPort p.port = false → s.frontOrMgmt p.port = true → p.ptpMode ≤ 2 →
    p.transport ≤ 2 → p.delay ≤ 1 → -3 ≤ signed 8 p.logAnnounce → signed 8 p.logAnnounce ≤ 4 → -7 ≤ signed 8 p.logSync →
    signed 8 p.logSync ≤ 1 → -7 ≤ signed 8 p.logDelay → signed 8 p.logDelay ≤ 5 →
    RunsBy (.ptpPortConfig h p) h 0x0905 s (fun u =>
      ([], bmca (setPtpPort ((s.localPort p.port).getD p.port)
        { (tgetD s.ptp.ports ((s.localPort p.port).getD p.port) {} : PtpPort) with
          ptpMode := p.ptpMode
          transport := p.transport
          delay := p.delay
          logAnnounce := signed 8 p.logAnnounce
          logSync := signed 8 p.logSync
          logDelay := signed 8 p.logDelay
          asymNs := signed 32 p.asymNs } u)))) ∧
  (∀ s h, Taken s h 0x0906 false false 0 →
    Runs (.ptpStatus h) h 0x0906 s
      ([(1, s.ptp.type), (1, s.ptp.domain)] ++ (s.ownData :: s.ptp.parent.toList).flatMap (fun d =>
          [ (1, d.priority1), (1, d.clockClass), (1, d.accuracy), (2, d.variance), (1, d.priority2), (8, d.identity), (2, d.steps),
            (8, d.sender), (2, d.senderPort) ]) ++
        s.ptp.ports.flatMap (fun e =>
          [ (2, e.1), (1, match e.2.state with
              | .disabled => 3 | .listening => 4 | .master => 6 | .passive => 7 | .uncalibrated => 8 | .slave => 9),
            (8, twos 64 (e.2.meanPathDelay.getD 0)) ]) ++
        [(8, s.ptp.overload), (8, s.ptp.tcUncorrected)]) s) ∧
  (∀ s h (p : TimeOutputWriteP), Taken s h 0x0907 true false 32 → p.output ≤ 8 → p.mode ≤ 4 → (p.mode = 3 → p.group ≤ 63) → p.flags ≤ 1 →
    (p.mode = 2 → p.startNs < 1000000000 ∧ 100 ≤ p.period ∧ p.period ≤ 1000000000000 ∧ 40 ≤ p.width ∧ p.width ≤ p.period - 40) →
    RunsBy (.timeOutputWrite h p) h 0x0907 s (fun u =>
      let o : TimedOutput :=
        { mode := p.mode
          group := p.group
          traceableOnly := p.flags.testBit 0
          start := ofSeconds p.startS p.startNs
          period := p.period
          width := p.width
          level := (tgetD s.time.outputs p.output {} : TimedOutput).level }
      let v : State := { u with time.outputs := tset u.time.outputs p.output o }
      ([], driveOutput p.output (if p.mode = 2 then v.trainLevel o else v.outputLevel o) v))) ∧
  (∀ s h, Taken s h 0x0908 false false 0 →
    Runs (.eventStampRead h) h 0x0908 s
      (s.time.latest.flatMap (fun e => [(1, e.2.input), (1, if e.2.rising then 1 else 2), (6, timeS e.2.time), (4, timeNs e.2.time)])) s)

/-- The discovery and fault commands run on operands in their ranges (Tables 14-10 and 15-11; R594, R595, R597, R600, R601, R614, R615, R625): LLDP,
the domain and an optics slot are configured, a table is read from an index, the fault policy is written, the log and status are read, and a
cell is retired.
The model's own choices here: log entries 14, 116, 123 and 125. -/
def Obligations.DiscoveryAndFaultCommandsRun : Prop :=
  (∀ s h (p : LldpConfigP) k, Taken s h 0x0909 true false (8 + p.systemName.length) → s.isFabricPort p.port = false → s.localPort p.port = some k →
    p.flags ≤ 3 → (p.txInterval = 0 ∨ 5 ≤ p.txInterval) → p.txInterval ≤ 3600 → p.systemName.length ≤ 64 →
    Runs (.lldpConfig h p) h 0x0909 s []
      { s with disc.lldp := tset s.disc.lldp k ⟨p.flags.testBit 0, p.flags.testBit 1, orDefault p.txInterval 30, p.systemName⟩ }) ∧
  (∀ s h table from_ count, Taken s h 0x090A false false 6 → table ≤ 3 → 1 ≤ count → count ≤ 32 →
    Runs (.discoveryRead h table from_ count) h 0x090A s (((discoveryEntries table s).drop from_).take count).flatten s) ∧
  (∀ s h domainId ttl hostless, Taken s h 0x090B true false 10 → (ttl = 0 ∨ 60 ≤ ttl) → ttl ≤ 86400 → hostless ≤ 1 →
    Runs (.domainConfig h domainId ttl hostless) h 0x090B s []
      { s with
        disc.domainId := domainId
        disc.memberTtl := orDefault ttl 900
        disc.hostless := hostless }) ∧
  (∀ s h (p : OpticsSlotWriteP), Taken s h 0x090C true false 8 → p.slot ≤ 63 → p.controller ≤ 1 → p.muxAddr ≤ 127 → p.muxChannel ≤ 7 →
    1 ≤ p.lanes → p.lanes ≤ 8 → p.firstLane + p.lanes ≤ 256 →
    (∀ e ∈ s.disc.optics, e.1 ≠ p.slot → e.2.firstLane + e.2.lanes ≤ p.firstLane ∨ p.firstLane + p.lanes ≤ e.2.firstLane) →
    Runs (.opticsSlotWrite h p) h 0x090C s []
      { s with
        disc.optics := tset s.disc.optics p.slot
          { controller := p.controller
            muxAddr := p.muxAddr
            muxChannel := p.muxChannel
            firstLane := p.firstLane
            lanes := p.lanes } }) ∧
  (∀ s h, Taken s h 0x090D false false 0 →
    Runs (.opticsStatus h) h 0x090D s
      (s.disc.optics.flatMap (fun e =>
        [ (1, e.1), (1, Machine.bit e.2.present), (1, e.2.identifier), (1, e.2.moduleState), blob (fit 32 e.2.vendor),
          (1, Machine.bit e.2.fault) ])) s) ∧
  (∀ s h, Taken s h 0x0C01 false false 0 →
    Runs (.faultStatus h) h 0x0C01 s
      (s.boot.events.flatMap (fun e =>
        [ (1, e.1 / 2 ^ 32), (4, e.1 % 2 ^ 32), (2, s.eventsInWindow e.1),
          (1, Machine.bit (s.boot.retired.contains (e.1 / 2 ^ 32, e.1 % 2 ^ 32))) ]) ++
        s.boot.spares.flatMap (fun e => [(2, e.1), (1, e.2)]) ++
        [(16, s.boot.ready), (16, s.boot.failed), (1, Machine.bit s.boot.prevTrip), (1, s.boot.resetCause), (1, s.mcCount)]) s) ∧
  (∀ s h kind n window, Taken s h 0x0C02 true false 8 → 1 ≤ kind → kind ≤ 7 → n ≠ 0 → 1 ≤ window → window ≤ 86400000 →
    Runs (.faultPolicyWrite h kind n window) h 0x0C02 s [] { s with boot.policy := tset s.boot.policy kind (n, window) }) ∧
  (∀ s h from_ count, Taken s h 0x0C03 false false 4 → 1 ≤ count → count ≤ 64 →
    Runs (.faultLogRead h from_ count) h 0x0C03 s (((s.boot.log.drop from_).take count).flatMap FaultLogEntry.results) s) ∧
  (∀ s h (p : HwRetireP), Taken s h 0x0C04 true true 8 → 1 ≤ p.kind → p.kind ≤ 7 → p.kind ≠ 2 → p.flags ≤ 1 → p.index < cellCount p.kind →
    (p.kind, p.index) ∉ s.boot.retired → s.limitReached p.kind p.index = false → (p.flags = 1 ∨ s.lastUnit p.kind p.index = false) →
    AcceptedBy (.hwRetire h p) h 0x0C04 s [] (fun u => (some (0, 0xFFFF, []), retireCell p.kind p.index p.flashOk u))) ∧
  (∀ s h (p : HwRetireP), Taken s h 0x0C04 true true 8 → p.kind = 2 → p.flags ≤ 1 → p.index ≤ 63 → p.index < cellCount 2 →
    (2, p.index) ∉ s.boot.retired → s.hbmReady = true → s.hbm.retiring = none → s.hbm.retired.length < 8 → p.index ∉ s.hbm.retired →
    Accepted (.hwRetire h p) h 0x0C04 s [] none { s with hbm.retiring := some (p.index, some s.ocf.nextPend) }) ∧
  (∀ s h, Taken s h 0x0C05 true false 0 → (s.roles.lifecycle = .factory ∨ s.roles.lifecycle = .returned) →
    Runs (.faultRecordClear h) h 0x0C05 s [] { s with flash.clearRetired := true })

/-! ## Resets, boot and power (chapters 13 and 15) -/

/-- A power-on reset (R603, R604, R607, R644): each of its causes leaves the state after reset but for what a power-on reset keeps: the boot flash
and fuses, the pins, the life cycle that the fuses hold, a thermal trip as PREV_TRIP (kept while another cause holds the device down, `keepTrip`),
and what has left the device. When the cause goes and no
other one holds, the boot ROM's two domains are powered.
The model's own choices here: log entries 7, 35 and 99. -/
def Obligations.PowerOnResetRows : Prop :=
  let after (s t : State) : Prop := ∃ out cells, t = { State.reset with
    pending := s.pending
    flash := s.flash.afterReset
    out := out
    fab.sent := cells
    ocf.sent := s.ocf.sent
    roles.lifecycle := s.flash.lifecycle
    host.perstHigh := s.host.perstHigh
    boot.prevTrip := s.boot.tripped
    boot.porstHigh := s.boot.porstHigh
    boot.sysrstHigh := s.boot.sysrstHigh
    boot.powerGood := s.boot.powerGood
    boot.sysclk := s.boot.sysclk
    power.toPower := if s.heldDown then [] else State.reset.power.toPower }
  (∀ s, ∃ t, exec .porstNAssert s = .next t ∧ after { keepTrip s with boot.porstHigh := false } t) ∧
  (∀ s input, ∃ t, exec (.powerGoodFall input) s = .next t ∧
    after { keepTrip s with boot.powerGood := setBit s.boot.powerGood input false } t) ∧
  (∀ s, ∃ t, exec .sysclkLoss s = .next t ∧ after { keepTrip s with boot.sysclk := false } t) ∧
  (∀ s, s.boot.porstHigh = false → s.boot.powerGood = 15 → s.boot.sysclk = true → s.boot.sysrstHigh = true →
    exec .porstNRelease s = .next { s with
      boot.porstHigh := true
      power.toPower := [94, 84].filter (fun d => s.domain d != .on) }) ∧
  (∀ s input, s.boot.porstHigh = true → s.boot.sysclk = true → s.boot.sysrstHigh = true → input < 4 → s.boot.powerGood ≠ 15 →
    setBit s.boot.powerGood input true = 15 →
    exec (.powerGoodReturn input) s = .next { s with
      boot.powerGood := 15
      power.toPower := [94, 84].filter (fun d => s.domain d != .on) }) ∧
  (∀ s, s.boot.porstHigh = true → s.boot.powerGood = 15 → s.boot.sysclk = false → s.boot.sysrstHigh = true →
    exec (.powerGoodReturn 4) s = .next { s with
      boot.sysclk := true
      power.toPower := [94, 84].filter (fun d => s.domain d != .on) })

/-- A warm reset (R434, R451, R542, R570, R603, R604, R622, R623): SYSRST_N low for 1 µs or more, the reset that a command or an event has made due,
and the restart from the safe state each leave the tables, queues and units as after reset, and keep the pins, the boot flash, EPOCH, the
audit ring, the time, the fault record, the caps, profiles and schedule, the outbound queues, the interrupt status and the configuration
space. A SYSRST_N pulse below 1 µs changes nothing, and the boot begins when SYSRST_N is high again.
The model's own choices here: log entries 7, 97 and 98. -/
def Obligations.WarmResetRows : Prop :=
  let after (cause : Nat) (s t : State) : Prop := ∃ u out cells, u = firmwareReset (List.range 16) s ∧ t = { State.reset with
    pending := u.pending
    flash := u.flash.afterReset
    host := u.host.afterWarm
    out := out
    fab.sent := cells
    ocf.sent := u.ocf.sent
    ocf.epoch := s.ocf.epoch
    time := { s.time with
      outputs := []
      stamps := []
      evqOvf := 0
      latest := [] }
    roles.audit := { s.roles.audit with hold := false }
    roles.lifecycle := s.flash.lifecycle
    boot.resetCause := cause
    boot.faultRec := s.boot.faultRec
    boot.mcTimes := s.boot.mcTimes
    boot.porstHigh := s.boot.porstHigh
    boot.sysrstHigh := s.boot.sysrstHigh
    boot.powerGood := s.boot.powerGood
    boot.sysclk := s.boot.sysclk
    power.profiles := s.power.profiles
    power.schedule := s.power.schedule
    power.capFloor := s.power.capFloor
    power.capCeiling := s.power.capCeiling
    power.opCap := s.power.opCap
    power.domains := if s.domain 94 = .on then [(94, .on), (95, .on)] else [(95, .on)]
    power.toPower := [] }
  (∀ s ns, 1000 ≤ ns → s.mayWarm = true → ∃ t, exec (.sysrstNAssert ns) s = .next t ∧ after 0x02 { s with boot.sysrstHigh := false } t) ∧
  (∀ s ns, ns < 1000 → exec (.sysrstNAssert ns) s = .next s) ∧
  (∀ s, s.boot.sysrstHigh = false → s.mayWarm = true →
    exec .sysrstNRelease s = .next { s with
      boot.sysrstHigh := true
      power.toPower := [94, 84].filter (fun d => s.domain d != .on) }) ∧
  (∀ s cause, s.boot.resetDue = some cause → s.mayWarm = true → ∃ t, exec (.warmReset cause) s = .next (startBoot t) ∧ after cause s t) ∧
  (∀ s, s.boot.safe = true → s.mayWarm = true → ∃ t, exec .safeStateRestart s = .next (startBoot t) ∧ after 0x07 s t)

/-- The boot (Table 15-3; R415, R452 to R454, R542, R544, R546, R605, R608 to R613): the preferred copy that verifies runs, else the other, else the
device stays in Reset with the reason; firmware starts with the next EPOCH and the settings that the flash keeps; domains ramp one at a
time in the order queued; a function reports ready or fails; and Rising ends in the target mode when all have reported.
The model's own choices here: log entries 9, 97, 100, 101, 102 and 140. -/
def Obligations.BootRows : Prop :=
  (∀ s responds, s.heldDown = false → s.boot.sysrstHigh = true → s.boot.safe = false → s.boot.tripped = false → s.boot.stage = 0 →
    s.power.mode = .reset → s.domain 94 = .on → s.domain 84 = .on → s.copyFails s.flash.preferB responds = 0 →
    exec (.bootImageVerify responds) s = .next { s with
      boot.stage := 1
      boot.copyB := s.flash.preferB
      boot.failReason := 0
      power.mode := .rising }) ∧
  (∀ s responds, s.heldDown = false → s.boot.sysrstHigh = true → s.boot.safe = false → s.boot.tripped = false → s.boot.stage = 0 →
    s.power.mode = .reset → s.domain 94 = .on → s.domain 84 = .on → s.copyFails s.flash.preferB responds ≠ 0 →
    exec (.bootImageVerify responds) s = .next (if s.copyFails (!s.flash.preferB) responds = 0 then
      { s with
        boot.stage := 1
        boot.copyB := !s.flash.preferB
        boot.failReason := s.copyFails s.flash.preferB responds
        power.mode := .rising }
    else
      { s with
        boot.stage := 15
        boot.failReason := s.copyFails s.flash.preferB responds })) ∧
  (∀ s flashOk readBack, s.boot.stage = 1 → s.heldDown = false → s.boot.sysrstHigh = true → s.boot.safe = false →
    ∃ t, exec (.bootFirmwareStart flashOk readBack) s = .next t ∧ t.boot.stage = 2 ∧ t.ocf.epoch = nextEpoch s.ocf.epoch s.flash.epoch ∧
      t.ocf.identityOnly = !flashOk ∧ t.flash.epoch = (if flashOk then nextEpoch s.ocf.epoch s.flash.epoch else s.flash.epoch) ∧
      t.roles.keys = t.flash.keys ∧ t.roles.hostAccess = t.flash.settings.hostAccess.getD 0 ∧
      t.ocf.deviceId = t.flash.settings.deviceId.getD 0 ∧ t.power.opCap = t.flash.settings.pwrCap ∧ t.boot.retired = t.flash.retired ∧
      (s.roles.lifecycle = .factory ∨ s.roles.lifecycle = .field → t.flash.keys = s.flash.keys ∧ t.flash.settings = s.flash.settings)) ∧
  (∀ s d ds, s.heldDown = false → s.boot.sysrstHigh = true → s.boot.safe = false → s.boot.tripped = false →
    (∀ e ∈ s.power.domains, e.2 ≠ .ramping) → s.power.toPower.filter (fun d => !s.unitHeld d) = d :: ds →
    exec .domainPowerUp s = .next (setDomain d .ramping (beginRise { s with power.toPower := ds }))) ∧
  (∀ s d, s.domain d = .ramping → d ≠ 88 → d ≠ 89 →
    exec (.domainPowerGood d) s = .next { s with power.domains := tset s.power.domains d .on }) ∧
  (∀ s d, s.domain d = .ramping → d = 88 ∨ d = 89 →
    exec (.domainPowerGood d) s = .next (startStack (d - 88) { s with power.domains := tset s.power.domains d .on })) ∧
  (∀ s d, s.domain d = .ramping → d ≠ 94 →
    exec (.domainPowerTimeout d) s = .next (failFunction d none { s with power.domains := tset s.power.domains d .off })) ∧
  (∀ s, s.domain 94 = .ramping →
    exec (.domainPowerTimeout 94) s =
      .next (machineCheck 0x05 94 [0x0100005E, 0x03050000] { s with power.domains := tset s.power.domains 94 .off })) ∧
  (∀ s fn, fn < 99 → s.running = true → s.isReady fn = false → s.boot.failed.testBit fn = false → s.unitHeld fn = false →
    s.fnPowered fn = true → s.depsReady fn = true →
    exec (.functionReady fn true) s = .next (resumeTables (raise (512 + fn) { s with boot.ready := setBit s.boot.ready fn true }))) ∧
  (∀ s fn, fn < 99 → s.running = true → s.isReady fn = false → s.boot.failed.testBit fn = false →
    exec (.functionReady fn false) s = .next (failFunction fn none s)) ∧
  (∀ s, s.running = true → s.power.mode = .rising → s.power.waking = false → s.boot.stage = 3 → s.allReported = true →
    exec .risingComplete s = .next (runDeferred s.power.deferredSched (raise 337 { s with
      power.mode := s.power.target
      boot.stage := 4 })))

/-- Caldera (R547 to R552, R556 to R562): a sample that trips leaves the device in Reset without power; one that calls for nothing is recorded; a
DVFS step, a hold, a cap action, the unmet cap, and the end and return of a shedding change what they name.
The model's own choices here: log entries 36, 111 and 113. -/
def Obligations.ThermalRows : Prop :=
  (∀ s sample, s.power.thermtripLow = false → s.power.mode ≠ .reset → s.power.mode ≠ .dormant → (∃ x ∈ sample.sensors, 460 ≤ x) →
    ∃ t, exec (.calderaPeriod sample) s = .next (thermalTrip t) ∧ t.power.sensors = sample.sensors ∧ t.power.hbmTemp = sample.hbm) ∧
  (∀ s sample, s.power.thermtripLow = false → s.power.mode ≠ .reset → s.power.mode ≠ .dormant → (∀ x ∈ sample.sensors, x < 460) →
    ∃ t, exec (.calderaPeriod sample) s = .next t ∧ t.power.sensors = sample.sensors ∧ t.power.hbmTemp = sample.hbm ∧
      t.power.powerHist = (sample.power :: s.power.powerHist).take 10 ∧ t.power.mode = s.power.mode ∧ t.power.domains = s.power.domains) ∧
  (∀ s region k, tget s.power.stepping region = some k → s.stepToward region k ≠ s.stepOf region →
    exec (.dvfsStepComplete region) s = .next (raise (320 + region) { refillCredit region s with
      power.step := tset s.power.step region (s.stepToward region k)
      power.stepping := if s.stepToward region k = k then tdel s.power.stepping region else s.power.stepping })) ∧
  (∀ s region k, tget s.power.stepping region = some k → s.stepToward region k = s.stepOf region →
    exec (.dvfsStepComplete region) s = .next s) ∧
  (∀ s region, 10000 ≤ tgetD s.power.holdClear region 0 →
    exec (.thermalHoldClear region) s = .next { s with power.hold := setBit s.power.hold region false }) ∧
  (∀ s, 100 ≤ s.power.underRun → 10 ≤ s.power.sinceAction → (∀ r ∈ regions, s.goal r ≤ s.fastest r) → s.power.ceilingC < 232 →
    exec .capActionUndo s = .next (setCeiling (min 232 (s.power.ceilingC + 16)) { s with
      power.underRun := 0
      power.sinceAction := 0
      power.capActions := s.power.capActions.drop 1 })) ∧
  (∀ s r, 100 ≤ s.power.underRun → 10 ≤ s.power.sinceAction → r ∈ regions → s.fastest r < s.goal r → s.power.hold.testBit r = false →
    s.power.shed.testBit r = false → (∀ b ∈ regions, adjacent r b = true → s.goal b ≤ s.goal r + 1) →
    (∀ q ∈ regions, s.fastest q < s.goal q → s.power.hold.testBit q = false → s.power.shed.testBit q = false →
      (∀ b ∈ regions, adjacent q b = true → s.goal b ≤ s.goal q + 1) → s.goal q < s.goal r ∨ s.goal q = s.goal r ∧ r ≤ q) →
    exec .capActionUndo s = .next (goStep r (s.goal r - 1) { s with
      power.underRun := 0
      power.sinceAction := 0
      power.capActions := s.power.capActions.drop 1 })) ∧
  (∀ s, 1000 ≤ s.power.overRun → capAction [] s = none → s.capInForce < s.powerNow →
    exec .capUnmet s = .next { s with power.capUnmet := true }) ∧
  (∀ s region, s.power.shed.testBit region = true → s.power.shedDown.testBit region = false →
    exec (.shedNoticeEnd region) s = .next (finishShed region (flushRegion region s))) ∧
  (∀ s region, s.power.shedDown.testBit region = true → s.power.shedFault.testBit region = false → 10000 ≤ tgetD s.power.shedClear region 0 →
    exec (.shedReturn region) s = .next (raise (328 + region) (queuePower ((List.range 8).map (8 * region + ·) ++ pipeDomains region) (emptyTarn region { s with
      power.shed := setBit s.power.shed region false
      power.shedDown := setBit s.power.shedDown region false }))))

/-- Modes (R544, R564 to R573, Tables 13-2, 13-6 and 13-7): a Reduced profile takes force, the schedule acts, waits or skips, the device drains,
flushes and becomes Dormant, holds one management-port OCF whose arrival calls a wake (R410), and wakes for a source that has called it and
rises toward the mode it held.
The model's own choices here: log entries 84, 103 and 113. -/
def Obligations.ModeRows : Prop :=
  (∀ s, s.power.moving = true → s.power.target = .reduced →
    ∃ t, exec .reducedProfileApply s = .next (runDeferred t.power.deferredSched t) ∧ t.power.mode = .reduced ∧
      t.power.profile = s.power.targetProfile ∧ t.power.moving = false ∧
      t.power.octalParked = (tgetD s.power.profiles s.power.targetProfile {}).octalPark ∧
      t.power.inParked = (tgetD s.power.profiles s.power.targetProfile {}).inPark ∧
      t.power.egParked = (tgetD s.power.profiles s.power.targetProfile {}).egPark) ∧
  (∀ s pipe, s.power.inParked.testBit pipe = true → s.power.egParked.testBit pipe = false → s.domain (32 + pipe) = .on →
    s.ingressIdle pipe = true →
    exec (.parkRetentionEntry pipe) s = .next (clearReady [32 + pipe] (setDomain (32 + pipe) .retention s))) ∧
  (∀ s pipe, s.power.inParked.testBit pipe = true → s.power.egParked.testBit pipe = true → s.domain (32 + pipe) = .on →
    s.domain (48 + pipe) = .on → pipe < 16 → s.ingressIdle pipe = true → s.egressIdle pipe = true →
    exec (.parkRetentionEntry pipe) s = .next (clearReady [48 + pipe] (setDomain (48 + pipe) .retention
      (clearReady [32 + pipe] (setDomain (32 + pipe) .retention s))))) ∧
  (∀ s entry e, tget s.power.schedule entry = some e → e.en = true → s.power.mode ∈ [.full, .reduced, .service] → s.power.moving = false →
    exec (.scheduleEntryDue entry) s = .next (actOrSkip e { s with
      power.schedule := tset s.power.schedule entry
        (if e.period = 0 then { e with en := false } else { e with time := nextTime e s.time.now }) })) ∧
  (∀ s entry e, tget s.power.schedule entry = some e → e.en = true → s.power.mode = .rising ∨ s.power.mode = .full ∧ s.power.moving = true →
    exec (.scheduleEntryDue entry) s = .next { s with
      power.schedule := tset s.power.schedule entry
        (if e.period = 0 then { e with en := false } else { e with time := nextTime e s.time.now })
      power.deferredSched := (s.power.deferredSched ++ [entry]).mergeSort }) ∧
  (∀ s, s.power.moving = true → s.power.target = .dormant →
    ∃ t, exec .dormantDrainEnd s = .next t ∧ ∀ d < 64, t.domain d = .off ∧ t.isReady d = false) ∧
  (∀ s, s.power.moving = true → s.power.target = .dormant → s.power.flushed = false → (∀ d < 64, s.domain d = .off) → s.eng.runs = [] →
    s.flowIdle = true → (endItems (forEach regions s flushRegion)).stackAwake = true →
    exec .dormantFlushComplete s = .next { endItems (forEach regions s flushRegion) with power.flushed := true }) ∧
  (∀ s stack, stack < 2 → s.power.moving = true → s.power.target = .dormant → s.power.flushed = true → s.hbmIdle = true →
    s.stack stack = .ready → s.stack (1 - stack) = .ready →
    exec (.selfRefreshEntry stack) s = .next (setStack stack .off { s with hbm.selfRefresh := setBit s.hbm.selfRefresh stack true })) ∧
  (∀ s stack, stack < 2 → s.power.moving = true → s.power.target = .dormant → s.power.flushed = true → s.hbmIdle = true →
    s.stack stack = .ready → s.stack (1 - stack) ≠ .ready →
    ∃ t, exec (.selfRefreshEntry stack) s = .next t ∧ t.hbm.selfRefresh = setBit s.hbm.selfRefresh stack true ∧ t.power.mode = .dormant) ∧
  (∀ s, s.power.moving = true → s.power.target = .dormant → s.power.flushed = false → (∀ d < 64, s.domain d = .off) → s.eng.runs = [] →
    s.flowIdle = true → (endItems (forEach regions s flushRegion)).stackAwake = false →
    ∃ t, exec .dormantFlushComplete s = .next t ∧ t.power.mode = .dormant ∧ t.power.moving = false ∧ t.power.domains = [(95, .on)] ∧
      t.boot.ready = 0 ∧ t.host.linkGen = 0 ∧ t.host.evt.filterClock = false ∧ t.ocf.groups = [] ∧ t.ocf.intake = [] ∧
      (∀ w ∈ t.ocf.windows, w.2.kept = [])) ∧
  (∀ s cause, s.power.mode = .dormant → s.wakeCalled cause = true →
    ∃ t, exec (.wake cause true) s = .next t ∧ t.power.mode = .rising ∧ t.power.waking = true ∧ t.power.wakeCause = cause ∧
      t.power.target = s.power.before.1 ∧ t.boot.stage = 3 ∧ t.boot.resetDue = s.boot.resetDue ∧ ∀ d ∈ [94, 84, 85, 86, 87, 88, 89],
        s.domain d = .on ∨ d ∈ t.power.toPower) ∧
  (∀ s cause, s.power.mode = .dormant → s.wakeCalled cause = true →
    ∃ t, exec (.wake cause false) s = .next t ∧ t.power.mode = .rising ∧ t.boot.resetDue = some 0x06) ∧
  (∀ s, s.power.mode = .rising → s.power.waking = true → s.allReported = true → s.power.deferredSched = [] →
    ∃ t, exec (.wakeComplete true) s = .next t ∧ t.power.mode = s.power.before.1 ∧ t.power.profile = s.power.before.2 ∧
      t.power.waking = false ∧ t.boot.stage = 4 ∧ t.ocf.held = none ∧
      t.ocf.intake = s.ocf.intake ++ (s.ocf.held.map (fun h => ⟨h.1, h.2, 0⟩)).toList) ∧
  (∀ s, s.power.mode = .rising → s.power.waking = true →
    exec (.wakeComplete false) s = .next { s with boot.resetDue := some 0x06 }) ∧
  (∀ s opcode f mac tag, s.power.mode = .dormant → s.ocf.held = none → f.transport = .inband mgmtPort mac tag →
    exec (.dormantOcfHold opcode f) s = .next (callWake 1 { s with ocf.held := some (opcode, f) }))

/-- Faults (R517, R552, R612, R614 to R623, R626, Table 15-9): a chip machine check enters the safe state with its record, the third within an hour
holds it there; a watchdog and a regulator fault are such checks; a cell error counts, and the N-th within W retires the cell; and firmware's
test of a stopped engine retires it or puts it back to work.
The model's own choices here: log entries 3, 50, 123 and 124. -/
def Obligations.FaultRows : Prop :=
  (∀ s cause unit, 1 ≤ cause → cause ≤ 7 → s.boot.porstHigh = true → s.boot.safe = false →
    ∃ t, exec (.chipMachineCheck cause unit) s = .next t ∧ t.boot.safe = true ∧ t.power.mode = .reset ∧ t.boot.ready = 0 ∧
      t.boot.faultRec = faultRecord s cause unit (chainOf cause unit) ∧ t.power.toPower = [] ∧
      t.power.domains = [(95, .on), (94, s.domain 94)] ∧
      (t.boot.heldSafe = true ↔ 2 ≤ (s.boot.mcTimes.filter (fun x => s.time.localNs < x + 3600 * 1000000000)).length)) ∧
  (∀ s cause unit, s.boot.safe = true → exec (.chipMachineCheck cause unit) s = .next s) ∧
  (∀ s, s.running = true → exec .firmwareWatchdog s = .next (machineCheck 0x07 0 [0x03070000] s)) ∧
  (∀ s pair, s.boot.porstHigh = true → s.power.mode ≠ .reset → pair < 4 →
    exec (.regulatorFault pair) s = .next (machineCheck 0x04 pair [0x02000000 + pair, 0x03040000] s)) ∧
  (∀ s kind unit uncorrectable flashOk u, s.running = true → unit < cellCount kind → ¬(kind = 5 ∧ (s.engine unit).state = .stopped) →
    isEvent kind uncorrectable = true → s.boot.injected = [] →
    u = (let v := if kind = 6 then restartItem false unit s else s
      logFault 0 kind unit 0 0 { v with
        boot.events := tset v.boot.events (cellKey kind unit) ((v.time.localNs :: tgetD v.boot.events (cellKey kind unit) []).take 255) }) →
    exec (.hwCellError kind unit uncorrectable flashOk) s = .next (if u.permanent kind unit = false then u
      else if u.frontLane kind unit then raise (640 + unit / 8) u else retireCell kind unit flashOk u)) ∧
  (∀ s kind unit uncorrectable flashOk, s.running = true → unit < cellCount kind → ¬(kind = 5 ∧ (s.engine unit).state = .stopped) →
    isEvent kind uncorrectable = false → s.boot.injected = [] →
    exec (.hwCellError kind unit uncorrectable flashOk) s = .next (logFault 0 kind unit 0 1 s)) ∧
  (∀ s unit flashOk, s.running = true → unit < 32 → (s.engine unit).state = .stopped → (5, unit) ∉ s.boot.retired →
    exec (.hwCellError 5 unit true flashOk) s = .next (retireCell 5 unit flashOk s)) ∧
  (∀ s unit flashOk, s.running = true → unit < 32 → (s.engine unit).state = .stopped → (5, unit) ∉ s.boot.retired →
    exec (.hwCellError 5 unit false flashOk) s = .next (resumeEngine unit s))

/-- Time rows (R576, R579 to R583, R586, R588 to R591): a PPS edge one second after the last one measures the source, one out of range makes it
invalid; the frequency input is valid within 50 ppm; a leap second moves UTC by one; an output edge drives its pin; and PTP messages of
the own domain are handled, at most 64,000 event messages a second.
The model's own choices here: log entries 3, 34, 36, 114, 115 and 143. -/
def Obligations.TimeRows : Prop :=
  (∀ s, exec (.ppsEdge false) s = .next (pushStamp ⟨32, false, false, s.time.now⟩ s)) ∧
  (∀ s, s.time.ppsLast = none →
    ∃ t, exec (.ppsEdge true) s = .next t ∧ t = { pushStamp ⟨32, true, false, s.time.now⟩ s with time.ppsLast := some s.time.now }) ∧
  (∀ s last, s.time.ppsLast = some last → s.time.ppsValid = true → secondTicks - milliTicks ≤ s.time.now - last →
    s.time.now - last ≤ secondTicks + milliTicks →
    exec (.ppsEdge true) s = .next (measure .pps (ppsOffset s.time.now s.time.ppsDelay)
      { pushStamp ⟨32, true, false, s.time.now⟩ s with time.ppsLast := some s.time.now })) ∧
  (∀ s last, s.time.ppsLast = some last → (s.time.now - last < secondTicks - milliTicks ∨ secondTicks + milliTicks < s.time.now - last) →
    ∃ t, exec (.ppsEdge true) s = .next t ∧ t.time.ppsValid = false ∧ t.time.ppsLast = some s.time.now) ∧
  (∀ s, ∃ t, exec .ppsTimeout s = .next t ∧ t.time.ppsValid = false ∧ t.time.ppsLast = none) ∧
  (∀ s hz, 9999500 ≤ hz → hz ≤ 10000500 →
    ∃ t, exec (.freqMeasurement hz) s = .next t ∧ t.time.freqValid = true ∧ t.time.freqMeasured = ((hz : Int) - 10000000) * 6553600) ∧
  (∀ s hz, (hz < 9999500 ∨ 10000500 < hz) → ∃ t, exec (.freqMeasurement hz) s = .next t ∧ t.time.freqValid = false) ∧
  (∀ s, ∃ t, exec .freqInvalid s = .next t ∧ t.time.freqValid = false ∧ (s.time.freqValid = true → t.host.int.status.testBit 389 = true)) ∧
  (∀ s, s.time.ptpValid = true →
    exec .ptpSyncTimeout s = .next (reselect { s with
      time.ptpValid := false
      time.takeover := 0 })) ∧
  (∀ s port p, tget s.ptp.ports port = some p →
    exec (.announceTimeout port) s = .next (bmca (setPtpPort port { p with
      foreign := none
      heard := 0 } s))) ∧
  (∀ s, s.time.state = .holdover →
    ∃ t, exec .holdoverExpire s = .next t ∧ t.time.state = .freeRun ∧ t.host.int.status.testBit 387 = true ∧
      t.host.int.status.testBit 384 = true) ∧
  (∀ s, s.time.leap61 = true →
    exec .leapEvent s = .next (raise 392 { s with
      time.utcOffset := s.time.utcOffset + 1
      time.leap61 := false })) ∧
  (∀ s, s.time.leap61 = false → s.time.leap59 = true →
    exec .leapEvent s = .next (raise 392 { s with
      time.utcOffset := s.time.utcOffset - 1
      time.leap59 := false })) ∧
  (∀ s output (o : TimedOutput), tget s.time.outputs output = some o → o.mode = 2 → o.traceableOnly = false →
    exec (.timedOutputEdge output) s = .next { s with
      time.outputs := tset s.time.outputs output { o with level := !o.level }
      out.edges := s.out.edges ++ [(output, !o.level, s.time.now)] }) ∧
  (∀ s output (o : TimedOutput), tget s.time.outputs output = some o → o.mode ≠ 2 → ¬(output = 7 ∧ s.boot.stage = 15) →
    ∃ t, exec (.timedOutputEdge output) s = .next t ∧ (tgetD t.time.outputs output {}).level = s.outputLevel o) ∧
  (∀ s port p msg, tget s.ptp.ports port = some p → s.running = true → s.isReady 98 = true → s.ptp.type ≠ 0 → p.ptpMode = 1 →
    msgDomain msg ≠ s.ptp.domain →
    exec (.ptpMessageReceive port msg) s = .next { s with ptp.domainMismatch := inc64 s.ptp.domainMismatch }) ∧
  (∀ s port p msg, tget s.ptp.ports port = some p → s.running = true → s.isReady 98 = true → s.ptp.type ≠ 0 → 
    (p.ptpMode = 1 ∧ msgDomain msg = s.ptp.domain ∨ p.ptpMode = 2 ∧ s.ptp.type = 4 ∧ isPeerMsg msg = true) → isEventMsg msg = false →
    exec (.ptpMessageReceive port msg) s = .next (handlePtp port p msg s)) ∧
  (∀ s port p msg, tget s.ptp.ports port = some p → s.running = true → s.isReady 98 = true → s.ptp.type ≠ 0 → 
    (p.ptpMode = 1 ∧ msgDomain msg = s.ptp.domain ∨ p.ptpMode = 2 ∧ s.ptp.type = 4 ∧ isPeerMsg msg = true) → isEventMsg msg = true →
    s.time.localNs - s.ptp.rateStart < 1000000000 →
    exec (.ptpMessageReceive port msg) s = .next (if s.ptp.rate < 64000 then handlePtp port p msg { s with ptp.rate := s.ptp.rate + 1 }
      else { s with ptp.overload := inc64 s.ptp.overload })) ∧
  (∀ s port kind p, tget s.ptp.ports port = some p → s.running = true → s.isReady 98 = true → s.ptp.type ≠ 0 →
    s.ptpTakesPart p kind = true → ptpMaySend s p kind = true →
    exec (.ptpMessageSend port kind) s = .next { originate port 7 (ptpFrame port p kind s) s with
      ptp.ports := tset s.ptp.ports port { p with
        seqId := if (p.askOf kind).isSome = true ∨ kind = 0x8 then p.seqId else wrap 16 (p.seqId + 1)
        delayT3 := if kind = 0x1 then none else p.delayT3 }
      out.ptp := s.out.ptp ++ [⟨port, kind, s.ptp.domain, s.time.now⟩] })

/-- Discovery rows (R594 to R598): an LLDPDU leaves a port that sends them, one that arrives makes, renews or, with TTL 0, ends its neighbour, and a
full table refuses; members and neighbours leave when their TTL ends; and an optics slot follows its module, which three missed polls make
absent.
The model's own choices here: log entries 3, 36 and 116. -/
def Obligations.DiscoveryRows : Prop :=
  (∀ s port, s.running = true → (s.lldp port).tx = true → s.ports.up.testBit port = true →
    exec (.lldpTransmit port) s = .next { s with
      ocf.origin := s.ocf.origin ++ [⟨port, 7, lldpFrame port (4 * (s.lldp port).txInterval) s⟩] }) ∧
  (∀ s port (pdu : LldpPdu), s.running = true → (s.lldp port).rx = true → pdu.ttl ≠ 0 → pdu.member = none →
    s.disc.neighbours.find? (sameNeighbour port pdu.chassis) = none → s.disc.neighbours.length < 1024 →
    (s.disc.neighbours.filter (fun n => n.port = port)).length < 4 →
    exec (.lldpduReceive port pdu) s = .next (raise 401 { s with
      disc.neighbours := s.disc.neighbours ++ [⟨port, pdu.chassis, pdu.portId, pdu.ttl, none, ⟨s.time.now, s.time.now⟩⟩] })) ∧
  (∀ s port (pdu : LldpPdu), s.running = true → (s.lldp port).rx = true → pdu.ttl ≠ 0 → pdu.member = none →
    s.disc.neighbours.find? (sameNeighbour port pdu.chassis) = none →
    (1024 ≤ s.disc.neighbours.length ∨ 4 ≤ (s.disc.neighbours.filter (fun n => n.port = port)).length) →
    exec (.lldpduReceive port pdu) s = .next { s with disc.refused := tinc s.disc.refused 1 }) ∧
  (∀ s port (pdu : LldpPdu), s.running = true → (s.lldp port).rx = true → pdu.ttl = 0 →
    (∃ n ∈ s.disc.neighbours, sameNeighbour port pdu.chassis n = true) →
    exec (.lldpduReceive port pdu) s = .next (raise 401 { s with
      disc.neighbours := s.disc.neighbours.filter (fun n => !sameNeighbour port pdu.chassis n) })) ∧
  (∀ s port chassis, (∃ n ∈ s.disc.neighbours, sameNeighbour port chassis n = true) →
    exec (.lldpTtlExpire port chassis) s = .next (raise 401 { s with
      disc.neighbours := s.disc.neighbours.filter (fun n => !sameNeighbour port chassis n) })) ∧
  (∀ s device m, tget s.disc.members device = some m →
    exec (.memberTtlExpire device) s = .next (raise 402 { s with disc.members := tdel s.disc.members device })) ∧
  (∀ s slot poll o, s.running = true → tget s.disc.optics slot = some o → poll.ack = true → poll.identifier ≠ 0 → o.present = false →
    (poll.cmis = true → poll.moduleState ≠ 5) →
    ∃ t, exec (.opticsPoll slot poll) s = .next t ∧ t.host.int.status.testBit 404 = true ∧
      ∃ p, tget t.disc.optics slot = some p ∧ p.present = true ∧ p.missed = 0 ∧ p.identifier = poll.identifier ∧ p.vendor = poll.vendor ∧
        p.fault = false ∧ p.seen = ⟨s.time.now, s.time.now⟩) ∧
  (∀ s slot poll o, s.running = true → tget s.disc.optics slot = some o → poll.ack = false → o.present = true → o.missed < 2 →
    exec (.opticsPoll slot poll) s = .next { s with disc.optics := tset s.disc.optics slot { o with missed := o.missed + 1 } }) ∧
  (∀ s slot poll o, s.running = true → tget s.disc.optics slot = some o → poll.ack = false → o.present = true → o.missed = 2 →
    ∃ t, exec (.opticsPoll slot poll) s = .next t ∧ tget t.disc.optics slot = some { o with
      present := false
      missed := 0
      readyRequest := false
      fault := false })

/-! ## The host interface (chapter 11) -/

/-- Mailboxes (R466 to R474, R476, R478 to R480): a word enters a channel's inbound queue where it has room, and sets the overflow where it
has none; an outbound word is read in turn, and 0 with an underrun when none stands there; doorbells merge and are taken; the compatibility
buffer is filled, taken whole and acknowledged; and an access of a channel that is not open is refused, counted and raised.
The model's own choices here: log entries 7, 107 and 130. -/
def Obligations.MailboxRows : Prop :=
  (∀ s c word, s.hostReach = true → s.chOpen c = true → (s.chan c).inQ.length < 256 →
    exec (.chInData c word) s = .next (s.setChan c { s.chan c with inQ := (s.chan c).inQ ++ [⟨wrap 32 word, false, (s.chan c).hostGen⟩] })) ∧
  (∀ s c word, s.hostReach = true → s.chOpen c = true → (s.chan c).inQ.length < 256 → (s.chan c).broken = false →
    exec (.chInEom c word) s = .next (s.setChan c { s.chan c with inQ := (s.chan c).inQ ++ [⟨wrap 32 word, true, (s.chan c).hostGen⟩] })) ∧
  (∀ s c word, s.hostReach = true → s.chOpen c = true → 256 ≤ (s.chan c).inQ.length →
    exec (.chInData c word) s = .next (raise (16 + c) (s.setChan c { s.chan c with
      ovf := true
      ovfCount := wrapAdd 32 (s.chan c).ovfCount 1
      broken := true }))) ∧
  (∀ s c word, s.hostReach = true → s.chOpen c = true → 256 ≤ (s.chan c).inQ.length →
    exec (.chInEom c word) s = .next (raise (16 + c) (s.setChan c { s.chan c with
      ovf := true
      ovfCount := wrapAdd 32 (s.chan c).ovfCount 1
      broken := false
      inQ := dropIncomplete (s.chan c).inQ }))) ∧
  (∀ s c word, s.hostReach = true → s.chOpen c = false →
    exec (.chInData c word) s = .next (raise 114 { s with
      host.urBar := 0
      host.urOffset := 0x20000 + 0x1000 * c
      host.urCount := satAdd 32 s.host.urCount 1
      out.urReports := s.out.urReports + 1 })) ∧
  (∀ s c m ms w w' ws, s.hostReach = true → s.chOpen c = true → (s.chan c).outQ = m :: ms → m.words = w :: w' :: ws →
    exec (.chOutData c) s = .next (settleLevels { s with
      host.chan := tset s.host.chan c { s.chan c with outQ := { m with words := w' :: ws } :: ms }
      out.readData := w
      out.readUr := false })) ∧
  (∀ s c m ms w, s.hostReach = true → s.chOpen c = true → (s.chan c).outQ = m :: ms → m.words = [w] →
    exec (.chOutData c) s = .next (settleLevels { s with
      host.chan := tset s.host.chan c { s.chan c with outQ := ms }
      out.readData := w
      out.readUr := false })) ∧
  (∀ s c, s.hostReach = true → s.chOpen c = true → (s.chan c).outQ = [] →
    exec (.chOutData c) s = .next (settleLevels (raise (16 + c) { s with
      host.chan := tset s.host.chan c { s.chan c with underrun := true }
      out.readData := 0
      out.readUr := false }))) ∧
  (∀ s c m ms, s.running = true → s.isReady (84 + c / 4) = true → (s.chan c).waiting = m :: ms → (s.chan c).outCount + m.len ≤ 256 →
    exec (.mbxOutPost c) s = .next (s.setChan c { s.chan c with
      outQ := (s.chan c).outQ ++ [m]
      waiting := ms })) ∧
  (∀ s c, s.hostReach = true → s.chOpen c = true →
    ∃ t, exec (.chCtrlHostReset c) s = .next t ∧ (t.chan c).outQ = [] ∧ (t.chan c).inQ = dropIncomplete (s.chan c).inQ ∧
      (t.chan c).flushCount = wrapAdd 32 (s.chan c).flushCount (s.chan c).outCount ∧ (t.chan c).peerEvent = some (s.chan c).outCount ∧
      t.host.hostEpoch = wrap 16 (s.host.hostEpoch + 1) ∧ ∀ d, d ≠ c → t.chan d = s.chan d) ∧
  (∀ s hi bits, s.hostReach = true → s.barOpen = true →
    exec (.h2dSet hi bits) s = .next { s with host.h2dPend := s.host.h2dPend ||| (wrap 32 bits <<< (if hi then 32 else 0)) }) ∧
  (∀ s d, s.running = true → (16 ≤ d ∨ s.isReady (84 + d / 4) = true) →
    ∃ t, exec (.doorbellTake d) s = .next t ∧ t.host.h2dPend.testBit d = false ∧
      (∀ e, e ≠ d → t.host.h2dPend.testBit e = s.host.h2dPend.testBit e) ∧ t = { s with host.h2dPend := t.host.h2dPend }) ∧
  (∀ s len, s.hostReach = true → s.barOpen = true → s.host.cmb.full = false → len < 128 →
    exec (.cmbCtrlGo len) s = .next { s with
      host.cmb.len := len
      host.cmb.full := true }) ∧
  (∀ s index word, s.hostReach = true → s.barOpen = true → s.host.cmb.full = true → index < 64 →
    exec (.cmbWriteWhileFull index word) s = .next (raise 113 { s with
      host.cmb.data := tset s.host.cmb.data index (wrap 32 word)
      host.cmb.collision := true
      host.cmb.collCount := wrapAdd 32 s.host.cmb.collCount 1 })) ∧
  (∀ s, s.hostReach = true → s.barOpen = true → exec .cmbRspAck s = .next { s with host.cmb.rspValid := false }) ∧
  (∀ s, s.running = true → s.host.cmb.full = true → s.compatIdle = true →
    exec .cmbTake s = .next { s with
      host.cmb.taken := some ((List.range s.host.cmb.len).map (fun k => tgetD s.host.cmb.data k 0))
      host.cmb.full := false })

/-- Interrupts and event inputs (R490 to R501, R586, R587): status bits are cleared, set, claimed and completed; a group sends its message or keeps
it in the PBA (a source set in the clock of its clear stays set, R12); its hold-off ends; an unmasked vector sends what was kept; an edge of an enabled input raises its source and is stamped; and
an input is latched while the filter clock stands.
The model's own choices here: log entries 3, 7 and 106. -/
def Obligations.InterruptRows : Prop :=
  (∀ s g mask sets, s.hostReach = true → g < 64 →
    ∃ t, exec (.intStatusClear g ⟨mask, sets⟩) s = .next t ∧ t = { s with
        host.int.status := t.host.int.status
        host.int.reassert := t.host.int.reassert } ∧
      (∀ n, isLevel n = false → t.host.int.status.testBit n = ((decide (n / 16 = g) && sets.testBit (n % 16) && isSource n) ||
        s.host.int.status.testBit n && !(decide (n / 16 = g) && mask.testBit (n % 16) && !sets.testBit (n % 16)))) ∧
      (∀ n, isLevel n = false → tgetD t.host.int.reassert n 0 = (if n / 16 = g ∧ sets.testBit (n % 16) = true ∧ isSource n = true ∧
        s.host.int.status.testBit n = true then satAdd 8 (tgetD s.host.int.reassert n 0) 1 else tgetD s.host.int.reassert n 0))) ∧
  (∀ s g mask, s.hostReach = true →
    ∃ t, exec (.intSet g mask) s = .next t ∧ (∀ n, t.host.int.status.testBit n =
      (s.host.int.status.testBit n || (decide (n / 16 = g) && mask.testBit (n % 16) && isSource n && !isLevel n))) ∧
      t = { s with
        host.int.status := t.host.int.status
        host.int.reassert := t.host.int.reassert }) ∧
  (∀ s g src, s.hostReach = true → s.serviceOf g = none → (groupSources g).find? s.intPending = some src →
    exec (.intClaim g) s = .next { s with
      host.int.inService := tset s.host.int.inService g ⟨src, isLevel src, true⟩
      host.int.lastClaim := tset s.host.int.lastClaim g src
      out.readData := 2 ^ 31 + src
      out.readUr := false }) ∧
  (∀ s g, s.hostReach = true → s.serviceOf g = none → (∀ src ∈ groupSources g, s.intPending src = false) →
    exec (.intClaim g) s = .next { s with
      host.int.armed := setBit s.host.int.armed g true
      out.readData := 0
      out.readUr := false }) ∧
  (∀ s g v, s.hostReach = true → s.serviceOf g = some v →
    exec (.intClaim g) s = .next { s with
      out.readData := 2 ^ 30 + v.source
      out.readUr := false }) ∧
  (∀ s g v, s.hostReach = true → s.serviceOf g = some v →
    exec (.intComplete g v.source) s = .next { s with
      host.int.armed := setBit s.host.int.armed g true
      host.int.inService := tdel s.host.int.inService g }) ∧
  (∀ s g src, s.hostReach = true → (∀ v, s.serviceOf g = some v → v.source ≠ src) →
    exec (.intComplete g src) s = .next { s with
      host.int.armed := setBit s.host.int.armed g true
      host.int.badComplete := wrapAdd 32 s.host.int.badComplete 1 }) ∧
  (∀ s g, s.groupSends g = true → s.host.linkGen ≠ 0 → s.host.lpm ≤ 1 → (s.groupCfg g).holdoff ≠ 0 →
    (tgetD s.host.msix (s.groupCfg g).vector {}).masked = false →
    exec (.interruptMessageSend g) s = .next { s with
      host.int.armed := setBit s.host.int.armed g false
      host.int.holdoffRun := setBit s.host.int.holdoffRun g true
      host.lpm := 0
      out.messages := s.out.messages ++ [(s.groupCfg g).vector] }) ∧
  (∀ s g, s.groupSends g = true → s.host.linkGen ≠ 0 → s.host.lpm ≤ 1 → (s.groupCfg g).holdoff = 0 →
    (tgetD s.host.msix (s.groupCfg g).vector {}).masked = true →
    exec (.interruptMessageSend g) s = .next { s with
      host.int.armed := setBit s.host.int.armed g false
      host.lpm := 0
      host.pba := setBit s.host.pba (s.groupCfg g).vector true }) ∧
  (∀ s g, s.groupWants g = true → s.host.linkGen ≠ 0 → s.host.lpm ≤ 1 → s.host.dstate = 3 → (s.groupCfg g).wakeEn = true →
    s.host.pmeEn = true → s.host.pmeStatus = false →
    exec (.interruptMessageSend g) s = .next { s with
      host.pmeStatus := true
      out.pme := s.out.pme + 1 }) ∧
  (∀ s g, exec (.holdoffExpire g) s = .next { s with host.int.holdoffRun := setBit s.host.int.holdoffRun g false }) ∧
  (∀ s v, s.hostReach = true → s.host.pba.testBit v = true → s.host.msixEnable = true → s.host.dstate = 0 →
    exec (.msixVectorUnmask v) s = .next { s with
      host.msix := tset s.host.msix v { (tgetD s.host.msix v {} : MsixEntry) with masked := false }
      host.pba := setBit s.host.pba v false
      out.messages := s.out.messages ++ [v] }) ∧
  (∀ s e rising, e < 32 → s.host.evt.filterClock = true → (s.evtCfg e).en = true → (s.evtCfg e).selects rising = true → s.time.stamps.length < 256 →
    ∃ t, exec (.eventInputEdge e rising) s = .next t ∧ t.host.int.status.testBit (288 + e) = true ∧ t.host.evt.level.testBit e = rising ∧
      t.host.evt.async.testBit e = false ∧ t.time.stamps = s.time.stamps ++ [⟨e, rising, false, s.time.now⟩]) ∧
  (∀ s e rising, s.host.evt.filterClock = true → (s.evtCfg e).en = false →
    exec (.eventInputEdge e rising) s = .next { s with host.evt.level := setBit s.host.evt.level e rising }) ∧
  (∀ s e rising, s.host.evt.filterClock = false → (s.evtCfg e).en = true → (s.evtCfg e).asyncEn = true →
    (s.evtCfg e).selects rising = true →
    exec (.eventAsyncLatch e rising) s = .next { s with
      host.evt.latch := setBit s.host.evt.latch e true
      power.wakeReq := if s.power.wakeInputs.testBit e then s.power.wakeReq ++ [(2, s.time.localNs)] else s.power.wakeReq })

/-- Registers (R10, R11, R462, R464, R476, R477, R481, R485, R499, R585, R587, R599): a counter that reads clear returns its value and is zeroed, a time
capture latches the instant, a ring is enabled and its TAIL moved, a register write takes its register's meaning or is ignored, and the PCIe
function resets and changes its link and power state.
What the pins and the PCIe function show of the device: the IDCODE (R647), the JTAG instructions that each life-cycle state opens (R449, Table
10-3), and the PCIe function's identity and limits (R461).
The model's own choices here: log entries 7, 107, 130 and 148.  -/
def Obligations.RegisterRows : Prop :=
  (∀ s, s.hostReach = true → exec .urCountRead s = .next { s with
      host.urCount := 0
      out.readData := s.host.urCount
      out.readUr := false }) ∧
  (∀ s c, s.hostReach = true → s.chOpen c = true → exec (.chOvfCountRead c) s = .next { s with
      host.chan := tset s.host.chan c { s.chan c with ovfCount := 0 }
      out.readData := (s.chan c).ovfCount
      out.readUr := false }) ∧
  (∀ s c, s.hostReach = true → s.chOpen c = true → exec (.chDiscardRead c) s = .next { s with
      host.chan := tset s.host.chan c { s.chan c with discard := 0 }
      out.readData := (s.chan c).discard
      out.readUr := false }) ∧
  (∀ s c, s.hostReach = true → s.chOpen c = true → exec (.chFlushCountRead c) s = .next { s with
      host.chan := tset s.host.chan c { s.chan c with flushCount := 0 }
      out.readData := (s.chan c).flushCount
      out.readUr := false }) ∧
  (∀ s, s.hostReach = true → s.barOpen = true → exec .cmbCollCountRead s = .next { s with
      host.cmb.collCount := 0
      out.readData := s.host.cmb.collCount
      out.readUr := false }) ∧
  (∀ s i, s.hostReach = true → s.barOpen = true → exec (.ringDropRead i) s = .next { s with
      host.rx := tset s.host.rx i { s.ring false i with drop := 0 }
      out.readData := (s.ring false i).drop
      out.readUr := false }) ∧
  (∀ s, s.hostReach = true → exec .badCompleteRead s = .next { s with
      host.int.badComplete := 0
      out.readData := s.host.int.badComplete
      out.readUr := false }) ∧
  (∀ s n, s.hostReach = true → exec (.reassertRead n) s = .next { s with
      host.int.reassert := tdel s.host.int.reassert n
      out.readData := tgetD s.host.int.reassert n 0
      out.readUr := false }) ∧
  (∀ s, s.hostReach = true → s.barOpen = true → exec .evqOvfRead s = .next { s with
      time.evqOvf := 0
      out.readData := s.time.evqOvf
      out.readUr := false }) ∧
  (∀ s, s.hostReach = true → s.barOpen = false → exec .evqOvfRead s = .next { raise 114 { s with
        host.urBar := 0
        host.urOffset := 0x2054
        host.urCount := satAdd 32 s.host.urCount 1 } with out.readUr := true }) ∧
  (∀ s, s.hostReach = true → s.barOpen = true → exec .tcapTimeNsRead s = .next { s with
      time.latched := s.time.now
      time.latchedLocal := s.time.localNs
      out.readData := timeNs s.time.now
      out.readUr := false }) ∧
  (∀ s, s.hostReach = true → s.barOpen = true → exec .tcapCapture s = .next { s with
      time.latched := s.time.now
      time.latchedLocal := s.time.localNs }) ∧
  (∀ s, s.hostReach = true → s.barOpen = true → exec .tcapEvqPop s = .next (settleLevels { s with time.stamps := s.time.stamps.drop 1 })) ∧
  (∀ s tx i, s.hostReach = true → s.barOpen = true → exec (.ringCtrlEn tx i true) s = .next (updatePresence (s.setRing tx i { s.ring tx i with
      en := true
      head := if (s.ring tx i).en then (s.ring tx i).head else 0 }))) ∧
  (∀ s tx i, s.hostReach = true → s.barOpen = true → exec (.ringCtrlEn tx i false) s = .next (updatePresence (s.setRing tx i { s.ring tx i with
      en := false }))) ∧
  (∀ s tx i tail, s.hostReach = true → s.barOpen = true → tail < 2 ^ (s.ring tx i).sizeLog2 →
    exec (.ringTail tx i tail) s = .next (s.setRing tx i { s.ring tx i with tail := tail })) ∧
  (∀ s g w, s.hostReach = true → g < 64 →
    exec (.registerWrite 0 (0x10100 + 4 * g) w) s = .next { s with
      host.int.enable := setField (16 * g + 15) (16 * g) (wrap 32 w) s.host.int.enable }) ∧
  (∀ s off w, s.hostReach = true → s.barOpen = true → off % 4 = 0 → 0x90000 ≤ off → exec (.registerWrite 0 off w) s = .next s) ∧
  (∀ s off w, off % 4 ≠ 0 → exec (.registerWrite 0 off w) s = .next s) ∧
  (∀ s, ∃ t, exec .perstN s = .next t ∧ t.host.perstHigh = false ∧ t.host.linkGen = 0 ∧ t.host.linkWidth = 0 ∧ t.host.busMaster = false ∧
    t.host.msix = [] ∧ t.host.pba = 0 ∧ t.host.int.enable = 0 ∧ t.host.dstate = 0 ∧ t.host.int.armed = 2 ^ 64 - 1) ∧
  (∀ s, s.host.perstHigh = false → s.power.mode ≠ .dormant → exec .perstNRelease s = .next { s with host.perstHigh := true }) ∧
  (∀ s, s.power.mode = .dormant → exec .perstNRelease s = .next { s with
      host.perstHigh := true
      power.wakeReq := s.power.wakeReq ++ [(4, s.time.localNs)] }) ∧
  (∀ s, s.hostReach = true → ∃ t, exec .functionLevelReset s = .next t ∧ t.host.busMaster = false ∧ t.host.msix = [] ∧ t.host.pba = 0 ∧
    t.host.int.enable = 0 ∧ t.host.linkGen = s.host.linkGen ∧ t.host.perstHigh = true) ∧
  (∀ s d bm ms pme, s.hostReach = true → exec (.pciePowerStateChange d bm ms pme) s = .next (updatePresence { s with
      host.dstate := if d = 0 then 0 else 3
      host.busMaster := bm
      host.msixEnable := ms
      host.pmeEn := pme })) ∧
  (∀ s gen width lpm, s.power.mode ≠ .dormant → gen ≠ 0 → exec (.pcieLinkChange gen width lpm) s = .next (updatePresence { s with
      host.linkGen := gen
      host.linkWidth := width
      host.lpm := lpm
      host.wakeLow := s.host.wakeLow && !(decide (lpm = 0)) })) ∧
  (∀ s width lpm, s.power.mode ≠ .dormant → exec (.pcieLinkChange 0 width lpm) s = .next (updatePresence { s with
      host.linkGen := 0
      host.linkWidth := 0
      host.lpm := 0 })) ∧
  (∀ s, s.power.mode = .dormant → exec (.smbusWakeWrite 0x01) s = .next { s with power.wakeReq := s.power.wakeReq ++ [(5, s.time.localNs)] }) ∧
  (∀ s, s.boot.heldSafe = true → s.boot.porstHigh = true → exec (.smbusResetWrite 0xA5) s = .next { s with
      boot.heldSafe := false
      boot.resetDue := some 0x07 }) ∧
  (∀ s, exec .smbusTimeout s = .next { s with boot.smbPointer := none }) ∧
  (∀ s : State, s.flash.stepping < 16 → s.idcode = s.flash.stepping * 2 ^ 28 + 0x09256F35) ∧
  (∀ (s : State) i, s.roles.lifecycle = .factory → s.jtagOpen i = true) ∧
  (∀ (s : State) i, s.roles.lifecycle = .field →
    (s.jtagOpen i = true ↔ i = .bypass ∨ i = .idcode ∨ i = .samplePreload ∨ i = .extest)) ∧
  (∀ (s : State) i, s.roles.lifecycle = .returned → s.flash.wipeDone = true → s.jtagOpen i = true) ∧
  (∀ (s : State) i, s.roles.lifecycle = .void → (s.jtagOpen i = true ↔ i = .bypass ∨ i = .idcode)) ∧
  (∀ s : State, s.pciFunction.vendor = 0x1F9A ∧ s.pciFunction.device = 0x9256 ∧ s.pciFunction.revision = s.flash.stepping ∧
    s.pciFunction.classCode = 0x028000 ∧ s.pciFunction.subsystem = s.flash.subsystem ∧ s.pciFunction.serial = s.flash.serial ∧
    s.pciFunction.maxPayload = 512 ∧ s.pciFunction.maxRequest = 4096 ∧ s.pciFunction.maxRate = 320 ∧ s.pciFunction.lanes = 8 ∧
    s.pciFunction.vectors = 64)

/-- Ingress (R34, R35, R37, R47, R65, R66, R81, R175, R277, R278, R298, R299, R409): a whole frame is charged and waits for a slot, or is discarded and
counted; a faulty one is counted by its fault; a slot runs one pass of the oldest frame of its port; a flow result or its deadline settles the
descriptor that waits for it, and a descriptor that waits for none is released in its port's order.
The model's own choices here: log entries 36, 53 to 60, 66 and 146. -/
def Obligations.IngressRows : Prop :=
  (∀ s port data, s.ingressReady (pipeOfPort port) = true →
    (portKind port = 0 ∧ (tget s.ports.cfg port).isSome = true ∧ s.linkUp port = true ∨ port = mgmtPort) →
    60 ≤ data.length → data.length + 4 ≤ s.mtuOf port → s.ingressFits (regionOfPort port) port (cellsOf data.length) = true →
    exec (.frameArrival port data true) s = .next (await (pipeOfPort port) (s.newFrame port data)
      (addU (s.priorityOf port data).2 port (s.priorityOf port data).1 (cellsOf data.length)
        (chargeIngress (regionOfPort port) port (cellsOf data.length) (countRx port (data.length + 4) s))))) ∧
  (∀ s port data, s.ingressReady (pipeOfPort port) = true →
    (portKind port = 0 ∧ (tget s.ports.cfg port).isSome = true ∧ s.linkUp port = true ∨ port = mgmtPort) →
    60 ≤ data.length → data.length + 4 ≤ s.mtuOf port → s.ingressFits (regionOfPort port) port (cellsOf data.length) = false →
    (s.priorityOf port data).2 = false →
    exec (.frameArrival port data true) s = .next { countRx port (data.length + 4) s with buf.inDiscard := tinc s.buf.inDiscard port }) ∧
  (∀ s port data prio, s.ingressReady (pipeOfPort port) = true →
    (portKind port = 0 ∧ (tget s.ports.cfg port).isSome = true ∧ s.linkUp port = true ∨ port = mgmtPort) →
    60 ≤ data.length → data.length + 4 ≤ s.mtuOf port → s.ingressFits (regionOfPort port) port (cellsOf data.length) = false →
    s.priorityOf port data = (prio, true) → s.headroomFits port prio (cellsOf data.length) = true →
    exec (.frameArrival port data true) s = .next (await (pipeOfPort port) { s.newFrame port data with headroom := true }
      (addU true port prio (cellsOf data.length) (chargeHeadroom port prio (cellsOf data.length) (countRx port (data.length + 4) s))))) ∧
  (∀ s port data prio, s.ingressReady (pipeOfPort port) = true →
    (portKind port = 0 ∧ (tget s.ports.cfg port).isSome = true ∧ s.linkUp port = true ∨ port = mgmtPort) →
    60 ≤ data.length → data.length + 4 ≤ s.mtuOf port → s.ingressFits (regionOfPort port) port (cellsOf data.length) = false →
    s.priorityOf port data = (prio, true) → s.headroomFits port prio (cellsOf data.length) = false →
    exec (.frameArrival port data true) s = .next (raise 205 { countRx port (data.length + 4) s with
      buf.headroomOverrun := tinc s.buf.headroomOverrun port })) ∧
  (∀ s port data fcsOk, s.ingressReady (pipeOfPort port) = true →
    (portKind port = 0 ∧ (tget s.ports.cfg port).isSome = true ∧ s.linkUp port = true ∨ port = mgmtPort) →
    (data.length < 60 ∨ s.mtuOf port < data.length + 4 ∨ fcsOk = false) →
    exec (.frameArrival port data fcsOk) s = .next { s with
      ports.counters := tset s.ports.counters port (let c := tgetD s.ports.counters port {}
        { c with
          fcs := if fcsOk = true then c.fcs else inc64 c.fcs
          undersize := if data.length < 60 then inc64 c.undersize else c.undersize
          oversize := if s.mtuOf port < data.length + 4 then inc64 c.oversize else c.oversize }) }) ∧
  (∀ s port prio, (8 * port + prio) ∈ s.buf.xoff → (s.pfcCfg port).mode = 2 → (s.pfcCfg port).xon ≤ tgetD s.buf.u (8 * port + prio) 0 →
    exec (.pfcRefresh port prio) s = .next { s with
      ports.counters := tset s.ports.counters port { tgetD s.ports.counters port {} with
        txPfc := tinc (tgetD s.ports.counters port {}).txPfc prio }
      out.frames := s.out.frames ++ [{ port := port, data := pauseFrame s 2 prio 65535 }] }) ∧
  (∀ s pipe port f rest, s.ingressReady pipe = true → (s.pipe pipe).nextPort pipe = some port →
    takeFirst (fun g => g.port = port) (s.pipe pipe).wait = some (f, rest) →
    exec (.packetSlotGrant pipe false) s = .next (runPass pipe f false (s.setPipe pipe ({ s.pipe pipe with wait := rest }.took pipe port)))) ∧
  (∀ s pipe port f rest, s.ingressReady pipe = true → (s.pipe pipe).nextPort pipe = some port →
    takeFirst (fun g => g.port = port) (s.pipe pipe).wait = some (f, rest) →
    ∃ u, exec (.packetSlotGrant pipe true) s = .next (raise (128 + pipe) (freeFrame f u)) ∧
      u.cls.exceptions = tinc s.cls.exceptions (64 * f.port + 0x0C) ∧ u.cls.taken = s.cls.taken ∧ u.buf = s.buf ∧ u.fwd = s.fwd) ∧
  (∀ s pipe port f rest k, s.ingressReady pipe = true → (s.pipe pipe).nextPort pipe = some port →
    takeFirst (fun g => g.port = port) (s.pipe pipe).wait = some (f, rest) → (parsePass (s.pipe pipe).active f.start f.data).exc = 0 →
    s.controlMatch f.orig (parsePass (s.pipe pipe).active f.start f.data) f.data = some (k, false) →
    ∃ u, exec (.packetSlotGrant pipe false) s = .next (freeFrame f u) ∧
      u.cls.taken = s.cls.taken ++ [{ port := f.orig, entry := k, data := f.data }] ∧ u.buf = s.buf) ∧
  (∀ s opcode f mac tag port, s.power.mode ≠ .dormant → s.accepts = true → s.ocf.intake.length < 64 → f.transport = .inband port mac tag →
    headerError f = none → f.isDma = false → definedOpcode opcode = true →
    exec (.ocfIntake opcode f) s = .next { s with ocf.intake := s.ocf.intake ++ [⟨opcode, f, 0⟩] }) ∧
  (∀ s opcode f mac tag port, s.power.mode ≠ .dormant → s.accepts = false → f.transport = .inband port mac tag →
    exec (.ocfIntake opcode f) s = .next { s with ocf.intakeDropped := inc64 s.ocf.intakeDropped }) ∧
  (∀ s pipe id d res, s.waitingDesc pipe id = some d → tget (s.pipe pipe).results id = some res →
    exec (.flowResultReturn pipe id) s = .next (settleDesc pipe id (endPass pipe (applyResult d res s).1 (applyResult d res s).2))) ∧
  (∀ s pipe id d t, s.waitingDesc pipe id = some d → tget (s.pipe pipe).results id = none → d.tmpl = some t →
    exec (.flowResultDeadline pipe id) s = .next (settleDesc pipe id (endPass pipe (overloadHere t 1 d (withdraw (.pipe pipe id) s)).1
      (overloadHere t 1 d (withdraw (.pipe pipe id) s)).2))) ∧
  (∀ s pipe port d rest, takeFirst (fun e => e.frame.port = port) (s.pipe pipe).desc = some (d, rest) → d.waiting = false →
    exec (.descriptorRelease pipe port) s =
      .next (dispatchFrame d (issueLearn pipe d (copies (if d.slow.isSome = true then slowAction 0 d.act else d.act) d.frame d.raw
        (s.setPipe pipe { s.pipe pipe with desc := rest }))))) ∧
  (∀ s pipe port d rest, takeFirst (fun e => e.frame.port = port) (s.pipe pipe).desc = some (d, rest) → d.waiting = true →
    exec (.descriptorRelease pipe port) s = .next s) ∧
  (∀ s o rest, s.ocf.origin = o :: rest → s.running = true → s.ingressFits 0 hostPort (cellsOf (padFrame o.data).length) = true →
    exec .originatedFrameEnqueue s = .next (enqueueDirect (s.sysPort o.port) o.tc (padFrame o.data) { s with ocf.origin := rest })) ∧
  (∀ s pipe addr, exec (.tcamScrubVisit pipe addr false) s = .next s) ∧
  (∀ s pipe addr e, tget (s.pipe pipe).tcam addr = some e →
    ∃ t, exec (.tcamScrubVisit pipe addr true) s = .next t ∧ (∀ q a, tget (t.pipe q).tcam a = tget (s.pipe q).tcam a) ∧ t.buf = s.buf)

/-- Learning (R246, R256, R257, R260, R261, R263, R265, R266): the arbiter applies the oldest event (a new source is inserted with its stamp), a flap
window frees its tracker entry, a pin ends, the aging sweep resets an entry that was hit and deletes one at its fourth idle visit, a learning
message carries the oldest records of one receiver, and replaced prefix nodes are freed.
Table updates (R30, R31): an update reaches the regions whose replica is there and leaves what a later one answers; a table command whose
update has not reached every replica takes effect and is answered only when the last replica has it; and a function that becomes ready takes the
tables over and, where it is the last, ends the commands that wait.
The model's own choices here: log entries 3, 15, 16, 17, 137 and 140.  -/
def Obligations.LearningRows : Prop :=
  (∀ s ev rest t, s.fwd.queue = ev :: rest → s.isReady 96 = true → s.macFind ev.fid ev.mac = none →
    insertMac {
        destType := ev.destType, dest := ev.dest, fid := ev.fid, mac := ev.mac, learnDev := s.ocf.deviceId,
        stampS := ev.stamp / 1000000000, stampNs := ev.stamp % 1000000000, unsync := ev.unsync } { s with fwd.queue := rest } = some t →
    t.shares ev.fid = false →
    exec .learnEventApply s = .next (unfilter ev t)) ∧
  (∀ s ev rest k e, s.fwd.queue = ev :: rest → s.isReady 96 = true → s.macFind ev.fid ev.mac = some (k, e) → e.static = true →
    e.destType = ev.destType → e.dest = ev.dest →
    exec .learnEventApply s = .next (unfilter ev { s with fwd.queue := rest })) ∧
  (∀ s fid mac, s.macFind fid mac = none →
    exec (.flapWindowExpire fid mac) s = .next { s with fwd.tracker := tdel s.fwd.tracker (trackKey fid mac) }) ∧
  (∀ s fid mac k e, s.macFind fid mac = some (k, e) → e.pinned = false →
    exec (.flapWindowExpire fid mac) s = .next { s with fwd.tracker := tdel s.fwd.tracker (trackKey fid mac) }) ∧
  (∀ s fid mac k e, s.macFind fid mac = some (k, e) → e.pinned = true → exec (.flapWindowExpire fid mac) s = .next s) ∧
  (∀ s fid mac k e, s.macFind fid mac = some (k, e) → e.pinned = true →
    exec (.pinHoldExpire fid mac) s = .next { putMac k { e with pinned := false } s with fwd.tracker := tdel s.fwd.tracker (trackKey fid mac) }) ∧
  (∀ s position e, s.fwd.queue = [] → tget s.fwd.mac position = some e → e.static = true → exec (.macAgingVisit position) s = .next s) ∧
  (∀ s position e, s.fwd.queue = [] → tget s.fwd.mac position = some e → e.static = false → e.hit = 0 → e.ageCnt < 3 →
    exec (.macAgingVisit position) s = .next (putMac position { e with ageCnt := e.ageCnt + 1 } s)) ∧
  (∀ s position e, s.fwd.queue = [] → tget s.fwd.mac position = some e → e.static = false → e.hit ≠ 0 → s.shares e.fid = false →
    exec (.macAgingVisit position) s = .next (putMac position { e with hit := 0, ageCnt := 0 } s)) ∧
  (∀ s position e, s.fwd.queue = [] → tget s.fwd.mac position = some e → e.static = false → e.pinned = false → e.hit = 0 → 3 ≤ e.ageCnt →
    s.shares e.fid = false →
    exec (.macAgingVisit position) s = .next { beginUpdate s with fwd.mac := tdel s.fwd.mac position }) ∧
  (∀ s dest r more, nextBatch s.fwd.outbox = (dest, r) :: more → s.fwd.exchanged = true → s.fab.cfg.enable = false → s.fwd.sharePorts = [] →
    exec .learnMessageSend s = .next { s with
      fwd.outbox := s.fwd.outbox.drop (1 + more.length)
      fwd.msgSeq := wrap 32 (s.fwd.msgSeq + 1)
      fwd.lastSeq := max s.estateNs (s.fwd.lastSeq + 1) }) ∧
  (∀ s r port, s.fwd.outbox = [(none, r)] → s.fwd.exchanged = true → s.fab.cfg.enable = false → s.fwd.sharePorts = [port] →
    ∃ m : LearnMessageP, m.records = [r] ∧ m.senderDev = s.ocf.deviceId ∧ m.group = s.fwd.learnGroup ∧ m.msgSeq = s.fwd.msgSeq ∧
      exec .learnMessageSend s = .next (originate ((s.ofSysPort port).getD port) s.fwd.shareTc
        (inbandFrame s.ocf.stationMac s.ocf.groupMac none (learnFrame m (max s.estateNs (s.fwd.lastSeq + 1)) s)) { s with
          fwd.outbox := []
          fwd.msgSeq := wrap 32 (s.fwd.msgSeq + 1)
          fwd.lastSeq := max s.estateNs (s.fwd.lastSeq + 1) })) ∧
  (∀ s old rest, s.fwd.trie.replaced = old :: rest → exec .lpmNodeFree s = .next { s with
      fwd.trie.nodes := s.fwd.trie.nodes.filter (fun e => !old.contains e.1)
      fwd.trie.replaced := rest }) ∧
  (∀ s, s.fwd.trie.replaced = [] → exec .lpmNodeFree s = .next s) ∧
  (∀ s r k (e : MacEntry), r ∈ regions → s.reaches r = false → (putMac k e s).replica r = s.replica r) ∧
  (∀ s r k (e : HostEntry), r ∈ regions → s.reaches r = false → (putHost k e s).replica r = s.replica r) ∧
  (∀ s r k (e : MacEntry), s.reaches r = true → tget s.fwd.behind r = none → ((putMac k e s).replica r).mac = tset s.fwd.mac k e) ∧
  (∀ s r k (e : HostEntry), s.reaches r = true → tget s.fwd.behind r = none → ((putHost k e s).replica r).host = tset s.fwd.host k e) ∧
  (∀ c s h b, frameOf c = some (h, b) → Taken s h b.opcode true false h.length → b.changes = true → b.pending = false → b.toFactory = false →
    tableOpcode b.opcode = true →
    (∀ k : Book, ownError h b (s.book k) (s.book k) = none ∧ (b.apply (s.book k)).waits = none ∧ (b.apply (s.book k)).st.allReached = false) →
    ∃ (k : Book) (key : Option Bytes) (gen : Nat), k.sent = s.ocf.sent ∧
      exec c s = .next (let a := b.apply (s.book k)
        { a.st with ocf.tableWaits := a.st.ocf.tableWaits ++ [⟨b.opcode, h, key, gen, true, a.status, a.detail, a.results, none⟩] })) ∧
  (∀ s, s.allReached = false → resumeTables s = { s with fwd.behind := s.fwd.behind.filter (fun e => !s.reaches e.1) }) ∧
  (∀ s w, s.allReached = true → s.ocf.tableWaits = [w] → (∀ e ∈ s.fwd.behind, e.1 ≤ 3) →
    resumeTables s = endTableWait w { s with
      fwd.behind := []
      ocf.tableWaits := [] })

/-- Egress (R27, R280, R285, R301 to R307, R331, R332, R343, R355, R357): one decision serves one eligible port, granted cells cross within the
pipeline's credits, a sent frame is counted and releases its cells, a multicast head is replicated, a shaper comes out of its wheel, a gate
list takes the entry of this instant or the pending list, received pause stops and starts its traffic classes, and a link goes down into hold,
comes up out of it, or lingers to its end.
The model's own choices here: log entries 19, 22, 24, 28, 31, 32 and 141. -/
def Obligations.EgressRows : Prop :=
  (∀ s pipe t ts, (s.egPipe pipe).granted = t :: ts → s.crossedCells pipe + t.frame.cells ≤ 69 + Config.egressCredits →
    exec (.crossbarGrant pipe) s = .next (startHead t.port ((s.setEgPipe pipe { s.egPipe pipe with granted := ts }).setEgPort t.port
      { s.egPort t.port with tx := (s.egPort t.port).tx ++ [t] }))) ∧
  (∀ s pipe t ts, (s.egPipe pipe).granted = t :: ts → 69 + Config.egressCredits < s.crossedCells pipe + t.frame.cells →
    exec (.crossbarGrant pipe) s = .next s) ∧
  (∀ s pipe u port tc, s.isReady (48 + pipe) = true → u = forEach (s.egressPorts pipe) s (fun p s => noteQueues p (trimPort p s)) →
    ((s.egressPorts pipe).filter (· > (u.egPipe pipe).turn) ++ (s.egressPorts pipe).filter (· ≤ (u.egPipe pipe).turn)).find? u.portEligible =
      some port →
    u.choice port = some tc →
    exec (.egressDecision pipe) s = .next (noteQueues port ((serve port tc u).setEgPipe pipe { (serve port tc u).egPipe pipe with
      turn := port }))) ∧
  (∀ s pipe tc i k f, s.isReady (48 + pipe) = true → tc < 8 →
    (∀ tc', tc < tc' → tc' < 8 → nextTurn 132 (tgetD (s.egPipe pipe).replTurn tc' 131 + 1) (s.replReady pipe tc') = none) →
    nextTurn 132 (tgetD (s.egPipe pipe).replTurn tc 131 + 1) (s.replReady pipe tc) = some i → s.replHead pipe tc i = some (k, f) →
    exec (.replicationTake pipe) s = .next (takeCopy pipe tc k f (s.setEgPipe pipe { s.egPipe pipe with
      replTurn := tset (s.egPipe pipe).replTurn tc i }))) ∧
  (∀ s w pipe tc i, s.isReady (48 + pipe) = true → tc < 8 →
    (∀ tc', tc < tc' → tc' < 8 → nextTurn 132 (tgetD (s.egPipe pipe).replTurn tc' 131 + 1) (s.replReady pipe tc') = none) →
    nextTurn 132 (tgetD (s.egPipe pipe).replTurn tc 131 + 1) (s.replReady pipe tc) = some i →
    w = s.setEgPipe pipe { s.egPipe pipe with replTurn := tset (s.egPipe pipe).replTurn tc i } → w.replHead pipe tc i = none →
    exec (.replicationTake pipe) s = .next (grantRemote pipe (w.replRemote pipe tc i) (w.grantable pipe (w.replRemote pipe tc i)) w)) ∧
  (∀ s port t ts, (s.egPort port).tx = t :: ts → port ≠ hostPort → s.linkUp port = true → t.started = true →
    ∃ u, exec (.frameTransmitComplete port) s = .next (startHead port (releaseTx t u)) ∧
      u.out.frames = s.out.frames ++ [{ port := port, data := (stampPtp t s).1 }] ∧ (u.egPort port).tx = ts ∧ u.buf = s.buf ∧ u.fwd = s.fwd ∧
      u.flow = s.flow) ∧
  (∀ s port t ts, (s.egPort port).tx = t :: ts → port ≠ hostPort → s.linkUp port = true → t.started = false →
    exec (.frameTransmitComplete port) s = .next (startHead port s)) ∧
  (∀ s pipe coarse slot,
    exec (.shaperSlotDue pipe coarse slot) s = .next { s with
      eg.ports := s.eg.ports.map (fun e =>
        (e.1, if pipeOfPort e.1 = pipe then { e.2 with shaper := e.2.shaper.map (Shaper.due coarse slot s.time.localNs) } else e.2))
      eg.queues := s.eg.queues.map (fun e =>
        (e.1, if pipeOfPort (e.1 / 8) = pipe then { e.2 with shaper := e.2.shaper.map (Shaper.due coarse slot s.time.localNs) } else e.2)) }) ∧
  (∀ s port c, (s.egPort port).gates.oper = some c →
    exec (.gateTransition port) s = .next (startHead port (s.setEgPort port { s.egPort port with
      gates := { (s.egPort port).gates with entry := c.entryNow (s.portNs port) } }))) ∧
  (∀ s port, (s.egPort port).gates.oper = none → exec (.gateTransition port) s = .next s) ∧
  (∀ s port c, (s.egPort port).gates.pending = some c →
    exec (.gateChangeInstant port) s = .next (startHead port (trimPort port (raise 246 (s.setEgPort port { s.egPort port with
      gates := { (s.egPort port).gates with
        oper := some c
        pending := none
        entry := 0 } }))))) ∧
  (∀ s port quanta, s.linkUp port = true → (s.pfcCfg port).mode = 1 →
    ∃ t, exec (.pauseFrameReceive port false 0 quanta) s = .next t ∧
      (∀ tc < 8, ((t.egQueue port tc).paused.isSome = true ↔ quanta.headD 0 ≠ 0)) ∧
      (tgetD t.ports.counters port {}).rxPause = inc64 (tgetD s.ports.counters port {}).rxPause) ∧
  (∀ s port enable quanta, s.linkUp port = true → (s.pfcCfg port).mode = 2 →
    ∃ t, exec (.pauseFrameReceive port true enable quanta) s = .next t ∧
      ∀ tc < 8, (if enable.testBit tc then ((t.egQueue port tc).paused.isSome = true ↔ quanta.getD tc 0 ≠ 0)
        else (t.egQueue port tc).paused = (s.egQueue port tc).paused)) ∧
  (∀ s port tc, exec (.pauseExpire port tc) s = .next (s.setEgQueue port tc { s.egQueue port tc with
      paused := none
      watchdog := false })) ∧
  (∀ s port tc, (s.egQueue port tc).paused.isSome = true → (s.pfcCfg port).watchdog ≠ 0 →
    ∃ t, exec (.pfcWatchdogExpire port tc) s = .next (raise 204 t) ∧ (t.egQueue port tc).watchdog = true ∧ (t.egQueue port tc).repl = [] ∧
      (t.egQueue port tc).fabric = []) ∧
  (∀ s port tc, ((s.egQueue port tc).paused = none ∨ (s.pfcCfg port).watchdog = 0) → exec (.pfcWatchdogExpire port tc) s = .next s) ∧
  (∀ s port c, tget s.ports.cfg port = some c → s.ports.up.testBit port = true →
    ∃ t, exec (.linkDown port) s = .next t ∧ t = linkDown port (setSignal port c false s) ∧ t.ports.up.testBit port = false ∧
      s.sysPort port ∈ t.buf.hold) ∧
  (∀ s port c, tget s.ports.cfg port = some c → s.mayTrain port c = true → s.ports.up.testBit port = false →
    exec (.linkUp port) s = .next (sendPortState port true { setSignal port c true s with
      ports.up := setBit s.ports.up port true
      buf.hold := s.buf.hold.erase (s.sysPort port) })) ∧
  (∀ s f, s.buf.hold.contains f = true → exec (.lingerExpire f) s = .next (endLinger f s)) ∧
  (∀ s f, s.buf.hold.contains f = true → s.voqsOfPort f = [] → s.ofSysPort f = none → s.fab.downSlots.contains (f / 256) = false →
    exec (.lingerExpire f) s = .next (raise 206 { s with buf.hold := s.buf.hold.erase f })) ∧
  (∀ s f, s.buf.hold.contains f = false → exec (.lingerExpire f) s = .next s) ∧
  (∀ s w region voq k g u q, k = voqKey region voq → w = enterSpill k s → q = w.voq k → q.spill = true → 16 ≤ q.tail →
    q.pages.length < min (w.voqProfile k).spillMax w.pageLimit → w.hbmReady = true → w.refillWaits region = false →
    w.freePage region w.pageLimit = some g → charge region clsSP 128 w = some u →
    ∃ t v, exec (.spillPageWrite region voq) s = .next t ∧
      v = forEach (placed (cellSum q.frames - q.tail) (cellSum q.frames - q.tail + 16) q.frames) { u with
          hbm.mem := memWrite u.hbm.mem (hbmAddr region (pageAddr g)) (pageBytes (cellSum q.frames - q.tail) q.frames)
          hbm.poison := u.hbm.poison.filter (fun b => b / 128 != hbmAddr region (pageAddr g) / 4096) }
        (fun e s => moveOff k e.1 e.2 s) ∧
      t.buf.voqs = (v.setVoq k { v.voq k with pages := (v.voq k).pages ++ [(g, 16)] }).buf.voqs ∧
      t.buf.pages = (region * 2 ^ 22 + g) :: v.buf.pages ∧
      t.hbm.mem = memWrite u.hbm.mem (hbmAddr region (pageAddr g)) (pageBytes (cellSum q.frames - q.tail) q.frames)) ∧
  (∀ s region voq k ecc ecc' u v q g n gs, k = voqKey region voq → s.wantsRefill k = true → s.hbmReady = true →
    charge region clsSP 128 s = some u → q = u.voq k → q.pages = (g, n) :: gs → pageEcc region g ecc u = (ecc', v) → ecc' ≠ .uncorrectable →
    exec (.spillPageRefill region voq ecc) s = .next (
      let w : State := { v.setVoq k { q with pages := gs } with buf.pages := v.buf.pages.erase (region * 2 ^ 22 + g) }
      let a := forEach (placed q.head (q.head + n) q.frames) w (fun e s => moveOn k e.1 e.2 s)
      let b := a.setVoq k { a.voq k with
        head := q.head + n
        frames := refit q.head ((memRead w.hbm.mem (hbmAddr region (pageAddr g)) 4096).drop (256 * (16 - n))) 0 q.frames }
      if (b.voq k).pages = [] then b.setVoq k { b.voq k with
        spill := false
        head := 0 } else b)) ∧
  (∀ s region voq k ecc u v q g n gs, k = voqKey region voq → s.wantsRefill k = true → s.hbmReady = true →
    charge region clsSP 128 s = some u → q = u.voq k → q.pages = (g, n) :: gs → pageEcc region g ecc u = (.uncorrectable, v) →
    exec (.spillPageRefill region voq ecc) s = .next (
      let b := loseFrames k n { v.setVoq k { q with pages := gs } with buf.pages := v.buf.pages.erase (region * 2 ^ 22 + g) }
      if (b.voq k).pages = [] then b.setVoq k { b.voq k with
        spill := false
        head := 0 } else b))

/-- Flow engines (R122, R136, R140, R145, R150, R157, R184, R392): the first operation whose locks are free is accepted and the hit or miss counted, a
clean way with an uncorrectable error is dropped, a deferred operation runs or expires, an idle entry is written back, the oldest log entry is
replayed within its budget or lost with its burst (R392), and the aging sweep visits a bucket or an overflow entry.
The model's own choices here: log entries 10, 11, 68, 73, 75, 86 and 136. -/
def Obligations.FlowEngineRows : Prop :=
  (∀ s r ecc op rest p, s.flowReady r = true → (s.region r).sinceDeferred < 15 → pickOp s (s.heldLocks r) (s.region r).queue = some (op, rest) →
    s.partition op.partition = some p → s.inTarn r (p.place (reqKey op.req)).set op.partition (reqKey op.req) = none →
    exec (.flowOpAccept r ecc) s = .next (runOp r op (s.setRegion r { s.region r with
      queue := rest
      sinceDeferred := if op.req.deferred then 0 else min 15 ((s.region r).sinceDeferred + 1)
      misses := inc64 (s.region r).misses }))) ∧
  (∀ s r op rest p w, s.flowReady r = true → (s.region r).sinceDeferred < 15 → pickOp s (s.heldLocks r) (s.region r).queue = some (op, rest) →
    s.partition op.partition = some p → s.inTarn r (p.place (reqKey op.req)).set op.partition (reqKey op.req) = some w →
    exec (.flowOpAccept r .clean) s = .next (runOp r op (s.setRegion r { s.region r with
      queue := rest
      sinceDeferred := if op.req.deferred then 0 else min 15 ((s.region r).sinceDeferred + 1)
      hits := inc64 (s.region r).hits }))) ∧
  (∀ s r op rest p w t, s.flowReady r = true → (s.region r).sinceDeferred < 15 → pickOp s (s.heldLocks r) (s.region r).queue = some (op, rest) →
    s.partition op.partition = some p → s.inTarn r (p.place (reqKey op.req)).set op.partition (reqKey op.req) = some (w, t) →
    t.dirty = false → t.pin = false →
    ∃ u, exec (.flowOpAccept r .uncorrectable) s = .next (runOp r op u) ∧ u.hbm = s.hbm ∧ (u.region r).queue = rest ∧
      tget (u.tarnSet r (p.place (reqKey op.req)).set).ways w = none) ∧
  (∀ s r ecc, s.flowReady r = true → (s.region r).sinceDeferred < 15 → pickOp s (s.heldLocks r) (s.region r).queue = none →
    exec (.flowOpAccept r ecc) s = .next s) ∧
  (∀ s r d ds t, s.flowReady r = true → (s.region r).deferred = d :: ds → s.template d.req.template = some t →
    t.deferMaxAge * 1000000 < s.time.localNs - d.queuedAt →
    exec (.deferredOpRun r) s = .next (countSvc d.req.template r cDeferExpired 1 (s.setRegion r { s.region r with
      deferred := ds
      sinceDeferred := 0 }))) ∧
  (∀ s r d ds t u op, s.flowReady r = true → (s.region r).deferred = d :: ds → s.template d.req.template = some t →
    s.time.localNs - d.queuedAt ≤ t.deferMaxAge * 1000000 →
    u = s.setRegion r { s.region r with
      deferred := ds
      sinceDeferred := 0 } →
    op = u.opOf d.partition (.deferred r d.req.template) d.req →
    (∀ p, s.partition d.partition = some p → u.homedAway (reqKey d.req) p = false) →
    exec (.deferredOpRun r) s = .next (if clear (u.opLocks op) (u.takenLocks r) = true then runOp r op u
      else u.setRegion r { u.region r with queue := op :: (u.region r).queue })) ∧
  (∀ s r d ds t u p, s.flowReady r = true → (s.region r).deferred = d :: ds → s.template d.req.template = some t →
    s.time.localNs - d.queuedAt ≤ t.deferMaxAge * 1000000 →
    u = s.setRegion r { s.region r with
      deferred := ds
      sinceDeferred := 0 } →
    s.partition d.partition = some p → u.homedAway (reqKey d.req) p = true →
    exec (.deferredOpRun r) s = .next ((ask d.partition (.deferred r d.req.template) d.req u).getD
      (countSvc d.req.template r cDeferFailed 1 (countStarved r 1 (countUnreach d.partition (reqKey d.req) u))))) ∧
  (∀ s r, s.flowReady r = true → (s.region r).deferred = [] → exec (.deferredOpRun r) s = .next s) ∧
  (∀ s r l, s.sinterEntry r l = none → exec (.sinterIdleWriteback r l) s = .next s) ∧
  (∀ s r l e u, s.sinterEntry r l = some e → writeBack r e s = some u → exec (.sinterIdleWriteback r l) s = .next u) ∧
  (∀ s r l e, s.sinterEntry r l = some e → writeBack r e s = none → exec (.sinterIdleWriteback r l) s = .next (retryLater r l s)) ∧
  (∀ s r ecc e es u, ecc ≠ .uncorrectable → (s.region r).log = e :: es → s.hbmReady = true → chargeReplay r (replayBursts e) s = some u →
    exec (.sinterLogReplay r ecc) s = .next (repeatReads r (retryWaits r (replayOne r u)))) ∧
  (∀ s r e es u, (s.region r).log = e :: es → s.hbmReady = true → chargeReplay r (replayBursts e) s = some u →
    exec (.sinterLogReplay r .uncorrectable) s = .next (repeatReads r (retryWaits r (loseLogEntry r u)))) ∧
  (∀ s r ecc e es, (s.region r).log = e :: es → s.hbmReady = true → chargeReplay r (replayBursts e) s = none →
    exec (.sinterLogReplay r ecc) s = .next s) ∧
  (∀ s r pn p i x, s.partition pn = some p → s.flowReady r = true → tget (s.region r).ovf i = some x → x.partition = pn →
    exec (.flowAgingSweepVisit r pn true i) s = .next (flowAgeVisit r p pn x.flowKey s)) ∧
  (∀ s r pn p i u, s.partition pn = some p → s.flowReady r = true → i < 2 ^ p.nbrLog2 → s.hbmReady = true → charge r clsTM 8 s = some u → r ≠ 0 →
    exec (.flowAgingSweepVisit r pn false i) s = .next (fillBucket r p pn (p.base + i)
      (forEach ((u.bucketRecs r (p.base + i) p.wide).map (fun e => e.2.flowKey)) u (flowAgeVisit r p pn)))) ∧
  (∀ s pn p u, s.partition pn = some p → s.flowReady 0 = true → s.hbmReady = true → charge 0 clsTM 8 s = some u →
    ∃ v, v = startSweep pn p u ∧ exec (.flowAgingSweepVisit 0 pn false 0) s = .next (fillBucket 0 p pn p.base
      (forEach ((v.bucketRecs 0 p.base p.wide).map (fun e => e.2.flowKey)) v (flowAgeVisit 0 p pn))) ∧
      (tget v.flow.partitions pn).map Partition.sweepAt = some (some u.time.localNs)) ∧
  (∀ s r p op f, s.findRec r op.partition p (reqKey op.req) = some f → f.img.comp = true → s.homedAway (reqKey op.req) p = false →
    ageWork r p op s = s) ∧
  (∀ s r p op f, s.findRec r op.partition p (reqKey op.req) = some f → f.img.comp = false → s.groupPendingLog r f.loc = true →
    ageWork r p op s = s)

/-- Flow maintenance and services (R127, R128, R163, R199, R200, R213, R215, R220, R222, R227, R228): a relocation job moves a stash record into a
free slot of its buckets, a Tarn-only record migrates, a NAT buffer takes 16 entries, a NAT ring is written and NAT_POOL_WRITE completes, a
health period writes its figures and clears the accumulators, a home map switches, and an export message ends, is sent within its token bucket
with its sequence number, and carries the template set again (alone, where the two together pass the MTU).
The model's own choices here: log entries 3, 76, 77, 78, 79, 136 and 147. -/
def Obligations.FlowServiceRows : Prop :=
  (∀ s r i rest, (s.region r).jobs = i :: rest → s.hbmReady = true → s.flowReady r = true → tget (s.region r).ovf i = none →
    exec (.relocationJob r) s = .next (s.setRegion r { s.region r with jobs := rest })) ∧
  (∀ s r i rest x p op u l v, (s.region r).jobs = i :: rest → s.hbmReady = true → s.flowReady r = true → tget (s.region r).ovf i = some x →
    s.partition x.partition = some p → op = s.workOp x.partition x.flowKey none → clear (s.opLocks op) (s.takenLocks r) = true →
    charge r clsTM 16 (s.setRegion r { s.region r with jobs := rest }) = some u → u.ovfHolds r i op = true →
    (s.freeSlot r (p.place x.flowKey).bktA p.wide).or (s.freeSlot r (p.place x.flowKey).bktB p.wide) = some l →
    moveRec r (locOvf i) l p.wide u = some v →
    exec (.relocationJob r) s = .next v) ∧
  (∀ s r i rest x p op, (s.region r).jobs = i :: rest → s.hbmReady = true → s.flowReady r = true → tget (s.region r).ovf i = some x →
    s.partition x.partition = some p → op = s.workOp x.partition x.flowKey none → clear (s.opLocks op) (s.takenLocks r) = false →
    exec (.relocationJob r) s = .next s) ∧
  (∀ s r i rest x p op done steps, (s.region r).jobs = i :: rest → s.hbmReady = true → s.flowReady r = true → tget (s.region r).ovf i = some x →
    s.partition x.partition = some p → op = s.workOp x.partition x.flowKey none → clear (s.opLocks op) (s.takenLocks r) = true →
    done = s.setRegion r { s.region r with jobs := rest } →
    (done.freeSlot r (p.place x.flowKey).bktA p.wide).or (done.freeSlot r (p.place x.flowKey).bktB p.wide) = none →
    findPath r p op.partition done 32 (p.place (reqKey op.req)).bktA [] = (none, steps) →
    exec (.relocationJob r) s = .next ((chargeSteps r steps done).getD s)) ∧
  (∀ s r, s.hbmReady = true → (s.region r).migrated = false → (s.region r).nextPinned (s.region r).migrateAt = none →
    exec (.tarnOnlyMigrate r) s = .next (raise (172 + r) (s.setRegion r { s.region r with
      migrated := true
      migrateAt := 0 }))) ∧
  (∀ s r set w t p u, s.hbmReady = true → (s.region r).migrated = false →
    (s.region r).nextPinned (s.region r).migrateAt = some (set, w, t) → s.partition t.img.partition = some p →
    clear (p.locks t.img.partition (p.place t.img.flowKey)) (s.takenLocks r) = true → migrateOne r set w t s = some u →
    exec (.tarnOnlyMigrate r) s = .next (u.setRegion r { u.region r with migrateAt := set * 16 + w + 1 })) ∧
  (∀ s r pool e0 e1 p u, tget s.flow.pools pool = some p → (s.natRing pool r).buffer.length < 32 → p.filling.testBit r = false →
    s.ringHolds pool r = true → s.hbmReady = true → charge r clsTM 2 s = some u →
    exec (.natBufferRefill r pool e0 e1) s =
      .next (u.setNatRing pool r (takeRingBurst p r e1 (takeRingBurst p r e0 (s.natRing pool r))))) ∧
  (∀ s pool r p n u, tget s.flow.pools pool = some p → p.filling.testBit r = true →
    n = min ((p.ringSize - tgetD p.filled r 0) / 8) (if tgetD s.hbm.left (5 * r + clsTM) 0 = 0 then 8 else tgetD s.hbm.left (5 * r + clsTM) 0) →
    charge r clsTM n s = some u →
    fillRing pool r s = { u with
      hbm.mem := memWrite u.hbm.mem (natRingAddr pool r (tgetD p.filled r 0)) (p.ringBytes r (tgetD p.filled r 0) (8 * n))
      flow.pools := tset u.flow.pools pool { p with
        filled := tset p.filled r (tgetD p.filled r 0 + 8 * n)
        filling := setBit p.filling r (decide (tgetD p.filled r 0 + 8 * n < p.ringSize)) } }) ∧
  (∀ s pool p q u, tget s.flow.pools pool = some p → p.filling ≠ 0 → s.hbmReady = true → u = forEach regions s (fillRing pool) →
    tget u.flow.pools pool = some q → q.filling ≠ 0 → exec (.natRingFill pool) s = .next u) ∧
  (∀ s pool p q u, tget s.flow.pools pool = some p → p.filling ≠ 0 → s.hbmReady = true → u = forEach regions s (fillRing pool) →
    tget u.flow.pools pool = some q → q.filling = 0 → p.fillId = none →
    exec (.natRingFill pool) s = .next { u with flow.pools := tset u.flow.pools pool { q with fillId := none } }) ∧
  (∀ s pool p q u id, tget s.flow.pools pool = some p → p.filling ≠ 0 → s.hbmReady = true → u = forEach regions s (fillRing pool) →
    tget u.flow.pools pool = some q → q.filling = 0 → p.fillId = some id →
    exec (.natRingFill pool) s = .next (finish id 0 0xFFFF [] { u with flow.pools := tset u.flow.pools pool { q with fillId := none } })) ∧
  (∀ s pool p, tget s.flow.lbPools pool = some p →
    ∃ t q, exec (.lbHealthPeriod pool) s = .next t ∧ tget t.flow.lbPools pool = some q ∧
      q.health = p.members.map (fun e => (e.1, s.healthOf e.2.backend)) ∧
      (∀ e ∈ p.members, e.2.state ≠ 0 ∨ e.2.wbase = 0 → e ∈ q.members) ∧
      (∀ r ∈ regions, ∀ e ∈ p.members, tget (t.region r).health e.2.backend = none)) ∧
  (∀ s pn p tm start devices more, s.partition pn = some p → p.homeSwitch = (tm, start, devices) :: more →
    exec (.groupHomeSwitch pn) s = .next { s with flow.partitions := tset s.flow.partitions pn { p with
      homeMap := p.homeMap.mapIdx (fun i d => if i < start then d else devices.getD (i - start) d)
      homeSwitch := more } }) ∧
  (∀ s k p, tget s.flow.profiles k = some p → p.building ≠ [] →
    exec (.exportMessageFlush k) s = .next { s with flow.profiles := tset s.flow.profiles k { p with
      ended := p.ended ++ [(p.buildSet, p.building)]
      building := [] } }) ∧
  (∀ s k lost p set all recs more tokens, tget s.flow.profiles k = some p → p.ended = (set, all) :: more → recs = unlost lost 0 all →
    p.templateDue = true ∨ recs ≠ [] → ¬(p.templateDue = true ∧ recs ≠ [] ∧ p.mtu < p.packetLen true recs) →
    tokens = min (p.burst * byteTokens) (p.tokens + p.rate * (s.time.localNs - p.tokensAt)) → tokens < p.packetLen p.templateDue recs * byteTokens →
    exec (.exportMessageSend k lost) s = .next s) ∧
  (∀ s k lost p set all recs more tokens, tget s.flow.profiles k = some p → p.ended = (set, all) :: more → recs = unlost lost 0 all →
    p.templateDue = true → recs ≠ [] → p.mtu < p.packetLen true recs → tokens = min (p.burst * byteTokens) (p.tokens + p.rate * (s.time.localNs - p.tokensAt)) →
    exec (.exportMessageSend k lost) s = .next (if tokens < p.packetLen true [] * byteTokens then s else emitMessage k p tokens true [] s)) ∧
  (∀ s k lost p set all recs more tokens, tget s.flow.profiles k = some p → p.ended = (set, all) :: more → recs = unlost lost 0 all →
    ¬(p.templateDue = true ∧ recs ≠ [] ∧ p.mtu < p.packetLen true recs) → tokens = min (p.burst * byteTokens) (p.tokens + p.rate * (s.time.localNs - p.tokensAt)) →
    p.packetLen p.templateDue recs * byteTokens ≤ tokens → chargeExport all.length s = none →
    exec (.exportMessageSend k lost) s = .next s) ∧
  (∀ s k lost p set all more u, tget s.flow.profiles k = some p → p.ended = (set, all) :: more → unlost lost 0 all = [] →
    p.templateDue = false → chargeExport all.length s = some u →
    exec (.exportMessageSend k lost) s = .next { u with flow.profiles := tset u.flow.profiles k { p with
      ended := more
      dropped := add64 p.dropped all.length } }) ∧
  (∀ s k lost p set all recs more tokens v u, tget s.flow.profiles k = some p → p.ended = (set, all) :: more → recs = unlost lost 0 all →
    p.templateDue = true ∨ recs ≠ [] → ¬(p.templateDue = true ∧ recs ≠ [] ∧ p.mtu < p.packetLen true recs) →
    tokens = min (p.burst * byteTokens) (p.tokens + p.rate * (s.time.localNs - p.tokensAt)) → p.packetLen p.templateDue recs * byteTokens ≤ tokens → chargeExport all.length s = some v →
    u = originate ((v.ofSysPort p.egressPort).getD p.egressPort) p.tc (exportFrame p v.ocf.stationMac (ipfixMessage p.templateDue recs
      (twos 32 ((v.time.now / secondTicks : Nat) - v.time.utcOffset)) (tgetD v.flow.odidSeq p.odid 0) p.odid)) v →
    exec (.exportMessageSend k lost) s = .next { u with
      flow.profiles := tset u.flow.profiles k { p with
        ended := more
        templateDue := false
        tokens := tokens - p.packetLen p.templateDue recs * byteTokens
        tokensAt := u.time.localNs
        sentRecords := add64 p.sentRecords recs.length
        sentMessages := inc64 p.sentMessages
        dropped := add64 p.dropped (all.length - recs.length) }
      flow.odidSeq := tset u.flow.odidSeq p.odid (wrap 32 (tgetD v.flow.odidSeq p.odid 0 + recs.length)) }) ∧
  (∀ s k p, tget s.flow.profiles k = some p →
    exec (.templateRefresh k) s = .next { s with flow.profiles := tset s.flow.profiles k { p with templateDue := true } })

/-- Control cells of the Dvorob Link (R216, R265, R304, R311, R312, R316 to R318, R320, R321, R408): a cell in LSEQ order is taken and its ACK frees the
replay buffer, any other is discarded and a failed check asked for again; then each kind of cell has its effect, one for another
slot goes on toward it on its first hop only, hellos that agree bring a port up, and hellos that do not, or a port that hears nothing, take it
down.
The model's own choices here: log entries 46, 74, 91, 92, 93, 134 and 135. -/
def Obligations.FabricControlRows : Prop :=
  (∀ s (hd : LinkHeader), s.fabRuns hd.group = true → hd.crcOk = true → (s.fabPort hd.group).up = true →
    hd.lseq = (s.fabPort hd.group).lseqRx →
    receiveCell hd s = (true, s.setFabPort hd.group { s.fabPort hd.group with
      lseqRx := (hd.lseq + 1) % 4096
      tries := 0
      replayBuf := acknowledge hd.ack (s.fabPort hd.group).replayBuf })) ∧
  (∀ s (hd : LinkHeader) occ, s.fabRuns hd.group = true → hd.crcOk = false → (s.fabPort hd.group).up = true → (s.fabPort hd.group).tries < 8 →
    exec (.load hd occ) s = .next ((useInjected 9 (· = hd.group) s).setFabPort hd.group { s.fabPort hd.group with
      tries := (s.fabPort hd.group).tries + 1
      control := (s.fabPort hd.group).control ++ [.replay (s.fabPort hd.group).lseqRx] })) ∧
  (∀ s (hd : LinkHeader) occ, s.fabRuns hd.group = true → hd.crcOk = false → (s.fabPort hd.group).up = true → 8 ≤ (s.fabPort hd.group).tries →
    exec (.load hd occ) s = .next (failPort hd.group (useInjected 9 (· = hd.group) s))) ∧
  (∀ s (hd : LinkHeader) occ, s.fabRuns hd.group = true → hd.crcOk = true → hd.lseq ≠ (s.fabPort hd.group).lseqRx →
    exec (.load hd occ) s = .next s) ∧
  (∀ s (hd : LinkHeader) occ u k, receiveCell hd s = (true, u) → (u.fabPort hd.group).slot = some k →
    exec (.load hd occ) s = .next { u with
      fab.ports := u.fab.ports.map (fun e => (e.1, if e.2.slot = some k then { e.2 with loads := occ } else e.2)) }) ∧
  (∀ s (hd : LinkHeader) v u w, receiveCell hd s = (true, u) → w = u.setFabPort hd.group { u.fabPort hd.group with reach := v } →
    exec (.reach hd v) s = .next (reachChanged w.reachVector u.reachableSlots { w with
      fab.members := w.fab.members ++ (bitsOf 32 v).filter (fun k => k != w.ownSlot && !w.fab.members.contains k) })) ∧
  (∀ s (hd : LinkHeader) slot port u, receiveCell hd s = (true, u) → hd.dst = u.ownSlot → slot ≠ u.ownSlot →
    exec (.portState hd slot port true) s = .next { u with
      fab.remotePorts := (slot * 256 + port) :: u.fab.remotePorts.erase (slot * 256 + port)
      fab.remoteDown := u.fab.remoteDown.erase (slot * 256 + port)
      buf.hold := if u.fab.downSlots.contains slot then u.buf.hold else u.buf.hold.erase (slot * 256 + port) }) ∧
  (∀ s (hd : LinkHeader) slot port u, receiveCell hd s = (true, u) → hd.dst = u.ownSlot → slot ≠ u.ownSlot →
    exec (.portState hd slot port false) s = .next { u with
      fab.remotePorts := (slot * 256 + port) :: u.fab.remotePorts.erase (slot * 256 + port)
      fab.remoteDown := (slot * 256 + port) :: u.fab.remoteDown.erase (slot * 256 + port)
      buf.hold := (slot * 256 + port) :: u.buf.hold.erase (slot * 256 + port) }) ∧
  (∀ s (hd : LinkHeader) slot region port tc cls cells head u, receiveCell hd s = (true, u) → hd.dst = u.ownSlot → cells ≠ 0 →
    exec (.request hd slot region port tc cls ⟨cells, head⟩) s = .next { u with
      fab.requests := tset u.fab.requests (requestKey (4 * slot + region) cls port tc u.ownSlot) (cells, head) }) ∧
  (∀ s (hd : LinkHeader) slot region port tc cls head u, receiveCell hd s = (true, u) → hd.dst = u.ownSlot →
    exec (.request hd slot region port tc cls ⟨0, head⟩) s = .next { u with
      fab.requests := tdel u.fab.requests (requestKey (4 * slot + region) cls port tc u.ownSlot) }) ∧
  (∀ s (hd : LinkHeader) region voq cells u, receiveCell hd s = (true, u) → hd.dst = u.ownSlot →
    exec (.grant hd region voq cells) s = .next (sendHeads (voqKey region voq) (u.voq (voqKey region voq)).frames.length
      (u.setVoq (voqKey region voq) { u.voq (voqKey region voq) with credit := (u.voq (voqKey region voq)).credit + cells }))) ∧
  (∀ s (hd : LinkHeader) region voq cells u, receiveCell hd s = (true, u) → hd.dst = u.ownSlot → (u.voq (voqKey region voq)).frames = [] →
    exec (.grant hd region voq cells) s = .next (u.setVoq (voqKey region voq) { u.voq (voqKey region voq) with
      credit := (u.voq (voqKey region voq)).credit + cells })) ∧
  (∀ s (hd : LinkHeader) lseq u, receiveCell hd s = (true, u) →
    ∃ t, exec (.replay hd lseq) s = .next t ∧ t.fab.sent = u.fab.sent ++
        ((u.fabPort hd.group).replayBuf.dropWhile (fun c => cellSeq c != some lseq)).map (fun c => (hd.group, withAck (u.fabPort hd.group).ackNow c)) ∧
      (t.fabPort hd.group).replays = inc64 (u.fabPort hd.group).replays ∧ t.buf = u.buf) ∧
  (∀ s (hd : LinkHeader) cells u, receiveCell hd s = (true, u) →
    exec (.credit hd 0 cells) s = .next (u.setFabPort hd.group { u.fabPort hd.group with credit0 := (u.fabPort hd.group).credit0 + cells })) ∧
  (∀ s (hd : LinkHeader) cells u, receiveCell hd s = (true, u) →
    exec (.credit hd 1 cells) s = .next (u.setFabPort hd.group { u.fabPort hd.group with credit1 := (u.fabPort hd.group).credit1 + cells })) ∧
  (∀ s (hd : LinkHeader) slot id req u t p, receiveCell hd s = (true, u) → hd.dst = u.ownSlot → u.template req.template = some t → u.partition t.partition = some p →
    u.flowReady (p.place (reqKey req)).home = true →
    exec (.flowReq hd slot id req) s = .next (pushOp (p.place (reqKey req)).home
      (u.opOf t.partition (.remote slot id) req) u)) ∧
  (∀ s (hd : LinkHeader) slot id req u t p, receiveCell hd s = (true, u) → hd.dst = u.ownSlot → u.template req.template = some t →
    u.partition t.partition = some p → u.flowReady (p.place (reqKey req)).home = false →
    exec (.flowReq hd slot id req) s = .next (sendToSlot slot (.flowResp slot id (.starved 1)) u)) ∧
  (∀ s (hd : LinkHeader) slot id req u, receiveCell hd s = (true, u) → hd.dst = u.ownSlot → u.template req.template = none →
    exec (.flowReq hd slot id req) s = .next (sendToSlot slot (.flowResp slot id .stateless) u)) ∧
  (∀ s (hd : LinkHeader) slot id res u o, receiveCell hd s = (true, u) → hd.dst = u.ownSlot → tget u.flow.asked id = some o →
    exec (.flowResp hd slot id res) s = .next (answer o res { u with flow.asked := tdel u.flow.asked id })) ∧
  (∀ s (hd : LinkHeader) slot id res u, receiveCell hd s = (true, u) → hd.dst = u.ownSlot → tget u.flow.asked id = none →
    exec (.flowResp hd slot id res) s = .next u) ∧
  (∀ s (hd : LinkHeader) slot total opcode f u, receiveCell hd s = (true, u) → hd.dst = u.ownSlot → tget u.fab.segments slot = none → total ≠ 1 →
    exec (.ocf hd slot 0 total opcode f) s = .next { u with fab.segments := tset u.fab.segments slot 0 }) ∧
  (∀ s (hd : LinkHeader) slot k opcode f u, receiveCell hd s = (true, u) → hd.dst = u.ownSlot → tget u.fab.segments slot = some k →
    exec (.ocf hd slot (k + 1) (k + 2) opcode f) s = .next (fabricIntake slot opcode f { u with
      fab.segments := tdel u.fab.segments slot })) ∧
  (∀ s (hd : LinkHeader) slot f u, receiveCell hd s = (true, u) → hd.dst = u.ownSlot → tget u.fab.segments (32 + slot) = none →
    exec (.learn hd slot 0 1 f) s = .next (fabricIntake slot 0x0520 f { u with fab.segments := tdel u.fab.segments (32 + slot) })) ∧
  (∀ s (hd : LinkHeader) u, receiveCell hd s = (true, u) → hd.dst ≠ u.ownSlot → hd.hop = 0 →
    (∀ slot port up, exec (.portState hd slot port up) s = .next (relayControl hd (.portState hd.dst port up) u)) ∧
    (∀ region voq cells, exec (.grant hd region voq cells) s = .next (relayControl hd (.grant hd.dst region voq cells) u)) ∧
    (∀ slot region port tc cls cells head,
      exec (.request hd slot region port tc cls ⟨cells, head⟩) s = .next (relayControl hd (.request hd.dst region port tc cls cells head) u)) ∧
    (∀ slot id req, exec (.flowReq hd slot id req) s = .next (relayControl hd (.flowReq hd.dst id req) u)) ∧
    (∀ slot id res, exec (.flowResp hd slot id res) s = .next (relayControl hd (.flowResp hd.dst id res) u)) ∧
    (∀ slot i n op f, exec (.ocf hd slot i n op f) s = .next (relayControl hd (.segment hd.dst i n op f) u)) ∧
    (∀ slot i n f, exec (.learn hd slot i n f) s = .next (relayControl hd (.learnSegment hd.dst i n f) u))) ∧
  (∀ s (hd : LinkHeader) u, receiveCell hd s = (true, u) → hd.dst ≠ u.ownSlot → hd.hop ≠ 0 →
    (∀ slot port up, exec (.portState hd slot port up) s = .next u) ∧ (∀ region voq cells, exec (.grant hd region voq cells) s = .next u) ∧
    (∀ slot region port tc cls cells head, exec (.request hd slot region port tc cls ⟨cells, head⟩) s = .next u) ∧
    (∀ slot id req, exec (.flowReq hd slot id req) s = .next u) ∧ (∀ slot id res, exec (.flowResp hd slot id res) s = .next u) ∧
    (∀ slot i n op f, exec (.ocf hd slot i n op f) s = .next u) ∧ (∀ slot i n f, exec (.learn hd slot i n f) s = .next u)) ∧
  (∀ s slot, tget s.fab.segments slot = none → tget s.fab.segments (32 + slot) = none →
    exec (.ocfSegmentTimeout slot) s = .next { s with ocf.segLost := add64 s.ocf.segLost 0 }) ∧
  (∀ s slot, (tget s.fab.segments slot).isSome = true → tget s.fab.segments (32 + slot) = none →
    exec (.ocfSegmentTimeout slot) s = .next { s with
      fab.segments := tdel s.fab.segments slot
      ocf.segLost := add64 s.ocf.segLost 1 }) ∧
  (∀ s (hd : LinkHeader) gid slot dev v, s.fabRuns hd.group = true → hd.crcOk = true → (s.fabPort hd.group).up = false →
    gid = s.fab.cfg.groupId → slot ≠ s.ownSlot →
    ∀ u, u = s.setFabPort hd.group { s.fabPort hd.group with
      lseqRx := (hd.lseq + 1) % 4096
      tries := 0
      replayBuf := acknowledge hd.ack (s.fabPort hd.group).replayBuf } → u.slotTaken hd.group slot dev = false →
    ∃ w, exec (.hello hd gid slot dev v) s =
        .next (notePeer slot dev (reachChanged u.reachVector u.reachableSlots (raise (208 + hd.group) w))) ∧
      (w.fabPort hd.group).up = true ∧ (w.fabPort hd.group).neighbour = some (slot, dev) ∧ (w.fabPort hd.group).reach = v ∧
      slot ∈ w.fab.members) ∧
  (∀ s (hd : LinkHeader) gid dev v u, s.fabRuns hd.group = true → hd.crcOk = true → (s.fabPort hd.group).up = false →
    u = s.setFabPort hd.group { s.fabPort hd.group with
      lseqRx := (hd.lseq + 1) % 4096
      tries := 0
      replayBuf := acknowledge hd.ack (s.fabPort hd.group).replayBuf } →
    exec (.hello hd gid s.ownSlot dev v) s = .next (refusePort hd.group u)) ∧
  (∀ s g, s.fabRuns g = true → exec (.helloSend g) s = .next (s.setFabPort g { s.fabPort g with
      control := (s.fabPort g).control ++ [.hello s.fab.cfg.groupId s.ownSlot s.ocf.deviceId s.reachVector] })) ∧
  (∀ s, exec .loadSend s = .next { s with
      fab.ports := s.fab.ports.map (fun e => (e.1, if e.2.up then { e.2 with control := e.2.control ++
        [.load ((List.range 32).map (fun k => ((leastLoaded (s.portsTo k)).map Prod.snd).getD 0xFFFF))] } else e.2)) }) ∧
  (∀ s region voq, voqSlot (voqKey region voq) ≠ s.ownSlot → exec (.voqRequestTimer region voq) s =
    .next (requestGrant (voqKey region voq) (sendHeads (voqKey region voq) (s.voq (voqKey region voq)).frames.length s))) ∧
  (∀ s region voq, voqSlot (voqKey region voq) = s.ownSlot → exec (.voqRequestTimer region voq) s = .next s) ∧
  (∀ s region voq, (s.voq (voqKey region voq)).frames = [] → exec (.voqRequestTimer region voq) s = .next s) ∧
  (∀ s g, (s.fabPort g).up = true → exec (.fabricPortTimeout g) s = .next (failPort g s) ∧ ((failPort g s).fabPort g).up = false) ∧
  (∀ s g, (s.fabPort g).up = false → exec (.fabricPortTimeout g) s = .next s)

/-- Data cells of the Dvorob Link (R312, R314, R315, R321, R324 to R326): a port sends a control cell before data and a data cell only on a credit of
its hop class, idles when it has neither, and keeps at most 512 cells for replay; a cell for this slot joins its frame, a cell on its first hop
is relayed, a cell on its second hop for another slot is discarded; and a reorder timeout gives up the missing frames.
The model's own choices here: log entries 23, 90, 91, 92, 94, 134 and 142. -/
def Obligations.FabricDataRows : Prop :=
  (∀ s l g c err, s.fabRuns g = true → l = s.linkReady → (l.fabPort g).replayBuf.length < 512 → (l.fabPort g).up = true →
    (l.fabPort g).control.head? = some c →
    exec (.fabricCellSend ⟨g, err⟩) s = .next (emit g { l.fabPort g with control := (l.fabPort g).control.erase c }
      (.control (l.fabPort g).lseqTx (l.fabPort g).ackNow (l.routeOf (l.fabPort g) c) c) l)) ∧
  (∀ s l g c err, s.fabRuns g = true → l = s.linkReady → (l.fabPort g).replayBuf.length < 512 → (l.fabPort g).up = false →
    (l.fabPort g).control.find? isHello = some c →
    exec (.fabricCellSend ⟨g, err⟩) s = .next { l.setFabPort g { l.fabPort g with
        control := (l.fabPort g).control.erase c
        lseqTx := ((l.fabPort g).lseqTx + 1) % 4096 } with
      fab.sent := l.fab.sent ++ [(g, .control (l.fabPort g).lseqTx (l.fabPort g).ackNow (l.routeOf (l.fabPort g) c) c)] }) ∧
  (∀ s l g w, s.fabRuns g = true → l = s.linkReady → (l.fabPort g).replayBuf.length < 512 → (l.fabPort g).up = true →
    (l.fabPort g).control = [] → (l.fabPort g).queue.find? (l.fabPort g).hasCredit = some w →
    exec (.fabricCellSend ⟨g, false⟩) s = .next (leaveRx w (emit g { l.fabPort g with
        queue := (l.fabPort g).queue.erase w
        credit0 := if w.cell.hop = 0 then (l.fabPort g).credit0 - 1 else (l.fabPort g).credit0
        credit1 := if w.cell.hop = 0 then (l.fabPort g).credit1 else (l.fabPort g).credit1 - 1 }
      (.data { w.cell with
        lseq := (l.fabPort g).lseqTx
        ack := (l.fabPort g).ackNow }) l))) ∧
  (∀ s l g w, s.fabRuns g = true → l = s.linkReady → (l.fabPort g).replayBuf.length < 512 → (l.fabPort g).up = true →
    (l.fabPort g).control = [] → (l.fabPort g).queue.find? (l.fabPort g).hasCredit = some w →
    ∃ t, exec (.fabricCellSend ⟨g, true⟩) s = .next t ∧ t.fab.sent = l.fab.sent ++ [(g, .data { poisonAt w.cell w.cell.index with
        lseq := (l.fabPort g).lseqTx
        ack := (l.fabPort g).ackNow })] ∧
      t.fab.poisonSent = tinc l.fab.poisonSent (streamKey (w.cell.src * 32 + w.cell.dst) (egressOf w.cell.cls w.cell.dstPort) w.cell.tc)) ∧
  (∀ s l g err, s.fabRuns g = true → l = s.linkReady → (l.fabPort g).control = [] → (l.fabPort g).credit0 = 0 → (l.fabPort g).credit1 = 0 →
    exec (.fabricCellSend ⟨g, err⟩) s = .next l) ∧
  (∀ s l g err, s.fabRuns g = true → l = s.linkReady → 512 ≤ (l.fabPort g).replayBuf.length → exec (.fabricCellSend ⟨g, err⟩) s = .next l) ∧
  (∀ s l g, s.fabRuns g = true → l = s.linkReady → (l.fabPort g).up = true → (l.fabPort g).nextCell = none →
    exec (.fabricIdleSend g) s = .next { l with
      fab.sent := l.fab.sent ++ [(g, .idle (l.fabPort g).ackNow ⟨l.ownSlot, (l.fabPort g).slot.getD 0, l.ownSlot, 0⟩)] }) ∧
  (∀ s g c ccrc, s.fabRuns g = true → (s.fabPort g).up = true → c.valid ccrc = false →
    exec (.dataCellReceive g c ccrc) s = .next (askReplay g s)) ∧
  (∀ s g c ccrc u, c.valid ccrc = true → receiveCell { group := g, lseq := c.lseq, ack := c.ack, crcOk := true, dst := c.dst, hop := c.hop } s = (true, u) →
    c.dst = u.ownSlot →
    exec (.dataCellReceive g c ccrc) s = .next (localCell g c u)) ∧
  (∀ s g c ccrc u, c.valid ccrc = true → receiveCell { group := g, lseq := c.lseq, ack := c.ack, crcOk := true, dst := c.dst, hop := c.hop } s = (true, u) →
    c.dst ≠ u.ownSlot → c.hop = 0 →
    exec (.dataCellReceive g c ccrc) s = .next (relayCell g c u)) ∧
  (∀ s g c ccrc u, c.valid ccrc = true → receiveCell { group := g, lseq := c.lseq, ack := c.ack, crcOk := true, dst := c.dst, hop := c.hop } s = (true, u) →
    c.dst ≠ u.ownSlot → c.hop ≠ 0 →
    exec (.dataCellReceive g c ccrc) s = .next (sendCredit g c.hop 1 u)) ∧
  (∀ s g (c : DataCell) u k pipe, c.kind = 2 → k = streamKey c.src pipe c.tc → pipe = egressOf c.cls c.dstPort →
    u = takeRx g c.hop { s with
      fab.granted := if seqLater (s.rxStream k).expected c.seq = true then s.fab.granted else tmod s.fab.granted pipe 0 (· - 1)
      fab.received := tmod s.fab.received pipe 0 (· + 1) } →
    (u.rxStream k).parts.find? (fun p => p.seq = c.seq) = none →
    localCell g c s = freeFabric pipe (g, c.hop) 1 u) ∧
  (∀ s pipe k (f : RobFrame), f.seq = (s.rxStream k).expected → (s.rxStream k).held = [] → f.poison = false →
    arriveFrame pipe k f s = enterEgress pipe f (noteCum k pipe f s)) ∧
  (∀ s u pipe k (f : RobFrame), f.seq = (s.rxStream k).expected → (s.rxStream k).held = [] → f.poison = true → u = noteCum k pipe f s →
    arriveFrame pipe k f s = raise 242 (freeFabric pipe f.rx f.cells (u.setRxStream k { u.rxStream k with
      poisonRecv := inc64 (u.rxStream k).poisonRecv }))) ∧
  (∀ s pipe k (f : RobFrame), f.seq ≠ (s.rxStream k).expected → seqLater f.seq (s.rxStream k).expected = true →
    arriveFrame pipe k f s = s.setRxStream k { s.rxStream k with held := (s.rxStream k).held ++ [f] }) ∧
  (∀ s pipe k (f : RobFrame), f.seq ≠ (s.rxStream k).expected → seqLater f.seq (s.rxStream k).expected = false →
    arriveFrame pipe k f s = freeFabric pipe f.rx f.cells (s.setRxStream k { s.rxStream k with late := inc64 (s.rxStream k).late })) ∧
  (∀ s slot pipe tc, (s.rxStream (streamKey slot pipe tc)).held = [] → exec (.robTimeout slot pipe tc) s = .next s) ∧
  (∀ s slot pipe tc f, (s.rxStream (streamKey slot pipe tc)).held = [f] → (s.rxStream (streamKey slot pipe tc)).parts = [] →
    exec (.robTimeout slot pipe tc) s = .next (raise 241 (releaseHeld pipe (streamKey slot pipe tc) 1 (s.setRxStream (streamKey slot pipe tc)
      { s.rxStream (streamKey slot pipe tc) with
        expected := f.seq
        lost := add64 (s.rxStream (streamKey slot pipe tc)).lost (wrap 24 (f.seq + 2 ^ 24 - (s.rxStream (streamKey slot pipe tc)).expected))
        parts := [] }))))

/-- HBM controllers (R134, R369 to R376, R378, R380, R381, R383, R384, R386, R388 to R393, R395, R397, R398): a request is accepted with its data
effect, passes its gate within its budget, is issued two at a time, and completes; an address beyond the capacity stops (fault hbmAddress: the
spec describes no such access); rows close, banks refresh, a stack trains, fails at the third try, refreshes itself and wakes.
A byte at a region address lies where the procedure of R367 puts it, and its example is checked.
The model's own choices here: log entries 27, 28, 30, 36, 37 and 96.  -/
def Obligations.HbmRows : Prop :=
  (∀ s r c a n, 0 < n → a + n ≤ s.shareBytes → s.classRoom r c = true → s.hbmReady = true →
    ∃ t, exec (.hbmRequestAccept (.read r c a n)) s = .next t ∧ t.hbm.mem = s.hbm.mem ∧ t.hbm.poison = s.hbm.poison ∧
      t.hbm.nextSeq = s.hbm.nextSeq + 1 ∧ t.hbm.gate.getLast? = some {
        region := r, cls := c, write := false, addr := a, len := n, bursts := chargeOf false a n, use := .other, accepted := s.time.localNs,
        seq := s.hbm.nextSeq, data := memRead s.hbm.mem (hbmAddr r a) n }) ∧
  (∀ s r c a data, data ≠ [] → a + data.length ≤ s.shareBytes → s.classRoom r c = true → s.hbmReady = true →
    ∃ t, exec (.hbmRequestAccept (.write r c a data)) s = .next t ∧ t.hbm.mem = memWrite s.hbm.mem (hbmAddr r a) data ∧
      t.hbm.gate = s.hbm.gate ++ [{
        region := r, cls := c, write := true, addr := a, len := data.length, bursts := chargeOf true a data.length, use := .other,
        accepted := s.time.localNs, seq := s.hbm.nextSeq, data := [] }] ∧ t.hbm.pcs = s.hbm.pcs) ∧
  (∀ s r c a n, s.shareBytes < a + n → exec (.hbmRequestAccept (.read r c a n)) s = .fault .hbmAddress) ∧
  (∀ s r c a data, s.shareBytes < a + data.length → exec (.hbmRequestAccept (.write r c a data)) s = .fault .hbmAddress) ∧
  (∀ s r w rest bs, (s.region r).wb = w :: rest → s.wbBytes r w = some bs → s.classRoom r clsFW = true → s.hbmReady = true →
    exec (.hbmRequestAccept (.writeBack r)) s = .next (acceptHbm {
        region := r, cls := clsFW, write := true, addr := locPos w.locator * 64, len := recLen w.img.wide, bursts := wbBursts w,
        use := .other, accepted := 0 } bs (s.setRegion r { s.region r with wb := rest }))) ∧
  (∀ s r, (s.region r).wb = [] → exec (.hbmRequestAccept (.writeBack r)) s = .next s) ∧
  (∀ s r op, (s.region r).busy.find? (fun op => op.issued.isNone && op.upTo.isNone && op.reads < (s.readsOf r op).1 + (s.readsOf r op).2) = some op →
    s.hbmReady = true → s.classRoom r clsFR = false → op.servesFrame = true → op.reads < (s.readsOf r op).1 →
    exec (.hbmRequestAccept (.flowRead r)) s = .next (failOp r op 3 (countRefusal r (dropBusy r op s)))) ∧
  (∀ s r op, (s.region r).busy.find? (fun op => op.issued.isNone && op.upTo.isNone && op.reads < (s.readsOf r op).1 + (s.readsOf r op).2) = some op →
    s.hbmReady = true → s.classRoom r clsFR = false → (op.servesFrame = false ∨ (s.readsOf r op).1 ≤ op.reads) →
    exec (.hbmRequestAccept (.flowRead r)) s = .next s) ∧
  (∀ s r op u, (s.region r).busy.find? (fun op => op.issued.isNone && op.upTo.isNone && op.reads < (s.readsOf r op).1 + (s.readsOf r op).2) = some op →
    s.hbmReady = true → s.classRoom r clsFR = true → u = setBusy r op { op with issued := some s.hbm.nextSeq } s →
    exec (.hbmRequestAccept (.flowRead r)) s = .next (acceptHbm {
        region := r, cls := clsFR, write := false, addr := u.readAddr r op, len := 256, bursts := 8, use := .flow r, accepted := 0,
        latest := if op.servesFrame = true ∧ op.reads < (s.readsOf r op).1 then some (op.at_ + 3000) else none } [] u)) ∧
  (∀ s r q qs u, s.gateOf r clsFR = q :: qs → s.pcRoom q = true → charge r clsFR q.bursts s = some u →
    exec (.hbmGatePass r) s = .next (passGate q u)) ∧
  (∀ s r q qs u, s.gateOf r clsFR = [] → s.gateOf r clsFW = q :: qs → s.pcRoom q = true → charge r clsFW q.bursts s = some u →
    exec (.hbmGatePass r) s = .next (passGate q u)) ∧
  (∀ s r, (∀ c q qs, s.gateOf r c = q :: qs → charge r c q.bursts s = none) → exec (.hbmGatePass r) s = .next s) ∧
  (∀ s r q op, (s.gateOf r clsFR).find? (fun x => x.latest.any (fun t => t ≤ s.time.localNs)) = some q → (s.region r).busy.find? (fun op => op.issued = some q.seq) = some op →
    exec (.frReadRefuse r) s = .next (failOp r op 3 (countRefusal r (dropBusy r op { s with
      hbm.gate := s.hbm.gate.filter (fun x => x.seq != q.seq) })))) ∧
  (∀ s r, (s.gateOf r clsFR).find? (fun x => x.latest.any (fun t => t ≤ s.time.localNs)) = none → exec (.frReadRefuse r) s = .next s) ∧
  (∀ s, exec .hbmBudgetPeriod s =
    .next (unstageExports (forEach regions (newPeriod s) (fun r s => retryEntries r (retryWaits r s))))) ∧
  (∀ s, (newPeriod s).hbm.ceiling = s.power.ceilingC ∧ (newPeriod s).hbm.charged = [] ∧ (newPeriod s).hbm.stats = [] ∧
    (newPeriod s).hbm.shares = s.hbm.nextShares ∧ (newPeriod s).hbm.period = s.time.localNs / 1024 ∧ (newPeriod s).hbm.mem = s.hbm.mem) ∧
  (∀ s pc, 2 ≤ (s.pc pc).issued.length → exec (.pcIssue pc) s = .next s) ∧
  (∀ s pc q, (s.pc pc).issued.length < 2 → s.issueChoice (s.pc pc) = some q →
    ∃ t, exec (.pcIssue pc) s = .next t ∧ (t.pc pc).issued = (s.pc pc).issued ++ [q] ∧
      (t.pc pc).reads = (s.pc pc).reads.filter (fun x => x.seq != q.seq) ∧
      (t.pc pc).writes = (s.pc pc).writes.filter (fun x => x.seq != q.seq) ∧ t.hbm.mem = s.hbm.mem ∧ ∀ p, p ≠ pc → t.pc p = s.pc p) ∧
  (∀ s pc burst q rest, (s.pc pc).issued = q :: rest → q.use = .other → q.write = false → ¬(s.hbm.poison.contains (hbmAddr q.region ((q.addr / 32 + burst) * 32) / 32) = true) →
    exec (.hbmAccessComplete pc .clean burst) s = .next { s.setPc pc { s.pc pc with issued := rest } with hbm.readData := q.data }) ∧
  (∀ s pc burst q rest r op, (s.pc pc).issued = q :: rest → q.use = .flow r → q.write = false →
    ¬(s.hbm.poison.contains (hbmAddr q.region ((q.addr / 32 + burst) * 32) / 32) = true) → (s.region r).busy.find? (fun op => op.issued = some q.seq) = some op →
    exec (.hbmAccessComplete pc .clean burst) s = .next (runOp r { op with
        reads := op.reads + 1
        issued := none } (dropBusy r op (s.setPc pc { s.pc pc with issued := rest })))) ∧
  (∀ s pc burst q rest r op v, (s.pc pc).issued = q :: rest → q.use = .flow r → q.write = false → (q.addr / 32 + burst) * 32 < q.addr + q.len →
    2 ^ 32 ≤ (q.addr / 32 + burst) * 32 →
    v = (eccRead pc .uncorrectable (hbmAddr q.region ((q.addr / 32 + burst) * 32) / 32) (s.setPc pc { s.pc pc with issued := rest })).2 →
    (v.region r).busy.find? (fun op => op.issued = some q.seq) = some op →
    exec (.hbmAccessComplete pc .uncorrectable burst) s = .next (runOp r { op with
        reads := op.reads + 1
        issued := none
        slotLost := op.slotLost || v.losesSlot op ((q.addr / 32 + burst) * 32) }
      (rewriteSlots q.region ((q.addr / 32 + burst) * 32) (dropBusy r op v)))) ∧
  (∀ s pc ecc burst, (s.pc pc).issued = [] → exec (.hbmAccessComplete pc ecc burst) s = .next s) ∧
  (∀ s pc bank, (tget (s.pc pc).openRow bank).isSome = true → tgetD (s.pc pc).accessAt bank 0 + 200 ≤ s.time.localNs →
    exec (.rowIdleClose pc bank) s = .next (s.setPc pc { s.pc pc with openRow := tdel (s.pc pc).openRow bank })) ∧
  (∀ s pc bank, s.time.localNs < tgetD (s.pc pc).accessAt bank 0 + 200 → exec (.rowIdleClose pc bank) s = .next s) ∧
  (∀ s pc bank, s.bankCount ≤ ((s.pc pc).refresh.filter (fun e => e.1 != bank && s.time.localNs < e.2)).length + 1 →
    exec (.bankRefresh pc bank) s = .next s) ∧
  (∀ s pc bank, ((s.pc pc).refresh.filter (fun e => e.1 != bank && s.time.localNs < e.2)).length + 1 < s.bankCount →
    exec (.bankRefresh pc bank) s = .next (s.setPc pc { s.pc pc with
      refresh := tset (s.pc pc).refresh bank (s.time.localNs + 160)
      openRow := tdel (s.pc pc).openRow bank })) ∧
  (∀ s k, s.stack k = .training → exec (.hbmTrainingComplete k true) s = .next (setStack k .ready (zeroStack k s))) ∧
  (∀ s k, s.stack k = .training → tgetD s.hbm.attempts k 0 < 2 →
    exec (.hbmTrainingComplete k false) s = .next { s with hbm.attempts := tset s.hbm.attempts k (tgetD s.hbm.attempts k 0 + 1) }) ∧
  (∀ s k, s.stack k = .training → 2 ≤ tgetD s.hbm.attempts k 0 →
    exec (.hbmTrainingComplete k false) s = .next (raise (256 + k) (setStack k .failed { s with
      hbm.attempts := tset s.hbm.attempts k (tgetD s.hbm.attempts k 0 + 1) }))) ∧
  (∀ s k, s.power.target = .dormant → s.power.moving = true → s.power.flushed = true → s.hbmIdle = true → s.stack k = .ready →
    (setStack k .off s).stackAwake = true →
    exec (.selfRefreshEntry k) s = .next (setStack k .off { s with hbm.selfRefresh := setBit s.hbm.selfRefresh k true })) ∧
  (∀ s k restored trained, s.hbm.selfRefresh.testBit k = true → s.power.waking = true → restored || trained →
    exec (.hbmWakeReady k restored trained) s = .next (setStack k .ready { s with hbm.selfRefresh := setBit s.hbm.selfRefresh k false })) ∧
  (∀ s k, s.hbm.selfRefresh.testBit k = true → s.power.waking = true →
    exec (.hbmWakeReady k false false) s = .next (abandonLake (raise (256 + k) (setStack k .failed { s with
      hbm.selfRefresh := setBit s.hbm.selfRefresh k false })))) ∧
  (∀ s r a ecc u, s.hbmReady = true → a < s.shareBytes → charge r clsTM 1 s = some u →
    exec (.hbmScrubVisit r a ecc) s = .next (eccRead (u.pcOf r a) ecc (hbmAddr r a / 32) u).2) ∧
  (∀ s r a ecc, s.hbmReady = true → charge r clsTM 1 s = none → exec (.hbmScrubVisit r a ecc) s = .next s) ∧
  (∀ s ok u id, retireDone ok (moveGranules s) = some (some id, u) → exec (.retireRemapDrained ok) s = .next (finish id 0 0xFFFF [] u)) ∧
  (∀ s ok u, retireDone ok (moveGranules s) = some (none, u) → exec (.retireRemapDrained ok) s = .next u) ∧
  (∀ s ok, retireDone ok (moveGranules s) = none → exec (.retireRemapDrained ok) s = .next (moveGranules s)) ∧
  (∀ s ok, s.hbm.retiring = none → exec (.retireRemapDrained ok) s = .next s) ∧
  (∀ (s : State) r ra N B g p line m, (if s.flash.h72 = true then N = 1179648 ∧ B = 48 else N = 786432 ∧ B = 32) → r < 4 → g = ra / 256 →
    p = g % 64 ^^^ g / 64 % 64 ^^^ r * 16 → line = r * N + g / 64 → m = line / 4 →
    s.locate r ra = {
      stack := p / 32
      channel := p / 2 % 16
      pseudoChannel := p % 2
      sid := m % B / 16
      bank := m % B % 16
      row := m / B
      column := line % 4 * 8 + ra / 32 % 8
      byteInBurst := ra % 32 }) ∧
  (∀ s : State, s.flash.h72 = true →
    s.locate 2 (4084135 * 256) = { stack := 0, channel := 0, pseudoChannel := 1, sid := 1, bank := 1, row := 12620, column := 16, byteInBurst := 0 })

/-- Protocol events (R403, R409, R412, R413, R424, R431, R456, R656): a described command enters the intake or its descriptor is answered, a frame that
runs for a second is answered HW_TIMEOUT, a completion is sent once and resent three times before its entry expires, a group times out, and the
flash takes the oldest audit entry that it does not hold.
The model's own choices here: log entries 3, 6, 8, 108 and 129. -/
def Obligations.ProtocolRows : Prop :=
  (∀ s c op d opcode f, tget s.host.dmaBusy c = some (op, d) → f.isDma = false →
    headerError { f with
      transport := .dma c (getBe (fit 24 d.params) 16 8) (getBe (fit 24 d.params) 12 4)
      present := getBe (fit 24 d.params) 8 4 } = none → definedOpcode opcode = true →
    exec (.dmaCommandReadComplete c true opcode f) s = .next { s with
      ocf.intake := s.ocf.intake ++ [⟨opcode, { f with
        transport := .dma c (getBe (fit 24 d.params) 16 8) (getBe (fit 24 d.params) 12 4)
        present := getBe (fit 24 d.params) 8 4 }, (s.chan c).hostGen⟩] }) ∧
  (∀ s c op d opcode f, tget s.host.dmaBusy c = some (op, d) →
    exec (.dmaCommandReadComplete c false opcode f) s = .next (answerDescriptor c 0x0503 0xFFFF 0 0 { s with
      ocf.rejected := tinc s.ocf.rejected 0x0503 })) ∧
  (∀ s c op d opcode f, tget s.host.dmaBusy c = some (op, d) → f.isDma = true →
    exec (.dmaCommandReadComplete c true opcode f) s = .next (answerDescriptor c 0x0109 0xFFFF 0 0 { s with
      ocf.rejected := tinc s.ocf.rejected 0x0109 })) ∧
  (∀ s c ok opcode f, tget s.host.dmaBusy c = none → exec (.dmaCommandReadComplete c ok opcode f) s = .next s) ∧
  (∀ s opcode f, s.ocf.tableWaits.find? (fun w => w.opcode = opcode && w.cmd = f && w.pend = none) = none → s.flowCmdOf opcode f = none →
    s.ocf.intake.any (fun e => e.opcode = opcode && e.cmd = f) = false → exec (.commandTimeout opcode f) s = .next s) ∧
  (∀ s opcode f g u key, s.accepts = true →
    s.ocf.tableWaits.find? (fun w => w.opcode = opcode && w.cmd = f && w.pend = none) = none → s.flowCmdOf opcode f = none →
    s.ocf.intake.any (fun e => e.opcode = opcode && e.cmd = f) = true → takeIntake opcode f s = (g, u) →
    readOpcodes.contains opcode = true → u.gate f opcode false false = .pass key → f.isMember = false →
    exec (.commandTimeout opcode f) s = .next (conclude f { opcode, changes := false, apply := fun s => { st := s } } key g 0x0502 0xFFFF []
      (recordSeq f u))) ∧
  (∀ s opcode f g u key, s.accepts = true →
    s.ocf.tableWaits.find? (fun w => w.opcode = opcode && w.cmd = f && w.pend = none) = none → s.flowCmdOf opcode f = none →
    s.ocf.intake.any (fun e => e.opcode = opcode && e.cmd = f) = true → takeIntake opcode f s = (g, u) →
    readOpcodes.contains opcode = false → u.gate f opcode true false = .pass key →
    exec (.commandTimeout opcode f) s = .next (conclude f { opcode, changes := true, apply := fun s => { st := s } } key g 0x0502 0xFFFF []
      (auditCommand 0x01 opcode f 0 0 (recordSeq f u)))) ∧
  (∀ s opcode f w, s.accepts = true → s.ocf.tableWaits.find? (fun w => w.opcode = opcode && w.cmd = f && w.pend = none) = some w →
    exec (.commandTimeout opcode f) s = .next (endTableWait { w with
        status := 0x0502
        detail := 0xFFFF
        results := [] } { s with ocf.tableWaits := s.ocf.tableWaits.erase w })) ∧
  (∀ s opcode f id, s.accepts = true → s.ocf.tableWaits.find? (fun w => w.opcode = opcode && w.cmd = f && w.pend = none) = none →
    s.flowCmdOf opcode f = some id → exec (.commandTimeout opcode f) s = .next (endFlowCmd id 0x0502 [] (abandon id s))) ∧
  (∀ s id p st detail res, tget s.ocf.pend id = some p → p.final = some (st, detail, res) → p.sends = 0 → p.audited = false →
    p.cmd.noReply = false →
    exec (.completionSend id) s = .next (deliver (completionOf p false s.ocf.epoch) p.hostGen { s with
      ocf.pend := tset s.ocf.pend id { p with sends := 1 } })) ∧
  (∀ s id p st detail res u, tget s.ocf.pend id = some p → p.final = some (st, detail, res) → p.sends = 0 → p.audited = true →
    p.cmd.noReply = false → u = auditCommand 0x02 p.opcode p.cmd st 0 s →
    exec (.completionSend id) s = .next (deliver (completionOf p false u.ocf.epoch) p.hostGen { u with
      ocf.pend := tset u.ocf.pend id { p with sends := 1 } })) ∧
  (∀ s id p st detail res u, tget s.ocf.pend id = some p → p.final = some (st, detail, res) → p.sends = 0 → p.cmd.noReply = true →
    u = (if p.audited = true then auditCommand 0x02 p.opcode p.cmd st 0 s else s) →
    exec (.completionSend id) s = .next { u with
      ocf.pend := tdel u.ocf.pend id
      ocf.noReplyFailed := if okStatus st = true then u.ocf.noReplyFailed else inc64 u.ocf.noReplyFailed }) ∧
  (∀ s id p, tget s.ocf.pend id = some p → p.final = none → exec (.completionSend id) s = .next s) ∧
  (∀ s id p, tget s.ocf.pend id = some p → 1 ≤ p.sends → p.sends ≤ 3 →
    exec (.completionResend id) s = .next (deliver (completionOf p true s.ocf.epoch) p.hostGen { s with
      ocf.pend := tset s.ocf.pend id { p with sends := p.sends + 1 } })) ∧
  (∀ s id p, tget s.ocf.pend id = some p → 4 ≤ p.sends →
    exec (.completionResend id) s = .next { s with ocf.pend := tdel s.ocf.pend id }) ∧
  (∀ s group, exec (.groupTimeout group) s = .next { s with ocf.groups := tdel s.ocf.groups group }) ∧
  (∀ s e last, last = (s.flash.audit.getLast?.map AuditEntry.entryNo).getD 0 →
    s.roles.audit.ring.find? (fun x => last < x.entryNo) = some e →
    exec .auditFlashWrite s = .next { s with flash.audit := lastN 4096 (s.flash.audit ++ [e]) }) ∧
  (∀ s last, last = (s.flash.audit.getLast?.map AuditEntry.entryNo).getD 0 →
    s.roles.audit.ring.find? (fun x => last < x.entryNo) = none → exec .auditFlashWrite s = .next s)

/-- Slow-path rings (R480 to R488): the host port's head frame is written to its ring's buffers in order, data before descriptors, and HEAD moves
past them; without descriptors in time it is dropped and counted; and a transmit ring's frame is fetched in turn, accepted into the pipelines
or its port, or refused with its STATUS.
The model's own choices here: log entries 36, 62 and 63. -/
def Obligations.RingRows : Prop :=
  (∀ s t info i bufs parts, s.rxHead = some (t, info, i) → s.dmaOpen = true → (s.ring false i).en = true →
    bufs.length ≤ (s.ring false i).owned → splitFrame bufs t.wire = some parts →
    exec (.rxFrameWrite bufs false) s = .next (dropRxHead t (countTx hostPort t.frame.len (countSent t (sampleLatency t
      (raise (96 + i) ((writeHost (parts.map (fun p => (p.1.addr, p.2)) ++ (parts.mapIdx (fun k p => ((s.ring false i).descAddr k + 12,
        rxStatus t info (if t.frame.released.isSome then t.frame.orig else s.sysPort t.frame.orig) p.2.length t.wire.length (k = 0)
          (k + 1 = parts.length)))).reverse) s).setRing false i ((s.ring false i).advance parts.length)))))))) ∧
  (∀ s t info i bufs parts, s.rxHead = some (t, info, i) → s.dmaOpen = true → (s.ring false i).en = true →
    bufs.length ≤ (s.ring false i).owned → splitFrame bufs t.wire = some parts →
    exec (.rxFrameWrite bufs true) s = .next (dropRxHead t (ringFault false i s))) ∧
  (∀ s t info i bufs e, s.rxHead = some (t, info, i) → (s.ring false i).en = false → exec (.rxFrameWrite bufs e) s = .next s) ∧
  (∀ (b : List RxBuf) d parts, splitFrame b d = some parts → parts.map Prod.fst = b ∧ parts.flatMap Prod.snd = d ∧
    ∀ p ∈ parts, p.2.length ≤ p.1.len) ∧
  (∀ s t info i, s.rxHead = some (t, info, i) → s.dmaOpen = true →
    exec .ringWaitExpire s = .next (dropRxHead t (raise 116 (s.setRing false i { s.ring false i with
      drop := wrapAdd 32 (s.ring false i).drop 1
      noDesc := true })))) ∧
  (∀ s, s.rxHead = none → exec .ringWaitExpire s = .next s) ∧
  (∀ s i descs data, s.dmaOpen = true → nextTurn 8 (s.host.txTurn + 1) s.txWork = some i → descs ≠ [] → descs.length ≤ (s.ring true i).owned →
    exec (.txFrameFetch i descs data true) s = .next { writeTxStatus (s.ring true i) descs.length txDmaError (ringFault true i s) with
      host.txTurn := i }) ∧
  (∀ s i descs data, s.dmaOpen = true → nextTurn 8 (s.host.txTurn + 1) s.txWork = some i → descs ≠ [] → descs.length ≤ (s.ring true i).owned →
    txFlagsOk descs = false →
    exec (.txFrameFetch i descs data false) s = .next { endTx i descs.length txBadFlags s with host.txTurn := i }) ∧
  (∀ s i descs data, s.dmaOpen = true → nextTurn 8 (s.host.txTurn + 1) s.txWork = some i → descs ≠ [] → descs.length ≤ (s.ring true i).owned →
    txFlagsOk descs = true → txLengthOk descs = false →
    exec (.txFrameFetch i descs data false) s = .next { endTx i descs.length txBadLength s with host.txTurn := i }) ∧
  (∀ s i d ds data w u, s.dmaOpen = true → nextTurn 8 (s.host.txTurn + 1) s.txWork = some i → (d :: ds).length ≤ (s.ring true i).owned →
    txFlagsOk (d :: ds) = true → txLengthOk (d :: ds) = true → w = padFrame (fit (txLength (d :: ds)) data) →
    s.ingressFits 0 hostPort (cellsOf w.length) = true → d.flags.testBit 2 = true →
    u = { endTx i (d :: ds).length txAccepted (countRx hostPort (w.length + 4) s) with host.txTurn := i } →
    exec (.txFrameFetch i (d :: ds) data false) s = .next (enqueueDirect d.dest d.tc w u)) ∧
  (∀ s i d ds data w u f v, s.dmaOpen = true → nextTurn 8 (s.host.txTurn + 1) s.txWork = some i → (d :: ds).length ≤ (s.ring true i).owned →
    txFlagsOk (d :: ds) = true → txLengthOk (d :: ds) = true → w = padFrame (fit (txLength (d :: ds)) data) →
    s.ingressFits 0 hostPort (cellsOf w.length) = true → d.flags.testBit 2 = false →
    u = { endTx i (d :: ds).length txAccepted (countRx hostPort (w.length + 4) s) with host.txTurn := i } →
    store (u.newFrame hostPort w) u = (some f, v) →
    exec (.txFrameFetch i (d :: ds) data false) s = .next (await 1 f v)) ∧
  (∀ s i descs data e, nextTurn 8 (s.host.txTurn + 1) s.txWork ≠ some i → exec (.txFrameFetch i descs data e) s = .next s)

/-- Geyser (R520 to R536): due items are released in order and firmware's own items submitted, the executor that has waited longest takes the first
eligible item within its activity's budget, a completed item's run time is charged and its chain released, an overrun is flagged once, and a
period boundary sets the grant, carries a debt over and puts the written classes and activities in force.
The model's own choices here: log entries 3, 117, 118 and 119. -/
def Obligations.GeyserRows : Prop :=
  (∀ s items, s.isReady 95 = true → exec (.workItemRelease items) s =
    .next (forEach items (releaseDue s) (fun n s => ((submitItem (firmwareItem n) s).map Prod.snd).getD s))) ∧
  (∀ s, s.isReady 95 = true → s.eng.delayed = [] → exec (.workItemRelease []) s = .next s) ∧
  (∀ s i h u, submitItem i s = some (h, u) → s.item h = none ∧ h < 65536 ∧
    (u.item h).map WorkItem.gen = some (wrap 16 (tgetD s.eng.gens h 0 + 1))) ∧
  (∀ s engine x u h i, s.isReady 95 = true → s.running = true → s.grantsOff = false → s.waits engine x = true →
    u = noteDeferred (s.candidates engine x) s → u.chooseItem engine x = some (h, i) →
    (∀ n, n ≠ x → u.waits engine n = true → u.suits engine n i = true → u.before engine n x = false) →
    exec (.workItemGrant engine x) s = .next (grantItem engine x h i u)) ∧
  (∀ s engine x, s.grantsOff = true → exec (.workItemGrant engine x) s = .next s) ∧
  (∀ s engine x h i, tget (grantItem engine x h i s).eng.runs (execKey engine x) = some h ∧
    ((grantItem engine x h i s).item h).map WorkItem.state = some .running) ∧
  (∀ s x h i r, s.running_ false x = some (h, i) → i.hostJob = false →
    exec (.workItemComplete false x r) s = .next (completeItem false x h i r s)) ∧
  (∀ s x h i e, s.running_ false x = some (h, i) → i.hostJob = true → i.ending = some e → ∀ r,
    exec (.workItemComplete false x r) s = .next (completeItem false x h i e.1 s)) ∧
  (∀ s x h i r v u, s.running_ true x = some (h, i) → (s.engine x).finished = some v →
    (s.engine x).ops.all (fun op => op.code = 5) = true → u = completeItem true x h i v s →
    exec (.workItemComplete true x r) s = .next (u.setEngine x { u.engine x with
      state := .idle
      finished := none })) ∧
  (∀ s x h i r, s.running_ true x = some (h, i) → (s.engine x).ops.all (fun op => op.code = 5) = false →
    exec (.workItemComplete true x r) s = .next s) ∧
  (∀ s engine x r, s.running_ engine x = none → exec (.workItemComplete engine x r) s = .next s) ∧
  (∀ s engine x h i, s.running_ engine x = some (h, i) → i.overran = false →
    exec (.itemLimitOverrun engine x) s = .next (raiseFirst 486 { s.setItem h { i with overran := true } with
      eng.overrun := s.eng.overrun.mapIdx (fun k n => if k = i.activity then inc64 n else n) })) ∧
  (∀ s engine x h i, s.running_ engine x = some (h, i) → i.overran = true → exec (.itemLimitOverrun engine x) s = .next s) ∧
  (∀ s, s.isReady 95 = true →
    ∃ t, (exec .energyPeriodBoundary s = .next t ∨ exec .energyPeriodBoundary s = .next (raise 485 t)) ∧
      t.eng.grant = s.capInForce * s.power.maintPermille * 100 ∧ t.eng.balance = (t.eng.grant : Int) + min s.eng.balance 0 ∧
      t.eng.use = List.replicate 8 0 ∧ t.eng.actUse = List.replicate 16 0 ∧ t.eng.classes = s.eng.nextClasses ∧
      t.eng.activities = s.eng.nextActivities ∧ t.eng.items = s.eng.items ∧ t.eng.ready = s.eng.ready)

/-- Fumarole engines (R509 to R518, Tables 12-1 to 12-6): a word of an engine at work takes effect and the next address follows, a memory operation that
cannot issue holds the word, a reserved code stops (refusal reservedMicrocode: Table 12-2 to 12-4 give it no effect), a parity error is retried
twice and then checks the machine, an operation completes with its journal entry, and a wait ends at its limit.
The model's own choices here: log entries 38, 39, 40, 41, 42, 120, 121 and 122. -/
def Obligations.EngineRows : Prop :=
  (∀ s k h i, s.running_ true k = some (h, i) → s.live true k = true → (s.engine k).finished = none → (s.engine k).state = .running →
    exec (.microwordExecute k .good) s = runWord k i (s.engine k) s) ∧
  (∀ s k i (e : Engine), (nanoOf (s.nanoAt (microOf (s.microAt e.upc)).nano)).reserved = true →
    runWord k i e s = .refused .reservedMicrocode) ∧
  (∀ s k i (e : Engine) n m, m = microOf (s.microAt e.upc) → n = nanoOf (s.nanoAt m.nano) → n.reserved = false → n.mem = 0 → n.event = 0 → m.seq = 1 →
    runWord k i e s = .next (s.setEngine k { aluStep n { e with retries := 0 } with
      ctx := cntStep n (aluStep n { e with retries := 0 }).ctx
      upc := m.target % 16384 })) ∧
  (∀ s k i (e : Engine) n m, m = microOf (s.microAt e.upc) → n = nanoOf (s.nanoAt m.nano) → n.reserved = false → n.mem = 0 → n.event = 0 → m.seq = 7 →
    runWord k i e s = .next (s.setEngine k { aluStep n { e with retries := 0 } with
      ctx := cntStep n (aluStep n { e with retries := 0 }).ctx
      finished := some n.status })) ∧
  (∀ s k i (e : Engine) n m, m = microOf (s.microAt e.upc) → n = nanoOf (s.nanoAt m.nano) → n.reserved = false → 1 ≤ n.mem → n.mem ≤ 3 →
    4 ≤ e.ops.length → runWord k i e s = .next s) ∧
  (∀ s k h i, s.running_ true k = some (h, i) → s.live true k = true → (s.engine k).finished = none → (s.engine k).state = .running →
    (s.engine k).retries < 2 →
    exec (.microwordExecute k .micro) s = .next (s.setEngine k { s.engine k with
      retries := (s.engine k).retries + 1
      parityRetry := inc64 (s.engine k).parityRetry })) ∧
  (∀ s k h i, s.running_ true k = some (h, i) → s.live true k = true → (s.engine k).finished = none → (s.engine k).state = .running →
    2 ≤ (s.engine k).retries → exec (.microwordExecute k .nano) s = .next (stopEngine k 2 s)) ∧
  (∀ s k h i, s.running_ true k = some (h, i) → s.live true k = true → (s.engine k).finished = none → (s.engine k).state = .running →
    exec (.microwordExecute k .golden) s = .next (goldenError k s)) ∧
  (∀ s k h i, s.running_ true k = some (h, i) → s.live true k = true → (s.engine k).finished = none → (s.engine k).state = .running →
    exec (.microwordExecute k .stateEcc) s = .next (stopEngine k 8 s)) ∧
  (∀ n c s held op ops, held.any (fun o => opsMeet o op) = true → firstDone n c s held (op :: ops) = firstDone n c s held ops) ∧
  (∀ s k h i parity, s.running_ true k = some (h, i) → s.live true k = true → (s.engine k).finished = none → (s.engine k).state = .waiting →
    condHolds (s.engine k) i (microOf (s.microAt (s.engine k).upc)).cond = true →
    exec (.microwordExecute k parity) s = .next (s.setEngine k { s.engine k with
      state := .running
      waitStart := none
      upc := ((s.engine k).upc + 1) % 16384 })) ∧
  (∀ s k cause, ((stopEngine k cause s).engine k).state = .stopped ∧ ((stopEngine k cause s).engine k).ops = []) ∧
  (∀ s k op c u, firstDone k (s.engine k).ctx s [] (s.engine k).ops = some (op, c, u) →
    exec (.fumaroleMemComplete k false) s = .next (u.setEngine k { s.engine k with
      ops := (s.engine k).ops.erase op
      ctx := if journals op.code op.arg then { c with journal := c.journal ++ [(op.code, op.addr, op.mask)] } else c })) ∧
  (∀ s k op, (s.engine k).ops.find? (fun op => op.code != 5) = some op →
    exec (.fumaroleMemComplete k true) s = .next (s.setEngine k { s.engine k with
      ops := (s.engine k).ops.erase op
      memError := true })) ∧
  (∀ s k, (s.engine k).state = .waiting →
    exec (.waitLimitExpire k) s = .next (s.setEngine k { s.engine k with
      state := .running
      waitStart := none
      upc := (microOf (s.microAt (s.engine k).upc)).target })) ∧
  (∀ s k, (s.engine k).state ≠ .waiting → exec (.waitLimitExpire k) s = .next s)

/-- Host jobs (R537 to R540): a table dump, a bulk insert, a counter snapshot and a delayed command run while the function may reach host memory, and
each ends with its status and results; one that has been cancelled has no effect beyond the record in hand.
The model's own choices here: log entries 36, 126, 127 and 128. -/
def Obligations.HostJobRows : Prop :=
  (∀ s h i table select cursor, s.jobAt h = some i → i.job = .tableDump table select cursor → s.dmaOpen = true →
    exec (.tableDump h) s = .next (dumpTable h i table select cursor s)) ∧
  (∀ s h i table select cursor, s.jobAt h = some i → i.job = .tableDump table select cursor → s.dmaOpen = false →
    exec (.tableDump h) s = .next s) ∧
  (∀ s h i blocks c u, s.jobAt h = some i → i.job = .bulkInsert blocks.length → s.dmaOpen = true →
    bulkBlocks (reached i (blocks.zipIdx.drop i.bulk.next)) i.bulk s = (c, none, u) →
    exec (.flowBulkInsert h blocks) s = .next (endJob h { i with bulk := c } 0 [(4, c.inserted), (4, c.existed), (4, c.failed),
        (4, (c.first.getD (0xFFFFFFFF, 0)).1), (2, (c.first.getD (0xFFFFFFFF, 0)).2), (2, 0)] u)) ∧
  (∀ s h i blocks c n u, s.jobAt h = some i → i.job = .bulkInsert blocks.length → s.dmaOpen = true →
    bulkBlocks (reached i (blocks.zipIdx.drop i.bulk.next)) i.bulk s = (c, some n, u) →
    exec (.flowBulkInsert h blocks) s = .next { u.setItem h { i with
        bulk := c
        waits := true } with flow.cmds := tset u.flow.cmds s.flow.nextCmd { reply := .bulk h n } }) ∧
  (∀ s h i, s.jobAt h = some i → i.job = .bulkInsert 0 → i.bulk = {} → s.dmaOpen = true →
    exec (.flowBulkInsert h []) s = .next (endJob h i 0 [(4, 0), (4, 0), (4, 0), (4, 0xFFFFFFFF), (2, 0), (2, 0)] s)) ∧
  (∀ s h i scope, s.jobAt h = some i → i.job = .snapshot scope → s.dmaOpen = true →
    exec (.counterSnapshot h) s = .next (endJob h i 0
      [(4, ((fitPrefix i.bufLen (reached i (s.snapshotBlocks scope))).flatMap Prod.snd).length),
       (1, Machine.bit (decide ((fitPrefix i.bufLen (reached i (s.snapshotBlocks scope))).length < (s.snapshotBlocks scope).length))), (3, 0)]
      (writeJob i (fitPrefix i.bufLen (reached i (s.snapshotBlocks scope))) s))) ∧
  (∀ s h i tick f c b, s.jobAt h = some i → i.job = .delayed tick f → i.cmd = some c → bodyOf c = some b → i.cancelReq = true →
    exec (.delayedCommand h) s = .next (endJob h i 0 [] s)) ∧
  (∀ s h i tick f c b a j, s.jobAt h = some i → i.job = .delayed tick f → i.cmd = some c → bodyOf c = some b →
    i.cancelReq = false → a = runEmbedded b f i.frameKey s → a.st.item h = some j → a.waits = none →
    exec (.delayedCommand h) s = .next (endJob h j 0 (embeddedResults a.status a.detail a.results) a.st)) ∧
  (∀ s h i tick f c b a j id, s.jobAt h = some i → i.job = .delayed tick f → i.cmd = some c → bodyOf c = some b →
    i.cancelReq = false → a = runEmbedded b f i.frameKey s → a.st.item h = some j → a.waits = some id →
    exec (.delayedCommand h) s = .next { a.st.setItem h { j with waits := true } with
      flow.cmds := tset a.st.flow.cmds id { reply := .job h b.opcode f b.changes } }) ∧
  (∀ s h, s.jobAt h = none → exec (.delayedCommand h) s = .next s)

/-! ## The block as a whole -/

/-- With a command at the front of its queue, a step is that command's effect on the state with the rest of the queue (log entry 2). -/
def Obligations.StepRunsTheFrontCommand : Prop :=
  ∀ s c cs, s.pending = c :: cs → step s = exec c { s with pending := cs }

/-- With an empty queue a step lets one cycle of the 25 MHz reference pass while the reference runs (R575, R342; that a step of the model is a
cycle is the model's choice, log entry 2): the local counter advances at the rate of the time base, which without frequency adjustment or slew is 40 ns, a slew moves
by at most SLEW_MAX and never past its end (R583), and nothing but the time base changes. Without the reference nothing changes.
The model's own choices here: log entries 2 and 138. -/
def Obligations.IdleCycle : Prop :=
  (∀ s, s.pending = [] → s.boot.porstHigh = true → s.boot.powerGood = 15 → s.boot.sysclk = true →
    ∃ t, step s = .next t ∧ t = { s with time := t.time } ∧ t.time.localNs =
        (s.time.localNs + (s.time.localSub + (t.time.now - s.time.now)) / 16) % 2 ^ 64 ∧
      (s.time.localSub + (t.time.now - s.time.now)) % 16 = t.time.localSub ∧ s.time.now ≤ t.time.now ∧
      (s.time.freqAdj = 0 → s.time.slewLeft = 0 → s.time.freqRem = 0 → t.time = { s.time with
        now := s.time.now + 640
        localNs := t.time.localNs
        localSub := t.time.localSub }) ∧
      (s.time.freqAdj = 0 → s.time.slewLeft = 0 → s.time.freqRem = 0 → s.time.localSub < 16 →
        t.time.localNs = (s.time.localNs + 40) % 2 ^ 64) ∧
      (s.time.slewLeft - t.time.slewLeft).natAbs ≤ 640 * s.time.slewMax ∧
      (0 ≤ s.time.slewLeft → 0 ≤ t.time.slewLeft ∧ t.time.slewLeft ≤ s.time.slewLeft) ∧
      (s.time.slewLeft ≤ 0 → s.time.slewLeft ≤ t.time.slewLeft ∧ t.time.slewLeft ≤ 0)) ∧
  (∀ s, s.pending = [] → (s.boot.porstHigh = false ∨ s.boot.powerGood ≠ 15 ∨ s.boot.sysclk = false) → step s = .next s)

/-- Every row but two answers a next state in every state: MICROWORD_EXECUTE may stop on a microword or nanoword that Tables 12-2 to 12-4
reserve, and HBM_REQUEST_ACCEPT on an address beyond the memory of the variant (Table 0-1), and on nothing else. So a step never stops for any other
reason, whatever the operands are; and it leaves the rest of the queue as it stood.
The model's own choices here: log entries 37 and 38. -/
def Obligations.CommandsGoOn : Prop :=
  (∀ c s, (∀ k p, c ≠ .microwordExecute k p) → (∀ q, c ≠ .hbmRequestAccept q) → ∃ t, exec c s = .next t) ∧
  (∀ k p s, (∃ t, exec (.microwordExecute k p) s = .next t) ∨ exec (.microwordExecute k p) s = .refused .reservedMicrocode) ∧
  (∀ q s, (∃ t, exec (.hbmRequestAccept q) s = .next t) ∨ exec (.hbmRequestAccept q) s = .fault .hbmAddress) ∧
  (∀ c s t, exec c s = .next t → t.pending = s.pending) ∧
  (∀ s t, step s = .next t → t.pending = s.pending.tail)

/-- The values that the spec gives for the state after PORST_N: the registers of Tables 11-3 to 11-11 as a host reads them, the time base (R577), the
windows, floors, groups and pending list (R421), the reset cause (Table 15-5), and the mode.
The model's own choices here: log entry 35. -/
def Obligations.ResetValues : Prop :=
  (∀ o ∈ [0x004, 0x008], State.reset.readBar0 o = 0) ∧
  (∀ c < 16, ∀ o ∈ [0x010, 0x018, 0x020, 0x024, 0x028, 0x02C], State.reset.readBar0 (0x20000 + 0x1000 * c + o) = 0) ∧
  (∀ c < 16, State.reset.readBar0 (0x20000 + 0x1000 * c + 0x008) = 256) ∧
  State.reset.readBar0 0x30008 = 0 ∧ State.reset.readBar0 0x3000C = 0 ∧
  (∀ o ∈ [0x100, 0x104, 0x108, 0x300], State.reset.readBar2 o = 0) ∧
  (∀ i < 16, ∀ o ∈ [0x00, 0x04, 0x0C, 0x10, 0x14, 0x18, 0x1C], State.reset.readBar0 (0x40000 + 0x100 * i + o) = 0) ∧
  (∀ i < 16, State.reset.readBar0 (0x40000 + 0x100 * i + 0x08) = 6) ∧
  (∀ g < 64, ∀ o ∈ [0x10000, 0x10100, 0x10400, 0x10500], State.reset.readBar0 (o + 4 * g) = 0) ∧
  (∀ g < 64, State.reset.readBar0 (0x10300 + 4 * g) = g) ∧
  (∀ o ∈ [0x10700, 0x10704, 0x10708, 0x12080, 0x12084], State.reset.readBar0 o = 0) ∧
  (∀ n < 1024, State.reset.readBar0 (0x11000 + 4 * n) = 0) ∧
  (∀ e < 32, State.reset.readBar0 (0x12000 + 4 * e) = 1) ∧
  (∀ g < 64, State.reset.host.int.armed.testBit g = true) ∧
  State.reset.time.now = 0 ∧ State.reset.time.state = .freeRun ∧ State.reset.time.utcOffset = 0 ∧
  State.reset.ocf.windows = [] ∧ State.reset.ocf.floors = [] ∧ State.reset.ocf.groups = [] ∧ State.reset.ocf.pend = [] ∧
  State.reset.boot.resetCause = 1 ∧ State.reset.boot.ready = 0 ∧ State.reset.boot.failed = 0 ∧ State.reset.power.mode = .reset

/-- The state after reset is in order: no command waits and the memories are in their canonical form. -/
def Obligations.ResetInOrder : Prop :=
  State.reset.pending = [] ∧ State.reset.memoryCanonical

/-- Every step keeps the canonical form of the memories, the HBM and the two firmware copies.
The model's own choices here: log entry 102 (a byte not listed reads 0). -/
def Obligations.EveryStepKeepsMemoryCanonical : Prop :=
  ∀ s t, s.memoryCanonical → step s = .next t → t.memoryCanonical

/-- Fuses only burn (R450, R455, R458): no step changes the variant, stepping, serial number, MAKER key or revoked keys, lowers the rollback floor
or the count of entries to FIELD, or brings a VOID device back.
The model's own choices here: log entries 9, 35 and 104. -/
def Obligations.FusesOnlyBurn : Prop :=
  ∀ s t, step s = .next t →
    t.fused = s.fused ∧ t.flash.revoked = s.flash.revoked ∧ s.flash.rollbackFloor ≤ t.flash.rollbackFloor ∧
    s.flash.fieldEntries ≤ t.flash.fieldEntries ∧ (s.flash.lifecycle = .void → t.flash.lifecycle = .void)

/-- PWR_LIMITS_SET is the only command that sets CAP_FLOOR, CAP_CEILING, MAINT_PERMILLE, HBM_C_FLOOR, TJ_WARN and SHED_NOTICE (R553): a row that is
neither it, nor runs another command, nor is a reset or the boot after it, leaves all six; and a PWR_LIMITS_SET that passes its checks sets all
six to its operands or, where 0 stands, their defaults. -/
def Obligations.OnlyLimitsSetChangesLimits : Prop :=
  (∀ c s t, setsLimits c = false → exec c s = .next t → t.power.limits = s.power.limits) ∧
  (∀ s t, s.pending = [] → step s = .next t → t.power.limits = s.power.limits) ∧
  (∀ s h (p : PwrLimitsSetP), Taken s h 0x0A03 true false 8 → 120 ≤ orDefault p.capFloor 200 →
    orDefault p.capFloor 200 ≤ orDefault p.capCeiling 560 → orDefault p.capCeiling 560 ≤ 560 → p.maintPermille ≤ 50 →
    32 ≤ orDefault p.hbmCFloor 64 → orDefault p.hbmCFloor 64 ≤ 232 → 70 ≤ orDefault p.tjWarn 95 → orDefault p.tjWarn 95 ≤ 100 →
    p.shedNotice ≤ 10 →
    (∀ c, s.power.opCap = some c → orDefault p.capFloor 200 ≤ c ∧ c ≤ orDefault p.capCeiling 560) →
    (∀ e ∈ s.power.profiles, ∀ c, e.2.cap = some c → orDefault p.capFloor 200 ≤ c ∧ c ≤ orDefault p.capCeiling 560) →
    s.dMin ≤ orDefault p.capFloor 200 * orDefault p.maintPermille 10 * 100 → p.flashOk = true →
    ∃ t, exec (.pwrLimitsSet h p) s = .next t ∧
      t.power.limits = (orDefault p.capFloor 200, orDefault p.capCeiling 560, orDefault p.maintPermille 10, orDefault p.hbmCFloor 64,
        orDefault p.tjWarn 95, p.shedNotice))

/-- Status bits (R490): an event sets an event source's bit; the bit stays set through every row but software's writes and the power-on resets, and
through a clear of other sources; a clear clears the bits it names; and a level source's status is its condition and takes no write. -/
def Obligations.InterruptStatusHolds : Prop :=
  (∀ s src, isLevel src = false → (raise src s).intStatus src = true) ∧
  (∀ c s t src, clearsStatus c = false → isLevel src = false → exec c s = .next t → s.intStatus src = true → t.intStatus src = true) ∧
  (∀ g mask sets s t src, isLevel src = false → exec (.intStatusClear g ⟨mask, sets⟩) s = .next t → s.intStatus src = true →
    ¬(src / 16 = g ∧ mask.testBit (src % 16) = true ∧ sets.testBit (src % 16) = false) → t.intStatus src = true) ∧
  (∀ g mask sets s t src, s.hostReach = true → isLevel src = false → exec (.intStatusClear g ⟨mask, sets⟩) s = .next t → src / 16 = g →
    mask.testBit (src % 16) = true → sets.testBit (src % 16) = false → t.intStatus src = false) ∧
  (∀ (s : State) src, isLevel src = true → s.intStatus src = s.levelCond src) ∧
  (∀ g mask sets s t src, isLevel src = true → exec (.intStatusClear g ⟨mask, sets⟩) s = .next t ∨ exec (.intSet g mask) s = .next t →
    t.intStatus src = s.intStatus src)

/-- Pending, claim and complete (R493, R494, R495, R497): a source is pending when its status and its enable bit are 1 and it is not in service, and a
group has at most one source in service; an event on a set bit merges and counts; a claim answers the source in service, or puts the lowest pending
source in service, or answers 0 and arms the group; and a COMPLETE that names the source in service ends its service, so that it pends again
while its status is 1, where any other COMPLETE only counts (and arms the group, R498).
The model's own choices here: log entry 106. -/
def Obligations.InterruptService : Prop :=
  (∀ (s : State) src, s.intPending src = true ↔
    s.intStatus src = true ∧ s.host.int.enable.testBit src = true ∧ ∀ v, s.serviceOf (src / 16) = some v → v.source ≠ src) ∧
  (∀ (s : State) g v w, s.serviceOf g = some v → s.serviceOf g = some w → v.source = w.source) ∧
  (∀ s src, isLevel src = false → s.host.int.status.testBit src = true →
    raise src s = { s with
      host.int.reassert := tset s.host.int.reassert src (min (tgetD s.host.int.reassert src 0 + 1) 255) }) ∧
  (∀ s g v, s.hostReach = true → s.serviceOf g = some v →
    exec (.intClaim g) s = .next { s with
      out.readData := 2 ^ 30 + v.source
      out.readUr := false }) ∧
  (∀ s src, s.hostReach = true → s.serviceOf (src / 16) = none → s.intPending src = true →
    (∀ n, n / 16 = src / 16 → n < src → s.intPending n = false) →
    exec (.intClaim (src / 16)) s = .next { s with
      out.readData := 2 ^ 31 + src
      out.readUr := false
      host.int.inService := tset s.host.int.inService (src / 16) ⟨src, isLevel src, true⟩
      host.int.lastClaim := tset s.host.int.lastClaim (src / 16) src }) ∧
  (∀ s g, s.hostReach = true → s.serviceOf g = none → (∀ n, n / 16 = g → s.intPending n = false) →
    exec (.intClaim g) s = .next { s with
      out.readData := 0
      out.readUr := false
      host.int.armed := setBit s.host.int.armed g true }) ∧
  (∀ s src v, s.hostReach = true → s.serviceOf (src / 16) = some v → v.source = src →
    ∃ t, exec (.intComplete (src / 16) src) s = .next t ∧ t.serviceOf (src / 16) = none ∧
      t = { s with
        host.int.armed := setBit s.host.int.armed (src / 16) true
        host.int.inService := t.host.int.inService } ∧
      (∀ g, g ≠ src / 16 → t.serviceOf g = s.serviceOf g) ∧
      t.intPending src = (s.intStatus src && s.host.int.enable.testBit src)) ∧
  (∀ s g src, s.hostReach = true → (∀ v, s.serviceOf g = some v → v.source ≠ src) →
    exec (.intComplete g src) s = .next { s with
      host.int.armed := setBit s.host.int.armed g true
      host.int.badComplete := (s.host.int.badComplete + 1) % 2 ^ 32 })

/-- The checks of a command frame in the order of R413, steps 1 to 10, for every command whose turn has come (R422, R423; any other leaves the state):
the first that fails gives the status, the reply has no
results, and nothing but the records changes. R407 and R416 are two of them; a SYS_IDENTITY frame with EPOCH 0 is never rejected for its EPOCH. A DMA flag in a frame
that is executed is a descriptor fault (R412), and where the EPOCH record could not be written only SYS_IDENTITY is accepted (R415).
The model's own choices here: log entries 5, 6, 108 and 109. -/
def Obligations.FrameChecks : Prop :=
  (∀ c s h b, frameOf c = some (h, b) → exec c s = .next (ocfRun bodyOf c h b s)) ∧
  (∀ c s h b, frameOf c = some (h, b) → s.accepts = false ∨ s.mayStart b.opcode b.changes h = false → exec c s = .next s) ∧
  (∀ c s h b, frameOf c = some (h, b) → s.accepts = true → s.mayStart b.opcode b.changes h = true → b.opcode ≠ 0x0520 →
    h.magic ≠ 0x4F48 → Refused c h b.opcode s 0x0101 0xFFFF) ∧
  (∀ c s h b, frameOf c = some (h, b) → s.accepts = true → s.mayStart b.opcode b.changes h = true → b.opcode ≠ 0x0520 →
    h.magic = 0x4F48 → h.version ≠ 1 →
    Refused c h b.opcode s 0x0102 0xFFFF) ∧
  (∀ c s h b, frameOf c = some (h, b) → s.accepts = true → s.mayStart b.opcode b.changes h = true → b.opcode ≠ 0x0520 →
    h.magic = 0x4F48 → h.version = 1 →
    h.frameLen > h.transport.limit → Refused c h b.opcode s 0x0104 0xFFFF) ∧
  (∀ c s h b, frameOf c = some (h, b) → s.accepts = true → s.mayStart b.opcode b.changes h = true → b.opcode ≠ 0x0520 →
    h.magic = 0x4F48 → h.version = 1 →
    h.frameLen ≤ h.transport.limit → h.frameLen > h.present → Refused c h b.opcode s 0x0103 0xFFFF) ∧
  (∀ c s h b, frameOf c = some (h, b) → s.accepts = true → s.mayStart b.opcode b.changes h = true → b.opcode ≠ 0x0520 →
    h.magic = 0x4F48 → h.version = 1 →
    h.frameLen ≤ h.transport.limit → h.frameLen ≤ h.present →
    (4 ≤ h.role ∨ 64 ≤ h.flags ∨ h.reserved ≠ 0 ∨ 4096 ≤ h.sender ∨ h.seq = 0 ∨ h.flags.testBit 0 = true ∨ h.flags.testBit 1 = true) →
    Refused c h b.opcode s 0x0106 0xFFFF) ∧
  (∀ c s h b, frameOf c = some (h, b) → s.accepts = true → s.mayStart b.opcode b.changes h = true → b.opcode ≠ 0x0520 →
    headerError h = none → h.isDma = true →
    Refused c h b.opcode s 0x0109 0xFFFF) ∧
  (∀ c s h b, frameOf c = some (h, b) → s.accepts = true → s.mayStart b.opcode b.changes h = true → b.opcode ≠ 0x0520 →
    headerError h = none → h.isDma = false → h.role = 0 →
    (∀ k, h.transport ≠ .mailbox k) → h.transport ≠ .compat → (∀ k a n, h.transport ≠ .dma k a n) → Refused c h b.opcode s 0x0206 0xFFFF) ∧
  (∀ c s h b, frameOf c = some (h, b) → s.accepts = true → s.mayStart b.opcode b.changes h = true → b.opcode ≠ 0x0520 →
    headerError h = none → h.isDma = false →
    (h.role = 0 → h.transport.acceptsHost = true) → s.ocf.identityOnly = true → b.opcode ≠ 0x0101 → Refused c h b.opcode s 0x0401 0xFFFF) ∧
  (∀ c s h b, frameOf c = some (h, b) → s.accepts = true → s.mayStart b.opcode b.changes h = true → b.opcode ≠ 0x0520 →
    headerError h = none → h.isDma = false →
    (h.role = 0 → h.transport.acceptsHost = true) → (b.opcode = 0x0101 ∨ s.ocf.identityOnly = false) → h.epoch ≠ s.ocf.epoch →
    ¬(b.opcode = 0x0101 ∧ h.epoch = 0) → Refused c h b.opcode s 0x0207 0xFFFF) ∧
  (∀ (s : State) (h : Ocf) key, h.epoch = 0 → s.gate h 0x0101 false false ≠ .reject 0x0207 ∧
    (s.gate { h with epoch := s.ocf.epoch } 0x0101 false false = .pass key → h.role = 0 → s.gate h 0x0101 false false = .pass key)) ∧
  (∀ c s h b w, frameOf c = some (h, b) → s.accepts = true → s.mayStart b.opcode b.changes h = true → b.opcode ≠ 0x0520 →
    headerError h = none → h.isDma = false →
    (h.role = 0 → h.transport.acceptsHost = true) → (b.opcode = 0x0101 ∨ s.ocf.identityOnly = false) → h.epoch = s.ocf.epoch →
    s.windowOf h = some w → h.seq + 64 ≤ w.h → Refused c h b.opcode s 0x0205 0xFFFF) ∧
  (∀ c s h b, frameOf c = some (h, b) → s.accepts = true → s.mayStart b.opcode b.changes h = true → b.opcode ≠ 0x0520 →
    headerError h = none → h.isDma = false →
    (h.role = 0 → h.transport.acceptsHost = true) → (b.opcode = 0x0101 ∨ s.ocf.identityOnly = false) → h.epoch = s.ocf.epoch →
    s.windowOf h = none → h.seq ≤ tgetD s.ocf.floors h.role 0 → Refused c h b.opcode s 0x0205 0xFFFF) ∧
  (∀ c s h b, frameOf c = some (h, b) → s.accepts = true → s.mayStart b.opcode b.changes h = true → b.opcode ≠ 0x0520 →
    headerError h = none → h.isDma = false →
    (h.role = 0 → h.transport.acceptsHost = true) → (b.opcode = 0x0101 ∨ s.ocf.identityOnly = false) → h.epoch = s.ocf.epoch →
    s.seqGate b.opcode h = none → s.hasRight h b.opcode b.changes b.toFactory = false → Refused c h b.opcode s 0x0203 0xFFFF) ∧
  (∀ c s h b, frameOf c = some (h, b) → s.accepts = true → s.mayStart b.opcode b.changes h = true → b.opcode ≠ 0x0520 →
    headerError h = none → h.isDma = false →
    (h.role = 0 → h.transport.acceptsHost = true) → (b.opcode = 0x0101 ∨ s.ocf.identityOnly = false) → h.epoch = s.ocf.epoch →
    s.seqGate b.opcode h = none → s.hasRight h b.opcode b.changes b.toFactory = true → s.lifecycleAccepts h b.opcode b.changes = false →
    Refused c h b.opcode s 0x0204 0xFFFF) ∧
  (∀ c s h b, frameOf c = some (h, b) → s.accepts = true → s.mayStart b.opcode b.changes h = true → b.opcode ≠ 0x0520 →
    headerError h = none → h.isDma = false → h.role ≠ 0 →
    (b.opcode = 0x0101 ∨ s.ocf.identityOnly = false) → h.epoch = s.ocf.epoch → s.seqGate b.opcode h = none →
    s.hasRight h b.opcode b.changes b.toFactory = true → s.lifecycleAccepts h b.opcode b.changes = true → s.keyOf h = none →
    Refused c h b.opcode s 0x0202 0xFFFF)

/-- Sequence windows (R417): the check answers fresh exactly for a SEQ above the window or one of its last 64 that is not marked, replay below
them, seen for a marked one; recording a fresh SEQ marks it, keeps the marks that still lie in the window, and marks nothing else; so a SEQ once recorded is
never fresh again, whatever is recorded after it. -/
def Obligations.SequenceWindows : Prop :=
  (∀ (w : Window) q, (w.check q = .fresh ↔ w.h < q ∨ w.h < q + 64 ∧ w.holds q = false) ∧ (w.check q = .replay ↔ q + 64 ≤ w.h) ∧
    (w.check q = .seen ↔ w.holds q = true)) ∧
  (∀ (w : Window) q r, w.check q = .fresh → w.map < 2 ^ 64 →
    ((w.record q).holds r = true ↔ r = q ∨ w.holds r = true ∧ (w.record q).h < r + 64) ∧ (w.record q).h = max w.h q ∧ (w.record q).map < 2 ^ 64) ∧
  (∀ (w : Window) (qs : List Nat) q, w.map < 2 ^ 64 → w.check q = .fresh →
    (forEach qs (w.record q) (fun x v => if v.check x = .fresh then v.record x else v)).check q ≠ .fresh) ∧
  (∀ q, 0 < q → ({} : Window).check q = .fresh)

/-- The classifier (R72, R74): an entry matches when every key bit equals the value bit wherever the mask bit is 1 (R73); a search answers the
matching entry of lowest address among the banks searched, and none when nothing matches; a pass whose class has no usable profile searches nothing and takes
the port's miss action, as does a search that finds none; and a search that finds an entry takes its action and counts on it alone (R78).
The model's own choices here: log entry 67. -/
def Obligations.ClassifierSearch : Prop :=
  (∀ (e : TcamEntry) key, e.hits key = true ↔ ∀ i, e.mask.testBit i = true → key.testBit i = e.value.testBit i) ∧
  (∀ (p : Pipe) mask key a, p.search mask key = some a ↔
    (∃ e, (a, e) ∈ p.tcam ∧ p.searches mask (a / 2048) = true ∧ e.hits key = true) ∧
    ∀ b e, (b, e) ∈ p.tcam → p.searches mask (b / 2048) = true → e.hits key = true → a ≤ b) ∧
  (∀ (p : Pipe) mask key, p.search mask key = none ↔
    ∀ b e, (b, e) ∈ p.tcam → p.searches mask (b / 2048) = true → e.hits key = false) ∧
  (∀ pipe port cls m px d s, (s.portClass port).map.getD cls 0xFF = 0xFF →
    classify pipe port cls m px d s = ((s.portClass port).miss, s)) ∧
  (∀ pipe port cls m px d s, (tgetD (s.pipe pipe).searchProfiles ((s.portClass port).map.getD cls 0xFF) 0).testBit 31 = false →
    classify pipe port cls m px d s = ((s.portClass port).miss, s)) ∧
  (∀ pipe port cls m px d s word key, (s.portClass port).map.getD cls 0xFF ≠ 0xFF →
    word = tgetD (s.pipe pipe).searchProfiles ((s.portClass port).map.getD cls 0xFF) 0 → word.testBit 31 = true →
    key = keyOfSelectors m px d cls ((s.pipe pipe).selectors (field 25 21 word)) →
    ((s.pipe pipe).search (word % 65536) key = none → classify pipe port cls m px d s = ((s.portClass port).miss, s)) ∧
    (∀ a e, (s.pipe pipe).search (word % 65536) key = some a → tget (s.pipe pipe).tcam a = some e →
      classify pipe port cls m px d s = (e.action, s.setPipe pipe { s.pipe pipe with
        tcam := tset (s.pipe pipe).tcam a { e with
          pkts := inc64 e.pkts
          bytes := add64 e.bytes (d.length + 4) } })))

/-- Rejections that a rule names (R67, R97, R426, R446, R540): a write to a fixed control match, an empty PIPE_MASK, a second open group or a ninth, the
last ACTIVE INSTALLER slot in FIELD, a cancel that names no job. Each leaves everything but the records as it stood. A SEC_KEY_CLEAR that runs
empties its slot.
The model's own choices here: log entry 88. -/
def Obligations.CommandRejections : Prop :=
  (∀ s h (p : ControlMatchWriteP), Taken s h 0x0308 true false 16 → p.entry ≤ 3 → Refused (.controlMatchWrite h p) h 0x0308 s 0x0131 0) ∧
  (∀ s h state e, Taken s h 0x0301 true false 100 → Refused (.parseStateWrite h 0 state e) h 0x0301 s 0x0131 0) ∧
  (∀ s h, Taken s h 0x0302 true false 4 → Refused (.parseGraphCommit h 0) h 0x0302 s 0x0131 0) ∧
  (∀ s h profile (sel : List Nat), Taken s h 0x0304 true false (4 + 4 * sel.length) → sel.length = 20 ∨ sel.length = 40 →
    Refused (.keyProfileWrite h 0 profile sel) h 0x0304 s 0x0131 0) ∧
  (∀ s h profile word, Taken s h 0x0305 true false 8 → Refused (.searchProfileWrite h 0 profile word) h 0x0305 s 0x0131 0) ∧
  (∀ s h pair mode, Taken s h 0x0309 true false 4 → Refused (.bankModeWrite h 0 pair mode) h 0x0309 s 0x0131 0) ∧
  (∀ s h (p : ListCreateP), Taken s h 0x030A true false 8 → p.pipeMask = 0 → Refused (.listCreate h p) h 0x030A s 0x0131 0) ∧
  (∀ s h list, Taken s h 0x030B true false 4 → Refused (.listDelete h 0 list) h 0x030B s 0x0131 0) ∧
  (∀ s h (p : RuleInsertP), Taken s h 0x030C true false 184 → p.pipeMask = 0 → ∃ d, Refused (.ruleInsert h p) h 0x030C s 0x0131 d) ∧
  (∀ s h list spacing, Taken s h 0x0310 true false 4 → Refused (.listRespace h 0 list spacing) h 0x0310 s 0x0131 0) ∧
  (∀ s h (p : TcamRawWriteP), Taken s h 0x0311 true false 184 → p.pipeMask = 0 → Refused (.tcamRawWrite h p) h 0x0311 s 0x0131 0) ∧
  (∀ s h slots, Taken s h 0x0313 true false 4 → Refused (.recircConfig h 0 slots) h 0x0313 s 0x0131 0) ∧
  (∀ s h timeout, Taken s h 0x0104 true false 4 → 10 ≤ timeout → timeout ≤ 60000 →
    ((∃ g ∈ tvals s.ocf.groups, g.sender = h.senderKey) ∨ 8 ≤ s.ocf.groups.length) →
    Refused (.sysGroupOpen h timeout) h 0x0104 s 0x0302 0xFFFF) ∧
  (∀ s h keyId ok, Taken s h 0x0B02 true false 4 → keyId ≤ 3 → h.role ≠ 3 → s.roles.lifecycle = .field → s.installerKeys = [8 + keyId] →
    Refused (.secKeyClear h 2 keyId ok) h 0x0B02 s 0x04B2 0xFFFF) ∧
  (∀ s h role keyId, Taken s h 0x0B02 true false 4 → role = 1 ∨ role = 2 → keyId ≤ 3 →
    (h.role = 3 → role = 2 ∧ s.roles.lifecycle = .factory) → ¬(role = 2 ∧ s.roles.lifecycle = .field ∧ s.installerKeys = [8 + keyId]) →
    ∃ t, Runs (.secKeyClear h role keyId true) h 0x0B02 s [] t ∧ tget t.roles.keys (4 * role + keyId) = none ∧
      tget t.flash.keys (4 * role + keyId) = none) ∧
  (∀ s h handle gen, Taken s h 0x0D02 true false 4 →
    (∀ i, s.hostJobOf handle gen = some i → i.state = .done ∨ i.state = .cancelled) →
    Refused (.jobCancel h handle gen) h 0x0D02 s 0x04D3 0)

/-- The audit ring (R456 to R458): an entry that a command or an event makes takes the next ENTRY_NO, names the head as PREV_LINK, becomes the head, and is
covered by the flash's reservation; so a chained ring stays chained; under AUDIT_HOLD an entry that would overwrite an unexported one is held
back (R460). Every state-changing command that passes step 11 of R413 and fails step 13 leaves a COMMAND
entry and a RESULT entry with its status (Table 10-8).
The model's own choices here: log entry 105. -/
def Obligations.AuditChain : Prop :=
  (∀ s kind data, s.roles.audit.chained → (auditEvent kind data s).roles.audit.chained) ∧
  (∀ s kind opcode h status data, s.roles.audit.chained → (auditCommand kind opcode h status data s).roles.audit.chained) ∧
  (∀ s kind opcode h status data, s.roles.audit.full = true → kind ∉ [0x03, 0x05, 0x06] → ∃ e, auditCommand kind opcode h status data s =
    { s with roles.audit.heldBack := s.roles.audit.heldBack ++ [e] }) ∧
  (∀ s kind opcode h status data, s.roles.audit.full = false ∨ kind ∈ [0x03, 0x05, 0x06] → ∃ e t, auditCommand kind opcode h status data s = t ∧
    t.roles.audit.ring = lastN 4096 (s.roles.audit.ring ++ [e]) ∧ t.roles.audit.last = e.entryNo ∧ t.roles.audit.head = e.link ∧
    e.entryNo ≤ t.flash.reservation ∧ e.entryNo = s.roles.audit.last + 1 ∧ e.prevLink = s.roles.audit.head ∧ e.kind = kind ∧ e.opcode = opcode ∧
    e.role = h.role ∧ e.keyId = h.keyId ∧ e.sender = h.sender ∧ e.seq = h.seq ∧ e.status = status ∧ e.data = data ∧ e.epoch = s.ocf.epoch ∧
    e.digest = beNat (sha256 (fit h.length h.params))) ∧
  (∀ c s h b key, frameOf c = some (h, b) → s.accepts = true → s.mayStart b.opcode true h = true → b.changes = true →
    s.gate h b.opcode true b.toFactory = .pass key →
    (s.roles.audit.hold = false ∨ s.roles.audit.ring.length ≤ 4094) → h.isMember = false → b.lenOk h.length = false →
    ∃ t e f, exec c s = .next t ∧ t.roles.audit.ring = lastN 4096 (lastN 4096 (s.roles.audit.ring ++ [e]) ++ [f]) ∧
      e.kind = 0x01 ∧ e.opcode = b.opcode ∧ e.seq = h.seq ∧ e.entryNo = s.roles.audit.last + 1 ∧ e.prevLink = s.roles.audit.head ∧
      f.kind = 0x02 ∧ f.opcode = b.opcode ∧ f.seq = h.seq ∧ f.status = 0x0107 ∧ f.entryNo = e.entryNo + 1 ∧ f.prevLink = e.link)

/-- Flow records as bytes (Tables 3-3 and 3-4): a record with fields in their ranges takes 64 bytes, or 128 where wide, and is read back from them
as it was; so a record written to a Deep Lake slot of a memory in canonical form is the record that the slot's memory then holds, and no byte
outside the slot changes. -/
def Obligations.RecordCodec : Prop :=
  (∀ x : Rec, x.encode.length = if x.wide then 128 else 64) ∧
  (∀ x : Rec, x.InRange → decodeRec x.encode = some x) ∧
  (∀ (s : State) r loc (x : Rec), s.memoryCanonical → x.InRange → (s.putLake r loc x).lakeMem r loc x.wide = some x) ∧
  (∀ (s : State) r loc (x : Rec) a, s.memoryCanonical → (a < slotAddr r loc ∨ slotAddr r loc + x.encode.length ≤ a) →
    memGet (s.putLake r loc x).hbm.mem a = memGet s.hbm.mem a)
end

