-- ==== Sys2Proof/Laws/Bits.lean ====
section
/-! SUPPORT. What reading a bit of a bitmap gives after a bit of it was set or cleared. -/

namespace Sys2Proof.Machine

/-- Adding a power of two whose bit is clear sets that bit and no other. -/
theorem testBit_add_two_pow {n i : Nat} (h : n.testBit i = false) (j : Nat) :
    (n + 2 ^ i).testBit j = if j = i then true else n.testBit j := by
  rcases Nat.lt_trichotomy j i with k | k | k
  · rw [Nat.add_comm, Nat.testBit_two_pow_add_gt k, if_neg (by omega)]
  · rw [k, Nat.add_comm, Nat.testBit_two_pow_add_eq, h, if_pos rfl]; rfl
  · rw [if_neg (by omega)]
    obtain ⟨d, rfl⟩ : ∃ d, j = d + (i + 1) := ⟨j - (i + 1), by omega⟩
    have hmod : n % 2 ^ (i + 1) < 2 ^ i := by
      have hb : (n % 2 ^ (i + 1)).testBit i = false := by rw [Nat.testBit_mod_two_pow]; simp [h]
      by_contra hge
      have hlt : n % 2 ^ (i + 1) < 2 ^ (i + 1) := Nat.mod_lt _ (Nat.two_pow_pos _)
      have := Nat.testBit_of_two_pow_le_and_two_pow_add_one_gt (Nat.le_of_not_lt hge) hlt
      rw [hb] at this
      exact absurd this (by decide)
    have hdiv : (n + 2 ^ i) / 2 ^ (i + 1) = n / 2 ^ (i + 1) := by
      have hn := Nat.div_add_mod n (2 ^ (i + 1))
      have hp : 2 ^ (i + 1) = 2 * 2 ^ i := by rw [Nat.pow_succ, Nat.mul_comm]
      have hpos : 0 < 2 ^ (i + 1) := Nat.two_pow_pos _
      refine Nat.div_eq_of_lt_le ?_ ?_
      · rw [Nat.mul_comm]; omega
      · rw [Nat.succ_mul, Nat.mul_comm (n / 2 ^ (i + 1))]; omega
    have key : ∀ m : Nat, m.testBit (d + (i + 1)) = (m / 2 ^ (i + 1)).testBit d := fun m => by
      rw [← Nat.shiftRight_eq_div_pow, Nat.testBit_shiftRight, Nat.add_comm]
    rw [key, key, hdiv]

/-- Bit `i` reads as it was set, and every other bit as it was. -/
theorem testBit_setBit (n i : Nat) (b : Bool) (j : Nat) : (setBit n i b).testBit j = if j = i then b else n.testBit j := by
  unfold setBit
  split
  · rename_i h
    split
    · rename_i e; rw [e]; exact h
    · rfl
  · rename_i h
    cases b with
    | true => exact testBit_add_two_pow (by simpa using h) j
    | false =>
      have ht : n.testBit i = true := by simpa using h
      have hle : 2 ^ i ≤ n := Nat.ge_two_pow_of_testBit ht
      obtain ⟨m, rfl⟩ : ∃ m, n = m + 2 ^ i := ⟨n - 2 ^ i, by omega⟩
      have hm : m.testBit i = false := by
        have := Nat.testBit_two_pow_add_eq m i
        rw [Nat.add_comm, ht] at this
        cases hb : m.testBit i with
        | false => rfl
        | true => rw [hb] at this; exact absurd this (by decide)
      have := testBit_add_two_pow hm j
      simp only [Bool.false_eq_true, if_false, Nat.add_sub_cancel]
      split
      · rename_i e; rw [e]; exact hm
      · rename_i e; rw [this, if_neg e]

@[simp] theorem testBit_setBit_self (n i : Nat) (b : Bool) : (setBit n i b).testBit i = b := by rw [testBit_setBit, if_pos rfl]

theorem testBit_setBit_of_ne {i j : Nat} (h : j ≠ i) (n : Nat) (b : Bool) : (setBit n i b).testBit j = n.testBit j := by
  rw [testBit_setBit, if_neg h]

end Sys2Proof.Machine
end

