-- ==== Sys2Proof/Laws/Memory.lean ====
section
/-! SUPPORT. Byte memory: every operation keeps the canonical form, a read after a write gives the byte written, and every other byte stays. -/

namespace Sys2Proof.Machine

theorem memWf_tail {c : Host.Cell} {m : List Host.Cell} (h : memWf (c :: m) = true) : memWf m = true := by
  cases m with
  | nil => rfl
  | cons d m => simp only [memWf, Bool.and_eq_true] at h; exact h.2

/-- Every listed byte differs from 0, and the addresses rise strictly. -/
theorem memWf_iff (m : List Host.Cell) : memWf m = true ↔ (∀ c ∈ m, c.2 ≠ 0#8) ∧ m.Pairwise (fun c d => c.1 < d.1) := by
  induction m with
  | nil => simp [memWf]
  | cons c m ih =>
    cases m with
    | nil => simp [memWf]
    | cons d m =>
      simp only [memWf, Bool.and_eq_true, bne_iff_ne, ne_eq, decide_eq_true_eq, ih, List.mem_cons, List.pairwise_cons]
      constructor
      · rintro ⟨⟨hb, hlt⟩, hne, hd, hp⟩
        refine ⟨?_, ?_, hd, hp⟩
        · rintro x (rfl | hx)
          · exact hb
          · exact hne x hx
        · rintro x (rfl | hx)
          · exact hlt
          · exact Nat.lt_trans hlt (hd x hx)
      · rintro ⟨hne, hc, hd, hp⟩
        exact ⟨⟨hne c (.inl rfl), hc d (.inl rfl)⟩, fun x hx => hne x (.inr hx), hd, hp⟩

theorem memWf_filter (p : Host.Cell → Bool) {m : List Host.Cell} (h : memWf m = true) : memWf (m.filter p) = true := by
  rw [memWf_iff] at *
  exact ⟨fun c hc => h.1 c (List.mem_filter.1 hc).1, h.2.filter p⟩

theorem memZero_wf (a n : Nat) {m : List Host.Cell} (h : memWf m = true) : memWf (memZero m a n) = true := memWf_filter _ h

/-- A cell that a write leaves was there before, or is the one written. -/
theorem mem_memSet {m : List Host.Cell} {k : Nat} {v : Byte} {c : Host.Cell} (h : c ∈ memSet m k v) : c ∈ m ∨ (c = (k, v) ∧ v ≠ 0#8) := by
  induction m with
  | nil =>
    unfold memSet at h
    split at h
    · exact absurd h List.not_mem_nil
    · exact .inr ⟨List.mem_singleton.1 h, by assumption⟩
  | cons d m ih =>
    obtain ⟨a, b⟩ := d
    unfold memSet at h
    split at h
    · split at h
      · exact .inl h
      · rcases List.mem_cons.1 h with e | e
        · exact .inr ⟨e, by assumption⟩
        · exact .inl e
    · split at h
      · split at h
        · exact .inl (List.mem_cons_of_mem _ h)
        · rcases List.mem_cons.1 h with e | e
          · exact .inr ⟨e, by assumption⟩
          · exact .inl (List.mem_cons_of_mem _ e)
      · rcases List.mem_cons.1 h with e | e
        · exact .inl (e ▸ List.mem_cons_self)
        · rcases ih e with i | i
          · exact .inl (List.mem_cons_of_mem _ i)
          · exact .inr i

theorem memSet_wf (k : Nat) (v : Byte) {m : List Host.Cell} (h : memWf m = true) : memWf (memSet m k v) = true := by
  rw [memWf_iff] at *
  refine ⟨fun c hc => ?_, ?_⟩
  · rcases mem_memSet hc with e | ⟨e, n⟩
    · exact h.1 c e
    · rw [e]; exact n
  · obtain ⟨hz, hp⟩ := h
    induction m with
    | nil =>
      unfold memSet
      split
      · exact List.Pairwise.nil
      · exact List.pairwise_singleton _ _
    | cons d m ih =>
      obtain ⟨a, b⟩ := d
      obtain ⟨hd, ht⟩ := List.pairwise_cons.1 hp
      unfold memSet
      split
      · rename_i hlt
        split
        · exact hp
        · refine List.pairwise_cons.2 ⟨fun x hx => ?_, hp⟩
          rcases List.mem_cons.1 hx with e | e
          · rw [e]; exact hlt
          · exact Nat.lt_trans hlt (hd x e)
      · rename_i hge
        split
        · rename_i he
          split
          · exact ht
          · exact List.pairwise_cons.2 ⟨fun x hx => he ▸ hd x hx, ht⟩
        · rename_i hne
          refine List.pairwise_cons.2 ⟨fun x hx => ?_, ih (fun c hc => hz c (List.mem_cons_of_mem _ hc)) ht⟩
          rcases mem_memSet hx with e | ⟨e, _⟩
          · exact hd x e
          · rw [e]; exact Nat.lt_of_le_of_ne (Nat.le_of_not_lt hge) hne

theorem memWrite_wf (a : Nat) (bs : Bytes) {m : List Host.Cell} (h : memWf m = true) : memWf (memWrite m a bs) = true := by
  induction bs generalizing a m with
  | nil => exact h
  | cons b bs ih => exact ih (a + 1) (memSet_wf a b h)

/-- A read after a write to the same address gives the byte written. -/
theorem memGet_memSet_self (k : Nat) (v : Byte) {m : List Host.Cell} (h : memWf m = true) : memGet (memSet m k v) k = v := by
  have zero : ∀ m : List Host.Cell, (∀ c ∈ m, k < c.1) → memGet m k = 0#8 := by
    intro m
    induction m with
    | nil => intro _; rfl
    | cons c m ih =>
      intro hc
      have := hc c List.mem_cons_self
      simp only [memGet]
      rw [if_neg (by omega)]
      exact ih fun x hx => hc x (List.mem_cons_of_mem _ hx)
  induction m with
  | nil =>
    unfold memSet
    split
    · rename_i hv; rw [hv]; rfl
    · simp [memGet]
  | cons d m ih =>
    obtain ⟨a, b⟩ := d
    have hp := ((memWf_iff _).1 h).2
    obtain ⟨hd, ht⟩ := List.pairwise_cons.1 hp
    unfold memSet
    split
    · rename_i hlt
      split
      · rename_i hv
        rw [hv]
        refine zero _ fun x hx => ?_
        rcases List.mem_cons.1 hx with e | e
        · rw [e]; exact hlt
        · exact Nat.lt_trans hlt (hd x e)
      · simp [memGet]
    · split
      · rename_i he
        split
        · rename_i hv
          rw [hv]
          exact zero _ fun x hx => he ▸ hd x hx
        · simp [memGet]
      · rename_i hne
        simp only [memGet, if_neg hne]
        exact ih (memWf_tail h)

/-- A write leaves every other address as it was. -/
theorem memGet_memSet_of_ne {k j : Nat} (v : Byte) (hj : j ≠ k) (m : List Host.Cell) : memGet (memSet m k v) j = memGet m j := by
  induction m with
  | nil =>
    unfold memSet
    split
    · rfl
    · simp [memGet, Ne.symm hj]
  | cons d m ih =>
    obtain ⟨a, b⟩ := d
    unfold memSet
    split
    · split
      · rfl
      · simp [memGet, Ne.symm hj]
    · split
      · rename_i he
        split
        · simp only [memGet]; rw [if_neg (by rw [he]; exact Ne.symm hj)]
        · simp only [memGet]; rw [if_neg (Ne.symm hj), if_neg (by rw [he]; exact Ne.symm hj)]
      · simp only [memGet, ih]

end Sys2Proof.Machine
end

