-- ==== Sys2Proof/Laws/State.lean ====
section
/-! SUPPORT. What each named update of the state leaves: every other part, one lemma a part, and the reading of what it has put. -/

namespace Sys2Proof.Machine

variable (s : State)

/-! ## Tables -/

@[simp] theorem tget_tset_self {α : Type} (t : Tab α) (k : Nat) (v : α) : tget (tset t k v) k = some v := by
  induction t with
  | nil => simp [tset, tget]
  | cons e t ih =>
    obtain ⟨j, w⟩ := e
    unfold tset
    split
    · simp [tget]
    · split
      · simp [tget, *]
      · simp [tget, *]

theorem tget_tset_of_ne {α : Type} (t : Tab α) {k j : Nat} (v : α) (h : j ≠ k) : tget (tset t k v) j = tget t j := by
  induction t with
  | nil => simp [tset, tget, Ne.symm h]
  | cons e t ih =>
    obtain ⟨i, w⟩ := e
    unfold tset
    split
    · simp [tget, Ne.symm h]
    · split
      · rename_i h2
        subst h2
        simp [tget, Ne.symm h]
      · simp [tget, ih]

@[simp] theorem tgetD_tset_self {α : Type} (t : Tab α) (k : Nat) (v d : α) : tgetD (tset t k v) k d = v := by simp [tgetD]

theorem tgetD_tset_of_ne {α : Type} (t : Tab α) {k j : Nat} (v d : α) (h : j ≠ k) : tgetD (tset t k v) j d = tgetD t j d := by
  simp [tgetD, tget_tset_of_ne t v h]

@[simp] theorem tget_tdel_self {α : Type} (t : Tab α) (k : Nat) : tget (tdel t k) k = none := by
  induction t with
  | nil => rfl
  | cons e t ih =>
    obtain ⟨j, w⟩ := e
    unfold tdel at *
    rw [List.filter_cons]
    split
    · simp_all [tget]
    · exact ih

theorem tget_tdel_of_ne {α : Type} (t : Tab α) {k j : Nat} (h : j ≠ k) : tget (tdel t k) j = tget t j := by
  induction t with
  | nil => rfl
  | cons e t ih =>
    obtain ⟨i, w⟩ := e
    unfold tdel at *
    rw [List.filter_cons]
    split
    · simp_all [tget]
    · have hi : i = k := by simp_all
      subst hi
      simp [tget, Ne.symm h, ih]

/-! ## Interrupt sources: an event changes the interrupt controller only -/

theorem raise_eq (n : Nat) (s : State) : ∃ c, raise n s = { s with host.int := c } := by
  unfold raise
  split
  · exact ⟨s.host.int, rfl⟩
  · split
    · exact ⟨_, rfl⟩
    · exact ⟨_, rfl⟩

theorem raiseFirst_eq (n : Nat) (s : State) : ∃ c, raiseFirst n s = { s with host.int := c } := by
  unfold raiseFirst
  split
  · exact ⟨s.host.int, rfl⟩
  · exact raise_eq n s

@[simp] theorem raise_pending (n : Nat) (s : State) : (raise n s).pending = s.pending := by obtain ⟨c, h⟩ := raise_eq n s; rw [h]
@[simp] theorem raise_ocf (n : Nat) (s : State) : (raise n s).ocf = s.ocf := by obtain ⟨c, h⟩ := raise_eq n s; rw [h]
@[simp] theorem raise_roles (n : Nat) (s : State) : (raise n s).roles = s.roles := by obtain ⟨c, h⟩ := raise_eq n s; rw [h]
@[simp] theorem raise_flash (n : Nat) (s : State) : (raise n s).flash = s.flash := by obtain ⟨c, h⟩ := raise_eq n s; rw [h]
@[simp] theorem raise_boot (n : Nat) (s : State) : (raise n s).boot = s.boot := by obtain ⟨c, h⟩ := raise_eq n s; rw [h]
@[simp] theorem raise_power (n : Nat) (s : State) : (raise n s).power = s.power := by obtain ⟨c, h⟩ := raise_eq n s; rw [h]
@[simp] theorem raise_time (n : Nat) (s : State) : (raise n s).time = s.time := by obtain ⟨c, h⟩ := raise_eq n s; rw [h]
@[simp] theorem raise_ptp (n : Nat) (s : State) : (raise n s).ptp = s.ptp := by obtain ⟨c, h⟩ := raise_eq n s; rw [h]
@[simp] theorem raise_disc (n : Nat) (s : State) : (raise n s).disc = s.disc := by obtain ⟨c, h⟩ := raise_eq n s; rw [h]
@[simp] theorem raise_ports (n : Nat) (s : State) : (raise n s).ports = s.ports := by obtain ⟨c, h⟩ := raise_eq n s; rw [h]
@[simp] theorem raise_cls (n : Nat) (s : State) : (raise n s).cls = s.cls := by obtain ⟨c, h⟩ := raise_eq n s; rw [h]
@[simp] theorem raise_fwd (n : Nat) (s : State) : (raise n s).fwd = s.fwd := by obtain ⟨c, h⟩ := raise_eq n s; rw [h]
@[simp] theorem raise_flow (n : Nat) (s : State) : (raise n s).flow = s.flow := by obtain ⟨c, h⟩ := raise_eq n s; rw [h]
@[simp] theorem raise_buf (n : Nat) (s : State) : (raise n s).buf = s.buf := by obtain ⟨c, h⟩ := raise_eq n s; rw [h]
@[simp] theorem raise_eg (n : Nat) (s : State) : (raise n s).eg = s.eg := by obtain ⟨c, h⟩ := raise_eq n s; rw [h]
@[simp] theorem raise_fab (n : Nat) (s : State) : (raise n s).fab = s.fab := by obtain ⟨c, h⟩ := raise_eq n s; rw [h]
@[simp] theorem raise_hbm (n : Nat) (s : State) : (raise n s).hbm = s.hbm := by obtain ⟨c, h⟩ := raise_eq n s; rw [h]
@[simp] theorem raise_eng (n : Nat) (s : State) : (raise n s).eng = s.eng := by obtain ⟨c, h⟩ := raise_eq n s; rw [h]
@[simp] theorem raise_out (n : Nat) (s : State) : (raise n s).out = s.out := by obtain ⟨c, h⟩ := raise_eq n s; rw [h]

/-! ## State.setVoq -/

@[simp] theorem State.setVoq_voq_self (k : Nat) (q : Voq) : (s.setVoq k q).voq k = q := tgetD_tset_self _ _ _ _
theorem State.setVoq_voq_of_ne (k : Nat) (q : Voq) {i : Nat} (h : i ≠ k) : (s.setVoq k q).voq i = s.voq i :=
  tgetD_tset_of_ne _ _ _ h
@[simp] theorem State.setVoq_pending (k : Nat) (q : Voq) : (s.setVoq k q).pending = s.pending := rfl
@[simp] theorem State.setVoq_host (k : Nat) (q : Voq) : (s.setVoq k q).host = s.host := rfl
@[simp] theorem State.setVoq_ocf (k : Nat) (q : Voq) : (s.setVoq k q).ocf = s.ocf := rfl
@[simp] theorem State.setVoq_roles (k : Nat) (q : Voq) : (s.setVoq k q).roles = s.roles := rfl
@[simp] theorem State.setVoq_flash (k : Nat) (q : Voq) : (s.setVoq k q).flash = s.flash := rfl
@[simp] theorem State.setVoq_boot (k : Nat) (q : Voq) : (s.setVoq k q).boot = s.boot := rfl
@[simp] theorem State.setVoq_power (k : Nat) (q : Voq) : (s.setVoq k q).power = s.power := rfl
@[simp] theorem State.setVoq_time (k : Nat) (q : Voq) : (s.setVoq k q).time = s.time := rfl
@[simp] theorem State.setVoq_ptp (k : Nat) (q : Voq) : (s.setVoq k q).ptp = s.ptp := rfl
@[simp] theorem State.setVoq_disc (k : Nat) (q : Voq) : (s.setVoq k q).disc = s.disc := rfl
@[simp] theorem State.setVoq_ports (k : Nat) (q : Voq) : (s.setVoq k q).ports = s.ports := rfl
@[simp] theorem State.setVoq_cls (k : Nat) (q : Voq) : (s.setVoq k q).cls = s.cls := rfl
@[simp] theorem State.setVoq_fwd (k : Nat) (q : Voq) : (s.setVoq k q).fwd = s.fwd := rfl
@[simp] theorem State.setVoq_flow (k : Nat) (q : Voq) : (s.setVoq k q).flow = s.flow := rfl
@[simp] theorem State.setVoq_eg (k : Nat) (q : Voq) : (s.setVoq k q).eg = s.eg := rfl
@[simp] theorem State.setVoq_fab (k : Nat) (q : Voq) : (s.setVoq k q).fab = s.fab := rfl
@[simp] theorem State.setVoq_hbm (k : Nat) (q : Voq) : (s.setVoq k q).hbm = s.hbm := rfl
@[simp] theorem State.setVoq_eng (k : Nat) (q : Voq) : (s.setVoq k q).eng = s.eng := rfl
@[simp] theorem State.setVoq_out (k : Nat) (q : Voq) : (s.setVoq k q).out = s.out := rfl

/-! ## State.setEgPort -/

@[simp] theorem State.setEgPort_egPort_self (k : Nat) (v : EgPort) : (s.setEgPort k v).egPort k = v := tgetD_tset_self _ _ _ _
theorem State.setEgPort_egPort_of_ne (k : Nat) (v : EgPort) {i : Nat} (h : i ≠ k) : (s.setEgPort k v).egPort i = s.egPort i :=
  tgetD_tset_of_ne _ _ _ h
@[simp] theorem State.setEgPort_pending (k : Nat) (v : EgPort) : (s.setEgPort k v).pending = s.pending := rfl
@[simp] theorem State.setEgPort_host (k : Nat) (v : EgPort) : (s.setEgPort k v).host = s.host := rfl
@[simp] theorem State.setEgPort_ocf (k : Nat) (v : EgPort) : (s.setEgPort k v).ocf = s.ocf := rfl
@[simp] theorem State.setEgPort_roles (k : Nat) (v : EgPort) : (s.setEgPort k v).roles = s.roles := rfl
@[simp] theorem State.setEgPort_flash (k : Nat) (v : EgPort) : (s.setEgPort k v).flash = s.flash := rfl
@[simp] theorem State.setEgPort_boot (k : Nat) (v : EgPort) : (s.setEgPort k v).boot = s.boot := rfl
@[simp] theorem State.setEgPort_power (k : Nat) (v : EgPort) : (s.setEgPort k v).power = s.power := rfl
@[simp] theorem State.setEgPort_time (k : Nat) (v : EgPort) : (s.setEgPort k v).time = s.time := rfl
@[simp] theorem State.setEgPort_ptp (k : Nat) (v : EgPort) : (s.setEgPort k v).ptp = s.ptp := rfl
@[simp] theorem State.setEgPort_disc (k : Nat) (v : EgPort) : (s.setEgPort k v).disc = s.disc := rfl
@[simp] theorem State.setEgPort_ports (k : Nat) (v : EgPort) : (s.setEgPort k v).ports = s.ports := rfl
@[simp] theorem State.setEgPort_cls (k : Nat) (v : EgPort) : (s.setEgPort k v).cls = s.cls := rfl
@[simp] theorem State.setEgPort_fwd (k : Nat) (v : EgPort) : (s.setEgPort k v).fwd = s.fwd := rfl
@[simp] theorem State.setEgPort_flow (k : Nat) (v : EgPort) : (s.setEgPort k v).flow = s.flow := rfl
@[simp] theorem State.setEgPort_buf (k : Nat) (v : EgPort) : (s.setEgPort k v).buf = s.buf := rfl
@[simp] theorem State.setEgPort_fab (k : Nat) (v : EgPort) : (s.setEgPort k v).fab = s.fab := rfl
@[simp] theorem State.setEgPort_hbm (k : Nat) (v : EgPort) : (s.setEgPort k v).hbm = s.hbm := rfl
@[simp] theorem State.setEgPort_eng (k : Nat) (v : EgPort) : (s.setEgPort k v).eng = s.eng := rfl
@[simp] theorem State.setEgPort_out (k : Nat) (v : EgPort) : (s.setEgPort k v).out = s.out := rfl

/-! ## State.setEgPipe -/

@[simp] theorem State.setEgPipe_egPipe_self (k : Nat) (v : EgPipe) : (s.setEgPipe k v).egPipe k = v := tgetD_tset_self _ _ _ _
theorem State.setEgPipe_egPipe_of_ne (k : Nat) (v : EgPipe) {i : Nat} (h : i ≠ k) : (s.setEgPipe k v).egPipe i = s.egPipe i :=
  tgetD_tset_of_ne _ _ _ h
@[simp] theorem State.setEgPipe_pending (k : Nat) (v : EgPipe) : (s.setEgPipe k v).pending = s.pending := rfl
@[simp] theorem State.setEgPipe_host (k : Nat) (v : EgPipe) : (s.setEgPipe k v).host = s.host := rfl
@[simp] theorem State.setEgPipe_ocf (k : Nat) (v : EgPipe) : (s.setEgPipe k v).ocf = s.ocf := rfl
@[simp] theorem State.setEgPipe_roles (k : Nat) (v : EgPipe) : (s.setEgPipe k v).roles = s.roles := rfl
@[simp] theorem State.setEgPipe_flash (k : Nat) (v : EgPipe) : (s.setEgPipe k v).flash = s.flash := rfl
@[simp] theorem State.setEgPipe_boot (k : Nat) (v : EgPipe) : (s.setEgPipe k v).boot = s.boot := rfl
@[simp] theorem State.setEgPipe_power (k : Nat) (v : EgPipe) : (s.setEgPipe k v).power = s.power := rfl
@[simp] theorem State.setEgPipe_time (k : Nat) (v : EgPipe) : (s.setEgPipe k v).time = s.time := rfl
@[simp] theorem State.setEgPipe_ptp (k : Nat) (v : EgPipe) : (s.setEgPipe k v).ptp = s.ptp := rfl
@[simp] theorem State.setEgPipe_disc (k : Nat) (v : EgPipe) : (s.setEgPipe k v).disc = s.disc := rfl
@[simp] theorem State.setEgPipe_ports (k : Nat) (v : EgPipe) : (s.setEgPipe k v).ports = s.ports := rfl
@[simp] theorem State.setEgPipe_cls (k : Nat) (v : EgPipe) : (s.setEgPipe k v).cls = s.cls := rfl
@[simp] theorem State.setEgPipe_fwd (k : Nat) (v : EgPipe) : (s.setEgPipe k v).fwd = s.fwd := rfl
@[simp] theorem State.setEgPipe_flow (k : Nat) (v : EgPipe) : (s.setEgPipe k v).flow = s.flow := rfl
@[simp] theorem State.setEgPipe_buf (k : Nat) (v : EgPipe) : (s.setEgPipe k v).buf = s.buf := rfl
@[simp] theorem State.setEgPipe_fab (k : Nat) (v : EgPipe) : (s.setEgPipe k v).fab = s.fab := rfl
@[simp] theorem State.setEgPipe_hbm (k : Nat) (v : EgPipe) : (s.setEgPipe k v).hbm = s.hbm := rfl
@[simp] theorem State.setEgPipe_eng (k : Nat) (v : EgPipe) : (s.setEgPipe k v).eng = s.eng := rfl
@[simp] theorem State.setEgPipe_out (k : Nat) (v : EgPipe) : (s.setEgPipe k v).out = s.out := rfl

/-! ## State.setEgQueue -/

@[simp] theorem State.setEgQueue_egQueue_self (k j : Nat) (v : EgQueue) : (s.setEgQueue k j v).egQueue k j = v := tgetD_tset_self _ _ _ _
@[simp] theorem State.setEgQueue_pending (k j : Nat) (v : EgQueue) : (s.setEgQueue k j v).pending = s.pending := rfl
@[simp] theorem State.setEgQueue_host (k j : Nat) (v : EgQueue) : (s.setEgQueue k j v).host = s.host := rfl
@[simp] theorem State.setEgQueue_ocf (k j : Nat) (v : EgQueue) : (s.setEgQueue k j v).ocf = s.ocf := rfl
@[simp] theorem State.setEgQueue_roles (k j : Nat) (v : EgQueue) : (s.setEgQueue k j v).roles = s.roles := rfl
@[simp] theorem State.setEgQueue_flash (k j : Nat) (v : EgQueue) : (s.setEgQueue k j v).flash = s.flash := rfl
@[simp] theorem State.setEgQueue_boot (k j : Nat) (v : EgQueue) : (s.setEgQueue k j v).boot = s.boot := rfl
@[simp] theorem State.setEgQueue_power (k j : Nat) (v : EgQueue) : (s.setEgQueue k j v).power = s.power := rfl
@[simp] theorem State.setEgQueue_time (k j : Nat) (v : EgQueue) : (s.setEgQueue k j v).time = s.time := rfl
@[simp] theorem State.setEgQueue_ptp (k j : Nat) (v : EgQueue) : (s.setEgQueue k j v).ptp = s.ptp := rfl
@[simp] theorem State.setEgQueue_disc (k j : Nat) (v : EgQueue) : (s.setEgQueue k j v).disc = s.disc := rfl
@[simp] theorem State.setEgQueue_ports (k j : Nat) (v : EgQueue) : (s.setEgQueue k j v).ports = s.ports := rfl
@[simp] theorem State.setEgQueue_cls (k j : Nat) (v : EgQueue) : (s.setEgQueue k j v).cls = s.cls := rfl
@[simp] theorem State.setEgQueue_fwd (k j : Nat) (v : EgQueue) : (s.setEgQueue k j v).fwd = s.fwd := rfl
@[simp] theorem State.setEgQueue_flow (k j : Nat) (v : EgQueue) : (s.setEgQueue k j v).flow = s.flow := rfl
@[simp] theorem State.setEgQueue_buf (k j : Nat) (v : EgQueue) : (s.setEgQueue k j v).buf = s.buf := rfl
@[simp] theorem State.setEgQueue_fab (k j : Nat) (v : EgQueue) : (s.setEgQueue k j v).fab = s.fab := rfl
@[simp] theorem State.setEgQueue_hbm (k j : Nat) (v : EgQueue) : (s.setEgQueue k j v).hbm = s.hbm := rfl
@[simp] theorem State.setEgQueue_eng (k j : Nat) (v : EgQueue) : (s.setEgQueue k j v).eng = s.eng := rfl
@[simp] theorem State.setEgQueue_out (k j : Nat) (v : EgQueue) : (s.setEgQueue k j v).out = s.out := rfl

/-! ## State.setProfile -/

@[simp] theorem State.setProfile_pending (k : Nat) (v : ExportProfile) : (s.setProfile k v).pending = s.pending := rfl
@[simp] theorem State.setProfile_host (k : Nat) (v : ExportProfile) : (s.setProfile k v).host = s.host := rfl
@[simp] theorem State.setProfile_ocf (k : Nat) (v : ExportProfile) : (s.setProfile k v).ocf = s.ocf := rfl
@[simp] theorem State.setProfile_roles (k : Nat) (v : ExportProfile) : (s.setProfile k v).roles = s.roles := rfl
@[simp] theorem State.setProfile_flash (k : Nat) (v : ExportProfile) : (s.setProfile k v).flash = s.flash := rfl
@[simp] theorem State.setProfile_boot (k : Nat) (v : ExportProfile) : (s.setProfile k v).boot = s.boot := rfl
@[simp] theorem State.setProfile_power (k : Nat) (v : ExportProfile) : (s.setProfile k v).power = s.power := rfl
@[simp] theorem State.setProfile_time (k : Nat) (v : ExportProfile) : (s.setProfile k v).time = s.time := rfl
@[simp] theorem State.setProfile_ptp (k : Nat) (v : ExportProfile) : (s.setProfile k v).ptp = s.ptp := rfl
@[simp] theorem State.setProfile_disc (k : Nat) (v : ExportProfile) : (s.setProfile k v).disc = s.disc := rfl
@[simp] theorem State.setProfile_ports (k : Nat) (v : ExportProfile) : (s.setProfile k v).ports = s.ports := rfl
@[simp] theorem State.setProfile_cls (k : Nat) (v : ExportProfile) : (s.setProfile k v).cls = s.cls := rfl
@[simp] theorem State.setProfile_fwd (k : Nat) (v : ExportProfile) : (s.setProfile k v).fwd = s.fwd := rfl
@[simp] theorem State.setProfile_buf (k : Nat) (v : ExportProfile) : (s.setProfile k v).buf = s.buf := rfl
@[simp] theorem State.setProfile_eg (k : Nat) (v : ExportProfile) : (s.setProfile k v).eg = s.eg := rfl
@[simp] theorem State.setProfile_fab (k : Nat) (v : ExportProfile) : (s.setProfile k v).fab = s.fab := rfl
@[simp] theorem State.setProfile_hbm (k : Nat) (v : ExportProfile) : (s.setProfile k v).hbm = s.hbm := rfl
@[simp] theorem State.setProfile_eng (k : Nat) (v : ExportProfile) : (s.setProfile k v).eng = s.eng := rfl
@[simp] theorem State.setProfile_out (k : Nat) (v : ExportProfile) : (s.setProfile k v).out = s.out := rfl

/-! ## State.setFabPort -/

@[simp] theorem State.setFabPort_fabPort_self (k : Nat) (v : FabPort) : (s.setFabPort k v).fabPort k = v := tgetD_tset_self _ _ _ _
theorem State.setFabPort_fabPort_of_ne (k : Nat) (v : FabPort) {i : Nat} (h : i ≠ k) : (s.setFabPort k v).fabPort i = s.fabPort i :=
  tgetD_tset_of_ne _ _ _ h
@[simp] theorem State.setFabPort_pending (k : Nat) (v : FabPort) : (s.setFabPort k v).pending = s.pending := rfl
@[simp] theorem State.setFabPort_host (k : Nat) (v : FabPort) : (s.setFabPort k v).host = s.host := rfl
@[simp] theorem State.setFabPort_ocf (k : Nat) (v : FabPort) : (s.setFabPort k v).ocf = s.ocf := rfl
@[simp] theorem State.setFabPort_roles (k : Nat) (v : FabPort) : (s.setFabPort k v).roles = s.roles := rfl
@[simp] theorem State.setFabPort_flash (k : Nat) (v : FabPort) : (s.setFabPort k v).flash = s.flash := rfl
@[simp] theorem State.setFabPort_boot (k : Nat) (v : FabPort) : (s.setFabPort k v).boot = s.boot := rfl
@[simp] theorem State.setFabPort_power (k : Nat) (v : FabPort) : (s.setFabPort k v).power = s.power := rfl
@[simp] theorem State.setFabPort_time (k : Nat) (v : FabPort) : (s.setFabPort k v).time = s.time := rfl
@[simp] theorem State.setFabPort_ptp (k : Nat) (v : FabPort) : (s.setFabPort k v).ptp = s.ptp := rfl
@[simp] theorem State.setFabPort_disc (k : Nat) (v : FabPort) : (s.setFabPort k v).disc = s.disc := rfl
@[simp] theorem State.setFabPort_ports (k : Nat) (v : FabPort) : (s.setFabPort k v).ports = s.ports := rfl
@[simp] theorem State.setFabPort_cls (k : Nat) (v : FabPort) : (s.setFabPort k v).cls = s.cls := rfl
@[simp] theorem State.setFabPort_fwd (k : Nat) (v : FabPort) : (s.setFabPort k v).fwd = s.fwd := rfl
@[simp] theorem State.setFabPort_flow (k : Nat) (v : FabPort) : (s.setFabPort k v).flow = s.flow := rfl
@[simp] theorem State.setFabPort_buf (k : Nat) (v : FabPort) : (s.setFabPort k v).buf = s.buf := rfl
@[simp] theorem State.setFabPort_eg (k : Nat) (v : FabPort) : (s.setFabPort k v).eg = s.eg := rfl
@[simp] theorem State.setFabPort_hbm (k : Nat) (v : FabPort) : (s.setFabPort k v).hbm = s.hbm := rfl
@[simp] theorem State.setFabPort_eng (k : Nat) (v : FabPort) : (s.setFabPort k v).eng = s.eng := rfl
@[simp] theorem State.setFabPort_out (k : Nat) (v : FabPort) : (s.setFabPort k v).out = s.out := rfl

/-! ## State.setRxStream -/

@[simp] theorem State.setRxStream_rxStream_self (k : Nat) (v : RxStream) : (s.setRxStream k v).rxStream k = v := tgetD_tset_self _ _ _ _
theorem State.setRxStream_rxStream_of_ne (k : Nat) (v : RxStream) {i : Nat} (h : i ≠ k) : (s.setRxStream k v).rxStream i = s.rxStream i :=
  tgetD_tset_of_ne _ _ _ h
@[simp] theorem State.setRxStream_pending (k : Nat) (v : RxStream) : (s.setRxStream k v).pending = s.pending := rfl
@[simp] theorem State.setRxStream_host (k : Nat) (v : RxStream) : (s.setRxStream k v).host = s.host := rfl
@[simp] theorem State.setRxStream_ocf (k : Nat) (v : RxStream) : (s.setRxStream k v).ocf = s.ocf := rfl
@[simp] theorem State.setRxStream_roles (k : Nat) (v : RxStream) : (s.setRxStream k v).roles = s.roles := rfl
@[simp] theorem State.setRxStream_flash (k : Nat) (v : RxStream) : (s.setRxStream k v).flash = s.flash := rfl
@[simp] theorem State.setRxStream_boot (k : Nat) (v : RxStream) : (s.setRxStream k v).boot = s.boot := rfl
@[simp] theorem State.setRxStream_power (k : Nat) (v : RxStream) : (s.setRxStream k v).power = s.power := rfl
@[simp] theorem State.setRxStream_time (k : Nat) (v : RxStream) : (s.setRxStream k v).time = s.time := rfl
@[simp] theorem State.setRxStream_ptp (k : Nat) (v : RxStream) : (s.setRxStream k v).ptp = s.ptp := rfl
@[simp] theorem State.setRxStream_disc (k : Nat) (v : RxStream) : (s.setRxStream k v).disc = s.disc := rfl
@[simp] theorem State.setRxStream_ports (k : Nat) (v : RxStream) : (s.setRxStream k v).ports = s.ports := rfl
@[simp] theorem State.setRxStream_cls (k : Nat) (v : RxStream) : (s.setRxStream k v).cls = s.cls := rfl
@[simp] theorem State.setRxStream_fwd (k : Nat) (v : RxStream) : (s.setRxStream k v).fwd = s.fwd := rfl
@[simp] theorem State.setRxStream_flow (k : Nat) (v : RxStream) : (s.setRxStream k v).flow = s.flow := rfl
@[simp] theorem State.setRxStream_buf (k : Nat) (v : RxStream) : (s.setRxStream k v).buf = s.buf := rfl
@[simp] theorem State.setRxStream_eg (k : Nat) (v : RxStream) : (s.setRxStream k v).eg = s.eg := rfl
@[simp] theorem State.setRxStream_hbm (k : Nat) (v : RxStream) : (s.setRxStream k v).hbm = s.hbm := rfl
@[simp] theorem State.setRxStream_eng (k : Nat) (v : RxStream) : (s.setRxStream k v).eng = s.eng := rfl
@[simp] theorem State.setRxStream_out (k : Nat) (v : RxStream) : (s.setRxStream k v).out = s.out := rfl

/-! ## State.setChan -/

@[simp] theorem State.setChan_chan_self (k : Nat) (v : Channel) : (s.setChan k v).chan k = v := tgetD_tset_self _ _ _ _
theorem State.setChan_chan_of_ne (k : Nat) (v : Channel) {i : Nat} (h : i ≠ k) : (s.setChan k v).chan i = s.chan i :=
  tgetD_tset_of_ne _ _ _ h
@[simp] theorem State.setChan_pending (k : Nat) (v : Channel) : (s.setChan k v).pending = s.pending := rfl
@[simp] theorem State.setChan_ocf (k : Nat) (v : Channel) : (s.setChan k v).ocf = s.ocf := rfl
@[simp] theorem State.setChan_roles (k : Nat) (v : Channel) : (s.setChan k v).roles = s.roles := rfl
@[simp] theorem State.setChan_flash (k : Nat) (v : Channel) : (s.setChan k v).flash = s.flash := rfl
@[simp] theorem State.setChan_boot (k : Nat) (v : Channel) : (s.setChan k v).boot = s.boot := rfl
@[simp] theorem State.setChan_power (k : Nat) (v : Channel) : (s.setChan k v).power = s.power := rfl
@[simp] theorem State.setChan_time (k : Nat) (v : Channel) : (s.setChan k v).time = s.time := rfl
@[simp] theorem State.setChan_ptp (k : Nat) (v : Channel) : (s.setChan k v).ptp = s.ptp := rfl
@[simp] theorem State.setChan_disc (k : Nat) (v : Channel) : (s.setChan k v).disc = s.disc := rfl
@[simp] theorem State.setChan_ports (k : Nat) (v : Channel) : (s.setChan k v).ports = s.ports := rfl
@[simp] theorem State.setChan_cls (k : Nat) (v : Channel) : (s.setChan k v).cls = s.cls := rfl
@[simp] theorem State.setChan_fwd (k : Nat) (v : Channel) : (s.setChan k v).fwd = s.fwd := rfl
@[simp] theorem State.setChan_flow (k : Nat) (v : Channel) : (s.setChan k v).flow = s.flow := rfl
@[simp] theorem State.setChan_buf (k : Nat) (v : Channel) : (s.setChan k v).buf = s.buf := rfl
@[simp] theorem State.setChan_eg (k : Nat) (v : Channel) : (s.setChan k v).eg = s.eg := rfl
@[simp] theorem State.setChan_fab (k : Nat) (v : Channel) : (s.setChan k v).fab = s.fab := rfl
@[simp] theorem State.setChan_hbm (k : Nat) (v : Channel) : (s.setChan k v).hbm = s.hbm := rfl
@[simp] theorem State.setChan_eng (k : Nat) (v : Channel) : (s.setChan k v).eng = s.eng := rfl
@[simp] theorem State.setChan_out (k : Nat) (v : Channel) : (s.setChan k v).out = s.out := rfl

/-! ## State.setNatRing -/

@[simp] theorem State.setNatRing_natRing_self (k j : Nat) (v : NatRing) : (s.setNatRing k j v).natRing k j = v := tgetD_tset_self _ _ _ _
@[simp] theorem State.setNatRing_pending (k j : Nat) (v : NatRing) : (s.setNatRing k j v).pending = s.pending := rfl
@[simp] theorem State.setNatRing_host (k j : Nat) (v : NatRing) : (s.setNatRing k j v).host = s.host := rfl
@[simp] theorem State.setNatRing_ocf (k j : Nat) (v : NatRing) : (s.setNatRing k j v).ocf = s.ocf := rfl
@[simp] theorem State.setNatRing_roles (k j : Nat) (v : NatRing) : (s.setNatRing k j v).roles = s.roles := rfl
@[simp] theorem State.setNatRing_flash (k j : Nat) (v : NatRing) : (s.setNatRing k j v).flash = s.flash := rfl
@[simp] theorem State.setNatRing_boot (k j : Nat) (v : NatRing) : (s.setNatRing k j v).boot = s.boot := rfl
@[simp] theorem State.setNatRing_power (k j : Nat) (v : NatRing) : (s.setNatRing k j v).power = s.power := rfl
@[simp] theorem State.setNatRing_time (k j : Nat) (v : NatRing) : (s.setNatRing k j v).time = s.time := rfl
@[simp] theorem State.setNatRing_ptp (k j : Nat) (v : NatRing) : (s.setNatRing k j v).ptp = s.ptp := rfl
@[simp] theorem State.setNatRing_disc (k j : Nat) (v : NatRing) : (s.setNatRing k j v).disc = s.disc := rfl
@[simp] theorem State.setNatRing_ports (k j : Nat) (v : NatRing) : (s.setNatRing k j v).ports = s.ports := rfl
@[simp] theorem State.setNatRing_cls (k j : Nat) (v : NatRing) : (s.setNatRing k j v).cls = s.cls := rfl
@[simp] theorem State.setNatRing_fwd (k j : Nat) (v : NatRing) : (s.setNatRing k j v).fwd = s.fwd := rfl
@[simp] theorem State.setNatRing_buf (k j : Nat) (v : NatRing) : (s.setNatRing k j v).buf = s.buf := rfl
@[simp] theorem State.setNatRing_eg (k j : Nat) (v : NatRing) : (s.setNatRing k j v).eg = s.eg := rfl
@[simp] theorem State.setNatRing_fab (k j : Nat) (v : NatRing) : (s.setNatRing k j v).fab = s.fab := rfl
@[simp] theorem State.setNatRing_hbm (k j : Nat) (v : NatRing) : (s.setNatRing k j v).hbm = s.hbm := rfl
@[simp] theorem State.setNatRing_eng (k j : Nat) (v : NatRing) : (s.setNatRing k j v).eng = s.eng := rfl
@[simp] theorem State.setNatRing_out (k j : Nat) (v : NatRing) : (s.setNatRing k j v).out = s.out := rfl

/-! ## State.setRegion -/

@[simp] theorem State.setRegion_region_self (k : Nat) (v : FlowRegion) : (s.setRegion k v).region k = v := tgetD_tset_self _ _ _ _
theorem State.setRegion_region_of_ne (k : Nat) (v : FlowRegion) {i : Nat} (h : i ≠ k) : (s.setRegion k v).region i = s.region i :=
  tgetD_tset_of_ne _ _ _ h
@[simp] theorem State.setRegion_pending (k : Nat) (v : FlowRegion) : (s.setRegion k v).pending = s.pending := rfl
@[simp] theorem State.setRegion_host (k : Nat) (v : FlowRegion) : (s.setRegion k v).host = s.host := rfl
@[simp] theorem State.setRegion_ocf (k : Nat) (v : FlowRegion) : (s.setRegion k v).ocf = s.ocf := rfl
@[simp] theorem State.setRegion_roles (k : Nat) (v : FlowRegion) : (s.setRegion k v).roles = s.roles := rfl
@[simp] theorem State.setRegion_flash (k : Nat) (v : FlowRegion) : (s.setRegion k v).flash = s.flash := rfl
@[simp] theorem State.setRegion_boot (k : Nat) (v : FlowRegion) : (s.setRegion k v).boot = s.boot := rfl
@[simp] theorem State.setRegion_power (k : Nat) (v : FlowRegion) : (s.setRegion k v).power = s.power := rfl
@[simp] theorem State.setRegion_time (k : Nat) (v : FlowRegion) : (s.setRegion k v).time = s.time := rfl
@[simp] theorem State.setRegion_ptp (k : Nat) (v : FlowRegion) : (s.setRegion k v).ptp = s.ptp := rfl
@[simp] theorem State.setRegion_disc (k : Nat) (v : FlowRegion) : (s.setRegion k v).disc = s.disc := rfl
@[simp] theorem State.setRegion_ports (k : Nat) (v : FlowRegion) : (s.setRegion k v).ports = s.ports := rfl
@[simp] theorem State.setRegion_cls (k : Nat) (v : FlowRegion) : (s.setRegion k v).cls = s.cls := rfl
@[simp] theorem State.setRegion_fwd (k : Nat) (v : FlowRegion) : (s.setRegion k v).fwd = s.fwd := rfl
@[simp] theorem State.setRegion_buf (k : Nat) (v : FlowRegion) : (s.setRegion k v).buf = s.buf := rfl
@[simp] theorem State.setRegion_eg (k : Nat) (v : FlowRegion) : (s.setRegion k v).eg = s.eg := rfl
@[simp] theorem State.setRegion_fab (k : Nat) (v : FlowRegion) : (s.setRegion k v).fab = s.fab := rfl
@[simp] theorem State.setRegion_hbm (k : Nat) (v : FlowRegion) : (s.setRegion k v).hbm = s.hbm := rfl
@[simp] theorem State.setRegion_eng (k : Nat) (v : FlowRegion) : (s.setRegion k v).eng = s.eng := rfl
@[simp] theorem State.setRegion_out (k : Nat) (v : FlowRegion) : (s.setRegion k v).out = s.out := rfl

/-! ## State.setItem -/

@[simp] theorem State.setItem_pending (k : Nat) (v : WorkItem) : (s.setItem k v).pending = s.pending := rfl
@[simp] theorem State.setItem_host (k : Nat) (v : WorkItem) : (s.setItem k v).host = s.host := rfl
@[simp] theorem State.setItem_ocf (k : Nat) (v : WorkItem) : (s.setItem k v).ocf = s.ocf := rfl
@[simp] theorem State.setItem_roles (k : Nat) (v : WorkItem) : (s.setItem k v).roles = s.roles := rfl
@[simp] theorem State.setItem_flash (k : Nat) (v : WorkItem) : (s.setItem k v).flash = s.flash := rfl
@[simp] theorem State.setItem_boot (k : Nat) (v : WorkItem) : (s.setItem k v).boot = s.boot := rfl
@[simp] theorem State.setItem_power (k : Nat) (v : WorkItem) : (s.setItem k v).power = s.power := rfl
@[simp] theorem State.setItem_time (k : Nat) (v : WorkItem) : (s.setItem k v).time = s.time := rfl
@[simp] theorem State.setItem_ptp (k : Nat) (v : WorkItem) : (s.setItem k v).ptp = s.ptp := rfl
@[simp] theorem State.setItem_disc (k : Nat) (v : WorkItem) : (s.setItem k v).disc = s.disc := rfl
@[simp] theorem State.setItem_ports (k : Nat) (v : WorkItem) : (s.setItem k v).ports = s.ports := rfl
@[simp] theorem State.setItem_cls (k : Nat) (v : WorkItem) : (s.setItem k v).cls = s.cls := rfl
@[simp] theorem State.setItem_fwd (k : Nat) (v : WorkItem) : (s.setItem k v).fwd = s.fwd := rfl
@[simp] theorem State.setItem_flow (k : Nat) (v : WorkItem) : (s.setItem k v).flow = s.flow := rfl
@[simp] theorem State.setItem_buf (k : Nat) (v : WorkItem) : (s.setItem k v).buf = s.buf := rfl
@[simp] theorem State.setItem_eg (k : Nat) (v : WorkItem) : (s.setItem k v).eg = s.eg := rfl
@[simp] theorem State.setItem_fab (k : Nat) (v : WorkItem) : (s.setItem k v).fab = s.fab := rfl
@[simp] theorem State.setItem_hbm (k : Nat) (v : WorkItem) : (s.setItem k v).hbm = s.hbm := rfl
@[simp] theorem State.setItem_out (k : Nat) (v : WorkItem) : (s.setItem k v).out = s.out := rfl

/-! ## State.setEngine -/

@[simp] theorem State.setEngine_engine_self (k : Nat) (v : Engine) : (s.setEngine k v).engine k = v := tgetD_tset_self _ _ _ _
theorem State.setEngine_engine_of_ne (k : Nat) (v : Engine) {i : Nat} (h : i ≠ k) : (s.setEngine k v).engine i = s.engine i :=
  tgetD_tset_of_ne _ _ _ h
@[simp] theorem State.setEngine_pending (k : Nat) (v : Engine) : (s.setEngine k v).pending = s.pending := rfl
@[simp] theorem State.setEngine_host (k : Nat) (v : Engine) : (s.setEngine k v).host = s.host := rfl
@[simp] theorem State.setEngine_ocf (k : Nat) (v : Engine) : (s.setEngine k v).ocf = s.ocf := rfl
@[simp] theorem State.setEngine_roles (k : Nat) (v : Engine) : (s.setEngine k v).roles = s.roles := rfl
@[simp] theorem State.setEngine_flash (k : Nat) (v : Engine) : (s.setEngine k v).flash = s.flash := rfl
@[simp] theorem State.setEngine_boot (k : Nat) (v : Engine) : (s.setEngine k v).boot = s.boot := rfl
@[simp] theorem State.setEngine_power (k : Nat) (v : Engine) : (s.setEngine k v).power = s.power := rfl
@[simp] theorem State.setEngine_time (k : Nat) (v : Engine) : (s.setEngine k v).time = s.time := rfl
@[simp] theorem State.setEngine_ptp (k : Nat) (v : Engine) : (s.setEngine k v).ptp = s.ptp := rfl
@[simp] theorem State.setEngine_disc (k : Nat) (v : Engine) : (s.setEngine k v).disc = s.disc := rfl
@[simp] theorem State.setEngine_ports (k : Nat) (v : Engine) : (s.setEngine k v).ports = s.ports := rfl
@[simp] theorem State.setEngine_cls (k : Nat) (v : Engine) : (s.setEngine k v).cls = s.cls := rfl
@[simp] theorem State.setEngine_fwd (k : Nat) (v : Engine) : (s.setEngine k v).fwd = s.fwd := rfl
@[simp] theorem State.setEngine_flow (k : Nat) (v : Engine) : (s.setEngine k v).flow = s.flow := rfl
@[simp] theorem State.setEngine_buf (k : Nat) (v : Engine) : (s.setEngine k v).buf = s.buf := rfl
@[simp] theorem State.setEngine_eg (k : Nat) (v : Engine) : (s.setEngine k v).eg = s.eg := rfl
@[simp] theorem State.setEngine_fab (k : Nat) (v : Engine) : (s.setEngine k v).fab = s.fab := rfl
@[simp] theorem State.setEngine_hbm (k : Nat) (v : Engine) : (s.setEngine k v).hbm = s.hbm := rfl
@[simp] theorem State.setEngine_out (k : Nat) (v : Engine) : (s.setEngine k v).out = s.out := rfl

/-! ## State.setPc -/

@[simp] theorem State.setPc_pc_self (k : Nat) (v : Pc) : (s.setPc k v).pc k = v := tgetD_tset_self _ _ _ _
theorem State.setPc_pc_of_ne (k : Nat) (v : Pc) {i : Nat} (h : i ≠ k) : (s.setPc k v).pc i = s.pc i :=
  tgetD_tset_of_ne _ _ _ h
@[simp] theorem State.setPc_pending (k : Nat) (v : Pc) : (s.setPc k v).pending = s.pending := rfl
@[simp] theorem State.setPc_host (k : Nat) (v : Pc) : (s.setPc k v).host = s.host := rfl
@[simp] theorem State.setPc_ocf (k : Nat) (v : Pc) : (s.setPc k v).ocf = s.ocf := rfl
@[simp] theorem State.setPc_roles (k : Nat) (v : Pc) : (s.setPc k v).roles = s.roles := rfl
@[simp] theorem State.setPc_flash (k : Nat) (v : Pc) : (s.setPc k v).flash = s.flash := rfl
@[simp] theorem State.setPc_boot (k : Nat) (v : Pc) : (s.setPc k v).boot = s.boot := rfl
@[simp] theorem State.setPc_power (k : Nat) (v : Pc) : (s.setPc k v).power = s.power := rfl
@[simp] theorem State.setPc_time (k : Nat) (v : Pc) : (s.setPc k v).time = s.time := rfl
@[simp] theorem State.setPc_ptp (k : Nat) (v : Pc) : (s.setPc k v).ptp = s.ptp := rfl
@[simp] theorem State.setPc_disc (k : Nat) (v : Pc) : (s.setPc k v).disc = s.disc := rfl
@[simp] theorem State.setPc_ports (k : Nat) (v : Pc) : (s.setPc k v).ports = s.ports := rfl
@[simp] theorem State.setPc_cls (k : Nat) (v : Pc) : (s.setPc k v).cls = s.cls := rfl
@[simp] theorem State.setPc_fwd (k : Nat) (v : Pc) : (s.setPc k v).fwd = s.fwd := rfl
@[simp] theorem State.setPc_flow (k : Nat) (v : Pc) : (s.setPc k v).flow = s.flow := rfl
@[simp] theorem State.setPc_buf (k : Nat) (v : Pc) : (s.setPc k v).buf = s.buf := rfl
@[simp] theorem State.setPc_eg (k : Nat) (v : Pc) : (s.setPc k v).eg = s.eg := rfl
@[simp] theorem State.setPc_fab (k : Nat) (v : Pc) : (s.setPc k v).fab = s.fab := rfl
@[simp] theorem State.setPc_eng (k : Nat) (v : Pc) : (s.setPc k v).eng = s.eng := rfl
@[simp] theorem State.setPc_out (k : Nat) (v : Pc) : (s.setPc k v).out = s.out := rfl

/-! ## State.setPipe -/

@[simp] theorem State.setPipe_pipe_self (k : Nat) (v : Pipe) : (s.setPipe k v).pipe k = v := tgetD_tset_self _ _ _ _
theorem State.setPipe_pipe_of_ne (k : Nat) (v : Pipe) {i : Nat} (h : i ≠ k) : (s.setPipe k v).pipe i = s.pipe i :=
  tgetD_tset_of_ne _ _ _ h
@[simp] theorem State.setPipe_pending (k : Nat) (v : Pipe) : (s.setPipe k v).pending = s.pending := rfl
@[simp] theorem State.setPipe_host (k : Nat) (v : Pipe) : (s.setPipe k v).host = s.host := rfl
@[simp] theorem State.setPipe_ocf (k : Nat) (v : Pipe) : (s.setPipe k v).ocf = s.ocf := rfl
@[simp] theorem State.setPipe_roles (k : Nat) (v : Pipe) : (s.setPipe k v).roles = s.roles := rfl
@[simp] theorem State.setPipe_flash (k : Nat) (v : Pipe) : (s.setPipe k v).flash = s.flash := rfl
@[simp] theorem State.setPipe_boot (k : Nat) (v : Pipe) : (s.setPipe k v).boot = s.boot := rfl
@[simp] theorem State.setPipe_power (k : Nat) (v : Pipe) : (s.setPipe k v).power = s.power := rfl
@[simp] theorem State.setPipe_time (k : Nat) (v : Pipe) : (s.setPipe k v).time = s.time := rfl
@[simp] theorem State.setPipe_ptp (k : Nat) (v : Pipe) : (s.setPipe k v).ptp = s.ptp := rfl
@[simp] theorem State.setPipe_disc (k : Nat) (v : Pipe) : (s.setPipe k v).disc = s.disc := rfl
@[simp] theorem State.setPipe_ports (k : Nat) (v : Pipe) : (s.setPipe k v).ports = s.ports := rfl
@[simp] theorem State.setPipe_fwd (k : Nat) (v : Pipe) : (s.setPipe k v).fwd = s.fwd := rfl
@[simp] theorem State.setPipe_flow (k : Nat) (v : Pipe) : (s.setPipe k v).flow = s.flow := rfl
@[simp] theorem State.setPipe_buf (k : Nat) (v : Pipe) : (s.setPipe k v).buf = s.buf := rfl
@[simp] theorem State.setPipe_eg (k : Nat) (v : Pipe) : (s.setPipe k v).eg = s.eg := rfl
@[simp] theorem State.setPipe_fab (k : Nat) (v : Pipe) : (s.setPipe k v).fab = s.fab := rfl
@[simp] theorem State.setPipe_hbm (k : Nat) (v : Pipe) : (s.setPipe k v).hbm = s.hbm := rfl
@[simp] theorem State.setPipe_eng (k : Nat) (v : Pipe) : (s.setPipe k v).eng = s.eng := rfl
@[simp] theorem State.setPipe_out (k : Nat) (v : Pipe) : (s.setPipe k v).out = s.out := rfl

end Sys2Proof.Machine
end

