-- ==== Sys2Proof/Laws/Protocol.lean ====
section
/-! SUPPORT. What answering a command frame changes (R401 to R424, R456): the records of `Book`, and nothing else. -/

namespace Sys2Proof.Machine

/-! ## States that differ in the records only -/

/-- The records as they stand. -/
def State.books (s : State) : Book where
  intake := s.ocf.intake
  windows := s.ocf.windows
  estateWindows := s.ocf.estateWindows
  floors := s.ocf.floors
  origin := s.ocf.origin
  fabricOut := s.ocf.fabricOut
  sent := s.ocf.sent
  ring := s.roles.audit.ring
  last := s.roles.audit.last
  head := s.roles.audit.head
  overwritten := s.roles.audit.overwritten
  heldBack := s.roles.audit.heldBack
  reservation := s.flash.reservation
  status := s.host.int.status
  reassert := s.host.int.reassert
  chan := s.host.chan
  rsp := s.host.cmb.rsp
  rspLen := s.host.cmb.rspLen
  rspTrunc := s.host.cmb.rspTrunc
  rspValid := s.host.cmb.rspValid
  rspCollision := s.host.cmb.rspCollision
  collCount := s.host.cmb.collCount
  dmaBusy := s.host.dmaBusy
  hostWrites := s.out.hostWrites

theorem book_books (s : State) : s.book s.books = s := rfl
theorem book_book (s : State) (a b : Book) : (s.book a).book b = s.book b := rfl

/-- `t` is `s` but for the records. -/
def Booked (s t : State) : Prop := ∃ b, t = s.book b

theorem Booked.refl (s : State) : Booked s s := ⟨s.books, rfl⟩

theorem Booked.lit {z s t : State} (h : Booked z s) (b : Book) (k : t = s.book b) : Booked z t := by
  obtain ⟨a, rfl⟩ := h
  exact ⟨b, k⟩

theorem Booked.trans {z s t : State} (h : Booked z s) (k : Booked s t) : Booked z t := by
  obtain ⟨b, k⟩ := k
  exact h.lit b k

theorem Booked.ite {z s t : State} {c : Prop} [Decidable c] (hs : Booked z s) (ht : Booked z t) : Booked z (if c then s else t) := by
  split
  · exact hs
  · exact ht

/-! ## The operations of the protocol -/

section
variable {z s : State}

theorem raise_booked (n : Nat) (h : Booked z s) : Booked z (raise n s) :=
  Booked.ite h (Booked.ite
    (h.lit { s.books with reassert := tmod s.host.int.reassert n 0 (satAdd 8 · 1) } rfl)
    (h.lit { s.books with status := setBit s.host.int.status n true } rfl))

theorem raiseFirst_booked (n : Nat) (h : Booked z s) : Booked z (raiseFirst n s) := Booked.ite h (raise_booked n h)

theorem reserveEntry_booked (n : Nat) (h : Booked z s) : Booked z (reserveEntry n s) :=
  Booked.ite (h.lit { s.books with reservation := n + 63 } rfl) h

theorem audit_booked (ring : List AuditEntry) (last head over' : Nat) (h : Booked z s) :
    Booked z { s with roles.audit.ring := ring, roles.audit.last := last, roles.audit.head := head, roles.audit.overwritten := over' } :=
  h.lit { s.books with ring := ring, last := last, head := head, overwritten := over' } rfl

theorem holdAudit_booked (es : List AuditEntry) (h : Booked z s) : Booked z { s with roles.audit.heldBack := es } :=
  h.lit { s.books with heldBack := es } rfl

theorem enterAudit_booked (e : AuditEntry) (h : Booked z s) : Booked z (enterAudit e s) := audit_booked _ _ _ _ h

theorem putAudit_booked (e : AuditEntry) (h : Booked z s) : Booked z (putAudit e s) :=
  have k := enterAudit_booked e (reserveEntry_booked e.entryNo h)
  Booked.ite (raise_booked _ k) k

theorem offerAudit_booked (e : AuditEntry) (h : Booked z s) : Booked z (offerAudit e s) := Booked.ite (holdAudit_booked _ h) (putAudit_booked _ h)

theorem auditCommand_booked (k o : Nat) (f : Ocf) (st d : Nat) (h : Booked z s) : Booked z (auditCommand k o f st d s) := offerAudit_booked _ h

theorem postMessage_booked (c g : Nat) (bs : Bytes) (h : Booked z s) : Booked z (postMessage c g bs s) :=
  h.lit { s.books with chan := (postMessage c g bs s).host.chan } rfl

theorem collide_booked (h : Booked z s) : Booked z (collide s) :=
  Booked.ite (raise_booked _ (h.lit { s.books with
    rspCollision := true
    collCount := wrapAdd 32 s.host.cmb.collCount 1 } rfl)) h

theorem placeRsp_booked (ws : List Nat) (cut : Bool) (h : Booked z s) : Booked z (placeRsp ws cut s) :=
  h.lit { s.books with rsp := ws, rspLen := ws.length, rspTrunc := cut, rspValid := true } rfl

theorem postCompat_booked (bs : Bytes) (h : Booked z s) : Booked z (postCompat bs s) :=
  raise_booked _ (placeRsp_booked _ _ (collide_booked h))

theorem answerDescriptor_booked (c st d n w : Nat) (h : Booked z s) : Booked z (answerDescriptor c st d n w s) := by
  unfold answerDescriptor
  split
  · exact h
  · rename_i o f _
    refine Booked.ite (h.lit { s.books with dmaBusy := tdel s.host.dmaBusy c } rfl) ?_
    refine postMessage_booked _ _ _ (h.lit { s.books with
      dmaBusy := tdel s.host.dmaBusy c
      sent := s.ocf.sent ++ [mkReply o f none false false st d [(4, n), (4, w)] s.ocf.epoch] } rfl)

theorem sent_booked (r : Reply) (h : Booked z s) : Booked z { s with ocf.sent := s.ocf.sent ++ [r] } :=
  h.lit { s.books with sent := s.ocf.sent ++ [r] } rfl

theorem dmaPut_booked (a : Nat) (p : Bytes) (h : Booked z s) : Booked z (dmaPut a p s) :=
  Booked.ite h (h.lit { s.books with hostWrites := s.out.hostWrites ++ [(a, p)] } rfl)

theorem carry_booked (r : Reply) (g : Nat) (h : Booked z s) : Booked z (carry r g s) := by
  unfold carry
  split
  · exact postMessage_booked _ _ _ h
  · exact postCompat_booked _ h
  · exact Booked.ite (postMessage_booked _ _ _ h)
      (Booked.ite (answerDescriptor_booked _ _ _ _ _ h) (answerDescriptor_booked _ _ _ _ _ (raise_booked _ (dmaPut_booked _ _ h))))
  · rename_i p m t _
    exact h.lit { s.books with origin := s.ocf.origin ++ [⟨p, s.ocf.replyTc, inbandFrame s.ocf.stationMac m t r.bytes⟩] } rfl
  · rename_i k _
    exact h.lit { s.books with fabricOut := s.ocf.fabricOut ++ [(k, r.bytes)] } rfl

theorem deliver_booked (r : Reply) (g : Nat) (h : Booked z s) : Booked z (deliver r g s) := carry_booked r g (sent_booked r h)

theorem suppress_booked (r : Reply) (h : Booked z s) : Booked z (suppress r s) := by
  unfold suppress
  split
  · exact answerDescriptor_booked _ _ _ _ _ h
  · exact h

theorem useWindow_booked (k : Nat) (w : Window) (h : Booked z s) : Booked z (useWindow k w s) := by
  unfold useWindow
  dsimp only
  generalize List.take _ _ = xs
  split
  · rename_i k' old _ _
    exact h.lit { s.books with
      windows := (k, w) :: xs
      floors := tset s.ocf.floors (windowRole k') (max (tgetD s.ocf.floors (windowRole k') 0) old.h) } rfl
  · exact h.lit { s.books with windows := (k, w) :: xs } rfl

theorem recordSeq_booked (f : Ocf) (h : Booked z s) : Booked z (recordSeq f s) :=
  Booked.ite (h.lit { s.books with
    estateWindows := tset s.ocf.estateWindows f.sender ((tgetD s.ocf.estateWindows f.sender {}).record f.seq) } rfl) (useWindow_booked _ _ h)

theorem keepReply_booked (k : Kept) (h : Booked z s) : Booked z (keepReply k s) := by
  refine Booked.ite h ?_
  split
  · exact h
  · exact useWindow_booked _ _ h

theorem takeIntake_booked (o : Nat) (f : Ocf) (h : Booked z s) : Booked z (takeIntake o f s).2 := by
  unfold takeIntake
  dsimp only
  split
  · exact h.lit { s.books with intake := s.ocf.intake.eraseP (fun e => e.opcode = o && e.cmd = f) } rfl
  · exact h

/-! ## Replies sent -/

@[simp] theorem putAudit_sent (e : AuditEntry) (s : State) : (putAudit e s).ocf = s.ocf := by
  have k : (enterAudit e (reserveEntry e.entryNo s)).ocf = s.ocf := by
    unfold reserveEntry
    split <;> rfl
  unfold putAudit
  dsimp only
  split
  · rw [raise_ocf, k]
  · exact k

@[simp] theorem auditCommand_ocf (k o : Nat) (f : Ocf) (st d : Nat) (s : State) : (auditCommand k o f st d s).ocf = s.ocf := by
  unfold auditCommand offerAudit
  split
  · rfl
  · exact putAudit_sent _ _

@[simp] theorem useWindow_sent (k : Nat) (w : Window) (s : State) : (useWindow k w s).ocf.sent = s.ocf.sent := by
  unfold useWindow
  dsimp only
  split <;> rfl

@[simp] theorem useWindow_roles (k : Nat) (w : Window) (s : State) : (useWindow k w s).roles = s.roles := by
  unfold useWindow
  dsimp only
  split <;> rfl

@[simp] theorem recordSeq_sent (f : Ocf) (s : State) : (recordSeq f s).ocf.sent = s.ocf.sent := by
  unfold recordSeq
  split
  · rfl
  · simp

@[simp] theorem recordSeq_roles (f : Ocf) (s : State) : (recordSeq f s).roles = s.roles := by
  unfold recordSeq
  split
  · rfl
  · simp

@[simp] theorem keepReply_sent (k : Kept) (s : State) : (keepReply k s).ocf.sent = s.ocf.sent := by
  unfold keepReply
  split
  · rfl
  · split
    · rfl
    · simp

theorem takeIntake_eq (o : Nat) (f : Ocf) (s : State) : ∃ g x, takeIntake o f s = (g, { s with ocf.intake := x }) := by
  unfold takeIntake
  dsimp only
  split
  · exact ⟨_, _, rfl⟩
  · exact ⟨_, s.ocf.intake, rfl⟩

/-- The answer to a descriptor is one reply at most. -/
theorem answerDescriptor_one (c st d n w : Nat) (s : State) :
    (answerDescriptor c st d n w s).ocf.sent = s.ocf.sent ∨ ∃ r, (answerDescriptor c st d n w s).ocf.sent = s.ocf.sent ++ [r] := by
  unfold answerDescriptor
  split
  · exact Or.inl rfl
  · dsimp only
    split
    · exact Or.inl rfl
    · exact Or.inr ⟨_, rfl⟩

theorem answerDescriptor_sent (c st d n w : Nat) (s : State) : s.ocf.sent <+: (answerDescriptor c st d n w s).ocf.sent := by
  obtain h | ⟨r, h⟩ := answerDescriptor_one c st d n w s
  · rw [h]
  · exact h ▸ List.prefix_append _ _

theorem dmaPut_ocf (a : Nat) (p : Bytes) (s : State) : (dmaPut a p s).ocf = s.ocf := by
  unfold dmaPut
  split <;> rfl

theorem postCompat_ocf (bs : Bytes) (s : State) : (postCompat bs s).ocf = s.ocf := by
  unfold postCompat placeRsp collide
  split <;> simp

theorem carry_sent (r : Reply) (g : Nat) (s : State) : s.ocf.sent <+: (carry r g s).ocf.sent := by
  unfold carry
  split
  · exact List.prefix_rfl
  · rw [postCompat_ocf]
  · split
    · exact List.prefix_rfl
    · split
      · exact answerDescriptor_sent _ _ _ _ _ _
      · refine List.IsPrefix.trans ?_ (answerDescriptor_sent _ _ _ _ _ _)
        rw [raise_ocf, dmaPut_ocf]
  · exact List.prefix_rfl
  · exact List.prefix_rfl

/-! ## A frame that runs -/

theorem gate_intake (x : List IntakeEntry) (s : State) (f : Ocf) (o : Nat) (c t : Bool) :
    ({ s with ocf.intake := x } : State).gate f o c t = s.gate f o c t := rfl

theorem pendError_book (b : Book) (s : State) (f : Ocf) (p : Bool) : (s.book b).pendError f p = s.pendError f p := rfl

/-- A taken frame runs on the state with its records. -/
theorem ocfRun_taken {bodyOf : Instr → Option Body} {i : Instr} {f : Ocf} {b : Body} {s : State} {len : Nat}
    (hT : Taken s f b.opcode b.changes b.pending len) (hF : b.toFactory = false) (hL : b.lenOk len = true) :
    ∃ (key : Option Bytes) (gen : Nat) (k : Book), k.sent = s.ocf.sent ∧
      ocfRun bodyOf i f b s = (match b.check (s.book k) with
        | some e => conclude f b key gen e.1 e.2 [] (s.book k)
        | none => perform f b key gen (s.book k)) := by
  obtain ⟨ha, hq, ⟨key, hg⟩, hr, hm, hv, ht, hl, hw⟩ := hT
  have hW : (decide (len > 16256) && b.opcode != 0x0B06) = false := by
    rw [← hl]
    rcases hw with hw | hw
    · simp [Nat.not_lt.2 hw]
    · simp [hw]
  obtain ⟨g, x, hx⟩ := takeIntake_eq b.opcode f s
  have h0 : Booked s { s with ocf.intake := x } := (Booked.refl s).lit { s.books with intake := x } rfl
  have h1 := recordSeq_booked f h0
  have e1 : (recordSeq f { s with ocf.intake := x }).ocf.sent = s.ocf.sent := by simp
  have r1 : (recordSeq f { s with ocf.intake := x }).roles = s.roles := by simp
  have h2 : ∃ k : Book, k.sent = s.ocf.sent ∧
      (if b.audited f then auditCommand 0x01 b.opcode f 0 0 (recordSeq f { s with ocf.intake := x }) else recordSeq f { s with ocf.intake := x }) =
        s.book k := by
    split
    · obtain ⟨k, hk⟩ := auditCommand_booked 0x01 b.opcode f 0 0 h1
      refine ⟨k, ?_, hk⟩
      have := congrArg (fun t => t.ocf.sent) hk
      rw [auditCommand_ocf, e1] at this
      exact this.symm
    · obtain ⟨k, hk⟩ := h1
      refine ⟨k, ?_, hk⟩
      have := congrArg (fun t => t.ocf.sent) hk
      rw [← e1, this]
      rfl
  obtain ⟨k, hs, hk⟩ := h2
  refine ⟨key, g, k, hs, ?_⟩
  unfold ocfRun
  rw [ha, hq, hx]
  simp only [Bool.and_self, Bool.not_true, Bool.false_eq_true, if_false, gate_intake, hF, hg]
  unfold takeIn
  simp only [recordSeq_roles]
  have hfull : (b.changes && s.roles.audit.full && b.opcode != 0x0B0A) = false := by
    cases hc : b.changes with
    | false => rfl
    | true => rw [hr hc]; rfl
  simp only [hfull, Bool.false_eq_true, if_false, hk]
  unfold execute
  simp only [hm, Bool.false_eq_true, if_false, ownError, hl, hL, hW, Bool.not_true, Bool.or_self, hv, pendError_book, ht]
  all_goals (cases b.check (s.book k) <;> rfl)

/-- What the device records when it has run a frame whose status is a success: the reply. -/
theorem conclude_replied {f : Ocf} {b : Body} {s : State} {key : Option Bytes} {gen st : Nat} {res : Results} {t : State} {k : Book}
    (ho : b.opcode ≠ 0x0520) (hst : okStatus st = true) (he : t.ocf.epoch = s.ocf.epoch) (hs : k.sent = s.ocf.sent) :
    ∃ k' : Book, conclude f b key gen st 0xFFFF res (t.book k) = t.book k' ∧ Replied s f b.opcode st res k' := by
  have hb : Booked t (keepReply ⟨b.opcode, f, mkReply b.opcode f key false false st 0xFFFF res (t.book k).ocf.epoch, key⟩ (t.book k)) :=
    keepReply_booked _ ⟨k, rfl⟩
  unfold conclude
  simp only [hst, Bool.not_true, Bool.and_false, Bool.false_eq_true, if_false]
  unfold answerFrame respond
  have hr : (mkReply b.opcode f key false false st 0xFFFF res (t.book k).ocf.epoch).status = st := rfl
  simp only [hr, hst, if_true]
  by_cases hn : f.noReply = true
  · have hq := suppress_booked (mkReply b.opcode f key false false st 0xFFFF res (t.book k).ocf.epoch) hb
    obtain ⟨k', hk'⟩ := hq
    refine ⟨k', ?_, ?_⟩
    · simp only [hn, Bool.true_or, if_true]
      exact hk'
    · unfold Replied
      rw [if_pos hn]
      have e : k'.sent = (suppress _ _).ocf.sent := congrArg (fun t => t.ocf.sent) hk'.symm
      have e0 : (keepReply ⟨b.opcode, f, mkReply b.opcode f key false false st 0xFFFF res (t.book k).ocf.epoch, key⟩ (t.book k)).ocf.sent =
          s.ocf.sent := (keepReply_sent _ _).trans hs
      rw [e, ← e0]
      unfold suppress
      split
      · rename_i c a n hc
        obtain e1 | ⟨r, e1⟩ := answerDescriptor_one c st 0xFFFF 0 0
          (keepReply ⟨b.opcode, f, mkReply b.opcode f key false false st 0xFFFF res (t.book k).ocf.epoch, key⟩ (t.book k))
        · exact Or.inl e1
        · exact Or.inr ⟨r, e1, c, a, n, hc⟩
      · exact Or.inl rfl
  · obtain ⟨k', hk'⟩ := deliver_booked (mkReply b.opcode f key false false st 0xFFFF res (t.book k).ocf.epoch) gen hb
    refine ⟨k', ?_, ?_⟩
    · have : (f.noReply || decide (b.opcode = 0x0520)) = false := by simp [hn, ho]
      simp only [this, Bool.false_eq_true, if_false]
      exact hk'
    · unfold Replied
      rw [if_neg hn]
      obtain ⟨rest, hrest⟩ := carry_sent (mkReply b.opcode f key false false st 0xFFFF res (t.book k).ocf.epoch) gen
        { (keepReply ⟨b.opcode, f, mkReply b.opcode f key false false st 0xFFFF res (t.book k).ocf.epoch, key⟩ (t.book k)) with
          ocf.sent := (keepReply ⟨b.opcode, f, mkReply b.opcode f key false false st 0xFFFF res (t.book k).ocf.epoch, key⟩
            (t.book k)).ocf.sent ++ [mkReply b.opcode f key false false st 0xFFFF res (t.book k).ocf.epoch] }
      refine ⟨mkReply b.opcode f key false false st 0xFFFF res (t.book k).ocf.epoch, rest, ?_, rfl, rfl, ?_, ?_, rfl, rfl, rfl⟩
      · have := congrArg (fun t => t.ocf.sent) hk'
        unfold deliver at this
        simp only at this
        rw [← hrest] at this
        rw [← hs]
        simp only [keepReply_sent] at this
        rw [show (t.book k').ocf.sent = k'.sent from rfl] at this
        rw [← this]
        simp [show (t.book k).ocf.sent = k.sent from rfl]
      · simp [mkReply, Machine.bit]
      · exact he

theorem waitsFor_book (k : Book) (s : State) (o : Nat) : (s.book k).waitsFor o = s.waitsFor o := rfl

/-- No command waits for a replica that has every update, and none but a table command or a group's commit ever does. -/
theorem waitsFor_false {s : State} {o : Nat} (h : s.allReached = true ∨ (tableOpcode o = false ∧ o ≠ 0x0105)) : s.waitsFor o = false := by
  unfold State.waitsFor
  rcases h with h | ⟨h, k⟩
  · simp [h]
  · simp [h, k]

/-- A command that does not reply 0x0001 runs: its own check passes and its effect leaves `t` whatever the records are. -/
theorem Runs.of {bodyOf : Instr → Option Body} {c i : Instr} {f : Ocf} {b : Body} {s t : State} {len : Nat} {res : Results}
    (hx : exec c s = .next (ocfRun bodyOf i f b s)) (hT : Taken s f b.opcode b.changes b.pending len) (hF : b.toFactory = false)
    (hL : b.lenOk len = true) (hp : b.pending = false) (ho : b.opcode ≠ 0x0520) (he : t.ocf.epoch = s.ocf.epoch)
    (hw : t.waitsFor b.opcode = false) (hb : ∀ k : Book, k.sent = s.ocf.sent → b.check (s.book k) = none ∧ ∃ k' : Book, k'.sent = s.ocf.sent ∧
      b.apply (s.book k) = { st := t.book k', results := res }) : Runs c f b.opcode s res t := by
  obtain ⟨key, gen, k, hk, hr⟩ := ocfRun_taken (bodyOf := bodyOf) (i := i) hT hF hL
  obtain ⟨hc, k', hk', ha⟩ := hb k hk
  unfold Runs
  rw [hx, hr, hc]
  simp only [perform, hp, ha, Bool.false_and, Bool.false_eq_true, if_false, waitsFor_book, hw]
  obtain ⟨k2, h2, h3⟩ := conclude_replied (f := f) (b := b) (s := s) (key := key) (gen := gen) (st := 0) (res := res) ho rfl he hk'
  exact ⟨k2, congrArg _ h2, h3⟩

/-- A command that replies 0x0001 and passes its own check is accepted. -/
theorem Accepted.of {bodyOf : Instr → Option Body} {c i : Instr} {f : Ocf} {b : Body} {s t : State} {len : Nat} {early : Results}
    {final : Option (Nat × Nat × Results)}
    (hx : exec c s = .next (ocfRun bodyOf i f b s)) (hT : Taken s f b.opcode b.changes b.pending len) (hF : b.toFactory = false)
    (hL : b.lenOk len = true) (hp : b.pending = true) (ho : b.opcode ≠ 0x0520) (he : t.ocf.epoch = s.ocf.epoch)
    (hw : t.waitsFor b.opcode = false) (hb : ∀ k : Book, k.sent = s.ocf.sent → b.check (s.book k) = none ∧ ∃ (k' : Book) (a : Answer), k'.sent = s.ocf.sent ∧
      b.apply (s.book k) = a ∧ a.st = t.book k' ∧ a.status = 0 ∧ a.waits = none ∧ a.early = early ∧
      final = (if a.later then none else some (a.status, a.detail, a.results))) : Accepted c f b.opcode s early final t := by
  obtain ⟨key, gen, k, hk, hr⟩ := ocfRun_taken (bodyOf := bodyOf) (i := i) hT hF hL
  obtain ⟨hc, k', a, hk', ha, hst, hz, hwa, hea, hfin⟩ := hb k hk
  unfold Accepted
  rw [hx, hr, hc]
  have hcond : (b.pending && decide (a.status = 0)) = true := by rw [hp, hz]; rfl
  simp only [perform, ha, hwa, hcond, if_true, hea, hst, waitsFor_book, hw, Bool.or_false, Bool.not_false, Bool.or_true, ← hfin]
  obtain ⟨k2, h2, hrep⟩ := conclude_replied (f := f) (b := b) (s := s) (key := key) (gen := gen) (st := 1) (res := early) (k := k')
    (t := { t with
      ocf.pend := tset t.ocf.pend s.ocf.nextPend
        { opcode := b.opcode, cmd := f, sender := f.senderKey, key := key, hostGen := gen, audited := b.changes, final := final }
      ocf.nextPend := s.ocf.nextPend + 1 }) ho rfl he hk'
  exact ⟨k2, _, congrArg _ h2, rfl, rfl, rfl, rfl, rfl, hrep⟩

end

end Sys2Proof.Machine
end

