-- ==== Sys2Proof/Laws/Steady.lean ====
section
/-! SUPPORT. What every operation of the model keeps: the queue, the fuses, the canonical form of the memories and, but for the resets and
PWR_LIMITS_SET, the limits of R553, and but for software's clears and the power-on reset, the status bits of event sources. The files below Laws/Steady say it once for each operation, body and row, in the order of Machine/. -/

namespace Sys2Proof.Machine

/-- What of the fuses and the boot flash the relation speaks of. -/
def Flash.steady (f : Flash) : (Bool × Bool × Nat × Nat × Bytes) × Nat × Nat × Nat × Lifecycle × List Host.Cell × List Host.Cell :=
  ((f.h72, f.extended, f.stepping, f.serial, f.makerKey), f.revoked, f.rollbackFloor, f.fieldEntries, f.lifecycle, f.imageA, f.imageB)

/-- From `z` to `t` the queue of commands stands, fuses only burn, a VOID device stays VOID, and the memories keep their canonical form; and
where `l` says so, the limits of R553 stand (first) and no event source's status bit is cleared (second). -/
structure Steady (l : Bool × Bool) (z t : State) : Prop where
  queue : t.pending = z.pending
  fused : t.fused = z.fused
  revoked : t.flash.revoked = z.flash.revoked
  floor : z.flash.rollbackFloor ≤ t.flash.rollbackFloor
  entries : z.flash.fieldEntries ≤ t.flash.fieldEntries
  life : z.flash.lifecycle = .void → t.flash.lifecycle = .void
  canon : z.memoryCanonical → t.memoryCanonical
  limits : l.1 = true → t.power.limits = z.power.limits
  status : l.2 = true → ∀ n, z.host.int.status.testBit n = true → t.host.int.status.testBit n = true

variable {l : Bool × Bool} {z s t : State}

theorem Steady.refl : Steady l s s := ⟨rfl, rfl, rfl, Nat.le_refl _, Nat.le_refl _, id, id, fun _ => rfl, fun _ _ => id⟩

theorem Steady.trans (h : Steady l z s) (k : Steady l s t) : Steady l z t :=
  ⟨k.queue.trans h.queue, k.fused.trans h.fused, k.revoked.trans h.revoked, Nat.le_trans h.floor k.floor, Nat.le_trans h.entries k.entries,
    fun v => k.life (h.life v), fun v => k.canon (h.canon v), fun e => (k.limits e).trans (h.limits e),
    fun e n v => k.status e n (h.status e n v)⟩

/-- An update of anything but the queue, the fuses, the two image copies, the HBM and the limits. -/
theorem Steady.lit {host ocf roles flash boot power time ptp disc ports cls fwd flow buf eg fab hbm eng out} (h : Steady l z s)
    (kf : flash.steady = s.flash.steady) (km : hbm.mem = s.hbm.mem) (kp : power.limits = s.power.limits)
    (kh : host.int.status = s.host.int.status) :
    Steady l z ⟨s.pending, host, ocf, roles, flash, boot, power, time, ptp, disc, ports, cls, fwd, flow, buf, eg, fab, hbm, eng, out⟩ := by
  refine h.trans ⟨rfl, congrArg Prod.fst kf, congrArg (·.2.1) kf, Nat.le_of_eq (congrArg (·.2.2.1) kf).symm,
    Nat.le_of_eq (congrArg (·.2.2.2.1) kf).symm, fun v => (congrArg (·.2.2.2.2.1) kf).trans v, fun v => ?_, fun _ => kp,
    fun _ n v => (congrArg (·.testBit n) kh).trans v⟩
  have ha : flash.imageA = s.flash.imageA := congrArg (·.2.2.2.2.2.1) kf
  have hb : flash.imageB = s.flash.imageB := congrArg (·.2.2.2.2.2.2) kf
  exact ⟨by rw [km]; exact v.1, by rw [ha]; exact v.2.1, by rw [hb]; exact v.2.2⟩

/-- An update that writes the HBM, in its canonical form. -/
theorem Steady.litMem {host ocf roles boot power time ptp disc ports cls fwd flow buf eg fab hbm eng out} (h : Steady l z s)
    (km : memWf s.hbm.mem = true → memWf hbm.mem = true) (kp : power.limits = s.power.limits)
    (kh : host.int.status = s.host.int.status) {flash} (kf : flash.steady = s.flash.steady := by rfl) :
    Steady l z ⟨s.pending, host, ocf, roles, flash, boot, power, time, ptp, disc, ports, cls, fwd, flow, buf, eg, fab, hbm, eng, out⟩ := by
  refine h.trans ⟨rfl, congrArg Prod.fst kf, congrArg (·.2.1) kf, Nat.le_of_eq (congrArg (·.2.2.1) kf).symm,
    Nat.le_of_eq (congrArg (·.2.2.2.1) kf).symm, fun v => (congrArg (·.2.2.2.2.1) kf).trans v, fun v => ?_, fun _ => kp,
    fun _ n v => (congrArg (·.testBit n) kh).trans v⟩
  have ha : flash.imageA = s.flash.imageA := congrArg (·.2.2.2.2.2.1) kf
  have hb : flash.imageB = s.flash.imageB := congrArg (·.2.2.2.2.2.2) kf
  exact ⟨km v.1, by rw [ha]; exact v.2.1, by rw [hb]; exact v.2.2⟩

/-- An update that burns fuses or writes an image copy. -/
theorem Steady.litFlash {host ocf roles flash boot power time ptp disc ports cls fwd flow buf eg fab eng out} (h : Steady l z s)
    (k1 : (flash.h72, flash.extended, flash.stepping, flash.serial, flash.makerKey) = s.fused) (k2 : flash.revoked = s.flash.revoked)
    (k3 : s.flash.rollbackFloor ≤ flash.rollbackFloor) (k4 : s.flash.fieldEntries ≤ flash.fieldEntries)
    (k5 : s.flash.lifecycle = .void → flash.lifecycle = .void) (k6 : memWf s.flash.imageA = true → memWf flash.imageA = true)
    (k7 : memWf s.flash.imageB = true → memWf flash.imageB = true) (kp : power.limits = s.power.limits)
    (kh : host.int.status = s.host.int.status) :
    Steady l z ⟨s.pending, host, ocf, roles, flash, boot, power, time, ptp, disc, ports, cls, fwd, flow, buf, eg, fab, s.hbm, eng, out⟩ :=
  h.trans ⟨rfl, k1, k2, k3, k4, k5, fun v => ⟨v.1, k6 v.2.1, k7 v.2.2⟩, fun _ => kp, fun _ n v => (congrArg (·.testBit n) kh).trans v⟩

/-- An update of the limits of R553. -/
theorem Steady.litLimits {host ocf roles flash boot power time ptp disc ports cls fwd flow buf eg fab hbm eng out} (h : Steady (false, l.2) z s)
    (kf : flash.steady = s.flash.steady) (km : hbm.mem = s.hbm.mem) (kh : host.int.status = s.host.int.status) :
    Steady (false, l.2) z ⟨s.pending, host, ocf, roles, flash, boot, power, time, ptp, disc, ports, cls, fwd, flow, buf, eg, fab, hbm, eng, out⟩ := by
  refine h.trans ⟨rfl, congrArg Prod.fst kf, congrArg (·.2.1) kf, Nat.le_of_eq (congrArg (·.2.2.1) kf).symm,
    Nat.le_of_eq (congrArg (·.2.2.2.1) kf).symm, fun v => (congrArg (·.2.2.2.2.1) kf).trans v, fun v => ?_,
    fun e => absurd e Bool.false_ne_true, fun _ n v => (congrArg (·.testBit n) kh).trans v⟩
  have ha : flash.imageA = s.flash.imageA := congrArg (·.2.2.2.2.2.1) kf
  have hb : flash.imageB = s.flash.imageB := congrArg (·.2.2.2.2.2.2) kf
  exact ⟨by rw [km]; exact v.1, by rw [ha]; exact v.2.1, by rw [hb]; exact v.2.2⟩

/-- An update of the status bits that software makes. -/
theorem Steady.litStatus (h : Steady (l.1, false) z s) (n : Nat) : Steady (l.1, false) z { s with host.int.status := n } :=
  h.trans ⟨rfl, rfl, rfl, Nat.le_refl _, Nat.le_refl _, id, id, fun _ => rfl, fun e => absurd e Bool.false_ne_true⟩

theorem Flash.afterReset_steady (f : Flash) : f.afterReset.steady = f.steady := by
  unfold Flash.afterReset
  split <;> rfl

/-! The same of what carries a state. -/

abbrev SteadyP {α : Type} (l : Bool × Bool) (z : State) (p : α × State) : Prop := Steady l z p.2
abbrev SteadyL {α : Type} (l : Bool × Bool) (z : State) (p : State × α) : Prop := Steady l z p.1
abbrev SteadyP3 {α β : Type} (l : Bool × Bool) (z : State) (p : α × β × State) : Prop := Steady l z p.2.2
abbrev SteadyP4 {α β γ : Type} (l : Bool × Bool) (z : State) (p : α × β × γ × State) : Prop := Steady l z p.2.2.2
abbrev SteadyA (l : Bool × Bool) (z : State) (a : Answer) : Prop := Steady l z a.st
def SteadyO (l : Bool × Bool) (z : State) (o : Option State) : Prop := ∀ t, o = some t → Steady l z t
def SteadyOP {α : Type} (l : Bool × Bool) (z : State) (o : Option (α × State)) : Prop := ∀ t, o = some t → Steady l z t.2
def SteadyOP3 {α β : Type} (l : Bool × Bool) (z : State) (o : Option (α × β × State)) : Prop := ∀ t, o = some t → Steady l z t.2.2
def SteadyE {ε α : Type} (l : Bool × Bool) (z : State) (o : Except ε (α × State)) : Prop := ∀ t, o = .ok t → Steady l z t.2
def SteadyX (l : Bool × Bool) (z : State) (o : Host.Outcome State Fault Refusal) : Prop := ∀ t, o = .next t → Steady l z t
def SteadyB (l : Bool × Bool) (b : Body) : Prop := ∀ z s, Steady l z s → Steady l z (b.apply s).st

section
variable {α β γ δ ε : Type} {c : Prop} [Decidable c]

theorem Steady.ite {a b : State} (ha : Steady l z a) (hb : Steady l z b) : Steady l z (if c then a else b) := by
  split
  · exact ha
  · exact hb
theorem Steady.foldl {f : State → δ → State} {xs : List δ} {b : State} (hb : Steady l z b) (hf : ∀ b x, Steady l z b → Steady l z (f b x)) :
    Steady l z (xs.foldl f b) := by
  induction xs generalizing b with
  | nil => exact hb
  | cons x xs ih => exact ih (hf b x hb)
theorem Steady.each {f : δ → State → State} {xs : List δ} {b : State} (hb : Steady l z b) (hf : ∀ x b, Steady l z b → Steady l z (f x b)) :
    Steady l z (forEach xs b f) := Steady.foldl hb (fun b x => hf x b)
theorem SteadyP.ite {a b : α × State} (ha : SteadyP l z a) (hb : SteadyP l z b) : SteadyP l z (if c then a else b) := by
  split
  · exact ha
  · exact hb
theorem SteadyP.foldl {f : α × State → δ → α × State} {xs : List δ} {b : α × State} (hb : SteadyP l z b) (hf : ∀ b x, SteadyP l z b → SteadyP l z (f b x)) :
    SteadyP l z (xs.foldl f b) := by
  induction xs generalizing b with
  | nil => exact hb
  | cons x xs ih => exact ih (hf b x hb)
theorem SteadyP.each {f : δ → α × State → α × State} {xs : List δ} {b : α × State} (hb : SteadyP l z b) (hf : ∀ x b, SteadyP l z b → SteadyP l z (f x b)) :
    SteadyP l z (forEach xs b f) := SteadyP.foldl hb (fun b x => hf x b)
theorem SteadyL.ite {a b : State × α} (ha : SteadyL l z a) (hb : SteadyL l z b) : SteadyL l z (if c then a else b) := by
  split
  · exact ha
  · exact hb
theorem SteadyL.foldl {f : State × α → δ → State × α} {xs : List δ} {b : State × α} (hb : SteadyL l z b) (hf : ∀ b x, SteadyL l z b → SteadyL l z (f b x)) :
    SteadyL l z (xs.foldl f b) := by
  induction xs generalizing b with
  | nil => exact hb
  | cons x xs ih => exact ih (hf b x hb)
theorem SteadyL.each {f : δ → State × α → State × α} {xs : List δ} {b : State × α} (hb : SteadyL l z b) (hf : ∀ x b, SteadyL l z b → SteadyL l z (f x b)) :
    SteadyL l z (forEach xs b f) := SteadyL.foldl hb (fun b x => hf x b)
theorem SteadyP3.ite {a b : α × β × State} (ha : SteadyP3 l z a) (hb : SteadyP3 l z b) : SteadyP3 l z (if c then a else b) := by
  split
  · exact ha
  · exact hb
theorem SteadyP3.foldl {f : α × β × State → δ → α × β × State} {xs : List δ} {b : α × β × State} (hb : SteadyP3 l z b) (hf : ∀ b x, SteadyP3 l z b → SteadyP3 l z (f b x)) :
    SteadyP3 l z (xs.foldl f b) := by
  induction xs generalizing b with
  | nil => exact hb
  | cons x xs ih => exact ih (hf b x hb)
theorem SteadyP3.each {f : δ → α × β × State → α × β × State} {xs : List δ} {b : α × β × State} (hb : SteadyP3 l z b) (hf : ∀ x b, SteadyP3 l z b → SteadyP3 l z (f x b)) :
    SteadyP3 l z (forEach xs b f) := SteadyP3.foldl hb (fun b x => hf x b)
theorem SteadyP4.ite {a b : α × β × γ × State} (ha : SteadyP4 l z a) (hb : SteadyP4 l z b) : SteadyP4 l z (if c then a else b) := by
  split
  · exact ha
  · exact hb
theorem SteadyP4.foldl {f : α × β × γ × State → δ → α × β × γ × State} {xs : List δ} {b : α × β × γ × State} (hb : SteadyP4 l z b) (hf : ∀ b x, SteadyP4 l z b → SteadyP4 l z (f b x)) :
    SteadyP4 l z (xs.foldl f b) := by
  induction xs generalizing b with
  | nil => exact hb
  | cons x xs ih => exact ih (hf b x hb)
theorem SteadyP4.each {f : δ → α × β × γ × State → α × β × γ × State} {xs : List δ} {b : α × β × γ × State} (hb : SteadyP4 l z b) (hf : ∀ x b, SteadyP4 l z b → SteadyP4 l z (f x b)) :
    SteadyP4 l z (forEach xs b f) := SteadyP4.foldl hb (fun b x => hf x b)
theorem SteadyA.ite {a b : Answer} (ha : SteadyA l z a) (hb : SteadyA l z b) : SteadyA l z (if c then a else b) := by
  split
  · exact ha
  · exact hb
theorem SteadyO.ite {a b : Option State} (ha : SteadyO l z a) (hb : SteadyO l z b) : SteadyO l z (if c then a else b) := by
  split
  · exact ha
  · exact hb
theorem SteadyO.foldl {f : Option State → δ → Option State} {xs : List δ} {b : Option State} (hb : SteadyO l z b) (hf : ∀ b x, SteadyO l z b → SteadyO l z (f b x)) :
    SteadyO l z (xs.foldl f b) := by
  induction xs generalizing b with
  | nil => exact hb
  | cons x xs ih => exact ih (hf b x hb)
theorem SteadyO.each {f : δ → Option State → Option State} {xs : List δ} {b : Option State} (hb : SteadyO l z b) (hf : ∀ x b, SteadyO l z b → SteadyO l z (f x b)) :
    SteadyO l z (forEach xs b f) := SteadyO.foldl hb (fun b x => hf x b)
theorem SteadyOP.ite {a b : Option (α × State)} (ha : SteadyOP l z a) (hb : SteadyOP l z b) : SteadyOP l z (if c then a else b) := by
  split
  · exact ha
  · exact hb
theorem SteadyOP.foldl {f : Option (α × State) → δ → Option (α × State)} {xs : List δ} {b : Option (α × State)} (hb : SteadyOP l z b) (hf : ∀ b x, SteadyOP l z b → SteadyOP l z (f b x)) :
    SteadyOP l z (xs.foldl f b) := by
  induction xs generalizing b with
  | nil => exact hb
  | cons x xs ih => exact ih (hf b x hb)
theorem SteadyOP.each {f : δ → Option (α × State) → Option (α × State)} {xs : List δ} {b : Option (α × State)} (hb : SteadyOP l z b) (hf : ∀ x b, SteadyOP l z b → SteadyOP l z (f x b)) :
    SteadyOP l z (forEach xs b f) := SteadyOP.foldl hb (fun b x => hf x b)
theorem SteadyOP3.ite {a b : Option (α × β × State)} (ha : SteadyOP3 l z a) (hb : SteadyOP3 l z b) : SteadyOP3 l z (if c then a else b) := by
  split
  · exact ha
  · exact hb
theorem SteadyE.ite {a b : Except ε (α × State)} (ha : SteadyE l z a) (hb : SteadyE l z b) : SteadyE l z (if c then a else b) := by
  split
  · exact ha
  · exact hb
theorem SteadyX.ite {a b : Host.Outcome State Fault Refusal} (ha : SteadyX l z a) (hb : SteadyX l z b) : SteadyX l z (if c then a else b) := by
  split
  · exact ha
  · exact hb

theorem Steady.proj (h : Steady l z s) : Steady l z s := h
theorem SteadyP.proj {p : α × State} (h : SteadyP l z p) : Steady l z p.2 := h
theorem SteadyL.proj {p : State × α} (h : SteadyL l z p) : Steady l z p.1 := h
theorem SteadyP3.proj {p : α × β × State} (h : SteadyP3 l z p) : SteadyP l z p.2 := h
theorem SteadyP4.proj {p : α × β × γ × State} (h : SteadyP4 l z p) : SteadyP3 l z p.2 := h
theorem SteadyA.proj {a : Answer} (h : SteadyA l z a) : Steady l z a.st := h

theorem SteadyP.get {p : α × State} {a : α} (e : p = (a, t)) (h : SteadyP l z p) : Steady l z t := by rw [e] at h; exact h
theorem SteadyL.get {p : State × α} {a : α} (e : p = (t, a)) (h : SteadyL l z p) : Steady l z t := by rw [e] at h; exact h
theorem SteadyP3.get {p : α × β × State} {a : α} {b : β} (e : p = (a, b, t)) (h : SteadyP3 l z p) : Steady l z t := by rw [e] at h; exact h
theorem SteadyP4.get {p : α × β × γ × State} {a : α} {b : β} {g : γ} (e : p = (a, b, g, t)) (h : SteadyP4 l z p) : Steady l z t := by
  rw [e] at h
  exact h
theorem SteadyO.get {o : Option State} (e : o = some t) (h : SteadyO l z o) : Steady l z t := h t e
theorem SteadyOP.get {o : Option (α × State)} {a : α} (e : o = some (a, t)) (h : SteadyOP l z o) : Steady l z t := h _ e
theorem SteadyOP.getSteadyP {o : Option (α × State)} {p : α × State} (e : o = some p) (h : SteadyOP l z o) : SteadyP l z p := h _ e
theorem SteadyOP3.get {o : Option (α × β × State)} {a : α} {b : β} (e : o = some (a, b, t)) (h : SteadyOP3 l z o) : Steady l z t := h _ e
theorem SteadyOP3.getSteadyP3 {o : Option (α × β × State)} {p : α × β × State} (e : o = some p) (h : SteadyOP3 l z o) : SteadyP3 l z p := h _ e
theorem SteadyE.get {o : Except ε (α × State)} {a : α} (e : o = .ok (a, t)) (h : SteadyE l z o) : Steady l z t := h _ e

theorem SteadyP.mk {a : α} (h : Steady l z t) : SteadyP l z (a, t) := h
theorem SteadyL.mk {a : α} (h : Steady l z t) : SteadyL l z (t, a) := h
theorem SteadyP3.mk {a : α} {p : β × State} (h : SteadyP l z p) : SteadyP3 l z (a, p) := h
theorem SteadyP4.mk {a : α} {p : β × γ × State} (h : SteadyP3 l z p) : SteadyP4 l z (a, p) := h
theorem SteadyA.mk {st : State} {status detail : Nat} {results : Results} {later : Bool} {early : Results} {waits : Option Nat}
    (h : Steady l z st) : SteadyA l z ⟨st, status, detail, results, later, early, waits⟩ := h
theorem SteadyO.none : SteadyO l z none := fun _ e => nomatch e
theorem SteadyO.some (h : Steady l z t) : SteadyO l z (some t) := fun _ e => by cases e; exact h
theorem SteadyOP.none : SteadyOP (α := α) l z none := fun _ e => nomatch e
theorem SteadyOP.some {p : α × State} (h : SteadyP l z p) : SteadyOP l z (some p) := fun _ e => by cases e; exact h
theorem SteadyOP3.none : SteadyOP3 (α := α) (β := β) l z none := fun _ e => nomatch e
theorem SteadyOP3.some {p : α × β × State} (h : SteadyP3 l z p) : SteadyOP3 l z (some p) := fun _ e => by cases e; exact h
theorem SteadyE.error {a : ε} : SteadyE (α := α) l z (.error a) := fun _ e => nomatch e
theorem SteadyE.ok {p : α × State} (h : SteadyP l z p) : SteadyE (ε := ε) l z (.ok p) := fun _ e => by cases e; exact h
theorem SteadyX.next (h : Steady l z t) : SteadyX l z (.next t) := fun _ e => by cases e; exact h
theorem SteadyX.fault {r : Fault} : SteadyX l z (.fault r) := fun _ e => nomatch e
theorem SteadyX.refused {r : Refusal} : SteadyX l z (.refused r) := fun _ e => nomatch e
theorem SteadyB.mk {opcode : Nat} {changes clearRead pending toFactory : Bool} {lenOk : Nat → Bool} {check : State → Option Err}
    {apply : State → Answer} (h : ∀ z s, Steady l z s → SteadyA l z (apply s)) :
    SteadyB l ⟨opcode, changes, clearRead, pending, toFactory, lenOk, check, apply⟩ := h

theorem SteadyO.map {o : Option α} {f : α → State} (h : ∀ a, Steady l z (f a)) : SteadyO l z (o.map f) := by
  cases o
  · exact .none
  · exact .some (h _)
theorem SteadyO.mapSteadyO {o : Option State} {f : State → State} (ho : SteadyO l z o) (h : ∀ a, Steady l z a → Steady l z (f a)) :
    SteadyO l z (o.map f) := by
  cases o
  · exact .none
  · exact .some (h _ (ho _ rfl))
theorem SteadyO.mapSteadyOP {o : Option (α × State)} {f : α × State → State} (ho : SteadyOP l z o)
    (h : ∀ a, SteadyP l z a → Steady l z (f a)) : SteadyO l z (o.map f) := by
  cases o
  · exact .none
  · exact .some (h _ (ho _ rfl))
theorem SteadyOP.map {o : Option α} {f : α → β × State} (h : ∀ a, SteadyP l z (f a)) : SteadyOP l z (o.map f) := by
  cases o
  · exact .none
  · exact .some (h _)
theorem SteadyOP.mapSteadyO {o : Option State} {f : State → β × State} (ho : SteadyO l z o) (h : ∀ a, Steady l z a → SteadyP l z (f a)) :
    SteadyOP l z (o.map f) := by
  cases o
  · exact .none
  · exact .some (h _ (ho _ rfl))
theorem SteadyOP.mapSteadyOP {o : Option (α × State)} {f : α × State → β × State} (ho : SteadyOP l z o)
    (h : ∀ a, SteadyP l z a → SteadyP l z (f a)) : SteadyOP l z (o.map f) := by
  cases o
  · exact .none
  · exact .some (h _ (ho _ rfl))
theorem SteadyO.bind {o : Option α} {f : α → Option State} (h : ∀ a, SteadyO l z (f a)) : SteadyO l z (o.bind f) := by
  cases o
  · exact .none
  · exact h _
theorem SteadyO.bindSteadyO {o : Option State} {f : State → Option State} (ho : SteadyO l z o) (h : ∀ a, Steady l z a → SteadyO l z (f a)) :
    SteadyO l z (o.bind f) := by
  cases o
  · exact .none
  · exact h _ (ho _ rfl)
theorem Steady.getD {o : Option State} (ho : SteadyO l z o) (h : Steady l z s) : Steady l z (o.getD s) := by
  cases o
  · exact h
  · exact ho _ rfl
theorem SteadyO.findSome {f : α → Option State} {xs : List α} (h : ∀ a, SteadyO l z (f a)) : SteadyO l z (xs.findSome? f) := by
  intro t e
  obtain ⟨a, _, k⟩ := List.exists_of_findSome?_eq_some e
  exact h a t k
theorem SteadyOP.findSome {f : α → Option (β × State)} {xs : List α} (h : ∀ a, SteadyOP l z (f a)) : SteadyOP l z (xs.findSome? f) := by
  intro t e
  obtain ⟨a, _, k⟩ := List.exists_of_findSome?_eq_some e
  exact h a t k
end

end Sys2Proof.Machine
end

