-- ==== Sys2Proof/Laws/Steady/Ops.lean ====
section
/-! SUPPORT. What the operations of Machine/Ops keep (Laws/Steady). -/

namespace Sys2Proof.Machine

variable {l : Bool × Bool} {z s t : State}

theorem callWake_steady (a1 s2) (h2 : Steady l z s2) : Steady l z (callWake a1 s2) := by
  unfold callWake
  refine Steady.lit ?_ rfl rfl rfl rfl
  assumption

theorem beginUpdate_steady (s1) (h1 : Steady l z s1) : Steady l z (beginUpdate s1) := by
  unfold beginUpdate
  refine Steady.ite ?_ ?_
  · assumption
  · refine Steady.lit ?_ rfl rfl rfl rfl
    assumption

theorem catchUp_steady (s1) (h1 : Steady l z s1) : Steady l z (catchUp s1) := by
  unfold catchUp
  refine Steady.lit ?_ rfl rfl rfl rfl
  assumption

end Sys2Proof.Machine
end

