-- ==== Sys2Proof/Laws/Steady/Flags.lean ====
section
/-! SUPPORT. What the operations of Machine/Flags keep (Laws/Steady). -/

namespace Sys2Proof.Machine

variable {l : Bool × Bool} {z s t : State}

theorem State.setChan_steady (s1 a2 a3) (h1 : Steady l z s1) : Steady l z (State.setChan s1 a2 a3) := by
  unfold State.setChan
  refine Steady.lit ?_ rfl rfl rfl rfl
  assumption

theorem raise_steady (a1 s) (h2 : Steady l z s) : Steady l z (raise a1 s) := by
  unfold raise
  refine Steady.ite h2 (Steady.ite (Steady.lit h2 rfl rfl rfl rfl) ?_)
  refine h2.trans ⟨rfl, rfl, rfl, Nat.le_refl _, Nat.le_refl _, id, id, fun _ => rfl, fun _ n v => ?_⟩
  change (setBit s.host.int.status a1 true).testBit n = true
  rw [testBit_setBit]
  split
  · rfl
  · exact v

theorem raiseFirst_steady (a1 s) (h2 : Steady l z s) : Steady l z (raiseFirst a1 s) := by
  unfold raiseFirst
  refine Steady.ite ?_ ?_
  · assumption
  · exact raise_steady _ _ (by assumption)

theorem settleLevels_steady (s1) (h1 : Steady l z s1) : Steady l z (settleLevels s1) := by
  unfold settleLevels
  refine Steady.lit ?_ rfl rfl rfl rfl
  assumption

theorem claim_steady (a1 s) (h2 : Steady l z s) : Steady l z (claim a1 s) := by
  unfold claim
  split
  · assumption
  · split
    · refine Steady.lit ?_ rfl rfl rfl rfl
      assumption
    · refine Steady.lit ?_ rfl rfl rfl rfl
      assumption

theorem complete_steady (a1 a2 s) (h3 : Steady l z s) : Steady l z (complete a1 a2 s) := by
  unfold complete
  extract_lets -underBinder -merge -useContext +onlyGivenNames x1 x2 x3
  have h4 : Steady l z x3 := by
    refine Steady.lit ?_ rfl rfl rfl rfl
    assumption
  try clear_value x3
  refine Steady.ite ?_ ?_
  · refine Steady.lit ?_ rfl rfl rfl rfl
    assumption
  · refine Steady.lit ?_ rfl rfl rfl rfl
    assumption

theorem sendVector_steady (a1 s) (h2 : Steady l z s) : Steady l z (sendVector a1 s) := by
  unfold sendVector
  refine Steady.ite ?_ ?_
  · refine Steady.lit ?_ rfl rfl rfl rfl
    assumption
  · refine Steady.lit ?_ rfl rfl rfl rfl
    assumption

theorem sendGroup_steady (a1 s) (h2 : Steady l z s) : Steady l z (sendGroup a1 s) := by
  unfold sendGroup
  extract_lets -underBinder -merge -useContext +onlyGivenNames x1 x2 x3
  have h4 : Steady l z x3 := by
    refine Steady.lit ?_ rfl rfl rfl rfl
    assumption
  try clear_value x3
  extract_lets -underBinder -merge -useContext +onlyGivenNames x5 x6 x7
  have h8 : Steady l z x7 := by
    refine Steady.ite ?_ ?_
    · assumption
    · refine Steady.lit ?_ rfl rfl rfl rfl
      assumption
  try clear_value x7
  refine sendVector_steady _ _ ?_
  refine Steady.lit ?_ rfl rfl rfl rfl
  assumption

end Sys2Proof.Machine
end

