-- ==== Sys2Proof/Laws/Steady/Parser.lean ====
section
/-! SUPPORT. What the operations of Machine/Parser keep (Laws/Steady). -/

namespace Sys2Proof.Machine

variable {l : Bool × Bool} {z s t : State}

theorem State.setPipe_steady (s1 a2 a3) (h1 : Steady l z s1) : Steady l z (State.setPipe s1 a2 a3) := by
  unfold State.setPipe
  refine Steady.lit ?_ rfl rfl rfl rfl
  assumption

theorem classify_steady (a1 a2 a3 a4 a5 a6 s) (h7 : Steady l z s) : SteadyP l z (classify a1 a2 a3 a4 a5 a6 s) := by
  unfold classify
  extract_lets -underBinder -merge -useContext +onlyGivenNames x1
  extract_lets -underBinder -merge -useContext +onlyGivenNames x2
  extract_lets -underBinder -merge -useContext +onlyGivenNames x3
  extract_lets -underBinder -merge -useContext +onlyGivenNames x4
  refine SteadyP.ite ?_ ?_
  · exact SteadyP.mk (by assumption)
  · extract_lets -underBinder -merge -useContext +onlyGivenNames x5
    split
    · exact SteadyP.mk (by assumption)
    · refine SteadyP.mk ?_
      exact State.setPipe_steady _ _ _ (by assumption)

end Sys2Proof.Machine
end

