-- ==== Sys2Proof/Laws/Steady/Basin.lean ====
section
/-! SUPPORT. What the operations of Machine/Basin keep (Laws/Steady). -/

namespace Sys2Proof.Machine

variable {l : Bool × Bool} {z s t : State}

theorem sendPause_steady (a1 a2 a3 s) (h4 : Steady l z s) : Steady l z (sendPause a1 a2 a3 s) := by
  unfold sendPause
  extract_lets -underBinder -merge -useContext +onlyGivenNames x1
  extract_lets -underBinder -merge -useContext +onlyGivenNames x2
  extract_lets -underBinder -merge -useContext +onlyGivenNames x3
  refine Steady.lit ?_ rfl rfl rfl rfl
  assumption

theorem checkXoff_steady (a1 a2 s) (h3 : Steady l z s) : Steady l z (checkXoff a1 a2 s) := by
  unfold checkXoff
  extract_lets -underBinder -merge -useContext +onlyGivenNames x1
  extract_lets -underBinder -merge -useContext +onlyGivenNames x2
  extract_lets -underBinder -merge -useContext +onlyGivenNames x3
  refine Steady.ite ?_ ?_
  · assumption
  · refine Steady.ite ?_ ?_
    · refine sendPause_steady _ _ _ _ ?_
      refine Steady.lit ?_ rfl rfl rfl rfl
      assumption
    · refine Steady.ite ?_ ?_
      · refine sendPause_steady _ _ _ _ ?_
        refine Steady.lit ?_ rfl rfl rfl rfl
        assumption
      · assumption

theorem addU_steady (a1 a2 a3 a4 s) (h5 : Steady l z s) : Steady l z (addU a1 a2 a3 a4 s) := by
  unfold addU
  refine Steady.ite ?_ ?_
  · assumption
  · refine checkXoff_steady _ _ _ ?_
    refine Steady.lit ?_ rfl rfl rfl rfl
    assumption

theorem subU_steady (a1 a2 a3 a4 s) (h5 : Steady l z s) : Steady l z (subU a1 a2 a3 a4 s) := by
  unfold subU
  refine Steady.ite ?_ ?_
  · assumption
  · refine checkXoff_steady _ _ _ ?_
    refine Steady.lit ?_ rfl rfl rfl rfl
    assumption

theorem chargeHeadroom_steady (a1 a2 a3 s) (h4 : Steady l z s) : Steady l z (chargeHeadroom a1 a2 a3 s) := by
  unfold chargeHeadroom
  extract_lets -underBinder -merge -useContext +onlyGivenNames x1
  extract_lets -underBinder -merge -useContext +onlyGivenNames x2
  refine Steady.lit ?_ rfl rfl rfl rfl
  assumption

theorem chargeIngress_steady (a1 a2 a3 s) (h4 : Steady l z s) : Steady l z (chargeIngress a1 a2 a3 s) := by
  unfold chargeIngress
  extract_lets -underBinder -merge -useContext +onlyGivenNames x1
  refine Steady.lit ?_ rfl rfl rfl rfl
  assumption

theorem uncharge_steady (a1 s) (h2 : Steady l z s) : Steady l z (uncharge a1 s) := by
  unfold uncharge
  refine Steady.ite ?_ ?_
  · refine Steady.lit ?_ rfl rfl rfl rfl
    assumption
  · refine Steady.lit ?_ rfl rfl rfl rfl
    assumption

theorem freeFrame_steady (a1 s) (h2 : Steady l z s) : Steady l z (freeFrame a1 s) := by
  unfold freeFrame
  refine subU_steady _ _ _ _ _ ?_
  exact uncharge_steady _ _ (by assumption)

theorem overrun_steady (a1 s) (h2 : Steady l z s) : Steady l z (overrun a1 s) := by
  unfold overrun
  refine raise_steady _ _ ?_
  refine Steady.lit ?_ rfl rfl rfl rfl
  assumption

theorem store_steady (a1 s) (h2 : Steady l z s) : SteadyP l z (store a1 s) := by
  unfold store
  refine SteadyP.ite ?_ ?_
  · refine SteadyP.mk ?_
    refine addU_steady _ _ _ _ _ ?_
    exact chargeIngress_steady _ _ _ _ (by assumption)
  · refine SteadyP.ite ?_ ?_
    · refine SteadyP.ite ?_ ?_
      · refine SteadyP.mk ?_
        refine addU_steady _ _ _ _ _ ?_
        exact chargeHeadroom_steady _ _ _ _ (by assumption)
      · refine SteadyP.mk ?_
        exact overrun_steady _ _ (by assumption)
    · refine SteadyP.mk ?_
      refine Steady.lit ?_ rfl rfl rfl rfl
      assumption

theorem State.setVoq_steady (s1 a2 a3) (h1 : Steady l z s1) : Steady l z (State.setVoq s1 a2 a3) := by
  unfold State.setVoq
  refine Steady.lit ?_ rfl rfl rfl rfl
  assumption

theorem enterSpill_steady (a1 s) (h2 : Steady l z s) : Steady l z (enterSpill a1 s) := by
  unfold enterSpill
  extract_lets -underBinder -merge -useContext +onlyGivenNames x1
  extract_lets -underBinder -merge -useContext +onlyGivenNames x2
  refine Steady.ite ?_ ?_
  · exact State.setVoq_steady _ _ _ (by assumption)
  · assumption

theorem countDiscard_steady (a1 a2 s) (h3 : Steady l z s) : Steady l z (countDiscard a1 a2 s) := by
  unfold countDiscard
  extract_lets -underBinder -merge -useContext +onlyGivenNames x1
  extract_lets -underBinder -merge -useContext +onlyGivenNames x2
  have h3 : Steady l z x2 := by
    exact State.setVoq_steady _ _ _ (by assumption)
  try clear_value x2
  refine Steady.lit ?_ rfl rfl rfl rfl
  assumption

theorem sendToNeighbours_steady (a1 s) (h2 : Steady l z s) : Steady l z (sendToNeighbours a1 s) := by
  unfold sendToNeighbours
  refine Steady.lit ?_ rfl rfl rfl rfl
  assumption

theorem sendToSlot_steady (a1 a2 s) (h3 : Steady l z s) : Steady l z (sendToSlot a1 a2 s) := by
  unfold sendToSlot
  extract_lets -underBinder -merge -useContext +onlyGivenNames x1
  extract_lets -underBinder -merge -useContext +onlyGivenNames x2
  split
  · refine Steady.lit ?_ rfl rfl rfl rfl
    assumption
  · assumption

theorem sendPortState_steady (a1 a2 s) (h3 : Steady l z s) : Steady l z (sendPortState a1 a2 s) := by
  unfold sendPortState
  refine Steady.each ?_ fun _ _ _ => ?_
  · assumption
  · exact sendToSlot_steady _ _ _ (by assumption)

theorem requestGrant_steady (a1 s2) (h2 : Steady l z s2) : Steady l z (requestGrant a1 s2) := by
  unfold requestGrant
  extract_lets -underBinder -merge -useContext +onlyGivenNames x1
  refine Steady.ite ?_ ?_
  · assumption
  · split
    · assumption
    · extract_lets -underBinder -merge -useContext +onlyGivenNames x2
      exact sendToSlot_steady _ _ _ (by assumption)

theorem appendVoq_steady (a1 a2 a3 a4 a5 s) (h6 : Steady l z s) : Steady l z (appendVoq a1 a2 a3 a4 a5 s) := by
  unfold appendVoq
  extract_lets -underBinder -merge -useContext +onlyGivenNames x1
  extract_lets -underBinder -merge -useContext +onlyGivenNames x2
  extract_lets -underBinder -merge -useContext +onlyGivenNames x3
  extract_lets -underBinder -merge -useContext +onlyGivenNames x4
  extract_lets -underBinder -merge -useContext +onlyGivenNames x5 x6 x7
  have h8 : Steady l z x5 := by
    exact State.setVoq_steady _ _ _ (by assumption)
  try clear_value x5
  have h9 : Steady l z x7 := by
    refine Steady.lit ?_ rfl rfl rfl rfl
    assumption
  try clear_value x7
  extract_lets -underBinder -merge -useContext +onlyGivenNames x10
  extract_lets -underBinder -merge -useContext +onlyGivenNames x11 x12
  have h13 : Steady l z x12 := by
    refine Steady.lit ?_ rfl rfl rfl rfl
    assumption
  try clear_value x12
  extract_lets -underBinder -merge -useContext +onlyGivenNames x14
  have h15 : Steady l z x14 := by
    exact enterSpill_steady _ _ (by assumption)
  try clear_value x14
  refine Steady.ite ?_ ?_
  · exact requestGrant_steady _ _ (by assumption)
  · assumption

theorem admitVoq_steady (a1 a2 s) (h3 : Steady l z s) : SteadyO l z (admitVoq a1 a2 s) := by
  unfold admitVoq
  extract_lets -underBinder -merge -useContext +onlyGivenNames x1
  extract_lets -underBinder -merge -useContext +onlyGivenNames x2
  refine SteadyO.ite ?_ ?_
  · refine SteadyO.some ?_
    exact appendVoq_steady _ _ _ _ _ _ (by assumption)
  · refine SteadyO.ite ?_ ?_
    · extract_lets -underBinder -merge -useContext +onlyGivenNames x3
      refine SteadyO.some ?_
      exact appendVoq_steady _ _ _ _ _ _ (by assumption)
    · refine SteadyO.ite ?_ ?_
      · refine SteadyO.some ?_
        refine appendVoq_steady _ _ _ _ _ _ ?_
        exact chargeHeadroom_steady _ _ _ _ (by assumption)
      · exact SteadyO.none

theorem releaseCells_steady (a1 a2 s) (h3 : Steady l z s) : Steady l z (releaseCells a1 a2 s) := by
  unfold releaseCells
  extract_lets -underBinder -merge -useContext +onlyGivenNames x1
  extract_lets -underBinder -merge -useContext +onlyGivenNames x2
  extract_lets -underBinder -merge -useContext +onlyGivenNames x3
  have h4 : Steady l z x3 := by
    exact State.setVoq_steady _ _ _ (by assumption)
  try clear_value x3
  refine Steady.lit ?_ rfl rfl rfl rfl
  assumption

theorem freeHeadroom_steady (a1 s) (h2 : Steady l z s) : Steady l z (freeHeadroom a1 s) := by
  unfold freeHeadroom
  refine Steady.lit ?_ rfl rfl rfl rfl
  assumption

theorem releasePart_steady (a1 a2 a3 s4) (h4 : Steady l z s4) : Steady l z (releasePart a1 a2 a3 s4) := by
  unfold releasePart
  split
  · refine Steady.ite ?_ ?_
    · refine subU_steady _ _ _ _ _ ?_
      exact freeHeadroom_steady _ _ (by assumption)
    · refine subU_steady _ _ _ _ _ ?_
      exact releaseCells_steady _ _ _ (by assumption)
  · extract_lets -underBinder -merge -useContext +onlyGivenNames x1
    extract_lets -underBinder -merge -useContext +onlyGivenNames x2
    have h3 : Steady l z x2 := by
      refine Steady.ite ?_ ?_
      · assumption
      · exact State.setVoq_steady _ _ _ (by assumption)
    try clear_value x2
    extract_lets -underBinder -merge -useContext +onlyGivenNames x4
    refine Steady.ite ?_ ?_
    · refine Steady.lit ?_ rfl rfl rfl rfl
      assumption
    · extract_lets -underBinder -merge -useContext +onlyGivenNames x5
      extract_lets -underBinder -merge -useContext +onlyGivenNames x6
      have h7 : Steady l z x6 := by
        refine Steady.lit ?_ rfl rfl rfl rfl
        assumption
      try clear_value x6
      extract_lets -underBinder -merge -useContext +onlyGivenNames x8
      extract_lets -underBinder -merge -useContext +onlyGivenNames x9
      have h10 : Steady l z x9 := by
        refine Steady.ite ?_ ?_
        · exact freeHeadroom_steady _ _ (by assumption)
        · refine Steady.lit ?_ rfl rfl rfl rfl
          assumption
      try clear_value x9
      exact subU_steady _ _ _ _ _ (by assumption)

theorem releaseFrame_steady (a1 a2 s3) (h3 : Steady l z s3) : Steady l z (releaseFrame a1 a2 s3) := by
  unfold releaseFrame
  exact releasePart_steady _ _ _ _ (by assumption)

theorem moveOff_steady (a1 a2 a3 s4) (h4 : Steady l z s4) : Steady l z (moveOff a1 a2 a3 s4) := by
  unfold moveOff
  refine Steady.ite ?_ ?_
  · assumption
  · refine Steady.ite ?_ ?_
    · exact State.setVoq_steady _ _ _ (by assumption)
    · refine subU_steady _ _ _ _ _ ?_
      exact releaseCells_steady _ _ _ (by assumption)

theorem moveOn_steady (a1 a2 a3 s4) (h4 : Steady l z s4) : Steady l z (moveOn a1 a2 a3 s4) := by
  unfold moveOn
  refine Steady.ite ?_ ?_
  · assumption
  · extract_lets -underBinder -merge -useContext +onlyGivenNames x1
    extract_lets -underBinder -merge -useContext +onlyGivenNames x2
    have h3 : Steady l z x2 := by
      exact State.setVoq_steady _ _ _ (by assumption)
    try clear_value x2
    refine Steady.ite ?_ ?_
    · assumption
    · refine addU_steady _ _ _ _ _ ?_
      refine Steady.lit ?_ rfl rfl rfl rfl
      assumption

theorem emptyVoq_steady (a1 a2 s3) (h2 : ∀ y0 y1, Steady l z y1 → Steady l z (a2 y0 y1)) (h3 : Steady l z s3) : Steady l z (emptyVoq a1 a2 s3) := by
  unfold emptyVoq
  extract_lets -underBinder -merge -useContext +onlyGivenNames x1
  extract_lets -underBinder -merge -useContext +onlyGivenNames x2
  have h3 : Steady l z x2 := by
    exact State.setVoq_steady _ _ _ (by assumption)
  try clear_value x2
  extract_lets -underBinder -merge -useContext +onlyGivenNames x4
  extract_lets -underBinder -merge -useContext +onlyGivenNames x5
  have h6 : Steady l z x5 := by
    refine Steady.lit ?_ rfl rfl rfl rfl
    assumption
  try clear_value x5
  refine Steady.each ?_ fun _ _ _ => ?_
  · assumption
  · apply_assumption
    exact releasePart_steady _ _ _ _ (by assumption)

theorem dropQueued_steady (a1 s) (h2 : Steady l z s) : Steady l z (dropQueued a1 s) := by
  unfold dropQueued
  refine subU_steady _ _ _ _ _ ?_
  refine Steady.ite ?_ ?_
  · exact freeHeadroom_steady _ _ (by assumption)
  · assumption

theorem enqueuePort_steady (a1 a2 a3 a4 s5) (h5 : Steady l z s5) : Steady l z (enqueuePort a1 a2 a3 a4 s5) := by
  unfold enqueuePort
  extract_lets -underBinder -merge -useContext +onlyGivenNames x1
  have h2 : ∀ y3, Steady l z y3 → Steady l z (x1 y3) := by
    intro y3 h4
    unfold x1
    exact dropQueued_steady _ _ (by assumption)
  try clear_value x1
  split
  · apply_assumption
    refine Steady.lit ?_ rfl rfl rfl rfl
    assumption
  · refine Steady.ite ?_ ?_
    · apply_assumption
      refine Steady.lit ?_ rfl rfl rfl rfl
      assumption
    · refine Steady.ite ?_ ?_
      · apply_assumption
        refine Steady.lit ?_ rfl rfl rfl rfl
        assumption
      · refine Steady.ite ?_ ?_
        · apply_assumption
          refine Steady.lit ?_ rfl rfl rfl rfl
          assumption
        · refine Steady.ite ?_ ?_
          · apply_assumption
            refine Steady.lit ?_ rfl rfl rfl rfl
            assumption
          · split
            · rename_i v5 v6 q7
              have h8 : Steady l z v6 := by
                refine SteadyO.get q7 ?_
                exact admitVoq_steady _ _ _ (by assumption)
              assumption
            · rename_i v9 q10
              extract_lets -underBinder -merge -useContext +onlyGivenNames x11
              have h12 : Steady l z x11 := by
                exact countDiscard_steady _ _ _ (by assumption)
              try clear_value x11
              apply_assumption
              refine Steady.ite ?_ ?_
              · exact overrun_steady _ _ (by assumption)
              · assumption

theorem enqueueCopy_steady (a1 a2 a3 a4 s) (h5 : Steady l z s) : Steady l z (enqueueCopy a1 a2 a3 a4 s) := by
  unfold enqueueCopy
  exact enqueuePort_steady _ _ _ _ _ (by assumption)

theorem enqueueSlow_steady (a1 a2 a3 s) (h4 : Steady l z s) : Steady l z (enqueueSlow a1 a2 a3 s) := by
  unfold enqueueSlow
  refine Steady.ite ?_ ?_
  · refine dropQueued_steady _ _ ?_
    refine Steady.lit ?_ rfl rfl rfl rfl
    assumption
  · exact enqueuePort_steady _ _ _ _ _ (by assumption)

theorem placeGroup_steady (a1 a2 a3 a4 s5) (h5 : Steady l z s5) : SteadyP l z (placeGroup a1 a2 a3 a4 s5) := by
  unfold placeGroup
  refine SteadyP.each ?_ fun _ _ _ => ?_
  · assumption
  · split
    · extract_lets -underBinder -merge -useContext +onlyGivenNames x1
      refine SteadyP.ite ?_ ?_
      · refine SteadyP.mk ?_
        refine Steady.lit ?_ rfl rfl rfl rfl
        assumption
      · refine SteadyP.ite ?_ ?_
        · refine SteadyP.mk ?_
          refine Steady.lit ?_ rfl rfl rfl rfl
          assumption
        · refine SteadyP.ite ?_ ?_
          · refine SteadyP.mk ?_
            exact appendVoq_steady _ _ _ _ _ _ (by assumption)
          · refine SteadyP.ite ?_ ?_
            · refine SteadyP.mk ?_
              exact appendVoq_steady _ _ _ _ _ _ (by assumption)
            · refine SteadyP.mk ?_
              exact countDiscard_steady _ _ _ (by assumption)

theorem enqueueGroup_steady (a1 a2 a3 s4) (h4 : Steady l z s4) : Steady l z (enqueueGroup a1 a2 a3 s4) := by
  unfold enqueueGroup
  extract_lets -underBinder -merge -useContext +onlyGivenNames x1
  extract_lets -underBinder -merge -useContext +onlyGivenNames x2
  extract_lets -underBinder -merge -useContext +onlyGivenNames x3
  have h4 : Steady l z x3 := by
    refine Steady.lit ?_ rfl rfl rfl rfl
    assumption
  try clear_value x3
  extract_lets -underBinder -merge -useContext +onlyGivenNames x5
  extract_lets -underBinder -merge -useContext +onlyGivenNames x6
  extract_lets -underBinder -merge -useContext +onlyGivenNames x7
  extract_lets -underBinder -merge -useContext +onlyGivenNames x8
  have h9 : Steady l z x8 := by
    refine Steady.ite ?_ ?_
    · exact chargeHeadroom_steady _ _ _ _ (by assumption)
    · refine Steady.ite ?_ ?_
      · exact overrun_steady _ _ (by assumption)
      · assumption
  try clear_value x8
  split
  · rename_i v10 v11 v12 q13
    have h14 : Steady l z v12 := by
      refine SteadyP.get q13 ?_
      exact placeGroup_steady _ _ _ _ _ (by assumption)
    refine Steady.ite ?_ ?_
    · exact dropQueued_steady _ _ (by assumption)
    · refine Steady.lit ?_ rfl rfl rfl rfl
      assumption

theorem dropNeighbours_steady (a1 s) (h2 : Steady l z s) : Steady l z (dropNeighbours a1 s) := by
  unfold dropNeighbours
  refine Steady.ite ?_ ?_
  · refine raise_steady _ _ ?_
    refine Steady.lit ?_ rfl rfl rfl rfl
    assumption
  · assumption

theorem State.setEgPort_steady (s1 a2 a3) (h1 : Steady l z s1) : Steady l z (State.setEgPort s1 a2 a3) := by
  unfold State.setEgPort
  refine Steady.lit ?_ rfl rfl rfl rfl
  assumption

theorem State.setEgPipe_steady (s1 a2 a3) (h1 : Steady l z s1) : Steady l z (State.setEgPipe s1 a2 a3) := by
  unfold State.setEgPipe
  refine Steady.lit ?_ rfl rfl rfl rfl
  assumption

theorem State.setFabPort_steady (s1 a2 a3) (h1 : Steady l z s1) : Steady l z (State.setFabPort s1 a2 a3) := by
  unfold State.setFabPort
  refine Steady.lit ?_ rfl rfl rfl rfl
  assumption

theorem pushControl_steady (a1 a2 s3) (h3 : Steady l z s3) : Steady l z (pushControl a1 a2 s3) := by
  unfold pushControl
  extract_lets -underBinder -merge -useContext +onlyGivenNames x1
  exact State.setFabPort_steady _ _ _ (by assumption)

theorem sendCredit_steady (a1 a2 a3 s4) (h4 : Steady l z s4) : Steady l z (sendCredit a1 a2 a3 s4) := by
  unfold sendCredit
  extract_lets -underBinder -merge -useContext +onlyGivenNames x1
  split
  · refine Steady.ite ?_ ?_
    · exact State.setFabPort_steady _ _ _ (by assumption)
    · exact pushControl_steady _ _ _ (by assumption)
  · exact pushControl_steady _ _ _ (by assumption)

theorem takeRx_steady (a1 a2 s3) (h3 : Steady l z s3) : Steady l z (takeRx a1 a2 s3) := by
  unfold takeRx
  extract_lets -underBinder -merge -useContext +onlyGivenNames x1
  extract_lets -underBinder -merge -useContext +onlyGivenNames x2
  have h3 : Steady l z x2 := by
    exact State.setFabPort_steady _ _ _ (by assumption)
  try clear_value x2
  refine Steady.lit ?_ rfl rfl rfl rfl
  assumption

theorem freeRx_steady (a1 a2 a3 s4) (h4 : Steady l z s4) : Steady l z (freeRx a1 a2 a3 s4) := by
  unfold freeRx
  extract_lets -underBinder -merge -useContext +onlyGivenNames x1
  extract_lets -underBinder -merge -useContext +onlyGivenNames x2
  have h3 : Steady l z x2 := by
    exact State.setFabPort_steady _ _ _ (by assumption)
  try clear_value x2
  extract_lets -underBinder -merge -useContext +onlyGivenNames x4
  extract_lets -underBinder -merge -useContext +onlyGivenNames x5
  have h6 : Steady l z x5 := by
    refine Steady.lit ?_ rfl rfl rfl rfl
    assumption
  try clear_value x5
  refine Steady.ite ?_ ?_
  · exact sendCredit_steady _ _ _ _ (by assumption)
  · assumption

theorem freeFabric_steady (a1 a2 a3 s4) (h4 : Steady l z s4) : Steady l z (freeFabric a1 a2 a3 s4) := by
  unfold freeFabric
  refine freeRx_steady _ _ _ _ ?_
  refine Steady.lit ?_ rfl rfl rfl rfl
  assumption

theorem releaseReplica_steady (a1 a2 a3 s) (h4 : Steady l z s) : Steady l z (releaseReplica a1 a2 a3 s) := by
  unfold releaseReplica
  extract_lets -underBinder -merge -useContext +onlyGivenNames x1
  refine Steady.ite ?_ ?_
  · refine Steady.lit ?_ rfl rfl rfl rfl
    assumption
  · extract_lets -underBinder -merge -useContext +onlyGivenNames x2 x3
    have h4 : Steady l z x3 := by
      refine Steady.lit ?_ rfl rfl rfl rfl
      assumption
    try clear_value x3
    refine Steady.ite ?_ ?_
    · exact freeFabric_steady _ _ _ _ (by assumption)
    · refine subU_steady _ _ _ _ _ ?_
      refine Steady.ite ?_ ?_
      · exact freeHeadroom_steady _ _ (by assumption)
      · refine Steady.lit ?_ rfl rfl rfl rfl
        assumption

theorem releaseTx_steady (a1 s) (h2 : Steady l z s) : Steady l z (releaseTx a1 s) := by
  unfold releaseTx
  split
  · exact releaseFrame_steady _ _ _ (by assumption)
  · exact releaseReplica_steady _ _ _ _ (by assumption)
  · exact freeFabric_steady _ _ _ _ (by assumption)

theorem State.setEgQueue_steady (s1 a2 a3 a4) (h1 : Steady l z s1) : Steady l z (State.setEgQueue s1 a2 a3 a4) := by
  unfold State.setEgQueue
  refine Steady.lit ?_ rfl rfl rfl rfl
  assumption

theorem ungrant_steady (a1 s2) (h2 : Steady l z s2) : Steady l z (ungrant a1 s2) := by
  unfold ungrant
  split
  · extract_lets -underBinder -merge -useContext +onlyGivenNames x1
    exact State.setVoq_steady _ _ _ (by assumption)
  · extract_lets -underBinder -merge -useContext +onlyGivenNames x2
    extract_lets -underBinder -merge -useContext +onlyGivenNames x3
    exact State.setEgQueue_steady _ _ _ _ (by assumption)

theorem linkDown_steady (a1 s2) (h2 : Steady l z s2) : Steady l z (linkDown a1 s2) := by
  unfold linkDown
  refine Steady.ite ?_ ?_
  · assumption
  · extract_lets -underBinder -merge -useContext +onlyGivenNames x1
    extract_lets -underBinder -merge -useContext +onlyGivenNames x2
    extract_lets -underBinder -merge -useContext +onlyGivenNames x3
    extract_lets -underBinder -merge -useContext +onlyGivenNames x4
    extract_lets -underBinder -merge -useContext +onlyGivenNames x5
    extract_lets -underBinder -merge -useContext +onlyGivenNames x6
    extract_lets -underBinder -merge -useContext +onlyGivenNames x7
    extract_lets -underBinder -merge -useContext +onlyGivenNames x8
    have h9 : Steady l z x8 := by
      refine Steady.lit ?_ rfl rfl rfl rfl
      assumption
    try clear_value x8
    extract_lets -underBinder -merge -useContext +onlyGivenNames x10
    have h11 : Steady l z x10 := by
      exact State.setEgPort_steady _ _ _ (by assumption)
    try clear_value x10
    extract_lets -underBinder -merge -useContext +onlyGivenNames x12
    have h13 : Steady l z x12 := by
      exact State.setEgPipe_steady _ _ _ (by assumption)
    try clear_value x12
    extract_lets -underBinder -merge -useContext +onlyGivenNames x14
    have h15 : Steady l z x14 := by
      refine Steady.each ?_ fun _ _ _ => ?_
      · assumption
      · exact releaseTx_steady _ _ (by assumption)
    try clear_value x14
    extract_lets -underBinder -merge -useContext +onlyGivenNames x16
    have h17 : Steady l z x16 := by
      refine Steady.each ?_ fun _ _ _ => ?_
      · assumption
      · exact ungrant_steady _ _ (by assumption)
    try clear_value x16
    refine dropNeighbours_steady _ _ ?_
    exact sendPortState_steady _ _ _ (by assumption)

theorem linkComesUp_steady (a1 s) (h2 : Steady l z s) : Steady l z (linkComesUp a1 s) := by
  unfold linkComesUp
  refine Steady.ite ?_ ?_
  · assumption
  · extract_lets -underBinder -merge -useContext +onlyGivenNames x1
    refine sendPortState_steady _ _ _ ?_
    refine Steady.lit ?_ rfl rfl rfl rfl
    assumption

theorem countLinger_steady (a1 a2 s3) (h3 : Steady l z s3) : Steady l z (countLinger a1 a2 s3) := by
  unfold countLinger
  refine Steady.lit ?_ rfl rfl rfl rfl
  assumption


theorem emptyPortQueues_steady (a1 a2 s3) (h2 : ∀ y0 y1, Steady l z y1 → Steady l z (a2 y0 y1)) (h3 : Steady l z s3) :
    Steady l z (emptyPortQueues a1 a2 s3) := by
  unfold emptyPortQueues
  refine Steady.each h3 fun tc s h => ?_
  refine Steady.ite h (Steady.each ?_ fun t s h => h2 _ _ (releaseTx_steady _ _ h))
  refine Steady.lit h rfl rfl rfl rfl

theorem endLinger_steady (a1 s2) (h2 : Steady l z s2) : Steady l z (endLinger a1 s2) := by
  unfold endLinger
  refine raise_steady _ _ ?_
  have h4 : Steady l z (forEach (({ s2 with buf.hold := s2.buf.hold.erase a1 } : State).voqsOfPort a1 ++
      (if s2.fab.downSlots.contains (a1 / 256) && !(s2.buf.hold.erase a1).any (fun x => x / 16 = a1 / 16) then
        ({ s2 with buf.hold := s2.buf.hold.erase a1 } : State).voqsOfPipe (a1 / 256) (a1 % 256 / 16) else []))
      { s2 with buf.hold := s2.buf.hold.erase a1 }
      (fun k s => emptyVoq k (fun _ s => countLinger a1 (voqTc k) s) s)) :=
    Steady.each (Steady.lit h2 rfl rfl rfl rfl) fun k s h => emptyVoq_steady _ _ _ (fun _ s h => countLinger_steady _ _ _ h) h
  split
  · rename_i p hp
    refine Steady.ite (Steady.lit ?_ rfl rfl rfl rfl) ?_
    · exact emptyPortQueues_steady _ _ _ (fun _ _ h => countLinger_steady _ _ _ h) h4
    · exact emptyPortQueues_steady _ _ _ (fun _ _ h => countLinger_steady _ _ _ h) h4
  · exact h4

theorem execLingerExpire_steady (a1 s) (h2 : Steady l z s) : SteadyX l z (execLingerExpire a1 s) := by
  unfold execLingerExpire
  refine SteadyX.next ?_
  refine Steady.ite ?_ ?_
  · exact endLinger_steady _ _ (by assumption)
  · assumption

theorem execPfcRefresh_steady (a1 a2 s) (h3 : Steady l z s) : SteadyX l z (execPfcRefresh a1 a2 s) := by
  unfold execPfcRefresh
  refine SteadyX.next ?_
  refine Steady.ite ?_ ?_
  · exact sendPause_steady _ _ _ _ (by assumption)
  · assumption

theorem dropAllFrames_steady (s) (h1 : Steady l z s) : SteadyL l z (dropAllFrames s) := by
  unfold dropAllFrames
  extract_lets -underBinder -merge -useContext +onlyGivenNames x1
  extract_lets -underBinder -merge -useContext +onlyGivenNames x2
  extract_lets -underBinder -merge -useContext +onlyGivenNames x3
  extract_lets -underBinder -merge -useContext +onlyGivenNames x4
  refine SteadyL.mk ?_
  refine Steady.lit ?_ rfl rfl rfl rfl
  assumption

end Sys2Proof.Machine
end

