-- ==== Sys2Proof/Laws/Steady/Forward.lean ====
section
/-! SUPPORT. What the operations of Machine/Forward keep (Laws/Steady). -/

namespace Sys2Proof.Machine

variable {l : Bool × Bool} {z s t : State}

theorem count5_steady (a1 s) (h2 : Steady l z s) : Steady l z (count5 a1 s) := by
  unfold count5
  refine Steady.lit ?_ rfl rfl rfl rfl
  assumption

theorem countVlan_steady (a1 s) (h2 : Steady l z s) : Steady l z (countVlan a1 s) := by
  unfold countVlan
  refine Steady.lit ?_ rfl rfl rfl rfl
  assumption

theorem putMac_steady (a1 a2 s3) (h3 : Steady l z s3) : Steady l z (putMac a1 a2 s3) := by
  unfold putMac
  extract_lets -underBinder -merge -useContext +onlyGivenNames x1
  have h2 : Steady l z x1 := by
    exact beginUpdate_steady _ (by assumption)
  try clear_value x1
  extract_lets -underBinder -merge -useContext +onlyGivenNames x3
  extract_lets -underBinder -merge -useContext +onlyGivenNames x4
  extract_lets -underBinder -merge -useContext +onlyGivenNames x5
  have h6 : Steady l z x5 := by
    refine Steady.lit ?_ rfl rfl rfl rfl
    assumption
  try clear_value x5
  refine Steady.ite ?_ ?_
  · exact raise_steady _ _ (by assumption)
  · assumption

theorem insertMac_steady (a1 s) (h2 : Steady l z s) : SteadyO l z (insertMac a1 s) := by
  unfold insertMac
  refine SteadyO.map fun _ => ?_
  · exact putMac_steady _ _ _ (by assumption)

theorem putHost_steady (a1 a2 s3) (h3 : Steady l z s3) : Steady l z (putHost a1 a2 s3) := by
  unfold putHost
  extract_lets -underBinder -merge -useContext +onlyGivenNames x1
  have h2 : Steady l z x1 := by
    exact beginUpdate_steady _ (by assumption)
  try clear_value x1
  extract_lets -underBinder -merge -useContext +onlyGivenNames x3
  extract_lets -underBinder -merge -useContext +onlyGivenNames x4
  extract_lets -underBinder -merge -useContext +onlyGivenNames x5
  have h6 : Steady l z x5 := by
    refine Steady.lit ?_ rfl rfl rfl rfl
    assumption
  try clear_value x5
  refine Steady.ite ?_ ?_
  · exact raise_steady _ _ (by assumption)
  · assumption

theorem insertHost_steady (a1 s) (h2 : Steady l z s) : SteadyO l z (insertHost a1 s) := by
  unfold insertHost
  refine SteadyO.map fun _ => ?_
  · exact putHost_steady _ _ _ (by assumption)

theorem hitHost_steady (a1 a2 a3 s4) (h4 : Steady l z s4) : Steady l z (hitHost a1 a2 a3 s4) := by
  unfold hitHost
  split
  · refine Steady.lit ?_ rfl rfl rfl rfl
    assumption
  · assumption

theorem ipLookup_steady (a1 a2 a3 a4 s5) (h5 : Steady l z s5) : SteadyP l z (ipLookup a1 a2 a3 a4 s5) := by
  unfold ipLookup
  split
  · refine SteadyP.mk ?_
    exact hitHost_steady _ _ _ _ (by assumption)
  · split
    · assumption
    · assumption

theorem forward_steady (a1 a2 a3 a4 s5) (h5 : Steady l z s5) : SteadyP l z (forward a1 a2 a3 a4 s5) := by
  unfold forward
  extract_lets -underBinder -merge -useContext +onlyGivenNames x1
  refine SteadyP.ite ?_ ?_
  · assumption
  · extract_lets -underBinder -merge -useContext +onlyGivenNames x2
    refine SteadyP.ite ?_ ?_
    · extract_lets -underBinder -merge -useContext +onlyGivenNames x3
      split
      · split
        · rename_i v4 v5 v6 q7
          have h8 : Steady l z v6 := by
            refine SteadyP.get q7 ?_
            exact ipLookup_steady _ _ _ _ _ (by assumption)
          assumption
    · split
      · assumption
      · extract_lets -underBinder -merge -useContext +onlyGivenNames x9
        extract_lets -underBinder -merge -useContext +onlyGivenNames x10
        refine SteadyP.ite ?_ ?_
        · assumption
        · assumption

end Sys2Proof.Machine
end

