-- ==== Sys2Proof/Laws/Steady/Gates.lean ====
section
/-! SUPPORT. What the operations of Machine/Gates keep (Laws/Steady). -/

namespace Sys2Proof.Machine

variable {l : Bool × Bool} {z s t : State}

theorem resyncGates_steady (s) (h1 : Steady l z s) : Steady l z (resyncGates s) := by
  unfold resyncGates
  refine Steady.lit ?_ rfl rfl rfl rfl
  assumption

end Sys2Proof.Machine
end

