-- ==== Sys2Proof/Laws/Steady/Operands.lean ====
section
/-! SUPPORT. What the operations of Machine/Operands keep (Laws/Steady). -/

namespace Sys2Proof.Machine

variable {l : Bool × Bool} {z s t : State}

theorem writeBody_steady (a1 a2 a3 a4) (h4 : ∀ z b, Steady l z b → Steady l z (a4 b)) : SteadyB l (writeBody a1 a2 a3 a4) :=
  SteadyB.mk fun z s h => h4 z s h

theorem readBody_steady (a1 a2 a3 a4) : SteadyB l (readBody a1 a2 a3 a4) := SteadyB.mk fun _ _ h => h

theorem Body.apply_steady (a1 s) (h1 : SteadyB l a1) (h2 : Steady l z s) : SteadyA l z (Body.apply a1 s) := h1 z s h2

end Sys2Proof.Machine
end

