-- ==== Sys2Proof/Laws/Steady/Messages.lean ====
section
/-! SUPPORT. What the operations of Machine/Messages keep (Laws/Steady). -/

namespace Sys2Proof.Machine

variable {l : Bool × Bool} {z s t : State}

theorem originate_steady (a1 a2 a3 s4) (h4 : Steady l z s4) : Steady l z (originate a1 a2 a3 s4) := by
  unfold originate
  refine Steady.lit ?_ rfl rfl rfl rfl
  assumption

theorem sendPtp_steady (a1 a2 s3) (h3 : Steady l z s3) : Steady l z (sendPtp a1 a2 s3) := by
  unfold sendPtp
  extract_lets -underBinder -merge -useContext +onlyGivenNames x1
  extract_lets -underBinder -merge -useContext +onlyGivenNames x2
  have h3 : Steady l z x2 := by
    exact originate_steady _ _ _ _ (by assumption)
  try clear_value x2
  refine Steady.lit ?_ rfl rfl rfl rfl
  assumption

end Sys2Proof.Machine
end

