-- ==== Sys2Proof/Laws/Steady/Policer.lean ====
section
/-! SUPPORT. What the operations of Machine/Policer keep (Laws/Steady). -/

namespace Sys2Proof.Machine

variable {l : Bool × Bool} {z s t : State}

theorem bodyPolicerRead_steady (a1 a2 a3 a4) : SteadyB l (bodyPolicerRead a1 a2 a3 a4) := by
  unfold bodyPolicerRead
  refine SteadyB.mk fun z _ _ => ?_
  extract_lets -underBinder -merge -useContext +onlyGivenNames x1
  refine SteadyA.mk ?_
  refine Steady.ite ?_ ?_
  · refine Steady.lit ?_ rfl rfl rfl rfl
    assumption
  · assumption

theorem bodyPolicerWrite_steady (a1 a2) : SteadyB l (bodyPolicerWrite a1 a2) := by
  unfold bodyPolicerWrite
  extract_lets -underBinder -merge -useContext +onlyGivenNames x1
  refine writeBody_steady _ _ _ _ (fun z _ _ => ?_)
  extract_lets -underBinder -merge -useContext +onlyGivenNames x2
  refine Steady.lit ?_ rfl rfl rfl rfl
  assumption

theorem police_steady (a1 a2 a3 s) (h4 : Steady l z s) : SteadyP3 l z (police a1 a2 a3 s) := by
  unfold police
  extract_lets -underBinder -merge -useContext +onlyGivenNames x1
  extract_lets -underBinder -merge -useContext +onlyGivenNames x2
  split
  · extract_lets -underBinder -merge -useContext +onlyGivenNames x3
    extract_lets -underBinder -merge -useContext +onlyGivenNames x4
    extract_lets -underBinder -merge -useContext +onlyGivenNames x5
    extract_lets -underBinder -merge -useContext +onlyGivenNames x6
    refine SteadyP3.mk ?_
    refine SteadyP.mk ?_
    refine Steady.lit ?_ rfl rfl rfl rfl
    assumption

end Sys2Proof.Machine
end

