-- ==== Sys2Proof/Laws/Steady/Egress.lean ====
section
/-! SUPPORT. What the operations of Machine/Egress keep (Laws/Steady). -/

namespace Sys2Proof.Machine

variable {l : Bool × Bool} {z s t : State}

theorem execShaperSlotDue_steady (a1 a2 a3 s) (h4 : Steady l z s) : SteadyX l z (execShaperSlotDue a1 a2 a3 s) := by
  unfold execShaperSlotDue
  extract_lets -underBinder -merge -useContext +onlyGivenNames x1
  refine SteadyX.next ?_
  refine Steady.lit ?_ rfl rfl rfl rfl
  assumption

theorem dropHead_steady (a1 a2 a3 s4) (h4 : Steady l z s4) : Steady l z (dropHead a1 a2 a3 s4) := by
  unfold dropHead
  split
  · assumption
  · extract_lets -underBinder -merge -useContext +onlyGivenNames x1
    extract_lets -underBinder -merge -useContext +onlyGivenNames x2
    have h3 : Steady l z x2 := by
      unfold x2
      split
      · exact State.setVoq_steady _ _ _ (by assumption)
      · exact State.setEgQueue_steady _ _ _ _ (by assumption)
    try clear_value x2
    exact releaseTx_steady _ _ (by assumption)

theorem dropOversize_steady (a1 a2 a3 a4 s) (h5 : Steady l z s) : Steady l z (dropOversize a1 a2 a3 a4 s) := by
  induction a4 generalizing s with
  | zero => exact h5
  | succ n ih =>
    unfold dropOversize
    split
    · exact h5
    · split
      · exact ih _ (raiseFirst_steady _ _ (State.setEgQueue_steady _ _ _ _ (dropHead_steady _ _ _ _ h5)))
      · exact h5

theorem trimPort_steady (a1 s) (h2 : Steady l z s) : Steady l z (trimPort a1 s) := by
  unfold trimPort
  refine Steady.ite ?_ ?_
  · assumption
  · refine Steady.each ?_ fun _ _ _ => ?_
    · assumption
    · refine Steady.each ?_ fun _ _ _ => ?_
      · assumption
      · exact dropOversize_steady _ _ _ _ _ (by assumption)

theorem noteQueue_steady (a1 a2 s) (h3 : Steady l z s) : Steady l z (noteQueue a1 a2 s) := by
  unfold noteQueue
  extract_lets -underBinder -merge -useContext +onlyGivenNames x1
  extract_lets -underBinder -merge -useContext +onlyGivenNames x2
  extract_lets -underBinder -merge -useContext +onlyGivenNames x3
  extract_lets -underBinder -merge -useContext +onlyGivenNames x4
  extract_lets -underBinder -merge -useContext +onlyGivenNames x5
  refine Steady.ite ?_ ?_
  · assumption
  · exact State.setEgQueue_steady _ _ _ _ (by assumption)

theorem noteQueues_steady (a1 s) (h2 : Steady l z s) : Steady l z (noteQueues a1 s) := by
  unfold noteQueues
  refine Steady.each ?_ fun _ _ _ => ?_
  · assumption
  · exact noteQueue_steady _ _ _ (by assumption)

theorem chargeGrant_steady (a1 a2 a3 a4 s) (h5 : Steady l z s) : Steady l z (chargeGrant a1 a2 a3 a4 s) := by
  unfold chargeGrant
  extract_lets -underBinder -merge -useContext +onlyGivenNames x1
  extract_lets -underBinder -merge -useContext +onlyGivenNames x2
  extract_lets -underBinder -merge -useContext +onlyGivenNames x3
  extract_lets -underBinder -merge -useContext +onlyGivenNames x4
  extract_lets -underBinder -merge -useContext +onlyGivenNames x5
  extract_lets -underBinder -merge -useContext +onlyGivenNames x6
  refine State.setEgQueue_steady _ _ _ _ ?_
  exact State.setEgPort_steady _ _ _ (by assumption)

theorem grantRemote_steady (a1 a2 a3 s) (h4 : Steady l z s) : Steady l z (grantRemote a1 a2 a3 s) := by
  unfold grantRemote
  extract_lets -underBinder -merge -useContext +onlyGivenNames x1
  refine sendToSlot_steady _ _ _ ?_
  refine Steady.lit ?_ rfl rfl rfl rfl
  assumption

theorem serve_steady (a1 a2 s3) (h3 : Steady l z s3) : Steady l z (serve a1 a2 s3) := by
  unfold serve
  extract_lets -underBinder -merge -useContext +onlyGivenNames x1
  split
  · assumption
  · extract_lets -underBinder -merge -useContext +onlyGivenNames x2
    have h3 : Steady l z x2 := by
      exact State.setEgQueue_steady _ _ _ _ (by assumption)
    try clear_value x2
    split
    · extract_lets -underBinder -merge -useContext +onlyGivenNames x4
      extract_lets -underBinder -merge -useContext +onlyGivenNames x5
      refine chargeGrant_steady _ _ _ _ _ ?_
      exact grantRemote_steady _ _ _ _ (by assumption)
    · extract_lets -underBinder -merge -useContext +onlyGivenNames x6
      extract_lets -underBinder -merge -useContext +onlyGivenNames x7
      have h8 : Steady l z x7 := by
        unfold x7
        split
        · exact State.setVoq_steady _ _ _ (by assumption)
        · exact State.setEgQueue_steady _ _ _ _ (by assumption)
      try clear_value x7
      extract_lets -underBinder -merge -useContext +onlyGivenNames x9
      have h10 : Steady l z x9 := by
        exact chargeGrant_steady _ _ _ _ _ (by assumption)
      try clear_value x9
      extract_lets -underBinder -merge -useContext +onlyGivenNames x11
      extract_lets -underBinder -merge -useContext +onlyGivenNames x12
      exact State.setEgPipe_steady _ _ _ (by assumption)

theorem countUnderrun_steady (a1 s) (h2 : Steady l z s) : Steady l z (countUnderrun a1 s) := by
  unfold countUnderrun
  refine Steady.each ?_ fun _ _ _ => ?_
  · assumption
  · split
    · extract_lets -underBinder -merge -useContext +onlyGivenNames x1
      refine Steady.ite ?_ ?_
      · exact State.setVoq_steady _ _ _ (by assumption)
      · assumption
    · assumption

theorem execEgressDecision_steady (a1 s) (h2 : Steady l z s) : SteadyX l z (execEgressDecision a1 s) := by
  unfold execEgressDecision
  refine SteadyX.ite ?_ ?_
  · exact SteadyX.next (by assumption)
  · extract_lets -underBinder -merge -useContext +onlyGivenNames x1
    extract_lets -underBinder -merge -useContext +onlyGivenNames x2
    have h3 : Steady l z x2 := by
      refine Steady.each ?_ fun _ _ _ => ?_
      · assumption
      · refine noteQueues_steady _ _ ?_
        exact trimPort_steady _ _ (by assumption)
    try clear_value x2
    extract_lets -underBinder -merge -useContext +onlyGivenNames x4
    split
    · refine SteadyX.next ?_
      refine Steady.each ?_ fun _ _ _ => ?_
      · assumption
      · exact countUnderrun_steady _ _ (by assumption)
    · split
      · exact SteadyX.next (by assumption)
      · extract_lets -underBinder -merge -useContext +onlyGivenNames x5
        have h6 : Steady l z x5 := by
          exact serve_steady _ _ _ (by assumption)
        try clear_value x5
        extract_lets -underBinder -merge -useContext +onlyGivenNames x7
        refine SteadyX.next ?_
        refine noteQueues_steady _ _ ?_
        exact State.setEgPipe_steady _ _ _ (by assumption)

theorem startHead_steady (a1 s2) (h2 : Steady l z s2) : Steady l z (startHead a1 s2) := by
  unfold startHead
  extract_lets -underBinder -merge -useContext +onlyGivenNames x1
  split
  · assumption
  · refine Steady.ite ?_ ?_
    · assumption
    · exact State.setEgPort_steady _ _ _ (by assumption)

theorem execCrossbarGrant_steady (a1 s2) (h2 : Steady l z s2) : SteadyX l z (execCrossbarGrant a1 s2) := by
  unfold execCrossbarGrant
  extract_lets -underBinder -merge -useContext +onlyGivenNames x1
  refine SteadyX.next ?_
  split
  · assumption
  · refine Steady.ite ?_ ?_
    · assumption
    · extract_lets -underBinder -merge -useContext +onlyGivenNames x2
      have h3 : Steady l z x2 := by
        exact State.setEgPipe_steady _ _ _ (by assumption)
      try clear_value x2
      extract_lets -underBinder -merge -useContext +onlyGivenNames x4
      extract_lets -underBinder -merge -useContext +onlyGivenNames x5
      have h6 : Steady l z x5 := by
        exact State.setEgPort_steady _ _ _ (by assumption)
      try clear_value x5
      exact startHead_steady _ _ (by assumption)

theorem stampPtp_steady (a1 s2) (h2 : Steady l z s2) : SteadyP l z (stampPtp a1 s2) := by
  unfold stampPtp
  split
  · refine SteadyP.ite ?_ ?_
    · assumption
    · extract_lets -underBinder -merge -useContext +onlyGivenNames x1
      extract_lets -underBinder -merge -useContext +onlyGivenNames x2
      have h3 : ∀ y4, Steady l z (x2 y4) := by
        intro y4
        unfold x2
        refine Steady.lit ?_ rfl rfl rfl rfl
        assumption
      try clear_value x2
      split
      · refine SteadyP.ite ?_ ?_
        · assumption
        · refine SteadyP.mk ?_
          apply_assumption
      · refine SteadyP.mk ?_
        apply_assumption
      · refine SteadyP.mk ?_
        apply_assumption
      · assumption
  · assumption

theorem sampleLatency_steady (a1 s) (h2 : Steady l z s) : Steady l z (sampleLatency a1 s) := by
  unfold sampleLatency
  extract_lets -underBinder -merge -useContext +onlyGivenNames x1
  extract_lets -underBinder -merge -useContext +onlyGivenNames x2
  extract_lets -underBinder -merge -useContext +onlyGivenNames x3
  extract_lets -underBinder -merge -useContext +onlyGivenNames x4
  extract_lets -underBinder -merge -useContext +onlyGivenNames x5
  extract_lets -underBinder -merge -useContext +onlyGivenNames x6
  have h7 : Steady l z x6 := by
    exact State.setEgQueue_steady _ _ _ _ (by assumption)
  try clear_value x6
  refine Steady.ite ?_ ?_
  · exact raiseFirst_steady _ _ (by assumption)
  · assumption

theorem countSent_steady (a1 s) (h2 : Steady l z s) : Steady l z (countSent a1 s) := by
  unfold countSent
  extract_lets -underBinder -merge -useContext +onlyGivenNames x1
  exact State.setEgQueue_steady _ _ _ _ (by assumption)

theorem countTx_steady (a1 a2 s) (h3 : Steady l z s) : Steady l z (countTx a1 a2 s) := by
  unfold countTx
  extract_lets -underBinder -merge -useContext +onlyGivenNames x1
  refine Steady.lit ?_ rfl rfl rfl rfl
  assumption

theorem execFrameTransmitComplete_steady (a1 s2) (h2 : Steady l z s2) : SteadyX l z (execFrameTransmitComplete a1 s2) := by
  unfold execFrameTransmitComplete
  extract_lets -underBinder -merge -useContext +onlyGivenNames x1
  refine SteadyX.next ?_
  split
  · assumption
  · refine Steady.ite ?_ ?_
    · assumption
    · refine Steady.ite ?_ ?_
      · exact startHead_steady _ _ (by assumption)
      · split
        · rename_i v2 v3 v4 q5
          have h6 : Steady l z v4 := by
            refine SteadyP.get q5 ?_
            exact stampPtp_steady _ _ (by assumption)
          extract_lets -underBinder -merge -useContext +onlyGivenNames x7
          have h8 : Steady l z x7 := by
            refine countSent_steady _ _ ?_
            exact sampleLatency_steady _ _ (by assumption)
          try clear_value x7
          extract_lets -underBinder -merge -useContext +onlyGivenNames x9
          extract_lets -underBinder -merge -useContext +onlyGivenNames x10
          have h11 : Steady l z x10 := by
            refine countTx_steady _ _ _ ?_
            refine Steady.lit ?_ rfl rfl rfl rfl
            assumption
          try clear_value x10
          extract_lets -underBinder -merge -useContext +onlyGivenNames x12
          refine startHead_steady _ _ ?_
          refine releaseTx_steady _ _ ?_
          exact State.setEgPort_steady _ _ _ (by assumption)

theorem placeCopies_steady (a1 a2 a3 a4 s5) (h5 : Steady l z s5) : SteadyP l z (placeCopies a1 a2 a3 a4 s5) := by
  unfold placeCopies
  refine SteadyP.each ?_ fun _ _ _ => ?_
  · refine SteadyP.mk ?_
    refine Steady.lit ?_ rfl rfl rfl rfl
    assumption
  · split
    · extract_lets -underBinder -merge -useContext +onlyGivenNames x1
      refine SteadyP.ite ?_ ?_
      · refine SteadyP.mk ?_
        refine Steady.lit ?_ rfl rfl rfl rfl
        assumption
      · refine SteadyP.ite ?_ ?_
        · refine SteadyP.mk ?_
          exact State.setEgQueue_steady _ _ _ _ (by assumption)
        · refine SteadyP.mk ?_
          refine Steady.lit ?_ rfl rfl rfl rfl
          assumption

theorem takeCopy_steady (a1 a2 a3 a4 s5) (h5 : Steady l z s5) : Steady l z (takeCopy a1 a2 a3 a4 s5) := by
  unfold takeCopy
  extract_lets -underBinder -merge -useContext +onlyGivenNames x1
  extract_lets -underBinder -merge -useContext +onlyGivenNames x2
  extract_lets -underBinder -merge -useContext +onlyGivenNames x3
  have h4 : Steady l z x3 := by
    exact State.setVoq_steady _ _ _ (by assumption)
  try clear_value x3
  split
  · assumption
  · split
    · rename_i v5 v6 v7 q8
      have h9 : Steady l z v7 := by
        refine SteadyP.get q8 ?_
        exact placeCopies_steady _ _ _ _ _ (by assumption)
      refine Steady.ite ?_ ?_
      · exact releaseReplica_steady _ _ _ _ (by assumption)
      · refine Steady.lit ?_ rfl rfl rfl rfl
        assumption

theorem execReplicationTake_steady (a1 s) (h2 : Steady l z s) : SteadyX l z (execReplicationTake a1 s) := by
  unfold execReplicationTake
  refine SteadyX.ite ?_ ?_
  · exact SteadyX.next (by assumption)
  · extract_lets -underBinder -merge -useContext +onlyGivenNames x1
    extract_lets -underBinder -merge -useContext +onlyGivenNames x2
    try clear_value x2
    split
    · exact SteadyX.next (by assumption)
    · extract_lets -underBinder -merge -useContext +onlyGivenNames x3
      have h4 : Steady l z x3 := by
        exact State.setEgPipe_steady _ _ _ (by assumption)
      try clear_value x3
      refine SteadyX.next ?_
      split
      · exact takeCopy_steady _ _ _ _ _ (by assumption)
      · exact grantRemote_steady _ _ _ _ (by assumption)

theorem execGateTransition_steady (a1 s2) (h2 : Steady l z s2) : SteadyX l z (execGateTransition a1 s2) := by
  unfold execGateTransition
  extract_lets -underBinder -merge -useContext +onlyGivenNames x1
  refine SteadyX.next ?_
  split
  · assumption
  · refine startHead_steady _ _ ?_
    exact State.setEgPort_steady _ _ _ (by assumption)

theorem execGateChangeInstant_steady (a1 s2) (h2 : Steady l z s2) : SteadyX l z (execGateChangeInstant a1 s2) := by
  unfold execGateChangeInstant
  extract_lets -underBinder -merge -useContext +onlyGivenNames x1
  refine SteadyX.next ?_
  split
  · assumption
  · refine startHead_steady _ _ ?_
    refine trimPort_steady _ _ ?_
    refine raise_steady _ _ ?_
    exact State.setEgPort_steady _ _ _ (by assumption)

theorem setPause_steady (a1 a2 a3 s) (h4 : Steady l z s) : Steady l z (setPause a1 a2 a3 s) := by
  unfold setPause
  extract_lets -underBinder -merge -useContext +onlyGivenNames x1
  exact State.setEgQueue_steady _ _ _ _ (by assumption)

theorem execPauseFrameReceive_steady (a1 a2 a3 a4 s) (h5 : Steady l z s) : SteadyX l z (execPauseFrameReceive a1 a2 a3 a4 s) := by
  unfold execPauseFrameReceive
  refine SteadyX.ite ?_ ?_
  · exact SteadyX.next (by assumption)
  · extract_lets -underBinder -merge -useContext +onlyGivenNames x1
    extract_lets -underBinder -merge -useContext +onlyGivenNames x2
    extract_lets -underBinder -merge -useContext +onlyGivenNames x3
    extract_lets -underBinder -merge -useContext +onlyGivenNames x4 x5
    have h6 : Steady l z x5 := by
      refine Steady.lit ?_ rfl rfl rfl rfl
      assumption
    try clear_value x5
    extract_lets -underBinder -merge -useContext +onlyGivenNames x7
    refine SteadyX.next ?_
    refine Steady.ite ?_ ?_
    · refine Steady.each ?_ fun _ _ _ => ?_
      · assumption
      · exact setPause_steady _ _ _ _ (by assumption)
    · refine Steady.ite ?_ ?_
      · refine Steady.each ?_ fun _ _ _ => ?_
        · assumption
        · exact setPause_steady _ _ _ _ (by assumption)
      · assumption

theorem execPauseExpire_steady (a1 a2 s) (h3 : Steady l z s) : SteadyX l z (execPauseExpire a1 a2 s) := by
  unfold execPauseExpire
  refine SteadyX.next ?_
  exact setPause_steady _ _ _ _ (by assumption)

theorem execPfcWatchdogExpire_steady (a1 a2 s) (h3 : Steady l z s) : SteadyX l z (execPfcWatchdogExpire a1 a2 s) := by
  unfold execPfcWatchdogExpire
  extract_lets -underBinder -merge -useContext +onlyGivenNames x1
  refine SteadyX.ite ?_ ?_
  · exact SteadyX.next (by assumption)
  · extract_lets -underBinder -merge -useContext +onlyGivenNames x2
    have h5 : ∀ y3, Steady l z y3 → Steady l z (x2 y3) := by
      intro y3 h4
      unfold x2
      refine Steady.lit ?_ rfl rfl rfl rfl
      assumption
    try clear_value x2
    extract_lets -underBinder -merge -useContext +onlyGivenNames x6
    extract_lets -underBinder -merge -useContext +onlyGivenNames x7
    have h8 : Steady l z x7 := by
      exact State.setEgQueue_steady _ _ _ _ (by assumption)
    try clear_value x7
    extract_lets -underBinder -merge -useContext +onlyGivenNames x9
    have h10 : Steady l z x9 := by
      refine Steady.each ?_ fun _ _ _ => ?_
      · assumption
      · apply_assumption
        · exact releaseTx_steady _ _ (by assumption)
    try clear_value x9
    refine SteadyX.next ?_
    refine raise_steady _ _ ?_
    refine Steady.each ?_ fun _ _ _ => ?_
    · assumption
    · refine emptyVoq_steady _ _ _ (fun _ _ _ => ?_) ?_
      · apply_assumption
        · assumption
      · assumption

end Sys2Proof.Machine
end

