-- ==== Sys2Proof/Laws/Steady/CmdBuffer.lean ====
section
/-! SUPPORT. What the operations of Machine/CmdBuffer keep (Laws/Steady). -/

namespace Sys2Proof.Machine

variable {l : Bool × Bool} {z s t : State}

theorem bodyBufCommit_steady (a1) : SteadyB l (bodyBufCommit a1) := by
  unfold bodyBufCommit
  refine writeBody_steady _ _ _ _ (fun _ _ _ => ?_)
  refine Steady.each ?_ fun _ _ _ => ?_
  · refine Steady.lit ?_ rfl rfl rfl rfl
    assumption
  · exact enterSpill_steady _ _ (by assumption)

theorem bodyBufProfileWrite_steady (a1 a2) : SteadyB l (bodyBufProfileWrite a1 a2) := by
  unfold bodyBufProfileWrite
  extract_lets -underBinder -merge -useContext +onlyGivenNames x1
  extract_lets -underBinder -merge -useContext +onlyGivenNames x2
  refine writeBody_steady _ _ _ _ (fun z _ _ => ?_)
  refine Steady.lit ?_ rfl rfl rfl rfl
  assumption

theorem bodyVoqProfileMap_steady (a1 a2 a3 a4) : SteadyB l (bodyVoqProfileMap a1 a2 a3 a4) := by
  unfold bodyVoqProfileMap
  refine writeBody_steady _ _ _ _ (fun z _ _ => ?_)
  refine Steady.lit ?_ rfl rfl rfl rfl
  assumption

theorem bodyBufRegionWrite_steady (a1 a2) : SteadyB l (bodyBufRegionWrite a1 a2) := by
  unfold bodyBufRegionWrite
  extract_lets -underBinder -merge -useContext +onlyGivenNames x1
  extract_lets -underBinder -merge -useContext +onlyGivenNames x2
  refine writeBody_steady _ _ _ _ (fun z _ _ => ?_)
  extract_lets -underBinder -merge -useContext +onlyGivenNames x3
  refine Steady.lit ?_ rfl rfl rfl rfl
  assumption

theorem bodyPortPfcWrite_steady (a1 a2) : SteadyB l (bodyPortPfcWrite a1 a2) := by
  unfold bodyPortPfcWrite
  refine writeBody_steady _ _ _ _ (fun z _ _ => ?_)
  split
  · refine Steady.lit ?_ rfl rfl rfl rfl
    assumption
  · assumption

theorem bodyPortLingerWrite_steady (a1 a2 a3) : SteadyB l (bodyPortLingerWrite a1 a2 a3) := by
  unfold bodyPortLingerWrite
  refine writeBody_steady _ _ _ _ (fun z _ _ => ?_)
  split
  · refine Steady.lit ?_ rfl rfl rfl rfl
    assumption
  · assumption

theorem bodyVoqStatus_steady (a1 a2 a3) : SteadyB l (bodyVoqStatus a1 a2 a3) := by
  unfold bodyVoqStatus
  exact readBody_steady _ _ _ _

theorem bodyVoqCountersRead_steady (a1 a2 a3 a4) : SteadyB l (bodyVoqCountersRead a1 a2 a3 a4) := by
  unfold bodyVoqCountersRead
  refine SteadyB.mk fun z _ _ => ?_
  extract_lets -underBinder -merge -useContext +onlyGivenNames x1
  extract_lets -underBinder -merge -useContext +onlyGivenNames x2
  extract_lets -underBinder -merge -useContext +onlyGivenNames x3
  refine SteadyA.mk ?_
  refine Steady.ite ?_ ?_
  · exact State.setVoq_steady _ _ _ (by assumption)
  · assumption

theorem bodyBufStatus_steady (a1) : SteadyB l (bodyBufStatus a1) := by
  unfold bodyBufStatus
  exact readBody_steady _ _ _ _

theorem bodyPortSchedWrite_steady (a1 a2) : SteadyB l (bodyPortSchedWrite a1 a2) := by
  unfold bodyPortSchedWrite
  extract_lets -underBinder -merge -useContext +onlyGivenNames x1
  refine writeBody_steady _ _ _ _ (fun z _ _ => ?_)
  split
  · assumption
  · extract_lets -underBinder -merge -useContext +onlyGivenNames x2
    extract_lets -underBinder -merge -useContext +onlyGivenNames x3
    extract_lets -underBinder -merge -useContext +onlyGivenNames x4
    have h5 : Steady l z x4 := by
      exact State.setEgPort_steady _ _ _ (by assumption)
    try clear_value x4
    refine Steady.each ?_ fun _ _ _ => ?_
    · assumption
    · exact State.setEgQueue_steady _ _ _ _ (by assumption)

theorem bodyQueueShaperWrite_steady (a1 a2) : SteadyB l (bodyQueueShaperWrite a1 a2) := by
  unfold bodyQueueShaperWrite
  refine writeBody_steady _ _ _ _ (fun z _ _ => ?_)
  split
  · assumption
  · extract_lets -underBinder -merge -useContext +onlyGivenNames x1
    exact State.setEgQueue_steady _ _ _ _ (by assumption)

theorem bodyGateListWrite_steady (a1 a2 a3 a4) : SteadyB l (bodyGateListWrite a1 a2 a3 a4) := by
  unfold bodyGateListWrite
  refine SteadyB.mk fun z _ _ => ?_
  split
  · exact SteadyA.mk (by assumption)
  · extract_lets -underBinder -merge -useContext +onlyGivenNames x1
    refine SteadyA.mk ?_
    exact State.setEgPort_steady _ _ _ (by assumption)

theorem bodyGateConfigWrite_steady (a1 a2) : SteadyB l (bodyGateConfigWrite a1 a2) := by
  unfold bodyGateConfigWrite
  refine writeBody_steady _ _ _ _ (fun z _ _ => ?_)
  split
  · assumption
  · extract_lets -underBinder -merge -useContext +onlyGivenNames x1
    extract_lets -underBinder -merge -useContext +onlyGivenNames x2
    extract_lets -underBinder -merge -useContext +onlyGivenNames x3
    extract_lets -underBinder -merge -useContext +onlyGivenNames x4
    extract_lets -underBinder -merge -useContext +onlyGivenNames x5 x6
    extract_lets -underBinder -merge -useContext +onlyGivenNames x7 x8
    exact State.setEgPort_steady _ _ _ (by assumption)

theorem bodyGateStatus_steady (a1 a2) : SteadyB l (bodyGateStatus a1 a2) := by
  unfold bodyGateStatus
  exact readBody_steady _ _ _ _

theorem bodyEgressCountersRead_steady (a1 a2 a3) : SteadyB l (bodyEgressCountersRead a1 a2 a3) := by
  unfold bodyEgressCountersRead
  refine SteadyB.mk fun z _ _ => ?_
  extract_lets -underBinder -merge -useContext +onlyGivenNames x1
  refine SteadyA.mk ?_
  refine Steady.ite ?_ ?_
  · refine Steady.each ?_ fun _ _ _ => ?_
    · assumption
    · exact State.setEgQueue_steady _ _ _ _ (by assumption)
  · assumption

theorem clearMarks_steady (a1 a2 s) (h3 : Steady l z s) : Steady l z (clearMarks a1 a2 s) := by
  unfold clearMarks
  extract_lets
  split
  · refine Steady.lit ?_ rfl rfl rfl rfl
    assumption
  · refine Steady.lit ?_ rfl rfl rfl rfl
    assumption
  · refine Steady.lit ?_ rfl rfl rfl rfl
    assumption
  · refine Steady.lit ?_ rfl rfl rfl rfl
    assumption

theorem bodyHwmRead_steady (a1 a2) : SteadyB l (bodyHwmRead a1 a2) := by
  unfold bodyHwmRead
  refine SteadyB.mk fun z _ _ => ?_
  extract_lets -underBinder -merge -useContext +onlyGivenNames x1
  refine SteadyA.mk ?_
  refine Steady.ite ?_ ?_
  · refine Steady.each ?_ fun _ _ _ => ?_
    · assumption
    · exact clearMarks_steady _ _ _ (by assumption)
  · assumption

end Sys2Proof.Machine
end

