-- ==== Sys2Proof/Laws/Steady/Hbm.lean ====
section
/-! SUPPORT. What the operations of Machine/Hbm keep (Laws/Steady). -/

namespace Sys2Proof.Machine

variable {l : Bool × Bool} {z s t : State}

theorem stat_steady (a1 a2 a3 s) (h4 : Steady l z s) : Steady l z (stat a1 a2 a3 s) := by
  unfold stat
  refine Steady.lit ?_ rfl rfl rfl rfl
  assumption

theorem charge_steady (a1 a2 a3 s) (h4 : Steady l z s) : SteadyO l z (charge a1 a2 a3 s) := by
  unfold charge
  extract_lets -underBinder -merge -useContext +onlyGivenNames x1
  extract_lets -underBinder -merge -useContext +onlyGivenNames x2
  have h5 : ∀ y3, Steady l z y3 → Steady l z (x2 y3) := by
    intro y3 h4
    unfold x2
    refine stat_steady _ _ _ _ ?_
    refine Steady.lit ?_ rfl rfl rfl rfl
    assumption
  try clear_value x2
  refine SteadyO.ite ?_ ?_
  · refine SteadyO.some ?_
    apply_assumption
    · refine Steady.lit ?_ rfl rfl rfl rfl
      assumption
  · refine SteadyO.ite ?_ ?_
    · exact SteadyO.none
    · split
      · exact SteadyO.none
      · refine SteadyO.some ?_
        refine stat_steady _ _ _ _ ?_
        refine stat_steady _ _ _ _ ?_
        apply_assumption
        · refine Steady.lit ?_ rfl rfl rfl rfl
          assumption

theorem chargeReplay_steady (a1 a2 s) (h3 : Steady l z s) : SteadyO l z (chargeReplay a1 a2 s) := by
  unfold chargeReplay
  refine SteadyO.ite ?_ ?_
  · refine SteadyO.some ?_
    refine stat_steady _ _ _ _ ?_
    refine Steady.lit ?_ rfl rfl rfl rfl
    assumption
  · exact charge_steady _ _ _ _ (by assumption)

theorem newPeriod_steady (s) (h1 : Steady l z s) : Steady l z (newPeriod s) := by
  unfold newPeriod
  extract_lets -underBinder -merge -useContext +onlyGivenNames x1
  extract_lets -underBinder -merge -useContext +onlyGivenNames x2
  have h3 : Steady l z x2 := by
    refine Steady.each ?_ fun _ _ _ => ?_
    · assumption
    · refine Steady.ite ?_ ?_
      · assumption
      · exact stat_steady _ _ _ _ (by assumption)
  try clear_value x2
  extract_lets -underBinder -merge -useContext +onlyGivenNames x4
  extract_lets -underBinder -merge -useContext +onlyGivenNames x5
  extract_lets -underBinder -merge -useContext +onlyGivenNames x6
  extract_lets -underBinder -merge -useContext +onlyGivenNames x7 x8
  have h9 : Steady l z x8 := by
    refine Steady.lit ?_ rfl rfl rfl rfl
    assumption
  try clear_value x8
  refine Steady.ite ?_ ?_
  · exact raise_steady _ _ (by assumption)
  · assumption

theorem setCeiling_steady (a1 s) (h2 : Steady l z s) : Steady l z (setCeiling a1 s) := by
  unfold setCeiling
  refine Steady.lit ?_ rfl rfl rfl rfl
  assumption

theorem State.setPc_steady (s1 a2 a3) (h1 : Steady l z s1) : Steady l z (State.setPc s1 a2 a3) := by
  unfold State.setPc
  refine Steady.lit ?_ rfl rfl rfl rfl
  assumption

theorem drainFor_steady (a1 s) (h2 : Steady l z s) : Steady l z (drainFor a1 s) := by
  unfold drainFor
  extract_lets -underBinder -merge -useContext +onlyGivenNames x1
  extract_lets -underBinder -merge -useContext +onlyGivenNames x2
  refine Steady.lit ?_ rfl rfl rfl rfl
  assumption

theorem acceptHbm_steady (a1 a2 s) (h3 : Steady l z s) : Steady l z (acceptHbm a1 a2 s) := by
  unfold acceptHbm
  extract_lets -underBinder -merge -useContext +onlyGivenNames x1
  extract_lets -underBinder -merge -useContext +onlyGivenNames x2
  extract_lets -underBinder -merge -useContext +onlyGivenNames x3 x4
  have h5 : Steady l z x4 := Steady.lit h3 rfl rfl rfl rfl
  try clear_value x4
  refine Steady.ite ?_ ?_
  · extract_lets -underBinder -merge -useContext +onlyGivenNames x6
    exact Steady.litMem h5 (memWrite_wf _ _) rfl rfl
  · exact Steady.lit (drainFor_steady _ _ h5) rfl rfl rfl rfl

theorem passGate_steady (a1 s) (h2 : Steady l z s) : Steady l z (passGate a1 s) := by
  unfold passGate
  extract_lets -underBinder -merge -useContext +onlyGivenNames x1
  extract_lets -underBinder -merge -useContext +onlyGivenNames x2
  extract_lets -underBinder -merge -useContext +onlyGivenNames x3 x4
  have h5 : Steady l z x4 := by
    refine Steady.lit ?_ rfl rfl rfl rfl
    assumption
  try clear_value x4
  exact State.setPc_steady _ _ _ (by assumption)

theorem execHbmGatePass_steady (a1 s) (h2 : Steady l z s) : SteadyX l z (execHbmGatePass a1 s) := by
  unfold execHbmGatePass
  extract_lets -underBinder -merge -useContext +onlyGivenNames x1
  have h2 : SteadyOP l z x1 := by
    refine SteadyOP.findSome fun _ => ?_
    · split
      · exact SteadyOP.none
      · refine SteadyOP.ite ?_ ?_
        · refine SteadyOP.mapSteadyO ?_ fun _ _ => ?_
          · exact charge_steady _ _ _ _ (by assumption)
          · exact SteadyP.mk (by assumption)
        · exact SteadyOP.none
  try clear_value x1
  refine SteadyX.next ?_
  try clear_value x1
  split
  · have h5 : Steady l z _ := SteadyOP.get rfl (by assumption)
    exact passGate_steady _ _ (by assumption)
  · assumption

theorem countRefusal_steady (a1 s) (h2 : Steady l z s) : Steady l z (countRefusal a1 s) := by
  unfold countRefusal
  refine raiseFirst_steady _ _ ?_
  exact stat_steady _ _ _ _ (by assumption)

theorem execPcIssue_steady (a1 s) (h2 : Steady l z s) : SteadyX l z (execPcIssue a1 s) := by
  unfold execPcIssue
  extract_lets -underBinder -merge -useContext +onlyGivenNames x1
  refine SteadyX.ite ?_ ?_
  · exact SteadyX.next (by assumption)
  · split
    · exact SteadyX.next (by assumption)
    · extract_lets -underBinder -merge -useContext +onlyGivenNames x2
      extract_lets -underBinder -merge -useContext +onlyGivenNames x3
      extract_lets -underBinder -merge -useContext +onlyGivenNames x4
      extract_lets -underBinder -merge -useContext +onlyGivenNames x5
      refine SteadyX.next ?_
      exact State.setPc_steady _ _ _ (by assumption)

theorem execRowIdleClose_steady (a1 a2 s) (h3 : Steady l z s) : SteadyX l z (execRowIdleClose a1 a2 s) := by
  unfold execRowIdleClose
  extract_lets -underBinder -merge -useContext +onlyGivenNames x1
  refine SteadyX.next ?_
  refine Steady.ite ?_ ?_
  · exact State.setPc_steady _ _ _ (by assumption)
  · assumption

theorem execBankRefresh_steady (a1 a2 s3) (h3 : Steady l z s3) : SteadyX l z (execBankRefresh a1 a2 s3) := by
  unfold execBankRefresh
  extract_lets -underBinder -merge -useContext +onlyGivenNames x1
  extract_lets -underBinder -merge -useContext +onlyGivenNames x2
  refine SteadyX.next ?_
  refine Steady.ite ?_ ?_
  · assumption
  · exact State.setPc_steady _ _ _ (by assumption)

theorem eccRead_steady (a1 a2 a3 s) (h4 : Steady l z s) : SteadyP l z (eccRead a1 a2 a3 s) := by
  unfold eccRead
  extract_lets -underBinder -merge -useContext +onlyGivenNames x1
  extract_lets -underBinder -merge -useContext +onlyGivenNames x2
  try clear_value x2
  split
  · exact SteadyP.mk (by assumption)
  · refine SteadyP.mk ?_
    exact State.setPc_steady _ _ _ (by assumption)
  · refine SteadyP.mk ?_
    exact State.setPc_steady _ _ _ (by assumption)
  · extract_lets -underBinder -merge -useContext +onlyGivenNames x3
    have h4 : Steady l z x3 := by
      exact State.setPc_steady _ _ _ (by assumption)
    try clear_value x3
    refine SteadyP.mk ?_
    refine raiseFirst_steady _ _ ?_
    refine Steady.lit ?_ rfl rfl rfl rfl
    assumption

theorem setStack_steady (a1 a2 s) (h3 : Steady l z s) : Steady l z (setStack a1 a2 s) := by
  unfold setStack
  refine Steady.lit ?_ rfl rfl rfl rfl
  assumption

theorem zeroStack_steady (a1 s) (h2 : Steady l z s) : Steady l z (zeroStack a1 s) := by
  unfold zeroStack
  exact Steady.litMem h2 (memWf_filter _) rfl rfl

theorem execHbmTrainingComplete_steady (a1 a2 s) (h3 : Steady l z s) : SteadyX l z (execHbmTrainingComplete a1 a2 s) := by
  unfold execHbmTrainingComplete
  refine SteadyX.ite ?_ ?_
  · exact SteadyX.next (by assumption)
  · refine SteadyX.ite ?_ ?_
    · refine SteadyX.next ?_
      refine setStack_steady _ _ _ ?_
      exact zeroStack_steady _ _ (by assumption)
    · extract_lets -underBinder -merge -useContext +onlyGivenNames x1
      extract_lets -underBinder -merge -useContext +onlyGivenNames x2 x3
      have h4 : Steady l z x3 := by
        refine Steady.lit ?_ rfl rfl rfl rfl
        assumption
      try clear_value x3
      refine SteadyX.next ?_
      refine Steady.ite ?_ ?_
      · refine raise_steady _ _ ?_
        exact setStack_steady _ _ _ (by assumption)
      · assumption

theorem abandonLake_steady (s) (h1 : Steady l z s) : Steady l z (abandonLake s) := by
  unfold abandonLake
  exact Steady.litMem h1 (memWf_filter _) rfl rfl

theorem execHbmWakeReady_steady (a1 a2 a3 s) (h4 : Steady l z s) : SteadyX l z (execHbmWakeReady a1 a2 a3 s) := by
  unfold execHbmWakeReady
  refine SteadyX.ite ?_ ?_
  · exact SteadyX.next (by assumption)
  · extract_lets -underBinder -merge -useContext +onlyGivenNames x1 x2
    have h3 : Steady l z x2 := by
      refine Steady.lit ?_ rfl rfl rfl rfl
      assumption
    try clear_value x2
    refine SteadyX.next ?_
    refine Steady.ite ?_ ?_
    · exact setStack_steady _ _ _ (by assumption)
    · refine abandonLake_steady _ ?_
      refine raise_steady _ _ ?_
      exact setStack_steady _ _ _ (by assumption)

theorem execHbmScrubVisit_steady (a1 a2 a3 s) (h4 : Steady l z s) : SteadyX l z (execHbmScrubVisit a1 a2 a3 s) := by
  unfold execHbmScrubVisit
  refine SteadyX.ite ?_ ?_
  · exact SteadyX.next (by assumption)
  · refine SteadyX.next ?_
    split
    · assumption
    · rename_i v2 q3
      have h4 : Steady l z v2 := by
        refine SteadyO.get q3 ?_
        exact charge_steady _ _ _ _ (by assumption)
      refine SteadyP.proj ?_
      exact eccRead_steady _ _ _ _ (by assumption)

theorem execSpillPageWrite_steady (a1 a2 s3) (h3 : Steady l z s3) : SteadyX l z (execSpillPageWrite a1 a2 s3) := by
  unfold execSpillPageWrite
  extract_lets -underBinder -merge -useContext +onlyGivenNames x1
  extract_lets -underBinder -merge -useContext +onlyGivenNames x2
  have h3 : Steady l z x2 := by
    exact enterSpill_steady _ _ (by assumption)
  try clear_value x2
  extract_lets -underBinder -merge -useContext +onlyGivenNames x4
  refine SteadyX.ite ?_ ?_
  · refine SteadyX.next ?_
    assumption
  · split
    · refine SteadyX.next ?_
      assumption
    · split
      · rename_i v5 q6
        refine SteadyX.next ?_
        assumption
      · rename_i v7 v8 q9
        have h10 : Steady l z v8 := by
          refine SteadyO.get q9 ?_
          exact charge_steady _ _ _ _ (by assumption)
        extract_lets -underBinder -merge -useContext +onlyGivenNames x11
        extract_lets -underBinder -merge -useContext +onlyGivenNames x12
        extract_lets -underBinder -merge -useContext +onlyGivenNames x13
        have h14 : Steady l z x13 := by
          refine Steady.litMem ?_ (memWrite_wf _ _) rfl rfl
          assumption
        try clear_value x13
        extract_lets -underBinder -merge -useContext +onlyGivenNames x15
        have h16 : Steady l z x15 := by
          refine Steady.each ?_ fun _ _ _ => ?_
          · assumption
          · exact moveOff_steady _ _ _ _ (by assumption)
        try clear_value x15
        extract_lets -underBinder -merge -useContext +onlyGivenNames x17
        extract_lets -underBinder -merge -useContext +onlyGivenNames x18
        have h19 : Steady l z x18 := by
          exact State.setVoq_steady _ _ _ (by assumption)
        try clear_value x18
        extract_lets -underBinder -merge -useContext +onlyGivenNames x20
        extract_lets -underBinder -merge -useContext +onlyGivenNames x21
        have h22 : Steady l z x21 := by
          refine Steady.lit ?_ rfl rfl rfl rfl
          assumption
        try clear_value x21
        extract_lets -underBinder -merge -useContext +onlyGivenNames x23
        refine SteadyX.next ?_
        refine Steady.ite ?_ ?_
        · exact raise_steady _ _ (by assumption)
        · assumption

theorem loseFrames_steady (a1 a2 s3) (h3 : Steady l z s3) : Steady l z (loseFrames a1 a2 s3) := by
  unfold loseFrames
  extract_lets -underBinder -merge -useContext +onlyGivenNames x1
  extract_lets -underBinder -merge -useContext +onlyGivenNames x2
  extract_lets -underBinder -merge -useContext +onlyGivenNames x3
  extract_lets -underBinder -merge -useContext +onlyGivenNames x4
  extract_lets -underBinder -merge -useContext +onlyGivenNames x5
  have h6 : Steady l z x5 := by
    exact State.setVoq_steady _ _ _ (by assumption)
  try clear_value x5
  refine Steady.each ?_ fun _ _ _ => ?_
  · assumption
  · exact releasePart_steady _ _ _ _ (by assumption)

theorem pageEcc_steady (a1 a2 a3 s4) (h4 : Steady l z s4) : SteadyP l z (pageEcc a1 a2 a3 s4) := by
  unfold pageEcc
  extract_lets -underBinder -merge -useContext +onlyGivenNames x1
  extract_lets -underBinder -merge -useContext +onlyGivenNames x2
  exact eccRead_steady _ _ _ _ (by assumption)

theorem execSpillPageRefill_steady (a1 a2 a3 s4) (h4 : Steady l z s4) : SteadyX l z (execSpillPageRefill a1 a2 a3 s4) := by
  unfold execSpillPageRefill
  extract_lets -underBinder -merge -useContext +onlyGivenNames x1
  refine SteadyX.ite ?_ ?_
  · refine SteadyX.next ?_
    assumption
  · split
    · rename_i v2 q3
      refine SteadyX.next ?_
      assumption
    · rename_i v4 v5 q6
      have h7 : Steady l z v5 := by
        refine SteadyO.get q6 ?_
        exact charge_steady _ _ _ _ (by assumption)
      extract_lets -underBinder -merge -useContext +onlyGivenNames x8
      split
      · refine SteadyX.next ?_
        assumption
      · split
        · rename_i v9 v10 v11 q12
          have h13 : Steady l z v11 := by
            refine SteadyP.get q12 ?_
            exact pageEcc_steady _ _ _ _ (by assumption)
          extract_lets -underBinder -merge -useContext +onlyGivenNames x14
          have h15 : Steady l z x14 := by
            exact State.setVoq_steady _ _ _ (by assumption)
          try clear_value x14
          extract_lets -underBinder -merge -useContext +onlyGivenNames x16
          extract_lets -underBinder -merge -useContext +onlyGivenNames x17
          have h18 : Steady l z x17 := by
            refine Steady.lit ?_ rfl rfl rfl rfl
            assumption
          try clear_value x17
          extract_lets -underBinder -merge -useContext +onlyGivenNames x19
          extract_lets -underBinder -merge -useContext +onlyGivenNames x20
          have h21 : Steady l z x20 := by
            refine Steady.each ?_ fun _ _ _ => ?_
            · assumption
            · exact moveOn_steady _ _ _ _ (by assumption)
          try clear_value x20
          extract_lets -underBinder -merge -useContext +onlyGivenNames x22
          extract_lets -underBinder -merge -useContext +onlyGivenNames x23
          have h24 : Steady l z x23 := by
            refine Steady.ite ?_ ?_
            · exact loseFrames_steady _ _ _ (by assumption)
            · exact State.setVoq_steady _ _ _ (by assumption)
          try clear_value x23
          extract_lets -underBinder -merge -useContext +onlyGivenNames x25
          refine SteadyX.next ?_
          refine Steady.ite ?_ ?_
          · exact State.setVoq_steady _ _ _ (by assumption)
          · assumption

theorem beginRetire_steady (a1 a2 s) (h3 : Steady l z s) : Steady l z (beginRetire a1 a2 s) := by
  unfold beginRetire
  refine Steady.lit ?_ rfl rfl rfl rfl
  assumption

theorem movePages_steady (a1 a2 s) (h3 : Steady l z s) : SteadyO l z (movePages a1 a2 s) := by
  induction a2 generalizing s with
  | nil => exact SteadyO.some h3
  | cons g gs ih =>
    unfold movePages
    split
    · exact ih _ h3
    · split
      · exact SteadyO.none
      · exact ih _ (Steady.litMem h3 (memWrite_wf _ _) rfl rfl)

theorem recordRetired_steady (a1 a2 a3 s) (h4 : Steady l z s) : Steady l z (recordRetired a1 a2 a3 s) := by
  unfold recordRetired
  extract_lets -underBinder -merge -useContext +onlyGivenNames x1 x2
  have h3 : Steady l z x2 := by
    refine Steady.lit ?_ rfl rfl rfl rfl
    assumption
  try clear_value x2
  refine Steady.ite ?_ ?_
  · refine Steady.lit ?_ rfl rfl rfl rfl
    assumption
  · exact raise_steady _ _ (by assumption)

theorem moveGranules_steady (s1) (h1 : Steady l z s1) : Steady l z (moveGranules s1) := by
  unfold moveGranules
  split
  · exact h1
  · split
    · exact h1
    · rename_i u q
      have h2 : Steady l z u := SteadyO.get q (movePages_steady _ _ _ h1)
      refine Steady.each h2 fun r s h => ?_
      extract_lets -underBinder -merge -useContext +onlyGivenNames n
      split
      · exact h
      · rename_i v q
        exact Steady.lit (SteadyO.get q (charge_steady _ _ _ _ h)) rfl rfl rfl rfl

theorem retireDone_steady (a1 s2) (h2 : Steady l z s2) : SteadyOP l z (retireDone a1 s2) := by
  unfold retireDone
  split
  · exact SteadyOP.none
  · refine SteadyOP.ite ?_ ?_
    · exact SteadyOP.none
    · extract_lets -underBinder -merge -useContext +onlyGivenNames x1
      have h2 : Steady l z x1 := by
        exact recordRetired_steady _ _ _ _ (by assumption)
      try clear_value x1
      extract_lets -underBinder -merge -useContext +onlyGivenNames x3
      extract_lets -underBinder -merge -useContext +onlyGivenNames x4
      have h5 : Steady l z x4 := by
        refine raise_steady _ _ ?_
        refine Steady.lit ?_ rfl rfl rfl rfl
        assumption
      try clear_value x4
      refine SteadyOP.some ?_
      refine SteadyP.mk ?_
      split
      · assumption
      · refine beginRetire_steady _ _ _ ?_
        refine Steady.lit ?_ rfl rfl rfl rfl
        assumption

theorem bodyHbmBudgetWrite_steady (a1 a2) : SteadyB l (bodyHbmBudgetWrite a1 a2) := by
  unfold bodyHbmBudgetWrite
  extract_lets -underBinder -merge -useContext +onlyGivenNames x1
  extract_lets -underBinder -merge -useContext +onlyGivenNames x2
  extract_lets -underBinder -merge -useContext +onlyGivenNames x3
  extract_lets -underBinder -merge -useContext +onlyGivenNames x4
  extract_lets -underBinder -merge -useContext +onlyGivenNames x5
  refine writeBody_steady _ _ _ _ (fun z _ _ => ?_)
  refine Steady.lit ?_ rfl rfl rfl rfl
  assumption

theorem bodyHbmBudgetRead_steady (a1) : SteadyB l (bodyHbmBudgetRead a1) := by
  unfold bodyHbmBudgetRead
  exact readBody_steady _ _ _ _

theorem bodyHbmStatus_steady (a1) : SteadyB l (bodyHbmStatus a1) := by
  unfold bodyHbmStatus
  exact readBody_steady _ _ _ _

theorem bodyHbmScrubConfig_steady (a1 a2) : SteadyB l (bodyHbmScrubConfig a1 a2) := by
  unfold bodyHbmScrubConfig
  extract_lets -underBinder -merge -useContext +onlyGivenNames x1
  refine writeBody_steady _ _ _ _ (fun z _ _ => ?_)
  refine Steady.lit ?_ rfl rfl rfl rfl
  assumption

theorem bodyHbmPcRetire_steady (a1 a2) : SteadyB l (bodyHbmPcRetire a1 a2) := by
  unfold bodyHbmPcRetire
  refine SteadyB.mk fun z _ _ => ?_
  refine SteadyA.ite ?_ ?_
  · exact SteadyA.mk (by assumption)
  · refine SteadyA.mk ?_
    exact beginRetire_steady _ _ _ (by assumption)

end Sys2Proof.Machine
end

