-- ==== Sys2Proof/Laws/Steady/FlowStore.lean ====
section
/-! SUPPORT. What the operations of Machine/FlowStore keep (Laws/Steady). -/

namespace Sys2Proof.Machine

variable {l : Bool × Bool} {z s t : State}

theorem State.setRegion_steady (s1 a2 a3) (h1 : Steady l z s1) : Steady l z (State.setRegion s1 a2 a3) := by
  unfold State.setRegion
  refine Steady.lit ?_ rfl rfl rfl rfl
  assumption

theorem State.putLake_steady (s1 a2 a3 a4) (h1 : Steady l z s1) : Steady l z (State.putLake s1 a2 a3 a4) := by
  unfold State.putLake
  exact Steady.litMem h1 (memWrite_wf _ _) rfl rfl

theorem freeLake_steady (a1 a2 a3 s4) (h4 : Steady l z s4) : Steady l z (freeLake a1 a2 a3 s4) := by
  unfold freeLake
  extract_lets -underBinder -merge -useContext +onlyGivenNames x1
  refine Steady.ite ?_ ?_
  · exact State.setRegion_steady _ _ _ (by assumption)
  · refine Steady.litMem ?_ (memZero_wf _ _) rfl rfl
    assumption

theorem putOvf_steady (a1 a2 a3 s) (h4 : Steady l z s) : Steady l z (putOvf a1 a2 a3 s) := by
  unfold putOvf
  extract_lets -underBinder -merge -useContext +onlyGivenNames x1
  extract_lets -underBinder -merge -useContext +onlyGivenNames x2
  extract_lets -underBinder -merge -useContext +onlyGivenNames x3
  extract_lets -underBinder -merge -useContext +onlyGivenNames x4
  extract_lets -underBinder -merge -useContext +onlyGivenNames x5
  extract_lets -underBinder -merge -useContext +onlyGivenNames x6
  extract_lets -underBinder -merge -useContext +onlyGivenNames x7
  have h8 : Steady l z x7 := by
    exact State.setRegion_steady _ _ _ (by assumption)
  try clear_value x7
  refine Steady.ite ?_ ?_
  · exact raise_steady _ _ (by assumption)
  · assumption

theorem State.setTarn_steady (s1 a2 a3 a4) (h1 : Steady l z s1) : Steady l z (State.setTarn s1 a2 a3 a4) := by
  unfold State.setTarn
  extract_lets -underBinder -merge -useContext +onlyGivenNames x1
  exact State.setRegion_steady _ _ _ (by assumption)

theorem pushWb_steady (a1 a2 s) (h3 : Steady l z s) : Steady l z (pushWb a1 a2 s) := by
  unfold pushWb
  extract_lets -underBinder -merge -useContext +onlyGivenNames x1
  exact State.setRegion_steady _ _ _ (by assumption)

theorem evict_steady (a1 a2 a3 s) (h4 : Steady l z s) : Steady l z (evict a1 a2 a3 s) := by
  unfold evict
  extract_lets -underBinder -merge -useContext +onlyGivenNames x1
  split
  · assumption
  · extract_lets -underBinder -merge -useContext +onlyGivenNames x2
    have h3 : Steady l z x2 := by
      exact State.setTarn_steady _ _ _ _ (by assumption)
    try clear_value x2
    refine Steady.ite ?_ ?_
    · exact pushWb_steady _ _ _ (by assumption)
    · assumption

theorem install_steady (a1 a2 a3 s) (h4 : Steady l z s) : SteadyO l z (install a1 a2 a3 s) := by
  unfold install
  refine SteadyO.map fun _ => ?_
  · extract_lets -underBinder -merge -useContext +onlyGivenNames x1
    have h2 : Steady l z x1 := by
      refine Steady.each ?_ fun _ _ _ => ?_
      · assumption
      · exact evict_steady _ _ _ _ (by assumption)
    try clear_value x1
    extract_lets -underBinder -merge -useContext +onlyGivenNames x3
    exact State.setTarn_steady _ _ _ _ (by assumption)

theorem touch_steady (a1 a2 a3 s) (h4 : Steady l z s) : Steady l z (touch a1 a2 a3 s) := by
  unfold touch
  extract_lets -underBinder -merge -useContext +onlyGivenNames x1
  exact State.setTarn_steady _ _ _ _ (by assumption)

theorem bringIn_steady (a1 a2 a3 s) (h4 : Steady l z s) : SteadyP l z (bringIn a1 a2 a3 s) := by
  unfold bringIn
  extract_lets -underBinder -merge -useContext +onlyGivenNames x1
  split
  · refine SteadyP.mk ?_
    exact touch_steady _ _ _ _ (by assumption)
  · refine SteadyP.ite ?_ ?_
    · exact SteadyP.mk (by assumption)
    · split
      · exact SteadyP.mk (by assumption)
      · rename_i v3 q4
        have h5 : Steady l z v3 := by
          refine SteadyO.get q4 ?_
          exact install_steady _ _ _ _ (by assumption)
        exact SteadyP.mk (by assumption)

theorem writeState_steady (a1 a2 a3 a4 s) (h5 : Steady l z s) : SteadyO l z (writeState a1 a2 a3 a4 s) := by
  unfold writeState
  extract_lets -underBinder -merge -useContext +onlyGivenNames x1
  split
  · extract_lets -underBinder -merge -useContext +onlyGivenNames x2
    refine SteadyO.map fun _ => ?_
    · exact State.setTarn_steady _ _ _ _ (by assumption)
  · refine SteadyO.ite ?_ ?_
    · refine SteadyO.map fun _ => ?_
      · extract_lets -underBinder -merge -useContext +onlyGivenNames x3
        exact State.setRegion_steady _ _ _ (by assumption)
    · exact SteadyO.none

theorem addActivity_steady (a1 a2 a3 a4 s) (h5 : Steady l z s) : Steady l z (addActivity a1 a2 a3 a4 s) := by
  unfold addActivity
  extract_lets -underBinder -merge -useContext +onlyGivenNames x1
  split
  · refine Steady.ite ?_ ?_
    · exact State.setRegion_steady _ _ _ (by assumption)
    · split
      · exact State.putLake_steady _ _ _ _ (by assumption)
      · assumption
  · split
    · exact State.setRegion_steady _ _ _ (by assumption)
    · assumption
  · extract_lets -underBinder -merge -useContext +onlyGivenNames x2
    extract_lets -underBinder -merge -useContext +onlyGivenNames x3
    split
    · exact State.setTarn_steady _ _ _ _ (by assumption)
    · assumption

theorem State.setSinter_steady (s1 a2 a3 a4) (h1 : Steady l z s1) : Steady l z (State.setSinter s1 a2 a3 a4) := by
  unfold State.setSinter
  extract_lets -underBinder -merge -useContext +onlyGivenNames x1
  exact State.setRegion_steady _ _ _ (by assumption)

theorem dropSinter_steady (a1 a2 s) (h3 : Steady l z s) : Steady l z (dropSinter a1 a2 s) := by
  unfold dropSinter
  exact State.setSinter_steady _ _ _ _ (by assumption)

theorem appendLog_steady (a1 a2 s) (h3 : Steady l z s) : SteadyO l z (appendLog a1 a2 s) := by
  unfold appendLog
  extract_lets -underBinder -merge -useContext +onlyGivenNames x1
  refine SteadyO.ite ?_ ?_
  · exact SteadyO.none
  · refine SteadyO.mapSteadyO ?_ fun _ _ => ?_
    · exact charge_steady _ _ _ _ (by assumption)
    · extract_lets -underBinder -merge -useContext +onlyGivenNames x2
      extract_lets -underBinder -merge -useContext +onlyGivenNames x3
      extract_lets -underBinder -merge -useContext +onlyGivenNames x4 x5 x6
      have h5 : Steady l z x6 := by
        refine State.setRegion_steady _ _ _ ?_
        unfold x5 x4
        exact Steady.litMem (by assumption) (memWrite_wf _ _) rfl rfl
      try clear_value x6
      refine Steady.ite ?_ ?_
      · exact raise_steady _ _ (by assumption)
      · assumption

theorem writeDirect_steady (a1 a2 a3 s) (h4 : Steady l z s) : SteadyO l z (writeDirect a1 a2 a3 s) := by
  unfold writeDirect
  extract_lets -underBinder -merge -useContext +onlyGivenNames x1
  have h4 : ∀ y2, Steady l z y2 → Steady l z (x1 y2) := by
    intro y2 h3
    unfold x1
    refine addActivity_steady _ _ _ _ _ ?_
    exact dropSinter_steady _ _ _ (by assumption)
  try clear_value x1
  refine SteadyO.ite ?_ ?_
  · refine SteadyO.some ?_
    apply_assumption
    · assumption
  · refine SteadyO.ite ?_ ?_
    · exact SteadyO.none
    · refine SteadyO.mapSteadyO ?_ fun _ _ => ?_
      · refine SteadyO.findSome fun _ => ?_
        · exact charge_steady _ _ _ _ (by assumption)
      · apply_assumption
        · assumption

theorem writeBack_steady (a1 a2 s) (h3 : Steady l z s) : SteadyO l z (writeBack a1 a2 s) := by
  unfold writeBack
  split
  · rename_i v1 q2
    have h3 : Steady l z v1 := by
      refine SteadyO.get q2 ?_
      exact writeDirect_steady _ _ _ _ (by assumption)
    exact SteadyO.some (by assumption)
  · refine SteadyO.ite ?_ ?_
    · refine SteadyO.mapSteadyO ?_ fun _ _ => ?_
      · exact appendLog_steady _ _ _ (by assumption)
      · exact dropSinter_steady _ _ _ (by assumption)
    · exact SteadyO.none

theorem retryLater_steady (a1 a2 s3) (h3 : Steady l z s3) : Steady l z (retryLater a1 a2 s3) := by
  unfold retryLater
  extract_lets -underBinder -merge -useContext +onlyGivenNames x1
  exact State.setRegion_steady _ _ _ (by assumption)

theorem settleEntry_steady (a1 a2 s3) (h3 : Steady l z s3) : Steady l z (settleEntry a1 a2 s3) := by
  unfold settleEntry
  split
  · assumption
  · refine Steady.getD ?_ ?_
    · exact writeBack_steady _ _ _ (by assumption)
    · exact retryLater_steady _ _ _ (by assumption)

theorem retryEntries_steady (a1 s2) (h2 : Steady l z s2) : Steady l z (retryEntries a1 s2) := by
  unfold retryEntries
  extract_lets -underBinder -merge -useContext +onlyGivenNames x1
  refine Steady.each ?_ fun _ _ _ => ?_
  · exact State.setRegion_steady _ _ _ (by assumption)
  · exact settleEntry_steady _ _ _ (by assumption)

theorem makeRoom_steady (a1 a2 s) (h3 : Steady l z s) : SteadyO l z (makeRoom a1 a2 s) := by
  induction a2 generalizing s with
  | nil => exact SteadyO.none
  | cons e es ih =>
    unfold makeRoom
    split
    · rename_i v q
      exact SteadyO.some (SteadyO.get q (writeBack_steady _ _ _ h3))
    · exact ih s h3

theorem sinterUpdate_steady (a1 a2 a3 a4 a5 s) (h6 : Steady l z s) : SteadyO l z (sinterUpdate a1 a2 a3 a4 a5 s) := by
  unfold sinterUpdate
  extract_lets -underBinder -merge -useContext +onlyGivenNames x1
  have h7 : ∀ y2 y3, Steady l z y3 → Steady l z (x1 y2 y3) := by
    intro y2 y3 h4
    unfold x1
    extract_lets -underBinder -merge -useContext +onlyGivenNames x5
    have h6 : Steady l z x5 := by
      exact State.setSinter_steady _ _ _ _ (by assumption)
    try clear_value x5
    refine Steady.ite ?_ ?_
    · exact settleEntry_steady _ _ _ (by assumption)
    · assumption
  try clear_value x1
  split
  · refine SteadyO.ite ?_ ?_
    · exact SteadyO.none
    · refine SteadyO.some ?_
      apply_assumption
      · assumption
  · extract_lets -underBinder -merge -useContext +onlyGivenNames x8
    extract_lets -underBinder -merge -useContext +onlyGivenNames x9
    have h10 : SteadyO l z x9 := by
      refine SteadyO.ite ?_ ?_
      · exact SteadyO.some (by assumption)
      · exact makeRoom_steady _ _ _ (by assumption)
    try clear_value x9
    refine SteadyO.mapSteadyO ?_ fun _ _ => ?_
    · assumption
    · apply_assumption
      · assumption

theorem countIntegrity_steady (a1 s) (h2 : Steady l z s) : Steady l z (countIntegrity a1 s) := by
  unfold countIntegrity
  refine raise_steady _ _ ?_
  exact State.setRegion_steady _ _ _ (by assumption)

theorem replayOne_steady (a1 s) (h2 : Steady l z s) : Steady l z (replayOne a1 s) := by
  unfold replayOne
  extract_lets -underBinder -merge -useContext +onlyGivenNames x1
  split
  · assumption
  · extract_lets -underBinder -merge -useContext +onlyGivenNames x2
    have h3 : Steady l z x2 := by
      exact State.setRegion_steady _ _ _ (by assumption)
    try clear_value x2
    extract_lets -underBinder -merge -useContext +onlyGivenNames x4
    split
    · refine Steady.ite ?_ ?_
      · exact addActivity_steady _ _ _ _ _ (by assumption)
      · exact countIntegrity_steady _ _ (by assumption)
    · exact countIntegrity_steady _ _ (by assumption)

theorem loseLogEntry_steady (a1 s) (h2 : Steady l z s) : Steady l z (loseLogEntry a1 s) := by
  unfold loseLogEntry
  extract_lets -underBinder -merge -useContext +onlyGivenNames x1
  split
  · assumption
  · refine countIntegrity_steady _ _ ?_
    exact State.setRegion_steady _ _ _ (by assumption)

theorem replayAll_steady (a1 s) (h2 : Steady l z s) : Steady l z (replayAll a1 s) := by
  unfold replayAll
  refine Steady.each ?_ fun _ _ _ => ?_
  · assumption
  · exact replayOne_steady _ _ (by assumption)

theorem createRec_steady (a1 a2 a3 s) (h4 : Steady l z s) : SteadyE l z (createRec a1 a2 a3 s) := by
  unfold createRec
  extract_lets -underBinder -merge -useContext +onlyGivenNames x1
  refine SteadyE.ite ?_ ?_
  · split
    · exact SteadyE.error
    · refine SteadyE.ite ?_ ?_
      · extract_lets -underBinder -merge -useContext +onlyGivenNames x2
        have h3 : Steady l z x2 := by
          exact putOvf_steady _ _ _ _ (by assumption)
        try clear_value x2
        extract_lets -underBinder -merge -useContext +onlyGivenNames x4
        refine SteadyE.ok ?_
        refine SteadyP.mk ?_
        refine Steady.ite ?_ ?_
        · exact State.setRegion_steady _ _ _ (by assumption)
        · assumption
      · refine SteadyE.ite ?_ ?_
        · exact SteadyE.error
        · extract_lets -underBinder -merge -useContext +onlyGivenNames x5
          have h6 : Steady l z x5 := by
            exact pushWb_steady _ _ _ (by assumption)
          try clear_value x5
          refine SteadyE.ok ?_
          refine SteadyP.mk ?_
          refine Steady.getD ?_ ?_
          · exact install_steady _ _ _ _ (by assumption)
          · assumption
  · extract_lets -underBinder -merge -useContext +onlyGivenNames x7
    split
    · extract_lets -underBinder -merge -useContext +onlyGivenNames x8
      extract_lets -underBinder -merge -useContext +onlyGivenNames x9
      refine SteadyE.ok ?_
      refine SteadyP.mk ?_
      refine Steady.getD ?_ ?_
      · exact install_steady _ _ _ _ (by assumption)
      · assumption
    · split
      · refine SteadyE.ok ?_
        refine SteadyP.mk ?_
        exact putOvf_steady _ _ _ _ (by assumption)
      · exact SteadyE.error

theorem removeRec_steady (a1 a2 a3 s) (h4 : Steady l z s) : Steady l z (removeRec a1 a2 a3 s) := by
  unfold removeRec
  extract_lets -underBinder -merge -useContext +onlyGivenNames x1
  extract_lets -underBinder -merge -useContext +onlyGivenNames x2
  have h3 : Steady l z x2 := by
    exact dropSinter_steady _ _ _ (by assumption)
  try clear_value x2
  extract_lets -underBinder -merge -useContext +onlyGivenNames x4
  have h5 : Steady l z x4 := by
    unfold x4
    split
    · extract_lets -underBinder -merge -useContext +onlyGivenNames x6
      exact State.setTarn_steady _ _ _ _ (by assumption)
    · assumption
  try clear_value x4
  split
  · exact freeLake_steady _ _ _ _ (by assumption)
  · extract_lets -underBinder -merge -useContext +onlyGivenNames x7
    exact State.setRegion_steady _ _ _ (by assumption)
  · assumption

theorem moveSinter_steady (a1 a2 a3 s) (h4 : Steady l z s) : SteadyO l z (moveSinter a1 a2 a3 s) := by
  unfold moveSinter
  split
  · exact SteadyO.some (by assumption)
  · extract_lets -underBinder -merge -useContext +onlyGivenNames x1
    have h2 : Steady l z x1 := by
      exact dropSinter_steady _ _ _ (by assumption)
    try clear_value x1
    extract_lets -underBinder -merge -useContext +onlyGivenNames x3
    refine SteadyO.ite ?_ ?_
    · refine SteadyO.some ?_
      exact State.setSinter_steady _ _ _ _ (by assumption)
    · exact writeBack_steady _ _ _ (by assumption)

theorem moveTarn_steady (a1 a2 a3 s) (h4 : Steady l z s) : Steady l z (moveTarn a1 a2 a3 s) := by
  unfold moveTarn
  extract_lets -underBinder -merge -useContext +onlyGivenNames x1
  exact State.setRegion_steady _ _ _ (by assumption)

theorem moveRec_steady (a1 a2 a3 a4 s) (h5 : Steady l z s) : SteadyO l z (moveRec a1 a2 a3 a4 s) := by
  unfold moveRec
  extract_lets -underBinder -merge -useContext +onlyGivenNames x1
  try clear_value x1
  split
  · exact SteadyO.none
  · refine SteadyO.mapSteadyO ?_ fun _ _ => ?_
    · refine moveSinter_steady _ _ _ _ ?_
      exact State.putLake_steady _ _ _ _ (by assumption)
    · extract_lets -underBinder -merge -useContext +onlyGivenNames x2
      have h3 : Steady l z x2 := by
        exact moveTarn_steady _ _ _ _ (by assumption)
      try clear_value x2
      refine Steady.ite ?_ ?_
      · extract_lets -underBinder -merge -useContext +onlyGivenNames x4
        exact State.setRegion_steady _ _ _ (by assumption)
      · exact freeLake_steady _ _ _ _ (by assumption)

theorem refillCredit_steady (a1 s) (h2 : Steady l z s) : Steady l z (refillCredit a1 s) := by
  unfold refillCredit
  extract_lets -underBinder -merge -useContext +onlyGivenNames x1
  exact State.setRegion_steady _ _ _ (by assumption)

theorem drainWb_steady (a1 s2) (h2 : Steady l z s2) : Steady l z (drainWb a1 s2) := by
  unfold drainWb
  extract_lets -underBinder -merge -useContext +onlyGivenNames x1
  have h2 : Steady l z x1 := by
    refine Steady.each ?_ fun _ _ _ => ?_
    · assumption
    · split
      · refine Steady.litMem ?_ (memWrite_wf _ _) rfl rfl
        assumption
      · assumption
  try clear_value x1
  exact State.setRegion_steady _ _ _ (by assumption)

theorem flushRegion_steady (a1 s) (h2 : Steady l z s) : Steady l z (flushRegion a1 s) := by
  unfold flushRegion
  extract_lets -underBinder -merge -useContext +onlyGivenNames x1
  have h2 : Steady l z x1 := by
    refine Steady.each ?_ fun _ _ _ => ?_
    · assumption
    · refine Steady.each ?_ fun _ _ _ => ?_
      · assumption
      · refine Steady.ite ?_ ?_
        · split
          · refine pushWb_steady _ _ _ ?_
            exact State.setTarn_steady _ _ _ _ (by assumption)
          · assumption
        · assumption
  try clear_value x1
  extract_lets -underBinder -merge -useContext +onlyGivenNames x3
  have h4 : Steady l z x3 := by
    exact drainWb_steady _ _ (by assumption)
  try clear_value x3
  extract_lets -underBinder -merge -useContext +onlyGivenNames x5
  have h6 : Steady l z x5 := by
    refine Steady.each ?_ fun _ _ _ => ?_
    · assumption
    · refine Steady.each ?_ fun _ _ _ => ?_
      · assumption
      · exact addActivity_steady _ _ _ _ _ (by assumption)
  try clear_value x5
  refine replayAll_steady _ _ ?_
  exact State.setRegion_steady _ _ _ (by assumption)

theorem emptyTarn_steady (a1 s) (h2 : Steady l z s) : Steady l z (emptyTarn a1 s) := by
  unfold emptyTarn
  exact State.setRegion_steady _ _ _ (by assumption)

theorem emptyFlowDie_steady (s) (h1 : Steady l z s) : Steady l z (emptyFlowDie s) := by
  unfold emptyFlowDie
  refine Steady.lit ?_ rfl rfl rfl rfl
  assumption

end Sys2Proof.Machine
end

