-- ==== Sys2Proof/Laws/Steady/Protocol.lean ====
section
/-! SUPPORT. What the operations of Machine/Protocol keep (Laws/Steady). -/

namespace Sys2Proof.Machine

variable {l : Bool × Bool} {z s t : State}

theorem reserveEntry_steady (a1 s) (h2 : Steady l z s) : Steady l z (reserveEntry a1 s) := by
  unfold reserveEntry
  refine Steady.ite ?_ ?_
  · refine Steady.lit ?_ rfl rfl rfl rfl
    assumption
  · assumption

theorem enterAudit_steady (a1 s) (h2 : Steady l z s) : Steady l z (enterAudit a1 s) := by
  unfold enterAudit
  refine Steady.lit ?_ rfl rfl rfl rfl
  assumption

theorem putAudit_steady (a1 s) (h2 : Steady l z s) : Steady l z (putAudit a1 s) := by
  unfold putAudit
  extract_lets -underBinder -merge -useContext +onlyGivenNames x1
  have h2 : Steady l z x1 := by
    refine enterAudit_steady _ _ ?_
    exact reserveEntry_steady _ _ (by assumption)
  try clear_value x1
  refine Steady.ite ?_ ?_
  · exact raise_steady _ _ (by assumption)
  · assumption

theorem offerAudit_steady (a1 s2) (h2 : Steady l z s2) : Steady l z (offerAudit a1 s2) := by
  unfold offerAudit
  refine Steady.ite ?_ ?_
  · refine Steady.lit ?_ rfl rfl rfl rfl
    assumption
  · exact putAudit_steady _ _ (by assumption)

theorem releaseAudit_steady (s1) (h1 : Steady l z s1) : Steady l z (releaseAudit s1) := by
  unfold releaseAudit
  refine Steady.each ?_ fun _ _ _ => ?_
  · refine Steady.lit ?_ rfl rfl rfl rfl
    assumption
  · exact offerAudit_steady _ _ (by assumption)

theorem auditEvent_steady (a1 a2 s3) (h3 : Steady l z s3) : Steady l z (auditEvent a1 a2 s3) := by
  unfold auditEvent
  exact offerAudit_steady _ _ (by assumption)

theorem auditCommand_steady (a1 a2 a3 a4 a5 s6) (h6 : Steady l z s6) : Steady l z (auditCommand a1 a2 a3 a4 a5 s6) := by
  unfold auditCommand
  exact offerAudit_steady _ _ (by assumption)

theorem postMessage_steady (a1 a2 a3 s) (h4 : Steady l z s) : Steady l z (postMessage a1 a2 a3 s) := by
  unfold postMessage
  extract_lets -underBinder -merge -useContext +onlyGivenNames x1
  extract_lets -underBinder -merge -useContext +onlyGivenNames x2
  exact State.setChan_steady _ _ _ (by assumption)

theorem collide_steady (s) (h1 : Steady l z s) : Steady l z (collide s) := by
  unfold collide
  refine Steady.ite ?_ ?_
  · refine raise_steady _ _ ?_
    refine Steady.lit ?_ rfl rfl rfl rfl
    assumption
  · assumption

theorem placeRsp_steady (a1 a2 s) (h3 : Steady l z s) : Steady l z (placeRsp a1 a2 s) := by
  unfold placeRsp
  refine Steady.lit ?_ rfl rfl rfl rfl
  assumption

theorem postCompat_steady (a1 s) (h2 : Steady l z s) : Steady l z (postCompat a1 s) := by
  unfold postCompat
  refine raise_steady _ _ ?_
  refine placeRsp_steady _ _ _ ?_
  exact collide_steady _ (by assumption)

theorem answerDescriptor_steady (a1 a2 a3 a4 a5 s6) (h6 : Steady l z s6) : Steady l z (answerDescriptor a1 a2 a3 a4 a5 s6) := by
  unfold answerDescriptor
  split
  · assumption
  · extract_lets -underBinder -merge -useContext +onlyGivenNames x1
    extract_lets -underBinder -merge -useContext +onlyGivenNames x2
    extract_lets -underBinder -merge -useContext +onlyGivenNames x3
    have h4 : Steady l z x3 := by
      refine Steady.lit ?_ rfl rfl rfl rfl
      assumption
    try clear_value x3
    refine Steady.ite ?_ ?_
    · assumption
    · refine postMessage_steady _ _ _ _ ?_
      refine Steady.lit ?_ rfl rfl rfl rfl
      assumption

theorem dmaPut_steady (a1 a2 s) (h3 : Steady l z s) : Steady l z (dmaPut a1 a2 s) := by
  unfold dmaPut
  refine Steady.ite ?_ ?_
  · assumption
  · refine Steady.lit ?_ rfl rfl rfl rfl
    assumption

theorem carry_steady (a1 a2 s3) (h3 : Steady l z s3) : Steady l z (carry a1 a2 s3) := by
  unfold carry
  split
  · exact postMessage_steady _ _ _ _ (by assumption)
  · exact postCompat_steady _ _ (by assumption)
  · refine Steady.ite ?_ ?_
    · exact postMessage_steady _ _ _ _ (by assumption)
    · refine Steady.ite ?_ ?_
      · exact answerDescriptor_steady _ _ _ _ _ _ (by assumption)
      · refine answerDescriptor_steady _ _ _ _ _ _ ?_
        refine raise_steady _ _ ?_
        exact dmaPut_steady _ _ _ (by assumption)
  · refine Steady.lit ?_ rfl rfl rfl rfl
    assumption
  · refine Steady.lit ?_ rfl rfl rfl rfl
    assumption

theorem deliver_steady (a1 a2 s) (h3 : Steady l z s) : Steady l z (deliver a1 a2 s) := by
  unfold deliver
  refine carry_steady _ _ _ ?_
  refine Steady.lit ?_ rfl rfl rfl rfl
  assumption

theorem suppress_steady (a1 s2) (h2 : Steady l z s2) : Steady l z (suppress a1 s2) := by
  unfold suppress
  split
  · exact answerDescriptor_steady _ _ _ _ _ _ (by assumption)
  · assumption

theorem respond_steady (a1 a2 a3 a4 s5) (h5 : Steady l z s5) : Steady l z (respond a1 a2 a3 a4 s5) := by
  unfold respond
  extract_lets -underBinder -merge -useContext +onlyGivenNames x1
  extract_lets -underBinder -merge -useContext +onlyGivenNames x2
  have h3 : Steady l z x2 := by
    refine Steady.ite ?_ ?_
    · assumption
    · refine Steady.lit ?_ rfl rfl rfl rfl
      assumption
  try clear_value x2
  refine Steady.ite ?_ ?_
  · refine suppress_steady _ _ ?_
    refine Steady.ite ?_ ?_
    · assumption
    · refine Steady.lit ?_ rfl rfl rfl rfl
      assumption
  · exact deliver_steady _ _ _ (by assumption)

theorem resend_steady (a1 a2 a3 s4) (h4 : Steady l z s4) : Steady l z (resend a1 a2 a3 s4) := by
  unfold resend
  extract_lets -underBinder -merge -useContext +onlyGivenNames x1
  extract_lets -underBinder -merge -useContext +onlyGivenNames x2
  refine Steady.ite ?_ ?_
  · exact suppress_steady _ _ (by assumption)
  · exact deliver_steady _ _ _ (by assumption)

theorem useWindow_steady (a1 a2 s) (h3 : Steady l z s) : Steady l z (useWindow a1 a2 s) := by
  unfold useWindow
  extract_lets -underBinder -merge -useContext +onlyGivenNames x1
  extract_lets -underBinder -merge -useContext +onlyGivenNames x2 x3
  have h4 : Steady l z x3 := by
    refine Steady.lit ?_ rfl rfl rfl rfl
    assumption
  try clear_value x3
  split
  · refine Steady.lit ?_ rfl rfl rfl rfl
    assumption
  · assumption

theorem recordSeq_steady (a1 s) (h2 : Steady l z s) : Steady l z (recordSeq a1 s) := by
  unfold recordSeq
  refine Steady.ite ?_ ?_
  · refine Steady.lit ?_ rfl rfl rfl rfl
    assumption
  · exact useWindow_steady _ _ _ (by assumption)

theorem keepReply_steady (a1 s) (h2 : Steady l z s) : Steady l z (keepReply a1 s) := by
  unfold keepReply
  refine Steady.ite ?_ ?_
  · assumption
  · split
    · assumption
    · exact useWindow_steady _ _ _ (by assumption)

theorem macFailure_steady (a1 s) (h2 : Steady l z s) : Steady l z (macFailure a1 s) := by
  unfold macFailure
  extract_lets -underBinder -merge -useContext +onlyGivenNames x1
  extract_lets -underBinder -merge -useContext +onlyGivenNames x2
  extract_lets -underBinder -merge -useContext +onlyGivenNames x3 x4
  have h5 : Steady l z x4 := by
    refine Steady.lit ?_ rfl rfl rfl rfl
    assumption
  try clear_value x4
  extract_lets -underBinder -merge -useContext +onlyGivenNames x6
  have h7 : Steady l z x6 := by
    refine Steady.ite ?_ ?_
    · exact raiseFirst_steady _ _ (by assumption)
    · assumption
  try clear_value x6
  extract_lets -underBinder -merge -useContext +onlyGivenNames x8
  refine Steady.ite ?_ ?_
  · refine auditEvent_steady _ _ _ ?_
    refine Steady.lit ?_ rfl rfl rfl rfl
    assumption
  · assumption

theorem finish_steady (a1 a2 a3 a4 s) (h5 : Steady l z s) : Steady l z (finish a1 a2 a3 a4 s) := by
  unfold finish
  split
  · assumption
  · refine Steady.lit ?_ rfl rfl rfl rfl
    assumption

theorem takeIntake_steady (a1 a2 s) (h3 : Steady l z s) : SteadyP l z (takeIntake a1 a2 s) := by
  unfold takeIntake
  extract_lets -underBinder -merge -useContext +onlyGivenNames x1
  split
  · refine SteadyP.mk ?_
    refine Steady.lit ?_ rfl rfl rfl rfl
    assumption
  · exact SteadyP.mk (by assumption)

theorem answerFrame_steady (a1 a2 a3 a4 a5 a6 a7 s8) (h8 : Steady l z s8) : Steady l z (answerFrame a1 a2 a3 a4 a5 a6 a7 s8) := by
  unfold answerFrame
  extract_lets -underBinder -merge -useContext +onlyGivenNames x1
  refine respond_steady _ _ _ _ _ ?_
  exact keepReply_steady _ _ (by assumption)

end Sys2Proof.Machine
end

