-- ==== Sys2Proof/Laws/Steady/Geyser.lean ====
section
/-! SUPPORT. What the operations of Machine/Geyser keep (Laws/Steady). -/

namespace Sys2Proof.Machine

variable {l : Bool × Bool} {z s t : State}

theorem State.setItem_steady (s1 a2 a3) (h1 : Steady l z s1) : Steady l z (State.setItem s1 a2 a3) := by
  unfold State.setItem
  refine Steady.lit ?_ rfl rfl rfl rfl
  assumption

theorem dropFreed_steady (s) (h1 : Steady l z s) : Steady l z (dropFreed s) := by
  unfold dropFreed
  refine Steady.lit ?_ rfl rfl rfl rfl
  assumption

theorem noteReady_steady (s) (h1 : Steady l z s) : Steady l z (noteReady s) := by
  unfold noteReady
  refine Steady.lit ?_ rfl rfl rfl rfl
  assumption

theorem enterReady_steady (a1 a2 s) (h3 : Steady l z s) : Steady l z (enterReady a1 a2 s) := by
  unfold enterReady
  extract_lets -underBinder -merge -useContext +onlyGivenNames x1
  have h2 : Steady l z x1 := by
    exact State.setItem_steady _ _ _ (by assumption)
  try clear_value x1
  refine Steady.lit ?_ rfl rfl rfl rfl
  assumption

theorem leaveLists_steady (a1 a2 s) (h3 : Steady l z s) : Steady l z (leaveLists a1 a2 s) := by
  unfold leaveLists
  refine noteReady_steady _ ?_
  refine Steady.lit ?_ rfl rfl rfl rfl
  assumption

theorem makeReady_steady (a1 s) (h2 : Steady l z s) : Steady l z (makeReady a1 s) := by
  unfold makeReady
  split
  · assumption
  · refine Steady.ite ?_ ?_
    · exact enterReady_steady _ _ _ (by assumption)
    · refine Steady.ite ?_ ?_
      · refine Steady.lit ?_ rfl rfl rfl rfl
        assumption
      · assumption

theorem submitItem_steady (a1 s) (h2 : Steady l z s) : SteadyOP l z (submitItem a1 s) := by
  unfold submitItem
  extract_lets -underBinder -merge -useContext +onlyGivenNames x1
  have h2 : Steady l z x1 := by
    exact dropFreed_steady _ (by assumption)
  try clear_value x1
  split
  · exact SteadyOP.none
  · extract_lets -underBinder -merge -useContext +onlyGivenNames x3
    extract_lets -underBinder -merge -useContext +onlyGivenNames x4
    extract_lets -underBinder -merge -useContext +onlyGivenNames x5 x6 x7
    have h8 : Steady l z x5 := by
      exact State.setItem_steady _ _ _ (by assumption)
    try clear_value x5
    have h9 : Steady l z x7 := by
      refine Steady.lit ?_ rfl rfl rfl rfl
      assumption
    try clear_value x7
    extract_lets -underBinder -merge -useContext +onlyGivenNames x10 x11
    have h12 : Steady l z x11 := by
      refine Steady.ite ?_ ?_
      · exact enterReady_steady _ _ _ (by assumption)
      · refine Steady.lit ?_ rfl rfl rfl rfl
        assumption
    try clear_value x11
    refine SteadyOP.some ?_
    refine SteadyP.mk ?_
    refine Steady.ite ?_ ?_
    · exact raise_steady _ _ (by assumption)
    · assumption

theorem releaseDue_steady (s) (h1 : Steady l z s) : Steady l z (releaseDue s) := by
  unfold releaseDue
  extract_lets -underBinder -merge -useContext +onlyGivenNames x1
  extract_lets -underBinder -merge -useContext +onlyGivenNames x2
  refine Steady.each ?_ fun _ _ _ => ?_
  · assumption
  · split
    · exact enterReady_steady _ _ _ (by assumption)
    · assumption

theorem execWorkItemRelease_steady (a1 s) (h2 : Steady l z s) : SteadyX l z (execWorkItemRelease a1 s) := by
  unfold execWorkItemRelease
  refine SteadyX.next ?_
  refine Steady.ite ?_ ?_
  · assumption
  · refine Steady.each ?_ fun _ _ _ => ?_
    · exact releaseDue_steady _ (by assumption)
    · refine Steady.getD ?_ ?_
      · refine SteadyO.mapSteadyOP ?_ fun _ _ => ?_
        · exact submitItem_steady _ _ (by assumption)
        · assumption
      · assumption

theorem State.setEngine_steady (s1 a2 a3) (h1 : Steady l z s1) : Steady l z (State.setEngine s1 a2 a3) := by
  unfold State.setEngine
  refine Steady.lit ?_ rfl rfl rfl rfl
  assumption

theorem noteDeferred_steady (a1 s) (h2 : Steady l z s) : Steady l z (noteDeferred a1 s) := by
  unfold noteDeferred
  refine Steady.each ?_ fun _ _ _ => ?_
  · assumption
  · extract_lets -underBinder -merge -useContext +onlyGivenNames x1
    refine Steady.ite ?_ ?_
    · assumption
    · refine Steady.lit ?_ rfl rfl rfl rfl
      assumption

theorem startEngine_steady (a1 a2 s) (h3 : Steady l z s) : Steady l z (startEngine a1 a2 s) := by
  unfold startEngine
  extract_lets -underBinder -merge -useContext +onlyGivenNames x1
  extract_lets -underBinder -merge -useContext +onlyGivenNames x2
  exact State.setEngine_steady _ _ _ (by assumption)

theorem grantItem_steady (a1 a2 a3 a4 s) (h5 : Steady l z s) : Steady l z (grantItem a1 a2 a3 a4 s) := by
  unfold grantItem
  extract_lets -underBinder -merge -useContext +onlyGivenNames x1 x2
  have h3 : Steady l z x2 := by
    refine Steady.ite ?_ ?_
    · assumption
    · refine Steady.lit ?_ rfl rfl rfl rfl
      assumption
  try clear_value x2
  extract_lets -underBinder -merge -useContext +onlyGivenNames x4 x5
  have h6 : Steady l z x5 := by
    refine Steady.ite ?_ ?_
    · assumption
    · refine raiseFirst_steady _ _ ?_
      refine Steady.lit ?_ rfl rfl rfl rfl
      assumption
  try clear_value x5
  extract_lets -underBinder -merge -useContext +onlyGivenNames x7
  have h8 : Steady l z x7 := by
    exact leaveLists_steady _ _ _ (by assumption)
  try clear_value x7
  extract_lets -underBinder -merge -useContext +onlyGivenNames x9 x10 x11
  have h12 : Steady l z x9 := by
    exact State.setItem_steady _ _ _ (by assumption)
  try clear_value x9
  have h13 : Steady l z x11 := by
    refine Steady.lit ?_ rfl rfl rfl rfl
    assumption
  try clear_value x11
  refine Steady.ite ?_ ?_
  · exact startEngine_steady _ _ _ (by assumption)
  · assumption

theorem execWorkItemGrant_steady (a1 a2 s) (h3 : Steady l z s) : SteadyX l z (execWorkItemGrant a1 a2 s) := by
  unfold execWorkItemGrant
  refine SteadyX.ite ?_ ?_
  · exact SteadyX.next (by assumption)
  · extract_lets -underBinder -merge -useContext +onlyGivenNames x1
    have h2 : Steady l z x1 := by
      exact noteDeferred_steady _ _ (by assumption)
    try clear_value x1
    split
    · exact SteadyX.next (by assumption)
    · extract_lets -underBinder -merge -useContext +onlyGivenNames x3
      refine SteadyX.next ?_
      refine Steady.ite ?_ ?_
      · exact grantItem_steady _ _ _ _ _ (by assumption)
      · assumption

theorem askWork_steady (a1 s) (h2 : Steady l z s) : Steady l z (askWork a1 s) := by
  unfold askWork
  refine Steady.lit ?_ rfl rfl rfl rfl
  assumption

theorem chargeRun_steady (a1 a2 s) (h3 : Steady l z s) : Steady l z (chargeRun a1 a2 s) := by
  unfold chargeRun
  extract_lets -underBinder -merge -useContext +onlyGivenNames x1 x2
  have h3 : Steady l z x2 := by
    refine Steady.lit ?_ rfl rfl rfl rfl
    assumption
  try clear_value x2
  refine Steady.ite ?_ ?_
  · assumption
  · refine Steady.lit ?_ rfl rfl rfl rfl
    assumption

theorem concludeItem_steady (a1 a2 s) (h3 : Steady l z s) : Steady l z (concludeItem a1 a2 s) := by
  unfold concludeItem
  refine Steady.ite ?_ ?_
  · split
    · refine finish_steady _ _ _ _ _ ?_
      exact State.setItem_steady _ _ _ (by assumption)
  · refine Steady.lit ?_ rfl rfl rfl rfl
    assumption

theorem completeItem_steady (a1 a2 a3 a4 a5 s) (h6 : Steady l z s) : Steady l z (completeItem a1 a2 a3 a4 a5 s) := by
  unfold completeItem
  extract_lets -underBinder -merge -useContext +onlyGivenNames x1
  extract_lets -underBinder -merge -useContext +onlyGivenNames x2
  have h3 : Steady l z x2 := by
    refine askWork_steady _ _ ?_
    exact chargeRun_steady _ _ _ (by assumption)
  try clear_value x2
  extract_lets -underBinder -merge -useContext +onlyGivenNames x4
  extract_lets -underBinder -merge -useContext +onlyGivenNames x5
  have h6 : Steady l z x5 := by
    exact concludeItem_steady _ _ _ (by assumption)
  try clear_value x5
  refine Steady.ite ?_ ?_
  · exact makeReady_steady _ _ (by assumption)
  · assumption

theorem execWorkItemComplete_steady (a1 a2 a3 s) (h4 : Steady l z s) : SteadyX l z (execWorkItemComplete a1 a2 a3 s) := by
  unfold execWorkItemComplete
  split
  · exact SteadyX.next (by assumption)
  · refine SteadyX.next ?_
    split
    · assumption
    · extract_lets -underBinder -merge -useContext +onlyGivenNames x1
      have h2 : Steady l z x1 := by
        exact completeItem_steady _ _ _ _ _ _ (by assumption)
      try clear_value x1
      refine Steady.ite ?_ ?_
      · exact State.setEngine_steady _ _ _ (by assumption)
      · assumption

theorem execItemLimitOverrun_steady (a1 a2 s) (h3 : Steady l z s) : SteadyX l z (execItemLimitOverrun a1 a2 s) := by
  unfold execItemLimitOverrun
  refine SteadyX.next ?_
  split
  · assumption
  · refine Steady.ite ?_ ?_
    · assumption
    · extract_lets -underBinder -merge -useContext +onlyGivenNames x1
      have h2 : Steady l z x1 := by
        exact State.setItem_steady _ _ _ (by assumption)
      try clear_value x1
      refine raiseFirst_steady _ _ ?_
      refine Steady.lit ?_ rfl rfl rfl rfl
      assumption

theorem cancelItem_steady (a1 a2 s) (h3 : Steady l z s) : Steady l z (cancelItem a1 a2 s) := by
  unfold cancelItem
  refine Steady.ite ?_ ?_
  · extract_lets -underBinder -merge -useContext +onlyGivenNames x1 x2
    have h3 : Steady l z x2 := by
      refine Steady.ite ?_ ?_
      · refine Steady.lit ?_ rfl rfl rfl rfl
        assumption
      · assumption
    try clear_value x2
    extract_lets -underBinder -merge -useContext +onlyGivenNames x4 x5 x6
    have h7 : Steady l z x4 := by
      exact leaveLists_steady _ _ _ (by assumption)
    try clear_value x4
    have h8 : Steady l z x6 := by
      refine Steady.lit ?_ rfl rfl rfl rfl
      assumption
    try clear_value x6
    exact concludeItem_steady _ _ _ (by assumption)
  · exact State.setItem_steady _ _ _ (by assumption)

theorem endItems_steady (s) (h1 : Steady l z s) : Steady l z (endItems s) := by
  unfold endItems
  extract_lets -underBinder -merge -useContext +onlyGivenNames x1
  have h2 : Steady l z x1 := by
    refine Steady.each ?_ fun _ _ _ => ?_
    · assumption
    · refine Steady.ite ?_ ?_
      · exact finish_steady _ _ _ _ _ (by assumption)
      · assumption
  try clear_value x1
  refine Steady.lit ?_ rfl rfl rfl rfl
  assumption

theorem endJob_steady (a1 a2 a3 a4 s5) (h5 : Steady l z s5) : Steady l z (endJob a1 a2 a3 a4 s5) := by
  unfold endJob
  exact State.setItem_steady _ _ _ (by assumption)

end Sys2Proof.Machine
end

