-- ==== Sys2Proof/Laws/Steady/OcfRun.lean ====
section
/-! SUPPORT. What the operations of Machine/OcfRun keep (Laws/Steady). -/

namespace Sys2Proof.Machine

variable {l : Bool × Bool} {z s t : State}

theorem conclude_steady (a1 a2 a3 a4 a5 a6 a7 s) (h8 : Steady l z s) : Steady l z (conclude a1 a2 a3 a4 a5 a6 a7 s) := by
  unfold conclude
  refine answerFrame_steady _ _ _ _ _ _ _ _ (Steady.ite ?_ ?_)
  · exact auditCommand_steady _ _ _ _ _ _ (by assumption)
  · assumption

theorem stage_steady (a1 a2 s) (h3 : Steady l z s) : Steady l z (stage a1 a2 s) := by
  unfold stage
  split
  · assumption
  · refine Steady.lit ?_ rfl rfl rfl rfl
    assumption

theorem endTableWait_steady (a1 s2) (h2 : Steady l z s2) : Steady l z (endTableWait a1 s2) := by
  unfold endTableWait
  split
  · exact finish_steady _ _ _ _ _ (by assumption)
  · refine answerFrame_steady _ _ _ _ _ _ _ _ ?_
    refine Steady.ite ?_ ?_
    · exact auditCommand_steady _ _ _ _ _ _ (by assumption)
    · assumption

theorem resumeTables_steady (s1) (h1 : Steady l z s1) : Steady l z (resumeTables s1) := by
  unfold resumeTables
  extract_lets -underBinder -merge -useContext +onlyGivenNames x1
  have h2 : Steady l z x1 := by
    exact catchUp_steady _ (by assumption)
  try clear_value x1
  refine Steady.ite ?_ ?_
  · refine Steady.each ?_ fun _ _ _ => ?_
    · refine Steady.lit ?_ rfl rfl rfl rfl
      assumption
    · exact endTableWait_steady _ _ (by assumption)
  · assumption

theorem perform_steady (a1 a2 a3 a4 s) (h2 : SteadyB l a2) (h5 : Steady l z s) : Steady l z (perform a1 a2 a3 a4 s) := by
  have h : Steady l z (a2.apply s).st := Body.apply_steady _ _ h2 h5
  unfold perform
  extract_lets -underBinder -merge -useContext +onlyGivenNames a
  split
  · exact Steady.lit h rfl rfl rfl rfl
  · refine Steady.ite ?_ (Steady.ite ?_ ?_)
    · exact conclude_steady _ _ _ _ _ _ _ _ (Steady.lit h rfl rfl rfl rfl)
    · exact Steady.lit h rfl rfl rfl rfl
    · exact conclude_steady _ _ _ _ _ _ _ _ h

theorem execute_steady (a1 a2 a3 a4 a5 a6 s) (h4 : SteadyB l a4) (h7 : Steady l z s) : Steady l z (execute a1 a2 a3 a4 a5 a6 s) := by
  unfold execute
  refine Steady.ite ?_ ?_
  · split
    · exact conclude_steady _ _ _ _ _ _ _ _ (by assumption)
    · extract_lets -underBinder -merge -useContext +onlyGivenNames x1
      split
      · exact conclude_steady _ _ _ _ _ _ _ _ (by assumption)
      · refine conclude_steady _ _ _ _ _ _ _ _ ?_
        exact stage_steady _ _ _ (by assumption)
  · split
    · exact conclude_steady _ _ _ _ _ _ _ _ (by assumption)
    · refine perform_steady _ _ _ _ _ ?_ ?_
      · assumption
      · assumption

theorem takeIn_steady (a1 a2 a3 a4 a5 a6 s) (h4 : SteadyB l a4) (h7 : Steady l z s) : Steady l z (takeIn a1 a2 a3 a4 a5 a6 s) := by
  unfold takeIn
  extract_lets -underBinder -merge -useContext +onlyGivenNames x1
  have h2 : Steady l z x1 := by
    exact recordSeq_steady _ _ (by assumption)
  try clear_value x1
  refine Steady.ite ?_ ?_
  · exact answerFrame_steady _ _ _ _ _ _ _ _ (by assumption)
  · refine execute_steady _ _ _ _ _ _ _ ?_ ?_
    · assumption
    · refine Steady.ite ?_ ?_
      · exact auditCommand_steady _ _ _ _ _ _ (by assumption)
      · assumption

theorem ocfRun_steady (a1 a2 a3 a4 s) (h4 : SteadyB l a4) (h5 : Steady l z s) : Steady l z (ocfRun a1 a2 a3 a4 s) := by
  unfold ocfRun
  refine Steady.ite ?_ ?_
  · assumption
  · split
    · rename_i v1 v2 q3
      have h4 : Steady l z v2 := by
        refine SteadyP.get q3 ?_
        exact takeIntake_steady _ _ _ (by assumption)
      split
      · exact respond_steady _ _ _ _ _ (by assumption)
      · refine respond_steady _ _ _ _ _ ?_
        exact macFailure_steady _ _ (by assumption)
      · exact resend_steady _ _ _ _ (by assumption)
      · refine takeIn_steady _ _ _ _ _ _ _ ?_ ?_
        · assumption
        · assumption

end Sys2Proof.Machine
end

