-- ==== Sys2Proof/Laws/Steady/Security.lean ====
section
/-! SUPPORT. What the operations of Machine/Security keep (Laws/Steady). -/

namespace Sys2Proof.Machine

variable {l : Bool × Bool} {z s t : State}

theorem bodySecKeyWrite_steady (a1 a2) : SteadyB l (bodySecKeyWrite a1 a2) := by
  unfold bodySecKeyWrite
  refine SteadyB.mk fun z _ _ => ?_
  refine SteadyA.ite ?_ ?_
  · exact SteadyA.mk (by assumption)
  · extract_lets -underBinder -merge -useContext +onlyGivenNames x1
    extract_lets -underBinder -merge -useContext +onlyGivenNames x2
    refine SteadyA.mk ?_
    refine Steady.lit ?_ rfl rfl rfl rfl
    assumption

theorem bodySecKeyClear_steady (a1 a2 a3 a4) : SteadyB l (bodySecKeyClear a1 a2 a3 a4) := by
  unfold bodySecKeyClear
  extract_lets -underBinder -merge -useContext +onlyGivenNames x1
  refine SteadyB.mk fun z _ _ => ?_
  refine SteadyA.ite ?_ ?_
  · exact SteadyA.mk (by assumption)
  · refine SteadyA.mk ?_
    refine Steady.lit ?_ rfl rfl rfl rfl
    assumption

theorem bodySecKeyStatus_steady (a1) : SteadyB l (bodySecKeyStatus a1) := by
  unfold bodySecKeyStatus
  exact readBody_steady _ _ _ _

theorem bodySecHostAccess_steady (a1 a2 a3) : SteadyB l (bodySecHostAccess a1 a2 a3) := by
  unfold bodySecHostAccess
  refine SteadyB.mk fun z _ _ => ?_
  refine SteadyA.ite ?_ ?_
  · exact SteadyA.mk (by assumption)
  · refine SteadyA.mk ?_
    refine Steady.lit ?_ rfl rfl rfl rfl
    assumption

theorem bodySecLifecycleSet_steady (a1 a2 a3 a4) : SteadyB l (bodySecLifecycleSet a1 a2 a3 a4) := by
  unfold bodySecLifecycleSet
  refine SteadyB.mk fun z _ _ => ?_
  extract_lets -underBinder -merge -useContext +onlyGivenNames x1
  extract_lets -underBinder -merge -useContext +onlyGivenNames x2
  have h3 : Steady l z x2 := by
    exact auditCommand_steady _ _ _ _ _ _ (by assumption)
  try clear_value x2
  refine SteadyA.ite ?_ ?_
  · exact SteadyA.mk h3
  · exact SteadyA.mk (Steady.litFlash h3 rfl rfl (Nat.le_refl _) (Nat.le_add_right _ _) (fun v => if_pos v) id id rfl rfl)

theorem bodySecFwWrite_steady (a1 a2) : SteadyB l (bodySecFwWrite a1 a2) := by
  unfold bodySecFwWrite
  refine SteadyB.mk fun z _ h => ?_
  refine SteadyA.ite ?_ (SteadyA.ite ?_ ?_)
  · exact SteadyA.mk h
  · exact SteadyA.mk (Steady.litFlash h rfl rfl (Nat.le_refl _) (Nat.le_refl _) id (memWrite_wf _ _) id rfl rfl)
  · exact SteadyA.mk (Steady.litFlash h rfl rfl (Nat.le_refl _) (Nat.le_refl _) id id (memWrite_wf _ _) rfl rfl)

theorem bodySecFwActivate_steady (a1 a2 a3) : SteadyB l (bodySecFwActivate a1 a2 a3) := by
  unfold bodySecFwActivate
  refine SteadyB.mk fun z s h => ?_
  refine SteadyA.ite ?_ ?_
  · exact SteadyA.mk h
  · extract_lets -underBinder -merge -useContext +onlyGivenNames x1
    refine SteadyA.mk ?_
    refine auditCommand_steady _ _ _ _ _ _ ?_
    refine Steady.litFlash h rfl rfl ?_ (Nat.le_refl _) id id id rfl rfl
    change s.flash.rollbackFloor ≤ if a2 = 1 then max s.flash.rollbackFloor x1 else s.flash.rollbackFloor
    split
    · exact Nat.le_max_left _ _
    · exact Nat.le_refl _

theorem bodySecFwStatus_steady (a1) : SteadyB l (bodySecFwStatus a1) := by
  unfold bodySecFwStatus
  exact readBody_steady _ _ _ _

theorem bodyAuditRead_steady (a1 a2 a3) : SteadyB l (bodyAuditRead a1 a2 a3) := by
  unfold bodyAuditRead
  exact readBody_steady _ _ _ _

theorem bodyAuditAck_steady (a1 a2) : SteadyB l (bodyAuditAck a1 a2) := by
  unfold bodyAuditAck
  refine writeBody_steady _ _ _ _ (fun _ _ _ => ?_)
  refine releaseAudit_steady _ ?_
  refine Steady.lit ?_ rfl rfl rfl rfl
  assumption

theorem bodyAuditConfig_steady (a1 a2 a3) : SteadyB l (bodyAuditConfig a1 a2 a3) := by
  unfold bodyAuditConfig
  refine SteadyB.mk fun z _ _ => ?_
  refine SteadyA.ite ?_ ?_
  · exact SteadyA.mk (by assumption)
  · refine SteadyA.mk ?_
    refine Steady.lit ?_ rfl rfl rfl rfl
    assumption

end Sys2Proof.Machine
end

