-- ==== Sys2Proof/Laws/Steady/System.lean ====
section
/-! SUPPORT. What the operations of Machine/System keep (Laws/Steady). -/

namespace Sys2Proof.Machine

variable {l : Bool × Bool} {z s t : State}

theorem rejectFrame_steady (a1 a2 a3 s) (h4 : Steady l z s) : Steady l z (rejectFrame a1 a2 a3 s) := by
  unfold rejectFrame
  exact respond_steady _ _ _ _ _ (by assumption)

theorem takeMessage_steady (a1 s) (h2 : Steady l z s) : SteadyOP l z (takeMessage a1 s) := by
  unfold takeMessage
  split
  · refine SteadyOP.ite ?_ ?_
    · exact SteadyOP.none
    · split
      · exact SteadyOP.none
      · extract_lets -underBinder -merge -useContext +onlyGivenNames x1 x2
        have h3 : Steady l z x2 := by
          exact State.setChan_steady _ _ _ (by assumption)
        try clear_value x2
        refine SteadyOP.some ?_
        refine SteadyP.mk ?_
        refine Steady.ite ?_ ?_
        · exact raise_steady _ _ (by assumption)
        · assumption
  · refine SteadyOP.map fun _ => ?_
    · refine SteadyP.mk ?_
      refine Steady.lit ?_ rfl rfl rfl rfl
      assumption
  · exact SteadyOP.none
  · refine SteadyOP.some ?_
    exact SteadyP.mk (by assumption)
  · refine SteadyOP.some ?_
    exact SteadyP.mk (by assumption)

theorem intakeFrame_steady (a1 a2 a3 s) (h4 : Steady l z s) : Steady l z (intakeFrame a1 a2 a3 s) := by
  unfold intakeFrame
  split
  · exact rejectFrame_steady _ _ _ _ (by assumption)
  · refine Steady.ite ?_ ?_
    · split
      · refine Steady.ite ?_ ?_
        · refine Steady.lit ?_ rfl rfl rfl rfl
          assumption
        · exact rejectFrame_steady _ _ _ _ (by assumption)
      · exact rejectFrame_steady _ _ _ _ (by assumption)
    · refine Steady.ite ?_ ?_
      · exact rejectFrame_steady _ _ _ _ (by assumption)
      · refine Steady.lit ?_ rfl rfl rfl rfl
        assumption

theorem holdDormant_steady (a1 a2 s3) (h3 : Steady l z s3) : Steady l z (holdDormant a1 a2 s3) := by
  unfold holdDormant
  split
  · refine Steady.ite ?_ ?_
    · refine callWake_steady _ _ ?_
      refine Steady.lit ?_ rfl rfl rfl rfl
      assumption
    · assumption
  · assumption

theorem execOcfIntake_steady (a1 a2 s) (h3 : Steady l z s) : SteadyX l z (execOcfIntake a1 a2 s) := by
  unfold execOcfIntake
  refine SteadyX.ite ?_ ?_
  · refine SteadyX.next ?_
    exact holdDormant_steady _ _ _ (by assumption)
  · refine SteadyX.ite ?_ ?_
    · refine SteadyX.next ?_
      refine Steady.ite ?_ ?_
      · refine Steady.lit ?_ rfl rfl rfl rfl
        assumption
      · assumption
    · refine SteadyX.ite ?_ ?_
      · exact SteadyX.next (by assumption)
      · split
        · exact SteadyX.next (by assumption)
        · rename_i v2 v3 q4
          have h5 : Steady l z v3 := by
            refine SteadyOP.get q4 ?_
            exact takeMessage_steady _ _ (by assumption)
          refine SteadyX.next ?_
          exact intakeFrame_steady _ _ _ _ (by assumption)

theorem execDormantOcfHold_steady (a1 a2 s) (h3 : Steady l z s) : SteadyX l z (execDormantOcfHold a1 a2 s) := by
  unfold execDormantOcfHold
  refine SteadyX.next ?_
  refine Steady.ite ?_ ?_
  · exact holdDormant_steady _ _ _ (by assumption)
  · assumption

theorem execDmaCommandReadComplete_steady (a1 a2 a3 a4 s) (h5 : Steady l z s) : SteadyX l z (execDmaCommandReadComplete a1 a2 a3 a4 s) := by
  unfold execDmaCommandReadComplete
  split
  · exact SteadyX.next (by assumption)
  · extract_lets -underBinder -merge -useContext +onlyGivenNames x1
    extract_lets -underBinder -merge -useContext +onlyGivenNames x2
    have h4 : ∀ y3, Steady l z (x2 y3) := by
      intro y3
      unfold x2
      refine answerDescriptor_steady _ _ _ _ _ _ ?_
      refine Steady.lit ?_ rfl rfl rfl rfl
      assumption
    try clear_value x2
    refine SteadyX.ite ?_ ?_
    · refine SteadyX.next ?_
      apply_assumption
    · refine SteadyX.ite ?_ ?_
      · refine SteadyX.next ?_
        apply_assumption
      · refine SteadyX.next ?_
        exact intakeFrame_steady _ _ _ _ (by assumption)

theorem execCompletionSend_steady (a1 s) (h2 : Steady l z s) : SteadyX l z (execCompletionSend a1 s) := by
  unfold execCompletionSend
  split
  · exact SteadyX.next (by assumption)
  · split
    · exact SteadyX.next (by assumption)
    · refine SteadyX.ite ?_ ?_
      · exact SteadyX.next (by assumption)
      · extract_lets -underBinder -merge -useContext +onlyGivenNames x1
        have h2 : Steady l z x1 := by
          refine Steady.ite ?_ ?_
          · exact auditCommand_steady _ _ _ _ _ _ (by assumption)
          · assumption
        try clear_value x1
        refine SteadyX.ite ?_ ?_
        · refine SteadyX.next ?_
          refine Steady.lit ?_ rfl rfl rfl rfl
          assumption
        · refine SteadyX.next ?_
          refine deliver_steady _ _ _ ?_
          refine Steady.lit ?_ rfl rfl rfl rfl
          assumption

theorem execCompletionResend_steady (a1 s) (h2 : Steady l z s) : SteadyX l z (execCompletionResend a1 s) := by
  unfold execCompletionResend
  split
  · exact SteadyX.next (by assumption)
  · refine SteadyX.ite ?_ ?_
    · exact SteadyX.next (by assumption)
    · refine SteadyX.ite ?_ ?_
      · refine SteadyX.next ?_
        refine Steady.lit ?_ rfl rfl rfl rfl
        assumption
      · refine SteadyX.next ?_
        refine deliver_steady _ _ _ ?_
        refine Steady.lit ?_ rfl rfl rfl rfl
        assumption

theorem execGroupTimeout_steady (a1 s) (h2 : Steady l z s) : SteadyX l z (execGroupTimeout a1 s) := by
  unfold execGroupTimeout
  refine SteadyX.next ?_
  refine Steady.lit ?_ rfl rfl rfl rfl
  assumption

theorem execAuditFlashWrite_steady (s) (h1 : Steady l z s) : SteadyX l z (execAuditFlashWrite s) := by
  unfold execAuditFlashWrite
  extract_lets -underBinder -merge -useContext +onlyGivenNames x1
  split
  · exact SteadyX.next (by assumption)
  · refine SteadyX.next ?_
    refine Steady.lit ?_ rfl rfl rfl rfl
    assumption

theorem bodySysIdentity_steady (a1) : SteadyB l (bodySysIdentity a1) := by
  unfold bodySysIdentity
  exact readBody_steady _ _ _ _

theorem bodySysStatus_steady (a1) : SteadyB l (bodySysStatus a1) := by
  unfold bodySysStatus
  exact readBody_steady _ _ _ _

theorem bodySysEcho_steady (a1) : SteadyB l (bodySysEcho a1) := by
  unfold bodySysEcho
  refine SteadyB.mk fun z _ _ => ?_
  exact SteadyA.mk (by assumption)

theorem bodySysGroupOpen_steady (a1 a2) : SteadyB l (bodySysGroupOpen a1 a2) := by
  unfold bodySysGroupOpen
  refine SteadyB.mk fun z _ _ => ?_
  refine SteadyA.mk ?_
  refine Steady.lit ?_ rfl rfl rfl rfl
  assumption

theorem applyMembers_steady (a1 a2 a3 s) (hB : ∀ i ∈ a3, ∀ b, a1 i = some b → SteadyB l b) (h4 : Steady l z s) :
    SteadyA l z (applyMembers a1 a2 a3 s) := by
  induction a3 generalizing a2 s with
  | nil => exact h4
  | cons i is ih =>
    have hB' : ∀ j ∈ is, ∀ b, a1 j = some b → SteadyB l b := fun j hj => hB j (List.mem_cons_of_mem _ hj)
    unfold applyMembers
    split
    · exact ih _ _ hB' h4
    · rename_i b q
      extract_lets a
      split
      · exact h4
      · exact ih _ _ hB' (hB i List.mem_cons_self b q z s h4)

theorem bodySysGroupCommit_steady (a1 a2) (hB : ∀ i b, a1 i = some b → SteadyB l b) : SteadyB l (bodySysGroupCommit a1 a2) := by
  unfold bodySysGroupCommit
  refine SteadyB.mk fun z s h => ?_
  extract_lets -underBinder -merge -useContext +onlyGivenNames x1
  extract_lets -underBinder -merge -useContext +onlyGivenNames x2 x3
  have h4 : Steady l z x3 := Steady.lit h rfl rfl rfl rfl
  try clear_value x3
  split
  · exact SteadyA.mk h4
  · exact applyMembers_steady _ _ _ _ (fun i _ b => hB i b) h4

theorem bodySysGroupAbort_steady (a1) : SteadyB l (bodySysGroupAbort a1) := by
  unfold bodySysGroupAbort
  refine writeBody_steady _ _ _ _ (fun z _ _ => ?_)
  refine Steady.lit ?_ rfl rfl rfl rfl
  assumption

theorem bodySysCompletionAck_steady (a1 a2) : SteadyB l (bodySysCompletionAck a1 a2) := by
  unfold bodySysCompletionAck
  refine SteadyB.mk fun z _ _ => ?_
  refine SteadyA.mk ?_
  refine Steady.lit ?_ rfl rfl rfl rfl
  assumption

theorem bodySysPendingRead_steady (a1) : SteadyB l (bodySysPendingRead a1) := by
  unfold bodySysPendingRead
  exact readBody_steady _ _ _ _

theorem bodySysIntakeConfig_steady (a1 a2) : SteadyB l (bodySysIntakeConfig a1 a2) := by
  unfold bodySysIntakeConfig
  refine SteadyB.mk fun z _ _ => ?_
  refine SteadyA.ite ?_ ?_
  · exact SteadyA.mk (by assumption)
  · refine SteadyA.mk ?_
    refine Steady.lit ?_ rfl rfl rfl rfl
    assumption

theorem bodySysDeviceIdWrite_steady (a1 a2 a3) : SteadyB l (bodySysDeviceIdWrite a1 a2 a3) := by
  unfold bodySysDeviceIdWrite
  refine SteadyB.mk fun z _ _ => ?_
  refine SteadyA.ite ?_ ?_
  · exact SteadyA.mk (by assumption)
  · refine SteadyA.mk ?_
    refine Steady.lit ?_ rfl rfl rfl rfl
    assumption

theorem bodySysReset_steady (a1 a2) : SteadyB l (bodySysReset a1 a2) := by
  unfold bodySysReset
  refine writeBody_steady _ _ _ _ (fun z _ _ => ?_)
  refine Steady.lit ?_ rfl rfl rfl rfl
  assumption

end Sys2Proof.Machine
end

