-- ==== Sys2Proof/Laws/Steady/HostRegs.lean ====
section
/-! SUPPORT. What the operations of Machine/HostRegs keep (Laws/Steady). -/

namespace Sys2Proof.Machine

variable {l : Bool × Bool} {z s t : State}

theorem refuseAccess_steady (a1 a2 s) (h3 : Steady l z s) : Steady l z (refuseAccess a1 a2 s) := by
  unfold refuseAccess
  refine raise_steady _ _ ?_
  refine Steady.lit ?_ rfl rfl rfl rfl
  assumption

theorem readBack_steady (a1 s) (h2 : Steady l z s) : Steady l z (readBack a1 s) := by
  unfold readBack
  refine Steady.lit ?_ rfl rfl rfl rfl
  assumption

theorem readRefused_steady (a1 a2 s) (h3 : Steady l z s) : Steady l z (readRefused a1 a2 s) := by
  unfold readRefused
  extract_lets -underBinder -merge -useContext +onlyGivenNames x1
  have h2 : Steady l z x1 := by
    exact refuseAccess_steady _ _ _ (by assumption)
  try clear_value x1
  refine Steady.lit ?_ rfl rfl rfl rfl
  assumption

theorem writeRefused_steady (a1 a2 s3) (h3 : Steady l z s3) : Steady l z (writeRefused a1 a2 s3) := by
  unfold writeRefused
  extract_lets -underBinder -merge -useContext +onlyGivenNames x1
  have h2 : Steady l z x1 := by
    exact refuseAccess_steady _ _ _ (by assumption)
  try clear_value x1
  refine Steady.lit ?_ rfl rfl rfl rfl
  assumption

theorem guarded_steady (a1 a2 a3 a4 s5) (h4 : ∀ y0, Steady l z y0 → Steady l z (a4 y0)) (h5 : Steady l z s5) : SteadyX l z (guarded a1 a2 a3 a4 s5) := by
  unfold guarded
  refine SteadyX.next ?_
  refine Steady.ite ?_ ?_
  · assumption
  · refine Steady.ite ?_ ?_
    · apply_assumption
      assumption
    · exact writeRefused_steady _ _ _ (by assumption)

theorem guardedRead_steady (a1 a2 a3 a4 s) (h4 : ∀ b1, Steady l z b1 → Steady l z (a4 b1)) (h5 : Steady l z s) : SteadyX l z (guardedRead a1 a2 a3 a4 s) := by
  unfold guardedRead
  refine SteadyX.next ?_
  refine Steady.ite ?_ ?_
  · assumption
  · refine Steady.ite ?_ ?_
    · apply_assumption
      · assumption
    · exact readRefused_steady _ _ _ (by assumption)

theorem pushWord_steady (a1 a2 a3 s) (h4 : Steady l z s) : Steady l z (pushWord a1 a2 a3 s) := by
  unfold pushWord
  extract_lets -underBinder -merge -useContext +onlyGivenNames x1
  refine Steady.ite ?_ ?_
  · refine raise_steady _ _ ?_
    exact State.setChan_steady _ _ _ (by assumption)
  · refine Steady.ite ?_ ?_
    · exact State.setChan_steady _ _ _ (by assumption)
    · exact State.setChan_steady _ _ _ (by assumption)

theorem execChInData_steady (a1 a2 s) (h3 : Steady l z s) : SteadyX l z (execChInData a1 a2 s) := by
  unfold execChInData
  refine guarded_steady _ _ _ _ _ (fun _ _ => ?_) ?_
  · exact pushWord_steady _ _ _ _ (by assumption)
  · assumption

theorem execChInEom_steady (a1 a2 s) (h3 : Steady l z s) : SteadyX l z (execChInEom a1 a2 s) := by
  unfold execChInEom
  refine guarded_steady _ _ _ _ _ (fun _ _ => ?_) ?_
  · exact pushWord_steady _ _ _ _ (by assumption)
  · assumption

theorem popWord_steady (a1 s) (h2 : Steady l z s) : Steady l z (popWord a1 s) := by
  unfold popWord
  extract_lets -underBinder -merge -useContext +onlyGivenNames x1
  split
  · refine raise_steady _ _ ?_
    refine readBack_steady _ _ ?_
    exact State.setChan_steady _ _ _ (by assumption)
  · split
    · refine readBack_steady _ _ ?_
      exact State.setChan_steady _ _ _ (by assumption)
    · refine readBack_steady _ _ ?_
      exact State.setChan_steady _ _ _ (by assumption)
    · refine readBack_steady _ _ ?_
      exact State.setChan_steady _ _ _ (by assumption)

theorem execChOutData_steady (a1 s2) (h2 : Steady l z s2) : SteadyX l z (execChOutData a1 s2) := by
  unfold execChOutData
  refine guardedRead_steady _ _ _ _ _ (fun _ _ => ?_) ?_
  · refine settleLevels_steady _ ?_
    exact popWord_steady _ _ (by assumption)
  · assumption

theorem execMbxOutPost_steady (a1 s) (h2 : Steady l z s) : SteadyX l z (execMbxOutPost a1 s) := by
  unfold execMbxOutPost
  extract_lets -underBinder -merge -useContext +onlyGivenNames x1
  split
  · exact SteadyX.next (by assumption)
  · refine SteadyX.ite ?_ ?_
    · refine SteadyX.next ?_
      exact State.setChan_steady _ _ _ (by assumption)
    · exact SteadyX.next (by assumption)

theorem hostReset_steady (a1 a2 s3) (h3 : Steady l z s3) : Steady l z (hostReset a1 a2 s3) := by
  unfold hostReset
  extract_lets -underBinder -merge -useContext +onlyGivenNames x1
  have h2 : Steady l z x1 := by
    refine Steady.each ?_ fun _ _ _ => ?_
    · assumption
    · extract_lets -underBinder -merge -useContext +onlyGivenNames x3
      extract_lets -underBinder -merge -useContext +onlyGivenNames x4
      exact State.setChan_steady _ _ _ (by assumption)
  try clear_value x1
  refine settleLevels_steady _ ?_
  refine Steady.lit ?_ rfl rfl rfl rfl
  assumption

theorem execChCtrlHostReset_steady (a1 s) (h2 : Steady l z s) : SteadyX l z (execChCtrlHostReset a1 s) := by
  unfold execChCtrlHostReset
  refine guarded_steady _ _ _ _ _ (fun _ _ => ?_) ?_
  · exact hostReset_steady _ _ _ (by assumption)
  · assumption

theorem firmwareReset_steady (a1 s) (h2 : Steady l z s) : Steady l z (firmwareReset a1 s) := by
  unfold firmwareReset
  refine Steady.each ?_ fun _ _ _ => ?_
  · assumption
  · extract_lets -underBinder -merge -useContext +onlyGivenNames x1
    refine raise_steady _ _ ?_
    exact State.setChan_steady _ _ _ (by assumption)

theorem execH2dSet_steady (a1 a2 s) (h3 : Steady l z s) : SteadyX l z (execH2dSet a1 a2 s) := by
  unfold execH2dSet
  refine guarded_steady _ _ _ _ _ (fun _ _ => ?_) ?_
  · refine Steady.lit ?_ rfl rfl rfl rfl
    assumption
  · assumption

theorem execDoorbellTake_steady (a1 s) (h2 : Steady l z s) : SteadyX l z (execDoorbellTake a1 s) := by
  unfold execDoorbellTake
  refine SteadyX.ite ?_ ?_
  · refine SteadyX.next ?_
    refine Steady.lit ?_ rfl rfl rfl rfl
    assumption
  · exact SteadyX.next (by assumption)

theorem cmbWrite_steady (a1 a2 s) (h3 : Steady l z s) : Steady l z (cmbWrite a1 a2 s) := by
  unfold cmbWrite
  extract_lets -underBinder -merge -useContext +onlyGivenNames x1
  extract_lets -underBinder -merge -useContext +onlyGivenNames x2 x3 x4 x5 x6
  have h7 : Steady l z x6 := by
    refine Steady.ite ?_ ?_
    · refine Steady.lit ?_ rfl rfl rfl rfl
      assumption
    · refine Steady.lit ?_ rfl rfl rfl rfl
      assumption
  try clear_value x6
  refine Steady.ite ?_ ?_
  · refine raise_steady _ _ ?_
    refine Steady.lit ?_ rfl rfl rfl rfl
    assumption
  · assumption

theorem execCmbCtrlGo_steady (a1 s) (h2 : Steady l z s) : SteadyX l z (execCmbCtrlGo a1 s) := by
  unfold execCmbCtrlGo
  refine guarded_steady _ _ _ _ _ (fun _ _ => ?_) ?_
  · exact cmbWrite_steady _ _ _ (by assumption)
  · assumption

theorem execCmbWriteWhileFull_steady (a1 a2 s) (h3 : Steady l z s) : SteadyX l z (execCmbWriteWhileFull a1 a2 s) := by
  unfold execCmbWriteWhileFull
  refine guarded_steady _ _ _ _ _ (fun _ _ => ?_) ?_
  · exact cmbWrite_steady _ _ _ (by assumption)
  · assumption

theorem execCmbRspAck_steady (s) (h1 : Steady l z s) : SteadyX l z (execCmbRspAck s) := by
  unfold execCmbRspAck
  refine guarded_steady _ _ _ _ _ (fun _ _ => ?_) ?_
  · refine Steady.lit ?_ rfl rfl rfl rfl
    assumption
  · assumption

theorem execCmbTake_steady (s) (h1 : Steady l z s) : SteadyX l z (execCmbTake s) := by
  unfold execCmbTake
  refine SteadyX.ite ?_ ?_
  · refine SteadyX.next ?_
    refine Steady.lit ?_ rfl rfl rfl rfl
    assumption
  · exact SteadyX.next (by assumption)

theorem State.setRing_steady (s1 a2 a3 a4) (h1 : Steady l z s1) : Steady l z (State.setRing s1 a2 a3 a4) := by
  unfold State.setRing
  refine Steady.ite ?_ ?_
  · refine Steady.lit ?_ rfl rfl rfl rfl
    assumption
  · refine Steady.lit ?_ rfl rfl rfl rfl
    assumption

theorem updatePresence_steady (s) (h1 : Steady l z s) : Steady l z (updatePresence s) := by
  unfold updatePresence
  refine Steady.ite ?_ ?_
  · assumption
  · refine raise_steady _ _ ?_
    refine Steady.lit ?_ rfl rfl rfl rfl
    assumption

theorem execRingCtrlEn_steady (a1 a2 a3 s) (h4 : Steady l z s) : SteadyX l z (execRingCtrlEn a1 a2 a3 s) := by
  unfold execRingCtrlEn
  refine guarded_steady _ _ _ _ _ (fun _ _ => ?_) ?_
  · extract_lets -underBinder -merge -useContext +onlyGivenNames x1
    refine updatePresence_steady _ ?_
    exact State.setRing_steady _ _ _ _ (by assumption)
  · assumption

theorem execRingTail_steady (a1 a2 a3 s) (h4 : Steady l z s) : SteadyX l z (execRingTail a1 a2 a3 s) := by
  unfold execRingTail
  refine guarded_steady _ _ _ _ _ (fun _ _ => ?_) ?_
  · extract_lets -underBinder -merge -useContext +onlyGivenNames x1
    refine Steady.ite ?_ ?_
    · exact State.setRing_steady _ _ _ _ (by assumption)
    · assumption
  · assumption

theorem clearStatus_steady (a1 a2 s3) (h3 : Steady (l.1, false) z s3) : Steady (l.1, false) z (clearStatus a1 a2 s3) :=
  Steady.litStatus h3 _

theorem raiseMask_steady (a1 a2 s3) (h3 : Steady l z s3) : Steady l z (raiseMask a1 a2 s3) := by
  unfold raiseMask
  refine Steady.each ?_ fun _ _ _ => ?_
  · assumption
  · refine Steady.ite ?_ ?_
    · exact raise_steady _ _ (by assumption)
    · assumption

theorem execIntStatusClear_steady (a1 a2 s3) (h3 : Steady (l.1, false) z s3) : SteadyX (l.1, false) z (execIntStatusClear a1 a2 s3) := by
  unfold execIntStatusClear
  exact guarded_steady _ _ _ _ _ (fun _ h => clearStatus_steady _ _ _ (raiseMask_steady _ _ _ h)) h3

theorem execIntSet_steady (a1 a2 s3) (h3 : Steady l z s3) : SteadyX l z (execIntSet a1 a2 s3) := by
  unfold execIntSet
  refine guarded_steady _ _ _ _ _ (fun _ _ => ?_) ?_
  · exact raiseMask_steady _ _ _ (by assumption)
  · assumption

theorem execIntClaim_steady (a1 s) (h2 : Steady l z s) : SteadyX l z (execIntClaim a1 s) := by
  unfold execIntClaim
  refine guardedRead_steady _ _ _ _ _ (fun _ _ => ?_) ?_
  · refine claim_steady _ _ ?_
    exact readBack_steady _ _ (by assumption)
  · assumption

theorem execIntComplete_steady (a1 a2 s) (h3 : Steady l z s) : SteadyX l z (execIntComplete a1 a2 s) := by
  unfold execIntComplete
  refine guarded_steady _ _ _ _ _ (fun _ _ => ?_) ?_
  · exact complete_steady _ _ _ (by assumption)
  · assumption

theorem execInterruptMessageSend_steady (a1 s) (h2 : Steady l z s) : SteadyX l z (execInterruptMessageSend a1 s) := by
  unfold execInterruptMessageSend
  extract_lets -underBinder -merge -useContext +onlyGivenNames x1
  refine SteadyX.ite ?_ ?_
  · exact SteadyX.next (by assumption)
  · refine SteadyX.ite ?_ ?_
    · refine SteadyX.next ?_
      exact sendGroup_steady _ _ (by assumption)
    · refine SteadyX.ite ?_ ?_
      · refine SteadyX.next ?_
        refine Steady.ite ?_ ?_
        · refine Steady.lit ?_ rfl rfl rfl rfl
          assumption
        · assumption
      · refine SteadyX.ite ?_ ?_
        · refine SteadyX.next ?_
          refine Steady.ite ?_ ?_
          · refine Steady.lit ?_ rfl rfl rfl rfl
            assumption
          · assumption
        · exact SteadyX.next (by assumption)

theorem execHoldoffExpire_steady (a1 s) (h2 : Steady l z s) : SteadyX l z (execHoldoffExpire a1 s) := by
  unfold execHoldoffExpire
  refine SteadyX.next ?_
  refine Steady.lit ?_ rfl rfl rfl rfl
  assumption

theorem functionReset_steady (s) (h1 : Steady l z s) : Steady l z (functionReset s) := by
  unfold functionReset
  extract_lets -underBinder -merge -useContext +onlyGivenNames x1
  extract_lets -underBinder -merge -useContext +onlyGivenNames x2 x3 x4
  have h5 : Steady l z x4 := by
    refine Steady.lit ?_ rfl rfl rfl rfl
    assumption
  try clear_value x4
  refine updatePresence_steady _ ?_
  exact hostReset_steady _ _ _ (by assumption)

theorem execPerstN_steady (s) (h1 : Steady l z s) : SteadyX l z (execPerstN s) := by
  unfold execPerstN
  refine SteadyX.next ?_
  refine functionReset_steady _ ?_
  refine Steady.lit ?_ rfl rfl rfl rfl
  assumption

theorem execFunctionLevelReset_steady (s) (h1 : Steady l z s) : SteadyX l z (execFunctionLevelReset s) := by
  unfold execFunctionLevelReset
  refine SteadyX.next ?_
  refine Steady.ite ?_ ?_
  · refine functionReset_steady _ ?_
    assumption
  · assumption

theorem execPerstNRelease_steady (s) (h1 : Steady l z s) : SteadyX l z (execPerstNRelease s) := by
  unfold execPerstNRelease
  extract_lets -underBinder -merge -useContext +onlyGivenNames x1 x2
  have h3 : Steady l z x2 := by
    refine Steady.lit ?_ rfl rfl rfl rfl
    assumption
  try clear_value x2
  refine SteadyX.next ?_
  refine Steady.ite ?_ ?_
  · refine Steady.lit ?_ rfl rfl rfl rfl
    assumption
  · assumption

theorem execPciePowerStateChange_steady (a1 a2 a3 a4 s) (h5 : Steady l z s) : SteadyX l z (execPciePowerStateChange a1 a2 a3 a4 s) := by
  unfold execPciePowerStateChange
  refine SteadyX.next ?_
  refine Steady.ite ?_ ?_
  · refine updatePresence_steady _ ?_
    refine Steady.lit ?_ rfl rfl rfl rfl
    assumption
  · assumption

theorem execPcieLinkChange_steady (a1 a2 a3 s) (h4 : Steady l z s) : SteadyX l z (execPcieLinkChange a1 a2 a3 s) := by
  unfold execPcieLinkChange
  refine SteadyX.next ?_
  refine Steady.ite ?_ ?_
  · assumption
  · refine updatePresence_steady _ ?_
    refine Steady.lit ?_ rfl rfl rfl rfl
    assumption

theorem execMsixVectorUnmask_steady (a1 s) (h2 : Steady l z s) : SteadyX l z (execMsixVectorUnmask a1 s) := by
  unfold execMsixVectorUnmask
  refine SteadyX.ite ?_ ?_
  · exact SteadyX.next (by assumption)
  · extract_lets -underBinder -merge -useContext +onlyGivenNames x1
    extract_lets -underBinder -merge -useContext +onlyGivenNames x2 x3
    have h4 : Steady l z x3 := by
      refine Steady.lit ?_ rfl rfl rfl rfl
      assumption
    try clear_value x3
    refine SteadyX.next ?_
    refine Steady.ite ?_ ?_
    · refine sendVector_steady _ _ ?_
      refine Steady.lit ?_ rfl rfl rfl rfl
      assumption
    · assumption

theorem pushStamp_steady (a1 s) (h2 : Steady l z s) : Steady l z (pushStamp a1 s) := by
  unfold pushStamp
  extract_lets -underBinder -merge -useContext +onlyGivenNames x1 x2
  have h3 : Steady l z x2 := by
    refine Steady.lit ?_ rfl rfl rfl rfl
    assumption
  try clear_value x2
  refine Steady.ite ?_ ?_
  · refine raise_steady _ _ ?_
    refine Steady.lit ?_ rfl rfl rfl rfl
    assumption
  · refine Steady.lit ?_ rfl rfl rfl rfl
    assumption

theorem execEventInputEdge_steady (a1 a2 s) (h3 : Steady l z s) : SteadyX l z (execEventInputEdge a1 a2 s) := by
  unfold execEventInputEdge
  refine SteadyX.ite ?_ ?_
  · exact SteadyX.next (by assumption)
  · extract_lets -underBinder -merge -useContext +onlyGivenNames x1 x2 x3
    have h4 : Steady l z x3 := by
      refine Steady.lit ?_ rfl rfl rfl rfl
      assumption
    try clear_value x3
    extract_lets -underBinder -merge -useContext +onlyGivenNames x5
    refine SteadyX.next ?_
    refine Steady.ite ?_ ?_
    · refine pushStamp_steady _ _ ?_
      refine raise_steady _ _ ?_
      refine Steady.lit ?_ rfl rfl rfl rfl
      assumption
    · assumption

theorem execEventAsyncLatch_steady (a1 a2 s3) (h3 : Steady l z s3) : SteadyX l z (execEventAsyncLatch a1 a2 s3) := by
  unfold execEventAsyncLatch
  extract_lets -underBinder -merge -useContext +onlyGivenNames x1
  refine SteadyX.next ?_
  refine Steady.ite ?_ ?_
  · extract_lets -underBinder -merge -useContext +onlyGivenNames x2
    extract_lets -underBinder -merge -useContext +onlyGivenNames x3
    extract_lets -underBinder -merge -useContext +onlyGivenNames x4
    have h5 : Steady l z x4 := by
      refine Steady.lit ?_ rfl rfl rfl rfl
      assumption
    try clear_value x4
    refine Steady.ite ?_ ?_
    · exact callWake_steady _ _ (by assumption)
    · assumption
  · assumption

theorem resumeFilter_steady (s) (h1 : Steady l z s) : Steady l z (resumeFilter s) := by
  unfold resumeFilter
  extract_lets -underBinder -merge -useContext +onlyGivenNames x1
  have h2 : Steady l z x1 := by
    refine Steady.each ?_ fun _ _ _ => ?_
    · assumption
    · refine pushStamp_steady _ _ ?_
      refine raise_steady _ _ ?_
      refine Steady.lit ?_ rfl rfl rfl rfl
      assumption
  try clear_value x1
  refine Steady.lit ?_ rfl rfl rfl rfl
  assumption

theorem latchTime_steady (s) (h1 : Steady l z s) : Steady l z (latchTime s) := by
  unfold latchTime
  refine Steady.lit ?_ rfl rfl rfl rfl
  assumption

theorem execTcapTimeNsRead_steady (s) (h1 : Steady l z s) : SteadyX l z (execTcapTimeNsRead s) := by
  unfold execTcapTimeNsRead
  refine guardedRead_steady _ _ _ _ _ (fun _ _ => ?_) ?_
  · refine latchTime_steady _ ?_
    exact readBack_steady _ _ (by assumption)
  · assumption

theorem execTcapCapture_steady (s) (h1 : Steady l z s) : SteadyX l z (execTcapCapture s) := by
  unfold execTcapCapture
  refine guarded_steady _ _ _ _ _ (fun _ _ => ?_) ?_
  · exact latchTime_steady _ (by assumption)
  · assumption

theorem popStamp_steady (s1) (h1 : Steady l z s1) : Steady l z (popStamp s1) := by
  unfold popStamp
  refine settleLevels_steady _ ?_
  refine Steady.lit ?_ rfl rfl rfl rfl
  assumption

theorem execTcapEvqPop_steady (s1) (h1 : Steady l z s1) : SteadyX l z (execTcapEvqPop s1) := by
  unfold execTcapEvqPop
  refine guarded_steady _ _ _ _ _ (fun _ _ => ?_) ?_
  · exact popStamp_steady _ (by assumption)
  · assumption

theorem execUrCountRead_steady (s) (h1 : Steady l z s) : SteadyX l z (execUrCountRead s) := by
  unfold execUrCountRead
  refine guardedRead_steady _ _ _ _ _ (fun _ _ => ?_) ?_
  · refine readBack_steady _ _ ?_
    refine Steady.lit ?_ rfl rfl rfl rfl
    assumption
  · assumption

theorem execChOvfCountRead_steady (a1 s) (h2 : Steady l z s) : SteadyX l z (execChOvfCountRead a1 s) := by
  unfold execChOvfCountRead
  refine guardedRead_steady _ _ _ _ _ (fun _ _ => ?_) ?_
  · refine readBack_steady _ _ ?_
    exact State.setChan_steady _ _ _ (by assumption)
  · assumption

theorem execChDiscardRead_steady (a1 s) (h2 : Steady l z s) : SteadyX l z (execChDiscardRead a1 s) := by
  unfold execChDiscardRead
  refine guardedRead_steady _ _ _ _ _ (fun _ _ => ?_) ?_
  · refine readBack_steady _ _ ?_
    exact State.setChan_steady _ _ _ (by assumption)
  · assumption

theorem execChFlushCountRead_steady (a1 s) (h2 : Steady l z s) : SteadyX l z (execChFlushCountRead a1 s) := by
  unfold execChFlushCountRead
  refine guardedRead_steady _ _ _ _ _ (fun _ _ => ?_) ?_
  · refine readBack_steady _ _ ?_
    exact State.setChan_steady _ _ _ (by assumption)
  · assumption

theorem execCmbCollCountRead_steady (s) (h1 : Steady l z s) : SteadyX l z (execCmbCollCountRead s) := by
  unfold execCmbCollCountRead
  refine guardedRead_steady _ _ _ _ _ (fun _ _ => ?_) ?_
  · refine readBack_steady _ _ ?_
    refine Steady.lit ?_ rfl rfl rfl rfl
    assumption
  · assumption

theorem execRingDropRead_steady (a1 s) (h2 : Steady l z s) : SteadyX l z (execRingDropRead a1 s) := by
  unfold execRingDropRead
  refine guardedRead_steady _ _ _ _ _ (fun _ _ => ?_) ?_
  · refine readBack_steady _ _ ?_
    exact State.setRing_steady _ _ _ _ (by assumption)
  · assumption

theorem execBadCompleteRead_steady (s) (h1 : Steady l z s) : SteadyX l z (execBadCompleteRead s) := by
  unfold execBadCompleteRead
  refine guardedRead_steady _ _ _ _ _ (fun _ _ => ?_) ?_
  · refine readBack_steady _ _ ?_
    refine Steady.lit ?_ rfl rfl rfl rfl
    assumption
  · assumption

theorem execReassertRead_steady (a1 s) (h2 : Steady l z s) : SteadyX l z (execReassertRead a1 s) := by
  unfold execReassertRead
  refine guardedRead_steady _ _ _ _ _ (fun _ _ => ?_) ?_
  · refine readBack_steady _ _ ?_
    refine Steady.lit ?_ rfl rfl rfl rfl
    assumption
  · assumption

theorem execEvqOvfRead_steady (s) (h1 : Steady l z s) : SteadyX l z (execEvqOvfRead s) := by
  unfold execEvqOvfRead
  refine guardedRead_steady _ _ _ _ _ (fun _ _ => ?_) ?_
  · refine readBack_steady _ _ ?_
    refine Steady.lit ?_ rfl rfl rfl rfl
    assumption
  · assumption

end Sys2Proof.Machine
end

