-- ==== Sys2Proof/Laws/Steady/Time.lean ====
section
/-! SUPPORT. What the operations of Machine/Time keep (Laws/Steady). -/

namespace Sys2Proof.Machine

variable {l : Bool × Bool} {z s t : State}

theorem tick_steady (s) (h1 : Steady l z s) : Steady l z (tick s) := by
  unfold tick
  extract_lets -underBinder -merge -useContext +onlyGivenNames x1
  extract_lets -underBinder -merge -useContext +onlyGivenNames x2
  extract_lets -underBinder -merge -useContext +onlyGivenNames x3
  extract_lets -underBinder -merge -useContext +onlyGivenNames x4
  refine Steady.lit ?_ rfl rfl rfl rfl
  assumption

theorem idle_steady (s) (h1 : Steady l z s) : Steady l z (idle s) := by
  unfold idle
  refine Steady.ite ?_ ?_
  · exact tick_steady _ (by assumption)
  · assumption

theorem trackLock_steady (s1) (h1 : Steady l z s1) : Steady l z (trackLock s1) := by
  unfold trackLock
  extract_lets -underBinder -merge -useContext +onlyGivenNames x1
  extract_lets -underBinder -merge -useContext +onlyGivenNames x2
  refine Steady.lit ?_ rfl rfl rfl rfl
  assumption

theorem setTimeState_steady (a1 s2) (h2 : Steady l z s2) : Steady l z (setTimeState a1 s2) := by
  unfold setTimeState
  refine Steady.ite ?_ ?_
  · assumption
  · extract_lets -underBinder -merge -useContext +onlyGivenNames x1
    extract_lets -underBinder -merge -useContext +onlyGivenNames x2
    have h3 : Steady l z x2 := by
      refine Steady.ite ?_ ?_
      · refine Steady.lit ?_ rfl rfl rfl rfl
        assumption
      · assumption
    try clear_value x2
    extract_lets -underBinder -merge -useContext +onlyGivenNames x4
    extract_lets -underBinder -merge -useContext +onlyGivenNames x5
    have h6 : Steady l z x5 := by
      refine Steady.lit ?_ rfl rfl rfl rfl
      assumption
    try clear_value x5
    extract_lets -underBinder -merge -useContext +onlyGivenNames x7
    have h8 : Steady l z x7 := by
      unfold x7
      split
      · refine Steady.lit ?_ rfl rfl rfl rfl
        assumption
      · refine Steady.lit ?_ rfl rfl rfl rfl
        assumption
      · exact trackLock_steady _ (by assumption)
      · assumption
    try clear_value x7
    exact raise_steady _ _ (by assumption)

theorem reselect_steady (s) (h1 : Steady l z s) : Steady l z (reselect s) := by
  unfold reselect
  extract_lets -underBinder -merge -useContext +onlyGivenNames x1
  split
  · refine Steady.ite ?_ ?_
    · assumption
    · refine setTimeState_steady _ _ ?_
      refine Steady.lit ?_ rfl rfl rfl rfl
      assumption
  · refine Steady.ite ?_ ?_
    · assumption
    · refine setTimeState_steady _ _ ?_
      refine Steady.lit ?_ rfl rfl rfl rfl
      assumption
  · refine Steady.ite ?_ ?_
    · assumption
    · refine Steady.ite ?_ ?_
      · refine setTimeState_steady _ _ ?_
        refine raise_steady _ _ ?_
        refine Steady.lit ?_ rfl rfl rfl rfl
        assumption
      · refine setTimeState_steady _ _ ?_
        refine raise_steady _ _ ?_
        refine Steady.lit ?_ rfl rfl rfl rfl
        assumption
  · refine Steady.ite ?_ ?_
    · assumption
    · refine Steady.ite ?_ ?_
      · refine setTimeState_steady _ _ ?_
        refine raise_steady _ _ ?_
        refine Steady.lit ?_ rfl rfl rfl rfl
        assumption
      · refine Steady.lit ?_ rfl rfl rfl rfl
        assumption

theorem driveOutput_steady (a1 a2 s) (h3 : Steady l z s) : Steady l z (driveOutput a1 a2 s) := by
  unfold driveOutput
  extract_lets -underBinder -merge -useContext +onlyGivenNames x1
  refine Steady.ite ?_ ?_
  · assumption
  · refine Steady.lit ?_ rfl rfl rfl rfl
    assumption

theorem retrainOutputs_steady (s) (h : Steady l z s) : Steady l z (retrainOutputs s) := by
  unfold retrainOutputs
  refine Steady.each ?_ fun _ _ _ => ?_
  · assumption
  · extract_lets
    refine Steady.ite ?_ ?_
    · exact driveOutput_steady _ _ _ (by assumption)
    · assumption

theorem stepTime_steady (a1 s) (h2 : Steady l z s) : Steady l z (stepTime a1 s) := by
  unfold stepTime
  refine raise_steady _ _ ?_
  refine retrainOutputs_steady _ ?_
  refine resyncGates_steady _ ?_
  refine Steady.lit ?_ rfl rfl rfl rfl
  assumption

theorem measureSelected_steady (a1 s2) (h2 : Steady l z s2) : Steady l z (measureSelected a1 s2) := by
  unfold measureSelected
  extract_lets -underBinder -merge -useContext +onlyGivenNames x1
  extract_lets -underBinder -merge -useContext +onlyGivenNames x2
  have h3 : Steady l z x2 := by
    refine Steady.lit ?_ rfl rfl rfl rfl
    assumption
  try clear_value x2
  extract_lets -underBinder -merge -useContext +onlyGivenNames x4
  split
  · refine Steady.ite ?_ ?_
    · extract_lets -underBinder -merge -useContext +onlyGivenNames x5
      have h6 : Steady l z x5 := by
        exact stepTime_steady _ _ (by assumption)
      try clear_value x5
      refine Steady.lit ?_ rfl rfl rfl rfl
      assumption
    · extract_lets -underBinder -merge -useContext +onlyGivenNames x7
      extract_lets -underBinder -merge -useContext +onlyGivenNames x8
      extract_lets -underBinder -merge -useContext +onlyGivenNames x9
      have h10 : Steady l z x9 := by
        refine Steady.lit ?_ rfl rfl rfl rfl
        assumption
      try clear_value x9
      refine Steady.ite ?_ ?_
      · exact setTimeState_steady _ _ (by assumption)
      · assumption
  · refine Steady.ite ?_ ?_
    · exact setTimeState_steady _ _ (by assumption)
    · refine trackLock_steady _ ?_
      refine Steady.lit ?_ rfl rfl rfl rfl
      assumption
  · assumption

theorem measure_steady (a1 a2 s) (h3 : Steady l z s) : Steady l z (measure a1 a2 s) := by
  unfold measure
  refine Steady.ite ?_ ?_
  · exact measureSelected_steady _ _ (by assumption)
  · refine Steady.ite ?_ ?_
    · refine Steady.ite ?_ ?_
      · refine Steady.lit ?_ rfl rfl rfl rfl
        assumption
      · refine measureSelected_steady _ _ ?_
        refine Steady.lit ?_ rfl rfl rfl rfl
        assumption
    · assumption

theorem losePps_steady (s) (h1 : Steady l z s) : Steady l z (losePps s) := by
  unfold losePps
  refine Steady.ite ?_ ?_
  · refine reselect_steady _ ?_
    refine raise_steady _ _ ?_
    refine Steady.lit ?_ rfl rfl rfl rfl
    assumption
  · assumption

theorem execPpsEdge_steady (a1 s) (h2 : Steady l z s) : SteadyX l z (execPpsEdge a1 s) := by
  unfold execPpsEdge
  extract_lets -underBinder -merge -useContext +onlyGivenNames x1
  have h2 : Steady l z x1 := by
    exact pushStamp_steady _ _ (by assumption)
  try clear_value x1
  refine SteadyX.ite ?_ ?_
  · exact SteadyX.next (by assumption)
  · extract_lets -underBinder -merge -useContext +onlyGivenNames x3
    extract_lets -underBinder -merge -useContext +onlyGivenNames x4 x5
    have h6 : Steady l z x5 := by
      refine Steady.lit ?_ rfl rfl rfl rfl
      assumption
    try clear_value x5
    try clear_value x3
    split
    · exact SteadyX.next (by assumption)
    · refine SteadyX.ite ?_ ?_
      · extract_lets -underBinder -merge -useContext +onlyGivenNames x7 x8
        have h9 : Steady l z x8 := by
          refine Steady.ite ?_ ?_
          · assumption
          · refine reselect_steady _ ?_
            refine Steady.lit ?_ rfl rfl rfl rfl
            assumption
        try clear_value x8
        refine SteadyX.next ?_
        exact measure_steady _ _ _ (by assumption)
      · refine SteadyX.next ?_
        exact losePps_steady _ (by assumption)

theorem execPpsTimeout_steady (s) (h1 : Steady l z s) : SteadyX l z (execPpsTimeout s) := by
  unfold execPpsTimeout
  refine SteadyX.next ?_
  extract_lets -underBinder -merge -useContext +onlyGivenNames x1
  have h2 : Steady l z x1 := by
    exact losePps_steady _ (by assumption)
  try clear_value x1
  refine Steady.lit ?_ rfl rfl rfl rfl
  assumption

theorem refreshFreq_steady (s) (h1 : Steady l z s) : Steady l z (refreshFreq s) := by
  unfold refreshFreq
  split
  · refine Steady.lit ?_ rfl rfl rfl rfl
    assumption
  · refine Steady.lit ?_ rfl rfl rfl rfl
    assumption
  · assumption

theorem loseFreq_steady (s) (h1 : Steady l z s) : Steady l z (loseFreq s) := by
  unfold loseFreq
  refine Steady.ite ?_ ?_
  · refine refreshFreq_steady _ ?_
    refine raise_steady _ _ ?_
    refine Steady.lit ?_ rfl rfl rfl rfl
    assumption
  · assumption

theorem execFreqInvalid_steady (s) (h1 : Steady l z s) : SteadyX l z (execFreqInvalid s) := by
  unfold execFreqInvalid
  refine SteadyX.next ?_
  exact loseFreq_steady _ (by assumption)

theorem execFreqMeasurement_steady (a1 s) (h2 : Steady l z s) : SteadyX l z (execFreqMeasurement a1 s) := by
  unfold execFreqMeasurement
  extract_lets -underBinder -merge -useContext +onlyGivenNames x1
  refine SteadyX.ite ?_ ?_
  · refine SteadyX.next ?_
    refine refreshFreq_steady _ ?_
    refine Steady.lit ?_ rfl rfl rfl rfl
    assumption
  · refine SteadyX.next ?_
    exact loseFreq_steady _ (by assumption)

theorem execHoldoverExpire_steady (s) (h1 : Steady l z s) : SteadyX l z (execHoldoverExpire s) := by
  unfold execHoldoverExpire
  refine SteadyX.next ?_
  refine Steady.ite ?_ ?_
  · refine setTimeState_steady _ _ ?_
    exact raise_steady _ _ (by assumption)
  · assumption

theorem execLeapEvent_steady (s) (h1 : Steady l z s) : SteadyX l z (execLeapEvent s) := by
  unfold execLeapEvent
  refine SteadyX.next ?_
  refine Steady.ite ?_ ?_
  · refine raise_steady _ _ ?_
    refine Steady.lit ?_ rfl rfl rfl rfl
    assumption
  · refine Steady.ite ?_ ?_
    · refine raise_steady _ _ ?_
      refine Steady.lit ?_ rfl rfl rfl rfl
      assumption
    · assumption

theorem execTimedOutputEdge_steady (a1 s) (h2 : Steady l z s) : SteadyX l z (execTimedOutputEdge a1 s) := by
  unfold execTimedOutputEdge
  extract_lets -underBinder -merge -useContext +onlyGivenNames x1
  extract_lets -underBinder -merge -useContext +onlyGivenNames x2
  refine SteadyX.next ?_
  exact driveOutput_steady _ _ _ (by assumption)

theorem bmca_steady (s) (h1 : Steady l z s) : Steady l z (bmca s) := by
  unfold bmca
  extract_lets -underBinder -merge -useContext +onlyGivenNames x1
  extract_lets -underBinder -merge -useContext +onlyGivenNames x2
  extract_lets -underBinder -merge -useContext +onlyGivenNames x3
  extract_lets -underBinder -merge -useContext +onlyGivenNames x4
  extract_lets -underBinder -merge -useContext +onlyGivenNames x5
  extract_lets -underBinder -merge -useContext +onlyGivenNames x6
  extract_lets -underBinder -merge -useContext +onlyGivenNames x7 x8
  have h9 : Steady l z x8 := by
    refine Steady.lit ?_ rfl rfl rfl rfl
    assumption
  try clear_value x8
  extract_lets -underBinder -merge -useContext +onlyGivenNames x10
  have h11 : Steady l z x10 := by
    refine Steady.ite ?_ ?_
    · exact raise_steady _ _ (by assumption)
    · assumption
  try clear_value x10
  extract_lets -underBinder -merge -useContext +onlyGivenNames x12
  have h13 : Steady l z x12 := by
    refine Steady.ite ?_ ?_
    · exact raise_steady _ _ (by assumption)
    · assumption
  try clear_value x12
  refine Steady.ite ?_ ?_
  · assumption
  · refine reselect_steady _ ?_
    refine Steady.lit ?_ rfl rfl rfl rfl
    assumption

theorem takeRate_steady (s) (h1 : Steady l z s) : SteadyP l z (takeRate s) := by
  unfold takeRate
  extract_lets -underBinder -merge -useContext +onlyGivenNames x1 x2
  have h3 : Steady l z x2 := by
    refine Steady.ite ?_ ?_
    · refine Steady.lit ?_ rfl rfl rfl rfl
      assumption
    · assumption
  try clear_value x2
  refine SteadyP.ite ?_ ?_
  · refine SteadyP.mk ?_
    refine Steady.lit ?_ rfl rfl rfl rfl
    assumption
  · refine SteadyP.mk ?_
    refine Steady.lit ?_ rfl rfl rfl rfl
    assumption

theorem setPtpPort_steady (a1 a2 s) (h3 : Steady l z s) : Steady l z (setPtpPort a1 a2 s) := by
  unfold setPtpPort
  refine Steady.lit ?_ rfl rfl rfl rfl
  assumption

theorem handlePtp_steady (a1 a2 a3 s4) (h4 : Steady l z s4) : Steady l z (handlePtp a1 a2 a3 s4) := by
  unfold handlePtp
  split
  · extract_lets -underBinder -merge -useContext +onlyGivenNames x1
    extract_lets -underBinder -merge -useContext +onlyGivenNames x2
    have h3 : Steady l z x2 := by
      refine bmca_steady _ ?_
      exact setPtpPort_steady _ _ _ (by assumption)
    try clear_value x2
    refine Steady.ite ?_ ?_
    · refine Steady.lit ?_ rfl rfl rfl rfl
      assumption
    · assumption
  · extract_lets -underBinder -merge -useContext +onlyGivenNames x4
    have h5 : Steady l z x4 := by
      exact setPtpPort_steady _ _ _ (by assumption)
    try clear_value x4
    refine Steady.ite ?_ ?_
    · assumption
    · extract_lets -underBinder -merge -useContext +onlyGivenNames x6
      extract_lets -underBinder -merge -useContext +onlyGivenNames x7
      have h8 : Steady l z x7 := by
        refine Steady.ite ?_ ?_
        · assumption
        · refine reselect_steady _ ?_
          refine Steady.lit ?_ rfl rfl rfl rfl
          assumption
      try clear_value x7
      split
      · assumption
      · exact measure_steady _ _ _ (by assumption)
  · split
    · assumption
    · exact setPtpPort_steady _ _ _ (by assumption)
  · refine Steady.ite ?_ ?_
    · refine sendPtp_steady _ _ _ ?_
      exact setPtpPort_steady _ _ _ (by assumption)
    · assumption
  · refine Steady.ite ?_ ?_
    · refine sendPtp_steady _ _ _ ?_
      exact setPtpPort_steady _ _ _ (by assumption)
    · assumption
  · refine Steady.ite ?_ ?_
    · exact setPtpPort_steady _ _ _ (by assumption)
    · assumption

theorem execPtpMessageReceive_steady (a1 a2 s3) (h3 : Steady l z s3) : SteadyX l z (execPtpMessageReceive a1 a2 s3) := by
  unfold execPtpMessageReceive
  split
  · refine SteadyX.next ?_
    assumption
  · refine SteadyX.ite ?_ ?_
    · refine SteadyX.next ?_
      assumption
    · refine SteadyX.ite ?_ ?_
      · refine SteadyX.next ?_
        assumption
      · refine SteadyX.ite ?_ ?_
        · refine SteadyX.next ?_
          refine Steady.lit ?_ rfl rfl rfl rfl
          assumption
        · refine SteadyX.ite ?_ ?_
          · split
            · rename_i v1 v2 q3
              have h4 : Steady l z v2 := by
                refine SteadyP.get q3 ?_
                exact takeRate_steady _ (by assumption)
              refine SteadyX.next ?_
              assumption
            · rename_i v5 v6 q7
              have h8 : Steady l z v6 := by
                refine SteadyP.get q7 ?_
                exact takeRate_steady _ (by assumption)
              refine SteadyX.next ?_
              exact handlePtp_steady _ _ _ _ (by assumption)
          · refine SteadyX.next ?_
            exact handlePtp_steady _ _ _ _ (by assumption)

theorem execPtpMessageSend_steady (a1 a2 s3) (h3 : Steady l z s3) : SteadyX l z (execPtpMessageSend a1 a2 s3) := by
  unfold execPtpMessageSend
  split
  · refine SteadyX.next ?_
    assumption
  · refine SteadyX.ite ?_ ?_
    · extract_lets -underBinder -merge -useContext +onlyGivenNames x1
      have h2 : Steady l z x1 := by
        exact sendPtp_steady _ _ _ (by assumption)
      try clear_value x1
      refine SteadyX.next ?_
      exact setPtpPort_steady _ _ _ (by assumption)
    · refine SteadyX.next ?_
      assumption

theorem execPtpSyncTimeout_steady (s) (h1 : Steady l z s) : SteadyX l z (execPtpSyncTimeout s) := by
  unfold execPtpSyncTimeout
  refine SteadyX.next ?_
  refine Steady.ite ?_ ?_
  · refine reselect_steady _ ?_
    refine Steady.lit ?_ rfl rfl rfl rfl
    assumption
  · assumption

theorem execAnnounceTimeout_steady (a1 s) (h2 : Steady l z s) : SteadyX l z (execAnnounceTimeout a1 s) := by
  unfold execAnnounceTimeout
  split
  · exact SteadyX.next (by assumption)
  · refine SteadyX.next ?_
    refine bmca_steady _ ?_
    exact setPtpPort_steady _ _ _ (by assumption)

theorem bodyTimeSourceConfig_steady (a1 a2) : SteadyB l (bodyTimeSourceConfig a1 a2) := by
  unfold bodyTimeSourceConfig
  extract_lets -underBinder -merge -useContext +onlyGivenNames x1
  extract_lets -underBinder -merge -useContext +onlyGivenNames x2
  extract_lets -underBinder -merge -useContext +onlyGivenNames x3
  extract_lets -underBinder -merge -useContext +onlyGivenNames x4
  refine writeBody_steady _ _ _ _ (fun z _ _ => ?_)
  refine refreshFreq_steady _ ?_
  refine reselect_steady _ ?_
  refine Steady.lit ?_ rfl rfl rfl rfl
  assumption

theorem bodyTimeSet_steady (a1 a2) : SteadyB l (bodyTimeSet a1 a2) := by
  unfold bodyTimeSet
  refine writeBody_steady _ _ _ _ (fun z _ _ => ?_)
  extract_lets -underBinder -merge -useContext +onlyGivenNames x1
  extract_lets -underBinder -merge -useContext +onlyGivenNames x2 x3
  have h4 : Steady l z x3 := by
    refine Steady.lit ?_ rfl rfl rfl rfl
    assumption
  try clear_value x3
  extract_lets -underBinder -merge -useContext +onlyGivenNames x5
  have h6 : Steady l z x5 := by
    refine Steady.ite ?_ ?_
    · exact setTimeState_steady _ _ (by assumption)
    · assumption
  try clear_value x5
  refine Steady.ite ?_ ?_
  · refine Steady.lit ?_ rfl rfl rfl rfl
    assumption
  · exact stepTime_steady _ _ (by assumption)

theorem bodyTimeStatus_steady (a1) : SteadyB l (bodyTimeStatus a1) := by
  unfold bodyTimeStatus
  exact readBody_steady _ _ _ _

theorem bodyPtpClockConfig_steady (a1 a2) : SteadyB l (bodyPtpClockConfig a1 a2) := by
  unfold bodyPtpClockConfig
  refine writeBody_steady _ _ _ _ (fun z _ _ => ?_)
  refine bmca_steady _ ?_
  refine Steady.lit ?_ rfl rfl rfl rfl
  assumption

theorem bodyPtpStatus_steady (a1) : SteadyB l (bodyPtpStatus a1) := by
  unfold bodyPtpStatus
  exact readBody_steady _ _ _ _

theorem bodyTimeOutputWrite_steady (a1 a2) : SteadyB l (bodyTimeOutputWrite a1 a2) := by
  unfold bodyTimeOutputWrite
  refine writeBody_steady _ _ _ _ (fun z _ _ => ?_)
  extract_lets -underBinder -merge -useContext +onlyGivenNames x1
  extract_lets -underBinder -merge -useContext +onlyGivenNames x2
  extract_lets -underBinder -merge -useContext +onlyGivenNames x3 x4
  have h5 : Steady l z x4 := by
    refine Steady.lit ?_ rfl rfl rfl rfl
    assumption
  try clear_value x4
  exact driveOutput_steady _ _ _ (by assumption)

theorem bodyEventStampRead_steady (a1) : SteadyB l (bodyEventStampRead a1) := by
  unfold bodyEventStampRead
  exact readBody_steady _ _ _ _

end Sys2Proof.Machine
end

