-- ==== Sys2Proof/Laws/Steady/Discovery.lean ====
section
/-! SUPPORT. What the operations of Machine/Discovery keep (Laws/Steady). -/

namespace Sys2Proof.Machine

variable {l : Bool × Bool} {z s t : State}

theorem refuseEntry_steady (a1 s) (h2 : Steady l z s) : Steady l z (refuseEntry a1 s) := by
  unfold refuseEntry
  refine Steady.lit ?_ rfl rfl rfl rfl
  assumption

theorem noteMember_steady (a1 a2 s) (h3 : Steady l z s) : Steady l z (noteMember a1 a2 s) := by
  unfold noteMember
  split
  · extract_lets -underBinder -merge -useContext +onlyGivenNames x1
    extract_lets -underBinder -merge -useContext +onlyGivenNames x2 x3 x4
    have h5 : Steady l z x4 := by
      refine Steady.lit ?_ rfl rfl rfl rfl
      assumption
    try clear_value x4
    refine Steady.ite ?_ ?_
    · assumption
    · exact raise_steady _ _ (by assumption)
  · refine Steady.ite ?_ ?_
    · exact refuseEntry_steady _ _ (by assumption)
    · refine raise_steady _ _ ?_
      refine Steady.lit ?_ rfl rfl rfl rfl
      assumption

theorem noteDuplicate_steady (s) (h1 : Steady l z s) : Steady l z (noteDuplicate s) := by
  unfold noteDuplicate
  refine raise_steady _ _ ?_
  refine Steady.lit ?_ rfl rfl rfl rfl
  assumption

theorem execMemberTtlExpire_steady (a1 s) (h2 : Steady l z s) : SteadyX l z (execMemberTtlExpire a1 s) := by
  unfold execMemberTtlExpire
  refine SteadyX.next ?_
  refine Steady.ite ?_ ?_
  · refine raise_steady _ _ ?_
    refine Steady.lit ?_ rfl rfl rfl rfl
    assumption
  · assumption

theorem execLldpTransmit_steady (a1 s) (h2 : Steady l z s) : SteadyX l z (execLldpTransmit a1 s) := by
  unfold execLldpTransmit
  refine SteadyX.next ?_
  refine Steady.ite ?_ ?_
  · exact originate_steady _ _ _ _ (by assumption)
  · assumption

theorem lldpShutdown_steady (a1 s) (h2 : Steady l z s) : Steady l z (lldpShutdown a1 s) := by
  unfold lldpShutdown
  refine Steady.ite ?_ ?_
  · exact originate_steady _ _ _ _ (by assumption)
  · assumption

theorem dropNeighbour_steady (a1 a2 s) (h3 : Steady l z s) : Steady l z (dropNeighbour a1 a2 s) := by
  unfold dropNeighbour
  refine Steady.ite ?_ ?_
  · refine raise_steady _ _ ?_
    refine Steady.lit ?_ rfl rfl rfl rfl
    assumption
  · assumption

theorem noteTlv_steady (a1 a2 s) (h3 : Steady l z s) : Steady l z (noteTlv a1 a2 s) := by
  unfold noteTlv
  refine Steady.ite ?_ ?_
  · exact noteDuplicate_steady _ (by assumption)
  · refine Steady.ite ?_ ?_
    · exact noteMember_steady _ _ _ (by assumption)
    · assumption

theorem execLldpduReceive_steady (a1 a2 s) (h3 : Steady l z s) : SteadyX l z (execLldpduReceive a1 a2 s) := by
  unfold execLldpduReceive
  refine SteadyX.ite ?_ ?_
  · exact SteadyX.next (by assumption)
  · refine SteadyX.ite ?_ ?_
    · refine SteadyX.next ?_
      exact dropNeighbour_steady _ _ _ (by assumption)
    · extract_lets -underBinder -merge -useContext +onlyGivenNames x1
      have h2 : Steady l z x1 := by
        unfold x1
        split
        · extract_lets -underBinder -merge -useContext +onlyGivenNames x3 x4
          extract_lets -underBinder -merge -useContext +onlyGivenNames x5 x6
          have h7 : Steady l z x6 := by
            refine Steady.lit ?_ rfl rfl rfl rfl
            assumption
          try clear_value x6
          refine Steady.ite ?_ ?_
          · assumption
          · exact raise_steady _ _ (by assumption)
        · refine Steady.ite ?_ ?_
          · exact refuseEntry_steady _ _ (by assumption)
          · refine raise_steady _ _ ?_
            refine Steady.lit ?_ rfl rfl rfl rfl
            assumption
      try clear_value x1
      refine SteadyX.next ?_
      split
      · exact noteTlv_steady _ _ _ (by assumption)
      · assumption

theorem execLldpTtlExpire_steady (a1 a2 s) (h3 : Steady l z s) : SteadyX l z (execLldpTtlExpire a1 a2 s) := by
  unfold execLldpTtlExpire
  refine SteadyX.next ?_
  exact dropNeighbour_steady _ _ _ (by assumption)

theorem slotDown_steady (a1 s) (h2 : Steady l z s) : Steady l z (slotDown a1 s) := by
  unfold slotDown
  refine Steady.each ?_ fun _ _ _ => ?_
  · assumption
  · exact linkDown_steady _ _ (by assumption)

theorem execOpticsPoll_steady (a1 a2 s) (h3 : Steady l z s) : SteadyX l z (execOpticsPoll a1 a2 s) := by
  unfold execOpticsPoll
  split
  · exact SteadyX.next (by assumption)
  · extract_lets -underBinder -merge -useContext +onlyGivenNames x1
    have h5 : ∀ y2 y3, Steady l z y3 → Steady l z (x1 y2 y3) := by
      intro y2 y3 h4
      unfold x1
      refine Steady.lit ?_ rfl rfl rfl rfl
      assumption
    try clear_value x1
    refine SteadyX.ite ?_ ?_
    · exact SteadyX.next (by assumption)
    · refine SteadyX.ite ?_ ?_
      · extract_lets -underBinder -merge -useContext +onlyGivenNames x6
        extract_lets -underBinder -merge -useContext +onlyGivenNames x7 x8
        extract_lets -underBinder -merge -useContext +onlyGivenNames x9
        have h10 : Steady l z x9 := by
          refine Steady.ite ?_ ?_
          · apply_assumption
            · assumption
          · refine raise_steady _ _ ?_
            apply_assumption
            · assumption
        try clear_value x9
        refine SteadyX.next ?_
        refine Steady.ite ?_ ?_
        · refine slotDown_steady _ _ ?_
          exact raise_steady _ _ (by assumption)
        · assumption
      · refine SteadyX.ite ?_ ?_
        · refine SteadyX.next ?_
          apply_assumption
          · assumption
        · refine SteadyX.ite ?_ ?_
          · exact SteadyX.next (by assumption)
          · refine SteadyX.ite ?_ ?_
            · refine SteadyX.next ?_
              refine slotDown_steady _ _ ?_
              refine raise_steady _ _ ?_
              apply_assumption
              · assumption
            · refine SteadyX.next ?_
              apply_assumption
              · assumption

theorem bodyPtpPortConfig_steady (a1 a2) : SteadyB l (bodyPtpPortConfig a1 a2) := by
  unfold bodyPtpPortConfig
  refine writeBody_steady _ _ _ _ (fun z _ _ => ?_)
  extract_lets -underBinder -merge -useContext +onlyGivenNames x1
  extract_lets -underBinder -merge -useContext +onlyGivenNames x2
  refine bmca_steady _ ?_
  exact setPtpPort_steady _ _ _ (by assumption)

theorem bodyLldpConfig_steady (a1 a2) : SteadyB l (bodyLldpConfig a1 a2) := by
  unfold bodyLldpConfig
  extract_lets -underBinder -merge -useContext +onlyGivenNames x1
  refine SteadyB.mk fun z _ _ => ?_
  extract_lets -underBinder -merge -useContext +onlyGivenNames x2
  refine SteadyA.mk ?_
  refine Steady.lit ?_ rfl rfl rfl rfl
  assumption

theorem bodyDiscoveryRead_steady (a1 a2 a3 a4) : SteadyB l (bodyDiscoveryRead a1 a2 a3 a4) := by
  unfold bodyDiscoveryRead
  exact readBody_steady _ _ _ _

theorem bodyDomainConfig_steady (a1 a2 a3 a4) : SteadyB l (bodyDomainConfig a1 a2 a3 a4) := by
  unfold bodyDomainConfig
  extract_lets -underBinder -merge -useContext +onlyGivenNames x1
  refine writeBody_steady _ _ _ _ (fun z _ _ => ?_)
  refine Steady.lit ?_ rfl rfl rfl rfl
  assumption

theorem bodyOpticsSlotWrite_steady (a1 a2) : SteadyB l (bodyOpticsSlotWrite a1 a2) := by
  unfold bodyOpticsSlotWrite
  refine writeBody_steady _ _ _ _ (fun z _ _ => ?_)
  refine Steady.lit ?_ rfl rfl rfl rfl
  assumption

theorem bodyOpticsStatus_steady (a1) : SteadyB l (bodyOpticsStatus a1) := by
  unfold bodyOpticsStatus
  exact readBody_steady _ _ _ _

end Sys2Proof.Machine
end

