-- ==== Sys2Proof/Laws/Steady/Export.lean ====
section
/-! SUPPORT. What the operations of Machine/Export keep (Laws/Steady). -/

namespace Sys2Proof.Machine

variable {l : Bool × Bool} {z s t : State}

theorem State.setProfile_steady (s1 a2 a3) (h1 : Steady l z s1) : Steady l z (State.setProfile s1 a2 a3) := by
  unfold State.setProfile
  refine Steady.lit ?_ rfl rfl rfl rfl
  assumption

theorem chargeExport_steady (a1 s2) (h2 : Steady l z s2) : SteadyO l z (chargeExport a1 s2) := by
  unfold chargeExport
  refine SteadyO.ite ?_ ?_
  · exact charge_steady _ _ _ _ (by assumption)
  · exact SteadyO.none

theorem stageExport_steady (a1 a2 s3) (h3 : Steady l z s3) : Steady l z (stageExport a1 a2 s3) := by
  unfold stageExport
  split
  · assumption
  · split
    · rename_i v1 v2 q3
      have h4 : Steady l z v2 := by
        refine SteadyO.get q3 ?_
        refine SteadyO.ite ?_ ?_
        · exact chargeExport_steady _ _ (by assumption)
        · exact SteadyO.none
      exact State.setProfile_steady _ _ _ (by assumption)
    · rename_i v5 q6
      exact State.setProfile_steady _ _ _ (by assumption)

theorem queueExport_steady (a1 a2 s3) (h3 : Steady l z s3) : Steady l z (queueExport a1 a2 s3) := by
  unfold queueExport
  split
  · assumption
  · refine Steady.ite ?_ ?_
    · refine raise_steady _ _ ?_
      exact State.setProfile_steady _ _ _ (by assumption)
    · exact stageExport_steady _ _ _ (by assumption)

theorem unstageExports_steady (s1) (h1 : Steady l z s1) : Steady l z (unstageExports s1) := by
  unfold unstageExports
  refine Steady.each ?_ fun _ _ _ => ?_
  · assumption
  · split
    · assumption
    · refine Steady.each ?_ fun _ _ _ => ?_
      · exact State.setProfile_steady _ _ _ (by assumption)
      · exact stageExport_steady _ _ _ (by assumption)

theorem exportRec_steady (a1 a2 s3) (h3 : Steady l z s3) : Steady l z (exportRec a1 a2 s3) := by
  unfold exportRec
  split
  · assumption
  · split
    · assumption
    · refine Steady.ite ?_ ?_
      · assumption
      · refine Steady.ite ?_ ?_
        · exact State.setProfile_steady _ _ _ (by assumption)
        · split
          · exact queueExport_steady _ _ _ (by assumption)
          · refine Steady.ite ?_ ?_
            · refine queueExport_steady _ _ _ ?_
              exact queueExport_steady _ _ _ (by assumption)
            · exact queueExport_steady _ _ _ (by assumption)

theorem execExportMessageFlush_steady (a1 s) (h2 : Steady l z s) : SteadyX l z (execExportMessageFlush a1 s) := by
  unfold execExportMessageFlush
  refine SteadyX.next ?_
  split
  · exact State.setProfile_steady _ _ _ (by assumption)
  · assumption

theorem emitMessage_steady (a1 a2 a3 a4 a5 s6) (h6 : Steady l z s6) : Steady l z (emitMessage a1 a2 a3 a4 a5 s6) := by
  unfold emitMessage
  extract_lets -underBinder -merge -useContext +onlyGivenNames x1
  extract_lets -underBinder -merge -useContext +onlyGivenNames x2
  extract_lets -underBinder -merge -useContext +onlyGivenNames x3
  have h4 : Steady l z x3 := by
    exact originate_steady _ _ _ _ (by assumption)
  try clear_value x3
  extract_lets -underBinder -merge -useContext +onlyGivenNames x5
  have h6 : Steady l z x5 := by
    exact State.setProfile_steady _ _ _ (by assumption)
  try clear_value x5
  refine Steady.lit ?_ rfl rfl rfl rfl
  assumption

theorem execExportMessageSend_steady (a1 a2 s3) (h3 : Steady l z s3) : SteadyX l z (execExportMessageSend a1 a2 s3) := by
  unfold execExportMessageSend
  refine SteadyX.next ?_
  split
  · assumption
  · split
    · assumption
    · extract_lets -underBinder -merge -useContext +onlyGivenNames x1
      extract_lets -underBinder -merge -useContext +onlyGivenNames x2
      refine Steady.ite ?_ ?_
      · refine Steady.ite ?_ ?_
        · assumption
        · exact emitMessage_steady _ _ _ _ _ _ (by assumption)
      · refine Steady.ite ?_ ?_
        · assumption
        · refine Steady.ite ?_ ?_
          · assumption
          · split
            · rename_i v3 q4
              assumption
            · rename_i v5 v6 q7
              have h8 : Steady l z v6 := by
                refine SteadyO.get q7 ?_
                exact chargeExport_steady _ _ (by assumption)
              extract_lets -underBinder -merge -useContext +onlyGivenNames x9
              refine Steady.ite ?_ ?_
              · exact State.setProfile_steady _ _ _ (by assumption)
              · exact emitMessage_steady _ _ _ _ _ _ (by assumption)

theorem execTemplateRefresh_steady (a1 s) (h2 : Steady l z s) : SteadyX l z (execTemplateRefresh a1 s) := by
  unfold execTemplateRefresh
  refine SteadyX.next ?_
  split
  · exact State.setProfile_steady _ _ _ (by assumption)
  · assumption

end Sys2Proof.Machine
end

