-- ==== Sys2Proof/Laws/Steady/FlowEngine.lean ====
section
/-! SUPPORT. What the operations of Machine/FlowEngine keep (Laws/Steady). -/

namespace Sys2Proof.Machine

variable {l : Bool × Bool} {z s t : State}

theorem countSvc_steady (a1 a2 a3 a4 s) (h5 : Steady l z s) : Steady l z (countSvc a1 a2 a3 a4 s) := by
  unfold countSvc
  refine Steady.lit ?_ rfl rfl rfl rfl
  assumption

theorem countStarved_steady (a1 a2 s) (h3 : Steady l z s) : Steady l z (countStarved a1 a2 s) := by
  unfold countStarved
  extract_lets -underBinder -merge -useContext +onlyGivenNames x1
  extract_lets -underBinder -merge -useContext +onlyGivenNames x2
  have h3 : Steady l z x2 := by
    exact State.setRegion_steady _ _ _ (by assumption)
  try clear_value x2
  refine Steady.ite ?_ ?_
  · exact raiseFirst_steady _ _ (by assumption)
  · assumption

theorem countHome_steady (a1 a2 s3) (h3 : Steady l z s3) : Steady l z (countHome a1 a2 s3) := by
  unfold countHome
  split
  · refine Steady.ite ?_ ?_
    · refine Steady.lit ?_ rfl rfl rfl rfl
      assumption
    · assumption
  · assumption

theorem countUnreach_steady (a1 a2 s3) (h3 : Steady l z s3) : Steady l z (countUnreach a1 a2 s3) := by
  unfold countUnreach
  exact countHome_steady _ _ _ (by assumption)

theorem pushOp_steady (a1 a2 s) (h3 : Steady l z s) : Steady l z (pushOp a1 a2 s) := by
  unfold pushOp
  extract_lets -underBinder -merge -useContext +onlyGivenNames x1
  exact State.setRegion_steady _ _ _ (by assumption)

theorem ask_steady (a1 a2 a3 s4) (h4 : Steady l z s4) : SteadyO l z (ask a1 a2 a3 s4) := by
  unfold ask
  split
  · exact SteadyO.none
  · extract_lets -underBinder -merge -useContext +onlyGivenNames x1
    extract_lets -underBinder -merge -useContext +onlyGivenNames x2
    refine SteadyO.ite ?_ ?_
    · refine SteadyO.ite ?_ ?_
      · exact SteadyO.none
      · refine SteadyO.some ?_
        exact pushOp_steady _ _ _ (by assumption)
    · split
      · exact SteadyO.none
      · extract_lets -underBinder -merge -useContext +onlyGivenNames x3
        refine SteadyO.some ?_
        refine sendToSlot_steady _ _ _ ?_
        refine Steady.lit ?_ rfl rfl rfl rfl
        assumption

theorem answer_steady (a1 a2 s3) (h3 : Steady l z s3) : Steady l z (answer a1 a2 s3) := by
  unfold answer
  split
  · extract_lets -underBinder -merge -useContext +onlyGivenNames x1
    refine Steady.ite ?_ ?_
    · exact State.setPipe_steady _ _ _ (by assumption)
    · assumption
  · exact sendToSlot_steady _ _ _ (by assumption)
  · exact countSvc_steady _ _ _ _ _ (by assumption)
  · assumption

theorem endOp_steady (a1 a2 s3) (h3 : Steady l z s3) : Steady l z (endOp a1 a2 s3) := by
  unfold endOp
  exact answer_steady _ _ _ (by assumption)

theorem failOp_steady (a1 a2 a3 s4) (h4 : Steady l z s4) : Steady l z (failOp a1 a2 a3 s4) := by
  unfold failOp
  refine endOp_steady _ _ _ ?_
  exact countStarved_steady _ _ _ (by assumption)

theorem goOn_steady (a1 a2 a3 s4) (h4 : Steady l z s4) : Steady l z (goOn a1 a2 a3 s4) := by
  unfold goOn
  split
  · rename_i v1 v2 q3
    have h4 : Steady l z v2 := by
      refine SteadyO.get q3 ?_
      exact ask_steady _ _ _ _ (by assumption)
    assumption
  · rename_i v5 q6
    refine failOp_steady _ _ _ _ ?_
    exact countUnreach_steady _ _ _ (by assumption)

theorem addHealth_steady (a1 a2 a3 s) (h4 : Steady l z s) : Steady l z (addHealth a1 a2 a3 s) := by
  unfold addHealth
  refine Steady.ite ?_ ?_
  · extract_lets -underBinder -merge -useContext +onlyGivenNames x1
    exact State.setRegion_steady _ _ _ (by assumption)
  · assumption

theorem chainOp_steady (a1 a2 a3 a4 s5) (h5 : Steady l z s5) : Steady l z (chainOp a1 a2 a3 a4 s5) := by
  unfold chainOp
  refine Steady.getD ?_ ?_
  · exact ask_steady _ _ _ _ (by assumption)
  · assumption

theorem failCompanion_steady (a1 a2 a3 s4) (h4 : Steady l z s4) : Steady l z (failCompanion a1 a2 a3 s4) := by
  unfold failCompanion
  split
  · assumption
  · refine chainOp_steady _ _ _ _ _ ?_
    exact countSvc_steady _ _ _ _ _ (by assumption)

theorem chainCompanion_steady (a1 a2 a3 s4) (h4 : Steady l z s4) : Steady l z (chainCompanion a1 a2 a3 s4) := by
  unfold chainCompanion
  split
  · assumption
  · extract_lets -underBinder -merge -useContext +onlyGivenNames x1
    extract_lets -underBinder -merge -useContext +onlyGivenNames x2
    split
    · rename_i v3 v4 q5
      have h6 : Steady l z v4 := by
        refine SteadyO.get q5 ?_
        exact ask_steady _ _ _ _ (by assumption)
      assumption
    · rename_i v7 q8
      refine failCompanion_steady _ _ _ _ ?_
      exact countUnreach_steady _ _ _ (by assumption)

theorem dropCompanion_steady (a1 s2) (h2 : Steady l z s2) : Steady l z (dropCompanion a1 s2) := by
  unfold dropCompanion
  split
  · assumption
  · refine Steady.each ?_ fun _ _ _ => ?_
    · assumption
    · extract_lets -underBinder -merge -useContext +onlyGivenNames x1
      refine Steady.ite ?_ ?_
      · exact pushOp_steady _ _ _ (by assumption)
      · exact chainOp_steady _ _ _ _ _ (by assumption)

theorem State.setNatRing_steady (s1 a2 a3 a4) (h1 : Steady l z s1) : Steady l z (State.setNatRing s1 a2 a3 a4) := by
  unfold State.setNatRing
  refine Steady.lit ?_ rfl rfl rfl rfl
  assumption

theorem returnPort_steady (a1 s) (h2 : Steady l z s) : Steady l z (returnPort a1 s) := by
  unfold returnPort
  refine Steady.ite ?_ ?_
  · extract_lets -underBinder -merge -useContext +onlyGivenNames x1
    extract_lets -underBinder -merge -useContext +onlyGivenNames x2
    exact State.setNatRing_steady _ _ _ _ (by assumption)
  · assumption

theorem leakPort_steady (a1 s) (h2 : Steady l z s) : Steady l z (leakPort a1 s) := by
  unfold leakPort
  refine Steady.ite ?_ ?_
  · extract_lets -underBinder -merge -useContext +onlyGivenNames x1
    extract_lets -underBinder -merge -useContext +onlyGivenNames x2
    exact State.setNatRing_steady _ _ _ _ (by assumption)
  · assumption

theorem tarnEcc_steady (a1 a2 a3 a4 a5 s) (h6 : Steady l z s) : Steady l z (tarnEcc a1 a2 a3 a4 a5 s) := by
  unfold tarnEcc
  extract_lets -underBinder -merge -useContext +onlyGivenNames x1
  split
  · assumption
  · assumption
  · refine Steady.ite ?_ ?_
    · extract_lets -underBinder -merge -useContext +onlyGivenNames x2
      exact State.setTarn_steady _ _ _ _ (by assumption)
    · extract_lets -underBinder -merge -useContext +onlyGivenNames x3
      extract_lets -underBinder -merge -useContext +onlyGivenNames x4
      have h5 : Steady l z x4 := by
        refine raise_steady _ _ ?_
        exact State.setRegion_steady _ _ _ (by assumption)
      try clear_value x4
      refine leakPort_steady _ _ ?_
      exact removeRec_steady _ _ _ _ (by assumption)
  · extract_lets -underBinder -merge -useContext +onlyGivenNames x6
    exact State.setRegion_steady _ _ _ (by assumption)

theorem runHit_steady (a1 a2 a3 a4 a5 s6) (h6 : Steady l z s6) : Steady l z (runHit a1 a2 a3 a4 a5 s6) := by
  unfold runHit
  extract_lets -underBinder -merge -useContext +onlyGivenNames x1
  extract_lets -underBinder -merge -useContext +onlyGivenNames x2
  extract_lets -underBinder -merge -useContext +onlyGivenNames x3
  extract_lets -underBinder -merge -useContext +onlyGivenNames x4
  extract_lets -underBinder -merge -useContext +onlyGivenNames x5
  extract_lets -underBinder -merge -useContext +onlyGivenNames x6
  split
  · rename_i v7 v8 v9 q10
    have h11 : Steady l z v9 := by
      refine SteadyP.get q10 ?_
      exact bringIn_steady _ _ _ _ (by assumption)
    extract_lets -underBinder -merge -useContext +onlyGivenNames x12
    have h13 : SteadyO l z x12 := by
      refine SteadyO.ite ?_ ?_
      · refine SteadyO.some ?_
        assumption
      · exact writeState_steady _ _ _ _ _ (by assumption)
    try clear_value x12
    split
    · exact failOp_steady _ _ _ _ (by assumption)
    · split
      · rename_i v14 q15
        exact failOp_steady _ _ _ _ (by assumption)
      · rename_i v16 v17 q18
        have h19 : Steady l z v17 := by
          refine SteadyO.get q18 ?_
          refine sinterUpdate_steady _ _ _ _ _ _ ?_
          apply_assumption
          rfl
        extract_lets -underBinder -merge -useContext +onlyGivenNames x20
        have h21 : Steady l z x20 := by
          refine Steady.ite ?_ ?_
          · exact countSvc_steady _ _ _ _ _ (by assumption)
          · assumption
        try clear_value x20
        extract_lets -underBinder -merge -useContext +onlyGivenNames x22
        have h23 : Steady l z x22 := by
          refine Steady.getD ?_ ?_
          · refine SteadyO.map fun _ => ?_
            exact addHealth_steady _ _ _ _ (by assumption)
          · assumption
        try clear_value x22
        extract_lets -underBinder -merge -useContext +onlyGivenNames x24
        have h25 : Steady l z x24 := by
          refine Steady.ite ?_ ?_
          · refine chainCompanion_steady _ _ _ _ ?_
            refine dropCompanion_steady _ _ ?_
            exact countSvc_steady _ _ _ _ _ (by assumption)
          · assumption
        try clear_value x24
        split
        · extract_lets -underBinder -merge -useContext +onlyGivenNames x26
          exact endOp_steady _ _ _ (by assumption)

theorem refillCredits_steady (a1 a2 a3 s) (h4 : Steady l z s) : Steady l z (refillCredits a1 a2 a3 s) := by
  unfold refillCredits
  extract_lets -underBinder -merge -useContext +onlyGivenNames x1
  have h2 : Steady l z x1 := by
    exact refillCredit_steady _ _ (by assumption)
  try clear_value x1
  refine Steady.ite ?_ ?_
  · assumption
  · extract_lets -underBinder -merge -useContext +onlyGivenNames x3
    split
    · refine Steady.lit ?_ rfl rfl rfl rfl
      assumption

theorem takeCredits_steady (a1 a2 a3 s) (h4 : Steady l z s) : Steady l z (takeCredits a1 a2 a3 s) := by
  unfold takeCredits
  extract_lets -underBinder -merge -useContext +onlyGivenNames x1
  extract_lets -underBinder -merge -useContext +onlyGivenNames x2
  have h3 : Steady l z x2 := by
    exact State.setRegion_steady _ _ _ (by assumption)
  try clear_value x2
  refine Steady.ite ?_ ?_
  · assumption
  · refine Steady.lit ?_ rfl rfl rfl rfl
    assumption

theorem runMiss_steady (a1 a2 a3 s4) (h4 : Steady l z s4) : Steady l z (runMiss a1 a2 a3 s4) := by
  unfold runMiss
  extract_lets -underBinder -merge -useContext +onlyGivenNames x1
  extract_lets -underBinder -merge -useContext +onlyGivenNames x2
  have h3 : ∀ y4 y5, Steady l z y5 → Steady l z (x2 y4 y5) := by
    intro y4 y5 h6
    unfold x2
    refine Steady.ite ?_ ?_
    · assumption
    · exact countSvc_steady _ _ _ _ _ (by assumption)
  try clear_value x2
  split
  · exact endOp_steady _ _ _ (by assumption)
  · refine Steady.ite ?_ ?_
    · refine endOp_steady _ _ _ ?_
      apply_assumption
      assumption
    · extract_lets -underBinder -merge -useContext +onlyGivenNames x7
      have h8 : Steady l z x7 := by
        exact refillCredits_steady _ _ _ _ (by assumption)
      try clear_value x7
      refine Steady.ite ?_ ?_
      · exact failOp_steady _ _ _ _ (by assumption)
      · extract_lets -underBinder -merge -useContext +onlyGivenNames x9
        split
        · exact failOp_steady _ _ _ _ (by assumption)
        · extract_lets -underBinder -merge -useContext +onlyGivenNames x10
          extract_lets -underBinder -merge -useContext +onlyGivenNames x11
          have h12 : Steady l z x11 := by
            refine Steady.ite ?_ ?_
            · refine raise_steady _ _ ?_
              exact State.setNatRing_steady _ _ _ _ (by assumption)
            · assumption
          try clear_value x11
          refine endOp_steady _ _ _ ?_
          apply_assumption
          assumption
        · extract_lets -underBinder -merge -useContext +onlyGivenNames x13
          split
          · rename_i v14 v15 q16
            exact failOp_steady _ _ _ _ (by assumption)
          · rename_i v17 v18 v19 q20
            have h21 : Steady l z v19 := by
              refine SteadyE.get q20 ?_
              exact createRec_steady _ _ _ _ (by assumption)
            extract_lets -underBinder -merge -useContext +onlyGivenNames x22
            have h23 : Steady l z x22 := by
              exact takeCredits_steady _ _ _ _ (by assumption)
            try clear_value x22
            extract_lets -underBinder -merge -useContext +onlyGivenNames x24
            extract_lets -underBinder -merge -useContext +onlyGivenNames x25
            have h26 : Steady l z x25 := by
              refine Steady.ite ?_ ?_
              · exact State.setNatRing_steady _ _ _ _ (by assumption)
              · assumption
            try clear_value x25
            extract_lets -underBinder -merge -useContext +onlyGivenNames x27
            have h28 : Steady l z x27 := by
              exact countSvc_steady _ _ _ _ _ (by assumption)
            try clear_value x27
            extract_lets -underBinder -merge -useContext +onlyGivenNames x29
            have h30 : Steady l z x29 := by
              refine Steady.ite ?_ ?_
              · exact exportRec_steady _ _ _ (by assumption)
              · assumption
            try clear_value x29
            split
            · refine chainCompanion_steady _ _ _ _ ?_
              exact endOp_steady _ _ _ (by assumption)

theorem runPacket_steady (a1 a2 a3 a4 s5) (h5 : Steady l z s5) : Steady l z (runPacket a1 a2 a3 a4 s5) := by
  unfold runPacket
  extract_lets -underBinder -merge -useContext +onlyGivenNames x1
  split
  · refine Steady.ite ?_ ?_
    · exact runHit_steady _ _ _ _ _ _ (by assumption)
    · extract_lets -underBinder -merge -useContext +onlyGivenNames x2
      extract_lets -underBinder -merge -useContext +onlyGivenNames x3
      refine goOn_steady _ _ _ _ ?_
      refine SteadyP.proj ?_
      exact bringIn_steady _ _ _ _ (by assumption)
  · exact runMiss_steady _ _ _ _ (by assumption)
  · extract_lets -underBinder -merge -useContext +onlyGivenNames x4
    extract_lets -underBinder -merge -useContext +onlyGivenNames x5
    have h6 : Steady l z x5 := by
      exact State.setRegion_steady _ _ _ (by assumption)
    try clear_value x5
    extract_lets -underBinder -merge -useContext +onlyGivenNames x7
    have h8 : Steady l z x7 := by
      exact chainOp_steady _ _ _ _ _ (by assumption)
    try clear_value x7
    exact goOn_steady _ _ _ _ (by assumption)

theorem nextPort_steady (a1 a2 a3 s4) (h4 : Steady l z s4) : SteadyOP l z (nextPort a1 a2 a3 s4) := by
  unfold nextPort
  split
  · rename_i v1 v2 v3 q4
    have h5 : Steady l z v3 := by
      refine SteadyP.get q4 ?_
      exact bringIn_steady _ _ _ _ (by assumption)
    extract_lets -underBinder -merge -useContext +onlyGivenNames x6
    split
    · exact SteadyOP.none
    · refine SteadyOP.ite ?_ ?_
      · exact SteadyOP.none
      · extract_lets -underBinder -merge -useContext +onlyGivenNames x7
        refine SteadyOP.mapSteadyO ?_ fun _ _ => ?_
        · exact writeState_steady _ _ _ _ _ (by assumption)
        · refine SteadyP.mk ?_
          exact State.setNatRing_steady _ _ _ _ (by assumption)

theorem runPort_steady (a1 a2 a3 a4 s5) (h5 : Steady l z s5) : Steady l z (runPort a1 a2 a3 a4 s5) := by
  unfold runPort
  split
  · assumption
  · split
    · rename_i v1 v2 v3 q4
      have h5 : Steady l z v3 := by
        refine SteadyOP.get q4 ?_
        exact nextPort_steady _ _ _ _ (by assumption)
      exact chainCompanion_steady _ _ _ _ (by assumption)
    · rename_i v6 q7
      exact failCompanion_steady _ _ _ _ (by assumption)

theorem runCompanion_steady (a1 a2 a3 a4 a5 s6) (h6 : Steady l z s6) : Steady l z (runCompanion a1 a2 a3 a4 a5 s6) := by
  unfold runCompanion
  extract_lets -underBinder -merge -useContext +onlyGivenNames x1
  extract_lets -underBinder -merge -useContext +onlyGivenNames x2
  have h3 : ∀ y4, Steady l z y4 → Steady l z (x2 y4) := by
    intro y4 h5
    unfold x2
    exact failCompanion_steady _ _ _ _ (by assumption)
  try clear_value x2
  split
  · refine Steady.ite ?_ ?_
    · apply_assumption
      assumption
    · split
      · rename_i v6 v7 q8
        have h9 : Steady l z v7 := by
          refine SteadyO.get q8 ?_
          exact ask_steady _ _ _ _ (by assumption)
        assumption
      · rename_i v10 q11
        apply_assumption
        exact countUnreach_steady _ _ _ (by assumption)
  · extract_lets -underBinder -merge -useContext +onlyGivenNames x12
    extract_lets -underBinder -merge -useContext +onlyGivenNames x13
    have h14 : Steady l z x13 := by
      exact refillCredits_steady _ _ _ _ (by assumption)
    try clear_value x13
    refine Steady.ite ?_ ?_
    · apply_assumption
      assumption
    · extract_lets -underBinder -merge -useContext +onlyGivenNames x15
      split
      · rename_i v16 v17 q18
        apply_assumption
        assumption
      · rename_i v19 v20 v21 q22
        have h23 : Steady l z v21 := by
          refine SteadyE.get q22 ?_
          exact createRec_steady _ _ _ _ (by assumption)
        exact takeCredits_steady _ _ _ _ (by assumption)

theorem removeWhole_steady (a1 a2 a3 a4 s) (h5 : Steady l z s) : Steady l z (removeWhole a1 a2 a3 a4 s) := by
  unfold removeWhole
  extract_lets -underBinder -merge -useContext +onlyGivenNames x1
  have h2 : Steady l z x1 := by
    exact removeRec_steady _ _ _ _ (by assumption)
  try clear_value x1
  refine Steady.ite ?_ ?_
  · assumption
  · extract_lets -underBinder -merge -useContext +onlyGivenNames x3
    have h4 : Steady l z x3 := by
      refine dropCompanion_steady _ _ ?_
      exact returnPort_steady _ _ (by assumption)
    try clear_value x3
    split
    · exact exportRec_steady _ _ _ (by assumption)
    · assumption

theorem park_steady (a1 a2 s) (h3 : Steady l z s) : Steady l z (park a1 a2 s) := by
  unfold park
  extract_lets -underBinder -merge -useContext +onlyGivenNames x1
  exact State.setRegion_steady _ _ _ (by assumption)

theorem deleteStep_steady (a1 a2 a3 a4 s5) (h5 : Steady l z s5) : SteadyL l z (deleteStep a1 a2 a3 a4 s5) := by
  unfold deleteStep
  split
  · assumption
  · refine SteadyL.ite ?_ ?_
    · refine SteadyL.mk ?_
      exact removeWhole_steady _ _ _ _ _ (by assumption)
    · split
      · refine SteadyL.ite ?_ ?_
        · refine SteadyL.mk ?_
          exact removeWhole_steady _ _ _ _ _ (by assumption)
        · refine SteadyL.mk ?_
          exact park_steady _ _ _ (by assumption)
      · extract_lets -underBinder -merge -useContext +onlyGivenNames x1
        have h2 : SteadyO l z x1 := by
          unfold x1
          split
          · refine SteadyO.some ?_
            assumption
          · exact writeDirect_steady _ _ _ _ (by assumption)
        try clear_value x1
        split
        · refine SteadyL.mk ?_
          exact park_steady _ _ _ (by assumption)
        · refine SteadyL.ite ?_ ?_
          · refine SteadyL.mk ?_
            refine park_steady _ _ _ ?_
            apply_assumption
            rfl
          · split
            · refine SteadyL.mk ?_
              refine removeWhole_steady _ _ _ _ _ ?_
              apply_assumption
              rfl
            · refine SteadyL.mk ?_
              apply_assumption
              rfl

theorem runDelete_steady (a1 a2 a3 a4 s5) (h5 : Steady l z s5) : Steady l z (runDelete a1 a2 a3 a4 s5) := by
  unfold runDelete
  split
  · refine Steady.ite ?_ ?_
    · assumption
    · refine SteadyL.proj ?_
      exact deleteStep_steady _ _ _ _ _ (by assumption)
  · assumption

theorem runDrop_steady (a1 a2 a3 a4 s5) (h5 : Steady l z s5) : Steady l z (runDrop a1 a2 a3 a4 s5) := by
  unfold runDrop
  split
  · refine Steady.ite ?_ ?_
    · exact removeWhole_steady _ _ _ _ _ (by assumption)
    · assumption
  · assumption

end Sys2Proof.Machine
end

