-- ==== Sys2Proof/Laws/Steady/FlowWork.lean ====
section
/-! SUPPORT. What the operations of Machine/FlowWork keep (Laws/Steady). -/

namespace Sys2Proof.Machine

variable {l : Bool × Bool} {z s t : State}

theorem updateRec_steady (a1 a2 a3 a4 s5) (h5 : Steady l z s5) : SteadyL l z (updateRec a1 a2 a3 a4 s5) := by
  unfold updateRec
  extract_lets -underBinder -merge -useContext +onlyGivenNames x1
  extract_lets -underBinder -merge -useContext +onlyGivenNames x2
  split
  · rename_i v3 v4 v5 q6
    have h7 : Steady l z v5 := by
      refine SteadyP.get q6 ?_
      exact bringIn_steady _ _ _ _ (by assumption)
    split
    · rename_i v8 v9 q10
      have h11 : Steady l z v9 := by
        refine SteadyO.get q10 ?_
        exact writeState_steady _ _ _ _ _ (by assumption)
      assumption
    · rename_i v12 q13
      assumption

theorem insertRec_steady (a1 a2 a3 s4) (h4 : Steady l z s4) : SteadyL l z (insertRec a1 a2 a3 s4) := by
  unfold insertRec
  extract_lets -underBinder -merge -useContext +onlyGivenNames x1
  extract_lets -underBinder -merge -useContext +onlyGivenNames x2
  extract_lets -underBinder -merge -useContext +onlyGivenNames x3
  refine SteadyL.ite ?_ ?_
  · assumption
  · split
    · rename_i v4 v5 q6
      assumption
    · rename_i v7 v8 v9 q10
      have h11 : Steady l z v9 := by
        refine SteadyE.get q10 ?_
        exact createRec_steady _ _ _ _ (by assumption)
      extract_lets -underBinder -merge -useContext +onlyGivenNames x12
      refine SteadyL.mk ?_
      refine Steady.ite ?_ ?_
      · exact exportRec_steady _ _ _ (by assumption)
      · assumption

theorem putBlock_steady (a1 a2 a3 a4 s5) (h5 : Steady l z s5) : SteadyL l z (putBlock a1 a2 a3 a4 s5) := by
  unfold putBlock
  split
  · refine SteadyL.ite ?_ ?_
    · assumption
    · refine SteadyL.ite ?_ ?_
      · assumption
      · exact updateRec_steady _ _ _ _ _ (by assumption)
  · refine SteadyL.ite ?_ ?_
    · exact insertRec_steady _ _ _ _ (by assumption)
    · assumption

theorem readWork_steady (a1 a2 a3 a4 s5) (h5 : Steady l z s5) : SteadyL l z (readWork a1 a2 a3 a4 s5) := by
  unfold readWork
  split
  · assumption
  · extract_lets -underBinder -merge -useContext +onlyGivenNames x1
    refine SteadyL.ite ?_ ?_
    · extract_lets -underBinder -merge -useContext +onlyGivenNames x2
      refine SteadyL.mk ?_
      exact State.setRegion_steady _ _ _ (by assumption)
    · assumption

theorem deleteWork_steady (a1 a2 a3 s4) (h4 : Steady l z s4) : SteadyL l z (deleteWork a1 a2 a3 s4) := by
  unfold deleteWork
  split
  · rename_i v1 v2 v3 q4
    have h5 : Steady l z v2 := by
      refine SteadyL.get q4 ?_
      exact deleteStep_steady _ _ _ _ _ (by assumption)
    assumption

theorem countWork_steady (a1 a2 a3 s4) (h4 : Steady l z s4) : SteadyL l z (countWork a1 a2 a3 s4) := by
  unfold countWork
  split
  · rename_i v1 v2 v3 q4
    have h5 : Steady l z v2 := by
      refine SteadyL.get q4 ?_
      exact deleteStep_steady _ _ _ _ _ (by assumption)
    assumption

theorem flushWork_steady (a1 a2 a3 a4 a5 s6) (h6 : Steady l z s6) : SteadyL l z (flushWork a1 a2 a3 a4 a5 s6) := by
  unfold flushWork
  split
  · refine SteadyL.ite ?_ ?_
    · exact countWork_steady _ _ _ _ (by assumption)
    · assumption
  · assumption

theorem ageWork_steady (a1 a2 a3 s4) (h4 : Steady l z s4) : Steady l z (ageWork a1 a2 a3 s4) := by
  unfold ageWork
  extract_lets -underBinder -merge -useContext +onlyGivenNames x1
  extract_lets -underBinder -merge -useContext +onlyGivenNames x2
  split
  · assumption
  · refine Steady.ite ?_ ?_
    · refine Steady.ite ?_ ?_
      · exact removeWhole_steady _ _ _ _ _ (by assumption)
      · assumption
    · refine Steady.ite ?_ ?_
      · assumption
      · extract_lets -underBinder -merge -useContext +onlyGivenNames x3
        have h4 : Steady l z x3 := by
          exact settleEntry_steady _ _ _ (by assumption)
        try clear_value x3
        split
        · assumption
        · extract_lets -underBinder -merge -useContext +onlyGivenNames x5
          refine Steady.ite ?_ ?_
          · extract_lets -underBinder -merge -useContext +onlyGivenNames x6
            have h7 : Steady l z x6 := by
              refine Steady.ite ?_ ?_
              · exact addHealth_steady _ _ _ _ (by assumption)
              · assumption
            try clear_value x6
            exact runDelete_steady _ _ _ _ _ (by assumption)
          · split
            · assumption
            · split
              · rename_i v8 v9 v10 q11
                have h12 : Steady l z v10 := by
                  refine SteadyP.get q11 ?_
                  exact bringIn_steady _ _ _ _ (by assumption)
                extract_lets -underBinder -merge -useContext +onlyGivenNames x13
                extract_lets -underBinder -merge -useContext +onlyGivenNames x14
                split
                · rename_i v15 v16 q17
                  have h18 : Steady l z v16 := by
                    refine SteadyO.get q17 ?_
                    exact writeState_steady _ _ _ _ _ (by assumption)
                  exact exportRec_steady _ _ _ (by assumption)
                · rename_i v19 q20
                  assumption

theorem fillWork_steady (a1 a2 a3 a4 a5 s6) (h6 : Steady l z s6) : Steady l z (fillWork a1 a2 a3 a4 a5 s6) := by
  unfold fillWork
  refine Steady.ite ?_ ?_
  · assumption
  · split
    · assumption
    · refine Steady.getD ?_ ?_
      · exact moveRec_steady _ _ _ _ _ (by assumption)
      · exact park_steady _ _ _ (by assumption)

theorem movePath_steady (a1 a2 a3 s) (h4 : Steady l z s) : SteadyO l z (movePath a1 a2 a3 s) := by
  induction a3 generalizing s with
  | nil => exact SteadyO.some h4
  | cons e es ih =>
    obtain ⟨x, l', nb⟩ := e
    unfold movePath
    split
    · exact SteadyO.none
    · exact SteadyO.bindSteadyO (moveRec_steady _ _ _ _ _ h4) fun t h => ih t h

theorem relocateMoves_steady (a1 a2 a3 a4 a5 s6) (h6 : Steady l z s6) : SteadyO l z (relocateMoves a1 a2 a3 a4 a5 s6) := by
  unfold relocateMoves
  split
  · extract_lets -underBinder -merge -useContext +onlyGivenNames x1
    split
    · exact moveRec_steady _ _ _ _ _ (by assumption)
    · refine SteadyO.some ?_
      assumption
  · refine SteadyO.ite ?_ ?_
    · exact SteadyO.none
    · refine SteadyO.bindSteadyO ?_ fun _ _ => ?_
      · exact movePath_steady _ _ _ _ (by assumption)
      · exact moveRec_steady _ _ _ _ _ (by assumption)

theorem relocateWork_steady (a1 a2 a3 a4 a5 s6) (h6 : Steady l z s6) : Steady l z (relocateWork a1 a2 a3 a4 a5 s6) := by
  unfold relocateWork
  refine Steady.ite ?_ ?_
  · assumption
  · refine Steady.getD ?_ ?_
    · exact relocateMoves_steady _ _ _ _ _ _ (by assumption)
    · exact park_steady _ _ _ (by assumption)

theorem doWork_steady (a1 a2 a3 a4 s5) (h5 : Steady l z s5) : SteadyL l z (doWork a1 a2 a3 a4 s5) := by
  unfold doWork
  split
  · exact putBlock_steady _ _ _ _ _ (by assumption)
  · exact readWork_steady _ _ _ _ _ (by assumption)
  · exact deleteWork_steady _ _ _ _ (by assumption)
  · exact flushWork_steady _ _ _ _ _ _ (by assumption)
  · exact countWork_steady _ _ _ _ (by assumption)
  · refine SteadyL.mk ?_
    exact ageWork_steady _ _ _ _ (by assumption)
  · refine SteadyL.mk ?_
    exact fillWork_steady _ _ _ _ _ _ (by assumption)
  · refine SteadyL.mk ?_
    exact relocateWork_steady _ _ _ _ _ _ (by assumption)

theorem submit_steady (a1 a2 a3 a4 s5) (h5 : Steady l z s5) : SteadyL l z (submit a1 a2 a3 a4 s5) := by
  unfold submit
  extract_lets -underBinder -merge -useContext +onlyGivenNames x1
  refine SteadyL.ite ?_ ?_
  · exact doWork_steady _ _ _ _ _ (by assumption)
  · refine SteadyL.mk ?_
    exact pushOp_steady _ _ _ (by assumption)

theorem dropPartition_steady (a1 s2) (h2 : Steady l z s2) : Steady l z (dropPartition a1 s2) := by
  unfold dropPartition
  refine Steady.lit ?_ rfl rfl rfl rfl
  assumption

theorem endPurge_steady (a1 a2 a3 a4 s5) (h5 : Steady l z s5) : Steady l z (endPurge a1 a2 a3 a4 s5) := by
  unfold endPurge
  split
  · refine finish_steady _ _ _ _ _ ?_
    refine dropPartition_steady _ _ ?_
    refine Steady.lit ?_ rfl rfl rfl rfl
    assumption
  · refine Steady.each ?_ fun _ _ _ => ?_
    · refine Steady.lit ?_ rfl rfl rfl rfl
      assumption
    · exact pushOp_steady _ _ _ (by assumption)

theorem endBulk_steady (a1 a2 a3 a4 s5) (h5 : Steady l z s5) : Steady l z (endBulk a1 a2 a3 a4 s5) := by
  unfold endBulk
  split
  · exact State.setItem_steady _ _ _ (by assumption)
  · assumption

theorem endDelayed_steady (a1 a2 a3 s4) (h4 : Steady l z s4) : Steady l z (endDelayed a1 a2 a3 s4) := by
  unfold endDelayed
  split
  · exact endJob_steady _ _ _ _ _ (by assumption)
  · assumption

theorem abandon_steady (a1 s2) (h2 : Steady l z s2) : Steady l z (abandon a1 s2) := by
  unfold abandon
  extract_lets -underBinder -merge -useContext +onlyGivenNames x1
  refine Steady.each ?_ fun _ _ _ => ?_
  · assumption
  · extract_lets -underBinder -merge -useContext +onlyGivenNames x2
    exact State.setRegion_steady _ _ _ (by assumption)

theorem endFlowCmd_steady (a1 a2 a3 s4) (h4 : Steady l z s4) : Steady l z (endFlowCmd a1 a2 a3 s4) := by
  unfold endFlowCmd
  split
  · assumption
  · extract_lets -underBinder -merge -useContext +onlyGivenNames x1
    extract_lets -underBinder -merge -useContext +onlyGivenNames x2
    have h3 : Steady l z x2 := by
      refine Steady.lit ?_ rfl rfl rfl rfl
      assumption
    try clear_value x2
    extract_lets -underBinder -merge -useContext +onlyGivenNames x4
    have h5 : ∀ y6 y7 y8, Steady l z (x4 y6 y7 y8) := by
      intro y6 y7 y8
      unfold x4
      refine Steady.ite ?_ ?_
      · exact auditCommand_steady _ _ _ _ _ _ (by assumption)
      · assumption
    try clear_value x4
    split
    · refine answerFrame_steady _ _ _ _ _ _ _ _ ?_
      apply_assumption
    · refine endDelayed_steady _ _ _ _ ?_
      apply_assumption
    · exact endBulk_steady _ _ _ _ _ (by assumption)
    · extract_lets -underBinder -merge -useContext +onlyGivenNames x9
      refine Steady.ite ?_ ?_
      · refine Steady.lit ?_ rfl rfl rfl rfl
        assumption
      · split
        · exact finish_steady _ _ _ _ _ (by assumption)
        · exact endPurge_steady _ _ _ _ _ (by assumption)

theorem endWork_steady (a1 a2 s3) (h3 : Steady l z s3) : Steady l z (endWork a1 a2 s3) := by
  unfold endWork
  split
  · exact endFlowCmd_steady _ _ _ _ (by assumption)
  · assumption

end Sys2Proof.Machine
end

