-- ==== Sys2Proof/Laws/Steady/FlowAccept.lean ====
section
/-! SUPPORT. What the operations of Machine/FlowAccept keep (Laws/Steady). -/

namespace Sys2Proof.Machine

variable {l : Bool × Bool} {z s t : State}

theorem finalize_steady (a1 a2 s3) (h3 : Steady l z s3) : Steady l z (finalize a1 a2 s3) := by
  unfold finalize
  split
  · refine endOp_steady _ _ _ ?_
    exact endWork_steady _ _ _ (by assumption)
  · split
    · rename_i v1 v2 v3 q4
      have h5 : Steady l z v2 := by
        refine SteadyL.get q4 ?_
        exact doWork_steady _ _ _ _ _ (by assumption)
      exact endWork_steady _ _ _ (by assumption)
  · split
    · exact runPacket_steady _ _ _ _ _ (by assumption)
    · exact runPacket_steady _ _ _ _ _ (by assumption)
    · exact runCompanion_steady _ _ _ _ _ _ (by assumption)
    · exact runPort_steady _ _ _ _ _ (by assumption)
    · exact runDrop_steady _ _ _ _ _ (by assumption)
    · exact runDelete_steady _ _ _ _ _ (by assumption)

theorem runOp_steady (a1 a2 s3) (h3 : Steady l z s3) : Steady l z (runOp a1 a2 s3) := by
  unfold runOp
  split
  · refine Steady.ite ?_ ?_
    · exact park_steady _ _ _ (by assumption)
    · exact finalize_steady _ _ _ (by assumption)

theorem retryWaits_steady (a1 s2) (h2 : Steady l z s2) : Steady l z (retryWaits a1 s2) := by
  unfold retryWaits
  extract_lets -underBinder -merge -useContext +onlyGivenNames x1
  refine Steady.each ?_ fun _ _ _ => ?_
  · assumption
  · extract_lets -underBinder -merge -useContext +onlyGivenNames x2
    refine runOp_steady _ _ _ ?_
    exact State.setRegion_steady _ _ _ (by assumption)

theorem repeatReads_steady (a1 s2) (h2 : Steady l z s2) : Steady l z (repeatReads a1 s2) := by
  unfold repeatReads
  extract_lets -underBinder -merge -useContext +onlyGivenNames x1
  extract_lets -underBinder -merge -useContext +onlyGivenNames x2
  refine Steady.each ?_ fun _ _ _ => ?_
  · exact State.setRegion_steady _ _ _ (by assumption)
  · extract_lets -underBinder -merge -useContext +onlyGivenNames x3
    refine Steady.ite ?_ ?_
    · exact runOp_steady _ _ _ (by assumption)
    · exact pushOp_steady _ _ _ (by assumption)

theorem takeDeferred_steady (a1 s2) (h2 : Steady l z s2) : SteadyP l z (takeDeferred a1 s2) := by
  unfold takeDeferred
  extract_lets -underBinder -merge -useContext +onlyGivenNames x1
  split
  · assumption
  · extract_lets -underBinder -merge -useContext +onlyGivenNames x2
    have h3 : Steady l z x2 := by
      exact State.setRegion_steady _ _ _ (by assumption)
    try clear_value x2
    extract_lets -underBinder -merge -useContext +onlyGivenNames x4
    extract_lets -underBinder -merge -useContext +onlyGivenNames x5
    extract_lets -underBinder -merge -useContext +onlyGivenNames x6
    refine SteadyP.ite ?_ ?_
    · refine SteadyP.mk ?_
      exact countSvc_steady _ _ _ _ _ (by assumption)
    · refine SteadyP.ite ?_ ?_
      · refine SteadyP.mk ?_
        split
        · rename_i v7 v8 q9
          have h10 : Steady l z v8 := by
            refine SteadyO.get q9 ?_
            exact ask_steady _ _ _ _ (by assumption)
          assumption
        · rename_i v11 q12
          refine countSvc_steady _ _ _ _ _ ?_
          refine countStarved_steady _ _ _ ?_
          exact countUnreach_steady _ _ _ (by assumption)
      · assumption

theorem execFlowOpAccept_steady (a1 a2 s3) (h3 : Steady l z s3) : SteadyX l z (execFlowOpAccept a1 a2 s3) := by
  unfold execFlowOpAccept
  refine SteadyX.ite ?_ ?_
  · refine SteadyX.next ?_
    assumption
  · extract_lets -underBinder -merge -useContext +onlyGivenNames x1
    have h2 : Steady l z x1 := by
      refine Steady.ite ?_ ?_
      · split
        · rename_i v3 v4 v5 q6
          have h7 : Steady l z v5 := by
            refine SteadyP.get q6 ?_
            exact takeDeferred_steady _ _ (by assumption)
          exact State.setRegion_steady _ _ _ (by assumption)
        · rename_i v8 v9 q10
          have h11 : Steady l z v9 := by
            refine SteadyP.get q10 ?_
            exact takeDeferred_steady _ _ (by assumption)
          assumption
      · assumption
    try clear_value x1
    refine SteadyX.next ?_
    split
    · assumption
    · extract_lets -underBinder -merge -useContext +onlyGivenNames x12
      extract_lets -underBinder -merge -useContext +onlyGivenNames x13
      extract_lets -underBinder -merge -useContext +onlyGivenNames x14
      have h15 : Steady l z x14 := by
        exact State.setRegion_steady _ _ _ (by assumption)
      try clear_value x14
      extract_lets -underBinder -merge -useContext +onlyGivenNames x16
      have h17 : Steady l z x16 := by
        refine Steady.getD ?_ ?_
        · refine SteadyO.map fun _ => ?_
          exact tarnEcc_steady _ _ _ _ _ _ (by assumption)
        · assumption
      try clear_value x16
      exact runOp_steady _ _ _ (by assumption)

theorem execDeferredOpRun_steady (a1 s2) (h2 : Steady l z s2) : SteadyX l z (execDeferredOpRun a1 s2) := by
  unfold execDeferredOpRun
  refine SteadyX.ite ?_ ?_
  · refine SteadyX.next ?_
    assumption
  · refine SteadyX.next ?_
    split
    · rename_i v1 v2 v3 q4
      have h5 : Steady l z v3 := by
        refine SteadyP.get q4 ?_
        exact takeDeferred_steady _ _ (by assumption)
      refine Steady.ite ?_ ?_
      · exact runOp_steady _ _ _ (by assumption)
      · exact State.setRegion_steady _ _ _ (by assumption)
    · rename_i v6 v7 q8
      have h9 : Steady l z v7 := by
        refine SteadyP.get q8 ?_
        exact takeDeferred_steady _ _ (by assumption)
      assumption

end Sys2Proof.Machine
end

