-- ==== Sys2Proof/Laws/Steady/FlowRows.lean ====
section
/-! SUPPORT. What the operations of Machine/FlowRows keep (Laws/Steady). -/

namespace Sys2Proof.Machine

variable {l : Bool × Bool} {z s t : State}

theorem execSinterIdleWriteback_steady (a1 a2 s) (h3 : Steady l z s) : SteadyX l z (execSinterIdleWriteback a1 a2 s) := by
  unfold execSinterIdleWriteback
  refine SteadyX.next ?_
  exact settleEntry_steady _ _ _ (by assumption)

theorem execSinterLogReplay_steady (a1 a2 s3) (h3 : Steady l z s3) : SteadyX l z (execSinterLogReplay a1 a2 s3) := by
  unfold execSinterLogReplay
  refine SteadyX.next ?_
  split
  · assumption
  · refine Steady.ite ?_ ?_
    · assumption
    · split
      · rename_i v1 q2
        assumption
      · rename_i v3 v4 q5
        have h6 : Steady l z v4 := by
          refine SteadyO.get q5 ?_
          exact chargeReplay_steady _ _ _ (by assumption)
        refine repeatReads_steady _ _ ?_
        refine retryWaits_steady _ _ ?_
        refine Steady.ite ?_ ?_
        · exact loseLogEntry_steady _ _ (by assumption)
        · exact replayOne_steady _ _ (by assumption)

theorem flowAgeVisit_steady (a1 a2 a3 a4 s5) (h5 : Steady l z s5) : Steady l z (flowAgeVisit a1 a2 a3 a4 s5) := by
  unfold flowAgeVisit
  refine SteadyL.proj ?_
  exact submit_steady _ _ _ _ _ (by assumption)

theorem fillBucket_steady (a1 a2 a3 a4 s5) (h5 : Steady l z s5) : Steady l z (fillBucket a1 a2 a3 a4 s5) := by
  unfold fillBucket
  extract_lets -underBinder -merge -useContext +onlyGivenNames x1
  refine Steady.each ?_ fun _ _ _ => ?_
  · assumption
  · refine Steady.ite ?_ ?_
    · assumption
    · refine SteadyL.proj ?_
      exact submit_steady _ _ _ _ _ (by assumption)

theorem startSweep_steady (a1 a2 s) (h3 : Steady l z s) : Steady l z (startSweep a1 a2 s) := by
  unfold startSweep
  extract_lets -underBinder -merge -useContext +onlyGivenNames x1
  refine Steady.lit ?_ rfl rfl rfl rfl
  assumption

theorem execFlowAgingSweepVisit_steady (a1 a2 a3 a4 s) (h5 : Steady l z s) : SteadyX l z (execFlowAgingSweepVisit a1 a2 a3 a4 s) := by
  unfold execFlowAgingSweepVisit
  split
  · exact SteadyX.next (by assumption)
  · refine SteadyX.ite ?_ ?_
    · exact SteadyX.next (by assumption)
    · refine SteadyX.ite ?_ ?_
      · refine SteadyX.next ?_
        split
        · refine Steady.ite ?_ ?_
          · exact flowAgeVisit_steady _ _ _ _ _ (by assumption)
          · assumption
        · assumption
      · refine SteadyX.ite ?_ ?_
        · exact SteadyX.next (by assumption)
        · split
          · exact SteadyX.next (by assumption)
          · rename_i v2 q3
            have h4 : Steady l z v2 := by
              refine SteadyO.get q3 ?_
              exact charge_steady _ _ _ _ (by assumption)
            extract_lets -underBinder -merge -useContext +onlyGivenNames x5
            extract_lets -underBinder -merge -useContext +onlyGivenNames x6
            have h7 : Steady l z x6 := by
              refine Steady.ite ?_ ?_
              · exact startSweep_steady _ _ _ (by assumption)
              · assumption
            try clear_value x6
            extract_lets -underBinder -merge -useContext +onlyGivenNames x8
            extract_lets -underBinder -merge -useContext +onlyGivenNames x9
            have h10 : Steady l z x9 := by
              refine Steady.each ?_ fun _ _ _ => ?_
              · assumption
              · exact flowAgeVisit_steady _ _ _ _ _ (by assumption)
            try clear_value x9
            refine SteadyX.next ?_
            exact fillBucket_steady _ _ _ _ _ (by assumption)

theorem chargeSteps_steady (a1 a2 s) (h : Steady l z s) : SteadyO l z (chargeSteps a1 a2 s) := by
  induction a2 generalizing s with
  | zero => exact charge_steady _ _ _ _ h
  | succ n ih => exact SteadyO.bindSteadyO (charge_steady _ _ _ _ h) fun t h => ih t h

theorem startRelocation_steady (a1 a2 a3 a4 s5) (h5 : Steady l z s5) : SteadyO l z (startRelocation a1 a2 a3 a4 s5) := by
  unfold startRelocation
  extract_lets -underBinder -merge -useContext +onlyGivenNames x1
  refine SteadyO.ite ?_ ?_
  · refine SteadyO.mapSteadyO ?_ fun _ _ => ?_
    · exact chargeSteps_steady _ _ _ (by assumption)
    · exact relocateWork_steady _ _ _ _ _ _ (by assumption)
  · split
    · split
      · exact chargeSteps_steady _ _ _ (by assumption)
      · extract_lets -underBinder -merge -useContext +onlyGivenNames x2
        refine SteadyO.ite ?_ ?_
        · exact SteadyO.none
        · refine SteadyO.mapSteadyO ?_ fun _ _ => ?_
          · exact chargeSteps_steady _ _ _ (by assumption)
          · exact relocateWork_steady _ _ _ _ _ _ (by assumption)

theorem execRelocationJob_steady (a1 s2) (h2 : Steady l z s2) : SteadyX l z (execRelocationJob a1 s2) := by
  unfold execRelocationJob
  split
  · refine SteadyX.next ?_
    assumption
  · extract_lets -underBinder -merge -useContext +onlyGivenNames x1
    extract_lets -underBinder -merge -useContext +onlyGivenNames x2
    have h3 : Steady l z x2 := by
      exact State.setRegion_steady _ _ _ (by assumption)
    try clear_value x2
    refine SteadyX.ite ?_ ?_
    · refine SteadyX.next ?_
      assumption
    · split
      · refine SteadyX.next ?_
        assumption
      · split
        · refine SteadyX.next ?_
          assumption
        · extract_lets -underBinder -merge -useContext +onlyGivenNames x4
          refine SteadyX.ite ?_ ?_
          · refine SteadyX.next ?_
            assumption
          · refine SteadyX.next ?_
            refine Steady.getD ?_ ?_
            · exact startRelocation_steady _ _ _ _ _ (by assumption)
            · assumption

theorem migrateOne_steady (a1 a2 a3 a4 s5) (h5 : Steady l z s5) : SteadyO l z (migrateOne a1 a2 a3 a4 s5) := by
  unfold migrateOne
  split
  · refine SteadyO.some ?_
    assumption
  · extract_lets -underBinder -merge -useContext +onlyGivenNames x1
    extract_lets -underBinder -merge -useContext +onlyGivenNames x2
    extract_lets -underBinder -merge -useContext +onlyGivenNames x3
    split
    · extract_lets -underBinder -merge -useContext +onlyGivenNames x4
      refine SteadyO.some ?_
      exact State.setRegion_steady _ _ _ (by assumption)
    · extract_lets -underBinder -merge -useContext +onlyGivenNames x5
      have h6 : Steady l z x5 := by
        exact dropSinter_steady _ _ _ (by assumption)
      try clear_value x5
      refine SteadyO.ite ?_ ?_
      · extract_lets -underBinder -merge -useContext +onlyGivenNames x7
        have h8 : Steady l z x7 := by
          refine putOvf_steady _ _ _ _ ?_
          exact State.setTarn_steady _ _ _ _ (by assumption)
        try clear_value x7
        extract_lets -underBinder -merge -useContext +onlyGivenNames x9
        refine SteadyO.some ?_
        refine Steady.ite ?_ ?_
        · exact State.setRegion_steady _ _ _ (by assumption)
        · assumption
      · refine SteadyO.ite ?_ ?_
        · exact SteadyO.none
        · refine SteadyO.some ?_
          refine pushWb_steady _ _ _ ?_
          exact State.setTarn_steady _ _ _ _ (by assumption)

theorem execTarnOnlyMigrate_steady (a1 s) (h2 : Steady l z s) : SteadyX l z (execTarnOnlyMigrate a1 s) := by
  unfold execTarnOnlyMigrate
  extract_lets -underBinder -merge -useContext +onlyGivenNames x1
  refine SteadyX.ite ?_ ?_
  · exact SteadyX.next (by assumption)
  · split
    · refine SteadyX.next ?_
      refine raise_steady _ _ ?_
      exact State.setRegion_steady _ _ _ (by assumption)
    · refine SteadyX.ite ?_ ?_
      · exact SteadyX.next (by assumption)
      · split
        · exact SteadyX.next (by assumption)
        · rename_i v3 q4
          have h5 : Steady l z v3 := by
            refine SteadyO.get q4 ?_
            exact migrateOne_steady _ _ _ _ _ (by assumption)
          refine SteadyX.next ?_
          exact State.setRegion_steady _ _ _ (by assumption)

theorem execNatBufferRefill_steady (a1 a2 a3 a4 s) (h5 : Steady l z s) : SteadyX l z (execNatBufferRefill a1 a2 a3 a4 s) := by
  unfold execNatBufferRefill
  split
  · exact SteadyX.next (by assumption)
  · extract_lets -underBinder -merge -useContext +onlyGivenNames x1
    refine SteadyX.ite ?_ ?_
    · exact SteadyX.next (by assumption)
    · refine SteadyX.next ?_
      split
      · assumption
      · rename_i v3 q4
        have h5 : Steady l z v3 := by
          refine SteadyO.get q4 ?_
          exact charge_steady _ _ _ _ (by assumption)
        exact State.setNatRing_steady _ _ _ _ (by assumption)

theorem fillRing_steady (a1 a2 s3) (h3 : Steady l z s3) : Steady l z (fillRing a1 a2 s3) := by
  unfold fillRing
  split
  · assumption
  · extract_lets -underBinder -merge -useContext +onlyGivenNames x1
    extract_lets -underBinder -merge -useContext +onlyGivenNames x2
    extract_lets -underBinder -merge -useContext +onlyGivenNames x3
    refine Steady.ite ?_ ?_
    · assumption
    · split
      · rename_i v4 q5
        assumption
      · rename_i v6 v7 q8
        have h9 : Steady l z v7 := by
          refine SteadyO.get q8 ?_
          exact charge_steady _ _ _ _ (by assumption)
        refine Steady.litMem ?_ (memWrite_wf _ _) rfl rfl
        assumption

theorem execNatRingFill_steady (a1 s2) (h2 : Steady l z s2) : SteadyX l z (execNatRingFill a1 s2) := by
  unfold execNatRingFill
  split
  · refine SteadyX.next ?_
    assumption
  · refine SteadyX.ite ?_ ?_
    · refine SteadyX.next ?_
      assumption
    · extract_lets -underBinder -merge -useContext +onlyGivenNames x1
      have h2 : Steady l z x1 := by
        refine Steady.each ?_ fun _ _ _ => ?_
        · assumption
        · exact fillRing_steady _ _ _ (by assumption)
      try clear_value x1
      refine SteadyX.next ?_
      split
      · assumption
      · refine Steady.ite ?_ ?_
        · assumption
        · extract_lets -underBinder -merge -useContext +onlyGivenNames x3
          extract_lets -underBinder -merge -useContext +onlyGivenNames x4
          have h5 : Steady l z x4 := by
            refine Steady.lit ?_ rfl rfl rfl rfl
            assumption
          try clear_value x4
          split
          · exact finish_steady _ _ _ _ _ (by assumption)
          · assumption

theorem clearHealth_steady (a1 s) (h2 : Steady l z s) : Steady l z (clearHealth a1 s) := by
  unfold clearHealth
  refine Steady.each ?_ fun _ _ _ => ?_
  · assumption
  · extract_lets -underBinder -merge -useContext +onlyGivenNames x1
    exact State.setRegion_steady _ _ _ (by assumption)

theorem execLbHealthPeriod_steady (a1 s) (h2 : Steady l z s) : SteadyX l z (execLbHealthPeriod a1 s) := by
  unfold execLbHealthPeriod
  split
  · exact SteadyX.next (by assumption)
  · extract_lets -underBinder -merge -useContext +onlyGivenNames x1
    extract_lets -underBinder -merge -useContext +onlyGivenNames x2
    extract_lets -underBinder -merge -useContext +onlyGivenNames x3
    extract_lets -underBinder -merge -useContext +onlyGivenNames x4
    extract_lets -underBinder -merge -useContext +onlyGivenNames x5
    extract_lets -underBinder -merge -useContext +onlyGivenNames x6
    extract_lets -underBinder -merge -useContext +onlyGivenNames x7
    extract_lets -underBinder -merge -useContext +onlyGivenNames x8
    have h9 : Steady l z x8 := by
      refine Steady.each ?_ fun _ _ _ => ?_
      · assumption
      · exact clearHealth_steady _ _ (by assumption)
    try clear_value x8
    extract_lets -underBinder -merge -useContext +onlyGivenNames x10
    extract_lets -underBinder -merge -useContext +onlyGivenNames x11
    extract_lets -underBinder -merge -useContext +onlyGivenNames x12 x13
    have h14 : Steady l z x13 := by
      refine Steady.lit ?_ rfl rfl rfl rfl
      assumption
    try clear_value x13
    extract_lets -underBinder -merge -useContext +onlyGivenNames x15
    have h16 : Steady l z x15 := by
      refine Steady.ite ?_ ?_
      · exact raise_steady _ _ (by assumption)
      · assumption
    try clear_value x15
    refine SteadyX.next ?_
    refine Steady.ite ?_ ?_
    · exact raise_steady _ _ (by assumption)
    · assumption

theorem execGroupHomeSwitch_steady (a1 s) (h2 : Steady l z s) : SteadyX l z (execGroupHomeSwitch a1 s) := by
  unfold execGroupHomeSwitch
  split
  · exact SteadyX.next (by assumption)
  · split
    · exact SteadyX.next (by assumption)
    · refine SteadyX.next ?_
      refine Steady.lit ?_ rfl rfl rfl rfl
      assumption

end Sys2Proof.Machine
end

