-- ==== Sys2Proof/Laws/Steady/HbmRows.lean ====
section
/-! SUPPORT. What the operations of Machine/HbmRows keep (Laws/Steady). -/

namespace Sys2Proof.Machine

variable {l : Bool × Bool} {z s t : State}

theorem execHbmBudgetPeriod_steady (s) (h1 : Steady l z s) : SteadyX l z (execHbmBudgetPeriod s) :=
  SteadyX.next <| unstageExports_steady _ <| Steady.each (newPeriod_steady _ h1) fun _ _ h => retryEntries_steady _ _ (retryWaits_steady _ _ h)

theorem acceptWriteBack_steady (a1 s) (h2 : Steady l z s) : Steady l z (acceptWriteBack a1 s) := by
  unfold acceptWriteBack
  extract_lets -underBinder -merge -useContext +onlyGivenNames x1
  split
  · assumption
  · refine Steady.ite ?_ ?_
    · assumption
    · extract_lets -underBinder -merge -useContext +onlyGivenNames x2
      extract_lets -underBinder -merge -useContext +onlyGivenNames x3
      have h4 : Steady l z x3 := by
        exact State.setRegion_steady _ _ _ (by assumption)
      try clear_value x3
      try clear_value x2
      split
      · assumption
      · exact acceptHbm_steady _ _ _ (by assumption)

theorem setBusy_steady (a1 a2 a3 s) (h4 : Steady l z s) : Steady l z (setBusy a1 a2 a3 s) := by
  unfold setBusy
  extract_lets -underBinder -merge -useContext +onlyGivenNames x1
  exact State.setRegion_steady _ _ _ (by assumption)

theorem dropBusy_steady (a1 a2 s) (h3 : Steady l z s) : Steady l z (dropBusy a1 a2 s) := by
  unfold dropBusy
  extract_lets -underBinder -merge -useContext +onlyGivenNames x1
  exact State.setRegion_steady _ _ _ (by assumption)

theorem acceptFlowRead_steady (a1 s) (h2 : Steady l z s) : Steady l z (acceptFlowRead a1 s) := by
  unfold acceptFlowRead
  split
  · assumption
  · refine Steady.ite ?_ ?_
    · assumption
    · refine Steady.ite ?_ ?_
      · refine Steady.ite ?_ ?_
        · refine failOp_steady _ _ _ _ ?_
          refine countRefusal_steady _ _ ?_
          exact dropBusy_steady _ _ _ (by assumption)
        · assumption
      · extract_lets -underBinder -merge -useContext +onlyGivenNames x1
        have h2 : Steady l z x1 := by
          exact setBusy_steady _ _ _ _ (by assumption)
        try clear_value x1
        exact acceptHbm_steady _ _ _ (by assumption)

theorem execHbmRequestAccept_steady (a1 s) (h2 : Steady l z s) : SteadyX l z (execHbmRequestAccept a1 s) := by
  unfold execHbmRequestAccept
  split
  · refine SteadyX.next ?_
    exact acceptWriteBack_steady _ _ (by assumption)
  · refine SteadyX.next ?_
    exact acceptFlowRead_steady _ _ (by assumption)
  · refine SteadyX.ite ?_ ?_
    · exact SteadyX.fault
    · refine SteadyX.next ?_
      refine Steady.ite ?_ ?_
      · assumption
      · exact acceptHbm_steady _ _ _ (by assumption)
  · refine SteadyX.ite ?_ ?_
    · exact SteadyX.fault
    · refine SteadyX.next ?_
      refine Steady.ite ?_ ?_
      · assumption
      · exact acceptHbm_steady _ _ _ (by assumption)

theorem execFrReadRefuse_steady (a1 s) (h2 : Steady l z s) : SteadyX l z (execFrReadRefuse a1 s) := by
  unfold execFrReadRefuse
  refine SteadyX.next ?_
  split
  · assumption
  · extract_lets -underBinder -merge -useContext +onlyGivenNames x1 x2
    have h3 : Steady l z x2 := by
      refine Steady.lit ?_ rfl rfl rfl rfl
      assumption
    try clear_value x2
    split
    · assumption
    · refine failOp_steady _ _ _ _ ?_
      refine countRefusal_steady _ _ ?_
      exact dropBusy_steady _ _ _ (by assumption)

theorem loseBurst_steady (a1 a2 s) (h3 : Steady l z s) : Steady l z (loseBurst a1 a2 s) := by
  unfold loseBurst
  extract_lets -underBinder -merge -useContext +onlyGivenNames x1
  split
  · assumption
  · extract_lets -underBinder -merge -useContext +onlyGivenNames x2
    extract_lets -underBinder -merge -useContext +onlyGivenNames x3
    extract_lets -underBinder -merge -useContext +onlyGivenNames x4
    have h5 : Steady l z x4 := by
      refine Steady.each ?_ fun _ _ _ => ?_
      · assumption
      · extract_lets -underBinder -merge -useContext +onlyGivenNames x6
        extract_lets -underBinder -merge -useContext +onlyGivenNames x7
        have h8 : Steady l z x7 := by
          exact State.setRegion_steady _ _ _ (by assumption)
        try clear_value x7
        refine leakPort_steady _ _ ?_
        exact removeRec_steady _ _ _ _ (by assumption)
    try clear_value x4
    refine Steady.lit ?_ rfl rfl rfl rfl
    assumption

theorem rewriteSlots_steady (a1 a2 s3) (h3 : Steady l z s3) : Steady l z (rewriteSlots a1 a2 s3) := by
  unfold rewriteSlots
  refine Steady.lit ?_ rfl rfl rfl rfl
  assumption

theorem execHbmAccessComplete_steady (a1 a2 a3 s) (h4 : Steady l z s) : SteadyX l z (execHbmAccessComplete a1 a2 a3 s) := by
  unfold execHbmAccessComplete
  extract_lets -underBinder -merge -useContext +onlyGivenNames x1
  split
  · exact SteadyX.next (by assumption)
  · extract_lets -underBinder -merge -useContext +onlyGivenNames x2
    have h3 : Steady l z x2 := by
      exact State.setPc_steady _ _ _ (by assumption)
    try clear_value x2
    extract_lets -underBinder -merge -useContext +onlyGivenNames x4
    extract_lets -underBinder -merge -useContext +onlyGivenNames x5
    extract_lets -underBinder -merge -useContext +onlyGivenNames x6
    split
    · rename_i v7 v8 q9
      have h10 : Steady l z v8 := by
        refine SteadyP.get q9 ?_
        refine SteadyP.ite ?_ ?_
        · exact eccRead_steady _ _ _ _ (by assumption)
        · exact SteadyP.mk (by assumption)
      extract_lets -underBinder -merge -useContext +onlyGivenNames x11
      have h12 : Steady l z x11 := by
        refine Steady.ite ?_ ?_
        · exact loseBurst_steady _ _ _ (by assumption)
        · assumption
      try clear_value x11
      split
      · refine SteadyX.next ?_
        refine Steady.ite ?_ ?_
        · assumption
        · refine Steady.lit ?_ rfl rfl rfl rfl
          assumption
      · split
        · exact SteadyX.next (by assumption)
        · refine SteadyX.next ?_
          refine runOp_steady _ _ _ ?_
          refine Steady.ite ?_ ?_
          · unfold rewriteSlots
            refine Steady.lit ?_ rfl rfl rfl rfl
            exact dropBusy_steady _ _ _ (by assumption)
          · exact dropBusy_steady _ _ _ (by assumption)

theorem execRetireRemapDrained_steady (a1 s2) (h2 : Steady l z s2) : SteadyX l z (execRetireRemapDrained a1 s2) := by
  unfold execRetireRemapDrained
  extract_lets -underBinder -merge -useContext +onlyGivenNames x1
  have h2 : Steady l z x1 := by
    exact moveGranules_steady _ (by assumption)
  try clear_value x1
  refine SteadyX.next ?_
  split
  · rename_i v3 q4
    assumption
  · rename_i v5 v6 v7 q8
    have h9 : Steady l z v7 := by
      refine SteadyOP.get q8 ?_
      exact retireDone_steady _ _ (by assumption)
    exact finish_steady _ _ _ _ _ (by assumption)
  · rename_i v10 v11 q12
    have h13 : Steady l z v11 := by
      refine SteadyOP.get q12 ?_
      exact retireDone_steady _ _ (by assumption)
    assumption

end Sys2Proof.Machine
end

