-- ==== Sys2Proof/Laws/Steady/CmdFlow.lean ====
section
/-! SUPPORT. What the operations of Machine/CmdFlow keep (Laws/Steady). -/

namespace Sys2Proof.Machine

variable {l : Bool × Bool} {z s t : State}

theorem startWork_steady (a1 a2 a3 s4) (h4 : Steady l z s4) : SteadyA l z (startWork a1 a2 a3 s4) := by
  unfold startWork
  split
  · assumption
  · extract_lets -underBinder -merge -useContext +onlyGivenNames x1
    split
    · rename_i v2 v3 v4 v5 q6
      have h7 : Steady l z v3 := by
        refine SteadyL.get q6 ?_
        exact submit_steady _ _ _ _ _ (by assumption)
      assumption
    · rename_i v8 v9 q10
      have h11 : Steady l z v9 := by
        refine SteadyL.get q10 ?_
        exact submit_steady _ _ _ _ _ (by assumption)
      refine SteadyA.mk ?_
      refine Steady.lit ?_ rfl rfl rfl rfl
      assumption

theorem startMany_steady (a1 a2 a3 a4 s5) (h5 : Steady l z s5) : SteadyP3 l z (startMany a1 a2 a3 a4 s5) := by
  unfold startMany
  refine SteadyP3.foldl ?_ fun _ _ _ => ?_
  · assumption
  · split
    · split
      · rename_i v1 v2 v3 v4 q5
        have h6 : Steady l z v2 := by
          refine SteadyL.get q5 ?_
          exact submit_steady _ _ _ _ _ (by assumption)
        assumption
      · rename_i v7 v8 q9
        have h10 : Steady l z v8 := by
          refine SteadyL.get q9 ?_
          exact submit_steady _ _ _ _ _ (by assumption)
        assumption

theorem waitMany_steady (a1 a2 a3 a4 s5) (h5 : Steady l z s5) : Steady l z (waitMany a1 a2 a3 a4 s5) := by
  unfold waitMany
  extract_lets -underBinder -merge -useContext +onlyGivenNames x1
  refine Steady.lit ?_ rfl rfl rfl rfl
  assumption

theorem bodyPartitionCreate_steady (a1 a2) : SteadyB l (bodyPartitionCreate a1 a2) := by
  unfold bodyPartitionCreate
  extract_lets -underBinder -merge -useContext +onlyGivenNames x1
  extract_lets -underBinder -merge -useContext +onlyGivenNames x2
  extract_lets -underBinder -merge -useContext +onlyGivenNames x3
  extract_lets -underBinder -merge -useContext +onlyGivenNames x4
  refine SteadyB.mk fun z _ _ => ?_
  extract_lets -underBinder -merge -useContext +onlyGivenNames x5
  extract_lets -underBinder -merge -useContext +onlyGivenNames x6
  refine SteadyA.mk ?_
  refine Steady.lit ?_ rfl rfl rfl rfl
  assumption

theorem bodyPartitionDelete_steady (a1 a2) : SteadyB l (bodyPartitionDelete a1 a2) := by
  unfold bodyPartitionDelete
  refine SteadyB.mk fun z _ _ => ?_
  split
  · assumption
  · split
    · rename_i v1 v2 v3 v4 q5
      have h6 : Steady l z v4 := by
        refine SteadyP3.get q5 ?_
        exact startMany_steady _ _ _ _ _ (by assumption)
      refine SteadyA.ite ?_ ?_
      · refine SteadyA.mk ?_
        exact dropPartition_steady _ _ (by assumption)
      · refine SteadyA.mk ?_
        exact waitMany_steady _ _ _ _ _ (by assumption)

theorem bodyPartitionRead_steady (a1 a2) : SteadyB l (bodyPartitionRead a1 a2) := by
  unfold bodyPartitionRead
  exact readBody_steady _ _ _ _

theorem bodyFlowInsert_steady (a1 a2) : SteadyB l (bodyFlowInsert a1 a2) := by
  unfold bodyFlowInsert
  refine SteadyB.mk fun z _ _ => ?_
  exact startWork_steady _ _ _ _ (by assumption)

theorem bodyFlowUpdate_steady (a1 a2) : SteadyB l (bodyFlowUpdate a1 a2) := by
  unfold bodyFlowUpdate
  refine SteadyB.mk fun z _ _ => ?_
  exact startWork_steady _ _ _ _ (by assumption)

theorem bodyFlowRead_steady (a1 a2 a3) : SteadyB l (bodyFlowRead a1 a2 a3) := by
  unfold bodyFlowRead
  refine SteadyB.mk fun z _ _ => ?_
  exact startWork_steady _ _ _ _ (by assumption)

theorem bodyFlowDelete_steady (a1 a2) : SteadyB l (bodyFlowDelete a1 a2) := by
  unfold bodyFlowDelete
  refine SteadyB.mk fun z _ _ => ?_
  exact startWork_steady _ _ _ _ (by assumption)

theorem bodyFlowSearchNext_steady (a1 a2) : SteadyB l (bodyFlowSearchNext a1 a2) := by
  unfold bodyFlowSearchNext
  exact readBody_steady _ _ _ _

theorem bodyFlowFlush_steady (a1 a2) : SteadyB l (bodyFlowFlush a1 a2) := by
  unfold bodyFlowFlush
  refine SteadyB.mk fun z _ _ => ?_
  split
  · assumption
  · extract_lets -underBinder -merge -useContext +onlyGivenNames x1
    split
    · rename_i v2 v3 v4 v5 q6
      have h7 : Steady l z v5 := by
        refine SteadyP3.get q6 ?_
        exact startMany_steady _ _ _ _ _ (by assumption)
      refine SteadyA.ite ?_ ?_
      · assumption
      · refine SteadyA.mk ?_
        exact waitMany_steady _ _ _ _ _ (by assumption)

theorem bodyAgeClassWrite_steady (a1 a2 a3) : SteadyB l (bodyAgeClassWrite a1 a2 a3) := by
  unfold bodyAgeClassWrite
  extract_lets -underBinder -merge -useContext +onlyGivenNames x1
  refine writeBody_steady _ _ _ _ (fun z _ _ => ?_)
  refine Steady.lit ?_ rfl rfl rfl rfl
  assumption

theorem bodySweepConfig_steady (a1 a2 a3) : SteadyB l (bodySweepConfig a1 a2 a3) := by
  unfold bodySweepConfig
  extract_lets -underBinder -merge -useContext +onlyGivenNames x1
  refine writeBody_steady _ _ _ _ (fun z _ _ => ?_)
  split
  · assumption
  · refine Steady.lit ?_ rfl rfl rfl rfl
    assumption

theorem bodyFlowTableStatus_steady (a1) : SteadyB l (bodyFlowTableStatus a1) := by
  unfold bodyFlowTableStatus
  exact readBody_steady _ _ _ _

theorem bodyFlowTemplateWrite_steady (a1 a2) : SteadyB l (bodyFlowTemplateWrite a1 a2) := by
  unfold bodyFlowTemplateWrite
  refine writeBody_steady _ _ _ _ (fun z _ _ => ?_)
  refine Steady.lit ?_ rfl rfl rfl rfl
  assumption

theorem bodyFlowTemplateRead_steady (a1 a2) : SteadyB l (bodyFlowTemplateRead a1 a2) := by
  unfold bodyFlowTemplateRead
  exact readBody_steady _ _ _ _

theorem endFill_steady (a1 s) (h2 : Steady l z s) : Steady l z (endFill a1 s) := by
  unfold endFill
  split
  · exact finish_steady _ _ _ _ _ (by assumption)
  · assumption

theorem clearRings_steady (a1 s) (h2 : Steady l z s) : Steady l z (clearRings a1 s) := by
  unfold clearRings
  refine Steady.each ?_ fun _ _ _ => ?_
  · assumption
  · refine Steady.lit ?_ rfl rfl rfl rfl
    assumption

theorem bodyNatPoolWrite_steady (a1 a2) : SteadyB l (bodyNatPoolWrite a1 a2) := by
  unfold bodyNatPoolWrite
  refine SteadyB.mk fun z _ _ => ?_
  extract_lets -underBinder -merge -useContext +onlyGivenNames x1
  extract_lets -underBinder -merge -useContext +onlyGivenNames x2
  extract_lets -underBinder -merge -useContext +onlyGivenNames x3
  have h4 : Steady l z x3 := by
    refine clearRings_steady _ _ ?_
    exact endFill_steady _ _ (by assumption)
  try clear_value x3
  refine SteadyA.mk ?_
  refine Steady.lit ?_ rfl rfl rfl rfl
  assumption

theorem bodyNatPoolAddrWrite_steady (a1 a2) : SteadyB l (bodyNatPoolAddrWrite a1 a2) := by
  unfold bodyNatPoolAddrWrite
  refine SteadyB.mk fun z _ _ => ?_
  split
  · exact SteadyA.mk (by assumption)
  · extract_lets -underBinder -merge -useContext +onlyGivenNames x1
    refine SteadyA.mk ?_
    refine Steady.lit ?_ rfl rfl rfl rfl
    assumption

theorem bodyNatPoolDelete_steady (a1 a2) : SteadyB l (bodyNatPoolDelete a1 a2) := by
  unfold bodyNatPoolDelete
  refine writeBody_steady _ _ _ _ (fun z _ _ => ?_)
  extract_lets -underBinder -merge -useContext +onlyGivenNames x1
  have h2 : Steady l z x1 := by
    refine clearRings_steady _ _ ?_
    exact endFill_steady _ _ (by assumption)
  try clear_value x1
  refine Steady.lit ?_ rfl rfl rfl rfl
  assumption

theorem bodyNatPoolStatus_steady (a1 a2) : SteadyB l (bodyNatPoolStatus a1 a2) := by
  unfold bodyNatPoolStatus
  exact readBody_steady _ _ _ _

theorem bodyLbPoolWrite_steady (a1 a2) : SteadyB l (bodyLbPoolWrite a1 a2) := by
  unfold bodyLbPoolWrite
  extract_lets -underBinder -merge -useContext +onlyGivenNames x1
  extract_lets -underBinder -merge -useContext +onlyGivenNames x2
  extract_lets -underBinder -merge -useContext +onlyGivenNames x3
  extract_lets -underBinder -merge -useContext +onlyGivenNames x4
  extract_lets -underBinder -merge -useContext +onlyGivenNames x5
  refine writeBody_steady _ _ _ _ (fun z _ _ => ?_)
  extract_lets -underBinder -merge -useContext +onlyGivenNames x6
  refine Steady.lit ?_ rfl rfl rfl rfl
  assumption

theorem leaveMember_steady (a1 s2) (h2 : Steady l z s2) : Steady l z (leaveMember a1 s2) := by
  unfold leaveMember
  split
  · assumption
  · refine Steady.ite ?_ ?_
    · assumption
    · refine clearHealth_steady _ _ ?_
      refine Steady.lit ?_ rfl rfl rfl rfl
      assumption

theorem bodyLbBackendWrite_steady (a1 a2) : SteadyB l (bodyLbBackendWrite a1 a2) := by
  unfold bodyLbBackendWrite
  refine writeBody_steady _ _ _ _ (fun _ _ _ => ?_)
  extract_lets -underBinder -merge -useContext +onlyGivenNames x1
  refine Steady.lit ?_ rfl rfl rfl rfl
  exact leaveMember_steady _ _ (by assumption)

theorem bodyLbPoolCommit_steady (a1 a2) : SteadyB l (bodyLbPoolCommit a1 a2) := by
  unfold bodyLbPoolCommit
  refine writeBody_steady _ _ _ _ (fun z _ _ => ?_)
  split
  · assumption
  · extract_lets -underBinder -merge -useContext +onlyGivenNames x1
    extract_lets -underBinder -merge -useContext +onlyGivenNames x2
    refine Steady.lit ?_ rfl rfl rfl rfl
    assumption

theorem bodyLbPoolRead_steady (a1 a2) : SteadyB l (bodyLbPoolRead a1 a2) := by
  unfold bodyLbPoolRead
  exact readBody_steady _ _ _ _

theorem bodyGroupHomeWrite_steady (a1 a2) : SteadyB l (bodyGroupHomeWrite a1 a2) := by
  unfold bodyGroupHomeWrite
  refine SteadyB.mk fun z _ _ => ?_
  split
  · exact SteadyA.mk (by assumption)
  · refine SteadyA.mk ?_
    refine Steady.lit ?_ rfl rfl rfl rfl
    assumption

theorem bodyExportProfileWrite_steady (a1 a2) : SteadyB l (bodyExportProfileWrite a1 a2) := by
  unfold bodyExportProfileWrite
  extract_lets -underBinder -merge -useContext +onlyGivenNames x1
  extract_lets -underBinder -merge -useContext +onlyGivenNames x2
  extract_lets -underBinder -merge -useContext +onlyGivenNames x3
  refine writeBody_steady _ _ _ _ (fun z _ _ => ?_)
  extract_lets -underBinder -merge -useContext +onlyGivenNames x4
  extract_lets -underBinder -merge -useContext +onlyGivenNames x5
  exact State.setProfile_steady _ _ _ (by assumption)

theorem bodyExportStatus_steady (a1 a2) : SteadyB l (bodyExportStatus a1 a2) := by
  unfold bodyExportStatus
  exact readBody_steady _ _ _ _

theorem bodyServiceCountersRead_steady (a1 a2 a3) : SteadyB l (bodyServiceCountersRead a1 a2 a3) := by
  unfold bodyServiceCountersRead
  exact readBody_steady _ _ _ _

end Sys2Proof.Machine
end

