-- ==== Sys2Proof/Laws/Steady/Learning.lean ====
section
/-! SUPPORT. What the operations of Machine/Learning keep (Laws/Steady). -/

namespace Sys2Proof.Machine

variable {l : Bool × Bool} {z s t : State}

theorem sendRecord_steady (a1 a2 a3 s) (h4 : Steady l z s) : Steady l z (sendRecord a1 a2 a3 s) := by
  unfold sendRecord
  refine Steady.ite ?_ ?_
  · refine Steady.lit ?_ rfl rfl rfl rfl
    assumption
  · assumption

theorem deleteMac_steady (a1 a2 s3) (h3 : Steady l z s3) : Steady l z (deleteMac a1 a2 s3) := by
  unfold deleteMac
  extract_lets -underBinder -merge -useContext +onlyGivenNames x1
  have h2 : Steady l z x1 := by
    exact beginUpdate_steady _ (by assumption)
  try clear_value x1
  extract_lets -underBinder -merge -useContext +onlyGivenNames x3
  extract_lets -underBinder -merge -useContext +onlyGivenNames x4
  have h5 : Steady l z x4 := by
    refine Steady.lit ?_ rfl rfl rfl rfl
    assumption
  try clear_value x4
  exact sendRecord_steady _ _ _ _ (by assumption)

theorem trackMove_steady (a1 a2 s) (h3 : Steady l z s) : SteadyP l z (trackMove a1 a2 s) := by
  unfold trackMove
  extract_lets -underBinder -merge -useContext +onlyGivenNames x1
  have h4 : ∀ y2, Steady l z y2 → Steady l z (x1 y2) := by
    intro y2 h3
    unfold x1
    refine Steady.ite ?_ ?_
    · refine Steady.lit ?_ rfl rfl rfl rfl
      assumption
    · exact count5_steady _ _ (by assumption)
  try clear_value x1
  split
  · refine SteadyP.mk ?_
    apply_assumption
    · assumption
  · refine SteadyP.ite ?_ ?_
    · refine SteadyP.mk ?_
      apply_assumption
      · refine Steady.lit ?_ rfl rfl rfl rfl
        assumption
    · refine SteadyP.ite ?_ ?_
      · exact SteadyP.mk (by assumption)
      · refine SteadyP.mk ?_
        refine Steady.lit ?_ rfl rfl rfl rfl
        assumption

theorem moveEntry_steady (a1 a2 a3 s4) (h4 : Steady l z s4) : Steady l z (moveEntry a1 a2 a3 s4) := by
  unfold moveEntry
  refine Steady.ite ?_ ?_
  · exact count5_steady _ _ (by assumption)
  · split
    · rename_i v1 v2 v3 q4
      have h5 : Steady l z v3 := by
        refine SteadyP.get q4 ?_
        exact trackMove_steady _ _ _ (by assumption)
      refine Steady.ite ?_ ?_
      · refine raise_steady _ _ ?_
        refine count5_steady _ _ ?_
        exact putMac_steady _ _ _ (by assumption)
      · refine sendRecord_steady _ _ _ _ ?_
        refine count5_steady _ _ ?_
        exact putMac_steady _ _ _ (by assumption)

theorem countUnsync_steady (a1 s) (h2 : Steady l z s) : Steady l z (countUnsync a1 s) := by
  unfold countUnsync
  refine Steady.ite ?_ ?_
  · exact count5_steady _ _ (by assumption)
  · assumption

theorem applyLocal_steady (a1 s2) (h2 : Steady l z s2) : Steady l z (applyLocal a1 s2) := by
  unfold applyLocal
  extract_lets -underBinder -merge -useContext +onlyGivenNames x1
  split
  · split
    · rename_i v2 v3 q4
      have h5 : Steady l z v3 := by
        refine SteadyO.get q4 ?_
        exact insertMac_steady _ _ (by assumption)
      exact sendRecord_steady _ _ _ _ (by assumption)
    · rename_i v6 q7
      exact count5_steady _ _ (by assumption)
  · extract_lets -underBinder -merge -useContext +onlyGivenNames x8
    extract_lets -underBinder -merge -useContext +onlyGivenNames x9
    refine Steady.ite ?_ ?_
    · refine Steady.ite ?_ ?_
      · assumption
      · exact count5_steady _ _ (by assumption)
    · refine Steady.ite ?_ ?_
      · split
        · refine moveEntry_steady _ _ _ _ ?_
          exact countUnsync_steady _ _ (by assumption)
        · refine sendRecord_steady _ _ _ _ ?_
          refine count5_steady _ _ ?_
          exact putMac_steady _ _ _ (by assumption)
        · exact count5_steady _ _ (by assumption)
        · exact count5_steady _ _ (by assumption)
      · refine Steady.ite ?_ ?_
        · refine Steady.ite ?_ ?_
          · assumption
          · exact putMac_steady _ _ _ (by assumption)
        · exact moveEntry_steady _ _ _ _ (by assumption)

theorem unfilter_steady (a1 s) (h2 : Steady l z s) : Steady l z (unfilter a1 s) := by
  unfold unfilter
  extract_lets -underBinder -merge -useContext +onlyGivenNames x1
  exact State.setPipe_steady _ _ _ (by assumption)

theorem applyEvent_steady (a1 s) (h2 : Steady l z s) : Steady l z (applyEvent a1 s) := by
  unfold applyEvent
  refine unfilter_steady _ _ ?_
  exact applyLocal_steady _ _ (by assumption)

theorem settleLearning_steady (s) (h1 : Steady l z s) : Steady l z (settleLearning s) := by
  unfold settleLearning
  refine Steady.each ?_ fun _ _ _ => ?_
  · refine Steady.lit ?_ rfl rfl rfl rfl
    assumption
  · exact applyEvent_steady _ _ (by assumption)

theorem acceptEvent_steady (a1 s) (h2 : Steady l z s) : Steady l z (acceptEvent a1 s) := by
  unfold acceptEvent
  refine Steady.ite ?_ ?_
  · refine unfilter_steady _ _ ?_
    refine raise_steady _ _ ?_
    exact count5_steady _ _ (by assumption)
  · refine Steady.lit ?_ rfl rfl rfl rfl
    assumption

theorem issueEvent_steady (a1 s) (h2 : Steady l z s) : Steady l z (issueEvent a1 s) := by
  unfold issueEvent
  extract_lets -underBinder -merge -useContext +onlyGivenNames x1
  extract_lets -underBinder -merge -useContext +onlyGivenNames x2
  refine Steady.ite ?_ ?_
  · assumption
  · refine acceptEvent_steady _ _ ?_
    refine Steady.ite ?_ ?_
    · exact State.setPipe_steady _ _ _ (by assumption)
    · assumption

theorem notifyEvent_steady (a1 s) (h2 : Steady l z s) : Steady l z (notifyEvent a1 s) := by
  unfold notifyEvent
  refine raise_steady _ _ ?_
  refine Steady.ite ?_ ?_
  · refine Steady.lit ?_ rfl rfl rfl rfl
    assumption
  · assumption

theorem execLearnEventApply_steady (s) (h1 : Steady l z s) : SteadyX l z (execLearnEventApply s) := by
  unfold execLearnEventApply
  refine SteadyX.next ?_
  split
  · assumption
  · refine Steady.ite ?_ ?_
    · refine applyEvent_steady _ _ ?_
      refine Steady.lit ?_ rfl rfl rfl rfl
      assumption
    · assumption

theorem execFlapWindowExpire_steady (a1 a2 s) (h3 : Steady l z s) : SteadyX l z (execFlapWindowExpire a1 a2 s) := by
  unfold execFlapWindowExpire
  extract_lets -underBinder -merge -useContext +onlyGivenNames x1
  refine SteadyX.next ?_
  refine Steady.ite ?_ ?_
  · assumption
  · refine Steady.lit ?_ rfl rfl rfl rfl
    assumption

theorem unpin_steady (a1 a2 s) (h3 : Steady l z s) : Steady l z (unpin a1 a2 s) := by
  unfold unpin
  split
  · refine Steady.ite ?_ ?_
    · extract_lets -underBinder -merge -useContext +onlyGivenNames x1
      have h2 : Steady l z x1 := by
        exact putMac_steady _ _ _ (by assumption)
      try clear_value x1
      refine Steady.lit ?_ rfl rfl rfl rfl
      assumption
    · assumption
  · assumption

theorem execPinHoldExpire_steady (a1 a2 s) (h3 : Steady l z s) : SteadyX l z (execPinHoldExpire a1 a2 s) := by
  unfold execPinHoldExpire
  refine SteadyX.next ?_
  exact unpin_steady _ _ _ (by assumption)

theorem ageVisit_steady (a1 a2 s) (h3 : Steady l z s) : Steady l z (ageVisit a1 a2 s) := by
  unfold ageVisit
  refine Steady.ite ?_ ?_
  · assumption
  · refine Steady.ite ?_ ?_
    · extract_lets -underBinder -merge -useContext +onlyGivenNames x1
      refine sendRecord_steady _ _ _ _ ?_
      exact putMac_steady _ _ _ (by assumption)
    · refine Steady.ite ?_ ?_
      · exact deleteMac_steady _ _ _ (by assumption)
      · exact putMac_steady _ _ _ (by assumption)

theorem execMacAgingVisit_steady (a1 s) (h2 : Steady l z s) : SteadyX l z (execMacAgingVisit a1 s) := by
  unfold execMacAgingVisit
  extract_lets -underBinder -merge -useContext +onlyGivenNames x1
  have h2 : Steady l z x1 := by
    exact settleLearning_steady _ (by assumption)
  try clear_value x1
  refine SteadyX.next ?_
  split
  · exact ageVisit_steady _ _ _ (by assumption)
  · assumption

theorem execLpmNodeFree_steady (s) (h1 : Steady l z s) : SteadyX l z (execLpmNodeFree s) := by
  unfold execLpmNodeFree
  refine SteadyX.next ?_
  refine Steady.lit ?_ rfl rfl rfl rfl
  assumption

theorem lostConflict_steady (a1 s) (h2 : Steady l z s) : Steady l z (lostConflict a1 s) := by
  unfold lostConflict
  refine Steady.ite ?_ ?_
  · assumption
  · refine raise_steady _ _ ?_
    exact count5_steady _ _ (by assumption)

theorem applyRecord_steady (a1 a2 s3) (h3 : Steady l z s3) : Steady l z (applyRecord a1 a2 s3) := by
  unfold applyRecord
  extract_lets -underBinder -merge -useContext +onlyGivenNames x1
  split
  · refine Steady.getD ?_ ?_
    · exact insertMac_steady _ _ (by assumption)
    · exact count5_steady _ _ (by assumption)
  · extract_lets -underBinder -merge -useContext +onlyGivenNames x2
    refine Steady.ite ?_ ?_
    · refine Steady.ite ?_ ?_
      · assumption
      · exact count5_steady _ _ (by assumption)
    · refine Steady.ite ?_ ?_
      · refine Steady.ite ?_ ?_
        · exact count5_steady _ _ (by assumption)
        · refine Steady.ite ?_ ?_
          · exact putMac_steady _ _ _ (by assumption)
          · exact moveEntry_steady _ _ _ _ (by assumption)
      · split
        · refine moveEntry_steady _ _ _ _ ?_
          exact countUnsync_steady _ _ (by assumption)
        · refine lostConflict_steady _ _ ?_
          refine count5_steady _ _ ?_
          exact putMac_steady _ _ _ (by assumption)
        · exact count5_steady _ _ (by assumption)
        · extract_lets -underBinder -merge -useContext +onlyGivenNames x3
          have h4 : Steady l z x3 := by
            exact count5_steady _ _ (by assumption)
          try clear_value x3
          refine Steady.ite ?_ ?_
          · assumption
          · refine Steady.lit ?_ rfl rfl rfl rfl
            assumption

theorem applyWithdraw_steady (a1 s) (h2 : Steady l z s) : Steady l z (applyWithdraw a1 s) := by
  unfold applyWithdraw
  split
  · assumption
  · refine Steady.ite ?_ ?_
    · assumption
    · refine Steady.ite ?_ ?_
      · exact count5_steady _ _ (by assumption)
      · exact deleteMac_steady _ _ _ (by assumption)

theorem noteSeq_steady (a1 s) (h2 : Steady l z s) : Steady l z (noteSeq a1 s) := by
  unfold noteSeq
  extract_lets -underBinder -merge -useContext +onlyGivenNames x1
  extract_lets -underBinder -merge -useContext +onlyGivenNames x2 x3
  have h4 : Steady l z x3 := by
    refine Steady.lit ?_ rfl rfl rfl rfl
    assumption
  try clear_value x3
  refine Steady.ite ?_ ?_
  · refine raise_steady _ _ ?_
    exact count5_steady _ _ (by assumption)
  · assumption

theorem takeMessageRecords_steady (a1 a2 s3) (h3 : Steady l z s3) : Steady l z (takeMessageRecords a1 a2 s3) := by
  unfold takeMessageRecords
  refine Steady.ite ?_ ?_
  · exact noteDuplicate_steady _ (by assumption)
  · refine Steady.ite ?_ ?_
    · assumption
    · extract_lets -underBinder -merge -useContext +onlyGivenNames x1
      have h2 : Steady l z x1 := by
        refine noteSeq_steady _ _ ?_
        refine noteMember_steady _ _ _ ?_
        exact settleLearning_steady _ (by assumption)
      try clear_value x1
      extract_lets -underBinder -merge -useContext +onlyGivenNames x3
      have h4 : Steady l z x3 := by
        unfold x3
        split
        · refine Steady.lit ?_ rfl rfl rfl rfl
          assumption
        · assumption
      try clear_value x3
      refine Steady.each ?_ fun _ _ _ => ?_
      · assumption
      · refine Steady.ite ?_ ?_
        · exact applyWithdraw_steady _ _ (by assumption)
        · exact applyRecord_steady _ _ _ (by assumption)

theorem bodyLearnMessage_steady (a1 a2) : SteadyB l (bodyLearnMessage a1 a2) := by
  unfold bodyLearnMessage
  refine SteadyB.mk fun z _ _ => ?_
  refine SteadyA.mk ?_
  exact takeMessageRecords_steady _ _ _ (by assumption)

theorem execLearnMessageSend_steady (s) (h1 : Steady l z s) : SteadyX l z (execLearnMessageSend s) := by
  unfold execLearnMessageSend
  split
  · exact SteadyX.next (by assumption)
  · refine SteadyX.ite ?_ ?_
    · exact SteadyX.next (by assumption)
    · extract_lets -underBinder -merge -useContext +onlyGivenNames x1
      extract_lets -underBinder -merge -useContext +onlyGivenNames x2
      extract_lets -underBinder -merge -useContext +onlyGivenNames x3
      extract_lets -underBinder -merge -useContext +onlyGivenNames x4
      extract_lets -underBinder -merge -useContext +onlyGivenNames x5 x6
      have h7 : Steady l z x6 := by
        refine Steady.lit ?_ rfl rfl rfl rfl
        assumption
      try clear_value x6
      extract_lets -underBinder -merge -useContext +onlyGivenNames x8
      have h9 : Steady l z x8 := by
        refine Steady.each ?_ fun _ _ _ => ?_
        · assumption
        · exact Steady.each (by assumption) fun _ _ h => sendToSlot_steady _ _ _ h
      try clear_value x8
      extract_lets -underBinder -merge -useContext +onlyGivenNames x10
      refine SteadyX.next ?_
      refine Steady.ite ?_ ?_
      · refine Steady.each ?_ fun _ _ _ => ?_
        · assumption
        · exact originate_steady _ _ _ _ (by assumption)
      · assumption

theorem flushMac_steady (a1 s) (h2 : Steady l z s) : SteadyP l z (flushMac a1 s) := by
  unfold flushMac
  extract_lets -underBinder -merge -useContext +onlyGivenNames x1
  extract_lets -underBinder -merge -useContext +onlyGivenNames x2
  refine SteadyP.mk ?_
  refine Steady.each ?_ fun _ _ _ => ?_
  · assumption
  · exact deleteMac_steady _ _ _ (by assumption)

end Sys2Proof.Machine
end

