-- ==== Sys2Proof/Laws/Steady/CmdForward.lean ====
section
/-! SUPPORT. What the operations of Machine/CmdForward keep (Laws/Steady). -/

namespace Sys2Proof.Machine

variable {l : Bool × Bool} {z s t : State}

theorem bodyVlanWrite_steady (a1 a2 a3) : SteadyB l (bodyVlanWrite a1 a2 a3) := by
  unfold bodyVlanWrite
  refine writeBody_steady _ _ _ _ (fun z _ _ => ?_)
  refine Steady.lit ?_ rfl rfl rfl rfl
  assumption

theorem bodyPortL2Write_steady (a1 a2 a3 a4) : SteadyB l (bodyPortL2Write a1 a2 a3 a4) := by
  unfold bodyPortL2Write
  refine writeBody_steady _ _ _ _ (fun z _ _ => ?_)
  split
  · refine Steady.lit ?_ rfl rfl rfl rfl
    assumption
  · assumption

theorem bodyL2TableConfig_steady (a1 a2) : SteadyB l (bodyL2TableConfig a1 a2) := by
  unfold bodyL2TableConfig
  extract_lets -underBinder -merge -useContext +onlyGivenNames x1
  extract_lets -underBinder -merge -useContext +onlyGivenNames x2
  extract_lets -underBinder -merge -useContext +onlyGivenNames x3
  extract_lets -underBinder -merge -useContext +onlyGivenNames x4
  extract_lets -underBinder -merge -useContext +onlyGivenNames x5
  refine writeBody_steady _ _ _ _ (fun z _ _ => ?_)
  extract_lets -underBinder -merge -useContext +onlyGivenNames x6
  have h7 : Steady l z x6 := by
    exact settleLearning_steady _ (by assumption)
  try clear_value x6
  refine Steady.lit ?_ rfl rfl rfl rfl
  assumption

theorem bodyL2EntryWrite_steady (a1 a2) : SteadyB l (bodyL2EntryWrite a1 a2) := by
  unfold bodyL2EntryWrite
  refine SteadyB.mk fun z _ _ => ?_
  extract_lets -underBinder -merge -useContext +onlyGivenNames x1
  have h2 : Steady l z x1 := by
    exact settleLearning_steady _ (by assumption)
  try clear_value x1
  extract_lets -underBinder -merge -useContext +onlyGivenNames x3
  split
  · refine SteadyA.mk ?_
    refine putMac_steady _ _ _ ?_
    refine Steady.lit ?_ rfl rfl rfl rfl
    assumption
  · split
    · rename_i v4 q5
      have h6 : Steady l z v4 := by
        refine SteadyO.get q5 ?_
        exact insertMac_steady _ _ (by assumption)
      exact SteadyA.mk (by assumption)
    · exact SteadyA.mk (by assumption)

theorem bodyL2EntryDelete_steady (a1 a2 a3) : SteadyB l (bodyL2EntryDelete a1 a2 a3) := by
  unfold bodyL2EntryDelete
  refine writeBody_steady _ _ _ _ (fun z _ _ => ?_)
  extract_lets -underBinder -merge -useContext +onlyGivenNames x1
  have h2 : Steady l z x1 := by
    exact settleLearning_steady _ (by assumption)
  try clear_value x1
  split
  · exact deleteMac_steady _ _ _ (by assumption)
  · assumption

theorem bodyL2EntryRead_steady (a1 a2 a3) : SteadyB l (bodyL2EntryRead a1 a2 a3) := by
  unfold bodyL2EntryRead
  refine SteadyB.mk fun z _ _ => ?_
  extract_lets -underBinder -merge -useContext +onlyGivenNames x1
  have h2 : Steady l z x1 := by
    exact settleLearning_steady _ (by assumption)
  try clear_value x1
  exact SteadyA.mk (by assumption)

theorem bodyL2SearchNext_steady (a1 a2 a3) : SteadyB l (bodyL2SearchNext a1 a2 a3) := by
  unfold bodyL2SearchNext
  refine SteadyB.mk fun z _ _ => ?_
  extract_lets -underBinder -merge -useContext +onlyGivenNames x1
  have h2 : Steady l z x1 := by
    exact settleLearning_steady _ (by assumption)
  try clear_value x1
  split
  · exact SteadyA.mk (by assumption)

theorem bodyL2Flush_steady (a1 a2) : SteadyB l (bodyL2Flush a1 a2) := by
  unfold bodyL2Flush
  refine SteadyB.mk fun z _ _ => ?_
  split
  · rename_i v1 v2 q3
    have h4 : Steady l z v2 := by
      refine SteadyP.get q3 ?_
      refine flushMac_steady _ _ ?_
      exact settleLearning_steady _ (by assumption)
    exact SteadyA.mk (by assumption)

theorem bodyL2Unpin_steady (a1 a2 a3) : SteadyB l (bodyL2Unpin a1 a2 a3) := by
  unfold bodyL2Unpin
  refine writeBody_steady _ _ _ _ (fun z _ _ => ?_)
  refine unpin_steady _ _ _ ?_
  exact settleLearning_steady _ (by assumption)

theorem bodyLagWrite_steady (a1 a2 a3) : SteadyB l (bodyLagWrite a1 a2 a3) := by
  unfold bodyLagWrite
  refine SteadyB.mk fun z _ _ => ?_
  refine SteadyA.mk ?_
  refine Steady.lit ?_ rfl rfl rfl rfl
  assumption

theorem bodyMcastGroupWrite_steady (a1 a2 a3) : SteadyB l (bodyMcastGroupWrite a1 a2 a3) := by
  unfold bodyMcastGroupWrite
  refine SteadyB.mk fun z _ _ => ?_
  refine SteadyA.mk ?_
  refine Steady.lit ?_ rfl rfl rfl rfl
  assumption

theorem bodyL2LearnShareConfig_steady (a1 a2) : SteadyB l (bodyL2LearnShareConfig a1 a2) := by
  unfold bodyL2LearnShareConfig
  refine SteadyB.mk fun z _ _ => ?_
  refine SteadyA.mk ?_
  refine Steady.lit ?_ rfl rfl rfl rfl
  assumption

theorem bodyDeviceReachWrite_steady (a1 a2 a3 a4) : SteadyB l (bodyDeviceReachWrite a1 a2 a3 a4) := by
  unfold bodyDeviceReachWrite
  refine writeBody_steady _ _ _ _ (fun z _ _ => ?_)
  refine Steady.lit ?_ rfl rfl rfl rfl
  assumption

theorem bodyL2LearnNotifyRead_steady (a1 a2) : SteadyB l (bodyL2LearnNotifyRead a1 a2) := by
  unfold bodyL2LearnNotifyRead
  refine SteadyB.mk fun z _ _ => ?_
  refine SteadyA.mk ?_
  refine Steady.lit ?_ rfl rfl rfl rfl
  assumption

theorem bodyL2Status_steady (a1) : SteadyB l (bodyL2Status a1) := by
  unfold bodyL2Status
  exact readBody_steady _ _ _ _

theorem bodyRouterMacWrite_steady (a1 a2 a3 a4) : SteadyB l (bodyRouterMacWrite a1 a2 a3 a4) := by
  unfold bodyRouterMacWrite
  refine writeBody_steady _ _ _ _ (fun z _ _ => ?_)
  refine Steady.lit ?_ rfl rfl rfl rfl
  assumption

theorem bodyVrfWrite_steady (a1 a2) : SteadyB l (bodyVrfWrite a1 a2) := by
  unfold bodyVrfWrite
  refine writeBody_steady _ _ _ _ (fun z _ _ => ?_)
  refine Steady.lit ?_ rfl rfl rfl rfl
  assumption

theorem bodyNexthopWrite_steady (a1 a2) : SteadyB l (bodyNexthopWrite a1 a2) := by
  unfold bodyNexthopWrite
  extract_lets -underBinder -merge -useContext +onlyGivenNames x1
  refine writeBody_steady _ _ _ _ (fun z _ _ => ?_)
  refine Steady.lit ?_ rfl rfl rfl rfl
  assumption

theorem bodyEcmpMembersWrite_steady (a1 a2 a3) : SteadyB l (bodyEcmpMembersWrite a1 a2 a3) := by
  unfold bodyEcmpMembersWrite
  refine SteadyB.mk fun z _ _ => ?_
  refine SteadyA.mk ?_
  refine Steady.lit ?_ rfl rfl rfl rfl
  assumption

theorem bodyHostEntryWrite_steady (a1 a2) : SteadyB l (bodyHostEntryWrite a1 a2) := by
  unfold bodyHostEntryWrite
  refine SteadyB.mk fun z _ _ => ?_
  split
  · refine SteadyA.mk ?_
    exact putHost_steady _ _ _ (by assumption)
  · split
    · rename_i v1 q2
      have h3 : Steady l z v1 := by
        refine SteadyO.get q2 ?_
        exact insertHost_steady _ _ (by assumption)
      exact SteadyA.mk (by assumption)
    · exact SteadyA.mk (by assumption)

theorem bodyHostEntryDelete_steady (a1 a2 a3 a4) : SteadyB l (bodyHostEntryDelete a1 a2 a3 a4) := by
  unfold bodyHostEntryDelete
  refine writeBody_steady _ _ _ _ (fun _ _ _ => ?_)
  split
  · extract_lets -underBinder -merge -useContext +onlyGivenNames x1
    refine Steady.lit ?_ rfl rfl rfl rfl
    exact beginUpdate_steady _ (by assumption)
  · assumption

theorem bodyHostEntryRead_steady (a1 a2 a3 a4) : SteadyB l (bodyHostEntryRead a1 a2 a3 a4) := by
  unfold bodyHostEntryRead
  exact readBody_steady _ _ _ _

theorem bodyHostSearchNext_steady (a1 a2 a3) : SteadyB l (bodyHostSearchNext a1 a2 a3) := by
  unfold bodyHostSearchNext
  refine SteadyB.mk fun z _ _ => ?_
  split
  · refine SteadyA.mk ?_
    refine Steady.ite ?_ ?_
    · refine Steady.lit ?_ rfl rfl rfl rfl
      assumption
    · assumption

theorem putRoutes_steady (a1 s2) (h2 : Steady l z s2) : Steady l z (putRoutes a1 s2) := by
  unfold putRoutes
  extract_lets -underBinder -merge -useContext +onlyGivenNames x1
  have h2 : Steady l z x1 := by
    exact beginUpdate_steady _ (by assumption)
  try clear_value x1
  refine Steady.lit ?_ rfl rfl rfl rfl
  assumption

theorem dropRoutes_steady (a1 s2) (h2 : Steady l z s2) : Steady l z (dropRoutes a1 s2) := by
  unfold dropRoutes
  extract_lets -underBinder -merge -useContext +onlyGivenNames x1
  have h2 : Steady l z x1 := by
    exact beginUpdate_steady _ (by assumption)
  try clear_value x1
  refine Steady.lit ?_ rfl rfl rfl rfl
  assumption

theorem bodyLpmRouteAdd_steady (a1 a2 a3) : SteadyB l (bodyLpmRouteAdd a1 a2 a3) := by
  unfold bodyLpmRouteAdd
  extract_lets -underBinder -merge -useContext +onlyGivenNames x1
  refine SteadyB.mk fun z _ _ => ?_
  refine SteadyA.mk ?_
  exact putRoutes_steady _ _ (by assumption)

theorem bodyLpmRouteReplace_steady (a1 a2 a3) : SteadyB l (bodyLpmRouteReplace a1 a2 a3) := by
  unfold bodyLpmRouteReplace
  extract_lets -underBinder -merge -useContext +onlyGivenNames x1
  refine SteadyB.mk fun z _ _ => ?_
  refine SteadyA.mk ?_
  exact putRoutes_steady _ _ (by assumption)

theorem bodyLpmRouteDelete_steady (a1 a2 a3) : SteadyB l (bodyLpmRouteDelete a1 a2 a3) := by
  unfold bodyLpmRouteDelete
  extract_lets -underBinder -merge -useContext +onlyGivenNames x1
  refine SteadyB.mk fun z _ _ => ?_
  refine SteadyA.mk ?_
  exact dropRoutes_steady _ _ (by assumption)

theorem bodyLpmRouteNext_steady (a1 a2 a3 a4) : SteadyB l (bodyLpmRouteNext a1 a2 a3 a4) := by
  unfold bodyLpmRouteNext
  exact readBody_steady _ _ _ _

theorem bodyL3Status_steady (a1) : SteadyB l (bodyL3Status a1) := by
  unfold bodyL3Status
  exact readBody_steady _ _ _ _

end Sys2Proof.Machine
end

