-- ==== Sys2Proof/Laws/Steady/CmdParse.lean ====
section
/-! SUPPORT. What the operations of Machine/CmdParse keep (Laws/Steady). -/

namespace Sys2Proof.Machine

variable {l : Bool × Bool} {z s t : State}

theorem forPipes_steady (a1 a2 s) (h3 : Steady l z s) : Steady l z (forPipes a1 a2 s) := by
  unfold forPipes
  refine Steady.each ?_ fun _ _ _ => ?_
  · assumption
  · exact State.setPipe_steady _ _ _ (by assumption)

theorem bodySearchProfileWrite_steady (a1 a2 a3 a4) : SteadyB l (bodySearchProfileWrite a1 a2 a3 a4) := by
  unfold bodySearchProfileWrite
  refine writeBody_steady _ _ _ _ (fun z _ _ => ?_)
  exact forPipes_steady _ _ _ (by assumption)

theorem bodyRuleDelete_steady (a1 a2) : SteadyB l (bodyRuleDelete a1 a2) := by
  unfold bodyRuleDelete
  refine SteadyB.mk fun z _ _ => ?_
  refine SteadyA.mk ?_
  refine Steady.lit ?_ rfl rfl rfl rfl
  assumption

theorem bodyRuleInsert_steady (a1 a2) : SteadyB l (bodyRuleInsert a1 a2) := by
  unfold bodyRuleInsert
  extract_lets -underBinder -merge -useContext +onlyGivenNames x1
  refine SteadyB.mk fun z _ _ => ?_
  extract_lets -underBinder -merge -useContext +onlyGivenNames x2
  extract_lets -underBinder -merge -useContext +onlyGivenNames x3
  extract_lets -underBinder -merge -useContext +onlyGivenNames x4
  refine SteadyA.mk ?_
  extract_lets -underBinder -merge -useContext +onlyGivenNames x5
  have h6 : Steady l z x5 := by
    exact forPipes_steady _ _ _ (by assumption)
  try clear_value x5
  refine Steady.lit ?_ rfl rfl rfl rfl
  assumption

theorem bodyRuleActionWrite_steady (a1 a2 a3) : SteadyB l (bodyRuleActionWrite a1 a2 a3) := by
  unfold bodyRuleActionWrite
  refine writeBody_steady _ _ _ _ (fun z _ _ => ?_)
  refine Steady.lit ?_ rfl rfl rfl rfl
  assumption

theorem bodyListCreate_steady (a1 a2) : SteadyB l (bodyListCreate a1 a2) := by
  unfold bodyListCreate
  refine writeBody_steady _ _ _ _ (fun z _ _ => ?_)
  exact forPipes_steady _ _ _ (by assumption)

theorem bodyRuleRead_steady (a1 a2 a3) : SteadyB l (bodyRuleRead a1 a2 a3) := by
  unfold bodyRuleRead
  exact readBody_steady _ _ _ _

theorem bodyRecircConfig_steady (a1 a2 a3) : SteadyB l (bodyRecircConfig a1 a2 a3) := by
  unfold bodyRecircConfig
  refine writeBody_steady _ _ _ _ (fun z _ _ => ?_)
  exact forPipes_steady _ _ _ (by assumption)

theorem bodyPortClassMapWrite_steady (a1 a2 a3) : SteadyB l (bodyPortClassMapWrite a1 a2 a3) := by
  unfold bodyPortClassMapWrite
  refine SteadyB.mk fun z _ _ => ?_
  extract_lets -underBinder -merge -useContext +onlyGivenNames x1
  refine SteadyA.mk ?_
  refine Steady.lit ?_ rfl rfl rfl rfl
  assumption

theorem bodyMirrorSessionWrite_steady (a1 a2) : SteadyB l (bodyMirrorSessionWrite a1 a2) := by
  unfold bodyMirrorSessionWrite
  refine writeBody_steady _ _ _ _ (fun z _ _ => ?_)
  refine Steady.lit ?_ rfl rfl rfl rfl
  assumption

theorem bodyKeyProfileWrite_steady (a1 a2 a3 a4) : SteadyB l (bodyKeyProfileWrite a1 a2 a3 a4) := by
  unfold bodyKeyProfileWrite
  refine SteadyB.mk fun z _ _ => ?_
  refine SteadyA.mk ?_
  exact forPipes_steady _ _ _ (by assumption)

theorem bodyListDelete_steady (a1 a2 a3) : SteadyB l (bodyListDelete a1 a2 a3) := by
  unfold bodyListDelete
  refine writeBody_steady _ _ _ _ (fun z _ _ => ?_)
  exact forPipes_steady _ _ _ (by assumption)

theorem bodyParseStateRead_steady (a1 a2 a3 a4) : SteadyB l (bodyParseStateRead a1 a2 a3 a4) := by
  unfold bodyParseStateRead
  exact readBody_steady _ _ _ _

theorem bodyParseCountersRead_steady (a1 a2 a3) : SteadyB l (bodyParseCountersRead a1 a2 a3) := by
  unfold bodyParseCountersRead
  refine SteadyB.mk fun z _ _ => ?_
  extract_lets -underBinder -merge -useContext +onlyGivenNames x1
  refine SteadyA.mk ?_
  refine Steady.ite ?_ ?_
  · refine Steady.lit ?_ rfl rfl rfl rfl
    assumption
  · assumption

theorem bodyBankModeWrite_steady (a1 a2 a3 a4) : SteadyB l (bodyBankModeWrite a1 a2 a3 a4) := by
  unfold bodyBankModeWrite
  refine writeBody_steady _ _ _ _ (fun z _ _ => ?_)
  exact forPipes_steady _ _ _ (by assumption)

theorem bodyParseStateWrite_steady (a1 a2 a3 a4) : SteadyB l (bodyParseStateWrite a1 a2 a3 a4) := by
  unfold bodyParseStateWrite
  refine writeBody_steady _ _ _ _ (fun z _ _ => ?_)
  exact forPipes_steady _ _ _ (by assumption)

theorem bodyTcamRawWrite_steady (a1 a2) : SteadyB l (bodyTcamRawWrite a1 a2) := by
  unfold bodyTcamRawWrite
  extract_lets -underBinder -merge -useContext +onlyGivenNames x1
  refine writeBody_steady _ _ _ _ (fun z _ _ => ?_)
  exact forPipes_steady _ _ _ (by assumption)

theorem bodyParseGraphCommit_steady (a1 a2) : SteadyB l (bodyParseGraphCommit a1 a2) := by
  unfold bodyParseGraphCommit
  refine writeBody_steady _ _ _ _ (fun z _ _ => ?_)
  exact forPipes_steady _ _ _ (by assumption)

theorem bodyControlMatchWrite_steady (a1 a2) : SteadyB l (bodyControlMatchWrite a1 a2) := by
  unfold bodyControlMatchWrite
  refine writeBody_steady _ _ _ _ (fun z _ _ => ?_)
  refine Steady.lit ?_ rfl rfl rfl rfl
  assumption

theorem bodyPortDefaultsWrite_steady (a1 a2) : SteadyB l (bodyPortDefaultsWrite a1 a2) := by
  unfold bodyPortDefaultsWrite
  refine SteadyB.mk fun z _ _ => ?_
  extract_lets -underBinder -merge -useContext +onlyGivenNames x1
  refine SteadyA.mk ?_
  refine Steady.lit ?_ rfl rfl rfl rfl
  assumption

theorem bodyListRespace_steady (a1 a2 a3 a4) : SteadyB l (bodyListRespace a1 a2 a3 a4) := by
  unfold bodyListRespace
  extract_lets -underBinder -merge -useContext +onlyGivenNames x1
  refine writeBody_steady _ _ _ _ (fun z _ _ => ?_)
  exact forPipes_steady _ _ _ (by assumption)

theorem bodyTcamRawRead_steady (a1 a2 a3) : SteadyB l (bodyTcamRawRead a1 a2 a3) := by
  unfold bodyTcamRawRead
  exact readBody_steady _ _ _ _

end Sys2Proof.Machine
end

