-- ==== Sys2Proof/Laws/Steady/FabricLink.lean ====
section
/-! SUPPORT. What the operations of Machine/FabricLink keep (Laws/Steady). -/

namespace Sys2Proof.Machine

variable {l : Bool × Bool} {z s t : State}

theorem holdSlot_steady (a1 s) (h2 : Steady l z s) : Steady l z (holdSlot a1 s) := by
  unfold holdSlot
  refine Steady.lit ?_ rfl rfl rfl rfl
  assumption

theorem releaseSlot_steady (a1 s) (h2 : Steady l z s) : Steady l z (releaseSlot a1 s) := by
  unfold releaseSlot
  refine Steady.lit ?_ rfl rfl rfl rfl
  assumption

theorem reachChanged_steady (a1 a2 s) (h3 : Steady l z s) : Steady l z (reachChanged a1 a2 s) := by
  unfold reachChanged
  extract_lets -underBinder -merge -useContext +onlyGivenNames x1
  have h2 : Steady l z x1 := by
    refine Steady.ite ?_ ?_
    · assumption
    · exact sendToNeighbours_steady _ _ (by assumption)
  try clear_value x1
  refine Steady.each ?_ fun _ _ _ => ?_
  · assumption
  · extract_lets -underBinder -merge -useContext +onlyGivenNames x3
    extract_lets -underBinder -merge -useContext +onlyGivenNames x4
    refine Steady.ite ?_ ?_
    · extract_lets -underBinder -merge -useContext +onlyGivenNames x5
      have h6 : Steady l z x5 := by
        exact holdSlot_steady _ _ (by assumption)
      try clear_value x5
      refine Steady.ite ?_ ?_
      · refine raise_steady _ _ ?_
        refine Steady.lit ?_ rfl rfl rfl rfl
        assumption
      · assumption
    · refine Steady.ite ?_ ?_
      · exact releaseSlot_steady _ _ (by assumption)
      · assumption

theorem State.setRxStream_steady (s1 a2 a3) (h1 : Steady l z s1) : Steady l z (State.setRxStream s1 a2 a3) := by
  unfold State.setRxStream
  refine Steady.lit ?_ rfl rfl rfl rfl
  assumption

theorem countPoison_steady (a1 s2) (h2 : Steady l z s2) : Steady l z (countPoison a1 s2) := by
  unfold countPoison
  refine Steady.lit ?_ rfl rfl rfl rfl
  assumption

theorem poisonRelay_steady (a1 s2) (h2 : Steady l z s2) : Steady l z (poisonRelay a1 s2) := by
  unfold poisonRelay
  extract_lets -underBinder -merge -useContext +onlyGivenNames x1
  extract_lets -underBinder -merge -useContext +onlyGivenNames x2
  refine countPoison_steady _ _ ?_
  exact State.setFabPort_steady _ _ _ (by assumption)

theorem leaveRx_steady (a1 s2) (h2 : Steady l z s2) : Steady l z (leaveRx a1 s2) := by
  unfold leaveRx
  split
  · exact freeRx_steady _ _ _ _ (by assumption)
  · assumption

theorem failPort_steady (a1 s2) (h2 : Steady l z s2) : Steady l z (failPort a1 s2) := by
  unfold failPort
  extract_lets -underBinder -merge -useContext +onlyGivenNames x1
  refine Steady.ite ?_ ?_
  · assumption
  · extract_lets -underBinder -merge -useContext +onlyGivenNames x2
    extract_lets -underBinder -merge -useContext +onlyGivenNames x3
    extract_lets -underBinder -merge -useContext +onlyGivenNames x4
    have h5 : Steady l z x4 := by
      exact State.setFabPort_steady _ _ _ (by assumption)
    try clear_value x4
    extract_lets -underBinder -merge -useContext +onlyGivenNames x6
    have h7 : Steady l z x6 := by
      refine Steady.each ?_ fun _ _ _ => ?_
      · assumption
      · exact leaveRx_steady _ _ (by assumption)
    try clear_value x6
    extract_lets -underBinder -merge -useContext +onlyGivenNames x8
    extract_lets -underBinder -merge -useContext +onlyGivenNames x9
    have h10 : Steady l z x9 := by
      refine Steady.lit ?_ rfl rfl rfl rfl
      assumption
    try clear_value x9
    extract_lets -underBinder -merge -useContext +onlyGivenNames x11
    have h12 : Steady l z x11 := by
      refine Steady.each ?_ fun _ _ _ => ?_
      · assumption
      · exact poisonRelay_steady _ _ (by assumption)
    try clear_value x11
    refine reachChanged_steady _ _ _ ?_
    exact raise_steady _ _ (by assumption)

theorem execFabricPortTimeout_steady (a1 s) (h2 : Steady l z s) : SteadyX l z (execFabricPortTimeout a1 s) := by
  unfold execFabricPortTimeout
  refine SteadyX.next ?_
  exact failPort_steady _ _ (by assumption)

theorem useInjected_steady (a1 a2 s3) (h3 : Steady l z s3) : Steady l z (useInjected a1 a2 s3) := by
  unfold useInjected
  split
  · assumption
  · refine Steady.lit ?_ rfl rfl rfl rfl
    assumption

theorem askReplay_steady (a1 s2) (h2 : Steady l z s2) : Steady l z (askReplay a1 s2) := by
  unfold askReplay
  extract_lets -underBinder -merge -useContext +onlyGivenNames x1
  have h2 : Steady l z x1 := by
    exact useInjected_steady _ _ _ (by assumption)
  try clear_value x1
  extract_lets -underBinder -merge -useContext +onlyGivenNames x3
  refine Steady.ite ?_ ?_
  · exact failPort_steady _ _ (by assumption)
  · exact State.setFabPort_steady _ _ _ (by assumption)

theorem receiveCell_steady (a1 s) (h2 : Steady l z s) : SteadyP l z (receiveCell a1 s) := by
  unfold receiveCell
  extract_lets -underBinder -merge -useContext +onlyGivenNames x1
  refine SteadyP.ite ?_ ?_
  · exact SteadyP.mk (by assumption)
  · refine SteadyP.ite ?_ ?_
    · refine SteadyP.mk ?_
      refine Steady.ite ?_ ?_
      · exact askReplay_steady _ _ (by assumption)
      · assumption
    · refine SteadyP.ite ?_ ?_
      · exact SteadyP.mk (by assumption)
      · refine SteadyP.mk ?_
        exact State.setFabPort_steady _ _ _ (by assumption)

theorem onControl_steady (a1 a2 s) (h2 : ∀ b1, Steady l z b1 → Steady l z (a2 b1)) (h3 : Steady l z s) : SteadyX l z (onControl a1 a2 s) := by
  unfold onControl
  split
  · rename_i v1 q2
    have h3 : Steady l z v1 := by
      refine SteadyP.get q2 ?_
      exact receiveCell_steady _ _ (by assumption)
    refine SteadyX.next ?_
    apply_assumption
    · assumption
  · rename_i v4 q5
    have h6 : Steady l z v4 := by
      refine SteadyP.get q5 ?_
      exact receiveCell_steady _ _ (by assumption)
    exact SteadyX.next (by assumption)

theorem relayControl_steady (a1 a2 s) (h3 : Steady l z s) : Steady l z (relayControl a1 a2 s) := by
  unfold relayControl
  split
  · exact pushControl_steady _ _ _ (by assumption)
  · assumption

theorem onAddressed_steady (a1 a2 a3 s) (h2 : ∀ b1, Steady l z b1 → Steady l z (a3 b1)) (h3 : Steady l z s) :
    SteadyX l z (onAddressed a1 a2 a3 s) := by
  unfold onAddressed
  refine onControl_steady _ _ _ (fun _ _ => ?_) ?_
  · refine Steady.ite ?_ ?_
    · apply_assumption
      · assumption
    · refine Steady.ite ?_ ?_
      · exact relayControl_steady _ _ _ (by assumption)
      · assumption
  · assumption

theorem refusePort_steady (a1 s) (h2 : Steady l z s) : Steady l z (refusePort a1 s) := by
  unfold refusePort
  extract_lets -underBinder -merge -useContext +onlyGivenNames x1
  refine raise_steady _ _ ?_
  refine failPort_steady _ _ ?_
  exact State.setFabPort_steady _ _ _ (by assumption)

theorem notePeer_steady (a1 a2 s) (h3 : Steady l z s) : Steady l z (notePeer a1 a2 s) := by
  unfold notePeer
  extract_lets -underBinder -merge -useContext +onlyGivenNames x1
  extract_lets -underBinder -merge -useContext +onlyGivenNames x2
  have h3 : Steady l z x2 := by
    exact noteMember_steady _ _ _ (by assumption)
  try clear_value x2
  split
  · extract_lets -underBinder -merge -useContext +onlyGivenNames x4 x5
    have h6 : Steady l z x5 := by
      refine Steady.lit ?_ rfl rfl rfl rfl
      assumption
    try clear_value x5
    refine Steady.ite ?_ ?_
    · assumption
    · exact raise_steady _ _ (by assumption)
  · refine raise_steady _ _ ?_
    refine Steady.lit ?_ rfl rfl rfl rfl
    assumption

theorem execHello_steady (a1 a2 a3 a4 a5 s) (h6 : Steady l z s) : SteadyX l z (execHello a1 a2 a3 a4 a5 s) := by
  unfold execHello
  extract_lets -underBinder -merge -useContext +onlyGivenNames x1
  extract_lets -underBinder -merge -useContext +onlyGivenNames x2
  refine SteadyX.ite ?_ ?_
  · exact SteadyX.next (by assumption)
  · refine SteadyX.ite ?_ ?_
    · refine SteadyX.next ?_
      refine SteadyP.proj ?_
      exact receiveCell_steady _ _ (by assumption)
    · refine SteadyX.ite ?_ ?_
      · exact SteadyX.next (by assumption)
      · extract_lets -underBinder -merge -useContext +onlyGivenNames x3
        have h4 : Steady l z x3 := by
          exact State.setFabPort_steady _ _ _ (by assumption)
        try clear_value x3
        refine SteadyX.ite ?_ ?_
        · refine SteadyX.next ?_
          exact refusePort_steady _ _ (by assumption)
        · refine SteadyX.ite ?_ ?_
          · refine SteadyX.next ?_
            exact failPort_steady _ _ (by assumption)
          · extract_lets -underBinder -merge -useContext +onlyGivenNames x5
            extract_lets -underBinder -merge -useContext +onlyGivenNames x6
            extract_lets -underBinder -merge -useContext +onlyGivenNames x7
            extract_lets -underBinder -merge -useContext +onlyGivenNames x8
            extract_lets -underBinder -merge -useContext +onlyGivenNames x9 x10
            have h11 : Steady l z x10 := by
              refine Steady.lit ?_ rfl rfl rfl rfl
              assumption
            try clear_value x10
            extract_lets -underBinder -merge -useContext +onlyGivenNames x12
            have h13 : Steady l z x12 := by
              exact State.setFabPort_steady _ _ _ (by assumption)
            try clear_value x12
            extract_lets -underBinder -merge -useContext +onlyGivenNames x14
            have h15 : Steady l z x14 := by
              refine Steady.ite ?_ ?_
              · assumption
              · exact raise_steady _ _ (by assumption)
            try clear_value x14
            refine SteadyX.next ?_
            refine notePeer_steady _ _ _ ?_
            exact reachChanged_steady _ _ _ (by assumption)

theorem execHelloSend_steady (a1 s) (h2 : Steady l z s) : SteadyX l z (execHelloSend a1 s) := by
  unfold execHelloSend
  refine SteadyX.next ?_
  refine Steady.ite ?_ ?_
  · exact pushControl_steady _ _ _ (by assumption)
  · assumption

theorem execReach_steady (a1 a2 s) (h3 : Steady l z s) : SteadyX l z (execReach a1 a2 s) := by
  unfold execReach
  refine onControl_steady _ _ _ (fun _ _ => ?_) ?_
  · extract_lets -underBinder -merge -useContext +onlyGivenNames x1
    extract_lets -underBinder -merge -useContext +onlyGivenNames x2 x3
    have h4 : Steady l z x3 := by
      exact State.setFabPort_steady _ _ _ (by assumption)
    try clear_value x3
    extract_lets -underBinder -merge -useContext +onlyGivenNames x5
    refine reachChanged_steady _ _ _ ?_
    refine Steady.lit ?_ rfl rfl rfl rfl
    assumption
  · assumption

theorem execLoad_steady (a1 a2 s) (h3 : Steady l z s) : SteadyX l z (execLoad a1 a2 s) := by
  unfold execLoad
  refine onControl_steady _ _ _ (fun _ _ => ?_) ?_
  · extract_lets -underBinder -merge -useContext +onlyGivenNames x1
    refine Steady.lit ?_ rfl rfl rfl rfl
    assumption
  · assumption

theorem execPortState_steady (a1 a2 a3 a4 s5) (h5 : Steady l z s5) : SteadyX l z (execPortState a1 a2 a3 a4 s5) := by
  unfold execPortState
  refine onAddressed_steady _ _ _ _ (fun _ _ => ?_) ?_
  · extract_lets -underBinder -merge -useContext +onlyGivenNames x1
    extract_lets -underBinder -merge -useContext +onlyGivenNames x2
    extract_lets -underBinder -merge -useContext +onlyGivenNames x3
    have h4 : Steady l z x3 := by
      refine Steady.lit ?_ rfl rfl rfl rfl
      assumption
    try clear_value x3
    refine Steady.ite ?_ ?_
    · assumption
    · refine Steady.ite ?_ ?_
      · refine Steady.lit ?_ rfl rfl rfl rfl
        assumption
      · refine Steady.lit ?_ rfl rfl rfl rfl
        assumption
  · assumption

theorem execCredit_steady (a1 a2 a3 s) (h4 : Steady l z s) : SteadyX l z (execCredit a1 a2 a3 s) := by
  unfold execCredit
  refine onControl_steady _ _ _ (fun _ _ => ?_) ?_
  · extract_lets -underBinder -merge -useContext +onlyGivenNames x1
    exact State.setFabPort_steady _ _ _ (by assumption)
  · assumption

theorem execReplay_steady (a1 a2 s) (h3 : Steady l z s) : SteadyX l z (execReplay a1 a2 s) := by
  unfold execReplay
  refine onControl_steady _ _ _ (fun _ _ => ?_) ?_
  · extract_lets -underBinder -merge -useContext +onlyGivenNames x1
    extract_lets -underBinder -merge -useContext +onlyGivenNames x2
    extract_lets -underBinder -merge -useContext +onlyGivenNames x3
    have h4 : Steady l z x3 := by
      exact State.setFabPort_steady _ _ _ (by assumption)
    try clear_value x3
    refine Steady.lit ?_ rfl rfl rfl rfl
    assumption
  · assumption

theorem countUncorrected_steady (a1 s) (h2 : Steady l z s) : Steady l z (countUncorrected a1 s) := by
  unfold countUncorrected
  refine Steady.ite ?_ ?_
  · refine Steady.lit ?_ rfl rfl rfl rfl
    assumption
  · assumption

theorem sendFrame_steady (a1 a2 s) (h3 : Steady l z s) : Steady l z (sendFrame a1 a2 s) := by
  unfold sendFrame
  extract_lets -underBinder -merge -useContext +onlyGivenNames x1
  split
  · refine Steady.lit ?_ rfl rfl rfl rfl
    assumption
  · extract_lets -underBinder -merge -useContext +onlyGivenNames x2
    extract_lets -underBinder -merge -useContext +onlyGivenNames x3
    split
    · extract_lets -underBinder -merge -useContext +onlyGivenNames x4
      extract_lets -underBinder -merge -useContext +onlyGivenNames x5
      extract_lets -underBinder -merge -useContext +onlyGivenNames x6
      extract_lets -underBinder -merge -useContext +onlyGivenNames x7 x8
      have h9 : Steady l z x8 := by
        refine Steady.lit ?_ rfl rfl rfl rfl
        assumption
      try clear_value x8
      extract_lets -underBinder -merge -useContext +onlyGivenNames x10
      refine countUncorrected_steady _ _ ?_
      exact State.setFabPort_steady _ _ _ (by assumption)

theorem sendHeads_steady (a1 a2 s) (h3 : Steady l z s) : Steady l z (sendHeads a1 a2 s) := by
  induction a2 generalizing s with
  | zero => exact h3
  | succ n ih =>
    unfold sendHeads
    extract_lets q
    split
    · exact h3
    · split
      · exact h3
      · exact ih _ (releaseFrame_steady _ _ _ (sendFrame_steady _ _ _ (State.setVoq_steady _ _ _ h3)))

theorem sendKept_steady (s1) (h1 : Steady l z s1) : Steady l z (sendKept s1) := by
  unfold sendKept
  refine Steady.each ?_ fun _ _ _ => ?_
  · assumption
  · exact sendHeads_steady _ _ _ (by assumption)

theorem execGrant_steady (a1 a2 a3 a4 s) (h5 : Steady l z s) : SteadyX l z (execGrant a1 a2 a3 a4 s) := by
  unfold execGrant
  refine onAddressed_steady _ _ _ _ (fun _ _ => ?_) ?_
  · extract_lets -underBinder -merge -useContext +onlyGivenNames x1
    extract_lets -underBinder -merge -useContext +onlyGivenNames x2
    refine sendHeads_steady _ _ _ ?_
    exact State.setVoq_steady _ _ _ (by assumption)
  · assumption

theorem execRequest_steady (a1 a2 a3 a4 a5 a6 a7 s8) (h8 : Steady l z s8) : SteadyX l z (execRequest a1 a2 a3 a4 a5 a6 a7 s8) := by
  unfold execRequest
  refine onAddressed_steady _ _ _ _ (fun _ _ => ?_) ?_
  · extract_lets -underBinder -merge -useContext +onlyGivenNames x1
    refine Steady.lit ?_ rfl rfl rfl rfl
    assumption
  · assumption

theorem execVoqRequestTimer_steady (a1 a2 s3) (h3 : Steady l z s3) : SteadyX l z (execVoqRequestTimer a1 a2 s3) := by
  unfold execVoqRequestTimer
  extract_lets -underBinder -merge -useContext +onlyGivenNames x1
  refine SteadyX.next ?_
  refine requestGrant_steady _ _ ?_
  refine Steady.ite ?_ ?_
  · assumption
  · exact sendHeads_steady _ _ _ (by assumption)

theorem execLoadSend_steady (s) (h1 : Steady l z s) : SteadyX l z (execLoadSend s) := by
  unfold execLoadSend
  refine SteadyX.next ?_
  exact sendToNeighbours_steady _ _ (by assumption)

theorem sendReplies_steady (s) (h1 : Steady l z s) : Steady l z (sendReplies s) := by
  unfold sendReplies
  extract_lets -underBinder -merge -useContext +onlyGivenNames x1
  refine Steady.each ?_ fun _ _ _ => ?_
  · refine Steady.lit ?_ rfl rfl rfl rfl
    assumption
  · extract_lets -underBinder -merge -useContext +onlyGivenNames x2
    refine Steady.each ?_ fun _ _ _ => ?_
    · assumption
    · exact sendToSlot_steady _ _ _ (by assumption)

theorem emit_steady (a1 a2 a3 s) (h4 : Steady l z s) : Steady l z (emit a1 a2 a3 s) := by
  unfold emit
  extract_lets -underBinder -merge -useContext +onlyGivenNames x1
  have h2 : Steady l z x1 := by
    exact State.setFabPort_steady _ _ _ (by assumption)
  try clear_value x1
  refine Steady.lit ?_ rfl rfl rfl rfl
  assumption

theorem State.linkReady_steady (s1) (h1 : Steady l z s1) : Steady l z (State.linkReady s1) := by
  unfold State.linkReady
  refine sendKept_steady _ ?_
  exact sendReplies_steady _ (by assumption)

theorem sendControl_steady (a1 a2 s3) (h3 : Steady l z s3) : Steady l z (sendControl a1 a2 s3) := by
  unfold sendControl
  extract_lets -underBinder -merge -useContext +onlyGivenNames x1
  extract_lets -underBinder -merge -useContext +onlyGivenNames x2
  extract_lets -underBinder -merge -useContext +onlyGivenNames x3
  refine Steady.ite ?_ ?_
  · exact emit_steady _ _ _ _ (by assumption)
  · extract_lets -underBinder -merge -useContext +onlyGivenNames x4
    have h5 : Steady l z x4 := by
      exact State.setFabPort_steady _ _ _ (by assumption)
    try clear_value x4
    refine Steady.lit ?_ rfl rfl rfl rfl
    assumption

theorem sendData_steady (a1 a2 s3) (h3 : Steady l z s3) : Steady l z (sendData a1 a2 s3) := by
  unfold sendData
  extract_lets -underBinder -merge -useContext +onlyGivenNames x1
  extract_lets -underBinder -merge -useContext +onlyGivenNames x2
  extract_lets -underBinder -merge -useContext +onlyGivenNames x3
  refine leaveRx_steady _ _ ?_
  exact emit_steady _ _ _ _ (by assumption)

theorem poisonHere_steady (a1 a2 s3) (h3 : Steady l z s3) : Steady l z (poisonHere a1 a2 s3) := by
  unfold poisonHere
  extract_lets -underBinder -merge -useContext +onlyGivenNames x1
  extract_lets -underBinder -merge -useContext +onlyGivenNames x2
  extract_lets -underBinder -merge -useContext +onlyGivenNames x3
  extract_lets -underBinder -merge -useContext +onlyGivenNames x4
  have h5 : Steady l z x4 := by
    exact State.setFabPort_steady _ _ _ (by assumption)
  try clear_value x4
  extract_lets -underBinder -merge -useContext +onlyGivenNames x6
  have h7 : Steady l z x6 := by
    refine Steady.each ?_ fun _ _ _ => ?_
    · assumption
    · exact leaveRx_steady _ _ (by assumption)
  try clear_value x6
  extract_lets -underBinder -merge -useContext +onlyGivenNames x8
  extract_lets -underBinder -merge -useContext +onlyGivenNames x9
  have h10 : Steady l z x9 := by
    refine Steady.lit ?_ rfl rfl rfl rfl
    assumption
  try clear_value x9
  refine countPoison_steady _ _ ?_
  exact sendData_steady _ _ _ (by assumption)

theorem execFabricCellSend_steady (a1 s2) (h2 : Steady l z s2) : SteadyX l z (execFabricCellSend a1 s2) := by
  unfold execFabricCellSend
  refine SteadyX.ite ?_ ?_
  · refine SteadyX.next ?_
    assumption
  · extract_lets -underBinder -merge -useContext +onlyGivenNames x1
    have h2 : Steady l z x1 := by
      exact State.linkReady_steady _ (by assumption)
    try clear_value x1
    split
    · refine SteadyX.next ?_
      assumption
    · refine SteadyX.next ?_
      exact sendControl_steady _ _ _ (by assumption)
    · refine SteadyX.next ?_
      refine Steady.ite ?_ ?_
      · refine poisonHere_steady _ _ _ ?_
        exact useInjected_steady _ _ _ (by assumption)
      · exact sendData_steady _ _ _ (by assumption)

theorem execFabricIdleSend_steady (a1 s2) (h2 : Steady l z s2) : SteadyX l z (execFabricIdleSend a1 s2) := by
  unfold execFabricIdleSend
  refine SteadyX.ite ?_ ?_
  · refine SteadyX.next ?_
    assumption
  · extract_lets -underBinder -merge -useContext +onlyGivenNames x1
    have h2 : Steady l z x1 := by
      exact State.linkReady_steady _ (by assumption)
    try clear_value x1
    extract_lets -underBinder -merge -useContext +onlyGivenNames x3
    refine SteadyX.next ?_
    refine Steady.ite ?_ ?_
    · refine Steady.lit ?_ rfl rfl rfl rfl
      assumption
    · assumption

theorem relayCell_steady (a1 a2 s) (h3 : Steady l z s) : Steady l z (relayCell a1 a2 s) := by
  unfold relayCell
  have h := takeRx_steady a1 a2.hop s h3
  generalize takeRx a1 a2.hop s = t at h ⊢
  dsimp only
  split
  · exact freeRx_steady _ _ _ _ h
  · exact State.setFabPort_steady _ _ _ (State.setFabPort_steady _ _ _ h)

theorem enterEgress_steady (a1 a2 s) (h3 : Steady l z s) : Steady l z (enterEgress a1 a2 s) := by
  unfold enterEgress
  extract_lets -underBinder -merge -useContext +onlyGivenNames x1
  extract_lets -underBinder -merge -useContext +onlyGivenNames x2
  extract_lets -underBinder -merge -useContext +onlyGivenNames x3
  refine Steady.ite ?_ ?_
  · extract_lets -underBinder -merge -useContext +onlyGivenNames x4
    split
    · rename_i v5 v6 q7
      have h8 : Steady l z v6 := by
        refine SteadyP.get q7 ?_
        refine placeCopies_steady _ _ _ _ _ ?_
        refine Steady.lit ?_ rfl rfl rfl rfl
        assumption
      refine Steady.ite ?_ ?_
      · exact freeFabric_steady _ _ _ _ (by assumption)
      · refine Steady.lit ?_ rfl rfl rfl rfl
        assumption
  · extract_lets -underBinder -merge -useContext +onlyGivenNames x9
    extract_lets -underBinder -merge -useContext +onlyGivenNames x10
    extract_lets -underBinder -merge -useContext +onlyGivenNames x11
    refine Steady.ite ?_ ?_
    · refine freeFabric_steady _ _ _ _ ?_
      refine Steady.lit ?_ rfl rfl rfl rfl
      assumption
    · refine Steady.ite ?_ ?_
      · refine freeFabric_steady _ _ _ _ ?_
        refine Steady.lit ?_ rfl rfl rfl rfl
        assumption
      · refine Steady.ite ?_ ?_
        · refine freeFabric_steady _ _ _ _ ?_
          refine Steady.lit ?_ rfl rfl rfl rfl
          assumption
        · exact State.setEgQueue_steady _ _ _ _ (by assumption)

theorem noteCum_steady (a1 a2 a3 s) (h4 : Steady l z s) : Steady l z (noteCum a1 a2 a3 s) := by
  unfold noteCum
  extract_lets -underBinder -merge -useContext +onlyGivenNames x1
  extract_lets -underBinder -merge -useContext +onlyGivenNames x2
  extract_lets -underBinder -merge -useContext +onlyGivenNames x3
  have h4 : Steady l z x3 := by
    exact State.setRxStream_steady _ _ _ (by assumption)
  try clear_value x3
  refine Steady.lit ?_ rfl rfl rfl rfl
  assumption

theorem takeFrame_steady (a1 a2 a3 s) (h4 : Steady l z s) : Steady l z (takeFrame a1 a2 a3 s) := by
  unfold takeFrame
  extract_lets -underBinder -merge -useContext +onlyGivenNames x1
  have h2 : Steady l z x1 := by
    exact noteCum_steady _ _ _ _ (by assumption)
  try clear_value x1
  refine Steady.ite ?_ ?_
  · extract_lets -underBinder -merge -useContext +onlyGivenNames x3
    refine raise_steady _ _ ?_
    refine freeFabric_steady _ _ _ _ ?_
    exact State.setRxStream_steady _ _ _ (by assumption)
  · exact enterEgress_steady _ _ _ (by assumption)

theorem releaseHeld_steady (a1 a2 a3 s) (h4 : Steady l z s) : Steady l z (releaseHeld a1 a2 a3 s) := by
  induction a3 generalizing s with
  | zero => exact h4
  | succ n ih =>
    unfold releaseHeld
    extract_lets x
    split
    · exact h4
    · exact ih _ (takeFrame_steady _ _ _ _ (State.setRxStream_steady _ _ _ h4))

theorem arriveFrame_steady (a1 a2 a3 s) (h4 : Steady l z s) : Steady l z (arriveFrame a1 a2 a3 s) := by
  unfold arriveFrame
  extract_lets -underBinder -merge -useContext +onlyGivenNames x1
  refine Steady.ite ?_ ?_
  · refine releaseHeld_steady _ _ _ _ ?_
    exact takeFrame_steady _ _ _ _ (by assumption)
  · refine Steady.ite ?_ ?_
    · exact State.setRxStream_steady _ _ _ (by assumption)
    · refine freeFabric_steady _ _ _ _ ?_
      exact State.setRxStream_steady _ _ _ (by assumption)

theorem localCell_steady (a1 a2 s) (h3 : Steady l z s) : Steady l z (localCell a1 a2 s) := by
  unfold localCell
  extract_lets p k x fab t old part parts
  have h : Steady l z t := takeRx_steady _ _ _ (Steady.lit h3 rfl rfl rfl rfl)
  clear_value t part
  split
  · exact freeFabric_steady _ _ _ _ h
  · exact Steady.ite (arriveFrame_steady _ _ _ _ (State.setRxStream_steady _ _ _ h)) (State.setRxStream_steady _ _ _ h)

theorem execDataCellReceive_steady (a1 a2 a3 s4) (h4 : Steady l z s4) : SteadyX l z (execDataCellReceive a1 a2 a3 s4) := by
  unfold execDataCellReceive
  split
  · rename_i v1 v2 q3
    have h4 : Steady l z v2 := by
      refine SteadyP.get q3 ?_
      exact receiveCell_steady _ _ (by assumption)
    refine SteadyX.next ?_
    assumption
  · rename_i v5 v6 q7
    have h8 : Steady l z v6 := by
      refine SteadyP.get q7 ?_
      exact receiveCell_steady _ _ (by assumption)
    refine SteadyX.next ?_
    refine Steady.ite ?_ ?_
    · exact localCell_steady _ _ _ (by assumption)
    · refine Steady.ite ?_ ?_
      · exact relayCell_steady _ _ _ (by assumption)
      · exact sendCredit_steady _ _ _ _ (by assumption)

theorem execRobTimeout_steady (a1 a2 a3 s) (h4 : Steady l z s) : SteadyX l z (execRobTimeout a1 a2 a3 s) := by
  unfold execRobTimeout
  extract_lets -underBinder -merge -useContext +onlyGivenNames x1
  extract_lets -underBinder -merge -useContext +onlyGivenNames x2
  extract_lets -underBinder -merge -useContext +onlyGivenNames x3
  refine SteadyX.next ?_
  try clear_value x3
  split
  · assumption
  · extract_lets -underBinder -merge -useContext +onlyGivenNames x4
    extract_lets -underBinder -merge -useContext +onlyGivenNames x5
    extract_lets -underBinder -merge -useContext +onlyGivenNames x6
    have h7 : Steady l z x6 := by
      exact State.setRxStream_steady _ _ _ (by assumption)
    try clear_value x6
    extract_lets -underBinder -merge -useContext +onlyGivenNames x8
    have h9 : Steady l z x8 := by
      refine Steady.each ?_ fun _ _ _ => ?_
      · assumption
      · exact freeFabric_steady _ _ _ _ (by assumption)
    try clear_value x8
    refine raise_steady _ _ ?_
    exact releaseHeld_steady _ _ _ _ (by assumption)

theorem execFlowReq_steady (a1 a2 a3 a4 s) (h5 : Steady l z s) : SteadyX l z (execFlowReq a1 a2 a3 a4 s) := by
  unfold execFlowReq
  refine onAddressed_steady _ _ _ _ (fun _ _ => ?_) ?_
  · extract_lets -underBinder -merge -useContext +onlyGivenNames x1
    have h5 : ∀ y2 y3, Steady l z y3 → Steady l z (x1 y2 y3) := by
      intro y2 y3 h4
      unfold x1
      exact sendToSlot_steady _ _ _ (by assumption)
    try clear_value x1
    split
    · apply_assumption
      · assumption
    · split
      · apply_assumption
        · assumption
      · extract_lets -underBinder -merge -useContext +onlyGivenNames x6
        refine Steady.ite ?_ ?_
        · exact pushOp_steady _ _ _ (by assumption)
        · apply_assumption
          · assumption
  · assumption

theorem execFlowResp_steady (a1 a2 a3 a4 s) (h5 : Steady l z s) : SteadyX l z (execFlowResp a1 a2 a3 a4 s) := by
  unfold execFlowResp
  refine onAddressed_steady _ _ _ _ (fun _ _ => ?_) ?_
  · extract_lets -underBinder -merge -useContext +onlyGivenNames x1
    split
    · assumption
    · refine answer_steady _ _ _ ?_
      refine Steady.lit ?_ rfl rfl rfl rfl
      assumption
  · assumption

theorem takeSegment_steady (a1 a2 a3 a4 s) (h4 : ∀ b1, Steady l z b1 → Steady l z (a4 b1)) (h5 : Steady l z s) : Steady l z (takeSegment a1 a2 a3 a4 s) := by
  unfold takeSegment
  extract_lets -underBinder -merge -useContext +onlyGivenNames x1
  refine Steady.ite ?_ ?_
  · assumption
  · refine Steady.ite ?_ ?_
    · apply_assumption
      · refine Steady.lit ?_ rfl rfl rfl rfl
        assumption
    · refine Steady.lit ?_ rfl rfl rfl rfl
      assumption

theorem fabricIntake_steady (a1 a2 a3 s) (h4 : Steady l z s) : Steady l z (fabricIntake a1 a2 a3 s) := by
  unfold fabricIntake
  refine Steady.ite ?_ ?_
  · refine Steady.lit ?_ rfl rfl rfl rfl
    assumption
  · exact intakeFrame_steady _ _ _ _ (by assumption)

theorem execOcf_steady (a1 a2 a3 a4 a5 a6 s) (h7 : Steady l z s) : SteadyX l z (execOcf a1 a2 a3 a4 a5 a6 s) := by
  unfold execOcf
  refine onAddressed_steady _ _ _ _ (fun _ _ => ?_) ?_
  · refine takeSegment_steady _ _ _ _ _ (fun _ _ => ?_) ?_
    · exact fabricIntake_steady _ _ _ _ (by assumption)
    · assumption
  · assumption

theorem execLearn_steady (a1 a2 a3 a4 a5 s) (h6 : Steady l z s) : SteadyX l z (execLearn a1 a2 a3 a4 a5 s) := by
  unfold execLearn
  refine onAddressed_steady _ _ _ _ (fun _ _ => ?_) ?_
  · refine takeSegment_steady _ _ _ _ _ (fun _ _ => ?_) ?_
    · exact fabricIntake_steady _ _ _ _ (by assumption)
    · assumption
  · assumption

theorem execOcfSegmentTimeout_steady (a1 s) (h2 : Steady l z s) : SteadyX l z (execOcfSegmentTimeout a1 s) := by
  unfold execOcfSegmentTimeout
  extract_lets -underBinder -merge -useContext +onlyGivenNames x1
  refine SteadyX.next ?_
  refine Steady.lit ?_ rfl rfl rfl rfl
  assumption

theorem bodyFabricConfig_steady (a1 a2) : SteadyB l (bodyFabricConfig a1 a2) := by
  unfold bodyFabricConfig
  extract_lets -underBinder -merge -useContext +onlyGivenNames x1
  refine SteadyB.mk fun z _ _ => ?_
  refine SteadyA.ite ?_ ?_
  · exact SteadyA.mk (by assumption)
  · extract_lets -underBinder -merge -useContext +onlyGivenNames x2
    have h3 : Steady l z x2 := by
      refine Steady.ite ?_ ?_
      · assumption
      · refine Steady.each ?_ fun _ _ _ => ?_
        · assumption
        · exact failPort_steady _ _ (by assumption)
    try clear_value x2
    refine SteadyA.mk ?_
    refine Steady.lit ?_ rfl rfl rfl rfl
    assumption

theorem bodyFabricLinkWrite_steady (a1 a2) : SteadyB l (bodyFabricLinkWrite a1 a2) := by
  unfold bodyFabricLinkWrite
  extract_lets -underBinder -merge -useContext +onlyGivenNames x1
  extract_lets -underBinder -merge -useContext +onlyGivenNames x2
  refine SteadyB.mk fun z _ _ => ?_
  refine SteadyA.ite ?_ ?_
  · exact SteadyA.mk (by assumption)
  · extract_lets -underBinder -merge -useContext +onlyGivenNames x3 x4 x5
    have h6 : Steady l z x5 := by
      refine Steady.lit ?_ rfl rfl rfl rfl
      assumption
    try clear_value x5
    refine SteadyA.mk ?_
    refine Steady.ite ?_ ?_
    · assumption
    · refine Steady.lit ?_ rfl rfl rfl rfl
      assumption

theorem bodyFabricStatus_steady (a1) : SteadyB l (bodyFabricStatus a1) := by
  unfold bodyFabricStatus
  exact readBody_steady _ _ _ _

theorem bodyFabricCountersRead_steady (a1 a2) : SteadyB l (bodyFabricCountersRead a1 a2) := by
  unfold bodyFabricCountersRead
  refine SteadyB.mk fun z _ _ => ?_
  refine SteadyA.mk ?_
  refine Steady.ite ?_ ?_
  · refine Steady.lit ?_ rfl rfl rfl rfl
    assumption
  · assumption

end Sys2Proof.Machine
end

