-- ==== Sys2Proof/Laws/Steady/Registers.lean ====
section
/-! SUPPORT. What the operations of Machine/Registers keep (Laws/Steady). -/

namespace Sys2Proof.Machine

variable {l : Bool × Bool} {z s t : State}

theorem writeDma_steady (a1 a2 s) (h3 : Steady l z s) : Steady l z (writeDma a1 a2 s) := by
  unfold writeDma
  refine Steady.ite ?_ ?_
  · extract_lets -underBinder -merge -useContext +onlyGivenNames x1
    extract_lets -underBinder -merge -useContext +onlyGivenNames x2
    extract_lets -underBinder -merge -useContext +onlyGivenNames x3
    split
    · refine Steady.ite ?_ ?_
      · assumption
      · exact State.setRing_steady _ _ _ _ (by assumption)
    · refine Steady.ite ?_ ?_
      · assumption
      · exact State.setRing_steady _ _ _ _ (by assumption)
    · refine Steady.ite ?_ ?_
      · assumption
      · exact State.setRing_steady _ _ _ _ (by assumption)
    · refine Steady.ite ?_ ?_
      · exact State.setRing_steady _ _ _ _ (by assumption)
      · assumption
    · refine updatePresence_steady _ ?_
      exact State.setRing_steady _ _ _ _ (by assumption)
    · exact State.setRing_steady _ _ _ _ (by assumption)
    · assumption
  · refine Steady.ite ?_ ?_
    · extract_lets -underBinder -merge -useContext +onlyGivenNames x4
      refine Steady.lit ?_ rfl rfl rfl rfl
      assumption
    · refine Steady.ite ?_ ?_
      · refine Steady.lit ?_ rfl rfl rfl rfl
        assumption
      · assumption

theorem writeInt_steady (a1 a2 s) (h3 : Steady (l.1, false) z s) : Steady (l.1, false) z (writeInt a1 a2 s) := by
  unfold writeInt
  extract_lets -underBinder -merge -useContext +onlyGivenNames x1
  refine Steady.ite ?_ ?_
  · exact clearStatus_steady _ _ _ (by assumption)
  · refine Steady.ite ?_ ?_
    · refine Steady.lit ?_ rfl rfl rfl rfl
      assumption
    · refine Steady.ite ?_ ?_
      · exact raiseMask_steady _ _ _ (by assumption)
      · refine Steady.ite ?_ ?_
        · extract_lets -underBinder -merge -useContext +onlyGivenNames x2
          refine Steady.lit ?_ rfl rfl rfl rfl
          assumption
        · refine Steady.ite ?_ ?_
          · exact complete_steady _ _ _ (by assumption)
          · refine Steady.ite ?_ ?_
            · extract_lets -underBinder -merge -useContext +onlyGivenNames x3
              refine Steady.lit ?_ rfl rfl rfl rfl
              assumption
            · refine Steady.ite ?_ ?_
              · refine Steady.lit ?_ rfl rfl rfl rfl
                assumption
              · assumption

theorem writeChan_steady (a1 a2 a3 s) (h4 : Steady l z s) : Steady l z (writeChan a1 a2 a3 s) := by
  unfold writeChan
  split
  · exact pushWord_steady _ _ _ _ (by assumption)
  · exact pushWord_steady _ _ _ _ (by assumption)
  · extract_lets -underBinder -merge -useContext +onlyGivenNames x1
    exact State.setChan_steady _ _ _ (by assumption)
  · refine Steady.ite ?_ ?_
    · exact hostReset_steady _ _ _ (by assumption)
    · assumption
  · assumption

theorem writeMsix_steady (a1 a2 s) (h3 : Steady l z s) : Steady l z (writeMsix a1 a2 s) := by
  unfold writeMsix
  extract_lets -underBinder -merge -useContext +onlyGivenNames x1
  extract_lets -underBinder -merge -useContext +onlyGivenNames x2
  extract_lets -underBinder -merge -useContext +onlyGivenNames x3
  have h7 : ∀ y4 y5, Steady l z y5 → Steady l z (x3 y4 y5) := by
    intro y4 y5 h6
    unfold x3
    refine Steady.lit ?_ rfl rfl rfl rfl
    assumption
  try clear_value x3
  split
  · apply_assumption
    · assumption
  · apply_assumption
    · assumption
  · apply_assumption
    · assumption
  · extract_lets -underBinder -merge -useContext +onlyGivenNames x8
    have h9 : Steady l z x8 := by
      apply_assumption
      · assumption
    try clear_value x8
    refine Steady.ite ?_ ?_
    · refine sendVector_steady _ _ ?_
      refine Steady.lit ?_ rfl rfl rfl rfl
      assumption
    · assumption

theorem writeCmb_steady (a1 a2 s) (h3 : Steady l z s) : Steady l z (writeCmb a1 a2 s) := by
  unfold writeCmb
  refine Steady.ite ?_ ?_
  · exact cmbWrite_steady _ _ _ (by assumption)
  · refine Steady.ite ?_ ?_
    · exact cmbWrite_steady _ _ _ (by assumption)
    · refine Steady.ite ?_ ?_
      · refine Steady.lit ?_ rfl rfl rfl rfl
        assumption
      · refine Steady.ite ?_ ?_
        · refine Steady.lit ?_ rfl rfl rfl rfl
          assumption
        · assumption

theorem writeBar0_steady (a1 a2 s) (h3 : Steady (l.1, false) z s) : Steady (l.1, false) z (writeBar0 a1 a2 s) := by
  unfold writeBar0
  refine Steady.ite ?_ ?_
  · refine Steady.ite ?_ ?_
    · exact latchTime_steady _ (by assumption)
    · assumption
  · refine Steady.ite ?_ ?_
    · refine Steady.ite ?_ ?_
      · exact popStamp_steady _ (by assumption)
      · assumption
    · refine Steady.ite ?_ ?_
      · exact writeInt_steady _ _ _ (by assumption)
      · refine Steady.ite ?_ ?_
        · exact writeChan_steady _ _ _ _ (by assumption)
        · refine Steady.ite ?_ ?_
          · refine Steady.lit ?_ rfl rfl rfl rfl
            assumption
          · refine Steady.ite ?_ ?_
            · refine Steady.lit ?_ rfl rfl rfl rfl
              assumption
            · refine Steady.ite ?_ ?_
              · exact writeDma_steady _ _ _ (by assumption)
              · refine Steady.ite ?_ ?_
                · exact writeMsix_steady _ _ _ (by assumption)
                · assumption

theorem execRegisterWrite_steady (a1 a2 a3 s) (h4 : Steady (l.1, false) z s) : SteadyX (l.1, false) z (execRegisterWrite a1 a2 a3 s) := by
  unfold execRegisterWrite
  extract_lets -underBinder -merge -useContext +onlyGivenNames x1
  refine SteadyX.ite ?_ ?_
  · exact SteadyX.next (by assumption)
  · refine SteadyX.ite ?_ ?_
    · extract_lets -underBinder -merge -useContext +onlyGivenNames x2
      refine guarded_steady _ _ _ _ _ (fun _ _ => ?_) ?_
      · exact writeBar0_steady _ _ _ (by assumption)
      · assumption
    · refine SteadyX.ite ?_ ?_
      · refine guarded_steady _ _ _ _ _ (fun _ _ => ?_) ?_
        · exact writeCmb_steady _ _ _ (by assumption)
        · assumption
      · exact SteadyX.next (by assumption)

theorem bodyDiagRegRead_steady (a1 a2 a3) : SteadyB l (bodyDiagRegRead a1 a2 a3) := by
  unfold bodyDiagRegRead
  exact readBody_steady _ _ _ _

theorem execSmbusWakeWrite_steady (a1 s) (h2 : Steady l z s) : SteadyX l z (execSmbusWakeWrite a1 s) := by
  unfold execSmbusWakeWrite
  refine SteadyX.next ?_
  refine Steady.ite ?_ ?_
  · refine Steady.lit ?_ rfl rfl rfl rfl
    assumption
  · assumption

theorem execSmbusResetWrite_steady (a1 s) (h2 : Steady l z s) : SteadyX l z (execSmbusResetWrite a1 s) := by
  unfold execSmbusResetWrite
  refine SteadyX.next ?_
  refine Steady.ite ?_ ?_
  · refine Steady.lit ?_ rfl rfl rfl rfl
    assumption
  · assumption

theorem execSmbusTimeout_steady (s) (h1 : Steady l z s) : SteadyX l z (execSmbusTimeout s) := by
  unfold execSmbusTimeout
  refine SteadyX.next ?_
  refine Steady.lit ?_ rfl rfl rfl rfl
  assumption

end Sys2Proof.Machine
end

