-- ==== Sys2Proof/Laws/Steady/Power.lean ====
section
/-! SUPPORT. What the operations of Machine/Power keep (Laws/Steady). -/

namespace Sys2Proof.Machine

variable {l : Bool × Bool} {z s t : State}

theorem setDomain_steady (a1 a2 s) (h3 : Steady l z s) : Steady l z (setDomain a1 a2 s) := by
  unfold setDomain
  refine Steady.lit ?_ rfl rfl rfl rfl
  assumption

theorem octalDown_steady (a1 s) (h2 : Steady l z s) : Steady l z (octalDown a1 s) := by
  unfold octalDown
  refine Steady.each ?_ fun _ _ _ => ?_
  · assumption
  · exact linkDown_steady _ _ (by assumption)

theorem clearReady_steady (a1 s) (h2 : Steady l z s) : Steady l z (clearReady a1 s) := by
  unfold clearReady
  refine Steady.lit ?_ rfl rfl rfl rfl
  assumption

theorem queuePower_steady (a1 s) (h2 : Steady l z s) : Steady l z (queuePower a1 s) := by
  unfold queuePower
  refine Steady.lit ?_ rfl rfl rfl rfl
  assumption

theorem goStep_steady (a1 a2 s) (h3 : Steady l z s) : Steady l z (goStep a1 a2 s) := by
  unfold goStep
  refine Steady.lit ?_ rfl rfl rfl rfl
  assumption

theorem holdNeighbours_steady (a1 s) (h2 : Steady l z s) : Steady l z (holdNeighbours a1 s) := by
  unfold holdNeighbours
  refine Steady.each ?_ fun _ _ _ => ?_
  · assumption
  · refine Steady.ite ?_ ?_
    · exact goStep_steady _ _ _ (by assumption)
    · assumption

theorem slowTo_steady (a1 a2 s) (h3 : Steady l z s) : Steady l z (slowTo a1 a2 s) := by
  unfold slowTo
  extract_lets -underBinder -merge -useContext +onlyGivenNames x1
  have h2 : Steady l z x1 := by
    refine holdNeighbours_steady _ _ ?_
    exact goStep_steady _ _ _ (by assumption)
  try clear_value x1
  refine Steady.each ?_ fun _ _ _ => ?_
  · assumption
  · exact holdNeighbours_steady _ _ (by assumption)

theorem execDvfsStepComplete_steady (a1 s2) (h2 : Steady l z s2) : SteadyX l z (execDvfsStepComplete a1 s2) := by
  unfold execDvfsStepComplete
  split
  · refine SteadyX.next ?_
    assumption
  · extract_lets -underBinder -merge -useContext +onlyGivenNames x1
    refine SteadyX.ite ?_ ?_
    · refine SteadyX.next ?_
      assumption
    · extract_lets -underBinder -merge -useContext +onlyGivenNames x2
      have h3 : Steady l z x2 := by
        exact refillCredit_steady _ _ (by assumption)
      try clear_value x2
      refine SteadyX.next ?_
      refine raise_steady _ _ ?_
      refine Steady.lit ?_ rfl rfl rfl rfl
      assumption

theorem capAction_steady (a1 s) (h2 : Steady l z s) : SteadyO l z (capAction a1 s) := by
  unfold capAction
  refine SteadyO.ite ?_ ?_
  · refine SteadyO.some ?_
    extract_lets -underBinder -merge -useContext +onlyGivenNames x1
    have h2 : Steady l z x1 := by
      exact setCeiling_steady _ _ (by assumption)
    try clear_value x1
    refine Steady.lit ?_ rfl rfl rfl rfl
    assumption
  · split
    · refine SteadyO.some ?_
      extract_lets -underBinder -merge -useContext +onlyGivenNames x3
      have h4 : Steady l z x3 := by
        exact goStep_steady _ _ _ (by assumption)
      try clear_value x3
      refine Steady.lit ?_ rfl rfl rfl rfl
      assumption
    · exact SteadyO.none

theorem execCapActionUndo_steady (s) (h1 : Steady l z s) : SteadyX l z (execCapActionUndo s) := by
  unfold execCapActionUndo
  refine SteadyX.ite ?_ ?_
  · exact SteadyX.next (by assumption)
  · extract_lets -underBinder -merge -useContext +onlyGivenNames x1 x2
    have h3 : Steady l z x2 := by
      refine Steady.lit ?_ rfl rfl rfl rfl
      assumption
    try clear_value x2
    extract_lets -underBinder -merge -useContext +onlyGivenNames x4
    extract_lets -underBinder -merge -useContext +onlyGivenNames x5
    extract_lets -underBinder -merge -useContext +onlyGivenNames x6 x7
    have h8 : Steady l z x7 := by
      refine Steady.lit ?_ rfl rfl rfl rfl
      assumption
    try clear_value x7
    refine SteadyX.next ?_
    try clear_value x5
    split
    · exact goStep_steady _ _ _ (by assumption)
    · refine Steady.ite ?_ ?_
      · exact setCeiling_steady _ _ (by assumption)
      · assumption

theorem execCapUnmet_steady (s) (h1 : Steady l z s) : SteadyX l z (execCapUnmet s) := by
  unfold execCapUnmet
  refine SteadyX.next ?_
  refine Steady.ite ?_ ?_
  · refine Steady.lit ?_ rfl rfl rfl rfl
    assumption
  · assumption

theorem sampleCond_steady (a1 a2 s) (h3 : Steady l z s) : Steady l z (sampleCond a1 a2 s) := by
  unfold sampleCond
  refine Steady.lit ?_ rfl rfl rfl rfl
  assumption

theorem sampleConds_steady (s) (h1 : Steady l z s) : Steady l z (sampleConds s) := by
  unfold sampleConds
  extract_lets -underBinder -merge -useContext +onlyGivenNames x1
  have h2 : Steady l z x1 := by
    refine Steady.each ?_ fun _ _ _ => ?_
    · assumption
    · refine sampleCond_steady _ _ _ ?_
      exact sampleCond_steady _ _ _ (by assumption)
  try clear_value x1
  refine Steady.each ?_ fun _ _ _ => ?_
  · assumption
  · exact sampleCond_steady _ _ _ (by assumption)

theorem Steady.capRuns (h : Steady l z s) (a b : Nat) (c : Bool) :
    Steady l z { s with
      power.overRun := a
      power.underRun := b
      power.capUnmet := c } := Steady.lit h rfl rfl rfl rfl

theorem beginShed_steady (a1 s) (h2 : Steady l z s) : Steady l z (beginShed a1 s) := by
  unfold beginShed
  refine Steady.ite ?_ ?_
  · assumption
  · refine raise_steady _ _ ?_
    refine Steady.lit ?_ rfl rfl rfl rfl
    assumption

theorem thermalSlow_steady (a1 s) (h2 : Steady l z s) : Steady l z (thermalSlow a1 s) := by
  unfold thermalSlow
  extract_lets -underBinder -merge -useContext +onlyGivenNames x1
  have h2 : Steady l z x1 := by
    exact slowTo_steady _ _ _ (by assumption)
  try clear_value x1
  refine Steady.lit ?_ rfl rfl rfl rfl
  assumption

theorem thermalAction_steady (s) (h1 : Steady l z s) : SteadyO l z (thermalAction s) := by
  unfold thermalAction
  extract_lets -underBinder -merge -useContext +onlyGivenNames x1
  extract_lets -underBinder -merge -useContext +onlyGivenNames x2
  extract_lets -underBinder -merge -useContext +onlyGivenNames x3
  extract_lets -underBinder -merge -useContext +onlyGivenNames x4
  try clear_value x1
  try clear_value x2
  split
  · refine SteadyO.some ?_
    exact beginShed_steady _ _ (by assumption)
  · refine SteadyO.some ?_
    exact beginShed_steady _ _ (by assumption)
  · refine SteadyO.ite ?_ ?_
    · exact SteadyO.some (setCeiling_steady _ _ (Steady.each h1 fun _ _ h => Steady.ite (raise_steady _ _ h) h))
    · try clear_value x3
      split
      · refine SteadyO.some ?_
        refine thermalSlow_steady _ _ ?_
        refine Steady.ite ?_ ?_
        · assumption
        · exact raise_steady _ _ (Steady.lit h1 rfl rfl rfl rfl)
      · try clear_value x4
        split
        · refine SteadyO.some ?_
          refine raise_steady _ _ ?_
          refine thermalSlow_steady _ _ ?_
          refine Steady.lit ?_ rfl rfl rfl rfl
          assumption
        · refine SteadyO.ite ?_ ?_
          · refine SteadyO.some ?_
            exact setCeiling_steady _ _ (by assumption)
          · exact SteadyO.none

theorem thermalTrip_steady (s) (h1 : Steady l z s) : Steady l z (thermalTrip s) := by
  unfold thermalTrip
  refine Steady.lit ?_ rfl rfl rfl rfl
  assumption

theorem execCalderaPeriod_steady (a1 s) (h2 : Steady l z s) : SteadyX l z (execCalderaPeriod a1 s) := by
  unfold execCalderaPeriod
  refine SteadyX.ite ?_ ?_
  · exact SteadyX.next (by assumption)
  · extract_lets -underBinder -merge -useContext +onlyGivenNames x1
    extract_lets -underBinder -merge -useContext +onlyGivenNames x2
    have h3 : Steady l z x2 := by
      refine Steady.each ?_ fun _ _ _ => ?_
      · assumption
      · refine Steady.ite ?_ ?_
        · exact raise_steady _ _ (by assumption)
        · assumption
    try clear_value x2
    extract_lets -underBinder -merge -useContext +onlyGivenNames x4 x5
    have h6 : Steady l z x5 := by
      refine sampleConds_steady _ ?_
      refine Steady.lit ?_ rfl rfl rfl rfl
      assumption
    try clear_value x5
    refine SteadyX.ite ?_ ?_
    · refine SteadyX.next ?_
      exact thermalTrip_steady _ (by assumption)
    · extract_lets -underBinder -merge -useContext +onlyGivenNames x7
      have h8 : Steady l z x7 := by
        refine Steady.each ?_ fun _ _ _ => ?_
        · assumption
        · refine Steady.lit ?_ rfl rfl rfl rfl
          assumption
      try clear_value x7
      extract_lets -underBinder -merge -useContext +onlyGivenNames x9
      extract_lets -underBinder -merge -useContext +onlyGivenNames x10 x11
      have h12 : Steady l z x11 := by
        exact settleLevels_steady _ (Steady.capRuns h8 _ _ _)
      try clear_value x11
      refine SteadyX.ite ?_ ?_
      · exact SteadyX.next (by assumption)
      · split
        · rename_i v13 q14
          have h15 : Steady l z v13 := by
            refine SteadyO.get q14 ?_
            exact thermalAction_steady _ (by assumption)
          refine SteadyX.next ?_
          refine Steady.lit ?_ rfl rfl rfl rfl
          assumption
        · refine SteadyX.ite ?_ ?_
          · exact SteadyX.next (by assumption)
          · split
            · rename_i v17 q18
              have h19 : Steady l z v17 := by
                refine SteadyO.get q18 ?_
                exact capAction_steady _ _ (by assumption)
              refine SteadyX.next ?_
              refine Steady.lit ?_ rfl rfl rfl rfl
              assumption
            · exact SteadyX.next (by assumption)

theorem execThermalHoldClear_steady (a1 s) (h2 : Steady l z s) : SteadyX l z (execThermalHoldClear a1 s) := by
  unfold execThermalHoldClear
  refine SteadyX.next ?_
  refine Steady.ite ?_ ?_
  · refine Steady.lit ?_ rfl rfl rfl rfl
    assumption
  · assumption

theorem finishShed_steady (a1 s) (h2 : Steady l z s) : Steady l z (finishShed a1 s) := by
  unfold finishShed
  extract_lets -underBinder -merge -useContext +onlyGivenNames x1 x2
  have h3 : Steady l z x2 := by
    refine Steady.lit ?_ rfl rfl rfl rfl
    assumption
  try clear_value x2
  extract_lets -underBinder -merge -useContext +onlyGivenNames x4
  have h5 : Steady l z x4 := by
    refine Steady.each ?_ fun _ _ _ => ?_
    · assumption
    · exact octalDown_steady _ _ (by assumption)
  try clear_value x4
  extract_lets -underBinder -merge -useContext +onlyGivenNames x6
  have h7 : Steady l z x6 := by
    refine Steady.each ?_ fun _ _ _ => ?_
    · assumption
    · refine Steady.ite ?_ ?_
      · exact setDomain_steady _ _ _ (by assumption)
      · assumption
  try clear_value x6
  refine slowTo_steady _ _ _ ?_
  exact clearReady_steady _ _ (by assumption)

theorem execShedNoticeEnd_steady (a1 s) (h2 : Steady l z s) : SteadyX l z (execShedNoticeEnd a1 s) := by
  unfold execShedNoticeEnd
  refine SteadyX.next ?_
  refine Steady.ite ?_ ?_
  · refine finishShed_steady _ _ ?_
    exact flushRegion_steady _ _ (by assumption)
  · assumption

theorem execShedReturn_steady (a1 s) (h2 : Steady l z s) : SteadyX l z (execShedReturn a1 s) := by
  unfold execShedReturn
  refine SteadyX.next ?_
  refine Steady.ite ?_ ?_
  · extract_lets -underBinder -merge -useContext +onlyGivenNames x1 x2
    have h3 : Steady l z x2 := by
      refine emptyTarn_steady _ _ ?_
      refine Steady.lit ?_ rfl rfl rfl rfl
      assumption
    try clear_value x2
    refine raise_steady _ _ ?_
    exact queuePower_steady _ _ (by assumption)
  · assumption

theorem endTransition_steady (s) (h1 : Steady l z s) : Steady l z (endTransition s) := by
  unfold endTransition
  refine raise_steady _ _ ?_
  refine Steady.lit ?_ rfl rfl rfl rfl
  assumption

theorem applyParking_steady (a1 a2 a3 s) (h4 : Steady l z s) : Steady l z (applyParking a1 a2 a3 s) := by
  unfold applyParking
  extract_lets -underBinder -merge -useContext +onlyGivenNames x1
  extract_lets -underBinder -merge -useContext +onlyGivenNames x2
  extract_lets -underBinder -merge -useContext +onlyGivenNames x3
  have h4 : Steady l z x3 := by
    refine Steady.each ?_ fun _ _ _ => ?_
    · assumption
    · refine clearReady_steady _ _ ?_
      refine setDomain_steady _ _ _ ?_
      exact octalDown_steady _ _ (by assumption)
  try clear_value x3
  refine queuePower_steady _ _ ?_
  refine Steady.lit ?_ rfl rfl rfl rfl
  assumption

theorem execParkRetentionEntry_steady (a1 s) (h2 : Steady l z s) : SteadyX l z (execParkRetentionEntry a1 s) := by
  unfold execParkRetentionEntry
  extract_lets -underBinder -merge -useContext +onlyGivenNames x1
  have h6 : ∀ y2 y3 y4, Steady l z y4 → Steady l z (x1 y2 y3 y4) := by
    intro y2 y3 y4 h5
    unfold x1
    refine Steady.ite ?_ ?_
    · refine clearReady_steady _ _ ?_
      exact setDomain_steady _ _ _ (by assumption)
    · assumption
  try clear_value x1
  refine SteadyX.next ?_
  apply_assumption
  · apply_assumption
    · assumption

theorem enterFull_steady (s) (h1 : Steady l z s) : Steady l z (enterFull s) := by
  unfold enterFull
  have a := applyParking_steady 0 0 0 { s with power.mode := .full } (Steady.lit h1 rfl rfl rfl rfl)
  generalize applyParking 0 0 0 _ = t at a ⊢
  dsimp only
  refine endTransition_steady _ ?_
  generalize hu : setCeiling 232 _ = u
  have : Steady l z u := by
    rw [← hu]
    refine setCeiling_steady _ _ (Steady.each (Steady.each a fun r t h => ?_) fun r t h => holdNeighbours_steady r t h)
    exact Steady.ite h (goStep_steady r 0 t h)
  exact Steady.lit this rfl rfl rfl rfl

theorem beginMove_steady (a1 a2 a3 s) (h4 : Steady l z s) : Steady l z (beginMove a1 a2 a3 s) := by
  unfold beginMove
  split
  · refine Steady.lit ?_ rfl rfl rfl rfl
    assumption
  · exact enterFull_steady _ (by assumption)
  · refine Steady.lit ?_ rfl rfl rfl rfl
    assumption
  · refine endTransition_steady _ ?_
    refine Steady.lit ?_ rfl rfl rfl rfl
    assumption
  · refine raise_steady _ _ ?_
    refine Steady.lit ?_ rfl rfl rfl rfl
    assumption

theorem schedAction_steady (a1 s) (h2 : Steady l z s) : SteadyO l z (schedAction a1 s) := by
  unfold schedAction
  split
  · refine SteadyO.ite ?_ ?_
    · refine SteadyO.some ?_
      exact beginMove_steady _ _ _ _ (by assumption)
    · exact SteadyO.none
  · refine SteadyO.ite ?_ ?_
    · refine SteadyO.some ?_
      exact beginMove_steady _ _ _ _ (by assumption)
    · exact SteadyO.none
  · refine SteadyO.ite ?_ ?_
    · refine SteadyO.some ?_
      exact beginMove_steady _ _ _ _ (by assumption)
    · exact SteadyO.none
  · refine SteadyO.ite ?_ ?_
    · exact SteadyO.none
    · refine SteadyO.some ?_
      refine Steady.lit ?_ rfl rfl rfl rfl
      assumption

theorem actOrSkip_steady (a1 s) (h2 : Steady l z s) : Steady l z (actOrSkip a1 s) := by
  unfold actOrSkip
  split
  · rename_i v1 q2
    have h3 : Steady l z v1 := by
      refine SteadyO.get q2 ?_
      exact schedAction_steady _ _ (by assumption)
    assumption
  · refine raise_steady _ _ ?_
    refine Steady.lit ?_ rfl rfl rfl rfl
    assumption

theorem runDeferred_steady (a1 s) (h2 : Steady l z s) : Steady l z (runDeferred a1 s) := by
  induction a1 generalizing s with
  | nil => exact Steady.lit h2 rfl rfl rfl rfl
  | cons k ks ih =>
    unfold runDeferred
    split
    · exact Steady.lit h2 rfl rfl rfl rfl
    · exact ih _ (actOrSkip_steady _ _ h2)

theorem execReducedProfileApply_steady (s) (h1 : Steady l z s) : SteadyX l z (execReducedProfileApply s) := by
  unfold execReducedProfileApply
  refine SteadyX.ite ?_ ?_
  · exact SteadyX.next (by assumption)
  · extract_lets -underBinder -merge -useContext +onlyGivenNames x1
    extract_lets -underBinder -merge -useContext +onlyGivenNames x2
    extract_lets -underBinder -merge -useContext +onlyGivenNames x3 x4
    have h5 : Steady l z x4 := by
      refine applyParking_steady _ _ _ _ ?_
      refine Steady.lit ?_ rfl rfl rfl rfl
      assumption
    try clear_value x4
    extract_lets -underBinder -merge -useContext +onlyGivenNames x6
    have h7 : Steady l z x6 := by
      refine Steady.each ?_ fun _ _ _ => ?_
      · assumption
      · refine Steady.ite ?_ ?_
        · exact slowTo_steady _ _ _ (by assumption)
        · assumption
    try clear_value x6
    extract_lets -underBinder -merge -useContext +onlyGivenNames x8
    have h9 : Steady l z x8 := by
      exact endTransition_steady _ (by assumption)
    try clear_value x8
    refine SteadyX.next ?_
    exact runDeferred_steady _ _ (by assumption)

theorem execScheduleEntryDue_steady (a1 s) (h2 : Steady l z s) : SteadyX l z (execScheduleEntryDue a1 s) := by
  unfold execScheduleEntryDue
  extract_lets -underBinder -merge -useContext +onlyGivenNames x1
  refine SteadyX.ite ?_ ?_
  · exact SteadyX.next (by assumption)
  · extract_lets -underBinder -merge -useContext +onlyGivenNames x2
    extract_lets -underBinder -merge -useContext +onlyGivenNames x3 x4
    have h5 : Steady l z x4 := by
      refine Steady.lit ?_ rfl rfl rfl rfl
      assumption
    try clear_value x4
    extract_lets -underBinder -merge -useContext +onlyGivenNames x6
    have h9 : ∀ y7, Steady l z y7 → Steady l z (x6 y7) := by
      intro y7 h8
      unfold x6
      refine Steady.lit ?_ rfl rfl rfl rfl
      assumption
    try clear_value x6
    refine SteadyX.ite ?_ ?_
    · split
      · refine SteadyX.next ?_
        apply_assumption
        · refine Steady.lit ?_ rfl rfl rfl rfl
          assumption
      · refine SteadyX.next ?_
        apply_assumption
        · refine Steady.lit ?_ rfl rfl rfl rfl
          assumption
      · exact SteadyX.next (by assumption)
      · refine SteadyX.next ?_
        apply_assumption
        · assumption
    · refine SteadyX.ite ?_ ?_
      · refine SteadyX.next ?_
        apply_assumption
        · assumption
      · refine SteadyX.next ?_
        exact actOrSkip_steady _ _ (by assumption)

theorem execDormantDrainEnd_steady (s) (h1 : Steady l z s) : SteadyX l z (execDormantDrainEnd s) := by
  unfold execDormantDrainEnd
  refine SteadyX.ite ?_ ?_
  · exact SteadyX.next (by assumption)
  · split
    · rename_i v1 v2 q3
      have h4 : Steady l z v1 := by
        refine SteadyL.get q3 ?_
        exact dropAllFrames_steady _ (by assumption)
      extract_lets -underBinder -merge -useContext +onlyGivenNames x5
      have h6 : Steady l z x5 := by
        refine Steady.each ?_ fun _ _ _ => ?_
        · assumption
        · exact octalDown_steady _ _ (by assumption)
      try clear_value x5
      extract_lets -underBinder -merge -useContext +onlyGivenNames x7
      have h8 : Steady l z x7 := by
        refine Steady.each ?_ fun _ _ _ => ?_
        · assumption
        · exact setDomain_steady _ _ _ (by assumption)
      try clear_value x7
      refine SteadyX.next ?_
      refine clearReady_steady _ _ ?_
      refine Steady.lit ?_ rfl rfl rfl rfl
      assumption

theorem enterDormant_steady (s1) (h1 : Steady l z s1) : Steady l z (enterDormant s1) := by
  unfold enterDormant
  extract_lets -underBinder -merge -useContext +onlyGivenNames x1
  have h2 : Steady l z x1 := by
    refine hostReset_steady _ _ _ ?_
    refine firmwareReset_steady _ _ ?_
    exact emptyFlowDie_steady _ (by assumption)
  try clear_value x1
  refine Steady.lit ?_ rfl rfl rfl rfl
  assumption

theorem execDormantFlushComplete_steady (s) (h1 : Steady l z s) : SteadyX l z (execDormantFlushComplete s) := by
  unfold execDormantFlushComplete
  have h := endItems_steady _ (Steady.each (xs := regions) h1 fun r t h => flushRegion_steady r t h)
  generalize endItems _ = t at h ⊢
  exact SteadyX.ite (SteadyX.next h1) (SteadyX.next (Steady.ite (Steady.lit h rfl rfl rfl rfl) (enterDormant_steady _ h)))

theorem execSelfRefreshEntry_steady (a1 s2) (h2 : Steady l z s2) : SteadyX l z (execSelfRefreshEntry a1 s2) := by
  unfold execSelfRefreshEntry
  refine SteadyX.ite ?_ ?_
  · refine SteadyX.next ?_
    assumption
  · extract_lets -underBinder -merge -useContext +onlyGivenNames x1
    extract_lets -underBinder -merge -useContext +onlyGivenNames x2
    have h3 : Steady l z x2 := by
      refine setStack_steady _ _ _ ?_
      refine Steady.lit ?_ rfl rfl rfl rfl
      assumption
    try clear_value x2
    refine SteadyX.next ?_
    refine Steady.ite ?_ ?_
    · assumption
    · exact enterDormant_steady _ (by assumption)

theorem execWake_steady (a1 a2 s) (h3 : Steady l z s) : SteadyX l z (execWake a1 a2 s) := by
  unfold execWake
  refine SteadyX.ite ?_ ?_
  · exact SteadyX.next (by assumption)
  · extract_lets -underBinder -merge -useContext +onlyGivenNames x1 x2
    have h3 : Steady l z x2 := by
      refine resumeFilter_steady _ ?_
      refine Steady.lit ?_ rfl rfl rfl rfl
      assumption
    try clear_value x2
    refine SteadyX.ite ?_ ?_
    · refine SteadyX.next ?_
      refine Steady.lit ?_ rfl rfl rfl rfl
      assumption
    · refine SteadyX.next ?_
      refine queuePower_steady _ _ ?_
      refine Steady.lit ?_ rfl rfl rfl rfl
      assumption

theorem execWakeComplete_steady (a1 s2) (h2 : Steady l z s2) : SteadyX l z (execWakeComplete a1 s2) := by
  unfold execWakeComplete
  refine SteadyX.ite ?_ ?_
  · refine SteadyX.next ?_
    assumption
  · refine SteadyX.ite ?_ ?_
    · refine SteadyX.next ?_
      refine Steady.lit ?_ rfl rfl rfl rfl
      assumption
    · extract_lets -underBinder -merge -useContext +onlyGivenNames x1
      extract_lets -underBinder -merge -useContext +onlyGivenNames x2
      extract_lets -underBinder -merge -useContext +onlyGivenNames x3
      extract_lets -underBinder -merge -useContext +onlyGivenNames x4
      have h5 : Steady l z x4 := by
        refine raise_steady _ _ ?_
        refine raise_steady _ _ ?_
        refine Steady.lit ?_ rfl rfl rfl rfl
        assumption
      try clear_value x4
      extract_lets -underBinder -merge -useContext +onlyGivenNames x6
      have h7 : Steady l z x6 := by
        refine Steady.ite ?_ ?_
        · exact setCeiling_steady _ _ (by assumption)
        · assumption
      try clear_value x6
      refine SteadyX.next ?_
      exact runDeferred_steady _ _ (by assumption)

theorem bodyPwrModeSet_steady (a1 a2 a3 a4) : SteadyB l (bodyPwrModeSet a1 a2 a3 a4) := by
  unfold bodyPwrModeSet
  refine writeBody_steady _ _ _ _ (fun z _ _ => ?_)
  exact beginMove_steady _ _ _ _ (by assumption)

theorem bodyPwrCapSet_steady (a1 a2 a3) : SteadyB l (bodyPwrCapSet a1 a2 a3) := by
  unfold bodyPwrCapSet
  refine SteadyB.mk fun z _ _ => ?_
  refine SteadyA.ite ?_ ?_
  · exact SteadyA.mk (by assumption)
  · refine SteadyA.mk ?_
    refine Steady.lit ?_ rfl rfl rfl rfl
    assumption

theorem bodyPwrLimitsSet_steady (a1 a2) : SteadyB (false, l.2) (bodyPwrLimitsSet a1 a2) := by
  unfold bodyPwrLimitsSet
  extract_lets -underBinder -merge -useContext +onlyGivenNames x1 x2 x3 x4 x5
  refine SteadyB.mk fun _ _ h => SteadyA.ite (SteadyA.mk h) (SteadyA.mk ?_)
  exact Steady.litLimits h rfl rfl rfl

theorem bodyPwrReducedProfileWrite_steady (a1 a2) : SteadyB l (bodyPwrReducedProfileWrite a1 a2) := by
  unfold bodyPwrReducedProfileWrite
  refine writeBody_steady _ _ _ _ (fun z _ _ => ?_)
  refine Steady.lit ?_ rfl rfl rfl rfl
  assumption

theorem bodyPwrScheduleWrite_steady (a1 a2) : SteadyB l (bodyPwrScheduleWrite a1 a2) := by
  unfold bodyPwrScheduleWrite
  refine writeBody_steady _ _ _ _ (fun z _ _ => ?_)
  extract_lets -underBinder -merge -useContext +onlyGivenNames x1
  refine Steady.lit ?_ rfl rfl rfl rfl
  assumption

theorem bodyPwrWakeConfig_steady (a1 a2) : SteadyB l (bodyPwrWakeConfig a1 a2) := by
  unfold bodyPwrWakeConfig
  refine writeBody_steady _ _ _ _ (fun z _ _ => ?_)
  refine Steady.lit ?_ rfl rfl rfl rfl
  assumption

theorem bodyPwrStatus_steady (a1) : SteadyB l (bodyPwrStatus a1) := by
  unfold bodyPwrStatus
  exact readBody_steady _ _ _ _

end Sys2Proof.Machine
end

