-- ==== Sys2Proof/Laws/Steady/Faults.lean ====
section
/-! SUPPORT. What the operations of Machine/Faults keep (Laws/Steady). -/

namespace Sys2Proof.Machine

variable {l : Bool × Bool} {z s t : State}

theorem logFault_steady (a1 a2 a3 a4 a5 s) (h6 : Steady l z s) : Steady l z (logFault a1 a2 a3 a4 a5 s) := by
  unfold logFault
  refine Steady.lit ?_ rfl rfl rfl rfl
  assumption

theorem abortFrames_steady (s) (h1 : Steady l z s) : Steady l z (abortFrames s) := by
  unfold abortFrames
  refine Steady.each ?_ fun _ _ _ => ?_
  · assumption
  · split
    · refine Steady.ite ?_ ?_
      · refine Steady.lit ?_ rfl rfl rfl rfl
        assumption
      · assumption
    · assumption

theorem abortCells_steady (s1) (h1 : Steady l z s1) : Steady l z (abortCells s1) := by
  unfold abortCells
  refine Steady.each ?_ fun _ _ _ => ?_
  · assumption
  · refine Steady.each ?_ fun _ _ _ => ?_
    · assumption
    · extract_lets -underBinder -merge -useContext +onlyGivenNames x1
      refine countPoison_steady _ _ ?_
      exact emit_steady _ _ _ _ (by assumption)

theorem loseFramesAll_steady (s) (h1 : Steady l z s) : Steady l z (loseFramesAll s) := by
  unfold loseFramesAll
  extract_lets -underBinder -merge -useContext +onlyGivenNames x1
  have h2 : Steady l z x1 := by
    refine SteadyL.proj ?_
    refine dropAllFrames_steady _ ?_
    refine abortCells_steady _ ?_
    exact abortFrames_steady _ (by assumption)
  try clear_value x1
  refine Steady.lit ?_ rfl rfl rfl rfl
  assumption

theorem machineCheck_steady (a1 a2 a3 s) (h4 : Steady l z s) : Steady l z (machineCheck a1 a2 a3 s) := by
  unfold machineCheck
  refine Steady.ite ?_ ?_
  · assumption
  · extract_lets -underBinder -merge -useContext +onlyGivenNames x1
    extract_lets -underBinder -merge -useContext +onlyGivenNames x2
    extract_lets -underBinder -merge -useContext +onlyGivenNames x3
    have h4 : Steady l z x3 := by
      exact loseFramesAll_steady _ (by assumption)
    try clear_value x3
    refine Steady.lit ?_ rfl rfl rfl rfl
    assumption

theorem execChipMachineCheck_steady (a1 a2 s) (h3 : Steady l z s) : SteadyX l z (execChipMachineCheck a1 a2 s) := by
  unfold execChipMachineCheck
  refine SteadyX.next ?_
  refine Steady.ite ?_ ?_
  · exact machineCheck_steady _ _ _ _ (by assumption)
  · assumption

theorem execFirmwareWatchdog_steady (s) (h1 : Steady l z s) : SteadyX l z (execFirmwareWatchdog s) := by
  unfold execFirmwareWatchdog
  refine SteadyX.next ?_
  refine Steady.ite ?_ ?_
  · exact machineCheck_steady _ _ _ _ (by assumption)
  · assumption

theorem execRegulatorFault_steady (a1 s) (h2 : Steady l z s) : SteadyX l z (execRegulatorFault a1 s) := by
  unfold execRegulatorFault
  refine SteadyX.next ?_
  refine Steady.ite ?_ ?_
  · exact machineCheck_steady _ _ _ _ (by assumption)
  · assumption

theorem restartItem_steady (a1 a2 s) (h3 : Steady l z s) : Steady l z (restartItem a1 a2 s) := by
  unfold restartItem
  split
  · assumption
  · extract_lets -underBinder -merge -useContext +onlyGivenNames x1
    extract_lets -underBinder -merge -useContext +onlyGivenNames x2
    have h3 : Steady l z x2 := by
      exact State.setItem_steady _ _ _ (by assumption)
    try clear_value x2
    extract_lets -underBinder -merge -useContext +onlyGivenNames x4 x5
    have h6 : Steady l z x5 := by
      refine Steady.lit ?_ rfl rfl rfl rfl
      assumption
    try clear_value x5
    refine Steady.ite ?_ ?_
    · exact State.setEngine_steady _ _ _ (by assumption)
    · assumption

theorem restartCluster_steady (a1 a2 s) (h3 : Steady l z s) : Steady l z (restartCluster a1 a2 s) := by
  unfold restartCluster
  extract_lets -underBinder -merge -useContext +onlyGivenNames x1
  refine Steady.each ?_ fun _ _ _ => ?_
  · assumption
  · exact restartItem_steady _ _ _ (by assumption)

theorem shedByFault_steady (a1 s) (h2 : Steady l z s) : Steady l z (shedByFault a1 s) := by
  unfold shedByFault
  refine Steady.ite ?_ ?_
  · assumption
  · extract_lets -underBinder -merge -useContext +onlyGivenNames x1
    extract_lets -underBinder -merge -useContext +onlyGivenNames x2 x3
    have h4 : Steady l z x3 := by
      refine beginShed_steady _ _ ?_
      refine Steady.lit ?_ rfl rfl rfl rfl
      assumption
    try clear_value x3
    extract_lets -underBinder -merge -useContext +onlyGivenNames x5
    have h6 : Steady l z x5 := by
      refine Steady.ite ?_ ?_
      · assumption
      · refine finishShed_steady _ _ ?_
        refine Steady.ite ?_ ?_
        · exact flushRegion_steady _ _ (by assumption)
        · assumption
    try clear_value x5
    exact raise_steady _ _ (by assumption)

theorem blockAction_steady (a1 s2) (h2 : Steady l z s2) : Steady l z (blockAction a1 s2) := by
  unfold blockAction
  refine Steady.ite ?_ ?_
  · refine failPort_steady _ _ ?_
    exact octalDown_steady _ _ (by assumption)
  · refine Steady.ite ?_ ?_
    · refine octalDown_steady _ _ ?_
      exact octalDown_steady _ _ (by assumption)
    · refine Steady.ite ?_ ?_
      · refine octalDown_steady _ _ ?_
        exact octalDown_steady _ _ (by assumption)
      · refine Steady.ite ?_ ?_
        · assumption
        · refine Steady.ite ?_ ?_
          · exact shedByFault_steady _ _ (by assumption)
          · refine Steady.ite ?_ ?_
            · exact restartCluster_steady _ _ _ (by assumption)
            · refine Steady.ite ?_ ?_
              · exact restartCluster_steady _ _ _ (by assumption)
              · refine Steady.ite ?_ ?_
                · refine setStack_steady _ _ _ ?_
                  refine Steady.ite ?_ ?_
                  · assumption
                  · exact raise_steady _ _ (by assumption)
                · refine Steady.ite ?_ ?_
                  · refine shedByFault_steady _ _ ?_
                    exact resumeTables_steady _ (by assumption)
                  · assumption

theorem failOne_steady (a1 s) (h2 : Steady l z s) : Steady l z (failOne a1 s) := by
  unfold failOne
  refine Steady.ite ?_ ?_
  · assumption
  · extract_lets -underBinder -merge -useContext +onlyGivenNames x1 x2
    have h3 : Steady l z x2 := by
      refine Steady.lit ?_ rfl rfl rfl rfl
      assumption
    try clear_value x2
    refine blockAction_steady _ _ ?_
    exact raise_steady _ _ (by assumption)

theorem reportBlock_steady (a1 a2 s3) (h3 : Steady l z s3) : Steady l z (reportBlock a1 a2 s3) := by
  unfold reportBlock
  split
  · exact logFault_steady _ _ _ _ _ _ (by assumption)
  · exact logFault_steady _ _ _ _ _ _ (by assumption)

theorem failFunction_steady (a1 a2 s3) (h3 : Steady l z s3) : Steady l z (failFunction a1 a2 s3) := by
  unfold failFunction
  extract_lets -underBinder -merge -useContext +onlyGivenNames x1
  have h2 : Steady l z x1 := by
    refine Steady.each ?_ fun _ _ _ => ?_
    · exact logFault_steady _ _ _ _ _ _ (by assumption)
    · exact failOne_steady _ _ (by assumption)
  try clear_value x1
  refine Steady.ite ?_ ?_
  · extract_lets -underBinder -merge -useContext +onlyGivenNames x3
    refine machineCheck_steady _ _ _ _ ?_
    exact logFault_steady _ _ _ _ _ _ (by assumption)
  · exact reportBlock_steady _ _ _ (by assumption)

theorem retireLane_steady (a1 s) (h2 : Steady l z s) : Steady l z (retireLane a1 s) := by
  unfold retireLane
  extract_lets -underBinder -merge -useContext +onlyGivenNames x1
  refine Steady.ite ?_ ?_
  · assumption
  · extract_lets -underBinder -merge -useContext +onlyGivenNames x2
    extract_lets -underBinder -merge -useContext +onlyGivenNames x3
    refine Steady.ite ?_ ?_
    · assumption
    · refine Steady.ite ?_ ?_
      · extract_lets -underBinder -merge -useContext +onlyGivenNames x4
        have h5 : Steady l z x4 := by
          exact failPort_steady _ _ (by assumption)
        try clear_value x4
        exact State.setFabPort_steady _ _ _ (by assumption)
      · refine raise_steady _ _ ?_
        exact State.setFabPort_steady _ _ _ (by assumption)

theorem rehouse_steady (a1 a2 s3) (h3 : Steady l z s3) : Steady l z (rehouse a1 a2 s3) := by
  unfold rehouse
  extract_lets -underBinder -merge -useContext +onlyGivenNames x1
  extract_lets -underBinder -merge -useContext +onlyGivenNames x2
  have h3 : Steady l z x2 := by
    exact dropSinter_steady _ _ _ (by assumption)
  try clear_value x2
  extract_lets -underBinder -merge -useContext +onlyGivenNames x4
  have h5 : ∀ y6, Steady l z y6 → Steady l z (x4 y6) := by
    intro y6 h7
    unfold x4
    extract_lets -underBinder -merge -useContext +onlyGivenNames x8
    refine leakPort_steady _ _ ?_
    refine raise_steady _ _ ?_
    exact State.setRegion_steady _ _ _ (by assumption)
  try clear_value x4
  split
  · apply_assumption
    assumption
  · split
    · rename_i v9 v10 v11 q12
      have h13 : Steady l z v11 := by
        refine SteadyE.get q12 ?_
        exact createRec_steady _ _ _ _ (by assumption)
      assumption
    · rename_i v14 v15 q16
      apply_assumption
      assumption

theorem retireWay_steady (a1 s2) (h2 : Steady l z s2) : Steady l z (retireWay a1 s2) := by
  unfold retireWay
  extract_lets -underBinder -merge -useContext +onlyGivenNames x1
  extract_lets -underBinder -merge -useContext +onlyGivenNames x2
  extract_lets -underBinder -merge -useContext +onlyGivenNames x3
  have h4 : Steady l z x3 := by
    refine Steady.each ?_ fun _ _ _ => ?_
    · assumption
    · extract_lets -underBinder -merge -useContext +onlyGivenNames x5
      extract_lets -underBinder -merge -useContext +onlyGivenNames x6
      extract_lets -underBinder -merge -useContext +onlyGivenNames x7
      have h8 : Steady l z x7 := by
        exact State.setTarn_steady _ _ _ _ (by assumption)
      try clear_value x7
      refine Steady.each ?_ fun _ _ _ => ?_
      · assumption
      · split
        · refine Steady.ite ?_ ?_
          · exact rehouse_steady _ _ _ (by assumption)
          · refine Steady.ite ?_ ?_
            · exact pushWb_steady _ _ _ (by assumption)
            · assumption
        · assumption
  try clear_value x3
  exact raise_steady _ _ (by assumption)

theorem retireBank_steady (a1 s2) (h2 : Steady l z s2) : Steady l z (retireBank a1 s2) := by
  unfold retireBank
  extract_lets -underBinder -merge -useContext +onlyGivenNames x1
  extract_lets -underBinder -merge -useContext +onlyGivenNames x2
  extract_lets -underBinder -merge -useContext +onlyGivenNames x3
  extract_lets -underBinder -merge -useContext +onlyGivenNames x4
  extract_lets -underBinder -merge -useContext +onlyGivenNames x5
  extract_lets -underBinder -merge -useContext +onlyGivenNames x6
  extract_lets -underBinder -merge -useContext +onlyGivenNames x7
  extract_lets -underBinder -merge -useContext +onlyGivenNames x8
  extract_lets -underBinder -merge -useContext +onlyGivenNames x9
  split
  · refine raise_steady _ _ ?_
    refine Steady.each ?_ fun _ _ _ => ?_
    · exact State.setPipe_steady _ _ _ (by assumption)
    · exact logFault_steady _ _ _ _ _ _ (by assumption)

theorem retireEffect_steady (a1 a2 s) (h3 : Steady l z s) : Steady l z (retireEffect a1 a2 s) := by
  unfold retireEffect
  split
  · refine raise_steady _ _ ?_
    exact retireLane_steady _ _ (by assumption)
  · exact retireWay_steady _ _ (by assumption)
  · exact retireBank_steady _ _ (by assumption)
  · refine raise_steady _ _ ?_
    exact restartItem_steady _ _ _ (by assumption)
  · refine raise_steady _ _ ?_
    exact restartItem_steady _ _ _ (by assumption)
  · extract_lets -underBinder -merge -useContext +onlyGivenNames x1
    refine raise_steady _ _ ?_
    refine Steady.lit ?_ rfl rfl rfl rfl
    assumption

theorem retirePc_steady (a1 s) (h2 : Steady l z s) : Steady l z (retirePc a1 s) := by
  unfold retirePc
  extract_lets -underBinder -merge -useContext +onlyGivenNames x1
  refine Steady.ite ?_ ?_
  · assumption
  · refine Steady.ite ?_ ?_
    · exact machineCheck_steady _ _ _ _ (by assumption)
    · refine Steady.ite ?_ ?_
      · refine Steady.lit ?_ rfl rfl rfl rfl
        assumption
      · exact beginRetire_steady _ _ _ (by assumption)

theorem retireCell_steady (a1 a2 a3 s4) (h4 : Steady l z s4) : Steady l z (retireCell a1 a2 a3 s4) := by
  unfold retireCell
  refine Steady.ite ?_ ?_
  · assumption
  · refine Steady.ite ?_ ?_
    · refine retirePc_steady _ _ ?_
      exact logFault_steady _ _ _ _ _ _ (by assumption)
    · refine Steady.ite ?_ ?_
      · refine failFunction_steady _ _ _ ?_
        exact logFault_steady _ _ _ _ _ _ (by assumption)
      · extract_lets -underBinder -merge -useContext +onlyGivenNames x1
        extract_lets -underBinder -merge -useContext +onlyGivenNames x2
        have h3 : Steady l z x2 := by
          refine retireEffect_steady _ _ _ ?_
          refine recordRetired_steady _ _ _ _ ?_
          exact logFault_steady _ _ _ _ _ _ (by assumption)
        try clear_value x2
        refine Steady.ite ?_ ?_
        · exact failFunction_steady _ _ _ (by assumption)
        · assumption

theorem countCell_steady (a1 a2 a3 s) (h4 : Steady l z s) : Steady l z (countCell a1 a2 a3 s) := by
  unfold countCell
  extract_lets -underBinder -merge -useContext +onlyGivenNames x1
  extract_lets -underBinder -merge -useContext +onlyGivenNames x2 x3
  have h4 : Steady l z x3 := by
    refine logFault_steady _ _ _ _ _ _ ?_
    refine Steady.lit ?_ rfl rfl rfl rfl
    assumption
  try clear_value x3
  refine Steady.ite ?_ ?_
  · assumption
  · refine Steady.ite ?_ ?_
    · exact raise_steady _ _ (by assumption)
    · exact retireCell_steady _ _ _ _ (by assumption)

theorem resumeEngine_steady (a1 s) (h2 : Steady l z s) : Steady l z (resumeEngine a1 s) := by
  unfold resumeEngine
  refine askWork_steady _ _ ?_
  exact State.setEngine_steady _ _ _ (by assumption)

theorem cellError_steady (a1 a2 a3 a4 s) (h5 : Steady l z s) : Steady l z (cellError a1 a2 a3 a4 s) := by
  unfold cellError
  extract_lets -underBinder -merge -useContext +onlyGivenNames x1
  have h2 : Steady l z x1 := by
    exact useInjected_steady _ _ _ (by assumption)
  try clear_value x1
  refine Steady.ite ?_ ?_
  · exact logFault_steady _ _ _ _ _ _ (by assumption)
  · extract_lets -underBinder -merge -useContext +onlyGivenNames x3
    have h4 : Steady l z x3 := by
      refine Steady.ite ?_ ?_
      · exact restartItem_steady _ _ _ (by assumption)
      · assumption
    try clear_value x3
    exact countCell_steady _ _ _ _ (by assumption)

theorem execHwCellError_steady (a1 a2 a3 a4 s) (h5 : Steady l z s) : SteadyX l z (execHwCellError a1 a2 a3 a4 s) := by
  unfold execHwCellError
  refine SteadyX.next ?_
  refine Steady.ite ?_ ?_
  · assumption
  · refine Steady.ite ?_ ?_
    · refine Steady.ite ?_ ?_
      · exact retireCell_steady _ _ _ _ (by assumption)
      · exact resumeEngine_steady _ _ (by assumption)
    · exact cellError_steady _ _ _ _ _ (by assumption)

theorem bodyFaultStatus_steady (a1) : SteadyB l (bodyFaultStatus a1) := by
  unfold bodyFaultStatus
  exact readBody_steady _ _ _ _

theorem bodyFaultPolicyWrite_steady (a1 a2 a3 a4) : SteadyB l (bodyFaultPolicyWrite a1 a2 a3 a4) := by
  unfold bodyFaultPolicyWrite
  refine writeBody_steady _ _ _ _ (fun z _ _ => ?_)
  refine Steady.lit ?_ rfl rfl rfl rfl
  assumption

theorem bodyFaultLogRead_steady (a1 a2 a3) : SteadyB l (bodyFaultLogRead a1 a2 a3) := by
  unfold bodyFaultLogRead
  exact readBody_steady _ _ _ _

theorem bodyHwRetire_steady (a1 a2) : SteadyB l (bodyHwRetire a1 a2) := by
  unfold bodyHwRetire
  extract_lets -underBinder -merge -useContext +onlyGivenNames x1
  extract_lets -underBinder -merge -useContext +onlyGivenNames x2
  extract_lets -underBinder -merge -useContext +onlyGivenNames x3
  have h4 : SteadyB l x3 := by
    exact bodyHbmPcRetire_steady _ _
  try clear_value x3
  refine SteadyB.mk fun z _ _ => ?_
  refine SteadyA.ite ?_ ?_
  · refine Body.apply_steady _ _ ?_ ?_
    · assumption
    · assumption
  · refine SteadyA.mk ?_
    exact retireCell_steady _ _ _ _ (by assumption)

theorem bodyFaultRecordClear_steady (a1) : SteadyB l (bodyFaultRecordClear a1) := by
  unfold bodyFaultRecordClear
  refine writeBody_steady _ _ _ _ (fun z _ _ => ?_)
  refine Steady.lit ?_ rfl rfl rfl rfl
  assumption

end Sys2Proof.Machine
end

