-- ==== Sys2Proof/Laws/Steady/Engines.lean ====
section
/-! SUPPORT. What the operations of Machine/Engines keep (Laws/Steady). -/

namespace Sys2Proof.Machine

variable {l : Bool × Bool} {z s t : State}

theorem queueOp_steady {op : MemOp} {e e' : Engine} (h : Steady l z s) (q : queueOp op e s = .go e' t) : Steady l z t := by
  unfold queueOp at q
  split at q
  · cases q
  · cases q
    exact h

theorem issueMem_steady {n : Nano} {c : EngineCtx} {e e' : Engine} (h : Steady l z s) (q : issueMem n c e s = .go e' t) : Steady l z t := by
  unfold issueMem at q
  extract_lets a op at q
  repeat' first
    | (cases q; exact h)
    | (cases q; exact makeReady_steady _ _ h)
    | cases q
    | exact queueOp_steady h q
    | (clear_value op; split at q)
    | split at q

theorem writeBursts_steady (a1 a2 a3 a4 s) (h5 : Steady l z s) : Steady l z (writeBursts a1 a2 a3 a4 s) := by
  unfold writeBursts
  refine Steady.each h5 fun _ _ h => ?_
  exact Steady.litMem h (memWrite_wf _ _) rfl rfl

theorem overflowAccess_steady (a1 a2 s) (h3 : Steady l z s) : SteadyP l z (overflowAccess a1 a2 s) := by
  unfold overflowAccess
  extract_lets -underBinder -merge -useContext +onlyGivenNames x1
  extract_lets -underBinder -merge -useContext +onlyGivenNames x2
  extract_lets -underBinder -merge -useContext +onlyGivenNames x3
  refine SteadyP.ite ?_ ?_
  · refine SteadyP.mk ?_
    split
    · exact putOvf_steady _ _ _ _ (by assumption)
    · exact State.setRegion_steady _ _ _ (by assumption)
  · exact SteadyP.mk (by assumption)

theorem tcamCopy_steady (a1 a2 a3 s) (h4 : Steady l z s) : Steady l z (tcamCopy a1 a2 a3 s) := by
  unfold tcamCopy
  extract_lets -underBinder -merge -useContext +onlyGivenNames x1
  exact State.setPipe_steady _ _ _ (by assumption)

theorem memEffect_steady (a1 a2 a3 s) (h4 : Steady l z s) : SteadyOP l z (memEffect a1 a2 a3 s) := by
  unfold memEffect
  split
  · refine SteadyOP.mapSteadyO ?_ fun _ _ => ?_
    · exact charge_steady _ _ _ _ (by assumption)
    · exact SteadyP.mk (by assumption)
  · refine SteadyOP.mapSteadyO ?_ fun _ _ => ?_
    · exact charge_steady _ _ _ _ (by assumption)
    · refine SteadyP.mk ?_
      exact writeBursts_steady _ _ _ _ _ (by assumption)
  · refine SteadyOP.mapSteadyO ?_ fun _ _ => ?_
    · exact charge_steady _ _ _ _ (by assumption)
    · refine SteadyP.mk ?_
      exact writeBursts_steady _ _ _ _ _ (by assumption)
  · refine SteadyOP.ite ?_ ?_
    · refine SteadyOP.some ?_
      exact SteadyP.mk (by assumption)
    · exact SteadyOP.none
  · refine SteadyOP.mapSteadyO ?_ fun _ _ => ?_
    · exact moveSinter_steady _ _ _ _ (by assumption)
    · refine SteadyP.mk ?_
      exact moveTarn_steady _ _ _ _ (by assumption)
  · refine SteadyOP.some ?_
    exact overflowAccess_steady _ _ _ (by assumption)
  · refine SteadyOP.some ?_
    exact SteadyP.mk (by assumption)
  · refine SteadyOP.some ?_
    refine SteadyP.mk ?_
    refine Steady.each ?_ fun _ _ _ => ?_
    · assumption
    · refine Steady.lit ?_ rfl rfl rfl rfl
      assumption
  · refine SteadyOP.some ?_
    refine SteadyP.mk ?_
    exact applyRecord_steady _ _ _ (by assumption)
  · refine SteadyOP.some ?_
    refine SteadyP.mk ?_
    exact tcamCopy_steady _ _ _ _ (by assumption)
  · refine SteadyOP.some ?_
    exact SteadyP.mk (by assumption)

theorem firstDone_steady (a1 a2 s3 a4 a5) (h3 : Steady l z s3) : SteadyOP3 l z (firstDone a1 a2 s3 a4 a5) := by
  induction a5 generalizing a4 with
  | nil => exact SteadyOP3.none
  | cons e es ih =>
    unfold firstDone
    refine SteadyOP3.ite (ih _) ?_
    split
    · rename_i v w q
      exact SteadyOP3.some (SteadyP3.mk (SteadyP.mk (SteadyOP.get q (memEffect_steady _ _ _ _ h3))))
    · exact ih _

theorem execFumaroleMemComplete_steady (a1 a2 s3) (h3 : Steady l z s3) : SteadyX l z (execFumaroleMemComplete a1 a2 s3) := by
  unfold execFumaroleMemComplete
  extract_lets -underBinder -merge -useContext +onlyGivenNames x1
  refine SteadyX.next ?_
  refine Steady.ite ?_ ?_
  · split
    · assumption
    · exact State.setEngine_steady _ _ _ (by assumption)
  · split
    · rename_i v2 q3
      assumption
    · rename_i v4 v5 v6 v7 q8
      have h9 : Steady l z v7 := by
        refine SteadyOP3.get q8 ?_
        exact firstDone_steady _ _ _ _ _ (by assumption)
      extract_lets -underBinder -merge -useContext +onlyGivenNames x10
      exact State.setEngine_steady _ _ _ (by assumption)

theorem undoMoves_steady (a1 s) (h2 : Steady l z s) : Steady l z (undoMoves a1 s) := by
  unfold undoMoves
  extract_lets -underBinder -merge -useContext +onlyGivenNames x1
  refine Steady.each ?_ fun _ _ _ => ?_
  · assumption
  · split
    · split
      · assumption
      · refine Steady.each ?_ fun _ _ _ => ?_
        · assumption
        · extract_lets -underBinder -merge -useContext +onlyGivenNames x2
          extract_lets -underBinder -merge -useContext +onlyGivenNames x3
          refine Steady.ite ?_ ?_
          · assumption
          · split
            · refine Steady.ite ?_ ?_
              · assumption
              · exact freeLake_steady _ _ _ _ (by assumption)
            · assumption

theorem stopEngine_steady (a1 a2 s) (h3 : Steady l z s) : Steady l z (stopEngine a1 a2 s) := by
  unfold stopEngine
  extract_lets -underBinder -merge -useContext +onlyGivenNames x1
  extract_lets -underBinder -merge -useContext +onlyGivenNames x2
  extract_lets -underBinder -merge -useContext +onlyGivenNames x3
  extract_lets -underBinder -merge -useContext +onlyGivenNames x4
  have h5 : Steady l z x4 := by
    refine raise_steady _ _ ?_
    exact State.setEngine_steady _ _ _ (by assumption)
  try clear_value x4
  extract_lets -underBinder -merge -useContext +onlyGivenNames x6
  extract_lets -underBinder -merge -useContext +onlyGivenNames x7
  have h8 : Steady l z x7 := by
    refine Steady.ite ?_ ?_
    · split
      · assumption
      · extract_lets -underBinder -merge -useContext +onlyGivenNames x9
        have h10 : Steady l z x9 := by
          refine Steady.ite ?_ ?_
          · exact undoMoves_steady _ _ (by assumption)
          · assumption
        try clear_value x9
        exact completeItem_steady _ _ _ _ _ _ (by assumption)
    · exact restartItem_steady _ _ _ (by assumption)
  try clear_value x7
  exact State.setEngine_steady _ _ _ (by assumption)

theorem runWord_steady (a1 a2 a3 s) (h4 : Steady l z s) : SteadyX l z (runWord a1 a2 a3 s) := by
  unfold runWord
  extract_lets -underBinder -merge -useContext +onlyGivenNames x1
  extract_lets -underBinder -merge -useContext +onlyGivenNames x2
  refine SteadyX.ite ?_ ?_
  · exact SteadyX.refused
  · extract_lets -underBinder -merge -useContext +onlyGivenNames x3
    extract_lets -underBinder -merge -useContext +onlyGivenNames x4
    split
    · exact SteadyX.next h4
    · exact SteadyX.next (stopEngine_steady _ _ _ h4)
    · rename_i v w q
      have h6 : Steady l z w := issueMem_steady h4 q
      extract_lets -underBinder -merge -useContext +onlyGivenNames y5 y6
      have h7 : Steady l z y6 := by
        refine Steady.ite ?_ ?_
        · exact h6
        · exact Steady.lit h6 rfl rfl rfl rfl
      try clear_value y6
      extract_lets -underBinder -merge -useContext +onlyGivenNames y8
      split
      · exact SteadyX.next (State.setEngine_steady _ _ _ h7)
      · exact SteadyX.next (State.setEngine_steady _ _ _ h7)
      · split
        · exact SteadyX.next (State.setEngine_steady _ _ _ h7)
        · exact SteadyX.next (stopEngine_steady _ _ _ (State.setEngine_steady _ _ _ h7))

theorem parityError_steady (a1 a2 a3 s) (h4 : Steady l z s) : Steady l z (parityError a1 a2 a3 s) := by
  unfold parityError
  refine Steady.ite ?_ ?_
  · exact stopEngine_steady _ _ _ (by assumption)
  · exact State.setEngine_steady _ _ _ (by assumption)

theorem goldenError_steady (a1 s) (h2 : Steady l z s) : Steady l z (goldenError a1 s) := by
  unfold goldenError
  refine logFault_steady _ _ _ _ _ _ ?_
  exact stopEngine_steady _ _ _ (by assumption)

theorem execMicrowordExecute_steady (a1 a2 s3) (h3 : Steady l z s3) : SteadyX l z (execMicrowordExecute a1 a2 s3) := by
  unfold execMicrowordExecute
  extract_lets -underBinder -merge -useContext +onlyGivenNames x1
  split
  · refine SteadyX.next ?_
    assumption
  · refine SteadyX.ite ?_ ?_
    · refine SteadyX.next ?_
      assumption
    · refine SteadyX.ite ?_ ?_
      · refine SteadyX.next ?_
        refine Steady.ite ?_ ?_
        · exact State.setEngine_steady _ _ _ (by assumption)
        · assumption
      · refine SteadyX.ite ?_ ?_
        · refine SteadyX.next ?_
          assumption
        · split
          · exact runWord_steady _ _ _ _ (by assumption)
          · refine SteadyX.next ?_
            exact parityError_steady _ _ _ _ (by assumption)
          · refine SteadyX.next ?_
            exact parityError_steady _ _ _ _ (by assumption)
          · refine SteadyX.next ?_
            exact goldenError_steady _ _ (by assumption)
          · refine SteadyX.next ?_
            exact stopEngine_steady _ _ _ (by assumption)

theorem execWaitLimitExpire_steady (a1 s) (h2 : Steady l z s) : SteadyX l z (execWaitLimitExpire a1 s) := by
  unfold execWaitLimitExpire
  extract_lets -underBinder -merge -useContext +onlyGivenNames x1
  refine SteadyX.next ?_
  refine Steady.ite ?_ ?_
  · exact State.setEngine_steady _ _ _ (by assumption)
  · assumption

theorem execEnergyPeriodBoundary_steady (s) (h1 : Steady l z s) : SteadyX l z (execEnergyPeriodBoundary s) := by
  unfold execEnergyPeriodBoundary
  refine SteadyX.ite ?_ ?_
  · exact SteadyX.next (by assumption)
  · extract_lets -underBinder -merge -useContext +onlyGivenNames x1
    extract_lets -underBinder -merge -useContext +onlyGivenNames x2
    extract_lets -underBinder -merge -useContext +onlyGivenNames x3 x4
    have h5 : Steady l z x4 := by
      refine Steady.lit ?_ rfl rfl rfl rfl
      assumption
    try clear_value x4
    refine SteadyX.next ?_
    refine Steady.ite ?_ ?_
    · exact raise_steady _ _ (by assumption)
    · assumption

end Sys2Proof.Machine
end

