-- ==== Sys2Proof/Laws/Steady/Ports.lean ====
section
/-! SUPPORT. What the operations of Machine/Ports keep (Laws/Steady). -/

namespace Sys2Proof.Machine

variable {l : Bool × Bool} {z s t : State}

theorem adminDown_steady (a1 s) (h2 : Steady l z s) : Steady l z (adminDown a1 s) := by
  unfold adminDown
  refine linkDown_steady _ _ ?_
  refine Steady.ite ?_ ?_
  · exact lldpShutdown_steady _ _ (by assumption)
  · assumption

theorem removePort_steady (a1 s) (h2 : Steady l z s) : Steady l z (removePort a1 s) := by
  unfold removePort
  extract_lets -underBinder -merge -useContext +onlyGivenNames x1
  have h2 : Steady l z x1 := by
    exact adminDown_steady _ _ (by assumption)
  try clear_value x1
  split
  · assumption
  · refine Steady.ite ?_ ?_
    · refine Steady.lit ?_ rfl rfl rfl rfl
      assumption
    · refine Steady.lit ?_ rfl rfl rfl rfl
      assumption

theorem setPort_steady (a1 a2 s) (h3 : Steady l z s) : Steady l z (setPort a1 a2 s) := by
  unfold setPort
  extract_lets -underBinder -merge -useContext +onlyGivenNames x1
  extract_lets -underBinder -merge -useContext +onlyGivenNames x2
  extract_lets -underBinder -merge -useContext +onlyGivenNames x3
  have h4 : Steady l z x3 := by
    refine Steady.ite ?_ ?_
    · exact adminDown_steady _ _ (by assumption)
    · refine Steady.ite ?_ ?_
      · assumption
      · exact linkDown_steady _ _ (by assumption)
  try clear_value x3
  refine Steady.lit ?_ rfl rfl rfl rfl
  assumption

theorem bodyPortConfig_steady (a1 a2) : SteadyB l (bodyPortConfig a1 a2) := by
  unfold bodyPortConfig
  extract_lets -underBinder -merge -useContext +onlyGivenNames x1
  refine writeBody_steady _ _ _ _ (fun z _ _ => ?_)
  split
  · assumption
  · refine Steady.ite ?_ ?_
    · exact removePort_steady _ _ (by assumption)
    · extract_lets -underBinder -merge -useContext +onlyGivenNames x2
      exact setPort_steady _ _ _ (by assumption)

theorem bodyPortAdmin_steady (a1 a2 a3) : SteadyB l (bodyPortAdmin a1 a2 a3) := by
  unfold bodyPortAdmin
  refine writeBody_steady _ _ _ _ (fun z _ _ => ?_)
  split
  · assumption
  · exact setPort_steady _ _ _ (by assumption)

theorem bodyDiagLoopback_steady (a1 a2 a3) : SteadyB l (bodyDiagLoopback a1 a2 a3) := by
  unfold bodyDiagLoopback
  refine writeBody_steady _ _ _ _ (fun z _ _ => ?_)
  split
  · assumption
  · refine Steady.lit ?_ rfl rfl rfl rfl
    assumption

theorem bodyDiagPrbs_steady (a1 a2) : SteadyB l (bodyDiagPrbs a1 a2) := by
  unfold bodyDiagPrbs
  refine SteadyB.mk fun z _ _ => ?_
  split
  · exact SteadyA.mk (by assumption)
  · refine SteadyA.mk ?_
    refine Steady.lit ?_ rfl rfl rfl rfl
    assumption

theorem wipeMemory_steady (a1 s) (h2 : Steady l z s) : Steady l z (wipeMemory a1 s) := by
  unfold wipeMemory
  extract_lets -underBinder -merge -useContext +onlyGivenNames x1 x2
  have h3 : Steady l z x2 := by
    refine Steady.ite ?_ ?_
    · exact Steady.litMem h2 (fun _ => rfl) rfl rfl
    · assumption
  try clear_value x2
  extract_lets -underBinder -merge -useContext +onlyGivenNames x4 x5
  have h6 : Steady l z x5 := by
    refine Steady.ite ?_ ?_
    · exact Steady.lit h3 rfl rfl rfl rfl
    · assumption
  try clear_value x5
  refine Steady.ite ?_ ?_
  · exact SteadyL.proj (dropAllFrames_steady _ h6)
  · assumption

theorem bodyDiagMemTest_steady (a1 a2 a3) : SteadyB l (bodyDiagMemTest a1 a2 a3) := by
  unfold bodyDiagMemTest
  refine SteadyB.mk fun z _ _ => ?_
  refine SteadyA.mk ?_
  exact wipeMemory_steady _ _ (by assumption)

theorem bodyPortOpticsAccess_steady (a1 a2) : SteadyB l (bodyPortOpticsAccess a1 a2) := by
  unfold bodyPortOpticsAccess
  extract_lets -underBinder -merge -useContext +onlyGivenNames x1
  refine SteadyB.mk fun z _ _ => ?_
  refine SteadyA.ite ?_ ?_
  · exact SteadyA.mk (by assumption)
  · refine SteadyA.ite ?_ ?_
    · refine SteadyA.mk ?_
      refine Steady.lit ?_ rfl rfl rfl rfl
      assumption
    · exact SteadyA.mk (by assumption)

theorem bodyDiagEyeScan_steady (a1 a2 a3 a4) : SteadyB l (bodyDiagEyeScan a1 a2 a3 a4) := by
  unfold bodyDiagEyeScan
  exact readBody_steady _ _ _ _

theorem bodyPortCountersRead_steady (a1 a2 a3) : SteadyB l (bodyPortCountersRead a1 a2 a3) := by
  unfold bodyPortCountersRead
  refine SteadyB.mk fun z _ _ => ?_
  split
  · exact SteadyA.mk (by assumption)
  · extract_lets -underBinder -merge -useContext +onlyGivenNames x1
    refine SteadyA.mk ?_
    refine Steady.ite ?_ ?_
    · refine Steady.lit ?_ rfl rfl rfl rfl
      assumption
    · assumption

theorem bodyPortStatus_steady (a1 a2) : SteadyB l (bodyPortStatus a1 a2) := by
  unfold bodyPortStatus
  exact readBody_steady _ _ _ _

theorem bodyDiagErrorInject_steady (a1 a2) : SteadyB l (bodyDiagErrorInject a1 a2) := by
  unfold bodyDiagErrorInject
  refine writeBody_steady _ _ _ _ (fun z _ _ => ?_)
  refine Steady.lit ?_ rfl rfl rfl rfl
  assumption

theorem setSignal_steady (a1 a2 a3 s) (h4 : Steady l z s) : Steady l z (setSignal a1 a2 a3 s) := by
  unfold setSignal
  refine Steady.lit ?_ rfl rfl rfl rfl
  assumption

theorem execLinkDown_steady (a1 s) (h2 : Steady l z s) : SteadyX l z (execLinkDown a1 s) := by
  unfold execLinkDown
  refine SteadyX.next ?_
  split
  · assumption
  · refine linkDown_steady _ _ ?_
    exact setSignal_steady _ _ _ _ (by assumption)

theorem execLinkUp_steady (a1 s) (h2 : Steady l z s) : SteadyX l z (execLinkUp a1 s) := by
  unfold execLinkUp
  refine SteadyX.next ?_
  split
  · assumption
  · refine Steady.ite ?_ ?_
    · refine linkComesUp_steady _ _ ?_
      exact setSignal_steady _ _ _ _ (by assumption)
    · assumption

end Sys2Proof.Machine
end

