-- ==== Sys2Proof/Laws/Steady/Ingress.lean ====
section
/-! SUPPORT. What the operations of Machine/Ingress keep (Laws/Steady). -/

namespace Sys2Proof.Machine

variable {l : Bool × Bool} {z s t : State}

theorem await_steady (a1 a2 s) (h3 : Steady l z s) : Steady l z (await a1 a2 s) := by
  unfold await
  extract_lets -underBinder -merge -useContext +onlyGivenNames x1
  exact State.setPipe_steady _ _ _ (by assumption)

theorem countRx_steady (a1 a2 s) (h3 : Steady l z s) : Steady l z (countRx a1 a2 s) := by
  unfold countRx
  extract_lets -underBinder -merge -useContext +onlyGivenNames x1
  refine Steady.lit ?_ rfl rfl rfl rfl
  assumption

theorem execFrameArrival_steady (a1 a2 a3 s) (h4 : Steady l z s) : SteadyX l z (execFrameArrival a1 a2 a3 s) := by
  unfold execFrameArrival
  extract_lets -underBinder -merge -useContext +onlyGivenNames x1
  refine SteadyX.ite ?_ ?_
  · exact SteadyX.next (by assumption)
  · extract_lets -underBinder -merge -useContext +onlyGivenNames x2
    extract_lets -underBinder -merge -useContext +onlyGivenNames x3
    extract_lets -underBinder -merge -useContext +onlyGivenNames x4
    refine SteadyX.ite ?_ ?_
    · extract_lets -underBinder -merge -useContext +onlyGivenNames x5
      refine SteadyX.next ?_
      refine Steady.lit ?_ rfl rfl rfl rfl
      assumption
    · refine SteadyX.next ?_
      split
      · rename_i v6 v7 q8
        have h9 : Steady l z v7 := by
          refine SteadyP.get q8 ?_
          refine store_steady _ _ ?_
          exact countRx_steady _ _ _ (by assumption)
        exact await_steady _ _ _ (by assumption)
      · rename_i v10 q11
        have h12 : Steady l z v10 := by
          refine SteadyP.get q11 ?_
          refine store_steady _ _ ?_
          exact countRx_steady _ _ _ (by assumption)
        assumption

theorem mirrorCopy_steady (a1 a2 a3 s) (h4 : Steady l z s) : Steady l z (mirrorCopy a1 a2 a3 s) := by
  unfold mirrorCopy
  split
  · assumption
  · extract_lets -underBinder -merge -useContext +onlyGivenNames x1
    exact enqueueCopy_steady _ _ _ _ _ (by assumption)

theorem slowCopy_steady (a1 a2 a3 s) (h4 : Steady l z s) : Steady l z (slowCopy a1 a2 a3 s) := by
  unfold slowCopy
  refine Steady.ite ?_ ?_
  · assumption
  · exact enqueueSlow_steady _ _ _ _ (by assumption)

theorem copies_steady (a1 a2 a3 s) (h4 : Steady l z s) : Steady l z (copies a1 a2 a3 s) := by
  unfold copies
  refine slowCopy_steady _ _ _ _ ?_
  exact mirrorCopy_steady _ _ _ _ (by assumption)

theorem runPolicer_steady (a1 a2 a3 s) (h4 : Steady l z s) : SteadyP3 l z (runPolicer a1 a2 a3 s) := by
  unfold runPolicer
  refine SteadyP3.ite ?_ ?_
  · exact police_steady _ _ _ _ (by assumption)
  · refine SteadyP3.mk ?_
    exact SteadyP.mk (by assumption)

theorem endPass_steady (a1 a2 s) (h3 : Steady l z s) : SteadyP l z (endPass a1 a2 s) := by
  unfold endPass
  extract_lets -underBinder -merge -useContext +onlyGivenNames x1
  extract_lets -underBinder -merge -useContext +onlyGivenNames x2
  extract_lets -underBinder -merge -useContext +onlyGivenNames x3
  extract_lets -underBinder -merge -useContext +onlyGivenNames x4
  split
  · rename_i v5 v6 v7 q8
    have h9 : Steady l z v7 := by
      refine SteadyP3.get q8 ?_
      exact runPolicer_steady _ _ _ _ (by assumption)
    refine SteadyP.ite ?_ ?_
    · refine SteadyP.mk ?_
      refine freeFrame_steady _ _ ?_
      exact copies_steady _ _ _ _ (by assumption)
    · exact SteadyP.mk (by assumption)

theorem pushDesc_steady (a1 a2 s) (h3 : Steady l z s) : Steady l z (pushDesc a1 a2 s) := by
  unfold pushDesc
  extract_lets -underBinder -merge -useContext +onlyGivenNames x1
  exact State.setPipe_steady _ _ _ (by assumption)

theorem pushDone_steady (a1 a2) (h2 : SteadyP l z a2) : Steady l z (pushDone a1 a2) := by
  unfold pushDone
  split
  · exact pushDesc_steady _ _ _ (by assumption)
  · assumption

theorem deferOp_steady (a1 a2 a3 s) (h4 : Steady l z s) : Steady l z (deferOp a1 a2 a3 s) := by
  unfold deferOp
  extract_lets -underBinder -merge -useContext +onlyGivenNames x1
  refine Steady.ite ?_ ?_
  · exact countSvc_steady _ _ _ _ _ (by assumption)
  · extract_lets -underBinder -merge -useContext +onlyGivenNames x2
    have h3 : Steady l z x2 := by
      refine countSvc_steady _ _ _ _ _ ?_
      exact State.setRegion_steady _ _ _ (by assumption)
    try clear_value x2
    refine Steady.ite ?_ ?_
    · exact raise_steady _ _ (by assumption)
    · assumption

theorem overload_steady (a1 a2 a3 s) (h4 : Steady l z s) : SteadyP l z (overload a1 a2 a3 s) := by
  unfold overload
  extract_lets -underBinder -merge -useContext +onlyGivenNames x1
  extract_lets -underBinder -merge -useContext +onlyGivenNames x2
  have h3 : Steady l z x2 := by
    refine countSvc_steady _ _ _ _ _ ?_
    exact countSvc_steady _ _ _ _ _ (by assumption)
  try clear_value x2
  extract_lets -underBinder -merge -useContext +onlyGivenNames x4
  split
  · exact SteadyP.mk (by assumption)
  · exact SteadyP.mk (by assumption)
  · exact SteadyP.mk (by assumption)
  · refine SteadyP.mk ?_
    refine Steady.getD ?_ ?_
    · refine SteadyO.map fun _ => ?_
      · exact deferOp_steady _ _ _ _ (by assumption)
    · assumption

theorem overloadHere_steady (a1 a2 a3 s) (h4 : Steady l z s) : SteadyP l z (overloadHere a1 a2 a3 s) := by
  unfold overloadHere
  refine overload_steady _ _ _ _ ?_
  exact countStarved_steady _ _ _ (by assumption)

theorem requestFlow_steady (a1 a2 s3) (h3 : Steady l z s3) : Steady l z (requestFlow a1 a2 s3) := by
  unfold requestFlow
  extract_lets -underBinder -merge -useContext +onlyGivenNames x1
  split
  · refine pushDone_steady _ _ ?_
    refine endPass_steady _ _ _ ?_
    exact State.setPipe_steady _ _ _ (by assumption)
  · extract_lets -underBinder -merge -useContext +onlyGivenNames x2
    refine Steady.ite ?_ ?_
    · refine pushDone_steady _ _ ?_
      refine endPass_steady _ _ _ ?_
      exact countSvc_steady _ _ _ _ _ (by assumption)
    · extract_lets -underBinder -merge -useContext +onlyGivenNames x3
      split
      · refine pushDone_steady _ _ ?_
        refine endPass_steady _ _ _ ?_
        exact countSvc_steady _ _ _ _ _ (by assumption)
      · extract_lets -underBinder -merge -useContext +onlyGivenNames x4
        extract_lets -underBinder -merge -useContext +onlyGivenNames x5
        extract_lets -underBinder -merge -useContext +onlyGivenNames x6
        extract_lets -underBinder -merge -useContext +onlyGivenNames x7
        have h8 : ∀ y9 y10, Steady l z y10 → Steady l z (x7 y9 y10) := by
          intro y9 y10 h11
          unfold x7
          split
          · rename_i v12 v13 v14 q15
            have h16 : Steady l z v14 := by
              refine SteadyP.get q15 ?_
              exact overloadHere_steady _ _ _ _ (by assumption)
            refine pushDone_steady _ _ ?_
            exact endPass_steady _ _ _ (by assumption)
        try clear_value x7
        refine Steady.ite ?_ ?_
        · apply_assumption
          assumption
        · split
          · rename_i v17 q18
            apply_assumption
            exact countUnreach_steady _ _ _ (by assumption)
          · rename_i v19 v20 q21
            have h22 : Steady l z v20 := by
              refine SteadyO.get q21 ?_
              exact ask_steady _ _ _ _ (by assumption)
            exact pushDesc_steady _ _ _ (by assumption)

theorem hitMac_steady (a1 a2 a3 s4) (h4 : Steady l z s4) : Steady l z (hitMac a1 a2 a3 s4) := by
  unfold hitMac
  split
  · refine Steady.lit ?_ rfl rfl rfl rfl
    assumption
  · assumption

theorem sourceLookup_steady (a1 a2 a3 a4 s5) (h5 : Steady l z s5) : SteadyP3 l z (sourceLookup a1 a2 a3 a4 s5) := by
  unfold sourceLookup
  refine SteadyP3.ite ?_ ?_
  · refine SteadyP3.mk ?_
    refine SteadyP.mk ?_
    exact count5_steady _ _ (by assumption)
  · split
    · split
      · assumption
      · extract_lets -underBinder -merge -useContext +onlyGivenNames x1
        have h2 : Steady l z x1 := by
          exact hitMac_steady _ _ _ _ (by assumption)
        try clear_value x1
        refine SteadyP3.ite ?_ ?_
        · assumption
        · assumption

theorem finalPass_steady (a1 a2 s3) (h3 : Steady l z s3) : Steady l z (finalPass a1 a2 s3) := by
  unfold finalPass
  extract_lets -underBinder -merge -useContext +onlyGivenNames x1
  extract_lets -underBinder -merge -useContext +onlyGivenNames x2
  extract_lets -underBinder -merge -useContext +onlyGivenNames x3
  extract_lets -underBinder -merge -useContext +onlyGivenNames x4
  split
  · rename_i v5 v6 v7 v8 q9
    have h10 : Steady l z v8 := by
      refine SteadyP3.get q9 ?_
      refine SteadyP3.ite ?_ ?_
      · exact sourceLookup_steady _ _ _ _ _ (by assumption)
      · assumption
    refine Steady.ite ?_ ?_
    · refine freeFrame_steady _ _ ?_
      refine copies_steady _ _ _ _ ?_
      exact countVlan_steady _ _ (by assumption)
    · refine Steady.ite ?_ ?_
      · refine freeFrame_steady _ _ ?_
        refine copies_steady _ _ _ _ ?_
        exact count5_steady _ _ (by assumption)
      · split
        · rename_i v11 v12 v13 q14
          have h15 : Steady l z v13 := by
            refine SteadyP.get q14 ?_
            refine SteadyP.ite ?_ ?_
            · exact forward_steady _ _ _ _ _ (by assumption)
            · assumption
          extract_lets -underBinder -merge -useContext +onlyGivenNames x16
          refine Steady.ite ?_ ?_
          · exact requestFlow_steady _ _ _ (by assumption)
          · refine pushDone_steady _ _ ?_
            exact endPass_steady _ _ _ (by assumption)

theorem recirculate_steady (a1 a2 s) (h3 : Steady l z s) : Steady l z (recirculate a1 a2 s) := by
  unfold recirculate
  extract_lets -underBinder -merge -useContext +onlyGivenNames x1
  extract_lets -underBinder -merge -useContext +onlyGivenNames x2
  extract_lets -underBinder -merge -useContext +onlyGivenNames x3
  have h4 : Steady l z x3 := by
    exact copies_steady _ _ _ _ (by assumption)
  try clear_value x3
  split
  · rename_i v5 v6 v7 q8
    have h9 : Steady l z v7 := by
      refine SteadyP3.get q8 ?_
      exact runPolicer_steady _ _ _ _ (by assumption)
    refine Steady.ite ?_ ?_
    · exact freeFrame_steady _ _ (by assumption)
    · extract_lets -underBinder -merge -useContext +onlyGivenNames x10
      refine Steady.ite ?_ ?_
      · extract_lets -underBinder -merge -useContext +onlyGivenNames x11
        have h12 : Steady l z x11 := by
          refine raise_steady _ _ ?_
          exact State.setPipe_steady _ _ _ (by assumption)
        try clear_value x11
        refine Steady.ite ?_ ?_
        · exact finalPass_steady _ _ _ (by assumption)
        · exact freeFrame_steady _ _ (by assumption)
      · exact await_steady _ _ _ (by assumption)

theorem countException_steady (a1 a2 s) (h3 : Steady l z s) : Steady l z (countException a1 a2 s) := by
  unfold countException
  refine Steady.lit ?_ rfl rfl rfl rfl
  assumption

theorem classify15_steady (a1 s2) (h2 : Steady l z s2) : SteadyP l z (classify15 a1 s2) := by
  unfold classify15
  exact classify_steady _ _ _ _ _ _ _ (by assumption)

theorem passLimit_steady (a1 s2) (h2 : Steady l z s2) : Steady l z (passLimit a1 s2) := by
  unfold passLimit
  extract_lets -underBinder -merge -useContext +onlyGivenNames x1
  have h2 : Steady l z x1 := by
    exact countException_steady _ _ _ (by assumption)
  try clear_value x1
  extract_lets -underBinder -merge -useContext +onlyGivenNames x3
  extract_lets -underBinder -merge -useContext +onlyGivenNames x4
  extract_lets -underBinder -merge -useContext +onlyGivenNames x5
  split
  · exact finalPass_steady _ _ _ (by assumption)
  · exact finalPass_steady _ _ _ (by assumption)
  · exact finalPass_steady _ _ _ (by assumption)
  · split
    · rename_i v6 v7 v8 q9
      have h10 : Steady l z v8 := by
        refine SteadyP.get q9 ?_
        exact classify15_steady _ _ (by assumption)
      exact finalPass_steady _ _ _ (by assumption)

theorem act_steady (a1 a2 s3) (h3 : Steady l z s3) : Steady l z (act a1 a2 s3) := by
  unfold act
  refine Steady.ite ?_ ?_
  · exact finalPass_steady _ _ _ (by assumption)
  · refine Steady.ite ?_ ?_
    · exact recirculate_steady _ _ _ (by assumption)
    · exact passLimit_steady _ _ (by assumption)

theorem exception_steady (a1 a2 s3) (h3 : Steady l z s3) : Steady l z (exception a1 a2 s3) := by
  unfold exception
  extract_lets -underBinder -merge -useContext +onlyGivenNames x1
  have h2 : Steady l z x1 := by
    exact countException_steady _ _ _ (by assumption)
  try clear_value x1
  extract_lets -underBinder -merge -useContext +onlyGivenNames x3
  extract_lets -underBinder -merge -useContext +onlyGivenNames x4
  extract_lets -underBinder -merge -useContext +onlyGivenNames x5
  split
  · exact finalPass_steady _ _ _ (by assumption)
  · exact finalPass_steady _ _ _ (by assumption)
  · exact act_steady _ _ _ (by assumption)
  · split
    · rename_i v6 v7 v8 q9
      have h10 : Steady l z v8 := by
        refine SteadyP.get q9 ?_
        exact classify15_steady _ _ (by assumption)
      exact act_steady _ _ _ (by assumption)

theorem runPass_steady (a1 a2 a3 s) (h4 : Steady l z s) : Steady l z (runPass a1 a2 a3 s) := by
  unfold runPass
  extract_lets -underBinder -merge -useContext +onlyGivenNames x1
  refine Steady.ite ?_ ?_
  · extract_lets -underBinder -merge -useContext +onlyGivenNames x2
    have h3 : Steady l z x2 := by
      refine countException_steady _ _ _ ?_
      exact State.setPipe_steady _ _ _ (by assumption)
    try clear_value x2
    refine raise_steady _ _ ?_
    exact freeFrame_steady _ _ (by assumption)
  · extract_lets -underBinder -merge -useContext +onlyGivenNames x4
    extract_lets -underBinder -merge -useContext +onlyGivenNames x5
    refine Steady.ite ?_ ?_
    · exact exception_steady _ _ _ (by assumption)
    · extract_lets -underBinder -merge -useContext +onlyGivenNames x6
      extract_lets -underBinder -merge -useContext +onlyGivenNames x7
      have h8 : Steady l z x7 := by
        unfold x7
        try clear_value x6
        split
        · refine Steady.lit ?_ rfl rfl rfl rfl
          assumption
        · assumption
      try clear_value x7
      refine Steady.ite ?_ ?_
      · exact freeFrame_steady _ _ (by assumption)
      · split
        · rename_i v9 v10 q11
          have h12 : Steady l z v10 := by
            refine SteadyP.get q11 ?_
            exact classify_steady _ _ _ _ _ _ _ (by assumption)
          exact act_steady _ _ _ (by assumption)

theorem execPacketSlotGrant_steady (a1 a2 s) (h3 : Steady l z s) : SteadyX l z (execPacketSlotGrant a1 a2 s) := by
  unfold execPacketSlotGrant
  extract_lets -underBinder -merge -useContext +onlyGivenNames x1
  refine SteadyX.ite ?_ ?_
  · exact SteadyX.next (by assumption)
  · split
    · exact SteadyX.next (by assumption)
    · split
      · exact SteadyX.next (by assumption)
      · refine SteadyX.next ?_
        refine runPass_steady _ _ _ _ ?_
        exact State.setPipe_steady _ _ _ (by assumption)

theorem postLookup_steady (a1 a2 a3 s4) (h4 : Steady l z s4) : SteadyP l z (postLookup a1 a2 a3 s4) := by
  unfold postLookup
  split
  · assumption
  · split
    · rename_i v1 v2 v3 q4
      have h5 : Steady l z v3 := by
        refine SteadyP.get q4 ?_
        exact ipLookup_steady _ _ _ _ _ (by assumption)
      assumption

theorem applyResult_steady (a1 a2 s) (h3 : Steady l z s) : SteadyP l z (applyResult a1 a2 s) := by
  unfold applyResult
  split
  · exact SteadyP.mk (by assumption)
  · split
    · extract_lets -underBinder -merge -useContext +onlyGivenNames x1 x2
      extract_lets -underBinder -merge -useContext +onlyGivenNames x3
      extract_lets -underBinder -merge -useContext +onlyGivenNames x4
      exact postLookup_steady _ _ _ _ (by assumption)
    · exact SteadyP.mk (by assumption)
    · exact SteadyP.mk (by assumption)
    · exact overload_steady _ _ _ _ (by assumption)

theorem settleDesc_steady (a1 a2 a3) (h3 : SteadyP l z a3) : Steady l z (settleDesc a1 a2 a3) := by
  unfold settleDesc
  extract_lets -underBinder -merge -useContext +onlyGivenNames x1
  have h2 : Steady l z x1 := by
    assumption
  try clear_value x1
  extract_lets -underBinder -merge -useContext +onlyGivenNames x3
  split
  · exact State.setPipe_steady _ _ _ (by assumption)
  · exact State.setPipe_steady _ _ _ (by assumption)

theorem execFlowResultReturn_steady (a1 a2 s) (h3 : Steady l z s) : SteadyX l z (execFlowResultReturn a1 a2 s) := by
  unfold execFlowResultReturn
  refine SteadyX.next ?_
  split
  · split
    · rename_i v1 v2 q3
      have h4 : Steady l z v2 := by
        refine SteadyP.get q3 ?_
        exact applyResult_steady _ _ _ (by assumption)
      refine settleDesc_steady _ _ _ ?_
      exact endPass_steady _ _ _ (by assumption)
  · assumption

theorem withdraw_steady (a1 s) (h2 : Steady l z s) : Steady l z (withdraw a1 s) := by
  unfold withdraw
  refine Steady.lit (Steady.each h2 fun r t h => ?_) rfl rfl rfl rfl
  exact Steady.ite (State.setRegion_steady _ _ _ h) h

theorem execFlowResultDeadline_steady (a1 a2 s) (h3 : Steady l z s) : SteadyX l z (execFlowResultDeadline a1 a2 s) := by
  unfold execFlowResultDeadline
  refine SteadyX.next ?_
  split
  · dsimp only
    refine settleDesc_steady _ _ _ (endPass_steady _ _ _ ?_)
    split
    · exact overloadHere_steady _ _ _ _ (withdraw_steady _ _ h3)
    · exact withdraw_steady _ _ h3
  · exact h3

theorem issueLearn_steady (a1 a2 s) (h3 : Steady l z s) : Steady l z (issueLearn a1 a2 s) := by
  unfold issueLearn
  refine Steady.ite ?_ ?_
  · assumption
  · split
    · extract_lets -underBinder -merge -useContext +onlyGivenNames x1
      split
      · exact issueEvent_steady _ _ (by assumption)
      · exact notifyEvent_steady _ _ (by assumption)
      · assumption

theorem liftCharge_steady (a1 s) (h2 : Steady l z s) : Steady l z (liftCharge a1 s) := by
  unfold liftCharge
  refine Steady.ite ?_ ?_
  · assumption
  · exact uncharge_steady _ _ (by assumption)

theorem dispatchFrame_steady (a1 s2) (h2 : Steady l z s2) : Steady l z (dispatchFrame a1 s2) := by
  unfold dispatchFrame
  extract_lets -underBinder -merge -useContext +onlyGivenNames x1
  extract_lets -underBinder -merge -useContext +onlyGivenNames x2
  extract_lets -underBinder -merge -useContext +onlyGivenNames x3
  split
  · extract_lets -underBinder -merge -useContext +onlyGivenNames x4
    refine enqueueSlow_steady _ _ _ _ ?_
    exact liftCharge_steady _ _ (by assumption)
  · extract_lets -underBinder -merge -useContext +onlyGivenNames x5
    extract_lets -underBinder -merge -useContext +onlyGivenNames x6
    have h7 : Steady l z x6 := by
      refine Steady.ite ?_ ?_
      · exact count5_steady _ _ (by assumption)
      · assumption
    try clear_value x6
    extract_lets -underBinder -merge -useContext +onlyGivenNames x8
    split
    · exact freeFrame_steady _ _ (by assumption)
    · refine freeFrame_steady _ _ ?_
      refine Steady.lit ?_ rfl rfl rfl rfl
      assumption
    · refine enqueuePort_steady _ _ _ _ _ ?_
      exact liftCharge_steady _ _ (by assumption)
    · refine enqueueGroup_steady _ _ _ _ ?_
      exact liftCharge_steady _ _ (by assumption)
    · refine enqueueSlow_steady _ _ _ _ ?_
      exact liftCharge_steady _ _ (by assumption)

theorem execDescriptorRelease_steady (a1 a2 s) (h3 : Steady l z s) : SteadyX l z (execDescriptorRelease a1 a2 s) := by
  unfold execDescriptorRelease
  extract_lets -underBinder -merge -useContext +onlyGivenNames x1
  refine SteadyX.next ?_
  split
  · assumption
  · refine Steady.ite ?_ ?_
    · assumption
    · extract_lets -underBinder -merge -useContext +onlyGivenNames x2
      have h3 : Steady l z x2 := by
        exact State.setPipe_steady _ _ _ (by assumption)
      try clear_value x2
      extract_lets -underBinder -merge -useContext +onlyGivenNames x4
      refine dispatchFrame_steady _ _ ?_
      refine issueLearn_steady _ _ _ ?_
      exact copies_steady _ _ _ _ (by assumption)

theorem enqueueDirect_steady (a1 a2 a3 s) (h4 : Steady l z s) : Steady l z (enqueueDirect a1 a2 a3 s) := by
  unfold enqueueDirect
  extract_lets -underBinder -merge -useContext +onlyGivenNames x1
  refine enqueuePort_steady _ _ _ _ _ ?_
  refine uncharge_steady _ _ ?_
  exact chargeIngress_steady _ _ _ _ (by assumption)

theorem execOriginatedFrameEnqueue_steady (s) (h1 : Steady l z s) : SteadyX l z (execOriginatedFrameEnqueue s) := by
  unfold execOriginatedFrameEnqueue
  refine SteadyX.next ?_
  split
  · assumption
  · extract_lets -underBinder -merge -useContext +onlyGivenNames x1
    refine Steady.ite ?_ ?_
    · assumption
    · refine enqueueDirect_steady _ _ _ _ ?_
      refine Steady.lit ?_ rfl rfl rfl rfl
      assumption

theorem execTcamScrubVisit_steady (a1 a2 a3 s) (h4 : Steady l z s) : SteadyX l z (execTcamScrubVisit a1 a2 a3 s) := by
  unfold execTcamScrubVisit
  extract_lets -underBinder -merge -useContext +onlyGivenNames x1
  refine SteadyX.next ?_
  split
  · exact State.setPipe_steady _ _ _ (by assumption)
  · assumption

end Sys2Proof.Machine
end

