-- ==== Sys2Proof/Laws/Steady/Rings.lean ====
section
/-! SUPPORT. What the operations of Machine/Rings keep (Laws/Steady). -/

namespace Sys2Proof.Machine

variable {l : Bool × Bool} {z s t : State}

theorem ringFault_steady (a1 a2 s) (h3 : Steady l z s) : Steady l z (ringFault a1 a2 s) := by
  unfold ringFault
  refine updatePresence_steady _ ?_
  refine raise_steady _ _ ?_
  exact State.setRing_steady _ _ _ _ (by assumption)

theorem dropRxHead_steady (a1 s) (h2 : Steady l z s) : Steady l z (dropRxHead a1 s) := by
  unfold dropRxHead
  extract_lets -underBinder -merge -useContext +onlyGivenNames x1
  refine startHead_steady _ _ ?_
  refine releaseTx_steady _ _ ?_
  exact State.setEgPort_steady _ _ _ (by assumption)

theorem writeHost_steady (a1 s) (h2 : Steady l z s) : Steady l z (writeHost a1 s) := by
  unfold writeHost
  refine Steady.lit ?_ rfl rfl rfl rfl
  assumption

theorem execRxFrameWrite_steady (a1 a2 s) (h3 : Steady l z s) : SteadyX l z (execRxFrameWrite a1 a2 s) := by
  unfold execRxFrameWrite
  split
  · exact SteadyX.next (by assumption)
  · extract_lets -underBinder -merge -useContext +onlyGivenNames x1
    refine SteadyX.ite ?_ ?_
    · exact SteadyX.next (by assumption)
    · split
      · exact SteadyX.next (by assumption)
      · refine SteadyX.ite ?_ ?_
        · refine SteadyX.next ?_
          refine dropRxHead_steady _ _ ?_
          exact ringFault_steady _ _ _ (by assumption)
        · extract_lets -underBinder -merge -useContext +onlyGivenNames x2
          extract_lets -underBinder -merge -useContext +onlyGivenNames x3
          extract_lets -underBinder -merge -useContext +onlyGivenNames x4
          extract_lets -underBinder -merge -useContext +onlyGivenNames x5
          have h6 : Steady l z x5 := by
            exact writeHost_steady _ _ (by assumption)
          try clear_value x5
          extract_lets -underBinder -merge -useContext +onlyGivenNames x7
          have h8 : Steady l z x7 := by
            refine raise_steady _ _ ?_
            exact State.setRing_steady _ _ _ _ (by assumption)
          try clear_value x7
          refine SteadyX.next ?_
          refine dropRxHead_steady _ _ ?_
          refine countTx_steady _ _ _ ?_
          refine countSent_steady _ _ ?_
          exact sampleLatency_steady _ _ (by assumption)

theorem writeTxStatus_steady (a1 a2 a3 s) (h4 : Steady l z s) : Steady l z (writeTxStatus a1 a2 a3 s) := by
  unfold writeTxStatus
  exact writeHost_steady _ _ (by assumption)

theorem endTx_steady (a1 a2 a3 s) (h4 : Steady l z s) : Steady l z (endTx a1 a2 a3 s) := by
  unfold endTx
  extract_lets -underBinder -merge -useContext +onlyGivenNames x1
  refine raise_steady _ _ ?_
  refine State.setRing_steady _ _ _ _ ?_
  exact writeTxStatus_steady _ _ _ _ (by assumption)

theorem execTxFrameFetch_steady (a1 a2 a3 a4 s) (h5 : Steady l z s) : SteadyX l z (execTxFrameFetch a1 a2 a3 a4 s) := by
  unfold execTxFrameFetch
  extract_lets -underBinder -merge -useContext +onlyGivenNames x1
  extract_lets -underBinder -merge -useContext +onlyGivenNames x2
  refine SteadyX.ite ?_ ?_
  · exact SteadyX.next (by assumption)
  · extract_lets -underBinder -merge -useContext +onlyGivenNames x3
    have h6 : ∀ y4, Steady l z y4 → Steady l z (x3 y4) := by
      intro y4 h5
      unfold x3
      refine Steady.lit ?_ rfl rfl rfl rfl
      assumption
    try clear_value x3
    refine SteadyX.ite ?_ ?_
    · refine SteadyX.next ?_
      apply_assumption
      · refine writeTxStatus_steady _ _ _ _ ?_
        exact ringFault_steady _ _ _ (by assumption)
    · refine SteadyX.ite ?_ ?_
      · refine SteadyX.next ?_
        apply_assumption
        · exact endTx_steady _ _ _ _ (by assumption)
      · refine SteadyX.ite ?_ ?_
        · refine SteadyX.next ?_
          apply_assumption
          · exact endTx_steady _ _ _ _ (by assumption)
        · extract_lets -underBinder -merge -useContext +onlyGivenNames x7
          refine SteadyX.ite ?_ ?_
          · exact SteadyX.next (by assumption)
          · extract_lets -underBinder -merge -useContext +onlyGivenNames x8
            have h9 : Steady l z x8 := by
              apply_assumption
              · refine endTx_steady _ _ _ _ ?_
                exact countRx_steady _ _ _ (by assumption)
            try clear_value x8
            extract_lets -underBinder -merge -useContext +onlyGivenNames x10
            refine SteadyX.next ?_
            refine Steady.ite ?_ ?_
            · exact enqueueDirect_steady _ _ _ _ (by assumption)
            · split
              · rename_i v11 v12 q13
                have h14 : Steady l z v12 := by
                  refine SteadyP.get q13 ?_
                  exact store_steady _ _ (by assumption)
                exact await_steady _ _ _ (by assumption)
              · rename_i v15 q16
                have h17 : Steady l z v15 := by
                  refine SteadyP.get q16 ?_
                  exact store_steady _ _ (by assumption)
                assumption

theorem execRingWaitExpire_steady (s) (h1 : Steady l z s) : SteadyX l z (execRingWaitExpire s) := by
  unfold execRingWaitExpire
  split
  · exact SteadyX.next (by assumption)
  · refine SteadyX.ite ?_ ?_
    · exact SteadyX.next (by assumption)
    · extract_lets -underBinder -merge -useContext +onlyGivenNames x1
      refine SteadyX.next ?_
      refine dropRxHead_steady _ _ ?_
      refine raise_steady _ _ ?_
      exact State.setRing_steady _ _ _ _ (by assumption)

end Sys2Proof.Machine
end

