-- ==== Sys2Proof/Laws/Steady/Jobs.lean ====
section
/-! SUPPORT. What the operations of Machine/Jobs keep (Laws/Steady). -/

namespace Sys2Proof.Machine

variable {l : Bool × Bool} {z s t : State}

theorem createJob_steady (a1 s) (h2 : Steady l z s) : SteadyA l z (createJob a1 s) := by
  unfold createJob
  split
  · exact SteadyA.mk (by assumption)
  · rename_i v2 v3 q4
    have h5 : Steady l z v3 := by
      refine SteadyOP.get q4 ?_
      exact submitItem_steady _ _ (by assumption)
    exact SteadyA.mk (by assumption)

theorem bodyJobSubmit_steady (a1 a2 a3 a4) : SteadyB l (bodyJobSubmit a1 a2 a3 a4) := by
  unfold bodyJobSubmit
  refine SteadyB.mk fun z _ _ => ?_
  extract_lets -underBinder -merge -useContext +onlyGivenNames x1
  split
  · extract_lets -underBinder -merge -useContext +onlyGivenNames x2
    split
    · exact SteadyA.mk (by assumption)
    · refine SteadyA.mk ?_
      exact macFailure_steady _ _ (by assumption)
    · exact SteadyA.mk (by assumption)
    · refine createJob_steady _ _ ?_
      exact recordSeq_steady _ _ (by assumption)
  · exact createJob_steady _ _ (by assumption)

theorem writeJob_steady (a1 a2 s) (h3 : Steady l z s) : Steady l z (writeJob a1 a2 s) := by
  unfold writeJob
  refine Steady.ite ?_ ?_
  · assumption
  · exact writeHost_steady _ _ (by assumption)

theorem dumpTable_steady (a1 a2 a3 a4 a5 s) (h6 : Steady l z s) : Steady l z (dumpTable a1 a2 a3 a4 a5 s) := by
  unfold dumpTable
  extract_lets -underBinder -merge -useContext +onlyGivenNames x1
  have h2 : Steady l z x1 := by
    refine Steady.ite ?_ ?_
    · exact settleLearning_steady _ (by assumption)
    · assumption
  try clear_value x1
  extract_lets -underBinder -merge -useContext +onlyGivenNames x3
  extract_lets -underBinder -merge -useContext +onlyGivenNames x4
  extract_lets -underBinder -merge -useContext +onlyGivenNames x5
  extract_lets -underBinder -merge -useContext +onlyGivenNames x6
  refine endJob_steady _ _ _ _ _ ?_
  exact writeJob_steady _ _ _ (by assumption)

theorem execTableDump_steady (a1 s) (h2 : Steady l z s) : SteadyX l z (execTableDump a1 s) := by
  unfold execTableDump
  refine SteadyX.next ?_
  split
  · assumption
  · split
    · refine Steady.ite ?_ ?_
      · exact dumpTable_steady _ _ _ _ _ _ (by assumption)
      · assumption
    · assumption

theorem bulkBlocks_steady (a1 a2 s) (h3 : Steady l z s) : SteadyP3 l z (bulkBlocks a1 a2 s) := by
  induction a1 generalizing a2 s with
  | nil => exact h3
  | cons e bs ih =>
    obtain ⟨b, n⟩ := e
    unfold bulkBlocks
    split
    · exact ih _ _ h3
    · have h : SteadyA l z (startWork b.key.partition (descKey b.key) (.put b true) s) := startWork_steady _ _ _ _ h3
      exact SteadyP3.ite h (ih _ _ h)

theorem execFlowBulkInsert_steady (a1 a2 s3) (h3 : Steady l z s3) : SteadyX l z (execFlowBulkInsert a1 a2 s3) := by
  unfold execFlowBulkInsert
  refine SteadyX.next ?_
  split
  · assumption
  · split
    · refine Steady.ite ?_ ?_
      · assumption
      · extract_lets -underBinder -merge -useContext +onlyGivenNames x1
        split
        · rename_i v2 v3 v4 v5 q6
          have h7 : Steady l z v5 := by
            refine SteadyP3.get q6 ?_
            exact bulkBlocks_steady _ _ _ (by assumption)
          extract_lets -underBinder -merge -useContext +onlyGivenNames x8
          split
          · extract_lets -underBinder -merge -useContext +onlyGivenNames x9
            have h10 : Steady l z x9 := by
              exact State.setItem_steady _ _ _ (by assumption)
            try clear_value x9
            refine Steady.lit ?_ rfl rfl rfl rfl
            assumption
          · exact endJob_steady _ _ _ _ _ (by assumption)
    · assumption

theorem execCounterSnapshot_steady (a1 s) (h2 : Steady l z s) : SteadyX l z (execCounterSnapshot a1 s) := by
  unfold execCounterSnapshot
  refine SteadyX.next ?_
  split
  · assumption
  · split
    · refine Steady.ite ?_ ?_
      · assumption
      · extract_lets -underBinder -merge -useContext +onlyGivenNames x1
        extract_lets -underBinder -merge -useContext +onlyGivenNames x2
        refine endJob_steady _ _ _ _ _ ?_
        exact writeJob_steady _ _ _ (by assumption)
    · assumption

theorem performDelayed_steady (a1 s2 a3 s4) (h2 : SteadyB l s2) (h4 : Steady l z s4) : SteadyA l z (performDelayed a1 s2 a3 s4) := by
  unfold performDelayed
  extract_lets -underBinder -merge -useContext +onlyGivenNames x1
  have h2 : SteadyA l z x1 := by
    exact Body.apply_steady _ _ (by assumption) (by assumption)
  try clear_value x1
  refine SteadyA.ite ?_ ?_
  · extract_lets -underBinder -merge -useContext +onlyGivenNames x3
    refine SteadyA.mk ?_
    extract_lets -underBinder -merge -useContext +onlyGivenNames x4
    have h5 : Steady l z x4 := by
      assumption
    try clear_value x4
    refine Steady.lit ?_ rfl rfl rfl rfl
    assumption
  · assumption

theorem runEmbedded_steady (s1 a2 a3 s4) (h1 : SteadyB l s1) (h4 : Steady l z s4) : SteadyA l z (runEmbedded s1 a2 a3 s4) := by
  unfold runEmbedded
  refine SteadyA.ite ?_ ?_
  · assumption
  · extract_lets -underBinder -merge -useContext +onlyGivenNames x1
    have h2 : Steady l z x1 := by
      refine Steady.ite ?_ ?_
      · exact auditCommand_steady _ _ _ _ _ _ (by assumption)
      · assumption
    try clear_value x1
    extract_lets -underBinder -merge -useContext +onlyGivenNames x3
    have h4 : SteadyA l z x3 := by
      unfold x3
      split
      · assumption
      · exact performDelayed_steady _ _ _ _ (by assumption) (by assumption)
    try clear_value x3
    refine SteadyA.ite ?_ ?_
    · refine SteadyA.mk ?_
      exact auditCommand_steady _ _ _ _ _ _ (by assumption)
    · assumption

theorem runDelayedJob_steady (a1 a2 s) (hB : ∀ i b, a1 i = some b → SteadyB l b) (h3 : Steady l z s) : Steady l z (runDelayedJob a1 a2 s) := by
  unfold runDelayedJob
  split
  · assumption
  · split
    · rename_i f b _ hb
      have kb : SteadyB l b := by
        obtain ⟨i, _, hi⟩ := Option.bind_eq_some_iff.1 hb
        exact hB i b hi
      refine Steady.ite ?_ ?_
      · exact endJob_steady _ _ _ _ _ h3
      · dsimp only
        generalize ha : runEmbedded b f _ s = a
        have h : SteadyA l z a := ha ▸ runEmbedded_steady _ _ _ _ kb h3
        split
        · exact Steady.lit (State.setItem_steady _ _ _ h) rfl rfl rfl rfl
        · exact endJob_steady _ _ _ _ _ h
        · exact h
    · assumption

theorem bodyJobCancel_steady (a1 a2 a3) : SteadyB l (bodyJobCancel a1 a2 a3) := by
  unfold bodyJobCancel
  extract_lets -underBinder -merge -useContext +onlyGivenNames x1
  refine writeBody_steady _ _ _ _ (fun z _ _ => ?_)
  refine Steady.getD ?_ ?_
  · refine SteadyO.map fun _ => ?_
    · exact cancelItem_steady _ _ _ (by assumption)
  · assumption

theorem bodyJobStatus_steady (a1 a2 a3) : SteadyB l (bodyJobStatus a1 a2 a3) := by
  unfold bodyJobStatus
  exact readBody_steady _ _ _ _

theorem bodyGeyserClassWrite_steady (a1 a2 a3 a4) : SteadyB l (bodyGeyserClassWrite a1 a2 a3 a4) := by
  unfold bodyGeyserClassWrite
  refine writeBody_steady _ _ _ _ (fun z _ _ => ?_)
  refine Steady.lit ?_ rfl rfl rfl rfl
  assumption

theorem bodyGeyserActivityWrite_steady (a1 a2 a3 a4) : SteadyB l (bodyGeyserActivityWrite a1 a2 a3 a4) := by
  unfold bodyGeyserActivityWrite
  refine writeBody_steady _ _ _ _ (fun z _ _ => ?_)
  refine Steady.lit ?_ rfl rfl rfl rfl
  assumption

theorem bodyGeyserStatus_steady (a1) : SteadyB l (bodyGeyserStatus a1) := by
  unfold bodyGeyserStatus
  exact readBody_steady _ _ _ _

theorem bodyFumStatus_steady (a1) : SteadyB l (bodyFumStatus a1) := by
  unfold bodyFumStatus
  exact readBody_steady _ _ _ _

end Sys2Proof.Machine
end

