-- ==== Sys2Proof/Laws/Steady/Staging.lean ====
section
/-! SUPPORT. What the operations of Machine/Staging keep (Laws/Steady). -/

namespace Sys2Proof.Machine

variable {l : Bool × Bool} {z s t : State}

theorem bodyOf_steady (i b) (hl : l.1 = true → ∀ h p, i ≠ .pwrLimitsSet h p) (e : bodyOf i = some b) : SteadyB l b := by
  cases i with
  | parseStateWrite => cases e; exact bodyParseStateWrite_steady _ _ _ _
  | parseGraphCommit => cases e; exact bodyParseGraphCommit_steady _ _
  | parseStateRead => cases e; exact bodyParseStateRead_steady _ _ _ _
  | keyProfileWrite => cases e; exact bodyKeyProfileWrite_steady _ _ _ _
  | searchProfileWrite => cases e; exact bodySearchProfileWrite_steady _ _ _ _
  | portClassMapWrite => cases e; exact bodyPortClassMapWrite_steady _ _ _
  | portDefaultsWrite => cases e; exact bodyPortDefaultsWrite_steady _ _
  | controlMatchWrite => cases e; exact bodyControlMatchWrite_steady _ _
  | bankModeWrite => cases e; exact bodyBankModeWrite_steady _ _ _ _
  | listCreate => cases e; exact bodyListCreate_steady _ _
  | listDelete => cases e; exact bodyListDelete_steady _ _ _
  | ruleInsert => cases e; exact bodyRuleInsert_steady _ _
  | ruleDelete => cases e; exact bodyRuleDelete_steady _ _
  | ruleActionWrite => cases e; exact bodyRuleActionWrite_steady _ _ _
  | ruleRead => cases e; exact bodyRuleRead_steady _ _ _
  | listRespace => cases e; exact bodyListRespace_steady _ _ _ _
  | tcamRawWrite => cases e; exact bodyTcamRawWrite_steady _ _
  | tcamRawRead => cases e; exact bodyTcamRawRead_steady _ _ _
  | recircConfig => cases e; exact bodyRecircConfig_steady _ _ _
  | mirrorSessionWrite => cases e; exact bodyMirrorSessionWrite_steady _ _
  | parseCountersRead => cases e; exact bodyParseCountersRead_steady _ _ _
  | partitionCreate => cases e; exact bodyPartitionCreate_steady _ _
  | partitionDelete => cases e; exact bodyPartitionDelete_steady _ _
  | partitionRead => cases e; exact bodyPartitionRead_steady _ _
  | flowInsert => cases e; exact bodyFlowInsert_steady _ _
  | flowUpdate => cases e; exact bodyFlowUpdate_steady _ _
  | flowRead => cases e; exact bodyFlowRead_steady _ _ _
  | flowDelete => cases e; exact bodyFlowDelete_steady _ _
  | flowSearchNext => cases e; exact bodyFlowSearchNext_steady _ _
  | flowFlush => cases e; exact bodyFlowFlush_steady _ _
  | ageClassWrite => cases e; exact bodyAgeClassWrite_steady _ _ _
  | sweepConfig => cases e; exact bodySweepConfig_steady _ _ _
  | flowTableStatus => cases e; exact bodyFlowTableStatus_steady _
  | flowTemplateWrite => cases e; exact bodyFlowTemplateWrite_steady _ _
  | flowTemplateRead => cases e; exact bodyFlowTemplateRead_steady _ _
  | natPoolWrite => cases e; exact bodyNatPoolWrite_steady _ _
  | natPoolAddrWrite => cases e; exact bodyNatPoolAddrWrite_steady _ _
  | natPoolDelete => cases e; exact bodyNatPoolDelete_steady _ _
  | natPoolStatus => cases e; exact bodyNatPoolStatus_steady _ _
  | lbPoolWrite => cases e; exact bodyLbPoolWrite_steady _ _
  | lbBackendWrite => cases e; exact bodyLbBackendWrite_steady _ _
  | lbPoolCommit => cases e; exact bodyLbPoolCommit_steady _ _
  | lbPoolRead => cases e; exact bodyLbPoolRead_steady _ _
  | groupHomeWrite => cases e; exact bodyGroupHomeWrite_steady _ _
  | exportProfileWrite => cases e; exact bodyExportProfileWrite_steady _ _
  | exportStatus => cases e; exact bodyExportStatus_steady _ _
  | serviceCountersRead => cases e; exact bodyServiceCountersRead_steady _ _ _
  | vlanWrite => cases e; exact bodyVlanWrite_steady _ _ _
  | portL2Write => cases e; exact bodyPortL2Write_steady _ _ _ _
  | l2TableConfig => cases e; exact bodyL2TableConfig_steady _ _
  | l2EntryWrite => cases e; exact bodyL2EntryWrite_steady _ _
  | l2EntryDelete => cases e; exact bodyL2EntryDelete_steady _ _ _
  | l2EntryRead => cases e; exact bodyL2EntryRead_steady _ _ _
  | l2SearchNext => cases e; exact bodyL2SearchNext_steady _ _ _
  | l2Flush => cases e; exact bodyL2Flush_steady _ _
  | l2Unpin => cases e; exact bodyL2Unpin_steady _ _ _
  | lagWrite => cases e; exact bodyLagWrite_steady _ _ _
  | mcastGroupWrite => cases e; exact bodyMcastGroupWrite_steady _ _ _
  | l2LearnShareConfig => cases e; exact bodyL2LearnShareConfig_steady _ _
  | deviceReachWrite => cases e; exact bodyDeviceReachWrite_steady _ _ _ _
  | l2LearnNotifyRead => cases e; exact bodyL2LearnNotifyRead_steady _ _
  | l2Status => cases e; exact bodyL2Status_steady _
  | learnMessage => cases e; exact bodyLearnMessage_steady _ _
  | routerMacWrite => cases e; exact bodyRouterMacWrite_steady _ _ _ _
  | vrfWrite => cases e; exact bodyVrfWrite_steady _ _
  | nexthopWrite => cases e; exact bodyNexthopWrite_steady _ _
  | ecmpMembersWrite => cases e; exact bodyEcmpMembersWrite_steady _ _ _
  | hostEntryWrite => cases e; exact bodyHostEntryWrite_steady _ _
  | hostEntryDelete => cases e; exact bodyHostEntryDelete_steady _ _ _ _
  | hostEntryRead => cases e; exact bodyHostEntryRead_steady _ _ _ _
  | hostSearchNext => cases e; exact bodyHostSearchNext_steady _ _ _
  | lpmRouteAdd => cases e; exact bodyLpmRouteAdd_steady _ _ _
  | lpmRouteReplace => cases e; exact bodyLpmRouteReplace_steady _ _ _
  | lpmRouteDelete => cases e; exact bodyLpmRouteDelete_steady _ _ _
  | lpmRouteNext => cases e; exact bodyLpmRouteNext_steady _ _ _ _
  | l3Status => cases e; exact bodyL3Status_steady _
  | bufProfileWrite => cases e; exact bodyBufProfileWrite_steady _ _
  | voqProfileMap => cases e; exact bodyVoqProfileMap_steady _ _ _ _
  | bufRegionWrite => cases e; exact bodyBufRegionWrite_steady _ _
  | portPfcWrite => cases e; exact bodyPortPfcWrite_steady _ _
  | portLingerWrite => cases e; exact bodyPortLingerWrite_steady _ _ _
  | bufCommit => cases e; exact bodyBufCommit_steady _
  | voqStatus => cases e; exact bodyVoqStatus_steady _ _ _
  | voqCountersRead => cases e; exact bodyVoqCountersRead_steady _ _ _ _
  | bufStatus => cases e; exact bodyBufStatus_steady _
  | fabricConfig => cases e; exact bodyFabricConfig_steady _ _
  | fabricLinkWrite => cases e; exact bodyFabricLinkWrite_steady _ _
  | fabricStatus => cases e; exact bodyFabricStatus_steady _
  | fabricCountersRead => cases e; exact bodyFabricCountersRead_steady _ _
  | portSchedWrite => cases e; exact bodyPortSchedWrite_steady _ _
  | queueShaperWrite => cases e; exact bodyQueueShaperWrite_steady _ _
  | gateListWrite => cases e; exact bodyGateListWrite_steady _ _ _ _
  | gateConfigWrite => cases e; exact bodyGateConfigWrite_steady _ _
  | gateStatus => cases e; exact bodyGateStatus_steady _ _
  | egressCountersRead => cases e; exact bodyEgressCountersRead_steady _ _ _
  | policerWrite => cases e; exact bodyPolicerWrite_steady _ _
  | policerRead => cases e; exact bodyPolicerRead_steady _ _ _ _
  | hwmRead => cases e; exact bodyHwmRead_steady _ _
  | hbmBudgetWrite => cases e; exact bodyHbmBudgetWrite_steady _ _
  | hbmBudgetRead => cases e; exact bodyHbmBudgetRead_steady _
  | hbmStatus => cases e; exact bodyHbmStatus_steady _
  | hbmScrubConfig => cases e; exact bodyHbmScrubConfig_steady _ _
  | hbmPcRetire => cases e; exact bodyHbmPcRetire_steady _ _
  | sysIdentity => cases e; exact bodySysIdentity_steady _
  | sysStatus => cases e; exact bodySysStatus_steady _
  | sysEcho => cases e; exact bodySysEcho_steady _
  | sysGroupOpen => cases e; exact bodySysGroupOpen_steady _ _
  | sysGroupAbort => cases e; exact bodySysGroupAbort_steady _
  | sysCompletionAck => cases e; exact bodySysCompletionAck_steady _ _
  | sysPendingRead => cases e; exact bodySysPendingRead_steady _
  | sysIntakeConfig => cases e; exact bodySysIntakeConfig_steady _ _
  | sysDeviceIdWrite => cases e; exact bodySysDeviceIdWrite_steady _ _ _
  | sysReset => cases e; exact bodySysReset_steady _ _
  | portConfig => cases e; exact bodyPortConfig_steady _ _
  | portStatus => cases e; exact bodyPortStatus_steady _ _
  | portCountersRead => cases e; exact bodyPortCountersRead_steady _ _ _
  | portAdmin => cases e; exact bodyPortAdmin_steady _ _ _
  | portOpticsAccess => cases e; exact bodyPortOpticsAccess_steady _ _
  | diagPrbs => cases e; exact bodyDiagPrbs_steady _ _
  | diagLoopback => cases e; exact bodyDiagLoopback_steady _ _ _
  | diagEyeScan => cases e; exact bodyDiagEyeScan_steady _ _ _ _
  | diagRegRead => cases e; exact bodyDiagRegRead_steady _ _ _
  | diagErrorInject => cases e; exact bodyDiagErrorInject_steady _ _
  | diagMemTest => cases e; exact bodyDiagMemTest_steady _ _ _
  | secKeyWrite => cases e; exact bodySecKeyWrite_steady _ _
  | secKeyClear => cases e; exact bodySecKeyClear_steady _ _ _ _
  | secKeyStatus => cases e; exact bodySecKeyStatus_steady _
  | secHostAccess => cases e; exact bodySecHostAccess_steady _ _ _
  | secLifecycleSet => cases e; exact bodySecLifecycleSet_steady _ _ _ _
  | secFwWrite => cases e; exact bodySecFwWrite_steady _ _
  | secFwActivate => cases e; exact bodySecFwActivate_steady _ _ _
  | secFwStatus => cases e; exact bodySecFwStatus_steady _
  | auditRead => cases e; exact bodyAuditRead_steady _ _ _
  | auditAck => cases e; exact bodyAuditAck_steady _ _
  | auditConfig => cases e; exact bodyAuditConfig_steady _ _ _
  | jobCancel => cases e; exact bodyJobCancel_steady _ _ _
  | jobStatus => cases e; exact bodyJobStatus_steady _ _ _
  | geyserClassWrite => cases e; exact bodyGeyserClassWrite_steady _ _ _ _
  | geyserActivityWrite => cases e; exact bodyGeyserActivityWrite_steady _ _ _ _
  | geyserStatus => cases e; exact bodyGeyserStatus_steady _
  | fumStatus => cases e; exact bodyFumStatus_steady _
  | pwrModeSet => cases e; exact bodyPwrModeSet_steady _ _ _ _
  | pwrCapSet => cases e; exact bodyPwrCapSet_steady _ _ _
  | pwrLimitsSet h p =>
    cases e
    obtain ⟨a, c⟩ := l
    cases a with
    | true => exact absurd rfl (hl rfl h p)
    | false => exact bodyPwrLimitsSet_steady (l := (false, c)) _ _
  | pwrReducedProfileWrite => cases e; exact bodyPwrReducedProfileWrite_steady _ _
  | pwrScheduleWrite => cases e; exact bodyPwrScheduleWrite_steady _ _
  | pwrWakeConfig => cases e; exact bodyPwrWakeConfig_steady _ _
  | pwrStatus => cases e; exact bodyPwrStatus_steady _
  | timeSourceConfig => cases e; exact bodyTimeSourceConfig_steady _ _
  | timeSet => cases e; exact bodyTimeSet_steady _ _
  | timeStatus => cases e; exact bodyTimeStatus_steady _
  | ptpClockConfig => cases e; exact bodyPtpClockConfig_steady _ _
  | ptpPortConfig => cases e; exact bodyPtpPortConfig_steady _ _
  | ptpStatus => cases e; exact bodyPtpStatus_steady _
  | timeOutputWrite => cases e; exact bodyTimeOutputWrite_steady _ _
  | eventStampRead => cases e; exact bodyEventStampRead_steady _
  | lldpConfig => cases e; exact bodyLldpConfig_steady _ _
  | discoveryRead => cases e; exact bodyDiscoveryRead_steady _ _ _ _
  | domainConfig => cases e; exact bodyDomainConfig_steady _ _ _ _
  | opticsSlotWrite => cases e; exact bodyOpticsSlotWrite_steady _ _
  | opticsStatus => cases e; exact bodyOpticsStatus_steady _
  | faultStatus => cases e; exact bodyFaultStatus_steady _
  | faultPolicyWrite => cases e; exact bodyFaultPolicyWrite_steady _ _ _ _
  | faultLogRead => cases e; exact bodyFaultLogRead_steady _ _ _
  | hwRetire => cases e; exact bodyHwRetire_steady _ _
  | faultRecordClear => cases e; exact bodyFaultRecordClear_steady _
  | _ => cases e

end Sys2Proof.Machine
end

