-- ==== Sys2Proof/Laws/Steady/Commands.lean ====
section
/-! SUPPORT. What the operations of Machine/Commands keep (Laws/Steady). -/

namespace Sys2Proof.Machine

variable {l : Bool × Bool} {z s t : State}

theorem execCommandTimeout_steady (a1 a2 s3) (h3 : Steady l z s3) : SteadyX l z (execCommandTimeout a1 a2 s3) := by
  unfold execCommandTimeout
  refine SteadyX.ite ?_ ?_
  · refine SteadyX.next ?_
    assumption
  · split
    · refine SteadyX.next ?_
      refine endTableWait_steady _ _ ?_
      refine Steady.lit ?_ rfl rfl rfl rfl
      assumption
    · split
      · refine SteadyX.next ?_
        refine endFlowCmd_steady _ _ _ _ ?_
        exact abandon_steady _ _ (by assumption)
      · refine SteadyX.ite ?_ ?_
        · refine SteadyX.next ?_
          assumption
        · extract_lets -underBinder -merge -useContext +onlyGivenNames x1
          extract_lets -underBinder -merge -useContext +onlyGivenNames x2
          split
          · rename_i v4 v5 v6 q7
            have h8 : Steady l z v6 := by
              refine SteadyP.get q7 ?_
              exact takeIntake_steady _ _ _ (by assumption)
            split
            · extract_lets -underBinder -merge -useContext +onlyGivenNames x9
              have h10 : Steady l z x9 := by
                exact recordSeq_steady _ _ (by assumption)
              try clear_value x9
              refine SteadyX.next ?_
              refine conclude_steady _ _ _ _ _ _ _ _ ?_
              refine Steady.ite ?_ ?_
              · exact auditCommand_steady _ _ _ _ _ _ (by assumption)
              · assumption
            · refine SteadyX.next ?_
              exact rejectFrame_steady _ _ _ _ (by assumption)
            · refine SteadyX.next ?_
              refine rejectFrame_steady _ _ _ _ ?_
              exact macFailure_steady _ _ (by assumption)
            · refine SteadyX.next ?_
              exact resend_steady _ _ _ _ (by assumption)

theorem execParseStateWrite_steady (a1 a2 a3 a4 s) (h5 : Steady l z s) : SteadyX l z (execParseStateWrite a1 a2 a3 a4 s) := by
  unfold execParseStateWrite
  refine SteadyX.next ?_
  refine ocfRun_steady _ _ _ _ _ ?_ ?_
  · exact bodyParseStateWrite_steady _ _ _ _
  · assumption

theorem execParseGraphCommit_steady (a1 a2 s) (h3 : Steady l z s) : SteadyX l z (execParseGraphCommit a1 a2 s) := by
  unfold execParseGraphCommit
  refine SteadyX.next ?_
  refine ocfRun_steady _ _ _ _ _ ?_ ?_
  · exact bodyParseGraphCommit_steady _ _
  · assumption

theorem execParseStateRead_steady (a1 a2 a3 a4 s) (h5 : Steady l z s) : SteadyX l z (execParseStateRead a1 a2 a3 a4 s) := by
  unfold execParseStateRead
  refine SteadyX.next ?_
  refine ocfRun_steady _ _ _ _ _ ?_ ?_
  · exact bodyParseStateRead_steady _ _ _ _
  · assumption

theorem execKeyProfileWrite_steady (a1 a2 a3 a4 s) (h5 : Steady l z s) : SteadyX l z (execKeyProfileWrite a1 a2 a3 a4 s) := by
  unfold execKeyProfileWrite
  refine SteadyX.next ?_
  refine ocfRun_steady _ _ _ _ _ ?_ ?_
  · exact bodyKeyProfileWrite_steady _ _ _ _
  · assumption

theorem execSearchProfileWrite_steady (a1 a2 a3 a4 s) (h5 : Steady l z s) : SteadyX l z (execSearchProfileWrite a1 a2 a3 a4 s) := by
  unfold execSearchProfileWrite
  refine SteadyX.next ?_
  refine ocfRun_steady _ _ _ _ _ ?_ ?_
  · exact bodySearchProfileWrite_steady _ _ _ _
  · assumption

theorem execPortClassMapWrite_steady (a1 a2 a3 s) (h4 : Steady l z s) : SteadyX l z (execPortClassMapWrite a1 a2 a3 s) := by
  unfold execPortClassMapWrite
  refine SteadyX.next ?_
  refine ocfRun_steady _ _ _ _ _ ?_ ?_
  · exact bodyPortClassMapWrite_steady _ _ _
  · assumption

theorem execPortDefaultsWrite_steady (a1 a2 s) (h3 : Steady l z s) : SteadyX l z (execPortDefaultsWrite a1 a2 s) := by
  unfold execPortDefaultsWrite
  refine SteadyX.next ?_
  refine ocfRun_steady _ _ _ _ _ ?_ ?_
  · exact bodyPortDefaultsWrite_steady _ _
  · assumption

theorem execControlMatchWrite_steady (a1 a2 s) (h3 : Steady l z s) : SteadyX l z (execControlMatchWrite a1 a2 s) := by
  unfold execControlMatchWrite
  refine SteadyX.next ?_
  refine ocfRun_steady _ _ _ _ _ ?_ ?_
  · exact bodyControlMatchWrite_steady _ _
  · assumption

theorem execBankModeWrite_steady (a1 a2 a3 a4 s) (h5 : Steady l z s) : SteadyX l z (execBankModeWrite a1 a2 a3 a4 s) := by
  unfold execBankModeWrite
  refine SteadyX.next ?_
  refine ocfRun_steady _ _ _ _ _ ?_ ?_
  · exact bodyBankModeWrite_steady _ _ _ _
  · assumption

theorem execListCreate_steady (a1 a2 s) (h3 : Steady l z s) : SteadyX l z (execListCreate a1 a2 s) := by
  unfold execListCreate
  refine SteadyX.next ?_
  refine ocfRun_steady _ _ _ _ _ ?_ ?_
  · exact bodyListCreate_steady _ _
  · assumption

theorem execListDelete_steady (a1 a2 a3 s) (h4 : Steady l z s) : SteadyX l z (execListDelete a1 a2 a3 s) := by
  unfold execListDelete
  refine SteadyX.next ?_
  refine ocfRun_steady _ _ _ _ _ ?_ ?_
  · exact bodyListDelete_steady _ _ _
  · assumption

theorem execRuleInsert_steady (a1 a2 s) (h3 : Steady l z s) : SteadyX l z (execRuleInsert a1 a2 s) := by
  unfold execRuleInsert
  refine SteadyX.next ?_
  refine ocfRun_steady _ _ _ _ _ ?_ ?_
  · exact bodyRuleInsert_steady _ _
  · assumption

theorem execRuleDelete_steady (a1 a2 s) (h3 : Steady l z s) : SteadyX l z (execRuleDelete a1 a2 s) := by
  unfold execRuleDelete
  refine SteadyX.next ?_
  refine ocfRun_steady _ _ _ _ _ ?_ ?_
  · exact bodyRuleDelete_steady _ _
  · assumption

theorem execRuleActionWrite_steady (a1 a2 a3 s) (h4 : Steady l z s) : SteadyX l z (execRuleActionWrite a1 a2 a3 s) := by
  unfold execRuleActionWrite
  refine SteadyX.next ?_
  refine ocfRun_steady _ _ _ _ _ ?_ ?_
  · exact bodyRuleActionWrite_steady _ _ _
  · assumption

theorem execRuleRead_steady (a1 a2 a3 s) (h4 : Steady l z s) : SteadyX l z (execRuleRead a1 a2 a3 s) := by
  unfold execRuleRead
  refine SteadyX.next ?_
  refine ocfRun_steady _ _ _ _ _ ?_ ?_
  · exact bodyRuleRead_steady _ _ _
  · assumption

theorem execListRespace_steady (a1 a2 a3 a4 s) (h5 : Steady l z s) : SteadyX l z (execListRespace a1 a2 a3 a4 s) := by
  unfold execListRespace
  refine SteadyX.next ?_
  refine ocfRun_steady _ _ _ _ _ ?_ ?_
  · exact bodyListRespace_steady _ _ _ _
  · assumption

theorem execTcamRawWrite_steady (a1 a2 s) (h3 : Steady l z s) : SteadyX l z (execTcamRawWrite a1 a2 s) := by
  unfold execTcamRawWrite
  refine SteadyX.next ?_
  refine ocfRun_steady _ _ _ _ _ ?_ ?_
  · exact bodyTcamRawWrite_steady _ _
  · assumption

theorem execTcamRawRead_steady (a1 a2 a3 s) (h4 : Steady l z s) : SteadyX l z (execTcamRawRead a1 a2 a3 s) := by
  unfold execTcamRawRead
  refine SteadyX.next ?_
  refine ocfRun_steady _ _ _ _ _ ?_ ?_
  · exact bodyTcamRawRead_steady _ _ _
  · assumption

theorem execRecircConfig_steady (a1 a2 a3 s) (h4 : Steady l z s) : SteadyX l z (execRecircConfig a1 a2 a3 s) := by
  unfold execRecircConfig
  refine SteadyX.next ?_
  refine ocfRun_steady _ _ _ _ _ ?_ ?_
  · exact bodyRecircConfig_steady _ _ _
  · assumption

theorem execMirrorSessionWrite_steady (a1 a2 s) (h3 : Steady l z s) : SteadyX l z (execMirrorSessionWrite a1 a2 s) := by
  unfold execMirrorSessionWrite
  refine SteadyX.next ?_
  refine ocfRun_steady _ _ _ _ _ ?_ ?_
  · exact bodyMirrorSessionWrite_steady _ _
  · assumption

theorem execParseCountersRead_steady (a1 a2 a3 s) (h4 : Steady l z s) : SteadyX l z (execParseCountersRead a1 a2 a3 s) := by
  unfold execParseCountersRead
  refine SteadyX.next ?_
  refine ocfRun_steady _ _ _ _ _ ?_ ?_
  · exact bodyParseCountersRead_steady _ _ _
  · assumption

theorem execPartitionCreate_steady (a1 a2 s) (h3 : Steady l z s) : SteadyX l z (execPartitionCreate a1 a2 s) := by
  unfold execPartitionCreate
  refine SteadyX.next ?_
  refine ocfRun_steady _ _ _ _ _ ?_ ?_
  · exact bodyPartitionCreate_steady _ _
  · assumption

theorem execPartitionDelete_steady (a1 a2 s) (h3 : Steady l z s) : SteadyX l z (execPartitionDelete a1 a2 s) := by
  unfold execPartitionDelete
  refine SteadyX.next ?_
  refine ocfRun_steady _ _ _ _ _ ?_ ?_
  · exact bodyPartitionDelete_steady _ _
  · assumption

theorem execPartitionRead_steady (a1 a2 s) (h3 : Steady l z s) : SteadyX l z (execPartitionRead a1 a2 s) := by
  unfold execPartitionRead
  refine SteadyX.next ?_
  refine ocfRun_steady _ _ _ _ _ ?_ ?_
  · exact bodyPartitionRead_steady _ _
  · assumption

theorem execFlowInsert_steady (a1 a2 s) (h3 : Steady l z s) : SteadyX l z (execFlowInsert a1 a2 s) := by
  unfold execFlowInsert
  refine SteadyX.next ?_
  refine ocfRun_steady _ _ _ _ _ ?_ ?_
  · exact bodyFlowInsert_steady _ _
  · assumption

theorem execFlowUpdate_steady (a1 a2 s) (h3 : Steady l z s) : SteadyX l z (execFlowUpdate a1 a2 s) := by
  unfold execFlowUpdate
  refine SteadyX.next ?_
  refine ocfRun_steady _ _ _ _ _ ?_ ?_
  · exact bodyFlowUpdate_steady _ _
  · assumption

theorem execFlowRead_steady (a1 a2 a3 s) (h4 : Steady l z s) : SteadyX l z (execFlowRead a1 a2 a3 s) := by
  unfold execFlowRead
  refine SteadyX.next ?_
  refine ocfRun_steady _ _ _ _ _ ?_ ?_
  · exact bodyFlowRead_steady _ _ _
  · assumption

theorem execFlowDelete_steady (a1 a2 s) (h3 : Steady l z s) : SteadyX l z (execFlowDelete a1 a2 s) := by
  unfold execFlowDelete
  refine SteadyX.next ?_
  refine ocfRun_steady _ _ _ _ _ ?_ ?_
  · exact bodyFlowDelete_steady _ _
  · assumption

theorem execFlowSearchNext_steady (a1 a2 s) (h3 : Steady l z s) : SteadyX l z (execFlowSearchNext a1 a2 s) := by
  unfold execFlowSearchNext
  refine SteadyX.next ?_
  refine ocfRun_steady _ _ _ _ _ ?_ ?_
  · exact bodyFlowSearchNext_steady _ _
  · assumption

theorem execFlowFlush_steady (a1 a2 s) (h3 : Steady l z s) : SteadyX l z (execFlowFlush a1 a2 s) := by
  unfold execFlowFlush
  refine SteadyX.next ?_
  refine ocfRun_steady _ _ _ _ _ ?_ ?_
  · exact bodyFlowFlush_steady _ _
  · assumption

theorem execAgeClassWrite_steady (a1 a2 a3 s) (h4 : Steady l z s) : SteadyX l z (execAgeClassWrite a1 a2 a3 s) := by
  unfold execAgeClassWrite
  refine SteadyX.next ?_
  refine ocfRun_steady _ _ _ _ _ ?_ ?_
  · exact bodyAgeClassWrite_steady _ _ _
  · assumption

theorem execSweepConfig_steady (a1 a2 a3 s) (h4 : Steady l z s) : SteadyX l z (execSweepConfig a1 a2 a3 s) := by
  unfold execSweepConfig
  refine SteadyX.next ?_
  refine ocfRun_steady _ _ _ _ _ ?_ ?_
  · exact bodySweepConfig_steady _ _ _
  · assumption

theorem execFlowTableStatus_steady (a1 s) (h2 : Steady l z s) : SteadyX l z (execFlowTableStatus a1 s) := by
  unfold execFlowTableStatus
  refine SteadyX.next ?_
  refine ocfRun_steady _ _ _ _ _ ?_ ?_
  · exact bodyFlowTableStatus_steady _
  · assumption

theorem execFlowTemplateWrite_steady (a1 a2 s) (h3 : Steady l z s) : SteadyX l z (execFlowTemplateWrite a1 a2 s) := by
  unfold execFlowTemplateWrite
  refine SteadyX.next ?_
  refine ocfRun_steady _ _ _ _ _ ?_ ?_
  · exact bodyFlowTemplateWrite_steady _ _
  · assumption

theorem execFlowTemplateRead_steady (a1 a2 s) (h3 : Steady l z s) : SteadyX l z (execFlowTemplateRead a1 a2 s) := by
  unfold execFlowTemplateRead
  refine SteadyX.next ?_
  refine ocfRun_steady _ _ _ _ _ ?_ ?_
  · exact bodyFlowTemplateRead_steady _ _
  · assumption

theorem execNatPoolWrite_steady (a1 a2 s) (h3 : Steady l z s) : SteadyX l z (execNatPoolWrite a1 a2 s) := by
  unfold execNatPoolWrite
  refine SteadyX.next ?_
  refine ocfRun_steady _ _ _ _ _ ?_ ?_
  · exact bodyNatPoolWrite_steady _ _
  · assumption

theorem execNatPoolAddrWrite_steady (a1 a2 s) (h3 : Steady l z s) : SteadyX l z (execNatPoolAddrWrite a1 a2 s) := by
  unfold execNatPoolAddrWrite
  refine SteadyX.next ?_
  refine ocfRun_steady _ _ _ _ _ ?_ ?_
  · exact bodyNatPoolAddrWrite_steady _ _
  · assumption

theorem execNatPoolDelete_steady (a1 a2 s) (h3 : Steady l z s) : SteadyX l z (execNatPoolDelete a1 a2 s) := by
  unfold execNatPoolDelete
  refine SteadyX.next ?_
  refine ocfRun_steady _ _ _ _ _ ?_ ?_
  · exact bodyNatPoolDelete_steady _ _
  · assumption

theorem execNatPoolStatus_steady (a1 a2 s) (h3 : Steady l z s) : SteadyX l z (execNatPoolStatus a1 a2 s) := by
  unfold execNatPoolStatus
  refine SteadyX.next ?_
  refine ocfRun_steady _ _ _ _ _ ?_ ?_
  · exact bodyNatPoolStatus_steady _ _
  · assumption

theorem execLbPoolWrite_steady (a1 a2 s) (h3 : Steady l z s) : SteadyX l z (execLbPoolWrite a1 a2 s) := by
  unfold execLbPoolWrite
  refine SteadyX.next ?_
  refine ocfRun_steady _ _ _ _ _ ?_ ?_
  · exact bodyLbPoolWrite_steady _ _
  · assumption

theorem execLbBackendWrite_steady (a1 a2 s) (h3 : Steady l z s) : SteadyX l z (execLbBackendWrite a1 a2 s) := by
  unfold execLbBackendWrite
  refine SteadyX.next ?_
  refine ocfRun_steady _ _ _ _ _ ?_ ?_
  · exact bodyLbBackendWrite_steady _ _
  · assumption

theorem execLbPoolCommit_steady (a1 a2 s) (h3 : Steady l z s) : SteadyX l z (execLbPoolCommit a1 a2 s) := by
  unfold execLbPoolCommit
  refine SteadyX.next ?_
  refine ocfRun_steady _ _ _ _ _ ?_ ?_
  · exact bodyLbPoolCommit_steady _ _
  · assumption

theorem execLbPoolRead_steady (a1 a2 s) (h3 : Steady l z s) : SteadyX l z (execLbPoolRead a1 a2 s) := by
  unfold execLbPoolRead
  refine SteadyX.next ?_
  refine ocfRun_steady _ _ _ _ _ ?_ ?_
  · exact bodyLbPoolRead_steady _ _
  · assumption

theorem execGroupHomeWrite_steady (a1 a2 s) (h3 : Steady l z s) : SteadyX l z (execGroupHomeWrite a1 a2 s) := by
  unfold execGroupHomeWrite
  refine SteadyX.next ?_
  refine ocfRun_steady _ _ _ _ _ ?_ ?_
  · exact bodyGroupHomeWrite_steady _ _
  · assumption

theorem execExportProfileWrite_steady (a1 a2 s) (h3 : Steady l z s) : SteadyX l z (execExportProfileWrite a1 a2 s) := by
  unfold execExportProfileWrite
  refine SteadyX.next ?_
  refine ocfRun_steady _ _ _ _ _ ?_ ?_
  · exact bodyExportProfileWrite_steady _ _
  · assumption

theorem execExportStatus_steady (a1 a2 s) (h3 : Steady l z s) : SteadyX l z (execExportStatus a1 a2 s) := by
  unfold execExportStatus
  refine SteadyX.next ?_
  refine ocfRun_steady _ _ _ _ _ ?_ ?_
  · exact bodyExportStatus_steady _ _
  · assumption

theorem execServiceCountersRead_steady (a1 a2 a3 s) (h4 : Steady l z s) : SteadyX l z (execServiceCountersRead a1 a2 a3 s) := by
  unfold execServiceCountersRead
  refine SteadyX.next ?_
  refine ocfRun_steady _ _ _ _ _ ?_ ?_
  · exact bodyServiceCountersRead_steady _ _ _
  · assumption

theorem execVlanWrite_steady (a1 a2 a3 s) (h4 : Steady l z s) : SteadyX l z (execVlanWrite a1 a2 a3 s) := by
  unfold execVlanWrite
  refine SteadyX.next ?_
  refine ocfRun_steady _ _ _ _ _ ?_ ?_
  · exact bodyVlanWrite_steady _ _ _
  · assumption

theorem execPortL2Write_steady (a1 a2 a3 a4 s) (h5 : Steady l z s) : SteadyX l z (execPortL2Write a1 a2 a3 a4 s) := by
  unfold execPortL2Write
  refine SteadyX.next ?_
  refine ocfRun_steady _ _ _ _ _ ?_ ?_
  · exact bodyPortL2Write_steady _ _ _ _
  · assumption

theorem execL2TableConfig_steady (a1 a2 s) (h3 : Steady l z s) : SteadyX l z (execL2TableConfig a1 a2 s) := by
  unfold execL2TableConfig
  refine SteadyX.next ?_
  refine ocfRun_steady _ _ _ _ _ ?_ ?_
  · exact bodyL2TableConfig_steady _ _
  · assumption

theorem execL2EntryWrite_steady (a1 a2 s) (h3 : Steady l z s) : SteadyX l z (execL2EntryWrite a1 a2 s) := by
  unfold execL2EntryWrite
  refine SteadyX.next ?_
  refine ocfRun_steady _ _ _ _ _ ?_ ?_
  · exact bodyL2EntryWrite_steady _ _
  · assumption

theorem execL2EntryDelete_steady (a1 a2 a3 s) (h4 : Steady l z s) : SteadyX l z (execL2EntryDelete a1 a2 a3 s) := by
  unfold execL2EntryDelete
  refine SteadyX.next ?_
  refine ocfRun_steady _ _ _ _ _ ?_ ?_
  · exact bodyL2EntryDelete_steady _ _ _
  · assumption

theorem execL2EntryRead_steady (a1 a2 a3 s) (h4 : Steady l z s) : SteadyX l z (execL2EntryRead a1 a2 a3 s) := by
  unfold execL2EntryRead
  refine SteadyX.next ?_
  refine ocfRun_steady _ _ _ _ _ ?_ ?_
  · exact bodyL2EntryRead_steady _ _ _
  · assumption

theorem execL2SearchNext_steady (a1 a2 a3 s) (h4 : Steady l z s) : SteadyX l z (execL2SearchNext a1 a2 a3 s) := by
  unfold execL2SearchNext
  refine SteadyX.next ?_
  refine ocfRun_steady _ _ _ _ _ ?_ ?_
  · exact bodyL2SearchNext_steady _ _ _
  · assumption

theorem execL2Flush_steady (a1 a2 s) (h3 : Steady l z s) : SteadyX l z (execL2Flush a1 a2 s) := by
  unfold execL2Flush
  refine SteadyX.next ?_
  refine ocfRun_steady _ _ _ _ _ ?_ ?_
  · exact bodyL2Flush_steady _ _
  · assumption

theorem execL2Unpin_steady (a1 a2 a3 s) (h4 : Steady l z s) : SteadyX l z (execL2Unpin a1 a2 a3 s) := by
  unfold execL2Unpin
  refine SteadyX.next ?_
  refine ocfRun_steady _ _ _ _ _ ?_ ?_
  · exact bodyL2Unpin_steady _ _ _
  · assumption

theorem execLagWrite_steady (a1 a2 a3 s) (h4 : Steady l z s) : SteadyX l z (execLagWrite a1 a2 a3 s) := by
  unfold execLagWrite
  refine SteadyX.next ?_
  refine ocfRun_steady _ _ _ _ _ ?_ ?_
  · exact bodyLagWrite_steady _ _ _
  · assumption

theorem execMcastGroupWrite_steady (a1 a2 a3 s) (h4 : Steady l z s) : SteadyX l z (execMcastGroupWrite a1 a2 a3 s) := by
  unfold execMcastGroupWrite
  refine SteadyX.next ?_
  refine ocfRun_steady _ _ _ _ _ ?_ ?_
  · exact bodyMcastGroupWrite_steady _ _ _
  · assumption

theorem execL2LearnShareConfig_steady (a1 a2 s) (h3 : Steady l z s) : SteadyX l z (execL2LearnShareConfig a1 a2 s) := by
  unfold execL2LearnShareConfig
  refine SteadyX.next ?_
  refine ocfRun_steady _ _ _ _ _ ?_ ?_
  · exact bodyL2LearnShareConfig_steady _ _
  · assumption

theorem execDeviceReachWrite_steady (a1 a2 a3 a4 s) (h5 : Steady l z s) : SteadyX l z (execDeviceReachWrite a1 a2 a3 a4 s) := by
  unfold execDeviceReachWrite
  refine SteadyX.next ?_
  refine ocfRun_steady _ _ _ _ _ ?_ ?_
  · exact bodyDeviceReachWrite_steady _ _ _ _
  · assumption

theorem execL2LearnNotifyRead_steady (a1 a2 s) (h3 : Steady l z s) : SteadyX l z (execL2LearnNotifyRead a1 a2 s) := by
  unfold execL2LearnNotifyRead
  refine SteadyX.next ?_
  refine ocfRun_steady _ _ _ _ _ ?_ ?_
  · exact bodyL2LearnNotifyRead_steady _ _
  · assumption

theorem execL2Status_steady (a1 s) (h2 : Steady l z s) : SteadyX l z (execL2Status a1 s) := by
  unfold execL2Status
  refine SteadyX.next ?_
  refine ocfRun_steady _ _ _ _ _ ?_ ?_
  · exact bodyL2Status_steady _
  · assumption

theorem execLearnMessage_steady (a1 a2 s) (h3 : Steady l z s) : SteadyX l z (execLearnMessage a1 a2 s) := by
  unfold execLearnMessage
  refine SteadyX.next ?_
  refine ocfRun_steady _ _ _ _ _ ?_ ?_
  · exact bodyLearnMessage_steady _ _
  · assumption

theorem execRouterMacWrite_steady (a1 a2 a3 a4 s) (h5 : Steady l z s) : SteadyX l z (execRouterMacWrite a1 a2 a3 a4 s) := by
  unfold execRouterMacWrite
  refine SteadyX.next ?_
  refine ocfRun_steady _ _ _ _ _ ?_ ?_
  · exact bodyRouterMacWrite_steady _ _ _ _
  · assumption

theorem execVrfWrite_steady (a1 a2 s) (h3 : Steady l z s) : SteadyX l z (execVrfWrite a1 a2 s) := by
  unfold execVrfWrite
  refine SteadyX.next ?_
  refine ocfRun_steady _ _ _ _ _ ?_ ?_
  · exact bodyVrfWrite_steady _ _
  · assumption

theorem execNexthopWrite_steady (a1 a2 s) (h3 : Steady l z s) : SteadyX l z (execNexthopWrite a1 a2 s) := by
  unfold execNexthopWrite
  refine SteadyX.next ?_
  refine ocfRun_steady _ _ _ _ _ ?_ ?_
  · exact bodyNexthopWrite_steady _ _
  · assumption

theorem execEcmpMembersWrite_steady (a1 a2 a3 s) (h4 : Steady l z s) : SteadyX l z (execEcmpMembersWrite a1 a2 a3 s) := by
  unfold execEcmpMembersWrite
  refine SteadyX.next ?_
  refine ocfRun_steady _ _ _ _ _ ?_ ?_
  · exact bodyEcmpMembersWrite_steady _ _ _
  · assumption

theorem execHostEntryWrite_steady (a1 a2 s) (h3 : Steady l z s) : SteadyX l z (execHostEntryWrite a1 a2 s) := by
  unfold execHostEntryWrite
  refine SteadyX.next ?_
  refine ocfRun_steady _ _ _ _ _ ?_ ?_
  · exact bodyHostEntryWrite_steady _ _
  · assumption

theorem execHostEntryDelete_steady (a1 a2 a3 a4 s) (h5 : Steady l z s) : SteadyX l z (execHostEntryDelete a1 a2 a3 a4 s) := by
  unfold execHostEntryDelete
  refine SteadyX.next ?_
  refine ocfRun_steady _ _ _ _ _ ?_ ?_
  · exact bodyHostEntryDelete_steady _ _ _ _
  · assumption

theorem execHostEntryRead_steady (a1 a2 a3 a4 s) (h5 : Steady l z s) : SteadyX l z (execHostEntryRead a1 a2 a3 a4 s) := by
  unfold execHostEntryRead
  refine SteadyX.next ?_
  refine ocfRun_steady _ _ _ _ _ ?_ ?_
  · exact bodyHostEntryRead_steady _ _ _ _
  · assumption

theorem execHostSearchNext_steady (a1 a2 a3 s) (h4 : Steady l z s) : SteadyX l z (execHostSearchNext a1 a2 a3 s) := by
  unfold execHostSearchNext
  refine SteadyX.next ?_
  refine ocfRun_steady _ _ _ _ _ ?_ ?_
  · exact bodyHostSearchNext_steady _ _ _
  · assumption

theorem execLpmRouteAdd_steady (a1 a2 a3 s) (h4 : Steady l z s) : SteadyX l z (execLpmRouteAdd a1 a2 a3 s) := by
  unfold execLpmRouteAdd
  refine SteadyX.next ?_
  refine ocfRun_steady _ _ _ _ _ ?_ ?_
  · exact bodyLpmRouteAdd_steady _ _ _
  · assumption

theorem execLpmRouteReplace_steady (a1 a2 a3 s) (h4 : Steady l z s) : SteadyX l z (execLpmRouteReplace a1 a2 a3 s) := by
  unfold execLpmRouteReplace
  refine SteadyX.next ?_
  refine ocfRun_steady _ _ _ _ _ ?_ ?_
  · exact bodyLpmRouteReplace_steady _ _ _
  · assumption

theorem execLpmRouteDelete_steady (a1 a2 a3 s) (h4 : Steady l z s) : SteadyX l z (execLpmRouteDelete a1 a2 a3 s) := by
  unfold execLpmRouteDelete
  refine SteadyX.next ?_
  refine ocfRun_steady _ _ _ _ _ ?_ ?_
  · exact bodyLpmRouteDelete_steady _ _ _
  · assumption

theorem execLpmRouteNext_steady (a1 a2 a3 a4 s) (h5 : Steady l z s) : SteadyX l z (execLpmRouteNext a1 a2 a3 a4 s) := by
  unfold execLpmRouteNext
  refine SteadyX.next ?_
  refine ocfRun_steady _ _ _ _ _ ?_ ?_
  · exact bodyLpmRouteNext_steady _ _ _ _
  · assumption

theorem execL3Status_steady (a1 s) (h2 : Steady l z s) : SteadyX l z (execL3Status a1 s) := by
  unfold execL3Status
  refine SteadyX.next ?_
  refine ocfRun_steady _ _ _ _ _ ?_ ?_
  · exact bodyL3Status_steady _
  · assumption

theorem execBufProfileWrite_steady (a1 a2 s) (h3 : Steady l z s) : SteadyX l z (execBufProfileWrite a1 a2 s) := by
  unfold execBufProfileWrite
  refine SteadyX.next ?_
  refine ocfRun_steady _ _ _ _ _ ?_ ?_
  · exact bodyBufProfileWrite_steady _ _
  · assumption

theorem execVoqProfileMap_steady (a1 a2 a3 a4 s) (h5 : Steady l z s) : SteadyX l z (execVoqProfileMap a1 a2 a3 a4 s) := by
  unfold execVoqProfileMap
  refine SteadyX.next ?_
  refine ocfRun_steady _ _ _ _ _ ?_ ?_
  · exact bodyVoqProfileMap_steady _ _ _ _
  · assumption

theorem execBufRegionWrite_steady (a1 a2 s) (h3 : Steady l z s) : SteadyX l z (execBufRegionWrite a1 a2 s) := by
  unfold execBufRegionWrite
  refine SteadyX.next ?_
  refine ocfRun_steady _ _ _ _ _ ?_ ?_
  · exact bodyBufRegionWrite_steady _ _
  · assumption

theorem execPortPfcWrite_steady (a1 a2 s) (h3 : Steady l z s) : SteadyX l z (execPortPfcWrite a1 a2 s) := by
  unfold execPortPfcWrite
  refine SteadyX.next ?_
  refine ocfRun_steady _ _ _ _ _ ?_ ?_
  · exact bodyPortPfcWrite_steady _ _
  · assumption

theorem execPortLingerWrite_steady (a1 a2 a3 s) (h4 : Steady l z s) : SteadyX l z (execPortLingerWrite a1 a2 a3 s) := by
  unfold execPortLingerWrite
  refine SteadyX.next ?_
  refine ocfRun_steady _ _ _ _ _ ?_ ?_
  · exact bodyPortLingerWrite_steady _ _ _
  · assumption

theorem execBufCommit_steady (a1 s) (h2 : Steady l z s) : SteadyX l z (execBufCommit a1 s) := by
  unfold execBufCommit
  refine SteadyX.next ?_
  refine ocfRun_steady _ _ _ _ _ ?_ ?_
  · exact bodyBufCommit_steady _
  · assumption

theorem execVoqStatus_steady (a1 a2 a3 s) (h4 : Steady l z s) : SteadyX l z (execVoqStatus a1 a2 a3 s) := by
  unfold execVoqStatus
  refine SteadyX.next ?_
  refine ocfRun_steady _ _ _ _ _ ?_ ?_
  · exact bodyVoqStatus_steady _ _ _
  · assumption

theorem execVoqCountersRead_steady (a1 a2 a3 a4 s) (h5 : Steady l z s) : SteadyX l z (execVoqCountersRead a1 a2 a3 a4 s) := by
  unfold execVoqCountersRead
  refine SteadyX.next ?_
  refine ocfRun_steady _ _ _ _ _ ?_ ?_
  · exact bodyVoqCountersRead_steady _ _ _ _
  · assumption

theorem execBufStatus_steady (a1 s) (h2 : Steady l z s) : SteadyX l z (execBufStatus a1 s) := by
  unfold execBufStatus
  refine SteadyX.next ?_
  refine ocfRun_steady _ _ _ _ _ ?_ ?_
  · exact bodyBufStatus_steady _
  · assumption

theorem execFabricConfig_steady (a1 a2 s) (h3 : Steady l z s) : SteadyX l z (execFabricConfig a1 a2 s) := by
  unfold execFabricConfig
  refine SteadyX.next ?_
  refine ocfRun_steady _ _ _ _ _ ?_ ?_
  · exact bodyFabricConfig_steady _ _
  · assumption

theorem execFabricLinkWrite_steady (a1 a2 s) (h3 : Steady l z s) : SteadyX l z (execFabricLinkWrite a1 a2 s) := by
  unfold execFabricLinkWrite
  refine SteadyX.next ?_
  refine ocfRun_steady _ _ _ _ _ ?_ ?_
  · exact bodyFabricLinkWrite_steady _ _
  · assumption

theorem execFabricStatus_steady (a1 s) (h2 : Steady l z s) : SteadyX l z (execFabricStatus a1 s) := by
  unfold execFabricStatus
  refine SteadyX.next ?_
  refine ocfRun_steady _ _ _ _ _ ?_ ?_
  · exact bodyFabricStatus_steady _
  · assumption

theorem execFabricCountersRead_steady (a1 a2 s) (h3 : Steady l z s) : SteadyX l z (execFabricCountersRead a1 a2 s) := by
  unfold execFabricCountersRead
  refine SteadyX.next ?_
  refine ocfRun_steady _ _ _ _ _ ?_ ?_
  · exact bodyFabricCountersRead_steady _ _
  · assumption

theorem execPortSchedWrite_steady (a1 a2 s) (h3 : Steady l z s) : SteadyX l z (execPortSchedWrite a1 a2 s) := by
  unfold execPortSchedWrite
  refine SteadyX.next ?_
  refine ocfRun_steady _ _ _ _ _ ?_ ?_
  · exact bodyPortSchedWrite_steady _ _
  · assumption

theorem execQueueShaperWrite_steady (a1 a2 s) (h3 : Steady l z s) : SteadyX l z (execQueueShaperWrite a1 a2 s) := by
  unfold execQueueShaperWrite
  refine SteadyX.next ?_
  refine ocfRun_steady _ _ _ _ _ ?_ ?_
  · exact bodyQueueShaperWrite_steady _ _
  · assumption

theorem execGateListWrite_steady (a1 a2 a3 a4 s) (h5 : Steady l z s) : SteadyX l z (execGateListWrite a1 a2 a3 a4 s) := by
  unfold execGateListWrite
  refine SteadyX.next ?_
  refine ocfRun_steady _ _ _ _ _ ?_ ?_
  · exact bodyGateListWrite_steady _ _ _ _
  · assumption

theorem execGateConfigWrite_steady (a1 a2 s) (h3 : Steady l z s) : SteadyX l z (execGateConfigWrite a1 a2 s) := by
  unfold execGateConfigWrite
  refine SteadyX.next ?_
  refine ocfRun_steady _ _ _ _ _ ?_ ?_
  · exact bodyGateConfigWrite_steady _ _
  · assumption

theorem execGateStatus_steady (a1 a2 s) (h3 : Steady l z s) : SteadyX l z (execGateStatus a1 a2 s) := by
  unfold execGateStatus
  refine SteadyX.next ?_
  refine ocfRun_steady _ _ _ _ _ ?_ ?_
  · exact bodyGateStatus_steady _ _
  · assumption

theorem execEgressCountersRead_steady (a1 a2 a3 s) (h4 : Steady l z s) : SteadyX l z (execEgressCountersRead a1 a2 a3 s) := by
  unfold execEgressCountersRead
  refine SteadyX.next ?_
  refine ocfRun_steady _ _ _ _ _ ?_ ?_
  · exact bodyEgressCountersRead_steady _ _ _
  · assumption

theorem execPolicerWrite_steady (a1 a2 s) (h3 : Steady l z s) : SteadyX l z (execPolicerWrite a1 a2 s) := by
  unfold execPolicerWrite
  refine SteadyX.next ?_
  refine ocfRun_steady _ _ _ _ _ ?_ ?_
  · exact bodyPolicerWrite_steady _ _
  · assumption

theorem execPolicerRead_steady (a1 a2 a3 a4 s) (h5 : Steady l z s) : SteadyX l z (execPolicerRead a1 a2 a3 a4 s) := by
  unfold execPolicerRead
  refine SteadyX.next ?_
  refine ocfRun_steady _ _ _ _ _ ?_ ?_
  · exact bodyPolicerRead_steady _ _ _ _
  · assumption

theorem execHwmRead_steady (a1 a2 s) (h3 : Steady l z s) : SteadyX l z (execHwmRead a1 a2 s) := by
  unfold execHwmRead
  refine SteadyX.next ?_
  refine ocfRun_steady _ _ _ _ _ ?_ ?_
  · exact bodyHwmRead_steady _ _
  · assumption

theorem execHbmBudgetWrite_steady (a1 a2 s) (h3 : Steady l z s) : SteadyX l z (execHbmBudgetWrite a1 a2 s) := by
  unfold execHbmBudgetWrite
  refine SteadyX.next ?_
  refine ocfRun_steady _ _ _ _ _ ?_ ?_
  · exact bodyHbmBudgetWrite_steady _ _
  · assumption

theorem execHbmBudgetRead_steady (a1 s) (h2 : Steady l z s) : SteadyX l z (execHbmBudgetRead a1 s) := by
  unfold execHbmBudgetRead
  refine SteadyX.next ?_
  refine ocfRun_steady _ _ _ _ _ ?_ ?_
  · exact bodyHbmBudgetRead_steady _
  · assumption

theorem execHbmStatus_steady (a1 s) (h2 : Steady l z s) : SteadyX l z (execHbmStatus a1 s) := by
  unfold execHbmStatus
  refine SteadyX.next ?_
  refine ocfRun_steady _ _ _ _ _ ?_ ?_
  · exact bodyHbmStatus_steady _
  · assumption

theorem execHbmScrubConfig_steady (a1 a2 s) (h3 : Steady l z s) : SteadyX l z (execHbmScrubConfig a1 a2 s) := by
  unfold execHbmScrubConfig
  refine SteadyX.next ?_
  refine ocfRun_steady _ _ _ _ _ ?_ ?_
  · exact bodyHbmScrubConfig_steady _ _
  · assumption

theorem execHbmPcRetire_steady (a1 a2 s) (h3 : Steady l z s) : SteadyX l z (execHbmPcRetire a1 a2 s) := by
  unfold execHbmPcRetire
  refine SteadyX.next ?_
  refine ocfRun_steady _ _ _ _ _ ?_ ?_
  · exact bodyHbmPcRetire_steady _ _
  · assumption

theorem execSysIdentity_steady (a1 s) (h2 : Steady l z s) : SteadyX l z (execSysIdentity a1 s) := by
  unfold execSysIdentity
  refine SteadyX.next ?_
  refine ocfRun_steady _ _ _ _ _ ?_ ?_
  · exact bodySysIdentity_steady _
  · assumption

theorem execSysStatus_steady (a1 s) (h2 : Steady l z s) : SteadyX l z (execSysStatus a1 s) := by
  unfold execSysStatus
  refine SteadyX.next ?_
  refine ocfRun_steady _ _ _ _ _ ?_ ?_
  · exact bodySysStatus_steady _
  · assumption

theorem execSysEcho_steady (a1 s) (h2 : Steady l z s) : SteadyX l z (execSysEcho a1 s) := by
  unfold execSysEcho
  refine SteadyX.next ?_
  refine ocfRun_steady _ _ _ _ _ ?_ ?_
  · exact bodySysEcho_steady _
  · assumption

theorem execSysGroupOpen_steady (a1 a2 s) (h3 : Steady l z s) : SteadyX l z (execSysGroupOpen a1 a2 s) := by
  unfold execSysGroupOpen
  refine SteadyX.next ?_
  refine ocfRun_steady _ _ _ _ _ ?_ ?_
  · exact bodySysGroupOpen_steady _ _
  · assumption

theorem execSysGroupCommit_steady (a1 s) (h2 : Steady (false, l.2) z s) : SteadyX (false, l.2) z (execSysGroupCommit a1 s) := by
  unfold execSysGroupCommit
  refine SteadyX.next ?_
  exact ocfRun_steady _ _ _ _ _ (bodySysGroupCommit_steady _ _ (fun i b => bodyOf_steady i b (fun e => absurd e Bool.false_ne_true))) h2

theorem execSysGroupAbort_steady (a1 s) (h2 : Steady l z s) : SteadyX l z (execSysGroupAbort a1 s) := by
  unfold execSysGroupAbort
  refine SteadyX.next ?_
  refine ocfRun_steady _ _ _ _ _ ?_ ?_
  · exact bodySysGroupAbort_steady _
  · assumption

theorem execSysCompletionAck_steady (a1 a2 s) (h3 : Steady l z s) : SteadyX l z (execSysCompletionAck a1 a2 s) := by
  unfold execSysCompletionAck
  refine SteadyX.next ?_
  refine ocfRun_steady _ _ _ _ _ ?_ ?_
  · exact bodySysCompletionAck_steady _ _
  · assumption

theorem execSysPendingRead_steady (a1 s) (h2 : Steady l z s) : SteadyX l z (execSysPendingRead a1 s) := by
  unfold execSysPendingRead
  refine SteadyX.next ?_
  refine ocfRun_steady _ _ _ _ _ ?_ ?_
  · exact bodySysPendingRead_steady _
  · assumption

theorem execSysIntakeConfig_steady (a1 a2 s) (h3 : Steady l z s) : SteadyX l z (execSysIntakeConfig a1 a2 s) := by
  unfold execSysIntakeConfig
  refine SteadyX.next ?_
  refine ocfRun_steady _ _ _ _ _ ?_ ?_
  · exact bodySysIntakeConfig_steady _ _
  · assumption

theorem execSysDeviceIdWrite_steady (a1 a2 a3 s) (h4 : Steady l z s) : SteadyX l z (execSysDeviceIdWrite a1 a2 a3 s) := by
  unfold execSysDeviceIdWrite
  refine SteadyX.next ?_
  refine ocfRun_steady _ _ _ _ _ ?_ ?_
  · exact bodySysDeviceIdWrite_steady _ _ _
  · assumption

theorem execSysReset_steady (a1 a2 s) (h3 : Steady l z s) : SteadyX l z (execSysReset a1 a2 s) := by
  unfold execSysReset
  refine SteadyX.next ?_
  refine ocfRun_steady _ _ _ _ _ ?_ ?_
  · exact bodySysReset_steady _ _
  · assumption

theorem execPortConfig_steady (a1 a2 s) (h3 : Steady l z s) : SteadyX l z (execPortConfig a1 a2 s) := by
  unfold execPortConfig
  refine SteadyX.next ?_
  refine ocfRun_steady _ _ _ _ _ ?_ ?_
  · exact bodyPortConfig_steady _ _
  · assumption

theorem execPortStatus_steady (a1 a2 s) (h3 : Steady l z s) : SteadyX l z (execPortStatus a1 a2 s) := by
  unfold execPortStatus
  refine SteadyX.next ?_
  refine ocfRun_steady _ _ _ _ _ ?_ ?_
  · exact bodyPortStatus_steady _ _
  · assumption

theorem execPortCountersRead_steady (a1 a2 a3 s) (h4 : Steady l z s) : SteadyX l z (execPortCountersRead a1 a2 a3 s) := by
  unfold execPortCountersRead
  refine SteadyX.next ?_
  refine ocfRun_steady _ _ _ _ _ ?_ ?_
  · exact bodyPortCountersRead_steady _ _ _
  · assumption

theorem execPortAdmin_steady (a1 a2 a3 s) (h4 : Steady l z s) : SteadyX l z (execPortAdmin a1 a2 a3 s) := by
  unfold execPortAdmin
  refine SteadyX.next ?_
  refine ocfRun_steady _ _ _ _ _ ?_ ?_
  · exact bodyPortAdmin_steady _ _ _
  · assumption

theorem execPortOpticsAccess_steady (a1 a2 s) (h3 : Steady l z s) : SteadyX l z (execPortOpticsAccess a1 a2 s) := by
  unfold execPortOpticsAccess
  refine SteadyX.next ?_
  refine ocfRun_steady _ _ _ _ _ ?_ ?_
  · exact bodyPortOpticsAccess_steady _ _
  · assumption

theorem execDiagPrbs_steady (a1 a2 s) (h3 : Steady l z s) : SteadyX l z (execDiagPrbs a1 a2 s) := by
  unfold execDiagPrbs
  refine SteadyX.next ?_
  refine ocfRun_steady _ _ _ _ _ ?_ ?_
  · exact bodyDiagPrbs_steady _ _
  · assumption

theorem execDiagLoopback_steady (a1 a2 a3 s) (h4 : Steady l z s) : SteadyX l z (execDiagLoopback a1 a2 a3 s) := by
  unfold execDiagLoopback
  refine SteadyX.next ?_
  refine ocfRun_steady _ _ _ _ _ ?_ ?_
  · exact bodyDiagLoopback_steady _ _ _
  · assumption

theorem execDiagEyeScan_steady (a1 a2 a3 a4 s) (h5 : Steady l z s) : SteadyX l z (execDiagEyeScan a1 a2 a3 a4 s) := by
  unfold execDiagEyeScan
  refine SteadyX.next ?_
  refine ocfRun_steady _ _ _ _ _ ?_ ?_
  · exact bodyDiagEyeScan_steady _ _ _ _
  · assumption

theorem execDiagRegRead_steady (a1 a2 a3 s) (h4 : Steady l z s) : SteadyX l z (execDiagRegRead a1 a2 a3 s) := by
  unfold execDiagRegRead
  refine SteadyX.next ?_
  refine ocfRun_steady _ _ _ _ _ ?_ ?_
  · exact bodyDiagRegRead_steady _ _ _
  · assumption

theorem execDiagErrorInject_steady (a1 a2 s) (h3 : Steady l z s) : SteadyX l z (execDiagErrorInject a1 a2 s) := by
  unfold execDiagErrorInject
  refine SteadyX.next ?_
  refine ocfRun_steady _ _ _ _ _ ?_ ?_
  · exact bodyDiagErrorInject_steady _ _
  · assumption

theorem execDiagMemTest_steady (a1 a2 a3 s) (h4 : Steady l z s) : SteadyX l z (execDiagMemTest a1 a2 a3 s) := by
  unfold execDiagMemTest
  refine SteadyX.next ?_
  refine ocfRun_steady _ _ _ _ _ ?_ ?_
  · exact bodyDiagMemTest_steady _ _ _
  · assumption

theorem execSecKeyWrite_steady (a1 a2 s) (h3 : Steady l z s) : SteadyX l z (execSecKeyWrite a1 a2 s) := by
  unfold execSecKeyWrite
  refine SteadyX.next ?_
  refine ocfRun_steady _ _ _ _ _ ?_ ?_
  · exact bodySecKeyWrite_steady _ _
  · assumption

theorem execSecKeyClear_steady (a1 a2 a3 a4 s) (h5 : Steady l z s) : SteadyX l z (execSecKeyClear a1 a2 a3 a4 s) := by
  unfold execSecKeyClear
  refine SteadyX.next ?_
  refine ocfRun_steady _ _ _ _ _ ?_ ?_
  · exact bodySecKeyClear_steady _ _ _ _
  · assumption

theorem execSecKeyStatus_steady (a1 s) (h2 : Steady l z s) : SteadyX l z (execSecKeyStatus a1 s) := by
  unfold execSecKeyStatus
  refine SteadyX.next ?_
  refine ocfRun_steady _ _ _ _ _ ?_ ?_
  · exact bodySecKeyStatus_steady _
  · assumption

theorem execSecHostAccess_steady (a1 a2 a3 s) (h4 : Steady l z s) : SteadyX l z (execSecHostAccess a1 a2 a3 s) := by
  unfold execSecHostAccess
  refine SteadyX.next ?_
  refine ocfRun_steady _ _ _ _ _ ?_ ?_
  · exact bodySecHostAccess_steady _ _ _
  · assumption

theorem execSecLifecycleSet_steady (a1 a2 a3 a4 s) (h5 : Steady l z s) : SteadyX l z (execSecLifecycleSet a1 a2 a3 a4 s) := by
  unfold execSecLifecycleSet
  refine SteadyX.next ?_
  refine ocfRun_steady _ _ _ _ _ ?_ ?_
  · exact bodySecLifecycleSet_steady _ _ _ _
  · assumption

theorem execSecFwWrite_steady (a1 a2 s) (h3 : Steady l z s) : SteadyX l z (execSecFwWrite a1 a2 s) := by
  unfold execSecFwWrite
  refine SteadyX.next ?_
  refine ocfRun_steady _ _ _ _ _ ?_ ?_
  · exact bodySecFwWrite_steady _ _
  · assumption

theorem execSecFwActivate_steady (a1 a2 a3 s) (h4 : Steady l z s) : SteadyX l z (execSecFwActivate a1 a2 a3 s) := by
  unfold execSecFwActivate
  refine SteadyX.next ?_
  refine ocfRun_steady _ _ _ _ _ ?_ ?_
  · exact bodySecFwActivate_steady _ _ _
  · assumption

theorem execSecFwStatus_steady (a1 s) (h2 : Steady l z s) : SteadyX l z (execSecFwStatus a1 s) := by
  unfold execSecFwStatus
  refine SteadyX.next ?_
  refine ocfRun_steady _ _ _ _ _ ?_ ?_
  · exact bodySecFwStatus_steady _
  · assumption

theorem execAuditRead_steady (a1 a2 a3 s) (h4 : Steady l z s) : SteadyX l z (execAuditRead a1 a2 a3 s) := by
  unfold execAuditRead
  refine SteadyX.next ?_
  refine ocfRun_steady _ _ _ _ _ ?_ ?_
  · exact bodyAuditRead_steady _ _ _
  · assumption

theorem execAuditAck_steady (a1 a2 s) (h3 : Steady l z s) : SteadyX l z (execAuditAck a1 a2 s) := by
  unfold execAuditAck
  refine SteadyX.next ?_
  refine ocfRun_steady _ _ _ _ _ ?_ ?_
  · exact bodyAuditAck_steady _ _
  · assumption

theorem execAuditConfig_steady (a1 a2 a3 s) (h4 : Steady l z s) : SteadyX l z (execAuditConfig a1 a2 a3 s) := by
  unfold execAuditConfig
  refine SteadyX.next ?_
  refine ocfRun_steady _ _ _ _ _ ?_ ?_
  · exact bodyAuditConfig_steady _ _ _
  · assumption

theorem execJobSubmit_steady (a1 a2 a3 s) (h4 : Steady l z s) : SteadyX l z (execJobSubmit a1 a2 a3 s) := by
  unfold execJobSubmit
  refine SteadyX.next ?_
  refine ocfRun_steady _ _ _ _ _ ?_ ?_
  · exact bodyJobSubmit_steady _ _ _ _
  · assumption

theorem execJobCancel_steady (a1 a2 a3 s) (h4 : Steady l z s) : SteadyX l z (execJobCancel a1 a2 a3 s) := by
  unfold execJobCancel
  refine SteadyX.next ?_
  refine ocfRun_steady _ _ _ _ _ ?_ ?_
  · exact bodyJobCancel_steady _ _ _
  · assumption

theorem execJobStatus_steady (a1 a2 a3 s) (h4 : Steady l z s) : SteadyX l z (execJobStatus a1 a2 a3 s) := by
  unfold execJobStatus
  refine SteadyX.next ?_
  refine ocfRun_steady _ _ _ _ _ ?_ ?_
  · exact bodyJobStatus_steady _ _ _
  · assumption

theorem execGeyserClassWrite_steady (a1 a2 a3 a4 s) (h5 : Steady l z s) : SteadyX l z (execGeyserClassWrite a1 a2 a3 a4 s) := by
  unfold execGeyserClassWrite
  refine SteadyX.next ?_
  refine ocfRun_steady _ _ _ _ _ ?_ ?_
  · exact bodyGeyserClassWrite_steady _ _ _ _
  · assumption

theorem execGeyserActivityWrite_steady (a1 a2 a3 a4 s) (h5 : Steady l z s) : SteadyX l z (execGeyserActivityWrite a1 a2 a3 a4 s) := by
  unfold execGeyserActivityWrite
  refine SteadyX.next ?_
  refine ocfRun_steady _ _ _ _ _ ?_ ?_
  · exact bodyGeyserActivityWrite_steady _ _ _ _
  · assumption

theorem execGeyserStatus_steady (a1 s) (h2 : Steady l z s) : SteadyX l z (execGeyserStatus a1 s) := by
  unfold execGeyserStatus
  refine SteadyX.next ?_
  refine ocfRun_steady _ _ _ _ _ ?_ ?_
  · exact bodyGeyserStatus_steady _
  · assumption

theorem execFumStatus_steady (a1 s) (h2 : Steady l z s) : SteadyX l z (execFumStatus a1 s) := by
  unfold execFumStatus
  refine SteadyX.next ?_
  refine ocfRun_steady _ _ _ _ _ ?_ ?_
  · exact bodyFumStatus_steady _
  · assumption

theorem execPwrModeSet_steady (a1 a2 a3 a4 s) (h5 : Steady l z s) : SteadyX l z (execPwrModeSet a1 a2 a3 a4 s) := by
  unfold execPwrModeSet
  refine SteadyX.next ?_
  refine ocfRun_steady _ _ _ _ _ ?_ ?_
  · exact bodyPwrModeSet_steady _ _ _ _
  · assumption

theorem execPwrCapSet_steady (a1 a2 a3 s) (h4 : Steady l z s) : SteadyX l z (execPwrCapSet a1 a2 a3 s) := by
  unfold execPwrCapSet
  refine SteadyX.next ?_
  refine ocfRun_steady _ _ _ _ _ ?_ ?_
  · exact bodyPwrCapSet_steady _ _ _
  · assumption

theorem execPwrLimitsSet_steady (a1 a2 s) (h3 : Steady (false, l.2) z s) : SteadyX (false, l.2) z (execPwrLimitsSet a1 a2 s) := by
  unfold execPwrLimitsSet
  refine SteadyX.next ?_
  refine ocfRun_steady _ _ _ _ _ ?_ ?_
  · exact bodyPwrLimitsSet_steady _ _
  · assumption

theorem execPwrReducedProfileWrite_steady (a1 a2 s) (h3 : Steady l z s) : SteadyX l z (execPwrReducedProfileWrite a1 a2 s) := by
  unfold execPwrReducedProfileWrite
  refine SteadyX.next ?_
  refine ocfRun_steady _ _ _ _ _ ?_ ?_
  · exact bodyPwrReducedProfileWrite_steady _ _
  · assumption

theorem execPwrScheduleWrite_steady (a1 a2 s) (h3 : Steady l z s) : SteadyX l z (execPwrScheduleWrite a1 a2 s) := by
  unfold execPwrScheduleWrite
  refine SteadyX.next ?_
  refine ocfRun_steady _ _ _ _ _ ?_ ?_
  · exact bodyPwrScheduleWrite_steady _ _
  · assumption

theorem execPwrWakeConfig_steady (a1 a2 s) (h3 : Steady l z s) : SteadyX l z (execPwrWakeConfig a1 a2 s) := by
  unfold execPwrWakeConfig
  refine SteadyX.next ?_
  refine ocfRun_steady _ _ _ _ _ ?_ ?_
  · exact bodyPwrWakeConfig_steady _ _
  · assumption

theorem execPwrStatus_steady (a1 s) (h2 : Steady l z s) : SteadyX l z (execPwrStatus a1 s) := by
  unfold execPwrStatus
  refine SteadyX.next ?_
  refine ocfRun_steady _ _ _ _ _ ?_ ?_
  · exact bodyPwrStatus_steady _
  · assumption

theorem execTimeSourceConfig_steady (a1 a2 s) (h3 : Steady l z s) : SteadyX l z (execTimeSourceConfig a1 a2 s) := by
  unfold execTimeSourceConfig
  refine SteadyX.next ?_
  refine ocfRun_steady _ _ _ _ _ ?_ ?_
  · exact bodyTimeSourceConfig_steady _ _
  · assumption

theorem execTimeSet_steady (a1 a2 s) (h3 : Steady l z s) : SteadyX l z (execTimeSet a1 a2 s) := by
  unfold execTimeSet
  refine SteadyX.next ?_
  refine ocfRun_steady _ _ _ _ _ ?_ ?_
  · exact bodyTimeSet_steady _ _
  · assumption

theorem execTimeStatus_steady (a1 s) (h2 : Steady l z s) : SteadyX l z (execTimeStatus a1 s) := by
  unfold execTimeStatus
  refine SteadyX.next ?_
  refine ocfRun_steady _ _ _ _ _ ?_ ?_
  · exact bodyTimeStatus_steady _
  · assumption

theorem execPtpClockConfig_steady (a1 a2 s) (h3 : Steady l z s) : SteadyX l z (execPtpClockConfig a1 a2 s) := by
  unfold execPtpClockConfig
  refine SteadyX.next ?_
  refine ocfRun_steady _ _ _ _ _ ?_ ?_
  · exact bodyPtpClockConfig_steady _ _
  · assumption

theorem execPtpPortConfig_steady (a1 a2 s) (h3 : Steady l z s) : SteadyX l z (execPtpPortConfig a1 a2 s) := by
  unfold execPtpPortConfig
  refine SteadyX.next ?_
  refine ocfRun_steady _ _ _ _ _ ?_ ?_
  · exact bodyPtpPortConfig_steady _ _
  · assumption

theorem execPtpStatus_steady (a1 s) (h2 : Steady l z s) : SteadyX l z (execPtpStatus a1 s) := by
  unfold execPtpStatus
  refine SteadyX.next ?_
  refine ocfRun_steady _ _ _ _ _ ?_ ?_
  · exact bodyPtpStatus_steady _
  · assumption

theorem execTimeOutputWrite_steady (a1 a2 s) (h3 : Steady l z s) : SteadyX l z (execTimeOutputWrite a1 a2 s) := by
  unfold execTimeOutputWrite
  refine SteadyX.next ?_
  refine ocfRun_steady _ _ _ _ _ ?_ ?_
  · exact bodyTimeOutputWrite_steady _ _
  · assumption

theorem execEventStampRead_steady (a1 s) (h2 : Steady l z s) : SteadyX l z (execEventStampRead a1 s) := by
  unfold execEventStampRead
  refine SteadyX.next ?_
  refine ocfRun_steady _ _ _ _ _ ?_ ?_
  · exact bodyEventStampRead_steady _
  · assumption

theorem execLldpConfig_steady (a1 a2 s) (h3 : Steady l z s) : SteadyX l z (execLldpConfig a1 a2 s) := by
  unfold execLldpConfig
  refine SteadyX.next ?_
  refine ocfRun_steady _ _ _ _ _ ?_ ?_
  · exact bodyLldpConfig_steady _ _
  · assumption

theorem execDiscoveryRead_steady (a1 a2 a3 a4 s) (h5 : Steady l z s) : SteadyX l z (execDiscoveryRead a1 a2 a3 a4 s) := by
  unfold execDiscoveryRead
  refine SteadyX.next ?_
  refine ocfRun_steady _ _ _ _ _ ?_ ?_
  · exact bodyDiscoveryRead_steady _ _ _ _
  · assumption

theorem execDomainConfig_steady (a1 a2 a3 a4 s) (h5 : Steady l z s) : SteadyX l z (execDomainConfig a1 a2 a3 a4 s) := by
  unfold execDomainConfig
  refine SteadyX.next ?_
  refine ocfRun_steady _ _ _ _ _ ?_ ?_
  · exact bodyDomainConfig_steady _ _ _ _
  · assumption

theorem execOpticsSlotWrite_steady (a1 a2 s) (h3 : Steady l z s) : SteadyX l z (execOpticsSlotWrite a1 a2 s) := by
  unfold execOpticsSlotWrite
  refine SteadyX.next ?_
  refine ocfRun_steady _ _ _ _ _ ?_ ?_
  · exact bodyOpticsSlotWrite_steady _ _
  · assumption

theorem execOpticsStatus_steady (a1 s) (h2 : Steady l z s) : SteadyX l z (execOpticsStatus a1 s) := by
  unfold execOpticsStatus
  refine SteadyX.next ?_
  refine ocfRun_steady _ _ _ _ _ ?_ ?_
  · exact bodyOpticsStatus_steady _
  · assumption

theorem execFaultStatus_steady (a1 s) (h2 : Steady l z s) : SteadyX l z (execFaultStatus a1 s) := by
  unfold execFaultStatus
  refine SteadyX.next ?_
  refine ocfRun_steady _ _ _ _ _ ?_ ?_
  · exact bodyFaultStatus_steady _
  · assumption

theorem execFaultPolicyWrite_steady (a1 a2 a3 a4 s) (h5 : Steady l z s) : SteadyX l z (execFaultPolicyWrite a1 a2 a3 a4 s) := by
  unfold execFaultPolicyWrite
  refine SteadyX.next ?_
  refine ocfRun_steady _ _ _ _ _ ?_ ?_
  · exact bodyFaultPolicyWrite_steady _ _ _ _
  · assumption

theorem execFaultLogRead_steady (a1 a2 a3 s) (h4 : Steady l z s) : SteadyX l z (execFaultLogRead a1 a2 a3 s) := by
  unfold execFaultLogRead
  refine SteadyX.next ?_
  refine ocfRun_steady _ _ _ _ _ ?_ ?_
  · exact bodyFaultLogRead_steady _ _ _
  · assumption

theorem execHwRetire_steady (a1 a2 s) (h3 : Steady l z s) : SteadyX l z (execHwRetire a1 a2 s) := by
  unfold execHwRetire
  refine SteadyX.next ?_
  refine ocfRun_steady _ _ _ _ _ ?_ ?_
  · exact bodyHwRetire_steady _ _
  · assumption

theorem execFaultRecordClear_steady (a1 s) (h2 : Steady l z s) : SteadyX l z (execFaultRecordClear a1 s) := by
  unfold execFaultRecordClear
  refine SteadyX.next ?_
  refine ocfRun_steady _ _ _ _ _ ?_ ?_
  · exact bodyFaultRecordClear_steady _
  · assumption

theorem execDelayedCommand_steady (a1 s) (h2 : Steady (false, l.2) z s) : SteadyX (false, l.2) z (execDelayedCommand a1 s) := by
  unfold execDelayedCommand
  exact SteadyX.next (runDelayedJob_steady _ _ _ (fun i b => bodyOf_steady i b (fun e => absurd e Bool.false_ne_true)) h2)

end Sys2Proof.Machine
end

