-- ==== Sys2Proof/Laws/Steady/Startup.lean ====
section
/-! SUPPORT. What the operations of Machine/Startup keep (Laws/Steady). -/

namespace Sys2Proof.Machine

variable {l : Bool × Bool} {z s t : State}

theorem powerOnReset_steady (s) (h1 : Steady (false, false) z s) : Steady (false, false) z (powerOnReset s) := by
  refine h1.trans ⟨rfl, ?_, ?_, ?_, ?_, ?_, ?_, fun e => absurd e Bool.false_ne_true,
    fun e => absurd e Bool.false_ne_true⟩
  · exact congrArg Prod.fst (Flash.afterReset_steady s.flash)
  · exact congrArg (·.2.1) (Flash.afterReset_steady s.flash)
  · exact Nat.le_of_eq (congrArg (·.2.2.1) (Flash.afterReset_steady s.flash)).symm
  · exact Nat.le_of_eq (congrArg (·.2.2.2.1) (Flash.afterReset_steady s.flash)).symm
  · exact fun v => (congrArg (·.2.2.2.2.1) (Flash.afterReset_steady s.flash)).trans v
  · intro v
    refine ⟨rfl, ?_, ?_⟩
    · exact (congrArg (memWf ·.2.2.2.2.2.1) (Flash.afterReset_steady s.flash)).trans v.2.1
    · exact (congrArg (memWf ·.2.2.2.2.2.2) (Flash.afterReset_steady s.flash)).trans v.2.2

theorem startBoot_steady (s) (h1 : Steady l z s) : Steady l z (startBoot s) := by
  unfold startBoot
  refine Steady.ite ?_ ?_
  · assumption
  · refine Steady.lit ?_ rfl rfl rfl rfl
    assumption

theorem keepTrip_steady (s1) (h1 : Steady l z s1) : Steady l z (keepTrip s1) := by
  unfold keepTrip
  refine Steady.lit ?_ rfl rfl rfl rfl
  assumption

theorem execPorstNAssert_steady (s) (h1 : Steady (false, false) z s) : SteadyX (false, false) z (execPorstNAssert s) := by
  unfold execPorstNAssert
  refine SteadyX.next ?_
  exact powerOnReset_steady _ (Steady.lit (keepTrip_steady _ (by assumption)) rfl rfl rfl rfl)

theorem execPorstNRelease_steady (s) (h1 : Steady l z s) : SteadyX l z (execPorstNRelease s) := by
  unfold execPorstNRelease
  refine SteadyX.next ?_
  refine Steady.ite ?_ ?_
  · assumption
  · refine startBoot_steady _ ?_
    refine Steady.lit ?_ rfl rfl rfl rfl
    assumption

theorem execPowerGoodFall_steady (a1 s) (h2 : Steady (false, false) z s) : SteadyX (false, false) z (execPowerGoodFall a1 s) := by
  unfold execPowerGoodFall
  refine SteadyX.next ?_
  exact powerOnReset_steady _ (Steady.lit (keepTrip_steady _ (by assumption)) rfl rfl rfl rfl)

theorem execSysclkLoss_steady (s) (h1 : Steady (false, false) z s) : SteadyX (false, false) z (execSysclkLoss s) := by
  unfold execSysclkLoss
  refine SteadyX.next ?_
  exact powerOnReset_steady _ (Steady.lit (keepTrip_steady _ (by assumption)) rfl rfl rfl rfl)

theorem execPowerGoodReturn_steady (a1 s) (h2 : Steady l z s) : SteadyX l z (execPowerGoodReturn a1 s) := by
  unfold execPowerGoodReturn
  extract_lets -underBinder -merge -useContext +onlyGivenNames x1 x2 x3
  have h4 : Steady l z x3 := by
    refine Steady.ite ?_ ?_
    · refine Steady.lit ?_ rfl rfl rfl rfl
      assumption
    · refine Steady.lit ?_ rfl rfl rfl rfl
      assumption
  try clear_value x3
  refine SteadyX.next ?_
  refine Steady.ite ?_ ?_
  · exact startBoot_steady _ (by assumption)
  · assumption

theorem warmReset_steady (a1 s) (h2 : Steady (false, l.2) z s) : Steady (false, l.2) z (warmReset a1 s) := by
  unfold warmReset
  extract_lets -underBinder -merge -useContext +onlyGivenNames x1
  have h2 : Steady (false, l.2) z x1 := by
    exact firmwareReset_steady _ _ (by assumption)
  clear_value x1
  refine h2.trans ⟨rfl, ?_, ?_, ?_, ?_, ?_, ?_, fun e => absurd e Bool.false_ne_true,
    fun _ _ => id⟩
  · exact congrArg Prod.fst (Flash.afterReset_steady x1.flash)
  · exact congrArg (·.2.1) (Flash.afterReset_steady x1.flash)
  · exact Nat.le_of_eq (congrArg (·.2.2.1) (Flash.afterReset_steady x1.flash)).symm
  · exact Nat.le_of_eq (congrArg (·.2.2.2.1) (Flash.afterReset_steady x1.flash)).symm
  · exact fun v => (congrArg (·.2.2.2.2.1) (Flash.afterReset_steady x1.flash)).trans v
  · intro v
    refine ⟨rfl, ?_, ?_⟩
    · exact (congrArg (memWf ·.2.2.2.2.2.1) (Flash.afterReset_steady x1.flash)).trans v.2.1
    · exact (congrArg (memWf ·.2.2.2.2.2.2) (Flash.afterReset_steady x1.flash)).trans v.2.2

theorem execSysrstNAssert_steady (a1 s) (h2 : Steady (false, l.2) z s) : SteadyX (false, l.2) z (execSysrstNAssert a1 s) := by
  unfold execSysrstNAssert
  refine SteadyX.next ?_
  refine Steady.ite ?_ ?_
  · assumption
  · extract_lets -underBinder -merge -useContext +onlyGivenNames x1 x2
    have h3 : Steady (false, l.2) z x2 := by
      refine Steady.lit ?_ rfl rfl rfl rfl
      assumption
    try clear_value x2
    refine Steady.ite ?_ ?_
    · exact warmReset_steady _ _ (by assumption)
    · assumption

theorem execSysrstNRelease_steady (s) (h1 : Steady l z s) : SteadyX l z (execSysrstNRelease s) := by
  unfold execSysrstNRelease
  refine SteadyX.next ?_
  refine Steady.ite ?_ ?_
  · assumption
  · extract_lets -underBinder -merge -useContext +onlyGivenNames x1 x2
    have h3 : Steady l z x2 := by
      refine Steady.lit ?_ rfl rfl rfl rfl
      assumption
    try clear_value x2
    refine Steady.ite ?_ ?_
    · exact startBoot_steady _ (by assumption)
    · assumption

theorem execWarmReset_steady (a1 s) (h2 : Steady (false, l.2) z s) : SteadyX (false, l.2) z (execWarmReset a1 s) := by
  unfold execWarmReset
  refine SteadyX.next ?_
  refine Steady.ite ?_ ?_
  · refine startBoot_steady _ ?_
    exact warmReset_steady _ _ (by assumption)
  · assumption

theorem execSafeStateRestart_steady (s) (h1 : Steady (false, l.2) z s) : SteadyX (false, l.2) z (execSafeStateRestart s) := by
  unfold execSafeStateRestart
  refine SteadyX.next ?_
  refine Steady.ite ?_ ?_
  · refine startBoot_steady _ ?_
    exact warmReset_steady _ _ (by assumption)
  · assumption

theorem execBootImageVerify_steady (a1 s) (h2 : Steady l z s) : SteadyX l z (execBootImageVerify a1 s) := by
  unfold execBootImageVerify
  refine SteadyX.ite ?_ ?_
  · exact SteadyX.next (by assumption)
  · extract_lets -underBinder -merge -useContext +onlyGivenNames x1
    extract_lets -underBinder -merge -useContext +onlyGivenNames x2
    refine SteadyX.ite ?_ ?_
    · refine SteadyX.next ?_
      refine Steady.lit ?_ rfl rfl rfl rfl
      assumption
    · refine SteadyX.ite ?_ ?_
      · refine SteadyX.next ?_
        refine Steady.lit ?_ rfl rfl rfl rfl
        assumption
      · refine SteadyX.next ?_
        refine Steady.lit ?_ rfl rfl rfl rfl
        assumption

theorem advanceEpoch_steady (a1 s) (h2 : Steady l z s) : Steady l z (advanceEpoch a1 s) := by
  unfold advanceEpoch
  extract_lets -underBinder -merge -useContext +onlyGivenNames x1
  extract_lets -underBinder -merge -useContext +onlyGivenNames x2 x3
  have h4 : Steady l z x3 := by
    refine Steady.lit ?_ rfl rfl rfl rfl
    assumption
  try clear_value x3
  refine Steady.ite ?_ ?_
  · refine Steady.lit ?_ rfl rfl rfl rfl
    assumption
  · assumption

theorem bootAudit_steady (s1) (h1 : Steady l z s1) : Steady l z (bootAudit s1) := by
  unfold bootAudit
  refine Steady.ite ?_ ?_
  · refine auditEvent_steady _ _ _ ?_
    exact releaseAudit_steady _ (by assumption)
  · extract_lets -underBinder -merge -useContext +onlyGivenNames x1
    extract_lets -underBinder -merge -useContext +onlyGivenNames x2
    extract_lets -underBinder -merge -useContext +onlyGivenNames x3
    extract_lets -underBinder -merge -useContext +onlyGivenNames x4
    extract_lets -underBinder -merge -useContext +onlyGivenNames x5
    extract_lets -underBinder -merge -useContext +onlyGivenNames x6
    have h7 : Steady l z x6 := by
      refine Steady.lit ?_ rfl rfl rfl rfl
      assumption
    try clear_value x6
    extract_lets -underBinder -merge -useContext +onlyGivenNames x8
    extract_lets -underBinder -merge -useContext +onlyGivenNames x9
    have h10 : Steady l z x9 := by
      exact putAudit_steady _ _ (by assumption)
    try clear_value x9
    refine Steady.ite ?_ ?_
    · exact raise_steady _ _ (by assumption)
    · assumption

theorem wipe_steady (a1 s) (h2 : Steady l z s) : Steady l z (wipe a1 s) := by
  unfold wipe
  refine Steady.ite ?_ ?_
  · assumption
  · extract_lets -underBinder -merge -useContext +onlyGivenNames x1 x2 x3
    have h4 : Steady l z x3 := Steady.litMem h2 (fun _ => rfl) rfl rfl
    try clear_value x3
    refine Steady.ite ?_ ?_
    · exact Steady.lit (auditEvent_steady _ _ _ h4) rfl rfl rfl rfl
    · exact raise_steady _ _ h4

theorem applySettings_steady (s) (h1 : Steady (false, l.2) z s) : Steady (false, l.2) z (applySettings s) := by
  unfold applySettings
  exact Steady.litLimits h1 rfl rfl rfl

theorem applyRetired_steady (s) (h1 : Steady l z s) : Steady l z (applyRetired s) := by
  unfold applyRetired
  extract_lets -underBinder -merge -useContext +onlyGivenNames x1
  extract_lets -underBinder -merge -useContext +onlyGivenNames x2
  extract_lets -underBinder -merge -useContext +onlyGivenNames x3 x4 x5
  have h6 : Steady l z x5 := by
    refine Steady.lit ?_ rfl rfl rfl rfl
    assumption
  try clear_value x5
  extract_lets -underBinder -merge -useContext +onlyGivenNames x7
  have h8 : Steady l z x7 := by
    refine Steady.each ?_ fun _ _ _ => ?_
    · assumption
    · extract_lets -underBinder -merge -useContext +onlyGivenNames x9
      exact State.setPipe_steady _ _ _ (by assumption)
  try clear_value x7
  refine Steady.lit ?_ rfl rfl rfl rfl
  assumption

theorem execBootFirmwareStart_steady (a1 a2 s) (h3 : Steady (false, l.2) z s) : SteadyX (false, l.2) z (execBootFirmwareStart a1 a2 s) := by
  unfold execBootFirmwareStart
  refine SteadyX.next ?_
  refine Steady.ite ?_ ?_
  · assumption
  · extract_lets -underBinder -merge -useContext +onlyGivenNames x1 x2
    have h3 : Steady (false, l.2) z x2 := by
      refine wipe_steady _ _ ?_
      refine bootAudit_steady _ ?_
      refine advanceEpoch_steady _ _ ?_
      refine Steady.lit ?_ rfl rfl rfl rfl
      assumption
    try clear_value x2
    refine queuePower_steady _ _ ?_
    refine applyRetired_steady _ ?_
    exact applySettings_steady _ (by assumption)

theorem logFaultRecord_steady (s) (h1 : Steady l z s) : Steady l z (logFaultRecord s) := by
  unfold logFaultRecord
  extract_lets -underBinder -merge -useContext +onlyGivenNames x1
  refine Steady.lit ?_ rfl rfl rfl rfl
  assumption

theorem beginRise_steady (s) (h1 : Steady l z s) : Steady l z (beginRise s) := by
  unfold beginRise
  refine Steady.ite ?_ ?_
  · assumption
  · extract_lets -underBinder -merge -useContext +onlyGivenNames x1 x2
    have h3 : Steady l z x2 := by
      refine Steady.lit ?_ rfl rfl rfl rfl
      assumption
    try clear_value x2
    extract_lets -underBinder -merge -useContext +onlyGivenNames x4
    have h5 : Steady l z x4 := by
      refine Steady.ite ?_ ?_
      · exact raise_steady _ _ (by assumption)
      · assumption
    try clear_value x4
    refine Steady.ite ?_ ?_
    · refine raise_steady _ _ ?_
      exact logFaultRecord_steady _ (by assumption)
    · assumption

theorem execDomainPowerUp_steady (s) (h1 : Steady l z s) : SteadyX l z (execDomainPowerUp s) := by
  unfold execDomainPowerUp
  refine SteadyX.next ?_
  refine Steady.ite ?_ ?_
  · assumption
  · split
    · assumption
    · refine setDomain_steady _ _ _ ?_
      refine beginRise_steady _ ?_
      refine Steady.lit ?_ rfl rfl rfl rfl
      assumption

theorem startStack_steady (a1 s) (h2 : Steady l z s) : Steady l z (startStack a1 s) := by
  unfold startStack
  refine Steady.ite ?_ ?_
  · assumption
  · refine setStack_steady _ _ _ ?_
    refine Steady.lit ?_ rfl rfl rfl rfl
    assumption

theorem execDomainPowerGood_steady (a1 s) (h2 : Steady l z s) : SteadyX l z (execDomainPowerGood a1 s) := by
  unfold execDomainPowerGood
  refine SteadyX.next ?_
  refine Steady.ite ?_ ?_
  · assumption
  · extract_lets -underBinder -merge -useContext +onlyGivenNames x1
    have h2 : Steady l z x1 := by
      exact setDomain_steady _ _ _ (by assumption)
    try clear_value x1
    refine Steady.ite ?_ ?_
    · exact startStack_steady _ _ (by assumption)
    · assumption

theorem execDomainPowerTimeout_steady (a1 s2) (h2 : Steady l z s2) : SteadyX l z (execDomainPowerTimeout a1 s2) := by
  unfold execDomainPowerTimeout
  refine SteadyX.next ?_
  refine Steady.ite ?_ ?_
  · assumption
  · extract_lets -underBinder -merge -useContext +onlyGivenNames x1
    have h2 : Steady l z x1 := by
      exact setDomain_steady _ _ _ (by assumption)
    try clear_value x1
    refine Steady.ite ?_ ?_
    · exact machineCheck_steady _ _ _ _ (by assumption)
    · exact failFunction_steady _ _ _ (by assumption)

theorem execFunctionReady_steady (a1 a2 s3) (h3 : Steady l z s3) : SteadyX l z (execFunctionReady a1 a2 s3) := by
  unfold execFunctionReady
  refine SteadyX.next ?_
  refine Steady.ite ?_ ?_
  · assumption
  · refine Steady.ite ?_ ?_
    · exact failFunction_steady _ _ _ (by assumption)
    · refine Steady.ite ?_ ?_
      · assumption
      · refine resumeTables_steady _ ?_
        refine raise_steady _ _ ?_
        refine Steady.lit ?_ rfl rfl rfl rfl
        assumption

theorem execRisingComplete_steady (s) (h1 : Steady l z s) : SteadyX l z (execRisingComplete s) := by
  unfold execRisingComplete
  refine SteadyX.next ?_
  refine Steady.ite ?_ ?_
  · assumption
  · extract_lets -underBinder -merge -useContext +onlyGivenNames x1 x2 x3
    have h4 : Steady l z x3 := by
      refine raise_steady _ _ ?_
      refine Steady.lit ?_ rfl rfl rfl rfl
      assumption
    try clear_value x3
    exact runDeferred_steady _ _ (by assumption)

end Sys2Proof.Machine
end

