-- ==== Sys2Proof/WellFormed.lean ====
section
/-! DEFINITION. Well-formed commands: every operand fits the width that its row gives it (R400, and the parameter tables of the
chapters). A range that a chapter states beyond the width is a check of the command itself, with the status that the chapter names. -/

namespace Sys2Proof

/-- A value of `n` bytes. -/
def fits (n x : Nat) : Bool := x < 2 ^ (8 * n)

/-- A number below `n`. -/
def below (n x : Nat) : Bool := x < n

/-- Each element is a value of `n` bytes. -/
def allFit (n : Nat) (xs : List Nat) : Bool := xs.all (fits n)

/-- The transport's own numbers: channels, slots, ports and addresses. -/
def Transport.wf : Transport → Bool
  | .mailbox c => below 16 c
  | .compat => true
  | .dma c addr len => below 16 c && fits 8 addr && fits 4 len
  | .inband port mac tag => fits 2 port && fits 6 mac && (tag.map (fits 4)).getD true
  | .dvorob slot => below 32 slot

/-- The frame's header fields fit their offsets of Table 9-1. -/
def Ocf.wf (h : Ocf) : Bool :=
  fits 2 h.magic && fits 1 h.version && fits 1 h.role && fits 2 h.flags && fits 8 h.seq && fits 4 h.length &&
  fits 2 h.tag && fits 2 h.sender && fits 1 h.keyId && fits 1 h.group && fits 2 h.reserved && fits 4 h.epoch && h.transport.wf

/-- A data cell's header fields fit Table 6-4, and its tag's fields Table 6-5. -/
def DataCell.wf (c : DataCell) : Bool :=
  1 ≤ c.kind && c.kind ≤ 4 && below 2 c.hop && below 32 c.src && below 32 c.dst && below 32 c.via && below 256 c.dstPort && below 8 c.tc &&
  fits 3 c.seq && below 128 c.index && below 4096 c.lseq && below 4096 c.ack && below 2 c.cls && below 8192 c.origPort && fits 2 c.frameLen &&
  fits 4 c.cumCells && fits 2 c.nexthop && below 16384 c.group && decide (c.payload.length ≤ 240)

/-- A control cell's link fields fit Table 6-4. -/
def LinkHeader.wf (h : LinkHeader) : Bool := below 32 h.group && below 4096 h.lseq && below 4096 h.ack && below 32 h.dst && below 2 h.hop

/-- A key of any type is a number of at most 384 bits (Table 3-10). -/
def Chain.wf : Chain → Bool
  | .packet => true
  | .reply zone kt key => fits 2 zone && fits 1 kt && fits 48 key
  | .companion zone kt key _ => fits 2 zone && fits 1 kt && fits 48 key
  | .port _ => true
  | .drop zone kt key => fits 2 zone && fits 1 kt && fits 48 key
  | .delete reason => fits 1 reason

/-- A flow request's fields (R171). -/
def FlowReq.wf (q : FlowReq) : Bool :=
  fits 1 q.template && fits 2 q.zone && fits 1 q.keyType && fits 48 q.key && fits 1 q.proto && fits 2 q.len && (q.tcp.map (fits 1)).getD true &&
  q.chain.wf

/-- The address and port of a rewrite. -/
def Endpoint.wf (e : Endpoint) : Bool := fits 16 e.addr && (e.port.map (fits 2)).getD true

/-- A flow result: rewrites, a disposition of 2 bits, a cause of Table 3-9. -/
def FlowResult.wf : FlowResult → Bool
  | .ok src dst ct => (src.map Endpoint.wf).getD true && (dst.map Endpoint.wf).getD true && (ct.map (below 4)).getD true
  | .missCt => true
  | .stateless => true
  | .starved cause => 1 ≤ cause && cause ≤ 9

/-- A learning record (Table 5-7). -/
def LearnRecord.wf (r : LearnRecord) : Bool :=
  fits 1 r.op && fits 2 r.fid && fits 6 r.mac && fits 2 r.originDev && fits 2 r.originPort && fits 6 r.stampS && fits 4 r.stampNs

/-- The parameters of LEARN_MESSAGE (Table 5-6). -/
def LearnMessageP.wf (p : LearnMessageP) : Bool :=
  fits 2 p.senderDev && fits 1 p.group && fits 4 p.msgSeq && fits 1 p.records.length && p.records.all LearnRecord.wf

/-- A request to a controller: a region of the device, and an access inside the region's 2^35 bytes that a queue entry can hold. -/
def HbmReqOp.wf : HbmReqOp → Bool
  | .writeBack r => below 4 r
  | .flowRead r => below 4 r
  | .read r cls addr len => below 4 r && below 5 cls && below (2 ^ 35) addr && below 4097 len
  | .write r cls addr data => below 4 r && below 5 cls && below (2 ^ 35) addr && below 4097 data.length

/-- What the host wrote in a receive descriptor (Table 11-7): a buffer of 256 to 16,384 bytes. -/
def RxBuf.wf (b : RxBuf) : Bool := fits 8 b.addr && b.addr % 8 = 0 && 256 ≤ b.len && b.len ≤ 16384 && b.len % 64 = 0

/-- A transmit descriptor (Table 11-8). -/
def TxDesc.wf (d : TxDesc) : Bool := fits 8 d.addr && fits 2 d.len && fits 1 d.flags && fits 1 d.tc && fits 2 d.dest

/-- The fields of Table 12-7 that firmware chooses. -/
def NewItem.wf (i : NewItem) : Bool :=
  below 64 i.prio && below 16 i.activity && below 8 i.cls && below 16 i.regionMask && fits 6 i.due && fits 2 i.entry && fits 8 i.arg &&
  (i.chain.map (fits 2)).getD true

/-- A sample: 64 sensors, two stacks, four regions' utilization in permille (R547, R548, R556). -/
def CalderaSample.wf (c : CalderaSample) : Bool :=
  c.sensors.length = 64 && c.hbm.length = 2 && c.util.length = 4 && c.util.all (below 1001)

/-- An Announce message's fields. -/
def AnnounceData.wf (a : AnnounceData) : Bool :=
  fits 1 a.priority1 && fits 1 a.clockClass && fits 1 a.accuracy && fits 2 a.variance && fits 1 a.priority2 && fits 8 a.identity && fits 2 a.steps &&
  fits 8 a.sender && fits 2 a.senderPort

/-- A PTP message's domain and Announce fields. -/
def PtpMsg.wf : PtpMsg → Bool
  | .announce d a _ _ _ _ => fits 1 d && a.wf
  | .sync d _ _ => fits 1 d
  | .delayResp d _ => fits 1 d
  | .delayReq d _ r q => fits 1 d && fits 10 r && fits 2 q
  | .pdelayReq d _ r q => fits 1 d && fits 10 r && fits 2 q
  | .pdelayResp d _ _ => fits 1 d

/-- The member TLV (Table 14-8). -/
def MemberTlv.wf (m : MemberTlv) : Bool :=
  below 4096 m.deviceId && fits 2 m.domainId && fits 2 m.groupId && fits 1 m.slot && fits 1 m.learnGroup && fits 1 m.timeState && fits 1 m.mode

/-- A received LLDPDU. -/
def LldpPdu.wf (p : LldpPdu) : Bool := fits 2 p.ttl && (p.member.map MemberTlv.wf).getD true

/-- What a poll of an optics slot reads: an identifier byte, a module state of 3 bits. -/
def OpticsRead.wf (o : OpticsRead) : Bool := fits 1 o.identifier && below 8 o.moduleState

/-- A transition of a parse state. -/
def Trans.wf (t : Trans) : Bool := fits 4 t.value && fits 4 t.mask && fits 1 t.action && fits 1 t.target

/-- A parse state entry (Table 2-2): bytes, and eight transitions. -/
def ParseState.wf (p : ParseState) : Bool :=
  [p.hdrId, p.layer, p.check, p.lenMode, p.lenFixed, p.lenOff, p.lenMask, p.lenShift, p.lenScale, p.lenAdd, p.selOff, p.selWidth, p.defAction,
   p.defTarget].all (fits 1) && p.trans.length = 8 && p.trans.all Trans.wf

/-- A key descriptor (Table 3-10). -/
def KeyDesc.wf (k : KeyDesc) : Bool := fits 1 k.partition && fits 1 k.keyType && fits 2 k.zone && fits 48 k.key

/-- The parameters of FLOW_INSERT (Table 3-12). -/
def FlowBlock.wf (b : FlowBlock) : Bool :=
  b.key.wf && fits 1 b.flags && fits 1 b.template && fits 1 b.ageClass && fits 1 b.ctState && fits 2 b.ctAux && fits 2 b.expectGen &&
  fits 4 b.templateData && fits 24 b.service

/-- A flow template (Table 4-1). -/
def TemplateP.wf (t : TemplateP) : Bool :=
  [t.template, t.partition, t.keyType, t.keyFlags, t.flags, t.serviceKind, t.ageClass, t.natPool, t.exportField, t.ctInvalid, t.ctMiss,
   t.slowReason].all (fits 1) &&
  [t.lbPool, t.replyZone, t.createLimit, t.deferMaxAge].all (fits 2) && [t.ctAge, t.ovlPolicy, t.templateData].all (fits 4) &&
  fits 16 t.stateless && fits 16 t.flowAction && t.keyMap.length = 24 && t.keyMap.all (fits 4)

/-- A MAC-table filter (Table 5-8). -/
def FlushFilter.wf (f : FlushFilter) : Bool :=
  fits 1 f.mtch && fits 1 f.scope && fits 2 f.fid && fits 1 f.destType && fits 2 f.dest && fits 2 f.learnDev

/-- A prefix with its next hop (R245). -/
def Route.wf (r : Route) : Bool := fits 1 r.len && fits 16 r.addr && fits 2 r.nexthop

/-- The job parameters of Table 12-11. -/
def JobParams.wf : JobParams → Bool
  | .tableDump table select cursor => fits 1 table && fits 2 select && fits 8 cursor
  | .bulkInsert count => fits 4 count
  | .snapshot scope => fits 1 scope
  | .delayed opcode f => fits 2 opcode && f.wf
  | .other => true

/-- Every operand of the command fits its width. -/
def Instr.wf : Instr → Bool
  | .porstNAssert => true
  | .porstNRelease => true
  | .sysrstNAssert ns => fits 8 ns
  | .powerGoodFall input => below 4 input
  | .sysclkLoss => true
  | .warmReset cause => fits 1 cause
  | .bootImageVerify _ => true
  | .bootFirmwareStart _ _ => true
  | .domainPowerUp => true
  | .domainPowerGood domain => below 96 domain
  | .domainPowerTimeout domain => below 96 domain
  | .functionReady fn _ => below 128 fn
  | .risingComplete => true
  | .frameArrival port _ _ => fits 2 port
  | .pfcRefresh port prio => fits 2 port && below 8 prio
  | .packetSlotGrant pipe _ => below 16 pipe
  | .ocfIntake opcode f => fits 2 opcode && f.wf
  | .flowResultReturn pipe id => below 16 pipe && fits 8 id
  | .flowResultDeadline pipe id => below 16 pipe && fits 8 id
  | .descriptorRelease pipe port => below 16 pipe && fits 2 port
  | .originatedFrameEnqueue => true
  | .flowOpAccept region _ => below 4 region
  | .deferredOpRun region => below 4 region
  | .sinterIdleWriteback region locator => below 4 region && fits 4 locator
  | .sinterLogReplay region _ => below 4 region
  | .flowAgingSweepVisit region partition _ index => below 4 region && below 64 partition && fits 4 index
  | .relocationJob region => below 4 region
  | .tarnOnlyMigrate region => below 4 region
  | .natBufferRefill region pool _ _ => below 4 region && below 64 pool
  | .natRingFill pool => below 64 pool
  | .lbHealthPeriod pool => below 4096 pool
  | .groupHomeSwitch partition => below 64 partition
  | .exportMessageFlush profile => below 16 profile
  | .exportMessageSend profile lost => below 16 profile && allFit 2 lost
  | .templateRefresh profile => below 16 profile
  | .learnEventApply => true
  | .flapWindowExpire fid mac => below 4096 fid && fits 6 mac
  | .pinHoldExpire fid mac => below 4096 fid && fits 6 mac
  | .macAgingVisit position => fits 4 position
  | .learnMessageSend => true
  | .lpmNodeFree => true
  | .crossbarGrant pipe => below 16 pipe
  | .egressDecision pipe => below 16 pipe
  | .replicationTake pipe => below 16 pipe
  | .frameTransmitComplete port => fits 2 port
  | .shaperSlotDue pipe _ slot => below 16 pipe && below 4096 slot
  | .gateTransition port => fits 2 port
  | .gateChangeInstant port => fits 2 port
  | .pauseFrameReceive port _ enable quanta => fits 2 port && fits 1 enable && allFit 2 quanta
  | .pauseExpire port tc => fits 2 port && below 8 tc
  | .pfcWatchdogExpire port tc => fits 2 port && below 8 tc
  | .linkDown port => fits 2 port
  | .linkUp port => fits 2 port
  | .lingerExpire port => fits 2 port
  | .spillPageWrite region voq => below 4 region && below 131072 voq
  | .spillPageRefill region voq _ => below 4 region && below 131072 voq
  | .fabricCellSend cell => below 32 cell.group
  | .fabricIdleSend group => below 32 group
  | .dataCellReceive group cell ccrc => below 32 group && cell.wf && fits 4 ccrc
  | .hello hd groupId slot device reachVec => hd.wf && fits 2 groupId && below 32 slot && below 4096 device && fits 4 reachVec
  | .reach hd reachVec => hd.wf && fits 4 reachVec
  | .load hd occupancy => hd.wf && allFit 2 occupancy
  | .portState hd slot port _ => hd.wf && below 32 slot && fits 1 port
  | .request hd slot region port tc cls cells =>
    hd.wf && below 32 slot && below 4 region && fits 1 port && below 8 tc && below 2 cls && fits 2 cells.cells && below 70 cells.head
  | .grant hd region voq cells => hd.wf && below 4 region && below 131072 voq && fits 2 cells
  | .replay hd lseq => hd.wf && below 4096 lseq
  | .credit hd hop cells => hd.wf && below 2 hop && fits 2 cells
  | .flowReq hd slot id req => hd.wf && below 32 slot && fits 8 id && req.wf
  | .flowResp hd slot id res => hd.wf && below 32 slot && fits 8 id && res.wf
  | .ocf hd slot index total opcode f => hd.wf && below 32 slot && fits 1 index && fits 1 total && fits 2 opcode && f.wf
  | .learn hd slot index total f => hd.wf && below 32 slot && fits 1 index && fits 1 total && f.wf
  | .ocfSegmentTimeout slot => below 32 slot
  | .helloSend group => below 32 group
  | .loadSend => true
  | .voqRequestTimer region voq => below 4 region && below 131072 voq
  | .fabricPortTimeout group => below 32 group
  | .robTimeout slot pipe tc => below 32 slot && below 16 pipe && below 8 tc
  | .hbmRequestAccept req => req.wf
  | .hbmGatePass region => below 4 region
  | .frReadRefuse region => below 4 region
  | .hbmBudgetPeriod => true
  | .pcIssue pc => below 64 pc
  | .hbmAccessComplete pc _ burst => below 64 pc && below 8 burst
  | .rowIdleClose pc bank => below 64 pc && below 48 bank
  | .bankRefresh pc bank => below 64 pc && below 48 bank
  | .hbmTrainingComplete stack _ => below 2 stack
  | .hbmScrubVisit region addr _ => below 4 region && fits 8 addr
  | .retireRemapDrained _ => true
  | .selfRefreshEntry stack => below 2 stack
  | .hbmWakeReady stack _ _ => below 2 stack
  | .tcamScrubVisit pipe addr _ => below 16 pipe && below 32768 addr
  | .mbxOutPost channel => below 16 channel
  | .cmbTake => true
  | .doorbellTake doorbell => below 64 doorbell
  | .dmaCommandReadComplete channel _ opcode f => below 16 channel && fits 2 opcode && f.wf
  | .commandTimeout opcode f => fits 2 opcode && f.wf
  | .completionSend id => fits 4 id
  | .completionResend id => fits 4 id
  | .groupTimeout group => fits 1 group
  | .auditFlashWrite => true
  | .rxFrameWrite bufs _ => bufs.all RxBuf.wf
  | .ringWaitExpire => true
  | .txFrameFetch ring descs _ _ => below 8 ring && descs.all TxDesc.wf
  | .interruptMessageSend group => below 64 group
  | .holdoffExpire group => below 64 group
  | .perstN => true
  | .functionLevelReset => true
  | .pciePowerStateChange dstate _ _ _ => below 4 dstate
  | .msixVectorUnmask vector => below 64 vector
  | .eventInputEdge input _ => below 32 input
  | .eventAsyncLatch input _ => below 32 input
  | .workItemRelease items => items.all NewItem.wf
  | .workItemGrant _ executor => below 32 executor
  | .workItemComplete _ executor result => below 32 executor && fits 2 result
  | .itemLimitOverrun _ executor => below 32 executor
  | .energyPeriodBoundary => true
  | .microwordExecute engine _ => below 32 engine
  | .fumaroleMemComplete engine _ => below 32 engine
  | .waitLimitExpire engine => below 32 engine
  | .tableDump handle => fits 2 handle
  | .flowBulkInsert handle blocks => fits 2 handle && blocks.all FlowBlock.wf
  | .counterSnapshot handle => fits 2 handle
  | .delayedCommand handle => fits 2 handle
  | .calderaPeriod sample => sample.wf
  | .shedNoticeEnd region => below 4 region
  | .shedReturn region => below 4 region
  | .thermalHoldClear region => below 4 region
  | .capActionUndo => true
  | .capUnmet => true
  | .dvfsStepComplete region => below 4 region
  | .regulatorFault pair => below 4 pair
  | .reducedProfileApply => true
  | .parkRetentionEntry pipe => below 16 pipe
  | .dormantDrainEnd => true
  | .dormantFlushComplete => true
  | .wake cause _ => below 6 cause
  | .wakeComplete _ => true
  | .dormantOcfHold opcode f => fits 2 opcode && f.wf
  | .scheduleEntryDue entry => below 64 entry
  | .ptpMessageReceive port msg => fits 2 port && msg.wf
  | .ptpMessageSend port kind => fits 2 port && fits 1 kind
  | .ppsEdge _ => true
  | .ppsTimeout => true
  | .freqInvalid => true
  | .ptpSyncTimeout => true
  | .announceTimeout port => fits 2 port
  | .holdoverExpire => true
  | .leapEvent => true
  | .timedOutputEdge output => below 9 output
  | .lldpTransmit port => fits 2 port
  | .lldpduReceive port pdu => fits 2 port && pdu.wf
  | .lldpTtlExpire port chassis => fits 2 port && fits 8 chassis
  | .memberTtlExpire device => below 4096 device
  | .opticsPoll slot poll => below 64 slot && poll.wf
  | .hwCellError kind unit _ _ => fits 1 kind && fits 4 unit
  | .chipMachineCheck cause unit => fits 1 cause && fits 4 unit
  | .firmwareWatchdog => true
  | .safeStateRestart => true
  | .smbusWakeWrite value => fits 1 value
  | .smbusResetWrite value => fits 1 value
  | .smbusTimeout => true
  | .chInData channel word => below 16 channel && fits 4 word
  | .chInEom channel word => below 16 channel && fits 4 word
  | .chOutData channel => below 16 channel
  | .chCtrlHostReset channel => below 16 channel
  | .h2dSet _ bits => fits 4 bits
  | .cmbCtrlGo len => below 128 len
  | .cmbWriteWhileFull index word => below 65 index && fits 4 word
  | .cmbRspAck => true
  | .ringCtrlEn _ ring _ => below 8 ring
  | .ringTail _ ring tail => below 8 ring && fits 2 tail
  | .intStatusClear group write => below 64 group && fits 2 write.mask && fits 2 write.sets
  | .intSet group mask => below 64 group && fits 2 mask
  | .intClaim group => below 64 group
  | .intComplete group source => below 64 group && below 1024 source
  | .tcapTimeNsRead => true
  | .tcapCapture => true
  | .tcapEvqPop => true
  | .urCountRead => true
  | .chOvfCountRead channel => below 16 channel
  | .chDiscardRead channel => below 16 channel
  | .chFlushCountRead channel => below 16 channel
  | .cmbCollCountRead => true
  | .ringDropRead ring => below 8 ring
  | .badCompleteRead => true
  | .reassertRead source => below 1024 source
  | .evqOvfRead => true
  | .registerWrite bar offset word => below 3 bar && fits 4 offset && fits 4 word
  | .parseStateWrite h pipeMask state entry => h.wf && fits 2 pipeMask && fits 1 state && entry.wf
  | .parseGraphCommit h pipeMask => h.wf && fits 2 pipeMask
  | .parseStateRead h pipe state shadow => h.wf && fits 1 pipe && fits 1 state && fits 1 shadow
  | .keyProfileWrite h pipeMask profile selectors => h.wf && fits 2 pipeMask && fits 1 profile && allFit 4 selectors
  | .searchProfileWrite h pipeMask profile word => h.wf && fits 2 pipeMask && fits 1 profile && fits 4 word
  | .portClassMapWrite h port map => h.wf && fits 2 port && allFit 1 map
  | .portDefaultsWrite h p => h.wf && fits 2 p.port && fits 16 p.missAction && fits 2 p.zone && allFit 1 p.disp
  | .controlMatchWrite h p => h.wf && fits 1 p.entry && fits 2 p.ethertype && fits 6 p.dst && fits 1 p.anyDst && fits 2 p.udpPort && fits 1 p.forward && fits 1 p.valid
  | .bankModeWrite h pipeMask pair mode => h.wf && fits 2 pipeMask && fits 1 pair && fits 1 mode
  | .listCreate h p => h.wf && fits 2 p.pipeMask && fits 1 p.list && fits 1 p.baseBank && fits 1 p.banks
  | .listDelete h pipeMask list => h.wf && fits 2 pipeMask && fits 1 list
  | .ruleInsert h p => h.wf && fits 2 p.pipeMask && fits 1 p.list && fits 1 p.flags && fits 4 p.priority && fits 80 p.value && fits 80 p.mask && fits 16 p.action
  | .ruleDelete h handle => h.wf && fits 4 handle
  | .ruleActionWrite h handle action => h.wf && fits 4 handle && fits 16 action
  | .ruleRead h handle pipe => h.wf && fits 4 handle && fits 1 pipe
  | .listRespace h pipeMask list spacing => h.wf && fits 2 pipeMask && fits 1 list && fits 1 spacing
  | .tcamRawWrite h p => h.wf && fits 2 p.pipeMask && fits 1 p.valid && fits 1 p.wide && fits 2 p.addr && fits 80 p.value && fits 80 p.mask && fits 16 p.action
  | .tcamRawRead h pipe addr => h.wf && fits 1 pipe && fits 2 addr
  | .recircConfig h pipeMask slots => h.wf && fits 2 pipeMask && fits 1 slots
  | .mirrorSessionWrite h p => h.wf && fits 1 p.session && fits 2 p.dest && fits 1 p.tc && fits 2 p.trunc
  | .parseCountersRead h port clear => h.wf && fits 2 port && fits 1 clear
  | .partitionCreate h p => h.wf && fits 1 p.partition && fits 1 p.kind && fits 1 p.flags && fits 1 p.nbrLog2 && fits 4 p.seedA && fits 4 p.seedB && fits 2 p.ovfQuota && fits 2 p.sweepPeriod && fits 1 p.defaultAgeClass && allFit 2 p.homeMap
  | .partitionDelete h partition => h.wf && fits 1 partition
  | .partitionRead h partition => h.wf && fits 1 partition
  | .flowInsert h b => h.wf && b.wf
  | .flowUpdate h b => h.wf && b.wf
  | .flowRead h key settle => h.wf && key.wf && fits 1 settle
  | .flowDelete h key => h.wf && key.wf
  | .flowSearchNext h p => h.wf && fits 8 p.cursor && fits 1 p.partition && fits 1 p.useTemplate && fits 1 p.template && p.key.wf && fits 56 p.mask
  | .flowFlush h p => h.wf && fits 1 p.partition && fits 1 p.useTemplate && fits 1 p.template && p.key.wf && fits 56 p.mask
  | .ageClassWrite h cls timeout => h.wf && fits 1 cls && fits 4 timeout
  | .sweepConfig h partition sweepPeriod => h.wf && fits 1 partition && fits 2 sweepPeriod
  | .flowTableStatus h => h.wf
  | .flowTemplateWrite h t => h.wf && t.wf
  | .flowTemplateRead h template => h.wf && fits 1 template
  | .natPoolWrite h p => h.wf && fits 1 p.pool && fits 1 p.family && fits 2 p.addrCount && fits 2 p.portLo && fits 2 p.portHi
  | .natPoolAddrWrite h p => h.wf && fits 1 p.pool && fits 2 p.start && fits 2 p.count && allFit 16 p.addrs
  | .natPoolDelete h pool => h.wf && fits 1 pool
  | .natPoolStatus h pool => h.wf && fits 1 pool
  | .lbPoolWrite h p => h.wf && fits 2 p.pool && fits 1 p.slots && fits 1 p.family && fits 2 p.healthPeriod && fits 2 p.minSamples && fits 1 p.failLimit && fits 1 p.rttFactor
  | .lbBackendWrite h p => h.wf && fits 4 p.backend && fits 2 p.pool && fits 2 p.member && fits 16 p.addr && fits 2 p.port && fits 2 p.wbase && fits 2 p.wmin && fits 1 p.state
  | .lbPoolCommit h pool => h.wf && fits 2 pool
  | .lbPoolRead h pool => h.wf && fits 2 pool
  | .groupHomeWrite h p => h.wf && fits 1 p.partition && fits 6 p.timeS && fits 4 p.timeNs && fits 1 p.start && allFit 2 p.devices
  | .exportProfileWrite h p => h.wf && fits 1 p.profile && fits 1 p.flags && fits 2 p.collectorPort && fits 16 p.collector && fits 16 p.source && fits 2 p.sourcePort && fits 2 p.mtu && fits 4 p.odid && fits 4 p.rate && fits 4 p.burst && fits 2 p.activeTimeout && fits 2 p.templateRefresh && fits 2 p.flushDelay && fits 2 p.egressPort && fits 6 p.dstMac && fits 2 p.vlan && fits 1 p.tc && fits 1 p.dscp
  | .exportStatus h profile => h.wf && fits 1 profile
  | .serviceCountersRead h template region => h.wf && fits 1 template && fits 1 region
  | .vlanWrite h vid entry => h.wf && fits 2 vid && fits 8 entry
  | .portL2Write h port defaultVid learnMode => h.wf && fits 2 port && fits 2 defaultVid && fits 1 learnMode
  | .l2TableConfig h p => h.wf && fits 4 p.macSeed && fits 4 p.hostSeed && fits 4 p.lsSeed && fits 4 p.ageTime && fits 1 p.flapLimit && fits 2 p.flapWindow && fits 2 p.pinHold && fits 2 p.conflictWindow
  | .l2EntryWrite h p => h.wf && fits 2 p.fid && fits 6 p.mac && fits 1 p.static && fits 1 p.destType && fits 2 p.dest
  | .l2EntryDelete h fid mac => h.wf && fits 2 fid && fits 6 mac
  | .l2EntryRead h fid mac => h.wf && fits 2 fid && fits 6 mac
  | .l2SearchNext h cursor filter => h.wf && fits 8 cursor && filter.wf
  | .l2Flush h filter => h.wf && filter.wf
  | .l2Unpin h fid mac => h.wf && fits 2 fid && fits 6 mac
  | .lagWrite h lag members => h.wf && fits 1 lag && allFit 2 members
  | .mcastGroupWrite h group members => h.wf && fits 2 group && members.all (fun e => fits 1 e.1 && fits 2 e.2)
  | .l2LearnShareConfig h p => h.wf && fits 1 p.mode && fits 1 p.learnGroup && fits 1 p.tc && allFit 2 p.ports
  | .deviceReachWrite h device destType dest => h.wf && fits 2 device && fits 1 destType && fits 2 dest
  | .l2LearnNotifyRead h count => h.wf && fits 1 count
  | .l2Status h => h.wf
  | .learnMessage h m => h.wf && m.wf
  | .routerMacWrite h index valid mac => h.wf && fits 1 index && fits 1 valid && fits 6 mac
  | .vrfWrite h p => h.wf && fits 2 p.vrf && fits 2 p.missNexthop && fits 1 p.missValid && fits 1 p.ttlReason
  | .nexthopWrite h p => h.wf && fits 2 p.nexthop && fits 1 p.type && fits 1 p.smacIdx && fits 1 p.destType && fits 2 p.dest && fits 6 p.dmac && fits 2 p.vid && fits 2 p.ecmpBase && fits 2 p.ecmpSize && fits 1 p.reason
  | .ecmpMembersWrite h base members => h.wf && fits 2 base && allFit 2 members
  | .hostEntryWrite h p => h.wf && fits 2 p.vrf && fits 1 p.family && fits 16 p.addr && fits 2 p.nexthop
  | .hostEntryDelete h vrf family addr => h.wf && fits 2 vrf && fits 1 family && fits 16 addr
  | .hostEntryRead h vrf family addr => h.wf && fits 2 vrf && fits 1 family && fits 16 addr
  | .hostSearchNext h cursor clearHit => h.wf && fits 8 cursor && fits 1 clearHit
  | .lpmRouteAdd h vrf routes => h.wf && fits 2 vrf && routes.all Route.wf
  | .lpmRouteReplace h vrf routes => h.wf && fits 2 vrf && routes.all Route.wf
  | .lpmRouteDelete h vrf routes => h.wf && fits 2 vrf && routes.all Route.wf
  | .lpmRouteNext h vrf cursor count => h.wf && fits 2 vrf && fits 8 cursor && fits 2 count
  | .l3Status h => h.wf
  | .bufProfileWrite h p => h.wf && fits 1 p.profile && fits 1 p.alpha && fits 2 p.reserve && fits 1 p.flags && fits 2 p.headKeep && fits 4 p.spillOn && fits 4 p.spillMax
  | .voqProfileMap h start count profile => h.wf && fits 4 start && fits 4 count && fits 1 profile
  | .bufRegionWrite h p => h.wf && fits 1 p.region && fits 2 p.portPendMax && fits 4 p.ingressPool && fits 4 p.fabRxPool
  | .portPfcWrite h p => h.wf && fits 2 p.port && fits 1 p.mode && fits 1 p.lossless && fits 2 p.xoff && fits 2 p.xon && fits 2 p.headroom && fits 2 p.watchdog && fits 1 p.defaultPrio
  | .portLingerWrite h port linger => h.wf && fits 2 port && fits 2 linger
  | .bufCommit h => h.wf
  | .voqStatus h region voq => h.wf && fits 1 region && fits 4 voq
  | .voqCountersRead h region voq clear => h.wf && fits 1 region && fits 4 voq && fits 1 clear
  | .bufStatus h => h.wf
  | .fabricConfig h p => h.wf && fits 1 p.enable && fits 1 p.slot && fits 2 p.groupId && fits 2 p.directLimit && fits 2 p.grantWindow && fits 2 p.grantSize && fits 2 p.robTimeout
  | .fabricLinkWrite h p => h.wf && fits 1 p.group && fits 1 p.width && fits 1 p.rate
  | .fabricStatus h => h.wf
  | .fabricCountersRead h clear => h.wf && fits 1 clear
  | .portSchedWrite h p => h.wf && fits 2 p.port && fits 1 p.strictMask && fits 1 p.lenAdj && allFit 1 p.weight && fits 4 p.portRate && fits 4 p.portBurst && fits 4 p.latThreshold
  | .queueShaperWrite h p => h.wf && fits 2 p.port && fits 1 p.tc && fits 1 p.flags && fits 4 p.rate && fits 4 p.burst
  | .gateListWrite h port start entries => h.wf && fits 2 port && fits 1 start && entries.all (fun e => fits 1 e.1 && fits 4 e.2)
  | .gateConfigWrite h p => h.wf && fits 2 p.port && fits 1 p.flags && fits 2 p.listLen && fits 4 p.cycleTime && fits 6 p.baseS && fits 4 p.baseNs
  | .gateStatus h port => h.wf && fits 2 port
  | .egressCountersRead h port clear => h.wf && fits 2 port && fits 1 clear
  | .policerWrite h p => h.wf && fits 1 p.region && fits 1 p.mode && fits 2 p.policer && fits 4 p.cir && fits 4 p.cbs && fits 4 p.pir && fits 4 p.ebsPbs && fits 1 p.flags && fits 1 p.lenAdj && fits 1 p.yellowAct && fits 1 p.redAct && fits 1 p.markDscp
  | .policerRead h region policer clear => h.wf && fits 1 region && fits 2 policer && fits 1 clear
  | .hwmRead h p => h.wf && fits 1 p.scope && fits 1 p.clear && fits 4 p.id && fits 2 p.count
  | .hbmBudgetWrite h p => h.wf && fits 1 p.fr && fits 1 p.fw && fits 1 p.sp && fits 1 p.tm && fits 1 p.tl && fits 2 p.ageLimit
  | .hbmBudgetRead h => h.wf
  | .hbmStatus h => h.wf
  | .hbmScrubConfig h scrubPeriod => h.wf && fits 2 scrubPeriod
  | .hbmPcRetire h pc => h.wf && fits 1 pc
  | .sysIdentity h => h.wf
  | .sysStatus h => h.wf
  | .sysEcho h => h.wf
  | .sysGroupOpen h timeout => h.wf && fits 4 timeout
  | .sysGroupCommit h => h.wf
  | .sysGroupAbort h => h.wf
  | .sysCompletionAck h tags => h.wf && allFit 2 tags
  | .sysPendingRead h => h.wf
  | .sysIntakeConfig h p => h.wf && fits 6 p.stationMac && fits 6 p.groupMac && fits 1 p.replyTc
  | .sysDeviceIdWrite h deviceId _ => h.wf && fits 2 deviceId
  | .sysReset h scope => h.wf && fits 1 scope
  | .portConfig h p => h.wf && fits 2 p.port && fits 1 p.speed && fits 1 p.lanes && fits 1 p.laneRate && fits 1 p.fec && fits 1 p.flags && fits 2 p.mtu
  | .portStatus h port => h.wf && fits 2 port
  | .portCountersRead h port clear => h.wf && fits 2 port && fits 1 clear
  | .portAdmin h port adminUp => h.wf && fits 2 port && fits 1 adminUp
  | .portOpticsAccess h p => h.wf && fits 1 p.controller && fits 1 p.devAddr && fits 1 p.bank && fits 1 p.page && fits 1 p.offset && fits 1 p.len && fits 1 p.flags
  | .diagPrbs h p => h.wf && fits 2 p.port && fits 1 p.pattern && fits 1 p.dir && fits 1 p.laneMask && allFit 8 p.measured
  | .diagLoopback h port mode => h.wf && fits 2 port && fits 1 mode
  | .diagEyeScan h port lane measured => h.wf && fits 2 port && fits 1 lane && allFit 2 measured
  | .diagRegRead h addr count => h.wf && fits 4 addr && fits 2 count
  | .diagErrorInject h p => h.wf && fits 1 p.kind && fits 1 p.severity && fits 2 p.count && fits 4 p.unit
  | .diagMemTest h memory failing => h.wf && fits 4 memory && allFit 8 failing
  | .secKeyWrite h p => h.wf && fits 1 p.role && fits 1 p.keyId && fits 32 p.wrapped
  | .secKeyClear h role keyId _ => h.wf && fits 1 role && fits 1 keyId
  | .secKeyStatus h => h.wf
  | .secHostAccess h hostAccess _ => h.wf && fits 1 hostAccess
  | .secLifecycleSet h target serial _ => h.wf && fits 1 target && fits 8 serial
  | .secFwWrite h p => h.wf && fits 4 p.offset && fits 4 p.length
  | .secFwActivate h raiseFloor _ => h.wf && fits 1 raiseFloor
  | .secFwStatus h => h.wf
  | .auditRead h from_ count => h.wf && fits 8 from_ && fits 2 count
  | .auditAck h upto => h.wf && fits 8 upto
  | .auditConfig h auditHold _ => h.wf && fits 1 auditHold
  | .jobSubmit h p cmd => h.wf && fits 1 p.jobType && fits 1 p.priority && fits 1 p.energyClass && fits 1 p.flags && fits 6 p.startS && fits 4 p.startNs && fits 8 p.bufAddr && fits 4 p.bufLen && p.job.wf && cmd.wf
  | .jobCancel h handle gen => h.wf && fits 2 handle && fits 2 gen
  | .jobStatus h handle gen => h.wf && fits 2 handle && fits 2 gen
  | .geyserClassWrite h cls cost minShare => h.wf && fits 1 cls && fits 2 cost && fits 2 minShare
  | .geyserActivityWrite h activity timeBudget itemLimit => h.wf && fits 1 activity && fits 2 timeBudget && fits 2 itemLimit
  | .geyserStatus h => h.wf
  | .fumStatus h => h.wf
  | .pwrModeSet h mode profile drain => h.wf && fits 1 mode && fits 1 profile && fits 2 drain
  | .pwrCapSet h cap _ => h.wf && fits 2 cap
  | .pwrLimitsSet h p => h.wf && fits 2 p.capFloor && fits 2 p.capCeiling && fits 1 p.maintPermille && fits 1 p.hbmCFloor && fits 1 p.tjWarn && fits 1 p.shedNotice
  | .pwrReducedProfileWrite h p => h.wf && fits 1 p.profile && fits 1 p.stepLimit && fits 2 p.cap && fits 4 p.octalPark && fits 2 p.inPark && fits 2 p.egPark
  | .pwrScheduleWrite h p => h.wf && fits 1 p.entry && fits 1 p.action && fits 1 p.profile && fits 1 p.flags && fits 6 p.timeS && fits 4 p.timeNs && fits 2 p.cap && fits 4 p.period && fits 2 p.drain
  | .pwrWakeConfig h wakeInputs => h.wf && fits 4 wakeInputs
  | .pwrStatus h => h.wf
  | .timeSourceConfig h p => h.wf && fits 1 p.phase1 && fits 1 p.phase2 && fits 1 p.flags && fits 4 p.ppsDelay && fits 4 p.lockThreshold && fits 4 p.stepThreshold && fits 4 p.holdoverLimit && fits 2 p.slewMax
  | .timeSet h p => h.wf && fits 6 p.timeS && fits 4 p.timeNs && fits 2 p.utcOffset && fits 1 p.flags
  | .timeStatus h => h.wf
  | .ptpClockConfig h p => h.wf && fits 1 p.type && fits 1 p.domain && fits 1 p.priority1 && fits 1 p.priority2 && fits 1 p.clockClass && fits 1 p.step && fits 1 p.announceTimeout && fits 4 p.ipv4 && fits 16 p.ipv6
  | .ptpPortConfig h p => h.wf && fits 2 p.port && fits 1 p.ptpMode && fits 1 p.transport && fits 1 p.delay && fits 1 p.logAnnounce && fits 1 p.logSync && fits 1 p.logDelay && fits 4 p.asymNs
  | .ptpStatus h => h.wf
  | .timeOutputWrite h p => h.wf && fits 1 p.output && fits 1 p.mode && fits 1 p.group && fits 1 p.flags && fits 6 p.startS && fits 4 p.startNs && fits 8 p.period && fits 8 p.width
  | .eventStampRead h => h.wf
  | .lldpConfig h p => h.wf && fits 2 p.port && fits 1 p.flags && fits 2 p.txInterval
  | .discoveryRead h table from_ count => h.wf && fits 1 table && fits 2 from_ && fits 2 count
  | .domainConfig h domainId memberTtl hostless => h.wf && fits 2 domainId && fits 4 memberTtl && fits 1 hostless
  | .opticsSlotWrite h p => h.wf && fits 1 p.slot && fits 1 p.controller && fits 1 p.muxAddr && fits 1 p.muxChannel && fits 1 p.firstLane && fits 1 p.lanes
  | .opticsStatus h => h.wf
  | .faultStatus h => h.wf
  | .faultPolicyWrite h kind n windowMs => h.wf && fits 1 kind && fits 1 n && fits 4 windowMs
  | .faultLogRead h from_ count => h.wf && fits 2 from_ && fits 2 count
  | .hwRetire h p => h.wf && fits 1 p.kind && fits 1 p.flags && fits 4 p.index
  | .faultRecordClear h => h.wf
  | .sysrstNRelease => true
  | .perstNRelease => true
  | .powerGoodReturn input => below 5 input
  | .pcieLinkChange gen width lpm => below 6 gen && fits 1 width && below 3 lpm
  | .freqMeasurement hz => fits 8 hz

end Sys2Proof
end

