-- ==== Sys2Proof/Tests/Slice0.lean ====
section
/-! SUPPORT. Tests: an ill-formed command for each check of WellFormed, the spec's worked examples, single steps, and for every obligation with
hypotheses the states and operands that meet them. The states here are small helpers; none is a state of the model. -/

namespace Sys2Proof.Tests
open Sys2Proof.Machine

set_option maxRecDepth 20000
set_option Elab.async false

/-! ## States and operands -/

/-- A frame of a host on mailbox channel 0 with LENGTH `n`. -/
def fr (n : Nat) : Ocf :=
  { magic := 0x4F48, version := 1, role := 0, flags := 0, seq := 1, length := n, tag := 0, sender := 0, keyId := 0, group := 0, reserved := 0,
    epoch := 0, params := [], mac := [], transport := .mailbox 0, present := 1048576, rsv := none }

/-- A frame for commit group 1. -/
def frG (n : Nat) : Ocf := { fr n with group := 1 }

/-- A port of 100 Gb/s on four lanes. -/
def p100 : PortCfg := { speed := 4, lanes := 4, laneRate := 2, fec := 1, an := false, training := false, adminUp := true, mtu := 1518 }

/-- A device in Full mode whose functions are all ready, with two ports up and the host's link up. -/
def up : State :=
  { boot := { stage := 4, ready := 2 ^ 99 - 1 }
    power := { mode := .full, toPower := [], domains := (List.range 96).map (fun d => (d, .on)) }
    hbm := { stackStates := [.ready, .ready] }
    ports := { cfg := [(0, p100), (8, p100)], up := 257 }
    host := { linkGen := 5, linkWidth := 16, busMaster := true } }

/-- A compact Anchored partition with 256 buckets in every region. -/
def partA : Partition :=
  { anchored := true, wide := false, adaptive := false, groupHomed := true, nbrLog2 := 8, seedA := 1, seedB := 2, ovfQuota := 256,
    sweepPeriod := 1000, ageClass := 0, homeMap := List.replicate 32 0, base := 0, stash := [0, 0, 0, 0] }

/-- A record of key 0 of partition 0. -/
def recA : Rec := { wide := false, partition := 0, template := 0, zone := 0, keyType := 0, key := 0 }

/-- The region that holds it. -/
def homeA : Nat := (partA.place recA.flowKey).home

def blockA : FlowBlock :=
  { key := ⟨0, 0, 0, 0⟩, flags := 0, template := 0, ageClass := 0, ctState := 0, ctAux := 0, expectGen := 0, templateData := 0, service := 0 }

def templateA : TemplateP :=
  { template := 0, partition := 0, keyType := 0, keyFlags := 0, flags := 0, serviceKind := 0, ageClass := 0, natPool := 0, ctAge := 0, lbPool := 0,
    replyZone := 0, ovlPolicy := 0, createLimit := 0, deferMaxAge := 1, exportField := 0, ctInvalid := 0, ctMiss := 0, slowReason := 0x40,
    templateData := 0, stateless := 0, flowAction := 0, keyMap := [] }

def macA : MacEntry := { destType := 0, dest := 8, fid := 1, mac := 0x020000000001, pinned := true }
def hostA : HostEntry := { v6 := false, vrf := 1, nexthop := 2, addr := 0x0A000001 }
def ruleA : TcamEntry := { value := 0, mask := 0, action := 0, handle := 1 }
def poolA : NatPool := { family := 4, addrCount := 16, portLo := 1024, portHi := 2047, filling := 0 }
def lbA : LbPool := { slots := 0, nextSlots := 0, family := 4, healthPeriod := 0, minSamples := 0, failLimit := 0, rttFactor := 0 }

/-- The same device with an entry in each table. -/
def full : State :=
  { up with
    ocf.groups := [(1, { sender := 0, timeout := 1000 })]
    fwd.mac := [(0, macA)]
    fwd.host := [(0, hostA)]
    fwd.lpm := [⟨1, false, 8, 0x0A000000, 3⟩]
    cls.pipes := [(0, { lists := [(0, ⟨0, 1⟩)], tcam := [(0, ruleA)] })]
    flow.partitions := [(0, partA)]
    flow.regions := [(homeA, { ovf := [(0, recA)] })]
    flow.templates := [(0, templateA)]
    flow.pools := [(0, poolA)]
    flow.lbPools := [(0, lbA)]
    hbm.retired := [5] }

/-- It without the record. -/
def fullNoRec : State := { full with flow.regions := [] }

/-- Its port 0 is administratively down. -/
def upDown : State := { up with ports.cfg := [(0, { p100 with adminUp := false }), (8, p100)] }

def upService : State := { up with power.mode := .service }

/-- Fabric receive pools large enough for a Dvorob Link port. -/
def upF : State := { up with buf.cfg.regions := (List.range 4).map (fun r => (r, { fabRxPool := 8192 })) }

/-- An INSTALLER key is active. -/
def upKey : State := { up with roles.keys := [(8, List.replicate 32 1#8)] }

def jobA : WorkItem :=
  { gen := 1, state := .ready, engine := false, prio := 0, activity := 0, cls := 0, hostJob := true, job := .snapshot 0, bufLen := 65536 }

/-- A host job under handle 0. -/
def upJob : State := { up with eng.items := [(0, jobA)] }

/-- The estate-domain key. -/
def keyE : Bytes := List.replicate 32 2#8

def upE : State := { up with roles.keys := [(7, keyE)] }

/-- A LEARN_MESSAGE frame of device 1 under it. -/
def frE (n : Nat) : Ocf :=
  let f : Ocf := { fr n with role := 1, keyId := 3, sender := 1, transport := .dvorob 1 }
  { f with mac := mac16 keyE (f.signedBytes 0x0520) }

/-- A device whose boot ROM is about to verify an image. -/
def booting : State := { power.domains := [(94, .on), (84, .on), (95, .on)], power.toPower := [] }

/-- Port 0 speaks PTP, and the port is a slave. -/
def upPtp : State := { up with ptp.type := 1, ptp.ports := [(0, { ptpMode := 1, state := .slave })] }

def upPtpMaster : State := { up with ptp.type := 1, ptp.ports := [(0, { ptpMode := 1, state := .master })] }

def neighbourA : Neighbour := { port := 0, chassis := 1, portId := 1, ttl := 120, member := none, seen := ⟨0, 0⟩ }

/-- LLDP is on at port 0. -/
def upLldp : State := { up with disc.lldp := [(0, { tx := true, rx := true })] }

def upMember : State := { up with disc.members := [(1, { evidence := 7, seen := ⟨0, 0⟩ })] }

def opticsA : OpticsSlot := { controller := 0, muxAddr := 0, muxChannel := 0, firstLane := 0, lanes := 4 }

/-- An empty slot, a slot with a module, and one whose module has missed two polls. -/
def upOptics : State :=
  { up with disc.optics := [(0, opticsA), (1, { opticsA with present := true }), (2, { opticsA with present := true, missed := 2 })] }

/-- Channel 0 is full, channels 1 and 2 hold a message for the host, and one waits at channel 3. -/
def upChan : State :=
  { up with host.chan := [(0, { inQ := List.replicate 256 ⟨0, false, 0⟩ }), (1, { outQ := [{ words := [1, 2], len := 2 }] }),
    (2, { outQ := [{ words := [1], len := 2 }] }), (3, { waiting := [{ words := [1, 2], len := 2 }] })] }

/-- The event source 280 of group 17 is pending. -/
def upInt : State :=
  { up with
    host.msixEnable := true
    host.int.status := 1 <<< 280
    host.int.enable := 1 <<< 280 }

/-- It is in service. -/
def upServ : State := { upInt with host.int.inService := [(17, { source := 280, level := false, active := true })] }

/-- A frame of 60 bytes that waits for a packet slot. -/
def frameA : Frame := { data := List.replicate 60 0#8, orig := 0, port := 0, region := 0, cells := 1 }

/-- A frame of Ethertype 0x88B5 to the station address 0. -/
def ocfFrame : Bytes := List.replicate 12 0#8 ++ [0x88#8, 0xB5#8] ++ List.replicate 46 0#8

def descA : Desc := { id := 1, frame := frameA, raw := [], px := {}, act := 0 }
def evA : LearnEvent := { pipe := 0, fid := 1, mac := 2, destType := 0, dest := 0, stamp := 0, unsync := false }
def learnA : LearnRecord := ⟨1, false, false, 1, 2, 0, 0, 0, 0⟩
def qfA : QFrame := { data := List.replicate 60 0#8, orig := 0, cells := 1, region := 0 }
def txA : TxFrame := { port := 0, tc := 0, frame := qfA, voq := none }

/-- Budget for every class of every region. -/
def budget : Tab Nat := (List.range 20).map (fun k => (k, 1000))
def upB : State := { up with hbm.left := budget }
def fullB : State := { full with hbm.left := budget }

def reqA : FlowReq := { template := 0, zone := 0, keyType := 0, key := 0, srcA := true, proto := 17, len := 64, tcp := none, stamp := 0 }
def opA : FlowOp := { partition := 0, req := reqA }
def setA : Nat := (partA.place recA.flowKey).set
def wayA : TarnWay := { img := recA, locator := 0 }
def logA : LogEntry :=
  { locator := 0, tag := 0, wide := false, reply := false, tcpFlags := 0, last := 0, dpkts := 1, dbytes := 64, drpkts := 0, drbytes := 0,
    seq := 0 }

def exportA : ExportProfile :=
  { flags := 0, collectorPort := 4739, collector := 1, source := 2, sourcePort := 4739, mtu := 1500, odid := 1, rate := 0, burst := 0,
    activeTimeout := 60, templateRefresh := 60, flushDelay := 1, egressPort := 0, dstMac := 0, vlan := 0, tc := 0, dscp := 0 }

/-- A Dvorob Link port of four lanes on octal group 3, and a neighbour in slot 2. -/
def fabA : FabPort := { width := 4, rate := 0, up := true, neighbour := some (2, 9) }
def upFab : State := { up with fab.cfg.enable := true, fab.ports := [(3, fabA)] }
def upFabDown : State := { upFab with fab.ports := [(3, { fabA with up := false })] }
def upFabTries : State := { upFab with fab.ports := [(3, { fabA with tries := 8 })] }
def fullFab : State := { full with fab.cfg.enable := true, fab.ports := [(3, fabA)] }

def cellA : DataCell :=
  { kind := 0, poison := false, hop := 0, src := 2, dst := 0, via := 0, dstPort := 0, tc := 0, seq := 0, index := 0, lseq := 0, ack := 0,
    cls := 0, payload := [] }

def robA : RobFrame := { seq := 0, region := 0, rx := (3, 0), first := cellA, data := [], cells := 1, poison := false }

def reqH : HbmReq := { region := 0, cls := 0, write := false, addr := 0, len := 32, bursts := 1, use := .other, accepted := 0 }

def pendA : PendCmd := { opcode := 0x0101, cmd := fr 0, sender := 0, key := none, hostGen := 0, audited := false }

def auditA : AuditEntry :=
  { entryNo := 1, timeS := 0, timeNs := 0, kind := 1, flags := 0, epoch := 0, role := 0, keyId := 0, sender := 0, opcode := 0, status := 0,
    seq := 0, channel := 0, data := 0, digest := 0, prevLink := 0 }

/-- Firmware's own work item, running on an engine. -/
def itemA : WorkItem := { gen := 1, state := .running, engine := true, prio := 0, activity := 0, cls := 0 }

/-- A lock request for region 0. -/
def opM : MemOp := { code := 5, addr := 0, line := 0 }

/-- The INSTALLER key 0 is the one installer key in the field. -/
def upField : State := { up with roles.lifecycle := .field, roles.keys := [(8, keyE)] }

def frField : Ocf :=
  let f : Ocf := { fr 4 with role := 2 }
  { f with mac := mac16 keyE (f.signedBytes 0x0B02) }

/-- DIAG_ERROR_INJECT and DIAG_MEM_TEST of the MAKER. -/
def frMaker (opcode n : Nat) : Ocf :=
  let f : Ocf := { fr n with role := 3 }
  { f with mac := mac16 up.flash.makerKey (f.signedBytes opcode) }
def frMakerA : Ocf := frMaker 0x0E05 8
def frMakerB : Ocf := frMaker 0x0E06 4

/-- An image whose header names no build, kind 0 and key 0. -/
def imgA : List Host.Cell := [(0, 0x41#8), (1, 0x4B#8), (2, 0x46#8), (3, 0x57#8)]

theorem imgA_verifies (f : Flash) (l : Lifecycle) (hf : f.rollbackFloor = 0) (hr : f.revoked = 0)
    (k : Config.signatureValid 0 (memRead imgA 0 32 ++ memRead imgA 128 0) (memRead imgA 32 96) = true) : verifyImage f l imgA = 0 := by
  have a : imageField imgA 0 4 = 0x414B4657 := by decide +kernel
  have b : imageField imgA 6 1 = 0 := by decide +kernel
  have c : imageField imgA 7 1 = 0 := by decide +kernel
  have d : imageField imgA 16 4 = 0 := by decide +kernel
  simp [verifyImage, a, b, c, d, hf, hr, k, kindAllowed]

/-- A flow operation on the record's key waits in its region. -/
def fullBusy : State := { full with flow.regions := [(homeA, { ovf := [(0, recA)], queue := [opA] })] }

/-- The replica of Region 3 is not ready yet. -/
def upLate : State := { up with boot.ready := 2 ^ 99 - 1 - 2 ^ 93, fwd.host := [(0, hostA)] }

/-- A MAC entry write that waits for a replica. -/
def waitA : TableWait :=
  { opcode := 0x0504, cmd := fr 12, key := none, hostGen := 0, audited := true, status := 0, detail := 0xFFFF, results := [] }

/-- Where that record lies. -/
def plA : Place := partA.place recA.flowKey
/-- A record waits for a relocation, and both its buckets are full of records that no move helps. -/
def noRoom : State :=
  forEach ((slotsOf false).flatMap (fun i => [locLake plA.bktA i, locLake plA.bktB i]))
    { fullB with flow.regions := [(homeA, { jobs := [0], ovf := [(0, recA)] })] } (fun l s => s.putLake homeA l recA)

/-- A request that no budget lets through. -/
def gateA : State := { up with hbm.gate := [reqH], hbm.ceiling := 0 }

theorem gateA_closed : ∀ c q qs, gateA.gateOf 0 c = q :: qs → charge 0 c q.bursts gateA = none := by
  intro c q qs h
  have hq : q ∈ [reqH] := (List.mem_filter.mp (h ▸ List.mem_cons_self : q ∈ State.gateOf _ 0 c)).1
  rw [List.mem_singleton] at hq
  subst hq
  rfl

def routeA : CellRoute := { src := 0, dst := 2, via := 0, hop := 0 }

def sinterA : SinterEntry := { locator := locOvf 0, wide := false, tag := 0, dpkts := 1, dbytes := 64 }

/-- An overflow record with an entry in Sinter. -/
def upSinter : State := { full with flow.regions := [(0, { ovf := [(0, recA)], sinter := [(sinterSet (locOvf 0), [sinterA])] })] }

/-- An item is ready and an engine waits. -/
def upGrant : State := { up with eng.ready := [(0, [0])], eng.items := [(0, itemA)] }

def upAudit : State :=
  { up with
    roles.audit.ring := [auditA]
    roles.audit.last := 1
    roles.audit.head := auditA.link }

def upAuditFull : State := { up with roles.audit.hold := true, roles.audit.ring := List.replicate 4096 auditA }

theorem recA_inRange : recA.InRange := by
  constructor <;> decide

/-- `Taken` as a decision. -/
def takenB (s : State) (h : Ocf) (opcode : Nat) (changes pending : Bool) (len : Nat) : Bool :=
  s.accepts && s.mayStart opcode changes h && (match s.gate h opcode changes false with | .pass _ => true | _ => false) &&
  !(changes && s.roles.audit.full) && !h.isMember && h.rsv.isNone && (s.pendError h pending).isNone && h.length = len &&
  (h.length ≤ 16256 || opcode = 0x0B06)

theorem takenOf {s : State} {h : Ocf} {opcode : Nat} {changes pending : Bool} {len : Nat} (k : takenB s h opcode changes pending len = true) :
    Taken s h opcode changes pending len := by
  simp only [takenB, Bool.and_eq_true, Bool.not_eq_true', Option.isNone_iff_eq_none, decide_eq_true_eq, Bool.or_eq_true] at k
  obtain ⟨⟨⟨⟨⟨⟨⟨⟨a, b⟩, g⟩, f⟩, m⟩, r⟩, p⟩, l⟩, e⟩ := k
  refine ⟨a, b, ?_, ?_, m, r, p, l, e⟩
  · generalize s.gate h opcode changes false = q at g
    cases q with
    | pass key => exact ⟨key, rfl⟩
    | _ => cases g
  · rintro rfl
    simpa using f

/-! ## Well-formed and ill-formed commands -/

/-- A well-formed frame, and one whose SEQ does not fit 8 bytes. -/
def f0 : Ocf := fr 0
def g0 : Ocf := { fr 0 with seq := 2 ^ 64 }

def stateA : ParseState := { fixedState 0 1 0 14 12 2 2 0 [] with trans := List.replicate 8 ⟨0, 0, 0, 0⟩ }
def tplA : TemplateP := { templateA with keyMap := List.replicate 24 0 }
def sampleA : CalderaSample := { sensors := List.replicate 64 0, hbm := [0, 0], power := 0, util := [0, 0, 0, 0] }

theorem test_wellFormed_0 : (
    [.porstNAssert,
     .porstNRelease,
     .sysrstNAssert 0,
     .powerGoodFall 0,
     .sysclkLoss,
     .warmReset 0,
     .bootImageVerify true,
     .bootFirmwareStart true true,
     .domainPowerUp,
     .domainPowerGood 0,
     .domainPowerTimeout 0,
     .functionReady 0 true,
     .risingComplete,
     .frameArrival 0 [] true,
     .pfcRefresh 0 0,
     .packetSlotGrant 0 true,
     .ocfIntake 0 f0,
     .flowResultReturn 0 0,
     .flowResultDeadline 0 0,
     .descriptorRelease 0 0,
     .originatedFrameEnqueue,
     .flowOpAccept 0 .clean,
     .deferredOpRun 0,
     .sinterIdleWriteback 0 0,
     .sinterLogReplay 0 .clean,
     .flowAgingSweepVisit 0 0 true 0,
     .relocationJob 0,
     .tarnOnlyMigrate 0,
     .natBufferRefill 0 0 .clean .corrected,
     .natRingFill 0,
     .lbHealthPeriod 0,
     .groupHomeSwitch 0,
     .exportMessageFlush 0,
     .exportMessageSend 0 [3],
     .templateRefresh 0,
     .learnEventApply,
     .flapWindowExpire 0 0,
     .pinHoldExpire 0 0,
     .macAgingVisit 0,
     .learnMessageSend] : List Instr).all (fun x => x.wf) = true := by decide +kernel

theorem test_wellFormed_1 : (
    [.lpmNodeFree,
     .crossbarGrant 0,
     .egressDecision 0,
     .replicationTake 0,
     .frameTransmitComplete 0,
     .shaperSlotDue 0 true 0,
     .gateTransition 0,
     .gateChangeInstant 0,
     .pauseFrameReceive 0 true 0 [],
     .pauseExpire 0 0,
     .pfcWatchdogExpire 0 0,
     .linkDown 0,
     .linkUp 0,
     .lingerExpire 0,
     .spillPageWrite 0 0,
     .spillPageRefill 0 0 .clean,
     .fabricCellSend ⟨0, true⟩,
     .fabricIdleSend 0,
     .dataCellReceive 0 ({ cellA with kind := 1 }) 0,
     .hello ⟨0, 0, 0, true, 0, 0⟩ 0 0 0 0,
     .reach ⟨0, 0, 0, true, 0, 0⟩ 0,
     .load ⟨0, 0, 0, true, 0, 0⟩ [],
     .portState ⟨0, 0, 0, true, 0, 0⟩ 0 0 true,
     .request ⟨0, 0, 0, true, 0, 0⟩ 0 0 0 0 0 ⟨0, 0⟩,
     .grant ⟨0, 0, 0, true, 0, 0⟩ 0 0 0,
     .replay ⟨0, 0, 0, true, 0, 0⟩ 0,
     .credit ⟨0, 0, 0, true, 0, 0⟩ 0 0,
     .flowReq ⟨0, 0, 0, true, 0, 0⟩ 0 0 reqA,
     .flowResp ⟨0, 0, 0, true, 0, 0⟩ 0 0 .missCt,
     .ocf ⟨0, 0, 0, true, 0, 0⟩ 0 0 0 0 f0,
     .learn ⟨0, 0, 0, true, 0, 0⟩ 0 0 0 f0,
     .ocfSegmentTimeout 0,
     .helloSend 0,
     .loadSend,
     .voqRequestTimer 0 0,
     .fabricPortTimeout 0,
     .robTimeout 0 0 0,
     .hbmRequestAccept (.flowRead 0),
     .hbmGatePass 0,
     .frReadRefuse 0] : List Instr).all (fun x => x.wf) = true := by decide +kernel

theorem test_wellFormed_2 : (
    [.hbmBudgetPeriod,
     .pcIssue 0,
     .hbmAccessComplete 0 .clean 0,
     .rowIdleClose 0 0,
     .bankRefresh 0 0,
     .hbmTrainingComplete 0 true,
     .hbmScrubVisit 0 0 .clean,
     .retireRemapDrained true,
     .selfRefreshEntry 0,
     .hbmWakeReady 0 true true,
     .tcamScrubVisit 0 0 true,
     .mbxOutPost 0,
     .cmbTake,
     .doorbellTake 0,
     .dmaCommandReadComplete 0 true 0 f0,
     .commandTimeout 0 f0,
     .completionSend 0,
     .completionResend 0,
     .groupTimeout 0,
     .auditFlashWrite,
     .rxFrameWrite [] true,
     .ringWaitExpire,
     .txFrameFetch 0 [] [] true,
     .interruptMessageSend 0,
     .holdoffExpire 0,
     .perstN,
     .functionLevelReset,
     .pciePowerStateChange 0 true true true,
     .msixVectorUnmask 0,
     .eventInputEdge 0 true,
     .eventAsyncLatch 0 true,
     .workItemRelease [],
     .workItemGrant true 0,
     .workItemComplete true 0 0,
     .itemLimitOverrun true 0,
     .energyPeriodBoundary,
     .microwordExecute 0 .good,
     .fumaroleMemComplete 0 true,
     .waitLimitExpire 0,
     .tableDump 0] : List Instr).all (fun x => x.wf) = true := by decide +kernel

theorem test_wellFormed_3 : (
    [.flowBulkInsert 0 [],
     .counterSnapshot 0,
     .delayedCommand 0,
     .calderaPeriod sampleA,
     .shedNoticeEnd 0,
     .shedReturn 0,
     .thermalHoldClear 0,
     .capActionUndo,
     .capUnmet,
     .dvfsStepComplete 0,
     .regulatorFault 0,
     .reducedProfileApply,
     .parkRetentionEntry 0,
     .dormantDrainEnd,
     .dormantFlushComplete,
     .wake 0 true,
     .wakeComplete true,
     .dormantOcfHold 0 f0,
     .scheduleEntryDue 0,
     .ptpMessageReceive 0 (.delayReq 0 0 0 0),
     .ptpMessageSend 0 0,
     .ppsEdge true,
     .ppsTimeout,
     .freqInvalid,
     .ptpSyncTimeout,
     .announceTimeout 0,
     .holdoverExpire,
     .leapEvent,
     .timedOutputEdge 0,
     .lldpTransmit 0,
     .lldpduReceive 0 ⟨1, 1, 0, none⟩,
     .lldpTtlExpire 0 0,
     .memberTtlExpire 0,
     .opticsPoll 0 ⟨true, 0, true, 0, []⟩,
     .hwCellError 0 0 true true,
     .chipMachineCheck 0 0,
     .firmwareWatchdog,
     .safeStateRestart,
     .smbusWakeWrite 0,
     .smbusResetWrite 0] : List Instr).all (fun x => x.wf) = true := by decide +kernel

theorem test_wellFormed_4 : (
    [.smbusTimeout,
     .chInData 0 0,
     .chInEom 0 0,
     .chOutData 0,
     .chCtrlHostReset 0,
     .h2dSet true 0,
     .cmbCtrlGo 0,
     .cmbWriteWhileFull 0 0,
     .cmbRspAck,
     .ringCtrlEn true 0 true,
     .ringTail true 0 0,
     .intStatusClear 0 ⟨0, 0⟩,
     .intSet 0 0,
     .intClaim 0,
     .intComplete 0 0,
     .tcapTimeNsRead,
     .tcapCapture,
     .tcapEvqPop,
     .urCountRead,
     .chOvfCountRead 0,
     .chDiscardRead 0,
     .chFlushCountRead 0,
     .cmbCollCountRead,
     .ringDropRead 0,
     .badCompleteRead,
     .reassertRead 0,
     .evqOvfRead,
     .registerWrite 0 0 0,
     .parseStateWrite f0 0 0 stateA,
     .parseGraphCommit f0 0,
     .parseStateRead f0 0 0 0,
     .keyProfileWrite f0 0 0 [],
     .searchProfileWrite f0 0 0 0,
     .portClassMapWrite f0 0 [],
     .portDefaultsWrite f0 ⟨0, 0, 0, []⟩,
     .controlMatchWrite f0 ⟨0, 0, 0, 0, 0, 0, 0⟩,
     .bankModeWrite f0 0 0 0,
     .listCreate f0 ⟨0, 0, 0, 0⟩,
     .listDelete f0 0 0,
     .ruleInsert f0 ⟨0, 0, 0, 0, 0, 0, 0⟩] : List Instr).all (fun x => x.wf) = true := by decide +kernel

theorem test_wellFormed_5 : (
    [.ruleDelete f0 0,
     .ruleActionWrite f0 0 0,
     .ruleRead f0 0 0,
     .listRespace f0 0 0 0,
     .tcamRawWrite f0 ⟨0, 0, 0, 0, 0, 0, 0⟩,
     .tcamRawRead f0 0 0,
     .recircConfig f0 0 0,
     .mirrorSessionWrite f0 ⟨0, 0, 0, 0⟩,
     .parseCountersRead f0 0 0,
     .partitionCreate f0 ⟨0, 0, 0, 0, 0, 0, 0, 0, 0, []⟩,
     .partitionDelete f0 0,
     .partitionRead f0 0,
     .flowInsert f0 blockA,
     .flowUpdate f0 blockA,
     .flowRead f0 ⟨0, 0, 0, 0⟩ 0,
     .flowDelete f0 ⟨0, 0, 0, 0⟩,
     .flowSearchNext f0 ⟨0, 0, 0, 0, ⟨0, 0, 0, 0⟩, 0⟩,
     .flowFlush f0 ⟨0, 0, 0, ⟨0, 0, 0, 0⟩, 0⟩,
     .ageClassWrite f0 0 0,
     .sweepConfig f0 0 0,
     .flowTableStatus f0,
     .flowTemplateWrite f0 tplA,
     .flowTemplateRead f0 0,
     .natPoolWrite f0 ⟨0, 0, 0, 0, 0⟩,
     .natPoolAddrWrite f0 ⟨0, 0, 0, []⟩,
     .natPoolDelete f0 0,
     .natPoolStatus f0 0,
     .lbPoolWrite f0 ⟨0, 0, 0, 0, 0, 0, 0⟩,
     .lbBackendWrite f0 ⟨0, 0, 0, 0, 0, 0, 0, 0⟩,
     .lbPoolCommit f0 0,
     .lbPoolRead f0 0,
     .groupHomeWrite f0 ⟨0, 0, 0, 0, []⟩,
     .exportProfileWrite f0 ⟨0, 0, 0, 0, 0, 0, 0, 0, 0, 0, 0, 0, 0, 0, 0, 0, 0, 0⟩,
     .exportStatus f0 0,
     .serviceCountersRead f0 0 0,
     .vlanWrite f0 0 0,
     .portL2Write f0 0 0 0,
     .l2TableConfig f0 ⟨0, 0, 0, 0, 0, 0, 0, 0⟩,
     .l2EntryWrite f0 ⟨0, 0, 0, 0, 0⟩,
     .l2EntryDelete f0 0 0] : List Instr).all (fun x => x.wf) = true := by decide +kernel

theorem test_wellFormed_6 : (
    [.l2EntryRead f0 0 0,
     .l2SearchNext f0 0 ⟨0, 0, 0, 0, 0, 0⟩,
     .l2Flush f0 ⟨0, 0, 0, 0, 0, 0⟩,
     .l2Unpin f0 0 0,
     .lagWrite f0 0 [],
     .mcastGroupWrite f0 0 [],
     .l2LearnShareConfig f0 ⟨0, 0, 0, []⟩,
     .deviceReachWrite f0 0 0 0,
     .l2LearnNotifyRead f0 0,
     .l2Status f0,
     .learnMessage f0 ⟨0, 0, 0, []⟩,
     .routerMacWrite f0 0 0 0,
     .vrfWrite f0 ⟨0, 0, 0, 0⟩,
     .nexthopWrite f0 ⟨0, 0, 0, 0, 0, 0, 0, 0, 0, 0⟩,
     .ecmpMembersWrite f0 0 [],
     .hostEntryWrite f0 ⟨0, 0, 0, 0⟩,
     .hostEntryDelete f0 0 0 0,
     .hostEntryRead f0 0 0 0,
     .hostSearchNext f0 0 0,
     .lpmRouteAdd f0 0 [],
     .lpmRouteReplace f0 0 [],
     .lpmRouteDelete f0 0 [],
     .lpmRouteNext f0 0 0 0,
     .l3Status f0,
     .bufProfileWrite f0 ⟨0, 0, 0, 0, 0, 0, 0⟩,
     .voqProfileMap f0 0 0 0,
     .bufRegionWrite f0 ⟨0, 0, 0, 0⟩,
     .portPfcWrite f0 ⟨0, 0, 0, 0, 0, 0, 0, 0⟩,
     .portLingerWrite f0 0 0,
     .bufCommit f0,
     .voqStatus f0 0 0,
     .voqCountersRead f0 0 0 0,
     .bufStatus f0,
     .fabricConfig f0 ⟨0, 0, 0, 0, 0, 0, 0, true⟩,
     .fabricLinkWrite f0 ⟨0, 0, 0, true⟩,
     .fabricStatus f0,
     .fabricCountersRead f0 0,
     .portSchedWrite f0 ⟨0, 0, 0, [], 0, 0, 0⟩,
     .queueShaperWrite f0 ⟨0, 0, 0, 0, 0⟩,
     .gateListWrite f0 0 0 []] : List Instr).all (fun x => x.wf) = true := by decide +kernel

theorem test_wellFormed_7 : (
    [.gateConfigWrite f0 ⟨0, 0, 0, 0, 0, 0⟩,
     .gateStatus f0 0,
     .egressCountersRead f0 0 0,
     .policerWrite f0 ⟨0, 0, 0, 0, 0, 0, 0, 0, 0, 0, 0, 0⟩,
     .policerRead f0 0 0 0,
     .hwmRead f0 ⟨0, 0, 0, 0⟩,
     .hbmBudgetWrite f0 ⟨0, 0, 0, 0, 0, 0⟩,
     .hbmBudgetRead f0,
     .hbmStatus f0,
     .hbmScrubConfig f0 0,
     .hbmPcRetire f0 0,
     .sysIdentity f0,
     .sysStatus f0,
     .sysEcho f0,
     .sysGroupOpen f0 0,
     .sysGroupCommit f0,
     .sysGroupAbort f0,
     .sysCompletionAck f0 [],
     .sysPendingRead f0,
     .sysIntakeConfig f0 ⟨0, 0, 0, true⟩,
     .sysDeviceIdWrite f0 0 true,
     .sysReset f0 0,
     .portConfig f0 ⟨0, 0, 0, 0, 0, 0, 0⟩,
     .portStatus f0 0,
     .portCountersRead f0 0 0,
     .portAdmin f0 0 0,
     .portOpticsAccess f0 ⟨0, 0, 0, 0, 0, 0, 0, [], [], true⟩,
     .diagPrbs f0 ⟨0, 0, 0, 0, []⟩,
     .diagLoopback f0 0 0,
     .diagEyeScan f0 0 0 [],
     .diagRegRead f0 0 0,
     .diagErrorInject f0 ⟨0, 0, 0, 0⟩,
     .diagMemTest f0 0 [],
     .secKeyWrite f0 ⟨0, 0, 0, true⟩,
     .secKeyClear f0 0 0 true,
     .secKeyStatus f0,
     .secHostAccess f0 0 true,
     .secLifecycleSet f0 0 0 true,
     .secFwWrite f0 ⟨0, 0, [], true⟩,
     .secFwActivate f0 0 true] : List Instr).all (fun x => x.wf) = true := by decide +kernel

theorem test_wellFormed_8 : (
    [.secFwStatus f0,
     .auditRead f0 0 0,
     .auditAck f0 0,
     .auditConfig f0 0 true,
     .jobSubmit f0 ⟨0, 0, 0, 0, 0, 0, 0, 0, .other⟩ .porstNRelease,
     .jobCancel f0 0 0,
     .jobStatus f0 0 0,
     .geyserClassWrite f0 0 0 0,
     .geyserActivityWrite f0 0 0 0,
     .geyserStatus f0,
     .fumStatus f0,
     .pwrModeSet f0 0 0 0,
     .pwrCapSet f0 0 true,
     .pwrLimitsSet f0 ⟨0, 0, 0, 0, 0, 0, true⟩,
     .pwrReducedProfileWrite f0 ⟨0, 0, 0, 0, 0, 0⟩,
     .pwrScheduleWrite f0 ⟨0, 0, 0, 0, 0, 0, 0, 0, 0⟩,
     .pwrWakeConfig f0 0,
     .pwrStatus f0,
     .timeSourceConfig f0 ⟨0, 0, 0, 0, 0, 0, 0, 0⟩,
     .timeSet f0 ⟨0, 0, 0, 0⟩,
     .timeStatus f0,
     .ptpClockConfig f0 ⟨0, 0, 0, 0, 0, 0, 0, 0, 0⟩,
     .ptpPortConfig f0 ⟨0, 0, 0, 0, 0, 0, 0, 0⟩,
     .ptpStatus f0,
     .timeOutputWrite f0 ⟨0, 0, 0, 0, 0, 0, 0, 0⟩,
     .eventStampRead f0,
     .lldpConfig f0 ⟨0, 0, 0, []⟩,
     .discoveryRead f0 0 0 0,
     .domainConfig f0 0 0 0,
     .opticsSlotWrite f0 ⟨0, 0, 0, 0, 0, 0⟩,
     .opticsStatus f0,
     .faultStatus f0,
     .faultPolicyWrite f0 0 0 0,
     .faultLogRead f0 0 0,
     .hwRetire f0 ⟨0, 0, 0, true⟩,
     .faultRecordClear f0,
     .sysrstNRelease,
     .perstNRelease,
     .powerGoodReturn 0,
     .pcieLinkChange 0 0 0] : List Instr).all (fun x => x.wf) = true := by decide +kernel

theorem test_wellFormed_9 : (
    [.freqMeasurement 0] : List Instr).all (fun x => x.wf) = true := by decide +kernel

theorem test_illFormed_0 : (
    [.sysrstNAssert (2 ^ 64),
     .powerGoodFall 4,
     .warmReset 256,
     .domainPowerGood 96,
     .domainPowerTimeout 96,
     .functionReady 128 true,
     .frameArrival 65536 [] true,
     .pfcRefresh 65536 0,
     .pfcRefresh 0 8,
     .packetSlotGrant 16 true,
     .ocfIntake 65536 f0,
     .ocfIntake 0 g0,
     .flowResultReturn 16 0,
     .flowResultReturn 0 (2 ^ 64),
     .flowResultDeadline 16 0,
     .flowResultDeadline 0 (2 ^ 64),
     .descriptorRelease 16 0,
     .descriptorRelease 0 65536,
     .flowOpAccept 4 .clean,
     .deferredOpRun 4,
     .sinterIdleWriteback 4 0,
     .sinterIdleWriteback 0 4294967296,
     .sinterLogReplay 4 .clean,
     .flowAgingSweepVisit 4 0 true 0,
     .flowAgingSweepVisit 0 64 true 0,
     .flowAgingSweepVisit 0 0 true 4294967296,
     .relocationJob 4,
     .tarnOnlyMigrate 4,
     .natBufferRefill 4 0 .clean .clean,
     .natBufferRefill 0 64 .clean .clean,
     .natRingFill 64,
     .lbHealthPeriod 4096,
     .groupHomeSwitch 64,
     .exportMessageFlush 16,
     .exportMessageSend 16 [],
     .exportMessageSend 0 [65536],
     .templateRefresh 16,
     .flapWindowExpire 4096 0,
     .flapWindowExpire 0 (2 ^ 48),
     .pinHoldExpire 4096 0,
     .pinHoldExpire 0 (2 ^ 48)] : List Instr).all (fun x => !x.wf) = true := by decide +kernel

theorem test_illFormed_1 : (
    [.macAgingVisit 4294967296,
     .crossbarGrant 16,
     .egressDecision 16,
     .replicationTake 16,
     .frameTransmitComplete 65536,
     .shaperSlotDue 16 true 0,
     .shaperSlotDue 0 true 4096,
     .gateTransition 65536,
     .gateChangeInstant 65536,
     .pauseFrameReceive 65536 true 0 [],
     .pauseFrameReceive 0 true 256 [],
     .pauseFrameReceive 0 true 0 [65536],
     .pauseExpire 65536 0,
     .pauseExpire 0 8,
     .pfcWatchdogExpire 65536 0,
     .pfcWatchdogExpire 0 8,
     .linkDown 65536,
     .linkUp 65536,
     .lingerExpire 65536,
     .spillPageWrite 4 0,
     .spillPageWrite 0 131072,
     .spillPageRefill 4 0 .clean,
     .spillPageRefill 0 131072 .clean,
     .fabricCellSend ⟨32, true⟩,
     .fabricIdleSend 32,
     .dataCellReceive 32 ({ cellA with kind := 1 }) 0,
     .dataCellReceive 0 ({ cellA with kind := 0 }) 0,
     .dataCellReceive 0 ({ cellA with kind := 1 }) (2 ^ 32),
     .hello ⟨32, 0, 0, true, 0, 0⟩ 0 0 0 0,
     .hello ⟨0, 0, 0, true, 0, 0⟩ 65536 0 0 0,
     .hello ⟨0, 0, 0, true, 0, 0⟩ 0 32 0 0,
     .hello ⟨0, 0, 0, true, 0, 0⟩ 0 0 4096 0,
     .hello ⟨0, 0, 0, true, 0, 0⟩ 0 0 0 4294967296,
     .reach ⟨32, 0, 0, true, 0, 0⟩ 0,
     .reach ⟨0, 0, 0, true, 0, 0⟩ 4294967296,
     .load ⟨32, 0, 0, true, 0, 0⟩ [],
     .load ⟨0, 0, 0, true, 0, 0⟩ [65536],
     .portState ⟨32, 0, 0, true, 0, 0⟩ 0 0 true,
     .portState ⟨0, 0, 0, true, 0, 0⟩ 32 0 true,
     .portState ⟨0, 0, 0, true, 0, 0⟩ 0 256 true,
     .request ⟨32, 0, 0, true, 0, 0⟩ 0 0 0 0 0 ⟨0, 0⟩] : List Instr).all (fun x => !x.wf) = true := by decide +kernel

theorem test_illFormed_2 : (
    [.request ⟨0, 0, 0, true, 0, 0⟩ 32 0 0 0 0 ⟨0, 0⟩,
     .request ⟨0, 0, 0, true, 0, 0⟩ 0 4 0 0 0 ⟨0, 0⟩,
     .request ⟨0, 0, 0, true, 0, 0⟩ 0 0 256 0 0 ⟨0, 0⟩,
     .request ⟨0, 0, 0, true, 0, 0⟩ 0 0 0 8 0 ⟨0, 0⟩,
     .request ⟨0, 0, 0, true, 0, 0⟩ 0 0 0 0 2 ⟨0, 0⟩,
     .request ⟨0, 0, 0, true, 0, 0⟩ 0 0 0 0 0 ⟨65536, 0⟩,
     .request ⟨0, 0, 0, true, 0, 0⟩ 0 0 0 0 0 ⟨0, 70⟩,
     .grant ⟨32, 0, 0, true, 0, 0⟩ 0 0 0,
     .grant ⟨0, 0, 0, true, 0, 0⟩ 4 0 0,
     .grant ⟨0, 0, 0, true, 0, 0⟩ 0 131072 0,
     .grant ⟨0, 0, 0, true, 0, 0⟩ 0 0 65536,
     .replay ⟨32, 0, 0, true, 0, 0⟩ 0,
     .replay ⟨0, 0, 0, true, 0, 0⟩ 4096,
     .credit ⟨32, 0, 0, true, 0, 0⟩ 0 0,
     .credit ⟨0, 0, 0, true, 0, 0⟩ 2 0,
     .credit ⟨0, 0, 0, true, 0, 0⟩ 0 65536,
     .flowReq ⟨32, 0, 0, true, 0, 0⟩ 0 0 reqA,
     .flowReq ⟨0, 0, 0, true, 0, 0⟩ 32 0 reqA,
     .flowReq ⟨0, 0, 0, true, 0, 0⟩ 0 (2 ^ 64) reqA,
     .flowReq ⟨0, 0, 0, true, 0, 0⟩ 0 0 ({ reqA with proto := 256 }),
     .flowResp ⟨32, 0, 0, true, 0, 0⟩ 0 0 .missCt,
     .flowResp ⟨0, 0, 0, true, 0, 0⟩ 32 0 .missCt,
     .flowResp ⟨0, 0, 0, true, 0, 0⟩ 0 (2 ^ 64) .missCt,
     .flowResp ⟨0, 0, 0, true, 0, 0⟩ 0 0 (.starved 0),
     .ocf ⟨32, 0, 0, true, 0, 0⟩ 0 0 0 0 f0,
     .ocf ⟨0, 0, 0, true, 0, 0⟩ 32 0 0 0 f0,
     .ocf ⟨0, 0, 0, true, 0, 0⟩ 0 256 0 0 f0,
     .ocf ⟨0, 0, 0, true, 0, 0⟩ 0 0 256 0 f0,
     .ocf ⟨0, 0, 0, true, 0, 0⟩ 0 0 0 65536 f0,
     .ocf ⟨0, 0, 0, true, 0, 0⟩ 0 0 0 0 g0,
     .learn ⟨32, 0, 0, true, 0, 0⟩ 0 0 0 f0,
     .learn ⟨0, 0, 0, true, 0, 0⟩ 32 0 0 f0,
     .learn ⟨0, 0, 0, true, 0, 0⟩ 0 256 0 f0,
     .learn ⟨0, 0, 0, true, 0, 0⟩ 0 0 256 f0,
     .learn ⟨0, 0, 0, true, 0, 0⟩ 0 0 0 g0,
     .ocfSegmentTimeout 32,
     .helloSend 32,
     .voqRequestTimer 4 0,
     .voqRequestTimer 0 131072,
     .fabricPortTimeout 32,
     .robTimeout 32 0 0] : List Instr).all (fun x => !x.wf) = true := by decide +kernel

theorem test_illFormed_3 : (
    [.robTimeout 0 16 0,
     .robTimeout 0 0 8,
     .hbmRequestAccept (.flowRead 4),
     .hbmGatePass 4,
     .frReadRefuse 4,
     .pcIssue 64,
     .hbmAccessComplete 64 .clean 0,
     .hbmAccessComplete 0 .clean 8,
     .rowIdleClose 64 0,
     .rowIdleClose 0 48,
     .bankRefresh 64 0,
     .bankRefresh 0 48,
     .hbmTrainingComplete 2 true,
     .hbmScrubVisit 4 0 .clean,
     .hbmScrubVisit 0 (2 ^ 64) .clean,
     .selfRefreshEntry 2,
     .hbmWakeReady 2 true true,
     .tcamScrubVisit 16 0 true,
     .tcamScrubVisit 0 32768 true,
     .mbxOutPost 16,
     .doorbellTake 64,
     .dmaCommandReadComplete 16 true 0 f0,
     .dmaCommandReadComplete 0 true 65536 f0,
     .dmaCommandReadComplete 0 true 0 g0,
     .commandTimeout 65536 f0,
     .commandTimeout 0 g0,
     .completionSend 4294967296,
     .completionResend 4294967296,
     .groupTimeout 256,
     .txFrameFetch 8 [] [] true,
     .interruptMessageSend 64,
     .holdoffExpire 64,
     .pciePowerStateChange 4 true true true,
     .msixVectorUnmask 64,
     .eventInputEdge 32 true,
     .eventAsyncLatch 32 true,
     .workItemGrant true 32,
     .workItemComplete true 32 0,
     .workItemComplete true 0 65536,
     .itemLimitOverrun true 32] : List Instr).all (fun x => !x.wf) = true := by decide +kernel

theorem test_illFormed_4 : (
    [.microwordExecute 32 .good,
     .fumaroleMemComplete 32 true,
     .waitLimitExpire 32,
     .tableDump 65536,
     .flowBulkInsert 65536 [],
     .counterSnapshot 65536,
     .delayedCommand 65536,
     .calderaPeriod ({ sampleA with hbm := [] }),
     .shedNoticeEnd 4,
     .shedReturn 4,
     .thermalHoldClear 4,
     .dvfsStepComplete 4,
     .regulatorFault 4,
     .parkRetentionEntry 16,
     .wake 6 true,
     .dormantOcfHold 65536 f0,
     .dormantOcfHold 0 g0,
     .scheduleEntryDue 64,
     .ptpMessageReceive 65536 (.delayReq 0 0 0 0),
     .ptpMessageReceive 0 (.delayReq 256 0 0 0),
     .ptpMessageSend 65536 0,
     .ptpMessageSend 0 256,
     .announceTimeout 65536,
     .timedOutputEdge 9,
     .lldpTransmit 65536,
     .lldpduReceive 65536 ⟨1, 1, 0, none⟩,
     .lldpduReceive 0 ⟨1, 1, 65536, none⟩,
     .lldpTtlExpire 65536 0,
     .lldpTtlExpire 0 (2 ^ 64),
     .memberTtlExpire 4096,
     .opticsPoll 64 ⟨true, 0, true, 0, []⟩,
     .opticsPoll 0 ⟨true, 256, true, 0, []⟩,
     .hwCellError 256 0 true true,
     .hwCellError 0 4294967296 true true,
     .chipMachineCheck 256 0,
     .chipMachineCheck 0 4294967296,
     .smbusWakeWrite 256,
     .smbusResetWrite 256,
     .chInData 16 0,
     .chInData 0 4294967296] : List Instr).all (fun x => !x.wf) = true := by decide +kernel

theorem test_illFormed_5 : (
    [.chInEom 16 0,
     .chInEom 0 4294967296,
     .chOutData 16,
     .chCtrlHostReset 16,
     .h2dSet true 4294967296,
     .cmbCtrlGo 128,
     .cmbWriteWhileFull 65 0,
     .cmbWriteWhileFull 0 4294967296,
     .ringCtrlEn true 8 true,
     .ringTail true 8 0,
     .ringTail true 0 65536,
     .intStatusClear 64 ⟨0, 0⟩,
     .intStatusClear 0 ⟨65536, 0⟩,
     .intStatusClear 0 ⟨0, 65536⟩,
     .intSet 64 0,
     .intSet 0 65536,
     .intClaim 64,
     .intComplete 64 0,
     .intComplete 0 1024,
     .chOvfCountRead 16,
     .chDiscardRead 16,
     .chFlushCountRead 16,
     .ringDropRead 8,
     .reassertRead 1024,
     .registerWrite 3 0 0,
     .registerWrite 0 4294967296 0,
     .registerWrite 0 0 4294967296,
     .parseStateWrite g0 0 0 stateA,
     .parseStateWrite f0 65536 0 stateA,
     .parseStateWrite f0 0 256 stateA,
     .parseStateWrite f0 0 0 ({ stateA with hdrId := 256 }),
     .parseGraphCommit g0 0,
     .parseGraphCommit f0 65536,
     .parseStateRead g0 0 0 0,
     .parseStateRead f0 256 0 0,
     .parseStateRead f0 0 256 0,
     .parseStateRead f0 0 0 256,
     .keyProfileWrite g0 0 0 [],
     .keyProfileWrite f0 65536 0 [],
     .keyProfileWrite f0 0 256 [],
     .keyProfileWrite f0 0 0 [4294967296]] : List Instr).all (fun x => !x.wf) = true := by decide +kernel

theorem test_illFormed_6 : (
    [.searchProfileWrite g0 0 0 0,
     .searchProfileWrite f0 65536 0 0,
     .searchProfileWrite f0 0 256 0,
     .searchProfileWrite f0 0 0 4294967296,
     .portClassMapWrite g0 0 [],
     .portClassMapWrite f0 65536 [],
     .portClassMapWrite f0 0 [256],
     .portDefaultsWrite g0 ⟨0, 0, 0, []⟩,
     .portDefaultsWrite f0 ⟨65536, 0, 0, []⟩,
     .portDefaultsWrite f0 ⟨0, 2 ^ 128, 0, []⟩,
     .portDefaultsWrite f0 ⟨0, 0, 65536, []⟩,
     .portDefaultsWrite f0 ⟨0, 0, 0, [256]⟩,
     .controlMatchWrite g0 ⟨0, 0, 0, 0, 0, 0, 0⟩,
     .controlMatchWrite f0 ⟨256, 0, 0, 0, 0, 0, 0⟩,
     .controlMatchWrite f0 ⟨0, 65536, 0, 0, 0, 0, 0⟩,
     .controlMatchWrite f0 ⟨0, 0, 2 ^ 48, 0, 0, 0, 0⟩,
     .controlMatchWrite f0 ⟨0, 0, 0, 256, 0, 0, 0⟩,
     .controlMatchWrite f0 ⟨0, 0, 0, 0, 65536, 0, 0⟩,
     .controlMatchWrite f0 ⟨0, 0, 0, 0, 0, 256, 0⟩,
     .controlMatchWrite f0 ⟨0, 0, 0, 0, 0, 0, 256⟩,
     .bankModeWrite g0 0 0 0,
     .bankModeWrite f0 65536 0 0,
     .bankModeWrite f0 0 256 0,
     .bankModeWrite f0 0 0 256,
     .listCreate g0 ⟨0, 0, 0, 0⟩,
     .listCreate f0 ⟨65536, 0, 0, 0⟩,
     .listCreate f0 ⟨0, 256, 0, 0⟩,
     .listCreate f0 ⟨0, 0, 256, 0⟩,
     .listCreate f0 ⟨0, 0, 0, 256⟩,
     .listDelete g0 0 0,
     .listDelete f0 65536 0,
     .listDelete f0 0 256,
     .ruleInsert g0 ⟨0, 0, 0, 0, 0, 0, 0⟩,
     .ruleInsert f0 ⟨65536, 0, 0, 0, 0, 0, 0⟩,
     .ruleInsert f0 ⟨0, 256, 0, 0, 0, 0, 0⟩,
     .ruleInsert f0 ⟨0, 0, 256, 0, 0, 0, 0⟩,
     .ruleInsert f0 ⟨0, 0, 0, 4294967296, 0, 0, 0⟩,
     .ruleInsert f0 ⟨0, 0, 0, 0, 2 ^ 640, 0, 0⟩,
     .ruleInsert f0 ⟨0, 0, 0, 0, 0, 2 ^ 640, 0⟩,
     .ruleInsert f0 ⟨0, 0, 0, 0, 0, 0, 2 ^ 128⟩] : List Instr).all (fun x => !x.wf) = true := by decide +kernel

theorem test_illFormed_7 : (
    [.ruleDelete g0 0,
     .ruleDelete f0 4294967296,
     .ruleActionWrite g0 0 0,
     .ruleActionWrite f0 4294967296 0,
     .ruleActionWrite f0 0 (2 ^ 128),
     .ruleRead g0 0 0,
     .ruleRead f0 4294967296 0,
     .ruleRead f0 0 256,
     .listRespace g0 0 0 0,
     .listRespace f0 65536 0 0,
     .listRespace f0 0 256 0,
     .listRespace f0 0 0 256,
     .tcamRawWrite g0 ⟨0, 0, 0, 0, 0, 0, 0⟩,
     .tcamRawWrite f0 ⟨65536, 0, 0, 0, 0, 0, 0⟩,
     .tcamRawWrite f0 ⟨0, 256, 0, 0, 0, 0, 0⟩,
     .tcamRawWrite f0 ⟨0, 0, 256, 0, 0, 0, 0⟩,
     .tcamRawWrite f0 ⟨0, 0, 0, 65536, 0, 0, 0⟩,
     .tcamRawWrite f0 ⟨0, 0, 0, 0, 2 ^ 640, 0, 0⟩,
     .tcamRawWrite f0 ⟨0, 0, 0, 0, 0, 2 ^ 640, 0⟩,
     .tcamRawWrite f0 ⟨0, 0, 0, 0, 0, 0, 2 ^ 128⟩,
     .tcamRawRead g0 0 0,
     .tcamRawRead f0 256 0,
     .tcamRawRead f0 0 65536,
     .recircConfig g0 0 0,
     .recircConfig f0 65536 0,
     .recircConfig f0 0 256,
     .mirrorSessionWrite g0 ⟨0, 0, 0, 0⟩,
     .mirrorSessionWrite f0 ⟨256, 0, 0, 0⟩,
     .mirrorSessionWrite f0 ⟨0, 65536, 0, 0⟩,
     .mirrorSessionWrite f0 ⟨0, 0, 256, 0⟩,
     .mirrorSessionWrite f0 ⟨0, 0, 0, 65536⟩,
     .parseCountersRead g0 0 0,
     .parseCountersRead f0 65536 0,
     .parseCountersRead f0 0 256,
     .partitionCreate g0 ⟨0, 0, 0, 0, 0, 0, 0, 0, 0, []⟩,
     .partitionCreate f0 ⟨256, 0, 0, 0, 0, 0, 0, 0, 0, []⟩,
     .partitionCreate f0 ⟨0, 256, 0, 0, 0, 0, 0, 0, 0, []⟩,
     .partitionCreate f0 ⟨0, 0, 256, 0, 0, 0, 0, 0, 0, []⟩,
     .partitionCreate f0 ⟨0, 0, 0, 256, 0, 0, 0, 0, 0, []⟩,
     .partitionCreate f0 ⟨0, 0, 0, 0, 4294967296, 0, 0, 0, 0, []⟩] : List Instr).all (fun x => !x.wf) = true := by decide +kernel

theorem test_illFormed_8 : (
    [.partitionCreate f0 ⟨0, 0, 0, 0, 0, 4294967296, 0, 0, 0, []⟩,
     .partitionCreate f0 ⟨0, 0, 0, 0, 0, 0, 65536, 0, 0, []⟩,
     .partitionCreate f0 ⟨0, 0, 0, 0, 0, 0, 0, 65536, 0, []⟩,
     .partitionCreate f0 ⟨0, 0, 0, 0, 0, 0, 0, 0, 256, []⟩,
     .partitionCreate f0 ⟨0, 0, 0, 0, 0, 0, 0, 0, 0, [65536]⟩,
     .partitionDelete g0 0,
     .partitionDelete f0 256,
     .partitionRead g0 0,
     .partitionRead f0 256,
     .flowInsert g0 blockA,
     .flowInsert f0 ({ blockA with flags := 256 }),
     .flowUpdate g0 blockA,
     .flowUpdate f0 ({ blockA with flags := 256 }),
     .flowRead g0 ⟨0, 0, 0, 0⟩ 0,
     .flowRead f0 ⟨256, 0, 0, 0⟩ 0,
     .flowRead f0 ⟨0, 0, 0, 0⟩ 256,
     .flowDelete g0 ⟨0, 0, 0, 0⟩,
     .flowDelete f0 ⟨256, 0, 0, 0⟩,
     .flowSearchNext g0 ⟨0, 0, 0, 0, ⟨0, 0, 0, 0⟩, 0⟩,
     .flowSearchNext f0 ⟨2 ^ 64, 0, 0, 0, ⟨0, 0, 0, 0⟩, 0⟩,
     .flowSearchNext f0 ⟨0, 256, 0, 0, ⟨0, 0, 0, 0⟩, 0⟩,
     .flowSearchNext f0 ⟨0, 0, 256, 0, ⟨0, 0, 0, 0⟩, 0⟩,
     .flowSearchNext f0 ⟨0, 0, 0, 256, ⟨0, 0, 0, 0⟩, 0⟩,
     .flowSearchNext f0 ⟨0, 0, 0, 0, ⟨256, 0, 0, 0⟩, 0⟩,
     .flowSearchNext f0 ⟨0, 0, 0, 0, ⟨0, 0, 0, 0⟩, 2 ^ 448⟩,
     .flowFlush g0 ⟨0, 0, 0, ⟨0, 0, 0, 0⟩, 0⟩,
     .flowFlush f0 ⟨256, 0, 0, ⟨0, 0, 0, 0⟩, 0⟩,
     .flowFlush f0 ⟨0, 256, 0, ⟨0, 0, 0, 0⟩, 0⟩,
     .flowFlush f0 ⟨0, 0, 256, ⟨0, 0, 0, 0⟩, 0⟩,
     .flowFlush f0 ⟨0, 0, 0, ⟨256, 0, 0, 0⟩, 0⟩,
     .flowFlush f0 ⟨0, 0, 0, ⟨0, 0, 0, 0⟩, 2 ^ 448⟩,
     .ageClassWrite g0 0 0,
     .ageClassWrite f0 256 0,
     .ageClassWrite f0 0 4294967296,
     .sweepConfig g0 0 0,
     .sweepConfig f0 256 0,
     .sweepConfig f0 0 65536,
     .flowTableStatus g0,
     .flowTemplateWrite g0 tplA,
     .flowTemplateWrite f0 ({ tplA with flags := 256 })] : List Instr).all (fun x => !x.wf) = true := by decide +kernel

theorem test_illFormed_9 : (
    [.flowTemplateRead g0 0,
     .flowTemplateRead f0 256,
     .natPoolWrite g0 ⟨0, 0, 0, 0, 0⟩,
     .natPoolWrite f0 ⟨256, 0, 0, 0, 0⟩,
     .natPoolWrite f0 ⟨0, 256, 0, 0, 0⟩,
     .natPoolWrite f0 ⟨0, 0, 65536, 0, 0⟩,
     .natPoolWrite f0 ⟨0, 0, 0, 65536, 0⟩,
     .natPoolWrite f0 ⟨0, 0, 0, 0, 65536⟩,
     .natPoolAddrWrite g0 ⟨0, 0, 0, []⟩,
     .natPoolAddrWrite f0 ⟨256, 0, 0, []⟩,
     .natPoolAddrWrite f0 ⟨0, 65536, 0, []⟩,
     .natPoolAddrWrite f0 ⟨0, 0, 65536, []⟩,
     .natPoolAddrWrite f0 ⟨0, 0, 0, [2 ^ 128]⟩,
     .natPoolDelete g0 0,
     .natPoolDelete f0 256,
     .natPoolStatus g0 0,
     .natPoolStatus f0 256,
     .lbPoolWrite g0 ⟨0, 0, 0, 0, 0, 0, 0⟩,
     .lbPoolWrite f0 ⟨65536, 0, 0, 0, 0, 0, 0⟩,
     .lbPoolWrite f0 ⟨0, 256, 0, 0, 0, 0, 0⟩,
     .lbPoolWrite f0 ⟨0, 0, 256, 0, 0, 0, 0⟩,
     .lbPoolWrite f0 ⟨0, 0, 0, 65536, 0, 0, 0⟩,
     .lbPoolWrite f0 ⟨0, 0, 0, 0, 65536, 0, 0⟩,
     .lbPoolWrite f0 ⟨0, 0, 0, 0, 0, 256, 0⟩,
     .lbPoolWrite f0 ⟨0, 0, 0, 0, 0, 0, 256⟩,
     .lbBackendWrite g0 ⟨0, 0, 0, 0, 0, 0, 0, 0⟩,
     .lbBackendWrite f0 ⟨4294967296, 0, 0, 0, 0, 0, 0, 0⟩,
     .lbBackendWrite f0 ⟨0, 65536, 0, 0, 0, 0, 0, 0⟩,
     .lbBackendWrite f0 ⟨0, 0, 65536, 0, 0, 0, 0, 0⟩,
     .lbBackendWrite f0 ⟨0, 0, 0, 2 ^ 128, 0, 0, 0, 0⟩,
     .lbBackendWrite f0 ⟨0, 0, 0, 0, 65536, 0, 0, 0⟩,
     .lbBackendWrite f0 ⟨0, 0, 0, 0, 0, 65536, 0, 0⟩,
     .lbBackendWrite f0 ⟨0, 0, 0, 0, 0, 0, 65536, 0⟩,
     .lbBackendWrite f0 ⟨0, 0, 0, 0, 0, 0, 0, 256⟩,
     .lbPoolCommit g0 0,
     .lbPoolCommit f0 65536,
     .lbPoolRead g0 0,
     .lbPoolRead f0 65536,
     .groupHomeWrite g0 ⟨0, 0, 0, 0, []⟩,
     .groupHomeWrite f0 ⟨256, 0, 0, 0, []⟩] : List Instr).all (fun x => !x.wf) = true := by decide +kernel

theorem test_illFormed_10 : (
    [.groupHomeWrite f0 ⟨0, 2 ^ 48, 0, 0, []⟩,
     .groupHomeWrite f0 ⟨0, 0, 4294967296, 0, []⟩,
     .groupHomeWrite f0 ⟨0, 0, 0, 256, []⟩,
     .groupHomeWrite f0 ⟨0, 0, 0, 0, [65536]⟩,
     .exportProfileWrite g0 ⟨0, 0, 0, 0, 0, 0, 0, 0, 0, 0, 0, 0, 0, 0, 0, 0, 0, 0⟩,
     .exportProfileWrite f0 ⟨256, 0, 0, 0, 0, 0, 0, 0, 0, 0, 0, 0, 0, 0, 0, 0, 0, 0⟩,
     .exportProfileWrite f0 ⟨0, 256, 0, 0, 0, 0, 0, 0, 0, 0, 0, 0, 0, 0, 0, 0, 0, 0⟩,
     .exportProfileWrite f0 ⟨0, 0, 65536, 0, 0, 0, 0, 0, 0, 0, 0, 0, 0, 0, 0, 0, 0, 0⟩,
     .exportProfileWrite f0 ⟨0, 0, 0, 2 ^ 128, 0, 0, 0, 0, 0, 0, 0, 0, 0, 0, 0, 0, 0, 0⟩,
     .exportProfileWrite f0 ⟨0, 0, 0, 0, 2 ^ 128, 0, 0, 0, 0, 0, 0, 0, 0, 0, 0, 0, 0, 0⟩,
     .exportProfileWrite f0 ⟨0, 0, 0, 0, 0, 65536, 0, 0, 0, 0, 0, 0, 0, 0, 0, 0, 0, 0⟩,
     .exportProfileWrite f0 ⟨0, 0, 0, 0, 0, 0, 65536, 0, 0, 0, 0, 0, 0, 0, 0, 0, 0, 0⟩,
     .exportProfileWrite f0 ⟨0, 0, 0, 0, 0, 0, 0, 4294967296, 0, 0, 0, 0, 0, 0, 0, 0, 0, 0⟩,
     .exportProfileWrite f0 ⟨0, 0, 0, 0, 0, 0, 0, 0, 4294967296, 0, 0, 0, 0, 0, 0, 0, 0, 0⟩,
     .exportProfileWrite f0 ⟨0, 0, 0, 0, 0, 0, 0, 0, 0, 4294967296, 0, 0, 0, 0, 0, 0, 0, 0⟩,
     .exportProfileWrite f0 ⟨0, 0, 0, 0, 0, 0, 0, 0, 0, 0, 65536, 0, 0, 0, 0, 0, 0, 0⟩,
     .exportProfileWrite f0 ⟨0, 0, 0, 0, 0, 0, 0, 0, 0, 0, 0, 65536, 0, 0, 0, 0, 0, 0⟩,
     .exportProfileWrite f0 ⟨0, 0, 0, 0, 0, 0, 0, 0, 0, 0, 0, 0, 65536, 0, 0, 0, 0, 0⟩,
     .exportProfileWrite f0 ⟨0, 0, 0, 0, 0, 0, 0, 0, 0, 0, 0, 0, 0, 65536, 0, 0, 0, 0⟩,
     .exportProfileWrite f0 ⟨0, 0, 0, 0, 0, 0, 0, 0, 0, 0, 0, 0, 0, 0, 2 ^ 48, 0, 0, 0⟩,
     .exportProfileWrite f0 ⟨0, 0, 0, 0, 0, 0, 0, 0, 0, 0, 0, 0, 0, 0, 0, 65536, 0, 0⟩,
     .exportProfileWrite f0 ⟨0, 0, 0, 0, 0, 0, 0, 0, 0, 0, 0, 0, 0, 0, 0, 0, 256, 0⟩,
     .exportProfileWrite f0 ⟨0, 0, 0, 0, 0, 0, 0, 0, 0, 0, 0, 0, 0, 0, 0, 0, 0, 256⟩,
     .exportStatus g0 0,
     .exportStatus f0 256,
     .serviceCountersRead g0 0 0,
     .serviceCountersRead f0 256 0,
     .serviceCountersRead f0 0 256,
     .vlanWrite g0 0 0,
     .vlanWrite f0 65536 0,
     .vlanWrite f0 0 (2 ^ 64),
     .portL2Write g0 0 0 0,
     .portL2Write f0 65536 0 0,
     .portL2Write f0 0 65536 0,
     .portL2Write f0 0 0 256,
     .l2TableConfig g0 ⟨0, 0, 0, 0, 0, 0, 0, 0⟩,
     .l2TableConfig f0 ⟨4294967296, 0, 0, 0, 0, 0, 0, 0⟩,
     .l2TableConfig f0 ⟨0, 4294967296, 0, 0, 0, 0, 0, 0⟩,
     .l2TableConfig f0 ⟨0, 0, 4294967296, 0, 0, 0, 0, 0⟩,
     .l2TableConfig f0 ⟨0, 0, 0, 4294967296, 0, 0, 0, 0⟩] : List Instr).all (fun x => !x.wf) = true := by decide +kernel

theorem test_illFormed_11 : (
    [.l2TableConfig f0 ⟨0, 0, 0, 0, 256, 0, 0, 0⟩,
     .l2TableConfig f0 ⟨0, 0, 0, 0, 0, 65536, 0, 0⟩,
     .l2TableConfig f0 ⟨0, 0, 0, 0, 0, 0, 65536, 0⟩,
     .l2TableConfig f0 ⟨0, 0, 0, 0, 0, 0, 0, 65536⟩,
     .l2EntryWrite g0 ⟨0, 0, 0, 0, 0⟩,
     .l2EntryWrite f0 ⟨65536, 0, 0, 0, 0⟩,
     .l2EntryWrite f0 ⟨0, 2 ^ 48, 0, 0, 0⟩,
     .l2EntryWrite f0 ⟨0, 0, 256, 0, 0⟩,
     .l2EntryWrite f0 ⟨0, 0, 0, 256, 0⟩,
     .l2EntryWrite f0 ⟨0, 0, 0, 0, 65536⟩,
     .l2EntryDelete g0 0 0,
     .l2EntryDelete f0 65536 0,
     .l2EntryDelete f0 0 (2 ^ 48),
     .l2EntryRead g0 0 0,
     .l2EntryRead f0 65536 0,
     .l2EntryRead f0 0 (2 ^ 48),
     .l2SearchNext g0 0 ⟨0, 0, 0, 0, 0, 0⟩,
     .l2SearchNext f0 (2 ^ 64) ⟨0, 0, 0, 0, 0, 0⟩,
     .l2SearchNext f0 0 ⟨256, 0, 0, 0, 0, 0⟩,
     .l2Flush g0 ⟨0, 0, 0, 0, 0, 0⟩,
     .l2Flush f0 ⟨256, 0, 0, 0, 0, 0⟩,
     .l2Unpin g0 0 0,
     .l2Unpin f0 65536 0,
     .l2Unpin f0 0 (2 ^ 48),
     .lagWrite g0 0 [],
     .lagWrite f0 256 [],
     .lagWrite f0 0 [65536],
     .mcastGroupWrite g0 0 [],
     .mcastGroupWrite f0 65536 [],
     .l2LearnShareConfig g0 ⟨0, 0, 0, []⟩,
     .l2LearnShareConfig f0 ⟨256, 0, 0, []⟩,
     .l2LearnShareConfig f0 ⟨0, 256, 0, []⟩,
     .l2LearnShareConfig f0 ⟨0, 0, 256, []⟩,
     .l2LearnShareConfig f0 ⟨0, 0, 0, [65536]⟩,
     .deviceReachWrite g0 0 0 0,
     .deviceReachWrite f0 65536 0 0,
     .deviceReachWrite f0 0 256 0,
     .deviceReachWrite f0 0 0 65536,
     .l2LearnNotifyRead g0 0,
     .l2LearnNotifyRead f0 256] : List Instr).all (fun x => !x.wf) = true := by decide +kernel

theorem test_illFormed_12 : (
    [.l2Status g0,
     .learnMessage g0 ⟨0, 0, 0, []⟩,
     .learnMessage f0 ⟨0, 256, 0, []⟩,
     .routerMacWrite g0 0 0 0,
     .routerMacWrite f0 256 0 0,
     .routerMacWrite f0 0 256 0,
     .routerMacWrite f0 0 0 (2 ^ 48),
     .vrfWrite g0 ⟨0, 0, 0, 0⟩,
     .vrfWrite f0 ⟨65536, 0, 0, 0⟩,
     .vrfWrite f0 ⟨0, 65536, 0, 0⟩,
     .vrfWrite f0 ⟨0, 0, 256, 0⟩,
     .vrfWrite f0 ⟨0, 0, 0, 256⟩,
     .nexthopWrite g0 ⟨0, 0, 0, 0, 0, 0, 0, 0, 0, 0⟩,
     .nexthopWrite f0 ⟨65536, 0, 0, 0, 0, 0, 0, 0, 0, 0⟩,
     .nexthopWrite f0 ⟨0, 256, 0, 0, 0, 0, 0, 0, 0, 0⟩,
     .nexthopWrite f0 ⟨0, 0, 256, 0, 0, 0, 0, 0, 0, 0⟩,
     .nexthopWrite f0 ⟨0, 0, 0, 256, 0, 0, 0, 0, 0, 0⟩,
     .nexthopWrite f0 ⟨0, 0, 0, 0, 65536, 0, 0, 0, 0, 0⟩,
     .nexthopWrite f0 ⟨0, 0, 0, 0, 0, 2 ^ 48, 0, 0, 0, 0⟩,
     .nexthopWrite f0 ⟨0, 0, 0, 0, 0, 0, 65536, 0, 0, 0⟩,
     .nexthopWrite f0 ⟨0, 0, 0, 0, 0, 0, 0, 65536, 0, 0⟩,
     .nexthopWrite f0 ⟨0, 0, 0, 0, 0, 0, 0, 0, 65536, 0⟩,
     .nexthopWrite f0 ⟨0, 0, 0, 0, 0, 0, 0, 0, 0, 256⟩,
     .ecmpMembersWrite g0 0 [],
     .ecmpMembersWrite f0 65536 [],
     .ecmpMembersWrite f0 0 [65536],
     .hostEntryWrite g0 ⟨0, 0, 0, 0⟩,
     .hostEntryWrite f0 ⟨65536, 0, 0, 0⟩,
     .hostEntryWrite f0 ⟨0, 256, 0, 0⟩,
     .hostEntryWrite f0 ⟨0, 0, 2 ^ 128, 0⟩,
     .hostEntryWrite f0 ⟨0, 0, 0, 65536⟩,
     .hostEntryDelete g0 0 0 0,
     .hostEntryDelete f0 65536 0 0,
     .hostEntryDelete f0 0 256 0,
     .hostEntryDelete f0 0 0 (2 ^ 128),
     .hostEntryRead g0 0 0 0,
     .hostEntryRead f0 65536 0 0,
     .hostEntryRead f0 0 256 0,
     .hostEntryRead f0 0 0 (2 ^ 128),
     .hostSearchNext g0 0 0] : List Instr).all (fun x => !x.wf) = true := by decide +kernel

theorem test_illFormed_13 : (
    [.hostSearchNext f0 (2 ^ 64) 0,
     .hostSearchNext f0 0 256,
     .lpmRouteAdd g0 0 [],
     .lpmRouteAdd f0 65536 [],
     .lpmRouteReplace g0 0 [],
     .lpmRouteReplace f0 65536 [],
     .lpmRouteDelete g0 0 [],
     .lpmRouteDelete f0 65536 [],
     .lpmRouteNext g0 0 0 0,
     .lpmRouteNext f0 65536 0 0,
     .lpmRouteNext f0 0 (2 ^ 64) 0,
     .lpmRouteNext f0 0 0 65536,
     .l3Status g0,
     .bufProfileWrite g0 ⟨0, 0, 0, 0, 0, 0, 0⟩,
     .bufProfileWrite f0 ⟨256, 0, 0, 0, 0, 0, 0⟩,
     .bufProfileWrite f0 ⟨0, 256, 0, 0, 0, 0, 0⟩,
     .bufProfileWrite f0 ⟨0, 0, 65536, 0, 0, 0, 0⟩,
     .bufProfileWrite f0 ⟨0, 0, 0, 256, 0, 0, 0⟩,
     .bufProfileWrite f0 ⟨0, 0, 0, 0, 65536, 0, 0⟩,
     .bufProfileWrite f0 ⟨0, 0, 0, 0, 0, 4294967296, 0⟩,
     .bufProfileWrite f0 ⟨0, 0, 0, 0, 0, 0, 4294967296⟩,
     .voqProfileMap g0 0 0 0,
     .voqProfileMap f0 4294967296 0 0,
     .voqProfileMap f0 0 4294967296 0,
     .voqProfileMap f0 0 0 256,
     .bufRegionWrite g0 ⟨0, 0, 0, 0⟩,
     .bufRegionWrite f0 ⟨256, 0, 0, 0⟩,
     .bufRegionWrite f0 ⟨0, 65536, 0, 0⟩,
     .bufRegionWrite f0 ⟨0, 0, 4294967296, 0⟩,
     .bufRegionWrite f0 ⟨0, 0, 0, 4294967296⟩,
     .portPfcWrite g0 ⟨0, 0, 0, 0, 0, 0, 0, 0⟩,
     .portPfcWrite f0 ⟨65536, 0, 0, 0, 0, 0, 0, 0⟩,
     .portPfcWrite f0 ⟨0, 256, 0, 0, 0, 0, 0, 0⟩,
     .portPfcWrite f0 ⟨0, 0, 256, 0, 0, 0, 0, 0⟩,
     .portPfcWrite f0 ⟨0, 0, 0, 65536, 0, 0, 0, 0⟩,
     .portPfcWrite f0 ⟨0, 0, 0, 0, 65536, 0, 0, 0⟩,
     .portPfcWrite f0 ⟨0, 0, 0, 0, 0, 65536, 0, 0⟩,
     .portPfcWrite f0 ⟨0, 0, 0, 0, 0, 0, 65536, 0⟩,
     .portPfcWrite f0 ⟨0, 0, 0, 0, 0, 0, 0, 256⟩,
     .portLingerWrite g0 0 0] : List Instr).all (fun x => !x.wf) = true := by decide +kernel

theorem test_illFormed_14 : (
    [.portLingerWrite f0 65536 0,
     .portLingerWrite f0 0 65536,
     .bufCommit g0,
     .voqStatus g0 0 0,
     .voqStatus f0 256 0,
     .voqStatus f0 0 4294967296,
     .voqCountersRead g0 0 0 0,
     .voqCountersRead f0 256 0 0,
     .voqCountersRead f0 0 4294967296 0,
     .voqCountersRead f0 0 0 256,
     .bufStatus g0,
     .fabricConfig g0 ⟨0, 0, 0, 0, 0, 0, 0, true⟩,
     .fabricConfig f0 ⟨256, 0, 0, 0, 0, 0, 0, true⟩,
     .fabricConfig f0 ⟨0, 256, 0, 0, 0, 0, 0, true⟩,
     .fabricConfig f0 ⟨0, 0, 65536, 0, 0, 0, 0, true⟩,
     .fabricConfig f0 ⟨0, 0, 0, 65536, 0, 0, 0, true⟩,
     .fabricConfig f0 ⟨0, 0, 0, 0, 65536, 0, 0, true⟩,
     .fabricConfig f0 ⟨0, 0, 0, 0, 0, 65536, 0, true⟩,
     .fabricConfig f0 ⟨0, 0, 0, 0, 0, 0, 65536, true⟩,
     .fabricLinkWrite g0 ⟨0, 0, 0, true⟩,
     .fabricLinkWrite f0 ⟨256, 0, 0, true⟩,
     .fabricLinkWrite f0 ⟨0, 256, 0, true⟩,
     .fabricLinkWrite f0 ⟨0, 0, 256, true⟩,
     .fabricStatus g0,
     .fabricCountersRead g0 0,
     .fabricCountersRead f0 256,
     .portSchedWrite g0 ⟨0, 0, 0, [], 0, 0, 0⟩,
     .portSchedWrite f0 ⟨65536, 0, 0, [], 0, 0, 0⟩,
     .portSchedWrite f0 ⟨0, 256, 0, [], 0, 0, 0⟩,
     .portSchedWrite f0 ⟨0, 0, 256, [], 0, 0, 0⟩,
     .portSchedWrite f0 ⟨0, 0, 0, [256], 0, 0, 0⟩,
     .portSchedWrite f0 ⟨0, 0, 0, [], 4294967296, 0, 0⟩,
     .portSchedWrite f0 ⟨0, 0, 0, [], 0, 4294967296, 0⟩,
     .portSchedWrite f0 ⟨0, 0, 0, [], 0, 0, 4294967296⟩,
     .queueShaperWrite g0 ⟨0, 0, 0, 0, 0⟩,
     .queueShaperWrite f0 ⟨65536, 0, 0, 0, 0⟩,
     .queueShaperWrite f0 ⟨0, 256, 0, 0, 0⟩,
     .queueShaperWrite f0 ⟨0, 0, 256, 0, 0⟩,
     .queueShaperWrite f0 ⟨0, 0, 0, 4294967296, 0⟩,
     .queueShaperWrite f0 ⟨0, 0, 0, 0, 4294967296⟩] : List Instr).all (fun x => !x.wf) = true := by decide +kernel

theorem test_illFormed_15 : (
    [.gateListWrite g0 0 0 [],
     .gateListWrite f0 65536 0 [],
     .gateListWrite f0 0 256 [],
     .gateConfigWrite g0 ⟨0, 0, 0, 0, 0, 0⟩,
     .gateConfigWrite f0 ⟨65536, 0, 0, 0, 0, 0⟩,
     .gateConfigWrite f0 ⟨0, 256, 0, 0, 0, 0⟩,
     .gateConfigWrite f0 ⟨0, 0, 65536, 0, 0, 0⟩,
     .gateConfigWrite f0 ⟨0, 0, 0, 4294967296, 0, 0⟩,
     .gateConfigWrite f0 ⟨0, 0, 0, 0, 2 ^ 48, 0⟩,
     .gateConfigWrite f0 ⟨0, 0, 0, 0, 0, 4294967296⟩,
     .gateStatus g0 0,
     .gateStatus f0 65536,
     .egressCountersRead g0 0 0,
     .egressCountersRead f0 65536 0,
     .egressCountersRead f0 0 256,
     .policerWrite g0 ⟨0, 0, 0, 0, 0, 0, 0, 0, 0, 0, 0, 0⟩,
     .policerWrite f0 ⟨256, 0, 0, 0, 0, 0, 0, 0, 0, 0, 0, 0⟩,
     .policerWrite f0 ⟨0, 256, 0, 0, 0, 0, 0, 0, 0, 0, 0, 0⟩,
     .policerWrite f0 ⟨0, 0, 65536, 0, 0, 0, 0, 0, 0, 0, 0, 0⟩,
     .policerWrite f0 ⟨0, 0, 0, 4294967296, 0, 0, 0, 0, 0, 0, 0, 0⟩,
     .policerWrite f0 ⟨0, 0, 0, 0, 4294967296, 0, 0, 0, 0, 0, 0, 0⟩,
     .policerWrite f0 ⟨0, 0, 0, 0, 0, 4294967296, 0, 0, 0, 0, 0, 0⟩,
     .policerWrite f0 ⟨0, 0, 0, 0, 0, 0, 4294967296, 0, 0, 0, 0, 0⟩,
     .policerWrite f0 ⟨0, 0, 0, 0, 0, 0, 0, 256, 0, 0, 0, 0⟩,
     .policerWrite f0 ⟨0, 0, 0, 0, 0, 0, 0, 0, 256, 0, 0, 0⟩,
     .policerWrite f0 ⟨0, 0, 0, 0, 0, 0, 0, 0, 0, 256, 0, 0⟩,
     .policerWrite f0 ⟨0, 0, 0, 0, 0, 0, 0, 0, 0, 0, 256, 0⟩,
     .policerWrite f0 ⟨0, 0, 0, 0, 0, 0, 0, 0, 0, 0, 0, 256⟩,
     .policerRead g0 0 0 0,
     .policerRead f0 256 0 0,
     .policerRead f0 0 65536 0,
     .policerRead f0 0 0 256,
     .hwmRead g0 ⟨0, 0, 0, 0⟩,
     .hwmRead f0 ⟨256, 0, 0, 0⟩,
     .hwmRead f0 ⟨0, 256, 0, 0⟩,
     .hwmRead f0 ⟨0, 0, 4294967296, 0⟩,
     .hwmRead f0 ⟨0, 0, 0, 65536⟩,
     .hbmBudgetWrite g0 ⟨0, 0, 0, 0, 0, 0⟩,
     .hbmBudgetWrite f0 ⟨256, 0, 0, 0, 0, 0⟩,
     .hbmBudgetWrite f0 ⟨0, 256, 0, 0, 0, 0⟩] : List Instr).all (fun x => !x.wf) = true := by decide +kernel

theorem test_illFormed_16 : (
    [.hbmBudgetWrite f0 ⟨0, 0, 256, 0, 0, 0⟩,
     .hbmBudgetWrite f0 ⟨0, 0, 0, 256, 0, 0⟩,
     .hbmBudgetWrite f0 ⟨0, 0, 0, 0, 256, 0⟩,
     .hbmBudgetWrite f0 ⟨0, 0, 0, 0, 0, 65536⟩,
     .hbmBudgetRead g0,
     .hbmStatus g0,
     .hbmScrubConfig g0 0,
     .hbmScrubConfig f0 65536,
     .hbmPcRetire g0 0,
     .hbmPcRetire f0 256,
     .sysIdentity g0,
     .sysStatus g0,
     .sysEcho g0,
     .sysGroupOpen g0 0,
     .sysGroupOpen f0 4294967296,
     .sysGroupCommit g0,
     .sysGroupAbort g0,
     .sysCompletionAck g0 [],
     .sysCompletionAck f0 [65536],
     .sysPendingRead g0,
     .sysIntakeConfig g0 ⟨0, 0, 0, true⟩,
     .sysIntakeConfig f0 ⟨2 ^ 48, 0, 0, true⟩,
     .sysIntakeConfig f0 ⟨0, 2 ^ 48, 0, true⟩,
     .sysIntakeConfig f0 ⟨0, 0, 256, true⟩,
     .sysDeviceIdWrite g0 0 true,
     .sysDeviceIdWrite f0 65536 true,
     .sysReset g0 0,
     .sysReset f0 256,
     .portConfig g0 ⟨0, 0, 0, 0, 0, 0, 0⟩,
     .portConfig f0 ⟨65536, 0, 0, 0, 0, 0, 0⟩,
     .portConfig f0 ⟨0, 256, 0, 0, 0, 0, 0⟩,
     .portConfig f0 ⟨0, 0, 256, 0, 0, 0, 0⟩,
     .portConfig f0 ⟨0, 0, 0, 256, 0, 0, 0⟩,
     .portConfig f0 ⟨0, 0, 0, 0, 256, 0, 0⟩,
     .portConfig f0 ⟨0, 0, 0, 0, 0, 256, 0⟩,
     .portConfig f0 ⟨0, 0, 0, 0, 0, 0, 65536⟩,
     .portStatus g0 0,
     .portStatus f0 65536,
     .portCountersRead g0 0 0,
     .portCountersRead f0 65536 0] : List Instr).all (fun x => !x.wf) = true := by decide +kernel

theorem test_illFormed_17 : (
    [.portCountersRead f0 0 256,
     .portAdmin g0 0 0,
     .portAdmin f0 65536 0,
     .portAdmin f0 0 256,
     .portOpticsAccess g0 ⟨0, 0, 0, 0, 0, 0, 0, [], [], true⟩,
     .portOpticsAccess f0 ⟨256, 0, 0, 0, 0, 0, 0, [], [], true⟩,
     .portOpticsAccess f0 ⟨0, 256, 0, 0, 0, 0, 0, [], [], true⟩,
     .portOpticsAccess f0 ⟨0, 0, 256, 0, 0, 0, 0, [], [], true⟩,
     .portOpticsAccess f0 ⟨0, 0, 0, 256, 0, 0, 0, [], [], true⟩,
     .portOpticsAccess f0 ⟨0, 0, 0, 0, 256, 0, 0, [], [], true⟩,
     .portOpticsAccess f0 ⟨0, 0, 0, 0, 0, 256, 0, [], [], true⟩,
     .portOpticsAccess f0 ⟨0, 0, 0, 0, 0, 0, 256, [], [], true⟩,
     .diagPrbs g0 ⟨0, 0, 0, 0, []⟩,
     .diagPrbs f0 ⟨65536, 0, 0, 0, []⟩,
     .diagPrbs f0 ⟨0, 256, 0, 0, []⟩,
     .diagPrbs f0 ⟨0, 0, 256, 0, []⟩,
     .diagPrbs f0 ⟨0, 0, 0, 256, []⟩,
     .diagPrbs f0 ⟨0, 0, 0, 0, [2 ^ 64]⟩,
     .diagLoopback g0 0 0,
     .diagLoopback f0 65536 0,
     .diagLoopback f0 0 256,
     .diagEyeScan g0 0 0 [],
     .diagEyeScan f0 65536 0 [],
     .diagEyeScan f0 0 256 [],
     .diagEyeScan f0 0 0 [65536],
     .diagRegRead g0 0 0,
     .diagRegRead f0 4294967296 0,
     .diagRegRead f0 0 65536,
     .diagErrorInject g0 ⟨0, 0, 0, 0⟩,
     .diagErrorInject f0 ⟨256, 0, 0, 0⟩,
     .diagErrorInject f0 ⟨0, 256, 0, 0⟩,
     .diagErrorInject f0 ⟨0, 0, 65536, 0⟩,
     .diagErrorInject f0 ⟨0, 0, 0, 4294967296⟩,
     .diagMemTest g0 0 [],
     .diagMemTest f0 4294967296 [],
     .diagMemTest f0 0 [2 ^ 64],
     .secKeyWrite g0 ⟨0, 0, 0, true⟩,
     .secKeyWrite f0 ⟨256, 0, 0, true⟩,
     .secKeyWrite f0 ⟨0, 256, 0, true⟩,
     .secKeyWrite f0 ⟨0, 0, 2 ^ 256, true⟩] : List Instr).all (fun x => !x.wf) = true := by decide +kernel

theorem test_illFormed_18 : (
    [.secKeyClear g0 0 0 true,
     .secKeyClear f0 256 0 true,
     .secKeyClear f0 0 256 true,
     .secKeyStatus g0,
     .secHostAccess g0 0 true,
     .secHostAccess f0 256 true,
     .secLifecycleSet g0 0 0 true,
     .secLifecycleSet f0 256 0 true,
     .secLifecycleSet f0 0 (2 ^ 64) true,
     .secFwWrite g0 ⟨0, 0, [], true⟩,
     .secFwWrite f0 ⟨4294967296, 0, [], true⟩,
     .secFwActivate g0 0 true,
     .secFwActivate f0 256 true,
     .secFwStatus g0,
     .auditRead g0 0 0,
     .auditRead f0 (2 ^ 64) 0,
     .auditRead f0 0 65536,
     .auditAck g0 0,
     .auditAck f0 (2 ^ 64),
     .auditConfig g0 0 true,
     .auditConfig f0 256 true,
     .jobSubmit g0 ⟨0, 0, 0, 0, 0, 0, 0, 0, .other⟩ .porstNRelease,
     .jobSubmit f0 ⟨256, 0, 0, 0, 0, 0, 0, 0, .other⟩ .porstNRelease,
     .jobSubmit f0 ⟨0, 256, 0, 0, 0, 0, 0, 0, .other⟩ .porstNRelease,
     .jobSubmit f0 ⟨0, 0, 256, 0, 0, 0, 0, 0, .other⟩ .porstNRelease,
     .jobSubmit f0 ⟨0, 0, 0, 256, 0, 0, 0, 0, .other⟩ .porstNRelease,
     .jobSubmit f0 ⟨0, 0, 0, 0, 2 ^ 48, 0, 0, 0, .other⟩ .porstNRelease,
     .jobSubmit f0 ⟨0, 0, 0, 0, 0, 4294967296, 0, 0, .other⟩ .porstNRelease,
     .jobSubmit f0 ⟨0, 0, 0, 0, 0, 0, 2 ^ 64, 0, .other⟩ .porstNRelease,
     .jobSubmit f0 ⟨0, 0, 0, 0, 0, 0, 0, 4294967296, .other⟩ .porstNRelease,
     .jobSubmit f0 ⟨0, 0, 0, 0, 0, 0, 0, 0, .snapshot 256⟩ .porstNRelease,
     .jobCancel g0 0 0,
     .jobCancel f0 65536 0,
     .jobCancel f0 0 65536,
     .jobStatus g0 0 0,
     .jobStatus f0 65536 0,
     .jobStatus f0 0 65536,
     .geyserClassWrite g0 0 0 0,
     .geyserClassWrite f0 256 0 0,
     .geyserClassWrite f0 0 65536 0] : List Instr).all (fun x => !x.wf) = true := by decide +kernel

theorem test_illFormed_19 : (
    [.geyserClassWrite f0 0 0 65536,
     .geyserActivityWrite g0 0 0 0,
     .geyserActivityWrite f0 256 0 0,
     .geyserActivityWrite f0 0 65536 0,
     .geyserActivityWrite f0 0 0 65536,
     .geyserStatus g0,
     .fumStatus g0,
     .pwrModeSet g0 0 0 0,
     .pwrModeSet f0 256 0 0,
     .pwrModeSet f0 0 256 0,
     .pwrModeSet f0 0 0 65536,
     .pwrCapSet g0 0 true,
     .pwrCapSet f0 65536 true,
     .pwrLimitsSet g0 ⟨0, 0, 0, 0, 0, 0, true⟩,
     .pwrLimitsSet f0 ⟨65536, 0, 0, 0, 0, 0, true⟩,
     .pwrLimitsSet f0 ⟨0, 65536, 0, 0, 0, 0, true⟩,
     .pwrLimitsSet f0 ⟨0, 0, 256, 0, 0, 0, true⟩,
     .pwrLimitsSet f0 ⟨0, 0, 0, 256, 0, 0, true⟩,
     .pwrLimitsSet f0 ⟨0, 0, 0, 0, 256, 0, true⟩,
     .pwrLimitsSet f0 ⟨0, 0, 0, 0, 0, 256, true⟩,
     .pwrReducedProfileWrite g0 ⟨0, 0, 0, 0, 0, 0⟩,
     .pwrReducedProfileWrite f0 ⟨256, 0, 0, 0, 0, 0⟩,
     .pwrReducedProfileWrite f0 ⟨0, 256, 0, 0, 0, 0⟩,
     .pwrReducedProfileWrite f0 ⟨0, 0, 65536, 0, 0, 0⟩,
     .pwrReducedProfileWrite f0 ⟨0, 0, 0, 4294967296, 0, 0⟩,
     .pwrReducedProfileWrite f0 ⟨0, 0, 0, 0, 65536, 0⟩,
     .pwrReducedProfileWrite f0 ⟨0, 0, 0, 0, 0, 65536⟩,
     .pwrScheduleWrite g0 ⟨0, 0, 0, 0, 0, 0, 0, 0, 0⟩,
     .pwrScheduleWrite f0 ⟨256, 0, 0, 0, 0, 0, 0, 0, 0⟩,
     .pwrScheduleWrite f0 ⟨0, 256, 0, 0, 0, 0, 0, 0, 0⟩,
     .pwrScheduleWrite f0 ⟨0, 0, 256, 0, 0, 0, 0, 0, 0⟩,
     .pwrScheduleWrite f0 ⟨0, 0, 0, 256, 0, 0, 0, 0, 0⟩,
     .pwrScheduleWrite f0 ⟨0, 0, 0, 0, 2 ^ 48, 0, 0, 0, 0⟩,
     .pwrScheduleWrite f0 ⟨0, 0, 0, 0, 0, 4294967296, 0, 0, 0⟩,
     .pwrScheduleWrite f0 ⟨0, 0, 0, 0, 0, 0, 65536, 0, 0⟩,
     .pwrScheduleWrite f0 ⟨0, 0, 0, 0, 0, 0, 0, 4294967296, 0⟩,
     .pwrScheduleWrite f0 ⟨0, 0, 0, 0, 0, 0, 0, 0, 65536⟩,
     .pwrWakeConfig g0 0,
     .pwrWakeConfig f0 4294967296,
     .pwrStatus g0] : List Instr).all (fun x => !x.wf) = true := by decide +kernel

theorem test_illFormed_20 : (
    [.timeSourceConfig g0 ⟨0, 0, 0, 0, 0, 0, 0, 0⟩,
     .timeSourceConfig f0 ⟨256, 0, 0, 0, 0, 0, 0, 0⟩,
     .timeSourceConfig f0 ⟨0, 256, 0, 0, 0, 0, 0, 0⟩,
     .timeSourceConfig f0 ⟨0, 0, 256, 0, 0, 0, 0, 0⟩,
     .timeSourceConfig f0 ⟨0, 0, 0, 4294967296, 0, 0, 0, 0⟩,
     .timeSourceConfig f0 ⟨0, 0, 0, 0, 4294967296, 0, 0, 0⟩,
     .timeSourceConfig f0 ⟨0, 0, 0, 0, 0, 4294967296, 0, 0⟩,
     .timeSourceConfig f0 ⟨0, 0, 0, 0, 0, 0, 4294967296, 0⟩,
     .timeSourceConfig f0 ⟨0, 0, 0, 0, 0, 0, 0, 65536⟩,
     .timeSet g0 ⟨0, 0, 0, 0⟩,
     .timeSet f0 ⟨2 ^ 48, 0, 0, 0⟩,
     .timeSet f0 ⟨0, 4294967296, 0, 0⟩,
     .timeSet f0 ⟨0, 0, 65536, 0⟩,
     .timeSet f0 ⟨0, 0, 0, 256⟩,
     .timeStatus g0,
     .ptpClockConfig g0 ⟨0, 0, 0, 0, 0, 0, 0, 0, 0⟩,
     .ptpClockConfig f0 ⟨256, 0, 0, 0, 0, 0, 0, 0, 0⟩,
     .ptpClockConfig f0 ⟨0, 256, 0, 0, 0, 0, 0, 0, 0⟩,
     .ptpClockConfig f0 ⟨0, 0, 256, 0, 0, 0, 0, 0, 0⟩,
     .ptpClockConfig f0 ⟨0, 0, 0, 256, 0, 0, 0, 0, 0⟩,
     .ptpClockConfig f0 ⟨0, 0, 0, 0, 256, 0, 0, 0, 0⟩,
     .ptpClockConfig f0 ⟨0, 0, 0, 0, 0, 256, 0, 0, 0⟩,
     .ptpClockConfig f0 ⟨0, 0, 0, 0, 0, 0, 256, 0, 0⟩,
     .ptpClockConfig f0 ⟨0, 0, 0, 0, 0, 0, 0, 4294967296, 0⟩,
     .ptpClockConfig f0 ⟨0, 0, 0, 0, 0, 0, 0, 0, 2 ^ 128⟩,
     .ptpPortConfig g0 ⟨0, 0, 0, 0, 0, 0, 0, 0⟩,
     .ptpPortConfig f0 ⟨65536, 0, 0, 0, 0, 0, 0, 0⟩,
     .ptpPortConfig f0 ⟨0, 256, 0, 0, 0, 0, 0, 0⟩,
     .ptpPortConfig f0 ⟨0, 0, 256, 0, 0, 0, 0, 0⟩,
     .ptpPortConfig f0 ⟨0, 0, 0, 256, 0, 0, 0, 0⟩,
     .ptpPortConfig f0 ⟨0, 0, 0, 0, 256, 0, 0, 0⟩,
     .ptpPortConfig f0 ⟨0, 0, 0, 0, 0, 256, 0, 0⟩,
     .ptpPortConfig f0 ⟨0, 0, 0, 0, 0, 0, 256, 0⟩,
     .ptpPortConfig f0 ⟨0, 0, 0, 0, 0, 0, 0, 4294967296⟩,
     .ptpStatus g0,
     .timeOutputWrite g0 ⟨0, 0, 0, 0, 0, 0, 0, 0⟩,
     .timeOutputWrite f0 ⟨256, 0, 0, 0, 0, 0, 0, 0⟩,
     .timeOutputWrite f0 ⟨0, 256, 0, 0, 0, 0, 0, 0⟩,
     .timeOutputWrite f0 ⟨0, 0, 256, 0, 0, 0, 0, 0⟩,
     .timeOutputWrite f0 ⟨0, 0, 0, 256, 0, 0, 0, 0⟩] : List Instr).all (fun x => !x.wf) = true := by decide +kernel

theorem test_illFormed_21 : (
    [.timeOutputWrite f0 ⟨0, 0, 0, 0, 2 ^ 48, 0, 0, 0⟩,
     .timeOutputWrite f0 ⟨0, 0, 0, 0, 0, 4294967296, 0, 0⟩,
     .timeOutputWrite f0 ⟨0, 0, 0, 0, 0, 0, 2 ^ 64, 0⟩,
     .timeOutputWrite f0 ⟨0, 0, 0, 0, 0, 0, 0, 2 ^ 64⟩,
     .eventStampRead g0,
     .lldpConfig g0 ⟨0, 0, 0, []⟩,
     .lldpConfig f0 ⟨65536, 0, 0, []⟩,
     .lldpConfig f0 ⟨0, 256, 0, []⟩,
     .lldpConfig f0 ⟨0, 0, 65536, []⟩,
     .discoveryRead g0 0 0 0,
     .discoveryRead f0 256 0 0,
     .discoveryRead f0 0 65536 0,
     .discoveryRead f0 0 0 65536,
     .domainConfig g0 0 0 0,
     .domainConfig f0 65536 0 0,
     .domainConfig f0 0 4294967296 0,
     .domainConfig f0 0 0 256,
     .opticsSlotWrite g0 ⟨0, 0, 0, 0, 0, 0⟩,
     .opticsSlotWrite f0 ⟨256, 0, 0, 0, 0, 0⟩,
     .opticsSlotWrite f0 ⟨0, 256, 0, 0, 0, 0⟩,
     .opticsSlotWrite f0 ⟨0, 0, 256, 0, 0, 0⟩,
     .opticsSlotWrite f0 ⟨0, 0, 0, 256, 0, 0⟩,
     .opticsSlotWrite f0 ⟨0, 0, 0, 0, 256, 0⟩,
     .opticsSlotWrite f0 ⟨0, 0, 0, 0, 0, 256⟩,
     .opticsStatus g0,
     .faultStatus g0,
     .faultPolicyWrite g0 0 0 0,
     .faultPolicyWrite f0 256 0 0,
     .faultPolicyWrite f0 0 256 0,
     .faultPolicyWrite f0 0 0 4294967296,
     .faultLogRead g0 0 0,
     .faultLogRead f0 65536 0,
     .faultLogRead f0 0 65536,
     .hwRetire g0 ⟨0, 0, 0, true⟩,
     .hwRetire f0 ⟨256, 0, 0, true⟩,
     .hwRetire f0 ⟨0, 256, 0, true⟩,
     .hwRetire f0 ⟨0, 0, 4294967296, true⟩,
     .faultRecordClear g0,
     .powerGoodReturn 5,
     .pcieLinkChange 6 0 0] : List Instr).all (fun x => !x.wf) = true := by decide +kernel

theorem test_illFormed_22 : (
    [.pcieLinkChange 0 256 0,
     .pcieLinkChange 0 0 3,
     .freqMeasurement (2 ^ 64),
     .rxFrameWrite [⟨1, 256⟩] false,
     .txFrameFetch 0 [⟨0, 0, 256, 0, 0⟩] [] false,
     .workItemRelease [⟨true, 64, 0, 0, 0, 0, 0, 0, none⟩],
     .flowBulkInsert 0 [{ blockA with flags := 256 }],
     .mcastGroupWrite f0 0 [(256, 0)],
     .mcastGroupWrite f0 0 [(0, 65536)],
     .lpmRouteAdd f0 0 [⟨false, 256, 0, 0⟩],
     .lpmRouteReplace f0 0 [⟨false, 256, 0, 0⟩],
     .lpmRouteDelete f0 0 [⟨false, 256, 0, 0⟩],
     .gateListWrite f0 0 0 [(256, 0)],
     .gateListWrite f0 0 0 [(0, 4294967296)],
     .jobSubmit f0 ⟨0, 0, 0, 0, 0, 0, 0, 0, .other⟩ (.warmReset 256),
     .secFwWrite f0 ⟨0, 4294967296, [], true⟩] : List Instr).all (fun x => !x.wf) = true := by decide +kernel

theorem test_illFormed_Ocf : (
    [{ f0 with magic := 2 ^ 16 },
     { f0 with version := 2 ^ 8 },
     { f0 with role := 2 ^ 8 },
     { f0 with flags := 2 ^ 16 },
     { f0 with seq := 2 ^ 64 },
     { f0 with length := 2 ^ 32 },
     { f0 with tag := 2 ^ 16 },
     { f0 with sender := 2 ^ 16 },
     { f0 with keyId := 2 ^ 8 },
     { f0 with group := 2 ^ 8 },
     { f0 with reserved := 2 ^ 16 },
     { f0 with epoch := 2 ^ 32 },
     { f0 with transport := .mailbox 16 }] : List Ocf).all (fun x => !x.wf) = true := by decide +kernel

theorem test_illFormed_DataCell : (
    [{ cellA with kind := 1, hop := 2 },
     { cellA with kind := 1, src := 32 },
     { cellA with kind := 1, dst := 32 },
     { cellA with kind := 1, via := 32 },
     { cellA with kind := 1, dstPort := 256 },
     { cellA with kind := 1, tc := 8 },
     { cellA with kind := 1, seq := 2 ^ 24 },
     { cellA with kind := 1, index := 128 },
     { cellA with kind := 1, lseq := 4096 },
     { cellA with kind := 1, ack := 4096 },
     { cellA with kind := 1, cls := 2 },
     { cellA with kind := 1, origPort := 8192 },
     { cellA with kind := 1, frameLen := 2 ^ 16 },
     { cellA with kind := 1, cumCells := 2 ^ 32 },
     { cellA with kind := 1, nexthop := 2 ^ 16 },
     { cellA with kind := 1, group := 16384 },
     { cellA with kind := 5 },
     cellA,
     { cellA with kind := 1, payload := List.replicate 241 0#8 }] : List DataCell).all (fun x => !x.wf) = true := by decide +kernel

theorem test_illFormed_LinkHeader : (
    [⟨32, 0, 0, true, 0, 0⟩,
     ⟨0, 4096, 0, true, 0, 0⟩,
     ⟨0, 0, 4096, true, 0, 0⟩,
     ⟨0, 0, 0, true, 32, 0⟩,
     ⟨0, 0, 0, true, 0, 2⟩] : List LinkHeader).all (fun x => !x.wf) = true := by decide +kernel

theorem test_illFormed_FlowReq : (
    [{ reqA with template := 2 ^ 8 },
     { reqA with zone := 2 ^ 16 },
     { reqA with keyType := 2 ^ 8 },
     { reqA with key := 2 ^ 384 },
     { reqA with proto := 2 ^ 8 },
     { reqA with len := 2 ^ 16 },
     { reqA with tcp := some 256 },
     { reqA with chain := .delete 256 }] : List FlowReq).all (fun x => !x.wf) = true := by decide +kernel

theorem test_illFormed_Endpoint : (
    [⟨2 ^ 128, none⟩,
     ⟨0, some 65536⟩] : List Endpoint).all (fun x => !x.wf) = true := by decide +kernel

theorem test_illFormed_LearnRecord : (
    [{ learnA with op := 2 ^ 8 },
     { learnA with fid := 2 ^ 16 },
     { learnA with mac := 2 ^ 48 },
     { learnA with originDev := 2 ^ 16 },
     { learnA with originPort := 2 ^ 16 },
     { learnA with stampS := 2 ^ 48 },
     { learnA with stampNs := 2 ^ 32 }] : List LearnRecord).all (fun x => !x.wf) = true := by decide +kernel

theorem test_illFormed_LearnMessageP : (
    [⟨2 ^ 16, 0, 0, []⟩,
     ⟨0, 2 ^ 8, 0, []⟩,
     ⟨0, 0, 2 ^ 32, []⟩,
     ⟨0, 0, 0, List.replicate 256 learnA⟩,
     ⟨0, 0, 0, [{ learnA with op := 256 }]⟩] : List LearnMessageP).all (fun x => !x.wf) = true := by decide +kernel

theorem test_illFormed_RxBuf : (
    [⟨2 ^ 64, 0⟩,
     ⟨1, 256⟩,
     ⟨0, 192⟩,
     ⟨0, 16448⟩,
     ⟨0, 257⟩] : List RxBuf).all (fun x => !x.wf) = true := by decide +kernel

theorem test_illFormed_TxDesc : (
    [⟨2 ^ 64, 0, 0, 0, 0⟩,
     ⟨0, 2 ^ 16, 0, 0, 0⟩,
     ⟨0, 0, 2 ^ 8, 0, 0⟩,
     ⟨0, 0, 0, 2 ^ 8, 0⟩,
     ⟨0, 0, 0, 0, 2 ^ 16⟩] : List TxDesc).all (fun x => !x.wf) = true := by decide +kernel

theorem test_illFormed_NewItem : (
    [⟨true, 64, 0, 0, 0, 0, 0, 0, none⟩,
     ⟨true, 0, 16, 0, 0, 0, 0, 0, none⟩,
     ⟨true, 0, 0, 8, 0, 0, 0, 0, none⟩,
     ⟨true, 0, 0, 0, 16, 0, 0, 0, none⟩,
     ⟨true, 0, 0, 0, 0, 2 ^ 48, 0, 0, none⟩,
     ⟨true, 0, 0, 0, 0, 0, 2 ^ 16, 0, none⟩,
     ⟨true, 0, 0, 0, 0, 0, 0, 2 ^ 64, none⟩,
     ⟨true, 0, 0, 0, 0, 0, 0, 0, some 65536⟩] : List NewItem).all (fun x => !x.wf) = true := by decide +kernel

theorem test_illFormed_CalderaSample : (
    [{ sampleA with sensors := [] },
     { sampleA with hbm := [] },
     { sampleA with util := [] },
     { sampleA with util := [0, 0, 0, 1001] }] : List CalderaSample).all (fun x => !x.wf) = true := by decide +kernel

theorem test_illFormed_AnnounceData : (
    [⟨2 ^ 8, 0, 0, 0, 0, 0, 0, 0, 0⟩,
     ⟨0, 2 ^ 8, 0, 0, 0, 0, 0, 0, 0⟩,
     ⟨0, 0, 2 ^ 8, 0, 0, 0, 0, 0, 0⟩,
     ⟨0, 0, 0, 2 ^ 16, 0, 0, 0, 0, 0⟩,
     ⟨0, 0, 0, 0, 2 ^ 8, 0, 0, 0, 0⟩,
     ⟨0, 0, 0, 0, 0, 2 ^ 64, 0, 0, 0⟩,
     ⟨0, 0, 0, 0, 0, 0, 2 ^ 16, 0, 0⟩,
     ⟨0, 0, 0, 0, 0, 0, 0, 2 ^ 64, 0⟩,
     ⟨0, 0, 0, 0, 0, 0, 0, 0, 2 ^ 16⟩] : List AnnounceData).all (fun x => !x.wf) = true := by decide +kernel

theorem test_illFormed_MemberTlv : (
    [⟨4096, 0, 0, 0, 0, 0, 0⟩,
     ⟨0, 2 ^ 16, 0, 0, 0, 0, 0⟩,
     ⟨0, 0, 2 ^ 16, 0, 0, 0, 0⟩,
     ⟨0, 0, 0, 2 ^ 8, 0, 0, 0⟩,
     ⟨0, 0, 0, 0, 2 ^ 8, 0, 0⟩,
     ⟨0, 0, 0, 0, 0, 2 ^ 8, 0⟩,
     ⟨0, 0, 0, 0, 0, 0, 2 ^ 8⟩] : List MemberTlv).all (fun x => !x.wf) = true := by decide +kernel

theorem test_illFormed_LldpPdu : (
    [⟨0, 0, 2 ^ 16, none⟩,
     ⟨1, 1, 0, some ⟨4096, 0, 0, 0, 0, 0, 0⟩⟩] : List LldpPdu).all (fun x => !x.wf) = true := by decide +kernel

theorem test_illFormed_OpticsRead : (
    [⟨true, 2 ^ 8, true, 0, []⟩,
     ⟨true, 0, true, 8, []⟩] : List OpticsRead).all (fun x => !x.wf) = true := by decide +kernel

theorem test_illFormed_Trans : (
    [⟨2 ^ 32, 0, 0, 0⟩,
     ⟨0, 2 ^ 32, 0, 0⟩,
     ⟨0, 0, 2 ^ 8, 0⟩,
     ⟨0, 0, 0, 2 ^ 8⟩] : List Trans).all (fun x => !x.wf) = true := by decide +kernel

theorem test_illFormed_ParseState : (
    [{ stateA with hdrId := 2 ^ 8 },
     { stateA with layer := 2 ^ 8 },
     { stateA with check := 2 ^ 8 },
     { stateA with lenMode := 2 ^ 8 },
     { stateA with lenFixed := 2 ^ 8 },
     { stateA with lenOff := 2 ^ 8 },
     { stateA with lenMask := 2 ^ 8 },
     { stateA with lenShift := 2 ^ 8 },
     { stateA with lenScale := 2 ^ 8 },
     { stateA with lenAdd := 2 ^ 8 },
     { stateA with selOff := 2 ^ 8 },
     { stateA with selWidth := 2 ^ 8 },
     { stateA with defAction := 2 ^ 8 },
     { stateA with defTarget := 2 ^ 8 },
     { stateA with trans := [] },
     { stateA with trans := List.replicate 8 ⟨0, 0, 256, 0⟩ }] : List ParseState).all (fun x => !x.wf) = true := by decide +kernel

theorem test_illFormed_KeyDesc : (
    [⟨2 ^ 8, 0, 0, 0⟩,
     ⟨0, 2 ^ 8, 0, 0⟩,
     ⟨0, 0, 2 ^ 16, 0⟩,
     ⟨0, 0, 0, 2 ^ 384⟩] : List KeyDesc).all (fun x => !x.wf) = true := by decide +kernel

theorem test_illFormed_FlowBlock : (
    [{ blockA with flags := 2 ^ 8 },
     { blockA with template := 2 ^ 8 },
     { blockA with ageClass := 2 ^ 8 },
     { blockA with ctState := 2 ^ 8 },
     { blockA with ctAux := 2 ^ 16 },
     { blockA with expectGen := 2 ^ 16 },
     { blockA with templateData := 2 ^ 32 },
     { blockA with service := 2 ^ 192 },
     { blockA with key := ⟨256, 0, 0, 0⟩ }] : List FlowBlock).all (fun x => !x.wf) = true := by decide +kernel

theorem test_illFormed_TemplateP : (
    [{ tplA with template := 2 ^ 8 },
     { tplA with partition := 2 ^ 8 },
     { tplA with keyType := 2 ^ 8 },
     { tplA with keyFlags := 2 ^ 8 },
     { tplA with flags := 2 ^ 8 },
     { tplA with serviceKind := 2 ^ 8 },
     { tplA with ageClass := 2 ^ 8 },
     { tplA with natPool := 2 ^ 8 },
     { tplA with exportField := 2 ^ 8 },
     { tplA with ctInvalid := 2 ^ 8 },
     { tplA with ctMiss := 2 ^ 8 },
     { tplA with slowReason := 2 ^ 8 },
     { tplA with lbPool := 2 ^ 16 },
     { tplA with replyZone := 2 ^ 16 },
     { tplA with createLimit := 2 ^ 16 },
     { tplA with deferMaxAge := 2 ^ 16 },
     { tplA with ctAge := 2 ^ 32 },
     { tplA with ovlPolicy := 2 ^ 32 },
     { tplA with templateData := 2 ^ 32 },
     { tplA with stateless := 2 ^ 128 },
     { tplA with flowAction := 2 ^ 128 },
     { tplA with keyMap := [] },
     { tplA with keyMap := List.replicate 24 (2 ^ 32) }] : List TemplateP).all (fun x => !x.wf) = true := by decide +kernel

theorem test_illFormed_FlushFilter : (
    [⟨2 ^ 8, 0, 0, 0, 0, 0⟩,
     ⟨0, 2 ^ 8, 0, 0, 0, 0⟩,
     ⟨0, 0, 2 ^ 16, 0, 0, 0⟩,
     ⟨0, 0, 0, 2 ^ 8, 0, 0⟩,
     ⟨0, 0, 0, 0, 2 ^ 16, 0⟩,
     ⟨0, 0, 0, 0, 0, 2 ^ 16⟩] : List FlushFilter).all (fun x => !x.wf) = true := by decide +kernel

theorem test_illFormed_Route : (
    [⟨true, 2 ^ 8, 0, 0⟩,
     ⟨true, 0, 2 ^ 128, 0⟩,
     ⟨true, 0, 0, 2 ^ 16⟩] : List Route).all (fun x => !x.wf) = true := by decide +kernel

theorem test_illFormed_Transport : (
    [.mailbox 16,
     .dma 16 0 0,
     .dma 0 (2 ^ 64) 0,
     .dma 0 0 (2 ^ 32),
     .inband 65536 0 none,
     .inband 0 (2 ^ 48) none,
     .inband 0 0 (some (2 ^ 32)),
     .dvorob 32] : List Transport).all (fun x => !x.wf) = true := by decide +kernel

theorem test_illFormed_Chain : (
    [.reply 65536 0 0,
     .reply 0 256 0,
     .reply 0 0 (2 ^ 384),
     .companion 65536 0 0 0,
     .companion 0 256 0 0,
     .companion 0 0 (2 ^ 384) 0,
     .drop 65536 0 0,
     .drop 0 256 0,
     .drop 0 0 (2 ^ 384),
     .delete 256] : List Chain).all (fun x => !x.wf) = true := by decide +kernel

theorem test_illFormed_FlowResult : (
    [.ok (some ⟨2 ^ 128, none⟩) none none,
     .ok none (some ⟨2 ^ 128, none⟩) none,
     .ok none none (some 4),
     .starved 0,
     .starved 10] : List FlowResult).all (fun x => !x.wf) = true := by decide +kernel

theorem test_illFormed_HbmReqOp : (
    [.writeBack 4,
     .flowRead 4,
     .read 4 0 0 0,
     .read 0 5 0 0,
     .read 0 0 (2 ^ 35) 0,
     .read 0 0 0 4097,
     .write 4 0 0 [],
     .write 0 5 0 [],
     .write 0 0 (2 ^ 35) [],
     .write 0 0 0 (List.replicate 4097 0#8)] : List HbmReqOp).all (fun x => !x.wf) = true := by decide +kernel

theorem test_illFormed_PtpMsg : (
    [.announce 256 ⟨0, 0, 0, 0, 0, 0, 0, 0, 0⟩ 0 false false false,
     .announce 0 ⟨256, 0, 0, 0, 0, 0, 0, 0, 0⟩ 0 false false false,
     .sync 256 0 0,
     .delayResp 256 0,
     .delayReq 256 0 0 0,
     .delayReq 0 0 (2 ^ 80) 0,
     .delayReq 0 0 0 65536,
     .pdelayReq 256 0 0 0,
     .pdelayReq 0 0 (2 ^ 80) 0,
     .pdelayReq 0 0 0 65536,
     .pdelayResp 256 0 0] : List PtpMsg).all (fun x => !x.wf) = true := by decide +kernel

theorem test_illFormed_JobParams : (
    [.tableDump 256 0 0,
     .tableDump 0 65536 0,
     .tableDump 0 0 (2 ^ 64),
     .bulkInsert (2 ^ 32),
     .snapshot 256,
     .delayed 65536 f0,
     .delayed 0 g0] : List JobParams).all (fun x => !x.wf) = true := by decide +kernel

/-! ## Worked examples of the spec -/

/-- FIPS 180-4, appendix: SHA-256 of "abc", first and last word. -/
theorem test_sha256_abc : beNat ((sha256 [0x61#8, 0x62#8, 0x63#8]).take 4) = 0xBA7816BF ∧ beNat ((sha256 [0x61#8, 0x62#8, 0x63#8]).drop 28) = 0xF20015AD := by
  decide +kernel

/-- The check value of hash A that chapter 3 gives, over "123456789". -/
theorem test_hash_a : hashA 0xFFFFFFFF ((List.range 9).map (fun k => BitVec.ofNat 8 (0x31 + k))) = 0xE3069283 := by decide +kernel

/-- The example under R61: an untagged frame of 128 bytes whose IPv4 total length is 1,500 yields PX_L3LEN; so does one with a tag. -/
def longIp : Bytes := [0x08#8, 0x00#8, 0x45#8, 0#8, 0x05#8, 0xDC#8]
theorem test_parse_l3len :
    (parsePass defaultGraph 0 (List.replicate 12 0#8 ++ longIp ++ List.replicate 106 0#8)).exc = 5 ∧
    (parsePass defaultGraph 0 (List.replicate 12 0#8 ++ [0x81#8, 0#8, 0#8, 1#8] ++ longIp ++ List.replicate 102 0#8)).exc = 5 := by decide +kernel

/-- The example after R84: rules 100 and 101 of a list respaced with S = 8 stand at positions 114 and 115. -/
theorem test_respaced : spacedPos 8 100 = 114 ∧ spacedPos 8 101 = 115 ∧ spacedPos 8 2999 < 4096 := by decide

/-- The example of chapter 3: bucket A begins at byte 1,045,538,560 and lies in bucket group 15,953. -/
theorem test_bucket : slotAddr 2 (locLake 4084135 0) % 2 ^ 35 = 1045538560 ∧ locGroup (locLake 4084135 0) = 15953 := by decide

/-- The example of chapter 8: bucket A is served by pseudo-channel 1, bank 17 (SID 1, bank 1), row 12,620; granules 1 and 64 of region 0 share
pseudo-channel 1. -/
theorem test_hbm_map : mapPc 2 1045538560 = 1 ∧ up.bankRow 2 1045538560 = (17, 12620) ∧ mapPc 0 256 = 1 ∧ mapPc 0 (64 * 256) = 1 := by decide +kernel

/-- The example under R381: FR can lend 919 bursts, and no class with a request waiting lends. -/
theorem test_lendable :
    ({ up with
      time.localNs := 400
      hbm.own := [(15, 4915)]
      hbm.left := [(15, 3915)] } : State).lendable 3 0 = 919 := by decide +kernel

/-- The example of chapter 13: lowering C from 232 to 216 cuts the spill share from 72 to 56, and 168 leaves it 8. -/
theorem test_cut_shares : (cutShares [96, 40, 72, 16, 8] 216).getD 2 0 = 56 ∧ (cutShares [96, 40, 72, 16, 8] 168).getD 2 0 = 8 := by decide

/-- The example after R534: D_min is 172,000 nJ by default and 184,000 with 40 µs for class 5; G_floor at 180 W and 10 permille is 180,000. -/
theorem test_energy : minDemand defaultClasses = 172000 ∧ minDemand (up.classesWith 5 300 40) = 184000 ∧
    ({ up with power.capFloor := 180, power.maintPermille := 10 } : State).gFloor = 180000 := by decide +kernel

/-- The example of chapter 6: the default pools leave a shared pool of 113,664 cells. -/
theorem test_shared_pool : State.reset.sharedSize 0 = 113664 := by decide +kernel

/-- The example of chapter 7: the tags of TC 3 with weight 4 and TC 2 with weight 1 advance by 24,903,680 and 99,614,720. -/
theorem test_tag_increment : ceilDiv (adjusted 1500 20 * 65536) 4 = 24903680 ∧ adjusted 1500 20 * 65536 = 99614720 := by decide

/-- The examples of chapter 7: 1,520 bytes at 1 Gb/s put the shaper into fine slot 380; 16,372 bytes at 1 Mb/s into coarse slot 1,000. -/
theorem test_shaper_slots :
    (({ rate := 125 * byteTokens / 1000, burst := 0 } : Shaper).charge 1520 0).wheel = some (false, 380, 380) ∧
    (({ rate := byteTokens / 8000, burst := 0 } : Shaper).charge 16372 0).wheel.map (fun w => (w.1, w.2.1)) = some (true, 1000) := by decide +kernel

/-- The example under R356: BASE 1,700,000,000 s and an acceptance 50 µs before the second give a change 1 ms after it. -/
theorem test_gate_change : changeInstant 1700000000000000000 1000000 1700000005999950000 = 1700000006001000000 := by decide

/-- The example of chapter 4: the sixth ring entry of region 1 is offset 1 of block 17 at address index 1, port 1,089. -/
theorem test_nat_entry : ({ family := 4, addrCount := 4, portLo := 1024, portHi := 65535 } : NatPool).entry 1 5 = (1, 1089) := by decide

/-- The example of chapter 4 at a sixteenth of its size: slot targets with one slot left over go to the largest remainder. -/
theorem test_slot_targets : slotTargets 4096 [(0, 2), (1, 1), (2, 1), (3, 1)] = [(0, 1639), (1, 819), (2, 819), (3, 819)] := by decide +kernel

/-- Table 9-7: after SEQ 1,000, 1,001 and 1,003 the highest is 1,003 and bits 0, 2 and 3 are set; 1,002 is fresh, 1,003 is seen, and at 1,070 a
copy of 1,001 is a replay. -/
def window3 : Window := ((({ h := 1000, map := 1 } : Window).record 1001).record 1003)
theorem test_window : window3.h = 1003 ∧ window3.map = 13 ∧ window3.check 1002 = .fresh ∧ window3.check 1003 = .seen ∧
    (window3.record 1070).check 1001 = .replay := by decide +kernel

/-- The example of chapter 5: device 17's own entry loses to 42's record, which is 190 ns earlier. -/
theorem test_conflict :
    (({ up with
      ocf.deviceId := 17
      fwd.conflictWindow := 10
      fwd.mac := [(0, { destType := 0, dest := 12, fid := 100, mac := 2, learnDev := 17, stampS := 1700000000, stampNs := 500000310 })] } : State).against
        false 1700000000500000120 42 { destType := 0, dest := 12, fid := 100, mac := 2, learnDev := 17, stampS := 1700000000, stampNs := 500000310 })
      = .win := by decide +kernel

/-! ## One step -/

/-- A word of the table spells no command, since the table gives no row any bits. -/
theorem test_no_word : decodeTableWord 16 0 = none ∧ State.reset.withFetchWord 16 0 = State.reset := by decide +kernel

/-- PSTATUS event raising: a device event sets its bit (R490), and PORST_N clears all (Table 11-11). -/
theorem test_raise : (raise 280 up).host.int.status.testBit 280 = true ∧ (raise 280 up).host.int.status.testBit 281 = false := by decide +kernel

/-- VLAN_WRITE through the front of the queue writes the entry, replies and leaves the rest of the queue. -/
theorem test_vlan_write :
    (match step { up with pending := [.vlanWrite (fr 12) 7 (2 ^ 22), .porstNRelease] } with
    | .next t => decide (tget t.fwd.vlans 7 = some (2 ^ 22)) && decide (t.pending = [.porstNRelease]) && decide ((t.ocf.sent.map Reply.status) = [0])
    | _ => false) = true := by decide +kernel

/-- An access past the end of a region's share faults by name. -/
theorem test_hbm_fault : (match exec (.hbmRequestAccept (.read 0 2 19327352832 1)) up with | .fault _ => true | _ => false) = true := by decide +kernel

/-- The example after R84: between rules 100 and 101, going up costs 3 moves and the new rule stands at position 114. -/
theorem test_rule_place :
    ((placeRule ((List.range 120).map (fun i => (spacedPos 8 i, { ruleA with prio := 2 * i }))) 4096 { ruleA with prio := 201 }).map
      (fun r => (r.2.1, r.2.2))) = some (114, 3) := by decide +kernel

/-! ## Witnesses -/

/-- States and operands that meet the hypotheses of each clause of Obligations.ForwardingSettingsRun. -/
theorem witness_ForwardingSettingsRun :
    (∃ (s : State) (h : Ocf) (vid : Nat) (entry : Nat), Taken s h 0x0501 true false 12 ∧ vid ≤ 4095 ∧ entry % 2 ^ 22 = 0) ∧
    (∃ (s : State) (h : Ocf) (port : Nat) (vid : Nat) (mode : Nat) (k : Nat), Taken s h 0x0502 true false 8 ∧ s.portArg port = some k ∧ vid ≤
      4095 ∧ mode ≤ 3) ∧
    (∃ (s : State) (h : Ocf) (lag : Nat) (members : List Nat), Taken s h 0x050A true false (4 * ceilDiv (2 + 2 * members.length) 4) ∧ lag ≤ 255 ∧
      members.length ≤ 64 ∧ (∀ m ∈ members, m < 8192)) ∧
    (∃ (s : State) (h : Ocf) (group : Nat) (members : McastMembers), Taken s h 0x050B true false (4 + 4 * members.length) ∧ group ≤ 16383 ∧ (∀ m
      ∈ members, m.1 = 0 ∧ badDest 0 m.2 = false ∨ m.1 = 1 ∧ m.2 ≤ 255)) ∧
    (∃ (s : State) (h : Ocf) (device : Nat) (destType : Nat) (dest : Nat), Taken s h 0x050D true false 8 ∧ device ≤ 4095 ∧ destType ≤ 2 ∧
      (destType < 2 → badDest destType dest = false)) ∧
    (∃ (s : State) (h : Ocf) (p : L2LearnShareConfigP), Taken s h 0x050C true false (4 * ceilDiv (4 + 2 * p.ports.length) 4) ∧ p.mode ≤ 1 ∧ p.tc
      ≤ 7 ∧ p.ports.length ≤ 4 ∧ (∀ f ∈ p.ports, (s.portArg f).isSome)) ∧
    (∃ (s : State) (h : Ocf) (p : L2TableConfigP), Taken s h 0x0503 true false 24 ∧ s.fwd.queue = [] ∧ (p.macSeed = s.fwd.macSeed ∨ s.fwd.mac =
      []) ∧ (p.hostSeed = s.fwd.hostSeed ∨ s.fwd.host = []) ∧ p.ageTime ≤ 86400 ∧ p.flapLimit ≠ 1 ∧ p.flapLimit ≤ 255 ∧ (p.flapWindow = 0 ∨ 10 ≤
      p.flapWindow) ∧ p.flapWindow ≤ 60000 ∧ p.pinHold ≤ 3600 ∧ p.conflictWindow ≤ 1000) :=
  ⟨⟨up, (fr 12), 0, 0, takenOf (by decide +kernel), by decide +kernel, by decide +kernel⟩,
   ⟨up, (fr 8), 0, 0, 0, _, takenOf (by decide +kernel), rfl, by decide +kernel, by decide +kernel⟩,
   ⟨up, (fr 4), 0, [], takenOf (by decide +kernel), by decide +kernel, by decide +kernel, by decide +kernel⟩,
   ⟨up, (fr 4), 0, [], takenOf (by decide +kernel), by decide +kernel, by decide +kernel⟩,
   ⟨up, (fr 8), 0, 0, 0, takenOf (by decide +kernel), by decide +kernel, by decide +kernel, by decide +kernel⟩,
   ⟨up, (fr 4), ⟨0, 0, 0, []⟩, takenOf (by decide +kernel), by decide +kernel, by decide +kernel, by decide +kernel, by decide +kernel⟩,
   ⟨up, (fr 24), ⟨0, 0, 0, 0, 0, 0, 0, 0⟩, takenOf (by decide +kernel), by decide +kernel, by decide +kernel, by decide +kernel,
     by decide +kernel, by decide +kernel, by decide +kernel, by decide +kernel, by decide +kernel, by decide +kernel, by decide +kernel⟩⟩

/-- States and operands that meet the hypotheses of each clause of Obligations.MacTableCommandsRun. -/
theorem witness_MacTableCommandsRun :
    (∃ (s : State) (h : Ocf) (p : L2EntryWriteP) (k : Nat) (e : MacEntry), Taken s h 0x0504 true false 12 ∧ s.allReached = true ∧ s.fwd.queue = []
      ∧ p.fid ≤ 4095 ∧ p.static ≤ 1 ∧ p.destType ≤ 5 ∧ badDest p.destType p.dest = false ∧ s.macFind p.fid p.mac = some (k, e)) ∧
    (∃ (s : State) (h : Ocf) (p : L2EntryWriteP) (k : Nat), Taken s h 0x0504 true false 12 ∧ s.allReached = true ∧ s.fwd.queue = [] ∧ p.fid ≤ 4095
      ∧ p.static ≤ 1 ∧ p.destType ≤ 5 ∧ badDest p.destType p.dest = false ∧ s.macFind p.fid p.mac = none ∧ freePlace s.fwd.mac (macBucket
      s.fwd.macSeed p.fid p.mac) macOverflow = some k) ∧
    (∃ (s : State) (h : Ocf) (fid : Nat) (mac : Nat) (k : Nat) (e : MacEntry), Taken s h 0x0505 true false 8 ∧ s.allReached = true ∧ s.fwd.queue =
      [] ∧ fid ≤ 4095 ∧ s.macFind fid mac = some (k, e)) ∧
    (∃ (s : State) (h : Ocf) (fid : Nat) (mac : Nat) (k : Nat) (e : MacEntry), Taken s h 0x0506 false false 8 ∧ s.allReached = true ∧ s.fwd.queue
      = [] ∧ fid ≤ 4095 ∧ s.macFind fid mac = some (k, e)) ∧
    (∃ (s : State) (h : Ocf) (f : FlushFilter), Taken s h 0x0507 false false 20 ∧ s.allReached = true ∧ s.fwd.queue = [] ∧ f.mtch ≤ 7 ∧ f.scope ≤
      7 ∧ f.fid ≤ 4095) ∧
    (∃ (s : State) (h : Ocf) (fid : Nat) (mac : Nat) (k : Nat) (e : MacEntry), Taken s h 0x0509 true false 8 ∧ s.allReached = true ∧ s.fwd.queue =
      [] ∧ fid ≤ 4095 ∧ s.macFind fid mac = some (k, e) ∧ e.pinned = true) ∧
    (∃ (s : State) (h : Ocf), Taken s h 0x050F false false 0 ∧ s.fwd.queue = []) ∧
    (∃ (s : State) (h : Ocf) (count : Nat), Taken s h 0x050E true false 4 ∧ 1 ≤ count ∧ count ≤ 32) ∧
    (∃ (s : State) (h : Ocf) (f : FlushFilter), Taken s h 0x0508 true true 12 ∧ s.allReached = true ∧ s.fwd.queue = [] ∧ f.mtch ≤ 7 ∧ f.scope ≤ 7
      ∧ f.fid ≤ 4095 ∧ f.destType ≤ 5 ∧ f.learnDev ≤ 4095) ∧
    (∃ (s : State) (h : Ocf) (m : LearnMessageP), Taken s h 0x0520 true false (8 + 32 * m.records.length) ∧ m.senderDev ≤ 4095 ∧ m.group ≤ 255 ∧ 1
      ≤ m.records.length ∧ m.records.length ≤ 32 ∧ (∀ r ∈ m.records, 1 ≤ r.op ∧ r.op ≤ 3 ∧ r.fid ≤ 4095 ∧ r.originDev ≤ 4095)) :=
  ⟨⟨full, (fr 12), ⟨1, 0x020000000001, 0, 0, 0⟩, _, _, takenOf (by decide +kernel), by decide +kernel, by decide +kernel, by decide +kernel, by
     decide +kernel, by decide +kernel, by decide +kernel, rfl⟩,
   ⟨up, (fr 12), ⟨0, 0, 0, 0, 0⟩, _, takenOf (by decide +kernel), by decide +kernel, by decide +kernel, by decide +kernel, by decide +kernel, by
     decide +kernel, by decide +kernel, by decide +kernel, rfl⟩,
   ⟨full, (fr 8), 1, 0x020000000001, _, _, takenOf (by decide +kernel), by decide +kernel, by decide +kernel, by decide +kernel, rfl⟩,
   ⟨full, (fr 8), 1, 0x020000000001, _, _, takenOf (by decide +kernel), by decide +kernel, by decide +kernel, by decide +kernel, rfl⟩,
   ⟨up, (fr 20), ⟨0, 0, 0, 0, 0, 0⟩, takenOf (by decide +kernel), by decide +kernel, by decide +kernel, by decide +kernel, by decide +kernel, by
     decide +kernel⟩,
   ⟨full, (fr 8), 1, 0x020000000001, _, _, takenOf (by decide +kernel), by decide +kernel, by decide +kernel, by decide +kernel, rfl, by
     decide +kernel⟩,
   ⟨up, (fr 0), takenOf (by decide +kernel), by decide +kernel⟩,
   ⟨up, (fr 4), 1, takenOf (by decide +kernel), by decide +kernel, by decide +kernel⟩,
   ⟨up, (fr 12), ⟨0, 0, 0, 0, 0, 0⟩, takenOf (by decide +kernel), by decide +kernel, by decide +kernel, by decide +kernel, by decide +kernel, by
     decide +kernel, by decide +kernel, by decide +kernel⟩,
   ⟨upE, (frE 40), ⟨1, 0, 1, ([⟨1, false, false, 1, 1, 1, 0, 0, 0⟩])⟩, takenOf (by decide +kernel), by decide +kernel, by decide +kernel,
     by decide +kernel, by decide +kernel, by decide +kernel⟩⟩

/-- States and operands that meet the hypotheses of each clause of Obligations.Layer3CommandsRun. -/
theorem witness_Layer3CommandsRun :
    (∃ (s : State) (h : Ocf) (index : Nat) (valid : Nat) (mac : Nat), Taken s h 0x0601 true false 8 ∧ index ≤ 15 ∧ valid ≤ 1 ∧ isGroupMac mac =
      false) ∧
    (∃ (s : State) (h : Ocf) (p : VrfWriteP), Taken s h 0x0602 true false 8 ∧ p.vrf ≤ 4095 ∧ p.missValid ≤ 1 ∧ 0x40 ≤ p.ttlReason) ∧
    (∃ (s : State) (h : Ocf) (p : NexthopWriteP), Taken s h 0x0603 true false 24 ∧ p.type ≤ 3 ∧ p.smacIdx ≤ 15 ∧ p.destType ≤ 2 ∧ badDest
      p.destType p.dest = false ∧ p.vid ≤ 4095 ∧ (p.type = 1 → 1 ≤ p.ecmpSize ∧ p.ecmpSize ≤ 256 ∧ p.ecmpBase + p.ecmpSize ≤ 65536) ∧ (p.type = 2
      → 0x40 ≤ p.reason) ∧ s.hopUsed p.nexthop = false) ∧
    (∃ (s : State) (h : Ocf) (base : Nat) (members : List Nat), Taken s h 0x0604 true false (4 * ceilDiv (4 + 2 * members.length) 4) ∧ 1 ≤
      members.length ∧ members.length ≤ 256 ∧ base + members.length ≤ 65536 ∧ (∀ m ∈ members, (s.hop m).type = 0)) ∧
    (∃ (s : State) (h : Ocf) (p : HostEntryWriteP) (k : Nat) (e : HostEntry), Taken s h 0x0605 true false 24 ∧ s.allReached = true ∧ p.vrf ≤ 4095
      ∧ (p.family = 4 ∧ p.addr < 2 ^ 32 ∨ p.family = 6) ∧ s.hostFind p.vrf (p.family = 6) p.addr = some (k, e)) ∧
    (∃ (s : State) (h : Ocf) (p : HostEntryWriteP) (k : Nat), Taken s h 0x0605 true false 24 ∧ s.allReached = true ∧ p.vrf ≤ 4095 ∧ (p.family = 4
      ∧ p.addr < 2 ^ 32 ∨ p.family = 6) ∧ s.hostFind p.vrf (p.family = 6) p.addr = none ∧ freePlace s.fwd.host (hostBucket s.fwd.hostSeed p.vrf
      (p.family = 6) p.addr) hostOverflow = some k) ∧
    (∃ (s : State) (h : Ocf) (vrf : Nat) (family : Nat) (addr : Nat) (k : Nat) (e : HostEntry), Taken s h 0x0606 true false 20 ∧ s.allReached =
      true ∧ vrf ≤ 4095 ∧ (family = 4 ∧ addr < 2 ^ 32 ∨ family = 6) ∧ s.hostFind vrf (family = 6) addr = some (k, e)) ∧
    (∃ (s : State) (h : Ocf) (vrf : Nat) (family : Nat) (addr : Nat) (k : Nat) (e : HostEntry), Taken s h 0x0607 false false 20 ∧ s.allReached =
      true ∧ vrf ≤ 4095 ∧ (family = 4 ∧ addr < 2 ^ 32 ∨ family = 6) ∧ s.hostFind vrf (family = 6) addr = some (k, e)) ∧
    (∃ (s : State) (h : Ocf) (clearHit : Nat), Taken s h 0x0608 (decide (clearHit = 1)) false 12 ∧ s.allReached = true ∧ clearHit ≤ 1) ∧
    (∃ (s : State) (h : Ocf), Taken s h 0x060D false false 0) :=
  ⟨⟨up, (fr 8), 0, 0, 0, takenOf (by decide +kernel), by decide +kernel, by decide +kernel, by decide +kernel⟩,
   ⟨up, (fr 8), ⟨0, 0, 0, 64⟩, takenOf (by decide +kernel), by decide +kernel, by decide +kernel, by decide +kernel⟩,
   ⟨up, (fr 24), ⟨0, 0, 0, 0, 0, 0, 0, 0, 0, 0⟩, takenOf (by decide +kernel), by decide +kernel, by decide +kernel, by decide +kernel,
     by decide +kernel, by decide +kernel, by decide +kernel, by decide +kernel, by decide +kernel⟩,
   ⟨({ up with fwd.nexthops := [(1, { emptyHop with type := 0 })] }), (fr 8), 0, [1], takenOf (by decide +kernel), by decide +kernel,
     by decide +kernel, by decide +kernel, by decide +kernel⟩,
   ⟨full, (fr 24), ⟨1, 4, 0x0A000001, 0⟩, _, _, takenOf (by decide +kernel), by decide +kernel, by decide +kernel, by decide +kernel, rfl⟩,
   ⟨up, (fr 24), ⟨0, 4, 0, 0⟩, _, takenOf (by decide +kernel), by decide +kernel, by decide +kernel, by decide +kernel, by decide +kernel, rfl⟩,
   ⟨full, (fr 20), 1, 4, 0x0A000001, _, _, takenOf (by decide +kernel), by decide +kernel, by decide +kernel, by decide +kernel, rfl⟩,
   ⟨full, (fr 20), 1, 4, 0x0A000001, _, _, takenOf (by decide +kernel), by decide +kernel, by decide +kernel, by decide +kernel, rfl⟩,
   ⟨up, (fr 12), 0, takenOf (by decide +kernel), by decide +kernel, by decide +kernel⟩,
   ⟨up, (fr 0), takenOf (by decide +kernel)⟩⟩

/-- States and operands that meet the hypotheses of each clause of Obligations.PrefixCommandsRun. -/
theorem witness_PrefixCommandsRun :
    (∃ (s : State) (h : Ocf) (vrf : Nat) (routes : Routes), Taken s h 0x0609 true false (4 + 20 * routes.length) ∧ s.allReached = true ∧ vrf ≤
      4095 ∧ 1 ≤ routes.length ∧ routes.length ≤ 256 ∧ (∀ r ∈ routes, badRoute r = false) ∧ (∀ r ∈ routes, s.hasPrefix (prefixOf vrf r) = false) ∧
      ((routes.map (prefixOf vrf)).map Prefix.order).Nodup ∧ (putRoutes (routes.map (prefixOf vrf)) s).lpmStore ≤ 2097152 ∧ (putRoutes (routes.map
      (prefixOf vrf)) s).lpmLong ≤ 131072) ∧
    (∃ (s : State) (h : Ocf) (vrf : Nat) (routes : Routes), Taken s h 0x060A true false (4 + 20 * routes.length) ∧ s.allReached = true ∧ vrf ≤
      4095 ∧ 1 ≤ routes.length ∧ routes.length ≤ 256 ∧ (∀ r ∈ routes, badRoute r = false) ∧ (∀ r ∈ routes, s.hasPrefix (prefixOf vrf r) = true)) ∧
    (∃ (s : State) (h : Ocf) (vrf : Nat) (routes : Routes), Taken s h 0x060B true false (4 + 20 * routes.length) ∧ s.allReached = true ∧ vrf ≤
      4095 ∧ 1 ≤ routes.length ∧ routes.length ≤ 256 ∧ (∀ r ∈ routes, badRoute r = false) ∧ (∀ r ∈ routes, s.hasPrefix (prefixOf vrf r) = true)) ∧
    (∃ (s : State) (h : Ocf) (vrf : Nat) (count : Nat), Taken s h 0x060C false false 12 ∧ s.allReached = true ∧ vrf ≤ 4095 ∧ 1 ≤ count ∧ count ≤
      256) :=
  ⟨⟨up, (fr 24), 0, ([⟨false, 8, 0x0B000000, 1⟩]), takenOf (by decide +kernel), by decide +kernel, by decide +kernel, by decide +kernel, by
     decide +kernel, by decide +kernel, by decide +kernel, by decide +kernel, by decide +kernel, by decide +kernel⟩,
   ⟨full, (fr 24), 1, ([⟨false, 8, 0x0A000000, 1⟩]), takenOf (by decide +kernel), by decide +kernel, by decide +kernel, by decide +kernel, by
     decide +kernel, by decide +kernel, by decide +kernel⟩,
   ⟨full, (fr 24), 1, ([⟨false, 8, 0x0A000000, 1⟩]), takenOf (by decide +kernel), by decide +kernel, by decide +kernel, by decide +kernel, by
     decide +kernel, by decide +kernel, by decide +kernel⟩,
   ⟨up, (fr 12), 0, 1, takenOf (by decide +kernel), by decide +kernel, by decide +kernel, by decide +kernel, by decide +kernel⟩⟩

/-- States and operands that meet the hypotheses of each clause of Obligations.ClassifierSettingsRun. -/
theorem witness_ClassifierSettingsRun :
    (∃ (s : State) (h : Ocf) (mask : Nat) (state : Nat) (e : ParseState), Taken s h 0x0301 true false 100 ∧ mask ≠ 0 ∧ state ≤ 63 ∧ e.lenShift ≤ 7
      ∧ e.lenScale ≤ 7) ∧
    (∃ (s : State) (h : Ocf) (mask : Nat), Taken s h 0x0302 true false 4 ∧ mask ≠ 0 ∧ s.anyPipe mask (fun p => badGraph p.shadow) = false) ∧
    (∃ (s : State) (h : Ocf) (pipe : Nat) (state : Nat) (shadow : Nat) (e : ParseState), Taken s h 0x0303 false false 4 ∧ pipe ≤ 15 ∧ state ≤ 63 ∧
      shadow ≤ 1 ∧ tget (if shadow = 1 then (s.pipe pipe).shadow else (s.pipe pipe).active) state = some e) ∧
    (∃ (s : State) (h : Ocf) (mask : Nat) (profile : Nat) (sel : List Nat), Taken s h 0x0304 true false (4 + 4 * sel.length) ∧ (sel.length = 20 ∨
      sel.length = 40) ∧ mask ≠ 0 ∧ profile ≤ 31 ∧ (∀ x ∈ sel, field 18 16 x = 0) ∧ (∀ x ∈ sel, x.testBit 31 = false → field 30 27 x ≤ 8) ∧
      s.anyPipe mask (fun p => p.keyProfileUsed profile && p.wideProfile profile != decide (sel.length = 40)) = false) ∧
    (∃ (s : State) (h : Ocf) (mask : Nat) (profile : Nat) (word : Nat), Taken s h 0x0305 true false 8 ∧ mask ≠ 0 ∧ profile ≤ 63 ∧ field 29 26 word
      = 0 ∧ field 20 16 word = 0 ∧ s.anyPipe mask (fun p => p.badSearch word) = false) ∧
    (∃ (s : State) (h : Ocf) (port : Nat) (map : List Nat) (k : Nat), Taken s h 0x0306 true false 20 ∧ map.length = 16 ∧ s.portArg port = some k ∧
      (∀ x ∈ map, x ≤ 63 ∨ x = 0xFF)) ∧
    (∃ (s : State) (h : Ocf) (p : PortDefaultsWriteP) (k : Nat), Taken s h 0x0307 true false 84 ∧ p.disp.length = 64 ∧ s.portArg p.port = some k ∧
      reservedAction p.missAction = false ∧ badAction p.missAction = false ∧ (∀ d ∈ p.disp, d ≤ 3)) ∧
    (∃ (s : State) (h : Ocf) (p : ControlMatchWriteP), Taken s h 0x0308 true false 16 ∧ 4 ≤ p.entry ∧ p.entry ≤ 7 ∧ p.anyDst ≤ 1 ∧ p.forward ≤ 1 ∧
      p.valid ≤ 1) ∧
    (∃ (s : State) (h : Ocf) (mask : Nat) (pair : Nat) (mode : Nat), Taken s h 0x0309 true false 4 ∧ mask ≠ 0 ∧ pair ≤ 7 ∧ mode ≤ 1 ∧ s.anyPipe
      mask (fun p => p.pairBusy pair) = false) ∧
    (∃ (s : State) (h : Ocf) (mask : Nat) (slots : Nat), Taken s h 0x0313 true false 4 ∧ mask ≠ 0 ∧ slots ≤ 16) ∧
    (∃ (s : State) (h : Ocf) (p : MirrorSessionWriteP), Taken s h 0x0314 true false 8 ∧ p.session ≤ 15 ∧ (portKind p.dest = 0 ∨ portKind p.dest ≤
      2 ∧ p.dest % 8192 = 0) ∧ p.tc ≤ 7 ∧ (p.trunc = 0 ∨ 64 ≤ p.trunc ∧ p.trunc ≤ 256)) ∧
    (∃ (s : State) (h : Ocf) (port : Nat) (clear : Nat) (k : Nat), Taken s h 0x0315 (decide (clear = 1)) false 4 ∧ s.portArg port = some k ∧ clear
      ≤ 1) :=
  ⟨⟨up, (fr 100), 1, 0, ⟨0, 0, 0, 0, 0, 0, 0, 0, 0, 0, 0, 0, 0, 0, []⟩, takenOf (by decide +kernel), by decide +kernel, by decide +kernel,
    by decide +kernel, by decide +kernel⟩,
   ⟨up, (fr 4), 1, takenOf (by decide +kernel), by decide +kernel, by decide +kernel⟩,
   ⟨up, (fr 4), 0, 0, 0, _, takenOf (by decide +kernel), by decide +kernel, by decide +kernel, by decide +kernel, rfl⟩,
   ⟨up, (fr 84), 1, 0, (List.replicate 20 0), takenOf (by decide +kernel), by decide +kernel, by decide +kernel, by decide +kernel,
     by decide +kernel, by decide +kernel, by decide +kernel⟩,
   ⟨up, (fr 8), 1, 0, 0, takenOf (by decide +kernel), by decide +kernel, by decide +kernel, by decide +kernel, by decide +kernel,
     by decide +kernel⟩,
   ⟨up, (fr 20), 0, (List.replicate 16 0xFF), _, takenOf (by decide +kernel), by decide +kernel, rfl, by decide +kernel⟩,
   ⟨up, (fr 84), ⟨0, 0, 0, (List.replicate 64 0)⟩, _, takenOf (by decide +kernel), by decide +kernel, rfl, by decide +kernel, by decide +kernel,
     by decide +kernel⟩,
   ⟨up, (fr 16), ⟨4, 0, 0, 0, 0, 0, 0⟩, takenOf (by decide +kernel), by decide +kernel, by decide +kernel, by decide +kernel, by decide +kernel,
     by decide +kernel⟩,
   ⟨up, (fr 4), 1, 0, 0, takenOf (by decide +kernel), by decide +kernel, by decide +kernel, by decide +kernel, by decide +kernel⟩,
   ⟨up, (fr 4), 1, 0, takenOf (by decide +kernel), by decide +kernel, by decide +kernel⟩,
   ⟨up, (fr 8), ⟨0, 0, 0, 0⟩, takenOf (by decide +kernel), by decide +kernel, by decide +kernel, by decide +kernel, by decide +kernel⟩,
   ⟨up, (fr 4), 0, 0, _, takenOf (by decide +kernel), rfl, by decide +kernel⟩⟩

/-- States and operands that meet the hypotheses of each clause of Obligations.RuleCommandsRun. -/
theorem witness_RuleCommandsRun :
    (∃ (s : State) (h : Ocf) (p : ListCreateP), Taken s h 0x030A true false 8 ∧ p.pipeMask ≠ 0 ∧ p.list ≤ 15 ∧ p.baseBank ≤ 15 ∧ 1 ≤ p.banks ∧
      p.baseBank + p.banks ≤ 16 ∧ s.anyPipe p.pipeMask (fun x => (tget x.lists p.list).isSome) = false ∧ s.anyPipe p.pipeMask (fun x => x.badBanks
      p.baseBank p.banks) = false) ∧
    (∃ (s : State) (h : Ocf) (mask : Nat) (list : Nat), Taken s h 0x030B true false 4 ∧ mask ≠ 0 ∧ list ≤ 15 ∧ s.anyPipe mask (fun p => (tget
      p.lists list).isNone) = false) ∧
    (∃ (s : State) (h : Ocf) (p : RuleInsertP), Taken s h 0x030C true false 184 ∧ p.flags ≤ 1 ∧ p.pipeMask ≠ 0 ∧ p.list ≤ 15 ∧ s.anyPipe
      p.pipeMask (fun x => (tget x.lists p.list).isNone) = false ∧ s.anyPipe p.pipeMask (fun x => x.listWide p.list != p.flags.testBit 0) = false
      ∧ tailSet (p.flags.testBit 0) p.value = false ∧ tailSet (p.flags.testBit 0) p.mask = false ∧ reservedAction p.action = false ∧ badAction
      p.action = false ∧ s.anyPipe p.pipeMask (fun x => (placeRule (x.rules p.list) (x.listSize p.list) (insertedEntry p 0)).isNone) = false) ∧
    (∃ (s : State) (h : Ocf) (handle : Nat), Taken s h 0x030D true false 4 ∧ s.handleUsed handle = true) ∧
    (∃ (s : State) (h : Ocf) (handle : Nat) (action : Nat), Taken s h 0x030E true false 20 ∧ reservedAction action = false ∧ badAction action =
      false ∧ s.handleUsed handle = true) ∧
    (∃ (s : State) (h : Ocf) (handle : Nat) (pipe : Nat) (a : Nat) (e : TcamEntry), Taken s h 0x030F false false 8 ∧ pipe ≤ 15 ∧ (s.pipe
      pipe).ruleOf handle = some (a, e)) ∧
    (∃ (s : State) (h : Ocf) (mask : Nat) (list : Nat) (spacing : Nat), Taken s h 0x0310 true false 4 ∧ mask ≠ 0 ∧ list ≤ 15 ∧ s.anyPipe mask (fun
      p => (tget p.lists list).isNone) = false ∧ 2 ≤ orDefault spacing 8 ∧ spacing ≤ 64 ∧ s.anyPipe mask (fun p => !spacingFits (orDefault spacing
      8) (p.rules list).length (p.listSize list)) = false) ∧
    (∃ (s : State) (h : Ocf) (p : TcamRawWriteP), Taken s h 0x0311 true false 184 ∧ p.pipeMask ≠ 0 ∧ p.valid ≤ 1 ∧ p.wide ≤ 1 ∧ p.addr ≤ 32767 ∧
      s.anyPipe p.pipeMask (fun x => x.badRaw (decide (p.wide = 1)) p.addr) = false ∧ tailSet (decide (p.wide = 1)) p.value = false ∧ tailSet
      (decide (p.wide = 1)) p.mask = false ∧ reservedAction p.action = false ∧ badAction p.action = false) ∧
    (∃ (s : State) (h : Ocf) (pipe : Nat) (addr : Nat) (e : TcamEntry), Taken s h 0x0312 false false 4 ∧ pipe ≤ 15 ∧ addr ≤ 32767 ∧ tget (s.pipe
      pipe).tcam addr = none ∧ tget (s.pipe pipe).invalid addr = some e) ∧
    (∃ (s : State) (h : Ocf) (pipe : Nat) (addr : Nat) (e : TcamEntry), Taken s h 0x0312 false false 4 ∧ pipe ≤ 15 ∧ addr ≤ 32767 ∧ tget (s.pipe
      pipe).tcam addr = some e) :=
  ⟨⟨up, (fr 8), ⟨1, 0, 0, 1⟩, takenOf (by decide +kernel), by decide +kernel, by decide +kernel, by decide +kernel, by decide +kernel,
    by decide +kernel, by decide +kernel, by decide +kernel⟩,
   ⟨full, (fr 4), 1, 0, takenOf (by decide +kernel), by decide +kernel, by decide +kernel, by decide +kernel⟩,
   ⟨full, (fr 184), ⟨1, 0, 0, 0, 0, 0, 0⟩, takenOf (by decide +kernel), by decide +kernel, by decide +kernel, by decide +kernel,
     by decide +kernel, by decide +kernel, by decide +kernel, by decide +kernel, by decide +kernel, by decide +kernel, by decide +kernel⟩,
   ⟨full, (fr 4), 1, takenOf (by decide +kernel), by decide +kernel⟩,
   ⟨full, (fr 20), 1, 0, takenOf (by decide +kernel), by decide +kernel, by decide +kernel, by decide +kernel⟩,
   ⟨full, (fr 8), 1, 0, _, _, takenOf (by decide +kernel), by decide +kernel, rfl⟩,
   ⟨full, (fr 4), 1, 0, 0, takenOf (by decide +kernel), by decide +kernel, by decide +kernel, by decide +kernel, by decide +kernel, by
     decide +kernel, by decide +kernel⟩,
   ⟨up, (fr 184), ⟨1, 0, 0, 0, 0, 0, 0⟩, takenOf (by decide +kernel), by decide +kernel, by decide +kernel, by decide +kernel, by decide +kernel,
     by decide +kernel, by decide +kernel, by decide +kernel, by decide +kernel, by decide +kernel⟩,
   ⟨({ full with cls.pipes := [(0, { lists := [(0, ⟨0, 1⟩)], invalid := [(0, ruleA)] })] }), (fr 4), 0, 0, ruleA, takenOf (by decide +kernel), by
     decide +kernel, by decide +kernel, by decide +kernel, by decide +kernel⟩,
   ⟨full, (fr 4), 0, 0, _, takenOf (by decide +kernel), by decide +kernel, by decide +kernel, rfl⟩⟩

/-- States and operands that meet the hypotheses of each clause of Obligations.PartitionCommandsRun. -/
theorem witness_PartitionCommandsRun :
    (∃ (s : State) (h : Ocf) (p : PartitionCreateP) (base : Nat), Taken s h 0x0401 true false 84 ∧ p.partition ≤ 63 ∧ p.kind ≤ 1 ∧ p.flags ≤ 7 ∧
      8 ≤ p.nbrLog2 ∧ (p.kind = 0 → p.nbrLog2 ≤ 24 ∧ p.ovfQuota ≤ 30720) ∧ (p.kind = 1 → p.nbrLog2 ≤ (if p.flags.testBit 0 then 21 else 20) ∧
      p.ovfQuota = 0 ∧ ((tvals s.flow.partitions).filter Partition.anchored).length < 8 ∧ ∀ r ∈ regions, (s.freeStash r).isSome) ∧ p.sweepPeriod
      ≤ 60000 ∧ p.defaultAgeClass ≤ 15 ∧ (∀ d ∈ p.homeMap, d ≤ 0xFFF) ∧ s.partition p.partition = none ∧ s.freeRange p.nbrLog2 = some base) ∧
    (∃ (s : State) (h : Ocf) (partition : Nat) (p : Partition), Taken s h 0x0402 true true 4 ∧ s.partition partition = some p) ∧
    (∃ (s : State) (h : Ocf) (partition : Nat) (p : Partition), Taken s h 0x0403 false false 4 ∧ s.partition partition = some p) ∧
    (∃ (s : State) (h : Ocf) (cls : Nat) (timeout : Nat), Taken s h 0x040A true false 8 ∧ cls ≤ 15 ∧ timeout ≤ 86400000) ∧
    (∃ (s : State) (h : Ocf) (partition : Nat) (period : Nat) (p : Partition), Taken s h 0x040B true false 4 ∧ s.partition partition = some p ∧
      period ≤ 60000) ∧
    (∃ (s : State) (h : Ocf), Taken s h 0x040C false false 0) :=
  ⟨⟨up, fr 84, ⟨0, 0, 0, 8, 0, 0, 0, 0, 0, []⟩, 0, takenOf (by decide +kernel), by decide +kernel, by decide +kernel, by decide +kernel,
    by decide +kernel, by decide +kernel, by decide +kernel, by decide +kernel, by decide +kernel, by decide +kernel, by decide +kernel,
    by decide +kernel⟩,
   ⟨full, (fr 4), 0, _, takenOf (by decide +kernel), rfl⟩,
   ⟨full, (fr 4), 0, _, takenOf (by decide +kernel), rfl⟩,
   ⟨up, (fr 8), 0, 0, takenOf (by decide +kernel), by decide +kernel, by decide +kernel⟩,
   ⟨full, (fr 4), 0, 0, _, takenOf (by decide +kernel), rfl, by decide +kernel⟩,
   ⟨up, (fr 0), takenOf (by decide +kernel)⟩⟩

theorem placeNew_book (s : State) (k : Book) (r n : Nat) (p : Partition) (x : Place) : (s.book k).placeNew r n p x = s.placeNew r n p x := by
  unfold State.placeNew; rfl

theorem createRec_runs {r : Nat} {p : Partition} {x : Rec} {s : State} {l : Nat} (a : s.hbmReady = true)
    (b : s.placeNew r x.partition p (p.place x.flowKey) = some l) (c : locSpace l ≠ 2) (d : s.wbRoom r ≠ 0) :
    ∃ l t, createRec r p x s = .ok (l, t) :=
  ⟨l, (install r (p.place x.flowKey).set { img := x, locator := l } (pushWb r ⟨l, x, true, false⟩ s)).getD
    (pushWb r ⟨l, x, true, false⟩ s), by simp [createRec, a, b, c, d]⟩

theorem writeState_runs {r : Nat} {p : Partition} {f : Found} {x : Rec} {s : State} (w : f.way = none) (l : locSpace f.loc = 2)
    (e : (tget (s.region r).ovf (locPos f.loc)).isSome = true) :
    (writeState r p (bringIn r p f s).1 x (bringIn r p f s).2).isSome = true := by
  have h : bringIn r p f s = (f, s) := by simp [bringIn, w, l]
  simpa [h, writeState, w, l] using e

/-- States and operands that meet the hypotheses of each clause of Obligations.FlowRecordCommandsRun. -/
theorem witness_FlowRecordCommandsRun :
    (∃ (s : State) (h : Ocf) (b : FlowBlock) (p : Partition) (r : Nat) (x : Rec) (y : Rec), Taken s h 0x0404 true false 96 ∧ BlockOk s b p ∧ r =
      (p.place (descKey b.key)).home ∧ clear (p.locks b.key.partition (p.place (descKey b.key))) (s.takenLocks r) = true ∧ s.findRec r
      b.key.partition p (descKey b.key) = none ∧ s.homedAway (descKey b.key) p = false ∧ x = blockRec s p b none ∧ y = (if x.comp then x else
      { x with first := flowTime s.time.now, last := flowTime s.time.now }) ∧ (∀ k : Book, ∃ l t, createRec r p y (s.book k) = .ok (l, t))) ∧
    (∃ (s : State) (h : Ocf) (b : FlowBlock) (p : Partition) (r : Nat) (f : Found) (x : Rec), Taken s h 0x0404 true false 96 ∧ BlockOk s b p ∧ r =
      (p.place (descKey b.key)).home ∧ clear (p.locks b.key.partition (p.place (descKey b.key))) (s.takenLocks r) = true ∧ s.findRec r
      b.key.partition p (descKey b.key) = some f ∧ b.flags.testBit 1 = false ∧ genDiffers b f.img = false ∧ x =
      { blockRec s p b (some f.img) with gen := f.img.gen }.bump ∧ (∀ k : Book, (writeState r p (bringIn r p f (s.book k)).1 x (bringIn r p f
      (s.book k)).2).isSome)) ∧
    (∃ (s : State) (h : Ocf) (b : FlowBlock) (p : Partition) (r : Nat) (f : Found) (x : Rec), Taken s h 0x0405 true false 96 ∧ BlockOk s b p ∧ r =
      (p.place (descKey b.key)).home ∧ clear (p.locks b.key.partition (p.place (descKey b.key))) (s.takenLocks r) = true ∧ s.findRec r
      b.key.partition p (descKey b.key) = some f ∧ genDiffers b f.img = false ∧ x = { blockRec s p b (some f.img) with gen := f.img.gen }.bump ∧
      (∀ k : Book, (writeState r p (bringIn r p f (s.book k)).1 x (bringIn r p f (s.book k)).2).isSome)) ∧
    (∃ (s : State) (h : Ocf) (k : KeyDesc) (p : Partition) (r : Nat) (f : Found) (settle : Nat), Taken s h 0x0406 false false 60 ∧ KeyOk s k p ∧ r
      = (p.place (descKey k)).home ∧ clear (p.locks k.partition (p.place (descKey k))) (s.takenLocks r) = true ∧ s.findRec r k.partition p
      (descKey k) = some f ∧ settle ≤ 1 ∧ (settle = 1 → s.groupPendingLog r f.loc = false)) ∧
    (∃ (s : State) (h : Ocf) (k : KeyDesc) (p : Partition) (r : Nat) (f : Found), Taken s h 0x0407 true false 56 ∧ KeyOk s k p ∧ r = (p.place
      (descKey k)).home ∧ clear (p.locks k.partition (p.place (descKey k))) (s.takenLocks r) = true ∧ s.findRec r k.partition p (descKey k) = some
      f ∧ s.sinterEntry r f.loc = none ∧ s.groupPendingLog r f.loc = false) ∧
    (∃ (s : State) (h : Ocf) (p : FlowSearchNextP) (q : Partition) (left : List (Nat × Nat × Found)), Taken s h 0x0408 false false 124 ∧
      s.partition p.partition = some q ∧ p.useTemplate ≤ 1 ∧ left = s.flowWalk.filter (fun e => e.1 ≥ p.cursor && filterTakes p.partition (if
      p.useTemplate = 1 then some p.template else none) p.key p.mask e.2.2.img)) ∧
    (∃ (s : State) (h : Ocf) (p : FlowFlushP) (q : Partition), Taken s h 0x0409 true true 116 ∧ s.partition p.partition = some q ∧ p.useTemplate ≤
      1) ∧
    (∃ (s : State) (h : Ocf) (b : FlowBlock) (p : Partition) (r : Nat) (create : Bool) (opcode : Nat) (i : Instr), BlockOk s b p ∧ r = (p.place
      (descKey b.key)).home ∧ clear (p.locks b.key.partition (p.place (descKey b.key))) (s.takenLocks r) = false ∧ ((opcode, create, i) = (0x0404,
      true, Instr.flowInsert h b) ∨ (opcode, create, i) = (0x0405, false, Instr.flowUpdate h b)) ∧ Taken s h opcode true false 96) ∧
    (∃ (s : State) (h : Ocf) (k : KeyDesc) (p : Partition) (r : Nat) (settle : Nat), Taken s h 0x0406 false false 60 ∧ KeyOk s k p ∧ r = (p.place
      (descKey k)).home ∧ settle ≤ 1 ∧ clear (p.locks k.partition (p.place (descKey k))) (s.takenLocks r) = false) ∧
    (∃ (s : State) (h : Ocf) (k : KeyDesc) (p : Partition) (r : Nat), Taken s h 0x0407 true false 56 ∧ KeyOk s k p ∧ r = (p.place (descKey
      k)).home ∧ clear (p.locks k.partition (p.place (descKey k))) (s.takenLocks r) = false) :=
  ⟨⟨fullNoRec, (fr 96), blockA, partA, _, _, _, takenOf (by decide +kernel), by unfold BlockOk KeyOk; decide +kernel, rfl, by decide +kernel, by
     decide +kernel, by decide +kernel, rfl, rfl, fun k => createRec_runs (by decide +kernel : fullNoRec.hbmReady = true) ((placeNew_book
     ..).trans (Option.some_get (by decide +kernel)).symm) (by decide +kernel) (by decide +kernel : fullNoRec.wbRoom homeA ≠ 0)⟩,
   ⟨full, (fr 96), blockA, partA, _, _, _, takenOf (by decide +kernel), by unfold BlockOk KeyOk; decide +kernel, rfl, by decide +kernel, rfl, by
     decide +kernel, by decide +kernel, rfl, fun k => writeState_runs rfl (by decide +kernel) (by decide +kernel : (tget (full.region homeA).ovf
     (locPos (locOvf 0))).isSome = true)⟩,
   ⟨full, (fr 96), blockA, partA, _, _, _, takenOf (by decide +kernel), by unfold BlockOk KeyOk; decide +kernel, rfl, by decide +kernel, rfl, by
     decide +kernel, rfl, fun k => writeState_runs rfl (by decide +kernel) (by decide +kernel : (tget (full.region homeA).ovf (locPos (locOvf
     0))).isSome = true)⟩,
   ⟨full, (fr 60), (⟨0, 0, 0, 0⟩), partA, _, _, 1, takenOf (by decide +kernel), by unfold KeyOk; decide +kernel, rfl, by decide +kernel, rfl, by
     decide +kernel, by decide +kernel⟩,
   ⟨full, (fr 56), (⟨0, 0, 0, 0⟩), partA, _, _, takenOf (by decide +kernel), by unfold KeyOk; decide +kernel, rfl, by decide +kernel, rfl, by
     decide +kernel, by decide +kernel⟩,
   ⟨full, (fr 124), ⟨0, 0, 0, 0, (⟨0, 0, 0, 0⟩), 0⟩, _, _, takenOf (by decide +kernel), rfl, by decide +kernel, rfl⟩,
   ⟨full, (fr 116), ⟨0, 0, 0, ⟨0, 0, 0, 0⟩, 0⟩, _, takenOf (by decide +kernel), rfl, by decide +kernel⟩,
   ⟨fullBusy, (fr 96), blockA, partA, _, true, 0x0404, (.flowInsert (fr 96) blockA), by unfold BlockOk KeyOk; decide +kernel, rfl, by
     decide +kernel, Or.inl rfl, takenOf (by decide +kernel)⟩,
   ⟨fullBusy, (fr 60), (⟨0, 0, 0, 0⟩), partA, _, 0, takenOf (by decide +kernel), by unfold KeyOk; decide +kernel, rfl, by decide +kernel, by
     decide +kernel⟩,
   ⟨fullBusy, (fr 56), (⟨0, 0, 0, 0⟩), partA, _, takenOf (by decide +kernel), by unfold KeyOk; decide +kernel, rfl, by decide +kernel⟩⟩

/-- States and operands that meet the hypotheses of each clause of Obligations.NatCommandsRun. -/
theorem witness_NatCommandsRun :
    (∃ (s : State) (h : Ocf) (t : TemplateP) (p : Partition), Taken s h 0x0410 true false 160 ∧ TemplateOk s t p) ∧
    (∃ (s : State) (h : Ocf) (template : Nat) (t : TemplateP), Taken s h 0x0411 false false 4 ∧ s.template template = some t) ∧
    (∃ (s : State) (h : Ocf) (p : NatPoolWriteP), Taken s h 0x0412 true true 8 ∧ p.pool ≤ 63 ∧ (p.family = 4 ∨ p.family = 6) ∧ 1 ≤ p.addrCount ∧
      p.addrCount ≤ 4096 ∧ 1024 ≤ p.portLo ∧ p.portLo % 256 = 0 ∧ (p.portHi + 1) % 256 = 0 ∧ p.portLo < p.portHi ∧ ((s.flow.pools.filter (fun e
      => e.1 != p.pool)).map (fun e => e.2.ports)).sum + p.addrCount * (p.portHi + 1 - p.portLo) ≤ 268435456 ∧ s.poolBusy p.pool = false) ∧
    (∃ (s : State) (h : Ocf) (p : NatPoolAddrWriteP) (q : NatPool), Taken s h 0x0413 true false (8 + 16 * p.count) ∧ tget s.flow.pools p.pool =
      some q ∧ p.addrs.length = p.count ∧ 1 ≤ p.count ∧ p.count ≤ 64 ∧ p.start + p.count ≤ q.addrCount ∧ (q.family = 4 → ∀ a ∈ p.addrs, a < 2 ^
      32)) ∧
    (∃ (s : State) (h : Ocf) (pool : Nat) (q : NatPool), Taken s h 0x0414 true false 4 ∧ tget s.flow.pools pool = some q ∧ s.poolBusy pool =
      false) ∧
    (∃ (s : State) (h : Ocf) (pool : Nat) (p : NatPool), Taken s h 0x0415 false false 4 ∧ tget s.flow.pools pool = some p) :=
  ⟨⟨full, (fr 160), templateA, partA, takenOf (by decide +kernel), by unfold TemplateOk; decide +kernel⟩,
   ⟨full, (fr 4), 0, _, takenOf (by decide +kernel), rfl⟩,
   ⟨up, (fr 8), ⟨0, 4, 1, 1024, 1279⟩, takenOf (by decide +kernel), by decide +kernel, by decide +kernel, by decide +kernel, by decide +kernel,
     by decide +kernel, by decide +kernel, by decide +kernel, by decide +kernel, by decide +kernel, by decide +kernel⟩,
   ⟨full, (fr 24), ⟨0, 0, 1, [1]⟩, _, takenOf (by decide +kernel), rfl, by decide +kernel, by decide +kernel, by decide +kernel,
     by decide +kernel, by decide +kernel⟩,
   ⟨full, (fr 4), 0, _, takenOf (by decide +kernel), rfl, by decide +kernel⟩,
   ⟨full, (fr 4), 0, _, takenOf (by decide +kernel), rfl⟩⟩

/-- States and operands that meet the hypotheses of each clause of Obligations.ServiceCommandsRun. -/
theorem witness_ServiceCommandsRun :
    (∃ (s : State) (h : Ocf) (p : LbPoolWriteP), Taken s h 0x0416 true false 12 ∧ p.pool ≤ 4095 ∧ p.slots ≤ 1 ∧ (p.family = 4 ∨ p.family = 6) ∧
      (p.healthPeriod = 0 ∨ 10 ≤ p.healthPeriod) ∧ p.healthPeriod ≤ 10000 ∧ (p.rttFactor = 0 ∨ 16 ≤ p.rttFactor) ∧ p.rttFactor ≤ 255 ∧ ((∀ q, tget
      s.flow.lbPools p.pool = some q → q.family = p.family) ∨ (∀ e ∈ s.flow.backends, e.2.pool ≠ p.pool) ∧ ∀ e ∈ s.flow.templates, e.2.serviceKind
      = 2 ∨ e.2.serviceKind = 3 → e.2.lbPool ≠ p.pool) ∧ ((s.flow.lbPools.filter (fun e => e.1 != p.pool)).map (fun e => e.2.limitSlots)).sum +
      max (if p.slots = 1 then 65536 else 4096) (((tget s.flow.lbPools p.pool).map LbPool.slots).getD 0) ≤ 33554432) ∧
    (∃ (s : State) (h : Ocf) (p : LbBackendWriteP) (q : LbPool), Taken s h 0x0417 true false 32 ∧ p.backend ≤ 262143 ∧ p.pool ≤ 4095 ∧ tget
      s.flow.lbPools p.pool = some q ∧ p.member ≤ 4095 ∧ (∀ e ∈ s.flow.backends, e.1 ≠ p.backend → ¬(e.2.pool = p.pool ∧ e.2.member = p.member)) ∧
      (q.family = 4 → p.addr < 2 ^ 32) ∧ p.wmin ≤ p.wbase ∧ p.state ≤ 2) ∧
    (∃ (s : State) (h : Ocf) (pool : Nat) (p : LbPool), Taken s h 0x0418 true false 4 ∧ pool ≤ 4095 ∧ tget s.flow.lbPools pool = some p) ∧
    (∃ (s : State) (h : Ocf) (pool : Nat) (p : LbPool), Taken s h 0x0419 false false 4 ∧ pool ≤ 4095 ∧ tget s.flow.lbPools pool = some p) ∧
    (∃ (s : State) (h : Ocf) (p : GroupHomeWriteP) (q : Partition), Taken s h 0x041A true false (12 + 2 * p.devices.length) ∧ s.partition
      p.partition = some q ∧ q.groupHomed = true ∧ p.timeNs < 1000000000 ∧ p.devices ≠ [] ∧ p.start + p.devices.length ≤ 32 ∧ (∀ d ∈ p.devices, d
      ≤ 0xFFF)) ∧
    (∃ (s : State) (h : Ocf) (p : ExportProfileWriteP), Taken s h 0x041B true false 72 ∧ p.profile ≤ 15 ∧ p.flags ≤ 15 ∧ (p.flags.testBit 3 =
      false → p.collector < 2 ^ 32 ∧ p.source < 2 ^ 32) ∧ 576 ≤ p.mtu ∧ p.mtu ≤ 9216 ∧ 1000 ≤ p.rate ∧ p.rate ≤ 10000000 ∧ 1500 ≤ p.burst ∧
      p.burst ≤ 1048576 ∧ p.activeTimeout ≤ 3600 ∧ p.templateRefresh ≤ 3600 ∧ p.flushDelay ≤ 1000 ∧ p.egressPort < 2 ^ 13 ∧ p.vlan < 4096 ∧ p.tc ≤
      7 ∧ p.dscp ≤ 63) ∧
    (∃ (s : State) (h : Ocf) (profile : Nat), Taken s h 0x041C false false 4 ∧ profile ≤ 15) ∧
    (∃ (s : State) (h : Ocf) (region : Nat), Taken s h 0x041D false false 4 ∧ (region ≤ 3 ∨ region = 0xFF)) :=
  ⟨⟨full, (fr 12), ⟨0, 0, 4, 0, 0, 0, 0⟩, takenOf (by decide +kernel), by decide +kernel, by decide +kernel, by decide +kernel, by decide +kernel,
     by decide +kernel, by decide +kernel, by decide +kernel, Or.inl (by decide +kernel), by decide +kernel⟩,
   ⟨full, (fr 32), ⟨0, 0, 0, 0, 0, 0, 0, 0⟩, _, takenOf (by decide +kernel), by decide +kernel, by decide +kernel, rfl, by decide +kernel,
     by decide +kernel, by decide +kernel, by decide +kernel, by decide +kernel⟩,
   ⟨full, (fr 4), 0, _, takenOf (by decide +kernel), by decide +kernel, rfl⟩,
   ⟨full, (fr 4), 0, _, takenOf (by decide +kernel), by decide +kernel, rfl⟩,
   ⟨full, (fr 14), ⟨0, 0, 0, 0, [1]⟩, _, takenOf (by decide +kernel), rfl, by decide +kernel, by decide +kernel, by decide +kernel,
     by decide +kernel, by decide +kernel⟩,
   ⟨up, (fr 72), ⟨0, 0, 0, 0, 0, 0, 1000, 0, 1000, 1500, 0, 0, 0, 0, 0, 0, 0, 0⟩, takenOf (by decide +kernel), by decide +kernel,
     by decide +kernel, by decide +kernel, by decide +kernel, by decide +kernel, by decide +kernel, by decide +kernel, by decide +kernel,
     by decide +kernel, by decide +kernel, by decide +kernel, by decide +kernel, by decide +kernel, by decide +kernel, by decide +kernel,
     by decide +kernel⟩,
   ⟨up, (fr 4), 0, takenOf (by decide +kernel), by decide +kernel⟩,
   ⟨up, (fr 4), 0, takenOf (by decide +kernel), by decide +kernel⟩⟩

/-- States and operands that meet the hypotheses of each clause of Obligations.BufferCommandsRun. -/
theorem witness_BufferCommandsRun :
    (∃ (s : State) (h : Ocf) (p : BufProfileWriteP), Taken s h 0x0701 true false 16 ∧ p.profile ≤ 63 ∧ p.alpha ≤ 9 ∧ p.reserve ≤ 4095 ∧ p.flags ≤
      1 ∧ p.headKeep % 16 = 0 ∧ p.headKeep ≤ 4096 ∧ (p.spillOn = 0 ∨ 64 ≤ p.spillOn) ∧ p.spillOn ≤ 131072 ∧ p.spillMax ≤ s.spillPages) ∧
    (∃ (s : State) (h : Ocf) (start : Nat) (count : Nat) (profile : Nat), Taken s h 0x0702 true false 12 ∧ 1 ≤ count ∧ start + count ≤ 131072 ∧
      profile ≤ 63) ∧
    (∃ (s : State) (h : Ocf) (p : BufRegionWriteP), Taken s h 0x0703 true false 12 ∧ (p.region ≤ 3 ∨ p.region = 0xFF) ∧ (p.portPendMax = 0 ∨ 64 ≤
      p.portPendMax) ∧ p.portPendMax ≤ 16384 ∧ (p.ingressPool = 0 ∨ 4096 ≤ p.ingressPool) ∧ p.ingressPool ≤ 65536 ∧ (p.fabRxPool = 0 ∨ 2048 ≤
      p.fabRxPool ∧ p.fabRxPool ≤ 34816)) ∧
    (∃ (s : State) (h : Ocf) (p : PortPfcWriteP) (k : Nat), Taken s h 0x0704 true false 16 ∧ s.namesFabric p.port = false ∧ s.portArg p.port =
      some k ∧ p.mode ≤ 2 ∧ p.xon < p.xoff ∧ p.watchdog ≤ 1000 ∧ p.defaultPrio ≤ 7) ∧
    (∃ (s : State) (h : Ocf) (port : Nat) (linger : Nat) (k : Nat), Taken s h 0x0705 true false 4 ∧ s.namesFabric port = false ∧ s.portArg port =
      some k ∧ linger ≤ 500) ∧
    (∃ (s : State) (h : Ocf), Taken s h 0x0706 true false 0 ∧ (∀ r ∈ regions, s.otherPools s.buf.shadow r ≤ 131072) ∧ (∀ r ∈ regions, s.unfit
      s.buf.shadow r = false)) ∧
    (∃ (s : State) (h : Ocf) (region : Nat) (voq : Nat), Taken s h 0x0707 false false 8 ∧ region ≤ 3 ∧ voq < 131072) ∧
    (∃ (s : State) (h : Ocf) (region : Nat) (voq : Nat) (clear : Nat), Taken s h 0x0708 (decide (clear = 1)) false 8 ∧ region ≤ 3 ∧ voq < 131072 ∧
      clear ≤ 1) ∧
    (∃ (s : State) (h : Ocf), Taken s h 0x0709 false false 0) :=
  ⟨⟨up, (fr 16), ⟨0, 0, 0, 0, 0, 0, 0⟩, takenOf (by decide +kernel), by decide +kernel, by decide +kernel, by decide +kernel, by decide +kernel,
    by decide +kernel, by decide +kernel, by decide +kernel, by decide +kernel, by decide +kernel⟩,
   ⟨up, (fr 12), 0, 1, 0, takenOf (by decide +kernel), by decide +kernel, by decide +kernel, by decide +kernel⟩,
   ⟨up, (fr 12), ⟨0, 0, 0, 0⟩, takenOf (by decide +kernel), by decide +kernel, by decide +kernel, by decide +kernel, by decide +kernel,
     by decide +kernel, by decide +kernel⟩,
   ⟨up, (fr 16), ⟨0, 0, 0, 1, 0, 0, 0, 0⟩, _, takenOf (by decide +kernel), by decide +kernel, rfl, by decide +kernel, by decide +kernel, by
     decide +kernel, by decide +kernel⟩,
   ⟨up, (fr 4), 0, 0, _, takenOf (by decide +kernel), by decide +kernel, rfl, by decide +kernel⟩,
   ⟨up, (fr 0), takenOf (by decide +kernel), by decide +kernel, by decide +kernel⟩,
   ⟨up, (fr 8), 0, 0, takenOf (by decide +kernel), by decide +kernel, by decide +kernel⟩,
   ⟨up, (fr 8), 0, 0, 0, takenOf (by decide +kernel), by decide +kernel, by decide +kernel, by decide +kernel⟩,
   ⟨up, (fr 0), takenOf (by decide +kernel)⟩⟩

/-- States and operands that meet the hypotheses of each clause of Obligations.EgressCommandsRun. -/
theorem witness_EgressCommandsRun :
    (∃ (s : State) (h : Ocf) (p : PortSchedWriteP) (k : Nat), Taken s h 0x0801 true false 24 ∧ s.namesFabric p.port = false ∧ s.egressArg p.port
      = some k ∧ (bitsOf 8 p.strictMask).length ≤ 4 ∧ -64 ≤ signed 8 p.lenAdj ∧ signed 8 p.lenAdj ≤ 127 ∧ p.weight.length = 8 ∧ (∀ w ∈ p.weight,
      w ≤ 255) ∧ (p.portRate = 0 ∨ 1000 ≤ p.portRate ∧ p.portRate ≤ 800000000) ∧ p.portBurst ≤ 16777215) ∧
    (∃ (s : State) (h : Ocf) (p : QueueShaperWriteP) (k : Nat), Taken s h 0x0802 true false 12 ∧ s.namesFabric p.port = false ∧ s.egressArg
      p.port = some k ∧ p.tc ≤ 7 ∧ p.flags ≤ 1 ∧ (p.flags = 1 → 1000 ≤ p.rate ∧ p.rate ≤ 800000000 ∧ p.burst ≤ 16777215)) ∧
    (∃ (s : State) (h : Ocf) (port : Nat) (start : Nat) (entries : GateEntries) (k : Nat), Taken s h 0x0803 true false (4 + 8 * entries.length) ∧
      s.namesFabric port = false ∧ s.egressArg port = some k ∧ 1 ≤ entries.length ∧ entries.length ≤ 64 ∧ start + entries.length ≤ 256 ∧ (∀ e ∈
      entries, e.1 ≤ 255 ∧ 64 ≤ e.2 ∧ e.2 ≤ 1000000000)) ∧
    (∃ (s : State) (h : Ocf) (p : GateConfigWriteP) (k : Nat), Taken s h 0x0804 true false 24 ∧ s.namesFabric p.port = false ∧ s.egressArg p.port
      = some k ∧ p.flags ≤ 3 ∧ p.baseNs ≤ 999999999 ∧ p.flags.testBit 0 = true ∧ 1 ≤ p.listLen ∧ p.listLen ≤ 256 ∧ 1000 ≤ p.cycleTime ∧
      p.cycleTime ≤ 1000000000 ∧ (∀ n < p.listLen, 64 ≤ ((s.egPort k).gates.adminEntry n).2 ∧ ((s.egPort k).gates.adminEntry n).2 ≤ 1000000000)) ∧
    (∃ (s : State) (h : Ocf) (p : GateConfigWriteP) (k : Nat), Taken s h 0x0804 true false 24 ∧ s.namesFabric p.port = false ∧ s.egressArg p.port
      = some k ∧ p.flags ≤ 3 ∧ p.baseNs ≤ 999999999 ∧ p.flags.testBit 0 = false) ∧
    (∃ (s : State) (h : Ocf) (port : Nat) (k : Nat), Taken s h 0x0805 false false 4 ∧ s.namesFabric port = false ∧ s.egressArg port = some k) ∧
    (∃ (s : State) (h : Ocf) (port : Nat) (clear : Nat) (k : Nat), Taken s h 0x0806 (decide (clear = 1)) false 4 ∧ s.egressArg port = some k ∧
      clear ≤ 1) ∧
    (∃ (s : State) (h : Ocf) (p : PolicerWriteP), Taken s h 0x0810 true false 28 ∧ (p.region ≤ 3 ∨ p.region = 0xFF) ∧ p.mode ≤ 2 ∧ (p.mode ≠ 0 →
      1000 ≤ p.cir ∧ p.cir ≤ 3200000000) ∧ p.cbs ≤ 268435455 ∧ (p.mode = 2 → p.cir ≤ p.pir ∧ p.pir ≤ 3200000000) ∧ (p.mode = 1 → p.pir = 0) ∧
      p.ebsPbs ≤ 268435455 ∧ p.flags ≤ 7 ∧ -64 ≤ signed 8 p.lenAdj ∧ signed 8 p.lenAdj ≤ 127 ∧ p.yellowAct ≤ 2 ∧ p.redAct ≤ 2 ∧ p.markDscp ≤ 127)
      ∧
    (∃ (s : State) (h : Ocf) (region : Nat) (policer : Nat) (clear : Nat) (p : Policer), Taken s h 0x0811 (decide (clear = 1)) false 4 ∧ region ≤
      3 ∧ clear ≤ 1 ∧ p = (s.policer region policer).refill s.time.localNs) ∧
    (∃ (s : State) (h : Ocf) (p : HwmReadP), Taken s h 0x0820 (decide (p.clear = 1)) false 8 ∧ p.scope ≤ 3 ∧ p.clear ≤ 1 ∧ 1 ≤ p.count ∧ p.count
      ≤ 64 ∧ p.id + p.count ≤ scopeSize p.scope) :=
  ⟨⟨up, (fr 24), ⟨0, 0, 20, (List.replicate 8 1), 0, 0, 0⟩, _, takenOf (by decide +kernel), by decide +kernel, rfl, by decide +kernel,
    by decide +kernel, by decide +kernel, by decide +kernel, by decide +kernel, by decide +kernel, by decide +kernel⟩,
   ⟨up, (fr 12), ⟨0, 0, 0, 0, 0⟩, _, takenOf (by decide +kernel), by decide +kernel, rfl, by decide +kernel, by decide +kernel,
     by decide +kernel⟩,
   ⟨up, (fr 12), 0, 0, ([(255, 1000)]), _, takenOf (by decide +kernel), by decide +kernel, rfl, by decide +kernel, by decide +kernel,
     by decide +kernel, by decide +kernel⟩,
   ⟨up, (fr 24), ⟨0, 1, 1, 1000, 0, 0⟩, _, takenOf (by decide +kernel), by decide +kernel, rfl, by decide +kernel, by decide +kernel,
     by decide +kernel, by decide +kernel, by decide +kernel, by decide +kernel, by decide +kernel, by decide +kernel⟩,
   ⟨up, (fr 24), ⟨0, 0, 0, 0, 0, 0⟩, _, takenOf (by decide +kernel), by decide +kernel, rfl, by decide +kernel, by decide +kernel,
     by decide +kernel⟩,
   ⟨up, (fr 4), 0, _, takenOf (by decide +kernel), by decide +kernel, rfl⟩,
   ⟨up, (fr 4), 0, 0, _, takenOf (by decide +kernel), rfl, by decide +kernel⟩,
   ⟨up, (fr 28), ⟨0, 1, 0, 1000, 0, 0, 0, 0, 20, 0, 0, 0⟩, takenOf (by decide +kernel), by decide +kernel, by decide +kernel, by decide +kernel,
     by decide +kernel, by decide +kernel, by decide +kernel, by decide +kernel, by decide +kernel, by decide +kernel, by decide +kernel,
     by decide +kernel, by decide +kernel, by decide +kernel⟩,
   ⟨up, (fr 4), 0, 0, 0, _, takenOf (by decide +kernel), by decide +kernel, by decide +kernel, rfl⟩,
   ⟨up, (fr 8), ⟨1, 0, 0, 1⟩, takenOf (by decide +kernel), by decide +kernel, by decide +kernel, by decide +kernel, by decide +kernel,
     by decide +kernel⟩⟩

/-- States and operands that meet the hypotheses of each clause of Obligations.HbmAndFabricCommandsRun. -/
theorem witness_HbmAndFabricCommandsRun :
    (∃ (s : State) (h : Ocf) (p : HbmBudgetWriteP), Taken s h 0x0780 true false 8 ∧ (p.fr = 0 ∨ 16 ≤ p.fr) ∧ (p.fw = 0 ∨ 8 ≤ p.fw) ∧ (p.tm = 0 ∨ 4
      ≤ p.tm) ∧ (p.tl = 0 ∨ 4 ≤ p.tl) ∧ orDefault p.fr 96 + orDefault p.fw 40 + p.sp + orDefault p.tm 16 + orDefault p.tl 8 ≤ 232 ∧ (p.ageLimit =
      0 ∨ 128 ≤ p.ageLimit ∧ p.ageLimit ≤ 4096)) ∧
    (∃ (s : State) (h : Ocf), Taken s h 0x0781 false false 0) ∧
    (∃ (s : State) (h : Ocf), Taken s h 0x0782 false false 0) ∧
    (∃ (s : State) (h : Ocf) (period : Nat), Taken s h 0x0783 true false 4 ∧ period ≤ 168 ∧ s.hbmReady = true) ∧
    (∃ (s : State) (h : Ocf) (pc : Nat), Taken s h 0x0784 true true 4 ∧ pc ≤ 63 ∧ s.hbmReady = true ∧ s.hbm.retiring = none ∧ s.hbm.retired.length
      < 8 ∧ pc ∉ s.hbm.retired) ∧
    (∃ (s : State) (h : Ocf) (pc : Nat), Taken s h 0x0784 true true 4 ∧ pc ≤ 63 ∧ s.hbmReady = true ∧ s.hbm.retiring = none ∧ s.hbm.retired.length
      < 8 ∧ pc ∈ s.hbm.retired) ∧
    (∃ (s : State) (h : Ocf) (p : FabricConfigP), Taken s h 0x0740 true false 12 ∧ p.enable ≤ 1 ∧ p.slot ≤ 31 ∧ (p.directLimit = 0 ∨ 16 ≤
      p.directLimit) ∧ p.directLimit ≤ 4096 ∧ (p.grantWindow = 0 ∨ 64 ≤ p.grantWindow) ∧ p.grantWindow ≤ 2048 ∧ (p.grantSize = 0 ∨ 16 ≤
      p.grantSize) ∧ p.grantSize ≤ 1024 ∧ p.robTimeout ≠ 1 ∧ p.robTimeout ≤ 1000 ∧ (s.anyFabUp = false ∨ p.slot = s.fab.cfg.slot ∧ p.groupId =
      s.fab.cfg.groupId) ∧ (∀ r ∈ regions, fabUnfit s.buf.cfg (orDefault p.grantWindow 256) s.fab.ports r = false) ∧ p.flashOk = true) ∧
    (∃ (s : State) (h : Ocf) (p : FabricLinkWriteP), Taken s h 0x0741 true false 4 ∧ p.group ≤ 31 ∧ p.width ∈ [0, 1, 2, 4, 8] ∧ p.width ≤
      s.widthLeft p.group ∧ p.rate ≤ 1 ∧ (s.fabPort p.group).up = false ∧ (p.width = 0 ∨ ∀ k ∈ tkeys s.ports.cfg, k / 8 ≠ p.group) ∧ (∀ r ∈
      regions, fabUnfit s.buf.cfg s.fab.cfg.grantWindow (if p.width = 0 then tdel s.fab.ports p.group else tset s.fab.ports p.group
      { width := p.width, rate := p.rate }) r = false) ∧ (tget s.fab.ports p.group).map (fun x => (x.width, x.rate)) ≠ some (p.width, p.rate) ∧
      p.flashOk = true) ∧
    (∃ (s : State) (h : Ocf) (p : FabricLinkWriteP), Taken s h 0x0741 true false 4 ∧ p.group ≤ 31 ∧ p.width ∈ [0, 1, 2, 4, 8] ∧ p.width ≤
      s.widthLeft p.group ∧ p.rate ≤ 1 ∧ (p.width = 0 ∨ ∀ k ∈ tkeys s.ports.cfg, k / 8 ≠ p.group) ∧ (∀ r ∈ regions, fabUnfit s.buf.cfg
      s.fab.cfg.grantWindow (if p.width = 0 then tdel s.fab.ports p.group else tset s.fab.ports p.group { width := p.width, rate := p.rate }) r =
      false) ∧ (tget s.fab.ports p.group).map (fun x => (x.width, x.rate)) = some (p.width, p.rate) ∧ p.flashOk = true) ∧
    (∃ (s : State) (h : Ocf), Taken s h 0x0742 false false 0) ∧
    (∃ (s : State) (h : Ocf) (clear : Nat), Taken s h 0x0743 (decide (clear = 1)) false 4 ∧ clear ≤ 1) :=
  ⟨⟨up, (fr 8), ⟨0, 0, 0, 0, 0, 0⟩, takenOf (by decide +kernel), by decide +kernel, by decide +kernel, by decide +kernel, by decide +kernel,
    by decide +kernel, by decide +kernel⟩,
   ⟨up, (fr 0), takenOf (by decide +kernel)⟩,
   ⟨up, (fr 0), takenOf (by decide +kernel)⟩,
   ⟨up, (fr 4), 0, takenOf (by decide +kernel), by decide +kernel, by decide +kernel⟩,
   ⟨up, (fr 4), 0, takenOf (by decide +kernel), by decide +kernel, by decide +kernel, by decide +kernel, by decide +kernel, by decide +kernel⟩,
   ⟨full, (fr 4), 5, takenOf (by decide +kernel), by decide +kernel, by decide +kernel, by decide +kernel, by decide +kernel, by decide +kernel⟩,
   ⟨up, (fr 12), ⟨0, 0, 0, 0, 0, 0, 0, true⟩, takenOf (by decide +kernel), by decide +kernel, by decide +kernel, by decide +kernel,
     by decide +kernel, by decide +kernel, by decide +kernel, by decide +kernel, by decide +kernel, by decide +kernel, by decide +kernel,
     by decide +kernel, by decide +kernel, rfl⟩,
   ⟨upF, (fr 4), ⟨3, 4, 0, true⟩, takenOf (by decide +kernel), by decide +kernel, by decide +kernel, by decide +kernel, by decide +kernel,
     by decide +kernel, by decide +kernel, by decide +kernel, by decide +kernel, rfl⟩,
   ⟨({ upF with fab.ports := [(3, fabA)] }), (fr 4), ⟨3, 4, 0, true⟩, takenOf (by decide +kernel), by decide +kernel, by decide +kernel, by
     decide +kernel, by decide +kernel, by decide +kernel, by decide +kernel, by decide +kernel, by decide +kernel⟩,
   ⟨up, (fr 0), takenOf (by decide +kernel)⟩,
   ⟨up, (fr 4), 0, takenOf (by decide +kernel), by decide +kernel⟩⟩

/-- States and operands that meet the hypotheses of each clause of Obligations.SystemCommandsRun. -/
theorem witness_SystemCommandsRun :
    (∃ (s : State) (h : Ocf), Taken s h 0x0101 false false 0) ∧
    (∃ (s : State) (h : Ocf), Taken s h 0x0102 false false 0) ∧
    (∃ (s : State) (h : Ocf), Taken s h 0x0103 false false h.length ∧ h.length ≤ 1024) ∧
    (∃ (s : State) (h : Ocf) (timeout : Nat), Taken s h 0x0104 true false 4 ∧ 10 ≤ timeout ∧ timeout ≤ 60000 ∧ (∀ g ∈ tvals s.ocf.groups, g.sender
      ≠ h.senderKey) ∧ s.ocf.groups.length < 8) ∧
    (∃ (s : State) (h : Ocf) (g : Group), Taken s h 0x0105 true false 0 ∧ h.group ≠ 0 ∧ tget s.ocf.groups h.group = some g ∧ g.sender =
      h.senderKey ∧ (∀ k : Book, firstBadMember bodyOf 0 g.members ({ s with ocf.groups := tdel s.ocf.groups h.group }.book k) = none) ∧ (∀ k :
      Book, (applyMembers bodyOf 0 g.members ({ s with ocf.groups := tdel s.ocf.groups h.group }.book k)).status = 0) ∧ (∀ k : Book, (applyMembers
      bodyOf 0 g.members ({ s with ocf.groups := tdel s.ocf.groups h.group }.book k)).st.allReached = true)) ∧
    (∃ (s : State) (h : Ocf) (g : Group), Taken s h 0x0106 true false 0 ∧ h.group ≠ 0 ∧ tget s.ocf.groups h.group = some g ∧ g.sender =
      h.senderKey) ∧
    (∃ (s : State) (h : Ocf) (tags : List Nat), Taken s h 0x0107 true false (2 + 2 * tags.length) ∧ tags ≠ [] ∧ tags.length ≤ 16) ∧
    (∃ (s : State) (h : Ocf), Taken s h 0x0108 false false 0) ∧
    (∃ (s : State) (h : Ocf) (p : SysIntakeConfigP), Taken s h 0x0109 true false 16 ∧ isGroupMac p.stationMac = false ∧ isGroupMac p.groupMac =
      true ∧ p.replyTc ≤ 7 ∧ p.flashOk = true) ∧
    (∃ (s : State) (h : Ocf) (deviceId : Nat), Taken s h 0x010A true false 2 ∧ deviceId < 4096) ∧
    (∃ (s : State) (h : Ocf), Taken s h 0x010B true false 4) :=
  ⟨⟨up, (fr 0), takenOf (by decide +kernel)⟩,
   ⟨up, (fr 0), takenOf (by decide +kernel)⟩,
   ⟨up, (fr 0), takenOf (by decide +kernel), by decide +kernel⟩,
   ⟨up, (fr 4), 10, takenOf (by decide +kernel), by decide +kernel, by decide +kernel, by decide +kernel, by decide +kernel⟩,
   ⟨full, (frG 0), _, takenOf (by decide +kernel), by decide +kernel, rfl, by decide +kernel, by intro k; rfl, by intro k; rfl, by intro k; exact
     (by decide +kernel : up.allReached = true)⟩,
   ⟨full, (frG 0), _, takenOf (by decide +kernel), by decide +kernel, rfl, by decide +kernel⟩,
   ⟨up, (fr 4), [1], takenOf (by decide +kernel), by decide +kernel, by decide +kernel⟩,
   ⟨up, (fr 0), takenOf (by decide +kernel)⟩,
   ⟨up, (fr 16), ⟨0, 0x010000000000, 0, true⟩, takenOf (by decide +kernel), by decide +kernel, by decide +kernel, by decide +kernel, rfl⟩,
   ⟨up, (fr 2), 0, takenOf (by decide +kernel), by decide +kernel⟩,
   ⟨up, (fr 4), takenOf (by decide +kernel)⟩⟩

/-- States and operands that meet the hypotheses of each clause of Obligations.PortCommandsRun. -/
theorem witness_PortCommandsRun :
    (∃ (s : State) (h : Ocf) (p : PortConfigP) (k : Nat), Taken s h 0x0201 true false 12 ∧ s.frontArg p.port = some k ∧ p.speed ≠ 0 ∧ (p.speed,
      p.lanes, p.laneRate, p.fec) ∈ portModes ∧ k % p.lanes = 0 ∧ p.flags ≤ 7 ∧ (p.mtu = 0 ∨ 64 ≤ p.mtu) ∧ p.mtu ≤ 16352 ∧ s.lanesBusy k p.lanes
      = false) ∧
    (∃ (s : State) (h : Ocf) (p : PortConfigP) (k : Nat), Taken s h 0x0201 true false 12 ∧ s.frontArg p.port = some k ∧ p.speed = 0 ∧ p.flags ≤ 7
      ∧ s.configured k = true) ∧
    (∃ (s : State) (h : Ocf) (port : Nat) (k : Nat) (c : PortCfg), Taken s h 0x0202 false false 4 ∧ s.frontArg port = some k ∧ tget s.ports.cfg k
      = some c ∧ c.speed ≠ 0) ∧
    (∃ (s : State) (h : Ocf) (port : Nat) (clear : Nat) (k : Nat), Taken s h 0x0203 (decide (clear = 1)) false 4 ∧ s.counterArg port = some k ∧
      clear ≤ 1) ∧
    (∃ (s : State) (h : Ocf) (port : Nat) (up : Nat) (k : Nat) (c : PortCfg), Taken s h 0x0204 true false 4 ∧ s.frontArg port = some k ∧ tget
      s.ports.cfg k = some c ∧ c.speed ≠ 0 ∧ up ≤ 1) ∧
    (∃ (s : State) (h : Ocf) (p : PortOpticsAccessP), Taken s h 0x0205 false false 8 ∧ p.flags = 0 ∧ p.controller ≤ 1 ∧ p.devAddr ≤ 127 ∧ 1 ≤
      p.len ∧ p.len ≤ 128 ∧ p.ack = true) ∧
    (∃ (s : State) (h : Ocf) (p : PortOpticsAccessP), Taken s h 0x0205 true false (8 + ceilDiv p.len 4 * 4) ∧ p.flags = 1 ∧ p.controller ≤ 1 ∧
      p.devAddr ≤ 127 ∧ 1 ≤ p.len ∧ p.len ≤ 128 ∧ p.ack = true) ∧
    (∃ (s : State) (h : Ocf) (p : DiagPrbsP) (k : Nat) (c : PortCfg), Taken s h 0x0E01 true false 8 ∧ p.pattern ≤ 3 ∧ p.dir ≤ 3 ∧ s.frontArg
      p.port = some k ∧ tget s.ports.cfg k = some c ∧ c.speed ≠ 0 ∧ c.adminUp = false ∧ p.laneMask < 2 ^ c.lanes) ∧
    (∃ (s : State) (h : Ocf) (port : Nat) (mode : Nat) (k : Nat) (c : PortCfg), Taken s h 0x0E02 true false 4 ∧ mode ≤ 3 ∧ (s.power.mode = .full
      ∨ s.power.mode = .service) ∧ s.frontArg port = some k ∧ tget s.ports.cfg k = some c ∧ c.speed ≠ 0 ∧ c.adminUp = false) ∧
    (∃ (s : State) (h : Ocf) (port : Nat) (lane : Nat) (k : Nat) (c : PortCfg), Taken s h 0x0E03 false false 4 ∧ s.frontArg port = some k ∧ tget
      s.ports.cfg k = some c ∧ c.speed ≠ 0 ∧ c.adminUp = false ∧ lane < c.lanes) ∧
    (∃ (s : State) (h : Ocf) (addr : Nat) (count : Nat), Taken s h 0x0E04 false false 6 ∧ addr % 4 = 0 ∧ addr < 0x1000000 ∧ 1 ≤ count ∧ count ≤
      256) ∧
    (∃ (s : State) (h : Ocf) (p : DiagErrorInjectP), Taken s h 0x0E05 true false 8 ∧ s.power.mode = .service ∧ 1 ≤ p.kind ∧ p.kind ≤ 9 ∧
      p.severity ≤ 1 ∧ 1 ≤ p.count ∧ p.count ≤ 1024 ∧ (p.kind ≤ 7 → p.unit < cellCount p.kind)) ∧
    (∃ (s : State) (h : Ocf), Taken s h 0x0E06 true true 4 ∧ s.power.mode = .service) :=
  ⟨⟨up, (fr 12), ⟨16, 4, 4, 2, 1, 0, 0⟩, _, takenOf (by decide +kernel), rfl, by decide +kernel, by decide +kernel, by decide +kernel,
    by decide +kernel, by decide +kernel, by decide +kernel, by decide +kernel⟩,
   ⟨up, (fr 12), ⟨0, 0, 0, 0, 0, 0, 0⟩, _, takenOf (by decide +kernel), rfl, rfl, by decide +kernel, by decide +kernel⟩,
   ⟨up, (fr 4), 0, _, _, takenOf (by decide +kernel), rfl, rfl, by decide +kernel⟩,
   ⟨up, (fr 4), 0, 0, _, takenOf (by decide +kernel), rfl, by decide +kernel⟩,
   ⟨up, (fr 4), 0, 0, _, _, takenOf (by decide +kernel), rfl, rfl, by decide +kernel, by decide +kernel⟩,
   ⟨up, (fr 8), ⟨0, 0, 0, 0, 0, 1, 0, [], [], true⟩, takenOf (by decide +kernel), rfl, by decide +kernel, by decide +kernel, by decide +kernel,
     by decide +kernel, rfl⟩,
   ⟨up, (fr 12), ⟨0, 0, 0, 0, 0, 1, 1, [], [], true⟩, takenOf (by decide +kernel), rfl, by decide +kernel, by decide +kernel, by decide +kernel,
     by decide +kernel, rfl⟩,
   ⟨upDown, (fr 8), ⟨0, 0, 0, 0, []⟩, _, _, takenOf (by decide +kernel), by decide +kernel, by decide +kernel, rfl, rfl, by decide +kernel,
     by decide +kernel, by decide +kernel⟩,
   ⟨upDown, (fr 4), 0, 0, _, _, takenOf (by decide +kernel), by decide +kernel, by decide +kernel, rfl, rfl, by decide +kernel,
     by decide +kernel⟩,
   ⟨upDown, (fr 4), 0, 0, _, _, takenOf (by decide +kernel), rfl, rfl, by decide +kernel, by decide +kernel, by decide +kernel⟩,
   ⟨up, (fr 6), 0, 1, takenOf (by decide +kernel), by decide +kernel, by decide +kernel, by decide +kernel, by decide +kernel⟩,
   ⟨upService, frMakerA, ⟨1, 0, 1, 0⟩, takenOf (by decide +kernel), by decide +kernel, by decide +kernel, by decide +kernel, by decide +kernel,
     by decide +kernel, by decide +kernel, by decide +kernel⟩,
   ⟨upService, frMakerB, takenOf (by decide +kernel), by decide +kernel⟩⟩

/-- States and operands that meet the hypotheses of each clause of Obligations.SecurityCommandsRun. -/
theorem witness_SecurityCommandsRun :
    (∃ (s : State) (h : Ocf) (p : SecKeyWriteP), Taken s h 0x0B01 true false 36 ∧ slotError h p.role p.keyId s = none ∧ p.flashOk = true) ∧
    (∃ (s : State) (h : Ocf) (role : Nat) (keyId : Nat), Taken s h 0x0B02 true false 4 ∧ slotError h role keyId s = none ∧ ¬(role = 2 ∧
      s.roles.lifecycle = .field ∧ s.installerKeys = [4 * role + keyId])) ∧
    (∃ (s : State) (h : Ocf), Taken s h 0x0B03 false false 0) ∧
    (∃ (s : State) (h : Ocf) (access : Nat), Taken s h 0x0B04 true false 4 ∧ access ≤ 2) ∧
    (∃ (s : State) (h : Ocf) (target : Nat) (t : Lifecycle), Taken s h 0x0B05 true false 16 ∧ lifecycleOf target = some t ∧ s.power.mode ≠
      .service ∧ lifecycleMove s.flash.lifecycle t h.role = true ∧ (s.flash.lifecycle = .factory → t = .field → s.flash.fieldEntries < 8) ∧
      lifecycleCondition s.flash.lifecycle t s = true) ∧
    (∃ (s : State) (h : Ocf) (p : SecFwWriteP), Taken s h 0x0B06 true false (8 + p.length) ∧ 8 + p.length ≤ (if h.role = 0 then 1048544 else
      1048528) ∧ p.offset + p.length ≤ 16777216 ∧ p.data.length = p.length ∧ p.flashOk = true) ∧
    (Config.signatureValid 0 (memRead imgA 0 32 ++ memRead imgA 128 0) (memRead imgA 32 96) = true → ∃ (s : State) (h : Ocf) (floor : Nat), Taken
      s h 0x0B07 true false 4 ∧ floor ≤ 1 ∧ verifyImage s.flash s.roles.lifecycle (s.image !s.boot.copyB) = 0) ∧
    (∃ (s : State) (h : Ocf), Taken s h 0x0B08 false false 0) ∧
    (∃ (s : State) (h : Ocf) (count : Nat), Taken s h 0x0B09 false false 12 ∧ 1 ≤ count ∧ count ≤ 64) ∧
    (∃ (s : State) (h : Ocf) (upto : Nat), Taken s h 0x0B0A true false 8 ∧ upto ≤ s.roles.audit.last) ∧
    (∃ (s : State) (h : Ocf) (hold : Nat), Taken s h 0x0B0B true false 4 ∧ hold ≤ 1) :=
  ⟨⟨up, (fr 36), ⟨1, 0, 0, true⟩, takenOf (by decide +kernel), by decide +kernel, rfl⟩,
   ⟨up, (fr 4), 1, 0, takenOf (by decide +kernel), by decide +kernel, by decide +kernel⟩,
   ⟨up, (fr 0), takenOf (by decide +kernel)⟩,
   ⟨up, (fr 4), 0, takenOf (by decide +kernel), by decide +kernel⟩,
   ⟨upKey, (fr 16), 1, _, takenOf (by decide +kernel), rfl, by decide +kernel, by decide +kernel, by decide +kernel, by decide +kernel⟩,
   ⟨up, (fr 8), ⟨0, 0, [], true⟩, takenOf (by decide +kernel), by decide +kernel, by decide +kernel, by decide +kernel, rfl⟩,
   fun k => ⟨{ up with flash.imageB := imgA }, fr 4, 1, takenOf (by decide +kernel), by decide, imgA_verifies { up.flash with imageB := imgA } _
     rfl rfl k⟩,
   ⟨up, (fr 0), takenOf (by decide +kernel)⟩,
   ⟨up, (fr 12), 1, takenOf (by decide +kernel), by decide +kernel, by decide +kernel⟩,
   ⟨up, (fr 8), 0, takenOf (by decide +kernel), by decide +kernel⟩,
   ⟨up, (fr 4), 0, takenOf (by decide +kernel), by decide +kernel⟩⟩

/-- States and operands that meet the hypotheses of each clause of Obligations.JobCommandsRun. -/
theorem witness_JobCommandsRun :
    (∃ (s : State) (h : Ocf) (p : JobSubmitP) (c : Nat) (k : Nat) (len : Nat), Taken s h 0x0D01 true true len ∧ jobLenOk p.jobType len = true ∧
      p.priority ≤ 47 ∧ p.energyClass ≤ 7 ∧ p.flags ≤ 1 ∧ (p.flags = 1 → p.startNs < 1000000000) ∧ (p.flags = 0 → p.startS = 0) ∧ s.startTick p ≤
      s.estateNs / 1000 + (2 ^ 47 - 1) ∧ p.bufAddr % 8 = 0 ∧ p.bufLen ≤ 268435456 ∧ ((∃ table select cursor, p.jobType = 1 ∧ p.job = .tableDump
      table select cursor ∧ table ≤ 3 ∧ (table = 0 → select ≤ 63) ∧ (table = 3 → select ≤ 4095)) ∨ (∃ count, p.jobType = 2 ∧ p.job = .bulkInsert
      count ∧ 96 * count ≤ p.bufLen) ∨ (∃ scope, p.jobType = 3 ∧ p.job = .snapshot scope ∧ scope ≤ 15)) ∧ (h.transport = .mailbox c ∨ ∃ a n,
      h.transport = .dma c a n) ∧ (dropFreed s).freeHandle = some k) ∧
    (∃ (s : State) (h : Ocf) (p : JobSubmitP) (cmd : Instr) (opcode : Nat) (f : Ocf) (key : Option Bytes) (k : Nat) (len : Nat), Taken s h 0x0D01
      true true len ∧ 32 ≤ len ∧ len ≤ 16256 ∧ p.jobType = 4 ∧ p.priority ≤ 47 ∧ p.energyClass ≤ 7 ∧ p.flags ≤ 1 ∧ (p.flags = 1 → p.startNs <
      1000000000) ∧ (p.flags = 0 → p.startS = 0) ∧ s.startTick p ≤ s.estateNs / 1000 + (2 ^ 47 - 1) ∧ p.bufAddr % 8 = 0 ∧ p.bufLen ≤ 268435456 ∧
      p.job = .delayed opcode f ∧ embeddedGate bodyOf opcode (embedded h f) cmd (recordSeq h s) = .pass key ∧ (dropFreed s).freeHandle = some k) ∧
    (∃ (s : State) (h : Ocf) (handle : Nat) (gen : Nat) (i : WorkItem), Taken s h 0x0D02 true false 4 ∧ s.hostJobOf handle gen = some i ∧ i.state
      ≠ .done ∧ i.state ≠ .cancelled) ∧
    (∃ (s : State) (h : Ocf) (handle : Nat) (gen : Nat) (i : WorkItem), Taken s h 0x0D03 false false 4 ∧ s.hostJobOf handle gen = some i) ∧
    (∃ (s : State) (h : Ocf) (cls : Nat) (cost : Nat) (share : Nat), Taken s h 0x0D04 true false 8 ∧ 1 ≤ cls ∧ cls ≤ 7 ∧ 1 ≤ cost ∧ cost ≤ 65535
      ∧ share ≤ 1600 ∧ minDemand (s.classesWith cls cost share) ≤ s.gFloor ∧ (((s.classesWith cls cost share).drop 1).map Prod.snd).sum ≤ 1600) ∧
    (∃ (s : State) (h : Ocf) (activity : Nat) (limit : Nat), Taken s h 0x0D05 true false 8 ∧ 5 ≤ activity ∧ activity ≤ 15 ∧ 1 ≤ limit ∧ limit ≤
      10000) ∧
    (∃ (s : State) (h : Ocf), Taken s h 0x0D06 false false 0) ∧
    (∃ (s : State) (h : Ocf), Taken s h 0x0D07 false false 0) :=
  ⟨⟨up, fr 44, { jobType := 1, priority := 0, energyClass := 0, flags := 0, startS := 0, startNs := 0, bufAddr := 0, bufLen := 96, job := .tableDump 0 63 0 },
    0, 0, 44, takenOf (by decide +kernel), by decide +kernel, by decide +kernel, by decide +kernel, by decide +kernel, by decide +kernel,
    by decide +kernel, by decide +kernel, by decide +kernel, by decide +kernel, Or.inl ⟨0, 63, 0, rfl, rfl, by decide, by decide, by decide⟩,
    Or.inl rfl, by decide +kernel⟩,
   ⟨up, fr 200, { jobType := 4, priority := 0, energyClass := 0, flags := 0, startS := 0, startNs := 0, bufAddr := 0, bufLen := 96, job := .delayed 0x0501 { fr 4 with seq := 2 } },
     .vlanWrite { fr 4 with seq := 2 } 1 0, 0x0501, { fr 4 with seq := 2 }, none, 0, 200, takenOf (by decide +kernel), by decide +kernel,
     by decide +kernel, by decide +kernel, by decide +kernel, by decide +kernel, by decide +kernel, by decide +kernel, by decide +kernel,
     by decide +kernel, by decide +kernel, by decide +kernel, rfl, by decide +kernel, by decide +kernel⟩,
   ⟨upJob, (fr 4), 0, 1, _, takenOf (by decide +kernel), rfl, by decide +kernel, by decide +kernel⟩,
   ⟨upJob, (fr 4), 0, 1, _, takenOf (by decide +kernel), rfl⟩,
   ⟨up, (fr 8), 1, 1, 0, takenOf (by decide +kernel), by decide +kernel, by decide +kernel, by decide +kernel, by decide +kernel,
     by decide +kernel, by decide +kernel, by decide +kernel⟩,
   ⟨up, (fr 8), 5, 1, takenOf (by decide +kernel), by decide +kernel, by decide +kernel, by decide +kernel, by decide +kernel⟩,
   ⟨up, (fr 0), takenOf (by decide +kernel)⟩,
   ⟨up, (fr 0), takenOf (by decide +kernel)⟩⟩

/-- States and operands that meet the hypotheses of each clause of Obligations.PowerCommandsRun. -/
theorem witness_PowerCommandsRun :
    (∃ (s : State) (h : Ocf) (mode : Nat) (profile : Nat) (drain : Nat), Taken s h 0x0A01 true false 4 ∧ mode ∈ [1, 3, 4, 5] ∧ profile ≤ 3 ∧
      drain ≤ 100 ∧ s.power.mode ≠ .rising ∧ s.power.moving = false ∧ s.mayMove mode profile = true ∧ (mode = 1 → s.unfinished = false)) ∧
    (∃ (s : State) (h : Ocf) (cap : Nat), Taken s h 0x0A02 true false 4 ∧ s.power.capFloor ≤ cap ∧ cap ≤ s.power.capCeiling) ∧
    (∃ (s : State) (h : Ocf) (p : PwrLimitsSetP), Taken s h 0x0A03 true false 8 ∧ 120 ≤ orDefault p.capFloor 200 ∧ orDefault p.capFloor 200 ≤
      orDefault p.capCeiling 560 ∧ orDefault p.capCeiling 560 ≤ 560 ∧ p.maintPermille ≤ 50 ∧ 32 ≤ orDefault p.hbmCFloor 64 ∧ orDefault
      p.hbmCFloor 64 ≤ 232 ∧ 70 ≤ orDefault p.tjWarn 95 ∧ orDefault p.tjWarn 95 ≤ 100 ∧ p.shedNotice ≤ 10 ∧ (∀ c, s.power.opCap = some c →
      orDefault p.capFloor 200 ≤ c ∧ c ≤ orDefault p.capCeiling 560) ∧ (∀ e ∈ s.power.profiles, ∀ c, e.2.cap = some c → orDefault p.capFloor 200
      ≤ c ∧ c ≤ orDefault p.capCeiling 560) ∧ s.dMin ≤ orDefault p.capFloor 200 * orDefault p.maintPermille 10 * 100 ∧ p.flashOk = true) ∧
    (∃ (s : State) (h : Ocf) (p : PwrReducedProfileWriteP), Taken s h 0x0A04 true false 16 ∧ p.profile ≤ 3 ∧ ¬(s.power.mode = .reduced ∧
      s.power.profile = p.profile) ∧ s.power.capFloor ≤ p.cap ∧ p.cap ≤ s.power.capCeiling ∧ parkConflict p.octalPark p.inPark p.egPark s =
      false) ∧
    (∃ (s : State) (h : Ocf) (p : PwrScheduleWriteP), Taken s h 0x0A05 true false 24 ∧ p.entry ≤ 63 ∧ 1 ≤ p.action ∧ p.action ≤ 4 ∧ (p.action = 2
      → p.profile ≤ 3) ∧ p.flags ≤ 1 ∧ p.timeNs < 1000000000 ∧ (p.period = 0 ∨ 60 ≤ p.period ∧ p.period ≤ 604800) ∧ (p.action = 3 → p.drain ≤
      100)) ∧
    (∃ (s : State) (h : Ocf), Taken s h 0x0A06 true false 4) ∧
    (∃ (s : State) (h : Ocf), Taken s h 0x0A07 false false 0) :=
  ⟨⟨up, (fr 4), 4, 0, 0, takenOf (by decide +kernel), by decide +kernel, by decide +kernel, by decide +kernel, by decide +kernel,
    by decide +kernel, by decide +kernel, by decide +kernel⟩,
   ⟨up, (fr 4), 300, takenOf (by decide +kernel), by decide +kernel, by decide +kernel⟩,
   ⟨up, (fr 8), ⟨0, 0, 0, 0, 0, 1, true⟩, takenOf (by decide +kernel), by decide +kernel, by decide +kernel, by decide +kernel,
     by decide +kernel, by decide +kernel, by decide +kernel, by decide +kernel, by decide +kernel, by decide +kernel, by decide +kernel,
     by decide +kernel, by decide +kernel, rfl⟩,
   ⟨up, (fr 16), ⟨0, 0, 300, 0, 0, 0⟩, takenOf (by decide +kernel), by decide +kernel, by decide +kernel, by decide +kernel, by decide +kernel,
     by decide +kernel⟩,
   ⟨up, (fr 24), ⟨0, 1, 0, 0, 0, 0, 0, 0, 0⟩, takenOf (by decide +kernel), by decide +kernel, by decide +kernel, by decide +kernel,
     by decide +kernel, by decide +kernel, by decide +kernel, by decide +kernel, by decide +kernel⟩,
   ⟨up, (fr 4), takenOf (by decide +kernel)⟩,
   ⟨up, (fr 0), takenOf (by decide +kernel)⟩⟩

/-- States and operands that meet the hypotheses of each clause of Obligations.TimeCommandsRun. -/
theorem witness_TimeCommandsRun :
    (∃ (s : State) (h : Ocf) (p : TimeSourceConfigP), Taken s h 0x0901 true false 24 ∧ p.phase1 ≤ 2 ∧ p.phase2 ≤ 2 ∧ (p.phase2 = 0 ∨ p.phase2 ≠
      p.phase1) ∧ p.flags ≤ 1 ∧ -1000000 ≤ signed 32 p.ppsDelay ∧ signed 32 p.ppsDelay ≤ 1000000 ∧ 10 ≤ orDefault p.lockThreshold 100 ∧ orDefault
      p.lockThreshold 100 ≤ 10000 ∧ 100 ≤ orDefault p.stepThreshold 1000 ∧ orDefault p.stepThreshold 1000 ≤ 1000000000 ∧ orDefault
      p.lockThreshold 100 < orDefault p.stepThreshold 1000 ∧ p.holdoverLimit ≤ 86400 ∧ p.slewMax ≤ 500) ∧
    (∃ (s : State) (h : Ocf) (p : TimeSetP), Taken s h 0x0902 true false 16 ∧ p.timeNs < 1000000000 ∧ p.flags ≤ 7 ∧ s.time.state ≠ .acquiring ∧
      s.time.state ≠ .locked) ∧
    (∃ (s : State) (h : Ocf), Taken s h 0x0903 false false 0) ∧
    (∃ (s : State) (h : Ocf) (p : PtpClockConfigP), Taken s h 0x0904 true false 28 ∧ p.type ≤ 4 ∧ p.step ≤ 1 ∧ 2 ≤ p.announceTimeout) ∧
    (∃ (s : State) (h : Ocf) (p : PtpPortConfigP), Taken s h 0x0905 true false 12 ∧ s.isFabricPort p.port = false ∧ s.frontOrMgmt p.port = true ∧
      p.ptpMode ≤ 2 ∧ p.transport ≤ 2 ∧ p.delay ≤ 1 ∧ -3 ≤ signed 8 p.logAnnounce ∧ signed 8 p.logAnnounce ≤ 4 ∧ -7 ≤ signed 8 p.logSync ∧ signed
      8 p.logSync ≤ 1 ∧ -7 ≤ signed 8 p.logDelay ∧ signed 8 p.logDelay ≤ 5) ∧
    (∃ (s : State) (h : Ocf), Taken s h 0x0906 false false 0) ∧
    (∃ (s : State) (h : Ocf) (p : TimeOutputWriteP), Taken s h 0x0907 true false 32 ∧ p.output ≤ 8 ∧ p.mode ≤ 4 ∧ (p.mode = 3 → p.group ≤ 63) ∧
      p.flags ≤ 1 ∧ (p.mode = 2 → p.startNs < 1000000000 ∧ 100 ≤ p.period ∧ p.period ≤ 1000000000000 ∧ 40 ≤ p.width ∧ p.width ≤ p.period - 40)) ∧
    (∃ (s : State) (h : Ocf), Taken s h 0x0908 false false 0) :=
  ⟨⟨up, (fr 24), ⟨0, 0, 0, 0, 0, 0, 0, 0⟩, takenOf (by decide +kernel), by decide +kernel, by decide +kernel, by decide +kernel,
    by decide +kernel, by decide +kernel, by decide +kernel, by decide +kernel, by decide +kernel, by decide +kernel, by decide +kernel,
    by decide +kernel, by decide +kernel, by decide +kernel⟩,
   ⟨up, (fr 16), ⟨0, 0, 0, 0⟩, takenOf (by decide +kernel), by decide +kernel, by decide +kernel, by decide +kernel, by decide +kernel⟩,
   ⟨up, (fr 0), takenOf (by decide +kernel)⟩,
   ⟨up, (fr 28), ⟨0, 0, 0, 0, 0, 0, 2, 0, 0⟩, takenOf (by decide +kernel), by decide +kernel, by decide +kernel, by decide +kernel⟩,
   ⟨up, (fr 12), ⟨0, 0, 0, 0, 0, 0, 0, 0⟩, takenOf (by decide +kernel), by decide +kernel, by decide +kernel, by decide +kernel,
     by decide +kernel, by decide +kernel, by decide +kernel, by decide +kernel, by decide +kernel, by decide +kernel, by decide +kernel,
     by decide +kernel⟩,
   ⟨up, (fr 0), takenOf (by decide +kernel)⟩,
   ⟨up, (fr 32), ⟨0, 0, 0, 0, 0, 0, 0, 0⟩, takenOf (by decide +kernel), by decide +kernel, by decide +kernel, by decide +kernel,
     by decide +kernel, by decide +kernel⟩,
   ⟨up, (fr 0), takenOf (by decide +kernel)⟩⟩

/-- States and operands that meet the hypotheses of each clause of Obligations.DiscoveryAndFaultCommandsRun. -/
theorem witness_DiscoveryAndFaultCommandsRun :
    (∃ (s : State) (h : Ocf) (p : LldpConfigP) (k : Nat), Taken s h 0x0909 true false (8 + p.systemName.length) ∧ s.isFabricPort p.port = false ∧
      s.localPort p.port = some k ∧ p.flags ≤ 3 ∧ (p.txInterval = 0 ∨ 5 ≤ p.txInterval) ∧ p.txInterval ≤ 3600 ∧ p.systemName.length ≤ 64) ∧
    (∃ (s : State) (h : Ocf) (table : Nat) (count : Nat), Taken s h 0x090A false false 6 ∧ table ≤ 3 ∧ 1 ≤ count ∧ count ≤ 32) ∧
    (∃ (s : State) (h : Ocf) (ttl : Nat) (hostless : Nat), Taken s h 0x090B true false 10 ∧ (ttl = 0 ∨ 60 ≤ ttl) ∧ ttl ≤ 86400 ∧ hostless ≤ 1) ∧
    (∃ (s : State) (h : Ocf) (p : OpticsSlotWriteP), Taken s h 0x090C true false 8 ∧ p.slot ≤ 63 ∧ p.controller ≤ 1 ∧ p.muxAddr ≤ 127 ∧
      p.muxChannel ≤ 7 ∧ 1 ≤ p.lanes ∧ p.lanes ≤ 8 ∧ p.firstLane + p.lanes ≤ 256 ∧ (∀ e ∈ s.disc.optics, e.1 ≠ p.slot → e.2.firstLane + e.2.lanes
      ≤ p.firstLane ∨ p.firstLane + p.lanes ≤ e.2.firstLane)) ∧
    (∃ (s : State) (h : Ocf), Taken s h 0x090D false false 0) ∧
    (∃ (s : State) (h : Ocf), Taken s h 0x0C01 false false 0) ∧
    (∃ (s : State) (h : Ocf) (kind : Nat) (n : Nat) (window : Nat), Taken s h 0x0C02 true false 8 ∧ 1 ≤ kind ∧ kind ≤ 7 ∧ n ≠ 0 ∧ 1 ≤ window ∧
      window ≤ 86400000) ∧
    (∃ (s : State) (h : Ocf) (count : Nat), Taken s h 0x0C03 false false 4 ∧ 1 ≤ count ∧ count ≤ 64) ∧
    (∃ (s : State) (h : Ocf) (p : HwRetireP), Taken s h 0x0C04 true true 8 ∧ 1 ≤ p.kind ∧ p.kind ≤ 7 ∧ p.kind ≠ 2 ∧ p.flags ≤ 1 ∧ p.index <
      cellCount p.kind ∧ (p.kind, p.index) ∉ s.boot.retired ∧ s.limitReached p.kind p.index = false ∧ (p.flags = 1 ∨ s.lastUnit p.kind p.index =
      false)) ∧
    (∃ (s : State) (h : Ocf) (p : HwRetireP), Taken s h 0x0C04 true true 8 ∧ p.kind = 2 ∧ p.flags ≤ 1 ∧ p.index ≤ 63 ∧ p.index < cellCount 2 ∧
      (2, p.index) ∉ s.boot.retired ∧ s.hbmReady = true ∧ s.hbm.retiring = none ∧ s.hbm.retired.length < 8 ∧ p.index ∉ s.hbm.retired) ∧
    (∃ (s : State) (h : Ocf), Taken s h 0x0C05 true false 0 ∧ (s.roles.lifecycle = .factory ∨ s.roles.lifecycle = .returned)) :=
  ⟨⟨up, (fr 8), ⟨0, 0, 0, []⟩, _, takenOf (by decide +kernel), by decide +kernel, rfl, by decide +kernel, by decide +kernel, by decide +kernel,
    by decide +kernel⟩,
   ⟨up, (fr 6), 0, 1, takenOf (by decide +kernel), by decide +kernel, by decide +kernel, by decide +kernel⟩,
   ⟨up, (fr 10), 0, 0, takenOf (by decide +kernel), by decide +kernel, by decide +kernel, by decide +kernel⟩,
   ⟨up, (fr 8), ⟨0, 0, 0, 0, 0, 1⟩, takenOf (by decide +kernel), by decide +kernel, by decide +kernel, by decide +kernel, by decide +kernel,
     by decide +kernel, by decide +kernel, by decide +kernel, by decide +kernel⟩,
   ⟨up, (fr 0), takenOf (by decide +kernel)⟩,
   ⟨up, (fr 0), takenOf (by decide +kernel)⟩,
   ⟨up, (fr 8), 1, 1, 1, takenOf (by decide +kernel), by decide +kernel, by decide +kernel, by decide +kernel, by decide +kernel,
     by decide +kernel⟩,
   ⟨up, (fr 4), 1, takenOf (by decide +kernel), by decide +kernel, by decide +kernel⟩,
   ⟨up, (fr 8), ⟨1, 0, 0, true⟩, takenOf (by decide +kernel), by decide +kernel, by decide +kernel, by decide +kernel, by decide +kernel,
     by decide +kernel, by decide +kernel, by decide +kernel, by decide +kernel⟩,
   ⟨up, (fr 8), ⟨2, 0, 0, true⟩, takenOf (by decide +kernel), rfl, by decide +kernel, by decide +kernel, by decide +kernel, by decide +kernel,
     by decide +kernel, by decide +kernel, by decide +kernel, by decide +kernel⟩,
   ⟨up, (fr 0), takenOf (by decide +kernel), by decide +kernel⟩⟩

/-- States and operands that meet the hypotheses of each clause of Obligations.PowerOnResetRows. -/
theorem witness_PowerOnResetRows :
    (∃ (s : State), s.boot.porstHigh = false ∧ s.boot.powerGood = 15 ∧ s.boot.sysclk = true ∧ s.boot.sysrstHigh = true) ∧
    (∃ (s : State) (input : Nat), s.boot.porstHigh = true ∧ s.boot.sysclk = true ∧ s.boot.sysrstHigh = true ∧ input < 4 ∧ s.boot.powerGood ≠ 15 ∧
      setBit s.boot.powerGood input true = 15) ∧
    (∃ (s : State), s.boot.porstHigh = true ∧ s.boot.powerGood = 15 ∧ s.boot.sysclk = false ∧ s.boot.sysrstHigh = true) :=
  ⟨⟨({ up with boot.porstHigh := false }), by decide +kernel, by decide +kernel, by decide +kernel, by decide +kernel⟩,
   ⟨({ up with boot.powerGood := 7 }), 3, by decide +kernel, by decide +kernel, by decide +kernel, by decide +kernel, by decide +kernel,
     by decide +kernel⟩,
   ⟨({ up with boot.sysclk := false }), by decide +kernel, by decide +kernel, by decide +kernel, by decide +kernel⟩⟩

/-- States and operands that meet the hypotheses of each clause of Obligations.WarmResetRows. -/
theorem witness_WarmResetRows :
    (∃ (s : State) (ns : Nat), 1000 ≤ ns ∧ s.mayWarm = true) ∧
    (∃ (ns : Nat), ns < 1000) ∧
    (∃ (s : State), s.boot.sysrstHigh = false ∧ s.mayWarm = true) ∧
    (∃ (s : State) (cause : Nat), s.boot.resetDue = some cause ∧ s.mayWarm = true) ∧
    (∃ (s : State), s.boot.safe = true ∧ s.mayWarm = true) :=
  ⟨⟨up, 1000, by decide +kernel, by decide +kernel⟩,
   ⟨0, by decide +kernel⟩,
   ⟨({ up with boot.sysrstHigh := false }), by decide +kernel, by decide +kernel⟩,
   ⟨({ up with boot.resetDue := some 3 }), _, rfl, by decide +kernel⟩,
   ⟨({ up with boot.safe := true }), by decide +kernel, by decide +kernel⟩⟩

/-- States and operands that meet the hypotheses of each clause of Obligations.BootRows. -/
theorem witness_BootRows :
    (Config.signatureValid 0 (memRead imgA 0 32 ++ memRead imgA 128 0) (memRead imgA 32 96) = true → ∃ (s : State) (responds : Bool), s.heldDown =
      false ∧ s.boot.sysrstHigh = true ∧ s.boot.safe = false ∧ s.boot.tripped = false ∧ s.boot.stage = 0 ∧ s.power.mode = .reset ∧ s.domain 94 =
      .on ∧ s.domain 84 = .on ∧ s.copyFails s.flash.preferB responds = 0) ∧
    (∃ (s : State) (responds : Bool), s.heldDown = false ∧ s.boot.sysrstHigh = true ∧ s.boot.safe = false ∧ s.boot.tripped = false ∧ s.boot.stage
      = 0 ∧ s.power.mode = .reset ∧ s.domain 94 = .on ∧ s.domain 84 = .on ∧ s.copyFails s.flash.preferB responds ≠ 0) ∧
    (∃ (s : State), s.boot.stage = 1 ∧ s.heldDown = false ∧ s.boot.sysrstHigh = true ∧ s.boot.safe = false) ∧
    (∃ (s : State) (d : Nat) (ds : List Nat), s.heldDown = false ∧ s.boot.sysrstHigh = true ∧ s.boot.safe = false ∧ s.boot.tripped = false ∧ (∀ e
      ∈ s.power.domains, e.2 ≠ .ramping) ∧ s.power.toPower.filter (fun d => !s.unitHeld d) = d :: ds) ∧
    (∃ (s : State) (d : Nat), s.domain d = .ramping ∧ d ≠ 88 ∧ d ≠ 89) ∧
    (∃ (s : State) (d : Nat), s.domain d = .ramping ∧ (d = 88 ∨ d = 89)) ∧
    (∃ (s : State) (d : Nat), s.domain d = .ramping ∧ d ≠ 94) ∧
    (∃ (s : State), s.domain 94 = .ramping) ∧
    (∃ (s : State) (fn : Nat), fn < 99 ∧ s.running = true ∧ s.isReady fn = false ∧ s.boot.failed.testBit fn = false ∧ s.unitHeld fn = false ∧
      s.fnPowered fn = true ∧ s.depsReady fn = true) ∧
    (∃ (s : State) (fn : Nat), fn < 99 ∧ s.running = true ∧ s.isReady fn = false ∧ s.boot.failed.testBit fn = false) ∧
    (∃ (s : State), s.running = true ∧ s.power.mode = .rising ∧ s.power.waking = false ∧ s.boot.stage = 3 ∧ s.allReported = true) :=
  ⟨fun k => ⟨{ booting with flash.imageA := imgA }, true, by decide +kernel, by decide +kernel, by decide +kernel, by decide +kernel,
    by decide +kernel, by decide +kernel, by decide +kernel, by decide +kernel, imgA_verifies { booting.flash with imageA := imgA } .factory rfl
    rfl k⟩,
   ⟨booting, true, by decide +kernel, by decide +kernel, by decide +kernel, by decide +kernel, by decide +kernel, by decide +kernel,
     by decide +kernel, by decide +kernel, by decide +kernel⟩,
   ⟨({ booting with boot.stage := 1, power.mode := .rising }), by decide +kernel, by decide +kernel, by decide +kernel, by decide +kernel⟩,
   ⟨State.reset, _, _, by decide +kernel, by decide +kernel, by decide +kernel, by decide +kernel, by decide +kernel, rfl⟩,
   ⟨({ up with power.domains := [(0, .ramping)] }), 0, by decide +kernel, by decide +kernel, by decide +kernel⟩,
   ⟨({ up with power.domains := [(88, .ramping)] }), 88, by decide +kernel, by decide +kernel⟩,
   ⟨({ up with power.domains := [(0, .ramping)] }), 0, by decide +kernel, by decide +kernel⟩,
   ⟨({ up with power.domains := [(94, .ramping)] }), by decide +kernel⟩,
   ⟨({ up with boot.ready := 0 }), 0, by decide +kernel, by decide +kernel, by decide +kernel, by decide +kernel, by decide +kernel,
     by decide +kernel, by decide +kernel⟩,
   ⟨({ up with boot.ready := 0 }), 98, by decide +kernel, by decide +kernel, by decide +kernel, by decide +kernel⟩,
   ⟨({ up with boot.stage := 3, power.mode := .rising }), by decide +kernel, by decide +kernel, by decide +kernel, by decide +kernel,
     by decide +kernel⟩⟩

/-- States and operands that meet the hypotheses of each clause of Obligations.ThermalRows. -/
theorem witness_ThermalRows :
    (∃ (s : State) (sample : CalderaSample), s.power.thermtripLow = false ∧ s.power.mode ≠ .reset ∧ s.power.mode ≠ .dormant ∧ (∃ x ∈
      sample.sensors, 460 ≤ x)) ∧
    (∃ (s : State) (sample : CalderaSample), s.power.thermtripLow = false ∧ s.power.mode ≠ .reset ∧ s.power.mode ≠ .dormant ∧ (∀ x ∈
      sample.sensors, x < 460)) ∧
    (∃ (s : State) (region : Nat) (k : Nat), tget s.power.stepping region = some k ∧ s.stepToward region k ≠ s.stepOf region) ∧
    (∃ (s : State) (region : Nat) (k : Nat), tget s.power.stepping region = some k ∧ s.stepToward region k = s.stepOf region) ∧
    (∃ (s : State) (region : Nat), 10000 ≤ tgetD s.power.holdClear region 0) ∧
    (∃ (s : State), 100 ≤ s.power.underRun ∧ 10 ≤ s.power.sinceAction ∧ (∀ r ∈ regions, s.goal r ≤ s.fastest r) ∧ s.power.ceilingC < 232) ∧
    (∃ (s : State) (r : Nat), 100 ≤ s.power.underRun ∧ 10 ≤ s.power.sinceAction ∧ r ∈ regions ∧ s.fastest r < s.goal r ∧ s.power.hold.testBit r =
      false ∧ s.power.shed.testBit r = false ∧ (∀ b ∈ regions, adjacent r b = true → s.goal b ≤ s.goal r + 1) ∧ (∀ q ∈ regions, s.fastest q <
      s.goal q → s.power.hold.testBit q = false → s.power.shed.testBit q = false → (∀ b ∈ regions, adjacent q b = true → s.goal b ≤ s.goal q + 1)
      → s.goal q < s.goal r ∨ s.goal q = s.goal r ∧ r ≤ q)) ∧
    (∃ (s : State), 1000 ≤ s.power.overRun ∧ capAction [] s = none ∧ s.capInForce < s.powerNow) ∧
    (∃ (s : State) (region : Nat), s.power.shed.testBit region = true ∧ s.power.shedDown.testBit region = false) ∧
    (∃ (s : State) (region : Nat), s.power.shedDown.testBit region = true ∧ s.power.shedFault.testBit region = false ∧ 10000 ≤ tgetD
      s.power.shedClear region 0) :=
  ⟨⟨up, ⟨[460], [], 0, []⟩, by decide +kernel, by decide +kernel, by decide +kernel, 460, by decide, by decide⟩,
   ⟨up, ⟨[], [], 0, []⟩, by decide +kernel, by decide +kernel, by decide +kernel, by decide +kernel⟩,
   ⟨({ up with power.stepping := [(2, 1)] }), 2, 1, by decide +kernel, by decide +kernel⟩,
   ⟨({ up with power.stepping := [(2, 1)], power.step := [(2, 1)] }), 2, 1, by decide +kernel, by decide +kernel⟩,
   ⟨({ up with power.holdClear := [(1, 10000)] }), 1, by decide +kernel⟩,
   ⟨({ up with power.underRun := 100, power.sinceAction := 10, power.ceilingC := 231 }), by decide +kernel, by decide +kernel, by decide +kernel,
     by decide +kernel⟩,
   ⟨({ up with power.underRun := 100, power.sinceAction := 10, power.step := [(1, 2)] }), 1, by decide +kernel, by decide +kernel, by
     decide +kernel, by decide +kernel, by decide +kernel, by decide +kernel, by decide +kernel, by decide +kernel⟩,
   ⟨({ up with power.overRun := 1000, power.ceilingC := 64, power.step := [(0, 3), (1, 3), (2, 3), (3, 3)], power.powerHist := [561] }),
     by decide +kernel, by decide +kernel, by decide +kernel⟩,
   ⟨({ up with power.shed := 2 }), 1, by decide +kernel, by decide +kernel⟩,
   ⟨({ up with power.shed := 2, power.shedDown := 2, power.shedClear := [(1, 10000)] }), 1, by decide +kernel, by decide +kernel,
     by decide +kernel⟩⟩

/-- States and operands that meet the hypotheses of each clause of Obligations.ModeRows. -/
theorem witness_ModeRows :
    (∃ (s : State), s.power.moving = true ∧ s.power.target = .reduced) ∧
    (∃ (s : State) (pipe : Nat), s.power.inParked.testBit pipe = true ∧ s.power.egParked.testBit pipe = false ∧ s.domain (32 + pipe) = .on ∧
      s.ingressIdle pipe = true) ∧
    (∃ (s : State) (pipe : Nat), s.power.inParked.testBit pipe = true ∧ s.power.egParked.testBit pipe = true ∧ s.domain (32 + pipe) = .on ∧
      s.domain (48 + pipe) = .on ∧ pipe < 16 ∧ s.ingressIdle pipe = true ∧ s.egressIdle pipe = true) ∧
    (∃ (s : State) (entry : Nat) (e : SchedEntry), tget s.power.schedule entry = some e ∧ e.en = true ∧ s.power.mode ∈ [.full, .reduced, .service]
      ∧ s.power.moving = false) ∧
    (∃ (s : State) (entry : Nat) (e : SchedEntry), tget s.power.schedule entry = some e ∧ e.en = true ∧ (s.power.mode = .rising ∨ s.power.mode =
      .full ∧ s.power.moving = true)) ∧
    (∃ (s : State), s.power.moving = true ∧ s.power.target = .dormant) ∧
    (∃ (s : State), s.power.moving = true ∧ s.power.target = .dormant ∧ s.power.flushed = false ∧ (∀ d < 64, s.domain d = .off) ∧ s.eng.runs = []
      ∧ s.flowIdle = true ∧ (endItems (forEach regions s flushRegion)).stackAwake = true) ∧
    (∃ (s : State) (stack : Nat), stack < 2 ∧ s.power.moving = true ∧ s.power.target = .dormant ∧ s.power.flushed = true ∧ s.hbmIdle = true ∧
      s.stack stack = .ready ∧ s.stack (1 - stack) = .ready) ∧
    (∃ (s : State) (stack : Nat), stack < 2 ∧ s.power.moving = true ∧ s.power.target = .dormant ∧ s.power.flushed = true ∧ s.hbmIdle = true ∧
      s.stack stack = .ready ∧ s.stack (1 - stack) ≠ .ready) ∧
    (∃ (s : State), s.power.moving = true ∧ s.power.target = .dormant ∧ s.power.flushed = false ∧ (∀ d < 64, s.domain d = .off) ∧ s.eng.runs = []
      ∧ s.flowIdle = true ∧ (endItems (forEach regions s flushRegion)).stackAwake = false) ∧
    (∃ (s : State) (cause : Nat), s.power.mode = .dormant ∧ s.wakeCalled cause = true) ∧
    (∃ (s : State) (cause : Nat), s.power.mode = .dormant ∧ s.wakeCalled cause = true) ∧
    (∃ (s : State), s.power.mode = .rising ∧ s.power.waking = true ∧ s.allReported = true ∧ s.power.deferredSched = []) ∧
    (∃ (s : State), s.power.mode = .rising ∧ s.power.waking = true) ∧
    (∃ (s : State) (f : Ocf) (mac : Nat) (tag : Option Nat), s.power.mode = .dormant ∧ s.ocf.held = none ∧ f.transport = .inband mgmtPort mac tag) :=
  ⟨⟨({ up with power.moving := true, power.target := .reduced }), by decide +kernel, by decide +kernel⟩,
   ⟨({ up with power.inParked := 2 }), 1, by decide +kernel, by decide +kernel, by decide +kernel, by decide +kernel⟩,
   ⟨({ up with power.inParked := 2, power.egParked := 2 }), 1, by decide +kernel, by decide +kernel, by decide +kernel, by decide +kernel, by
     decide +kernel, by decide +kernel, by decide +kernel⟩,
   ⟨({ up with power.schedule := [(0, { en := true })] }), 0, _, rfl, by decide +kernel, by decide +kernel, by decide +kernel⟩,
   ⟨({ up with power.mode := .rising, power.schedule := [(0, { en := true })] }), 0, _, rfl, by decide +kernel, by decide +kernel⟩,
   ⟨({ up with power.moving := true, power.target := .dormant }), by decide +kernel, by decide +kernel⟩,
   ⟨({ up with power.moving := true, power.target := .dormant, power.domains := [] }), by decide +kernel, by decide +kernel, by decide +kernel, by
     decide +kernel, by decide +kernel, by decide +kernel, by decide +kernel⟩,
   ⟨({ up with power.moving := true, power.target := .dormant, power.domains := [], power.flushed := true }), 1, by decide +kernel, by
     decide +kernel, by decide +kernel, by decide +kernel, by decide +kernel, by decide +kernel, by decide +kernel⟩,
   ⟨({ up with power.moving := true, power.target := .dormant, power.domains := [], power.flushed := true, hbm.stackStates := [.off, .ready] }),
     1, by decide +kernel, by decide +kernel, by decide +kernel, by decide +kernel, by decide +kernel, by decide +kernel, by decide +kernel⟩,
   ⟨({ up with power.moving := true, power.target := .dormant, power.domains := [], hbm.stackStates := [.off, .off] }), by decide +kernel, by
     decide +kernel, by decide +kernel, by decide +kernel, by decide +kernel, by decide +kernel, by decide +kernel⟩,
   ⟨({ up with power.mode := .dormant, power.wakeReq := [(0, 0)] }), 0, by decide +kernel, by decide +kernel⟩,
   ⟨({ up with power.mode := .dormant, power.wakeReq := [(0, 0)] }), 0, by decide +kernel, by decide +kernel⟩,
   ⟨({ up with power.mode := .rising, power.waking := true }), by decide +kernel, by decide +kernel, by decide +kernel, by decide +kernel⟩,
   ⟨({ up with power.mode := .rising, power.waking := true }), by decide +kernel, by decide +kernel⟩,
   ⟨({ up with power.mode := .dormant }), (({ fr 0 with transport := .inband mgmtPort 0 none })), _, _, by decide +kernel, by decide +kernel,
     rfl⟩⟩

/-- States and operands that meet the hypotheses of each clause of Obligations.FaultRows. -/
theorem witness_FaultRows :
    (∃ (s : State) (cause : Nat), 1 ≤ cause ∧ cause ≤ 7 ∧ s.boot.porstHigh = true ∧ s.boot.safe = false) ∧
    (∃ (s : State), s.boot.safe = true) ∧
    (∃ (s : State), s.running = true) ∧
    (∃ (s : State) (pair : Nat), s.boot.porstHigh = true ∧ s.power.mode ≠ .reset ∧ pair < 4) ∧
    (∃ (s : State) (kind : Nat) (unit : Nat) (uncorrectable : Bool) (u : State), s.running = true ∧ unit < cellCount kind ∧ ¬(kind = 5 ∧ (s.engine
      unit).state = .stopped) ∧ isEvent kind uncorrectable = true ∧ s.boot.injected = [] ∧ u = (let v := if kind = 6 then restartItem false unit s
      else s; logFault 0 kind unit 0 0
      { v with boot.events := tset v.boot.events (cellKey kind unit) ((v.time.localNs :: tgetD v.boot.events (cellKey kind unit) []).take 255) })) ∧
    (∃ (s : State) (kind : Nat) (unit : Nat) (uncorrectable : Bool), s.running = true ∧ unit < cellCount kind ∧ ¬(kind = 5 ∧ (s.engine unit).state
      = .stopped) ∧ isEvent kind uncorrectable = false ∧ s.boot.injected = []) ∧
    (∃ (s : State) (unit : Nat), s.running = true ∧ unit < 32 ∧ (s.engine unit).state = .stopped ∧ (5, unit) ∉ s.boot.retired) ∧
    (∃ (s : State) (unit : Nat), s.running = true ∧ unit < 32 ∧ (s.engine unit).state = .stopped ∧ (5, unit) ∉ s.boot.retired) :=
  ⟨⟨up, 1, by decide +kernel, by decide +kernel, by decide +kernel, by decide +kernel⟩,
   ⟨({ up with boot.safe := true }), by decide +kernel⟩,
   ⟨up, by decide +kernel⟩,
   ⟨up, 0, by decide +kernel, by decide +kernel, by decide +kernel⟩,
   ⟨up, 1, 0, true, _, by decide +kernel, by decide +kernel, by decide +kernel, by decide +kernel, by decide +kernel, rfl⟩,
   ⟨up, 7, 0, false, by decide +kernel, by decide +kernel, by decide +kernel, by decide +kernel, by decide +kernel⟩,
   ⟨({ up with eng.engines := [(31, { state := .stopped })] }), 31, by decide +kernel, by decide +kernel, by decide +kernel, by decide +kernel⟩,
   ⟨({ up with eng.engines := [(31, { state := .stopped })] }), 31, by decide +kernel, by decide +kernel, by decide +kernel, by decide +kernel⟩⟩

/-- States and operands that meet the hypotheses of each clause of Obligations.TimeRows. -/
theorem witness_TimeRows :
    (∃ (s : State), s.time.ppsLast = none) ∧
    (∃ (s : State) (last : Nat), s.time.ppsLast = some last ∧ s.time.ppsValid = true ∧ secondTicks - milliTicks ≤ s.time.now - last ∧ s.time.now -
      last ≤ secondTicks + milliTicks) ∧
    (∃ (s : State) (last : Nat), s.time.ppsLast = some last ∧ (s.time.now - last < secondTicks - milliTicks ∨ secondTicks + milliTicks <
      s.time.now - last)) ∧
    (∃ (hz : Nat), 9999500 ≤ hz ∧ hz ≤ 10000500) ∧
    (∃ (hz : Nat), (hz < 9999500 ∨ 10000500 < hz)) ∧
    (∃ (s : State), s.time.ptpValid = true) ∧
    (∃ (s : State) (port : Nat) (p : PtpPort), tget s.ptp.ports port = some p) ∧
    (∃ (s : State), s.time.state = .holdover) ∧
    (∃ (s : State), s.time.leap61 = true) ∧
    (∃ (s : State), s.time.leap61 = false ∧ s.time.leap59 = true) ∧
    (∃ (s : State) (output : Nat) (o : TimedOutput), tget s.time.outputs output = some o ∧ o.mode = 2 ∧ o.traceableOnly = false) ∧
    (∃ (s : State) (output : Nat) (o : TimedOutput), tget s.time.outputs output = some o ∧ o.mode ≠ 2 ∧ ¬(output = 7 ∧ s.boot.stage = 15)) ∧
    (∃ (s : State) (port : Nat) (p : PtpPort) (msg : PtpMsg), tget s.ptp.ports port = some p ∧ s.running = true ∧ s.isReady 98 = true ∧ s.ptp.type
      ≠ 0 ∧ p.ptpMode = 1 ∧ msgDomain msg ≠ s.ptp.domain) ∧
    (∃ (s : State) (port : Nat) (p : PtpPort) (msg : PtpMsg), tget s.ptp.ports port = some p ∧ s.running = true ∧ s.isReady 98 = true ∧ s.ptp.type
      ≠ 0 ∧ (p.ptpMode = 1 ∧ msgDomain msg = s.ptp.domain ∨ p.ptpMode = 2 ∧ s.ptp.type = 4 ∧ isPeerMsg msg = true) ∧ isEventMsg msg = false) ∧
    (∃ (s : State) (port : Nat) (p : PtpPort) (msg : PtpMsg), tget s.ptp.ports port = some p ∧ s.running = true ∧ s.isReady 98 = true ∧ s.ptp.type
      ≠ 0 ∧ (p.ptpMode = 1 ∧ msgDomain msg = s.ptp.domain ∨ p.ptpMode = 2 ∧ s.ptp.type = 4 ∧ isPeerMsg msg = true) ∧ isEventMsg msg = true ∧
      s.time.localNs - s.ptp.rateStart < 1000000000) ∧
    (∃ (s : State) (port : Nat) (kind : Nat) (p : PtpPort), tget s.ptp.ports port = some p ∧ s.running = true ∧ s.isReady 98 = true ∧ s.ptp.type ≠
      0 ∧ s.ptpTakesPart p kind = true ∧ ptpMaySend s p kind = true) :=
  ⟨⟨up, by decide +kernel⟩,
   ⟨({ up with time.ppsLast := some 0, time.ppsValid := true, time.now := secondTicks }), _, rfl, by decide +kernel, by decide +kernel,
     by decide +kernel⟩,
   ⟨({ up with time.ppsLast := some 0, time.now := secondTicks - milliTicks - 1 }), _, rfl, by decide +kernel⟩,
   ⟨9999500, by decide +kernel, by decide +kernel⟩,
   ⟨0, by decide +kernel⟩,
   ⟨({ up with time.ptpValid := true }), by decide +kernel⟩,
   ⟨({ up with ptp.ports := [(0, {})] }), 0, _, rfl⟩,
   ⟨({ up with time.state := .holdover }), by decide +kernel⟩,
   ⟨({ up with time.leap61 := true }), by decide +kernel⟩,
   ⟨({ up with time.leap59 := true }), by decide +kernel, by decide +kernel⟩,
   ⟨({ up with time.outputs := [(0, { mode := 2 })] }), 0, _, rfl, by decide +kernel, by decide +kernel⟩,
   ⟨({ up with time.outputs := [(0, { mode := 1 })] }), 0, _, rfl, by decide +kernel, by decide +kernel⟩,
   ⟨upPtp, 0, _, (.delayReq 5 0 0 0), rfl, by decide +kernel, by decide +kernel, by decide +kernel, by decide +kernel, by decide +kernel⟩,
   ⟨upPtp, 0, _, (.delayResp 0 1), rfl, by decide +kernel, by decide +kernel, by decide +kernel, by decide +kernel, by decide +kernel⟩,
   ⟨upPtp, 0, _, (.delayReq 0 0 0 0), rfl, by decide +kernel, by decide +kernel, by decide +kernel, by decide +kernel, by decide +kernel, by
     decide +kernel⟩,
   ⟨upPtpMaster, 0, 0, _, rfl, by decide +kernel, by decide +kernel, by decide +kernel, by decide +kernel, by decide +kernel⟩⟩

/-- States and operands that meet the hypotheses of each clause of Obligations.DiscoveryRows. -/
theorem witness_DiscoveryRows :
    (∃ (s : State) (port : Nat), s.running = true ∧ (s.lldp port).tx = true ∧ s.ports.up.testBit port = true) ∧
    (∃ (s : State) (port : Nat) (pdu : LldpPdu), s.running = true ∧ (s.lldp port).rx = true ∧ pdu.ttl ≠ 0 ∧ pdu.member = none ∧
      s.disc.neighbours.find? (sameNeighbour port pdu.chassis) = none ∧ s.disc.neighbours.length < 1024 ∧ (s.disc.neighbours.filter (fun n =>
      n.port = port)).length < 4) ∧
    (∃ (s : State) (port : Nat) (pdu : LldpPdu), s.running = true ∧ (s.lldp port).rx = true ∧ pdu.ttl ≠ 0 ∧ pdu.member = none ∧
      s.disc.neighbours.find? (sameNeighbour port pdu.chassis) = none ∧ (1024 ≤ s.disc.neighbours.length ∨ 4 ≤ (s.disc.neighbours.filter (fun n =>
      n.port = port)).length)) ∧
    (∃ (s : State) (port : Nat) (pdu : LldpPdu), s.running = true ∧ (s.lldp port).rx = true ∧ pdu.ttl = 0 ∧ (∃ n ∈ s.disc.neighbours,
      sameNeighbour port pdu.chassis n = true)) ∧
    (∃ (s : State) (port : Nat) (chassis : Nat), (∃ n ∈ s.disc.neighbours, sameNeighbour port chassis n = true)) ∧
    (∃ (s : State) (device : Nat) (m : Member), tget s.disc.members device = some m) ∧
    (∃ (s : State) (slot : Nat) (poll : OpticsRead) (o : OpticsSlot), s.running = true ∧ tget s.disc.optics slot = some o ∧ poll.ack = true ∧
      poll.identifier ≠ 0 ∧ o.present = false ∧ (poll.cmis = true → poll.moduleState ≠ 5)) ∧
    (∃ (s : State) (slot : Nat) (poll : OpticsRead) (o : OpticsSlot), s.running = true ∧ tget s.disc.optics slot = some o ∧ poll.ack = false ∧
      o.present = true ∧ o.missed < 2) ∧
    (∃ (s : State) (slot : Nat) (poll : OpticsRead) (o : OpticsSlot), s.running = true ∧ tget s.disc.optics slot = some o ∧ poll.ack = false ∧
      o.present = true ∧ o.missed = 2) :=
  ⟨⟨upLldp, 0, by decide +kernel, by decide +kernel, by decide +kernel⟩,
   ⟨upLldp, 0, (⟨1, 1, 120, none⟩), by decide +kernel, by decide +kernel, by decide +kernel, by decide +kernel, by decide +kernel,
     by decide +kernel, by decide +kernel⟩,
   ⟨({ upLldp with disc.neighbours := List.replicate 4 neighbourA }), 0, (⟨2, 1, 120, none⟩), by decide +kernel, by decide +kernel,
     by decide +kernel, by decide +kernel, by decide +kernel, by decide +kernel⟩,
   ⟨({ upLldp with disc.neighbours := [neighbourA] }), 0, (⟨1, 1, 0, none⟩), by decide +kernel, by decide +kernel, by decide +kernel,
     by decide +kernel⟩,
   ⟨({ upLldp with disc.neighbours := [neighbourA] }), 0, 1, by decide +kernel⟩,
   ⟨upMember, 1, _, rfl⟩,
   ⟨upOptics, 0, (⟨true, 24, true, 3, []⟩), _, by decide +kernel, rfl, by decide +kernel, by decide +kernel, by decide +kernel,
     by decide +kernel⟩,
   ⟨upOptics, 1, (⟨false, 0, false, 0, []⟩), _, by decide +kernel, rfl, by decide +kernel, by decide +kernel, by decide +kernel⟩,
   ⟨upOptics, 2, (⟨false, 0, false, 0, []⟩), _, by decide +kernel, rfl, by decide +kernel, by decide +kernel, by decide +kernel⟩⟩

/-- States and operands that meet the hypotheses of each clause of Obligations.MailboxRows. -/
theorem witness_MailboxRows :
    (∃ (s : State) (c : Nat), s.hostReach = true ∧ s.chOpen c = true ∧ (s.chan c).inQ.length < 256) ∧
    (∃ (s : State) (c : Nat), s.hostReach = true ∧ s.chOpen c = true ∧ (s.chan c).inQ.length < 256 ∧ (s.chan c).broken = false) ∧
    (∃ (s : State) (c : Nat), s.hostReach = true ∧ s.chOpen c = true ∧ 256 ≤ (s.chan c).inQ.length) ∧
    (∃ (s : State) (c : Nat), s.hostReach = true ∧ s.chOpen c = true ∧ 256 ≤ (s.chan c).inQ.length) ∧
    (∃ (s : State) (c : Nat), s.hostReach = true ∧ s.chOpen c = false) ∧
    (∃ (s : State) (c : Nat) (m : OutMsg) (ms : List OutMsg) (w : Nat) (w' : Nat) (ws : List Nat), s.hostReach = true ∧ s.chOpen c = true ∧
      (s.chan c).outQ = m :: ms ∧ m.words = w :: w' :: ws) ∧
    (∃ (s : State) (c : Nat) (m : OutMsg) (ms : List OutMsg) (w : Nat), s.hostReach = true ∧ s.chOpen c = true ∧ (s.chan c).outQ = m :: ms ∧
      m.words = [w]) ∧
    (∃ (s : State) (c : Nat), s.hostReach = true ∧ s.chOpen c = true ∧ (s.chan c).outQ = []) ∧
    (∃ (s : State) (c : Nat) (m : OutMsg) (ms : List OutMsg), s.running = true ∧ s.isReady (84 + c / 4) = true ∧ (s.chan c).waiting = m :: ms ∧
      (s.chan c).outCount + m.len ≤ 256) ∧
    (∃ (s : State) (c : Nat), s.hostReach = true ∧ s.chOpen c = true) ∧
    (∃ (s : State), s.hostReach = true ∧ s.barOpen = true) ∧
    (∃ (s : State) (d : Nat), s.running = true ∧ (16 ≤ d ∨ s.isReady (84 + d / 4) = true)) ∧
    (∃ (s : State) (len : Nat), s.hostReach = true ∧ s.barOpen = true ∧ s.host.cmb.full = false ∧ len < 128) ∧
    (∃ (s : State) (index : Nat), s.hostReach = true ∧ s.barOpen = true ∧ s.host.cmb.full = true ∧ index < 64) ∧
    (∃ (s : State), s.hostReach = true ∧ s.barOpen = true) ∧
    (∃ (s : State), s.running = true ∧ s.host.cmb.full = true ∧ s.compatIdle = true) :=
  ⟨⟨up, 0, by decide +kernel, by decide +kernel, by decide +kernel⟩,
   ⟨up, 0, by decide +kernel, by decide +kernel, by decide +kernel, by decide +kernel⟩,
   ⟨upChan, 0, by decide +kernel, by decide +kernel, by decide +kernel⟩,
   ⟨upChan, 0, by decide +kernel, by decide +kernel, by decide +kernel⟩,
   ⟨up, 60, by decide +kernel, by decide +kernel⟩,
   ⟨upChan, 1, _, _, _, _, _, by decide +kernel, by decide +kernel, rfl, rfl⟩,
   ⟨upChan, 2, _, _, _, by decide +kernel, by decide +kernel, rfl, rfl⟩,
   ⟨up, 0, by decide +kernel, by decide +kernel, by decide +kernel⟩,
   ⟨upChan, 3, _, _, by decide +kernel, by decide +kernel, rfl, by decide +kernel⟩,
   ⟨up, 0, by decide +kernel, by decide +kernel⟩,
   ⟨up, by decide +kernel, by decide +kernel⟩,
   ⟨up, 0, by decide +kernel, by decide +kernel⟩,
   ⟨up, 0, by decide +kernel, by decide +kernel, by decide +kernel, by decide +kernel⟩,
   ⟨({ up with host.cmb.full := true }), 63, by decide +kernel, by decide +kernel, by decide +kernel, by decide +kernel⟩,
   ⟨up, by decide +kernel, by decide +kernel⟩,
   ⟨({ up with host.cmb.full := true }), by decide +kernel, by decide +kernel, by decide +kernel⟩⟩

/-- States and operands that meet the hypotheses of each clause of Obligations.InterruptRows. -/
theorem witness_InterruptRows :
    (∃ (s : State) (g : Nat), s.hostReach = true ∧ g < 64) ∧
    (∃ (s : State), s.hostReach = true) ∧
    (∃ (s : State) (g : Nat) (src : Nat), s.hostReach = true ∧ s.serviceOf g = none ∧ (groupSources g).find? s.intPending = some src) ∧
    (∃ (s : State) (g : Nat), s.hostReach = true ∧ s.serviceOf g = none ∧ (∀ src ∈ groupSources g, s.intPending src = false)) ∧
    (∃ (s : State) (g : Nat) (v : Service), s.hostReach = true ∧ s.serviceOf g = some v) ∧
    (∃ (s : State) (g : Nat) (v : Service), s.hostReach = true ∧ s.serviceOf g = some v) ∧
    (∃ (s : State) (g : Nat) (src : Nat), s.hostReach = true ∧ (∀ v, s.serviceOf g = some v → v.source ≠ src)) ∧
    (∃ (s : State) (g : Nat), s.groupSends g = true ∧ s.host.linkGen ≠ 0 ∧ s.host.lpm ≤ 1 ∧ (s.groupCfg g).holdoff ≠ 0 ∧ (tgetD s.host.msix
      (s.groupCfg g).vector {}).masked = false) ∧
    (∃ (s : State) (g : Nat), s.groupSends g = true ∧ s.host.linkGen ≠ 0 ∧ s.host.lpm ≤ 1 ∧ (s.groupCfg g).holdoff = 0 ∧ (tgetD s.host.msix
      (s.groupCfg g).vector {}).masked = true) ∧
    (∃ (s : State) (g : Nat), s.groupWants g = true ∧ s.host.linkGen ≠ 0 ∧ s.host.lpm ≤ 1 ∧ s.host.dstate = 3 ∧ (s.groupCfg g).wakeEn = true ∧
      s.host.pmeEn = true ∧ s.host.pmeStatus = false) ∧
    (∃ (s : State) (v : Nat), s.hostReach = true ∧ s.host.pba.testBit v = true ∧ s.host.msixEnable = true ∧ s.host.dstate = 0) ∧
    (∃ (s : State) (e : Nat) (rising : Bool), e < 32 ∧ s.host.evt.filterClock = true ∧ (s.evtCfg e).en = true ∧ (s.evtCfg e).selects rising =
      true ∧ s.time.stamps.length < 256) ∧
    (∃ (s : State) (e : Nat), s.host.evt.filterClock = true ∧ (s.evtCfg e).en = false) ∧
    (∃ (s : State) (e : Nat) (rising : Bool), s.host.evt.filterClock = false ∧ (s.evtCfg e).en = true ∧ (s.evtCfg e).asyncEn = true ∧ (s.evtCfg
      e).selects rising = true) :=
  ⟨⟨up, 0, by decide +kernel, by decide +kernel⟩,
   ⟨up, by decide +kernel⟩,
   ⟨upInt, 17, _, by decide +kernel, by decide +kernel, rfl⟩,
   ⟨up, 0, by decide +kernel, by decide +kernel, by decide +kernel⟩,
   ⟨upServ, 17, _, by decide +kernel, rfl⟩,
   ⟨upServ, 17, _, by decide +kernel, rfl⟩,
   ⟨up, 0, 0, by decide +kernel, by decide +kernel⟩,
   ⟨({ upInt with host.msix := [(17, { masked := false })], host.int.cfg := [(17, { vector := 17, holdoff := 1 })] }), 17, by decide +kernel,
     by decide +kernel, by decide +kernel, by decide +kernel, by decide +kernel⟩,
   ⟨upInt, 17, by decide +kernel, by decide +kernel, by decide +kernel, by decide +kernel, by decide +kernel⟩,
   ⟨({ upInt with host.dstate := 3, host.pmeEn := true, host.int.cfg := [(17, { vector := 17, wakeEn := true })] }), 17, by decide +kernel,
     by decide +kernel, by decide +kernel, by decide +kernel, by decide +kernel, by decide +kernel, by decide +kernel⟩,
   ⟨({ upInt with host.pba := 1 }), 0, by decide +kernel, by decide +kernel, by decide +kernel, by decide +kernel⟩,
   ⟨({ up with host.evt.cfg := [(0, { en := true, edge := 1 })] }), 0, false, by decide +kernel, by decide +kernel, by decide +kernel,
     by decide +kernel, by decide +kernel⟩,
   ⟨up, 0, by decide +kernel, by decide +kernel⟩,
   ⟨({ up with host.evt.filterClock := false, host.evt.cfg := [(0, { en := true, edge := 1, asyncEn := true })] }), 0, false, by decide +kernel,
     by decide +kernel, by decide +kernel, by decide +kernel⟩⟩

/-- States and operands that meet the hypotheses of each clause of Obligations.RegisterRows. -/
theorem witness_RegisterRows :
    (∃ (s : State), s.hostReach = true) ∧
    (∃ (s : State) (c : Nat), s.hostReach = true ∧ s.chOpen c = true) ∧
    (∃ (s : State) (c : Nat), s.hostReach = true ∧ s.chOpen c = true) ∧
    (∃ (s : State) (c : Nat), s.hostReach = true ∧ s.chOpen c = true) ∧
    (∃ (s : State), s.hostReach = true ∧ s.barOpen = true) ∧
    (∃ (s : State), s.hostReach = true ∧ s.barOpen = true) ∧
    (∃ (s : State), s.hostReach = true) ∧
    (∃ (s : State), s.hostReach = true) ∧
    (∃ (s : State), s.hostReach = true ∧ s.barOpen = true) ∧
    (∃ (s : State), s.hostReach = true ∧ s.barOpen = false) ∧
    (∃ (s : State), s.hostReach = true ∧ s.barOpen = true) ∧
    (∃ (s : State), s.hostReach = true ∧ s.barOpen = true) ∧
    (∃ (s : State), s.hostReach = true ∧ s.barOpen = true) ∧
    (∃ (s : State), s.hostReach = true ∧ s.barOpen = true) ∧
    (∃ (s : State), s.hostReach = true ∧ s.barOpen = true) ∧
    (∃ (s : State) (tx : Bool) (i : Nat) (tail : Nat), s.hostReach = true ∧ s.barOpen = true ∧ tail < 2 ^ (s.ring tx i).sizeLog2) ∧
    (∃ (s : State) (g : Nat), s.hostReach = true ∧ g < 64) ∧
    (∃ (s : State) (off : Nat), s.hostReach = true ∧ s.barOpen = true ∧ off % 4 = 0 ∧ 0x90000 ≤ off) ∧
    (∃ (off : Nat), off % 4 ≠ 0) ∧
    (∃ (s : State), s.host.perstHigh = false ∧ s.power.mode ≠ .dormant) ∧
    (∃ (s : State), s.power.mode = .dormant) ∧
    (∃ (s : State), s.hostReach = true) ∧
    (∃ (s : State), s.hostReach = true) ∧
    (∃ (s : State) (gen : Nat), s.power.mode ≠ .dormant ∧ gen ≠ 0) ∧
    (∃ (s : State), s.power.mode ≠ .dormant) ∧
    (∃ (s : State), s.power.mode = .dormant) ∧
    (∃ (s : State), s.boot.heldSafe = true ∧ s.boot.porstHigh = true) ∧
    (∃ (s : State), s.flash.stepping < 16) ∧
    (∃ (s : State), s.roles.lifecycle = .factory) ∧
    (∃ (s : State), s.roles.lifecycle = .field) ∧
    (∃ (s : State), s.roles.lifecycle = .returned ∧ s.flash.wipeDone = true) ∧
    (∃ (s : State), s.roles.lifecycle = .void) :=
  ⟨⟨up, by decide +kernel⟩,
   ⟨up, 0, by decide +kernel, by decide +kernel⟩,
   ⟨up, 0, by decide +kernel, by decide +kernel⟩,
   ⟨up, 0, by decide +kernel, by decide +kernel⟩,
   ⟨up, by decide +kernel, by decide +kernel⟩,
   ⟨up, by decide +kernel, by decide +kernel⟩,
   ⟨up, by decide +kernel⟩,
   ⟨up, by decide +kernel⟩,
   ⟨up, by decide +kernel, by decide +kernel⟩,
   ⟨({ up with boot.sysrstHigh := false }), by decide +kernel, by decide +kernel⟩,
   ⟨up, by decide +kernel, by decide +kernel⟩,
   ⟨up, by decide +kernel, by decide +kernel⟩,
   ⟨up, by decide +kernel, by decide +kernel⟩,
   ⟨up, by decide +kernel, by decide +kernel⟩,
   ⟨up, by decide +kernel, by decide +kernel⟩,
   ⟨up, true, 0, 0, by decide +kernel, by decide +kernel, by decide +kernel⟩,
   ⟨up, 0, by decide +kernel, by decide +kernel⟩,
   ⟨up, 1000000, by decide +kernel, by decide +kernel, by decide +kernel, by decide +kernel⟩,
   ⟨1, by decide +kernel⟩,
   ⟨({ up with host.perstHigh := false }), by decide +kernel, by decide +kernel⟩,
   ⟨({ up with power.mode := .dormant }), by decide +kernel⟩,
   ⟨up, by decide +kernel⟩,
   ⟨up, by decide +kernel⟩,
   ⟨up, 1, by decide +kernel, by decide +kernel⟩,
   ⟨up, by decide +kernel⟩,
   ⟨({ up with power.mode := .dormant }), by decide +kernel⟩,
   ⟨({ up with boot.heldSafe := true }), by decide +kernel, by decide +kernel⟩,
   ⟨up, by decide +kernel⟩,
   ⟨up, by decide +kernel⟩,
   ⟨upField, by decide +kernel⟩,
   ⟨({ up with roles.lifecycle := .returned, flash.wipeDone := true }), by decide +kernel, by decide +kernel⟩,
   ⟨({ up with roles.lifecycle := .void }), by decide +kernel⟩⟩

/-- States and operands that meet the hypotheses of each clause of Obligations.IngressRows. -/
theorem witness_IngressRows :
    (∃ (s : State) (port : Nat) (data : Bytes), s.ingressReady (pipeOfPort port) = true ∧ (portKind port = 0 ∧ (tget s.ports.cfg port).isSome =
      true ∧ s.linkUp port = true ∨ port = mgmtPort) ∧ 60 ≤ data.length ∧ data.length + 4 ≤ s.mtuOf port ∧ s.ingressFits (regionOfPort port) port
      (cellsOf data.length) = true) ∧
    (∃ (s : State) (port : Nat) (data : Bytes), s.ingressReady (pipeOfPort port) = true ∧ (portKind port = 0 ∧ (tget s.ports.cfg port).isSome =
      true ∧ s.linkUp port = true ∨ port = mgmtPort) ∧ 60 ≤ data.length ∧ data.length + 4 ≤ s.mtuOf port ∧ s.ingressFits (regionOfPort port) port
      (cellsOf data.length) = false ∧ (s.priorityOf port data).2 = false) ∧
    (∃ (s : State) (port : Nat) (data : Bytes) (prio : Nat), s.ingressReady (pipeOfPort port) = true ∧ (portKind port = 0 ∧ (tget s.ports.cfg
      port).isSome = true ∧ s.linkUp port = true ∨ port = mgmtPort) ∧ 60 ≤ data.length ∧ data.length + 4 ≤ s.mtuOf port ∧ s.ingressFits
      (regionOfPort port) port (cellsOf data.length) = false ∧ s.priorityOf port data = (prio, true) ∧ s.headroomFits port prio (cellsOf
      data.length) = true) ∧
    (∃ (s : State) (port : Nat) (data : Bytes) (prio : Nat), s.ingressReady (pipeOfPort port) = true ∧ (portKind port = 0 ∧ (tget s.ports.cfg
      port).isSome = true ∧ s.linkUp port = true ∨ port = mgmtPort) ∧ 60 ≤ data.length ∧ data.length + 4 ≤ s.mtuOf port ∧ s.ingressFits
      (regionOfPort port) port (cellsOf data.length) = false ∧ s.priorityOf port data = (prio, true) ∧ s.headroomFits port prio (cellsOf
      data.length) = false) ∧
    (∃ (s : State) (port : Nat) (data : Bytes) (fcsOk : Bool), s.ingressReady (pipeOfPort port) = true ∧ (portKind port = 0 ∧ (tget s.ports.cfg
      port).isSome = true ∧ s.linkUp port = true ∨ port = mgmtPort) ∧ (data.length < 60 ∨ s.mtuOf port < data.length + 4 ∨ fcsOk = false)) ∧
    (∃ (s : State) (port : Nat) (prio : Nat), (8 * port + prio) ∈ s.buf.xoff ∧ (s.pfcCfg port).mode = 2 ∧ (s.pfcCfg port).xon ≤ tgetD s.buf.u (8 *
      port + prio) 0) ∧
    (∃ (s : State) (pipe : Nat) (port : Nat) (f : Frame) (rest : List Frame), s.ingressReady pipe = true ∧ (s.pipe pipe).nextPort pipe = some port
      ∧ takeFirst (fun g => g.port = port) (s.pipe pipe).wait = some (f, rest)) ∧
    (∃ (s : State) (pipe : Nat) (port : Nat) (f : Frame) (rest : List Frame), s.ingressReady pipe = true ∧ (s.pipe pipe).nextPort pipe = some port
      ∧ takeFirst (fun g => g.port = port) (s.pipe pipe).wait = some (f, rest)) ∧
    (∃ (s : State) (pipe : Nat) (port : Nat) (f : Frame) (rest : List Frame) (k : Nat), s.ingressReady pipe = true ∧ (s.pipe pipe).nextPort pipe =
      some port ∧ takeFirst (fun g => g.port = port) (s.pipe pipe).wait = some (f, rest) ∧ (parsePass (s.pipe pipe).active f.start f.data).exc = 0
      ∧ s.controlMatch f.orig (parsePass (s.pipe pipe).active f.start f.data) f.data = some (k, false)) ∧
    (∃ (s : State) (opcode : Nat) (f : Ocf) (mac : Nat) (tag : Option Nat) (port : Nat), s.power.mode ≠ .dormant ∧ s.accepts = true ∧
      s.ocf.intake.length < 64 ∧ f.transport = .inband port mac tag ∧ headerError f = none ∧ f.isDma = false ∧ definedOpcode opcode = true) ∧
    (∃ (s : State) (f : Ocf) (mac : Nat) (tag : Option Nat) (port : Nat), s.power.mode ≠ .dormant ∧ s.accepts = false ∧ f.transport = .inband port
      mac tag) ∧
    (∃ (s : State) (pipe : Nat) (id : Nat) (d : Desc) (res : FlowResult), s.waitingDesc pipe id = some d ∧ tget (s.pipe pipe).results id = some
      res) ∧
    (∃ (s : State) (pipe : Nat) (id : Nat) (d : Desc) (t : TemplateP), s.waitingDesc pipe id = some d ∧ tget (s.pipe pipe).results id = none ∧
      d.tmpl = some t) ∧
    (∃ (s : State) (pipe : Nat) (port : Nat) (d : Desc) (rest : List Desc), takeFirst (fun e => e.frame.port = port) (s.pipe pipe).desc = some (d,
      rest) ∧ d.waiting = false) ∧
    (∃ (s : State) (pipe : Nat) (port : Nat) (d : Desc) (rest : List Desc), takeFirst (fun e => e.frame.port = port) (s.pipe pipe).desc = some (d,
      rest) ∧ d.waiting = true) ∧
    (∃ (s : State) (o : OriginFrame) (rest : List OriginFrame), s.ocf.origin = o :: rest ∧ s.running = true ∧ s.ingressFits 0 hostPort (cellsOf
      (padFrame o.data).length) = true) ∧
    (∃ (s : State) (pipe : Nat) (addr : Nat) (e : TcamEntry), tget (s.pipe pipe).tcam addr = some e) :=
  ⟨⟨up, 0, (List.replicate 60 0#8), by decide +kernel, by decide +kernel, by decide +kernel, by decide +kernel, by decide +kernel⟩,
   ⟨({ up with buf.cfg.regions := [(0, { ingressPool := 0 })] }), 0, (List.replicate 60 0#8), by decide +kernel, by decide +kernel, by
     decide +kernel, by decide +kernel, by decide +kernel, by decide +kernel⟩,
   ⟨({ up with buf.cfg.regions := [(0, { ingressPool := 0 })], buf.cfg.pfc := [(0, { mode := 2, lossless := 1, headroom := 100 })] }), 0,
     (List.replicate 60 0#8), 0, by decide +kernel, by decide +kernel, by decide +kernel, by decide +kernel, by decide +kernel, by decide +kernel,
     by decide +kernel⟩,
   ⟨({ up with buf.cfg.regions := [(0, { ingressPool := 0 })], buf.cfg.pfc := [(0, { mode := 2, lossless := 1, headroom := 0 })] }), 0,
     (List.replicate 60 0#8), 0, by decide +kernel, by decide +kernel, by decide +kernel, by decide +kernel, by decide +kernel, by decide +kernel,
     by decide +kernel⟩,
   ⟨up, 0, [], true, by decide +kernel, by decide +kernel, by decide +kernel⟩,
   ⟨({ up with buf.xoff := [0], buf.cfg.pfc := [(0, { mode := 2 })] }), 0, 0, by decide +kernel, by decide +kernel, by decide +kernel⟩,
   ⟨({ up with cls.pipes := [(0, { wait := [frameA] })] }), 0, _, _, _, by decide +kernel, rfl, rfl⟩,
   ⟨({ up with cls.pipes := [(0, { wait := [frameA] })] }), 0, _, _, _, by decide +kernel, rfl, rfl⟩,
   ⟨({ up with cls.pipes := [(0, { wait := [{ frameA with data := ocfFrame }] })] }), 0, _, _, _, _, by decide +kernel, rfl, rfl,
     by decide +kernel, rfl⟩,
   ⟨up, 0x0101, (({ fr 0 with transport := .inband mgmtPort 0 none })), _, _, _, by decide +kernel, by decide +kernel, by decide +kernel, rfl,
     by decide +kernel, by decide +kernel, by decide +kernel⟩,
   ⟨State.reset, ⟨0, 0, 0, 0, 0, 0, 0, 0, 0, 0, 0, 0, [], [], Transport.inband 0 0 none, 0, none⟩, 0, none, 0, by decide +kernel,
     by decide +kernel, rfl⟩,
   ⟨({ up with cls.pipes := [(0, { desc := [{ descA with waiting := true }], results := [(1, .missCt)] })] }), 0, 1, _, _, rfl, rfl⟩,
   ⟨({ full with cls.pipes := [(0, { desc := [{ descA with waiting := true, tmpl := some templateA }] })] }), 0, 1, _, _, rfl, by decide +kernel,
     rfl⟩,
   ⟨({ up with cls.pipes := [(0, { desc := [descA] })] }), 0, 0, _, _, rfl, by decide +kernel⟩,
   ⟨({ up with cls.pipes := [(0, { desc := [{ descA with waiting := true }] })] }), 0, 0, _, _, rfl, by decide +kernel⟩,
   ⟨({ up with ocf.origin := [{ port := 0, tc := 0, data := [] }] }), _, _, rfl, by decide +kernel, by decide +kernel⟩,
   ⟨full, 0, 0, _, rfl⟩⟩

theorem putHost_allReached (n : Nat) (e : HostEntry) (s : State) : (putHost n e s).allReached = s.allReached := by
  have h : (beginUpdate s).boot = s.boot := by unfold beginUpdate; split <;> rfl
  have r (s : State) : (raise 189 s).boot = s.boot := by unfold raise; split; rfl; split <;> rfl
  have b : (putHost n e s).boot = s.boot := by
    unfold putHost
    dsimp only
    split
    · exact (r _).trans h
    · exact h
  unfold State.allReached State.reaches State.isReady
  rw [b]

theorem hostWrite_waits (k : Book) : ((bodyHostEntryWrite (fr 24) ⟨1, 4, 0x0A000001, 0⟩).apply (upLate.book k)).st.allReached =
    false := by
  simp only [bodyHostEntryWrite]
  have h : (upLate.book k).hostFind 1 ((4:Nat) = 6) 0x0A000001 = some (0, hostA) :=
    (by unfold State.hostFind; rfl : _ = upLate.hostFind 1 ((4:Nat) = 6) 0x0A000001).trans (by decide +kernel)
  rw [h]
  exact (putHost_allReached ..).trans (by decide +kernel : upLate.allReached = false)

/-- States and operands that meet the hypotheses of each clause of Obligations.LearningRows. -/
theorem witness_LearningRows :
    (∃ (s : State) (ev : LearnEvent) (rest : List LearnEvent) (t : State), s.fwd.queue = ev :: rest ∧ s.isReady 96 = true ∧ s.macFind ev.fid
      ev.mac = none ∧ insertMac
      { destType := ev.destType, dest := ev.dest, fid := ev.fid, mac := ev.mac, learnDev := s.ocf.deviceId, stampS := ev.stamp / 1000000000, stampNs := ev.stamp % 1000000000, unsync := ev.unsync }
      { s with fwd.queue := rest } = some t ∧ t.shares ev.fid = false) ∧
    (∃ (s : State) (ev : LearnEvent) (rest : List LearnEvent) (k : Nat) (e : MacEntry), s.fwd.queue = ev :: rest ∧ s.isReady 96 = true ∧ s.macFind
      ev.fid ev.mac = some (k, e) ∧ e.static = true ∧ e.destType = ev.destType ∧ e.dest = ev.dest) ∧
    (∃ (s : State) (fid : Nat) (mac : Nat), s.macFind fid mac = none) ∧
    (∃ (s : State) (fid : Nat) (mac : Nat) (k : Nat) (e : MacEntry), s.macFind fid mac = some (k, e) ∧ e.pinned = false) ∧
    (∃ (s : State) (fid : Nat) (mac : Nat) (k : Nat) (e : MacEntry), s.macFind fid mac = some (k, e) ∧ e.pinned = true) ∧
    (∃ (s : State) (fid : Nat) (mac : Nat) (k : Nat) (e : MacEntry), s.macFind fid mac = some (k, e) ∧ e.pinned = true) ∧
    (∃ (s : State) (position : Nat) (e : MacEntry), s.fwd.queue = [] ∧ tget s.fwd.mac position = some e ∧ e.static = true) ∧
    (∃ (s : State) (position : Nat) (e : MacEntry), s.fwd.queue = [] ∧ tget s.fwd.mac position = some e ∧ e.static = false ∧ e.hit = 0 ∧ e.ageCnt
      < 3) ∧
    (∃ (s : State) (position : Nat) (e : MacEntry), s.fwd.queue = [] ∧ tget s.fwd.mac position = some e ∧ e.static = false ∧ e.hit ≠ 0 ∧ s.shares
      e.fid = false) ∧
    (∃ (s : State) (position : Nat) (e : MacEntry), s.fwd.queue = [] ∧ tget s.fwd.mac position = some e ∧ e.static = false ∧ e.pinned = false ∧
      e.hit = 0 ∧ 3 ≤ e.ageCnt ∧ s.shares e.fid = false) ∧
    (∃ (s : State) (dest : Option Nat) (r : LearnRecord) (more : List (Option Nat × LearnRecord)), nextBatch s.fwd.outbox = (dest, r) :: more ∧
      s.fwd.exchanged = true ∧ s.fab.cfg.enable = false ∧ s.fwd.sharePorts = []) ∧
    (∃ (s : State) (r : LearnRecord) (port : Nat), s.fwd.outbox = [(none, r)] ∧ s.fwd.exchanged = true ∧ s.fab.cfg.enable = false ∧
      s.fwd.sharePorts = [port]) ∧
    (∃ (s : State) (old : List Nat) (rest : List (List Nat)), s.fwd.trie.replaced = old :: rest) ∧
    (∃ (s : State), s.fwd.trie.replaced = []) ∧
    (∃ (s : State) (r : Nat), r ∈ regions ∧ s.reaches r = false) ∧
    (∃ (s : State) (r : Nat), r ∈ regions ∧ s.reaches r = false) ∧
    (∃ (s : State) (r : Nat), s.reaches r = true ∧ tget s.fwd.behind r = none) ∧
    (∃ (s : State) (r : Nat), s.reaches r = true ∧ tget s.fwd.behind r = none) ∧
    (∃ (c : Instr) (s : State) (h : Ocf) (b : Body), frameOf c = some (h, b) ∧ Taken s h b.opcode true false h.length ∧ b.changes = true ∧
      b.pending = false ∧ b.toFactory = false ∧ tableOpcode b.opcode = true ∧ (∀ k : Book, ownError h b (s.book k) (s.book k) = none ∧ (b.apply
      (s.book k)).waits = none ∧ (b.apply (s.book k)).st.allReached = false)) ∧
    (∃ (s : State), s.allReached = false) ∧
    (∃ (s : State) (w : TableWait), s.allReached = true ∧ s.ocf.tableWaits = [w] ∧ (∀ e ∈ s.fwd.behind, e.1 ≤ 3)) :=
  ⟨⟨({ up with fwd.queue := [evA] }), _, _, _, rfl, by decide +kernel, by decide +kernel, rfl, by decide +kernel⟩,
   ⟨({ up with fwd.queue := [evA], fwd.mac := [(0, { macA with static := true, mac := 2, dest := 0 })] }), _, _, _, _, rfl, by decide +kernel,
     rfl, by decide +kernel, by decide +kernel, by decide +kernel⟩,
   ⟨up, 0, 0, by decide +kernel⟩,
   ⟨({ up with fwd.mac := [(0, { macA with pinned := false })] }), 1, 0x020000000001, _, _, rfl, by decide +kernel⟩,
   ⟨full, 1, 0x020000000001, _, _, rfl, by decide +kernel⟩,
   ⟨full, 1, 0x020000000001, _, _, rfl, by decide +kernel⟩,
   ⟨({ up with fwd.mac := [(0, { macA with static := true })] }), 0, _, by decide +kernel, rfl, by decide +kernel⟩,
   ⟨({ up with fwd.mac := [(0, { macA with ageCnt := 2 })] }), 0, _, by decide +kernel, rfl, by decide +kernel, by decide +kernel,
     by decide +kernel⟩,
   ⟨({ up with fwd.mac := [(0, { macA with hit := 1 })] }), 0, _, by decide +kernel, rfl, by decide +kernel, by decide +kernel,
     by decide +kernel⟩,
   ⟨({ up with fwd.mac := [(0, { macA with pinned := false, ageCnt := 3 })] }), 0, _, by decide +kernel, rfl, by decide +kernel,
     by decide +kernel, by decide +kernel, by decide +kernel, by decide +kernel⟩,
   ⟨({ up with fwd.outbox := [(none, learnA)], fwd.exchanged := true }), _, _, _, rfl, by decide +kernel, by decide +kernel, by decide +kernel⟩,
   ⟨({ up with fwd.outbox := [(none, learnA)], fwd.exchanged := true, fwd.sharePorts := [0] }), _, _, rfl, by decide +kernel, by decide +kernel,
     rfl⟩,
   ⟨({ up with fwd.trie.replaced := [[3]] }), _, _, rfl⟩,
   ⟨up, by decide +kernel⟩,
   ⟨upLate, 3, by decide +kernel, by decide +kernel⟩,
   ⟨upLate, 3, by decide +kernel, by decide +kernel⟩,
   ⟨up, 3, by decide +kernel, by decide +kernel⟩,
   ⟨up, 3, by decide +kernel, by decide +kernel⟩,
   ⟨(.hostEntryWrite (fr 24) ⟨1, 4, 0x0A000001, 0⟩), upLate, _, _, rfl, takenOf (by decide +kernel), by decide +kernel, by decide +kernel, by
     decide +kernel, by decide +kernel, fun k => ⟨rfl, rfl, hostWrite_waits k⟩⟩,
   ⟨upLate, by decide +kernel⟩,
   ⟨({ up with ocf.tableWaits := [waitA], fwd.behind := [(3, ⟨[], [], {}⟩)] }), waitA, by decide +kernel, by decide +kernel, by decide +kernel⟩⟩

/-- States and operands that meet the hypotheses of each clause of Obligations.EgressRows. -/
theorem witness_EgressRows :
    (∃ (s : State) (pipe : Nat) (t : TxFrame) (ts : List TxFrame), (s.egPipe pipe).granted = t :: ts ∧ s.crossedCells pipe + t.frame.cells ≤ 69 +
      Config.egressCredits) ∧
    (∃ (s : State) (pipe : Nat) (t : TxFrame) (ts : List TxFrame), (s.egPipe pipe).granted = t :: ts ∧ 69 + Config.egressCredits < s.crossedCells
      pipe + t.frame.cells) ∧
    (∃ (s : State) (pipe : Nat) (u : State) (port : Nat) (tc : Nat), s.isReady (48 + pipe) = true ∧ u = forEach (s.egressPorts pipe) s (fun p s =>
      noteQueues p (trimPort p s)) ∧ ((s.egressPorts pipe).filter (· > (u.egPipe pipe).turn) ++ (s.egressPorts pipe).filter (· ≤ (u.egPipe
      pipe).turn)).find? u.portEligible = some port ∧ u.choice port = some tc) ∧
    (∃ (s : State) (pipe : Nat) (tc : Nat) (i : Nat) (k : Nat) (f : QFrame), s.isReady (48 + pipe) = true ∧ tc < 8 ∧ (∀ tc', tc < tc' → tc' < 8 →
      nextTurn 132 (tgetD (s.egPipe pipe).replTurn tc' 131 + 1) (s.replReady pipe tc') = none) ∧ nextTurn 132 (tgetD (s.egPipe pipe).replTurn tc
      131 + 1) (s.replReady pipe tc) = some i ∧ s.replHead pipe tc i = some (k, f)) ∧
    (∃ (s : State) (w : State) (pipe : Nat) (tc : Nat) (i : Nat), s.isReady (48 + pipe) = true ∧ tc < 8 ∧ (∀ tc', tc < tc' → tc' < 8 → nextTurn
      132 (tgetD (s.egPipe pipe).replTurn tc' 131 + 1) (s.replReady pipe tc') = none) ∧ nextTurn 132 (tgetD (s.egPipe pipe).replTurn tc 131 + 1)
      (s.replReady pipe tc) = some i ∧ w = s.setEgPipe pipe { s.egPipe pipe with replTurn := tset (s.egPipe pipe).replTurn tc i } ∧ w.replHead
      pipe tc i = none) ∧
    (∃ (s : State) (port : Nat) (t : TxFrame) (ts : List TxFrame), (s.egPort port).tx = t :: ts ∧ port ≠ hostPort ∧ s.linkUp port = true ∧
      t.started = true) ∧
    (∃ (s : State) (port : Nat) (t : TxFrame) (ts : List TxFrame), (s.egPort port).tx = t :: ts ∧ port ≠ hostPort ∧ s.linkUp port = true ∧
      t.started = false) ∧
    (∃ (s : State) (port : Nat) (c : GateCfg), (s.egPort port).gates.oper = some c) ∧
    (∃ (s : State) (port : Nat), (s.egPort port).gates.oper = none) ∧
    (∃ (s : State) (port : Nat) (c : GateCfg), (s.egPort port).gates.pending = some c) ∧
    (∃ (s : State) (port : Nat), s.linkUp port = true ∧ (s.pfcCfg port).mode = 1) ∧
    (∃ (s : State) (port : Nat), s.linkUp port = true ∧ (s.pfcCfg port).mode = 2) ∧
    (∃ (s : State) (port : Nat) (tc : Nat), (s.egQueue port tc).paused.isSome = true ∧ (s.pfcCfg port).watchdog ≠ 0) ∧
    (∃ (s : State) (port : Nat) (tc : Nat), ((s.egQueue port tc).paused = none ∨ (s.pfcCfg port).watchdog = 0)) ∧
    (∃ (s : State) (port : Nat) (c : PortCfg), tget s.ports.cfg port = some c ∧ s.ports.up.testBit port = true) ∧
    (∃ (s : State) (port : Nat) (c : PortCfg), tget s.ports.cfg port = some c ∧ s.mayTrain port c = true ∧ s.ports.up.testBit port = false) ∧
    (∃ (s : State) (f : Nat), s.buf.hold.contains f = true) ∧
    (∃ (s : State) (f : Nat), s.buf.hold.contains f = true ∧ s.voqsOfPort f = [] ∧ s.ofSysPort f = none ∧ s.fab.downSlots.contains (f / 256) =
      false) ∧
    (∃ (s : State) (f : Nat), s.buf.hold.contains f = false) ∧
    (∃ (s : State) (w : State) (region : Nat) (voq : Nat) (k : Nat) (g : Nat) (u : State) (q : Voq), k = voqKey region voq ∧ w = enterSpill k s ∧
      q = w.voq k ∧ q.spill = true ∧ 16 ≤ q.tail ∧ q.pages.length < min (w.voqProfile k).spillMax w.pageLimit ∧ w.hbmReady = true ∧ w.refillWaits
      region = false ∧ w.freePage region w.pageLimit = some g ∧ charge region clsSP 128 w = some u) ∧
    (∃ (s : State) (region : Nat) (voq : Nat) (k : Nat) (ecc : EccOutcome) (ecc' : EccOutcome) (u : State) (v : State) (q : Voq) (g : Nat) (n :
      Nat) (gs : List (Nat × Nat)), k = voqKey region voq ∧ s.wantsRefill k = true ∧ s.hbmReady = true ∧ charge region clsSP 128 s = some u ∧ q =
      u.voq k ∧ q.pages = (g, n) :: gs ∧ pageEcc region g ecc u = (ecc', v) ∧ ecc' ≠ .uncorrectable) ∧
    (∃ (s : State) (region : Nat) (voq : Nat) (k : Nat) (ecc : EccOutcome) (u : State) (v : State) (q : Voq) (g : Nat) (n : Nat) (gs : List (Nat ×
      Nat)), k = voqKey region voq ∧ s.wantsRefill k = true ∧ s.hbmReady = true ∧ charge region clsSP 128 s = some u ∧ q = u.voq k ∧ q.pages = (g,
      n) :: gs ∧ pageEcc region g ecc u = (.uncorrectable, v)) :=
  ⟨⟨({ up with eg.pipes := [(0, { granted := [txA] })], eg.ports := [(0, { tx := [txA] })] }), 0, _, _, rfl, Nat.le_trans (m := 69)
     (by decide +kernel) (Nat.le_add_right _ _)⟩,
   ⟨{ up with eg.pipes := [(0, { granted := [{ txA with frame.cells := 70 + Config.egressCredits }] })] }, 0, _, _, rfl,
     by show 69 + _ < 0 + (70 + _); omega⟩,
   ⟨({ up with buf.voqs := [(0, { frames := [qfA], shared := 1 })] }), 0, _, _, _, by decide +kernel, rfl, rfl, rfl⟩,
   ⟨({ up with buf.voqs := [(65536 + 7, { frames := [qfA], shared := 1 })] }), 0, 7, _, _, _, by decide +kernel, by decide +kernel,
     by intros; omega, rfl, rfl⟩,
   ⟨({ up with fab.requests := [(requestKey 0 1 0 7 0, (5, 1))] }), _, 0, 7, 4, by decide +kernel, by decide +kernel, fun _ a b => absurd a (by
     omega), by decide +kernel, rfl, by decide +kernel⟩,
   ⟨({ up with eg.ports := [(0, { tx := [{ txA with started := true }] })] }), 0, _, _, rfl, by decide +kernel, by decide +kernel, by
     decide +kernel⟩,
   ⟨({ up with eg.ports := [(0, { tx := [txA] })] }), 0, _, _, rfl, by decide +kernel, by decide +kernel, by decide +kernel⟩,
   ⟨({ up with eg.ports := [(0, { gates.oper := some ⟨[(255, 1000)], 1000, 0⟩ })] }), 0, _, rfl⟩,
   ⟨up, 0, by decide +kernel⟩,
   ⟨({ up with eg.ports := [(0, { gates.pending := some ⟨[(255, 1000)], 1000, 0⟩ })] }), 0, _, rfl⟩,
   ⟨({ up with buf.cfg.pfc := [(0, { mode := 1 })] }), 0, by decide +kernel, by decide +kernel⟩,
   ⟨({ up with buf.cfg.pfc := [(0, { mode := 2 })] }), 0, by decide +kernel, by decide +kernel⟩,
   ⟨({ up with eg.queues := [(0, { paused := some 5 })], buf.cfg.pfc := [(0, { mode := 2, watchdog := 1 })] }), 0, 0, by decide +kernel,
     by decide +kernel⟩,
   ⟨up, 0, 0, by decide +kernel⟩,
   ⟨up, 0, _, rfl, by decide +kernel⟩,
   ⟨({ up with ports.up := 0 }), 0, _, rfl, by decide +kernel, by decide +kernel⟩,
   ⟨({ up with buf.hold := [5] }), 5, by decide +kernel⟩,
   ⟨({ up with buf.hold := [256] }), 256, by decide +kernel, by decide +kernel, by decide +kernel, by decide +kernel⟩,
   ⟨up, 0, by decide +kernel⟩,
   ⟨({ upB with buf.voqs := [(0, { frames := List.replicate 20 qfA, shared := 20, spill := true, head := 2 })], buf.cfg.profiles := [(0, { alpha := 6, spillEn := true, spillMax := 8 })] }),
     _, 0, 0, _, _, _, _, rfl, rfl, rfl, by decide +kernel, by decide +kernel, by decide +kernel, by decide +kernel, by decide +kernel, rfl, rfl⟩,
   ⟨({ upB with buf.voqs := [(0, { frames := List.replicate 40 qfA, shared := 8, spill := true, head := 8, pages := [(0, 16), (1, 16)] })], buf.cfg.profiles := [(0, { alpha := 6, spillEn := true, spillMax := 8 })] }),
     0, 0, _, .clean, .clean, _, _, _, _, _, _, rfl, by decide +kernel, by decide +kernel, rfl, rfl, rfl, rfl, by decide +kernel⟩,
   ⟨({ upB with buf.voqs := [(0, { frames := List.replicate 40 qfA, shared := 8, spill := true, head := 8, pages := [(0, 16), (1, 16)] })], buf.cfg.profiles := [(0, { alpha := 6, spillEn := true, spillMax := 8 })] }),
     0, 0, _, .uncorrectable, _, _, _, _, _, _, rfl, by decide +kernel, by decide +kernel, rfl, rfl, rfl, rfl⟩⟩

/-- States and operands that meet the hypotheses of each clause of Obligations.FlowEngineRows. -/
theorem witness_FlowEngineRows :
    (∃ (s : State) (r : Nat) (op : FlowOp) (rest : List FlowOp) (p : Partition), s.flowReady r = true ∧ (s.region r).sinceDeferred < 15 ∧ pickOp s
      (s.heldLocks r) (s.region r).queue = some (op, rest) ∧ s.partition op.partition = some p ∧ s.inTarn r (p.place (reqKey op.req)).set
      op.partition (reqKey op.req) = none) ∧
    (∃ (s : State) (r : Nat) (op : FlowOp) (rest : List FlowOp) (p : Partition) (w : Nat × TarnWay), s.flowReady r = true ∧ (s.region
      r).sinceDeferred < 15 ∧ pickOp s (s.heldLocks r) (s.region r).queue = some (op, rest) ∧ s.partition op.partition = some p ∧ s.inTarn r
      (p.place (reqKey op.req)).set op.partition (reqKey op.req) = some w) ∧
    (∃ (s : State) (r : Nat) (op : FlowOp) (rest : List FlowOp) (p : Partition) (w : Nat) (t : TarnWay), s.flowReady r = true ∧ (s.region
      r).sinceDeferred < 15 ∧ pickOp s (s.heldLocks r) (s.region r).queue = some (op, rest) ∧ s.partition op.partition = some p ∧ s.inTarn r
      (p.place (reqKey op.req)).set op.partition (reqKey op.req) = some (w, t) ∧ t.dirty = false ∧ t.pin = false) ∧
    (∃ (s : State) (r : Nat), s.flowReady r = true ∧ (s.region r).sinceDeferred < 15 ∧ pickOp s (s.heldLocks r) (s.region r).queue = none) ∧
    (∃ (s : State) (r : Nat) (d : Deferred) (ds : List Deferred) (t : TemplateP), s.flowReady r = true ∧ (s.region r).deferred = d :: ds ∧
      s.template d.req.template = some t ∧ t.deferMaxAge * 1000000 < s.time.localNs - d.queuedAt) ∧
    (∃ (s : State) (r : Nat) (d : Deferred) (ds : List Deferred) (t : TemplateP) (u : State) (op : FlowOp), s.flowReady r = true ∧ (s.region
      r).deferred = d :: ds ∧ s.template d.req.template = some t ∧ s.time.localNs - d.queuedAt ≤ t.deferMaxAge * 1000000 ∧ u = s.setRegion r
      { s.region r with deferred := ds, sinceDeferred := 0 } ∧ op = u.opOf d.partition (.deferred r d.req.template) d.req ∧ (∀ p, s.partition
      d.partition = some p → u.homedAway (reqKey d.req) p = false)) ∧
    (∃ (s : State) (r : Nat) (d : Deferred) (ds : List Deferred) (t : TemplateP) (u : State) (p : Partition), s.flowReady r = true ∧ (s.region
      r).deferred = d :: ds ∧ s.template d.req.template = some t ∧ s.time.localNs - d.queuedAt ≤ t.deferMaxAge * 1000000 ∧ u = s.setRegion r
      { s.region r with deferred := ds, sinceDeferred := 0 } ∧ s.partition d.partition = some p ∧ u.homedAway (reqKey d.req) p = true) ∧
    (∃ (s : State) (r : Nat), s.flowReady r = true ∧ (s.region r).deferred = []) ∧
    (∃ (s : State) (r : Nat) (l : Nat), s.sinterEntry r l = none) ∧
    (∃ (s : State) (r : Nat) (l : Nat) (e : SinterEntry) (u : State), s.sinterEntry r l = some e ∧ writeBack r e s = some u) ∧
    (∃ (s : State) (r : Nat) (l : Nat) (e : SinterEntry), s.sinterEntry r l = some e ∧ writeBack r e s = none) ∧
    (∃ (s : State) (r : Nat) (ecc : EccOutcome) (e : LogEntry) (es : List LogEntry) (u : State), ecc ≠ .uncorrectable ∧ (s.region r).log = e :: es
      ∧ s.hbmReady = true ∧ chargeReplay r (replayBursts e) s = some u) ∧
    (∃ (s : State) (r : Nat) (e : LogEntry) (es : List LogEntry) (u : State), (s.region r).log = e :: es ∧ s.hbmReady = true ∧ chargeReplay r
      (replayBursts e) s = some u) ∧
    (∃ (s : State) (r : Nat) (e : LogEntry) (es : List LogEntry), (s.region r).log = e :: es ∧ s.hbmReady = true ∧ chargeReplay r (replayBursts e)
      s = none) ∧
    (∃ (s : State) (r : Nat) (pn : Nat) (p : Partition) (i : Nat) (x : Rec), s.partition pn = some p ∧ s.flowReady r = true ∧ tget (s.region
      r).ovf i = some x ∧ x.partition = pn) ∧
    (∃ (s : State) (r : Nat) (pn : Nat) (p : Partition) (i : Nat) (u : State), s.partition pn = some p ∧ s.flowReady r = true ∧ i < 2 ^ p.nbrLog2
      ∧ s.hbmReady = true ∧ charge r clsTM 8 s = some u ∧ r ≠ 0) ∧
    (∃ (s : State) (pn : Nat) (p : Partition) (u : State), s.partition pn = some p ∧ s.flowReady 0 = true ∧ s.hbmReady = true ∧ charge 0 clsTM 8 s
      = some u) ∧
    (∃ (s : State) (r : Nat) (p : Partition) (op : FlowOp) (f : Found), s.findRec r op.partition p (reqKey op.req) = some f ∧ f.img.comp = true ∧
      s.homedAway (reqKey op.req) p = false) ∧
    (∃ (s : State) (r : Nat) (p : Partition) (op : FlowOp) (f : Found), s.findRec r op.partition p (reqKey op.req) = some f ∧ f.img.comp = false ∧
      s.groupPendingLog r f.loc = true) :=
  ⟨⟨({ full with flow.regions := [(0, { queue := [opA] })] }), 0, _, _, _, by decide +kernel, by decide +kernel, rfl, rfl, by decide +kernel⟩,
   ⟨({ full with flow.regions := [(0, { queue := [opA], tarn := [(setA, { ways := [(0, wayA)] })] })] }), 0, _, _, _, _, by decide +kernel,
     by decide +kernel, rfl, rfl, rfl⟩,
   ⟨({ full with flow.regions := [(0, { queue := [opA], tarn := [(setA, { ways := [(0, wayA)] })] })] }), 0, _, _, _, _, _, by decide +kernel,
     by decide +kernel, rfl, rfl, rfl, by decide +kernel, by decide +kernel⟩,
   ⟨up, 0, by decide +kernel, by decide +kernel, by decide +kernel⟩,
   ⟨({ full with flow.regions := [(0, { deferred := [{ partition := 0, req := reqA, queuedAt := 0 }] })], time.localNs := 1000001 }), 0, _, _, _,
     by decide +kernel, rfl, rfl, by decide +kernel⟩,
   ⟨({ full with flow.regions := [(0, { deferred := [{ partition := 0, req := reqA, queuedAt := 0 }] })] }), 0, _, _, _, _, _, by decide +kernel,
     rfl, rfl, by decide +kernel, rfl, rfl, fun p h => by cases (h : some partA = some p); decide +kernel⟩,
   ⟨({ full with flow.regions := [(0, { deferred := [{ partition := 0, req := reqA, queuedAt := 0 }] })], flow.partitions := [(0, { partA with homeMap := List.replicate 32 5 })] }),
     0, _, _, _, _, _, by decide +kernel, rfl, rfl, by decide +kernel, rfl, rfl, by decide +kernel⟩,
   ⟨up, 0, by decide +kernel, by decide +kernel⟩,
   ⟨up, 0, 0, by decide +kernel⟩,
   ⟨upSinter, 0, locOvf 0, sinterA, _, by simp [State.sinterEntry, State.sinterOf, State.region, upSinter, tgetD, tget, sinterA], rfl⟩,
   ⟨({ up with flow.regions := [(0, { sinter := [(sinterSet 0, [{ sinterA with locator := 0 }])] })] }), 0, 0, ({ sinterA with locator := 0 }), by
     simp [State.sinterEntry, State.sinterOf, State.region, tgetD, tget, sinterA], by decide +kernel⟩,
   ⟨({ fullB with flow.regions := [(0, { log := [logA] })] }), 0, .corrected, _, _, _, by decide +kernel, rfl, by decide +kernel, rfl⟩,
   ⟨({ fullB with flow.regions := [(0, { log := [logA] })] }), 0, _, _, _, rfl, by decide +kernel, rfl⟩,
   ⟨({ up with flow.regions := [(0, { log := [logA] })], hbm.ceiling := 0 }), 0, _, _, rfl, by decide +kernel, by decide +kernel⟩,
   ⟨({ full with flow.regions := [(0, { ovf := [(0, recA)] })] }), 0, 0, _, 0, _, rfl, by decide +kernel, rfl, by decide +kernel⟩,
   ⟨fullB, 1, 0, _, 0, _, rfl, by decide +kernel, by decide +kernel, by decide +kernel, rfl, by decide +kernel⟩,
   ⟨fullB, 0, _, _, rfl, by decide +kernel, by decide +kernel, rfl⟩,
   ⟨({ full with flow.regions := [(0, { ovf := [(0, { recA with comp := true })] })] }), 0, partA, opA, _, rfl, by decide +kernel, by
     decide +kernel⟩,
   ⟨({ full with flow.regions := [(0, { tarn := [(setA, { ways := [(0, wayA)] })], log := [logA], groups := [(0, 1)] })] }), 0, partA, opA, _,
     rfl, by decide +kernel, by decide +kernel⟩⟩

/-- States and operands that meet the hypotheses of each clause of Obligations.FlowServiceRows. -/
theorem witness_FlowServiceRows :
    (∃ (s : State) (r : Nat) (i : Nat) (rest : List Nat), (s.region r).jobs = i :: rest ∧ s.hbmReady = true ∧ s.flowReady r = true ∧ tget
      (s.region r).ovf i = none) ∧
    (∃ (s : State) (r : Nat) (i : Nat) (rest : List Nat) (x : Rec) (p : Partition) (op : FlowOp) (u : State) (l : Nat) (v : State), (s.region
      r).jobs = i :: rest ∧ s.hbmReady = true ∧ s.flowReady r = true ∧ tget (s.region r).ovf i = some x ∧ s.partition x.partition = some p ∧ op =
      s.workOp x.partition x.flowKey none ∧ clear (s.opLocks op) (s.takenLocks r) = true ∧ charge r clsTM 16 (s.setRegion r
      { s.region r with jobs := rest }) = some u ∧ u.ovfHolds r i op = true ∧ (s.freeSlot r (p.place x.flowKey).bktA p.wide).or (s.freeSlot r
      (p.place x.flowKey).bktB p.wide) = some l ∧ moveRec r (locOvf i) l p.wide u = some v) ∧
    (∃ (s : State) (r : Nat) (i : Nat) (rest : List Nat) (x : Rec) (p : Partition) (op : FlowOp), (s.region r).jobs = i :: rest ∧ s.hbmReady =
      true ∧ s.flowReady r = true ∧ tget (s.region r).ovf i = some x ∧ s.partition x.partition = some p ∧ op = s.workOp x.partition x.flowKey none
      ∧ clear (s.opLocks op) (s.takenLocks r) = false) ∧
    (∃ (s : State) (r : Nat) (i : Nat) (rest : List Nat) (x : Rec) (p : Partition) (op : FlowOp) (done : State) (steps : Nat), (s.region r).jobs =
      i :: rest ∧ s.hbmReady = true ∧ s.flowReady r = true ∧ tget (s.region r).ovf i = some x ∧ s.partition x.partition = some p ∧ op = s.workOp
      x.partition x.flowKey none ∧ clear (s.opLocks op) (s.takenLocks r) = true ∧ done = s.setRegion r { s.region r with jobs := rest } ∧
      (done.freeSlot r (p.place x.flowKey).bktA p.wide).or (done.freeSlot r (p.place x.flowKey).bktB p.wide) = none ∧ findPath r p op.partition
      done 32 (p.place (reqKey op.req)).bktA [] = (none, steps)) ∧
    (∃ (s : State) (r : Nat), s.hbmReady = true ∧ (s.region r).migrated = false ∧ (s.region r).nextPinned (s.region r).migrateAt = none) ∧
    (∃ (s : State) (r : Nat) (set : Nat) (w : Nat) (t : TarnWay) (p : Partition) (u : State), s.hbmReady = true ∧ (s.region r).migrated = false ∧
      (s.region r).nextPinned (s.region r).migrateAt = some (set, w, t) ∧ s.partition t.img.partition = some p ∧ clear (p.locks t.img.partition
      (p.place t.img.flowKey)) (s.takenLocks r) = true ∧ migrateOne r set w t s = some u) ∧
    (∃ (s : State) (r : Nat) (pool : Nat) (p : NatPool) (u : State), tget s.flow.pools pool = some p ∧ (s.natRing pool r).buffer.length < 32 ∧
      p.filling.testBit r = false ∧ s.ringHolds pool r = true ∧ s.hbmReady = true ∧ charge r clsTM 2 s = some u) ∧
    (∃ (s : State) (pool : Nat) (r : Nat) (p : NatPool) (n : Nat) (u : State), tget s.flow.pools pool = some p ∧ p.filling.testBit r = true ∧ n =
      min ((p.ringSize - tgetD p.filled r 0) / 8) (if tgetD s.hbm.left (5 * r + clsTM) 0 = 0 then 8 else tgetD s.hbm.left (5 * r + clsTM) 0) ∧
      charge r clsTM n s = some u) ∧
    (∃ (s : State) (pool : Nat) (p : NatPool) (q : NatPool) (u : State), tget s.flow.pools pool = some p ∧ p.filling ≠ 0 ∧ s.hbmReady = true ∧ u =
      forEach regions s (fillRing pool) ∧ tget u.flow.pools pool = some q ∧ q.filling ≠ 0) ∧
    (∃ (s : State) (pool : Nat) (p : NatPool) (q : NatPool) (u : State), tget s.flow.pools pool = some p ∧ p.filling ≠ 0 ∧ s.hbmReady = true ∧ u =
      forEach regions s (fillRing pool) ∧ tget u.flow.pools pool = some q ∧ q.filling = 0 ∧ p.fillId = none) ∧
    (∃ (s : State) (pool : Nat) (p : NatPool) (q : NatPool) (u : State) (id : Nat), tget s.flow.pools pool = some p ∧ p.filling ≠ 0 ∧ s.hbmReady =
      true ∧ u = forEach regions s (fillRing pool) ∧ tget u.flow.pools pool = some q ∧ q.filling = 0 ∧ p.fillId = some id) ∧
    (∃ (s : State) (pool : Nat) (p : LbPool), tget s.flow.lbPools pool = some p) ∧
    (∃ (s : State) (pn : Nat) (p : Partition) (tm : Nat) (start : Nat) (devices : List Nat) (more : List (Nat × Nat × List Nat)), s.partition pn =
      some p ∧ p.homeSwitch = (tm, start, devices) :: more) ∧
    (∃ (s : State) (k : Nat) (p : ExportProfile), tget s.flow.profiles k = some p ∧ p.building ≠ []) ∧
    (∃ (s : State) (k : Nat) (lost : List Nat) (p : ExportProfile) (set : Bool) (all : List ExportRec) (recs : List ExportRec) (more : List (Bool
      × List ExportRec)) (tokens : Nat), tget s.flow.profiles k = some p ∧ p.ended = (set, all) :: more ∧ recs = unlost lost 0 all ∧
      (p.templateDue = true ∨ recs ≠ []) ∧ ¬(p.templateDue = true ∧ recs ≠ [] ∧ p.mtu < p.packetLen true recs) ∧ tokens = min (p.burst *
      byteTokens) (p.tokens + p.rate * (s.time.localNs - p.tokensAt)) ∧ tokens < p.packetLen p.templateDue recs * byteTokens) ∧
    (∃ (s : State) (k : Nat) (lost : List Nat) (p : ExportProfile) (set : Bool) (all : List ExportRec) (recs : List ExportRec) (more : List (Bool
      × List ExportRec)) (tokens : Nat), tget s.flow.profiles k = some p ∧ p.ended = (set, all) :: more ∧ recs = unlost lost 0 all ∧ p.templateDue
      = true ∧ recs ≠ [] ∧ p.mtu < p.packetLen true recs ∧ tokens = min (p.burst * byteTokens) (p.tokens + p.rate * (s.time.localNs -
      p.tokensAt))) ∧
    (∃ (s : State) (k : Nat) (lost : List Nat) (p : ExportProfile) (set : Bool) (all : List ExportRec) (recs : List ExportRec) (more : List (Bool
      × List ExportRec)) (tokens : Nat), tget s.flow.profiles k = some p ∧ p.ended = (set, all) :: more ∧ recs = unlost lost 0 all ∧
      ¬(p.templateDue = true ∧ recs ≠ [] ∧ p.mtu < p.packetLen true recs) ∧ tokens = min (p.burst * byteTokens) (p.tokens + p.rate *
      (s.time.localNs - p.tokensAt)) ∧ p.packetLen p.templateDue recs * byteTokens ≤ tokens ∧ chargeExport all.length s = none) ∧
    (∃ (s : State) (k : Nat) (lost : List Nat) (p : ExportProfile) (set : Bool) (all : List ExportRec) (more : List (Bool × List ExportRec)) (u :
      State), tget s.flow.profiles k = some p ∧ p.ended = (set, all) :: more ∧ unlost lost 0 all = [] ∧ p.templateDue = false ∧ chargeExport
      all.length s = some u) ∧
    (∃ (s : State) (k : Nat) (lost : List Nat) (p : ExportProfile) (set : Bool) (all : List ExportRec) (recs : List ExportRec) (more : List (Bool
      × List ExportRec)) (tokens : Nat) (v : State) (u : State), tget s.flow.profiles k = some p ∧ p.ended = (set, all) :: more ∧ recs = unlost
      lost 0 all ∧ (p.templateDue = true ∨ recs ≠ []) ∧ ¬(p.templateDue = true ∧ recs ≠ [] ∧ p.mtu < p.packetLen true recs) ∧ tokens = min
      (p.burst * byteTokens) (p.tokens + p.rate * (s.time.localNs - p.tokensAt)) ∧ p.packetLen p.templateDue recs * byteTokens ≤ tokens ∧
      chargeExport all.length s = some v ∧ u = originate ((v.ofSysPort p.egressPort).getD p.egressPort) p.tc (exportFrame p v.ocf.stationMac
      (ipfixMessage p.templateDue recs (twos 32 ((v.time.now / secondTicks : Nat) - v.time.utcOffset)) (tgetD v.flow.odidSeq p.odid 0) p.odid)) v) ∧
    (∃ (s : State) (k : Nat) (p : ExportProfile), tget s.flow.profiles k = some p) :=
  ⟨⟨({ full with flow.regions := [(0, { jobs := [5] })] }), 0, _, _, rfl, by decide +kernel, by decide +kernel, by decide +kernel⟩,
   ⟨({ fullB with flow.regions := [(0, { jobs := [0], ovf := [(0, recA)] })] }), 0, _, _, _, _, _, _, _, _, rfl, by decide +kernel, by
     decide +kernel, rfl, rfl, rfl, by decide +kernel, rfl, by decide +kernel, rfl, rfl⟩,
   ⟨({ fullB with flow.regions := [(0, { jobs := [0], ovf := [(0, recA)], queue := [opA] })] }), 0, _, _, _, _, _, rfl, by decide +kernel, by
     decide +kernel, rfl, rfl, rfl, by decide +kernel⟩,
   ⟨noRoom, homeA, _, _, _, _, _, _, 8, rfl, by decide +kernel, by decide +kernel, rfl, rfl, rfl, by decide +kernel, rfl, by decide +kernel, by
     decide +kernel⟩,
   ⟨up, 0, by decide +kernel, by decide +kernel, by decide +kernel⟩,
   ⟨({ fullB with flow.regions := [(0, { tarn := [(setA, { ways := [(0, { wayA with pin := true })] })] })] }), 0, _, _, _, _, _, by
     decide +kernel, by decide +kernel, rfl, rfl, by decide +kernel, rfl⟩,
   ⟨fullB, 0, 0, _, _, rfl, by decide +kernel, by decide +kernel, by decide +kernel, by decide +kernel, rfl⟩,
   ⟨({ fullB with flow.pools := [(0, { poolA with filling := 15 })] }), 0, 0, _, _, _, rfl, by decide +kernel, rfl, rfl⟩,
   ⟨({ full with flow.pools := [(0, { poolA with addrCount := 1, portHi := 1087, filling := 15 })] }), 0, _, _, _, rfl, by decide +kernel, by
     decide +kernel, rfl, rfl, by decide +kernel⟩,
   ⟨({ fullB with flow.pools := [(0, { poolA with addrCount := 1, portHi := 1055, filling := 15 })] }), 0, _, _, _, rfl, by decide +kernel, by
     decide +kernel, rfl, rfl, by decide +kernel, by decide +kernel⟩,
   ⟨({ fullB with flow.pools := [(0, { poolA with addrCount := 1, portHi := 1055, filling := 15, fillId := some 1 })] }), 0, _, _, _, _, rfl, by
     decide +kernel, by decide +kernel, rfl, rfl, by decide +kernel, rfl⟩,
   ⟨full, 0, _, rfl⟩,
   ⟨({ full with flow.partitions := [(0, { partA with homeSwitch := [(1, 0, [1])] })] }), 0, _, _, _, _, _, rfl, rfl⟩,
   ⟨({ up with flow.profiles := [(0, { exportA with building := [⟨0, []⟩] })] }), 0, _, rfl, by decide +kernel⟩,
   ⟨({ up with flow.profiles := [(0, { exportA with ended := [(true, [⟨0, []⟩])] })] }), 0, [], _, _, _, _, _, _, rfl, rfl, rfl, by
     decide +kernel, by decide +kernel, rfl, by decide +kernel⟩,
   ⟨({ up with flow.profiles := [(0, { exportA with ended := [(true, [⟨0, []⟩])], mtu := 64 })] }), 0, [], _, _, _, _, _, _, rfl, rfl, rfl, by
     decide +kernel, by decide +kernel, by decide +kernel, rfl⟩,
   ⟨({ up with flow.profiles := [(0, { exportA with ended := [(true, [⟨0, []⟩])], burst := 1000, tokens := 1000 * byteTokens })] }), 0, [], _, _,
     _, _, _, _, rfl, rfl, rfl, by decide +kernel, rfl, by decide +kernel, by decide +kernel⟩,
   ⟨({ upB with flow.profiles := [(0, { exportA with ended := [(false, [⟨0, []⟩])], templateDue := false })] }), 0, [0], _, _, _, _, _, rfl, rfl,
     by decide +kernel, by decide +kernel, rfl⟩,
   ⟨({ upB with flow.profiles := [(0, { exportA with ended := [(false, [⟨0, []⟩, ⟨0, []⟩])], burst := 1000, tokens := 1000 * byteTokens })] }), 0,
     [1], _, _, _, _, _, _, _, _, rfl, rfl, rfl, by decide +kernel, by decide +kernel, rfl, by decide +kernel, rfl, rfl⟩,
   ⟨({ up with flow.profiles := [(0, exportA)] }), 0, _, rfl⟩⟩

/-- States and operands that meet the hypotheses of each clause of Obligations.FabricControlRows. -/
theorem witness_FabricControlRows :
    (∃ (s : State) (hd : LinkHeader), s.fabRuns hd.group = true ∧ hd.crcOk = true ∧ (s.fabPort hd.group).up = true ∧ hd.lseq = (s.fabPort
      hd.group).lseqRx) ∧
    (∃ (s : State) (hd : LinkHeader), s.fabRuns hd.group = true ∧ hd.crcOk = false ∧ (s.fabPort hd.group).up = true ∧ (s.fabPort hd.group).tries <
      8) ∧
    (∃ (s : State) (hd : LinkHeader), s.fabRuns hd.group = true ∧ hd.crcOk = false ∧ (s.fabPort hd.group).up = true ∧ 8 ≤ (s.fabPort
      hd.group).tries) ∧
    (∃ (s : State) (hd : LinkHeader), s.fabRuns hd.group = true ∧ hd.crcOk = true ∧ hd.lseq ≠ (s.fabPort hd.group).lseqRx) ∧
    (∃ (s : State) (hd : LinkHeader) (u : State) (k : Nat), receiveCell hd s = (true, u) ∧ (u.fabPort hd.group).slot = some k) ∧
    (∃ (s : State) (hd : LinkHeader) (v : Nat) (u : State) (w : State), receiveCell hd s = (true, u) ∧ w = u.setFabPort hd.group
      { u.fabPort hd.group with reach := v }) ∧
    (∃ (s : State) (hd : LinkHeader) (slot : Nat) (u : State), receiveCell hd s = (true, u) ∧ hd.dst = u.ownSlot ∧ slot ≠ u.ownSlot) ∧
    (∃ (s : State) (hd : LinkHeader) (slot : Nat) (u : State), receiveCell hd s = (true, u) ∧ hd.dst = u.ownSlot ∧ slot ≠ u.ownSlot) ∧
    (∃ (s : State) (hd : LinkHeader) (cells : Nat) (u : State), receiveCell hd s = (true, u) ∧ hd.dst = u.ownSlot ∧ cells ≠ 0) ∧
    (∃ (s : State) (hd : LinkHeader) (u : State), receiveCell hd s = (true, u) ∧ hd.dst = u.ownSlot) ∧
    (∃ (s : State) (hd : LinkHeader) (u : State), receiveCell hd s = (true, u) ∧ hd.dst = u.ownSlot) ∧
    (∃ (s : State) (hd : LinkHeader) (region : Nat) (voq : Nat) (u : State), receiveCell hd s = (true, u) ∧ hd.dst = u.ownSlot ∧ (u.voq (voqKey
      region voq)).frames = []) ∧
    (∃ (s : State) (hd : LinkHeader) (u : State), receiveCell hd s = (true, u)) ∧
    (∃ (s : State) (hd : LinkHeader) (u : State), receiveCell hd s = (true, u)) ∧
    (∃ (s : State) (hd : LinkHeader) (u : State), receiveCell hd s = (true, u)) ∧
    (∃ (s : State) (hd : LinkHeader) (req : FlowReq) (u : State) (t : TemplateP) (p : Partition), receiveCell hd s = (true, u) ∧ hd.dst =
      u.ownSlot ∧ u.template req.template = some t ∧ u.partition t.partition = some p ∧ u.flowReady (p.place (reqKey req)).home = true) ∧
    (∃ (s : State) (hd : LinkHeader) (req : FlowReq) (u : State) (t : TemplateP) (p : Partition), receiveCell hd s = (true, u) ∧ hd.dst =
      u.ownSlot ∧ u.template req.template = some t ∧ u.partition t.partition = some p ∧ u.flowReady (p.place (reqKey req)).home = false) ∧
    (∃ (s : State) (hd : LinkHeader) (req : FlowReq) (u : State), receiveCell hd s = (true, u) ∧ hd.dst = u.ownSlot ∧ u.template req.template =
      none) ∧
    (∃ (s : State) (hd : LinkHeader) (id : Nat) (u : State) (o : Machine.Origin), receiveCell hd s = (true, u) ∧ hd.dst = u.ownSlot ∧ tget
      u.flow.asked id = some o) ∧
    (∃ (s : State) (hd : LinkHeader) (id : Nat) (u : State), receiveCell hd s = (true, u) ∧ hd.dst = u.ownSlot ∧ tget u.flow.asked id = none) ∧
    (∃ (s : State) (hd : LinkHeader) (slot : Nat) (total : Nat) (u : State), receiveCell hd s = (true, u) ∧ hd.dst = u.ownSlot ∧ tget
      u.fab.segments slot = none ∧ total ≠ 1) ∧
    (∃ (s : State) (hd : LinkHeader) (slot : Nat) (k : Nat) (u : State), receiveCell hd s = (true, u) ∧ hd.dst = u.ownSlot ∧ tget u.fab.segments
      slot = some k) ∧
    (∃ (s : State) (hd : LinkHeader) (slot : Nat) (u : State), receiveCell hd s = (true, u) ∧ hd.dst = u.ownSlot ∧ tget u.fab.segments (32 + slot)
      = none) ∧
    (∃ (s : State) (hd : LinkHeader) (u : State), receiveCell hd s = (true, u) ∧ hd.dst ≠ u.ownSlot ∧ hd.hop = 0) ∧
    (∃ (s : State) (hd : LinkHeader) (u : State), receiveCell hd s = (true, u) ∧ hd.dst ≠ u.ownSlot ∧ hd.hop ≠ 0) ∧
    (∃ (s : State) (slot : Nat), tget s.fab.segments slot = none ∧ tget s.fab.segments (32 + slot) = none) ∧
    (∃ (s : State) (slot : Nat), (tget s.fab.segments slot).isSome = true ∧ tget s.fab.segments (32 + slot) = none) ∧
    (∃ (s : State) (hd : LinkHeader) (gid : Nat) (slot : Nat) (dev : Nat) (u : State), s.fabRuns hd.group = true ∧ hd.crcOk = true ∧ (s.fabPort
      hd.group).up = false ∧ gid = s.fab.cfg.groupId ∧ slot ≠ s.ownSlot ∧ u = s.setFabPort hd.group
      { s.fabPort hd.group with lseqRx := (hd.lseq + 1) % 4096, tries := 0, replayBuf := acknowledge hd.ack (s.fabPort hd.group).replayBuf } ∧
      u.slotTaken hd.group slot dev = false) ∧
    (∃ (s : State) (hd : LinkHeader) (u : State), s.fabRuns hd.group = true ∧ hd.crcOk = true ∧ (s.fabPort hd.group).up = false ∧ u = s.setFabPort
      hd.group
      { s.fabPort hd.group with lseqRx := (hd.lseq + 1) % 4096, tries := 0, replayBuf := acknowledge hd.ack (s.fabPort hd.group).replayBuf }) ∧
    (∃ (s : State) (g : Nat), s.fabRuns g = true) ∧
    (∃ (s : State) (region : Nat) (voq : Nat), voqSlot (voqKey region voq) ≠ s.ownSlot) ∧
    (∃ (s : State) (region : Nat) (voq : Nat), voqSlot (voqKey region voq) = s.ownSlot) ∧
    (∃ (s : State) (region : Nat) (voq : Nat), (s.voq (voqKey region voq)).frames = []) ∧
    (∃ (s : State) (g : Nat), (s.fabPort g).up = true) ∧
    (∃ (s : State) (g : Nat), (s.fabPort g).up = false) :=
  ⟨⟨upFab, (⟨3, 0, 0, true, 0, 0⟩), by decide +kernel, by decide +kernel, by decide +kernel, by decide +kernel⟩,
   ⟨upFab, (⟨3, 0, 0, false, 0, 0⟩), by decide +kernel, by decide +kernel, by decide +kernel, by decide +kernel⟩,
   ⟨upFabTries, (⟨3, 0, 0, false, 0, 0⟩), by decide +kernel, by decide +kernel, by decide +kernel, by decide +kernel⟩,
   ⟨upFab, (⟨3, 1, 0, true, 0, 0⟩), by decide +kernel, by decide +kernel, by decide +kernel⟩,
   ⟨upFab, (⟨3, 0, 0, true, 0, 0⟩), _, _, rfl, rfl⟩,
   ⟨upFab, (⟨3, 0, 0, true, 0, 0⟩), 4, _, _, rfl, rfl⟩,
   ⟨upFab, (⟨3, 0, 0, true, 0, 0⟩), 2, _, rfl, by decide +kernel, by decide +kernel⟩,
   ⟨upFab, (⟨3, 0, 0, true, 0, 0⟩), 2, _, rfl, by decide +kernel, by decide +kernel⟩,
   ⟨upFab, (⟨3, 0, 0, true, 0, 0⟩), 1, _, rfl, by decide +kernel, by decide +kernel⟩,
   ⟨upFab, (⟨3, 0, 0, true, 0, 0⟩), _, rfl, by decide +kernel⟩,
   ⟨upFab, (⟨3, 0, 0, true, 0, 0⟩), _, rfl, by decide +kernel⟩,
   ⟨upFab, (⟨3, 0, 0, true, 0, 0⟩), 0, 0, _, rfl, by decide +kernel, by decide +kernel⟩,
   ⟨upFab, (⟨3, 0, 0, true, 0, 0⟩), _, rfl⟩,
   ⟨upFab, (⟨3, 0, 0, true, 0, 0⟩), _, rfl⟩,
   ⟨upFab, (⟨3, 0, 0, true, 0, 0⟩), _, rfl⟩,
   ⟨fullFab, (⟨3, 0, 0, true, 0, 0⟩), reqA, _, _, _, rfl, by decide +kernel, rfl, rfl, by decide +kernel⟩,
   ⟨({ fullFab with power.shedDown := 15 }), ⟨3, 0, 0, true, 0, 0⟩, reqA, _, _, _, rfl, by decide +kernel, rfl, rfl, by decide +kernel⟩,
   ⟨upFab, (⟨3, 0, 0, true, 0, 0⟩), reqA, _, rfl, by decide +kernel, by decide +kernel⟩,
   ⟨({ upFab with flow.asked := [(7, .none)] }), (⟨3, 0, 0, true, 0, 0⟩), 7, _, _, rfl, by decide +kernel, rfl⟩,
   ⟨upFab, (⟨3, 0, 0, true, 0, 0⟩), 7, _, rfl, by decide +kernel, by decide +kernel⟩,
   ⟨upFab, (⟨3, 0, 0, true, 0, 0⟩), 2, 2, _, rfl, by decide +kernel, by decide +kernel, by decide +kernel⟩,
   ⟨({ upFab with fab.segments := [(2, 1)] }), (⟨3, 0, 0, true, 0, 0⟩), 2, _, _, rfl, by decide +kernel, rfl⟩,
   ⟨upFab, (⟨3, 0, 0, true, 0, 0⟩), 2, _, rfl, by decide +kernel, by decide +kernel⟩,
   ⟨upFab, (⟨3, 0, 0, true, 2, 0⟩), _, rfl, by decide +kernel, by decide +kernel⟩,
   ⟨upFab, (⟨3, 0, 0, true, 2, 1⟩), _, rfl, by decide +kernel, by decide +kernel⟩,
   ⟨up, 0, by decide +kernel, by decide +kernel⟩,
   ⟨({ upFab with fab.segments := [(2, 1)] }), 2, by decide +kernel, by decide +kernel⟩,
   ⟨upFabDown, (⟨3, 0, 0, true, 0, 0⟩), _, 2, 9, _, by decide +kernel, by decide +kernel, by decide +kernel, rfl, by decide +kernel, rfl,
     by decide +kernel⟩,
   ⟨upFabDown, (⟨3, 0, 0, true, 0, 0⟩), _, by decide +kernel, by decide +kernel, by decide +kernel, rfl⟩,
   ⟨upFab, 3, by decide +kernel⟩,
   ⟨upFab, 0, 2048, by decide +kernel⟩,
   ⟨upFab, 0, 2047, by decide +kernel⟩,
   ⟨up, 0, 0, by decide +kernel⟩,
   ⟨upFab, 3, by decide +kernel⟩,
   ⟨up, 0, by decide +kernel⟩⟩

/-- States and operands that meet the hypotheses of each clause of Obligations.FabricDataRows. -/
theorem witness_FabricDataRows :
    (∃ (s : State) (l : State) (g : Nat) (c : Control), s.fabRuns g = true ∧ l = s.linkReady ∧ (l.fabPort g).replayBuf.length < 512 ∧ (l.fabPort
      g).up = true ∧ (l.fabPort g).control.head? = some c) ∧
    (∃ (s : State) (l : State) (g : Nat) (c : Control), s.fabRuns g = true ∧ l = s.linkReady ∧ (l.fabPort g).replayBuf.length < 512 ∧ (l.fabPort
      g).up = false ∧ (l.fabPort g).control.find? isHello = some c) ∧
    (∃ (s : State) (l : State) (g : Nat) (w : WaitCell), s.fabRuns g = true ∧ l = s.linkReady ∧ (l.fabPort g).replayBuf.length < 512 ∧ (l.fabPort
      g).up = true ∧ (l.fabPort g).control = [] ∧ (l.fabPort g).queue.find? (l.fabPort g).hasCredit = some w) ∧
    (∃ (s : State) (l : State) (g : Nat) (w : WaitCell), s.fabRuns g = true ∧ l = s.linkReady ∧ (l.fabPort g).replayBuf.length < 512 ∧ (l.fabPort
      g).up = true ∧ (l.fabPort g).control = [] ∧ (l.fabPort g).queue.find? (l.fabPort g).hasCredit = some w) ∧
    (∃ (s : State) (l : State) (g : Nat), s.fabRuns g = true ∧ l = s.linkReady ∧ (l.fabPort g).control = [] ∧ (l.fabPort g).credit0 = 0 ∧
      (l.fabPort g).credit1 = 0) ∧
    (∃ (s : State) (l : State) (g : Nat), s.fabRuns g = true ∧ l = s.linkReady ∧ 512 ≤ (l.fabPort g).replayBuf.length) ∧
    (∃ (s : State) (l : State) (g : Nat), s.fabRuns g = true ∧ l = s.linkReady ∧ (l.fabPort g).up = true ∧ (l.fabPort g).nextCell = none) ∧
    (∃ (s : State) (g : Nat) (c : DataCell) (ccrc : Nat), s.fabRuns g = true ∧ (s.fabPort g).up = true ∧ c.valid ccrc = false) ∧
    (∃ (s : State) (g : Nat) (c : DataCell) (ccrc : Nat) (u : State), c.valid ccrc = true ∧ receiveCell
      { group := g, lseq := c.lseq, ack := c.ack, crcOk := true, dst := c.dst, hop := c.hop } s = (true, u) ∧ c.dst = u.ownSlot) ∧
    (∃ (s : State) (g : Nat) (c : DataCell) (ccrc : Nat) (u : State), c.valid ccrc = true ∧ receiveCell
      { group := g, lseq := c.lseq, ack := c.ack, crcOk := true, dst := c.dst, hop := c.hop } s = (true, u) ∧ c.dst ≠ u.ownSlot ∧ c.hop = 0) ∧
    (∃ (s : State) (g : Nat) (c : DataCell) (ccrc : Nat) (u : State), c.valid ccrc = true ∧ receiveCell
      { group := g, lseq := c.lseq, ack := c.ack, crcOk := true, dst := c.dst, hop := c.hop } s = (true, u) ∧ c.dst ≠ u.ownSlot ∧ c.hop ≠ 0) ∧
    (∃ (s : State) (g : Nat) (c : DataCell) (u : State) (k : Nat) (pipe : Nat), c.kind = 2 ∧ k = streamKey c.src pipe c.tc ∧ pipe = egressOf c.cls
      c.dstPort ∧ u = takeRx g c.hop
      { s with fab.granted := if seqLater (s.rxStream k).expected c.seq = true then s.fab.granted else tmod s.fab.granted pipe 0 (· - 1), fab.received := tmod s.fab.received pipe 0 (· + 1) }
      ∧ (u.rxStream k).parts.find? (fun p => p.seq = c.seq) = none) ∧
    (∃ (s : State) (k : Nat) (f : RobFrame), f.seq = (s.rxStream k).expected ∧ (s.rxStream k).held = [] ∧ f.poison = false) ∧
    (∃ (s : State) (u : State) (pipe : Nat) (k : Nat) (f : RobFrame), f.seq = (s.rxStream k).expected ∧ (s.rxStream k).held = [] ∧ f.poison = true
      ∧ u = noteCum k pipe f s) ∧
    (∃ (s : State) (k : Nat) (f : RobFrame), f.seq ≠ (s.rxStream k).expected ∧ seqLater f.seq (s.rxStream k).expected = true) ∧
    (∃ (s : State) (k : Nat) (f : RobFrame), f.seq ≠ (s.rxStream k).expected ∧ seqLater f.seq (s.rxStream k).expected = false) ∧
    (∃ (s : State) (slot : Nat) (pipe : Nat) (tc : Nat), (s.rxStream (streamKey slot pipe tc)).held = []) ∧
    (∃ (s : State) (slot : Nat) (pipe : Nat) (tc : Nat) (f : RobFrame), (s.rxStream (streamKey slot pipe tc)).held = [f] ∧ (s.rxStream (streamKey
      slot pipe tc)).parts = []) :=
  ⟨⟨({ upFab with fab.ports := [(3, { width := 4, rate := 0, up := true, control := [.reach 1] })] }), _, 3, _, by decide +kernel, rfl, by
     decide +kernel, by decide +kernel, rfl⟩,
   ⟨({ upFab with fab.ports := [(3, { width := 4, rate := 0, up := false, control := [.reach 1, .hello 1 2 3 4] })] }), _, 3, _, by
     decide +kernel, rfl, by decide +kernel, by decide +kernel, rfl⟩,
   ⟨({ upFab with fab.ports := [(3, { width := 4, rate := 0, up := true, queue := [⟨cellA, none⟩], credit0 := 1 })] }), _, 3, _, by
     decide +kernel, rfl, by decide +kernel, by decide +kernel, by decide +kernel, rfl⟩,
   ⟨({ upFab with fab.ports := [(3, { width := 4, rate := 0, up := true, queue := [⟨cellA, none⟩], credit0 := 1 })] }), _, 3, _, by
     decide +kernel, rfl, by decide +kernel, by decide +kernel, by decide +kernel, rfl⟩,
   ⟨({ upFab with fab.ports := [(3, { width := 4, rate := 0, up := true, queue := [⟨cellA, none⟩] })] }), _, 3, by decide +kernel, rfl, by
     decide +kernel, by decide +kernel, by decide +kernel⟩,
   ⟨({ upFab with fab.ports := [(3, { width := 4, rate := 0, up := true, replayBuf := List.replicate 512 (.idle 0 routeA) })] }), _, 3, by
     decide +kernel, rfl, by decide +kernel⟩,
   ⟨upFab, _, 3, by decide +kernel, rfl, by decide +kernel, by decide +kernel⟩,
   ⟨upFab, 3, cellA, (cellA.image.ccrc + 1), by decide +kernel, by decide +kernel, by decide +kernel⟩,
   ⟨upFab, 3, cellA, cellA.image.ccrc, _, by decide +kernel, rfl, by decide +kernel⟩,
   ⟨upFab, 3, ({ cellA with dst := 2 } : DataCell), ({ cellA with dst := 2 } : DataCell).image.ccrc, _, by decide +kernel, rfl, by decide +kernel,
     by decide +kernel⟩,
   ⟨upFab, 3, ({ cellA with dst := 2, hop := 1 } : DataCell), ({ cellA with dst := 2, hop := 1 } : DataCell).image.ccrc, _, by decide +kernel,
     rfl, by decide +kernel, by decide +kernel⟩,
   ⟨up, 0, ({ cellA with kind := 2, src := 0 }), _, _, 0, rfl, rfl, by decide +kernel, rfl, by decide +kernel⟩,
   ⟨up, 0, ({ robA with seq := (up.rxStream 0).expected }), rfl,
     by decide +kernel, rfl⟩,
   ⟨up, _, 0, 0, ({ robA with poison := true }), by decide +kernel, by decide +kernel, by decide +kernel, rfl⟩,
   ⟨up, 0, ({ robA with seq := 1, poison := true }), by decide +kernel, by decide +kernel⟩,
   ⟨({ upFab with fab.rxStreams := [(0, { expected := 5 })] }), 0, (({ robA with seq := 3 })), by decide +kernel, by decide +kernel⟩,
   ⟨up, 0, 0, 0, by decide +kernel⟩,
   ⟨({ upFab with fab.rxStreams := [(streamKey 2 0 0, { held := [robA] })] }), 2, 0, 0, _, rfl, by decide +kernel⟩⟩

/-- States and operands that meet the hypotheses of each clause of Obligations.HbmRows. -/
theorem witness_HbmRows :
    (∃ (s : State) (r : Nat) (c : Nat) (a : Nat) (n : Nat), 0 < n ∧ a + n ≤ s.shareBytes ∧ s.classRoom r c = true ∧ s.hbmReady = true) ∧
    (∃ (s : State) (r : Nat) (c : Nat) (a : Nat) (data : List Byte), data ≠ [] ∧ a + data.length ≤ s.shareBytes ∧ s.classRoom r c = true ∧
      s.hbmReady = true) ∧
    (∃ (s : State) (a : Nat) (n : Nat), s.shareBytes < a + n) ∧
    (∃ (s : State) (a : Nat) (data : Bytes), s.shareBytes < a + data.length) ∧
    (∃ (s : State) (r : Nat) (w : WbItem) (rest : List WbItem) (bs : Bytes), (s.region r).wb = w :: rest ∧ s.wbBytes r w = some bs ∧ s.classRoom r
      clsFW = true ∧ s.hbmReady = true) ∧
    (∃ (s : State) (r : Nat), (s.region r).wb = []) ∧
    (∃ (s : State) (r : Nat) (op : FlowOp), (s.region r).busy.find? (fun op => op.issued.isNone && op.upTo.isNone && op.reads < (s.readsOf r op).1
      + (s.readsOf r op).2) = some op ∧ s.hbmReady = true ∧ s.classRoom r clsFR = false ∧ op.servesFrame = true ∧ op.reads < (s.readsOf r op).1) ∧
    (∃ (s : State) (r : Nat) (op : FlowOp), (s.region r).busy.find? (fun op => op.issued.isNone && op.upTo.isNone && op.reads < (s.readsOf r op).1
      + (s.readsOf r op).2) = some op ∧ s.hbmReady = true ∧ s.classRoom r clsFR = false ∧ (op.servesFrame = false ∨ (s.readsOf r op).1 ≤
      op.reads)) ∧
    (∃ (s : State) (r : Nat) (op : FlowOp) (u : State), (s.region r).busy.find? (fun op => op.issued.isNone && op.upTo.isNone && op.reads <
      (s.readsOf r op).1 + (s.readsOf r op).2) = some op ∧ s.hbmReady = true ∧ s.classRoom r clsFR = true ∧ u = setBusy r op
      { op with issued := some s.hbm.nextSeq } s) ∧
    (∃ (s : State) (r : Nat) (q : HbmReq) (qs : List HbmReq) (u : State), s.gateOf r clsFR = q :: qs ∧ s.pcRoom q = true ∧ charge r clsFR q.bursts
      s = some u) ∧
    (∃ (s : State) (r : Nat) (q : HbmReq) (qs : List HbmReq) (u : State), s.gateOf r clsFR = [] ∧ s.gateOf r clsFW = q :: qs ∧ s.pcRoom q = true ∧
      charge r clsFW q.bursts s = some u) ∧
    (∃ (s : State) (r : Nat), (∀ c q qs, s.gateOf r c = q :: qs → charge r c q.bursts s = none)) ∧
    (∃ (s : State) (r : Nat) (q : HbmReq) (op : FlowOp), (s.gateOf r clsFR).find? (fun x => x.latest.any (fun t => t ≤ s.time.localNs)) = some q ∧
      (s.region r).busy.find? (fun op => op.issued = some q.seq) = some op) ∧
    (∃ (s : State) (r : Nat), (s.gateOf r clsFR).find? (fun x => x.latest.any (fun t => t ≤ s.time.localNs)) = none) ∧
    (∃ (s : State) (pc : Nat), 2 ≤ (s.pc pc).issued.length) ∧
    (∃ (s : State) (pc : Nat) (q : HbmReq), (s.pc pc).issued.length < 2 ∧ s.issueChoice (s.pc pc) = some q) ∧
    (∃ (s : State) (pc : Nat) (burst : Nat) (q : HbmReq) (rest : List HbmReq), (s.pc pc).issued = q :: rest ∧ q.use = .other ∧ q.write = false ∧
      ¬(s.hbm.poison.contains (hbmAddr q.region ((q.addr / 32 + burst) * 32) / 32) = true)) ∧
    (∃ (s : State) (pc : Nat) (burst : Nat) (q : HbmReq) (rest : List HbmReq) (r : Nat) (op : FlowOp), (s.pc pc).issued = q :: rest ∧ q.use =
      .flow r ∧ q.write = false ∧ ¬(s.hbm.poison.contains (hbmAddr q.region ((q.addr / 32 + burst) * 32) / 32) = true) ∧ (s.region r).busy.find?
      (fun op => op.issued = some q.seq) = some op) ∧
    (∃ (s : State) (pc : Nat) (burst : Nat) (q : HbmReq) (rest : List HbmReq) (r : Nat) (op : FlowOp) (v : State), (s.pc pc).issued = q :: rest ∧
      q.use = .flow r ∧ q.write = false ∧ (q.addr / 32 + burst) * 32 < q.addr + q.len ∧ 2 ^ 32 ≤ (q.addr / 32 + burst) * 32 ∧ v = (eccRead pc
      .uncorrectable (hbmAddr q.region ((q.addr / 32 + burst) * 32) / 32) (s.setPc pc { s.pc pc with issued := rest })).2 ∧ (v.region
      r).busy.find? (fun op => op.issued = some q.seq) = some op) ∧
    (∃ (s : State) (pc : Nat), (s.pc pc).issued = []) ∧
    (∃ (s : State) (pc : Nat) (bank : Nat), (tget (s.pc pc).openRow bank).isSome = true ∧ tgetD (s.pc pc).accessAt bank 0 + 200 ≤ s.time.localNs) ∧
    (∃ (s : State) (pc : Nat) (bank : Nat), s.time.localNs < tgetD (s.pc pc).accessAt bank 0 + 200) ∧
    (∃ (s : State) (pc : Nat) (bank : Nat), s.bankCount ≤ ((s.pc pc).refresh.filter (fun e => e.1 != bank && s.time.localNs < e.2)).length + 1) ∧
    (∃ (s : State) (pc : Nat) (bank : Nat), ((s.pc pc).refresh.filter (fun e => e.1 != bank && s.time.localNs < e.2)).length + 1 < s.bankCount) ∧
    (∃ (s : State) (k : Nat), s.stack k = .training) ∧
    (∃ (s : State) (k : Nat), s.stack k = .training ∧ tgetD s.hbm.attempts k 0 < 2) ∧
    (∃ (s : State) (k : Nat), s.stack k = .training ∧ 2 ≤ tgetD s.hbm.attempts k 0) ∧
    (∃ (s : State) (k : Nat), s.power.target = .dormant ∧ s.power.moving = true ∧ s.power.flushed = true ∧ s.hbmIdle = true ∧ s.stack k = .ready ∧
      (setStack k .off s).stackAwake = true) ∧
    (∃ (s : State) (k : Nat) (restored : Bool) (trained : Bool), s.hbm.selfRefresh.testBit k = true ∧ s.power.waking = true ∧ (restored ||
      trained) = true) ∧
    (∃ (s : State) (k : Nat), s.hbm.selfRefresh.testBit k = true ∧ s.power.waking = true) ∧
    (∃ (s : State) (r : Nat) (a : Nat) (u : State), s.hbmReady = true ∧ a < s.shareBytes ∧ charge r clsTM 1 s = some u) ∧
    (∃ (s : State) (r : Nat), s.hbmReady = true ∧ charge r clsTM 1 s = none) ∧
    (∃ (s : State) (ok : Bool) (u : State) (id : Nat), retireDone ok (moveGranules s) = some (some id, u)) ∧
    (∃ (s : State) (ok : Bool) (u : State), retireDone ok (moveGranules s) = some (none, u)) ∧
    (∃ (s : State) (ok : Bool), retireDone ok (moveGranules s) = none) ∧
    (∃ (s : State), s.hbm.retiring = none) ∧
    (∃ (s : State) (r : Nat) (ra : Nat) (N : Nat) (B : Nat) (g : Nat) (p : Nat) (line : Nat) (m : Nat), (if s.flash.h72 = true then N = 1179648 ∧
      B = 48 else N = 786432 ∧ B = 32) ∧ r < 4 ∧ g = ra / 256 ∧ p = g % 64 ^^^ g / 64 % 64 ^^^ r * 16 ∧ line = r * N + g / 64 ∧ m = line / 4) ∧
    (∃ (s : State), s.flash.h72 = true) :=
  ⟨⟨up, 0, 0, 0, 1, by decide +kernel, by decide +kernel, by decide +kernel, by decide +kernel⟩,
   ⟨up, 0, 0, 0, (List.replicate 60 0#8), by decide +kernel, by decide +kernel, by decide +kernel, by decide +kernel⟩,
   ⟨up, 19327352832, 1, by decide +kernel⟩,
   ⟨up, 19327352832, [0#8], by decide +kernel⟩,
   ⟨({ full with flow.regions := [(0, { wb := [⟨0, recA, true, false⟩] })], hbm.left := budget }), 0, _, _, _, rfl, rfl, by decide +kernel, by
     decide +kernel⟩,
   ⟨up, 0, by decide +kernel⟩,
   ⟨({ full with flow.regions := [(0, { busy := [{ opA with origin := .pipe 0 1 }] })], hbm.gate := List.replicate 1024 reqH }), 0, _, rfl, by
     decide +kernel, by decide +kernel, by decide +kernel, by decide +kernel⟩,
   ⟨({ full with flow.regions := [(0, { busy := [{ opA with req.deferred := true }] })], hbm.gate := List.replicate 1024 reqH }), 0, _, rfl, by
     decide +kernel, by decide +kernel, by decide +kernel⟩,
   ⟨({ full with flow.regions := [(0, { busy := [{ opA with origin := .pipe 0 1 }] })] }), 0, _, _, rfl, by decide +kernel, by decide +kernel,
     rfl⟩,
   ⟨({ upB with hbm.gate := [reqH] }), 0, _, _, _, rfl, by decide +kernel, rfl⟩,
   ⟨({ upB with hbm.gate := [{ reqH with cls := 1, write := true }] }), 0, _, _, _, by decide +kernel, rfl, by decide +kernel, rfl⟩,
   ⟨gateA, 0, gateA_closed⟩,
   ⟨({ full with flow.regions := [(0, { busy := [{ opA with issued := some 0 }] })], hbm.gate := [{ reqH with latest := some 5 }], time.localNs := 5 }),
     0, _, _, rfl, rfl⟩,
   ⟨({ up with hbm.gate := [{ reqH with latest := some 5 }], time.localNs := 4 }), 0, by decide +kernel⟩,
   ⟨({ up with hbm.pcs := [(0, { issued := [reqH, reqH] })] }), 0, by decide +kernel⟩,
   ⟨({ up with hbm.pcs := [(0, { reads := [reqH] })] }), 0, _, by decide +kernel, rfl⟩,
   ⟨({ up with hbm.pcs := [(0, { issued := [reqH] })] }), 0, 0, _, _, rfl, by decide +kernel, by decide +kernel, by decide +kernel⟩,
   ⟨({ full with flow.regions := [(0, { busy := [{ opA with issued := some 0 }] })], hbm.pcs := [(0, { issued := [{ reqH with use := .flow 0 }] })] }),
     0, 0, _, _, _, _, rfl, rfl, by decide +kernel, by decide +kernel, rfl⟩,
   ⟨({ full with flow.regions := [(0, { busy := [{ opA with issued := some 0 }] })], hbm.pcs := [(0, { issued := [{ reqH with use := .flow 0, addr := 2 ^ 32 }] })] }),
     0, 0, _, _, 0, _, _, rfl, rfl, by decide +kernel, by decide +kernel, by decide +kernel, rfl, rfl⟩,
   ⟨up, 0, by decide +kernel⟩,
   ⟨({ up with hbm.pcs := [(0, { openRow := [(0, 5)] })], time.localNs := 200 }), 0, 0, by decide +kernel, by decide +kernel⟩,
   ⟨({ up with hbm.pcs := [(0, { openRow := [(0, 5)] })], time.localNs := 199 }), 0, 0, by decide +kernel⟩,
   ⟨({ up with hbm.pcs := [(0, { refresh := (List.range 47).map (fun b => (b + 1, 10)) })] }), 0, 0, by decide +kernel⟩,
   ⟨({ up with hbm.pcs := [(0, { refresh := (List.range 46).map (fun b => (b + 1, 10)) })] }), 0, 0, by decide +kernel⟩,
   ⟨({ up with hbm.stackStates := [.training, .ready] }), 0, by decide +kernel⟩,
   ⟨({ up with hbm.stackStates := [.training, .ready] }), 0, by decide +kernel, by decide +kernel⟩,
   ⟨({ up with hbm.stackStates := [.training, .ready], hbm.attempts := [(0, 2)] }), 0, by decide +kernel, by decide +kernel⟩,
   ⟨({ up with power.moving := true, power.target := .dormant, power.flushed := true }), 0, by decide +kernel, by decide +kernel, by
     decide +kernel, by decide +kernel, by decide +kernel, by decide +kernel⟩,
   ⟨({ up with hbm.selfRefresh := 1, power.waking := true }), 0, true, false, by decide +kernel, by decide +kernel, by decide +kernel⟩,
   ⟨({ up with hbm.selfRefresh := 1, power.waking := true }), 0, by decide +kernel, by decide +kernel⟩,
   ⟨upB, 0, 0, _, by decide +kernel, by decide +kernel, rfl⟩,
   ⟨up, 0, by decide +kernel, by decide +kernel⟩,
   ⟨({ up with hbm.retiring := some (3, some 1), hbm.moved := regions.map (fun r => (r, 2 ^ 30)) }), true, _, _, rfl⟩,
   ⟨({ up with hbm.retiring := some (3, none), hbm.moved := regions.map (fun r => (r, 2 ^ 30)) }), true, _, rfl⟩,
   ⟨({ up with hbm.retiring := some (3, none) }), true, by decide +kernel⟩,
   ⟨up, by decide +kernel⟩,
   ⟨up, 0, 16640, 1179648, 48, 65, 0, 1, 0, by decide +kernel, by decide +kernel, by decide +kernel, by decide +kernel, by decide +kernel, by
     decide +kernel⟩,
   ⟨up, by decide +kernel⟩⟩

/-- States and operands that meet the hypotheses of each clause of Obligations.ProtocolRows. -/
theorem witness_ProtocolRows :
    (∃ (s : State) (c : Nat) (op : Nat) (d : Ocf) (opcode : Nat) (f : Ocf), tget s.host.dmaBusy c = some (op, d) ∧ f.isDma = false ∧ headerError
      { f with transport := .dma c (getBe (fit 24 d.params) 16 8) (getBe (fit 24 d.params) 12 4), present := getBe (fit 24 d.params) 8 4 } = none
      ∧ definedOpcode opcode = true) ∧
    (∃ (s : State) (c : Nat) (op : Nat) (d : Ocf), tget s.host.dmaBusy c = some (op, d)) ∧
    (∃ (s : State) (c : Nat) (op : Nat) (d : Ocf) (f : Ocf), tget s.host.dmaBusy c = some (op, d) ∧ f.isDma = true) ∧
    (∃ (s : State) (c : Nat), tget s.host.dmaBusy c = none) ∧
    (∃ (s : State) (opcode : Nat) (f : Ocf), s.ocf.tableWaits.find? (fun w => w.opcode = opcode && w.cmd = f && w.pend = none) = none ∧
      s.flowCmdOf opcode f = none ∧ s.ocf.intake.any (fun e => e.opcode = opcode && e.cmd = f) = false) ∧
    (∃ (s : State) (opcode : Nat) (f : Ocf) (g : Nat) (u : State) (key : Option Bytes), s.accepts = true ∧ s.ocf.tableWaits.find? (fun w =>
      w.opcode = opcode && w.cmd = f && w.pend = none) = none ∧ s.flowCmdOf opcode f = none ∧ s.ocf.intake.any (fun e => e.opcode = opcode &&
      e.cmd = f) = true ∧ takeIntake opcode f s = (g, u) ∧ readOpcodes.contains opcode = true ∧ u.gate f opcode false false = .pass key ∧
      f.isMember = false) ∧
    (∃ (s : State) (opcode : Nat) (f : Ocf) (g : Nat) (u : State) (key : Option Bytes), s.accepts = true ∧ s.ocf.tableWaits.find? (fun w =>
      w.opcode = opcode && w.cmd = f && w.pend = none) = none ∧ s.flowCmdOf opcode f = none ∧ s.ocf.intake.any (fun e => e.opcode = opcode &&
      e.cmd = f) = true ∧ takeIntake opcode f s = (g, u) ∧ readOpcodes.contains opcode = false ∧ u.gate f opcode true false = .pass key) ∧
    (∃ (s : State) (opcode : Nat) (f : Ocf) (w : TableWait), s.accepts = true ∧ s.ocf.tableWaits.find? (fun w => w.opcode = opcode && w.cmd = f &&
      w.pend = none) = some w) ∧
    (∃ (s : State) (opcode : Nat) (f : Ocf) (id : Nat), s.accepts = true ∧ s.ocf.tableWaits.find? (fun w => w.opcode = opcode && w.cmd = f &&
      w.pend = none) = none ∧ s.flowCmdOf opcode f = some id) ∧
    (∃ (s : State) (id : Nat) (p : PendCmd) (st : Nat) (detail : Nat) (res : Results), tget s.ocf.pend id = some p ∧ p.final = some (st, detail,
      res) ∧ p.sends = 0 ∧ p.audited = false ∧ p.cmd.noReply = false) ∧
    (∃ (s : State) (id : Nat) (p : PendCmd) (st : Nat) (detail : Nat) (res : Results) (u : State), tget s.ocf.pend id = some p ∧ p.final = some
      (st, detail, res) ∧ p.sends = 0 ∧ p.audited = true ∧ p.cmd.noReply = false ∧ u = auditCommand 0x02 p.opcode p.cmd st 0 s) ∧
    (∃ (s : State) (id : Nat) (p : PendCmd) (st : Nat) (detail : Nat) (res : Results) (u : State), tget s.ocf.pend id = some p ∧ p.final = some
      (st, detail, res) ∧ p.sends = 0 ∧ p.cmd.noReply = true ∧ u = (if p.audited = true then auditCommand 0x02 p.opcode p.cmd st 0 s else s)) ∧
    (∃ (s : State) (id : Nat) (p : PendCmd), tget s.ocf.pend id = some p ∧ p.final = none) ∧
    (∃ (s : State) (id : Nat) (p : PendCmd), tget s.ocf.pend id = some p ∧ 1 ≤ p.sends ∧ p.sends ≤ 3) ∧
    (∃ (s : State) (id : Nat) (p : PendCmd), tget s.ocf.pend id = some p ∧ 4 ≤ p.sends) ∧
    (∃ (s : State) (e : AuditEntry) (last : Nat), last = (s.flash.audit.getLast?.map AuditEntry.entryNo).getD 0 ∧ s.roles.audit.ring.find? (fun x
      => last < x.entryNo) = some e) ∧
    (∃ (s : State) (last : Nat), last = (s.flash.audit.getLast?.map AuditEntry.entryNo).getD 0 ∧ s.roles.audit.ring.find? (fun x => last <
      x.entryNo) = none) :=
  ⟨⟨({ up with host.dmaBusy := [(0, (0x0101, { fr 24 with params := [0#8, 0#8, 0#8, 0#8, 0#8, 0#8, 0#8, 0#8, 0#8, 0#8, 16#8] }))] }), 0, _, _,
    0x0101, ((fr 0)), rfl, by decide +kernel, by decide +kernel, by decide +kernel⟩,
   ⟨({ up with host.dmaBusy := [(0, (0x0101, { fr 24 with params := [0#8, 0#8, 0#8, 0#8, 0#8, 0#8, 0#8, 0#8, 0#8, 0#8, 16#8] }))] }), 0, _, _,
     rfl⟩,
   ⟨({ up with host.dmaBusy := [(0, (0x0101, { fr 24 with params := [0#8, 0#8, 0#8, 0#8, 0#8, 0#8, 0#8, 0#8, 0#8, 0#8, 16#8] }))] }), 0, _, _,
     (({ fr 0 with flags := 4 })), rfl, by decide +kernel⟩,
   ⟨up, 0, by decide +kernel⟩,
   ⟨up, 0x0101, (fr 0), by decide +kernel, by decide +kernel, by decide +kernel⟩,
   ⟨({ up with ocf.intake := [⟨0x0101, fr 0, 0⟩] }), 0x0101, (fr 0), _, _, _, by decide +kernel, by decide +kernel, by decide +kernel, by
     decide +kernel, rfl, by decide +kernel, rfl, by decide +kernel⟩,
   ⟨({ up with ocf.intake := [⟨0x0604, fr 0, 0⟩] }), 0x0604, (fr 0), _, _, _, by decide +kernel, by decide +kernel, by decide +kernel, by
     decide +kernel, rfl, by decide +kernel, rfl⟩,
   ⟨({ up with ocf.tableWaits := [waitA] }), 0x0504, (fr 12), waitA, by decide +kernel, by decide +kernel⟩,
   ⟨({ up with flow.cmds := [(7, { reply := .frame 0x0404 (fr 96) none 0 false })] }), 0x0404, (fr 96), 7, by decide +kernel, by decide +kernel,
     by decide +kernel⟩,
   ⟨({ up with ocf.pend := [(1, { pendA with final := some (0, 0xFFFF, []) })] }), 1, _, _, _, _, rfl, rfl, by decide +kernel, by decide +kernel,
     by decide +kernel⟩,
   ⟨({ up with ocf.pend := [(1, { pendA with final := some (0, 0xFFFF, []), audited := true })] }), 1, _, _, _, _, _, rfl, rfl,
     by decide +kernel, by decide +kernel, by decide +kernel, rfl⟩,
   ⟨({ up with ocf.pend := [(1, { pendA with final := some (0, 0xFFFF, []), cmd.flags := 8 })] }), 1, _, _, _, _, _, rfl, rfl, by decide +kernel,
     by decide +kernel, rfl⟩,
   ⟨({ up with ocf.pend := [(1, { pendA with sends := 0 })] }), 1, _, rfl, by decide +kernel⟩,
   ⟨({ up with ocf.pend := [(1, { pendA with sends := 1 })] }), 1, _, rfl, by decide +kernel, by decide +kernel⟩,
   ⟨({ up with ocf.pend := [(1, { pendA with sends := 4 })] }), 1, _, rfl, by decide +kernel⟩,
   ⟨({ up with roles.audit.ring := [auditA] }), _, _, rfl, rfl⟩,
   ⟨up, _, rfl, by decide +kernel⟩⟩

/-- States and operands that meet the hypotheses of each clause of Obligations.RingRows. -/
theorem witness_RingRows :
    (∃ (s : State) (t : TxFrame) (info : SlowInfo) (i : Nat) (bufs : List RxBuf) (parts : List (RxBuf × Bytes)), s.rxHead = some (t, info, i) ∧
      s.dmaOpen = true ∧ (s.ring false i).en = true ∧ bufs.length ≤ (s.ring false i).owned ∧ splitFrame bufs t.wire = some parts) ∧
    (∃ (s : State) (t : TxFrame) (info : SlowInfo) (i : Nat) (bufs : List RxBuf) (parts : List (RxBuf × Bytes)), s.rxHead = some (t, info, i) ∧
      s.dmaOpen = true ∧ (s.ring false i).en = true ∧ bufs.length ≤ (s.ring false i).owned ∧ splitFrame bufs t.wire = some parts) ∧
    (∃ (s : State) (t : TxFrame) (info : SlowInfo) (i : Nat), s.rxHead = some (t, info, i) ∧ (s.ring false i).en = false) ∧
    (∃ (b : List RxBuf) (d : Bytes) (parts : List (RxBuf × Bytes)), splitFrame b d = some parts) ∧
    (∃ (s : State) (t : TxFrame) (info : SlowInfo) (i : Nat), s.rxHead = some (t, info, i) ∧ s.dmaOpen = true) ∧
    (∃ (s : State), s.rxHead = none) ∧
    (∃ (s : State) (i : Nat) (descs : List TxDesc), s.dmaOpen = true ∧ nextTurn 8 (s.host.txTurn + 1) s.txWork = some i ∧ descs ≠ [] ∧
      descs.length ≤ (s.ring true i).owned) ∧
    (∃ (s : State) (i : Nat) (descs : List TxDesc), s.dmaOpen = true ∧ nextTurn 8 (s.host.txTurn + 1) s.txWork = some i ∧ descs ≠ [] ∧
      descs.length ≤ (s.ring true i).owned ∧ txFlagsOk descs = false) ∧
    (∃ (s : State) (i : Nat) (descs : List TxDesc), s.dmaOpen = true ∧ nextTurn 8 (s.host.txTurn + 1) s.txWork = some i ∧ descs ≠ [] ∧
      descs.length ≤ (s.ring true i).owned ∧ txFlagsOk descs = true ∧ txLengthOk descs = false) ∧
    (∃ (s : State) (i : Nat) (d : TxDesc) (ds : List TxDesc) (data : Bytes) (w : Bytes) (u : State), s.dmaOpen = true ∧ nextTurn 8 (s.host.txTurn
      + 1) s.txWork = some i ∧ (d :: ds).length ≤ (s.ring true i).owned ∧ txFlagsOk (d :: ds) = true ∧ txLengthOk (d :: ds) = true ∧ w = padFrame
      (fit (txLength (d :: ds)) data) ∧ s.ingressFits 0 hostPort (cellsOf w.length) = true ∧ d.flags.testBit 2 = true ∧ u =
      { endTx i (d :: ds).length txAccepted (countRx hostPort (w.length + 4) s) with host.txTurn := i }) ∧
    (∃ (s : State) (i : Nat) (d : TxDesc) (ds : List TxDesc) (data : Bytes) (w : Bytes) (u : State) (f : Frame) (v : State), s.dmaOpen = true ∧
      nextTurn 8 (s.host.txTurn + 1) s.txWork = some i ∧ (d :: ds).length ≤ (s.ring true i).owned ∧ txFlagsOk (d :: ds) = true ∧ txLengthOk (d ::
      ds) = true ∧ w = padFrame (fit (txLength (d :: ds)) data) ∧ s.ingressFits 0 hostPort (cellsOf w.length) = true ∧ d.flags.testBit 2 = false
      ∧ u = { endTx i (d :: ds).length txAccepted (countRx hostPort (w.length + 4) s) with host.txTurn := i } ∧ store (u.newFrame hostPort w) u =
      (some f, v)) ∧
    (∃ (s : State) (i : Nat), nextTurn 8 (s.host.txTurn + 1) s.txWork ≠ some i) :=
  ⟨⟨({ up with eg.ports := [(hostPort, { tx := [{ txA with wire := List.replicate 60 0#8 }] })], host.rx := [(0, { en := true, tail := 4 })] }),
    _, _, _, ([⟨4096, 2048⟩]), _, rfl, by decide +kernel, by decide +kernel, by decide +kernel, rfl⟩,
   ⟨({ up with eg.ports := [(hostPort, { tx := [{ txA with wire := List.replicate 60 0#8 }] })], host.rx := [(0, { en := true, tail := 4 })] }),
     _, _, _, ([⟨4096, 2048⟩]), _, rfl, by decide +kernel, by decide +kernel, by decide +kernel, rfl⟩,
   ⟨({ up with eg.ports := [(hostPort, { tx := [{ txA with wire := List.replicate 60 0#8 }] })] }), _, _, _, rfl, by decide +kernel⟩,
   ⟨[], [], _, rfl⟩,
   ⟨({ up with eg.ports := [(hostPort, { tx := [{ txA with wire := List.replicate 60 0#8 }] })], host.rx := [(0, { en := true })] }), _, _, _,
     rfl, by decide +kernel⟩,
   ⟨up, by decide +kernel⟩,
   ⟨({ up with host.tx := [(0, { en := true, tail := 1 })] }), _, ([⟨0, 60, 3, 0, 0⟩]), by decide +kernel, rfl, by decide +kernel,
     by decide +kernel⟩,
   ⟨({ up with host.tx := [(0, { en := true, tail := 1 })] }), _, ([⟨0, 60, 0, 0, 0⟩]), by decide +kernel, rfl, by decide +kernel,
     by decide +kernel, by decide +kernel⟩,
   ⟨({ up with host.tx := [(0, { en := true, tail := 1 })] }), _, ([⟨0, 0, 3, 0, 0⟩]), by decide +kernel, rfl, by decide +kernel,
     by decide +kernel, by decide +kernel, by decide +kernel⟩,
   ⟨({ up with host.tx := [(0, { en := true, tail := 1 })] }), _, (⟨0, 60, 7, 0, 0⟩), [], [], _, _, by decide +kernel, rfl, by decide +kernel,
     by decide +kernel, by decide +kernel, rfl, by decide +kernel, by decide +kernel, rfl⟩,
   ⟨({ up with host.tx := [(0, { en := true, tail := 1 })] }), _, (⟨0, 60, 3, 0, 0⟩), [], [], _, _, _, _, by decide +kernel, rfl,
     by decide +kernel, by decide +kernel, by decide +kernel, rfl, by decide +kernel, by decide +kernel, rfl, rfl⟩,
   ⟨up, 0, by decide +kernel⟩⟩

/-- States and operands that meet the hypotheses of each clause of Obligations.GeyserRows. -/
theorem witness_GeyserRows :
    (∃ (s : State), s.isReady 95 = true) ∧
    (∃ (s : State), s.isReady 95 = true ∧ s.eng.delayed = []) ∧
    (∃ (s : State) (i : WorkItem) (h : Nat) (u : State), submitItem i s = some (h, u)) ∧
    (∃ (s : State) (engine : Bool) (x : Nat) (u : State) (h : Nat) (i : WorkItem), s.isReady 95 = true ∧ s.running = true ∧ s.grantsOff = false ∧
      s.waits engine x = true ∧ u = noteDeferred (s.candidates engine x) s ∧ u.chooseItem engine x = some (h, i) ∧ (∀ n, n ≠ x → u.waits engine n
      = true → u.suits engine n i = true → u.before engine n x = false)) ∧
    (∃ (s : State), s.grantsOff = true) ∧
    (∃ (s : State) (x : Nat) (h : Nat) (i : WorkItem), s.running_ false x = some (h, i) ∧ i.hostJob = false) ∧
    (∃ (s : State) (x : Nat) (h : Nat) (i : WorkItem) (e : Nat × Nat × List (Nat × Nat)), s.running_ false x = some (h, i) ∧ i.hostJob = true ∧
      i.ending = some e) ∧
    (∃ (s : State) (x : Nat) (h : Nat) (i : WorkItem) (v : Nat) (u : State), s.running_ true x = some (h, i) ∧ (s.engine x).finished = some v ∧
      (s.engine x).ops.all (fun op => op.code = 5) = true ∧ u = completeItem true x h i v s) ∧
    (∃ (s : State) (x : Nat) (h : Nat) (i : WorkItem), s.running_ true x = some (h, i) ∧ (s.engine x).ops.all (fun op => op.code = 5) = false) ∧
    (∃ (s : State) (engine : Bool) (x : Nat), s.running_ engine x = none) ∧
    (∃ (s : State) (engine : Bool) (x : Nat) (h : Nat) (i : WorkItem), s.running_ engine x = some (h, i) ∧ i.overran = false) ∧
    (∃ (s : State) (engine : Bool) (x : Nat) (h : Nat) (i : WorkItem), s.running_ engine x = some (h, i) ∧ i.overran = true) ∧
    (∃ (s : State), s.isReady 95 = true) :=
  ⟨⟨up, by decide +kernel⟩,
   ⟨up, by decide +kernel, by decide +kernel⟩,
   ⟨up, jobA, _, _, rfl⟩,
   ⟨upGrant, true, 0, noteDeferred (upGrant.candidates true 0) upGrant, 0, itemA, by decide +kernel, by decide +kernel, by decide +kernel,
     by decide +kernel, rfl, by decide +kernel, by
      intro n _ _ _
      have e : (noteDeferred (upGrant.candidates true 0) upGrant).eng.asked = [] := by decide +kernel
      simp [State.before, e, tgetD, tget]⟩,
   ⟨({ up with power.moving := true, power.target := .dormant }), by decide +kernel⟩,
   ⟨({ up with eng.runs := [(0, 0)], eng.items := [(0, itemA)] }), 0, _, _, rfl, by decide +kernel⟩,
   ⟨({ up with eng.runs := [(0, 0)], eng.items := [(0, { jobA with state := .running, ending := some (0, 0xFFFF, []) })] }), 0, _, _, _, rfl,
     by decide +kernel, rfl⟩,
   ⟨({ up with eng.runs := [(32, 0)], eng.items := [(0, itemA)], eng.engines := [(0, { finished := some 0, ops := [opM] })] }), 0, _, _, _, _,
     rfl, rfl, by decide +kernel, rfl⟩,
   ⟨({ up with eng.runs := [(32, 0)], eng.items := [(0, itemA)], eng.engines := [(0, { ops := [{ opM with code := 1 }] })] }), 0, _, _, rfl, by
     decide +kernel⟩,
   ⟨up, true, 0, by decide +kernel⟩,
   ⟨({ up with eng.runs := [(32, 0)], eng.items := [(0, itemA)], eng.engines := [(0, { state := .running })] }), true, 0, _, _, rfl,
     by decide +kernel⟩,
   ⟨({ up with eng.runs := [(32, 0)], eng.items := [(0, { itemA with overran := true })] }), true, 0, _, _, rfl, by decide +kernel⟩,
   ⟨up, by decide +kernel⟩⟩

/-- States and operands that meet the hypotheses of each clause of Obligations.EngineRows. -/
theorem witness_EngineRows :
    (∃ (s : State) (k : Nat) (h : Nat) (i : WorkItem), s.running_ true k = some (h, i) ∧ s.live true k = true ∧ (s.engine k).finished = none ∧
      (s.engine k).state = .running) ∧
    (∃ (s : State) (e : Engine), (nanoOf (s.nanoAt (microOf (s.microAt e.upc)).nano)).reserved = true) ∧
    (∃ (s : State) (e : Engine) (n : Nano) (m : Micro), m = microOf (s.microAt e.upc) ∧ n = nanoOf (s.nanoAt m.nano) ∧ n.reserved = false ∧ n.mem
      = 0 ∧ n.event = 0 ∧ m.seq = 1) ∧
    (∃ (s : State) (e : Engine) (n : Nano) (m : Micro), m = microOf (s.microAt e.upc) ∧ n = nanoOf (s.nanoAt m.nano) ∧ n.reserved = false ∧ n.mem
      = 0 ∧ n.event = 0 ∧ m.seq = 7) ∧
    (∃ (s : State) (e : Engine) (n : Nano) (m : Micro), m = microOf (s.microAt e.upc) ∧ n = nanoOf (s.nanoAt m.nano) ∧ n.reserved = false ∧ 1 ≤
      n.mem ∧ n.mem ≤ 3 ∧ 4 ≤ e.ops.length) ∧
    (∃ (s : State) (k : Nat) (h : Nat) (i : WorkItem), s.running_ true k = some (h, i) ∧ s.live true k = true ∧ (s.engine k).finished = none ∧
      (s.engine k).state = .running ∧ (s.engine k).retries < 2) ∧
    (∃ (s : State) (k : Nat) (h : Nat) (i : WorkItem), s.running_ true k = some (h, i) ∧ s.live true k = true ∧ (s.engine k).finished = none ∧
      (s.engine k).state = .running ∧ 2 ≤ (s.engine k).retries) ∧
    (∃ (s : State) (k : Nat) (h : Nat) (i : WorkItem), s.running_ true k = some (h, i) ∧ s.live true k = true ∧ (s.engine k).finished = none ∧
      (s.engine k).state = .running) ∧
    (∃ (s : State) (k : Nat) (h : Nat) (i : WorkItem), s.running_ true k = some (h, i) ∧ s.live true k = true ∧ (s.engine k).finished = none ∧
      (s.engine k).state = .running) ∧
    (∃ (held : List MemOp) (op : MemOp), held.any (fun o => opsMeet o op) = true) ∧
    (∃ (s : State) (k : Nat) (h : Nat) (i : WorkItem), s.running_ true k = some (h, i) ∧ s.live true k = true ∧ (s.engine k).finished = none ∧
      (s.engine k).state = .waiting ∧ condHolds (s.engine k) i (microOf (s.microAt (s.engine k).upc)).cond = true) ∧
    (∃ (s : State) (k : Nat) (op : MemOp) (c : EngineCtx) (u : State), firstDone k (s.engine k).ctx s [] (s.engine k).ops = some (op, c, u)) ∧
    (∃ (s : State) (k : Nat) (op : MemOp), (s.engine k).ops.find? (fun op => op.code != 5) = some op) ∧
    (∃ (s : State) (k : Nat), (s.engine k).state = .waiting) ∧
    (∃ (s : State) (k : Nat), (s.engine k).state ≠ .waiting) :=
  ⟨⟨({ up with eng.runs := [(32, 0)], eng.items := [(0, itemA)], eng.engines := [(0, { state := .running })] }), 0, _, _, rfl, by decide +kernel,
    by decide +kernel, by decide +kernel⟩,
   ⟨({ up with eng.micro := [(0, 0)], eng.nano := [(0, 255 * 2 ^ 152)] }), {}, by decide +kernel⟩,
   ⟨({ up with eng.micro := [(0, 2 ^ 18)], eng.nano := [(0, 0)] }), {}, _, _, rfl, rfl, by decide +kernel, by decide +kernel, by decide +kernel,
     by decide +kernel⟩,
   ⟨({ up with eng.micro := [(0, 7 * 2 ^ 18)], eng.nano := [(0, 0)] }), {}, _, _, rfl, rfl, by decide +kernel, by decide +kernel,
     by decide +kernel, by decide +kernel⟩,
   ⟨({ up with eng.micro := [(0, 0)], eng.nano := [(0, 2 ^ 132)] }), ({ ops := List.replicate 4 opM }), _, _, rfl, rfl, by decide +kernel,
     by decide +kernel, by decide +kernel, by decide +kernel⟩,
   ⟨({ up with eng.runs := [(32, 0)], eng.items := [(0, itemA)], eng.engines := [(0, { state := .running })] }), 0, _, _, rfl, by decide +kernel,
     by decide +kernel, by decide +kernel, by decide +kernel⟩,
   ⟨({ up with eng.runs := [(32, 0)], eng.items := [(0, itemA)], eng.engines := [(0, { state := .running, retries := 2 })] }), 0, _, _, rfl,
     by decide +kernel, by decide +kernel, by decide +kernel, by decide +kernel⟩,
   ⟨({ up with eng.runs := [(32, 0)], eng.items := [(0, itemA)], eng.engines := [(0, { state := .running })] }), 0, _, _, rfl, by decide +kernel,
     by decide +kernel, by decide +kernel⟩,
   ⟨({ up with eng.runs := [(32, 0)], eng.items := [(0, itemA)], eng.engines := [(0, { state := .running, ops := [opM] })] }), 0, 0, itemA, by
     decide +kernel, by decide +kernel, by decide +kernel, by decide +kernel⟩,
   ⟨[{ opM with code := 1 }], { opM with code := 2 }, by decide +kernel⟩,
   ⟨({ up with eng.runs := [(32, 0)], eng.items := [(0, itemA)], eng.engines := [(0, { state := .waiting })], eng.micro := [(0, 0)] }), 0, _, _,
     rfl, by decide +kernel, by decide +kernel, by decide +kernel, by decide +kernel⟩,
   ⟨({ up with eng.runs := [(32, 0)], eng.items := [(0, itemA)], eng.engines := [(0, { state := .running, ops := [opM] })] }), 0, _, _, _, rfl⟩,
   ⟨({ up with eng.runs := [(32, 0)], eng.items := [(0, itemA)], eng.engines := [(0, { state := .running, ops := [{ opM with code := 1 }] })] }),
     0, _, rfl⟩,
   ⟨({ up with eng.runs := [(32, 0)], eng.items := [(0, itemA)], eng.engines := [(0, { state := .waiting })] }), 0, by decide +kernel⟩,
   ⟨up, 0, by decide +kernel⟩⟩

/-- States and operands that meet the hypotheses of each clause of Obligations.HostJobRows. -/
theorem witness_HostJobRows :
    (∃ (s : State) (h : Nat) (i : WorkItem) (table : Nat) (select : Nat) (cursor : Nat), s.jobAt h = some i ∧ i.job = .tableDump table select
      cursor ∧ s.dmaOpen = true) ∧
    (∃ (s : State) (h : Nat) (i : WorkItem) (table : Nat) (select : Nat) (cursor : Nat), s.jobAt h = some i ∧ i.job = .tableDump table select
      cursor ∧ s.dmaOpen = false) ∧
    (∃ (s : State) (h : Nat) (i : WorkItem) (blocks : FlowBlocks) (c : BulkCount) (u : State), s.jobAt h = some i ∧ i.job = .bulkInsert
      blocks.length ∧ s.dmaOpen = true ∧ bulkBlocks (reached i (blocks.zipIdx.drop i.bulk.next)) i.bulk s = (c, none, u)) ∧
    (∃ (s : State) (h : Nat) (i : WorkItem) (blocks : FlowBlocks) (c : BulkCount) (n : Nat) (u : State), s.jobAt h = some i ∧ i.job = .bulkInsert
      blocks.length ∧ s.dmaOpen = true ∧ bulkBlocks (reached i (blocks.zipIdx.drop i.bulk.next)) i.bulk s = (c, some n, u)) ∧
    (∃ (s : State) (h : Nat) (i : WorkItem), s.jobAt h = some i ∧ i.job = .bulkInsert 0 ∧ i.bulk = {} ∧ s.dmaOpen = true) ∧
    (∃ (s : State) (h : Nat) (i : WorkItem) (scope : Nat), s.jobAt h = some i ∧ i.job = .snapshot scope ∧ s.dmaOpen = true) ∧
    (∃ (s : State) (h : Nat) (i : WorkItem) (tick : Nat) (f : Ocf) (c : Instr) (b : Body), s.jobAt h = some i ∧ i.job = .delayed tick f ∧ i.cmd =
      some c ∧ bodyOf c = some b ∧ i.cancelReq = true) ∧
    (∃ (s : State) (h : Nat) (i : WorkItem) (tick : Nat) (f : Ocf) (c : Instr) (b : Body) (a : Answer) (j : WorkItem), s.jobAt h = some i ∧ i.job
      = .delayed tick f ∧ i.cmd = some c ∧ bodyOf c = some b ∧ i.cancelReq = false ∧ a = runEmbedded b f i.frameKey s ∧ a.st.item h = some j ∧
      a.waits = none) ∧
    (∃ (s : State) (h : Nat) (i : WorkItem) (tick : Nat) (f : Ocf) (c : Instr) (b : Body) (a : Answer) (j : WorkItem) (id : Nat), s.jobAt h = some
      i ∧ i.job = .delayed tick f ∧ i.cmd = some c ∧ bodyOf c = some b ∧ i.cancelReq = false ∧ a = runEmbedded b f i.frameKey s ∧ a.st.item h =
      some j ∧ a.waits = some id) ∧
    (∃ (s : State) (h : Nat), s.jobAt h = none) :=
  ⟨⟨({ up with eng.items := [(0, { jobA with state := .running, job := .tableDump 0 0 0 })] }), 0, _, _, _, _, rfl, rfl, by decide +kernel⟩,
   ⟨({ up with host.busMaster := false, eng.items := [(0, { jobA with state := .running, job := .tableDump 0 0 0 })] }), 0, _, _, _, _, rfl, rfl,
     by decide +kernel⟩,
   ⟨({ full with eng.items := [(0, { jobA with state := .running, job := .bulkInsert 1 })] }), 0, _, [blockA], _, _, rfl, rfl, by decide +kernel,
     rfl⟩,
   ⟨({ full with flow.regions := [(homeA, { queue := [opA] })], eng.items := [(0, { jobA with state := .running, job := .bulkInsert 1 })] }), 0,
     _, [blockA], _, _, _, rfl, rfl, by decide +kernel, rfl⟩,
   ⟨({ up with eng.items := [(0, { jobA with state := .running, job := .bulkInsert 0 })] }), 0, _, rfl, by decide +kernel, by decide +kernel, by
     decide +kernel⟩,
   ⟨({ up with eng.items := [(0, { jobA with state := .running, job := .snapshot 15 })] }), 0, _, _, rfl, rfl, by decide +kernel⟩,
   ⟨({ up with eng.items := [(0, { jobA with state := .running, job := .delayed 0x0601 (fr 12), cmd := some (.vlanWrite (fr 12) 1 0), cancelReq := true })] }),
     0, _, _, _, _, _, rfl, rfl, rfl, rfl, by decide +kernel⟩,
   ⟨({ up with eng.items := [(0, { jobA with state := .running, job := .delayed 0x0601 (fr 12), cmd := some (.vlanWrite (fr 12) 1 0) })] }), 0, _,
     _, _, _, _, _, _, rfl, rfl, rfl, rfl, by decide +kernel, rfl, rfl, rfl⟩,
   ⟨({ full with flow.regions := [(homeA, { queue := [opA] })], eng.items := [(0, { jobA with state := .running, job := .delayed 0x0404 (fr 96), cmd := some (.flowInsert (fr 96) blockA) })] }),
     0, _, _, _, _, _, _, _, _, rfl, rfl, rfl, rfl, by decide +kernel, rfl, rfl, rfl⟩,
   ⟨up, 0, by decide +kernel⟩⟩

/-- States and operands that meet the hypotheses of each clause of Obligations.StepRunsTheFrontCommand. -/
theorem witness_StepRunsTheFrontCommand :
    ∃ (s : State) (c : Instr) (cs : List Instr), s.pending = c :: cs :=
  ⟨({ up with pending := [.porstNRelease] }), _, _, rfl⟩

/-- States and operands that meet the hypotheses of each clause of Obligations.IdleCycle. -/
theorem witness_IdleCycle :
    (∃ (s : State), s.pending = [] ∧ s.boot.porstHigh = true ∧ s.boot.powerGood = 15 ∧ s.boot.sysclk = true) ∧
    (∃ (s : State), s.pending = [] ∧ (s.boot.porstHigh = false ∨ s.boot.powerGood ≠ 15 ∨ s.boot.sysclk = false)) :=
  ⟨⟨up, by decide +kernel, by decide +kernel, by decide +kernel, by decide +kernel⟩,
   ⟨({ boot.porstHigh := false }), by decide +kernel, by decide +kernel⟩⟩

/-- States and operands that meet the hypotheses of each clause of Obligations.CommandsGoOn. -/
theorem witness_CommandsGoOn :
    (∃ (c : Instr), (∀ k p, c ≠ .microwordExecute k p) ∧ (∀ q, c ≠ .hbmRequestAccept q)) ∧
    (∃ (c : Instr) (s : State) (t : State), exec c s = .next t) ∧
    (∃ (s : State) (t : State), step s = .next t) :=
  ⟨⟨.porstNRelease, by intro a b; first | (cases b; done) | simp_all, by intro a b; first | (cases b; done) | simp_all⟩,
   ⟨.porstNRelease, up, _, rfl⟩,
   ⟨up, _, rfl⟩⟩

/-- States and operands that meet the hypotheses of each clause of Obligations.EveryStepKeepsMemoryCanonical. -/
theorem witness_EveryStepKeepsMemoryCanonical :
    ∃ (s : State) (t : State), s.memoryCanonical ∧ step s = .next t :=
  ⟨{ up with pending := [.porstNRelease] }, _, ⟨by decide +kernel, by decide +kernel, by decide +kernel⟩, rfl⟩

/-- States and operands that meet the hypotheses of each clause of Obligations.FusesOnlyBurn. -/
theorem witness_FusesOnlyBurn :
    ∃ (s : State) (t : State), step s = .next t :=
  ⟨up, _, rfl⟩

/-- States and operands that meet the hypotheses of each clause of Obligations.OnlyLimitsSetChangesLimits. -/
theorem witness_OnlyLimitsSetChangesLimits :
    (∃ (c : Instr) (s : State) (t : State), setsLimits c = false ∧ exec c s = .next t) ∧
    (∃ (s : State) (t : State), s.pending = [] ∧ step s = .next t) ∧
    (∃ (s : State) (h : Ocf) (p : PwrLimitsSetP), Taken s h 0x0A03 true false 8 ∧ 120 ≤ orDefault p.capFloor 200 ∧ orDefault p.capFloor 200 ≤
      orDefault p.capCeiling 560 ∧ orDefault p.capCeiling 560 ≤ 560 ∧ p.maintPermille ≤ 50 ∧ 32 ≤ orDefault p.hbmCFloor 64 ∧ orDefault
      p.hbmCFloor 64 ≤ 232 ∧ 70 ≤ orDefault p.tjWarn 95 ∧ orDefault p.tjWarn 95 ≤ 100 ∧ p.shedNotice ≤ 10 ∧ (∀ c, s.power.opCap = some c →
      orDefault p.capFloor 200 ≤ c ∧ c ≤ orDefault p.capCeiling 560) ∧ (∀ e ∈ s.power.profiles, ∀ c, e.2.cap = some c → orDefault p.capFloor 200
      ≤ c ∧ c ≤ orDefault p.capCeiling 560) ∧ s.dMin ≤ orDefault p.capFloor 200 * orDefault p.maintPermille 10 * 100 ∧ p.flashOk = true) :=
  ⟨⟨.porstNRelease, up, _, by decide +kernel, rfl⟩,
   ⟨up, _, by decide +kernel, rfl⟩,
   ⟨up, ((fr 8)), (⟨0, 0, 0, 0, 0, 1, true⟩), takenOf (by decide +kernel), by decide +kernel, by decide +kernel, by decide +kernel,
     by decide +kernel, by decide +kernel, by decide +kernel, by decide +kernel, by decide +kernel, by decide +kernel, by decide +kernel,
     by decide +kernel, by decide +kernel, by decide +kernel⟩⟩

/-- States and operands that meet the hypotheses of each clause of Obligations.InterruptStatusHolds. -/
theorem witness_InterruptStatusHolds :
    (∃ (src : Nat), isLevel src = false) ∧
    (∃ (c : Instr) (s : State) (t : State) (src : Nat), clearsStatus c = false ∧ isLevel src = false ∧ exec c s = .next t ∧ s.intStatus src =
      true) ∧
    (∃ (g : Nat) (mask : Nat) (sets : Nat) (s : State) (t : State) (src : Nat), isLevel src = false ∧ exec (.intStatusClear g ⟨mask, sets⟩) s =
      .next t ∧ s.intStatus src = true ∧ ¬(src / 16 = g ∧ mask.testBit (src % 16) = true ∧ sets.testBit (src % 16) = false)) ∧
    (∃ (g : Nat) (mask : Nat) (sets : Nat) (s : State) (t : State) (src : Nat), s.hostReach = true ∧ isLevel src = false ∧ exec (.intStatusClear g
      ⟨mask, sets⟩) s = .next t ∧ src / 16 = g ∧ mask.testBit (src % 16) = true ∧ sets.testBit (src % 16) = false) ∧
    (∃ (src : Nat), isLevel src = true) ∧
    (∃ (g : Nat) (mask : Nat) (sets : Nat) (s : State) (t : State) (src : Nat), isLevel src = true ∧ (exec (.intStatusClear g ⟨mask, sets⟩) s =
      .next t ∨ exec (.intSet g mask) s = .next t)) :=
  ⟨⟨16, by decide +kernel⟩,
   ⟨.porstNRelease, upInt, _, 280, by decide +kernel, by decide +kernel, rfl, by decide +kernel⟩,
   ⟨17, 1, 0, upInt, _, 280, by decide +kernel, rfl, by decide +kernel, by decide +kernel⟩,
   ⟨_, 1, 0, up, _, 16, by decide +kernel, by decide +kernel, rfl, rfl, by decide +kernel, by decide +kernel⟩,
   ⟨0, by decide +kernel⟩,
   ⟨17, 1, 0, upInt, _, 336, by decide +kernel, Or.inl rfl⟩⟩

/-- States and operands that meet the hypotheses of each clause of Obligations.InterruptService. -/
theorem witness_InterruptService :
    (∃ (s : State) (g : Nat) (v : Service) (w : Service), s.serviceOf g = some v ∧ s.serviceOf g = some w) ∧
    (∃ (s : State) (src : Nat), isLevel src = false ∧ s.host.int.status.testBit src = true) ∧
    (∃ (s : State) (g : Nat) (v : Service), s.hostReach = true ∧ s.serviceOf g = some v) ∧
    (∃ (s : State) (src : Nat), s.hostReach = true ∧ s.serviceOf (src / 16) = none ∧ s.intPending src = true ∧ (∀ n, n / 16 = src / 16 → n < src
      → s.intPending n = false)) ∧
    (∃ (s : State) (g : Nat), s.hostReach = true ∧ s.serviceOf g = none ∧ (∀ n, n / 16 = g → s.intPending n = false)) ∧
    (∃ (s : State) (src : Nat) (v : Service), s.hostReach = true ∧ s.serviceOf (src / 16) = some v ∧ v.source = src) ∧
    (∃ (s : State) (g : Nat) (src : Nat), s.hostReach = true ∧ (∀ v, s.serviceOf g = some v → v.source ≠ src)) :=
  ⟨⟨upServ, 17, _, _, rfl, rfl⟩,
   ⟨upInt, 280, by decide +kernel, by decide +kernel⟩,
   ⟨upServ, 17, _, by decide +kernel, rfl⟩,
   ⟨({ upInt with host.int.status := 1 <<< 272, host.int.enable := 1 <<< 272 }), 272, by decide +kernel, by decide +kernel, by decide +kernel,
     by intros; omega⟩,
   ⟨up, 63, by decide +kernel, by decide +kernel, by
      intro n _
      have e : up.host.int.enable = 0 := rfl
      simp [State.intPending, e]⟩,
   ⟨upServ, 280, _, by decide +kernel, rfl, by decide +kernel⟩,
   ⟨up, 0, 0, by decide +kernel, by decide +kernel⟩⟩

/-- States and operands that meet the hypotheses of each clause of Obligations.FrameChecks. -/
theorem witness_FrameChecks :
    (∃ (c : Instr) (h : Ocf) (b : Body), frameOf c = some (h, b)) ∧
    (∃ (c : Instr) (s : State) (h : Ocf) (b : Body), frameOf c = some (h, b) ∧ (s.accepts = false ∨ s.mayStart b.opcode b.changes h = false)) ∧
    (∃ (c : Instr) (s : State) (h : Ocf) (b : Body), frameOf c = some (h, b) ∧ s.accepts = true ∧ s.mayStart b.opcode b.changes h = true ∧
      b.opcode ≠ 0x0520 ∧ h.magic ≠ 0x4F48) ∧
    (∃ (c : Instr) (s : State) (h : Ocf) (b : Body), frameOf c = some (h, b) ∧ s.accepts = true ∧ s.mayStart b.opcode b.changes h = true ∧
      b.opcode ≠ 0x0520 ∧ h.magic = 0x4F48 ∧ h.version ≠ 1) ∧
    (∃ (c : Instr) (s : State) (h : Ocf) (b : Body), frameOf c = some (h, b) ∧ s.accepts = true ∧ s.mayStart b.opcode b.changes h = true ∧
      b.opcode ≠ 0x0520 ∧ h.magic = 0x4F48 ∧ h.version = 1 ∧ h.frameLen > h.transport.limit) ∧
    (∃ (c : Instr) (s : State) (h : Ocf) (b : Body), frameOf c = some (h, b) ∧ s.accepts = true ∧ s.mayStart b.opcode b.changes h = true ∧
      b.opcode ≠ 0x0520 ∧ h.magic = 0x4F48 ∧ h.version = 1 ∧ h.frameLen ≤ h.transport.limit ∧ h.frameLen > h.present) ∧
    (∃ (c : Instr) (s : State) (h : Ocf) (b : Body), frameOf c = some (h, b) ∧ s.accepts = true ∧ s.mayStart b.opcode b.changes h = true ∧
      b.opcode ≠ 0x0520 ∧ h.magic = 0x4F48 ∧ h.version = 1 ∧ h.frameLen ≤ h.transport.limit ∧ h.frameLen ≤ h.present ∧ (4 ≤ h.role ∨ 64 ≤ h.flags
      ∨ h.reserved ≠ 0 ∨ 4096 ≤ h.sender ∨ h.seq = 0 ∨ h.flags.testBit 0 = true ∨ h.flags.testBit 1 = true)) ∧
    (∃ (c : Instr) (s : State) (h : Ocf) (b : Body), frameOf c = some (h, b) ∧ s.accepts = true ∧ s.mayStart b.opcode b.changes h = true ∧
      b.opcode ≠ 0x0520 ∧ headerError h = none ∧ h.isDma = true) ∧
    (∃ (c : Instr) (s : State) (h : Ocf) (b : Body), frameOf c = some (h, b) ∧ s.accepts = true ∧ s.mayStart b.opcode b.changes h = true ∧
      b.opcode ≠ 0x0520 ∧ headerError h = none ∧ h.isDma = false ∧ h.role = 0 ∧ (∀ k, h.transport ≠ .mailbox k) ∧ h.transport ≠ .compat ∧ (∀ k a
      n, h.transport ≠ .dma k a n)) ∧
    (∃ (c : Instr) (s : State) (h : Ocf) (b : Body), frameOf c = some (h, b) ∧ s.accepts = true ∧ s.mayStart b.opcode b.changes h = true ∧
      b.opcode ≠ 0x0520 ∧ headerError h = none ∧ h.isDma = false ∧ (h.role = 0 → h.transport.acceptsHost = true) ∧ s.ocf.identityOnly = true ∧
      b.opcode ≠ 0x0101) ∧
    (∃ (c : Instr) (s : State) (h : Ocf) (b : Body), frameOf c = some (h, b) ∧ s.accepts = true ∧ s.mayStart b.opcode b.changes h = true ∧
      b.opcode ≠ 0x0520 ∧ headerError h = none ∧ h.isDma = false ∧ (h.role = 0 → h.transport.acceptsHost = true) ∧ (b.opcode = 0x0101 ∨
      s.ocf.identityOnly = false) ∧ h.epoch ≠ s.ocf.epoch ∧ ¬(b.opcode = 0x0101 ∧ h.epoch = 0)) ∧
    (∃ (h : Ocf), h.epoch = 0) ∧
    (∃ (c : Instr) (s : State) (h : Ocf) (b : Body) (w : Window), frameOf c = some (h, b) ∧ s.accepts = true ∧ s.mayStart b.opcode b.changes h =
      true ∧ b.opcode ≠ 0x0520 ∧ headerError h = none ∧ h.isDma = false ∧ (h.role = 0 → h.transport.acceptsHost = true) ∧ (b.opcode = 0x0101 ∨
      s.ocf.identityOnly = false) ∧ h.epoch = s.ocf.epoch ∧ s.windowOf h = some w ∧ h.seq + 64 ≤ w.h) ∧
    (∃ (c : Instr) (s : State) (h : Ocf) (b : Body), frameOf c = some (h, b) ∧ s.accepts = true ∧ s.mayStart b.opcode b.changes h = true ∧
      b.opcode ≠ 0x0520 ∧ headerError h = none ∧ h.isDma = false ∧ (h.role = 0 → h.transport.acceptsHost = true) ∧ (b.opcode = 0x0101 ∨
      s.ocf.identityOnly = false) ∧ h.epoch = s.ocf.epoch ∧ s.windowOf h = none ∧ h.seq ≤ tgetD s.ocf.floors h.role 0) ∧
    (∃ (c : Instr) (s : State) (h : Ocf) (b : Body), frameOf c = some (h, b) ∧ s.accepts = true ∧ s.mayStart b.opcode b.changes h = true ∧
      b.opcode ≠ 0x0520 ∧ headerError h = none ∧ h.isDma = false ∧ (h.role = 0 → h.transport.acceptsHost = true) ∧ (b.opcode = 0x0101 ∨
      s.ocf.identityOnly = false) ∧ h.epoch = s.ocf.epoch ∧ s.seqGate b.opcode h = none ∧ s.hasRight h b.opcode b.changes b.toFactory = false) ∧
    (∃ (c : Instr) (s : State) (h : Ocf) (b : Body), frameOf c = some (h, b) ∧ s.accepts = true ∧ s.mayStart b.opcode b.changes h = true ∧
      b.opcode ≠ 0x0520 ∧ headerError h = none ∧ h.isDma = false ∧ (h.role = 0 → h.transport.acceptsHost = true) ∧ (b.opcode = 0x0101 ∨
      s.ocf.identityOnly = false) ∧ h.epoch = s.ocf.epoch ∧ s.seqGate b.opcode h = none ∧ s.hasRight h b.opcode b.changes b.toFactory = true ∧
      s.lifecycleAccepts h b.opcode b.changes = false) ∧
    (∃ (c : Instr) (s : State) (h : Ocf) (b : Body), frameOf c = some (h, b) ∧ s.accepts = true ∧ s.mayStart b.opcode b.changes h = true ∧
      b.opcode ≠ 0x0520 ∧ headerError h = none ∧ h.isDma = false ∧ h.role ≠ 0 ∧ (b.opcode = 0x0101 ∨ s.ocf.identityOnly = false) ∧ h.epoch =
      s.ocf.epoch ∧ s.seqGate b.opcode h = none ∧ s.hasRight h b.opcode b.changes b.toFactory = true ∧ s.lifecycleAccepts h b.opcode b.changes =
      true ∧ s.keyOf h = none) :=
  ⟨⟨(.vlanWrite (fr 12) 1 0), _, _, rfl⟩,
   ⟨(.vlanWrite (fr 12) 1 0), State.reset, _, _, rfl, by decide +kernel⟩,
   ⟨(.vlanWrite ({ fr 12 with magic := 0 }) 1 0), up, _, _, rfl, by decide +kernel, by decide +kernel, by decide +kernel, by decide +kernel⟩,
   ⟨(.vlanWrite ({ fr 12 with version := 0 }) 1 0), up, _, _, rfl, by decide +kernel, by decide +kernel, by decide +kernel, by decide +kernel, by
     decide +kernel⟩,
   ⟨(.vlanWrite ({ fr 12 with length := 65536 }) 1 0), up, _, _, rfl, by decide +kernel, by decide +kernel, by decide +kernel, by decide +kernel,
     by decide +kernel, by decide +kernel⟩,
   ⟨(.vlanWrite ({ fr 12 with present := 0 }) 1 0), up, _, _, rfl, by decide +kernel, by decide +kernel, by decide +kernel, by decide +kernel, by
     decide +kernel, by decide +kernel, by decide +kernel⟩,
   ⟨(.vlanWrite ({ fr 12 with seq := 0 }) 1 0), up, _, _, rfl, by decide +kernel, by decide +kernel, by decide +kernel, by decide +kernel, by
     decide +kernel, by decide +kernel, by decide +kernel, by decide +kernel⟩,
   ⟨(.vlanWrite ({ fr 12 with flags := 4 }) 1 0), up, _, _, rfl, by decide +kernel, by decide +kernel, by decide +kernel, by decide +kernel, by
     decide +kernel⟩,
   ⟨(.vlanWrite ({ fr 12 with transport := .dvorob 1 }) 1 0), up, _, _, rfl, by decide +kernel, by decide +kernel, by decide +kernel, by
     decide +kernel, by decide +kernel, by decide +kernel, by intro a b; first | (cases b; done) | simp_all, by decide +kernel,
     by intro a b; first | (cases b; done) | simp_all⟩,
   ⟨(.vlanWrite (fr 12) 1 0), ({ up with ocf.identityOnly := true }), _, _, rfl, by decide +kernel, by decide +kernel, by decide +kernel, by
     decide +kernel, by decide +kernel, by decide +kernel, by decide +kernel, by decide +kernel⟩,
   ⟨(.vlanWrite ({ fr 12 with epoch := 1 }) 1 0), up, _, _, rfl, by decide +kernel, by decide +kernel, by decide +kernel, by decide +kernel, by
     decide +kernel, by decide +kernel, by decide +kernel, by decide +kernel, by decide +kernel⟩,
   ⟨((fr 0)), by decide +kernel⟩,
   ⟨(.vlanWrite (fr 12) 1 0), ({ up with ocf.windows := [((fr 12).senderKey, { h := 65 })] }), _, _, _, rfl, by decide +kernel, by decide +kernel,
     by decide +kernel, by decide +kernel, by decide +kernel, by decide +kernel, by decide +kernel, by decide +kernel, rfl, by decide +kernel⟩,
   ⟨(.vlanWrite (fr 12) 1 0), ({ up with ocf.floors := [(0, 5)] }), _, _, rfl, by decide +kernel, by decide +kernel, by decide +kernel, by
     decide +kernel, by decide +kernel, by decide +kernel, by decide +kernel, by decide +kernel, by decide +kernel, by decide +kernel⟩,
   ⟨(.vlanWrite (fr 12) 1 0), ({ up with roles.lifecycle := .returned }), _, _, rfl, by decide +kernel, by decide +kernel, by decide +kernel, by
     decide +kernel, by decide +kernel, by decide +kernel, by decide +kernel, by decide +kernel, by decide +kernel, by decide +kernel⟩,
   ⟨(.vlanWrite ({ fr 12 with role := 1 }) 1 0), ({ up with roles.lifecycle := .returned }), _, _, rfl, by decide +kernel, by decide +kernel, by
     decide +kernel, by decide +kernel, by decide +kernel, by decide +kernel, by decide +kernel, by decide +kernel, by decide +kernel, by
     decide +kernel, by decide +kernel⟩,
   ⟨(.vlanWrite ({ fr 12 with role := 1 }) 1 0), up, _, _, rfl, by decide +kernel, by decide +kernel, by decide +kernel, by decide +kernel, by
     decide +kernel, by decide +kernel, by decide +kernel, by decide +kernel, by decide +kernel, by decide +kernel, by decide +kernel, by
     decide +kernel⟩⟩

/-- States and operands that meet the hypotheses of each clause of Obligations.SequenceWindows. -/
theorem witness_SequenceWindows :
    (∃ (w : Window) (q : Nat), w.check q = .fresh ∧ w.map < 2 ^ 64) ∧
    (∃ (w : Window) (q : Nat), w.map < 2 ^ 64 ∧ w.check q = .fresh) ∧
    (∃ (q : Nat), 0 < q) :=
  ⟨⟨⟨0, 0, []⟩, 0, by decide +kernel, by decide +kernel⟩,
   ⟨⟨0, 0, []⟩, 0, by decide +kernel, by decide +kernel⟩,
   ⟨1, by decide +kernel⟩⟩

/-- States and operands that meet the hypotheses of each clause of Obligations.ClassifierSearch. -/
theorem witness_ClassifierSearch :
    (∃ (port : Nat) (cls : Nat) (s : State), (s.portClass port).map.getD cls 0xFF = 0xFF) ∧
    (∃ (pipe : Nat) (port : Nat) (cls : Nat) (s : State), (tgetD (s.pipe pipe).searchProfiles ((s.portClass port).map.getD cls 0xFF) 0).testBit
      31 = false) ∧
    (∃ (pipe : Nat) (port : Nat) (cls : Nat) (m : Meta) (px : Parse) (d : Bytes) (s : State) (word : Nat) (key : Nat), (s.portClass
      port).map.getD cls 0xFF ≠ 0xFF ∧ word = tgetD (s.pipe pipe).searchProfiles ((s.portClass port).map.getD cls 0xFF) 0 ∧ word.testBit 31 =
      true ∧ key = keyOfSelectors m px d cls ((s.pipe pipe).selectors (field 25 21 word))) :=
  ⟨⟨0, 0, up, by decide +kernel⟩,
   ⟨0, 0, 0, up, by decide +kernel⟩,
   ⟨0, 0, 0, (⟨0, 0, 0, 0⟩), {}, [],
     ({ up with cls.pipes := [(0, { searchProfiles := [(0, 2 ^ 31)] })], cls.ports := [(0, { map := List.replicate 16 0 })] }), _, _,
     by decide +kernel, rfl, by decide +kernel, rfl⟩⟩

/-- States and operands that meet the hypotheses of each clause of Obligations.CommandRejections. -/
theorem witness_CommandRejections :
    (∃ (s : State) (h : Ocf) (p : ControlMatchWriteP), Taken s h 0x0308 true false 16 ∧ p.entry ≤ 3) ∧
    (∃ (s : State) (h : Ocf), Taken s h 0x0301 true false 100) ∧
    (∃ (s : State) (h : Ocf), Taken s h 0x0302 true false 4) ∧
    (∃ (s : State) (h : Ocf) (sel : List Nat), Taken s h 0x0304 true false (4 + 4 * sel.length) ∧ (sel.length = 20 ∨ sel.length = 40)) ∧
    (∃ (s : State) (h : Ocf), Taken s h 0x0305 true false 8) ∧
    (∃ (s : State) (h : Ocf), Taken s h 0x0309 true false 4) ∧
    (∃ (s : State) (h : Ocf) (p : ListCreateP), Taken s h 0x030A true false 8 ∧ p.pipeMask = 0) ∧
    (∃ (s : State) (h : Ocf), Taken s h 0x030B true false 4) ∧
    (∃ (s : State) (h : Ocf) (p : RuleInsertP), Taken s h 0x030C true false 184 ∧ p.pipeMask = 0) ∧
    (∃ (s : State) (h : Ocf), Taken s h 0x0310 true false 4) ∧
    (∃ (s : State) (h : Ocf) (p : TcamRawWriteP), Taken s h 0x0311 true false 184 ∧ p.pipeMask = 0) ∧
    (∃ (s : State) (h : Ocf), Taken s h 0x0313 true false 4) ∧
    (∃ (s : State) (h : Ocf) (timeout : Nat), Taken s h 0x0104 true false 4 ∧ 10 ≤ timeout ∧ timeout ≤ 60000 ∧ ((∃ g ∈ tvals s.ocf.groups,
      g.sender = h.senderKey) ∨ 8 ≤ s.ocf.groups.length)) ∧
    (∃ (s : State) (h : Ocf) (keyId : Nat), Taken s h 0x0B02 true false 4 ∧ keyId ≤ 3 ∧ h.role ≠ 3 ∧ s.roles.lifecycle = .field ∧ s.installerKeys
      = [8 + keyId]) ∧
    (∃ (s : State) (h : Ocf) (role : Nat) (keyId : Nat), Taken s h 0x0B02 true false 4 ∧ (role = 1 ∨ role = 2) ∧ keyId ≤ 3 ∧ (h.role = 3 → role =
      2 ∧ s.roles.lifecycle = .factory) ∧ ¬(role = 2 ∧ s.roles.lifecycle = .field ∧ s.installerKeys = [8 + keyId])) ∧
    (∃ (s : State) (h : Ocf) (handle : Nat) (gen : Nat), Taken s h 0x0D02 true false 4 ∧ (∀ i, s.hostJobOf handle gen = some i → i.state = .done
      ∨ i.state = .cancelled)) :=
  ⟨⟨up, (fr 16), ⟨0, 0, 0, 0, 0, 0, 0⟩, takenOf (by decide +kernel), by decide +kernel⟩,
   ⟨up, (fr 100), takenOf (by decide +kernel)⟩,
   ⟨up, (fr 4), takenOf (by decide +kernel)⟩,
   ⟨up, (fr 84), (List.replicate 20 0), takenOf (by decide +kernel), by decide +kernel⟩,
   ⟨up, (fr 8), takenOf (by decide +kernel)⟩,
   ⟨up, (fr 4), takenOf (by decide +kernel)⟩,
   ⟨up, (fr 8), ⟨0, 0, 0, 0⟩, takenOf (by decide +kernel), rfl⟩,
   ⟨up, (fr 4), takenOf (by decide +kernel)⟩,
   ⟨up, (fr 184), ⟨0, 0, 0, 0, 0, 0, 0⟩, takenOf (by decide +kernel), rfl⟩,
   ⟨up, (fr 4), takenOf (by decide +kernel)⟩,
   ⟨up, (fr 184), ⟨0, 0, 0, 0, 0, 0, 0⟩, takenOf (by decide +kernel), rfl⟩,
   ⟨up, (fr 4), takenOf (by decide +kernel)⟩,
   ⟨full, (fr 4), 1000, takenOf (by decide +kernel), by decide +kernel, by decide +kernel, by decide +kernel⟩,
   ⟨upField, frField, 0, takenOf (by decide +kernel), by decide +kernel, by decide +kernel, by decide +kernel, by decide +kernel⟩,
   ⟨up, (fr 4), 1, 0, takenOf (by decide +kernel), by decide +kernel, by decide +kernel, by decide +kernel, by decide +kernel⟩,
   ⟨up, (fr 4), 0, 0, takenOf (by decide +kernel), by decide +kernel⟩⟩

/-- States and operands that meet the hypotheses of each clause of Obligations.AuditChain. -/
theorem witness_AuditChain :
    (∃ s : State, s.roles.audit.chained ∧ s.roles.audit.ring ≠ []) ∧
    (∃ (s : State), s.roles.audit.chained) ∧
    (∃ (s : State) (kind : Nat), s.roles.audit.full = true ∧ kind ∉ [0x03, 0x05, 0x06]) ∧
    (∃ (s : State) (kind : Nat), (s.roles.audit.full = false ∨ kind ∈ [0x03, 0x05, 0x06])) ∧
    (∃ (c : Instr) (s : State) (h : Ocf) (b : Body) (key : Option Bytes), frameOf c = some (h, b) ∧ s.accepts = true ∧ s.mayStart b.opcode true h
      = true ∧ b.changes = true ∧ s.gate h b.opcode true b.toFactory = .pass key ∧ (s.roles.audit.hold = false ∨ s.roles.audit.ring.length ≤ 4094)
      ∧ h.isMember = false ∧ b.lenOk h.length = false) :=
  ⟨⟨upAudit, ⟨by intro k e f _ h; simp [upAudit] at h, by intro e h; simp [upAudit] at h; subst h; exact ⟨rfl, rfl⟩⟩, by decide +kernel⟩,
   ⟨upAudit, ⟨by intro k e f _ h; simp [upAudit] at h, by intro e h; simp [upAudit] at h; subst h; exact ⟨rfl, rfl⟩⟩⟩,
   ⟨upAuditFull, 0, by decide +kernel, by decide +kernel⟩,
   ⟨up, 0, by decide +kernel⟩,
   ⟨(.vlanWrite (fr 8) 1 0), up, _, _, _, rfl, by decide +kernel, by decide +kernel, by decide +kernel, rfl, by decide +kernel, by decide +kernel,
     by decide +kernel⟩⟩

/-- States and operands that meet the hypotheses of each clause of Obligations.RecordCodec. -/
theorem witness_RecordCodec :
    (∃ x : Rec, x.InRange) ∧
    (∃ (s : State) (x : Rec), s.memoryCanonical ∧ x.InRange) ∧
    (∃ (s : State) (r loc : Nat) (x : Rec) (a : Nat), s.memoryCanonical ∧ (a < slotAddr r loc ∨ slotAddr r loc + x.encode.length ≤ a)) :=
  ⟨⟨recA, recA_inRange⟩,
   ⟨up, recA, ⟨by decide +kernel, by decide +kernel, by decide +kernel⟩, recA_inRange⟩,
   ⟨up, 0, 0, recA, 64, ⟨by decide +kernel, by decide +kernel, by decide +kernel⟩, by decide +kernel⟩⟩

end Sys2Proof.Tests
end

section
/-! The classifier's search and the action of a pass (R71 to R74, R78). -/

namespace Sys2Proof.Machine

theorem TcamEntry.hits_iff (e : TcamEntry) (key : Nat) :
    e.hits key = true ↔ ∀ i, e.mask.testBit i = true → key.testBit i = e.value.testBit i := by
  have bitwise : e.hits key = true ↔ ∀ i, (key &&& e.mask).testBit i = (e.value &&& e.mask).testBit i :=
    decide_eq_true_iff.trans ⟨fun h i => congrArg (·.testBit i) h, Nat.eq_of_testBit_eq⟩
  rw [bitwise]
  refine forall_congr' fun i => ?_
  rw [Nat.testBit_and, Nat.testBit_and]
  cases e.mask.testBit i <;> simp

/-- The addresses among which a search takes the lowest. -/
theorem Pipe.mem_searched_iff (p : Pipe) (mask key a : Nat) :
    a ∈ (p.tcam.filter (fun e => p.searches mask (e.1 / 2048) && e.2.hits key)).map Prod.fst ↔
      ∃ e, (a, e) ∈ p.tcam ∧ p.searches mask (a / 2048) = true ∧ e.hits key = true := by
  simp

theorem Pipe.search_eq_some_iff (p : Pipe) (mask key a : Nat) :
    p.search mask key = some a ↔
      (∃ e, (a, e) ∈ p.tcam ∧ p.searches mask (a / 2048) = true ∧ e.hits key = true) ∧
      ∀ b e, (b, e) ∈ p.tcam → p.searches mask (b / 2048) = true → e.hits key = true → a ≤ b := by
  rw [Pipe.search, List.min?_eq_some_iff]
  simp only [Pipe.mem_searched_iff, forall_exists_index, and_imp]

theorem Pipe.search_eq_none_iff (p : Pipe) (mask key : Nat) :
    p.search mask key = none ↔ ∀ b e, (b, e) ∈ p.tcam → p.searches mask (b / 2048) = true → e.hits key = false := by
  rw [Pipe.search, List.min?_eq_none_iff, List.eq_nil_iff_forall_not_mem]
  simp only [Pipe.mem_searched_iff, not_exists, not_and, Bool.not_eq_true]

theorem Pipe.countHit_of_tget {p : Pipe} {addr : Nat} {e : TcamEntry} (len : Nat) (h : tget p.tcam addr = some e) :
    p.countHit addr len = { p with tcam := tset p.tcam addr { e with
      pkts := inc64 e.pkts
      bytes := add64 e.bytes len } } := by
  simp only [Pipe.countHit, h]

section
variable {pipe port cls : Nat} {m : Meta} {px : Parse} {d : Bytes} {s : State}

/-- A class without a profile, or with one that is not enabled, searches nothing (R72). -/
theorem classify_of_unusable
    (h : (s.portClass port).map.getD cls 0xFF = 0xFF ∨
      (tgetD (s.pipe pipe).searchProfiles ((s.portClass port).map.getD cls 0xFF) 0).testBit 31 = false) :
    classify pipe port cls m px d s = ((s.portClass port).miss, s) := by
  refine if_pos ?_
  rcases h with unmapped | disabled
  · rw [unmapped]; rfl
  · rw [disabled]; exact Bool.or_true _

variable {word key : Nat} (mapped : (s.portClass port).map.getD cls 0xFF ≠ 0xFF)
  (hword : word = tgetD (s.pipe pipe).searchProfiles ((s.portClass port).map.getD cls 0xFF) 0) (enabled : word.testBit 31 = true)
  (hkey : key = keyOfSelectors m px d cls ((s.pipe pipe).selectors (field 25 21 word)))
include mapped hword enabled hkey

/-- A class with an enabled profile takes what the search in the profile's banks finds. -/
theorem classify_of_usable :
    classify pipe port cls m px d s = match (s.pipe pipe).search (word % 65536) key with
      | none => ((s.portClass port).miss, s)
      | some a => ((tgetD (s.pipe pipe).tcam a ⟨0, 0, 0, 0, 0, 0, 0⟩).action,
          s.setPipe pipe ((s.pipe pipe).countHit a (d.length + 4))) := by
  subst hword hkey
  refine if_neg ?_
  rw [enabled, decide_eq_false mapped]
  decide

theorem classify_of_search_none (h : (s.pipe pipe).search (word % 65536) key = none) :
    classify pipe port cls m px d s = ((s.portClass port).miss, s) := by
  rw [classify_of_usable mapped hword enabled hkey, h]

theorem classify_of_search_some {a : Nat} {e : TcamEntry} (h : (s.pipe pipe).search (word % 65536) key = some a)
    (he : tget (s.pipe pipe).tcam a = some e) :
    classify pipe port cls m px d s = (e.action, s.setPipe pipe { s.pipe pipe with
      tcam := tset (s.pipe pipe).tcam a { e with
        pkts := inc64 e.pkts
        bytes := add64 e.bytes (d.length + 4) } }) := by
  have haction : (tgetD (s.pipe pipe).tcam a ⟨0, 0, 0, 0, 0, 0, 0⟩).action = e.action := by rw [tgetD, he, Option.getD_some]
  rw [classify_of_usable mapped hword enabled hkey, h]
  simp only [haction, Pipe.countHit_of_tget _ he]

end

/-- Settles O57: a hit is read off bit by bit, a search's answer is the minimum of the addresses that match, and `classify` takes one of three
branches: no usable profile, nothing found, an entry found. -/
theorem classifierSearch : Obligations.ClassifierSearch := by
  unfold Obligations.ClassifierSearch
  refine ⟨TcamEntry.hits_iff, Pipe.search_eq_some_iff, Pipe.search_eq_none_iff, ?noProfile, ?disabled, ?usable⟩
  case noProfile => exact fun _ _ _ _ _ _ _ h => classify_of_unusable (.inl h)
  case disabled => exact fun _ _ _ _ _ _ _ h => classify_of_unusable (.inr h)
  case usable =>
    exact fun _ _ _ _ _ _ _ _ _ mapped hword enabled hkey =>
      ⟨classify_of_search_none mapped hword enabled hkey, fun _ _ => classify_of_search_some mapped hword enabled hkey⟩

end Sys2Proof.Machine
end

section
/-! A RULE_INSERT with a reserved FLAGS bit set fails with FMT_RESERVED before its empty PIPE_MASK is looked at (R97, R661). -/

namespace Sys2Proof.Machine

/-- The statuses of the replies sent by the state that an outcome leads to. -/
def sentStatuses : Host.Outcome State Fault Refusal → List Nat
  | .next t => t.ocf.sent.map Reply.status
  | _ => []

/-- A refused frame that asks for a reply is answered with the refusal's status, after the replies sent before it. -/
theorem Refused.sentStatuses_eq {c : Instr} {h : Ocf} {opcode : Nat} {s : State} {status detail : Nat}
    (hr : Refused c h opcode s status detail) (reply : h.noReply = false) :
    ∃ rest, sentStatuses (exec c s) = s.ocf.sent.map Reply.status ++ status :: rest := by
  obtain ⟨b, n, m, hexec, hsent⟩ := hr
  obtain ⟨r, rest, hb, -, -, rfl, -, -⟩ := hsent reply
  refine ⟨rest.map Reply.status, ?_⟩
  calc sentStatuses (exec c s) = b.sent.map Reply.status := by rw [hexec]; rfl
    _ = s.ocf.sent.map Reply.status ++ r.status :: rest.map Reply.status := by rw [hb, List.map_append, List.map_cons]

/-- A device in Full mode with its functions ready. -/
def readyDevice : State :=
  { boot := { stage := 4, ready := 2 ^ 99 - 1 }
    power := { mode := .full, toPower := [], domains := [] } }

/-- The host's frame of a RULE_INSERT, on mailbox channel 0. -/
def ruleInsertFrame : Ocf :=
  { magic := 0x4F48, version := 1, role := 0, flags := 0, seq := 1, length := 184, tag := 0, sender := 0, keyId := 0, group := 0, reserved := 0,
    epoch := 0, params := [], mac := [], transport := .mailbox 0, present := 216, rsv := none }

/-- A rule for no pipeline, with bit 1 of FLAGS set, which Table 2-12 reserves. -/
def reservedFlagsRule : RuleInsertP := { pipeMask := 0, list := 0, flags := 2, priority := 0, value := 0, mask := 0, action := 0 }

theorem taken_ruleInsertFrame : Taken readyDevice ruleInsertFrame 0x030C true false 184 where
  accepts := by decide +kernel
  starts := by decide +kernel
  gate := ⟨none, by decide +kernel⟩
  room := fun _ => by decide +kernel
  alone := by decide +kernel
  reserved := rfl
  tag := by decide +kernel
  length := rfl
  fits := .inl (by decide)

/-- The command checks the reserved bits of FLAGS (R661) before PIPE_MASK (R97), so it replies FMT_RESERVED. -/
theorem sentStatuses_reservedFlagsRule : sentStatuses (exec (.ruleInsert ruleInsertFrame reservedFlagsRule) readyDevice) = [0x0108] := by
  decide +kernel

/-- Refutes O58: its RULE_INSERT clause asks for status 0x0131 whenever PIPE_MASK is 0, but `reservedFlagsRule` also sets a reserved bit of FLAGS,
and is answered with 0x0108. -/
theorem not_commandRejections : ¬ Obligations.CommandRejections := by
  unfold Obligations.CommandRejections
  rintro ⟨-, -, -, -, -, -, -, -, ruleInsertRefused, -⟩
  obtain ⟨_, refused⟩ := ruleInsertRefused readyDevice ruleInsertFrame reservedFlagsRule taken_ruleInsertFrame rfl
  obtain ⟨rest, answered⟩ := refused.sentStatuses_eq rfl
  rw [sentStatuses_reservedFlagsRule] at answered
  exact absurd (List.cons.inj answered).1 (by decide)

end Sys2Proof.Machine
end

section
/-! The checks of a command frame in the order of steps 1 to 10 (R407, R413 to R417), and the answer to a frame that fails one. -/

namespace Sys2Proof.Machine

/-! ## Commands and their turn -/

/-- The row of every command runs the command's frame, with its own part, as R413 says. -/
theorem exec_of_frameOf {c : Instr} {h : Ocf} {b : Body} (s : State) (hf : frameOf c = some (h, b)) :
    exec c s = .next (ocfRun bodyOf c h b s) := by
  unfold frameOf at hf
  split at hf <;> cases hf <;> rfl

section
variable {bodyOf : Instr → Option Body} {c : Instr} {h : Ocf} {b : Body} {s : State}

/-- A frame whose turn has not come waits (R422, R423). -/
theorem ocfRun_of_waiting (w : s.accepts = false ∨ s.mayStart b.opcode b.changes h = false) : ocfRun bodyOf c h b s = s := by
  have : (s.accepts && s.mayStart b.opcode b.changes h) = false := Bool.and_eq_false_iff.2 w
  rw [ocfRun, this]
  rfl

/-- A frame that a check refuses leaves the intake and is answered. -/
theorem ocfRun_of_reject {status : Nat} (ha : s.accepts = true) (hm : s.mayStart b.opcode b.changes h = true)
    (hg : s.gate h b.opcode b.changes b.toFactory = .reject status) :
    ∃ gen x, ocfRun bodyOf c h b s =
      respond b.opcode h gen (mkReply b.opcode h none false false status 0xFFFF [] s.ocf.epoch) { s with ocf.intake := x } := by
  obtain ⟨gen, x, taken⟩ := takeIntake_eq b.opcode h s
  refine ⟨gen, x, ?_⟩
  rw [ocfRun, ha, hm, taken]
  simp only [Bool.and_self, Bool.not_true, Bool.false_eq_true, if_false, gate_intake, hg]

end

/-! ## The answer to a refused frame -/

theorem deliver_sent (r : Reply) (gen : Nat) (s : State) : s.ocf.sent ++ [r] <+: (deliver r gen s).ocf.sent :=
  carry_sent r gen { s with ocf.sent := s.ocf.sent ++ [r] }

/-- Answering a frame with a failure changes the count of its status and of failures without a reply (R403), and the records. -/
theorem respond_of_failure {opcode : Nat} {h : Ocf} {r : Reply} (gen : Nat) (s : State) (ho : opcode ≠ 0x0520) (failure : okStatus r.status = false) :
    ∃ n m, Booked { s with ocf.rejected := n, ocf.noReplyFailed := m } (respond opcode h gen r s) ∧
      (h.noReply = false → s.ocf.sent ++ [r] <+: (respond opcode h gen r s).ocf.sent) := by
  have asks : (h.noReply || decide (opcode = 0x0520)) = h.noReply := by rw [decide_eq_false ho, Bool.or_false]
  unfold respond
  simp only [failure, asks, Bool.false_eq_true, if_false]
  by_cases silent : h.noReply = true
  · rw [if_pos silent]
    exact ⟨_, _, suppress_booked r (Booked.refl _), fun reply => absurd silent (Bool.eq_false_iff.1 reply)⟩
  · rw [if_neg silent]
    exact ⟨_, s.ocf.noReplyFailed, deliver_booked r gen (Booked.refl _),
      fun _ => deliver_sent r gen { s with ocf.rejected := tinc s.ocf.rejected r.status }⟩

/-- A command whose turn has come is refused with the status of the check that it fails. -/
theorem Refused.of_gate {c : Instr} {h : Ocf} {b : Body} {s : State} {status : Nat} (hf : frameOf c = some (h, b)) (ha : s.accepts = true)
    (hm : s.mayStart b.opcode b.changes h = true) (ho : b.opcode ≠ 0x0520) (failure : okStatus status = false)
    (hg : s.gate h b.opcode b.changes b.toFactory = .reject status) : Refused c h b.opcode s status 0xFFFF := by
  obtain ⟨gen, x, run⟩ := ocfRun_of_reject (bodyOf := bodyOf) (c := c) ha hm hg
  obtain ⟨n, m, ⟨k, booked⟩, sent⟩ := respond_of_failure (h := h)
    (r := mkReply b.opcode h none false false status 0xFFFF [] s.ocf.epoch) gen { s with ocf.intake := x } ho failure
  rw [← run] at booked sent
  refine ⟨k, n, m, (exec_of_frameOf s hf).trans (congrArg _ booked), fun reply => ?_⟩
  obtain ⟨rest, hrest⟩ := sent reply
  rw [booked] at hrest
  refine ⟨_, rest, hrest.symm.trans (List.append_assoc ..), rfl, rfl, rfl, rfl, rfl⟩

/-! ## Steps 1 to 4: the header -/

section
variable {h : Ocf}

theorem headerError_of_magic (hm : h.magic ≠ 0x4F48) : headerError h = some 0x0101 := by simp [headerError, hm]

theorem headerError_of_version (hm : h.magic = 0x4F48) (hv : h.version ≠ 1) : headerError h = some 0x0102 := by simp [headerError, hm, hv]

section
variable (hm : h.magic = 0x4F48) (hv : h.version = 1)
include hm hv

theorem headerError_of_limit (hl : h.frameLen > h.transport.limit) : headerError h = some 0x0104 := by simp [headerError, hm, hv, hl]

variable (hl : h.frameLen ≤ h.transport.limit)
include hl

theorem headerError_of_present (hp : h.frameLen > h.present) : headerError h = some 0x0103 := by
  simp [headerError, hm, hv, Nat.not_lt.2 hl, hp]

theorem headerError_of_fields (hp : h.frameLen ≤ h.present)
    (bad : 4 ≤ h.role ∨ 64 ≤ h.flags ∨ h.reserved ≠ 0 ∨ 4096 ≤ h.sender ∨ h.seq = 0 ∨ h.flags.testBit 0 = true ∨ h.flags.testBit 1 = true) :
    headerError h = some 0x0106 := by
  have fields : (h.role ≥ 4 || h.flags / 64 != 0 || h.reserved != 0 || h.sender ≥ 4096 || h.seq = 0 || h.isReply || h.isEvent) = true := by
    simpa [Ocf.isReply, Ocf.isEvent, or_assoc] using bad
  unfold headerError
  rw [fields]
  simp [hm, hv, Nat.not_lt.2 hl, Nat.not_lt.2 hp]

end

theorem headerError_ne_epoch : headerError h ≠ some 0x0207 := by
  unfold headerError
  repeat' split
  all_goals decide

end

/-! ## Step 8: the window -/

section
variable {s : State} {opcode : Nat} {h : Ocf}

theorem Window.check_of_behind {w : Window} {q : Nat} (behind : q + 64 ≤ w.h) : w.check q = .replay := by
  rw [Window.check, if_neg (by omega), if_pos (by omega)]

theorem seqGate_of_behind {w : Window} (hw : s.windowOf h = some w) (behind : h.seq + 64 ≤ w.h) :
    s.seqGate opcode h = some (.reject 0x0205) := by
  simp only [State.seqGate, hw, Window.check_of_behind behind]

theorem seqGate_of_floor (hw : s.windowOf h = none) (low : h.seq ≤ tgetD s.ocf.floors h.role 0) :
    s.seqGate opcode h = some (.reject 0x0205) := by
  simp only [State.seqGate, hw, if_pos low]

/-- A SEQ that the window marks is a replay, unless the frame is one whose reply is kept (R418). -/
theorem seqGate_of_seen {w : Window} (hw : s.windowOf h = some w) (seen : w.check h.seq = .seen) :
    s.seqGate opcode h = some (.reject 0x0205) ∨ ∃ k, s.seqGate opcode h = some (.resend k) := by
  simp only [State.seqGate, hw, seen]
  split
  · exact .inl rfl
  · split
    · exact .inr ⟨_, rfl⟩
    · exact .inl rfl

/-- What step 8 can find: the frame goes on, is a replay, or gets its kept reply again (R417, R418). -/
theorem seqGate_cases :
    s.seqGate opcode h = none ∨ s.seqGate opcode h = some (.reject 0x0205) ∨ ∃ k, s.seqGate opcode h = some (.resend k) := by
  cases hw : s.windowOf h with
  | none =>
    simp only [State.seqGate, hw]
    split
    · exact .inr (.inl rfl)
    · exact .inl rfl
  | some w =>
    cases hc : w.check h.seq with
    | fresh => exact .inl (by simp only [State.seqGate, hw, hc])
    | replay => exact .inr (.inl (by simp only [State.seqGate, hw, hc]))
    | seen => exact .inr (seqGate_of_seen hw hc)

/-- Step 8 lets a frame pass where its SEQ is above its role's floor, or fresh in its window. -/
theorem seqGate_eq_none_iff :
    s.seqGate opcode h = none ↔
      (s.windowOf h = none ∧ tgetD s.ocf.floors h.role 0 < h.seq) ∨ ∃ w, s.windowOf h = some w ∧ w.check h.seq = .fresh := by
  cases hw : s.windowOf h with
  | none => simp [State.seqGate, hw]
  | some w =>
    cases hc : w.check h.seq with
    | fresh => simp [State.seqGate, hw, hc]
    | replay => simp [State.seqGate, hw, hc]
    | seen => obtain e | ⟨k, e⟩ := seqGate_of_seen (opcode := opcode) hw hc <;> simp [e, hc]

/-- Step 8 does not read EPOCH where it lets a frame pass. -/
theorem seqGate_none_epoch {e : Nat} (pass : s.seqGate opcode { h with epoch := e } = none) : s.seqGate opcode h = none :=
  seqGate_eq_none_iff.2 (seqGate_eq_none_iff (h := { h with epoch := e }).1 pass)

end

/-! ## The order of the checks -/

/-- The frame passes steps 1 to 7 of R413. -/
structure PassesStep7 (s : State) (opcode : Nat) (h : Ocf) : Prop where
  header : headerError h = none
  direct : h.isDma = false
  transport : h.role = 0 → h.transport.acceptsHost = true
  epochKept : opcode = 0x0101 ∨ s.ocf.identityOnly = false
  epoch : h.epoch = s.ocf.epoch ∨ opcode = 0x0101 ∧ h.epoch = 0

/-- Steps 9 and 10 of R413: rights, life cycle, key and MAC. -/
def State.rightsGate (s : State) (h : Ocf) (opcode : Nat) (changes toFactory : Bool) : Gate :=
  if !s.hasRight h opcode changes toFactory then .reject 0x0203
  else if !s.lifecycleAccepts h opcode changes then .reject 0x0204
  else if h.role = 0 then .pass none
  else match s.keyOf h with
    | none => .reject 0x0202
    | some k => if h.mac = mac16 k (h.signedBytes opcode) then .pass (some k) else .badMac

section
variable {s : State} {h : Ocf} {opcode : Nat} {changes toFactory : Bool}

theorem gate_of_headerError {e : Nat} (he : headerError h = some e) : s.gate h opcode changes toFactory = .reject e := by
  simp only [State.gate, he]

section
variable (hh : headerError h = none)
include hh

theorem gate_of_dma (hd : h.isDma = true) : s.gate h opcode changes toFactory = .reject 0x0109 := by
  simp only [State.gate, hh, hd, if_true]

variable (hd : h.isDma = false)
include hd

theorem gate_of_hostTransport (hr : h.role = 0) (ht : h.transport.acceptsHost = false) :
    s.gate h opcode changes toFactory = .reject 0x0206 := by
  simp [State.gate, hh, hd, hr, ht]

variable (ht : h.role = 0 → h.transport.acceptsHost = true)
include ht

/-- A frame at step 7: the check of its transport (R407) has passed. -/
theorem gate_at_step7 : s.gate h opcode changes toFactory =
    if s.ocf.identityOnly && opcode != 0x0101 then .reject 0x0401
    else if h.epoch != s.ocf.epoch && !(opcode = 0x0101 && h.epoch = 0) then .reject 0x0207
    else (s.seqGate opcode h).getD (s.rightsGate h opcode changes toFactory) := by
  have transport : (h.role = 0 && !h.transport.acceptsHost) = false := by simpa using ht
  simp only [State.gate, hh, hd, transport, Bool.false_eq_true, if_false]
  cases s.seqGate opcode h <;> rfl

theorem gate_of_identityOnly (hi : s.ocf.identityOnly = true) (ho : opcode ≠ 0x0101) :
    s.gate h opcode changes toFactory = .reject 0x0401 := by
  rw [gate_at_step7 hh hd ht]
  simp [hi, ho]

variable (hi : opcode = 0x0101 ∨ s.ocf.identityOnly = false)
include hi

theorem gate_at_epoch : s.gate h opcode changes toFactory =
    if h.epoch != s.ocf.epoch && !(opcode = 0x0101 && h.epoch = 0) then .reject 0x0207
    else (s.seqGate opcode h).getD (s.rightsGate h opcode changes toFactory) := by
  have kept : (s.ocf.identityOnly && opcode != 0x0101) = false := by rcases hi with rfl | hi <;> simp [*]
  rw [gate_at_step7 hh hd ht, kept]
  rfl

theorem gate_of_epoch (he : h.epoch ≠ s.ocf.epoch) (hz : ¬(opcode = 0x0101 ∧ h.epoch = 0)) :
    s.gate h opcode changes toFactory = .reject 0x0207 := by
  rw [gate_at_epoch hh hd ht hi]
  refine if_pos ?_
  simpa [he, ← not_and_or] using hz

end

theorem gate_of_passesStep7 (p : PassesStep7 s opcode h) :
    s.gate h opcode changes toFactory = (s.seqGate opcode h).getD (s.rightsGate h opcode changes toFactory) := by
  obtain ⟨hh, hd, ht, hi, he⟩ := p
  rw [gate_at_epoch hh hd ht hi]
  refine if_neg ?_
  rcases he with he | ⟨rfl, he⟩ <;> simp [he]

/-- A frame that fails one of steps 1 to 7 is rejected, and with 0x0207 for its EPOCH only. -/
theorem passesStep7_or_reject : PassesStep7 s opcode h ∨ ∃ e, s.gate h opcode changes toFactory = .reject e ∧
    (e = 0x0207 → ¬(h.epoch = s.ocf.epoch ∨ opcode = 0x0101 ∧ h.epoch = 0)) := by
  cases hh : headerError h with
  | some e => exact .inr ⟨e, gate_of_headerError hh, fun k => absurd (k ▸ hh) headerError_ne_epoch⟩
  | none =>
  by_cases hd : h.isDma = true
  · exact .inr ⟨_, gate_of_dma hh hd, nofun⟩
  rw [Bool.not_eq_true] at hd
  by_cases ht : h.role = 0 → h.transport.acceptsHost = true
  case neg =>
    obtain ⟨hr, ht⟩ := Classical.not_imp.1 ht
    exact .inr ⟨_, gate_of_hostTransport hh hd hr (Bool.eq_false_iff.2 ht), nofun⟩
  by_cases hi : opcode = 0x0101 ∨ s.ocf.identityOnly = false
  case neg =>
    obtain ⟨ho, hi⟩ := not_or.1 hi
    exact .inr ⟨_, gate_of_identityOnly hh hd ht (eq_true_of_ne_false hi) ho, nofun⟩
  by_cases he : h.epoch = s.ocf.epoch ∨ opcode = 0x0101 ∧ h.epoch = 0
  · exact .inl ⟨hh, hd, ht, hi, he⟩
  · obtain ⟨ne, hz⟩ := not_or.1 he
    exact .inr ⟨_, gate_of_epoch hh hd ht hi ne hz, fun _ => he⟩

theorem rightsGate_ne_epoch : s.rightsGate h opcode changes toFactory ≠ .reject 0x0207 := by
  unfold State.rightsGate
  repeat' split
  all_goals simp

/-- A frame with the current EPOCH, or a SYS_IDENTITY with EPOCH 0, is not rejected for its EPOCH (R416). -/
theorem gate_ne_epoch (he : h.epoch = s.ocf.epoch ∨ opcode = 0x0101 ∧ h.epoch = 0) :
    s.gate h opcode changes toFactory ≠ .reject 0x0207 := by
  obtain passes | ⟨e, hg, he'⟩ := passesStep7_or_reject (s := s) (h := h) (opcode := opcode) (changes := changes) (toFactory := toFactory)
  · rw [gate_of_passesStep7 passes]
    obtain hs | hs | ⟨k, hs⟩ := seqGate_cases (s := s) (opcode := opcode) (h := h) <;> rw [hs]
    · exact rightsGate_ne_epoch
    · exact nofun
    · exact nofun
  · rw [hg]
    exact fun k => he' (Gate.reject.inj k) he

theorem gate_eq_pass_iff {key : Option Bytes} : s.gate h opcode changes toFactory = .pass key ↔
    PassesStep7 s opcode h ∧ s.seqGate opcode h = none ∧ s.rightsGate h opcode changes toFactory = .pass key := by
  constructor
  · intro pass
    obtain passes | ⟨e, hg, -⟩ := passesStep7_or_reject (s := s) (h := h) (opcode := opcode) (changes := changes) (toFactory := toFactory)
    · rw [gate_of_passesStep7 passes] at pass
      obtain hs | hs | ⟨k, hs⟩ := seqGate_cases (s := s) (opcode := opcode) (h := h) <;> rw [hs] at pass
      · exact ⟨passes, hs, pass⟩
      · cases pass
      · cases pass
    · rw [hg] at pass
      cases pass
  · rintro ⟨passes, hs, pass⟩
    rw [gate_of_passesStep7 passes, hs]
    exact pass

/-- A ROLE 0 frame has no key and no MAC to check. -/
theorem rightsGate_of_host (hr : h.role = 0) : s.rightsGate h opcode changes toFactory =
    if !s.hasRight h opcode changes toFactory then .reject 0x0203
    else if !s.lifecycleAccepts h opcode changes then .reject 0x0204
    else .pass none := by
  rw [State.rightsGate, if_pos hr]

theorem rightsGate_host_epoch {e : Nat} (hr : h.role = 0) :
    s.rightsGate { h with epoch := e } opcode changes toFactory = s.rightsGate h opcode changes toFactory := by
  rw [rightsGate_of_host hr, rightsGate_of_host (h := { h with epoch := e }) hr]
  rfl

/-- SYS_IDENTITY of ROLE 0 with EPOCH 0 passes wherever the same frame with the current EPOCH does (R416). -/
theorem gate_identity_of_current_epoch {key : Option Bytes} (hz : h.epoch = 0) (hr : h.role = 0)
    (pass : s.gate { h with epoch := s.ocf.epoch } 0x0101 changes toFactory = .pass key) : s.gate h 0x0101 changes toFactory = .pass key := by
  obtain ⟨⟨header, direct, transport, kept, -⟩, hs, rights⟩ := gate_eq_pass_iff.1 pass
  rw [rightsGate_host_epoch hr] at rights
  exact gate_eq_pass_iff.2 ⟨⟨header, direct, transport, kept, .inr ⟨rfl, hz⟩⟩, seqGate_none_epoch hs, rights⟩

section
variable (passes : PassesStep7 s opcode h)
include passes

theorem gate_of_behind {w : Window} (hw : s.windowOf h = some w) (behind : h.seq + 64 ≤ w.h) :
    s.gate h opcode changes toFactory = .reject 0x0205 := by
  rw [gate_of_passesStep7 passes, seqGate_of_behind hw behind, Option.getD_some]

theorem gate_of_floor (hw : s.windowOf h = none) (low : h.seq ≤ tgetD s.ocf.floors h.role 0) :
    s.gate h opcode changes toFactory = .reject 0x0205 := by
  rw [gate_of_passesStep7 passes, seqGate_of_floor hw low, Option.getD_some]

variable (hs : s.seqGate opcode h = none)
include hs

theorem gate_of_no_right (hr : s.hasRight h opcode changes toFactory = false) : s.gate h opcode changes toFactory = .reject 0x0203 := by
  rw [gate_of_passesStep7 passes, hs, Option.getD_none, State.rightsGate, hr]
  rfl

variable (hr : s.hasRight h opcode changes toFactory = true)
include hr

theorem gate_of_lifecycle (hl : s.lifecycleAccepts h opcode changes = false) : s.gate h opcode changes toFactory = .reject 0x0204 := by
  rw [gate_of_passesStep7 passes, hs, Option.getD_none, State.rightsGate, hr, hl]
  rfl

theorem gate_of_no_key (hl : s.lifecycleAccepts h opcode changes = true) (role : h.role ≠ 0) (hk : s.keyOf h = none) :
    s.gate h opcode changes toFactory = .reject 0x0202 := by
  rw [gate_of_passesStep7 passes, hs, Option.getD_none, State.rightsGate, hr, hl, if_neg role, hk]
  rfl

end
end

theorem Transport.not_acceptsHost {t : Transport} (mailbox : ∀ k, t ≠ .mailbox k) (compat : t ≠ .compat) (dma : ∀ k a n, t ≠ .dma k a n) :
    t.acceptsHost = false := by
  cases t with
  | mailbox k => exact absurd rfl (mailbox k)
  | compat => exact absurd rfl compat
  | dma k a n => exact absurd rfl (dma k a n)
  | inband p m tag => rfl
  | dvorob k => rfl

/-- Settles O55: a frame whose turn has come is answered with the status of the first check of `State.gate` that it fails (`Refused.of_gate`), and each
clause names that check by the lemma on `State.gate` for its step. -/
theorem frameChecks : Obligations.FrameChecks := by
  unfold Obligations.FrameChecks
  refine ⟨?run, ?waiting, ?magic, ?version, ?limit, ?present, ?fields, ?dma, ?hostTransport, ?identityOnly, ?epoch, ?identity, ?behind, ?floor,
    ?right, ?lifecycle, ?key⟩
  case run => exact fun _ s _ _ hf => exec_of_frameOf s hf
  case waiting => exact fun _ s _ _ hf w => (exec_of_frameOf s hf).trans (congrArg _ (ocfRun_of_waiting w))
  case magic => exact fun _ _ _ _ hf ha hm ho magic => .of_gate hf ha hm ho rfl (gate_of_headerError (headerError_of_magic magic))
  case version =>
    exact fun _ _ _ _ hf ha hm ho magic version => .of_gate hf ha hm ho rfl (gate_of_headerError (headerError_of_version magic version))
  case limit =>
    exact fun _ _ _ _ hf ha hm ho magic version limit =>
      .of_gate hf ha hm ho rfl (gate_of_headerError (headerError_of_limit magic version limit))
  case present =>
    exact fun _ _ _ _ hf ha hm ho magic version limit present =>
      .of_gate hf ha hm ho rfl (gate_of_headerError (headerError_of_present magic version limit present))
  case fields =>
    exact fun _ _ _ _ hf ha hm ho magic version limit present bad =>
      .of_gate hf ha hm ho rfl (gate_of_headerError (headerError_of_fields magic version limit present bad))
  case dma => exact fun _ _ _ _ hf ha hm ho hh hd => .of_gate hf ha hm ho rfl (gate_of_dma hh hd)
  case hostTransport =>
    exact fun _ _ _ _ hf ha hm ho hh hd role mailbox compat dma =>
      .of_gate hf ha hm ho rfl (gate_of_hostTransport hh hd role (Transport.not_acceptsHost mailbox compat dma))
  case identityOnly =>
    exact fun _ _ _ _ hf ha hm ho hh hd ht hi opcode => .of_gate hf ha hm ho rfl (gate_of_identityOnly hh hd ht hi opcode)
  case epoch => exact fun _ _ _ _ hf ha hm ho hh hd ht hi he hz => .of_gate hf ha hm ho rfl (gate_of_epoch hh hd ht hi he hz)
  case identity => exact fun _ _ _ hz => ⟨gate_ne_epoch (.inr ⟨rfl, hz⟩), fun pass hr => gate_identity_of_current_epoch hz hr pass⟩
  case behind =>
    exact fun _ _ _ _ _ hf ha hm ho hh hd ht hi he hw behind =>
      .of_gate hf ha hm ho rfl (gate_of_behind ⟨hh, hd, ht, hi, .inl he⟩ hw behind)
  case floor =>
    exact fun _ _ _ _ hf ha hm ho hh hd ht hi he hw low =>
      .of_gate hf ha hm ho rfl (gate_of_floor ⟨hh, hd, ht, hi, .inl he⟩ hw low)
  case right =>
    exact fun _ _ _ _ hf ha hm ho hh hd ht hi he hs hr =>
      .of_gate hf ha hm ho rfl (gate_of_no_right ⟨hh, hd, ht, hi, .inl he⟩ hs hr)
  case lifecycle =>
    exact fun _ _ _ _ hf ha hm ho hh hd ht hi he hs hr hl =>
      .of_gate hf ha hm ho rfl (gate_of_lifecycle ⟨hh, hd, ht, hi, .inl he⟩ hs hr hl)
  case key =>
    exact fun _ _ _ _ hf ha hm ho hh hd role hi he hs hr hl hk =>
      .of_gate hf ha hm ho rfl (gate_of_no_key ⟨hh, hd, fun host => absurd host role, hi, .inl he⟩ hs hr hl role hk)

end Sys2Proof.Machine
end

section
/-! Every row is steady (Laws/Steady): the limits of R553 move in the rows of `setsLimits` only, and an event source's status bit is
cleared in the rows of `clearsStatus` only. -/

namespace Sys2Proof.Machine

variable {l : Bool × Bool} {c : Instr} {z s : State} {o : Host.Outcome State Fault Refusal}

/-- A row that may move the limits is asked nothing of them. -/
theorem SteadyX.of_limitsRow (hl : l.1 = true → setsLimits c = false) (row : setsLimits c = true) (h : SteadyX (false, l.2) z o) :
    SteadyX l z o := by
  have free : l.1 = false := Bool.eq_false_iff.2 fun asked => Bool.eq_false_iff.1 (hl asked) row
  rwa [← free] at h

/-- A row that may clear a status bit is asked nothing of them. -/
theorem SteadyX.of_statusRow (hs : l.2 = true → clearsStatus c = false) (row : clearsStatus c = true) (h : SteadyX (l.1, false) z o) :
    SteadyX l z o := by
  have free : l.2 = false := Bool.eq_false_iff.2 fun asked => Bool.eq_false_iff.1 (hs asked) row
  rwa [← free] at h

/-- What every row keeps. -/
theorem exec_steady (hl : l.1 = true → setsLimits c = false) (hs : l.2 = true → clearsStatus c = false) : SteadyX l s (exec c s) := by
  cases c with
  | porstNAssert => exact .of_limitsRow hl rfl (.of_statusRow hs rfl (execPorstNAssert_steady _ .refl))
  | porstNRelease => exact execPorstNRelease_steady _ .refl
  | sysrstNAssert => exact .of_limitsRow hl rfl (execSysrstNAssert_steady _ _ .refl)
  | powerGoodFall => exact .of_limitsRow hl rfl (.of_statusRow hs rfl (execPowerGoodFall_steady _ _ .refl))
  | sysclkLoss => exact .of_limitsRow hl rfl (.of_statusRow hs rfl (execSysclkLoss_steady _ .refl))
  | warmReset => exact .of_limitsRow hl rfl (execWarmReset_steady _ _ .refl)
  | bootImageVerify => exact execBootImageVerify_steady _ _ .refl
  | bootFirmwareStart => exact .of_limitsRow hl rfl (execBootFirmwareStart_steady _ _ _ .refl)
  | domainPowerUp => exact execDomainPowerUp_steady _ .refl
  | domainPowerGood => exact execDomainPowerGood_steady _ _ .refl
  | domainPowerTimeout => exact execDomainPowerTimeout_steady _ _ .refl
  | functionReady => exact execFunctionReady_steady _ _ _ .refl
  | risingComplete => exact execRisingComplete_steady _ .refl
  | frameArrival => exact execFrameArrival_steady _ _ _ _ .refl
  | pfcRefresh => exact execPfcRefresh_steady _ _ _ .refl
  | packetSlotGrant => exact execPacketSlotGrant_steady _ _ _ .refl
  | ocfIntake => exact execOcfIntake_steady _ _ _ .refl
  | flowResultReturn => exact execFlowResultReturn_steady _ _ _ .refl
  | flowResultDeadline => exact execFlowResultDeadline_steady _ _ _ .refl
  | descriptorRelease => exact execDescriptorRelease_steady _ _ _ .refl
  | originatedFrameEnqueue => exact execOriginatedFrameEnqueue_steady _ .refl
  | flowOpAccept => exact execFlowOpAccept_steady _ _ _ .refl
  | deferredOpRun => exact execDeferredOpRun_steady _ _ .refl
  | sinterIdleWriteback => exact execSinterIdleWriteback_steady _ _ _ .refl
  | sinterLogReplay => exact execSinterLogReplay_steady _ _ _ .refl
  | flowAgingSweepVisit => exact execFlowAgingSweepVisit_steady _ _ _ _ _ .refl
  | relocationJob => exact execRelocationJob_steady _ _ .refl
  | tarnOnlyMigrate => exact execTarnOnlyMigrate_steady _ _ .refl
  | natBufferRefill => exact execNatBufferRefill_steady _ _ _ _ _ .refl
  | natRingFill => exact execNatRingFill_steady _ _ .refl
  | lbHealthPeriod => exact execLbHealthPeriod_steady _ _ .refl
  | groupHomeSwitch => exact execGroupHomeSwitch_steady _ _ .refl
  | exportMessageFlush => exact execExportMessageFlush_steady _ _ .refl
  | exportMessageSend => exact execExportMessageSend_steady _ _ _ .refl
  | templateRefresh => exact execTemplateRefresh_steady _ _ .refl
  | learnEventApply => exact execLearnEventApply_steady _ .refl
  | flapWindowExpire => exact execFlapWindowExpire_steady _ _ _ .refl
  | pinHoldExpire => exact execPinHoldExpire_steady _ _ _ .refl
  | macAgingVisit => exact execMacAgingVisit_steady _ _ .refl
  | learnMessageSend => exact execLearnMessageSend_steady _ .refl
  | lpmNodeFree => exact execLpmNodeFree_steady _ .refl
  | crossbarGrant => exact execCrossbarGrant_steady _ _ .refl
  | egressDecision => exact execEgressDecision_steady _ _ .refl
  | replicationTake => exact execReplicationTake_steady _ _ .refl
  | frameTransmitComplete => exact execFrameTransmitComplete_steady _ _ .refl
  | shaperSlotDue => exact execShaperSlotDue_steady _ _ _ _ .refl
  | gateTransition => exact execGateTransition_steady _ _ .refl
  | gateChangeInstant => exact execGateChangeInstant_steady _ _ .refl
  | pauseFrameReceive => exact execPauseFrameReceive_steady _ _ _ _ _ .refl
  | pauseExpire => exact execPauseExpire_steady _ _ _ .refl
  | pfcWatchdogExpire => exact execPfcWatchdogExpire_steady _ _ _ .refl
  | linkDown => exact execLinkDown_steady _ _ .refl
  | linkUp => exact execLinkUp_steady _ _ .refl
  | lingerExpire => exact execLingerExpire_steady _ _ .refl
  | spillPageWrite => exact execSpillPageWrite_steady _ _ _ .refl
  | spillPageRefill => exact execSpillPageRefill_steady _ _ _ _ .refl
  | fabricCellSend => exact execFabricCellSend_steady _ _ .refl
  | fabricIdleSend => exact execFabricIdleSend_steady _ _ .refl
  | dataCellReceive => exact execDataCellReceive_steady _ _ _ _ .refl
  | hello => exact execHello_steady _ _ _ _ _ _ .refl
  | reach => exact execReach_steady _ _ _ .refl
  | load => exact execLoad_steady _ _ _ .refl
  | portState => exact execPortState_steady _ _ _ _ _ .refl
  | request => exact execRequest_steady _ _ _ _ _ _ _ _ .refl
  | grant => exact execGrant_steady _ _ _ _ _ .refl
  | replay => exact execReplay_steady _ _ _ .refl
  | credit => exact execCredit_steady _ _ _ _ .refl
  | flowReq => exact execFlowReq_steady _ _ _ _ _ .refl
  | flowResp hd slot id res => exact execFlowResp_steady hd slot id res _ .refl
  | ocf => exact execOcf_steady _ _ _ _ _ _ _ .refl
  | learn => exact execLearn_steady _ _ _ _ _ _ .refl
  | ocfSegmentTimeout => exact execOcfSegmentTimeout_steady _ _ .refl
  | helloSend => exact execHelloSend_steady _ _ .refl
  | loadSend => exact execLoadSend_steady _ .refl
  | voqRequestTimer => exact execVoqRequestTimer_steady _ _ _ .refl
  | fabricPortTimeout => exact execFabricPortTimeout_steady _ _ .refl
  | robTimeout => exact execRobTimeout_steady _ _ _ _ .refl
  | hbmRequestAccept => exact execHbmRequestAccept_steady _ _ .refl
  | hbmGatePass => exact execHbmGatePass_steady _ _ .refl
  | frReadRefuse => exact execFrReadRefuse_steady _ _ .refl
  | hbmBudgetPeriod => exact execHbmBudgetPeriod_steady _ .refl
  | pcIssue => exact execPcIssue_steady _ _ .refl
  | hbmAccessComplete => exact execHbmAccessComplete_steady _ _ _ _ .refl
  | rowIdleClose => exact execRowIdleClose_steady _ _ _ .refl
  | bankRefresh => exact execBankRefresh_steady _ _ _ .refl
  | hbmTrainingComplete => exact execHbmTrainingComplete_steady _ _ _ .refl
  | hbmScrubVisit => exact execHbmScrubVisit_steady _ _ _ _ .refl
  | retireRemapDrained => exact execRetireRemapDrained_steady _ _ .refl
  | selfRefreshEntry => exact execSelfRefreshEntry_steady _ _ .refl
  | hbmWakeReady => exact execHbmWakeReady_steady _ _ _ _ .refl
  | tcamScrubVisit => exact execTcamScrubVisit_steady _ _ _ _ .refl
  | mbxOutPost => exact execMbxOutPost_steady _ _ .refl
  | cmbTake => exact execCmbTake_steady _ .refl
  | doorbellTake => exact execDoorbellTake_steady _ _ .refl
  | dmaCommandReadComplete => exact execDmaCommandReadComplete_steady _ _ _ _ _ .refl
  | commandTimeout => exact execCommandTimeout_steady _ _ _ .refl
  | completionSend => exact execCompletionSend_steady _ _ .refl
  | completionResend => exact execCompletionResend_steady _ _ .refl
  | groupTimeout => exact execGroupTimeout_steady _ _ .refl
  | auditFlashWrite => exact execAuditFlashWrite_steady _ .refl
  | rxFrameWrite => exact execRxFrameWrite_steady _ _ _ .refl
  | ringWaitExpire => exact execRingWaitExpire_steady _ .refl
  | txFrameFetch => exact execTxFrameFetch_steady _ _ _ _ _ .refl
  | interruptMessageSend => exact execInterruptMessageSend_steady _ _ .refl
  | holdoffExpire => exact execHoldoffExpire_steady _ _ .refl
  | perstN => exact execPerstN_steady _ .refl
  | functionLevelReset => exact execFunctionLevelReset_steady _ .refl
  | pciePowerStateChange => exact execPciePowerStateChange_steady _ _ _ _ _ .refl
  | msixVectorUnmask => exact execMsixVectorUnmask_steady _ _ .refl
  | eventInputEdge => exact execEventInputEdge_steady _ _ _ .refl
  | eventAsyncLatch => exact execEventAsyncLatch_steady _ _ _ .refl
  | workItemRelease => exact execWorkItemRelease_steady _ _ .refl
  | workItemGrant => exact execWorkItemGrant_steady _ _ _ .refl
  | workItemComplete => exact execWorkItemComplete_steady _ _ _ _ .refl
  | itemLimitOverrun => exact execItemLimitOverrun_steady _ _ _ .refl
  | energyPeriodBoundary => exact execEnergyPeriodBoundary_steady _ .refl
  | microwordExecute => exact execMicrowordExecute_steady _ _ _ .refl
  | fumaroleMemComplete => exact execFumaroleMemComplete_steady _ _ _ .refl
  | waitLimitExpire => exact execWaitLimitExpire_steady _ _ .refl
  | tableDump => exact execTableDump_steady _ _ .refl
  | flowBulkInsert => exact execFlowBulkInsert_steady _ _ _ .refl
  | counterSnapshot => exact execCounterSnapshot_steady _ _ .refl
  | delayedCommand => exact .of_limitsRow hl rfl (execDelayedCommand_steady _ _ .refl)
  | calderaPeriod => exact execCalderaPeriod_steady _ _ .refl
  | shedNoticeEnd => exact execShedNoticeEnd_steady _ _ .refl
  | shedReturn => exact execShedReturn_steady _ _ .refl
  | thermalHoldClear => exact execThermalHoldClear_steady _ _ .refl
  | capActionUndo => exact execCapActionUndo_steady _ .refl
  | capUnmet => exact execCapUnmet_steady _ .refl
  | dvfsStepComplete => exact execDvfsStepComplete_steady _ _ .refl
  | regulatorFault => exact execRegulatorFault_steady _ _ .refl
  | reducedProfileApply => exact execReducedProfileApply_steady _ .refl
  | parkRetentionEntry => exact execParkRetentionEntry_steady _ _ .refl
  | dormantDrainEnd => exact execDormantDrainEnd_steady _ .refl
  | dormantFlushComplete => exact execDormantFlushComplete_steady _ .refl
  | wake => exact execWake_steady _ _ _ .refl
  | wakeComplete => exact execWakeComplete_steady _ _ .refl
  | dormantOcfHold => exact execDormantOcfHold_steady _ _ _ .refl
  | scheduleEntryDue => exact execScheduleEntryDue_steady _ _ .refl
  | ptpMessageReceive => exact execPtpMessageReceive_steady _ _ _ .refl
  | ptpMessageSend => exact execPtpMessageSend_steady _ _ _ .refl
  | ppsEdge => exact execPpsEdge_steady _ _ .refl
  | ppsTimeout => exact execPpsTimeout_steady _ .refl
  | freqInvalid => exact execFreqInvalid_steady _ .refl
  | ptpSyncTimeout => exact execPtpSyncTimeout_steady _ .refl
  | announceTimeout => exact execAnnounceTimeout_steady _ _ .refl
  | holdoverExpire => exact execHoldoverExpire_steady _ .refl
  | leapEvent => exact execLeapEvent_steady _ .refl
  | timedOutputEdge => exact execTimedOutputEdge_steady _ _ .refl
  | lldpTransmit => exact execLldpTransmit_steady _ _ .refl
  | lldpduReceive => exact execLldpduReceive_steady _ _ _ .refl
  | lldpTtlExpire => exact execLldpTtlExpire_steady _ _ _ .refl
  | memberTtlExpire => exact execMemberTtlExpire_steady _ _ .refl
  | opticsPoll => exact execOpticsPoll_steady _ _ _ .refl
  | hwCellError => exact execHwCellError_steady _ _ _ _ _ .refl
  | chipMachineCheck => exact execChipMachineCheck_steady _ _ _ .refl
  | firmwareWatchdog => exact execFirmwareWatchdog_steady _ .refl
  | safeStateRestart => exact .of_limitsRow hl rfl (execSafeStateRestart_steady _ .refl)
  | smbusWakeWrite => exact execSmbusWakeWrite_steady _ _ .refl
  | smbusResetWrite => exact execSmbusResetWrite_steady _ _ .refl
  | smbusTimeout => exact execSmbusTimeout_steady _ .refl
  | chInData => exact execChInData_steady _ _ _ .refl
  | chInEom => exact execChInEom_steady _ _ _ .refl
  | chOutData => exact execChOutData_steady _ _ .refl
  | chCtrlHostReset => exact execChCtrlHostReset_steady _ _ .refl
  | h2dSet => exact execH2dSet_steady _ _ _ .refl
  | cmbCtrlGo => exact execCmbCtrlGo_steady _ _ .refl
  | cmbWriteWhileFull => exact execCmbWriteWhileFull_steady _ _ _ .refl
  | cmbRspAck => exact execCmbRspAck_steady _ .refl
  | ringCtrlEn => exact execRingCtrlEn_steady _ _ _ _ .refl
  | ringTail => exact execRingTail_steady _ _ _ _ .refl
  | intStatusClear => exact .of_statusRow hs rfl (execIntStatusClear_steady _ _ _ .refl)
  | intSet => exact execIntSet_steady _ _ _ .refl
  | intClaim => exact execIntClaim_steady _ _ .refl
  | intComplete => exact execIntComplete_steady _ _ _ .refl
  | tcapTimeNsRead => exact execTcapTimeNsRead_steady _ .refl
  | tcapCapture => exact execTcapCapture_steady _ .refl
  | tcapEvqPop => exact execTcapEvqPop_steady _ .refl
  | urCountRead => exact execUrCountRead_steady _ .refl
  | chOvfCountRead => exact execChOvfCountRead_steady _ _ .refl
  | chDiscardRead => exact execChDiscardRead_steady _ _ .refl
  | chFlushCountRead => exact execChFlushCountRead_steady _ _ .refl
  | cmbCollCountRead => exact execCmbCollCountRead_steady _ .refl
  | ringDropRead => exact execRingDropRead_steady _ _ .refl
  | badCompleteRead => exact execBadCompleteRead_steady _ .refl
  | reassertRead => exact execReassertRead_steady _ _ .refl
  | evqOvfRead => exact execEvqOvfRead_steady _ .refl
  | registerWrite => exact .of_statusRow hs rfl (execRegisterWrite_steady _ _ _ _ .refl)
  | parseStateWrite => exact execParseStateWrite_steady _ _ _ _ _ .refl
  | parseGraphCommit => exact execParseGraphCommit_steady _ _ _ .refl
  | parseStateRead => exact execParseStateRead_steady _ _ _ _ _ .refl
  | keyProfileWrite => exact execKeyProfileWrite_steady _ _ _ _ _ .refl
  | searchProfileWrite => exact execSearchProfileWrite_steady _ _ _ _ _ .refl
  | portClassMapWrite => exact execPortClassMapWrite_steady _ _ _ _ .refl
  | portDefaultsWrite => exact execPortDefaultsWrite_steady _ _ _ .refl
  | controlMatchWrite => exact execControlMatchWrite_steady _ _ _ .refl
  | bankModeWrite => exact execBankModeWrite_steady _ _ _ _ _ .refl
  | listCreate => exact execListCreate_steady _ _ _ .refl
  | listDelete => exact execListDelete_steady _ _ _ _ .refl
  | ruleInsert => exact execRuleInsert_steady _ _ _ .refl
  | ruleDelete => exact execRuleDelete_steady _ _ _ .refl
  | ruleActionWrite => exact execRuleActionWrite_steady _ _ _ _ .refl
  | ruleRead => exact execRuleRead_steady _ _ _ _ .refl
  | listRespace => exact execListRespace_steady _ _ _ _ _ .refl
  | tcamRawWrite => exact execTcamRawWrite_steady _ _ _ .refl
  | tcamRawRead => exact execTcamRawRead_steady _ _ _ _ .refl
  | recircConfig => exact execRecircConfig_steady _ _ _ _ .refl
  | mirrorSessionWrite => exact execMirrorSessionWrite_steady _ _ _ .refl
  | parseCountersRead => exact execParseCountersRead_steady _ _ _ _ .refl
  | partitionCreate => exact execPartitionCreate_steady _ _ _ .refl
  | partitionDelete => exact execPartitionDelete_steady _ _ _ .refl
  | partitionRead => exact execPartitionRead_steady _ _ _ .refl
  | flowInsert => exact execFlowInsert_steady _ _ _ .refl
  | flowUpdate => exact execFlowUpdate_steady _ _ _ .refl
  | flowRead => exact execFlowRead_steady _ _ _ _ .refl
  | flowDelete => exact execFlowDelete_steady _ _ _ .refl
  | flowSearchNext => exact execFlowSearchNext_steady _ _ _ .refl
  | flowFlush => exact execFlowFlush_steady _ _ _ .refl
  | ageClassWrite => exact execAgeClassWrite_steady _ _ _ _ .refl
  | sweepConfig => exact execSweepConfig_steady _ _ _ _ .refl
  | flowTableStatus => exact execFlowTableStatus_steady _ _ .refl
  | flowTemplateWrite => exact execFlowTemplateWrite_steady _ _ _ .refl
  | flowTemplateRead => exact execFlowTemplateRead_steady _ _ _ .refl
  | natPoolWrite => exact execNatPoolWrite_steady _ _ _ .refl
  | natPoolAddrWrite => exact execNatPoolAddrWrite_steady _ _ _ .refl
  | natPoolDelete => exact execNatPoolDelete_steady _ _ _ .refl
  | natPoolStatus => exact execNatPoolStatus_steady _ _ _ .refl
  | lbPoolWrite => exact execLbPoolWrite_steady _ _ _ .refl
  | lbBackendWrite => exact execLbBackendWrite_steady _ _ _ .refl
  | lbPoolCommit => exact execLbPoolCommit_steady _ _ _ .refl
  | lbPoolRead => exact execLbPoolRead_steady _ _ _ .refl
  | groupHomeWrite => exact execGroupHomeWrite_steady _ _ _ .refl
  | exportProfileWrite => exact execExportProfileWrite_steady _ _ _ .refl
  | exportStatus => exact execExportStatus_steady _ _ _ .refl
  | serviceCountersRead => exact execServiceCountersRead_steady _ _ _ _ .refl
  | vlanWrite => exact execVlanWrite_steady _ _ _ _ .refl
  | portL2Write => exact execPortL2Write_steady _ _ _ _ _ .refl
  | l2TableConfig => exact execL2TableConfig_steady _ _ _ .refl
  | l2EntryWrite => exact execL2EntryWrite_steady _ _ _ .refl
  | l2EntryDelete => exact execL2EntryDelete_steady _ _ _ _ .refl
  | l2EntryRead => exact execL2EntryRead_steady _ _ _ _ .refl
  | l2SearchNext => exact execL2SearchNext_steady _ _ _ _ .refl
  | l2Flush => exact execL2Flush_steady _ _ _ .refl
  | l2Unpin => exact execL2Unpin_steady _ _ _ _ .refl
  | lagWrite => exact execLagWrite_steady _ _ _ _ .refl
  | mcastGroupWrite => exact execMcastGroupWrite_steady _ _ _ _ .refl
  | l2LearnShareConfig => exact execL2LearnShareConfig_steady _ _ _ .refl
  | deviceReachWrite => exact execDeviceReachWrite_steady _ _ _ _ _ .refl
  | l2LearnNotifyRead => exact execL2LearnNotifyRead_steady _ _ _ .refl
  | l2Status => exact execL2Status_steady _ _ .refl
  | learnMessage => exact execLearnMessage_steady _ _ _ .refl
  | routerMacWrite => exact execRouterMacWrite_steady _ _ _ _ _ .refl
  | vrfWrite => exact execVrfWrite_steady _ _ _ .refl
  | nexthopWrite => exact execNexthopWrite_steady _ _ _ .refl
  | ecmpMembersWrite => exact execEcmpMembersWrite_steady _ _ _ _ .refl
  | hostEntryWrite => exact execHostEntryWrite_steady _ _ _ .refl
  | hostEntryDelete => exact execHostEntryDelete_steady _ _ _ _ _ .refl
  | hostEntryRead => exact execHostEntryRead_steady _ _ _ _ _ .refl
  | hostSearchNext => exact execHostSearchNext_steady _ _ _ _ .refl
  | lpmRouteAdd => exact execLpmRouteAdd_steady _ _ _ _ .refl
  | lpmRouteReplace => exact execLpmRouteReplace_steady _ _ _ _ .refl
  | lpmRouteDelete => exact execLpmRouteDelete_steady _ _ _ _ .refl
  | lpmRouteNext => exact execLpmRouteNext_steady _ _ _ _ _ .refl
  | l3Status => exact execL3Status_steady _ _ .refl
  | bufProfileWrite => exact execBufProfileWrite_steady _ _ _ .refl
  | voqProfileMap => exact execVoqProfileMap_steady _ _ _ _ _ .refl
  | bufRegionWrite => exact execBufRegionWrite_steady _ _ _ .refl
  | portPfcWrite => exact execPortPfcWrite_steady _ _ _ .refl
  | portLingerWrite => exact execPortLingerWrite_steady _ _ _ _ .refl
  | bufCommit => exact execBufCommit_steady _ _ .refl
  | voqStatus => exact execVoqStatus_steady _ _ _ _ .refl
  | voqCountersRead => exact execVoqCountersRead_steady _ _ _ _ _ .refl
  | bufStatus => exact execBufStatus_steady _ _ .refl
  | fabricConfig => exact execFabricConfig_steady _ _ _ .refl
  | fabricLinkWrite => exact execFabricLinkWrite_steady _ _ _ .refl
  | fabricStatus => exact execFabricStatus_steady _ _ .refl
  | fabricCountersRead => exact execFabricCountersRead_steady _ _ _ .refl
  | portSchedWrite => exact execPortSchedWrite_steady _ _ _ .refl
  | queueShaperWrite => exact execQueueShaperWrite_steady _ _ _ .refl
  | gateListWrite => exact execGateListWrite_steady _ _ _ _ _ .refl
  | gateConfigWrite => exact execGateConfigWrite_steady _ _ _ .refl
  | gateStatus => exact execGateStatus_steady _ _ _ .refl
  | egressCountersRead => exact execEgressCountersRead_steady _ _ _ _ .refl
  | policerWrite => exact execPolicerWrite_steady _ _ _ .refl
  | policerRead => exact execPolicerRead_steady _ _ _ _ _ .refl
  | hwmRead => exact execHwmRead_steady _ _ _ .refl
  | hbmBudgetWrite => exact execHbmBudgetWrite_steady _ _ _ .refl
  | hbmBudgetRead => exact execHbmBudgetRead_steady _ _ .refl
  | hbmStatus => exact execHbmStatus_steady _ _ .refl
  | hbmScrubConfig => exact execHbmScrubConfig_steady _ _ _ .refl
  | hbmPcRetire => exact execHbmPcRetire_steady _ _ _ .refl
  | sysIdentity => exact execSysIdentity_steady _ _ .refl
  | sysStatus => exact execSysStatus_steady _ _ .refl
  | sysEcho => exact execSysEcho_steady _ _ .refl
  | sysGroupOpen => exact execSysGroupOpen_steady _ _ _ .refl
  | sysGroupCommit => exact .of_limitsRow hl rfl (execSysGroupCommit_steady _ _ .refl)
  | sysGroupAbort => exact execSysGroupAbort_steady _ _ .refl
  | sysCompletionAck => exact execSysCompletionAck_steady _ _ _ .refl
  | sysPendingRead => exact execSysPendingRead_steady _ _ .refl
  | sysIntakeConfig => exact execSysIntakeConfig_steady _ _ _ .refl
  | sysDeviceIdWrite => exact execSysDeviceIdWrite_steady _ _ _ _ .refl
  | sysReset => exact execSysReset_steady _ _ _ .refl
  | portConfig => exact execPortConfig_steady _ _ _ .refl
  | portStatus => exact execPortStatus_steady _ _ _ .refl
  | portCountersRead => exact execPortCountersRead_steady _ _ _ _ .refl
  | portAdmin => exact execPortAdmin_steady _ _ _ _ .refl
  | portOpticsAccess => exact execPortOpticsAccess_steady _ _ _ .refl
  | diagPrbs => exact execDiagPrbs_steady _ _ _ .refl
  | diagLoopback => exact execDiagLoopback_steady _ _ _ _ .refl
  | diagEyeScan => exact execDiagEyeScan_steady _ _ _ _ _ .refl
  | diagRegRead => exact execDiagRegRead_steady _ _ _ _ .refl
  | diagErrorInject => exact execDiagErrorInject_steady _ _ _ .refl
  | diagMemTest => exact execDiagMemTest_steady _ _ _ _ .refl
  | secKeyWrite => exact execSecKeyWrite_steady _ _ _ .refl
  | secKeyClear => exact execSecKeyClear_steady _ _ _ _ _ .refl
  | secKeyStatus => exact execSecKeyStatus_steady _ _ .refl
  | secHostAccess => exact execSecHostAccess_steady _ _ _ _ .refl
  | secLifecycleSet => exact execSecLifecycleSet_steady _ _ _ _ _ .refl
  | secFwWrite => exact execSecFwWrite_steady _ _ _ .refl
  | secFwActivate => exact execSecFwActivate_steady _ _ _ _ .refl
  | secFwStatus => exact execSecFwStatus_steady _ _ .refl
  | auditRead => exact execAuditRead_steady _ _ _ _ .refl
  | auditAck => exact execAuditAck_steady _ _ _ .refl
  | auditConfig => exact execAuditConfig_steady _ _ _ _ .refl
  | jobSubmit => exact execJobSubmit_steady _ _ _ _ .refl
  | jobCancel => exact execJobCancel_steady _ _ _ _ .refl
  | jobStatus => exact execJobStatus_steady _ _ _ _ .refl
  | geyserClassWrite => exact execGeyserClassWrite_steady _ _ _ _ _ .refl
  | geyserActivityWrite => exact execGeyserActivityWrite_steady _ _ _ _ _ .refl
  | geyserStatus => exact execGeyserStatus_steady _ _ .refl
  | fumStatus => exact execFumStatus_steady _ _ .refl
  | pwrModeSet => exact execPwrModeSet_steady _ _ _ _ _ .refl
  | pwrCapSet => exact execPwrCapSet_steady _ _ _ _ .refl
  | pwrLimitsSet => exact .of_limitsRow hl rfl (execPwrLimitsSet_steady _ _ _ .refl)
  | pwrReducedProfileWrite => exact execPwrReducedProfileWrite_steady _ _ _ .refl
  | pwrScheduleWrite => exact execPwrScheduleWrite_steady _ _ _ .refl
  | pwrWakeConfig => exact execPwrWakeConfig_steady _ _ _ .refl
  | pwrStatus => exact execPwrStatus_steady _ _ .refl
  | timeSourceConfig => exact execTimeSourceConfig_steady _ _ _ .refl
  | timeSet => exact execTimeSet_steady _ _ _ .refl
  | timeStatus => exact execTimeStatus_steady _ _ .refl
  | ptpClockConfig => exact execPtpClockConfig_steady _ _ _ .refl
  | ptpPortConfig => exact execPtpPortConfig_steady _ _ _ .refl
  | ptpStatus => exact execPtpStatus_steady _ _ .refl
  | timeOutputWrite => exact execTimeOutputWrite_steady _ _ _ .refl
  | eventStampRead => exact execEventStampRead_steady _ _ .refl
  | lldpConfig => exact execLldpConfig_steady _ _ _ .refl
  | discoveryRead => exact execDiscoveryRead_steady _ _ _ _ _ .refl
  | domainConfig => exact execDomainConfig_steady _ _ _ _ _ .refl
  | opticsSlotWrite => exact execOpticsSlotWrite_steady _ _ _ .refl
  | opticsStatus => exact execOpticsStatus_steady _ _ .refl
  | faultStatus => exact execFaultStatus_steady _ _ .refl
  | faultPolicyWrite => exact execFaultPolicyWrite_steady _ _ _ _ _ .refl
  | faultLogRead => exact execFaultLogRead_steady _ _ _ _ .refl
  | hwRetire => exact execHwRetire_steady _ _ _ .refl
  | faultRecordClear => exact execFaultRecordClear_steady _ _ .refl
  | sysrstNRelease => exact execSysrstNRelease_steady _ .refl
  | perstNRelease => exact execPerstNRelease_steady _ .refl
  | powerGoodReturn => exact execPowerGoodReturn_steady _ _ .refl
  | pcieLinkChange => exact execPcieLinkChange_steady _ _ _ _ .refl
  | freqMeasurement => exact execFreqMeasurement_steady _ _ .refl

end Sys2Proof.Machine
end

section
/-! The status bits of interrupt sources (R490). -/

namespace Sys2Proof.Machine

variable {s t : State} {src g mask sets : Nat}

/-! ## A row of the host that is never shut -/

theorem guarded_of_reach (bar off : Nat) (f : State → State) (hr : s.hostReach = true) : guarded true bar off f s = .next (f s) := by
  rw [guarded, hr]; rfl

/-- Such a write takes effect, or the host does not reach the device and nothing happens. -/
theorem guarded_cases {bar off : Nat} {f : State → State} (run : guarded true bar off f s = .next t) : t = s ∨ t = f s := by
  cases hr : s.hostReach <;> rw [guarded, hr] at run <;> cases run
  · exact .inl rfl
  · exact .inr rfl

theorem guardedRead_of_reach (bar off : Nat) (f : State → State) (hr : s.hostReach = true) : guardedRead true bar off f s = .next (f s) := by
  rw [guardedRead, hr]; rfl

/-- Software's ones, but for the sources whose event falls into the same clock (R12, R494). -/
def clearedBits (w : StatusClear) : Nat := w.mask &&& (w.sets ^^^ 0xFFFF)

theorem exec_intStatusClear (g : Nat) (w : StatusClear) (s : State) : exec (.intStatusClear g w) s =
    guarded true 0 (0x10000 + 4 * g) (fun s => clearStatus g (clearedBits w) (raiseMask g w.sets s)) s := rfl

theorem exec_intStatusClear_of_reach (w : StatusClear) (hr : s.hostReach = true) :
    exec (.intStatusClear g w) s = .next (clearStatus g (clearedBits w) (raiseMask g w.sets s)) :=
  (exec_intStatusClear g w s).trans (guarded_of_reach _ _ _ hr)

theorem exec_intStatusClear_cases {w : StatusClear} (run : exec (.intStatusClear g w) s = .next t) :
    t = s ∨ t = clearStatus g (clearedBits w) (raiseMask g w.sets s) := by
  rw [exec_intStatusClear] at run
  exact guarded_cases run

theorem exec_intSet (g mask : Nat) (s : State) : exec (.intSet g mask) s = guarded true 0 (0x10200 + 4 * g) (raiseMask g mask) s := rfl

theorem exec_intSet_cases (run : exec (.intSet g mask) s = .next t) : t = s ∨ t = raiseMask g mask s := by
  rw [exec_intSet] at run
  exact guarded_cases run

/-! ## Event sources: the bits -/

theorem intStatus_of_event (s : State) (event : isLevel src = false) : s.intStatus src = s.host.int.status.testBit src := by
  rw [State.intStatus, event]; rfl

theorem raise_of_set (event : isLevel src = false) (set : s.host.int.status.testBit src = true) :
    raise src s = { s with host.int.reassert := tmod s.host.int.reassert src 0 (satAdd 8 · 1) } := by
  rw [raise, event, set]; rfl

theorem raise_of_clear (event : isLevel src = false) (clear : s.host.int.status.testBit src = false) :
    raise src s = { s with host.int.status := setBit s.host.int.status src true } := by
  rw [raise, event, clear]; rfl

theorem raise_sets_status (s : State) (event : isLevel src = false) : (raise src s).host.int.status.testBit src = true := by
  cases set : s.host.int.status.testBit src with
  | true => rw [raise_of_set event set]; exact set
  | false => rw [raise_of_clear event set]; exact testBit_setBit_self ..

theorem raiseMask_keeps_status (set : s.host.int.status.testBit src = true) : (raiseMask g mask s).host.int.status.testBit src = true :=
  (raiseMask_steady (l := (false, true)) g mask s .refl).status rfl src set

theorem mem_bitsOf {w n k : Nat} : k ∈ bitsOf w n ↔ k < w ∧ n.testBit k = true := by
  rw [bitsOf, List.mem_filter, List.mem_range]

/-- Clearing bits `b + k` one after the other leaves the other bits. -/
theorem testBit_forEach_clear (ks : List Nat) (b n j : Nat) :
    (forEach ks n (fun k n => setBit n (b + k) false)).testBit j = true ↔ n.testBit j = true ∧ ∀ k ∈ ks, j ≠ b + k := by
  induction ks generalizing n with
  | nil => simp [forEach]
  | cons k ks ih =>
    refine (ih (setBit n (b + k) false)).trans ?_
    rw [testBit_setBit, List.forall_mem_cons]
    by_cases named : j = b + k <;> simp [named]

/-- A clear takes the bits that its mask names, in its group. -/
theorem clearStatus_status (s : State) : (clearStatus g mask s).host.int.status.testBit src = true ↔
    s.host.int.status.testBit src = true ∧ ¬(src / 16 = g ∧ mask.testBit (src % 16) = true) := by
  refine (testBit_forEach_clear ..).trans (and_congr_right fun _ => ⟨?_, ?_⟩)
  · rintro other ⟨rfl, named⟩
    exact other (src % 16) (mem_bitsOf.2 ⟨Nat.mod_lt _ (by decide), named⟩) (Nat.div_add_mod src 16).symm
  · rintro other k hk rfl
    obtain ⟨small, named⟩ := mem_bitsOf.1 hk
    exact other ⟨by omega, by rwa [Nat.mul_add_mod, Nat.mod_eq_of_lt small]⟩

theorem testBit_clearedBits (w : StatusClear) (src : Nat) :
    (clearedBits w).testBit (src % 16) = true ↔ w.mask.testBit (src % 16) = true ∧ w.sets.testBit (src % 16) = false := by
  have low : Nat.testBit 0xFFFF (src % 16) = true := by
    rw [show 0xFFFF = 2 ^ 16 - 1 from rfl, Nat.testBit_two_pow_sub_one]
    exact decide_eq_true (Nat.mod_lt _ (by decide))
  rw [clearedBits, Nat.testBit_and, Nat.testBit_xor, low]
  simp

/-- A row that clears no status bit leaves an event source's bit set. -/
theorem exec_keeps_status {c : Instr} (hc : clearsStatus c = false) (run : exec c s = .next t) (set : s.host.int.status.testBit src = true) :
    t.host.int.status.testBit src = true :=
  (exec_steady (l := (false, true)) nofun (fun _ => hc) t run).status rfl src set

/-! ## Level sources: the conditions -/

theorem intStatus_of_level (s : State) (level : isLevel src = true) : s.intStatus src = s.levelCond src := by
  rw [State.intStatus, level]; rfl

/-- An event is no part of a level source's condition. -/
theorem raise_levelCond (n : Nat) (s : State) (src : Nat) : (raise n s).levelCond src = s.levelCond src := by
  obtain ⟨c, hc⟩ := raise_eq n s
  rw [hc]
  rfl

theorem raiseMask_levelCond (g mask : Nat) (s : State) (src : Nat) : (raiseMask g mask s).levelCond src = s.levelCond src := by
  refine List.foldlRecOn (motive := fun t : State => t.levelCond src = s.levelCond src) _ _ rfl fun t same k _ => ?_
  dsimp only
  split
  · exact (raise_levelCond ..).trans same
  · exact same

theorem clearStatus_levelCond (g mask : Nat) (s : State) (src : Nat) : (clearStatus g mask s).levelCond src = s.levelCond src := rfl

/-- Software's writes of the status registers leave every level source's condition. -/
theorem statusWrite_levelCond {w : StatusClear} (run : exec (.intStatusClear g w) s = .next t ∨ exec (.intSet g mask) s = .next t) :
    t.levelCond src = s.levelCond src := by
  rcases run with run | run
  · obtain rfl | rfl := exec_intStatusClear_cases run
    · rfl
    · rw [clearStatus_levelCond, raiseMask_levelCond]
  · obtain rfl | rfl := exec_intSet_cases run
    · rfl
    · exact raiseMask_levelCond ..

/-- Settles O53: an event source's status is its bit, which `exec_steady` keeps through the rows that clear none and `clearStatus_status` follows
through a clear; a level source's status is its condition, which the status writes leave. -/
theorem interruptStatusHolds : Obligations.InterruptStatusHolds := by
  unfold Obligations.InterruptStatusHolds
  refine ⟨?raised, ?kept, ?other, ?cleared, ?level, ?ignores⟩
  case raised =>
    intro s src event
    rw [intStatus_of_event _ event]
    exact raise_sets_status s event
  case kept =>
    intro c s t src hc event run set
    rw [intStatus_of_event _ event] at set ⊢
    exact exec_keeps_status hc run set
  case other =>
    intro g mask sets s t src event run set unnamed
    rw [intStatus_of_event _ event] at set ⊢
    obtain rfl | rfl := exec_intStatusClear_cases run
    · exact set
    · refine (clearStatus_status _).2 ⟨raiseMask_keeps_status set, ?_⟩
      rwa [testBit_clearedBits]
  case cleared =>
    intro g mask sets s t src hr event run group named alone
    obtain rfl := Host.Outcome.next.inj ((exec_intStatusClear_of_reach _ hr).symm.trans run)
    rw [intStatus_of_event _ event, Bool.eq_false_iff, Ne, clearStatus_status]
    exact fun kept => kept.2 ⟨group, (testBit_clearedBits ⟨mask, sets⟩ src).2 ⟨named, alone⟩⟩
  case level => exact fun s src level => intStatus_of_level s level
  case ignores =>
    intro g mask sets s t src level run
    rw [intStatus_of_level t level, intStatus_of_level s level]
    exact statusWrite_levelCond run

end Sys2Proof.Machine
end

section
/-! Pending, claim and complete (R493 to R498). -/

namespace Sys2Proof.Machine

variable {s : State} {src g : Nat}

theorem intPending_iff (s : State) (src : Nat) : s.intPending src = true ↔
    s.intStatus src = true ∧ s.host.int.enable.testBit src = true ∧ ∀ v, s.serviceOf (src / 16) = some v → v.source ≠ src := by
  rw [State.intPending, Bool.and_eq_true, Bool.and_eq_true, and_assoc]
  cases s.serviceOf (src / 16) <;> simp

theorem intPending_of_no_service (free : s.serviceOf (src / 16) = none) :
    s.intPending src = (s.intStatus src && s.host.int.enable.testBit src) := by
  rw [State.intPending, free]
  exact Bool.and_true _

/-- An event on a bit already set counts, up to 255 (R494). -/
theorem raise_counts (event : isLevel src = false) (set : s.host.int.status.testBit src = true) :
    raise src s = { s with host.int.reassert := tset s.host.int.reassert src (min (tgetD s.host.int.reassert src 0 + 1) 255) } :=
  raise_of_set event set

/-! ## CLAIM -/

theorem exec_intClaim_of_reach (hr : s.hostReach = true) : exec (.intClaim g) s = .next (claim g (readBack (s.claimWord g) s)) :=
  guardedRead_of_reach _ _ (fun s => claim g (readBack (s.claimWord g) s)) hr

theorem claimWord_of_service {v : Service} (busy : s.serviceOf g = some v) : s.claimWord g = 2 ^ 30 + v.source := by
  rw [State.claimWord, busy]

theorem claim_of_service {v : Service} (busy : s.serviceOf g = some v) : claim g s = s := by
  rw [claim, busy]

theorem claimWord_of_find (free : s.serviceOf g = none) (found : (groupSources g).find? s.intPending = some src) :
    s.claimWord g = 2 ^ 31 + src := by
  simp only [State.claimWord, free, found]

theorem claim_of_find (free : s.serviceOf g = none) (found : (groupSources g).find? s.intPending = some src) :
    claim g s = { s with
      host.int.inService := tset s.host.int.inService g ⟨src, isLevel src, s.intStatus src⟩
      host.int.lastClaim := tset s.host.int.lastClaim g src } := by
  simp only [claim, free, found]

theorem claimWord_of_find_none (free : s.serviceOf g = none) (idle : (groupSources g).find? s.intPending = none) : s.claimWord g = 0 := by
  simp only [State.claimWord, free, idle]

theorem claim_of_find_none (free : s.serviceOf g = none) (idle : (groupSources g).find? s.intPending = none) :
    claim g s = { s with host.int.armed := setBit s.host.int.armed g true } := by
  simp only [claim, free, idle]

/-- A group's sources are those of its number (R489). -/
theorem mem_groupSources {n : Nat} : n ∈ groupSources g ↔ n / 16 = g := by
  rw [groupSources, List.mem_map]
  constructor
  · rintro ⟨k, hk, rfl⟩
    have := List.mem_range.1 hk
    omega
  · rintro rfl
    exact ⟨n % 16, List.mem_range.2 (Nat.mod_lt _ (by decide)), Nat.div_add_mod n 16⟩

/-- The first pending source of a group is the lowest one. -/
theorem find_groupSources_of_lowest (pending : s.intPending src = true) (lowest : ∀ n, n / 16 = src / 16 → n < src → s.intPending n = false) :
    (groupSources (src / 16)).find? s.intPending = some src := by
  have hsrc : 16 * (src / 16) + src % 16 = src := Nat.div_add_mod src 16
  have first : (List.range 16).find? (s.intPending ∘ (16 * (src / 16) + ·)) = some (src % 16) := by
    refine List.find?_range_eq_some.2 ⟨?_, List.mem_range.2 (Nat.mod_lt _ (by decide)), fun k hk => ?_⟩
    · rwa [Function.comp_apply, hsrc]
    · rw [Function.comp_apply, lowest _ (by omega) (by omega)]
      rfl
  rw [groupSources, List.find?_map, first, Option.map_some, hsrc]

theorem find_groupSources_of_none (idle : ∀ n, n / 16 = g → s.intPending n = false) : (groupSources g).find? s.intPending = none :=
  List.find?_eq_none.2 fun n hn => Bool.eq_false_iff.1 (idle n (mem_groupSources.1 hn))

/-! ## COMPLETE -/

theorem exec_intComplete_of_reach (hr : s.hostReach = true) : exec (.intComplete g src) s = .next (complete g src s) :=
  guarded_of_reach _ _ (complete g src) hr

/-- A COMPLETE that names the source in service. -/
theorem complete_of_service {v : Service} (busy : s.serviceOf g = some v) (named : v.source = src) :
    complete g src s = { s with
      host.int.armed := setBit s.host.int.armed g true
      host.int.inService := tdel s.host.int.inService g } := by
  refine if_pos ?_
  change (s.serviceOf g).map Service.source = some src
  rw [busy, Option.map_some, named]

/-- A COMPLETE that names no source in service. -/
theorem complete_of_other (other : ∀ v, s.serviceOf g = some v → v.source ≠ src) :
    complete g src s = { s with
      host.int.armed := setBit s.host.int.armed g true
      host.int.badComplete := (s.host.int.badComplete + 1) % 2 ^ 32 } := by
  refine if_neg fun same => ?_
  obtain ⟨v, busy, named⟩ := Option.map_eq_some_iff.1 same
  exact other v busy named

/-- Settles O54: `claim` takes one of three branches, which the service of the group and the first pending source of `groupSources` decide, and
`complete` one of two. -/
theorem interruptService : Obligations.InterruptService := by
  unfold Obligations.InterruptService
  refine ⟨intPending_iff, ?one, fun _ _ => raise_counts, ?claimBusy, ?claimLowest, ?claimIdle, ?completeNamed, ?completeOther⟩
  case one =>
    intro s g v w hv hw
    rw [Option.some.inj (hv.symm.trans hw)]
  case claimBusy =>
    intro s g v hr busy
    rw [exec_intClaim_of_reach hr, claimWord_of_service busy, claim_of_service (s := readBack _ s) busy]
    rfl
  case claimLowest =>
    intro s src hr free pending lowest
    have found := find_groupSources_of_lowest pending lowest
    rw [exec_intClaim_of_reach hr, claimWord_of_find free found, claim_of_find (s := readBack _ s) free found,
      ← ((intPending_iff s src).1 pending).1]
    rfl
  case claimIdle =>
    intro s g hr free idle
    have noneFound := find_groupSources_of_none idle
    rw [exec_intClaim_of_reach hr, claimWord_of_find_none free noneFound, claim_of_find_none (s := readBack _ s) free noneFound]
    rfl
  case completeNamed =>
    intro s src v hr busy named
    have ended : (complete (src / 16) src s).serviceOf (src / 16) = none := by
      rw [complete_of_service busy named]
      exact tget_tdel_self ..
    refine ⟨_, exec_intComplete_of_reach hr, ended, ?_, fun g other => ?_, ?_⟩
    · rw [complete_of_service busy named]
    · rw [complete_of_service busy named]
      exact tget_tdel_of_ne _ other
    · rw [intPending_of_no_service ended, complete_of_service busy named]
      rfl
  case completeOther =>
    intro s g src hr other
    rw [exec_intComplete_of_reach hr, complete_of_other other]

end Sys2Proof.Machine
end

section
/-! The limits of R553: the rows that leave them, and what PWR_LIMITS_SET makes of them. -/

namespace Sys2Proof.Machine

variable {s t : State} {h : Ocf} {p : PwrLimitsSetP}

/-! ## Rows that leave the limits -/

/-- A row that sets no limits leaves all six. -/
theorem exec_keeps_limits {c : Instr} (hc : setsLimits c = false) (run : exec c s = .next t) : t.power.limits = s.power.limits :=
  (exec_steady (l := (true, false)) (fun _ => hc) nofun t run).limits rfl

theorem step_of_no_pending (empty : s.pending = []) : step s = .next (idle s) := by
  rw [step, empty]

theorem idle_keeps_limits (s : State) : (idle s).power.limits = s.power.limits :=
  (idle_steady (l := (true, false)) s .refl).limits rfl

/-! ## The checks of PWR_LIMITS_SET -/

theorem outside_eq_false_iff {v lo hi : Nat} : outside v lo hi = false ↔ lo ≤ v ∧ v ≤ hi := by
  simp [outside]

theorem firstErr_eq_none_iff {cs : List (Bool × Err)} : firstErr cs = none ↔ ∀ e ∈ cs, e.1 = false := by
  induction cs with
  | nil => simp [firstErr]
  | cons e cs ih =>
    obtain ⟨bad, err⟩ := e
    cases bad <;> simp [firstErr, ih]

/-- A cap that may be unset, and lies within a range where it is set, is not found outside it. -/
theorem outside_getD_of_within {cap : Option Nat} {lo hi : Nat} (within : ∀ c, cap = some c → lo ≤ c ∧ c ≤ hi) :
    (cap.map (fun c => outside c lo hi)).getD false = false := by
  cases cap with
  | none => rfl
  | some c => exact outside_eq_false_iff.2 (within c rfl)

theorem orDefault_within {v d lo hi : Nat} (positive : lo ≤ 1) (inRange : lo ≤ d ∧ d ≤ hi) (most : v ≤ hi) :
    lo ≤ orDefault v d ∧ orDefault v d ≤ hi := by
  unfold orDefault
  split <;> omega

/-- Operands in the ranges of Table 13-11 that leave every cap that is set within the new range (R554) and the guaranteed grant at D_min or more
(R555). MAINT_PERMILLE has no lower bound here: 0 stands for its default. -/
structure LimitsFit (s : State) (p : PwrLimitsSetP) : Prop where
  floor : 120 ≤ orDefault p.capFloor 200
  caps : orDefault p.capFloor 200 ≤ orDefault p.capCeiling 560
  ceiling : orDefault p.capCeiling 560 ≤ 560
  maint : p.maintPermille ≤ 50
  hbm : 32 ≤ orDefault p.hbmCFloor 64 ∧ orDefault p.hbmCFloor 64 ≤ 232
  warn : 70 ≤ orDefault p.tjWarn 95 ∧ orDefault p.tjWarn 95 ≤ 100
  notice : p.shedNotice ≤ 10
  opCap : ∀ c, s.power.opCap = some c → orDefault p.capFloor 200 ≤ c ∧ c ≤ orDefault p.capCeiling 560
  profiles : ∀ e ∈ s.power.profiles, ∀ c, e.2.cap = some c → orDefault p.capFloor 200 ≤ c ∧ c ≤ orDefault p.capCeiling 560
  budget : s.dMin ≤ orDefault p.capFloor 200 * orDefault p.maintPermille 10 * 100

theorem bodyPwrLimitsSet_check_of_fit (fit : LimitsFit s p) : (bodyPwrLimitsSet h p).check s = none := by
  have caps : ((s.power.opCap.map (fun c => outside c (orDefault p.capFloor 200) (orDefault p.capCeiling 560))).getD false ||
      s.power.profiles.any (fun e =>
        (e.2.cap.map (fun c => outside c (orDefault p.capFloor 200) (orDefault p.capCeiling 560))).getD false)) = false := by
    rw [outside_getD_of_within fit.opCap, Bool.false_or, List.any_eq_false]
    exact fun e he => Bool.eq_false_iff.1 (outside_getD_of_within (fit.profiles e he))
  refine firstErr_eq_none_iff.2 ?_
  simp only [List.forall_mem_cons, List.not_mem_nil, false_implies, implies_true, and_true]
  exact ⟨outside_eq_false_iff.2 ⟨fit.floor, fit.caps⟩, outside_eq_false_iff.2 ⟨fit.caps, fit.ceiling⟩,
    outside_eq_false_iff.2 (orDefault_within (by decide) (by decide) fit.maint), outside_eq_false_iff.2 fit.hbm,
    outside_eq_false_iff.2 fit.warn, decide_eq_false (Nat.not_lt.2 fit.notice), caps, decide_eq_false (Nat.not_lt.2 fit.budget)⟩

/-- The records of an answered frame are no part of what the checks read. -/
theorem LimitsFit.book (fit : LimitsFit s p) (k : Book) : LimitsFit (s.book k) p := { fit with }

/-! ## The effect of PWR_LIMITS_SET -/

/-- The operands in force and stored, each with its default of Table 13-11 where it is 0, but for SHED_NOTICE, whose range holds 0. -/
def State.withLimits (s : State) (p : PwrLimitsSetP) : State :=
  { s with
    power.capFloor := orDefault p.capFloor 200
    power.capCeiling := orDefault p.capCeiling 560
    power.maintPermille := orDefault p.maintPermille 10
    power.hbmCFloor := orDefault p.hbmCFloor 64
    power.tjWarn := orDefault p.tjWarn 95
    power.shedNotice := p.shedNotice
    flash.settings.pwrLimits := some [orDefault p.capFloor 200, orDefault p.capCeiling 560, orDefault p.maintPermille 10,
      orDefault p.hbmCFloor 64, orDefault p.tjWarn 95, p.shedNotice] }

theorem bodyPwrLimitsSet_apply (stored : p.flashOk = true) (s : State) : (bodyPwrLimitsSet h p).apply s = { st := s.withLimits p } :=
  if_neg (by simp [stored])

/-- A PWR_LIMITS_SET that passes its checks, and whose flash write succeeds, runs. -/
theorem pwrLimitsSet_runs (taken : Taken s h 0x0A03 true false 8) (fit : LimitsFit s p) (stored : p.flashOk = true) :
    Runs (.pwrLimitsSet h p) h 0x0A03 s [] (s.withLimits p) :=
  Runs.of (b := bodyPwrLimitsSet h p) rfl taken rfl rfl rfl (by decide : (0x0A03 : Nat) ≠ 0x0520) rfl
    (waitsFor_false (o := 0x0A03) (.inr (by decide)))
    fun k sent => ⟨bodyPwrLimitsSet_check_of_fit (fit.book k), k, sent, bodyPwrLimitsSet_apply stored (s.book k)⟩

/-- Settles O52: `exec_steady` and `idle_steady` leave the limits but for the rows of `setsLimits`, and PWR_LIMITS_SET runs into `State.withLimits`. -/
theorem onlyLimitsSetChangesLimits : Obligations.OnlyLimitsSetChangesLimits := by
  unfold Obligations.OnlyLimitsSetChangesLimits
  refine ⟨fun c s t => exec_keeps_limits, ?idles, ?sets⟩
  case idles =>
    intro s t empty run
    obtain rfl := Host.Outcome.next.inj ((step_of_no_pending empty).symm.trans run)
    exact idle_keeps_limits s
  case sets =>
    intro s h p taken floor caps ceiling maint hbmLow hbmHigh warnLow warnHigh notice opCap profiles budget stored
    obtain ⟨b, run, _⟩ := pwrLimitsSet_runs taken
      ⟨floor, caps, ceiling, maint, ⟨hbmLow, hbmHigh⟩, ⟨warnLow, warnHigh⟩, notice, opCap, profiles, budget⟩ stored
    exact ⟨_, run, rfl⟩

end Sys2Proof.Machine
end

section
/-! The block as a whole: a step runs the front command, goes on but for the two rows that may stop, burns no fuse back and keeps the memories
canonical; and an idle cycle moves the time base alone. -/

namespace Sys2Proof.Machine

variable {s t : State}

/-! ## A step -/

theorem step_of_pending {c : Instr} {cs : List Instr} (front : s.pending = c :: cs) : step s = exec c { s with pending := cs } := by
  rw [step, front]

/-- What a step keeps, from the state with the rest of the queue. -/
theorem step_steady (run : step s = .next t) : Steady (false, false) { s with pending := s.pending.tail } t := by
  cases hp : s.pending with
  | nil =>
    obtain rfl := Host.Outcome.next.inj ((step_of_no_pending hp).symm.trans run)
    rw [List.tail_nil, ← hp]
    exact idle_steady s .refl
  | cons c cs => exact exec_steady (l := (false, false)) nofun nofun t ((step_of_pending hp).symm.trans run)

/-- Settles O45. -/
theorem stepRunsTheFrontCommand : Obligations.StepRunsTheFrontCommand := by
  unfold Obligations.StepRunsTheFrontCommand
  exact fun _ _ _ => step_of_pending

/-- Settles O49: nothing is listed in the memories after reset. -/
theorem resetInOrder : Obligations.ResetInOrder := by
  unfold Obligations.ResetInOrder
  exact ⟨rfl, rfl, rfl, rfl⟩

/-- Settles O50, by `step_steady`: the queue is no part of the memories. -/
theorem everyStepKeepsMemoryCanonical : Obligations.EveryStepKeepsMemoryCanonical := by
  unfold Obligations.EveryStepKeepsMemoryCanonical
  exact fun s _ canonical run => (step_steady run).canon canonical

/-- Settles O51, by `step_steady`: the queue is no part of the fuses. -/
theorem fusesOnlyBurn : Obligations.FusesOnlyBurn := by
  unfold Obligations.FusesOnlyBurn
  intro s t run
  have kept := step_steady run
  exact ⟨kept.fused, kept.revoked, kept.floor, kept.entries, kept.life⟩

/-! ## Rows that go on -/

/-- The row answers a next state. -/
def GoesOn (o : Host.Outcome State Fault Refusal) : Prop := ∃ t, o = .next t

theorem GoesOn.next (t : State) : GoesOn (.next t) := ⟨t, rfl⟩

theorem GoesOn.ite {c : Prop} [Decidable c] {a b : Host.Outcome State Fault Refusal} (ha : GoesOn a) (hb : GoesOn b) :
    GoesOn (if c then a else b) := by
  split
  · exact ha
  · exact hb

theorem onControl_goesOn (hd : LinkHeader) (f : State → State) (s : State) : GoesOn (onControl hd f s) := by
  unfold onControl
  split <;> exact .next _

/-- Every row but MICROWORD_EXECUTE and HBM_REQUEST_ACCEPT goes on: most answer a next state outright, a control cell's row goes through
`onControl`, and the others branch to next states. -/
theorem exec_goesOn {c : Instr} (s : State) (notWord : ∀ k p, c ≠ .microwordExecute k p) (notHbm : ∀ q, c ≠ .hbmRequestAccept q) :
    GoesOn (exec c s) := by
  cases c
  case microwordExecute k p => exact absurd rfl (notWord k p)
  case hbmRequestAccept q => exact absurd rfl (notHbm q)
  case
      reach | load | portState | request | grant | replay | credit | flowReq | flowResp | ocf | learn =>
    exact onControl_goesOn _ _ _
  case
      bootImageVerify | frameArrival | packetSlotGrant | ocfIntake | flowOpAccept | deferredOpRun | flowAgingSweepVisit | relocationJob |
      tarnOnlyMigrate | natBufferRefill | natRingFill | lbHealthPeriod | groupHomeSwitch | egressDecision | replicationTake | pauseFrameReceive |
      pfcWatchdogExpire | spillPageWrite | spillPageRefill | fabricCellSend | fabricIdleSend | dataCellReceive | hello | pcIssue | hbmAccessComplete
      | hbmTrainingComplete | hbmScrubVisit | selfRefreshEntry | hbmWakeReady | mbxOutPost | doorbellTake | dmaCommandReadComplete | commandTimeout
      | completionSend | completionResend | rxFrameWrite | txFrameFetch | interruptMessageSend | msixVectorUnmask | eventInputEdge | workItemGrant |
      workItemComplete | calderaPeriod | dvfsStepComplete | wake | wakeComplete | scheduleEntryDue | ptpMessageReceive | ptpMessageSend | ppsEdge |
      announceTimeout | lldpduReceive | opticsPoll | registerWrite | freqMeasurement | learnMessageSend | cmbTake | auditFlashWrite | ringWaitExpire
      | energyPeriodBoundary | capActionUndo | reducedProfileApply | dormantDrainEnd | dormantFlushComplete =>
    dsimp only [exec, execBootImageVerify, execFrameArrival, execPacketSlotGrant, execOcfIntake, execFlowOpAccept, execDeferredOpRun, execFlowAgingSweepVisit,
      execRelocationJob, execTarnOnlyMigrate, execNatBufferRefill, execNatRingFill, execLbHealthPeriod, execGroupHomeSwitch, execEgressDecision,
      execReplicationTake, execPauseFrameReceive, execPfcWatchdogExpire, execSpillPageWrite, execSpillPageRefill, execFabricCellSend,
      execFabricIdleSend, execDataCellReceive, execHello, execPcIssue, execHbmAccessComplete, execHbmTrainingComplete, execHbmScrubVisit,
      execSelfRefreshEntry, execHbmWakeReady, execMbxOutPost, execDoorbellTake, execDmaCommandReadComplete, execCommandTimeout, execCompletionSend,
      execCompletionResend, execRxFrameWrite, execTxFrameFetch, execInterruptMessageSend, execMsixVectorUnmask, execEventInputEdge,
      execWorkItemGrant, execWorkItemComplete, execCalderaPeriod, execDvfsStepComplete, execWake, execWakeComplete, execScheduleEntryDue,
      execPtpMessageReceive, execPtpMessageSend, execPpsEdge, execAnnounceTimeout, execLldpduReceive, execOpticsPoll, execRegisterWrite,
      execFreqMeasurement, execLearnMessageSend, execCmbTake, execAuditFlashWrite, execRingWaitExpire, execEnergyPeriodBoundary, execCapActionUndo,
      execReducedProfileApply, execDormantDrainEnd, execDormantFlushComplete]
    repeat' refine GoesOn.ite ?_ ?_
    all_goals repeat' split
    all_goals exact .next _
  all_goals exact .next _

/-- A word that holds a reserved code stops, and every other goes on. -/
theorem runWord_goesOn_or_reserved (k : Nat) (i : WorkItem) (e : Engine) (s : State) :
    GoesOn (runWord k i e s) ∨ runWord k i e s = .refused .reservedMicrocode := by
  by_cases reserved : (nanoOf (s.nanoAt (microOf (s.microAt e.upc)).nano)).reserved = true
  · exact .inr (if_pos reserved)
  · refine .inl ?_
    unfold runWord
    rw [if_neg reserved]
    dsimp only
    repeat' split
    all_goals exact .next _

theorem execMicrowordExecute_goesOn_or_reserved (k : Nat) (p : ParityOutcome) (s : State) :
    GoesOn (exec (.microwordExecute k p) s) ∨ exec (.microwordExecute k p) s = .refused .reservedMicrocode := by
  change GoesOn (execMicrowordExecute k p s) ∨ execMicrowordExecute k p s = _
  unfold execMicrowordExecute
  dsimp only
  split
  case h_1 => exact .inl (.next _)
  case h_2 i _ =>
    iterate 3
      split
      · exact .inl (.next _)
    cases p with
    | good => exact runWord_goesOn_or_reserved k i _ s
    | micro | nano | golden | stateEcc => exact .inl (.next _)

theorem execHbmRequestAccept_goesOn_or_address (q : HbmReqOp) (s : State) :
    GoesOn (exec (.hbmRequestAccept q) s) ∨ exec (.hbmRequestAccept q) s = .fault .hbmAddress := by
  cases q with
  | writeBack r | flowRead r => exact .inl (.next _)
  | read r c a n =>
    by_cases beyond : a + n > s.shareBytes
    · exact .inr (if_pos beyond)
    · exact .inl ⟨_, if_neg beyond⟩
  | write r c a data =>
    by_cases beyond : a + data.length > s.shareBytes
    · exact .inr (if_pos beyond)
    · exact .inl ⟨_, if_neg beyond⟩

/-- Settles O47: `exec_goesOn`, the two rows that may stop, and the queue's part of `exec_steady`. -/
theorem commandsGoOn : Obligations.CommandsGoOn := by
  unfold Obligations.CommandsGoOn
  refine ⟨fun _ s => exec_goesOn s, execMicrowordExecute_goesOn_or_reserved, execHbmRequestAccept_goesOn_or_address, ?row, ?step⟩
  case row => exact fun _ _ t run => (exec_steady (l := (false, false)) nofun nofun t run).queue
  case step => exact fun _ _ run => (step_steady run).queue

/-! ## An idle cycle -/

/-- What a cycle removes of the offset that is being slewed out: SLEW_MAX at most, and never more than is left (R583). -/
def State.slewTaken (s : State) : Int := max (-(640 * s.time.slewMax)) (min (640 * s.time.slewMax) s.time.slewLeft)

/-- What a cycle adds to the remainder below 1/16 ns: the frequency adjustment's part and the slew's. -/
def State.freqSum (s : State) : Int := s.time.freqRem + 640 * s.time.freqAdj + s.slewTaken * 65536000

/-- How far a cycle moves the time base, in 1/16 ns. -/
def State.cycleStep (s : State) : Nat := (640 + s.freqSum / (65536 * 1000000000)).toNat

theorem tick_time (s : State) : tick s = { s with time := (tick s).time } := rfl
theorem tick_now (s : State) : (tick s).time.now = s.time.now + s.cycleStep := rfl
theorem tick_freqRem (s : State) : (tick s).time.freqRem = s.freqSum % (65536 * 1000000000) := rfl
theorem tick_slewLeft (s : State) : (tick s).time.slewLeft = s.time.slewLeft - s.slewTaken := rfl
theorem tick_slewDone (s : State) :
    (tick s).time.slewDone = if s.time.state = .locked then s.time.slewDone + s.slewTaken else s.time.slewDone := rfl
theorem tick_localNs (s : State) : (tick s).time.localNs = (s.time.localNs + (s.time.localSub + s.cycleStep) / 16) % 2 ^ 64 := rfl
theorem tick_localSub (s : State) : (tick s).time.localSub = (s.time.localSub + s.cycleStep) % 16 := rfl

/-- The rest of the time base stands. -/
theorem tick_eq (s : State) : (tick s).time = { s.time with
    now := (tick s).time.now
    freqRem := (tick s).time.freqRem
    slewLeft := (tick s).time.slewLeft
    slewDone := (tick s).time.slewDone
    localNs := (tick s).time.localNs
    localSub := (tick s).time.localSub } := rfl

section
variable (adj : s.time.freqAdj = 0) (left : s.time.slewLeft = 0) (rem : s.time.freqRem = 0)

include left in
theorem slewTaken_of_no_slew : s.slewTaken = 0 := by
  unfold State.slewTaken
  omega

include adj left rem

theorem freqSum_of_plain : s.freqSum = 0 := by
  rw [State.freqSum, slewTaken_of_no_slew left, adj, rem]
  rfl

theorem cycleStep_of_plain : s.cycleStep = 640 := by
  rw [State.cycleStep, freqSum_of_plain adj left rem]
  rfl

/-- Without adjustment and slew a cycle is 40 ns. -/
theorem tick_of_plain : (tick s).time = { s.time with
    now := s.time.now + 640
    localNs := (tick s).time.localNs
    localSub := (tick s).time.localSub } := by
  rw [tick_eq, tick_now, tick_freqRem, tick_slewLeft, tick_slewDone, cycleStep_of_plain adj left rem, freqSum_of_plain adj left rem,
    slewTaken_of_no_slew left, Int.sub_zero, Int.add_zero, ite_self, Int.zero_emod, ← rem]

end

theorem step_of_running (empty : s.pending = []) (release : s.boot.porstHigh = true) (power : s.boot.powerGood = 15) (clock : s.boot.sysclk = true) :
    step s = .next (tick s) := by
  rw [step_of_no_pending empty, idle, release, power, clock]
  rfl

/-- Settles O46: `tick_eq` gives the time base after a cycle, whose step is 640 sixteenths of a nanosecond without adjustment and slew, and
`State.slewTaken` lies between 0 and what is left. -/
theorem idleCycle : Obligations.IdleCycle := by
  unfold Obligations.IdleCycle
  refine ⟨?running, ?held⟩
  case running =>
    intro s empty release power clock
    have moved : (tick s).time.now - s.time.now = s.cycleStep := Nat.add_sub_cancel_left ..
    have taken : s.slewTaken = max (-(640 * (s.time.slewMax : Int))) (min (640 * (s.time.slewMax : Int)) s.time.slewLeft) := rfl
    refine ⟨_, step_of_running empty release power clock, tick_time s, moved ▸ tick_localNs s, moved ▸ (tick_localSub s).symm, Nat.le_add_right ..,
      tick_of_plain, ?forty, ?most, ?down, ?up⟩
    case forty =>
      intro adj left rem small
      rw [tick_localNs, cycleStep_of_plain adj left rem]
      omega
    all_goals
      rw [tick_slewLeft]
      omega
  case held =>
    intro s empty held
    rw [step_of_no_pending empty, idle, if_neg]
    rcases held with held | held | held <;> simp [held]

/-! ## Registers after reset -/

/-- The re-assertion count of a source (Table 11-11). -/
theorem readBar0_reassert (s : State) {n : Nat} (hn : n < 1024) : s.readBar0 (0x11000 + 4 * n) = tgetD s.host.int.reassert n 0 := by
  have block : s.readBar0 (0x11000 + 4 * n) = readInt s (0x11000 + 4 * n - 0x10000) := by
    unfold State.readBar0
    repeat rw [if_neg (by omega)]
    exact if_pos (by simp only [Bool.and_eq_true, decide_eq_true_eq]; omega)
  have register : (0x11000 + 4 * n - 0x10000 - 0x1000) / 4 = n := by omega
  rw [block, readInt]
  dsimp only
  repeat rw [if_neg (by omega)]
  rw [if_pos (by simp only [Bool.and_eq_true, decide_eq_true_eq]; omega), register]

/-- Settles O48: the registers of a block with few addresses are read one by one, and the 1,024 counts by `readBar0_reassert`. -/
theorem resetValues : Obligations.ResetValues := by
  unfold Obligations.ResetValues
  refine ⟨?hif, ?chan, ?free, ?doorbells, ?doorbells', ?bar2, ?rings, ?ringSize, ?groups, ?groupCfg, ?int, ?reassert, ?events, ?armed, rfl, rfl,
    rfl, rfl, rfl, rfl, rfl, rfl, rfl, rfl, rfl⟩
  case reassert => exact fun n hn => readBar0_reassert _ hn
  all_goals decide +kernel

end Sys2Proof.Machine
end

section
/-! Flow records as bytes (Tables 3-3 and 3-4): the fields of a packed number, big-endian bytes, and byte memory read back. -/

namespace Sys2Proof.Machine

/-! ## Numbers packed from fields -/

/-- The bits that a list of fields takes. -/
def fieldsWidth : List (Nat × Nat) → Nat
  | [] => 0
  | f :: fs => f.1 + fieldsWidth fs

theorem fieldsWidth_append (fs gs : List (Nat × Nat)) : fieldsWidth (fs ++ gs) = fieldsWidth fs + fieldsWidth gs := by
  induction fs with
  | nil => exact (Nat.zero_add _).symm
  | cons f fs ih => rw [List.cons_append, fieldsWidth, fieldsWidth, ih, Nat.add_assoc]

theorem packFields_append (fs gs : List (Nat × Nat)) :
    packFields (fs ++ gs) = packFields fs * 2 ^ fieldsWidth gs + packFields gs := by
  induction gs using List.reverseRecOn with
  | nil => simp [packFields, fieldsWidth]
  | append_singleton gs g ih =>
    have snoc : ∀ xs : List (Nat × Nat), packFields (xs ++ [g]) = packFields xs * 2 ^ g.1 + g.2 % 2 ^ g.1 := fun xs => by
      simp [packFields, List.foldl_append]
    have width : fieldsWidth (gs ++ [g]) = fieldsWidth gs + g.1 := fieldsWidth_append gs [g]
    rw [← List.append_assoc, snoc, snoc, ih, width, pow_add]
    ring

theorem packFields_singleton (f : Nat × Nat) : packFields [f] = f.2 % 2 ^ f.1 := by simp [packFields]

theorem packFields_lt (fs : List (Nat × Nat)) : packFields fs < 2 ^ fieldsWidth fs := by
  induction fs with
  | nil => simp [packFields, fieldsWidth]
  | cons f fs ih =>
    have top : packFields [f] < 2 ^ f.1 := packFields_singleton f ▸ Nat.mod_lt _ (Nat.two_pow_pos _)
    rw [← List.singleton_append, packFields_append, List.singleton_append, fieldsWidth, pow_add]
    calc packFields [f] * 2 ^ fieldsWidth fs + packFields fs
        < packFields [f] * 2 ^ fieldsWidth fs + 2 ^ fieldsWidth fs := Nat.add_lt_add_left ih _
      _ = (packFields [f] + 1) * 2 ^ fieldsWidth fs := (Nat.succ_mul _ _).symm
      _ ≤ 2 ^ f.1 * 2 ^ fieldsWidth fs := Nat.mul_le_mul_right _ top

/-- What stands above the last fields of a packed number. -/
theorem packFields_append_shiftRight (fs gs : List (Nat × Nat)) : packFields (fs ++ gs) >>> fieldsWidth gs = packFields fs := by
  rw [packFields_append, Nat.shiftRight_eq_div_pow, Nat.mul_comm,
    Nat.mul_add_div (Nat.two_pow_pos _), Nat.div_eq_of_lt (packFields_lt gs), Nat.add_zero]

/-- Field `i` of a packed number is read at the bits above those that the later fields take. -/
theorem field_packFields {fs : List (Nat × Nat)} {w v : Nat} (i : Nat) {hi lo : Nat} (entry : fs[i]? = some (w, v))
    (low : fieldsWidth (fs.drop (i + 1)) = lo) (width : hi + 1 - lo = w) : field hi lo (packFields fs) = v % 2 ^ w := by
  obtain ⟨within, entry⟩ := List.getElem?_eq_some_iff.1 entry
  have cut : fs = (fs.take i ++ [(w, v)]) ++ fs.drop (i + 1) := by
    rw [List.append_assoc, List.singleton_append, ← entry, ← List.drop_eq_getElem_cons within, List.take_append_drop]
  have single : fieldsWidth [(w, v)] = w := by simp [fieldsWidth]
  calc field hi lo (packFields fs) = (packFields fs >>> lo) % 2 ^ w := by rw [field, width]
    _ = packFields (fs.take i ++ [(w, v)]) % 2 ^ w := by
        rw [← packFields_append_shiftRight (fs.take i ++ [(w, v)]) (fs.drop (i + 1)), ← cut, low]
    _ = v % 2 ^ w := by
        rw [packFields_append, packFields_singleton, single, Nat.mul_add_mod_self_right, Nat.mod_mod]

/-- A value that fits its field is read as it was packed. -/
theorem read_packFields {fs : List (Nat × Nat)} {w v : Nat} (i : Nat) {hi lo : Nat} (entry : fs[i]? = some (w, v)) (small : v < 2 ^ w)
    (low : fieldsWidth (fs.drop (i + 1)) = lo) (width : hi + 1 - lo = w) : field hi lo (packFields fs) = v :=
  (field_packFields i entry low width).trans (Nat.mod_eq_of_lt small)

/-- Several fields in a row are read as the number that they pack. -/
theorem field_packFields_segment (fs gs ks : List (Nat × Nat)) {hi lo : Nat} (low : fieldsWidth ks = lo) (width : hi + 1 - lo = fieldsWidth gs) :
    field hi lo (packFields (fs ++ gs ++ ks)) = packFields gs := by
  rw [field, width, ← low, packFields_append_shiftRight, packFields_append, Nat.mul_add_mod_self_right, Nat.mod_eq_of_lt (packFields_lt gs)]

/-- A field of one bit that holds a flag. -/
theorem testBit_packFields {fs : List (Nat × Nat)} {b : Bool} (i : Nat) {lo : Nat} (entry : fs[i]? = some (1, bit b))
    (low : fieldsWidth (fs.drop (i + 1)) = lo) : (packFields fs).testBit lo = b := by
  have h := field_packFields i (hi := lo) entry low (by omega)
  rw [field, Nat.add_sub_cancel_left, pow_one, Nat.shiftRight_eq_div_pow] at h
  rw [Nat.testBit_eq_decide_div_mod_eq, h]
  cases b <;> rfl

/-! ## Big-endian bytes -/

theorem beNat_append_singleton (bs : Bytes) (b : Byte) : beNat (bs ++ [b]) = beNat bs * 256 + b.toNat := by
  simp [beNat, List.foldl_append]

@[simp] theorem length_beBytes (k n : Nat) : (beBytes k n).length = k := by
  induction k generalizing n with
  | zero => rfl
  | succ k ih => simp [beBytes, ih]

theorem beNat_beBytes {k n : Nat} (h : n < 2 ^ (8 * k)) : beNat (beBytes k n) = n := by
  induction k generalizing n with
  | zero => simp at h; simp [beBytes, beNat, h]
  | succ k ih =>
    have high : n / 256 < 2 ^ (8 * k) := by
      refine Nat.div_lt_of_lt_mul ?_
      rwa [Nat.mul_succ, Nat.add_comm, pow_add] at h
    rw [beBytes, beNat_append_singleton, ih high, BitVec.toNat_ofNat, Nat.mul_comm]
    exact Nat.div_add_mod n 256

/-! ## The fields of a record -/

/-- The fields of a record's bytes, most significant first (Tables 3-3 and 3-4). -/
def Rec.layout (x : Rec) : List (Nat × Nat) :=
  (64, x.header) :: (if x.wide then [(384, x.key), (192, x.service)] else [(128, x.key), (64, x.service)]) ++ x.tail

theorem Rec.encode_eq (x : Rec) : x.encode = beBytes (recLen x.wide) (packFields x.layout) := rfl

theorem Rec.length_encode (x : Rec) : x.encode.length = recLen x.wide := by rw [Rec.encode_eq, length_beBytes]

theorem Rec.layout_width (x : Rec) : fieldsWidth x.layout = 8 * recLen x.wide := by
  unfold Rec.layout Rec.tail recLen
  cases x.wide <;> cases x.comp <;> simp [fieldsWidth]

theorem Rec.beNat_encode (x : Rec) : beNat x.encode = packFields x.layout := by
  rw [Rec.encode_eq, beNat_beBytes]
  exact Rec.layout_width x ▸ packFields_lt _

/-- The fields of the header. -/
def Rec.headerFields (x : Rec) : List (Nat × Nat) :=
  [ (1, 1), (1, bit x.wide), (1, bit x.comp), (1, bit x.static), (6, x.partition), (8, x.template), (16, x.zone), (4, x.keyType),
    (4, x.ageClass), (4, x.ctState), (1, bit x.orient), (1, bit x.replySeen), (2, x.expState), (1, bit x.tarnOnly), (13, x.gen) ]

theorem Rec.header_eq (x : Rec) : x.header = packFields x.headerFields := rfl

/-- The header stands above the rest of the record. -/
theorem Rec.header_of_layout (x : Rec) : packFields x.layout >>> (if x.wide then 960 else 448) = x.header := by
  have rest : fieldsWidth (x.layout.drop 1) = if x.wide then 960 else 448 := by
    unfold Rec.layout Rec.tail
    cases x.wide <;> cases x.comp <;> simp [fieldsWidth]
  have small : x.header < 2 ^ 64 := by
    rw [Rec.header_eq, ← show fieldsWidth x.headerFields = 64 from rfl]
    exact packFields_lt _
  rw [← rest]
  refine (packFields_append_shiftRight [(64, x.header)] (x.layout.drop 1)).trans ?_
  rw [packFields_singleton, Nat.mod_eq_of_lt small]

section
variable {x : Rec}

/-- The flags of the header are read as they were written. -/
theorem Rec.header_flags : x.header.testBit 63 = true ∧ x.header.testBit 61 = x.comp ∧ x.header.testBit 60 = x.static ∧
    x.header.testBit 17 = x.orient ∧ x.header.testBit 16 = x.replySeen ∧ x.header.testBit 13 = x.tarnOnly := by
  rw [Rec.header_eq]
  exact ⟨testBit_packFields (b := true) 0 rfl rfl, testBit_packFields 2 rfl rfl, testBit_packFields 3 rfl rfl, testBit_packFields 10 rfl rfl,
    testBit_packFields 11 rfl rfl, testBit_packFields 13 rfl rfl⟩

/-- The numbers of the header are read as they were written. -/
theorem Rec.InRange.header_fields (r : x.InRange) : field 59 54 x.header = x.partition ∧ field 53 46 x.header = x.template ∧
    field 45 30 x.header = x.zone ∧ field 29 26 x.header = x.keyType ∧ field 25 22 x.header = x.ageClass ∧ field 21 18 x.header = x.ctState ∧
    field 15 14 x.header = x.expState ∧ field 12 0 x.header = x.gen := by
  rw [Rec.header_eq]
  exact ⟨read_packFields 4 rfl r.partition rfl rfl, read_packFields 5 rfl r.template rfl rfl, read_packFields 6 rfl r.zone rfl rfl,
    read_packFields 7 rfl r.keyType rfl rfl, read_packFields 8 rfl r.ageClass rfl rfl, read_packFields 9 rfl r.ctState rfl rfl,
    read_packFields 12 rfl r.expState rfl rfl, read_packFields 14 rfl r.gen rfl rfl⟩

/-- KEY and SERVICE are read as they were written. -/
theorem Rec.InRange.body_fields (r : x.InRange) :
    (if x.wide then field 959 576 (packFields x.layout) else field 447 320 (packFields x.layout)) = x.key ∧
    (if x.wide then field 575 384 (packFields x.layout) else field 319 256 (packFields x.layout)) = x.service := by
  have key := r.key
  have service := r.service
  unfold Rec.layout Rec.tail
  cases hw : x.wide <;> cases x.comp
  all_goals
    simp only [-Nat.reducePow, hw, Bool.false_eq_true, if_false, if_true] at key service ⊢
    exact ⟨read_packFields 1 rfl key (by simp [fieldsWidth]) rfl, read_packFields 2 rfl service (by simp [fieldsWidth]) rfl⟩

/-- The 256 bits of activity and auxiliary fields of a primary. -/
def Rec.activityFields (x : Rec) : List (Nat × Nat) :=
  [ (32, x.first), (32, x.last), (48, x.pkts), (64, x.bytes), (8, x.tcpFlags), (8, 0), (16, x.ctAux), (32, x.templateData), (16, 0) ]

/-- The bits that `decodeRec` takes the activity fields from. -/
def Rec.tailBits (x : Rec) : Nat := if x.wide then field 383 128 (packFields x.layout) else field 255 0 (packFields x.layout)

theorem Rec.tailBits_of_primary (hc : x.comp = false) : x.tailBits = packFields x.activityFields := by
  unfold Rec.tailBits Rec.layout Rec.tail
  cases x.wide <;> simp only [hc, Bool.false_eq_true, if_false, if_true]
  · exact field_packFields_segment [(64, x.header), (128, x.key), (64, x.service)] x.activityFields [] rfl rfl
  · exact field_packFields_segment [(64, x.header), (384, x.key), (192, x.service)] x.activityFields [(48, x.rpkts), (64, x.rbytes), (16, 0)]
      rfl rfl

/-- The activity and auxiliary fields are read as they were written; a companion has none. -/
theorem Rec.InRange.activity_fields (r : x.InRange) :
    (if x.comp then 0 else field 255 224 x.tailBits) = x.first ∧ (if x.comp then 0 else field 223 192 x.tailBits) = x.last ∧
    (if x.comp then 0 else field 191 144 x.tailBits) = x.pkts ∧ (if x.comp then 0 else field 143 80 x.tailBits) = x.bytes ∧
    (if x.comp then 0 else field 79 72 x.tailBits) = x.tcpFlags ∧ (if x.comp then 0 else field 63 48 x.tailBits) = x.ctAux ∧
    (if x.comp then 0 else field 47 16 x.tailBits) = x.templateData := by
  cases hc : x.comp <;> simp only [Bool.false_eq_true, if_false, if_true]
  case true =>
    obtain ⟨first, last, pkts, bytes, tcpFlags, ctAux, templateData, -⟩ := r.companion hc
    exact ⟨first.symm, last.symm, pkts.symm, bytes.symm, tcpFlags.symm, ctAux.symm, templateData.symm⟩
  case false =>
    obtain ⟨first, last, pkts, bytes, tcpFlags, ctAux, templateData⟩ := r.activity
    rw [Rec.tailBits_of_primary hc]
    exact ⟨read_packFields 0 rfl first rfl rfl, read_packFields 1 rfl last rfl rfl, read_packFields 2 rfl pkts rfl rfl,
      read_packFields 3 rfl bytes rfl rfl, read_packFields 4 rfl tcpFlags rfl rfl, read_packFields 6 rfl ctAux rfl rfl,
      read_packFields 7 rfl templateData rfl rfl⟩

/-- The reverse counters are read as they were written; only a wide primary has them. -/
theorem Rec.InRange.reverse_fields (r : x.InRange) :
    (if x.comp || !x.wide then 0 else field 127 80 (packFields x.layout)) = x.rpkts ∧
    (if x.comp || !x.wide then 0 else field 79 16 (packFields x.layout)) = x.rbytes := by
  by_cases none : x.comp = true ∨ x.wide = false
  · have zero : x.rpkts = 0 ∧ x.rbytes = 0 := by
      rcases none with hc | hw
      · obtain ⟨-, -, -, -, -, -, -, rpkts, rbytes, -⟩ := r.companion hc
        exact ⟨rpkts, rbytes⟩
      · exact r.compact hw
    have skip : (x.comp || !x.wide) = true := by simpa using none
    rw [if_pos skip, if_pos skip, zero.1, zero.2]
    exact ⟨rfl, rfl⟩
  · obtain ⟨hc, hw⟩ : x.comp = false ∧ x.wide = true := by simpa using none
    obtain ⟨rpkts, rbytes⟩ := r.reverse
    unfold Rec.layout Rec.tail
    simp only [hw, hc, Bool.not_true, Bool.or_self, Bool.false_eq_true, if_false, if_true]
    exact ⟨read_packFields 12 rfl rpkts rfl rfl, read_packFields 13 rfl rbytes rfl rfl⟩

theorem Rec.tailBits_of_compact_companion (hw : x.wide = false) (hc : x.comp = true) : x.tailBits = packFields [(128, x.pkey), (128, 0)] := by
  unfold Rec.tailBits Rec.layout Rec.tail
  simp only [hw, hc, Bool.false_eq_true, if_false, if_true]
  exact field_packFields_segment [(64, x.header), (128, x.key), (64, x.service)] [(128, x.pkey), (128, 0)] [] rfl rfl

/-- The primary's key that a companion holds is read as it was written; a primary holds none. -/
theorem Rec.InRange.primary_key (r : x.InRange) :
    (if !x.comp then 0 else if x.wide then field 383 0 (packFields x.layout) else field 255 128 x.tailBits) = x.pkey := by
  cases hc : x.comp
  case false => exact (r.primary hc).symm
  case true =>
    obtain ⟨-, -, -, -, -, -, -, -, -, small⟩ := r.companion hc
    cases hw : x.wide <;> simp only [hw, Bool.not_true, Bool.false_eq_true, if_false, if_true] at small ⊢
    · rw [Rec.tailBits_of_compact_companion hw hc]
      exact read_packFields 0 rfl small rfl rfl
    · unfold Rec.layout Rec.tail
      rw [hw, hc]
      exact read_packFields 3 rfl small rfl rfl

/-- A record whose fields are in their ranges is read back from its bytes as it was. -/
theorem Rec.InRange.decode_encode (r : x.InRange) : decodeRec x.encode = some x := by
  obtain ⟨valid, comp, static, orient, replySeen, tarnOnly⟩ := Rec.header_flags (x := x)
  obtain ⟨partition, template, zone, keyType, ageClass, ctState, expState, gen⟩ := r.header_fields
  obtain ⟨key, service⟩ := r.body_fields
  obtain ⟨first, last, pkts, bytes, tcpFlags, ctAux, templateData⟩ := r.activity_fields
  obtain ⟨rpkts, rbytes⟩ := r.reverse_fields
  have wide : (x.encode.length = 128) = (x.wide = true) := by
    rw [Rec.length_encode]
    cases x.wide <;> simp [recLen]
  have tail : (if x.wide then field 383 128 (packFields x.layout) else field 255 0 (packFields x.layout)) = x.tailBits := rfl
  unfold decodeRec
  simp only [wide, Rec.beNat_encode, Bool.decide_eq_true, Rec.header_of_layout, valid, comp, static, orient, replySeen, tarnOnly, partition,
    template, zone, keyType, ageClass, ctState, expState, gen, key, service, tail, first, last, pkts, bytes, tcpFlags, ctAux, templateData,
    rpkts, rbytes, r.primary_key, Bool.not_true, Bool.false_eq_true, if_false]

end

/-! ## Bytes written to memory -/

theorem memGet_memWrite_of_outside {a b : Nat} {bs : Bytes} (h : b < a ∨ a + bs.length ≤ b) (m : List Host.Cell) :
    memGet (memWrite m a bs) b = memGet m b := by
  induction bs generalizing a m with
  | nil => rfl
  | cons x bs ih =>
    rw [List.length_cons] at h
    rw [memWrite, ih (by omega), memGet_memSet_of_ne x (by omega)]

/-- A string is read back from where it was written. -/
theorem memRead_memWrite (a : Nat) (bs : Bytes) {m : List Host.Cell} (h : memWf m = true) : memRead (memWrite m a bs) a bs.length = bs := by
  induction bs generalizing a m with
  | nil => rfl
  | cons x bs ih =>
    have first : memGet (memWrite (memSet m a x) (a + 1) bs) a = x := by
      rw [memGet_memWrite_of_outside (.inl (Nat.lt_succ_self a)), memGet_memSet_self a x h]
    rw [memWrite, List.length_cons, memRead, first, ih (a + 1) (memSet_wf a x h)]

/-- Settles O60: `decodeRec` reads each field of `Rec.layout` where `Rec.encode` has put it, and the bytes of a slot are those written to it. -/
theorem recordCodec : Obligations.RecordCodec := by
  unfold Obligations.RecordCodec
  refine ⟨Rec.length_encode, fun _ => Rec.InRange.decode_encode, ?slot, ?outside⟩
  case slot =>
    intro s r loc x canonical range
    change decodeRec (memRead (memWrite s.hbm.mem (slotAddr r loc) x.encode) (slotAddr r loc) (recLen x.wide)) = some x
    rw [← Rec.length_encode, memRead_memWrite _ _ canonical.1, range.decode_encode]
  case outside =>
    exact fun s r loc x a _ outside => memGet_memWrite_of_outside outside s.hbm.mem

end Sys2Proof.Machine
end

section
/-! A command frame that is taken, and whose own part passes its checks: what its row answers (R402, R413, R424). -/

namespace Sys2Proof.Machine

/-! ## A list of checks -/

/-- A list of checks passes where its head and its tail do. -/
@[simp] theorem firstErr_cons_eq_none_iff {bad : Bool} {e : Err} {cs : List (Bool × Err)} :
    firstErr ((bad, e) :: cs) = none ↔ bad = false ∧ firstErr cs = none := by
  cases bad <;> simp [firstErr]

@[simp] theorem firstErr_nil : firstErr [] = none := rfl

/-- A field whose 0 stands for a default lies in the range that holds its other values and the default. -/
theorem orDefault_between {v d lo hi : Nat} (low : v = 0 ∨ lo ≤ v) (high : v ≤ hi) (dLow : lo ≤ d := by decide) (dHigh : d ≤ hi := by decide) :
    lo ≤ orDefault v d ∧ orDefault v d ≤ hi := by
  unfold orDefault
  split <;> omega

/-! ## What the records are no part of -/

section
variable (s : State) (k : Book)

@[simp] theorem book_pending : (s.book k).pending = s.pending := rfl
@[simp] theorem book_boot : (s.book k).boot = s.boot := rfl
@[simp] theorem book_power : (s.book k).power = s.power := rfl
@[simp] theorem book_time : (s.book k).time = s.time := rfl
@[simp] theorem book_ptp : (s.book k).ptp = s.ptp := rfl
@[simp] theorem book_disc : (s.book k).disc = s.disc := rfl
@[simp] theorem book_ports : (s.book k).ports = s.ports := rfl
@[simp] theorem book_cls : (s.book k).cls = s.cls := rfl
@[simp] theorem book_fwd : (s.book k).fwd = s.fwd := rfl
@[simp] theorem book_flow : (s.book k).flow = s.flow := rfl
@[simp] theorem book_buf : (s.book k).buf = s.buf := rfl
@[simp] theorem book_eg : (s.book k).eg = s.eg := rfl
@[simp] theorem book_fab : (s.book k).fab = s.fab := rfl
@[simp] theorem book_hbm : (s.book k).hbm = s.hbm := rfl
@[simp] theorem book_eng : (s.book k).eng = s.eng := rfl

/-- An interrupt source is raised in the records. -/
theorem raise_book (n : Nat) : ∃ k' : Book, k'.sent = k.sent ∧ raise n (s.book k) = s.book k' := by
  obtain ⟨k', hk'⟩ := raise_booked n ⟨k, rfl⟩
  exact ⟨k', congrArg (·.ocf.sent) hk'.symm |>.trans (congrArg (·.sent) (raise_ocf n (s.book k))), hk'⟩

end

/-- Updates that do not read the records run on the state with the records as they do without. -/
theorem forEach_book {α : Type} {f : α → State → State} (h : ∀ x s k, f x (s.book k) = (f x s).book k) (xs : List α) (s : State) (k : Book) :
    forEach xs (s.book k) f = (forEach xs s f).book k :=
  List.foldl_hom (State.book · k) (fun s x => h x s k)

/-- What every update keeps, all of them together keep. -/
theorem forEach_keeps {α β γ : Type} {f : α → β → β} (part : β → γ) (h : ∀ x b, part (f x b) = part b) (xs : List α) (b : β) :
    part (forEach xs b f) = part b := by
  induction xs generalizing b with
  | nil => rfl
  | cons x xs ih => exact (ih (f x b)).trans (h x b)

/-- Settling changes nothing where no learn event waits. -/
theorem settleLearning_of_empty {s : State} (h : s.fwd.queue = []) : settleLearning s = s := by
  unfold settleLearning
  rw [h]
  show { s with fwd.queue := [] } = s
  rw [← h]

/-- An update of the tables leaves every replica's table where each takes it. -/
theorem beginUpdate_of_reached {s : State} (h : s.allReached = true) : beginUpdate s = s := if_pos h

/-! ## A taken frame -/

section
variable {c : Instr} {h : Ocf} {b : Body} {s : State} {o len : Nat} {changes : Bool}

/-- A taken frame runs on the state with its records, as its own part says. -/
theorem exec_taken {pending : Bool} (frame : frameOf c = some (h, b)) (opcode : b.opcode = o) (hchanges : b.changes = changes)
    (hpending : b.pending = pending) (taken : Taken s h o changes pending len) (notFactory : b.toFactory = false) (length : b.lenOk len = true)
    (check : ∀ k : Book, b.check (s.book k) = none) :
    ∃ (key : Option Bytes) (gen : Nat) (k : Book), k.sent = s.ocf.sent ∧ exec c s = .next (perform h b key gen (s.book k)) := by
  subst opcode hchanges hpending
  obtain ⟨key, gen, k, sent, run⟩ := ocfRun_taken (bodyOf := bodyOf) (i := c) taken notFactory length
  exact ⟨key, gen, k, sent, by rw [exec_of_frameOf s frame, run, check k]⟩

/-- A command that does not reply 0x0001 runs: its own check passes and its effect leaves `t` with records that tell of no further reply,
whatever the records are. -/
theorem Runs.of_booked {t : State} {res : Results} (frame : frameOf c = some (h, b)) (taken : Taken s h o changes false len)
    (length : b.lenOk len = true) (check : ∀ k : Book, b.check (s.book k) = none)
    (apply : ∀ k : Book, ∃ k' : Book, k'.sent = k.sent ∧ b.apply (s.book k) = { st := t.book k', results := res })
    (opcode : b.opcode = o := by rfl) (hchanges : b.changes = changes := by rfl) (notPending : b.pending = false := by rfl)
    (notFactory : b.toFactory = false := by rfl) (notLearn : o ≠ 0x0520 := by decide) (epoch : t.ocf.epoch = s.ocf.epoch := by rfl)
    (reached : t.allReached = true ∨ (tableOpcode o = false ∧ o ≠ 0x0105) := by exact .inr (by decide)) : Runs c h o s res t := by
  subst opcode hchanges
  refine Runs.of (i := c) (exec_of_frameOf s frame) (notPending ▸ taken) notFactory length notPending notLearn epoch (waitsFor_false reached)
    fun k sent => ⟨check k, ?_⟩
  obtain ⟨k', same, applied⟩ := apply k
  exact ⟨k', same.trans sent, applied⟩

/-- The same where the effect leaves the records alone. -/
theorem Runs.of_body {t : State} {res : Results} (frame : frameOf c = some (h, b)) (taken : Taken s h o changes false len)
    (length : b.lenOk len = true) (check : ∀ k : Book, b.check (s.book k) = none)
    (apply : ∀ k : Book, b.apply (s.book k) = { st := t.book k, results := res })
    (opcode : b.opcode = o := by rfl) (hchanges : b.changes = changes := by rfl) (notPending : b.pending = false := by rfl)
    (notFactory : b.toFactory = false := by rfl) (notLearn : o ≠ 0x0520 := by decide) (epoch : t.ocf.epoch = s.ocf.epoch := by rfl)
    (reached : t.allReached = true ∨ (tableOpcode o = false ∧ o ≠ 0x0105) := by exact .inr (by decide)) : Runs c h o s res t :=
  .of_booked frame taken length check (fun k => ⟨k, rfl, apply k⟩) opcode hchanges notPending notFactory notLearn epoch reached

/-- A command that replies 0x0001 is accepted: its own check passes and its effect leaves `t`, whatever the records are. -/
theorem Accepted.of_body {t : State} {early : Results} {later : Bool} {res : Results} (frame : frameOf c = some (h, b))
    (taken : Taken s h o changes true len) (length : b.lenOk len = true) (check : ∀ k : Book, b.check (s.book k) = none)
    (apply : ∀ k : Book, b.apply (s.book k) = { st := t.book k, results := res, later, early })
    (opcode : b.opcode = o := by rfl) (hchanges : b.changes = changes := by rfl) (isPending : b.pending = true := by rfl)
    (notFactory : b.toFactory = false := by rfl) (notLearn : o ≠ 0x0520 := by decide) (epoch : t.ocf.epoch = s.ocf.epoch := by rfl)
    (reached : t.allReached = true ∨ (tableOpcode o = false ∧ o ≠ 0x0105) := by exact .inr (by decide)) :
    Accepted c h o s early (if later then none else some (0, 0xFFFF, res)) t := by
  subst opcode hchanges
  exact Accepted.of (i := c) (exec_of_frameOf s frame) (isPending ▸ taken) notFactory length isPending notLearn epoch (waitsFor_false reached)
    fun k sent => ⟨check k, k, _, sent, apply k, rfl, rfl, rfl, rfl, rfl⟩

/-- The same for a command whose effect may raise interrupts, and so is given on the state with the records. -/
theorem RunsBy.of_body {run : State → Results × State} (frame : frameOf c = some (h, b)) (taken : Taken s h o changes false len)
    (length : b.lenOk len = true) (check : ∀ k : Book, b.check (s.book k) = none)
    (apply : ∀ k : Book, b.apply (s.book k) = { st := (run (s.book k)).2, results := (run (s.book k)).1 })
    (opcode : b.opcode = o := by rfl) (hchanges : b.changes = changes := by rfl) (notPending : b.pending = false := by rfl)
    (notFactory : b.toFactory = false := by rfl) (notLearn : o ≠ 0x0520 := by decide)
    (reached : (∀ k : Book, (run (s.book k)).2.allReached = true) ∨ (tableOpcode o = false ∧ o ≠ 0x0105) := by exact .inr (by decide)) :
    RunsBy c h o s run := by
  obtain ⟨key, gen, k, -, row⟩ := exec_taken frame opcode hchanges notPending taken notFactory length check
  subst opcode
  have waits : (run (s.book k)).2.waitsFor b.opcode = false := waitsFor_false (reached.imp_left (· k))
  obtain ⟨b', concluded, replied⟩ := conclude_replied (f := h) (b := b) (s := (run (s.book k)).2) (key := key) (gen := gen) (st := 0)
    (res := (run (s.book k)).1) (t := (run (s.book k)).2) (k := (run (s.book k)).2.books) notLearn rfl rfl rfl
  refine ⟨k, b', row.trans (congrArg _ ?_), replied⟩
  simp only [perform, apply k, notPending, Bool.false_and, Bool.false_eq_true, if_false, waits]
  exact concluded

/-- A command that replies 0x0001 is accepted on the records that its frame left. -/
theorem AcceptedBy.of_perform {early : Results} {run : State → Option (Nat × Nat × Results) × State} {key : Option Bytes} {gen : Nat} {k : Book}
    {later : Bool} {res : Results} (row : exec c s = .next (perform h b key gen (s.book k)))
    (applied : b.apply (s.book k) = { st := (run (s.book k)).2, results := res, later, early })
    (final : (run (s.book k)).1 = if later then none else some (0, 0xFFFF, res)) (opcode : b.opcode = o) (isPending : b.pending = true)
    (notLearn : o ≠ 0x0520) (reached : (run (s.book k)).2.allReached = true ∨ (tableOpcode o = false ∧ o ≠ 0x0105)) :
    AcceptedBy c h o s early run := by
  subst opcode
  have waits : (run (s.book k)).2.waitsFor b.opcode = false := waitsFor_false reached
  obtain ⟨b', concluded, replied⟩ := conclude_replied (f := h) (b := b) (s := (run (s.book k)).2) (key := key) (gen := gen) (st := 1)
    (res := early) (k := (run (s.book k)).2.books)
    (t := { (run (s.book k)).2 with
      ocf.pend := tset (run (s.book k)).2.ocf.pend s.ocf.nextPend
        { opcode := b.opcode, cmd := h, sender := h.senderKey, key := key, hostGen := gen, audited := b.changes, final := (run (s.book k)).1 }
      ocf.nextPend := s.ocf.nextPend + 1 }) notLearn rfl rfl rfl
  refine ⟨k, b', { opcode := b.opcode, cmd := h, sender := h.senderKey, key := key, hostGen := gen, audited := b.changes, final := (run (s.book k)).1 },
    row.trans (congrArg _ ?_), rfl, rfl, rfl, rfl, rfl, replied⟩
  simp only [perform, applied, isPending, decide_true, Bool.and_self, if_true, waits, Bool.or_false, Bool.not_false, Bool.or_true, ← final]
  exact concluded

theorem AcceptedBy.of_body {early : Results} {run : State → Option (Nat × Nat × Results) × State} (frame : frameOf c = some (h, b))
    (taken : Taken s h o changes true len) (length : b.lenOk len = true) (check : ∀ k : Book, b.check (s.book k) = none)
    (apply : ∀ k : Book, ∃ later res, b.apply (s.book k) = { st := (run (s.book k)).2, results := res, later, early } ∧
      (run (s.book k)).1 = if later then none else some (0, 0xFFFF, res))
    (opcode : b.opcode = o := by rfl) (hchanges : b.changes = changes := by rfl) (isPending : b.pending = true := by rfl)
    (notFactory : b.toFactory = false := by rfl) (notLearn : o ≠ 0x0520 := by decide)
    (reached : (∀ k : Book, (run (s.book k)).2.allReached = true) ∨ (tableOpcode o = false ∧ o ≠ 0x0105) := by exact .inr (by decide)) :
    AcceptedBy c h o s early run := by
  obtain ⟨key, gen, k, -, row⟩ := exec_taken frame opcode hchanges isPending taken notFactory length check
  obtain ⟨later, res, applied, final⟩ := apply k
  exact .of_perform row applied final opcode isPending notLearn (reached.imp_left (· k))

/-- An answer of success changes the records only. -/
theorem answerFrame_booked {z : State} {opcode : Nat} {h : Ocf} {key : Option Bytes} {gen status : Nat} {res : Results} (ok : okStatus status = true)
    (booked : Booked z s) : Booked z (answerFrame opcode h key gen status 0xFFFF res s) := by
  have kept := keepReply_booked ⟨opcode, h, mkReply opcode h key false false status 0xFFFF res s.ocf.epoch, key⟩ booked
  have status_eq : (mkReply opcode h key false false status 0xFFFF res s.ocf.epoch).status = status := rfl
  unfold answerFrame respond
  simp only [status_eq, ok, if_true]
  exact .ite (suppress_booked _ kept) (deliver_booked _ _ kept)

end

end Sys2Proof.Machine
end

section
/-! The VLAN, port, LAG, group, reach and learning settings (chapter 5). -/

namespace Sys2Proof.Machine

/-- Settles O1: every operand is in the range that its check asks for, and each effect is one update. -/
theorem forwardingSettingsRun : Obligations.ForwardingSettingsRun := by
  unfold Obligations.ForwardingSettingsRun
  refine ⟨?vlan, ?port, ?lag, ?group, ?reach, ?share, ?table⟩
  case vlan =>
    intro s h vid entry taken hvid hentry
    refine .of_body rfl taken rfl (fun k => ?_) (fun k => rfl)
    simpa [bodyVlanWrite, writeBody, hvid] using hentry
  case port =>
    intro s h port vid mode k taken hport hvid hmode
    have found (b : Book) : (s.book b).portArg port = some k := hport
    refine .of_body rfl taken rfl (fun b => ?_) (fun b => ?_)
    · simp [bodyPortL2Write, writeBody, found, hvid, hmode]
    · simp only [bodyPortL2Write, writeBody, found]
      rfl
  case lag =>
    intro s h lag members taken hlag hlen hmem
    refine .of_body rfl taken (decide_eq_true rfl) (fun k => ?_) (fun k => rfl)
    simpa [bodyLagWrite, hlag, hlen] using hmem
  case group =>
    intro s h group members taken hgroup hmem
    refine .of_body rfl taken (decide_eq_true rfl) (fun k => ?_) (fun k => rfl)
    simp [bodyMcastGroupWrite, hgroup]
    grind
  case reach =>
    intro s h device destType dest taken hdev htype hdest
    refine .of_body rfl taken rfl (fun k => ?_) (fun k => rfl)
    simpa [bodyDeviceReachWrite, writeBody, hdev, htype] using hdest
  case share =>
    intro s h p taken hmode htc hlen hports
    refine .of_body rfl taken (decide_eq_true rfl) (fun k => ?_) (fun k => rfl)
    simp [bodyL2LearnShareConfig, hmode, htc, hlen]
    exact fun f hf => Option.isSome_iff_ne_none.1 (hports f hf)
  case table =>
    intro s h p taken empty hmac hhost hage hlimit1 hlimit hwindow hwindow' hhold hconflict
    have settled (k : Book) : settleLearning (s.book k) = s.book k := settleLearning_of_empty empty
    refine .of_body rfl taken rfl (fun k => ?_) (fun k => ?_)
    · simp only [bodyL2TableConfig, writeBody, settled]
      simp only [firstErr_cons_eq_none_iff, firstErr_nil, outside_eq_false_iff, and_true]
      refine ⟨orDefault_between (by omega) hage, orDefault_between (by omega) hlimit, orDefault_between hwindow hwindow',
        orDefault_between (by omega) hhold, orDefault_between (by omega) hconflict, ?_, ?_⟩
      · simpa [or_iff_not_imp_left] using hmac
      · simpa [or_iff_not_imp_left] using hhost
    · simp only [bodyL2TableConfig, writeBody, settled]
      rfl

end Sys2Proof.Machine
end

section
/-! The commands of the MAC table (R236, R237, R263, R265, R273 to R275). -/

namespace Sys2Proof.Machine

section
variable {s : State}

/-- An entry written where every replica takes updates: nothing else changes but the records, in which source 188 may be raised. -/
theorem putMac_book (place : Nat) (e : MacEntry) (reached : s.allReached = true) (k : Book) :
    ∃ k' : Book, k'.sent = k.sent ∧ putMac place e (s.book k) = { s with fwd.mac := tset s.fwd.mac place e }.book k' := by
  have started : beginUpdate (s.book k) = s.book k := beginUpdate_of_reached reached
  unfold putMac
  rw [started]
  dsimp only
  split
  · exact raise_book { s with fwd.mac := tset s.fwd.mac place e } k 188
  · exact ⟨k, rfl, rfl⟩

theorem beginUpdate_book (s : State) (k : Book) : beginUpdate (s.book k) = (beginUpdate s).book k := by
  unfold beginUpdate
  rw [apply_ite (State.book · k)]
  rfl

theorem sendRecord_book (op : Nat) (refresh : Bool) (e : MacEntry) (s : State) (k : Book) :
    sendRecord op refresh e (s.book k) = (sendRecord op refresh e s).book k := by
  unfold sendRecord
  rw [apply_ite (State.book · k)]
  rfl

theorem deleteMac_book (place : Nat) (e : MacEntry) (s : State) (k : Book) : deleteMac place e (s.book k) = (deleteMac place e s).book k := by
  unfold deleteMac
  rw [beginUpdate_book]
  exact sendRecord_book 2 false e { beginUpdate s with
    fwd.mac := tdel (beginUpdate s).fwd.mac place
    fwd.tracker := if e.pinned then tdel (beginUpdate s).fwd.tracker (trackKey e.fid e.mac) else (beginUpdate s).fwd.tracker } k

theorem beginUpdate_eq (s : State) : ∃ f, beginUpdate s = { s with fwd := f } := by
  unfold beginUpdate
  split
  · exact ⟨s.fwd, rfl⟩
  · exact ⟨_, rfl⟩

theorem sendRecord_eq (op : Nat) (refresh : Bool) (e : MacEntry) (s : State) : ∃ f, sendRecord op refresh e s = { s with fwd := f } := by
  unfold sendRecord
  split
  · exact ⟨_, rfl⟩
  · exact ⟨s.fwd, rfl⟩

/-- A deletion changes the tables and their replicas only. -/
theorem deleteMac_eq (place : Nat) (e : MacEntry) (s : State) : ∃ f, deleteMac place e s = { s with fwd := f } := by
  obtain ⟨f, begun⟩ := beginUpdate_eq s
  unfold deleteMac
  rw [begun]
  exact sendRecord_eq ..

theorem flushMac_book (f : FlushFilter) (s : State) (k : Book) : flushMac f (s.book k) = ((flushMac f s).1, (flushMac f s).2.book k) :=
  Prod.ext rfl (forEach_book (fun _ _ _ => deleteMac_book _ _ _ _) _ s k)

theorem flushMac_boot (f : FlushFilter) (s : State) : (flushMac f s).2.boot = s.boot :=
  forEach_keeps State.boot (fun e s => by obtain ⟨_, h⟩ := deleteMac_eq e.1 e.2 s; rw [h]) _ s

theorem flushMac_ocf (f : FlushFilter) (s : State) : (flushMac f s).2.ocf = s.ocf :=
  forEach_keeps State.ocf (fun e s => by obtain ⟨_, h⟩ := deleteMac_eq e.1 e.2 s; rw [h]) _ s

theorem flushMac_allReached (f : FlushFilter) (s : State) : (flushMac f s).2.allReached = s.allReached := by
  unfold State.allReached State.reaches State.isReady
  rw [flushMac_boot]

/-- A key in its range that names an entry passes the check of the commands on one entry. -/
theorem macKeyError_of_found {fid mac : Nat} {found : Nat × MacEntry} (empty : s.fwd.queue = []) (hfid : fid ≤ 4095)
    (hfound : s.macFind fid mac = some found) : macKeyError fid mac s = none := by
  unfold macKeyError
  rw [settleLearning_of_empty empty, hfound, if_neg (Nat.not_lt.2 hfid)]
  rfl

end

/-- Settles O2: where no learn event waits, the commands meet the table as it stands, and where every replica takes updates, each answers at once. -/
theorem macTableCommandsRun : Obligations.MacTableCommandsRun := by
  unfold Obligations.MacTableCommandsRun
  refine ⟨?rewrite, ?write, ?delete, ?read, ?search, ?unpin, ?status, ?notify, ?flush, ?message⟩
  case rewrite =>
    intro s h p place e taken reached empty hfid hstatic htype hdest found
    have settled (k : Book) : settleLearning (s.book k) = s.book k := settleLearning_of_empty empty
    have found (k : Book) : (s.book k).macFind p.fid p.mac = some (place, e) := found
    refine .of_booked rfl taken rfl (fun k => ?_) (fun k => ?_) (reached := .inl reached)
    · simp [bodyL2EntryWrite, hfid, hstatic, htype, hdest]
    · simp only [bodyL2EntryWrite, settled, found]
      obtain ⟨k', same, put⟩ := putMac_book (s := { s with
        fwd.tracker := if e.pinned then tdel s.fwd.tracker (trackKey p.fid p.mac) else s.fwd.tracker }) place
        { commandEntry p s with hit := e.hit } reached k
      exact ⟨k', same, congrArg (fun t => ({ st := t } : Answer)) put⟩
  case write =>
    intro s h p place taken reached empty hfid hstatic htype hdest missing free
    have settled (k : Book) : settleLearning (s.book k) = s.book k := settleLearning_of_empty empty
    have missing (k : Book) : (s.book k).macFind p.fid p.mac = none := missing
    have free (k : Book) : freePlace (s.book k).fwd.mac (macBucket (s.book k).fwd.macSeed (commandEntry p (s.book k)).fid
      (commandEntry p (s.book k)).mac) macOverflow = some place := free
    refine .of_booked rfl taken rfl (fun k => ?_) (fun k => ?_) (reached := .inl reached)
    · simp [bodyL2EntryWrite, hfid, hstatic, htype, hdest]
    · simp only [bodyL2EntryWrite, settled, missing, insertMac, free, Option.map_some]
      obtain ⟨k', same, put⟩ := putMac_book place (commandEntry p s) reached k
      exact ⟨k', same, congrArg (fun t => ({ st := t } : Answer)) put⟩
  case delete =>
    intro s h fid mac place e taken reached empty hfid found
    have settled (k : Book) : settleLearning (s.book k) = s.book k := settleLearning_of_empty empty
    have found' (k : Book) : (s.book k).macFind fid mac = some (place, e) := found
    obtain ⟨f, deleted⟩ := deleteMac_eq place e s
    refine .of_body rfl taken rfl (fun k => macKeyError_of_found empty hfid (found' k)) (fun k => ?_) (epoch := by rw [deleted])
      (reached := .inl (by rw [deleted]; exact reached))
    simp only [bodyL2EntryDelete, writeBody, settled, found', deleteMac_book]
  case read =>
    intro s h fid mac place e taken reached empty hfid found
    have settled (k : Book) : settleLearning (s.book k) = s.book k := settleLearning_of_empty empty
    have found' (k : Book) : (s.book k).macFind fid mac = some (place, e) := found
    refine .of_body rfl taken rfl (fun k => macKeyError_of_found empty hfid (found' k)) (fun k => ?_) (reached := .inl reached)
    simp only [bodyL2EntryRead, settled, found']
  case search =>
    intro s h cursor f taken reached empty hmatch hscope hfid
    have settled (k : Book) : settleLearning (s.book k) = s.book k := settleLearning_of_empty empty
    refine .of_body rfl taken rfl (fun k => ?_) (fun k => ?_) (reached := .inl reached)
    · simp [bodyL2SearchNext, hmatch, hscope, hfid]
    · simp only [bodyL2SearchNext, settled]
      rfl
  case unpin =>
    intro s h fid mac place e taken reached empty hfid found pinned
    have settled (k : Book) : settleLearning (s.book k) = s.book k := settleLearning_of_empty empty
    have found' (k : Book) : (s.book k).macFind fid mac = some (place, e) := found
    refine .of_booked rfl taken rfl (fun k => macKeyError_of_found empty hfid (found' k)) (fun k => ?_) (reached := .inl reached)
    obtain ⟨k', same, put⟩ := putMac_book place { e with pinned := false } reached k
    refine ⟨k', same, ?_⟩
    simp only [bodyL2Unpin, writeBody, settled, unpin, found', pinned, if_true, put]
    rfl
  case status =>
    intro s h taken empty
    have settled (k : Book) : settleLearning (s.book k) = s.book k := settleLearning_of_empty empty
    refine .of_body rfl taken rfl (fun k => rfl) (fun k => ?_)
    simp only [bodyL2Status, readBody, settled]
    rfl
  case notify =>
    intro s h count taken least most
    refine .of_body rfl taken rfl (fun k => ?_) (fun k => rfl)
    exact if_neg (Bool.eq_false_iff.1 (outside_eq_false_iff.2 ⟨least, most⟩))
  case flush =>
    intro s h f taken reached empty hmatch hscope hfid htype hdev
    have settled (k : Book) : settleLearning (s.book k) = s.book k := settleLearning_of_empty empty
    refine .of_body (later := false) rfl taken rfl (fun k => ?_) (fun k => ?_) (epoch := by rw [flushMac_ocf])
      (reached := .inl ((flushMac_allReached f s).trans reached))
    · simp [bodyL2Flush, hmatch, hscope, hfid, htype, hdev]
    · simp only [bodyL2Flush, settled, flushMac_book]
  case message =>
    intro s h m taken hdev hgroup least most hrecords
    obtain ⟨key, gen, k, -, row⟩ := exec_taken (c := .learnMessage h m) (b := bodyLearnMessage h m) rfl rfl rfl rfl taken rfl (decide_eq_true rfl)
      (fun k => by
        simp [bodyLearnMessage, outside_eq_false_iff, hdev, hgroup, least, most]
        grind)
    have waits : (takeMessageRecords h.transport m (s.book k)).waitsFor 0x0520 = false := waitsFor_false (.inr (by decide))
    obtain ⟨b, answered⟩ := answerFrame_booked (opcode := 0x0520) (h := h) (key := key) (gen := gen) (status := 0) (res := []) rfl
      (.refl (takeMessageRecords h.transport m (s.book k)))
    refine ⟨k, b, row.trans (congrArg _ ?_)⟩
    calc perform h (bodyLearnMessage h m) key gen (s.book k)
      _ = answerFrame 0x0520 h key gen 0 0xFFFF [] (takeMessageRecords h.transport m (s.book k)) := by
        unfold perform conclude
        simp [bodyLearnMessage, waits, okStatus]
      _ = _ := answered

end Sys2Proof.Machine
end

section
/-! The layer 3 commands and the batches of prefixes (Table 5-10). -/

namespace Sys2Proof.Machine

section
variable {s : State} {vrf family addr : Nat}

/-- An entry written where every replica takes updates: nothing else changes but the records, in which source 189 may be raised. -/
theorem putHost_book (place : Nat) (e : HostEntry) (reached : s.allReached = true) (k : Book) :
    ∃ k' : Book, k'.sent = k.sent ∧ putHost place e (s.book k) = { s with fwd.host := tset s.fwd.host place e }.book k' := by
  have started : beginUpdate (s.book k) = s.book k := beginUpdate_of_reached reached
  unfold putHost
  rw [started]
  dsimp only
  split
  · exact raise_book { s with fwd.host := tset s.fwd.host place e } k 189
  · exact ⟨k, rfl, rfl⟩

theorem hostKeyChecks_pass (hvrf : vrf ≤ 4095) (hkey : family = 4 ∧ addr < 2 ^ 32 ∨ family = 6) : firstErr (hostKeyChecks vrf family addr) = none := by
  unfold hostKeyChecks
  simp only [firstErr_cons_eq_none_iff, firstErr_nil, and_true]
  refine ⟨decide_eq_false (Nat.not_lt.2 hvrf), ?_, ?_⟩
  · obtain ⟨rfl, -⟩ | rfl := hkey <;> rfl
  · obtain ⟨-, small⟩ | rfl := hkey
    · rw [decide_eq_false (Nat.not_le.2 small), Bool.and_false]
    · rfl

/-- A key in its range that names an entry passes the check of the commands on one entry. -/
theorem hostKeyError_of_found {found : Nat × HostEntry} (hvrf : vrf ≤ 4095) (hkey : family = 4 ∧ addr < 2 ^ 32 ∨ family = 6)
    (hfound : s.hostFind vrf (family = 6) addr = some found) : hostKeyError vrf family addr s = none := by
  unfold hostKeyError
  rw [hostKeyChecks_pass hvrf hkey, hfound]
  rfl

variable {routes : Routes}

theorem batchChecks_pass (hvrf : vrf ≤ 4095) (least : 1 ≤ routes.length) (most : routes.length ≤ 256) (good : ∀ r ∈ routes, badRoute r = false) :
    firstErr (batchChecks vrf routes) = none := by
  unfold batchChecks
  simp only [firstErr_cons_eq_none_iff, firstErr_nil, and_true, outside_eq_false_iff]
  exact ⟨decide_eq_false (Nat.not_lt.2 hvrf), ⟨least, most⟩, List.any_eq_false.2 fun r hr => Bool.eq_false_iff.1 (good r hr)⟩

/-- A batch whose prefixes all stand in the table passes the check that they do. -/
theorem all_hasPrefix (present : ∀ r ∈ routes, s.hasPrefix (prefixOf vrf r) = true) : (routes.map (prefixOf vrf)).all s.hasPrefix = true := by
  simpa using present

theorem putRoutes_of_reached (ps : List Prefix) (reached : s.allReached = true) :
    putRoutes ps s = { s with
      fwd.lpm := forEach ps s.fwd.lpm insertPrefix
      fwd.trie := forEach ps s.fwd.trie (fun p t => t.put p) } := by
  rw [putRoutes, beginUpdate_of_reached reached]

theorem dropRoutes_of_reached (ps : List Prefix) (reached : s.allReached = true) :
    dropRoutes ps s = { s with
      fwd.lpm := s.fwd.lpm.filter (fun q => !(ps.map Prefix.order).contains q.order)
      fwd.trie := forEach ps s.fwd.trie (fun p t => t.del p) } := by
  rw [dropRoutes, beginUpdate_of_reached reached]

end

/-- Settles O3: the settings change one table each, and the host commands meet the table through `hostFind`. -/
theorem layer3CommandsRun : Obligations.Layer3CommandsRun := by
  unfold Obligations.Layer3CommandsRun
  refine ⟨?routerMac, ?vrf, ?nexthop, ?members, ?rewrite, ?write, ?delete, ?read, ?search, ?status⟩
  case routerMac =>
    intro s h index valid mac taken hindex hvalid hmac
    refine .of_body rfl taken rfl (fun k => ?_) (fun k => rfl)
    simp [bodyRouterMacWrite, writeBody, hindex, hvalid, hmac]
  case vrf =>
    intro s h p taken hvrf hvalid hreason
    refine .of_body rfl taken rfl (fun k => ?_) (fun k => rfl)
    simp [bodyVrfWrite, writeBody, hvrf, hvalid, hreason]
  case nexthop =>
    intro s h p taken htype hsmac hdestType hdest hvid ecmp hreason unused
    have unused (k : Book) : (s.book k).hopUsed p.nexthop = false := unused
    refine .of_body rfl taken rfl (fun k => ?_) (fun k => rfl)
    simp [bodyNexthopWrite, writeBody, outside_eq_false_iff, htype, hsmac, hdestType, hdest, hvid, unused]
    grind
  case members =>
    intro s h base members taken least most hbase htype
    have unicast (k : Book) : members.any (fun m => ((s.book k).hop m).type != 0) = false :=
      List.any_eq_false.2 fun m hm => by
      rw [show ((s.book k).hop m).type = 0 from htype m hm]
      decide
    refine .of_body rfl taken (decide_eq_true rfl) (fun k => ?_) (fun k => rfl)
    simp only [bodyEcmpMembersWrite, firstErr_cons_eq_none_iff, firstErr_nil, and_true, outside_eq_false_iff]
    exact ⟨⟨least, most⟩, decide_eq_false (Nat.not_lt.2 hbase), unicast k⟩
  case rewrite =>
    intro s h p place e taken reached hvrf hkey found
    have found (k : Book) : (s.book k).hostFind p.vrf (p.family = 6) p.addr = some (place, e) := found
    refine .of_booked rfl taken rfl (fun k => hostKeyChecks_pass hvrf hkey) (fun k => ?_) (reached := .inl reached)
    obtain ⟨k', same, put⟩ := putHost_book place { e with nexthop := p.nexthop } reached k
    refine ⟨k', same, ?_⟩
    simp only [bodyHostEntryWrite, found, put]
  case write =>
    intro s h p place taken reached hvrf hkey missing free
    have missing (k : Book) : (s.book k).hostFind p.vrf (p.family = 6) p.addr = none := missing
    have free (k : Book) : freePlace (s.book k).fwd.host (hostBucket (s.book k).fwd.hostSeed p.vrf (p.family = 6) p.addr) hostOverflow = some place := free
    refine .of_booked rfl taken rfl (fun k => hostKeyChecks_pass hvrf hkey) (fun k => ?_) (reached := .inl reached)
    obtain ⟨k', same, put⟩ := putHost_book place { v6 := p.family = 6, vrf := p.vrf, nexthop := p.nexthop, addr := p.addr } reached k
    refine ⟨k', same, ?_⟩
    simp only [bodyHostEntryWrite, missing, insertHost, free, Option.map_some, put]
  case delete =>
    intro s h vrf family addr place e taken reached hvrf hkey found
    have found' (k : Book) : (s.book k).hostFind vrf (family = 6) addr = some (place, e) := found
    have started (k : Book) : beginUpdate (s.book k) = s.book k := beginUpdate_of_reached reached
    refine .of_body rfl taken rfl (fun k => hostKeyError_of_found hvrf hkey (found' k)) (fun k => ?_) (reached := .inl reached)
    simp only [bodyHostEntryDelete, writeBody, found', started]
    rfl
  case read =>
    intro s h vrf family addr place e taken reached hvrf hkey found
    have found' (k : Book) : (s.book k).hostFind vrf (family = 6) addr = some (place, e) := found
    refine .of_body rfl taken rfl (fun k => hostKeyError_of_found hvrf hkey (found' k)) (fun k => ?_) (reached := .inl reached)
    simp only [bodyHostEntryRead, readBody, found']
  case search =>
    intro s h cursor clearHit taken reached hclear
    refine .of_body rfl taken rfl (fun k => if_neg (Nat.not_lt.2 hclear)) (fun k => ?_) (epoch := by split <;> rfl)
      (reached := .inl (by split <;> exact reached))
    by_cases clear : clearHit = 1
    · simp only [bodyHostSearchNext, clear, if_true]
      rfl
    · simp only [bodyHostSearchNext, clear, if_false]
      rfl
  case status => exact fun s h taken => .of_body rfl taken rfl (fun k => rfl) (fun k => rfl)

/-- Settles O4: a batch that passes its checks goes into, or out of, the list and the trie as a whole. -/
theorem prefixCommandsRun : Obligations.PrefixCommandsRun := by
  unfold Obligations.PrefixCommandsRun
  refine ⟨?add, ?replace, ?delete, ?next⟩
  case add =>
    intro s h vrf routes taken reached hvrf least most good absent nodup store long
    have put (k : Book) := putRoutes_of_reached (s := s.book k) (routes.map (prefixOf vrf)) reached
    refine .of_body rfl taken (decide_eq_true rfl) (fun k => ?_) (fun k => ?_) (reached := .inl reached)
    · have none_present : (routes.map (prefixOf vrf)).any (s.book k).hasPrefix = false := by
        rw [List.any_map]
        exact List.any_eq_false.2 fun r hr => Bool.eq_false_iff.1 (absent r hr)
      simp only [bodyLpmRouteAdd, batchChecks_pass hvrf least most good, firstErr_cons_eq_none_iff, firstErr_nil, and_true, none_present, Bool.false_or,
        Bool.or_eq_false_iff]
      refine ⟨by rw [repeats, decide_eq_true nodup]; rfl, ?_, ?_⟩
      · exact decide_eq_false (Nat.not_lt.2 store)
      · exact decide_eq_false (Nat.not_lt.2 long)
    · simp only [bodyLpmRouteAdd, put]
      rfl
  case replace =>
    intro s h vrf routes taken reached hvrf least most good present
    have put (k : Book) := putRoutes_of_reached (s := s.book k) (routes.map (prefixOf vrf)) reached
    refine .of_body rfl taken (decide_eq_true rfl) (fun k => ?_) (fun k => ?_) (reached := .inl reached)
    · have present := all_hasPrefix (s := s.book k) present
      simp only [bodyLpmRouteReplace, batchChecks_pass hvrf least most good, firstErr_cons_eq_none_iff, firstErr_nil, and_true, present, Bool.not_true]
    · simp only [bodyLpmRouteReplace, put]
      rfl
  case delete =>
    intro s h vrf routes taken reached hvrf least most good present
    have drop (k : Book) := dropRoutes_of_reached (s := s.book k) (routes.map (prefixOf vrf)) reached
    refine .of_body rfl taken (decide_eq_true rfl) (fun k => ?_) (fun k => ?_) (reached := .inl reached)
    · have present := all_hasPrefix (s := s.book k) present
      simp only [bodyLpmRouteDelete, batchChecks_pass hvrf least most good, firstErr_cons_eq_none_iff, firstErr_nil, and_true, present, Bool.not_true]
    · simp only [bodyLpmRouteDelete, drop]
      rfl
  case next =>
    intro s h vrf cursor count taken reached hvrf least most
    refine .of_body rfl taken rfl (fun k => ?_) (fun k => rfl) (reached := .inl reached)
    simp [bodyLpmRouteNext, readBody, outside_eq_false_iff, hvrf, least, most]

end Sys2Proof.Machine
end

section
/-! The parser and classifier commands (R46 to R100): one update of every pipeline of the mask. -/

namespace Sys2Proof.Machine

section
variable {s : State} {mask list : Nat}

theorem forPipes_book (mask : Nat) (f : Pipe → Pipe) (s : State) (k : Book) : forPipes mask f (s.book k) = (forPipes mask f s).book k :=
  forEach_book (fun _ _ _ => rfl) _ s k

theorem forPipes_ocf (mask : Nat) (f : Pipe → Pipe) (s : State) : (forPipes mask f s).ocf = s.ocf :=
  forEach_keeps (f := fun (p : Nat) (s : State) => s.setPipe p (f (s.pipe p))) State.ocf (fun _ _ => rfl) _ s

theorem freshHandle_book (s : State) (fuel handle : Nat) (k : Book) : (s.book k).freshHandle fuel handle = s.freshHandle fuel handle := by
  induction fuel generalizing handle with
  | zero => rfl
  | succ fuel ih =>
    unfold State.freshHandle
    rw [ih]
    rfl

/-- A command that writes every pipeline of its mask runs where its check passes. -/
theorem Runs.of_forPipes {c : Instr} {h : Ocf} {b : Body} {o len : Nat} {f : Pipe → Pipe} (frame : frameOf c = some (h, b))
    (taken : Taken s h o true false len) (length : b.lenOk len = true) (check : ∀ k : Book, b.check (s.book k) = none)
    (apply : b.apply = fun s => { st := forPipes mask f s }) (opcode : b.opcode = o := by rfl) (hchanges : b.changes = true := by rfl)
    (notPending : b.pending = false := by rfl) (notFactory : b.toFactory = false := by rfl) (notLearn : o ≠ 0x0520 := by decide)
    (noTable : tableOpcode o = false ∧ o ≠ 0x0105 := by decide) : Runs c h o s [] (forPipes mask f s) :=
  .of_body frame taken length check (fun k => by rw [apply]; exact congrArg (fun t => ({ st := t } : Answer)) (forPipes_book mask f s k)) opcode
    hchanges notPending notFactory notLearn (epoch := by rw [forPipes_ocf]) (reached := .inr noTable)

/-- A mask that is not empty and a list that every pipeline of it has pass the checks of the list commands. -/
theorem listChecks_pass {cs : List (Bool × Err)} (hmask : mask ≠ 0) (hlist : list ≤ 15)
    (lists : s.anyPipe mask (fun p => (tget p.lists list).isNone) = false) (rest : firstErr cs = none) :
    firstErr (listChecks mask list s ++ cs) = none := by
  simp [listChecks, hmask, hlist, lists, rest]

end

/-- Settles O5: each write changes one table of every pipeline of the mask, or one table of the device. -/
theorem classifierSettingsRun : Obligations.ClassifierSettingsRun := by
  unfold Obligations.ClassifierSettingsRun
  refine ⟨?state, ?commit, ?readState, ?keyProfile, ?searchProfile, ?classMap, ?defaults, ?control, ?bankMode, ?recirc, ?mirror, ?counters⟩
  case state =>
    intro s h mask state e taken hmask hstate hshift hscale
    refine .of_forPipes rfl taken rfl (fun k => ?_) rfl
    simp [bodyParseStateWrite, writeBody, hmask, hstate, hshift, hscale]
  case commit =>
    intro s h mask taken hmask good
    have good (k : Book) : (s.book k).anyPipe mask (fun p => badGraph p.shadow) = false := good
    refine .of_forPipes rfl taken rfl (fun k => ?_) rfl
    simp [bodyParseGraphCommit, writeBody, hmask, good]
  case readState =>
    intro s h pipe state shadow e taken hpipe hstate hshadow found
    have found (k : Book) : tget (if shadow = 1 then ((s.book k).pipe pipe).shadow else ((s.book k).pipe pipe).active) state = some e := found
    refine .of_body rfl taken rfl (fun k => ?_) (fun k => ?_)
    · simp [bodyParseStateRead, readBody, hpipe, hstate, hshadow]
    · simp only [bodyParseStateRead, readBody, found]
  case keyProfile =>
    intro s h mask profile sel taken hlen hmask hprofile reserved hoff width
    have width (k : Book) : (s.book k).anyPipe mask (fun p => p.keyProfileUsed profile && p.wideProfile profile != decide (sel.length = 40)) = false :=
      width
    refine .of_forPipes rfl taken ?_ (fun k => ?_) rfl
    · obtain hlen | hlen := hlen <;> simp [bodyKeyProfileWrite, hlen]
    · simp [bodyKeyProfileWrite, hmask, hprofile, width]
      exact ⟨reserved, hoff⟩
  case searchProfile =>
    intro s h mask profile word taken hmask hprofile high low good
    have good (k : Book) : (s.book k).anyPipe mask (fun p => p.badSearch word) = false := good
    refine .of_forPipes rfl taken rfl (fun k => ?_) rfl
    simp [bodySearchProfileWrite, writeBody, hmask, hprofile, high, low, good]
  case classMap =>
    intro s h port map place taken hlen hport hmap
    have found (k : Book) : (s.book k).portArg port = some place := hport
    refine .of_body rfl taken (by simp [bodyPortClassMapWrite, hlen]) (fun k => ?_) (fun k => ?_)
    · simp [bodyPortClassMapWrite, found]
      grind
    · simp only [bodyPortClassMapWrite, found]
      rfl
  case defaults =>
    intro s h p place taken hlen hport reserved good hdisp
    have found (k : Book) : (s.book k).portArg p.port = some place := hport
    refine .of_body rfl taken (by simp [bodyPortDefaultsWrite, hlen]) (fun k => ?_) (fun k => ?_)
    · simpa [bodyPortDefaultsWrite, found, reserved, good] using hdisp
    · simp only [bodyPortDefaultsWrite, found]
      rfl
  case control =>
    intro s h p taken least most hdst hforward hvalid
    refine .of_body rfl taken rfl (fun k => ?_) (fun k => rfl)
    simp [bodyControlMatchWrite, writeBody, outside_eq_false_iff, least, most, hdst, hforward, hvalid]
  case bankMode =>
    intro s h mask pair mode taken hmask hpair hmode idle
    have idle (k : Book) : (s.book k).anyPipe mask (fun p => p.pairBusy pair) = false := idle
    refine .of_forPipes rfl taken rfl (fun k => ?_) rfl
    simp [bodyBankModeWrite, writeBody, hmask, hpair, hmode, idle]
  case recirc =>
    intro s h mask slots taken hmask hslots
    refine .of_forPipes rfl taken rfl (fun k => ?_) rfl
    simp [bodyRecircConfig, writeBody, hmask, hslots]
  case mirror =>
    intro s h p taken hsession hdest htc htrunc
    refine .of_body rfl taken rfl (fun k => ?_) (fun k => rfl)
    simp [bodyMirrorSessionWrite, writeBody, outside_eq_false_iff, hsession, htc]
    omega
  case counters =>
    intro s h port clear place taken hport hclear
    have found (k : Book) : (s.book k).portArg port = some place := hport
    refine .of_body rfl taken rfl (fun k => ?_) (fun k => ?_) (epoch := by split <;> rfl)
    · simp [bodyParseCountersRead, found, hclear]
    · by_cases clears : clear = 1
      · simp only [bodyParseCountersRead, found, clears, if_true]
        rfl
      · simp only [bodyParseCountersRead, found, clears, if_false]
        rfl

/-- Settles O6: the list commands pass `listChecks`, and each rewrites the rules of every pipeline of its mask or of its handle. -/
theorem ruleCommandsRun : Obligations.RuleCommandsRun := by
  unfold Obligations.RuleCommandsRun
  refine ⟨?create, ?delete, ?insert, ?deleteRule, ?action, ?read, ?respace, ?rawWrite, ?rawInvalid, ?rawValid⟩
  case create =>
    intro s h p taken hmask hlist hbase hbanks hfit new good
    have new (k : Book) : (s.book k).anyPipe p.pipeMask (fun x => (tget x.lists p.list).isSome) = false := new
    have good (k : Book) : (s.book k).anyPipe p.pipeMask (fun x => x.badBanks p.baseBank p.banks) = false := good
    refine .of_forPipes rfl taken rfl (fun k => ?_) rfl
    simp [bodyListCreate, writeBody, hmask, hlist, hbase, hfit, new, good]
    omega
  case delete =>
    intro s h mask list taken hmask hlist lists
    have lists (k : Book) : (s.book k).anyPipe mask (fun p => (tget p.lists list).isNone) = false := lists
    refine .of_forPipes rfl taken rfl (fun k => ?_) ?_
    · exact (congrArg firstErr (List.append_nil _)).symm.trans (listChecks_pass hmask hlist (lists k) (rest := firstErr_nil))
    · have other (p : Pipe) (e : Nat × TcamEntry) : (p.listOf (e.1 / 2048) != some list) = !decide (p.listOf (e.1 / 2048) = some list) := by
        rw [bne, beq_eq_decide]
      simp only [other]
      rfl
  case insert =>
    intro s h p taken hflags hmask hlist lists width tailV tailM reserved good room
    have lists (k : Book) : (s.book k).anyPipe p.pipeMask (fun x => (tget x.lists p.list).isNone) = false := lists
    have width (k : Book) : (s.book k).anyPipe p.pipeMask (fun x => x.listWide p.list != p.flags.testBit 0) = false := width
    have room (k : Book) : (s.book k).anyPipe p.pipeMask
      (fun x => (placeRule (x.rules p.list) (x.listSize p.list) (insertedEntry p 0)).isNone) = false := room
    refine .of_body rfl taken rfl (fun k => ?_) (fun k => ?_) (epoch := congrArg OcfState.epoch (forPipes_ocf _ _ s))
    · refine firstErr_cons_eq_none_iff.2 ⟨decide_eq_false (Nat.not_lt.2 hflags), listChecks_pass hmask hlist (lists k) ?_⟩
      simp only [firstErr_cons_eq_none_iff, firstErr_nil, and_self, width, tailV, tailM, reserved, good, room]
    · simp only [bodyRuleInsert, forPipes_book]
      exact congrArg (fun n => ({
          st := { forPipes p.pipeMask (fun x => x.withRule p.list (insertedEntry p s.cls.nextHandle)) s with cls.nextHandle := n }.book k
          results := _ } : Answer)) (freshHandle_book _ _ _ k)
  case deleteRule =>
    intro s h handle taken used
    have used (k : Book) : (s.book k).handleUsed handle = true := used
    refine .of_body rfl taken rfl (fun k => ?_) (fun k => ?_)
    · simp [bodyRuleDelete, used]
    · rfl
  case action =>
    intro s h handle action taken reserved good used
    have used (k : Book) : (s.book k).handleUsed handle = true := used
    refine .of_body rfl taken rfl (fun k => ?_) (fun k => rfl)
    simp [bodyRuleActionWrite, writeBody, reserved, good, used]
  case read =>
    intro s h handle pipe a e taken hpipe found
    have found (k : Book) : ((s.book k).pipe pipe).ruleOf handle = some (a, e) := found
    refine .of_body rfl taken rfl (fun k => ?_) (fun k => ?_)
    · simp [bodyRuleRead, readBody, hpipe, found]
    · simp only [bodyRuleRead, readBody, found]
      rfl
  case respace =>
    intro s h mask list spacing taken hmask hlist lists least most fits
    have lists (k : Book) : (s.book k).anyPipe mask (fun p => (tget p.lists list).isNone) = false := lists
    have fits (k : Book) : (s.book k).anyPipe mask
      (fun p => !spacingFits (orDefault spacing 8) (p.rules list).length (p.listSize list)) = false := fits
    refine .of_forPipes rfl taken rfl (fun k => ?_) rfl
    have range := orDefault_between (v := spacing) (d := 8) (lo := 0) (.inr (Nat.zero_le _)) most
    exact listChecks_pass hmask hlist (lists k) (rest := firstErr_cons_eq_none_iff.2 ⟨outside_eq_false_iff.2 ⟨least, range.2⟩,
      firstErr_cons_eq_none_iff.2 ⟨fits k, firstErr_nil⟩⟩)
  case rawWrite =>
    intro s h p taken hmask hvalid hwide haddr good tailV tailM reserved goodAction
    have good (k : Book) : (s.book k).anyPipe p.pipeMask (fun x => x.badRaw (decide (p.wide = 1)) p.addr) = false := good
    refine .of_forPipes rfl taken rfl (fun k => ?_) rfl
    simp [bodyTcamRawWrite, writeBody, hmask, hvalid, hwide, haddr, good, tailV, tailM, reserved, goodAction]
  case rawInvalid =>
    intro s h pipe addr e taken hpipe haddr missing found
    have missing (k : Book) : tget ((s.book k).pipe pipe).tcam addr = none := missing
    have found (k : Book) : tgetD ((s.book k).pipe pipe).invalid addr ⟨0, 0, 0, 0, 0, 0, 0⟩ = e := by
      unfold tgetD
      exact congrArg (Option.getD · _) found
    refine .of_body rfl taken rfl (fun k => ?_) (fun k => ?_)
    · simp [bodyTcamRawRead, readBody, hpipe, haddr]
    · simp only [bodyTcamRawRead, readBody, missing, found]
      rfl
  case rawValid =>
    intro s h pipe addr e taken hpipe haddr found
    have found (k : Book) : tget ((s.book k).pipe pipe).tcam addr = some e := found
    refine .of_body rfl taken rfl (fun k => ?_) (fun k => ?_)
    · simp [bodyTcamRawRead, readBody, hpipe, haddr]
    · simp only [bodyTcamRawRead, readBody, found]
      rfl

end Sys2Proof.Machine
end

section
/-! The partition and flow record commands (R103 to R106, R124, R150 to R167). -/

namespace Sys2Proof.Machine

section
variable {s : State} {pn r : Nat} {p : Partition} {k : FlowKey} {w : FlowWork}

/-- The checks of a key descriptor pass for a key of its partition. -/
theorem keyChecks_pass {d : KeyDesc} {cs : List (Bool × Err)} (ok : KeyOk s d p) (rest : firstErr cs = none) (off : Nat) :
    firstErr (keyChecks d off s ++ cs) = none := by
  obtain ⟨hpart, found, htype, hunused, hkey⟩ := ok
  simp only [keyChecks, noPartition, found, List.cons_append, List.nil_append, firstErr_cons_eq_none_iff, rest, and_true, Option.map_some, Option.getD_some,
    hunused, Bool.false_or, htype]
  exact ⟨decide_eq_false (Nat.not_lt.2 hpart), rfl, rfl, decide_eq_false (Nat.not_le.2 hkey)⟩

theorem keyChecks_pass_alone {d : KeyDesc} (ok : KeyOk s d p) (off : Nat) : firstErr (keyChecks d off s) = none :=
  (congrArg firstErr (List.append_nil _)).symm.trans (keyChecks_pass ok firstErr_nil off)

/-- The checks of a block pass for a block with its fields in their ranges. -/
theorem blockChecks_pass {b : FlowBlock} (ok : BlockOk s b p) : firstErr (blockChecks b s) = none := by
  obtain ⟨hkey, hflags, hage, hstate, hgen, hservice⟩ := ok
  refine keyChecks_pass hkey ?_ 0
  obtain ⟨-, found, -⟩ := hkey
  simp only [found, Option.map_some, Option.getD_some, hgen, hservice, firstErr_cons_eq_none_iff, firstErr_nil, and_true, bne_self_eq_false]
  refine ⟨decide_eq_false (Nat.not_lt.2 hflags), ?_, decide_eq_false (by omega), decide_eq_false (by omega)⟩
  obtain small | default := hage
  · rw [decide_eq_false (Nat.not_lt.2 small), Bool.false_and]
  · rw [default]
    rfl

/-- A command's operation whose locks are free takes effect at once. -/
theorem startWork_of_clear {t : State} {status : Nat} {res : Results} (found : s.partition pn = some p)
    (free : clear (p.locks pn (p.place k)) (s.takenLocks (p.place k).home) = true)
    (done : doWork (p.place k).home p { s.workOp pn k (some s.flow.nextCmd) with work := some w } w s = (t, some (status, res))) :
    startWork pn k w s = { st := t, status := status, results := res } := by
  have locks : s.opLocks { s.workOp pn k (some s.flow.nextCmd) with work := some w } = p.locks pn (p.place k) := by
    simp only [State.opLocks, State.workOp, State.opOf, found]
    exact List.append_nil _
  simp only [startWork, found, submit, locks, free, if_true, done]

/-- A command's operation whose locks are taken waits in its region's queue. -/
theorem startWork_of_taken (found : s.partition pn = some p) (held : clear (p.locks pn (p.place k)) (s.takenLocks (p.place k).home) = false) :
    startWork pn k w s =
      { st := { pushOp (p.place k).home { s.workOp pn k (some s.flow.nextCmd) with work := some w } s with flow.nextCmd := s.flow.nextCmd + 1 }
        waits := some s.flow.nextCmd } := by
  have locks : s.opLocks { s.workOp pn k (some s.flow.nextCmd) with work := some w } = p.locks pn (p.place k) := by
    simp only [State.opLocks, State.workOp, State.opOf, found]
    exact List.append_nil _
  simp only [startWork, found, submit, locks, held, Bool.false_eq_true, if_false]

/-- A flow command whose key's locks are taken waits in its region's queue, under the number that its operation carries. -/
theorem flowWork_waits {c : Instr} {h : Ocf} {b : Body} {o len : Nat} {changes : Bool} (frame : frameOf c = some (h, b)) (opcode : b.opcode = o)
    (hchanges : b.changes = changes) (notPending : b.pending = false) (notFactory : b.toFactory = false) (taken : Taken s h o changes false len)
    (length : b.lenOk len = true) (check : ∀ k : Book, b.check (s.book k) = none) (found : s.partition pn = some p)
    (held : clear (p.locks pn (p.place k)) (s.takenLocks (p.place k).home) = false) (apply : b.apply = startWork pn k w := by rfl) :
    ∃ (a : Book) (key : Option Bytes) (gen : Nat), a.sent = s.ocf.sent ∧
      exec c s = .next { pushOp (p.place k).home { s.workOp pn k (some s.flow.nextCmd) with work := some w } (s.book a) with
        flow.nextCmd := s.flow.nextCmd + 1
        flow.cmds := tset s.flow.cmds s.flow.nextCmd { reply := .frame o h key gen changes } } := by
  obtain ⟨key, gen, a, sent, row⟩ := exec_taken frame opcode hchanges notPending taken notFactory length check
  have audited : b.audited h = changes := by rw [Body.audited, taken.alone, Bool.or_false, hchanges]
  refine ⟨a, key, gen, sent, row.trans (congrArg _ ?_)⟩
  unfold perform
  simp only [apply, startWork_of_taken (s := s.book a) found held, opcode, audited]
  rfl

/-- A block's update whose place takes it answers the locator and GEN. -/
theorem updateRec_of_written {b : FlowBlock} {f : Found}
    (written : (writeState r p (bringIn r p f s).1 { blockRec s p b (some f.img) with gen := f.img.gen }.bump (bringIn r p f s).2).isSome) :
    updateRec b p r f s =
      ((writeState r p (bringIn r p f s).1 { blockRec s p b (some f.img) with gen := f.img.gen }.bump (bringIn r p f s).2).getD s,
        some (0, insertResult f.loc { blockRec s p b (some f.img) with gen := f.img.gen }.bump.gen 1)) := by
  obtain ⟨t, written⟩ := Option.isSome_iff_exists.1 written
  simp only [updateRec, written, Option.getD_some]

/-- A read that has no log entry to wait for leaves the state and answers the record with its activity. -/
theorem readWork_of_settled {op : FlowOp} {f : Found} {settle : Bool} (found : s.findRec r op.partition p (reqKey op.req) = some f)
    (settled : settle = true → s.groupPendingLog r f.loc = false) :
    readWork r p op settle s = (s, some (0, recResult f.loc (s.merged r f) ++ [(1, bit (s.groupPendingLog r f.loc)), (3, 0)])) := by
  have ends : (settle && s.groupPendingLog r f.loc && decide (op.repeats < 3)) = false := by
    cases settle with
    | false => rfl
    | true => simp [settled rfl]
  simp only [readWork, found, ends, Bool.false_eq_true, if_false]

/-! A record takes its place without a change of the templates. -/

theorem evict_templates (r set way : Nat) (s : State) : (evict r set way s).flow.templates = s.flow.templates := by
  unfold evict
  dsimp only
  split
  · rfl
  · split <;> rfl

theorem install_templates {set : Nat} {x : TarnWay} {t : State} (h : install r set x s = some t) : t.flow.templates = s.flow.templates := by
  obtain ⟨way, -, rfl⟩ := Option.map_eq_some_iff.1 h
  exact forEach_keeps (fun s => s.flow.templates) (fun way s => evict_templates r set way s) _ s

theorem install_getD_templates (set : Nat) (x : TarnWay) (s : State) : ((install r set x s).getD s).flow.templates = s.flow.templates := by
  cases h : install r set x s with
  | none => rfl
  | some t => exact install_templates h

theorem putOvf_templates (i : Nat) (x : Rec) (s : State) : (putOvf r i x s).flow.templates = s.flow.templates := by
  unfold putOvf
  dsimp only
  split
  · rw [raise_flow]
    rfl
  · rfl

theorem createRec_templates {x : Rec} {l : Nat} {t : State} (h : createRec r p x s = .ok (l, t)) : t.flow.templates = s.flow.templates := by
  unfold createRec at h
  dsimp only at h
  split at h
  case isTrue =>
    split at h
    · exact nomatch h
    split at h
    · obtain ⟨-, rfl⟩ := Prod.mk.inj (Except.ok.inj h)
      split
      · exact putOvf_templates ..
      · exact putOvf_templates ..
    split at h
    · exact nomatch h
    obtain ⟨-, rfl⟩ := Prod.mk.inj (Except.ok.inj h)
    exact install_getD_templates ..
  case isFalse =>
    split at h
    · obtain ⟨-, rfl⟩ := Prod.mk.inj (Except.ok.inj h)
      exact install_getD_templates ..
    split at h
    · obtain ⟨-, rfl⟩ := Prod.mk.inj (Except.ok.inj h)
      exact putOvf_templates ..
    · exact nomatch h

/-- A new record of a block, which the command's key's region holds, takes the place that `createRec` finds. -/
theorem insertRec_of_created {b : FlowBlock} {x y : Rec} {l : Nat} {t : State} (hx : x = blockRec s p b none)
    (hy : y = if x.comp then x else { x with first := flowTime s.time.now, last := flowTime s.time.now })
    (near : s.homedAway (descKey b.key) p = false) (created : createRec r p y s = .ok (l, t)) :
    insertRec b p r s =
      (if ((s.template b.template).map (fun t => t.flags.testBit 3)).getD false then exportRec y none t else t, some (0, insertResult l y.gen 0)) := by
  have templates : t.template b.template = s.template b.template := congrArg (tget · b.template) (createRec_templates created)
  subst hx hy
  simp only [insertRec, near, created, templates, Bool.false_eq_true, if_false]

/-- Only a primary's deletion says why. -/
theorem removeWhole_of_comp {f : Found} (comp : f.img.comp = true) (reason : Option Nat) (s : State) :
    removeWhole r p f reason s = removeWhole r p f none s := by
  simp only [removeWhole, comp, if_true]

/-- A deletion whose record has no Sinter entry and no log entry that waits ends at once. -/
theorem deleteStep_of_settled {op : FlowOp} {f : Found} {reason : Nat} (found : s.findRec r op.partition p (reqKey op.req) = some f)
    (fresh : op.upTo = none) (noEntry : s.sinterEntry r f.loc = none) (settled : s.groupPendingLog r f.loc = false) :
    deleteStep r p op reason s = (removeWhole r p f (some reason) s, some (some f.img)) := by
  unfold deleteStep
  simp only [found]
  by_cases comp : f.img.comp = true
  · simp only [comp, if_true, removeWhole_of_comp comp (some reason)]
  · simp only [comp, fresh, noEntry, settled, found, Bool.false_eq_true, if_false]

end

theorem defaultAgeClass_between : ∀ cls ≤ 15, 1 ≤ ({} : FlowState).ageClasses.getD cls 1 ∧ ({} : FlowState).ageClasses.getD cls 1 ≤ 86400000 := by
  decide

/-- What FLOW_FLUSH answers when its operations have been submitted. -/
theorem flushAnswer (m : Nat × Nat × State) (pid : Nat) :
    let run : Option (Nat × Nat × Results) × State :=
      if m.1 = 0 then (some (0, 0xFFFF, [(8, m.2.1)]), m.2.2) else (none, waitMany none m.1 m.2.1 pid m.2.2)
    ∃ later res, (if m.1 = 0 then { st := m.2.2, results := [(8, m.2.1)] } else { st := waitMany none m.1 m.2.1 pid m.2.2, later := true } : Answer) =
        { st := run.2, results := res, later } ∧
      run.1 = if later then none else some (0, 0xFFFF, res) := by
  by_cases done : m.1 = 0
  · simp only [done, if_true]
    exact ⟨false, _, rfl, rfl⟩
  · simp only [done, if_false]
    exact ⟨true, [], rfl, rfl⟩

/-- Settles O7: a created partition stands where `freeRange` says, and a deletion submits one operation a record. -/
theorem partitionCommandsRun : Obligations.PartitionCommandsRun := by
  unfold Obligations.PartitionCommandsRun
  refine ⟨?create, ?delete, ?read, ?ageClass, ?sweep, ?status⟩
  case create =>
    intro s h p base taken hpart hkind hflags hleast hplain hanchored hsweep hage hmap new range
    have new (k : Book) : (s.book k).partition p.partition = none := new
    have range (k : Book) : (s.book k).freeRange p.nbrLog2 = some base := range
    refine .of_body rfl taken rfl (fun k => ?_) (fun k => ?_)
    · simp only [bodyPartitionCreate, firstErr_cons_eq_none_iff, firstErr_nil, and_true, outside_eq_false_iff, new, range, Option.isSome_none,
        Option.isNone_some, Bool.false_or]
      have sweep := orDefault_between (v := p.sweepPeriod) (d := 1000) (lo := 1) (by omega) hsweep
      have devices : p.homeMap.any (fun x => decide (x > 0xFFF)) = false := by simpa using hmap
      obtain plain | anchored : p.kind = 0 ∨ p.kind = 1 := by omega
      · obtain ⟨size, quota⟩ := hplain plain
        simp [plain, hpart, hflags, hleast, size, quota, sweep, hage, devices]
      · obtain ⟨size, quota, few, stash⟩ := hanchored anchored
        have stash : regions.any (fun r => ((s.book k).freeStash r).isNone) = false :=
          List.any_eq_false.2 fun r hr => Bool.eq_false_iff.1 (Option.isNone_eq_false_iff.2 (stash r hr))
        simp only [anchored, hleast, quota, sweep, devices, stash, decide_true, Bool.true_and, Bool.not_true, Bool.false_eq_true, if_false]
        simp [hpart, hflags, hage, few]
        simpa using size
    · simp only [bodyPartitionCreate, range]
      rfl
  case delete =>
    intro s h partition p taken found
    have found (k : Book) : (s.book k).partition partition = some p := found
    refine .of_body rfl taken rfl (fun k => ?_) (fun k => ?_)
    · simp [bodyPartitionDelete, noPartition, found]
    · simp only [bodyPartitionDelete, found]
      generalize startMany p partition .purge ((s.book k).partitionKeys partition) (s.book k) = m
      obtain ⟨left, n, t⟩ := m
      by_cases done : left = 0
      · simp only [done, if_true]
        exact ⟨false, [], rfl, rfl⟩
      · simp only [done, if_false]
        exact ⟨true, [], rfl, rfl⟩
  case read =>
    intro s h partition p taken found
    have found (k : Book) : (s.book k).partition partition = some p := found
    refine .of_body rfl taken rfl (fun k => ?_) (fun k => ?_)
    · simp [bodyPartitionRead, readBody, noPartition, found]
    · simp only [bodyPartitionRead, readBody, found]
      rfl
  case ageClass =>
    intro s h cls timeout taken hcls htimeout
    refine .of_body rfl taken rfl (fun k => ?_) (fun k => rfl)
    simp only [bodyAgeClassWrite, writeBody, firstErr_cons_eq_none_iff, firstErr_nil, and_true, outside_eq_false_iff]
    have default := defaultAgeClass_between cls hcls
    exact ⟨decide_eq_false (Nat.not_lt.2 hcls), orDefault_between (by omega) htimeout default.1 default.2⟩
  case sweep =>
    intro s h partition period p taken found hperiod
    have found (k : Book) : (s.book k).partition partition = some p := found
    refine .of_body rfl taken rfl (fun k => ?_) (fun k => ?_)
    · simp only [bodySweepConfig, writeBody, noPartition, found, firstErr_cons_eq_none_iff, firstErr_nil, and_true, outside_eq_false_iff]
      exact ⟨rfl, orDefault_between (by omega) hperiod⟩
    · simp only [bodySweepConfig, writeBody, found]
      rfl
  case status => exact fun s h taken => .of_body rfl taken rfl (fun k => rfl) (fun k => rfl)

/-- Settles O8: a command whose key's locks are free does its operation's work at once, and one whose locks are taken waits. -/
theorem flowRecordCommandsRun : Obligations.FlowRecordCommandsRun := by
  unfold Obligations.FlowRecordCommandsRun
  refine ⟨?create, ?rewrite, ?update, ?read, ?delete, ?search, ?flush, ?putWaits, ?readWaits, ?deleteWaits⟩
  case create =>
    intro s h b p r x y taken ok hr free missing near hx hy created
    subst hr
    refine .of_body rfl taken rfl (fun k => blockChecks_pass (p := p) ok) (fun k => ?_)
    obtain ⟨l, t, created⟩ := created k
    have missing : (s.book k).findRec (p.place (descKey b.key)).home b.key.partition p (descKey b.key) = none := missing
    have inserted := insertRec_of_created (s := s.book k) hx hy near created
    refine startWork_of_clear (p := p) ok.1.2.1 free ?_
    simp only [doWork, putBlock, missing, if_true, inserted, created]
    rfl
  case rewrite =>
    intro s h b p r f x taken ok hr free found allowed same hx written
    subst hr hx
    refine .of_body rfl taken rfl (fun k => blockChecks_pass (p := p) ok) (fun k => ?_)
    have found : (s.book k).findRec (p.place (descKey b.key)).home b.key.partition p (descKey b.key) = some f := found
    exact startWork_of_clear (p := p) ok.1.2.1 free (by
      simp only [doWork, putBlock, found, allowed, same, Bool.and_false, Bool.false_eq_true, if_false]
      exact updateRec_of_written (written k))
  case update =>
    intro s h b p r f x taken ok hr free found same hx written
    subst hr hx
    refine .of_body rfl taken rfl (fun k => blockChecks_pass (p := p) ok) (fun k => ?_)
    have found : (s.book k).findRec (p.place (descKey b.key)).home b.key.partition p (descKey b.key) = some f := found
    exact startWork_of_clear (p := p) ok.1.2.1 free (by
      simp only [doWork, putBlock, found, same, Bool.false_and, Bool.false_eq_true, if_false]
      exact updateRec_of_written (written k))
  case read =>
    intro s h d p r f settle taken ok hr free found hsettle settled
    subst hr
    refine .of_body rfl taken rfl (fun k => keyChecks_pass (p := p) ok ?_ 0) (fun k => ?_)
    · simp [hsettle]
    · exact startWork_of_clear (p := p) ok.2.1 free
        (readWork_of_settled (s := s.book k) found fun settles => settled (of_decide_eq_true settles))
  case delete =>
    intro s h d p r f taken ok hr free found noEntry settled
    subst hr
    refine .of_body rfl taken rfl (fun k => keyChecks_pass_alone (p := p) ok 0) (fun k => ?_)
    refine startWork_of_clear (p := p) ok.2.1 free ?_
    have deleted := deleteStep_of_settled (s := s.book k) (p := p) (reason := 4)
      (op := { (s.book k).workOp d.partition (descKey d) (some (s.book k).flow.nextCmd) with work := some .delete }) found rfl noEntry settled
    simp only [doWork, deleteWork, deleted, Option.map_some]
  case search =>
    intro s h p q left taken found huse hleft
    subst hleft
    have found (k : Book) : (s.book k).partition p.partition = some q := found
    refine .of_body rfl taken rfl (fun k => ?_) (fun k => rfl)
    simp [bodyFlowSearchNext, readBody, noPartition, found, huse]
  case flush =>
    intro s h p q taken found huse
    have found (k : Book) : (s.book k).partition p.partition = some q := found
    refine .of_body rfl taken rfl (fun k => ?_) (fun k => ?_)
    · simp [bodyFlowFlush, noPartition, found, huse]
    · simp only [bodyFlowFlush, found]
      exact flushAnswer _ s.ocf.nextPend
  case putWaits =>
    intro s h b p r create opcode i ok hr held command taken
    subst hr
    obtain command | command := command
    · obtain ⟨rfl, rfl, rfl⟩ : opcode = 0x0404 ∧ create = true ∧ i = .flowInsert h b := by simpa using command
      exact flowWork_waits (b := bodyFlowInsert h b) rfl rfl rfl rfl rfl taken rfl (fun k => blockChecks_pass (p := p) ok) ok.1.2.1 held
    · obtain ⟨rfl, rfl, rfl⟩ : opcode = 0x0405 ∧ create = false ∧ i = .flowUpdate h b := by simpa using command
      exact flowWork_waits (b := bodyFlowUpdate h b) rfl rfl rfl rfl rfl taken rfl (fun k => blockChecks_pass (p := p) ok) ok.1.2.1 held
  case readWaits =>
    intro s h d p r settle taken ok hr hsettle held
    subst hr
    exact flowWork_waits (b := bodyFlowRead h d settle) rfl rfl rfl rfl rfl taken rfl (fun k => keyChecks_pass (p := p) ok (by simp [hsettle]) 0)
      ok.2.1 held
  case deleteWaits =>
    intro s h d p r taken ok hr held
    subst hr
    exact flowWork_waits (b := bodyFlowDelete h d) rfl rfl rfl rfl rfl taken rfl (fun k => keyChecks_pass_alone (p := p) ok 0) ok.2.1 held

end Sys2Proof.Machine
end

section
/-! The template, NAT pool, load-balancer, home-map and exporting commands (chapter 4). -/

namespace Sys2Proof.Machine

section
variable {s : State}

theorem finish_book (id status detail : Nat) (res : Results) (s : State) (k : Book) :
    finish id status detail res (s.book k) = (finish id status detail res s).book k := by
  unfold finish
  rw [show (s.book k).ocf.pend = s.ocf.pend from rfl]
  cases tget s.ocf.pend id <;> rfl

theorem finish_epoch (id status detail : Nat) (res : Results) (s : State) : (finish id status detail res s).ocf.epoch = s.ocf.epoch := by
  unfold finish
  split <;> rfl

theorem endFill_book (pool : Nat) (s : State) (k : Book) : endFill pool (s.book k) = (endFill pool s).book k := by
  unfold endFill
  rw [book_flow]
  cases (tget s.flow.pools pool).bind NatPool.fillId with
  | none => rfl
  | some id => exact finish_book id 0 0xFFFF [] s k

theorem endFill_epoch (pool : Nat) (s : State) : (endFill pool s).ocf.epoch = s.ocf.epoch := by
  unfold endFill
  split
  · exact finish_epoch ..
  · rfl

theorem clearRings_book (pool : Nat) (s : State) (k : Book) : clearRings pool (s.book k) = (clearRings pool s).book k :=
  forEach_book (fun _ _ _ => rfl) regions s k

theorem clearRings_ocf (pool : Nat) (s : State) : (clearRings pool s).ocf = s.ocf :=
  forEach_keeps (f := fun (r : Nat) (s : State) => { s with flow.rings := tdel s.flow.rings (4 * pool + r) }) State.ocf (fun _ _ => rfl) regions s

theorem clearRings_endFill_epoch (pool : Nat) (s : State) : (clearRings pool (endFill pool s)).ocf.epoch = s.ocf.epoch := by
  rw [clearRings_ocf, endFill_epoch]

theorem clearRings_endFill_pools (pool : Nat) (s : State) : (clearRings pool (endFill pool s)).flow.pools = s.flow.pools := by
  have cleared : (clearRings pool (endFill pool s)).flow.pools = (endFill pool s).flow.pools :=
    forEach_keeps (f := fun (r : Nat) (s : State) => { s with flow.rings := tdel s.flow.rings (4 * pool + r) }) (fun s => s.flow.pools)
      (fun _ _ => rfl) regions _
  rw [cleared]
  unfold endFill finish
  split
  · split <;> rfl
  · rfl

/-- A template with its fields in their ranges passes its checks. -/
theorem templateWrite_check {h : Ocf} {t : TemplateP} {p : Partition} (ok : TemplateOk s t p) : (bodyFlowTemplateWrite h t).check s = none := by
  obtain ⟨found, htype, hkeyFlags, hflags, hkind, hkindKey, hnat, hlb, hage, hpool, hpolicy, hpolicy', hmaxAge, hmaxAge', hexport, hinvalid, hmiss,
    hreason, reservedS, badS, reservedF, badF, hmap⟩ := ok
  simp only [bodyFlowTemplateWrite, writeBody, found, Option.map_some, Option.getD_some, htype, hage, hexport, reservedS, badS, reservedF, badF,
    firstErr_cons_eq_none_iff, firstErr_nil, and_true, outside_eq_false_iff, hmaxAge, hmaxAge']
  refine ⟨rfl, rfl, decide_eq_false (Nat.not_lt.2 hkeyFlags), decide_eq_false (Nat.not_lt.2 hflags), ?kind, ?nat, rfl, decide_eq_false (Nat.not_lt.2 hpool),
    ?lb, ?policy, trivial, rfl, decide_eq_false (Nat.not_lt.2 hinvalid), decide_eq_false (Nat.not_lt.2 hmiss), decide_eq_false (Nat.not_lt.2 hreason),
    trivial, trivial, trivial, trivial, ?keyMap⟩
  case kind =>
    simp only [Bool.or_eq_false_iff, Bool.and_eq_false_iff, bne_eq_false_iff_eq, decide_eq_false_iff_not]
    omega
  case nat => simpa [Bool.and_eq_false_iff, or_iff_not_imp_left] using hnat
  case lb => simpa [Bool.and_eq_false_iff, or_iff_not_imp_left] using hlb
  case policy =>
    rw [hpolicy, decide_eq_false (Nat.not_le.2 hpolicy')]
    rfl
  case keyMap =>
    rw [Bool.and_eq_false_iff, or_iff_not_imp_left, List.any_eq_false]
    intro mapped x hx
    rw [Bool.not_eq_false, Bool.or_eq_true, decide_eq_true_eq, decide_eq_true_eq] at mapped
    simpa [or_iff_not_imp_left] using hmap mapped x hx

end

/-- Settles O9: a pool's write and deletion first end the fill that they overtake. -/
theorem natCommandsRun : Obligations.NatCommandsRun := by
  unfold Obligations.NatCommandsRun
  refine ⟨?template, ?readTemplate, ?pool, ?addrs, ?delete, ?status⟩
  case template => exact fun s h t p taken ok => .of_body rfl taken rfl (fun k => templateWrite_check (p := p) ok) (fun k => rfl)
  case readTemplate =>
    intro s h template t taken found
    have found (k : Book) : (s.book k).template template = some t := found
    refine .of_body rfl taken rfl (fun k => ?_) (fun k => ?_)
    · simp [bodyFlowTemplateRead, readBody, found]
    · simp only [bodyFlowTemplateRead, readBody, found]
  case pool =>
    intro s h p taken hpool hfamily least most hlo hloAligned hhiAligned hlohi fits idle
    have idle (k : Book) : (s.book k).poolBusy p.pool = false := idle
    refine .of_body (later := true) (res := []) rfl taken rfl (fun k => ?_) (fun k => ?_) (epoch := clearRings_endFill_epoch p.pool s)
    · simp only [bodyNatPoolWrite, firstErr_cons_eq_none_iff, firstErr_nil, outside_eq_false_iff, and_true, idle, hloAligned, hhiAligned,
        bne_self_eq_false, Bool.or_false, Bool.false_or]
      refine ⟨decide_eq_false (Nat.not_lt.2 hpool), ?_, ⟨least, most⟩, decide_eq_false (Nat.not_lt.2 hlo), decide_eq_false (Nat.not_le.2 hlohi),
        decide_eq_false (Nat.not_lt.2 fits)⟩
      obtain family | family := hfamily <;> rw [family] <;> rfl
    · simp only [bodyNatPoolWrite, endFill_book, clearRings_book, book_flow, clearRings_endFill_pools]
      rfl
  case addrs =>
    intro s h p q taken found hlen least most fits hfamily
    have found (k : Book) : tget (s.book k).flow.pools p.pool = some q := found
    refine .of_body rfl taken (by simp [bodyNatPoolAddrWrite]) (fun k => ?_) (fun k => ?_)
    · simp only [bodyNatPoolAddrWrite, found]
      simp [outside_eq_false_iff, hlen, least, most, fits]
      grind
    · simp only [bodyNatPoolAddrWrite, found]
      rfl
  case delete =>
    intro s h pool q taken found idle
    have found (k : Book) : tget (s.book k).flow.pools pool = some q := found
    have idle (k : Book) : (s.book k).poolBusy pool = false := idle
    refine .of_body rfl taken rfl (fun k => ?_) (fun k => ?_) (epoch := clearRings_endFill_epoch pool s)
    · simp only [bodyNatPoolDelete, writeBody, found, idle]
      rfl
    · simp only [bodyNatPoolDelete, writeBody, endFill_book, clearRings_book, book_flow, clearRings_endFill_pools]
      rfl
  case status =>
    intro s h pool p taken found
    have found (k : Book) : tget (s.book k).flow.pools pool = some p := found
    refine .of_body rfl taken rfl (fun k => ?_) (fun k => ?_)
    · simp only [bodyNatPoolStatus, readBody, found]
      rfl
    · simp only [bodyNatPoolStatus, readBody, found]
      rfl

section

theorem clearHealth_book (backend : Nat) (s : State) (k : Book) : clearHealth backend (s.book k) = (clearHealth backend s).book k :=
  forEach_book (fun _ _ _ => rfl) regions s k

/-- What a backend that leaves its member changes: its pools and the regions' health, and no backend. -/
theorem leaveMember_book (p : LbBackendWriteP) (s : State) (k : Book) : leaveMember p (s.book k) = (leaveMember p s).book k := by
  unfold leaveMember
  rw [book_flow]
  split
  · rfl
  · split
    · rfl
    · rw [← clearHealth_book]
      rfl

theorem clearHealth_keeps {γ : Type} (part : State → γ) (h : ∀ r v s, part (s.setRegion r v) = part s) (backend : Nat) (s : State) :
    part (clearHealth backend s) = part s :=
  forEach_keeps (f := fun (r : Nat) (s : State) => s.setRegion r { s.region r with health := tdel (s.region r).health backend }) part
    (fun _ _ => h _ _ _) regions s

theorem leaveMember_ocf (p : LbBackendWriteP) (s : State) : (leaveMember p s).ocf = s.ocf := by
  unfold leaveMember
  split
  · rfl
  · split
    · rfl
    · exact clearHealth_keeps State.ocf (fun _ _ _ => rfl) ..

theorem leaveMember_backends (p : LbBackendWriteP) (s : State) : (leaveMember p s).flow.backends = s.flow.backends := by
  unfold leaveMember
  split
  · rfl
  · split
    · rfl
    · exact clearHealth_keeps (fun s => s.flow.backends) (fun _ _ _ => rfl) ..

end

/-- Settles O10: each write changes one table, and a backend's also takes it out of the member that it leaves. -/
theorem serviceCommandsRun : Obligations.ServiceCommandsRun := by
  unfold Obligations.ServiceCommandsRun
  refine ⟨?pool, ?backend, ?commit, ?readPool, ?home, ?exportProfile, ?exportStatus, ?counters⟩
  case pool =>
    intro s h p taken hpool hslots hfamily hperiod hperiod' hrtt hrtt' same fits
    refine .of_body rfl taken rfl (fun k => ?_) (fun k => ?_)
    · have rtt := orDefault_between (v := p.rttFactor) (d := 32) hrtt hrtt'
      simp only [bodyLbPoolWrite, writeBody, firstErr_cons_eq_none_iff, firstErr_nil, outside_eq_false_iff, and_true, book_flow]
      refine ⟨decide_eq_false (Nat.not_lt.2 hpool), decide_eq_false (Nat.not_lt.2 hslots), ?_, orDefault_between hperiod hperiod',
        outside_eq_false_iff.2 rtt, ?_, decide_eq_false (Nat.not_lt.2 fits)⟩
      · obtain family | family := hfamily <;> rw [family] <;> rfl
      · rw [Bool.and_eq_false_iff, bne_eq_false_iff_eq]
        refine same.imp (fun family => ?_) (fun ⟨backends, templates⟩ => ?_)
        · cases old : tget s.flow.lbPools p.pool with
          | none => rfl
          | some q => exact family q old
        · rw [Bool.or_eq_false_iff, List.any_eq_false, List.any_eq_false]
          exact ⟨fun e he => by simpa using backends e he, fun e he => by simpa using templates e he⟩
    · simp only [bodyLbPoolWrite, writeBody, book_flow]
      cases tget s.flow.lbPools p.pool <;> rfl
  case backend =>
    intro s h p q taken hbackend hpool found hmember alone haddr hweight hstate
    refine .of_body rfl taken rfl (fun k => ?_) (fun k => ?_) (epoch := by rw [leaveMember_ocf])
    · simp only [bodyLbBackendWrite, writeBody, found, firstErr_cons_eq_none_iff, firstErr_nil, and_true, book_flow, Option.map_some, Option.getD_some]
      refine ⟨decide_eq_false (Nat.not_lt.2 hbackend), decide_eq_false (Nat.not_lt.2 hpool), rfl, ?_, ?_, decide_eq_false (Nat.not_lt.2 hweight),
        decide_eq_false (Nat.not_lt.2 hstate)⟩
      · rw [decide_eq_false (Nat.not_lt.2 hmember), Bool.false_or, List.any_eq_false]
        exact fun e he => by simpa using alone e he
      · rw [Bool.and_eq_false_iff, decide_eq_false_iff_not, decide_eq_false_iff_not, or_iff_not_imp_left, not_not]
        exact fun family => Nat.not_le.2 (haddr family)
    · simp only [bodyLbBackendWrite, writeBody, leaveMember_book, book_flow, leaveMember_backends]
      rfl
  case commit =>
    intro s h pool p taken hpool found
    refine .of_body rfl taken rfl (fun k => ?_) (fun k => ?_)
    · simp [bodyLbPoolCommit, writeBody, hpool, found]
    · simp only [bodyLbPoolCommit, writeBody, book_flow, found]
      rfl
  case readPool =>
    intro s h pool p taken hpool found
    refine .of_body rfl taken rfl (fun k => ?_) (fun k => ?_)
    · simp [bodyLbPoolRead, readBody, hpool, found]
    · simp only [bodyLbPoolRead, readBody, book_flow, found]
  case home =>
    intro s h p q taken found homed hns some fits hdevices
    have found (k : Book) : (s.book k).partition p.partition = .some q := found
    refine .of_body rfl taken ?_ (fun k => ?_) (fun k => ?_)
    · simp [bodyGroupHomeWrite]
      omega
    · simp [bodyGroupHomeWrite, noPartition, found, homed, hns, some, fits]
      exact hdevices
    · simp only [bodyGroupHomeWrite, found]
      rfl
  case exportProfile =>
    intro s h p taken hprofile hflags hv4 hmtu hmtu' hrate hrate' hburst hburst' hactive hrefresh hflush hport hvlan htc hdscp
    refine .of_body rfl taken rfl (fun k => ?_) (fun k => ?_)
    · simp only [bodyExportProfileWrite, writeBody, firstErr_cons_eq_none_iff, firstErr_nil, outside_eq_false_iff, and_true]
      have v4 : (!p.flags.testBit 3 && decide (p.collector ≥ 2 ^ 32)) = false ∧ (!p.flags.testBit 3 && decide (p.source ≥ 2 ^ 32)) = false := by
        cases v6 : p.flags.testBit 3 with
        | true => exact ⟨rfl, rfl⟩
        | false => exact ⟨decide_eq_false (Nat.not_le.2 (hv4 v6).1), decide_eq_false (Nat.not_le.2 (hv4 v6).2)⟩
      exact ⟨decide_eq_false (Nat.not_lt.2 hprofile), decide_eq_false (Nat.not_lt.2 hflags), v4.1, v4.2, ⟨hmtu, hmtu'⟩, ⟨hrate, hrate'⟩,
        ⟨hburst, hburst'⟩, decide_eq_false (Nat.not_lt.2 hactive), orDefault_between (by omega) hrefresh, orDefault_between (by omega) hflush,
        decide_eq_false (Nat.not_le.2 hport), decide_eq_false (Nat.not_le.2 hvlan), decide_eq_false (Nat.not_lt.2 htc),
        decide_eq_false (Nat.not_lt.2 hdscp)⟩
    · simp only [bodyExportProfileWrite, writeBody, book_flow]
      cases tget s.flow.profiles p.profile <;> rfl
  case exportStatus =>
    intro s h profile taken hprofile
    refine .of_body rfl taken rfl (fun k => ?_) (fun k => rfl)
    simp [bodyExportStatus, readBody, hprofile]
  case counters =>
    intro s h template region taken hregion
    refine .of_body rfl taken rfl (fun k => ?_) (fun k => rfl)
    simp [bodyServiceCountersRead, readBody]
    omega

end Sys2Proof.Machine
end

section
/-! The buffer and egress commands (Tables 6-11 and 7-4). -/

namespace Sys2Proof.Machine

section
variable {s : State} {field k : Nat} {cs : List (Bool × Err)}

theorem outsideS_eq_false_iff {w v : Nat} {lo hi : Int} : outsideS w v lo hi = false ↔ lo ≤ signed w v ∧ signed w v ≤ hi := by
  simp [outsideS]

/-- The checks of a port field pass for a port of this device that is no Dvorob Link port. -/
theorem portChecks_pass {busy bad : Nat} (own : s.namesFabric field = false) (found : s.portArg field = some k) (rest : firstErr cs = none) :
    firstOf (portChecks s field busy bad) cs = none := by
  simp [firstOf, portChecks, own, found, rest]

theorem egressChecks_pass (own : s.namesFabric field = false) (found : s.egressArg field = some k) (rest : firstErr cs = none) :
    firstOf (egressChecks s field) cs = none := by
  simp [firstOf, egressChecks, own, found, rest]

theorem voqChecks_pass {region voq : Nat} (hregion : region ≤ 3) (hvoq : voq < 131072) (rest : firstErr cs = none) :
    firstOf (voqChecks region voq) cs = none := by
  simp [firstOf, voqChecks, hregion, hvoq, rest]

theorem enterSpill_book (v : Nat) (s : State) (k : Book) : enterSpill v (s.book k) = (enterSpill v s).book k := by
  unfold enterSpill
  dsimp only
  rw [apply_ite (State.book · k)]
  rfl

theorem enterSpill_ocf (v : Nat) (s : State) : (enterSpill v s).ocf = s.ocf := by
  unfold enterSpill
  dsimp only
  split <;> rfl

/-- Queues of a port that each take a new value. -/
def setEgQueues (port : Nat) (f : EgQueue → EgQueue) (tcs : List Nat) (s : State) : State :=
  forEach tcs s (fun tc t => t.setEgQueue port tc (f (t.egQueue port tc)))

theorem setEgQueues_book (port : Nat) (f : EgQueue → EgQueue) (tcs : List Nat) (s : State) (k : Book) :
    setEgQueues port f tcs (s.book k) = (setEgQueues port f tcs s).book k :=
  forEach_book (fun _ _ _ => rfl) tcs s k

theorem setEgQueues_ocf (port : Nat) (f : EgQueue → EgQueue) (tcs : List Nat) (s : State) : (setEgQueues port f tcs s).ocf = s.ocf :=
  forEach_keeps (f := fun (tc : Nat) (t : State) => t.setEgQueue port tc (f (t.egQueue port tc))) State.ocf (fun _ _ => rfl) tcs s

theorem clearMarks_book (scope id : Nat) (s : State) (k : Book) : clearMarks scope id (s.book k) = (clearMarks scope id s).book k := by
  unfold clearMarks
  split <;> rfl

theorem clearMarks_ocf (scope id : Nat) (s : State) : (clearMarks scope id s).ocf = s.ocf := by
  unfold clearMarks
  split <;> rfl

end

/-- A port's scheduler as PORT_SCHED_WRITE leaves it (Table 7-5). -/
def EgPort.scheduled (e : EgPort) (p : PortSchedWriteP) (now : Nat) : EgPort :=
  { e with
    strictMask := p.strictMask
    lenAdj := signed 8 p.lenAdj
    weights := p.weight.map (orDefault · 1)
    shaper := if p.portRate = 0 then none else some (newShaper e.shaper p.portRate p.portBurst now)
    latThreshold := p.latThreshold }

/-- Settles O11: the writes change the shadow alone, and BUF_COMMIT lets every queue that the new configuration calls for enter spill state. -/
theorem bufferCommandsRun : Obligations.BufferCommandsRun := by
  unfold Obligations.BufferCommandsRun
  refine ⟨?profile, ?map, ?region, ?pfc, ?linger, ?commit, ?voqStatus, ?voqCounters, ?status⟩
  case profile =>
    intro s h p taken hprofile halpha hreserve hflags haligned hkeep hspill hspill' hmax
    refine .of_body rfl taken rfl (fun k => ?_) (fun k => rfl)
    have keep := orDefault_between (v := p.headKeep) (d := 256) (lo := 16) (by omega) hkeep
    have aligned : orDefault p.headKeep 256 % 16 = 0 := by
      unfold orDefault
      split <;> omega
    simp only [bodyBufProfileWrite, writeBody, firstErr_cons_eq_none_iff, firstErr_nil, outside_eq_false_iff, and_true, aligned, bne_self_eq_false,
      Bool.or_false]
    exact ⟨decide_eq_false (Nat.not_lt.2 hprofile), decide_eq_false (Nat.not_lt.2 halpha), decide_eq_false (Nat.not_lt.2 hreserve),
      decide_eq_false (Nat.not_lt.2 hflags), keep, orDefault_between hspill hspill', decide_eq_false (Nat.not_lt.2 hmax)⟩
  case map =>
    intro s h start count profile taken least fits hprofile
    refine .of_body rfl taken rfl (fun k => ?_) (fun k => rfl)
    simp [bodyVoqProfileMap, writeBody, hprofile]
    omega
  case region =>
    intro s h p taken hregion hpend hpend' hpool hpool' hfab
    refine .of_body rfl taken rfl (fun k => ?_) (fun k => rfl)
    have pend := orDefault_between (v := p.portPendMax) (d := 4096) hpend hpend'
    have pool := orDefault_between (v := p.ingressPool) (d := 16384) hpool hpool'
    simp [bodyBufRegionWrite, writeBody, outside_eq_false_iff, pend, pool]
    omega
  case pfc =>
    intro s h p port taken own found hmode hxon hwatchdog hprio
    have found (k : Book) : (s.book k).portArg p.port = some port := found
    refine .of_body rfl taken rfl (fun k => portChecks_pass own (found k) ?_) (fun k => ?_)
    · simp [hmode, hxon, hwatchdog, hprio]
    · simp only [bodyPortPfcWrite, writeBody, found]
      rfl
  case linger =>
    intro s h field linger port taken own found hlinger
    have found (k : Book) : (s.book k).portArg field = some port := found
    refine .of_body rfl taken rfl (fun k => portChecks_pass own (found k) ?_) (fun k => ?_)
    · simp [hlinger]
    · simp only [bodyPortLingerWrite, writeBody, found]
      rfl
  case commit =>
    intro s h taken pools fits
    refine .of_body rfl taken rfl (fun k => ?_) (fun k => ?_) (epoch := congrArg OcfState.epoch (forEach_keeps State.ocf enterSpill_ocf _ _))
    · have pools : regions.any (fun r => decide ((s.book k).otherPools (s.book k).buf.shadow r > 131072)) = false :=
        List.any_eq_false.2 fun r hr => Bool.eq_false_iff.1 (decide_eq_false (Nat.not_lt.2 (pools r hr)))
      have fits : regions.any ((s.book k).unfit (s.book k).buf.shadow) = false :=
        List.any_eq_false.2 fun r hr => Bool.eq_false_iff.1 (fits r hr)
      simp only [bodyBufCommit, writeBody, firstErr_cons_eq_none_iff, firstErr_nil, pools, fits, and_self]
    · exact congrArg (fun t => ({ st := t } : Answer)) (forEach_book enterSpill_book (tkeys s.buf.voqs) { s with buf.cfg := s.buf.shadow } k)
  case voqStatus =>
    intro s h region voq taken hregion hvoq
    refine .of_body rfl taken rfl (fun k => ?_) (fun k => rfl)
    exact voqChecks_pass hregion hvoq (cs := []) rfl
  case voqCounters =>
    intro s h region voq clear taken hregion hvoq hclear
    refine .of_body rfl taken rfl (fun k => voqChecks_pass hregion hvoq ?_) (fun k => ?_) (epoch := by split <;> rfl)
    · simp [hclear]
    · by_cases clears : clear = 1
      · simp only [bodyVoqCountersRead, clears, if_true]
        rfl
      · simp only [bodyVoqCountersRead, clears, if_false]
        rfl
  case status =>
    intro s h taken
    refine .of_body rfl taken rfl (fun k => rfl) (fun k => ?_)
    refine congrArg (fun own => ({ st := s.book k, results := _ ++ s.statusPorts.flatMap own } : Answer)) (funext fun f => ?_)
    rw [show (s.book k).ofSysPort f = s.ofSysPort f from rfl]
    cases s.ofSysPort f <;> rfl

/-- Settles O12: an egress command's port passes `egressChecks`, and its effect is one update of that port, its queues or a policer. -/
theorem egressCommandsRun : Obligations.EgressCommandsRun := by
  unfold Obligations.EgressCommandsRun
  refine ⟨?sched, ?shaper, ?gateList, ?gateOn, ?gateOff, ?gateStatus, ?counters, ?policer, ?readPolicer, ?marks⟩
  case sched =>
    intro s h p port taken own found hstrict hadj hadj' hlen hweights hrate hburst
    have found (k : Book) : (s.book k).egressArg p.port = some port := found
    refine .of_body rfl taken rfl (fun k => egressChecks_pass own (found k) ?_) (fun k => ?_)
      (epoch := congrArg OcfState.epoch (setEgQueues_ocf port (fun q => { q with tag := (s.egPort port).v }) _ _))
    · have weights : (p.weight.map (orDefault · 1)).any (fun w => outside w 1 255) = false := by
        rw [List.any_map, List.any_eq_false]
        exact fun w hw => Bool.eq_false_iff.1 (outside_eq_false_iff.2 (orDefault_between (by omega) (hweights w hw)))
      simp only [firstErr_cons_eq_none_iff, firstErr_nil, and_true, outsideS_eq_false_iff, hlen, weights, bne_self_eq_false, Bool.or_false]
      refine ⟨decide_eq_false (Nat.not_lt.2 hstrict), ⟨hadj, hadj'⟩, trivial, ?_, decide_eq_false (Nat.not_lt.2 hburst)⟩
      rwa [Bool.and_eq_false_iff, bne_eq_false_iff_eq, outside_eq_false_iff]
    · simp only [bodyPortSchedWrite, writeBody, found]
      exact congrArg (fun t => ({ st := t } : Answer)) (setEgQueues_book port (fun q => { q with tag := (s.egPort port).v }) _
        (s.setEgPort port ((s.egPort port).scheduled p s.time.localNs)) k)
  case shaper =>
    intro s h p port taken own found htc hflags hrate
    have found (k : Book) : (s.book k).egressArg p.port = some port := found
    refine .of_body rfl taken rfl (fun k => egressChecks_pass own (found k) ?_) (fun k => ?_)
    · simp [outside_eq_false_iff, htc, hflags]
      omega
    · simp only [bodyQueueShaperWrite, writeBody, found]
      rfl
  case gateList =>
    intro s h field start entries port taken own found least most fits hentries
    have found (k : Book) : (s.book k).egressArg field = some port := found
    refine .of_body rfl taken (decide_eq_true rfl) (fun k => egressChecks_pass own (found k) ?_) (fun k => ?_)
    · simp [outside_eq_false_iff, least, most, fits]
      grind
    · simp only [bodyGateListWrite, found]
      rfl
  case gateOn =>
    intro s h p port taken own found hflags hns on least most hcycle hcycle' hentries
    have found (k : Book) : (s.book k).egressArg p.port = some port := found
    refine .of_body rfl taken rfl (fun k => ?_) (fun k => ?_)
    · refine egressChecks_pass own (found k) ?_
      have entries : (List.range p.listLen).any (fun n => outside ((s.egPort port).gates.adminEntry n).2 64 1000000000) = false :=
        List.any_eq_false.2 fun n hn => Bool.eq_false_iff.1 (outside_eq_false_iff.2 (hentries n (List.mem_range.1 hn)))
      simp only [firstErr_cons_eq_none_iff, firstErr_nil, and_true, found, Option.getD_some, on, Bool.true_and, Bool.or_eq_false_iff, outside_eq_false_iff]
      exact ⟨decide_eq_false (Nat.not_lt.2 hflags), decide_eq_false (Nat.not_lt.2 hns), ⟨⟨least, most⟩, hcycle, hcycle'⟩, entries⟩
    · simp only [bodyGateConfigWrite, writeBody, found, on, if_true]
      rfl
  case gateOff =>
    intro s h p port taken own found hflags hns off
    have found (k : Book) : (s.book k).egressArg p.port = some port := found
    refine .of_body rfl taken rfl (fun k => egressChecks_pass own (found k) ?_) (fun k => ?_)
    · simp only [firstErr_cons_eq_none_iff, firstErr_nil, off, Bool.false_and, and_true]
      exact ⟨decide_eq_false (Nat.not_lt.2 hflags), decide_eq_false (Nat.not_lt.2 hns)⟩
    · simp only [bodyGateConfigWrite, writeBody, found, off, Bool.false_eq_true, if_false]
      rfl
  case gateStatus =>
    intro s h field port taken own found
    have found (k : Book) : (s.book k).egressArg field = some port := found
    refine .of_body rfl taken rfl (fun k => egressChecks_pass own (found k) (cs := []) rfl) (fun k => ?_)
    simp only [bodyGateStatus, readBody, found, Option.getD_some, List.flatMap_cons, List.flatMap_nil, List.append_nil]
    rfl
  case counters =>
    intro s h field clear port taken found hclear
    have found (k : Book) : (s.book k).egressArg field = some port := found
    refine .of_body rfl taken rfl (fun k => ?_) (fun k => ?_) (epoch := ?_)
    · simp [bodyEgressCountersRead, found, hclear]
    · by_cases clears : clear = 1
      · simp only [bodyEgressCountersRead, found, Option.getD_some, clears, if_true]
        exact congrArg (fun t => ({ st := t, results := _ } : Answer))
          (setEgQueues_book port (fun q => { q with sent := 0, sentBytes := 0, latOver := 0 }) (List.range 8) s k)
      · simp only [bodyEgressCountersRead, found, Option.getD_some, clears, if_false]
        rfl
    · split
      · exact congrArg OcfState.epoch
          (setEgQueues_ocf port (fun q => { q with sent := 0, sentBytes := 0, latOver := 0 }) (List.range 8) s)
      · rfl
  case policer =>
    intro s h p taken hregion hmode hcir hcbs hpir hpir0 hebs hflags hadj hadj' hyellow hred hmark
    refine .of_body rfl taken rfl (fun k => ?_) (fun k => rfl)
    simp [bodyPolicerWrite, writeBody, outside_eq_false_iff, outsideS_eq_false_iff, hmode, hcbs, hebs, hflags, hadj, hadj', hyellow, hred, hmark]
    omega
  case readPolicer =>
    intro s h region policer clear p taken hregion hclear hp
    subst hp
    refine .of_body rfl taken rfl (fun k => ?_) (fun k => ?_) (epoch := by split <;> rfl)
    · simp [bodyPolicerRead, hregion, hclear]
    · by_cases clears : clear = 1
      · simp only [bodyPolicerRead, clears, if_true]
        rfl
      · simp only [bodyPolicerRead, clears, if_false]
        rfl
  case marks =>
    intro s h p taken hscope hclear least most fits
    refine .of_body rfl taken rfl (fun k => ?_) (fun k => ?_) (epoch := ?_)
    · simp [bodyHwmRead, outside_eq_false_iff, hscope, hclear, least, most, fits]
    · by_cases clears : p.clear = 1
      · simp only [bodyHwmRead, clears, if_true]
        exact congrArg (fun t => ({ st := t, results := _ } : Answer)) (forEach_book (clearMarks_book p.scope) _ s k)
      · simp only [bodyHwmRead, clears, if_false]
        rfl
    · split
      · exact congrArg OcfState.epoch (forEach_keeps State.ocf (clearMarks_ocf p.scope) _ _)
      · rfl

end Sys2Proof.Machine
end

section
/-! The HBM and Dvorob Link commands (Tables 6-10, 8-7 and 8-8). -/

namespace Sys2Proof.Machine

section
variable {s : State} {h : Ocf} {p : FabricLinkWriteP}

/-- The ports as FABRIC_LINK_WRITE leaves them where it changes the port that it names. -/
def portsWritten (p : FabricLinkWriteP) (s : State) : Tab FabPort :=
  if p.width = 0 then tdel s.fab.ports p.group else tset s.fab.ports p.group { width := p.width, rate := p.rate }

/-- Operands in the ranges of Table 6-10 pass the checks, for a port that is down or keeps its width and rate. -/
theorem fabricLinkWrite_check (hgroup : p.group ≤ 31) (hwidth : p.width ∈ [0, 1, 2, 4, 8]) (left : p.width ≤ s.widthLeft p.group) (hrate : p.rate ≤ 1)
    (down : (s.fabPort p.group).up = false ∨ (tget s.fab.ports p.group).map (fun x => (x.width, x.rate)) = some (p.width, p.rate))
    (free : p.width = 0 ∨ ∀ k ∈ tkeys s.ports.cfg, k / 8 ≠ p.group)
    (fits : ∀ r ∈ regions, fabUnfit s.buf.cfg s.fab.cfg.grantWindow (portsWritten p s) r = false) :
    (bodyFabricLinkWrite h p).check s = none := by
  have widths : [0, 1, 2, 4, 8].contains p.width = true := List.contains_iff_mem.2 hwidth
  have unfit : regions.any (fabUnfit s.buf.cfg s.fab.cfg.grantWindow (portsWritten p s)) = false :=
    List.any_eq_false.2 fun r hr => Bool.eq_false_iff.1 (fits r hr)
  simp only [bodyFabricLinkWrite, firstErr_cons_eq_none_iff, firstErr_nil, and_true, widths, Bool.not_true, Bool.false_or]
  refine ⟨decide_eq_false (Nat.not_lt.2 hgroup), decide_eq_false (Nat.not_lt.2 left), decide_eq_false (Nat.not_lt.2 hrate), ?_, ?_, unfit⟩
  · rwa [Bool.and_eq_false_iff, bne_eq_false_iff_eq]
  · rw [Bool.and_eq_false_iff, bne_eq_false_iff_eq, List.any_eq_false]
    exact free.imp_right fun other k hk => by simpa using other k hk

end

/-- Settles O13: each write changes what it names, and a group that is left lets every port fail. -/
theorem hbmAndFabricCommandsRun : Obligations.HbmAndFabricCommandsRun := by
  unfold Obligations.HbmAndFabricCommandsRun
  refine ⟨?budget, ?readBudget, ?hbmStatus, ?scrub, ?retire, ?retired, ?config, ?link, ?sameLink, ?fabricStatus, ?counters⟩
  case budget =>
    intro s h p taken hfr hfw htm htl fits hage
    refine .of_body rfl taken rfl (fun k => ?_) (fun k => rfl)
    have fr : 16 ≤ orDefault p.fr 96 := by unfold orDefault; split <;> omega
    have fw : 8 ≤ orDefault p.fw 40 := by unfold orDefault; split <;> omega
    have tm : 4 ≤ orDefault p.tm 16 := by unfold orDefault; split <;> omega
    have tl : 4 ≤ orDefault p.tl 8 := by unfold orDefault; split <;> omega
    simp only [bodyHbmBudgetWrite, writeBody, firstErr_cons_eq_none_iff, firstErr_nil, and_true, outside_eq_false_iff]
    exact ⟨decide_eq_false (Nat.not_lt.2 fr), decide_eq_false (Nat.not_lt.2 fw), decide_eq_false (Nat.not_lt.2 tm), decide_eq_false (Nat.not_lt.2 tl),
      decide_eq_false (Nat.not_lt.2 fits), orDefault_between (by omega) (by omega)⟩
  case readBudget => exact fun s h taken => .of_body rfl taken rfl (fun k => rfl) (fun k => rfl)
  case hbmStatus => exact fun s h taken => .of_body rfl taken rfl (fun k => rfl) (fun k => rfl)
  case scrub =>
    intro s h period taken hperiod ready
    have ready (k : Book) : (s.book k).hbmReady = true := ready
    refine .of_body rfl taken rfl (fun k => ?_) (fun k => rfl)
    simp only [bodyHbmScrubConfig, writeBody, firstErr_cons_eq_none_iff, firstErr_nil, and_true, outside_eq_false_iff, ready, Bool.not_true]
    exact orDefault_between (by omega) hperiod
  case retire =>
    intro s h pc taken hpc ready idle few working
    have ready (k : Book) : (s.book k).hbmReady = true := ready
    refine .of_body (later := true) (res := []) rfl taken rfl (fun k => ?_) (fun k => ?_)
    · simp [bodyHbmPcRetire, hpc, ready, idle, Nat.not_le.2 few]
    · simp only [bodyHbmPcRetire, book_hbm, List.contains_iff_mem, working, if_false]
      rfl
  case retired =>
    intro s h pc taken hpc ready idle few gone
    have ready (k : Book) : (s.book k).hbmReady = true := ready
    refine .of_body (later := false) (res := []) rfl taken rfl (fun k => ?_) (fun k => ?_)
    · simp [bodyHbmPcRetire, hpc, ready, idle, Nat.not_le.2 few]
    · simp only [bodyHbmPcRetire, book_hbm, List.contains_iff_mem, gone, if_true]
  case config =>
    intro s h p taken henable hslot hdirect hdirect' hwindow hwindow' hsize hsize' hrob1 hrob up fits stored
    refine .of_body rfl taken rfl (fun k => ?_) (fun k => ?_)
    · have unfit : regions.any (fabUnfit s.buf.cfg (orDefault p.grantWindow 256) s.fab.ports) = false :=
        List.any_eq_false.2 fun r hr => Bool.eq_false_iff.1 (fits r hr)
      simp only [bodyFabricConfig, fabCfgOf, firstErr_cons_eq_none_iff, firstErr_nil, and_true, outside_eq_false_iff, book_buf, book_fab, unfit]
      refine ⟨decide_eq_false (Nat.not_lt.2 henable), decide_eq_false (Nat.not_lt.2 hslot), orDefault_between hdirect hdirect',
        orDefault_between hwindow hwindow', orDefault_between hsize hsize', orDefault_between (by omega) hrob, ?_⟩
      rw [Bool.and_eq_false_iff, Bool.or_eq_false_iff, bne_eq_false_iff_eq, bne_eq_false_iff_eq]
      exact up
    · by_cases enabled : p.enable = 1
      · simp only [bodyFabricConfig, fabCfgOf, stored, enabled, decide_true, Bool.not_true, Bool.false_eq_true, if_false, if_true]
      · simp only [bodyFabricConfig, fabCfgOf, stored, enabled, decide_false, Bool.not_true, Bool.false_eq_true, if_false]
  case link =>
    intro s h p taken hgroup hwidth left hrate down free fits other stored
    have other (k : Book) : (tget (s.book k).fab.ports p.group).map (fun x => (x.width, x.rate)) ≠ some (p.width, p.rate) := other
    refine .of_body rfl taken rfl (fun k => fabricLinkWrite_check (s := s.book k) hgroup hwidth left hrate (.inl down) free fits) (fun k => ?_)
    simp only [bodyFabricLinkWrite, stored, other, Bool.not_true, Bool.false_eq_true, if_false]
    rfl
  case sameLink =>
    intro s h p taken hgroup hwidth left hrate free fits same stored
    refine .of_body rfl taken rfl (fun k => fabricLinkWrite_check (s := s.book k) hgroup hwidth left hrate (.inr same) free fits) (fun k => ?_)
    simp only [bodyFabricLinkWrite, stored, book_fab, same, Bool.not_true, Bool.false_eq_true, if_false, if_true]
    rfl
  case fabricStatus => exact fun s h taken => .of_body rfl taken rfl (fun k => rfl) (fun k => rfl)
  case counters =>
    intro s h clear taken hclear
    refine .of_body rfl taken rfl (fun k => ?_) (fun k => ?_) (epoch := by split <;> rfl)
    · simp [bodyFabricCountersRead, hclear]
    · by_cases clears : clear = 1
      · simp only [bodyFabricCountersRead, clears, if_true]
        rfl
      · simp only [bodyFabricCountersRead, clears, if_false]
        rfl

end Sys2Proof.Machine
end

section
/-! The system, port and diagnostic commands (chapter 9). -/

namespace Sys2Proof.Machine

section
variable {s : State} {h : Ocf}

/-- The check of the commands on a group passes for an open group of the sender. -/
theorem ownGroupError_of_own {g : Group} (named : h.group ≠ 0) (found : tget s.ocf.groups h.group = some g) (own : g.sender = h.senderKey) :
    ownGroupError h s = none := by
  unfold ownGroupError
  simp [found, named, own]

/-- Members that are all applied leave status 0 with no DETAIL and no results. -/
theorem applyMembers_of_ok (ms : List Instr) (n : Nat) (s : State) (ok : (applyMembers bodyOf n ms s).status = 0) :
    applyMembers bodyOf n ms s = { st := (applyMembers bodyOf n ms s).st } := by
  induction ms generalizing n s with
  | nil => rfl
  | cons i is ih =>
    unfold applyMembers at ok ⊢
    split
    · next none => rw [none] at ok; exact ih _ _ ok
    · next b some =>
      rw [some] at ok
      dsimp only at ok ⊢
      by_cases fails : (b.apply s).status != 0
      · rw [if_pos fails] at ok
        exact nomatch (show (0x0501 : Nat) = 0 from ok)
      · rw [if_neg fails] at ok ⊢
        exact ih _ _ ok

variable {field k : Nat} {c : PortCfg}

/-- The checks of a command on a configured front port pass. -/
theorem frontChecks_pass {bad : Nat} {cs : List (Bool × Err)} (found : s.frontArg field = some k) (config : tget s.ports.cfg k = some c)
    (used : c.speed ≠ 0) (rest : firstErr cs = none) : firstErr (frontChecks field bad s ++ cs) = none := by
  simp [frontChecks, found, State.configured, config, used, rest]

theorem testChecks_pass {cs : List (Bool × Err)} (found : s.frontArg field = some k) (config : tget s.ports.cfg k = some c)
    (used : c.speed ≠ 0) (down : c.adminUp = false) (rest : firstErr cs = none) : firstErr (testChecks field s ++ cs) = none := by
  unfold testChecks
  rw [List.append_assoc]
  refine frontChecks_pass found config used ?_
  simp [found, config, down, rest]

theorem portModes_lanes : ∀ m ∈ portModes, 1 ≤ m.2.1 := by decide

end

/-- Settles O14: the reads return what stands, and a commit applies its members in turn. -/
theorem systemCommandsRun : Obligations.SystemCommandsRun := by
  unfold Obligations.SystemCommandsRun
  refine ⟨?identity, ?status, ?echo, ?groupOpen, ?commit, ?abort, ?ack, ?pending, ?intake, ?deviceId, ?reset⟩
  case identity => exact fun s h taken => .of_body rfl taken rfl (fun k => rfl) (fun k => rfl)
  case status => exact fun s h taken => .of_body rfl taken rfl (fun k => rfl) (fun k => rfl)
  case echo => exact fun s h taken fits => .of_body rfl taken (decide_eq_true fits) (fun k => rfl) (fun k => rfl)
  case groupOpen =>
    intro s h timeout taken least most alone few
    refine .of_body rfl taken rfl (fun k => ?_) (fun k => rfl)
    have range : (decide (timeout < 10) || decide (timeout > 60000)) = false := by simp [least, most]
    have room : ((tvals (s.book k).ocf.groups).any (fun g => decide (g.sender = h.senderKey)) || decide ((s.book k).ocf.groups.length ≥ 8)) = false := by
      rw [Bool.or_eq_false_iff, List.any_eq_false]
      exact ⟨fun g hg => by simpa using alone g hg, decide_eq_false (Nat.not_le.2 few)⟩
    simp only [bodySysGroupOpen, range, room, Bool.false_eq_true, if_false]
  case commit =>
    intro s h g taken named found own good applied reached
    have members (k : Book) : (tget (s.book k).ocf.groups h.group).map Group.members = some g.members := congrArg (Option.map Group.members) found
    refine .of_body rfl taken rfl (fun k => ownGroupError_of_own (s := s.book k) named found own) (fun k => ?_) (reached := .inl reached)
    have all : firstBadMember bodyOf 0 g.members { s.book k with ocf.groups := tdel (s.book k).ocf.groups h.group } = none := good k
    simp only [bodySysGroupCommit, members, Option.getD_some, all]
    exact applyMembers_of_ok _ _ _ (applied k)
  case abort =>
    exact fun s h g taken named found own =>
      .of_body rfl taken rfl (fun k => ownGroupError_of_own (s := s.book k) named found own) (fun k => rfl)
  case ack =>
    intro s h tags taken some few
    refine .of_body rfl taken (decide_eq_true rfl) (fun k => ?_) (fun k => rfl)
    simp [bodySysCompletionAck, some, few]
  case pending => exact fun s h taken => .of_body rfl taken rfl (fun k => rfl) (fun k => rfl)
  case intake =>
    intro s h p taken hstation hgroup htc stored
    refine .of_body rfl taken rfl (fun k => ?_) (fun k => ?_)
    · simp [bodySysIntakeConfig, hstation, hgroup, htc]
    · simp only [bodySysIntakeConfig, stored, Bool.not_true, Bool.false_eq_true, if_false]
      rfl
  case deviceId =>
    intro s h deviceId taken hid
    exact .of_body rfl taken rfl (fun k => if_neg (Nat.not_le.2 hid)) (fun k => rfl)
  case reset => exact fun s h taken => .of_body rfl taken rfl (fun k => rfl) (fun k => rfl)

/-- Settles O15: a port that is configured passes `frontChecks`, one under test `testChecks`, and each effect is that of one named operation. -/
theorem portCommandsRun : Obligations.PortCommandsRun := by
  unfold Obligations.PortCommandsRun
  refine ⟨?config, ?remove, ?status, ?counters, ?admin, ?opticsRead, ?opticsWrite, ?prbs, ?loopback, ?eye, ?registers, ?inject, ?memory⟩
  case config =>
    intro s h p port taken found used mode aligned hflags hmtu hmtu' free
    have found (k : Book) : (s.book k).frontArg p.port = some port := found
    refine .of_body rfl taken rfl (fun k => ?_) (fun k => ?_)
    · have free : (s.book k).lanesBusy port p.lanes = false := free
      have lanes : max 1 p.lanes = p.lanes := Nat.max_eq_right (portModes_lanes _ mode)
      simp only [bodyPortConfig, writeBody, found, used, if_false, firstErr_cons_eq_none_iff, firstErr_nil, and_true, outside_eq_false_iff, free, lanes,
        aligned, List.contains_iff_mem.2 mode]
      exact ⟨rfl, rfl, decide_eq_false (Nat.not_lt.2 hflags), orDefault_between hmtu hmtu'⟩
    · simp only [bodyPortConfig, writeBody, found, used, if_false]
  case remove =>
    intro s h p port taken found unused hflags configured
    have found (k : Book) : (s.book k).frontArg p.port = some port := found
    refine .of_body rfl taken rfl (fun k => ?_) (fun k => ?_)
    · have configured : (s.book k).configured port = true := configured
      simp [bodyPortConfig, writeBody, found, unused, hflags, configured]
    · simp only [bodyPortConfig, writeBody, found, unused, if_true]
  case status =>
    intro s h field port c taken found config used
    have found' (k : Book) : (s.book k).frontArg field = some port := found
    refine .of_body rfl taken rfl (fun k => ?_) (fun k => ?_)
    · exact (congrArg firstErr (List.append_nil _)).symm.trans (frontChecks_pass (s := s.book k) found config used (cs := []) rfl)
    · simp only [bodyPortStatus, readBody, found', Option.bind_some, book_ports, config, Option.map_some]
  case counters =>
    intro s h field clear port taken found hclear
    have found' (k : Book) : (s.book k).counterArg field = some port := found
    have arg (k : Book) : ((s.book k).portArg field).isNone = false := by
      have : (((s.book k).portArg field).filter _) = some port := found' k
      rw [(Option.filter_eq_some_iff.1 this).1]
      rfl
    refine .of_body rfl taken rfl (fun k => ?_) (fun k => ?_) (epoch := by split <;> rfl)
    · simp [bodyPortCountersRead, arg, found', hclear]
    · by_cases clears : clear = 1
      · simp only [bodyPortCountersRead, found', clears, if_true]
        rfl
      · simp only [bodyPortCountersRead, found', clears, if_false]
        rfl
  case admin =>
    intro s h field up port c taken found config used hup
    have found' (k : Book) : (s.book k).frontArg field = some port := found
    refine .of_body rfl taken rfl (fun k => ?_) (fun k => ?_)
    · exact frontChecks_pass (s := s.book k) found config used (by simp [hup])
    · simp only [bodyPortAdmin, writeBody, found', Option.bind_some, book_ports, config, Option.map_some]
  case opticsRead =>
    intro s h p taken read hcontroller hdev least most ack
    refine .of_body rfl taken ?_ (fun k => ?_) (fun k => ?_) (hchanges := ?_)
    · simp [bodyPortOpticsAccess, read]
    · simp [bodyPortOpticsAccess, outside_eq_false_iff, hcontroller, hdev, least, most, read]
    · simp [bodyPortOpticsAccess, ack, read]
    · simp [bodyPortOpticsAccess, read]
  case opticsWrite =>
    intro s h p taken write hcontroller hdev least most ack
    refine .of_body rfl taken ?_ (fun k => ?_) (fun k => ?_) (hchanges := ?_)
    · simp [bodyPortOpticsAccess, write]
    · simp [bodyPortOpticsAccess, outside_eq_false_iff, hcontroller, hdev, least, most, write]
    · simp only [bodyPortOpticsAccess, ack, write, Bool.not_true, Bool.false_eq_true, if_false]
      rfl
    · simp [bodyPortOpticsAccess, write]
  case prbs =>
    intro s h p port c taken hpattern hdir found config used down hmask
    have found' (k : Book) : (s.book k).frontArg p.port = some port := found
    have lanes (k : Book) : (s.book k).lanesOfField p.port = c.lanes := by
      simp [State.lanesOfField, found', config]
    refine .of_body rfl taken rfl (fun k => ?_) (fun k => ?_)
    · have rest := testChecks_pass (s := s.book k) found config used down (cs := [(decide (p.laneMask ≥ 2 ^ (s.book k).lanesOfField p.port), (0x01E1, 4))])
        (firstErr_cons_eq_none_iff.2 ⟨by rw [lanes]; exact decide_eq_false (Nat.not_le.2 hmask), rfl⟩)
      exact firstErr_cons_eq_none_iff.2 ⟨decide_eq_false (Nat.not_lt.2 hpattern),
        firstErr_cons_eq_none_iff.2 ⟨decide_eq_false (Nat.not_lt.2 hdir), rest⟩⟩
    · simp only [bodyDiagPrbs, found']
      rfl
  case loopback =>
    intro s h field mode port c taken hmode hpower found config used down
    have found' (k : Book) : (s.book k).frontArg field = some port := found
    refine .of_body rfl taken rfl (fun k => ?_) (fun k => ?_)
    · have rest := testChecks_pass (s := s.book k) found config used down (cs := []) rfl
      rw [List.append_nil] at rest
      refine firstErr_cons_eq_none_iff.2 ⟨decide_eq_false (Nat.not_lt.2 hmode), firstErr_cons_eq_none_iff.2 ⟨?_, rest⟩⟩
      rw [book_power]
      obtain power | power := hpower <;> rw [power] <;> rfl
    · simp only [bodyDiagLoopback, writeBody, found']
      rfl
  case eye =>
    intro s h field lane measured port c taken found config used down hlane
    have found' (k : Book) : (s.book k).frontArg field = some port := found
    have lanes (k : Book) : (s.book k).lanesOfField field = c.lanes := by
      simp [State.lanesOfField, found', config]
    refine .of_body rfl taken rfl (fun k => ?_) (fun k => rfl)
    exact testChecks_pass (s := s.book k) found config used down
      (firstErr_cons_eq_none_iff.2 ⟨by rw [lanes]; exact decide_eq_false (Nat.not_le.2 hlane), rfl⟩)
  case registers =>
    intro s h addr count taken aligned within least most
    refine .of_body rfl taken rfl (fun k => ?_) (fun k => rfl)
    refine firstErr_eq_none_iff.2 ?_
    simp
    omega
  case inject =>
    intro s h p taken service least most hseverity hcount hcount' hunit
    refine .of_body rfl taken rfl (fun k => ?_) (fun k => rfl)
    simp [bodyDiagErrorInject, writeBody, outside_eq_false_iff, service, least, most, hseverity, hcount, hcount']
    exact hunit
  case memory =>
    intro s h memory failing taken service
    refine .of_body rfl taken rfl (fun k => ?_) (fun k => ⟨false, _, rfl, rfl⟩)
    simp [bodyDiagMemTest, service]

end Sys2Proof.Machine
end

section
/-! Sequence windows and the audit ring (R417, R456 to R460). -/

namespace Sys2Proof.Machine

/-! ## The map of a window -/

section
variable {m d i : Nat}

/-- A map moved up by `d` places, with the mark of the newest SEQ at place 0. -/
theorem testBit_shifted (pos : 0 < d) :
    (wrap 64 (m <<< d) + 1).testBit i = (decide (i = 0) || (decide (d ≤ i) && decide (i < 64) && m.testBit (i - d))) := by
  have even : wrap 64 (m <<< d) % 2 = 0 := by
    have := Nat.testBit_shiftLeft (x := m) (i := d) (j := 0)
    simp only [wrap]
    rw [Nat.mod_mod_of_dvd _ (by decide), Nat.shiftLeft_eq, Nat.mul_mod, Nat.pow_mod, Nat.mod_self, Nat.zero_pow pos]
    rfl
  cases i with
  | zero => simp [Nat.testBit_zero, Nat.add_mod, even]
  | succ i =>
    have half : (wrap 64 (m <<< d) + 1) / 2 = wrap 64 (m <<< d) / 2 := by omega
    rw [Nat.testBit_succ, half, ← Nat.testBit_succ]
    rw [wrap, Nat.testBit_mod_two_pow, Nat.testBit_shiftLeft]
    cases decide (i + 1 < 64) <;> simp

theorem shifted_lt (pos : 0 < d) : wrap 64 (m <<< d) + 1 < 2 ^ 64 := by
  refine Nat.lt_pow_two_of_testBit _ fun i hi => ?_
  rw [testBit_shifted pos]
  simp [show i ≠ 0 by omega, show ¬ i < 64 by omega]

end

namespace Window

section
variable {w : Window} {q r : Nat}

theorem holds_iff : w.holds r = true ↔ r ≤ w.h ∧ w.h < r + 64 ∧ w.map.testBit (w.h - r) = true := by
  simp only [holds, Bool.and_eq_true, decide_eq_true_eq, and_assoc]
  constructor <;> rintro ⟨a, b, c⟩ <;> exact ⟨a, by omega, c⟩

theorem check_eq_seen_iff : w.check q = .seen ↔ w.holds q = true := by
  unfold check
  rw [holds_iff]
  split
  · next above => simp [Nat.not_le.2 above]
  · split
    · next behind => simp; omega
    · split <;> simp_all
      omega

theorem check_eq_replay_iff : w.check q = .replay ↔ q + 64 ≤ w.h := by
  unfold check
  split
  · simp; omega
  · split
    · simp; omega
    · split <;> simp <;> omega

theorem check_eq_fresh_iff : w.check q = .fresh ↔ w.h < q ∨ w.h < q + 64 ∧ w.holds q = false := by
  have seen := check_eq_seen_iff (w := w) (q := q)
  have replay := check_eq_replay_iff (w := w) (q := q)
  by_cases above : w.h < q
  · simp [check, above]
  · rw [← Bool.not_eq_true, ← seen]
    cases found : w.check q <;> simp_all

theorem record_of_above (above : w.h < q) :
    (w.record q).h = q ∧ (w.record q).map = (if q - w.h ≥ 64 then 0 else wrap 64 (w.map <<< (q - w.h))) + 1 := by
  simp [record, above]

theorem record_of_within (within : q ≤ w.h) : (w.record q).h = w.h ∧ (w.record q).map = setBit w.map (w.h - q) true := by
  simp [record, Nat.not_lt.2 within]

theorem record_h : (w.record q).h = max w.h q := by
  rcases Nat.lt_or_ge w.h q with above | within
  · rw [(record_of_above above).1, Nat.max_eq_right above.le]
  · rw [(record_of_within within).1, Nat.max_eq_left within]

theorem record_map_lt (small : w.map < 2 ^ 64) (fresh : w.check q = .fresh) : (w.record q).map < 2 ^ 64 := by
  rcases Nat.lt_or_ge w.h q with above | within
  · rw [(record_of_above above).2]
    split
    · decide
    · exact shifted_lt (by omega)
  · have near : w.h < q + 64 := (check_eq_fresh_iff.1 fresh).elim (by omega) And.left
    rw [(record_of_within within).2]
    refine Nat.lt_pow_two_of_testBit _ fun i hi => ?_
    rw [testBit_setBit_of_ne (by omega)]
    exact Nat.testBit_lt_two_pow (small.trans_le (Nat.pow_le_pow_right (by decide) hi))

/-- Recording a SEQ marks it, keeps the marks that still lie in the window, and marks nothing else. -/
theorem record_holds_iff (fresh : w.check q = .fresh) :
    (w.record q).holds r = true ↔ r = q ∨ w.holds r = true ∧ (w.record q).h < r + 64 := by
  simp only [holds_iff]
  rcases Nat.lt_or_ge w.h q with above | within
  · obtain ⟨h_eq, map_eq⟩ := record_of_above above
    rw [h_eq, map_eq]
    by_cases far : q - w.h ≥ 64
    · rw [if_pos far, Nat.zero_add, Nat.testBit_one_eq_true_iff_self_eq_zero]
      omega
    · rw [if_neg far, testBit_shifted (by omega)]
      simp only [Bool.or_eq_true, Bool.and_eq_true, decide_eq_true_eq]
      rw [show q - r - (q - w.h) = w.h - r by omega]
      constructor
      · rintro ⟨le, near, here | ⟨⟨up, _⟩, marked⟩⟩
        · exact .inl (by omega)
        · exact .inr ⟨⟨by omega, by omega, marked⟩, near⟩
      · rintro (rfl | ⟨⟨le, near, marked⟩, still⟩)
        · exact ⟨le_rfl, by omega, .inl (by omega)⟩
        · exact ⟨by omega, still, .inr ⟨⟨by omega, by omega⟩, marked⟩⟩
  · have near : w.h < q + 64 := (check_eq_fresh_iff.1 fresh).elim (by omega) And.left
    obtain ⟨h_eq, map_eq⟩ := record_of_within within
    rw [h_eq, map_eq, testBit_setBit]
    by_cases same : r = q
    · subst same
      simp [within, near]
    · by_cases le : r ≤ w.h
      · rw [if_neg (by omega)]
        simp only [same, false_or, and_assoc]
        constructor
        · exact fun ⟨a, b, c⟩ => ⟨a, b, c, b⟩
        · exact fun ⟨a, b, c, _⟩ => ⟨a, b, c⟩
      · simp [same, le]

/-- A SEQ that the window no longer takes: one that it marks, or one below it. -/
def used (w : Window) (q : Nat) : Prop := w.map < 2 ^ 64 ∧ (q + 64 ≤ w.h ∨ w.holds q = true)

theorem used.not_fresh (u : w.used q) : w.check q ≠ .fresh := by
  obtain ⟨-, behind | marked⟩ := u
  · rw [check_eq_replay_iff.2 behind]; decide
  · rw [check_eq_seen_iff.2 marked]; decide

theorem used_record_self (small : w.map < 2 ^ 64) (fresh : w.check q = .fresh) : (w.record q).used q :=
  ⟨record_map_lt small fresh, .inr ((record_holds_iff fresh).2 (.inl rfl))⟩

/-- A later SEQ leaves a used one used: its mark stays in the window or falls below it. -/
theorem used.record {x : Nat} (u : w.used q) (fresh : w.check x = .fresh) : (w.record x).used q := by
  obtain ⟨small, spent⟩ := u
  refine ⟨record_map_lt small fresh, ?_⟩
  rcases Nat.lt_or_ge (w.record x).h (q + 64) with near | behind
  · refine .inr ((record_holds_iff fresh).2 (.inr ⟨spent.resolve_left ?_, near⟩))
    have := record_h (w := w) (q := x)
    omega
  · exact .inl behind

theorem used.forEach (xs : List Nat) (u : w.used q) :
    (forEach xs w (fun x v => if v.check x = .fresh then v.record x else v)).used q := by
  induction xs generalizing w with
  | nil => exact u
  | cons x xs ih =>
    refine ih ?_
    dsimp only
    split
    · next fresh => exact u.record fresh
    · exact u

end

end Window

/-! ## The audit ring -/

theorem lastN_concat {α : Type} {n : Nat} (pos : 0 < n) (xs : List α) (x : α) : lastN n (xs ++ [x]) = lastN (n - 1) xs ++ [x] := by
  obtain ⟨n, rfl⟩ : ∃ m, n = m + 1 := ⟨n - 1, by omega⟩
  simp [lastN]

theorem lastN_eq_drop {α : Type} (n : Nat) (xs : List α) : lastN n xs = xs.drop (xs.length - n) := by
  rw [lastN, List.take_reverse, List.reverse_reverse]

theorem length_lastN {α : Type} (n : Nat) (xs : List α) : (lastN n xs).length = min n xs.length := by simp [lastN]

/-- What an entry leaves of the ring: itself as the newest one. -/
structure Entered (a b : Audit) (e : AuditEntry) : Prop where
  ring : b.ring = lastN 4096 (a.ring ++ [e])
  last : b.last = e.entryNo
  head : b.head = e.link
  number : e.entryNo = a.last + 1
  prev : e.prevLink = a.head
  hold : b.hold = a.hold
  exported : b.exported = a.exported

theorem Entered.chained {a b : Audit} {e : AuditEntry} (entered : Entered a b e) (chain : a.chained) : b.chained := by
  obtain ⟨links, newest⟩ := chain
  have ring := entered.ring
  rw [lastN_concat (by decide), lastN_eq_drop] at ring
  have tail : (a.ring.drop (a.ring.length - (4096 - 1))).getLast?.toList ⊆ a.ring.getLast?.toList := by
    rw [List.getLast?_drop]
    split <;> simp
  generalize a.ring.length - (4096 - 1) = n at ring tail
  refine ⟨fun k x y hx hy plain => ?_, fun x hx => ?_⟩
  · rw [ring] at hx hy
    rcases Nat.lt_trichotomy (k + 1) (a.ring.drop n).length with inside | last | out
    · rw [List.getElem?_append_left (by omega), List.getElem?_drop] at hx hy
      exact links _ x y hx hy plain
    · rw [List.getElem?_append_right (by omega), last, Nat.sub_self] at hy
      obtain rfl : e = y := by simpa using hy
      rw [List.getElem?_append_left (by omega)] at hx
      have isLast : (a.ring.drop n).getLast? = some x := by
        rw [List.getLast?_eq_getElem?, ← last]; exact hx
      obtain ⟨number, link⟩ := newest x (by simpa [isLast] using tail)
      exact ⟨entered.number.trans (by rw [number]), entered.prev.trans link⟩
    · rw [List.getElem?_eq_none (by rw [List.length_append, List.length_singleton]; omega)] at hy
      cases hy
  · rw [ring, List.getLast?_concat] at hx
    cases hx
    exact ⟨entered.last, entered.head⟩

section
variable (s : State)

@[simp] theorem reserveEntry_roles (n : Nat) : (reserveEntry n s).roles = s.roles := by
  unfold reserveEntry
  split <;> rfl

theorem le_reserveEntry (n : Nat) : n ≤ (reserveEntry n s).flash.reservation := by
  unfold reserveEntry
  split
  · exact Nat.le_add_right ..
  · next h => exact Nat.not_lt.1 h

/-- An entry that is put in the ring, and is covered by the reservation. -/
theorem putAudit_entered (e : AuditEntry) (number : e.entryNo = s.roles.audit.last + 1) (prev : e.prevLink = s.roles.audit.head) :
    Entered s.roles.audit (putAudit e s).roles.audit e ∧ e.entryNo ≤ (putAudit e s).flash.reservation := by
  have entered : Entered s.roles.audit (enterAudit e (reserveEntry e.entryNo s)).roles.audit e := by
    constructor <;> simp [enterAudit, number, prev]
  have reserved : e.entryNo ≤ (enterAudit e (reserveEntry e.entryNo s)).flash.reservation := le_reserveEntry s e.entryNo
  unfold putAudit
  dsimp only
  split
  · rw [raise_roles, raise_flash]
    exact ⟨entered, reserved⟩
  · exact ⟨entered, reserved⟩

/-- An entry that the hold does not hold back. -/
theorem offerAudit_entered (e : AuditEntry) (free : s.roles.audit.full = false ∨ e.kind ∈ [0x03, 0x05, 0x06]) :
    Entered s.roles.audit (offerAudit e s).roles.audit { e with entryNo := s.roles.audit.last + 1, prevLink := s.roles.audit.head } ∧
      s.roles.audit.last + 1 ≤ (offerAudit e s).flash.reservation := by
  have goes : (s.roles.audit.full && !([0x03, 0x05, 0x06].contains e.kind)) = false := by
    rcases free with free | free
    · rw [free]; rfl
    · rw [List.contains_iff_mem.2 free]; simp
  rw [offerAudit, goes]
  exact putAudit_entered s { e with entryNo := s.roles.audit.last + 1, prevLink := s.roles.audit.head } rfl rfl

theorem offerAudit_held (e : AuditEntry) (full : s.roles.audit.full = true) (kind : e.kind ∉ [0x03, 0x05, 0x06]) :
    offerAudit e s = { s with roles.audit.heldBack := s.roles.audit.heldBack ++ [e] } := by
  have : (s.roles.audit.full && !([0x03, 0x05, 0x06].contains e.kind)) = true := by
    rw [full, Bool.true_and, Bool.not_eq_true', ← Bool.not_eq_true, List.contains_iff_mem]
    exact kind
  rw [offerAudit, this]
  rfl

/-- An entry enters the ring or is held back. -/
theorem offerAudit_cases (e : AuditEntry) :
    (∃ f, Entered s.roles.audit (offerAudit e s).roles.audit f) ∨
      offerAudit e s = { s with roles.audit.heldBack := s.roles.audit.heldBack ++ [e] } := by
  by_cases free : s.roles.audit.full = false ∨ e.kind ∈ [0x03, 0x05, 0x06]
  · exact .inl ⟨_, (offerAudit_entered s e free).1⟩
  · rw [not_or, Bool.not_eq_false] at free
    exact .inr (offerAudit_held s e free.1 free.2)

theorem offerAudit_chained (e : AuditEntry) (chain : s.roles.audit.chained) : (offerAudit e s).roles.audit.chained := by
  obtain ⟨f, entered⟩ | held := offerAudit_cases s e
  · exact entered.chained chain
  · rw [held]
    exact chain

theorem le_last_offerAudit (e : AuditEntry) : s.roles.audit.last ≤ (offerAudit e s).roles.audit.last := by
  obtain ⟨f, entered⟩ | held := offerAudit_cases s e
  · rw [entered.last, entered.number]
    exact Nat.le_succ _
  · rw [held]

end

/-! ## The answer leaves the ring alone -/

section
variable (s : State)

theorem answerDescriptor_roles (c st d n w : Nat) : (answerDescriptor c st d n w s).roles = s.roles := by
  unfold answerDescriptor
  split
  · rfl
  · dsimp only
    split <;> rfl

theorem postCompat_roles (bs : Bytes) : (postCompat bs s).roles = s.roles := by
  unfold postCompat placeRsp collide
  split <;> simp

theorem dmaPut_roles (a : Nat) (p : Bytes) : (dmaPut a p s).roles = s.roles := by
  unfold dmaPut
  split <;> rfl

theorem carry_roles (r : Reply) (g : Nat) : (carry r g s).roles = s.roles := by
  unfold carry
  split
  · rfl
  · exact postCompat_roles s _
  · split
    · rfl
    · split <;> simp only [answerDescriptor_roles, raise_roles, dmaPut_roles]
  · rfl
  · rfl

theorem suppress_roles (r : Reply) : (suppress r s).roles = s.roles := by
  unfold suppress
  split
  · exact answerDescriptor_roles ..
  · rfl

theorem respond_roles (opcode : Nat) (h : Ocf) (gen : Nat) (r : Reply) : (respond opcode h gen r s).roles = s.roles := by
  unfold respond
  dsimp only
  split
  · rw [suppress_roles]
    split <;> rfl
  · rw [deliver, carry_roles]
    split <;> rfl

theorem keepReply_roles (k : Kept) : (keepReply k s).roles = s.roles := by
  unfold keepReply
  split
  · rfl
  · split
    · rfl
    · exact useWindow_roles ..

theorem answerFrame_roles (opcode : Nat) (h : Ocf) (key : Option Bytes) (gen status detail : Nat) (res : Results) :
    (answerFrame opcode h key gen status detail res s).roles = s.roles := by
  rw [answerFrame, respond_roles, keepReply_roles]

end

/-- The entry of a command, as `auditCommand` offers it. -/
def State.commandEntry (s : State) (kind opcode : Nat) (h : Ocf) (status data : Nat) : AuditEntry :=
  { s.auditBase kind data with
    role := h.role, keyId := h.keyId, sender := h.sender, opcode := opcode, status := status, seq := h.seq,
    channel := h.transport.auditChannel, digest := beNat (sha256 (fit h.length h.params)) }

/-- A command's entry that the hold does not hold back. -/
theorem auditCommand_entered (s : State) {kind : Nat} (opcode : Nat) (h : Ocf) (status data : Nat)
    (free : s.roles.audit.full = false ∨ kind ∈ [0x03, 0x05, 0x06]) :
    Entered s.roles.audit (auditCommand kind opcode h status data s).roles.audit (s.commandEntry kind opcode h status data) ∧
      s.roles.audit.last + 1 ≤ (auditCommand kind opcode h status data s).flash.reservation :=
  offerAudit_entered s (s.commandEntry kind opcode h status data) free

/-- A frame of a wrong length that was recorded is answered 0x0107, with its RESULT entry where Table 10-8 asks for one. -/
theorem execute_of_length {bodyOf : Instr → Option Body} {c : Instr} {h : Ocf} {b : Body} (key : Option Bytes) (gen : Nat) (s : State)
    (alone : h.isMember = false) (audited : b.audited h = true) (length : b.lenOk h.length = false) :
    execute bodyOf c h b key gen s = answerFrame b.opcode h key gen 0x0107 0xFFFF [] (auditCommand 0x02 b.opcode h 0x0107 0 s) := by
  have bad : ownError h b s s = some (0x0107, 0xFFFF) := by rw [ownError, length]; rfl
  simp only [execute, alone, bad, conclude, audited]
  rfl

/-- A frame that passes steps 1 to 10 is taken in. -/
theorem ocfRun_of_pass {bodyOf : Instr → Option Body} {c : Instr} {h : Ocf} {b : Body} {s : State} {key : Option Bytes} (accepts : s.accepts = true)
    (starts : s.mayStart b.opcode b.changes h = true) (pass : s.gate h b.opcode b.changes b.toFactory = .pass key) :
    ∃ gen x, ocfRun bodyOf c h b s = takeIn bodyOf c h b key gen { s with ocf.intake := x } := by
  obtain ⟨gen, x, taken⟩ := takeIntake_eq b.opcode h s
  refine ⟨gen, x, ?_⟩
  rw [ocfRun, accepts, starts, taken]
  simp only [Bool.and_self, Bool.not_true, Bool.false_eq_true, if_false, gate_intake, pass]

/-- The ring is not held full where it has no hold or room for an entry. -/
theorem full_eq_false {a : Audit} (room : a.hold = false ∨ a.ring.length < 4096) : a.full = false := by
  unfold Audit.full
  rcases room with free | short
  · rw [free]; rfl
  · rw [decide_eq_false (Nat.not_le.2 short), Bool.and_false, Bool.false_and]

end Sys2Proof.Machine

open Sys2Proof.Machine

/-- Settles O56: a SEQ once recorded stays marked in its window, or falls below it. -/
theorem sequenceWindows : Obligations.SequenceWindows := by
  unfold Obligations.SequenceWindows
  refine ⟨fun w q => ⟨Window.check_eq_fresh_iff, Window.check_eq_replay_iff, Window.check_eq_seen_iff⟩, fun w q r fresh small => ?_,
    fun w qs q small fresh => ?_, fun q pos => Window.check_eq_fresh_iff.2 (.inl pos)⟩
  · exact ⟨Window.record_holds_iff fresh, Window.record_h, Window.record_map_lt small fresh⟩
  · exact ((Window.used_record_self small fresh).forEach qs).not_fresh

/-- Settles O59: every entry goes through `offerAudit`, which puts it at the end of the chain or holds it back. -/
theorem auditChain : Obligations.AuditChain := by
  unfold Obligations.AuditChain
  refine ⟨fun s kind data => offerAudit_chained s _, fun s kind opcode h status data => offerAudit_chained s _,
    fun s kind opcode h status data full held => ⟨_, offerAudit_held s _ full held⟩, fun s kind opcode h status data free => ?entered, ?rejected⟩
  case entered =>
    obtain ⟨entered, reserved⟩ := auditCommand_entered s opcode h status data free
    exact ⟨_, _, rfl, entered.ring, entered.last, entered.head, reserved, rfl, rfl, rfl, rfl, rfl, rfl, rfl, rfl, rfl, rfl, rfl, rfl⟩
  case rejected =>
    intro c s h b key frame accepts starts changes pass room alone length
    obtain ⟨gen, x, run⟩ := ocfRun_of_pass (bodyOf := bodyOf) (c := c) (h := h) (b := b) accepts (by rw [changes]; exact starts) (by rw [changes]; exact pass)
    have audited : b.audited h = true := by rw [Body.audited, changes]; rfl
    simp only [takeIn] at run
    generalize h₀ : recordSeq h { s with ocf.intake := x } = s₀ at run
    have audit₀ : s₀.roles.audit = s.roles.audit := by rw [← h₀, recordSeq_roles]
    have free₀ : s₀.roles.audit.full = false := by rw [audit₀]; exact full_eq_false (room.imp_right (by omega))
    rw [free₀, Bool.and_false, Bool.false_and, if_neg Bool.false_ne_true, if_pos audited] at run
    rw [execute_of_length _ _ _ alone audited length] at run
    obtain ⟨first, -⟩ := auditCommand_entered s₀ b.opcode h 0 0 (kind := 0x01) (.inl free₀)
    generalize auditCommand 0x01 b.opcode h 0 0 s₀ = s₁ at first run
    have free₁ : s₁.roles.audit.full = false := by
      refine full_eq_false (room.imp (fun free => by rw [first.hold, audit₀, free]) fun short => ?_)
      rw [first.ring, length_lastN, audit₀, List.length_append, List.length_singleton]
      omega
    obtain ⟨second, -⟩ := auditCommand_entered s₁ b.opcode h 0x0107 0 (kind := 0x02) (.inl free₁)
    refine ⟨_, s₀.commandEntry 0x01 b.opcode h 0 0, s₁.commandEntry 0x02 b.opcode h 0x0107 0, (exec_of_frameOf s frame).trans (congrArg _ run), ?_,
      rfl, rfl, rfl, ?_, ?_, rfl, rfl, rfl, rfl, ?_, ?_⟩
    · rw [answerFrame_roles, ← audit₀, ← first.ring]
      exact second.ring
    · rw [← audit₀]; rfl
    · rw [← audit₀]; rfl
    · rw [← first.last]; rfl
    · exact first.head

end

section
/-! The security and audit commands (chapter 10). -/

namespace Sys2Proof.Machine

/-! ## A taken frame, with what its records keep of the audit ring -/

section
variable {c : Instr} {h : Ocf} {b : Body} {s : State} {o len : Nat} {changes : Bool}

/-- A frame that passed step 12 runs, or is refused by its own check. -/
theorem execute_of_own {pending : Bool} {bodyOf : Instr → Option Body} (key : Option Bytes) (gen : Nat) (t : State) (taken : Taken s h o changes pending len)
    (opcode : b.opcode = o) (length : b.lenOk len = true) (pends : t.pendError h b.pending = none) (check : b.check t = none) :
    execute bodyOf c h b key gen t = perform h b key gen t := by
  have fits : (decide (h.length > 16256) && b.opcode != 0x0B06) = false := by
    rcases taken.fits with short | image
    · simp [Nat.not_lt.2 short]
    · simp [opcode, image]
  have own : ownError h b t t = none := by
    rw [ownError, fits, taken.length, length, taken.reserved, pends]
    exact check
  simp only [execute, taken.alone, own, Bool.false_eq_true, if_false]

/-- Two states have the same sequence windows and floors. -/
def SameWindows (s t : State) : Prop :=
  s.ocf.windows = t.ocf.windows ∧ s.ocf.estateWindows = t.ocf.estateWindows ∧ s.ocf.floors = t.ocf.floors

/-- The intake is no part of a window. -/
theorem recordSeq_intake (x : List IntakeEntry) : SameWindows (recordSeq h { s with ocf.intake := x }) (recordSeq h s) := by
  unfold recordSeq
  split
  · exact ⟨rfl, rfl, rfl⟩
  · unfold useWindow
    dsimp only
    split <;> exact ⟨rfl, rfl, rfl⟩

/-- The records that a taken frame leaves: no entry is lost, its SEQ is recorded, and where the frame changes no state the ring stands as it was. -/
theorem exec_taken_ring {pending : Bool} (frame : frameOf c = some (h, b)) (opcode : b.opcode = o) (hchanges : b.changes = changes)
    (hpending : b.pending = pending) (taken : Taken s h o changes pending len) (notFactory : b.toFactory = false) (length : b.lenOk len = true)
    (check : ∀ k : Book, s.roles.audit.last ≤ k.last → b.check (s.book k) = none) :
    ∃ (key : Option Bytes) (gen : Nat) (k : Book), k.sent = s.ocf.sent ∧ s.roles.audit.last ≤ k.last ∧
      (changes = false → k.ring = s.roles.audit.ring ∧ k.head = s.roles.audit.head) ∧ SameWindows (s.book k) (recordSeq h s) ∧
      exec c s = .next (perform h b key gen (s.book k)) := by
  subst opcode hchanges hpending
  obtain ⟨key, pass⟩ := taken.gate
  obtain ⟨gen, x, run⟩ := ocfRun_of_pass (bodyOf := bodyOf) (c := c) (h := h) (b := b) taken.accepts taken.starts (by rw [notFactory]; exact pass)
  have room : (b.changes && s.roles.audit.full && b.opcode != 0x0B0A) = false := by
    cases change : b.changes with
    | false => rfl
    | true => rw [taken.room change]; rfl
  simp only [takeIn, recordSeq_roles, room, Bool.false_eq_true, if_false] at run
  have booked₀ : Booked s (recordSeq h { s with ocf.intake := x }) :=
    recordSeq_booked h ((Booked.refl s).lit { s.books with intake := x } rfl)
  have sent₀ : (recordSeq h { s with ocf.intake := x }).ocf.sent = s.ocf.sent := recordSeq_sent h _
  have roles₀ : (recordSeq h { s with ocf.intake := x }).roles = s.roles := recordSeq_roles h _
  have windows₀ : SameWindows (recordSeq h { s with ocf.intake := x }) (recordSeq h s) := recordSeq_intake x
  generalize recordSeq h { s with ocf.intake := x } = s₀ at run booked₀ sent₀ roles₀ windows₀
  have result : ∃ k : Book, (if b.audited h then auditCommand 0x01 b.opcode h 0 0 s₀ else s₀) = s.book k ∧ k.sent = s.ocf.sent ∧
      s.roles.audit.last ≤ k.last ∧ (b.changes = false → k.ring = s.roles.audit.ring ∧ k.head = s.roles.audit.head) ∧
      SameWindows (s.book k) (recordSeq h s) := by
    split
    · next audited =>
      have change : b.changes = true := by simpa [Body.audited, taken.alone] using audited
      obtain ⟨k, eq⟩ := auditCommand_booked 0x01 b.opcode h 0 0 booked₀
      have last := le_last_offerAudit s₀ (s₀.commandEntry 0x01 b.opcode h 0 0)
      have ocf := auditCommand_ocf 0x01 b.opcode h 0 0 s₀
      refine ⟨k, eq, ?_, ?_, fun no => absurd no (by rw [change]; decide), ?_⟩
      · rw [← sent₀, ← ocf, eq]
        rfl
      · rw [roles₀, show offerAudit (s₀.commandEntry 0x01 b.opcode h 0 0) s₀ = s.book k from eq] at last
        exact last
      · rw [← eq, SameWindows, ocf]
        exact windows₀
    · obtain ⟨k, eq⟩ := booked₀
      subst eq
      have ring : k.ring = s.roles.audit.ring := congrArg (·.audit.ring) roles₀
      have last : k.last = s.roles.audit.last := congrArg (·.audit.last) roles₀
      have head : k.head = s.roles.audit.head := congrArg (·.audit.head) roles₀
      exact ⟨k, rfl, sent₀, last.ge, fun _ => ⟨ring, head⟩, windows₀⟩
  obtain ⟨k, eq, sent, last, kept, windows⟩ := result
  rw [eq, execute_of_own key gen (s.book k) taken rfl length (by rw [pendError_book]; exact taken.tag) (check k last)] at run
  exact ⟨key, gen, k, sent, last, kept, windows, (exec_of_frameOf s frame).trans (congrArg _ run)⟩

/-- A command runs on the records that its frame left. -/
theorem Runs.of_perform {t : State} {res : Results} {key : Option Bytes} {gen : Nat} {k k' : Book} (row : exec c s = .next (perform h b key gen (s.book k)))
    (sent : k'.sent = s.ocf.sent) (applied : b.apply (s.book k) = { st := t.book k', results := res }) (opcode : b.opcode = o := by rfl)
    (notPending : b.pending = false := by rfl) (notLearn : o ≠ 0x0520 := by decide) (epoch : t.ocf.epoch = s.ocf.epoch := by rfl)
    (reached : t.allReached = true ∨ (tableOpcode o = false ∧ o ≠ 0x0105) := by exact .inr (by decide)) : Runs c h o s res t := by
  subst opcode
  obtain ⟨k₂, concluded, replied⟩ := conclude_replied (f := h) (b := b) (s := s) (key := key) (gen := gen) (st := 0) (res := res) (t := t) (k := k')
    notLearn rfl epoch sent
  refine ⟨k₂, row.trans (congrArg _ ?_), replied⟩
  simp only [perform, applied, notPending, Bool.false_and, Bool.false_eq_true, if_false, waitsFor_book, waitsFor_false reached]
  exact concluded

/-- A frame of MAKER that SEC_LIFECYCLE_SET to FACTORY asks for is refused by no other right than one to another state. -/
theorem gate_of_maker {opcode : Nat} (maker : h.role = 3) : s.gate h opcode changes true = s.gate h opcode changes false := by
  have right : s.hasRight h opcode changes true = s.hasRight h opcode changes false := by simp only [State.hasRight, maker]
  simp only [State.gate, right]

/-- The mark of a command to FACTORY is read at the gate only. -/
theorem ocfRun_notFactory {bodyOf : Instr → Option Body} (same : s.gate h b.opcode b.changes b.toFactory = s.gate h b.opcode b.changes false) :
    ocfRun bodyOf c h b s = ocfRun bodyOf c h { b with toFactory := false } s := by
  obtain ⟨gen, x, intake⟩ := takeIntake_eq b.opcode h s
  simp only [ocfRun, intake, gate_intake, same]
  rfl

end

/-! ## Entries in the records -/

/-- A command's entry is entered in the records only, and no reply leaves. -/
theorem auditCommand_book (kind opcode : Nat) (h : Ocf) (status data : Nat) (s : State) (k : Book) :
    ∃ k' : Book, k'.sent = k.sent ∧ auditCommand kind opcode h status data (s.book k) = s.book k' := by
  obtain ⟨k', entered⟩ := auditCommand_booked kind opcode h status data (⟨k, rfl⟩ : Booked s (s.book k))
  have sent := congrArg (·.sent) (auditCommand_ocf kind opcode h status data (s.book k))
  rw [entered] at sent
  exact ⟨k', sent, entered⟩

/-- The entries that were held back enter in the records only, and no reply leaves. -/
theorem releaseAudit_booked (s : State) (k : Book) : ∃ k' : Book, k'.sent = k.sent ∧ releaseAudit (s.book k) = s.book k' := by
  have enters : ∀ (es : List AuditEntry) (j : Book), ∃ k' : Book, k'.sent = j.sent ∧ forEach es (s.book j) offerAudit = s.book k' := by
    intro es
    induction es with
    | nil => exact fun j => ⟨j, rfl, rfl⟩
    | cons e es ih =>
      intro j
      obtain ⟨j', booked⟩ := offerAudit_booked e (⟨j, rfl⟩ : Booked s (s.book j))
      have sent : (offerAudit e (s.book j)).ocf = (s.book j).ocf := by
        unfold offerAudit
        split
        · rfl
        · exact putAudit_sent ..
      obtain ⟨k', same, rest⟩ := ih j'
      have head : (forEach (e :: es) (s.book j) offerAudit) = forEach es (offerAudit e (s.book j)) offerAudit := rfl
      refine ⟨k', same.trans ?_, by rw [head, booked, rest]⟩
      have := congrArg (·.ocf.sent) booked
      exact this.symm.trans (congrArg (·.sent) sent)
  exact enters k.heldBack { k with heldBack := [] }

/-! ## The life cycle -/

theorem lifecycleMove_factory {l : Lifecycle} {role : Nat} (move : lifecycleMove l .factory role = true) : role = 3 := by
  cases l <;> simp_all [lifecycleMove]

theorem lifecycleMove_of_void {t : Lifecycle} {role : Nat} : lifecycleMove .void t role = false := by
  cases t <;> rfl

end Sys2Proof.Machine

open Sys2Proof.Machine

/-- Settles O16: each check reads a part that the records leave alone, but for AUDIT_READ and AUDIT_ACK, which read the ring. -/
theorem securityCommandsRun : Obligations.SecurityCommandsRun := by
  unfold Obligations.SecurityCommandsRun
  refine ⟨?keyWrite, ?keyClear, ?keyStatus, ?hostAccess, ?lifecycle, ?imageWrite, ?activate, ?imageStatus, ?auditRead, ?auditAck, ?auditConfig⟩
  case keyWrite =>
    intro s h p taken slot stored
    refine .of_body rfl taken rfl (fun k => slot) (fun k => ?_)
    simp only [bodySecKeyWrite, stored]
    rfl
  case keyClear =>
    intro s h role keyId taken slot other
    refine .of_body rfl taken rfl (fun k => ?_) (fun k => rfl)
    have slot : slotError h role keyId (s.book k) = none := slot
    simp only [bodySecKeyClear, slot]
    refine if_neg fun last => other ?_
    simp only [Bool.and_eq_true, decide_eq_true_eq, and_assoc] at last
    exact last
  case keyStatus => exact fun s h taken => .of_body rfl taken rfl (fun k => rfl) (fun k => rfl)
  case hostAccess =>
    exact fun s h access taken most => .of_body rfl taken rfl (fun k => if_neg (Nat.not_lt.2 most)) (fun k => rfl)
  case lifecycle =>
    intro s h target t taken named service move count condition
    have factory : (bodySecLifecycleSet h target s.flash.serial true).toFactory = true → h.role = 3 := fun zero => by
      have zero : target = 0 := of_decide_eq_true zero
      subst zero
      cases named
      exact lifecycleMove_factory move
    have same : s.gate h 0x0B05 true (bodySecLifecycleSet h target s.flash.serial true).toFactory = s.gate h 0x0B05 true false := by
      cases mark : (bodySecLifecycleSet h target s.flash.serial true).toFactory with
      | false => rfl
      | true => exact gate_of_maker (factory mark)
    have run := (exec_of_frameOf s (c := .secLifecycleSet h target s.flash.serial true) rfl).trans (congrArg _ (ocfRun_notFactory (bodyOf := bodyOf) same))
    refine Runs.of run taken rfl rfl rfl (by simp [bodySecLifecycleSet]) rfl (waitsFor_false (.inr ⟨rfl, by simp [bodySecLifecycleSet]⟩)) fun k sent => ⟨?_, ?_⟩
    · show lifecycleError h target s.flash.serial (s.book k) = none
      have service : decide ((s.book k).power.mode = .service) = false := decide_eq_false service
      have move : lifecycleMove (s.book k).flash.lifecycle t h.role = true := move
      have condition : lifecycleCondition (s.book k).flash.lifecycle t (s.book k) = true := condition
      have entries : ((s.book k).flash.lifecycle = .factory && t = .field && (s.book k).flash.fieldEntries ≥ 8) = false := by
        rw [← Bool.not_eq_true]
        intro full
        simp only [Bool.and_eq_true, decide_eq_true_eq] at full
        exact Nat.not_le.2 (count full.1.1 full.1.2) full.2
      have serial : (s.flash.serial != (s.book k).flash.serial) = false := bne_self_eq_false _
      simp only [lifecycleError, named, service, move, condition, entries, serial]
      rfl
    · obtain ⟨k', same, entered⟩ := auditCommand_book 0x05 0x0B05 h 0 (s.flash.lifecycle.code * 2 ^ 40 + t.code * 2 ^ 32) s k
      refine ⟨k', same.trans sent, ?_⟩
      have notVoid : s.flash.lifecycle ≠ .void := fun void => by
        rw [void, lifecycleMove_of_void] at move
        cases move
      have entered : auditCommand 0x05 0x0B05 h 0 ((s.book k).flash.lifecycle.code * 2 ^ 40 + t.code * 2 ^ 32) (s.book k) = s.book k' := entered
      have notVoid : ¬(s.book k').flash.lifecycle = .void := notVoid
      simp only [bodySecLifecycleSet, named, Option.getD_some, Bool.not_true, Bool.false_eq_true, if_false, entered, if_neg notVoid]
      by_cases field : t = .field
      · simp only [field, if_true]
        rfl
      · simp only [field, if_false]
        rfl
  case imageWrite =>
    intro s h p taken most inside data stored
    refine .of_body rfl taken ?_ (fun k => ?_) (fun k => ?_)
    · simp [bodySecFwWrite, most]
    · simp [bodySecFwWrite, data, inside]
    · simp only [bodySecFwWrite, stored]
      cases copy : s.boot.copyB <;> simp [copy] <;> rfl
  case activate =>
    intro s h floor taken most verified
    refine .of_booked rfl taken rfl (fun k => ?_) (fun k => ?_)
    · exact (if_neg (Nat.not_lt.2 most)).trans (if_neg (by rw [bne_iff_ne, not_not]; exact verified))
    · obtain ⟨k', same, entered⟩ := auditCommand_book 0x07 0x0B07 h 0 0 { s with
        flash.preferB := !s.boot.copyB
        flash.rollbackFloor :=
          if floor = 1 then max s.flash.rollbackFloor (imageField (s.image !s.boot.copyB) 8 4) else s.flash.rollbackFloor } k
      exact ⟨k', same, congrArg (fun t => ({ st := t } : Answer)) entered⟩
  case imageStatus => exact fun s h taken => .of_body rfl taken rfl (fun k => rfl) (fun k => rfl)
  case auditRead =>
    intro s h from_ count taken least most
    obtain ⟨key, gen, k, sent, -, kept, -, row⟩ := exec_taken_ring (c := .auditRead h from_ count) rfl rfl rfl rfl taken rfl rfl (fun k _ => by
      simp [bodyAuditRead, readBody]; omega)
    obtain ⟨ring, head⟩ := kept rfl
    refine .of_perform row sent ?_
    show ({ st := s.book k, results := ((k.ring.filter (fun e => from_ ≤ e.entryNo)).take count).map (fun e => blob e.bytes) ++ [(32, k.head)] } : Answer) = _
    rw [ring, head]
  case auditAck =>
    intro s h upto taken most
    obtain ⟨key, gen, k, sent, -, -, -, row⟩ := exec_taken_ring (c := .auditAck h upto) rfl rfl rfl rfl taken rfl rfl (fun k last =>
      if_neg (Nat.not_lt.2 (most.trans last)))
    obtain ⟨k', same, released⟩ := releaseAudit_booked { s with roles.audit.exported := max s.roles.audit.exported upto } k
    exact .of_perform row (same.trans sent) (congrArg (fun t => ({ st := t } : Answer)) released)
  case auditConfig =>
    exact fun s h hold taken most => .of_body rfl taken rfl (fun k => if_neg (Nat.not_lt.2 most)) (fun k => rfl)

end

section
/-! The job and engine commands (chapter 12) and the power commands (chapter 13). -/

namespace Sys2Proof.Machine

/-! ## The descriptor of a submitted job -/

section
variable {s : State} {i : WorkItem} {k : Nat}

theorem raise_if_eng {p : Prop} [Decidable p] (n : Nat) (s : State) : (if p then raise n s else s).eng = s.eng := by
  split
  · exact raise_eng n s
  · rfl

/-- A submitted item takes the lowest free descriptor and the next GEN of that handle. -/
theorem submitItem_of_free (free : (dropFreed s).freeHandle = some k) :
    ∃ t, submitItem i s = some (k, t) ∧ tgetD t.eng.gens k 0 = wrap 16 (tgetD s.eng.gens k 0 + 1) := by
  unfold submitItem
  dsimp only
  rw [free]
  refine ⟨_, rfl, ?_⟩
  rw [raise_if_eng]
  split <;> exact tgetD_tset_self ..

theorem createJob_of_free {t : State} (free : (dropFreed s).freeHandle = some k) :
    createJob i s = { st := ((submitItem i s).map Prod.snd).getD t, later := true, early := [(2, k), (2, wrap 16 (tgetD s.eng.gens k 0 + 1))] } := by
  obtain ⟨t, submitted, gen⟩ := submitItem_of_free (i := i) free
  simp only [createJob, submitted, gen, Option.map_some, Option.getD_some]

end

/-! ## The fields of JOB_SUBMIT -/

/-- The fields that every job type has lie in their ranges. -/
structure JobFieldsOk (s : State) (p : JobSubmitP) : Prop where
  priority : p.priority ≤ 47
  energyClass : p.energyClass ≤ 7
  flags : p.flags ≤ 1
  time : p.flags = 1 → p.startNs < 1000000000
  delay : p.flags = 0 → p.startS = 0
  start : s.startTick p ≤ s.estateNs / 1000 + (2 ^ 47 - 1)
  aligned : p.bufAddr % 8 = 0
  size : p.bufLen ≤ 268435456

theorem bodyJobSubmit_check {s : State} {h : Ocf} {p : JobSubmitP} {cmd : Instr} (ok : JobFieldsOk s p) (least : 1 ≤ p.jobType) (most : p.jobType ≤ 4)
    (own : firstErr (jobChecks p) = none) (onHost : p.jobType = 4 ∨ (∃ c, h.transport = .mailbox c) ∨ ∃ c a n, h.transport = .dma c a n) (k : Book) :
    (bodyJobSubmit bodyOf h p cmd).check (s.book k) = none := by
  obtain ⟨priority, energyClass, flags, time, delay, start, aligned, size⟩ := ok
  have start : ¬(s.book k).startTick p > (s.book k).estateNs / 1000 + (2 ^ 47 - 1) := Nat.not_lt.2 start
  have begins : decide (if p.flags.testBit 0 then p.startNs ≥ 1000000000 else (p.startS != 0) = true) = false := by
    obtain zero | one : p.flags = 0 ∨ p.flags = 1 := by omega
    · simp [zero, delay zero]
    · simpa [one] using time one
  have host : (p.jobType != 4 && !(match h.transport with
      | .mailbox _ => true
      | .dma _ _ _ => true
      | _ => false)) = false := by
    obtain four | ⟨c, mailbox⟩ | ⟨c, a, n, dma⟩ := onHost
    · simp [four]
    · simp [mailbox]
    · simp [dma]
  have own := firstErr_eq_none_iff.1 own
  refine firstErr_eq_none_iff.2 fun e he => ?_
  simp only [List.mem_append, List.mem_cons, List.not_mem_nil, or_false] at he
  obtain (rfl | rfl | rfl | rfl | rfl | rfl | rfl | rfl) | he | rfl := he
  · exact outside_eq_false_iff.2 ⟨least, most⟩
  · exact decide_eq_false (Nat.not_lt.2 priority)
  · exact decide_eq_false (Nat.not_lt.2 energyClass)
  · exact decide_eq_false (Nat.not_lt.2 flags)
  · exact begins
  · exact decide_eq_false start
  · exact bne_eq_false_iff_eq.2 aligned
  · exact decide_eq_false (Nat.not_lt.2 size)
  · exact own e he
  · exact host

/-! ## The gate reads the windows alone of the records -/

theorem embeddedGate_of_windows {opcode : Nat} {f : Ocf} {cmd : Instr} {s : State} {k j : Book} (same : SameWindows (s.book k) (s.book j)) :
    embeddedGate bodyOf opcode f cmd (s.book k) = embeddedGate bodyOf opcode f cmd (s.book j) := by
  obtain ⟨windows, estate, floors⟩ := same
  have alone : ∀ b : Book, embeddedGate bodyOf opcode f cmd (s.book b) = embeddedGate bodyOf opcode f cmd { s with
      ocf.windows := (s.book b).ocf.windows
      ocf.estateWindows := (s.book b).ocf.estateWindows
      ocf.floors := (s.book b).ocf.floors } := fun b => rfl
  rw [alone k, alone j, windows, estate, floors]

end Sys2Proof.Machine

open Sys2Proof.Machine

/-- Settles O17: a job takes the descriptor that `submitItem` finds, and a delayed command's gate reads the windows with the outer SEQ recorded. -/
theorem jobCommandsRun : Obligations.JobCommandsRun := by
  unfold Obligations.JobCommandsRun
  refine ⟨?hostJob, ?delayed, ?cancel, ?jobStatus, ?energyClass, ?activity, ?geyser, ?engines⟩
  case hostJob =>
    intro s h p cmd c k len taken length priority energyClass flags time delay start aligned size kind onHost free
    have free (b : Book) : (dropFreed (s.book b)).freeHandle = some k := free
    have host : (∃ c, h.transport = .mailbox c) ∨ ∃ c a n, h.transport = .dma c a n :=
      onHost.imp (fun m => ⟨c, m⟩) fun ⟨a, n, m⟩ => ⟨c, a, n, m⟩
    have ok : JobFieldsOk s p := ⟨priority, energyClass, flags, time, delay, start, aligned, size⟩
    have own : 1 ≤ p.jobType ∧ p.jobType ≤ 4 ∧ firstErr (jobChecks p) = none ∧ ∀ opcode f, p.job ≠ .delayed opcode f := by
      obtain ⟨table, select, cursor, type, job, inTable, inFlow, inLpm⟩ | ⟨count, type, job, fits⟩ | ⟨scope, type, job, inScope⟩ := kind
      · refine ⟨by omega, by omega, ?_, by simp [job]⟩
        simp [jobChecks, type, job, Nat.not_lt.2 inTable]
        omega
      · exact ⟨by omega, by omega, by simp [jobChecks, type, job, fits], by simp [job]⟩
      · exact ⟨by omega, by omega, by simp [jobChecks, type, job, inScope], by simp [job]⟩
    obtain ⟨least, most, checks, plain⟩ := own
    refine .of_body rfl taken length (bodyJobSubmit_check ok least most checks (.inr host)) fun b => ⟨true, [], ?_, rfl⟩
    have created := createJob_of_free (t := s.book b)
      (i := jobItem p s.ocf.nextPend (wrap 48 (max (s.startTick p) (s.estateNs / 1000)))) (free b)
    simp only [bodyJobSubmit]
    exact created
  case delayed =>
    intro s h p cmd opcode f key k len taken least most type priority energyClass flags time delay start aligned size job pass free
    have ok : JobFieldsOk s p := ⟨priority, energyClass, flags, time, delay, start, aligned, size⟩
    have own : firstErr (jobChecks p) = none := by simp [jobChecks, type, job]
    obtain ⟨outer, gen, b, -, -, -, windows, row⟩ := exec_taken_ring (c := .jobSubmit h p cmd) rfl rfl rfl rfl taken rfl
      (by simp [bodyJobSubmit, jobLenOk, type, least, most]) (fun b _ => bodyJobSubmit_check ok (by omega) (by omega) own (.inl type) b)
    obtain ⟨j, recorded⟩ := recordSeq_booked h (Booked.refl s)
    rw [recorded] at windows pass
    have pass : embeddedGate bodyOf opcode (embedded h f) cmd (s.book b) = .pass key := (embeddedGate_of_windows windows).trans pass
    obtain ⟨j', inner⟩ := recordSeq_booked (embedded h f) (⟨b, rfl⟩ : Booked s (s.book b))
    have free : (dropFreed (recordSeq (embedded h f) (s.book b))).freeHandle = some k := by
      rw [inner]
      exact free
    have gens : (recordSeq (embedded h f) (s.book b)).eng.gens = s.eng.gens := by
      rw [inner]
      rfl
    refine .of_perform (later := true) (res := []) row ?_ rfl rfl rfl (by decide) (.inr (by decide))
    have created := createJob_of_free (t := s.book b)
      (i := { jobItem p s.ocf.nextPend (wrap 48 (max (s.startTick p) (s.estateNs / 1000))) with
        job := .delayed opcode (embedded h f)
        cmd := some cmd
        frameKey := key }) free
    rw [gens] at created
    simp only [bodyJobSubmit, job, pass]
    exact created
  case cancel =>
    intro s h handle gen i taken found notDone notCancelled
    have found (k : Book) : ((s.book k).hostJobOf handle gen).filter (fun i => i.state != .done && i.state != .cancelled) = some i := by
      have found : (s.book k).hostJobOf handle gen = some i := found
      simp [found, notDone, notCancelled]
    refine .of_body rfl taken rfl (fun k => ?_) (fun k => ?_)
    · simp only [bodyJobCancel, writeBody, found]
      rfl
    · simp only [bodyJobCancel, writeBody, found]
      rfl
  case jobStatus =>
    intro s h handle gen i taken found
    have found (k : Book) : (s.book k).hostJobOf handle gen = some i := found
    refine .of_body rfl taken rfl (fun k => ?_) (fun k => ?_)
    · simp only [bodyJobStatus, readBody, found]
      rfl
    · simp only [bodyJobStatus, readBody, found]
      rfl
  case energyClass =>
    intro s h cls cost share taken least most hcost hcost' hshare demand total
    refine .of_body rfl taken rfl (fun k => ?_) (fun k => rfl)
    have demand : minDemand ((s.book k).classesWith cls cost share) ≤ (s.book k).gFloor := demand
    have total : ((((s.book k).classesWith cls cost share).drop 1).map Prod.snd).sum ≤ 1600 := total
    simp only [bodyGeyserClassWrite, writeBody, firstErr_cons_eq_none_iff, outside_eq_false_iff]
    exact ⟨⟨least, most⟩, ⟨hcost, hcost'⟩, decide_eq_false (Nat.not_lt.2 hshare),
      by rw [decide_eq_false (Nat.not_lt.2 demand), decide_eq_false (Nat.not_lt.2 total)]; rfl, rfl⟩
  case activity =>
    intro s h activity budget limit taken least most hlimit hlimit'
    refine .of_body rfl taken rfl (fun k => ?_) (fun k => rfl)
    simp only [bodyGeyserActivityWrite, writeBody, firstErr_cons_eq_none_iff, outside_eq_false_iff]
    exact ⟨⟨least, most⟩, ⟨hlimit, hlimit'⟩, rfl⟩
  case geyser => exact fun s h taken => .of_body rfl taken rfl (fun k => rfl) (fun k => rfl)
  case engines => exact fun s h taken => .of_body rfl taken rfl (fun k => rfl) (fun k => rfl)

/-- Settles O18: each check reads the mode, the installer's limits or the operands. -/
theorem powerCommandsRun : Obligations.PowerCommandsRun := by
  unfold Obligations.PowerCommandsRun
  refine ⟨?mode, ?cap, ?limits, ?profile, ?schedule, ?wake, ?status⟩
  case mode =>
    intro s h mode profile drain taken hmode hprofile hdrain rising still move idle
    refine .of_body rfl taken rfl (fun k => ?_) (fun k => rfl)
    have move : (s.book k).mayMove mode profile = true := move
    have idle : (mode = 1 && (s.book k).unfinished) = false := by
      by_cases dormant : mode = 1
      · have : (s.book k).unfinished = false := idle dormant
        simp [this]
      · simp [dormant]
    simp only [bodyPwrModeSet, writeBody, firstErr_cons_eq_none_iff, book_power, still, move, idle, List.contains_iff_mem.2 hmode,
      Bool.or_false, decide_eq_false (Nat.not_lt.2 hprofile), decide_eq_false (Nat.not_lt.2 hdrain)]
    exact ⟨rfl, trivial, trivial, decide_eq_false rising, rfl, trivial, rfl⟩
  case cap =>
    intro s h cap taken least most
    refine .of_body rfl taken rfl (fun k => ?_) (fun k => rfl)
    have inside : (s.book k).capOutside cap = false := outside_eq_false_iff.2 ⟨least, most⟩
    simp only [bodyPwrCapSet, inside, Bool.false_eq_true, if_false]
  case limits =>
    intro s h p taken lo mid hi permille floor floor' warn warn' notice cap profiles demand stored
    refine .of_body rfl taken rfl (fun k => ?_) (fun k => ?_)
    · have permille : 1 ≤ orDefault p.maintPermille 10 ∧ orDefault p.maintPermille 10 ≤ 50 := orDefault_between (by omega) permille
      have caps : ((s.power.opCap.map (fun c => outside c (orDefault p.capFloor 200) (orDefault p.capCeiling 560))).getD false ||
          s.power.profiles.any (fun e => (e.2.cap.map (fun c => outside c (orDefault p.capFloor 200) (orDefault p.capCeiling 560))).getD false)) =
          false := by
        rw [Bool.or_eq_false_iff, List.any_eq_false]
        refine ⟨?_, fun e he => ?_⟩
        · cases op : s.power.opCap with
          | none => rfl
          | some c => exact outside_eq_false_iff.2 (cap c op)
        · cases limit : e.2.cap with
          | none => exact Bool.false_ne_true
          | some c => simpa using outside_eq_false_iff.2 (profiles e he c limit)
      have demand : ¬orDefault p.capFloor 200 * orDefault p.maintPermille 10 * 100 < (s.book k).dMin := Nat.not_lt.2 demand
      simp only [bodyPwrLimitsSet, firstErr_cons_eq_none_iff, outside_eq_false_iff, book_power, caps, decide_eq_false demand]
      exact ⟨⟨lo, mid⟩, ⟨mid, hi⟩, permille, ⟨floor, floor'⟩, ⟨warn, warn'⟩, decide_eq_false (Nat.not_lt.2 notice), trivial, trivial, rfl⟩
    · simp only [bodyPwrLimitsSet, stored]
      rfl
  case profile =>
    intro s h p taken hprofile other least most free
    refine .of_body rfl taken rfl (fun k => ?_) (fun k => rfl)
    have inside : (s.book k).capOutside p.cap = false := outside_eq_false_iff.2 ⟨least, most⟩
    have free : parkConflict p.octalPark p.inPark p.egPark (s.book k) = false := free
    simp only [bodyPwrReducedProfileWrite, writeBody, firstErr_cons_eq_none_iff, inside, free, book_power]
    have other : (decide (s.power.mode = .reduced) && decide (s.power.profile = p.profile)) = false := by
      rw [← Bool.decide_and]
      exact decide_eq_false other
    exact ⟨decide_eq_false (Nat.not_lt.2 hprofile), other, trivial, trivial, rfl⟩
  case schedule =>
    intro s h p taken hentry least most hprofile hflags htime hperiod hdrain
    refine .of_body rfl taken rfl (fun k => ?_) (fun k => rfl)
    simp [bodyPwrScheduleWrite, writeBody, outside_eq_false_iff, hentry, least, most, hflags, htime]
    omega
  case wake => exact fun s h inputs taken => .of_body rfl taken rfl (fun k => rfl) (fun k => rfl)
  case status => exact fun s h taken => .of_body rfl taken rfl (fun k => rfl) (fun k => rfl)

end

section
/-! The time, discovery and fault commands (chapters 14 and 15). -/

open Sys2Proof.Machine

/-- Settles O19: each check reads the operands, and of the state the time base's state and the ports of this device. -/
theorem timeCommandsRun : Obligations.TimeCommandsRun := by
  unfold Obligations.TimeCommandsRun
  refine ⟨?sources, ?set, ?status, ?clock, ?port, ?ptpStatus, ?output, ?stamps⟩
  case sources =>
    intro s h p taken hphase1 hphase2 differ hflags hdelay hdelay' hlock hlock' hstep hstep' above hhold hslew
    refine .of_body rfl taken rfl (fun k => ?_) (fun k => rfl)
    have second : (decide (p.phase2 > 2) || (p.phase2 != 0 && p.phase2 = p.phase1)) = false := by
      rw [decide_eq_false (Nat.not_lt.2 hphase2), Bool.false_or, ← Bool.not_eq_true]
      simpa [imp_iff_not_or] using differ
    have step : (outside (orDefault p.stepThreshold 1000) 100 1000000000 || decide (orDefault p.stepThreshold 1000 ≤ orDefault p.lockThreshold 100)) =
        false := by
      rw [outside_eq_false_iff.2 ⟨hstep, hstep'⟩, decide_eq_false (Nat.not_le.2 above)]
      rfl
    simp only [bodyTimeSourceConfig, writeBody, firstErr_cons_eq_none_iff, outside_eq_false_iff, outsideS_eq_false_iff, second, step]
    exact ⟨decide_eq_false (Nat.not_lt.2 hphase1), trivial, decide_eq_false (Nat.not_lt.2 hflags), ⟨hdelay, hdelay'⟩, ⟨hlock, hlock'⟩, trivial,
      orDefault_between (by omega) hhold, orDefault_between (by omega) hslew, rfl⟩
  case set =>
    intro s h p taken htime hflags acquiring locked
    refine .of_body rfl taken rfl (fun k => ?_) (fun k => rfl)
    simp only [bodyTimeSet, writeBody, firstErr_cons_eq_none_iff, book_time]
    exact ⟨decide_eq_false (Nat.not_le.2 htime), decide_eq_false (Nat.not_lt.2 hflags),
      Bool.or_eq_false_iff.2 ⟨decide_eq_false acquiring, decide_eq_false locked⟩, rfl⟩
  case status => exact fun s h taken => .of_body rfl taken rfl (fun k => rfl) (fun k => rfl)
  case clock =>
    intro s h p taken htype hstep htimeout
    refine .of_body rfl taken rfl (fun k => ?_) (fun k => rfl)
    simp [bodyPtpClockConfig, writeBody, htype, hstep]
    exact htimeout
  case port =>
    intro s h p taken front named hmode htransport hdelay announce announce' sync sync' delay delay'
    refine .of_body rfl taken rfl (fun k => ?_) (fun k => rfl)
    have front : (s.book k).isFabricPort p.port = false := front
    have named : (s.book k).frontOrMgmt p.port = true := named
    simp only [bodyPtpPortConfig, writeBody, firstErr_cons_eq_none_iff, outsideS_eq_false_iff, front, named]
    exact ⟨trivial, rfl, decide_eq_false (Nat.not_lt.2 hmode), decide_eq_false (Nat.not_lt.2 htransport), decide_eq_false (Nat.not_lt.2 hdelay),
      ⟨announce, announce'⟩, ⟨sync, sync'⟩, ⟨delay, delay'⟩, rfl⟩
  case ptpStatus =>
    refine fun s h taken => .of_body rfl taken rfl (fun k => rfl) (fun k => ?_)
    have own : (s.book k).ownData = s.ownData := rfl
    cases parent : s.ptp.parent <;> simp only [bodyPtpStatus, readBody, book_ptp, parent, own] <;> rfl
  case output =>
    intro s h p taken houtput hmode hgroup hflags train
    refine .of_body rfl taken rfl (fun k => ?_) (fun k => rfl)
    simp [bodyTimeOutputWrite, writeBody, outside_eq_false_iff, houtput, hmode, hflags]
    omega
  case stamps => exact fun s h taken => .of_body rfl taken rfl (fun k => rfl) (fun k => rfl)

/-- Settles O20: each check reads the operands, the optics slots, or what the fault record holds of the cell. -/
theorem discoveryAndFaultCommandsRun : Obligations.DiscoveryAndFaultCommandsRun := by
  unfold Obligations.DiscoveryAndFaultCommandsRun
  refine ⟨?lldp, ?discovery, ?domain, ?slot, ?optics, ?status, ?policy, ?log, ?cell, ?pseudoChannel, ?clear⟩
  case lldp =>
    intro s h p port taken front named hflags least most hname
    have named (k : Book) : (s.book k).localPort p.port = some port := named
    refine .of_body rfl taken (decide_eq_true rfl) (fun k => ?_) (fun k => ?_)
    · have front : (s.book k).isFabricPort p.port = false := front
      simp only [bodyLldpConfig, firstErr_cons_eq_none_iff, outside_eq_false_iff, front, named]
      exact ⟨trivial, rfl, decide_eq_false (Nat.not_lt.2 hflags), orDefault_between least most, decide_eq_false (Nat.not_lt.2 hname), rfl⟩
    · simp only [bodyLldpConfig, named]
      rfl
  case discovery =>
    intro s h table from_ count taken inTable least most
    refine .of_body rfl taken rfl (fun k => ?_) (fun k => rfl)
    simp [bodyDiscoveryRead, readBody, inTable, most]
    omega
  case domain =>
    intro s h domainId ttl hostless taken least most hhostless
    refine .of_body rfl taken rfl (fun k => ?_) (fun k => rfl)
    simp only [bodyDomainConfig, writeBody, firstErr_cons_eq_none_iff, outside_eq_false_iff]
    exact ⟨orDefault_between least most, decide_eq_false (Nat.not_lt.2 hhostless), rfl⟩
  case slot =>
    intro s h p taken hslot hcontroller hmux hchannel least most inside apart
    refine .of_body rfl taken rfl (fun k => ?_) (fun k => rfl)
    have apart : s.disc.optics.any (fun e => e.1 != p.slot && e.2.firstLane < p.firstLane + p.lanes && p.firstLane < e.2.firstLane + e.2.lanes) =
        false := by
      rw [List.any_eq_false]
      intro e he meets
      simp only [Bool.and_eq_true, bne_iff_ne, decide_eq_true_eq] at meets
      have := apart e he meets.1.1
      omega
    simp only [bodyOpticsSlotWrite, writeBody, firstErr_cons_eq_none_iff, outside_eq_false_iff, book_disc, apart]
    exact ⟨decide_eq_false (Nat.not_lt.2 hslot), decide_eq_false (Nat.not_lt.2 hcontroller), decide_eq_false (Nat.not_lt.2 hmux),
      decide_eq_false (Nat.not_lt.2 hchannel), ⟨least, most⟩, decide_eq_false (Nat.not_lt.2 inside), trivial, rfl⟩
  case optics => exact fun s h taken => .of_body rfl taken rfl (fun k => rfl) (fun k => rfl)
  case status => exact fun s h taken => .of_body rfl taken rfl (fun k => rfl) (fun k => rfl)
  case policy =>
    intro s h kind n window taken least most some hwindow hwindow'
    refine .of_body rfl taken rfl (fun k => ?_) (fun k => rfl)
    simp [bodyFaultPolicyWrite, writeBody, outside_eq_false_iff, least, most, some, hwindow, hwindow']
  case log =>
    intro s h from_ count taken least most
    refine .of_body rfl taken rfl (fun k => ?_) (fun k => rfl)
    simp [bodyFaultLogRead, readBody, outside_eq_false_iff, least, most]
  case cell =>
    intro s h p taken least most other hflags inside fresh spare last
    refine .of_body rfl taken rfl (fun k => ?_) (fun k => ⟨false, [], ?_, rfl⟩)
    · have spare : (s.book k).limitReached p.kind p.index = false := spare
      have last : (p.flags = 0 && (s.book k).lastUnit p.kind p.index) = false := by
        obtain forced | more := last
        · simp [forced]
        · have : (s.book k).lastUnit p.kind p.index = false := more
          simp [this]
      simp [bodyHwRetire, firstOf, outside_eq_false_iff, other, least, most, hflags, inside, fresh, spare, last]
    · simp only [bodyHwRetire, other, if_false]
  case pseudoChannel =>
    intro s h p taken kind hflags hindex inside fresh ready idle few working
    have ready (k : Book) : (s.book k).hbmReady = true := ready
    refine .of_body (later := true) (res := []) rfl taken rfl (fun k => ?_) (fun k => ?_)
    · have pc : (bodyHbmPcRetire h p.index).check (s.book k) = none := by
        simp [bodyHbmPcRetire, ready, idle, Nat.not_le.2 few, hindex]
      simp [bodyHwRetire, firstOf, outside_eq_false_iff, kind, hflags, inside, fresh, pc]
    · simp only [bodyHwRetire, bodyHbmPcRetire, kind, if_true, book_hbm, List.contains_iff_mem, working, if_false]
      rfl
  case clear =>
    intro s h taken state
    refine .of_body rfl taken rfl (fun k => ?_) (fun k => rfl)
    have state : (s.book k).roles.lifecycle = .factory ∨ (s.book k).roles.lifecycle = .returned := state
    simp only [bodyFaultRecordClear, writeBody, firstErr_cons_eq_none_iff]
    obtain factory | returned := state
    · rw [factory]
      exact ⟨rfl, rfl⟩
    · rw [returned]
      exact ⟨rfl, rfl⟩

end

section
/-! Resets and boot (chapter 15). -/

namespace Sys2Proof.Machine

/-! ## Resets -/

section
variable (s : State)

/-- A reset of the firmware side changes the host interface alone. -/
theorem firmwareReset_eq (cs : List Nat) : ∃ v : HostIf, firmwareReset cs s = { s with host := v } := by
  induction cs generalizing s with
  | nil => exact ⟨s.host, rfl⟩
  | cons c cs ih =>
    obtain ⟨int, raised⟩ := raise_eq (16 + c) (s.setChan c { s.chan c with
      inQ := []
      broken := false
      discard := wrapAdd 32 (s.chan c).discard (s.chan c).inQ.length
      peerReset := true
      waiting := []
      outQ := (s.chan c).outQ.map (fun m => { m with stale := true }) })
    obtain ⟨v, rest⟩ := ih (raise (16 + c) (s.setChan c _))
    refine ⟨v, rest.trans ?_⟩
    rw [raised]
    rfl

theorem startBoot_of_free (free : s.heldDown = false) (high : s.boot.sysrstHigh = true) :
    startBoot s = { s with power.toPower := [94, 84].filter (fun d => s.domain d != .on) } := by
  rw [startBoot, free, high]
  rfl

theorem heldDown_eq_false_iff : s.heldDown = false ↔ s.boot.porstHigh = true ∧ s.boot.powerGood = 15 ∧ s.boot.sysclk = true := by
  simp [State.heldDown, and_assoc]

end

/-! ## Firmware starts -/

section
variable {s : State}

theorem auditEvent_booked {z : State} (kind data : Nat) (booked : Booked z s) : Booked z (auditEvent kind data s) := offerAudit_booked _ booked

theorem forEach_booked {α : Type} {z : State} {f : α → State → State} (h : ∀ x s, Booked z s → Booked z (f x s)) (xs : List α) (booked : Booked z s) :
    Booked z (forEach xs s f) := by
  induction xs generalizing s with
  | nil => exact booked
  | cons x xs ih => exact ih (h x s booked)

/-- The BOOT entry, and what enters with it, stand in the records. -/
theorem bootAudit_booked : Booked s (bootAudit s) := by
  unfold bootAudit
  split
  · refine auditEvent_booked _ _ (forEach_booked (fun e s booked => offerAudit_booked e booked) _ ?_)
    exact (Booked.refl s).lit { s.books with heldBack := [] } rfl
  · have rebuilt (ring : List AuditEntry) (last head : Nat) :
        Booked s { s with roles.audit := { s.roles.audit with ring := ring, last := last, head := head } } :=
      (Booked.refl s).lit { s.books with ring := ring, last := last, head := head } rfl
    have entered (e : AuditEntry) (ring : List AuditEntry) (last head : Nat) := putAudit_booked e (rebuilt ring last head)
    exact .ite (raise_booked _ (entered ..)) (entered ..)

/-- The wipe changes keys, settings and the marker of the flash, the HBM and the records. -/
theorem wipe_cases (readBackOk : Bool) :
    ∃ keys settings mem done, Booked { s with flash.keys := keys, flash.settings := settings, hbm.mem := mem, flash.wipeDone := done }
      (wipe readBackOk s) := by
  unfold wipe
  split
  · exact ⟨s.flash.keys, s.flash.settings, s.hbm.mem, s.flash.wipeDone, Booked.refl s⟩
  · refine ⟨[], {}, [], if readBackOk then true else s.flash.wipeDone, ?_⟩
    dsimp only
    split
    · obtain ⟨k, entered⟩ := auditEvent_booked 0x06 0 (Booked.refl { s with flash.keys := [], flash.settings := {}, hbm.mem := [] })
      rw [entered]
      exact ⟨k, rfl⟩
    · exact raise_booked _ (Booked.refl _)

theorem wipe_of_inService (readBackOk : Bool) (inService : s.roles.lifecycle = .factory ∨ s.roles.lifecycle = .field) : wipe readBackOk s = s := by
  unfold wipe
  obtain factory | field := inService
  · rw [factory]; rfl
  · rw [field]; rfl

/-- Putting the retirement record in force changes no settings. -/
theorem applyRetired_parts : (applyRetired s).ocf = s.ocf ∧ (applyRetired s).flash = s.flash ∧ (applyRetired s).roles = s.roles ∧
    (applyRetired s).power = s.power ∧ (applyRetired s).boot.stage = s.boot.stage ∧ (applyRetired s).boot.retired = s.flash.retired := by
  have keeps {β : Type} (part : State → β) (h : ∀ k (p : Pipe) (u : State), part (u.setPipe k p) = part u) (is : List Nat) (u : State) :
      part (forEach is u fun i v => v.setPipe (i / 16) { v.pipe (i / 16) with retiredBanks := setBit (v.pipe (i / 16)).retiredBanks (i % 16) true }) =
        part u := forEach_keeps part (fun _ _ => h ..) is u
  exact ⟨keeps (·.ocf) (fun _ _ _ => rfl) _ _, keeps (·.flash) (fun _ _ _ => rfl) _ _, keeps (·.roles) (fun _ _ _ => rfl) _ _,
    keeps (·.power) (fun _ _ _ => rfl) _ _, keeps (·.boot.stage) (fun _ _ _ => rfl) _ _, keeps (·.boot.retired) (fun _ _ _ => rfl) _ _⟩

end

end Sys2Proof.Machine

open Sys2Proof.Machine

/-- Settles O21: each cause is a `powerOnReset`, and the last one that goes a `startBoot`. -/
theorem powerOnResetRows : Obligations.PowerOnResetRows := by
  unfold Obligations.PowerOnResetRows
  refine ⟨fun s => ⟨_, rfl, _, _, rfl⟩, fun s input => ⟨_, rfl, _, _, rfl⟩, fun s => ⟨_, rfl, _, _, rfl⟩, ?release, ?powerGood, ?clock⟩
  case release =>
    intro s low good clock high
    show execPorstNRelease s = _
    have free : State.heldDown { s with boot.porstHigh := true } = false := (heldDown_eq_false_iff _).2 ⟨rfl, good, clock⟩
    rw [execPorstNRelease, if_neg (by rw [low]; decide), startBoot_of_free _ free high]
    rfl
  case powerGood =>
    intro s input porst clock high isInput bad good
    show execPowerGoodReturn input s = _
    have held : s.heldDown = true := by
      rw [← Bool.not_eq_false, heldDown_eq_false_iff]
      exact fun free => bad free.2.1
    have free : State.heldDown { s with boot.powerGood := 15 } = false := (heldDown_eq_false_iff _).2 ⟨porst, rfl, clock⟩
    rw [execPowerGoodReturn, if_pos isInput, if_pos held, good, startBoot_of_free _ free high]
    rfl
  case clock =>
    intro s porst good lost high
    show execPowerGoodReturn 4 s = _
    have held : s.heldDown = true := by
      rw [← Bool.not_eq_false, heldDown_eq_false_iff, lost]
      exact fun free => nomatch free.2.2
    have free : State.heldDown { s with boot.sysclk := true } = false := (heldDown_eq_false_iff _).2 ⟨porst, good, rfl⟩
    rw [execPowerGoodReturn, if_neg (Nat.lt_irrefl 4), if_pos held, startBoot_of_free _ free high]
    rfl

/-- Settles O22: a warm reset changes the host interface by the reset of the firmware side, and then takes the state after reset. -/
theorem warmResetRows : Obligations.WarmResetRows := by
  unfold Obligations.WarmResetRows
  intro after
  have warm (cause : Nat) (s : State) : after cause s (warmReset cause s) := by
    obtain ⟨v, reset⟩ := firmwareReset_eq s (List.range 16)
    refine ⟨_, (firmwareReset (List.range 16) s).endedOut.1, (firmwareReset (List.range 16) s).endedOut.2, rfl, ?_⟩
    rw [warmReset, reset]
    rfl
  refine ⟨?assert, ?short, ?release, ?due, ?restart⟩
  case assert =>
    intro s ns long may
    refine ⟨warmReset 0x02 { s with boot.sysrstHigh := false }, ?_, warm 0x02 _⟩
    show execSysrstNAssert ns s = _
    rw [execSysrstNAssert, if_neg (Nat.not_lt.2 long)]
    exact congrArg _ (if_pos may)
  case short =>
    intro s ns short
    show execSysrstNAssert ns s = _
    rw [execSysrstNAssert, if_pos short]
  case release =>
    intro s low may
    show execSysrstNRelease s = _
    have free : s.heldDown = false := by
      cases held : s.heldDown with
      | false => rfl
      | true => simp [State.mayWarm, held] at may
    rw [execSysrstNRelease, if_neg (by rw [low]; decide)]
    exact congrArg _ ((if_pos may).trans (startBoot_of_free { s with boot.sysrstHigh := true } free rfl))
  case due =>
    intro s cause due may
    refine ⟨warmReset cause s, ?_, warm cause s⟩
    show execWarmReset cause s = _
    rw [execWarmReset, if_pos (by simp [due, may])]
  case restart =>
    intro s safe may
    refine ⟨warmReset 0x07 s, ?_, warm 0x07 s⟩
    show execSafeStateRestart s = _
    rw [execSafeStateRestart, if_pos (by simp [safe, may])]

/-- Settles O23: each row is the branch that its conditions choose; firmware starts with the settings as the wipe leaves them. -/
theorem bootRows : Obligations.BootRows := by
  unfold Obligations.BootRows
  refine ⟨?first, ?second, ?start, ?powerUp, ?good, ?stack, ?timeout, ?control, ?ready, ?failed, ?rising⟩
  case first =>
    intro s responds free high safe tripped stage mode d94 d84 verifies
    show execBootImageVerify responds s = _
    rw [execBootImageVerify, if_neg (by simp [free, high, safe, tripped, stage, mode, d94, d84])]
    exact if_pos verifies
  case second =>
    intro s responds free high safe tripped stage mode d94 d84 fails
    show execBootImageVerify responds s = _
    rw [execBootImageVerify, if_neg (by simp [free, high, safe, tripped, stage, mode, d94, d84])]
    refine (if_neg fails).trans ?_
    split <;> rfl
  case start =>
    intro s flashOk readBack stage free high safe
    obtain ⟨k, audited⟩ := bootAudit_booked (s := advanceEpoch flashOk { s with boot.stage := 2 })
    obtain ⟨keys, settings, mem, done, j, wiped⟩ := wipe_cases (s := bootAudit (advanceEpoch flashOk { s with boot.stage := 2 })) readBack
    have inService := wipe_of_inService (s := bootAudit (advanceEpoch flashOk { s with boot.stage := 2 })) readBack
    have row : exec (.bootFirmwareStart flashOk readBack) s = .next (queuePower bootOrder (applyRetired (applySettings
        (wipe readBack (bootAudit (advanceEpoch flashOk { s with boot.stage := 2 })))))) := by
      show execBootFirmwareStart flashOk readBack s = _
      rw [execBootFirmwareStart, if_neg (by simp [stage, free, high, safe])]
    rw [audited] at wiped inService row
    generalize wipe readBack _ = w at wiped inService row
    obtain ⟨ocf, flash, roles, power, bootStage, retired⟩ := applyRetired_parts (s := applySettings w)
    refine ⟨_, row, bootStage.trans ?_, (congrArg (·.epoch) ocf).trans ?_,
      (congrArg (·.identityOnly) ocf).trans ?_, (congrArg (·.epoch) flash).trans ?_,
      (congrArg (·.keys) roles).trans (congrArg (·.keys) flash).symm,
      (congrArg (·.hostAccess) roles).trans (congrArg (·.settings.hostAccess.getD 0) flash).symm,
      (congrArg (·.deviceId) ocf).trans (congrArg (·.settings.deviceId.getD 0) flash).symm,
      (congrArg (·.opCap) power).trans (congrArg (·.settings.pwrCap) flash).symm,
      retired.trans (congrArg (·.retired) flash).symm, fun state => ?_⟩
    · subst wiped
      cases flashOk <;> rfl
    · subst wiped
      cases flashOk <;> rfl
    · subst wiped
      cases flashOk <;> rfl
    · subst wiped
      cases flashOk <;> rfl
    · have same := inService (by cases flashOk <;> exact state)
      subst same
      refine ⟨(congrArg (·.keys) flash).trans ?_, (congrArg (·.settings) flash).trans ?_⟩ <;> cases flashOk <;> rfl
  case powerUp =>
    intro s d ds free high safe tripped still next
    show execDomainPowerUp s = _
    have ramping : s.power.domains.any (fun e => e.2 = .ramping) = false := List.any_eq_false.2 fun e he => by simpa using still e he
    rw [execDomainPowerUp, if_neg (by simp [free, high, safe, tripped, ramping]), next]
  case good =>
    intro s d ramping not88 not89
    show execDomainPowerGood d s = _
    rw [execDomainPowerGood, if_neg (by simp [ramping])]
    exact congrArg _ (if_neg (by simp [not88, not89]))
  case stack =>
    intro s d ramping hbm
    show execDomainPowerGood d s = _
    rw [execDomainPowerGood, if_neg (by simp [ramping])]
    exact congrArg _ (if_pos (by simpa using hbm))
  case timeout =>
    intro s d ramping other
    show execDomainPowerTimeout d s = _
    rw [execDomainPowerTimeout, if_neg (by simp [ramping])]
    exact congrArg _ (if_neg other)
  case control =>
    intro s ramping
    show execDomainPowerTimeout 94 s = _
    rw [execDomainPowerTimeout, if_neg (by simp [ramping])]
    rfl
  case ready =>
    intro s fn inside running unready well held powered deps
    show execFunctionReady fn true s = _
    rw [execFunctionReady, if_neg (by simp [running, unready, well, inside]), if_neg (by simp), if_neg (by simp [held, powered, deps])]
  case failed =>
    intro s fn inside running unready well
    show execFunctionReady fn false s = _
    rw [execFunctionReady, if_neg (by simp [running, unready, well, inside])]
    rfl
  case rising =>
    intro s running mode waking stage reported
    show execRisingComplete s = _
    rw [execRisingComplete, if_neg (by simp [running, mode, waking, stage, reported])]
    simp only [raise_power]

end

section
/-! What the data path of frames and links leaves alone: the control plane of a state. -/

namespace Sys2Proof.Machine

/-- The control plane: protocol, roles, flash, boot, power, time, flow tables, HBM and engines, and the optics slots. -/
def State.core (s : State) : OcfState × RoleState × Flash × BootState × PowerState × TimeBase × FlowState × HbmState × EngineStateAll ×
    Tab OpticsSlot :=
  (s.ocf, s.roles, s.flash, s.boot, s.power, s.time, s.flow, s.hbm, s.eng, s.disc.optics)

/-- The control plane with the links that are up and the ports whose VOQs are held. -/
def State.link (s : State) := (s.core, s.ports.up, s.buf.hold)

/-- The same with the egress ports and queues, the forwarding tables and the pipelines. -/
def State.still (s : State) := (s.link, s.eg, s.fwd, s.cls)

section
variable {s t : State}

theorem link_of_still (h : t.still = s.still) : t.link = s.link := congrArg Prod.fst h
theorem eg_of_still (h : t.still = s.still) : t.eg = s.eg := congrArg (·.2.1) h
theorem power_of_core (h : t.core = s.core) : t.power = s.power := congrArg (·.2.2.2.2.1) h
theorem optics_of_core (h : t.core = s.core) : t.disc.optics = s.disc.optics := congrArg (·.2.2.2.2.2.2.2.2.2) h

end

section
variable (s : State)

theorem raise_still (n : Nat) : (raise n s).still = s.still := by
  obtain ⟨c, raised⟩ := raise_eq n s
  rw [raised]
  rfl

/-! ## Charges and credits -/

theorem checkXoff_still (port prio : Nat) : (checkXoff port prio s).still = s.still := by
  unfold checkXoff
  dsimp only
  split
  · rfl
  · split
    · rfl
    · split <;> rfl

theorem subU_still (lossless : Bool) (port prio n : Nat) : (subU lossless port prio n s).still = s.still := by
  unfold subU
  split
  · rfl
  · exact checkXoff_still _ port prio

theorem sendCredit_still (g hop n : Nat) : (sendCredit g hop n s).still = s.still := by
  unfold sendCredit
  dsimp only
  split
  · split <;> rfl
  · rfl

theorem freeRx_still (g hop n : Nat) : (freeRx g hop n s).still = s.still := by
  unfold freeRx
  dsimp only
  split
  · rw [sendCredit_still]; rfl
  · rfl

theorem freeFabric_still (pipe : Nat) (rx : Nat × Nat) (cells : Nat) : (freeFabric pipe rx cells s).still = s.still := freeRx_still ..

theorem releaseReplica_still (m pipe : Nat) (f : QFrame) : (releaseReplica m pipe f s).still = s.still := by
  unfold releaseReplica
  dsimp only
  split
  · rfl
  · split
    · rw [freeFabric_still]; rfl
    · rw [subU_still]
      split <;> rfl

theorem releaseCells_still (k n : Nat) : (releaseCells k n s).still = s.still := rfl

theorem releasePart_still (k : Nat) (f : QFrame) (n : Nat) : (releasePart k f n s).still = s.still := by
  unfold releasePart
  split
  · split
    · rw [subU_still]; rfl
    · rw [subU_still, releaseCells_still]
  · cases f.headroom <;>
    · simp only [Bool.false_eq_true, if_false, if_true]
      split
      · rfl
      · rw [subU_still]
        rfl

theorem releaseTx_still (t : TxFrame) : (releaseTx t s).still = s.still := by
  unfold releaseTx
  split
  · exact releasePart_still ..
  · exact releaseReplica_still ..
  · exact freeFabric_still ..

theorem ungrant_link (t : TxFrame) : (ungrant t s).link = s.link := by
  unfold ungrant
  split <;> rfl

/-! ## Links -/

theorem sendToSlot_still (slot : Nat) (c : Control) : (sendToSlot slot c s).still = s.still := by
  unfold sendToSlot
  dsimp only
  split <;> rfl

theorem sendPortState_still (port : Nat) (up : Bool) : (sendPortState port up s).still = s.still :=
  forEach_keeps State.still (fun k s => sendToSlot_still s k _) _ s

theorem dropNeighbours_still (port : Nat) : (dropNeighbours port s).still = s.still := by
  unfold dropNeighbours
  split
  · rw [raise_still]; rfl
  · rfl

theorem linkDown_link_of_up {port : Nat} (up : s.ports.up.testBit port = true) : (linkDown port s).link =
    (s.core, setBit s.ports.up port false, s.sysPort port :: s.buf.hold.erase (s.sysPort port)) := by
  rw [linkDown, if_neg (by simp [up])]
  dsimp only
  rw [link_of_still (dropNeighbours_still ..), link_of_still (sendPortState_still ..), forEach_keeps State.link (fun t s => ungrant_link s t),
    forEach_keeps State.link (fun t s => link_of_still (releaseTx_still s t))]
  rfl

theorem linkDown_core (port : Nat) : (linkDown port s).core = s.core := by
  cases up : s.ports.up.testBit port
  · rw [linkDown, if_pos (by simp [up])]
  · exact congrArg Prod.fst (linkDown_link_of_up s up)

theorem octalDown_core (g : Nat) : (octalDown g s).core = s.core := forEach_keeps State.core (fun p s => linkDown_core s p) _ s

/-! ## The end of every frame -/

theorem abortFrames_core : (abortFrames s).core = s.core := by
  refine forEach_keeps State.core (fun e s => ?_) _ s
  dsimp only
  split
  · split <;> rfl
  · rfl

theorem abortCells_core : (abortCells s).core = s.core := by
  unfold abortCells
  refine forEach_keeps State.core (fun e s => ?_) _ s
  dsimp only
  refine forEach_keeps State.core (fun c s => ?_) _ s
  rfl

theorem loseFramesAll_core : (loseFramesAll s).core = s.core := by
  show (abortCells (abortFrames s)).core = s.core
  rw [abortCells_core, abortFrames_core]

end

end Sys2Proof.Machine

end

section
/-! Caldera and faults (chapters 13 and 15). -/

namespace Sys2Proof.Machine

/-! ## What Caldera's actions leave of the sample -/

/-- The sample as it is recorded, with the mode and the power domains. -/
def State.sampled (s : State) : List Int × List Int × List Nat × Mode × Tab DomainState :=
  (s.power.sensors, s.power.hbmTemp, s.power.powerHist, s.power.mode, s.power.domains)

section
variable (s : State)

theorem raise_sampled (n : Nat) : (raise n s).sampled = s.sampled := by rw [State.sampled, raise_power]; rfl

theorem sampleConds_sampled : (sampleConds s).sampled = s.sampled := by
  unfold sampleConds
  dsimp only
  rw [forEach_keeps State.sampled (fun r s => by rfl), forEach_keeps State.sampled (fun p s => by rfl)]

theorem holdNeighbours_sampled (r : Nat) : (holdNeighbours r s).sampled = s.sampled :=
  forEach_keeps State.sampled (fun b s => by split <;> rfl) _ s

theorem slowTo_sampled (r k : Nat) : (slowTo r k s).sampled = s.sampled := by
  unfold slowTo
  dsimp only
  rw [forEach_keeps State.sampled (fun r s => holdNeighbours_sampled s r), holdNeighbours_sampled]
  rfl

theorem hold_sampled (hold : Nat) (clear : Tab Nat) : State.sampled { s with power.hold := hold, power.holdClear := clear } = s.sampled := rfl

theorem thermalSlow_sampled (r : Nat) : (thermalSlow r s).sampled = s.sampled := by
  unfold thermalSlow
  dsimp only
  rw [hold_sampled, slowTo_sampled]

theorem beginShed_sampled (r : Nat) : (beginShed r s).sampled = s.sampled := by
  unfold beginShed
  split
  · rfl
  · exact raise_sampled _ _

variable {s}

theorem thermalAction_sampled {t : State} (act : thermalAction s = some t) : t.sampled = s.sampled := by
  unfold thermalAction at act
  dsimp only at act
  split at act
  · rw [← Option.some.inj act, beginShed_sampled]
  · rw [← Option.some.inj act, beginShed_sampled]
  · split at act
    · rw [← Option.some.inj act]
      refine forEach_keeps State.sampled (fun k s => ?_) [0, 1] s
      split
      · exact raise_sampled _ _
      · rfl
    · split at act
      · rw [← Option.some.inj act, thermalSlow_sampled]
        split
        · rfl
        · exact raise_sampled _ _
      · split at act
        · rw [← Option.some.inj act, raise_sampled, thermalSlow_sampled]
          rfl
        · split at act
          · rw [← Option.some.inj act]
            rfl
          · exact nomatch act

theorem capAction_sampled {util : List Nat} {t : State} (act : capAction util s = some t) : t.sampled = s.sampled := by
  unfold capAction at act
  split at act
  · rw [← Option.some.inj act]
    rfl
  · split at act
    · rw [← Option.some.inj act]
      rfl
    · exact nomatch act

/-- The action of a period, whichever it is, leaves the sample as recorded. -/
theorem calderaAct_sampled {above : Bool} {util : List Nat} : ∃ t : State,
    (if s.power.sinceAction < 10 then Host.Outcome.next s
    else match thermalAction s with
      | some t => .next { t with power.sinceAction := 0 }
      | none =>
        if !above then .next s
        else match capAction util s with
          | some t => .next { t with power.sinceAction := 0 }
          | none => .next s : Host.Outcome State Fault Refusal) = .next t ∧ t.sampled = s.sampled := by
  split
  · exact ⟨s, rfl, rfl⟩
  · split
    · next t act => exact ⟨_, rfl, (thermalAction_sampled act : t.sampled = s.sampled)⟩
    · split
      · exact ⟨s, rfl, rfl⟩
      · split
        · next t act => exact ⟨_, rfl, (capAction_sampled act : t.sampled = s.sampled)⟩
        · exact ⟨s, rfl, rfl⟩

/-- A sample that does not trip is recorded. -/
theorem execCalderaPeriod_sampled {sample : CalderaSample} (awake : s.power.thermtripLow = false) (notReset : s.power.mode ≠ .reset)
    (notDormant : s.power.mode ≠ .dormant) (cool : ∀ x ∈ sample.sensors, x < 460) : ∃ t, execCalderaPeriod sample s = .next t ∧
      t.sampled = (sample.sensors, sample.hbm, (sample.power :: s.power.powerHist).take 10, s.power.mode, s.power.domains) := by
  rw [execCalderaPeriod, if_neg (by simp [awake, notReset, notDormant])]
  dsimp only
  rw [if_neg (by simpa using cool)]
  have kept := forEach_keeps (·.power) (f := fun (k : Nat) (u : State) =>
      if sample.hbm.getD k 0 ≥ 85 && s.power.hbmTemp.getD k 0 < 85 then raise (262 + k) u else u)
    (fun k u => by split <;> simp only [raise_power]) [0, 1] s
  generalize forEach [0, 1] s _ = u at kept
  generalize measured : sampleConds _ = v
  have sampled : v.sampled = (sample.sensors, sample.hbm, (sample.power :: s.power.powerHist).take 10, s.power.mode, s.power.domains) := by
    rw [← measured, sampleConds_sampled, ← kept]
    rfl
  have counted := forEach_keeps State.sampled (f := fun (r : Nat) (s : State) => { s with
        power.warned := setBit s.power.warned r (s.power.warned.testBit r && s.hot r s.power.tjWarn)
        power.holdClear := if s.coolNow r then tset s.power.holdClear r (tgetD s.power.holdClear r 0 + 1) else tdel s.power.holdClear r
        power.shedClear := if s.returnsNow r then tset s.power.shedClear r (tgetD s.power.shedClear r 0 + 1) else tdel s.power.shedClear r })
    (fun _ _ => rfl) regions v
  generalize forEach regions v _ = w at counted
  obtain ⟨t, row, same⟩ := calderaAct_sampled (s := settleLevels { w with
        power.overRun := if decide (w.powerNow > w.capInForce) then w.power.overRun + 1 else 0
        power.underRun := if w.powerNow * 100 < w.capInForce * 95 then w.power.underRun + 1 else 0
        power.capUnmet := w.power.capUnmet && decide (w.powerNow > w.capInForce) }) (above := decide (w.powerNow > w.capInForce)) (util := sample.util)
  exact ⟨t, row, same.trans (counted.trans sampled)⟩

end

/-! ## The region that returns first -/

/-- A region of the greatest step is found before the others of that step. -/
theorem foldl_firstMax {f : Nat → Nat} {r : Nat} {xs ys : List Nat} (before : ∀ q ∈ xs, f q < f r) (after : ∀ q ∈ ys, f q ≤ f r) :
    (xs ++ r :: ys).foldl (fun b q => match b with
      | none => some q
      | some k => if f q > f k then some q else some k) none = some r := by
  have stays : ∀ zs : List Nat, (∀ q ∈ zs, f q ≤ f r) → zs.foldl (fun b q => match b with
      | none => some q
      | some k => if f q > f k then some q else some k) (some r) = some r := by
    intro zs below
    induction zs with
    | nil => rfl
    | cons z zs ih =>
      rw [List.foldl_cons]
      simp only [Nat.not_lt.2 (below z (List.mem_cons_self ..)), gt_iff_lt, if_false]
      exact ih fun q hq => below q (List.mem_cons_of_mem _ hq)
  have reaches : ∀ (zs : List Nat) (b : Option Nat), (∀ q ∈ zs, f q < f r) → (∀ k, b = some k → f k < f r) → ∀ k, zs.foldl (fun b q => match b with
      | none => some q
      | some k => if f q > f k then some q else some k) b = some k → f k < f r := by
    intro zs
    induction zs with
    | nil => exact fun b _ start => start
    | cons z zs ih =>
      intro b below start
      rw [List.foldl_cons]
      refine ih _ (fun q hq => below q (List.mem_cons_of_mem _ hq)) fun k found => ?_
      have first := below z (List.mem_cons_self ..)
      cases b with
      | none => cases found; exact first
      | some j =>
        dsimp only at found
        split at found
        · cases found; exact first
        · cases found; exact start _ rfl
  rw [List.foldl_append, List.foldl_cons]
  have worse := reaches xs none before (fun k none => nomatch none)
  generalize xs.foldl _ none = b at worse
  cases b with
  | none => exact stays ys after
  | some k =>
    simp only [gt_iff_lt, if_pos (worse k rfl)]
    exact stays ys after

/-- A region may step up again (R557). -/
def State.mayStepUp (s : State) (r : Nat) : Bool :=
  s.goal r > s.fastest r && !s.power.hold.testBit r && !s.power.shed.testBit r &&
    (regions.filter (adjacent r)).all (fun b => s.goal b ≤ s.goal r + 1)

/-- The region that steps up: of those that may, the first of the greatest step. -/
def State.firstUp (s : State) : Option Nat :=
  (regions.filter s.mayStepUp).foldl (fun b r => match b with
    | none => some r
    | some k => if s.goal r > s.goal k then some r else some k) none

section
variable {s : State}

theorem execCapActionUndo_of_under (under : 100 ≤ s.power.underRun) (since : 10 ≤ s.power.sinceAction) :
    ∃ u : State, u = { s with power.underRun := 0, power.sinceAction := 0, power.capActions := s.power.capActions.drop 1 } ∧
      execCapActionUndo s = .next (match s.firstUp with
        | some r => goStep r (s.goal r - 1) u
        | none => if s.power.ceilingC < 232 then setCeiling (min 232 (s.power.ceilingC + 16)) u else u) := by
  refine ⟨_, rfl, ?_⟩
  rw [execCapActionUndo, if_neg (by simp [under, since])]
  rfl

theorem firstUp_eq_none (steps : ∀ r ∈ regions, s.goal r ≤ s.fastest r) : s.firstUp = none := by
  have idle : regions.filter s.mayStepUp = [] := List.filter_eq_nil_iff.2 fun r hr => by simp [State.mayStepUp, Nat.not_lt.2 (steps r hr)]
  rw [State.firstUp, idle]
  rfl

theorem firstUp_eq_some {r : Nat} (region : r ∈ regions) (may : s.mayStepUp r = true)
    (best : ∀ q ∈ regions, s.mayStepUp q = true → s.goal q < s.goal r ∨ s.goal q = s.goal r ∧ r ≤ q) : s.firstUp = some r := by
  obtain ⟨xs, ys, split⟩ := List.append_of_mem (List.mem_filter.2 ⟨region, may⟩)
  have sorted : (regions.filter s.mayStepUp).Pairwise (· < ·) := (show regions.Pairwise (· < ·) by decide).filter _
  rw [split, List.pairwise_append] at sorted
  have bound : ∀ q ∈ xs ++ r :: ys, s.goal q < s.goal r ∨ s.goal q = s.goal r ∧ r ≤ q := fun q hq => by
    obtain ⟨inside, mayQ⟩ := List.mem_filter.1 (split ▸ hq)
    exact best q inside mayQ
  rw [State.firstUp, split]
  refine foldl_firstMax (f := s.goal) (fun q hq => ?_) fun q hq => ?_
  · have := sorted.2.2 q hq r (List.mem_cons_self ..)
    have := bound q (List.mem_append_left _ hq)
    omega
  · have := bound q (List.mem_append_right _ (List.mem_cons_of_mem _ hq))
    omega

end

section
variable {s : State}

/-- A cell error of a device that runs, where no injected error waits. -/
theorem execHwCellError_of_running {kind unit : Nat} {uncorrectable : Bool} (flashOk : Bool) (running : s.running = true)
    (inside : unit < cellCount kind) (working : ¬(kind = 5 ∧ (s.engine unit).state = .stopped)) (clean : s.boot.injected = []) :
    exec (.hwCellError kind unit uncorrectable flashOk) s = .next (if isEvent kind uncorrectable then
      countCell kind unit flashOk (if kind = 6 then restartItem false unit s else s) else logFault 0 kind unit 0 1 s) := by
  have test : (kind = 5 && (s.engine unit).state = .stopped && !s.boot.retired.contains (5, unit)) = false := by
    rw [← Bool.decide_and, decide_eq_false working]
    rfl
  have used : useInjected kind (· = unit) s = s := by simp [useInjected, clean]
  show execHwCellError kind unit uncorrectable flashOk s = _
  rw [execHwCellError, if_neg (by simp [running, inside]), test, if_neg Bool.false_ne_true, cellError, used]
  cases isEvent kind uncorrectable <;> rfl

end

end Sys2Proof.Machine

open Sys2Proof.Machine

/-- Settles O24: a sample is recorded first, and no action changes the record; the region that steps up is the first of the greatest step. -/
theorem thermalRows : Obligations.ThermalRows := by
  unfold Obligations.ThermalRows
  refine ⟨?trips, ?sample, ?step, ?held, ?holdClear, ?ceilingUp, ?stepUp, ?unmet, ?notice, ?shedReturn⟩
  case trips =>
    intro s sample awake notReset notDormant hot
    show ∃ t, execCalderaPeriod sample s = .next (thermalTrip t) ∧ _
    rw [execCalderaPeriod, if_neg (by simp [awake, notReset, notDormant])]
    dsimp only
    rw [if_pos (by simpa using hot)]
    generalize measured : sampleConds _ = v
    have sampled : v.power.sensors = sample.sensors ∧ v.power.hbmTemp = sample.hbm := by
      have kept := measured ▸ sampleConds_sampled _
      exact ⟨congrArg Prod.fst kept, congrArg (·.2.1) kept⟩
    exact ⟨v, rfl, sampled⟩
  case sample =>
    intro s sample awake notReset notDormant cool
    obtain ⟨t, row, recorded⟩ := execCalderaPeriod_sampled awake notReset notDormant cool
    exact ⟨t, row, congrArg (·.1) recorded, congrArg (·.2.1) recorded, congrArg (·.2.2.1) recorded, congrArg (·.2.2.2.1) recorded,
      congrArg (·.2.2.2.2) recorded⟩
  case step =>
    intro s region k going moves
    show execDvfsStepComplete region s = _
    simp only [execDvfsStepComplete, going, moves, if_false]
    rfl
  case held =>
    intro s region k going stays
    show execDvfsStepComplete region s = _
    simp only [execDvfsStepComplete, going, stays, if_true]
  case holdClear =>
    intro s region clear
    show execThermalHoldClear region s = _
    rw [execThermalHoldClear, if_pos clear]
  case ceilingUp =>
    intro s under since steps low
    obtain ⟨u, rfl, row⟩ := execCapActionUndo_of_under under since
    refine Eq.trans row ?_
    rw [firstUp_eq_none steps]
    exact congrArg _ (if_pos low)
  case stepUp =>
    intro s r under since region above hold shed near best
    have free : ∀ q, s.mayStepUp q = true ↔ s.fastest q < s.goal q ∧ s.power.hold.testBit q = false ∧ s.power.shed.testBit q = false ∧
        ∀ b ∈ regions, adjacent q b = true → s.goal b ≤ s.goal q + 1 := fun q => by simp [State.mayStepUp, and_assoc, imp_iff_not_or]
    have first : s.firstUp = some r := firstUp_eq_some region ((free r).2 ⟨above, hold, shed, near⟩) fun q hq may => by
      obtain ⟨above, hold, shed, near⟩ := (free q).1 may
      exact best q hq above hold shed near
    obtain ⟨u, rfl, row⟩ := execCapActionUndo_of_under under since
    refine Eq.trans row ?_
    rw [first]
  case unmet =>
    intro s long idle above
    show execCapUnmet s = _
    rw [execCapUnmet, if_pos (by simp [long, idle, above])]
  case notice =>
    intro s region shed up
    show execShedNoticeEnd region s = _
    rw [execShedNoticeEnd, if_pos (by simp [shed, up])]
  case shedReturn =>
    intro s region down fault clear
    show execShedReturn region s = _
    rw [execShedReturn, if_pos (by simp [down, fault, clear])]

/-- Settles O26: a machine check is one function of cause, unit and record; a cell's error is counted, then judged. -/
theorem faultRows : Obligations.FaultRows := by
  unfold Obligations.FaultRows
  refine ⟨?check, ?safe, ?watchdog, ?regulator, ?event, ?counted, ?stopped, ?passed⟩
  case check =>
    intro s cause unit least most high safe
    refine ⟨machineCheck cause unit (chainOf cause unit) s, ?_, ?_⟩
    · show execChipMachineCheck cause unit s = _
      rw [execChipMachineCheck, if_pos (by simp [least, most, high])]
    · have power := power_of_core (loseFramesAll_core s)
      rw [machineCheck, if_neg (by rw [safe]; decide)]
      refine ⟨rfl, rfl, rfl, rfl, rfl, ?_, ?_⟩
      · rw [State.domain, ← power]
      · simp only [decide_eq_true_eq, List.length_cons]
        omega
  case safe =>
    intro s cause unit safe
    show execChipMachineCheck cause unit s = _
    rw [execChipMachineCheck, machineCheck, if_pos safe, ite_self]
  case watchdog =>
    intro s running
    show execFirmwareWatchdog s = _
    rw [execFirmwareWatchdog, if_pos running]
    rfl
  case regulator =>
    intro s pair high mode inside
    show execRegulatorFault pair s = _
    rw [execRegulatorFault, if_pos (by simp [high, mode])]
    interval_cases pair <;> rfl
  case event =>
    intro s kind unit uncorrectable flashOk u running inside working event clean counted
    rw [execHwCellError_of_running flashOk running inside working clean, if_pos event, countCell]
    subst counted
    simp only [Bool.not_eq_true']
  case counted =>
    intro s kind unit uncorrectable flashOk running inside working event clean
    rw [execHwCellError_of_running flashOk running inside working clean, if_neg (by rw [event]; decide)]
  case stopped =>
    intro s unit flashOk running inside stopped present
    show execHwCellError 5 unit true flashOk s = _
    rw [execHwCellError, if_neg (by simp [running]; exact inside), if_pos (by simp [stopped, present])]
    rfl
  case passed =>
    intro s unit flashOk running inside stopped present
    show execHwCellError 5 unit false flashOk s = _
    rw [execHwCellError, if_neg (by simp [running]; exact inside), if_pos (by simp [stopped, present])]
    rfl

end

section
/-! Power modes (chapter 13): Reduced, Dormant, the schedule and wake. -/

namespace Sys2Proof.Machine

/-! ## Parking -/

/-- The mode and what is parked. -/
def State.parking (s : State) : Mode × Nat × Nat × Nat × Nat :=
  (s.power.mode, s.power.profile, s.power.octalParked, s.power.inParked, s.power.egParked)

section
variable (s : State)

theorem holdNeighbours_parking (r : Nat) : (holdNeighbours r s).parking = s.parking :=
  forEach_keeps State.parking (fun b s => by split <;> rfl) _ s

theorem slowTo_parking (r k : Nat) : (slowTo r k s).parking = s.parking := by
  unfold slowTo
  dsimp only
  rw [forEach_keeps State.parking (fun r s => holdNeighbours_parking s r), holdNeighbours_parking]
  rfl

theorem octalDown_parking (g : Nat) : (octalDown g s).parking = s.parking := by
  rw [State.parking, power_of_core (octalDown_core s g)]
  rfl

theorem applyParking_parking (octal inP egP : Nat) :
    (applyParking octal inP egP s).parking = (s.power.mode, s.power.profile, octal, inP, egP) := by
  unfold applyParking
  dsimp only
  have kept := forEach_keeps State.parking (f := fun (g : Nat) (s : State) => clearReady [g] (setDomain g .off (octalDown g s)))
    (fun g s => octalDown_parking s g) ((List.range 32).filter (fun g => octal.testBit g && !s.power.octalParked.testBit g)) s
  generalize forEach _ s _ = u at kept
  have mode : u.power.mode = s.power.mode := congrArg (·.1) kept
  have profile : u.power.profile = s.power.profile := congrArg (·.2.1) kept
  rw [← mode, ← profile]
  rfl

end

/-! ## Domains and readiness -/

section
variable (s : State)

theorem setDomain_domain (d e : Nat) (v : DomainState) : (setDomain d v s).domain e = if e = d then v else s.domain e := by
  unfold setDomain State.domain
  split
  · next same =>
    subst same
    exact tgetD_tset_self ..
  · next other => exact tgetD_tset_of_ne _ _ _ other

theorem forEach_setDomain_domain (ds : List Nat) (v : DomainState) (e : Nat) :
    (forEach ds s (fun d s => setDomain d v s)).domain e = if e ∈ ds then v else s.domain e := by
  induction ds generalizing s with
  | nil => rfl
  | cons d ds ih =>
    refine (ih (setDomain d v s)).trans ?_
    rw [setDomain_domain]
    by_cases later : e ∈ ds
    · simp [later]
    · simp [later]

theorem forEach_setBit_false (fs : List Nat) (n f : Nat) :
    (forEach fs n (fun f n => setBit n f false)).testBit f = (n.testBit f && !fs.contains f) := by
  induction fs generalizing n with
  | nil => simp [forEach]
  | cons g fs ih =>
    refine (ih (setBit n g false)).trans ?_
    rw [testBit_setBit]
    by_cases same : f = g
    · simp [same]
    · simp [same]

theorem clearReady_isReady (fs : List Nat) (f : Nat) : (clearReady fs s).isReady f = (s.isReady f && !fs.contains f) :=
  forEach_setBit_false fs s.boot.ready f

theorem unitHeld_of_fixed {d : Nat} (fixed : 64 ≤ d) : s.unitHeld d = false := by
  rw [State.unitHeld, if_neg (by omega), if_neg (by omega), if_neg (by omega)]

/-- A queued domain whose unit is not held is on, or waits for its ramp. -/
theorem mem_queuePower {ds : List Nat} {d : Nat} (queued : d ∈ ds) (free : s.unitHeld d = false) :
    s.domain d = .on ∨ d ∈ (queuePower ds s).power.toPower := by
  by_cases on : s.domain d = .on
  · exact .inl on
  · refine .inr (List.mem_append.2 ?_)
    by_cases waits : d ∈ s.power.toPower
    · exact .inl waits
    · exact .inr (List.mem_filter.2 ⟨queued, by simp [free, waits, on]⟩)

/-- A stamp changes the time base and the interrupt alone. -/
theorem pushStamp_kept (e : Stamp) : ((pushStamp e s).power, (pushStamp e s).boot) = (s.power, s.boot) := by
  unfold pushStamp
  dsimp only
  split
  · rw [raise_power, raise_boot]
  · rfl

theorem resumeFilter_kept : ((resumeFilter s).power, (resumeFilter s).boot) = (s.power, s.boot) := by
  refine forEach_keeps (fun u : State => (u.power, u.boot)) (fun e u => ?_) (bitsOf 32 s.host.evt.latch) s
  dsimp only
  rw [pushStamp_kept, raise_power, raise_boot]

/-! ## Dormant mode -/

theorem firmwareReset_hbm (cs : List Nat) : (firmwareReset cs s).hbm = s.hbm := by
  obtain ⟨v, reset⟩ := firmwareReset_eq s cs
  rw [reset]

theorem hostReset_hbm (cs : List Nat) (own : Bool) : (hostReset cs own s).hbm = s.hbm := by
  refine forEach_keeps (fun u : State => u.hbm) (fun c u => ?_) cs s
  rfl

theorem enterDormant_hbm : (enterDormant s).hbm = s.hbm := by
  unfold enterDormant
  dsimp only
  rw [hostReset_hbm, firmwareReset_hbm]
  rfl

theorem stack_setStack_self {k : Nat} {v : StackState} (present : s.stack k = .ready) : (setStack k v s).stack k = v := by
  unfold State.stack at present ⊢
  rw [List.getD_eq_getElem?_getD] at present ⊢
  show ((s.hbm.stackStates.mapIdx _)[k]?).getD _ = _
  rw [List.getElem?_mapIdx]
  cases found : s.hbm.stackStates[k]? with
  | none => simp [found] at present
  | some x => exact if_pos rfl

theorem stack_setStack_of_ne {k j : Nat} {v : StackState} (other : j ≠ k) : (setStack k v s).stack j = s.stack j := by
  unfold State.stack
  rw [List.getD_eq_getElem?_getD, List.getD_eq_getElem?_getD]
  show ((s.hbm.stackStates.mapIdx _)[j]?).getD _ = _
  rw [List.getElem?_mapIdx]
  cases s.hbm.stackStates[j]? with
  | none => rfl
  | some x => exact if_neg other

/-- With one of the two stacks put in self-refresh, the other is what keeps the memory awake. -/
theorem stackAwake_setStack_off {k : Nat} (inside : k < 2) (ready : s.stack k = .ready) :
    (setStack k .off s).stackAwake = true ↔ s.stack (1 - k) = .ready := by
  have self : (setStack k .off s).stack k = .off := stack_setStack_self s ready
  have other : (setStack k .off s).stack (1 - k) = s.stack (1 - k) := stack_setStack_of_ne s (by omega)
  obtain rfl | rfl : k = 0 ∨ k = 1 := by omega
  · simp [State.stackAwake, self, show (setStack 0 .off s).stack 1 = s.stack 1 from other]
  · simp [State.stackAwake, self, show (setStack 1 .off s).stack 0 = s.stack 0 from other]

end

end Sys2Proof.Machine

open Sys2Proof.Machine

/-- Settles O25: each row is the branch that its conditions choose, and what it parks, powers or holds is that of one named operation. -/
theorem modeRows : Obligations.ModeRows := by
  unfold Obligations.ModeRows
  refine ⟨?profile, ?retain, ?retainBoth, ?due, ?waits, ?drained, ?flushed, ?refresh, ?last, ?noStack, ?wake, ?badImage, ?woken, ?badRestore, ?hold⟩
  case profile =>
    intro s moving target
    have row : exec .reducedProfileApply s = execReducedProfileApply s := rfl
    rw [row, execReducedProfileApply, if_neg (by simp [moving, target])]
    dsimp only
    generalize profile : tgetD s.power.profiles s.power.targetProfile {} = p
    have parked := applyParking_parking { s with power.mode := .reduced, power.profile := s.power.targetProfile } p.octalPark p.inPark p.egPark
    generalize applyParking p.octalPark p.inPark p.egPark _ = u at parked
    have slowed := forEach_keeps State.parking (f := fun (r : Nat) (u : State) => if u.goal r < u.fastest r then slowTo r (u.fastest r) u else u)
      (fun r u => by split; exacts [slowTo_parking .., rfl]) regions u
    generalize forEach regions u _ = w at slowed
    have ended : (endTransition w).power = { w.power with moving := false, target := w.power.mode } := raise_power ..
    have kept := slowed.trans parked
    refine ⟨endTransition w, rfl, ?_⟩
    rw [ended]
    exact ⟨congrArg (·.1) kept, congrArg (·.2.1) kept, rfl, congrArg (·.2.2.1) kept, congrArg (·.2.2.2.1) kept, congrArg (·.2.2.2.2) kept⟩
  case retain =>
    intro s pipe parked other on idle
    show execParkRetentionEntry pipe s = _
    simp only [execParkRetentionEntry, parked, other, on, idle]
    rfl
  case retainBoth =>
    intro s pipe parked parked' on on' inside idle idle'
    show execParkRetentionEntry pipe s = _
    have still : (clearReady [32 + pipe] (setDomain (32 + pipe) .retention s)).domain (48 + pipe) = .on :=
      (setDomain_domain ..).trans ((if_neg (by omega)).trans on')
    simp only [execParkRetentionEntry, parked, parked', on, idle, idle', decide_true, Bool.and_self, if_true, still]
  case due =>
    intro s entry e found enabled mode still
    have here : tgetD s.power.schedule entry {} = e := by rw [tgetD, found]; rfl
    show execScheduleEntryDue entry s = _
    have modes : s.power.mode ≠ .reset ∧ s.power.mode ≠ .dormant ∧ s.power.mode ≠ .rising := by
      simp only [List.mem_cons, List.not_mem_nil, or_false] at mode
      obtain full | reduced | service := mode <;> simp [*]
    obtain ⟨notReset, notDormant, notRising⟩ := modes
    simp [execScheduleEntryDue, here, enabled, notReset, notDormant, notRising, still]
  case waits =>
    intro s entry e found enabled mode
    have here : tgetD s.power.schedule entry {} = e := by rw [tgetD, found]; rfl
    show execScheduleEntryDue entry s = _
    obtain rising | ⟨full, moving⟩ := mode
    · simp [execScheduleEntryDue, here, enabled, rising]
    · simp [execScheduleEntryDue, here, enabled, full, moving]
  case drained =>
    intro s moving target
    have row : exec .dormantDrainEnd s = execDormantDrainEnd s := rfl
    rw [row, execDormantDrainEnd, if_neg (by simp [moving, target])]
    dsimp only
    have off (d : Nat) (inside : d < 64) := (forEach_setDomain_domain (forEach (List.range 32) (dropAllFrames s).1 octalDown) (List.range 64) .off d).trans
      (if_pos (List.mem_range.2 inside))
    generalize forEach (List.range 64) _ _ = u at off ⊢
    refine ⟨_, rfl, fun d inside => ⟨off d inside, ?_⟩⟩
    rw [clearReady_isReady, List.contains_iff_mem.2 (List.mem_range.2 inside), Bool.not_true, Bool.and_false]
  case flushed =>
    intro s moving target notYet off idle flow awake
    show execDormantFlushComplete s = _
    have domains : (List.range 64).all (fun d => s.domain d = .off) = true := by simpa using off
    rw [execDormantFlushComplete, if_neg (by simp [moving, target, notYet, domains, idle, flow])]
    exact congrArg _ (if_pos awake)
  case refresh =>
    intro s stack inside moving target flushed idle ready other
    show execSelfRefreshEntry stack s = _
    rw [execSelfRefreshEntry, if_neg (by simp [moving, target, flushed, idle, ready])]
    have awake : State.stackAwake (setStack stack .off { s with hbm.selfRefresh := setBit s.hbm.selfRefresh stack true }) = true :=
      (stackAwake_setStack_off _ inside ready).2 other
    exact congrArg _ (if_pos awake)
  case last =>
    intro s stack inside moving target flushed idle ready other
    have row : exec (.selfRefreshEntry stack) s = execSelfRefreshEntry stack s := rfl
    rw [row, execSelfRefreshEntry, if_neg (by simp [moving, target, flushed, idle, ready])]
    have asleep : ¬State.stackAwake (setStack stack .off { s with hbm.selfRefresh := setBit s.hbm.selfRefresh stack true }) = true :=
      fun awake => other ((stackAwake_setStack_off _ inside ready).1 awake)
    refine ⟨_, congrArg _ (if_neg asleep), ?_, rfl⟩
    rw [enterDormant_hbm]
    rfl
  case noStack =>
    intro s moving target notYet off idle flow asleep
    have row : exec .dormantFlushComplete s = execDormantFlushComplete s := rfl
    have domains : (List.range 64).all (fun d => s.domain d = .off) = true := by simpa using off
    rw [row, execDormantFlushComplete, if_neg (by simp [moving, target, notYet, domains, idle, flow])]
    refine ⟨_, congrArg _ (if_neg (by rw [asleep]; decide)), rfl, rfl, rfl, rfl, rfl, rfl, rfl, rfl, fun w hw => ?_⟩
    obtain ⟨e, -, rfl⟩ := List.mem_map.1 hw
    rfl
  case wake =>
    intro s cause mode called
    have row : exec (.wake cause true) s = execWake cause true s := rfl
    rw [row, execWake, if_neg (by simp [mode, called])]
    have kept := resumeFilter_kept { s with
      power.wakeCause := cause
      power.mode := .rising
      power.target := s.power.before.1
      power.waking := true }
    dsimp only
    generalize resumeFilter _ = u at kept ⊢
    obtain ⟨power, boot⟩ := Prod.mk.inj kept
    refine ⟨_, if_neg (by decide), congrArg (·.mode) power, congrArg (·.waking) power, congrArg (·.wakeCause) power, congrArg (·.target) power, rfl,
      congrArg (·.resetDue) boot, fun d hd => ?_⟩
    have fixed : d ∈ wakeOrder ∧ 64 ≤ d := (show ∀ d ∈ [94, 84, 85, 86, 87, 88, 89], d ∈ wakeOrder ∧ 64 ≤ d by decide) d hd
    have domains := congrArg (fun p : PowerState => tgetD p.domains d .off) power
    have domain : State.domain { u with boot.stage := 3 } d = s.domain d := domains
    rw [← domain]
    exact mem_queuePower _ fixed.1 (unitHeld_of_fixed _ fixed.2)
  case badImage =>
    intro s cause mode called
    have row : exec (.wake cause false) s = execWake cause false s := rfl
    rw [row, execWake, if_neg (by simp [mode, called])]
    have kept := resumeFilter_kept { s with
      power.wakeCause := cause
      power.mode := .rising
      power.target := s.power.before.1
      power.waking := true }
    dsimp only
    generalize resumeFilter _ = u at kept ⊢
    obtain ⟨power, boot⟩ := Prod.mk.inj kept
    refine ⟨_, if_pos rfl, ?_, rfl⟩
    exact congrArg (·.mode) power
  case woken =>
    intro s mode waking reported nothing
    have row : exec (.wakeComplete true) s = execWakeComplete true s := rfl
    rw [row, execWakeComplete, if_neg (by simp [mode, waking, reported]), if_neg (by simp)]
    dsimp only
    generalize raised : raise 339 _ = u
    have power : u.power = { s.power with
        mode := s.power.before.1
        target := s.power.before.1
        profile := s.power.before.2
        waking := false
        wakeReq := [] } := by rw [← raised, raise_power, raise_power]
    have boot : u.boot.stage = 4 := by rw [← raised, raise_boot, raise_boot]
    have ocf : u.ocf.held = none ∧ u.ocf.intake = s.ocf.intake ++ (s.ocf.held.map (fun h => ⟨h.1, h.2, 0⟩)).toList := by
      rw [← raised, raise_ocf, raise_ocf]
      exact ⟨rfl, rfl⟩
    have deferred : (if u.power.mode = .full then setCeiling 232 u else u).power.deferredSched = [] := by
      split <;> exact (congrArg (·.deferredSched) power).trans nothing
    rw [deferred]
    refine ⟨_, rfl, ?_⟩
    unfold runDeferred
    split <;> exact ⟨congrArg (·.mode) power, congrArg (·.profile) power, congrArg (·.waking) power, boot, ocf⟩
  case badRestore =>
    intro s mode waking
    show execWakeComplete false s = _
    rw [execWakeComplete, if_neg (by simp [mode, waking])]
    rfl
  case hold =>
    intro s opcode f mac tag mode free transport
    show execDormantOcfHold opcode f s = _
    rw [execDormantOcfHold, if_pos mode, holdDormant, transport]
    exact congrArg _ (if_pos (by simp [free]))

end

section
/-! The obligation about time (chapter 14): what a raised source leaves, and what the choice of a source keeps. -/

namespace Sys2Proof.Machine

section
variable (s : State)

/-- An event clears no status bit. -/
theorem raise_status_of_set {n k : Nat} (set : s.host.int.status.testBit k = true) :
    (raise n s).host.int.status.testBit k = true := by
  unfold raise
  split
  · exact set
  · split
    · exact set
    · rw [testBit_setBit]
      split <;> simp_all

/-! ## The validity of the sources -/

/-- The validity of PPS and FREQ with what was measured of them. -/
def State.reference (s : State) : Bool × Option Nat × Bool × Int :=
  (s.time.ppsValid, s.time.ppsLast, s.time.freqValid, s.time.freqMeasured)

theorem raise_reference (n : Nat) : (raise n s).reference = s.reference := by rw [State.reference, raise_time]; rfl

theorem setTimeState_reference (t : TimeState) : (setTimeState t s).reference = s.reference := by
  unfold setTimeState
  split
  · rfl
  · dsimp only
    rw [raise_reference]
    by_cases locked : s.time.state = .locked
    · rw [if_pos locked]
      cases t <;> rfl
    · rw [if_neg locked]
      cases t <;> rfl

theorem reselect_reference : (reselect s).reference = s.reference := by
  unfold reselect
  dsimp only
  split
  · split
    · rfl
    · rw [setTimeState_reference]; rfl
  · split
    · rfl
    · rw [setTimeState_reference]; rfl
  · split
    · rfl
    · split <;>
      · rw [setTimeState_reference, raise_reference]; rfl
  · split
    · rfl
    · split
      · rw [setTimeState_reference, raise_reference]; rfl
      · rfl

theorem refreshFreq_reference : (refreshFreq s).reference = s.reference := by
  unfold refreshFreq
  split <;> rfl

theorem refreshFreq_host : (refreshFreq s).host = s.host := by
  unfold refreshFreq
  split <;> rfl

theorem pushStamp_reference (e : Stamp) : (pushStamp e s).reference = s.reference := by
  unfold pushStamp
  dsimp only
  split
  · rw [raise_reference]; rfl
  · rfl

theorem pushStamp_clock (e : Stamp) : ((pushStamp e s).time.now, (pushStamp e s).time.ppsDelay) = (s.time.now, s.time.ppsDelay) := by
  unfold pushStamp
  dsimp only
  split
  · rw [raise_time]
  · rfl

theorem ppsValid_of_reference {s t : State} (same : t.reference = s.reference) : t.time.ppsValid = s.time.ppsValid :=
  congrArg (·.1) same

theorem ppsLast_of_reference {s t : State} (same : t.reference = s.reference) : t.time.ppsLast = s.time.ppsLast :=
  congrArg (·.2.1) same

theorem freqValid_of_reference {s t : State} (same : t.reference = s.reference) : t.time.freqValid = s.time.freqValid :=
  congrArg (·.2.2.1) same

theorem freqMeasured_of_reference {s t : State} (same : t.reference = s.reference) : t.time.freqMeasured = s.time.freqMeasured :=
  congrArg (·.2.2.2) same

/-- Losing PPS leaves it invalid and keeps the instant of its last edge. -/
theorem losePps_invalid : (losePps s).time.ppsValid = false ∧ (losePps s).time.ppsLast = s.time.ppsLast := by
  unfold losePps
  split
  · have same : (reselect (raise 388 { s with time.ppsValid := false, time.takeover := 0 })).reference =
        State.reference { s with time.ppsValid := false, time.takeover := 0 } :=
      (reselect_reference _).trans (raise_reference _ 388)
    exact ⟨(ppsValid_of_reference same).trans rfl, (ppsLast_of_reference same).trans rfl⟩
  next valid => exact ⟨by simpa using valid, rfl⟩

/-- Losing FREQ leaves it invalid. -/
theorem loseFreq_invalid : (loseFreq s).time.freqValid = false := by
  unfold loseFreq
  split
  · exact freqValid_of_reference ((refreshFreq_reference _).trans (raise_reference { s with time.freqValid := false } 389))
  next valid => simpa using valid

/-- FREQ lost is an event of source 389. -/
theorem loseFreq_raises (valid : s.time.freqValid = true) : (loseFreq s).host.int.status.testBit 389 = true := by
  rw [loseFreq, if_pos valid, refreshFreq_host]
  exact raise_sets_status _ rfl

/-- HOLDOVER that ends is FREE_RUN, with source 384 raised. -/
theorem setTimeState_freeRun_of_holdover (held : s.time.state = .holdover) :
    (setTimeState .freeRun s).time.state = .freeRun ∧ (setTimeState .freeRun s).host.int.status.testBit 384 = true ∧
      ∀ k, s.host.int.status.testBit k = true → (setTimeState .freeRun s).host.int.status.testBit k = true := by
  unfold setTimeState
  rw [if_neg (by rw [held]; decide)]
  simp only [held, if_neg (show ¬ TimeState.holdover = TimeState.locked by decide)]
  refine ⟨?_, raise_sets_status _ rfl, fun k set => raise_status_of_set _ set⟩
  rw [raise_time]

/-- An output that is driven has the level. -/
theorem driveOutput_level (k : Nat) (level : Bool) : (tgetD (driveOutput k level s).time.outputs k {}).level = level := by
  unfold driveOutput
  dsimp only
  split
  next same => exact same
  · rw [tgetD_tset_self]

/-- Within the second that is counted, an event message is taken below the bound and counted as overload at it. -/
theorem takeRate_of_within (within : s.time.localNs - s.ptp.rateStart < 1000000000) :
    takeRate s = if s.ptp.rate < 64000 then (true, { s with ptp.rate := s.ptp.rate + 1 })
      else (false, { s with ptp.overload := inc64 s.ptp.overload }) := by
  simp only [takeRate, if_neg (Nat.not_le.mpr within), ge_iff_le]
  by_cases below : s.ptp.rate < 64000
  · rw [if_neg (by omega), if_pos below]
  · rw [if_pos (by omega), if_neg below]

end

end Sys2Proof.Machine

open Sys2Proof.Machine

/-- Settles O27: each row by its definition; the stamp of an edge, the choice of a source and a change of the time state keep the
validity of the references. -/
theorem timeRows : Obligations.TimeRows := by
  unfold Obligations.TimeRows
  refine ⟨?falling, ?first, ?second, ?outOfRange, ?timeout, ?freq, ?freqOut, ?freqInvalid, ?sync, ?announce, ?holdover, ?leap61, ?leap59,
    ?train, ?level, ?mismatch, ?general, ?event, ?send⟩
  case falling => intro s; rfl
  case first =>
    intro s never
    have never' := (ppsLast_of_reference (pushStamp_reference s ⟨32, true, false, s.time.now⟩)).trans never
    have now := congrArg (·.1) (pushStamp_clock s ⟨32, true, false, s.time.now⟩)
    have row : exec (.ppsEdge true) s = execPpsEdge true s := rfl
    rw [row]
    dsimp only at now
    simp only [execPpsEdge, Bool.not_true, Bool.false_eq_true, if_false, never', Option.map_none, now]
    exact ⟨_, rfl, rfl⟩
  case second =>
    intro s last edge valid least most
    have same := pushStamp_reference s ⟨32, true, false, s.time.now⟩
    have edge' := (ppsLast_of_reference same).trans edge
    have valid' := (ppsValid_of_reference same).trans valid
    have clock := pushStamp_clock s ⟨32, true, false, s.time.now⟩
    have now := congrArg (·.1) clock
    have delay := congrArg (·.2) clock
    dsimp only at now delay
    show execPpsEdge true s = _
    simp only [execPpsEdge, Bool.not_true, Bool.false_eq_true, if_false, edge', Option.map_some, now, delay, valid', if_true]
    rw [if_pos (by simp [least, most])]
  case outOfRange =>
    intro s last edge out
    have edge' := (ppsLast_of_reference (pushStamp_reference s ⟨32, true, false, s.time.now⟩)).trans edge
    have now := congrArg (·.1) (pushStamp_clock s ⟨32, true, false, s.time.now⟩)
    dsimp only at now
    have row : exec (.ppsEdge true) s = execPpsEdge true s := rfl
    rw [row]
    simp only [execPpsEdge, Bool.not_true, Bool.false_eq_true, if_false, edge', Option.map_some, now]
    rw [if_neg (by simp only [Bool.and_eq_true, decide_eq_true_eq]; omega)]
    exact ⟨_, rfl, losePps_invalid _⟩
  case timeout =>
    intro s
    exact ⟨_, rfl, (losePps_invalid s).1, rfl⟩
  case freq =>
    intro s hz least most
    have row : exec (.freqMeasurement hz) s = execFreqMeasurement hz s := rfl
    rw [row, execFreqMeasurement]
    dsimp only
    rw [if_pos (by omega)]
    have same := refreshFreq_reference { s with
      time.freqValid := true
      time.freqMeasured := ((hz : Int) - 10000000) * 100 * 65536 }
    refine ⟨_, rfl, freqValid_of_reference same, (freqMeasured_of_reference same).trans ?_⟩
    show ((hz : Int) - 10000000) * 100 * 65536 = _
    ring
  case freqOut =>
    intro s hz out
    have row : exec (.freqMeasurement hz) s = execFreqMeasurement hz s := rfl
    rw [row, execFreqMeasurement]
    dsimp only
    rw [if_neg (by omega)]
    exact ⟨_, rfl, loseFreq_invalid s⟩
  case freqInvalid =>
    intro s
    exact ⟨_, rfl, loseFreq_invalid s, loseFreq_raises s⟩
  case sync =>
    intro s valid
    exact congrArg _ (if_pos valid)
  case announce =>
    intro s port p known
    show execAnnounceTimeout port s = _
    rw [execAnnounceTimeout, known]
  case holdover =>
    intro s held
    have row : exec .holdoverExpire s = execHoldoverExpire s := rfl
    rw [row, execHoldoverExpire, if_pos held]
    obtain ⟨free, raised, kept⟩ := setTimeState_freeRun_of_holdover (raise 387 s) (by rw [raise_time, held])
    exact ⟨_, rfl, free, kept 387 (raise_sets_status s rfl), raised⟩
  case leap61 =>
    intro s leap
    exact congrArg _ (if_pos leap)
  case leap59 =>
    intro s none61 leap
    show execLeapEvent s = _
    rw [execLeapEvent, if_neg (by simp [none61]), if_pos leap]
  case train =>
    intro s output o known pulse free
    have known' : tgetD s.time.outputs output {} = o := by rw [tgetD, known]; rfl
    show execTimedOutputEdge output s = _
    simp only [execTimedOutputEdge, known', pulse, free, if_true, Bool.false_and, Bool.not_false, Bool.and_true, ite_self, driveOutput]
    rw [if_neg (by simp)]
  case level =>
    intro s output o known pulse rising
    have known' : tgetD s.time.outputs output {} = o := by rw [tgetD, known]; rfl
    have row : exec (.timedOutputEdge output) s = execTimedOutputEdge output s := rfl
    rw [row]
    simp only [execTimedOutputEdge, known']
    rw [if_neg (by simpa using rising), if_neg pulse]
    exact ⟨_, rfl, driveOutput_level s output _⟩
  case mismatch =>
    intro s port p msg known runs ready same' clock other
    show execPtpMessageReceive port msg s = _
    simp only [execPtpMessageReceive, known]
    rw [if_neg (by simp [runs, ready, same', clock]), if_neg (by simp [clock]), if_pos (by simp [clock, other])]
  case general =>
    intro s port p msg known runs ready same' part general
    show execPtpMessageReceive port msg s = _
    simp only [execPtpMessageReceive, known]
    rw [if_neg (by rcases part with ⟨m, _⟩ | ⟨m, _, _⟩ <;> simp [runs, ready, same', m]),
      if_neg (by rcases part with ⟨m, _⟩ | ⟨_, t, peer⟩ <;> simp [*]),
      if_neg (by rcases part with ⟨_, d⟩ | ⟨m, _, _⟩ <;> simp [*]), if_neg (by simp [general])]
  case event =>
    intro s port p msg known runs ready same' part event within
    show execPtpMessageReceive port msg s = _
    simp only [execPtpMessageReceive, known]
    rw [if_neg (by rcases part with ⟨m, _⟩ | ⟨m, _, _⟩ <;> simp [runs, ready, same', m]),
      if_neg (by rcases part with ⟨m, _⟩ | ⟨_, t, peer⟩ <;> simp [*]),
      if_neg (by rcases part with ⟨_, d⟩ | ⟨m, _, _⟩ <;> simp [*]), if_pos event, takeRate_of_within s within]
    by_cases below : s.ptp.rate < 64000
    · rw [if_pos below, if_pos below]
    · rw [if_neg below, if_neg below]
  case send =>
    intro s port kind p known runs ready same' part may
    have known' : tgetD s.ptp.ports port {} = p := by rw [tgetD, known]; rfl
    show execPtpMessageSend port kind s = _
    simp only [execPtpMessageSend, known]
    rw [if_pos (by simp [runs, ready, same', part, may]), sendPtp, known']
    simp only [setPtpPort, originate, Bool.or_eq_true, decide_eq_true_eq]
end

section
/-! The obligations about discovery (chapter 14) and mailboxes (chapter 11). -/

namespace Sys2Proof.Machine

section
variable (s : State)

/-! ## Neighbours and optics slots -/

/-- A neighbour in the table leaves it, with source 401 raised. -/
theorem dropNeighbour_of_mem {port chassis : Nat} (known : ∃ n ∈ s.disc.neighbours, sameNeighbour port chassis n = true) :
    dropNeighbour port chassis s = raise 401 { s with
      disc.neighbours := s.disc.neighbours.filter (fun n => !sameNeighbour port chassis n) } :=
  if_pos (List.any_eq_true.mpr known)

theorem slotDown_core (o : OpticsSlot) : (slotDown o s).core = s.core :=
  forEach_keeps State.core (fun p u => linkDown_core u p) (s.slotPorts o) s

/-! ## Accesses of the host -/

theorem guarded_of_open {isOpen : Bool} (reach : s.hostReach = true) (opened : isOpen = true) (bar off : Nat) (f : State → State) :
    guarded isOpen bar off f s = .next (f s) := by
  rw [guarded, if_neg (by simp [reach]), if_pos opened]

theorem guardedRead_of_open {isOpen : Bool} (reach : s.hostReach = true) (opened : isOpen = true) (bar off : Nat)
    (f : State → State) : guardedRead isOpen bar off f s = .next (f s) := by
  rw [guardedRead, if_neg (by simp [reach]), if_pos opened]

theorem pushWord_of_room {c : Nat} (word : Nat) {eom : Bool} (room : (s.chan c).inQ.length < 256)
    (whole : eom = true → (s.chan c).broken = false) :
    pushWord c word eom s =
      s.setChan c { s.chan c with inQ := (s.chan c).inQ ++ [⟨wrap 32 word, eom, (s.chan c).hostGen⟩] } := by
  unfold pushWord
  dsimp only
  rw [if_neg (by omega), if_neg (by simpa using whole)]

theorem pushWord_of_full {c : Nat} (word : Nat) (eom : Bool) (full : 256 ≤ (s.chan c).inQ.length) :
    pushWord c word eom s = raise (16 + c) (s.setChan c { s.chan c with
      ovf := true
      ovfCount := wrapAdd 32 (s.chan c).ovfCount 1
      broken := !eom
      inQ := if eom then dropIncomplete (s.chan c).inQ else (s.chan c).inQ }) := if_pos full

/-- What has left the device is no part of an event. -/
theorem raise_with_out (n : Nat) (o : Outputs) : raise n { s with out := o } = { raise n s with out := o } := by
  unfold raise
  split
  · rfl
  · split <;> rfl

/-- A refused write is counted, raised and reported. -/
theorem writeRefused_eq (bar off : Nat) : writeRefused bar off s = raise 114 { s with
    host.urBar := bar
    host.urOffset := off
    host.urCount := satAdd 32 s.host.urCount 1
    out.urReports := s.out.urReports + 1 } := by
  simp only [writeRefused, refuseAccess, raise_out]
  exact (raise_with_out _ 114 _).symm

/-- A channel after a HOST_RESET of its own (R473). -/
def Channel.afterHostReset (ch : Channel) : Channel := { ch with
  outQ := []
  flushCount := wrapAdd 32 ch.flushCount ch.outCount
  hostGen := ch.hostGen + 1
  peerEvent := some ch.outCount
  waiting := ch.waiting.map (fun m => { m with oldHost := true })
  inQ := dropIncomplete ch.inQ
  broken := false }

theorem hostReset_chan (c : Nat) : (hostReset [c] true s).chan = (s.setChan c (s.chan c).afterHostReset).chan := rfl

end

end Sys2Proof.Machine

open Sys2Proof.Machine

/-- Settles O28: each row by its definition; the links of a slot keep the optics slots. -/
theorem discoveryRows : Obligations.DiscoveryRows := by
  unfold Obligations.DiscoveryRows
  refine ⟨?transmit, ?appears, ?refused, ?shutdown, ?expires, ?member, ?present, ?missed, ?absent⟩
  case transmit =>
    intro s port runs sends up
    show execLldpTransmit port s = _
    rw [execLldpTransmit, if_pos (by simp [runs, sends, up])]
    rfl
  case appears =>
    intro s port pdu runs takes live plain fresh room few
    show execLldpduReceive port pdu s = _
    rw [execLldpduReceive, if_neg (by simp [runs, takes]), if_neg live]
    simp only [fresh, plain]
    rw [if_neg (by simp only [Bool.or_eq_true, decide_eq_true_eq]; omega)]
    rfl
  case refused =>
    intro s port pdu runs takes live plain fresh full
    show execLldpduReceive port pdu s = _
    rw [execLldpduReceive, if_neg (by simp [runs, takes]), if_neg live]
    simp only [fresh, plain]
    rw [if_pos (by simpa using full)]
    rfl
  case shutdown =>
    intro s port pdu runs takes ends known
    show execLldpduReceive port pdu s = _
    rw [execLldpduReceive, if_neg (by simp [runs, takes]), if_pos ends, dropNeighbour_of_mem s known]
  case expires =>
    intro s port chassis known
    exact congrArg _ (dropNeighbour_of_mem s known)
  case member =>
    intro s device m known
    exact congrArg _ (if_pos (by rw [known]; rfl))
  case present =>
    intro s slot poll o runs known ack identified absent well
    have row : exec (.opticsPoll slot poll) s = execOpticsPoll slot poll s := rfl
    have noFault : (poll.cmis && decide (poll.moduleState = 5)) = false := by
      cases cmis : poll.cmis
      · rfl
      · simpa using well cmis
    rw [row]
    simp only [execOpticsPoll, known, runs, Bool.not_true, Bool.false_eq_true, if_false, absent, noFault, Bool.false_and]
    rw [if_pos (by simp [ack, identified])]
    refine ⟨_, rfl, raise_sets_status _ rfl, ?_⟩
    rw [raise_disc]
    exact ⟨_, tget_tset_self .., rfl, rfl, rfl, rfl, rfl, rfl⟩
  case missed =>
    intro s slot poll o runs known silent present few
    show execOpticsPoll slot poll s = _
    simp only [execOpticsPoll, known, runs, silent, present, Bool.not_true, Bool.false_eq_true, if_false, Bool.false_and]
    rw [if_neg (by omega)]
  case absent =>
    intro s slot poll o runs known silent present third
    have row : exec (.opticsPoll slot poll) s = execOpticsPoll slot poll s := rfl
    rw [row]
    simp only [execOpticsPoll, known, runs, silent, present, Bool.not_true, Bool.false_eq_true, if_false, Bool.false_and]
    rw [if_pos (by omega)]
    refine ⟨_, rfl, ?_⟩
    rw [optics_of_core (slotDown_core _ o), raise_disc]
    exact tget_tset_self ..

/-- Settles O29: each access that reaches an open block is its block's function, in the case of the queue that the row names. -/
theorem mailboxRows : Obligations.MailboxRows := by
  unfold Obligations.MailboxRows
  refine ⟨?data, ?eom, ?dataFull, ?eomFull, ?closed, ?nextWord, ?lastWord, ?underrun, ?post, ?reset, ?doorbell, ?take, ?go, ?collision,
    ?ack, ?cmbTake⟩
  case data =>
    intro s c word reach opened room
    exact (guarded_of_open s reach opened _ _ _).trans (congrArg _ (pushWord_of_room s word room nofun))
  case eom =>
    intro s c word reach opened room whole
    exact (guarded_of_open s reach opened _ _ _).trans (congrArg _ (pushWord_of_room s word room fun _ => whole))
  case dataFull =>
    intro s c word reach opened full
    exact (guarded_of_open s reach opened _ _ _).trans (congrArg _ (pushWord_of_full s word false full))
  case eomFull =>
    intro s c word reach opened full
    exact (guarded_of_open s reach opened _ _ _).trans (congrArg _ (pushWord_of_full s word true full))
  case closed =>
    intro s c word reach closed
    show guarded (s.chOpen c) 0 (chanOff c 0) (pushWord c word false) s = _
    rw [guarded, if_neg (by simp [reach]), if_neg (by simp [closed]), writeRefused_eq]
    rfl
  case nextWord =>
    intro s c m ms w w' ws reach opened queue words
    show guardedRead (s.chOpen c) 0 (chanOff c 0x14) (fun s => settleLevels (popWord c s)) s = _
    rw [guardedRead_of_open s reach opened]
    simp only [popWord, queue, words]
    rfl
  case lastWord =>
    intro s c m ms w reach opened queue words
    show guardedRead (s.chOpen c) 0 (chanOff c 0x14) (fun s => settleLevels (popWord c s)) s = _
    rw [guardedRead_of_open s reach opened]
    simp only [popWord, queue, words]
    rfl
  case underrun =>
    intro s c reach opened queue
    show guardedRead (s.chOpen c) 0 (chanOff c 0x14) (fun s => settleLevels (popWord c s)) s = _
    rw [guardedRead_of_open s reach opened]
    simp only [popWord, queue]
    rfl
  case post =>
    intro s c m ms runs ready waits fits
    show execMbxOutPost c s = _
    simp only [execMbxOutPost, waits]
    rw [if_pos (by simp [runs, ready, fits])]
  case reset =>
    intro s c reach opened
    refine ⟨_, guarded_of_open s reach opened _ _ _, ?_⟩
    rw [hostReset_chan, State.setChan_chan_self]
    exact ⟨rfl, rfl, rfl, rfl, rfl, fun d other => State.setChan_chan_of_ne s c _ other⟩
  case doorbell =>
    intro s hi bits reach opened
    have row : exec (.h2dSet hi bits) s = guarded s.barOpen 0 (0x30000 + 4 * bit hi)
        (fun s => { s with host.h2dPend := s.host.h2dPend ||| (wrap 32 bits <<< (32 * bit hi)) }) s := rfl
    rw [row, guarded_of_open s reach opened]
    cases hi <;> rfl
  case take =>
    intro s d runs ready
    have row : exec (.doorbellTake d) s = execDoorbellTake d s := rfl
    rw [row, execDoorbellTake, if_pos (by simpa [runs] using ready)]
    exact ⟨_, rfl, testBit_setBit_self .., fun e other => testBit_setBit_of_ne other _ _, rfl⟩
  case go =>
    intro s len reach opened empty short
    show guarded s.barOpen 2 0x100 (cmbWrite 64 (2 ^ 31 + len)) s = _
    rw [guarded_of_open s reach opened]
    have length : (2 ^ 31 + len) % 128 = len := by omega
    have start : (2 ^ 31 + len).testBit 31 = true := by
      rw [Nat.testBit_two_pow_add_eq, Nat.testBit_lt_two_pow (by omega)]; rfl
    simp only [cmbWrite, empty, start, length]
    rfl
  case collision =>
    intro s index word reach opened full inside
    show guarded s.barOpen 2 (4 * index) (cmbWrite index word) s = _
    rw [guarded_of_open s reach opened]
    simp only [cmbWrite, full, if_pos inside, if_true]
  case ack =>
    intro s reach opened
    show guarded s.barOpen 2 0x304 (fun s => { s with host.cmb.rspValid := false }) s = _
    rw [guarded_of_open s reach opened]
  case cmbTake =>
    intro s runs full idle
    exact if_pos (by simp [runs, full, idle])
end

section
/-! The obligation about interrupts and event inputs (R490 to R501, R586, R587). -/

namespace Sys2Proof.Machine

section
variable (s : State)

/-! ## What an event leaves: a status bit, or a count in REASSERT -/

/-- A state but for the status bits and REASSERT. -/
def State.withEvents (status : Nat) (reassert : Tab Nat) : State := { s with
  host.int.status := status
  host.int.reassert := reassert }

theorem raise_withEvents (n : Nat) :
    raise n s = s.withEvents (raise n s).host.int.status (raise n s).host.int.reassert := by
  unfold raise
  split
  · rfl
  · split <;> rfl

theorem raise_status (n k : Nat) :
    (raise n s).host.int.status.testBit k = (s.host.int.status.testBit k || (decide (k = n) && !isLevel n)) := by
  cases level : isLevel n
  · by_cases same : k = n
    · subst same
      simp [raise_sets_status s level]
    · cases set : s.host.int.status.testBit n
      · rw [raise_of_clear level set]
        simp [testBit_setBit_of_ne same, same]
      · rw [raise_of_set level set]
        simp [same]
  · rw [raise, if_pos level]
    simp

theorem raise_reassert (n k : Nat) : tgetD (raise n s).host.int.reassert k 0 =
    if k = n ∧ isLevel n = false ∧ s.host.int.status.testBit n = true then satAdd 8 (tgetD s.host.int.reassert k 0) 1
    else tgetD s.host.int.reassert k 0 := by
  cases level : isLevel n
  · cases set : s.host.int.status.testBit n
    · rw [raise_of_clear level set]
      simp
    · rw [raise_of_set level set]
      by_cases same : k = n
      · subst same
        rw [if_pos ⟨rfl, rfl, rfl⟩]
        exact tgetD_tset_self ..
      · rw [if_neg (by simp [same])]
        exact tgetD_tset_of_ne _ _ _ same
  · rw [raise, if_pos level]
    simp

/-- The event of a source that some chapter names. -/
def raiseNamed (n : Nat) (s : State) : State := if isSource n then raise n s else s

theorem raiseMask_eq (g mask : Nat) : raiseMask g mask s = forEach (bitsOf 16 mask) s (fun k s => raiseNamed (16 * g + k) s) := rfl

theorem raiseNamed_withEvents (n : Nat) :
    raiseNamed n s = s.withEvents (raiseNamed n s).host.int.status (raiseNamed n s).host.int.reassert := by
  unfold raiseNamed
  split
  · exact raise_withEvents s n
  · rfl

theorem withEvents_raiseNamed (n status : Nat) (reassert : Tab Nat) :
    (raiseNamed n s).withEvents status reassert = s.withEvents status reassert := by
  rw [raiseNamed_withEvents]
  rfl

theorem raiseNamed_status (n k : Nat) : (raiseNamed n s).host.int.status.testBit k =
    (s.host.int.status.testBit k || (decide (k = n) && isSource n && !isLevel n)) := by
  unfold raiseNamed
  split
  next named => rw [raise_status, named, Bool.and_true]
  next unnamed => rw [Bool.eq_false_iff.mpr unnamed]; simp

theorem raiseNamed_reassert (n k : Nat) : tgetD (raiseNamed n s).host.int.reassert k 0 =
    if k = n ∧ isSource n = true ∧ isLevel n = false ∧ s.host.int.status.testBit n = true then
      satAdd 8 (tgetD s.host.int.reassert k 0) 1
    else tgetD s.host.int.reassert k 0 := by
  unfold raiseNamed
  split
  next named => rw [raise_reassert]; simp [named]
  next unnamed => simp [unnamed]

end

/-- Events of sources `b + k`, each source once: what they leave. -/
theorem forEach_raiseNamed (b : Nat) (ks : List Nat) (once : ks.Nodup) (s : State) :
    let t := forEach ks s (fun k s => raiseNamed (b + k) s)
    t = s.withEvents t.host.int.status t.host.int.reassert ∧
    (∀ n, t.host.int.status.testBit n = true ↔ s.host.int.status.testBit n = true ∨
      (∃ k ∈ ks, n = b + k) ∧ isSource n = true ∧ isLevel n = false) ∧
    ∀ n, isLevel n = false → tgetD t.host.int.reassert n 0 =
      if (∃ k ∈ ks, n = b + k) ∧ isSource n = true ∧ s.host.int.status.testBit n = true then satAdd 8 (tgetD s.host.int.reassert n 0) 1
      else tgetD s.host.int.reassert n 0 := by
  induction ks generalizing s with
  | nil => exact ⟨rfl, fun n => by simp [forEach], fun n _ => by simp [forEach]⟩
  | cons k ks ih =>
    obtain ⟨fresh, once⟩ := List.nodup_cons.mp once
    obtain ⟨same, status, reassert⟩ := ih once (raiseNamed (b + k) s)
    refine ⟨?_, fun n => (status n).trans ?_, fun n event => (reassert n event).trans ?_⟩
    · exact same.trans (withEvents_raiseNamed s (b + k) _ _)
    · rw [raiseNamed_status]
      by_cases here : n = b + k
      · subst here
        simp [fresh]
      · simp [here]
    · rw [raiseNamed_reassert, raiseNamed_status]
      by_cases here : n = b + k
      · subst here
        simp [fresh, event]
      · simp [here]

theorem nodup_bitsOf (w n : Nat) : (bitsOf w n).Nodup := List.nodup_range.filter _

/-- A source is in a mask of its group. -/
theorem exists_mem_bitsOf_iff {g mask n : Nat} :
    (∃ k ∈ bitsOf 16 mask, n = 16 * g + k) ↔ n / 16 = g ∧ mask.testBit (n % 16) = true := by
  constructor
  · rintro ⟨k, hk, rfl⟩
    obtain ⟨small, named⟩ := mem_bitsOf.1 hk
    exact ⟨by omega, by rwa [Nat.mul_add_mod, Nat.mod_eq_of_lt small]⟩
  · rintro ⟨rfl, named⟩
    exact ⟨n % 16, mem_bitsOf.2 ⟨Nat.mod_lt _ (by decide), named⟩, (Nat.div_add_mod n 16).symm⟩

section
variable (g mask : Nat) (s : State)

theorem raiseMask_withEvents :
    raiseMask g mask s = s.withEvents (raiseMask g mask s).host.int.status (raiseMask g mask s).host.int.reassert :=
  (forEach_raiseNamed (16 * g) _ (nodup_bitsOf 16 mask) s).1

theorem raiseMask_status (n : Nat) : (raiseMask g mask s).host.int.status.testBit n = true ↔ s.host.int.status.testBit n = true ∨
    (n / 16 = g ∧ mask.testBit (n % 16) = true) ∧ isSource n = true ∧ isLevel n = false := by
  rw [← exists_mem_bitsOf_iff]
  exact (forEach_raiseNamed (16 * g) _ (nodup_bitsOf 16 mask) s).2.1 n

theorem raiseMask_reassert {n : Nat} (event : isLevel n = false) : tgetD (raiseMask g mask s).host.int.reassert n 0 =
    if (n / 16 = g ∧ mask.testBit (n % 16) = true) ∧ isSource n = true ∧ s.host.int.status.testBit n = true then
      satAdd 8 (tgetD s.host.int.reassert n 0) 1
    else tgetD s.host.int.reassert n 0 := by
  simp only [← exists_mem_bitsOf_iff]
  exact (forEach_raiseNamed (16 * g) _ (nodup_bitsOf 16 mask) s).2.2 n event

/-- A group that sends is one that wants to, with the function at work and MSI-X on. -/
theorem groupSends_iff : s.groupSends g = true ↔ s.groupWants g = true ∧ s.host.dstate = 0 ∧ s.host.msixEnable = true := by
  simp [State.groupSends, and_assoc]

end

/-- A stamp with room in the queue enters it. -/
theorem pushStamp_of_room {s : State} (e : Stamp) (room : s.time.stamps.length < 256) :
    (pushStamp e s).time.stamps = s.time.stamps ++ [e] ∧ (pushStamp e s).host = s.host := by
  unfold pushStamp
  dsimp only
  rw [if_neg (by omega)]
  exact ⟨rfl, rfl⟩

/-- The sources of the event inputs are event sources. -/
theorem isLevel_eventInput {e : Nat} (he : e < 32) : isLevel (288 + e) = false := by
  simp only [isLevel, Bool.or_eq_false_iff, decide_eq_false_iff_not]
  omega

end Sys2Proof.Machine

open Sys2Proof.Machine

/-- Settles O30: a write of the status registers by the events of its mask, one after another; each other row by its definition. -/
theorem interruptRows : Obligations.InterruptRows := by
  unfold Obligations.InterruptRows
  refine ⟨?clear, ?set, ?claimed, ?idle, ?busy, ?completed, ?other, ?sent, ?kept, ?wake, ?holdoff, ?unmask, ?edge, ?unselected, ?latch⟩
  case clear =>
    intro s g mask sets reach group
    refine ⟨_, exec_intStatusClear_of_reach _ reach, ?_, fun n event => ?_, fun n event => ?_⟩
    · rw [raiseMask_withEvents]
      rfl
    · rw [Bool.eq_iff_iff, clearStatus_status, raiseMask_status, testBit_clearedBits]
      simp only [event, Bool.or_eq_true, Bool.and_eq_true, decide_eq_true_eq, Bool.not_eq_true', Bool.and_eq_false_iff, decide_eq_false_iff_not]
      cases sets.testBit (n % 16) <;> simp <;> tauto
    · refine (raiseMask_reassert g sets s event).trans ?_
      simp only [and_assoc]
  case set =>
    intro s g mask reach
    refine ⟨_, guarded_of_reach _ _ _ reach, fun n => ?_, raiseMask_withEvents g mask s⟩
    rw [Bool.eq_iff_iff, raiseMask_status]
    simp [and_assoc]
  case claimed =>
    intro s g src reach free found
    rw [exec_intClaim_of_reach reach, claimWord_of_find free found, claim_of_find (s := readBack _ s) free found]
    have pending : s.intPending src = true := List.find?_some found
    have active : (readBack (2 ^ 31 + src) s).intStatus src = true := ((intPending_iff s src).1 pending).1
    rw [active]
    rfl
  case idle =>
    intro s g reach free idle
    have noneFound := find_groupSources_of_none (g := g) (s := s) fun n group => idle n (mem_groupSources.2 group)
    rw [exec_intClaim_of_reach reach, claimWord_of_find_none free noneFound, claim_of_find_none (s := readBack _ s) free noneFound]
    rfl
  case busy =>
    intro s g v reach busy
    rw [exec_intClaim_of_reach reach, claimWord_of_service busy, claim_of_service (s := readBack _ s) busy]
    rfl
  case completed =>
    intro s g v reach busy
    rw [exec_intComplete_of_reach reach, complete_of_service busy rfl]
  case other =>
    intro s g src reach other
    rw [exec_intComplete_of_reach reach, complete_of_other other]
    rfl
  case sent =>
    intro s g sends link state timer open'
    obtain ⟨wants, _, _⟩ := (groupSends_iff g s).1 sends
    show execInterruptMessageSend g s = _
    have awake : (if s.host.lpm = 1 then 0 else s.host.lpm) = 0 := by split <;> omega
    simp only [execInterruptMessageSend, wants, Bool.not_true, Bool.false_eq_true, if_false]
    rw [if_pos (by simp [sends, link, state])]
    simp only [sendGroup, State.groupCfg] at timer open' ⊢
    simp only [timer, sendVector, open', awake, Bool.false_eq_true, if_false]
  case kept =>
    intro s g sends link state timer masked
    obtain ⟨wants, _, _⟩ := (groupSends_iff g s).1 sends
    show execInterruptMessageSend g s = _
    have awake : (if s.host.lpm = 1 then 0 else s.host.lpm) = 0 := by split <;> omega
    simp only [execInterruptMessageSend, wants, Bool.not_true, Bool.false_eq_true, if_false]
    rw [if_pos (by simp [sends, link, state])]
    simp only [sendGroup, State.groupCfg] at timer masked ⊢
    simp only [timer, sendVector, masked, awake, if_true]
  case wake =>
    intro s g wants link state dstate wakes enabled idle
    show execInterruptMessageSend g s = _
    simp only [execInterruptMessageSend, wants, Bool.not_true, Bool.false_eq_true, if_false]
    rw [if_neg (by simp [State.groupSends, dstate]), if_neg (by simp [link]; omega), if_pos dstate, if_pos (by simp [wakes, enabled, idle])]
  case holdoff => intro s g; rfl
  case unmask =>
    intro s v reach kept enabled dstate
    show execMsixVectorUnmask v s = _
    rw [execMsixVectorUnmask, if_neg (by simp [reach])]
    dsimp only
    rw [if_pos (by simp [kept, enabled, dstate]), sendVector, if_neg (by simp [tgetD_tset_self])]
  case edge =>
    intro s e rising inside clock enabled selected room
    have row : exec (.eventInputEdge e rising) s = execEventInputEdge e rising s := rfl
    rw [row, execEventInputEdge, if_neg (by simp [clock])]
    dsimp only
    rw [if_pos (by simpa [State.evtCfg, enabled] using ⟨enabled, selected⟩)]
    obtain ⟨stamps, host⟩ := pushStamp_of_room (s := raise (288 + e) { s with
      host.evt.level := setBit s.host.evt.level e rising
      host.evt.async := setBit s.host.evt.async e false }) ⟨e, rising, false, s.time.now⟩ (by rw [raise_time]; exact room)
    have events := raise_withEvents { s with
      host.evt.level := setBit s.host.evt.level e rising
      host.evt.async := setBit s.host.evt.async e false } (288 + e)
    refine ⟨_, rfl, ?_, ?_, ?_, ?_⟩
    · rw [host]
      exact raise_sets_status _ (isLevel_eventInput inside)
    · rw [host, events]
      exact testBit_setBit_self ..
    · rw [host, events]
      exact testBit_setBit_self ..
    · rw [stamps, raise_time]
  case unselected =>
    intro s e rising clock disabled
    show execEventInputEdge e rising s = _
    rw [execEventInputEdge, if_neg (by simp [clock])]
    exact congrArg _ (if_neg (by simp only [Bool.and_eq_true]; exact fun both => nomatch both.1.symm.trans disabled))
  case latch =>
    intro s e rising stopped enabled async selected
    show execEventAsyncLatch e rising s = _
    simp only [execEventAsyncLatch]
    rw [if_pos (by simp [stopped, enabled, async, selected])]
    split <;> rfl
end

section
/-! The obligation about registers, the PCIe function and the pins (chapters 11 and 16). -/

namespace Sys2Proof.Machine

section
variable (s : State)

/-- The function's registers: bus master, MSI-X table and PBA, interrupt enables, power state, armed groups, link and PERST_N. -/
def State.function (s : State) : Bool × Tab MsixEntry × Nat × Nat × Nat × Nat × Nat × Nat × Bool :=
  (s.host.busMaster, s.host.msix, s.host.pba, s.host.int.enable, s.host.dstate, s.host.int.armed, s.host.linkGen, s.host.linkWidth,
    s.host.perstHigh)

/-- A host reset touches channels, the host's epoch and the interrupts in service. -/
theorem hostReset_function (cs : List Nat) (own : Bool) : (hostReset cs own s).function = s.function := by
  refine forEach_keeps (fun u : State => u.function) (fun c u => ?_) cs s
  rfl

/-- Presence is a flag of discovery, with an event. -/
theorem updatePresence_function : (updatePresence s).function = s.function := by
  unfold updatePresence
  split
  · rfl
  · rw [raise_withEvents]
    rfl

/-- What a function reset leaves of the function. -/
theorem functionReset_function : (functionReset s).function =
    (false, [], 0, 0, 0, 2 ^ 64 - 1, s.host.linkGen, s.host.linkWidth, s.host.perstHigh) := by
  unfold functionReset
  dsimp only
  rw [updatePresence_function, hostReset_function]
  rfl

/-- A host that reaches the device has PERST_N high. -/
theorem perstHigh_of_reach (reach : s.hostReach = true) : s.host.perstHigh = true := by
  simp only [State.hostReach, Bool.and_eq_true, and_assoc] at reach
  exact reach.1

/-- The IDCODE holds the stepping in its upper four bits (R647). -/
theorem idcode_eq (fits : s.flash.stepping < 16) : s.idcode = s.flash.stepping * 2 ^ 28 + 0x09256F35 := by
  have low : s.flash.stepping % 2 ^ (31 + 1 - 28) = s.flash.stepping := Nat.mod_eq_of_lt fits
  rw [State.idcode, setField, low, show field 31 28 0x19256F35 = 1 from rfl]
  omega

end

end Sys2Proof.Machine

open Sys2Proof.Machine

/-- Settles O31: reads and writes of an open block by its definition; resets of the function by what they leave of it; the pins by their
definitions. -/
theorem registerRows : Obligations.RegisterRows := by
  unfold Obligations.RegisterRows
  refine ⟨?ur, ?ovf, ?discard, ?flush, ?coll, ?drop, ?bad, ?reassert, ?evq, ?evqClosed, ?timeNs, ?capture, ?pop, ?enable, ?disable, ?tail,
    ?intEnable, ?noRegister, ?misaligned, ?perst, ?release, ?releaseDormant, ?functionLevel, ?powerState, ?linkUp, ?linkDown, ?wake,
    ?restart, ?smbus, ?idcode, ?factory, ?field, ?returned, ?void, fun s => ⟨rfl, rfl, rfl, rfl, rfl, rfl, rfl, rfl, rfl, rfl, rfl⟩⟩
  case ur =>
    intro s reach
    show execUrCountRead s = _
    rw [execUrCountRead, guardedRead_of_open s reach rfl]
    rfl
  case ovf =>
    intro s c reach opened
    show execChOvfCountRead c s = _
    rw [execChOvfCountRead, guardedRead_of_open s reach opened]
    rfl
  case discard =>
    intro s c reach opened
    show execChDiscardRead c s = _
    rw [execChDiscardRead, guardedRead_of_open s reach opened]
    rfl
  case flush =>
    intro s c reach opened
    show execChFlushCountRead c s = _
    rw [execChFlushCountRead, guardedRead_of_open s reach opened]
    rfl
  case coll =>
    intro s reach opened
    show execCmbCollCountRead s = _
    rw [execCmbCollCountRead, guardedRead_of_open s reach opened]
    rfl
  case drop =>
    intro s i reach opened
    show execRingDropRead i s = _
    rw [execRingDropRead, guardedRead_of_open s reach opened]
    rfl
  case bad =>
    intro s reach
    show execBadCompleteRead s = _
    rw [execBadCompleteRead, guardedRead_of_open s reach rfl]
    rfl
  case reassert =>
    intro s n reach
    show execReassertRead n s = _
    rw [execReassertRead, guardedRead_of_open s reach rfl]
    rfl
  case evq =>
    intro s reach opened
    show execEvqOvfRead s = _
    rw [execEvqOvfRead, guardedRead_of_open s reach opened]
    rfl
  case evqClosed =>
    intro s reach closed
    show execEvqOvfRead s = _
    rw [execEvqOvfRead, guardedRead, if_neg (by simp [reach]), if_neg (by simp [closed])]
    rfl
  case timeNs =>
    intro s reach opened
    show execTcapTimeNsRead s = _
    rw [execTcapTimeNsRead, guardedRead_of_open s reach opened]
    rfl
  case capture =>
    intro s reach opened
    show execTcapCapture s = _
    rw [execTcapCapture, guarded_of_open s reach opened]
    rfl
  case pop =>
    intro s reach opened
    show execTcapEvqPop s = _
    rw [execTcapEvqPop, guarded_of_open s reach opened]
    rfl
  case enable =>
    intro s tx i reach opened
    show execRingCtrlEn tx i true s = _
    rw [execRingCtrlEn, guarded_of_open s reach opened]
    dsimp only
    cases (s.ring tx i).en <;> rfl
  case disable =>
    intro s tx i reach opened
    show execRingCtrlEn tx i false s = _
    rw [execRingCtrlEn, guarded_of_open s reach opened]
    rfl
  case tail =>
    intro s tx i tail reach opened inside
    show execRingTail tx i tail s = _
    rw [execRingTail, guarded_of_open s reach opened]
    exact congrArg _ (if_pos inside)
  case intEnable =>
    intro s g w reach group
    show execRegisterWrite 0 (0x10100 + 4 * g) w s = _
    rw [execRegisterWrite]
    dsimp only
    rw [if_neg (by simp only [bne_iff_ne]; omega), if_pos rfl,
      guarded_of_open s reach (by rw [if_pos (by simp [alwaysOpen]; omega)]), writeBar0, if_neg (by omega), if_neg (by omega),
      if_pos (by simp; omega), writeInt]
    dsimp only
    rw [if_neg (by omega), if_pos (by omega), show (0x10100 + 4 * g - 0x10000) % 0x100 / 4 = g by omega]
  case noRegister =>
    intro s off w reach opened aligned beyond
    show execRegisterWrite 0 off w s = _
    rw [execRegisterWrite]
    dsimp only
    rw [if_neg (by simp [aligned]), if_pos rfl, guarded_of_open s reach (by
      rw [if_neg (by simp [alwaysOpen]; omega), if_neg (by simp; omega)]; exact opened), writeBar0]
    rw [if_neg (by omega), if_neg (by omega), if_neg (by simp; omega), if_neg (by simp; omega), if_neg (by omega), if_neg (by omega),
      if_neg (by simp; omega), if_neg (by simp; omega)]
  case misaligned =>
    intro s off w misaligned
    show execRegisterWrite 0 off w s = _
    rw [execRegisterWrite]
    exact if_pos (by simpa using misaligned)
  case perst =>
    intro s
    have left := functionReset_function { s with
      host.perstHigh := false
      host.linkGen := 0
      host.linkWidth := 0
      host.lpm := 0 }
    simp only [State.function, Prod.mk.injEq] at left
    obtain ⟨master, msix, pba, enable, dstate, armed, gen, width, high⟩ := left
    exact ⟨_, rfl, high, gen, width, master, msix, pba, enable, dstate, armed⟩
  case release =>
    intro s low awake
    exact congrArg _ (if_neg awake)
  case releaseDormant =>
    intro s asleep
    exact congrArg _ (if_pos asleep)
  case functionLevel =>
    intro s reach
    have row : exec .functionLevelReset s = execFunctionLevelReset s := rfl
    have left := functionReset_function s
    simp only [State.function, Prod.mk.injEq] at left
    obtain ⟨master, msix, pba, enable, _, _, gen, _, high⟩ := left
    rw [row, execFunctionLevelReset, if_pos reach]
    exact ⟨_, rfl, master, msix, pba, enable, gen, high.trans (perstHigh_of_reach s reach)⟩
  case powerState =>
    intro s d bm ms pme reach
    exact congrArg _ (if_pos reach)
  case linkUp =>
    intro s gen width lpm awake up
    show execPcieLinkChange gen width lpm s = _
    rw [execPcieLinkChange, if_neg awake]
    have present : (gen != 0) = true := bne_iff_ne.mpr up
    simp only [up, present, if_false, Bool.true_and]
  case linkDown =>
    intro s width lpm awake
    show execPcieLinkChange 0 width lpm s = _
    rw [execPcieLinkChange, if_neg awake]
    simp
  case wake =>
    intro s asleep
    exact congrArg _ (if_pos (by simp [asleep]))
  case restart =>
    intro s held high
    exact congrArg _ (if_pos (by simp [held, high]))
  case smbus => intro s; rfl
  case idcode => exact idcode_eq
  case factory =>
    intro s i state
    simp [State.jtagOpen, state]
  case field =>
    intro s i state
    cases i <;> simp [State.jtagOpen, state]
  case returned =>
    intro s i state wiped
    simp [State.jtagOpen, state, wiped]
  case void =>
    intro s i state
    simp [State.jtagOpen, state]
end

section
/-! The obligation about ingress: arrival, passes, flow results and release (R34 to R37). -/

namespace Sys2Proof.Machine

section
variable {s : State} {pipe port : Nat}

/-- A port that receives frames: a configured front port with its link up, or the management port. -/
def State.receives (s : State) (port : Nat) : Prop :=
  portKind port = 0 ∧ (tget s.ports.cfg port).isSome = true ∧ s.linkUp port = true ∨ port = mgmtPort

/-! ## Arrival -/

theorem portReceives_iff :
    ((decide (portKind port = 0) && (tget s.ports.cfg port).isSome && s.linkUp port) || decide (port = mgmtPort)) = true ↔ s.receives port := by
  simp [State.receives, and_assoc]

/-- A whole frame is stored, and waits for a slot where it is. -/
theorem exec_frameArrival_of_whole {data : Bytes} (ready : s.ingressReady (pipeOfPort port) = true) (here : s.receives port)
    (least : 60 ≤ data.length) (most : data.length + 4 ≤ s.mtuOf port) :
    exec (.frameArrival port data true) s = .next (match store (s.newFrame port data) (countRx port (data.length + 4) s) with
      | (some f, t) => await (pipeOfPort port) f t
      | (none, t) => t) := by
  show execFrameArrival port data true s = _
  simp only [execFrameArrival, portReceives_iff.2 here, ready]
  refine (if_neg (by simp)).trans ((if_neg (by simp; omega)).trans ?_)
  rfl

/-- The store of a new frame by the room of its pools. -/
theorem store_newFrame (data : Bytes) (u : State) : store (s.newFrame port data) u =
    if u.ingressFits (regionOfPort port) port (cellsOf data.length) then
      (some (s.newFrame port data), addU (s.priorityOf port data).2 port (s.priorityOf port data).1 (cellsOf data.length)
        (chargeIngress (regionOfPort port) port (cellsOf data.length) u))
    else if (s.priorityOf port data).2 then
      if u.headroomFits port (s.priorityOf port data).1 (cellsOf data.length) then
        (some { s.newFrame port data with headroom := true }, addU true port (s.priorityOf port data).1 (cellsOf data.length)
          (chargeHeadroom port (s.priorityOf port data).1 (cellsOf data.length) u))
      else (none, overrun port u)
    else (none, { u with buf.inDiscard := tinc u.buf.inDiscard port }) := rfl

theorem ingressFits_countRx (q len r p n : Nat) : (countRx q len s).ingressFits r p n = s.ingressFits r p n := rfl
theorem headroomFits_countRx (q len p k n : Nat) : (countRx q len s).headroomFits p k n = s.headroomFits p k n := rfl

/-! ## Passes -/

/-- A granted slot runs a pass of the oldest frame of its port. -/
theorem exec_packetSlotGrant_of_turn {f : Frame} {rest : List Frame} (parity : Bool) (ready : s.ingressReady pipe = true)
    (turn : (s.pipe pipe).nextPort pipe = some port)
    (oldest : takeFirst (fun g => g.port = port) (s.pipe pipe).wait = some (f, rest)) :
    exec (.packetSlotGrant pipe parity) s =
      .next (runPass pipe f parity (s.setPipe pipe ({ s.pipe pipe with wait := rest }.took pipe port))) := by
  show execPacketSlotGrant pipe parity s = _
  simp only [execPacketSlotGrant, ready, turn, oldest]
  rfl

/-- A slot that is taken keeps the pipeline's parse graph. -/
theorem took_active (p : Pipe) (pipe port : Nat) : (p.took pipe port).active = p.active := by
  unfold Pipe.took
  dsimp only
  split
  · split <;> rfl
  · split <;> split <;> rfl

end

end Sys2Proof.Machine

open Sys2Proof.Machine

/-- Settles O32: an arrival by the room of the pools, a slot by the pass of the frame whose turn it is, each other row by its definition. -/
theorem ingressRows : Obligations.IngressRows := by
  unfold Obligations.IngressRows
  refine ⟨?stored, ?discarded, ?headroom, ?overrun, ?faulty, ?pfc, ?slot, ?parity, ?control, ?intake, ?intakeFull, ?result, ?deadline,
    ?release, ?held, ?originated, ?scrubbed, ?rewritten⟩
  case stored =>
    intro s port data ready here least most fits
    rw [exec_frameArrival_of_whole ready here least most, store_newFrame, ingressFits_countRx, if_pos fits]
  case discarded =>
    intro s port data ready here least most full lossy
    rw [exec_frameArrival_of_whole ready here least most, store_newFrame, ingressFits_countRx, if_neg (by simp [full]),
      if_neg (by simp [lossy])]
    rfl
  case headroom =>
    intro s port data prio ready here least most full lossless fits
    rw [exec_frameArrival_of_whole ready here least most, store_newFrame, ingressFits_countRx, headroomFits_countRx, lossless,
      if_neg (by simp [full]), if_pos rfl, if_pos fits]
  case overrun =>
    intro s port data prio ready here least most full lossless fits
    rw [exec_frameArrival_of_whole ready here least most, store_newFrame, ingressFits_countRx, headroomFits_countRx, lossless,
      if_neg (by simp [full]), if_pos rfl, if_neg (by simp [fits])]
    rfl
  case faulty =>
    intro s port data fcsOk ready here fault
    show execFrameArrival port data fcsOk s = _
    have short : (data.length + 4 < 64) = (data.length < 60) := by simp only [eq_iff_iff]; omega
    simp only [execFrameArrival, portReceives_iff.2 here, ready, short]
    rw [if_neg (by simp), if_pos (by simpa [or_assoc] using fault)]
  case pfc =>
    intro s port prio waits mode above
    show execPfcRefresh port prio s = _
    rw [execPfcRefresh, if_pos (by simp [waits, above]), sendPause]
    simp [mode]
  case slot =>
    intro s pipe port f rest ready turn oldest
    exact exec_packetSlotGrant_of_turn false ready turn oldest
  case parity =>
    intro s pipe port f rest ready turn oldest
    rw [exec_packetSlotGrant_of_turn true ready turn oldest, runPass, if_pos rfl]
    exact ⟨_, rfl, rfl, rfl, rfl, rfl⟩
  case control =>
    intro s pipe port f rest k ready turn oldest parsed taken
    rw [exec_packetSlotGrant_of_turn false ready turn oldest, runPass, if_neg (by decide)]
    simp only [State.setPipe_pipe_self, took_active, parsed]
    rw [if_neg (by decide)]
    have same : (s.setPipe pipe ({ s.pipe pipe with wait := rest }.took pipe port)).controlMatch f.orig
      (parsePass (s.pipe pipe).active f.start f.data) f.data = some (k, false) := taken
    simp only [same]
    exact ⟨_, rfl, rfl, rfl⟩
  case intake =>
    intro s opcode f mac tag port awake accepts room via header copied defined
    show execOcfIntake opcode f s = _
    rw [execOcfIntake, if_neg awake, if_neg (by simp [accepts]; omega), via]
    simp only [State.channelBusy, takeMessage, intakeFrame, header, copied, defined]
    rfl
  case intakeFull =>
    intro s opcode f mac tag port awake shut via
    show execOcfIntake opcode f s = _
    rw [execOcfIntake, if_neg awake, if_pos (by simp [shut]), via]
    rfl
  case result =>
    intro s pipe id d res waits result
    show execFlowResultReturn pipe id s = _
    simp only [execFlowResultReturn, waits, result]
  case deadline =>
    intro s pipe id d t waits silent known
    show execFlowResultDeadline pipe id s = _
    simp only [execFlowResultDeadline, waits, silent, known]
  case release =>
    intro s pipe port d rest oldest done
    show execDescriptorRelease pipe port s = _
    simp only [execDescriptorRelease, oldest, done]
    rfl
  case held =>
    intro s pipe port d rest oldest waits
    show execDescriptorRelease pipe port s = _
    simp only [execDescriptorRelease, oldest, waits]
    rfl
  case originated =>
    intro s o rest oldest runs fits
    show execOriginatedFrameEnqueue s = _
    simp only [execOriginatedFrameEnqueue, oldest, runs, fits]
    rfl
  case scrubbed => intro s pipe addr; rfl
  case rewritten =>
    intro s pipe addr e known
    have row : exec (.tcamScrubVisit pipe addr true) s = execTcamScrubVisit pipe addr true s := rfl
    rw [row]
    simp only [execTcamScrubVisit, if_true, known]
    refine ⟨_, rfl, fun q a => ?_, rfl⟩
    by_cases here : q = pipe
    · subst here
      rw [State.setPipe_pipe_self]
      by_cases same : a = addr
      · subst same
        exact (tget_tset_self ..).trans known.symm
      · exact tget_tset_of_ne _ _ same
    · rw [State.setPipe_pipe_of_ne _ _ _ here]
end

section
/-! The obligation about learning and the replicas of the tables (R30, R31, R246 to R266). -/

namespace Sys2Proof.Machine

/-- The same value written at some keys. -/
theorem tget_forEach_tset {α : Type} (rs : List Nat) (v : α) (t : Tab α) (q : Nat) :
    tget (forEach rs t (fun r t => tset t r v)) q = if q ∈ rs then some v else tget t q := by
  induction rs generalizing t with
  | nil => simp [forEach]
  | cons r rs ih =>
    refine (ih (tset t r v)).trans ?_
    by_cases here : q = r
    · subst here
      simp [tget_tset_self]
    · simp [here, tget_tset_of_ne _ _ here]

section
variable {s : State} {r k : Nat}

/-! ## Replicas -/

/-- An update that reaches a replica reaches the ones before it. -/
theorem reaches_of_le {q : Nat} (le : q ≤ r) (reached : s.reaches r = true) : s.reaches q = true := by
  simp only [State.reaches, List.all_eq_true, List.mem_range] at reached ⊢
  exact fun p hp => reached p (by omega)

/-- A replica that is behind holds what it is behind with; another one the tables as they stand. -/
theorem replica_of_behind {v : Replica} (held : tget s.fwd.behind r = some v) : s.replica r = v := by
  rw [State.replica, tgetD, held]; rfl

theorem replica_of_current (current : tget s.fwd.behind r = none) : s.replica r = ⟨s.fwd.mac, s.fwd.host, s.fwd.trie⟩ := by
  rw [State.replica, tgetD, current]; rfl

/-- An update leaves what a replica holds that it does not reach. -/
theorem behind_beginUpdate_of_unreached (region : r ∈ regions) (unreached : s.reaches r = false) :
    tget (beginUpdate s).fwd.behind r = some (s.replica r) := by
  have notAll : ¬ s.allReached = true := fun all => by
    have le : r ≤ 3 := by
      simp only [regions, List.mem_cons, List.not_mem_nil, or_false] at region
      omega
    exact nomatch unreached.symm.trans (reaches_of_le le all)
  rw [beginUpdate, if_neg notAll]
  refine (tget_forEach_tset ..).trans ?_
  cases held : tget s.fwd.behind r with
  | none => rw [if_pos (by simp [region, unreached, held]), replica_of_current held]
  | some v => rw [if_neg (by simp [held]), replica_of_behind held]

theorem behind_beginUpdate_of_reached (reached : s.reaches r = true) (current : tget s.fwd.behind r = none) :
    tget (beginUpdate s).fwd.behind r = none := by
  unfold beginUpdate
  split
  · exact current
  · exact (tget_forEach_tset ..).trans (by rw [if_neg (by simp [reached]), current])

/-- A write changes its table, after the replicas that it does not reach have kept theirs. -/
theorem putMac_fwd (e : MacEntry) : (putMac k e s).fwd = { (beginUpdate s).fwd with mac := tset (beginUpdate s).fwd.mac k e } := by
  unfold putMac
  dsimp only
  split
  · rw [raise_fwd]
  · rfl

theorem putHost_fwd (e : HostEntry) : (putHost k e s).fwd = { (beginUpdate s).fwd with host := tset (beginUpdate s).fwd.host k e } := by
  unfold putHost
  dsimp only
  split
  · rw [raise_fwd]
  · rfl

theorem beginUpdate_fwd : ∃ behind, beginUpdate s = { s with fwd.behind := behind } := by
  unfold beginUpdate
  split
  · exact ⟨s.fwd.behind, rfl⟩
  · exact ⟨_, rfl⟩

theorem putMac_shares (e : MacEntry) (fid : Nat) : (putMac k e s).shares fid = s.shares fid := by
  obtain ⟨behind, begun⟩ := beginUpdate_fwd (s := s)
  rw [State.shares, putMac_fwd, begun]
  rfl

/-! ## Records -/

/-- Where a FID is not exchanged, no record is sent. -/
theorem sendRecord_of_unshared {e : MacEntry} (op : Nat) (refresh : Bool) (unshared : s.shares e.fid = false) : sendRecord op refresh e s = s :=
  if_neg (by simp [unshared])

/-- Without a fabric group no member's slot takes a learning message. -/
theorem learnSlots_of_disabled (disabled : s.fab.cfg.enable = false) (dest : Option Nat) : s.learnSlots dest = [] := by
  have alone : s.memberSlots.drop 1 = [] := by simp [State.memberSlots, disabled]
  cases dest with
  | none => exact alone
  | some d => simp [State.learnSlots, State.slotOfDevice, alone]

end

end Sys2Proof.Machine

open Sys2Proof.Machine

/-- Settles O33: the arbiter, the tracker and the sweep by the entry that they find; a replica by what it is behind; a table command that waits
by `ocfRun_taken`. -/
theorem learningRows : Obligations.LearningRows := by
  unfold Obligations.LearningRows
  refine ⟨?fresh, ?static, ?flapNone, ?flapUnpinned, ?flapPinned, ?pinEnds, ?ageStatic, ?ageIdle, ?ageHit, ?ageOut, ?alone, ?inband,
    ?nodes, ?noNodes, ?macBehind, ?hostBehind, ?macReached, ?hostReached, ?waits, ?resumeSome, ?resumeAll⟩
  case fresh =>
    intro s ev rest t queue ready unknown inserted unshared
    have row : exec .learnEventApply s = execLearnEventApply s := rfl
    have unknown' : State.macFind { s with fwd.queue := rest } ev.fid ev.mac = none := unknown
    simp only [row, execLearnEventApply, queue, ready, if_true, applyEvent, applyLocal, unknown', inserted]
    rw [sendRecord_of_unshared 1 false unshared]
  case static =>
    intro s ev rest k e queue ready known static type dest
    have row : exec .learnEventApply s = execLearnEventApply s := rfl
    have known' : State.macFind { s with fwd.queue := rest } ev.fid ev.mac = some (k, e) := known
    simp only [row, execLearnEventApply, queue, ready, if_true, applyEvent, applyLocal, known', static, type, dest, decide_true, Bool.and_self]
  case flapNone =>
    intro s fid mac unknown
    show execFlapWindowExpire fid mac s = _
    simp only [execFlapWindowExpire, unknown]
    rfl
  case flapUnpinned =>
    intro s fid mac k e known unpinned
    show execFlapWindowExpire fid mac s = _
    simp only [execFlapWindowExpire, known, Option.map_some, unpinned]
    rfl
  case flapPinned =>
    intro s fid mac k e known pinned
    show execFlapWindowExpire fid mac s = _
    simp only [execFlapWindowExpire, known, Option.map_some, pinned]
    rfl
  case pinEnds =>
    intro s fid mac k e known pinned
    show execPinHoldExpire fid mac s = _
    simp only [execPinHoldExpire, unpin, known, pinned, if_true]
  case ageStatic =>
    intro s position e queue known static
    show execMacAgingVisit position s = _
    simp only [execMacAgingVisit, settleLearning_of_empty queue, known, ageVisit, static, if_true]
  case ageIdle =>
    intro s position e queue known dynamic idle young
    show execMacAgingVisit position s = _
    simp only [execMacAgingVisit, settleLearning_of_empty queue, known, ageVisit, dynamic, idle]
    rw [if_neg (by decide), if_neg (by decide), if_neg (by omega)]
  case ageHit =>
    intro s position e queue known dynamic hit unshared
    show execMacAgingVisit position s = _
    simp only [execMacAgingVisit, settleLearning_of_empty queue, known, ageVisit, dynamic]
    rw [if_neg (by decide), if_pos (by simpa using hit)]
    exact congrArg Host.Outcome.next (sendRecord_of_unshared 1 true ((putMac_shares _ e.fid).trans unshared))
  case ageOut =>
    intro s position e queue known dynamic unpinned idle old unshared
    obtain ⟨behind, begun⟩ := beginUpdate_fwd (s := s)
    show execMacAgingVisit position s = _
    simp only [execMacAgingVisit, settleLearning_of_empty queue, known, ageVisit, dynamic, idle]
    rw [if_neg (by decide), if_neg (by decide), if_pos (by omega), deleteMac]
    simp only [unpinned, begun]
    exact congrArg Host.Outcome.next (sendRecord_of_unshared 2 false unshared)
  case alone =>
    intro s dest r more batch exchanged disabled ports
    show execLearnMessageSend s = _
    simp only [execLearnMessageSend, batch, exchanged, learnSlots_of_disabled disabled, ports]
    cases dest <;> rfl
  case inband =>
    intro s r port outbox exchanged disabled ports
    have row : exec .learnMessageSend s = execLearnMessageSend s := rfl
    have batch : nextBatch s.fwd.outbox = [(none, r)] := by rw [outbox]; simp [nextBatch]
    refine ⟨⟨s.ocf.deviceId, s.fwd.learnGroup, s.fwd.msgSeq, [r]⟩, rfl, rfl, rfl, rfl, ?_⟩
    simp only [row, execLearnMessageSend, batch, exchanged, learnSlots_of_disabled disabled, ports]
    rw [outbox]
    rfl
  case nodes =>
    intro s old rest replaced
    show execLpmNodeFree s = _
    rw [execLpmNodeFree, LpmTrie.release, replaced]
  case noNodes =>
    intro s replaced
    show execLpmNodeFree s = _
    rw [execLpmNodeFree, LpmTrie.release, replaced]
  case macBehind =>
    intro s r k e region unreached
    have held := behind_beginUpdate_of_unreached region unreached
    exact replica_of_behind (by rw [putMac_fwd]; exact held)
  case hostBehind =>
    intro s r k e region unreached
    have held := behind_beginUpdate_of_unreached region unreached
    exact replica_of_behind (by rw [putHost_fwd]; exact held)
  case macReached =>
    intro s r k e reached current
    have held := behind_beginUpdate_of_reached reached current
    obtain ⟨behind, begun⟩ := beginUpdate_fwd (s := s)
    rw [replica_of_current (by rw [putMac_fwd]; exact held), putMac_fwd, begun]
  case hostReached =>
    intro s r k e reached current
    have held := behind_beginUpdate_of_reached reached current
    obtain ⟨behind, begun⟩ := beginUpdate_fwd (s := s)
    rw [replica_of_current (by rw [putHost_fwd]; exact held), putHost_fwd, begun]
  case waits =>
    intro c s h b frame taken changes now notFactory table own
    have length : b.lenOk h.length = true := by
      by_contra short
      have first := (own s.books).1
      rw [ownError, if_pos (by simp [short])] at first
      exact nomatch first
    have passes : ∀ k : Book, b.check (s.book k) = none := fun k => by
      obtain ⟨first, -, -⟩ := own k
      rw [ownError] at first
      split at first
      · exact nomatch first
      · split at first
        · exact nomatch first
        · split at first
          · exact nomatch first
          · exact first
    obtain ⟨key, gen, k, sent, row⟩ := exec_taken frame rfl changes now taken notFactory length passes
    obtain ⟨-, ends, behind⟩ := own k
    refine ⟨k, key, gen, sent, row.trans (congrArg _ ?_)⟩
    simp only [perform, ends, now, Bool.false_and, Bool.false_eq_true, if_false, State.waitsFor, behind, table, Body.audited, changes,
      Bool.not_false, Bool.true_or, Bool.and_true, if_true]
  case resumeSome =>
    intro s behind
    exact if_neg (by rw [Bool.not_eq_true]; exact behind)
  case resumeAll =>
    intro s w all waiting near
    have caught : s.fwd.behind.filter (fun e => !s.reaches e.1) = [] :=
      List.filter_eq_nil_iff.2 fun e he => by simp [reaches_of_le (near e he) all]
    have row : resumeTables s = forEach s.ocf.tableWaits { catchUp s with ocf.tableWaits := [] } endTableWait := if_pos all
    rw [row, waiting, catchUp, caught]
    rfl
end

section
/-! The obligation about egress (chapters 6 and 7). -/

namespace Sys2Proof.Machine

/-- The last of `0 … n - 1` for which a search finds something. -/
theorem findSome?_reverse_range {β : Type} {f : Nat → Option β} {b : β} {n k : Nat} (lt : k < n) (here : f k = some b)
    (above : ∀ j, k < j → j < n → f j = none) : (List.range n).reverse.findSome? f = some b := by
  induction n with
  | zero => omega
  | succ n ih =>
    rw [List.range_succ, List.reverse_append]
    simp only [List.reverse_cons, List.reverse_nil, List.nil_append, List.cons_append, List.findSome?_cons]
    by_cases last : k = n
    · subst last
      rw [here]
    · rw [above n (by omega) (by omega)]
      exact ih (by omega) fun j hj hn => above j hj (by omega)

section
variable (s : State)

/-! ## Transmission -/

/-- A stamp is kept at a PTP port. -/
theorem stampPtp_state (t : TxFrame) : ∃ ports, (stampPtp t s).2 = { s with ptp.ports := ports } := by
  unfold stampPtp
  dsimp only
  split
  · split
    · exact ⟨s.ptp.ports, rfl⟩
    · split
      · split
        · exact ⟨s.ptp.ports, rfl⟩
        · exact ⟨_, rfl⟩
      · exact ⟨_, rfl⟩
      · exact ⟨_, rfl⟩
      · exact ⟨s.ptp.ports, rfl⟩
  · exact ⟨s.ptp.ports, rfl⟩

/-- A latency sample changes its queue's marks, with an event. -/
theorem sampleLatency_eq (t : TxFrame) : ∃ queues int, sampleLatency t s = { s with
    eg.queues := queues
    host.int := int } := by
  unfold sampleLatency
  dsimp only
  split
  · obtain ⟨int, raised⟩ := raiseFirst_eq 244 (s.setEgQueue t.port t.tc _)
    rw [raised]
    exact ⟨_, int, rfl⟩
  · exact ⟨_, s.host.int, rfl⟩

/-! ## Received pause -/

theorem setPause_paused_self (port tc : Nat) (on : Bool) : ((setPause port tc on s).egQueue port tc).paused.isSome = on := by
  unfold setPause
  dsimp only
  rw [State.setEgQueue_egQueue_self]
  cases on <;> rfl

theorem setPause_paused_of_ne {port tc j : Nat} (on : Bool) (other : j ≠ tc) :
    ((setPause port tc on s).egQueue port j).paused = (s.egQueue port j).paused := by
  unfold setPause State.egQueue State.setEgQueue
  dsimp only
  rw [tgetD_tset_of_ne _ _ _ (by omega)]

/-- TCs that are not named keep their pause. -/
theorem forEach_setPause_of_not_mem (port : Nat) (on : Nat → Bool) {tcs : List Nat} {j : Nat} (unnamed : j ∉ tcs) :
    ((forEach tcs s (fun tc s => setPause port tc (on tc) s)).egQueue port j).paused = (s.egQueue port j).paused := by
  induction tcs generalizing s with
  | nil => rfl
  | cons tc tcs ih =>
    rw [List.mem_cons, not_or] at unnamed
    exact (ih (setPause port tc (on tc) s) unnamed.2).trans (setPause_paused_of_ne s (on tc) unnamed.1)

/-- TCs that are named are paused or released. -/
theorem forEach_setPause_of_mem (port : Nat) (on : Nat → Bool) {tcs : List Nat} {j : Nat} (named : j ∈ tcs) :
    ((forEach tcs s (fun tc s => setPause port tc (on tc) s)).egQueue port j).paused.isSome = on j := by
  induction tcs generalizing s with
  | nil => exact absurd named List.not_mem_nil
  | cons tc tcs ih =>
    by_cases later : j ∈ tcs
    · exact ih (setPause port tc (on tc) s) later
    · obtain rfl : j = tc := (List.mem_cons.mp named).resolve_right later
      refine (congrArg Option.isSome (forEach_setPause_of_not_mem (setPause port j (on j) s) port on later)).trans ?_
      exact setPause_paused_self s port j (on j)

theorem forEach_setPause_ports (port : Nat) (on : Nat → Bool) (tcs : List Nat) :
    (forEach tcs s (fun tc s => setPause port tc (on tc) s)).ports = s.ports := by
  refine forEach_keeps (fun u : State => u.ports) (fun tc u => ?_) tcs s
  rfl

/-! ## The watchdog of a paused queue -/

theorem emptyVoq_eg {count : QFrame → State → State} (counts : ∀ f u, (count f u).eg = u.eg) (k : Nat) : (emptyVoq k count s).eg = s.eg := by
  refine (forEach_keeps (fun u : State => u.eg) (fun e u => ?_) (s.voq k).dieCells _).trans rfl
  exact (counts ..).trans (eg_of_still (releasePart_still ..))

/-- What the watchdog discards leaves the egress queues. -/
theorem forEach_discard_eg {count : State → State} (counts : ∀ u, (count u).eg = u.eg) (txs : List TxFrame) (ks : List Nat) :
    (forEach ks (forEach txs s (fun t u => count (releaseTx t u))) (fun k u => emptyVoq k (fun _ u => count u) u)).eg = s.eg :=
  (forEach_keeps (fun u : State => u.eg) (fun k u => emptyVoq_eg u (fun _ => counts) k) ks _).trans
    (forEach_keeps (fun u : State => u.eg) (fun t u => (counts _).trans (eg_of_still (releaseTx_still u t))) txs s)

theorem egQueue_of_eg {t : State} (same : t.eg = s.eg) (port tc : Nat) : t.egQueue port tc = s.egQueue port tc := by
  rw [State.egQueue, same]
  rfl

/-! ## Spill -/

/-- An event that may be raised changes neither the buffers nor the HBM. -/
theorem ite_raise_parts (c : Prop) [Decidable c] (n : Nat) :
    (if c then raise n s else s).buf = s.buf ∧ (if c then raise n s else s).hbm = s.hbm := by
  split
  · exact ⟨raise_buf n s, raise_hbm n s⟩
  · exact ⟨rfl, rfl⟩

theorem moveOff_still (k : Nat) (f : QFrame) (n : Nat) : (moveOff k f n s).still = s.still := by
  unfold moveOff
  split
  · rfl
  · split
    · rfl
    · rw [subU_still, releaseCells_still]

theorem hbm_of_still {t : State} (same : t.still = s.still) : t.hbm = s.hbm := congrArg (·.1.1.2.2.2.2.2.2.2.1) same

end

end Sys2Proof.Machine

open Sys2Proof.Machine

/-- Settles O34: each row by the head, the turn or the list that decides it. -/
theorem egressRows : Obligations.EgressRows := by
  unfold Obligations.EgressRows
  refine ⟨?crosses, ?noCredit, ?decision, ?copy, ?grant, ?sent, ?waits, ?shaper, ?gate, ?noGate, ?change, ?pause, ?pfc, ?pauseEnds,
    ?watchdog, ?noWatchdog, ?down, ?up, ?linger, ?lingerEmpty, ?noLinger, ?spill, ?refill, ?refillLost⟩
  case crosses =>
    intro s pipe t ts head room
    show execCrossbarGrant pipe s = _
    simp only [execCrossbarGrant, head]
    rw [if_neg (by omega)]
    rfl
  case noCredit =>
    intro s pipe t ts head full
    show execCrossbarGrant pipe s = _
    simp only [execCrossbarGrant, head]
    rw [if_pos full]
  case decision =>
    intro s pipe u port tc ready noted turn choice
    show execEgressDecision pipe s = _
    rw [execEgressDecision, if_neg (by simp [ready])]
    dsimp only
    rw [← noted, turn]
    dsimp only
    rw [choice]
  case copy =>
    intro s pipe tc i k f ready small above turn head
    show execReplicationTake pipe s = _
    rw [execReplicationTake, if_neg (by simp [ready])]
    dsimp only
    rw [findSome?_reverse_range (f := fun tc => (nextTurn 132 (tgetD (s.egPipe pipe).replTurn tc 131 + 1) (s.replReady pipe tc)).map
      (fun i => (tc, i))) (b := (tc, i)) small (by rw [turn]; rfl) fun j hj hn => by rw [above j hj hn]; rfl]
    have head' : (s.setEgPipe pipe { s.egPipe pipe with replTurn := tset (s.egPipe pipe).replTurn tc i }).replHead pipe tc i = some (k, f) := head
    dsimp only
    rw [head']
  case grant =>
    intro s w pipe tc i ready small above turn same remote
    show execReplicationTake pipe s = _
    rw [execReplicationTake, if_neg (by simp [ready])]
    dsimp only
    rw [findSome?_reverse_range (f := fun tc => (nextTurn 132 (tgetD (s.egPipe pipe).replTurn tc 131 + 1) (s.replReady pipe tc)).map
      (fun i => (tc, i))) (b := (tc, i)) small (by rw [turn]; rfl) fun j hj hn => by rw [above j hj hn]; rfl]
    dsimp only
    rw [← same, remote]
  case sent =>
    intro s port t ts head front link started
    have row : exec (.frameTransmitComplete port) s = execFrameTransmitComplete port s := rfl
    simp only [row, execFrameTransmitComplete, head]
    rw [if_neg (by simp [front, link]), if_neg (by simp [started])]
    obtain ⟨ports, stamped⟩ := stampPtp_state s t
    rw [stamped]
    obtain ⟨queues, int, sampled⟩ := sampleLatency_eq { s with ptp.ports := ports } t
    rw [sampled]
    exact ⟨_, rfl, rfl, congrArg EgPort.tx (State.setEgPort_egPort_self ..), rfl, rfl, rfl⟩
  case waits =>
    intro s port t ts head front link waits
    show execFrameTransmitComplete port s = _
    simp only [execFrameTransmitComplete, head]
    rw [if_neg (by simp [front, link]), if_pos (by simp [waits])]
  case shaper => intro s pipe coarse slot; rfl
  case gate =>
    intro s port c list
    show execGateTransition port s = _
    simp only [execGateTransition, list]
  case noGate =>
    intro s port list
    show execGateTransition port s = _
    simp only [execGateTransition, list]
  case change =>
    intro s port c list
    show execGateChangeInstant port s = _
    simp only [execGateChangeInstant, list]
  case pause =>
    intro s port quanta link mode
    have row : exec (.pauseFrameReceive port false 0 quanta) s = execPauseFrameReceive port false 0 quanta s := rfl
    simp only [State.pfcCfg] at mode
    simp only [row, execPauseFrameReceive, link, State.pfcCfg, mode, Bool.not_true, Bool.false_eq_true, if_false, Bool.not_false,
      Bool.true_and, decide_true, if_true]
    refine ⟨_, rfl, fun tc small => ?_, ?_⟩
    · rw [forEach_setPause_of_mem _ port (fun _ => quanta.headD 0 != 0) (List.mem_range.2 small)]
      exact bne_iff_ne
    · rw [forEach_setPause_ports _ port (fun _ => quanta.headD 0 != 0)]
      exact congrArg PortCounters.rxPause (tgetD_tset_self ..)
  case pfc =>
    intro s port enable quanta link mode
    have row : exec (.pauseFrameReceive port true enable quanta) s = execPauseFrameReceive port true enable quanta s := rfl
    simp only [State.pfcCfg] at mode
    simp only [row, execPauseFrameReceive, link, State.pfcCfg, mode, Bool.not_true, Bool.false_eq_true, if_false, Bool.false_and,
      Bool.true_and, decide_true, if_true]
    refine ⟨_, rfl, fun tc small => ?_⟩
    cases named : enable.testBit tc
    · exact forEach_setPause_of_not_mem _ port (fun tc => quanta.getD tc 0 != 0) (by simp [named])
    · rw [if_pos rfl, forEach_setPause_of_mem _ port (fun tc => quanta.getD tc 0 != 0) (List.mem_filter.2 ⟨List.mem_range.2 small, named⟩)]
      exact bne_iff_ne
  case pauseEnds => intro s port tc; rfl
  case watchdog =>
    intro s port tc paused on
    have row : exec (.pfcWatchdogExpire port tc) s = execPfcWatchdogExpire port tc s := rfl
    have awake : (s.egQueue port tc).paused.isNone = false := by rw [← Option.not_isSome, paused]; rfl
    rw [row, execPfcWatchdogExpire]
    dsimp only
    rw [if_neg (by simp [awake, on])]
    have same := egQueue_of_eg _ (forEach_discard_eg
      (s.setEgQueue port tc { s.egQueue port tc with
        watchdog := true
        repl := []
        fabric := [] }) (count := fun u => { u with buf.wdDiscard := tinc u.buf.wdDiscard (8 * port + tc) }) (fun _ => rfl)
      ((s.egQueue port tc).repl ++ (s.egQueue port tc).fabric) (regions.filterMap (fun r => s.feedVoq r port tc))) port tc
    rw [State.setEgQueue_egQueue_self] at same
    exact ⟨_, rfl, congrArg EgQueue.watchdog same, congrArg EgQueue.repl same, congrArg EgQueue.fabric same⟩
  case noWatchdog =>
    intro s port tc off
    show execPfcWatchdogExpire port tc s = _
    rw [execPfcWatchdogExpire]
    exact if_pos (by simpa using off)
  case down =>
    intro s port c known up
    have row : exec (.linkDown port) s = execLinkDown port s := rfl
    have left := linkDown_link_of_up (setSignal port c false s) (port := port) up
    have ups : (linkDown port (setSignal port c false s)).ports.up = setBit s.ports.up port false := congrArg (·.2.1) left
    have hold : (linkDown port (setSignal port c false s)).buf.hold = s.sysPort port :: s.buf.hold.erase (s.sysPort port) := congrArg (·.2.2) left
    simp only [row, execLinkDown, known]
    refine ⟨_, rfl, rfl, ?_, ?_⟩
    · rw [ups]
      exact testBit_setBit_self ..
    · rw [hold]
      exact List.mem_cons_self
  case up =>
    intro s port c known trains down
    show execLinkUp port s = _
    simp only [execLinkUp, known, trains, if_true, linkComesUp]
    exact congrArg _ (if_neg (by simp [setSignal, down]))
  case linger =>
    intro s f held
    exact congrArg _ (if_pos held)
  case lingerEmpty =>
    intro s f held none away near
    show execLingerExpire f s = _
    have none' : State.voqsOfPort { s with buf.hold := s.buf.hold.erase f } f = [] := none
    have away' : State.ofSysPort { s with buf.hold := s.buf.hold.erase f } f = Option.none := away
    rw [execLingerExpire, if_pos held, endLinger]
    dsimp only
    rw [none', near]
    simp only [Bool.false_and, Bool.false_eq_true, if_false, List.append_nil, forEach, List.foldl_nil]
    rw [away']
  case noLinger =>
    intro s f free
    exact congrArg _ (if_neg (by simpa using free))
  case spill =>
    intro s w region voq k g u q key entered queue spills full pages ready idle free charged
    subst key entered queue
    have row : exec (.spillPageWrite region voq) s = execSpillPageWrite region voq s := rfl
    rw [row, execSpillPageWrite]
    dsimp only
    rw [if_neg (by simp [spills, ready, idle]; omega), free]
    dsimp only
    rw [charged]
    dsimp only
    generalize filled : forEach (placed _ _ _) _ _ = v
    have parts := ite_raise_parts ({ v.setVoq (voqKey region voq) { v.voq (voqKey region voq) with
        pages := (v.voq (voqKey region voq)).pages ++ [(g, 16)] } with
      buf.pages := (region * 2 ^ 22 + g) :: v.buf.pages } : State)
    refine ⟨_, v, rfl, rfl, ?_, ?_, ?_⟩
    · rw [(parts _ _).1]
    · rw [(parts _ _).1]
    · rw [(parts _ _).2]
      show v.hbm.mem = _
      rw [← filled]
      exact congrArg HbmState.mem (hbm_of_still _ (forEach_keeps State.still (fun (e : QFrame × Nat) u => moveOff_still u _ e.1 e.2) _ _))
  case refill =>
    intro s region voq k ecc ecc' u v q g n gs key wants ready charged queue pages read good
    subst key queue
    show execSpillPageRefill region voq ecc s = _
    rw [execSpillPageRefill]
    dsimp only
    rw [if_neg (by simp [wants, ready]), charged]
    dsimp only
    rw [pages]
    dsimp only
    rw [read]
    dsimp only
    rw [if_neg good]
  case refillLost =>
    intro s region voq k ecc u v q g n gs key wants ready charged queue pages read
    subst key queue
    show execSpillPageRefill region voq ecc s = _
    rw [execSpillPageRefill]
    dsimp only
    rw [if_neg (by simp [wants, ready]), charged]
    dsimp only
    rw [pages]
    dsimp only
    rw [read]
    dsimp only
    rw [if_pos rfl]
end

section
/-! The obligations about the flow engines and the flow services (chapters 3 and 4). -/

namespace Sys2Proof.Machine

section
variable {s u : State} {r : Nat}

/-! ## Acceptance -/

/-- A change of a region that leaves its Tarn finds the same ways. -/
theorem inTarn_setRegion {v : FlowRegion} (same : v.tarn = (s.region r).tarn) (set pn : Nat) (k : FlowKey) :
    (s.setRegion r v).inTarn r set pn k = s.inTarn r set pn k := by
  rw [State.inTarn, State.tarnSet, State.setRegion_region_self, same]
  rfl

/-- Without a way that holds the key, or with a clean read, the ECC finds nothing. -/
theorem tarnEcc_of_none (ecc : EccOutcome) {pn : Nat} {p : Partition} {k : FlowKey} (miss : s.inTarn r (p.place k).set pn k = none) :
    tarnEcc r ecc pn p k s = s := by
  simp only [tarnEcc, miss]

theorem tarnEcc_clean (pn : Nat) (p : Partition) (k : FlowKey) : tarnEcc r .clean pn p k s = s := by
  unfold tarnEcc
  dsimp only
  split <;> trivial

/-- An uncorrectable error costs a clean record its way. -/
theorem tarnEcc_uncorrectable {pn : Nat} {p : Partition} {k : FlowKey} {w : Nat} {t : TarnWay}
    (hit : s.inTarn r (p.place k).set pn k = some (w, t)) (clean : t.dirty = false) (free : t.pin = false) :
    tarnEcc r .uncorrectable pn p k s = s.setTarn r (p.place k).set { s.tarnSet r (p.place k).set with
      ways := tdel (s.tarnSet r (p.place k).set).ways w } := by
  simp only [tarnEcc, hit, clean, free]
  rfl

theorem exec_flowOpAccept_of_pick {op : FlowOp} {rest : List FlowOp} (ecc : EccOutcome) (ready : s.flowReady r = true)
    (few : (s.region r).sinceDeferred < 15) (pick : pickOp s (s.heldLocks r) (s.region r).queue = some (op, rest)) {p : Partition}
    (known : s.partition op.partition = some p) (hit : Bool)
    (found : (s.inTarn r (p.place (reqKey op.req)).set op.partition (reqKey op.req)).isSome = hit) :
    exec (.flowOpAccept r ecc) s = .next (runOp r op (tarnEcc r ecc op.partition p (reqKey op.req) (s.setRegion r { s.region r with
      queue := rest
      sinceDeferred := if op.req.deferred then 0 else min 15 ((s.region r).sinceDeferred + 1)
      hits := if hit then inc64 (s.region r).hits else (s.region r).hits
      misses := if hit then (s.region r).misses else inc64 (s.region r).misses }))) := by
  show execFlowOpAccept r ecc s = _
  rw [execFlowOpAccept, if_neg (by simp [ready])]
  dsimp only
  rw [if_neg (Nat.not_le.2 few), pick]
  dsimp only
  have known' : State.partition (s.setRegion r { s.region r with
      queue := rest
      sinceDeferred := if op.req.deferred then 0 else min 15 ((s.region r).sinceDeferred + 1)
      hits := if hit then inc64 (s.region r).hits else (s.region r).hits
      misses := if hit then (s.region r).misses else inc64 (s.region r).misses }) op.partition = some p := known
  simp only [known, Option.map_some, Option.getD_some, found, known']

/-! ## The deferred queue -/

/-- What the head of the deferred queue becomes: given up when too old, sent to its home when that is another device, else an operation. -/
theorem takeDeferred_of_head {d : Deferred} {ds : List Deferred} {t : TemplateP} (first : (s.region r).deferred = d :: ds)
    (known : s.template d.req.template = some t)
    (here : u = s.setRegion r { s.region r with
      deferred := ds
      sinceDeferred := 0 }) :
    takeDeferred r s = if t.deferMaxAge * 1000000 < s.time.localNs - d.queuedAt then (none, countSvc d.req.template r cDeferExpired 1 u)
      else if ((s.partition d.partition).map (u.homedAway (reqKey d.req))).getD false = true then
        (none, (ask d.partition (.deferred r d.req.template) d.req u).getD
          (countSvc d.req.template r cDeferFailed 1 (countStarved r 1 (countUnreach d.partition (reqKey d.req) u))))
      else (some (u.opOf d.partition (.deferred r d.req.template) d.req), u) := by
  have known' : u.template d.req.template = some t := by rw [here]; exact known
  have part : u.partition d.partition = s.partition d.partition := by rw [here]; rfl
  have clock : u.time = s.time := by rw [here]; rfl
  rw [takeDeferred, first]
  dsimp only
  rw [← here, known', part, clock]
  cases ask d.partition (.deferred r d.req.template) d.req u <;> rfl

/-! ## The budget and the memory -/

/-- A charge changes budgets: the memory and the flow tables stand. -/
theorem charge_memory {c n : Nat} (charged : charge r c n s = some u) : u.hbm.mem = s.hbm.mem ∧ u.flow = s.flow := by
  unfold charge at charged
  dsimp only at charged
  split at charged
  · obtain rfl := Option.some.inj charged
    exact ⟨rfl, rfl⟩
  · split at charged
    · exact nomatch charged
    · split at charged
      · exact nomatch charged
      · obtain rfl := Option.some.inj charged
        exact ⟨rfl, rfl⟩

/-- The free slot of a bucket depends on the memory and the write-back buffer. -/
theorem freeSlot_congr (mem : u.hbm.mem = s.hbm.mem) (wb : (u.region r).wb = (s.region r).wb) (b : Nat) (wide : Bool) :
    u.freeSlot r b wide = s.freeSlot r b wide := by
  have same : ∀ l, u.lakeRec r l wide = s.lakeRec r l wide := fun l => by simp only [State.lakeRec, State.lakeMem, mem, wb]
  simp only [State.freeSlot, same]

/-- An operation of the engine's own carries the key it is made for. -/
theorem reqKey_workOp (pn : Nat) (k : FlowKey) (cmd : Option Nat) : reqKey (s.workOp pn k cmd).req = k := rfl

end

end Sys2Proof.Machine

open Sys2Proof.Machine

/-- Settles O35: an accepted operation takes the Tarn outcome of its own set, and the head of the deferred queue is one of three cases by its age and home; the
other rows are their effects at the case in hand. -/
theorem flowEngineRows : Obligations.FlowEngineRows := by
  unfold Obligations.FlowEngineRows
  refine ⟨?miss, ?hit, ?lost, ?idle, ?expired, ?runs, ?away, ?noDeferred, ?noEntry, ?written, ?later, ?replayed, ?replayLost, ?noBudget,
    ?sweepOvf, ?sweep, ?sweepFirst, ?companion, ?pending⟩
  case miss =>
    intro s r ecc op rest p ready few pick known miss
    rw [exec_flowOpAccept_of_pick ecc ready few pick known false (by rw [miss]; rfl),
      tarnEcc_of_none ecc ((inTarn_setRegion (by rfl) _ _ _).trans miss)]
    rfl
  case hit =>
    intro s r op rest p w ready few pick known hit
    rw [exec_flowOpAccept_of_pick .clean ready few pick known true (by rw [hit]; rfl), tarnEcc_clean]
    rfl
  case lost =>
    intro s r op rest p w t ready few pick known hit clean free
    rw [exec_flowOpAccept_of_pick .uncorrectable ready few pick known true (by rw [hit]; rfl),
      tarnEcc_uncorrectable ((inTarn_setRegion (by rfl) _ _ _).trans hit) clean free]
    refine ⟨_, rfl, rfl, ?_, ?_⟩
    · simp only [State.setTarn, State.setRegion_region_self]
    · simp only [State.setTarn, State.tarnSet, State.setRegion_region_self, tgetD_tset_self]
      exact tget_tdel_self ..
  case idle =>
    intro s r ecc ready few pick
    show execFlowOpAccept r ecc s = _
    rw [execFlowOpAccept, if_neg (by simp [ready])]
    dsimp only
    rw [if_neg (Nat.not_le.2 few), pick]
  case expired =>
    intro s r d ds t ready first known old
    show execDeferredOpRun r s = _
    rw [execDeferredOpRun, if_neg (by simp [ready]), takeDeferred_of_head first known rfl, if_pos old]
  case runs =>
    intro s r d ds t u op ready first known young same hop home
    subst hop
    have here : ((s.partition d.partition).map (u.homedAway (reqKey d.req))).getD false = false := by
      cases part : s.partition d.partition with
      | none => rfl
      | some p => exact home p part
    show execDeferredOpRun r s = _
    rw [execDeferredOpRun, if_neg (by simp [ready]), takeDeferred_of_head first known same, if_neg (Nat.not_lt.2 young),
      if_neg (by simp [here])]
  case away =>
    intro s r d ds t u p ready first known young same part home
    show execDeferredOpRun r s = _
    rw [execDeferredOpRun, if_neg (by simp [ready]), takeDeferred_of_head first known same, if_neg (Nat.not_lt.2 young),
      if_pos (by rw [part]; exact home)]
  case noDeferred =>
    intro s r ready none
    show execDeferredOpRun r s = _
    rw [execDeferredOpRun, if_neg (by simp [ready]), takeDeferred]
    dsimp only
    rw [none]
  case noEntry =>
    intro s r l none
    show execSinterIdleWriteback r l s = _
    rw [execSinterIdleWriteback, settleEntry, none]
  case written =>
    intro s r l e u entry written
    show execSinterIdleWriteback r l s = _
    rw [execSinterIdleWriteback, settleEntry, entry]
    dsimp only
    rw [written]
    rfl
  case later =>
    intro s r l e entry none
    show execSinterIdleWriteback r l s = _
    rw [execSinterIdleWriteback, settleEntry, entry]
    dsimp only
    rw [none]
    rfl
  case replayed =>
    intro s r ecc e es u good log ready charged
    show execSinterLogReplay r ecc s = _
    simp only [execSinterLogReplay, log, ready, charged, good]
    rfl
  case replayLost =>
    intro s r e es u log ready charged
    show execSinterLogReplay r .uncorrectable s = _
    simp only [execSinterLogReplay, log, ready, charged]
    rfl
  case noBudget =>
    intro s r ecc e es log ready none
    show execSinterLogReplay r ecc s = _
    simp only [execSinterLogReplay, log, ready, none]
    rfl
  case sweepOvf =>
    intro s r pn p i x known ready entry own
    show execFlowAgingSweepVisit r pn true i s = _
    simp only [execFlowAgingSweepVisit, known, ready, entry, own]
    rfl
  case sweep =>
    intro s r pn p i u known ready inside hbm charged other
    show execFlowAgingSweepVisit r pn false i s = _
    simp only [execFlowAgingSweepVisit, known, ready, charged, other]
    rw [if_neg (by simp), if_neg (by simp), if_neg (by simp [hbm]; omega)]
    rfl
  case sweepFirst =>
    intro s pn p u known ready hbm charged
    have row : exec (.flowAgingSweepVisit 0 pn false 0) s = execFlowAgingSweepVisit 0 pn false 0 s := rfl
    refine ⟨_, rfl, ?_, congrArg (Option.map Partition.sweepAt) (tget_tset_self ..)⟩
    simp only [row, execFlowAgingSweepVisit, known, ready, charged]
    rw [if_neg (by simp), if_neg (by simp), if_neg (by simp [hbm])]
    rfl
  case companion =>
    intro s r p op f found companion home
    simp only [ageWork, found, companion, home]
    rfl
  case pending =>
    intro s r p op f found primary pending
    simp only [ageWork, found, primary, pending]
    rfl
end

section
/-! Sitting 5: what the flow services' rows use (O36): a relocation into a free slot, the health accumulators, and the exported messages. -/

namespace Sys2Proof.Machine

variable {s u : State} {r : Nat}

/-! ## Relocation -/

/-- The free slot of a bucket does not depend on the relocation jobs. -/
theorem freeSlot_setJobs (js : List Nat) (b : Nat) (wide : Bool) :
    (s.setRegion r { s.region r with jobs := js }).freeSlot r b wide = s.freeSlot r b wide := by
  refine freeSlot_congr (by rfl) ?_ b wide
  rw [State.setRegion_region_self]

/-- A relocation with a free slot in the record's buckets moves the record into it, once its reads are charged. -/
theorem startRelocation_of_free {p : Partition} {op : FlowOp} {k : FlowKey} {i l : Nat} (key : reqKey op.req = k)
    (charged : charge r clsTM 16 s = some u) (here : u.ovfHolds r i op = true)
    (free : (s.freeSlot r (p.place k).bktA p.wide).or (s.freeSlot r (p.place k).bktB p.wide) = some l) {v : State}
    (moved : moveRec r (locOvf i) l p.wide u = some v) : startRelocation r p op i s = some v := by
  subst key
  obtain ⟨mem, flow⟩ := charge_memory charged
  have kept : ∀ b, u.freeSlot r b p.wide = s.freeSlot r b p.wide := fun b =>
    freeSlot_congr mem (congrArg (fun f : FlowState => (tgetD f.regions r {}).wb) flow) b p.wide
  have holds : u.ovfHolds r i { op with work := some (.relocate i []) } = true := here
  rw [startRelocation]
  dsimp only
  rw [if_pos (by rw [free]; rfl), chargeSteps, charged, Option.map_some, relocateWork, if_neg (by simp [holds]), relocateMoves]
  dsimp only
  rw [kept, kept, free]
  dsimp only
  rw [moved]
  rfl

/-- A relocation without a path is charged for the steps that it searched. -/
theorem startRelocation_of_stuck {p : Partition} {op : FlowOp} {k : FlowKey} {i steps : Nat} (key : reqKey op.req = k)
    (full : (s.freeSlot r (p.place k).bktA p.wide).or (s.freeSlot r (p.place k).bktB p.wide) = none)
    (stuck : findPath r p op.partition s 32 (p.place (reqKey op.req)).bktA [] = (none, steps)) :
    startRelocation r p op i s = chargeSteps r steps s := by
  subst key
  rw [startRelocation]
  dsimp only
  rw [if_neg (by rw [full]; exact Bool.false_ne_true), stuck]

/-! ## Health accumulators -/

/-- The accumulators of a backend are cleared in the regions of a list, and what is clear stays so. -/
theorem forEach_clear_health {b c : Nat} (rs : List Nat) (s : State) (done : (r ∈ rs ∧ b = c) ∨ tget (s.region r).health b = none) :
    tget ((forEach rs s (fun r u => u.setRegion r { u.region r with health := tdel (u.region r).health c })).region r).health b = none := by
  induction rs generalizing s with
  | nil => exact done.resolve_left (fun h => List.not_mem_nil h.1)
  | cons q rs ih =>
    refine ih _ ?_
    rcases Decidable.eq_or_ne r q with rfl | other
    · rw [State.setRegion_region_self]
      rcases Decidable.eq_or_ne b c with rfl | unnamed
      · exact .inr (tget_tdel_self ..)
      · exact .inr ((tget_tdel_of_ne _ unnamed).trans (done.resolve_left (fun h => unnamed h.2)))
    · rw [State.setRegion_region_of_ne _ _ _ other]
      exact done.imp (fun h => ⟨(List.mem_cons.1 h.1).resolve_left other, h.2⟩) id

/-- The accumulators of the backends of a list are cleared. -/
theorem forEach_clearHealth_health (mem : r ∈ regions) (xs : List (Nat × LbMember)) (s : State) (b : Nat)
    (done : b ∈ xs.map (fun e => e.2.backend) ∨ tget (s.region r).health b = none) :
    tget ((forEach xs s (fun e s => clearHealth e.2.backend s)).region r).health b = none := by
  induction xs generalizing s with
  | nil => exact done.resolve_left List.not_mem_nil
  | cons x xs ih =>
    refine ih _ ?_
    rcases Decidable.eq_or_ne b x.2.backend with rfl | other
    · exact .inr (forEach_clear_health _ _ (.inl ⟨mem, rfl⟩))
    · exact done.imp (fun h => (List.mem_cons.1 h).resolve_left other) (fun clear => forEach_clear_health _ _ (.inr clear))

/-- A pool that a condition puts in force keeps its members and its figures. -/
theorem ite_commit_members (c : Prop) [Decidable c] (p : LbPool) :
    (if c then p.commit else p).members = p.members ∧ (if c then p.commit else p).health = p.health := by
  split <;> exact ⟨rfl, rfl⟩

/-- An event that a condition raises leaves the flow tables. -/
theorem ite_raise_flow (c : Prop) [Decidable c] (n : Nat) : (if c then raise n s else s).flow = s.flow := by
  split
  · exact raise_flow ..
  · rfl

/-! ## Export -/

/-- What EXPORT_MESSAGE_SEND makes of the oldest ended message of a profile. -/
theorem execExportMessageSend_of_ended {k : Nat} {lost : List Nat} {p : ExportProfile} {set : Bool} {all recs : List ExportRec}
    {more : List (Bool × List ExportRec)} {tokens : Nat} (known : tget s.flow.profiles k = some p) (first : p.ended = (set, all) :: more)
    (left : recs = unlost lost 0 all)
    (bucket : tokens = min (p.burst * byteTokens) (p.tokens + p.rate * (s.time.localNs - p.tokensAt))) :
    execExportMessageSend k lost s = .next (
      if p.templateDue = true ∧ recs ≠ [] ∧ p.mtu < p.packetLen true recs then
        if tokens < p.packetLen true [] * byteTokens then s else emitMessage k p tokens true [] s
      else if (p.templateDue = true ∨ recs ≠ []) ∧ tokens < p.packetLen p.templateDue recs * byteTokens then s
      else (chargeExport all.length s).elim s (fun v =>
        if p.templateDue = false ∧ recs = [] then v.setProfile k { p with
          ended := more
          dropped := add64 p.dropped (all.length - recs.length) }
        else emitMessage k { p with
          ended := more
          dropped := add64 p.dropped (all.length - recs.length) } tokens p.templateDue recs v)) := by
  subst left bucket
  rw [execExportMessageSend, known]
  dsimp only
  rw [first]
  dsimp only
  cases due : p.templateDue <;> cases rest : unlost lost 0 all <;> cases charged : chargeExport all.length s <;> simp

end Sys2Proof.Machine

open Sys2Proof.Machine

/-- Settles O36: a relocation's reads leave the free slots, a health period clears the accumulators of every member in every region, and an ended message
is sent, waits or is given up by the cases of `execExportMessageSend_of_ended`. -/
theorem flowServiceRows : Obligations.FlowServiceRows := by
  unfold Obligations.FlowServiceRows
  refine ⟨?gone, ?moves, ?locked, ?stuck, ?migrated, ?migrates, ?refill, ?ring, ?filling, ?filled, ?completes, ?health, ?home, ?flush, ?noTokens,
    ?setAlone, ?noBudget, ?lostAll, ?sends, ?refresh⟩
  case gone =>
    intro s r i rest jobs hbm ready gone
    show execRelocationJob r s = _
    rw [execRelocationJob, jobs]
    dsimp only
    rw [if_neg (by simp [hbm, ready]), gone]
  case moves =>
    intro s r i rest x p op u l v jobs hbm ready entry known same free charged here slot moved
    have key : reqKey op.req = x.flowKey := by rw [same]; exact reqKey_workOp ..
    show execRelocationJob r s = _
    rw [execRelocationJob, jobs]
    dsimp only
    rw [if_neg (by simp [hbm, ready]), entry]
    dsimp only
    rw [known]
    dsimp only
    rw [← same, if_neg (by simp [free]), startRelocation_of_free key charged here (by rw [freeSlot_setJobs, freeSlot_setJobs]; exact slot) moved]
    rfl
  case locked =>
    intro s r i rest x p op jobs hbm ready entry known same held
    show execRelocationJob r s = _
    rw [execRelocationJob, jobs]
    dsimp only
    rw [if_neg (by simp [hbm, ready]), entry]
    dsimp only
    rw [known]
    dsimp only
    rw [← same, if_pos (by simp [held])]
  case stuck =>
    intro s r i rest x p op done steps jobs hbm ready entry known same free begun full stuck
    have key : reqKey op.req = x.flowKey := by rw [same]; exact reqKey_workOp ..
    show execRelocationJob r s = _
    rw [execRelocationJob, jobs]
    dsimp only
    rw [if_neg (by simp [hbm, ready]), entry]
    dsimp only
    rw [known]
    dsimp only
    rw [← same, if_neg (by simp [free]), ← begun, startRelocation_of_stuck key full stuck]
  case migrated =>
    intro s r hbm going last
    show execTarnOnlyMigrate r s = _
    rw [execTarnOnlyMigrate]
    dsimp only
    rw [if_neg (by simp [hbm, going]), last]
  case migrates =>
    intro s r set w t p u hbm going next known free moved
    show execTarnOnlyMigrate r s = _
    rw [execTarnOnlyMigrate]
    dsimp only
    rw [if_neg (by simp [hbm, going]), next]
    dsimp only
    rw [known, if_neg (by simp [free]), moved]
  case refill =>
    intro s r pool e0 e1 p u known few filled holds hbm charged
    show execNatBufferRefill r pool e0 e1 s = _
    rw [execNatBufferRefill, known]
    dsimp only
    rw [if_neg (by simp [filled, holds, hbm, few]), charged]
  case ring =>
    intro s pool r p n u known filling same charged
    rw [fillRing, known]
    dsimp only
    rw [if_neg (by simp [filling]), ← same, charged]
  case filling =>
    intro s pool p q u known some hbm same after more
    show execNatRingFill pool s = _
    rw [execNatRingFill, known]
    dsimp only
    rw [if_neg (by simp [some, hbm]), ← same, after]
    dsimp only
    rw [if_pos (by simp [more])]
  case filled =>
    intro s pool p q u known some hbm same after done noId
    show execNatRingFill pool s = _
    rw [execNatRingFill, known]
    dsimp only
    rw [if_neg (by simp [some, hbm]), ← same, after]
    dsimp only
    rw [if_neg (by simp [done]), noId]
  case completes =>
    intro s pool p q u id known some hbm same after done hasId
    show execNatRingFill pool s = _
    rw [execNatRingFill, known]
    dsimp only
    rw [if_neg (by simp [some, hbm]), ← same, after]
    dsimp only
    rw [if_neg (by simp [done]), hasId]
  case health =>
    intro s pool p known
    have row : exec (.lbHealthPeriod pool) s = execLbHealthPeriod pool s := rfl
    rw [row, execLbHealthPeriod, known]
    dsimp only
    refine ⟨_, _, rfl, (congrArg (fun f : FlowState => tget f.lbPools pool) ((ite_raise_flow ..).trans (ite_raise_flow ..))).trans (tget_tset_self ..), ?_⟩
    · rw [(ite_commit_members _ _).1, (ite_commit_members _ _).2]
      refine ⟨rfl, fun e named still => ?_, fun r region e named => ?_⟩
      · refine List.mem_map.2 ⟨e, named, if_neg ?_⟩
        rcases still with off | unweighted
        · simp [off]
        · simp [unweighted]
      · rw [State.region, ite_raise_flow, ite_raise_flow]
        exact forEach_clearHealth_health region p.members s _ (.inl (List.mem_map_of_mem named))
  case home =>
    intro s pn p tm start devices more known switch
    show execGroupHomeSwitch pn s = _
    rw [execGroupHomeSwitch, known]
    dsimp only
    rw [switch]
  case flush =>
    intro s k p known some
    show execExportMessageFlush k s = _
    rw [execExportMessageFlush, known]
    dsimp only
    rw [ExportProfile.endMessage, if_neg (by simp [some])]
    rfl
  case noTokens =>
    intro s k lost p set all recs more tokens known first left has fits bucket few
    show execExportMessageSend k lost s = _
    rw [execExportMessageSend_of_ended known first left bucket, if_neg fits, if_pos ⟨has, few⟩]
  case setAlone =>
    intro s k lost p set all recs more tokens known first left due has big bucket
    show execExportMessageSend k lost s = _
    rw [execExportMessageSend_of_ended known first left bucket, if_pos ⟨due, has, big⟩]
  case noBudget =>
    intro s k lost p set all recs more tokens known first left fits bucket enough starved
    show execExportMessageSend k lost s = _
    rw [execExportMessageSend_of_ended known first left bucket, if_neg fits, if_neg (fun h => absurd h.2 (Nat.not_lt.2 enough)), starved]
    rfl
  case lostAll =>
    intro s k lost p set all more u known first none notDue charged
    show execExportMessageSend k lost s = _
    rw [execExportMessageSend_of_ended known first none.symm rfl, if_neg (by simp [notDue]), if_neg (by simp [notDue]), charged, Option.elim_some,
      if_pos ⟨notDue, rfl⟩]
    rfl
  case sends =>
    intro s k lost p set all recs more tokens v u known first left has fits bucket enough charged same
    have emits : ¬(p.templateDue = false ∧ recs = []) := fun h => has.elim (by simp [h.1]) (fun some => some h.2)
    have used : (p.templateDue && !p.templateDue) = false := by cases p.templateDue <;> rfl
    show execExportMessageSend k lost s = _
    rw [execExportMessageSend_of_ended known first left bucket, if_neg fits, if_neg (fun h => absurd h.2 (Nat.not_lt.2 enough)), charged,
      Option.elim_some, if_neg emits, emitMessage]
    dsimp only
    rw [used]
    subst same
    rfl
  case refresh =>
    intro s k p known
    show execTemplateRefresh k s = _
    rw [execTemplateRefresh, known]
    rfl
end

section
/-! Sitting 5: what the Dvorob Link's rows use (O37, O38): a cell that has been received in order, the state of a port as other cells leave it, and
what one decision of a port sends. -/

namespace Sys2Proof.Machine

variable {s u : State} {hd : LinkHeader} {g : Nat}

/-! ## A cell received in order -/

theorem onControl_of_received {f : State → State} (received : receiveCell hd s = (true, u)) : onControl hd f s = .next (f u) := by
  rw [onControl, received]

/-- A control cell that names this device has its effect. -/
theorem onAddressed_of_here {c : Control} {f : State → State} (received : receiveCell hd s = (true, u)) (here : hd.dst = u.ownSlot) :
    onAddressed hd c f s = .next (f u) := by
  rw [onAddressed, onControl_of_received received, if_pos here]

/-- A control cell for another slot goes on from its first hop. -/
theorem onAddressed_of_first {c : Control} {f : State → State} (received : receiveCell hd s = (true, u)) (away : hd.dst ≠ u.ownSlot)
    (first : hd.hop = 0) : onAddressed hd c f s = .next (relayControl hd c u) := by
  rw [onAddressed, onControl_of_received received, if_neg away, if_pos first]

/-- A control cell for another slot goes no further after its second hop. -/
theorem onAddressed_of_second {c : Control} {f : State → State} (received : receiveCell hd s = (true, u)) (away : hd.dst ≠ u.ownSlot)
    (second : hd.hop ≠ 0) : onAddressed hd c f s = .next u := by
  rw [onAddressed, onControl_of_received received, if_neg away, if_neg second]

/-- A cell whose check fails is discarded, and asked for again. -/
theorem receiveCell_of_bad (runs : s.fabRuns hd.group = true) (bad : hd.crcOk = false) (up : (s.fabPort hd.group).up = true) :
    receiveCell hd s = (false, askReplay hd.group s) := by
  rw [receiveCell, if_neg (by simp [runs]), if_pos (by simp [bad]), if_pos up]

/-- An injected error that is used up leaves the Dvorob Link. -/
theorem useInjected_fab (k : Nat) (p : Nat → Bool) (s : State) : (useInjected k p s).fab = s.fab := by
  unfold useInjected
  split <;> rfl

theorem useInjected_fabPort (k : Nat) (p : Nat → Bool) (s : State) (g : Nat) : (useInjected k p s).fabPort g = s.fabPort g :=
  congrArg (fun f : Fabric => tgetD f.ports g { width := 0, rate := 0 }) (useInjected_fab k p s)

theorem onControl_of_refused {f : State → State} {v : State} (refused : receiveCell hd s = (false, v)) : onControl hd f s = .next v := by
  rw [onControl, refused]

/-! ## What other cells leave of a port -/

/-- A port's state on the line: up or not, and the next LSEQ each way. -/
def FabPort.line (p : FabPort) : Bool × Nat × Nat := (p.up, p.lseqTx, p.lseqRx)

/-- A port's state on the line, and what has left the device by the Dvorob Link. -/
def State.line (g : Nat) (s : State) : (Bool × Nat × Nat) × List (Nat × Cell) := ((s.fabPort g).line, s.fab.sent)

theorem setFabPort_line {h : Nat} {p : FabPort} (same : p.line = (s.fabPort h).line) : (s.setFabPort h p).line g = s.line g := by
  rcases Decidable.eq_or_ne g h with rfl | other
  · rw [State.line, State.setFabPort_fabPort_self, same]
    rfl
  · rw [State.line, State.setFabPort_fabPort_of_ne _ _ _ other]
    rfl

theorem tgetD_map_line {f : FabPort → FabPort} (same : ∀ p, (f p).line = p.line) (ps : Tab FabPort) (d : FabPort) :
    (tgetD (ps.map (fun e => (e.1, f e.2))) g d).line = (tgetD ps g d).line := by
  induction ps with
  | nil => rfl
  | cons e ps ih =>
    rw [List.map_cons]
    simp only [tgetD, tget] at ih ⊢
    split
    · exact same e.2
    · exact ih

/-- A change of every port that leaves their state on the line. -/
theorem map_line {f : FabPort → FabPort} (same : ∀ p, (f p).line = p.line) (s : State) :
    ({ s with fab.ports := s.fab.ports.map (fun e => (e.1, f e.2)) } : State).line g = s.line g :=
  congrArg (·, s.fab.sent) (tgetD_map_line same s.fab.ports _)

theorem pushControl_line (h : Nat) (c : Control) (s : State) : (pushControl h c s).line g = s.line g := setFabPort_line rfl

theorem sendCredit_line (h hop n : Nat) (s : State) : (sendCredit h hop n s).line g = s.line g := by
  unfold sendCredit
  dsimp only
  split
  · split
    · exact setFabPort_line rfl
    · exact pushControl_line ..
  · exact pushControl_line ..

theorem freeRx_line (h hop n : Nat) (s : State) : (freeRx h hop n s).line g = s.line g := by
  have used : ({ s.setFabPort h (if hop = 0 then { s.fabPort h with used0 := (s.fabPort h).used0 - n }
      else { s.fabPort h with used1 := (s.fabPort h).used1 - n }) with
    buf.fabRx := tmod s.buf.fabRx (h / 8) 0 (· - n) } : State).line g = s.line g := by
    refine setFabPort_line ?_
    split <;> rfl
  unfold freeRx
  dsimp only
  split
  · exact (sendCredit_line ..).trans used
  · exact used

theorem leaveRx_line (w : WaitCell) (s : State) : (leaveRx w s).line g = s.line g := by
  unfold leaveRx
  split
  · exact freeRx_line ..
  · rfl

theorem poisonRelay_line (r : DataCell × Nat) (s : State) : (poisonRelay r s).line g = s.line g := setFabPort_line rfl

theorem sendToNeighbours_line (c : Control) (s : State) : (sendToNeighbours c s).line g = s.line g := by
  refine map_line (f := fun p => if p.up then { p with control := p.control ++ [c] } else p) (fun p => ?_) s
  split <;> rfl

theorem raise_line (n : Nat) (s : State) : (raise n s).line g = s.line g := by rw [State.line, State.fabPort, raise_fab]; rfl

theorem reachChanged_line (before : Nat) (known : List Nat) (s : State) : (reachChanged before known s).line g = s.line g := by
  unfold reachChanged
  refine (forEach_keeps (State.line g) (fun k u => ?_) _ _).trans ?_
  · dsimp only
    split
    · split
      · exact raise_line ..
      · rfl
    · split <;> rfl
  · split
    · rfl
    · exact sendToNeighbours_line ..

/-- A receive buffer that a cell leaves keeps the count of poisoned frames. -/
theorem leaveRx_poisonSent (w : WaitCell) (s : State) : (leaveRx w s).fab.poisonSent = s.fab.poisonSent := by
  unfold leaveRx freeRx sendCredit
  dsimp only
  split
  · split
    · split
      · split <;> rfl
      · rfl
    · rfl
  · rfl

/-- A port that fails is down. -/
theorem failPort_down (up : (s.fabPort g).up = true) : ((failPort g s).fabPort g).up = false := by
  refine congrArg (fun l => l.1.1) (show (failPort g s).line g = ((false, 0, 0), s.fab.sent) from ?_)
  unfold failPort
  dsimp only
  rw [if_neg (by simp [up]), reachChanged_line, raise_line, forEach_keeps (State.line g) poisonRelay_line,
    map_line (f := fun p => { p with relays := p.relays.filter (fun r => r.2 != g) }) (fun _ => rfl), forEach_keeps (State.line g) leaveRx_line,
    State.line, State.setFabPort_fabPort_self]
  rfl

/-- A cell that takes its room leaves the streams, whatever the windows of the grants become. -/
theorem takeRx_rxStream (h hop : Nat) (s : State) (granted received : Tab Nat) (k : Nat) :
    (takeRx h hop { s with
      fab.granted := granted
      fab.received := received }).rxStream k = s.rxStream k := rfl

/-! ## What a port sends -/

/-- One decision of a port that runs, by what it sends next. -/
theorem exec_fabricCellSend (e : Bool) (runs : s.fabRuns g = true) :
    exec (.fabricCellSend ⟨g, e⟩) s = .next ((s.linkReady.fabPort g).nextCell.elim s.linkReady (Sum.elim (fun c => sendControl g c s.linkReady)
      (fun w => if e then poisonHere g w (useInjected 8 (fun _ => true) s.linkReady) else sendData g w s.linkReady))) := by
  show execFabricCellSend ⟨g, e⟩ s = _
  rw [execFabricCellSend, if_neg (by simp [runs])]
  dsimp only
  cases (s.linkReady.fabPort g).nextCell with
  | none => rfl
  | some c => cases c <;> rfl

theorem nextCell_of_control {p : FabPort} {c : Control} (room : p.replayBuf.length < 512)
    (first : p.control.find? (fun c => p.up || isHello c) = some c) : p.nextCell = some (.inl c) := by
  rw [FabPort.nextCell, if_neg (Nat.not_le.2 room), first]

theorem nextCell_of_data {p : FabPort} (room : p.replayBuf.length < 512) (up : p.up = true) (quiet : p.control = []) :
    p.nextCell = (p.queue.find? p.hasCredit).map .inr := by
  rw [FabPort.nextCell, if_neg (Nat.not_le.2 room), quiet]
  exact if_pos up

/-- A port without a control cell and without a credit sends nothing. -/
theorem nextCell_of_no_credit {p : FabPort} (quiet : p.control = []) (none0 : p.credit0 = 0) (none1 : p.credit1 = 0) : p.nextCell = none := by
  have none : p.queue.find? p.hasCredit = none := List.find?_eq_none.2 (fun w _ => by simp [FabPort.hasCredit, none0, none1])
  rw [FabPort.nextCell, quiet]
  simp [none]

/-- A data cell leaves with the port's LSEQ and the latest ACK. -/
theorem sendData_sent (w : WaitCell) (s : State) : (sendData g w s).fab.sent = s.fab.sent ++ [(g, .data { w.cell with
    lseq := (s.fabPort g).lseqTx
    ack := (s.fabPort g).ackNow })] :=
  congrArg Prod.snd (leaveRx_line (g := g) w _)

theorem sendData_poisonSent (w : WaitCell) (s : State) : (sendData g w s).fab.poisonSent = s.fab.poisonSent := leaveRx_poisonSent w _

/-! ## A poisoned frame -/

/-- The state before a poisoned cell is sent in place of one that the Basin cannot supply: the frame's other cells have left. -/
def State.beforePoison (s : State) (g : Nat) (w : WaitCell) : State :=
  let p := s.fabPort g
  let rest := p.queue.filter (fun x => sameCellFrame x.cell w.cell && x != w)
  let w' : WaitCell := { w with cell := poisonAt w.cell w.cell.index }
  let s := s.setFabPort g { p with queue := (p.queue.map (fun x => if x = w then w' else x)).filter (fun x => !rest.contains x) }
  let s := forEach rest s leaveRx
  { s with fab.ports := s.fab.ports.map (fun e => (e.1, { e.2 with relays := e.2.relays.filter (fun r => !sameCellFrame r.1 w.cell) })) }

theorem poisonHere_eq (w : WaitCell) (s : State) :
    poisonHere g w s = countPoison w.cell (sendData g { w with cell := poisonAt w.cell w.cell.index } (s.beforePoison g w)) := rfl

theorem beforePoison_line (w : WaitCell) (s : State) : (s.beforePoison g w).line g = s.line g :=
  (map_line (f := fun p => { p with relays := p.relays.filter (fun r => !sameCellFrame r.1 w.cell) }) (fun _ => rfl) _).trans
    ((forEach_keeps (State.line g) leaveRx_line _ _).trans (setFabPort_line rfl))

theorem beforePoison_poisonSent (w : WaitCell) (s : State) : (s.beforePoison g w).fab.poisonSent = s.fab.poisonSent :=
  forEach_keeps (fun u : State => u.fab.poisonSent) leaveRx_poisonSent _ _

/-- The poisoned cell leaves with the port's LSEQ and the latest ACK. -/
theorem poisonHere_sent (w : WaitCell) (s : State) : (poisonHere g w s).fab.sent = s.fab.sent ++ [(g, .data { poisonAt w.cell w.cell.index with
    lseq := (s.fabPort g).lseqTx
    ack := (s.fabPort g).ackNow })] := by
  have line := beforePoison_line (g := g) w s
  have sent : (s.beforePoison g w).fab.sent = s.fab.sent := congrArg Prod.snd line
  have tx : ((s.beforePoison g w).fabPort g).lseqTx = (s.fabPort g).lseqTx := congrArg (fun l => l.1.2.1) line
  have rx : ((s.beforePoison g w).fabPort g).lseqRx = (s.fabPort g).lseqRx := congrArg (fun l => l.1.2.2) line
  rw [poisonHere_eq, countPoison, sendData_sent, sent, tx, FabPort.ackNow, rx, FabPort.ackNow]

/-- The frame is counted by its stream. -/
theorem poisonHere_poisonSent (w : WaitCell) (s : State) : (poisonHere g w s).fab.poisonSent =
    tinc s.fab.poisonSent (streamKey (w.cell.src * 32 + w.cell.dst) (egressOf w.cell.cls w.cell.dstPort) w.cell.tc) := by
  rw [poisonHere_eq, countPoison, sendData_poisonSent, beforePoison_poisonSent]

end Sys2Proof.Machine

open Sys2Proof.Machine

/-- Settles O37: a cell received in order has its effect here, goes on from its first hop and ends on its second, and a port that fails stays down through
what leaves it. -/
theorem fabricControlRows : Obligations.FabricControlRows := by
  unfold Obligations.FabricControlRows
  refine ⟨?taken, ?bad, ?fails, ?later, ?load, ?reach, ?portUp, ?portDown, ?request, ?requestEnd, ?grant, ?grantNone, ?replay, ?credit0, ?credit1,
    ?flowReq, ?flowStarved, ?flowStateless, ?flowResp, ?flowRespNone, ?segment, ?lastSegment, ?learn, ?relayed, ?second, ?timeoutNone, ?timeout,
    ?hello, ?helloOwn, ?helloSend, ?loadSend, ?asks, ?ownVoq, ?noFrames, ?portTimeout, ?portAlready⟩
  case taken =>
    intro s hd runs good up next
    rw [receiveCell, if_neg (by simp [runs]), if_neg (by simp [good]), if_neg (by simp [up, next])]
  case bad =>
    intro s hd occ runs bad up few
    show execLoad hd occ s = _
    rw [execLoad, onControl_of_refused (receiveCell_of_bad runs bad up), askReplay]
    dsimp only
    rw [useInjected_fabPort, if_neg (Nat.not_le.2 few)]
  case fails =>
    intro s hd occ runs bad up many
    show execLoad hd occ s = _
    rw [execLoad, onControl_of_refused (receiveCell_of_bad runs bad up), askReplay,
      useInjected_fabPort, if_pos many]
  case later =>
    intro s hd occ runs good other
    have refused : receiveCell hd s = (false, s) := by
      rw [receiveCell, if_neg (by simp [runs]), if_neg (by simp [good]), if_pos (by simp [other])]
    exact onControl_of_refused refused
  case load =>
    intro s hd occ u k received near
    show execLoad hd occ s = _
    rw [execLoad, onControl_of_received received]
    simp only [near, Option.isSome_some, Bool.and_true, decide_eq_true_eq]
  case reach =>
    intro s hd v u w received same
    subst same
    exact onControl_of_received received
  case portUp =>
    intro s hd slot port u received here other
    show execPortState hd slot port true s = _
    rw [execPortState, onAddressed_of_here received here]
    dsimp only
    rw [if_neg other, if_pos rfl]
  case portDown =>
    intro s hd slot port u received here other
    show execPortState hd slot port false s = _
    rw [execPortState, onAddressed_of_here received here]
    dsimp only
    rw [if_neg other, if_neg Bool.false_ne_true]
  case request =>
    intro s hd slot region port tc cls cells head u received here some
    show execRequest hd slot region port tc cls ⟨cells, head⟩ s = _
    rw [execRequest, onAddressed_of_here received here]
    dsimp only
    rw [if_neg some]
  case requestEnd =>
    intro s hd slot region port tc cls head u received here
    exact onAddressed_of_here received here
  case grant =>
    intro s hd region voq cells u received here
    exact onAddressed_of_here received here
  case grantNone =>
    intro s hd region voq cells u received here idle
    show execGrant hd region voq cells s = _
    rw [execGrant, onAddressed_of_here received here]
    dsimp only
    rw [idle]
    rfl
  case replay =>
    intro s hd lseq u received
    refine ⟨_, onControl_of_received received, rfl, ?_, rfl⟩
    exact congrArg FabPort.replays (State.setFabPort_fabPort_self ..)
  case credit0 =>
    intro s hd cells u received
    exact onControl_of_received received
  case credit1 =>
    intro s hd cells u received
    exact onControl_of_received received
  case flowReq =>
    intro s hd slot id req u t p received here template part ready
    show execFlowReq hd slot id req s = _
    rw [execFlowReq, onAddressed_of_here received here]
    dsimp only
    rw [template]
    dsimp only
    rw [part]
    dsimp only
    rw [if_pos ready]
  case flowStarved =>
    intro s hd slot id req u t p received here template part stopped
    show execFlowReq hd slot id req s = _
    rw [execFlowReq, onAddressed_of_here received here]
    dsimp only
    rw [template]
    dsimp only
    rw [part]
    dsimp only
    rw [if_neg (by simp [stopped])]
  case flowStateless =>
    intro s hd slot id req u received here unknown
    show execFlowReq hd slot id req s = _
    rw [execFlowReq, onAddressed_of_here received here]
    dsimp only
    rw [unknown]
  case flowResp =>
    intro s hd slot id res u o received here asked
    show execFlowResp hd slot id res s = _
    rw [execFlowResp, onAddressed_of_here received here]
    dsimp only
    rw [asked]
  case flowRespNone =>
    intro s hd slot id res u received here unasked
    show execFlowResp hd slot id res s = _
    rw [execFlowResp, onAddressed_of_here received here]
    dsimp only
    rw [unasked]
  case segment =>
    intro s hd slot total opcode f u received here first more
    show execOcf hd slot 0 total opcode f s = _
    rw [execOcf, onAddressed_of_here received here, takeSegment, first]
    dsimp only
    rw [if_neg (by simp), if_neg (by omega)]
  case lastSegment =>
    intro s hd slot k opcode f u received here before
    show execOcf hd slot (k + 1) (k + 2) opcode f s = _
    rw [execOcf, onAddressed_of_here received here, takeSegment, before]
    dsimp only
    rw [if_neg (by simp), if_pos rfl]
  case learn =>
    intro s hd slot f u received here first
    show execLearn hd slot 0 1 f s = _
    rw [execLearn, onAddressed_of_here received here, takeSegment, first]
    dsimp only
    rw [if_neg (by simp), if_pos rfl]
  case relayed =>
    intro s hd u received away first
    exact ⟨fun _ _ _ => onAddressed_of_first received away first, fun _ _ _ => onAddressed_of_first received away first,
      fun _ _ _ _ _ _ _ => onAddressed_of_first received away first, fun _ _ _ => onAddressed_of_first received away first,
      fun _ _ _ => onAddressed_of_first received away first, fun _ _ _ _ _ => onAddressed_of_first received away first,
      fun _ _ _ _ => onAddressed_of_first received away first⟩
  case second =>
    intro s hd u received away second
    exact ⟨fun _ _ _ => onAddressed_of_second received away second, fun _ _ _ => onAddressed_of_second received away second,
      fun _ _ _ _ _ _ _ => onAddressed_of_second received away second, fun _ _ _ => onAddressed_of_second received away second,
      fun _ _ _ => onAddressed_of_second received away second, fun _ _ _ _ _ => onAddressed_of_second received away second,
      fun _ _ _ _ => onAddressed_of_second received away second⟩
  case timeoutNone =>
    intro s slot ocf learn
    show execOcfSegmentTimeout slot s = _
    have keys : [slot, 32 + slot].filter (fun k => (tget s.fab.segments k).isSome) = [] := by simp [ocf, learn]
    simp only [execOcfSegmentTimeout, keys]
    rfl
  case timeout =>
    intro s slot ocf learn
    show execOcfSegmentTimeout slot s = _
    have keys : [slot, 32 + slot].filter (fun k => (tget s.fab.segments k).isSome) = [slot] := by simp [ocf, learn]
    simp only [execOcfSegmentTimeout, keys]
    rfl
  case hello =>
    intro s hd gid slot dev v runs good down same other u here free
    have own : u.ownSlot = s.ownSlot := by rw [here]; rfl
    have group : u.fab.cfg = s.fab.cfg := by rw [here]; rfl
    have row : exec (.hello hd gid slot dev v) s = execHello hd gid slot dev v s := rfl
    rw [row, execHello]
    dsimp only
    rw [if_neg (by simp [runs]), if_neg (by simp [good]), if_neg (by simp [down]), ← here, if_neg (by simp [own, other, free]),
      if_neg (by simp [down, same, group])]
    simp only [down, Bool.false_eq_true, if_false]
    refine ⟨_, rfl, ?_, ?_, ?_, ?_⟩
    · rw [State.setFabPort_fabPort_self]
    · rw [State.setFabPort_fabPort_self]
    · rw [State.setFabPort_fabPort_self]
    · show slot ∈ if u.fab.members.contains slot then u.fab.members else u.fab.members ++ [slot]
      split
      next known => exact List.contains_iff_mem.1 known
      next => exact List.mem_append_right _ (List.mem_singleton_self _)
  case helloOwn =>
    intro s hd gid dev v u runs good down here
    show execHello hd gid s.ownSlot dev v s = _
    rw [execHello]
    dsimp only
    rw [if_neg (by simp [runs]), if_neg (by simp [good]), if_neg (by simp [down]), ← here,
      if_pos (by rw [show u.ownSlot = s.ownSlot by rw [here]; rfl]; simp)]
  case helloSend =>
    intro s g runs
    show execHelloSend g s = _
    rw [execHelloSend, if_pos runs]
    rfl
  case loadSend => exact fun s => rfl
  case asks =>
    intro s region voq other
    show execVoqRequestTimer region voq s = _
    rw [execVoqRequestTimer, if_neg other]
  case ownVoq =>
    intro s region voq own
    show execVoqRequestTimer region voq s = _
    rw [execVoqRequestTimer, if_pos own, requestGrant, if_pos own]
  case noFrames =>
    intro s region voq idle
    have heads : (s.voq (voqKey region voq)).headFrames = [] := by rw [Voq.headFrames, idle]; exact ite_self _
    show execVoqRequestTimer region voq s = _
    have quiet : requestGrant (voqKey region voq) s = s := by
      rw [requestGrant, heads]
      exact ite_self _
    rw [execVoqRequestTimer, idle]
    exact congrArg _ ((congrArg (requestGrant _) (ite_self _)).trans quiet)
  case portTimeout => exact fun s g up => ⟨rfl, failPort_down up⟩
  case portAlready =>
    intro s g down
    show execFabricPortTimeout g s = _
    rw [execFabricPortTimeout, failPort, if_pos (by simp [down])]

/-- Settles O38: what a port sends is what `nextCell` gives for its queues and credits, and a received cell or frame is one case of `localCell` or
`arriveFrame`. -/
theorem fabricDataRows : Obligations.FabricDataRows := by
  unfold Obligations.FabricDataRows
  refine ⟨?control, ?hello, ?data, ?poison, ?noCredit, ?full, ?idle, ?bad, ?here, ?relayed, ?second, ?noPart, ?inOrder, ?poisoned, ?early, ?late,
    ?noneHeld, ?timeout⟩
  case control =>
    intro s l g c err runs same room up first
    subst same
    have next : ((s.linkReady.fabPort g).control.find? fun c => (s.linkReady.fabPort g).up || isHello c) = some c := by
      obtain ⟨cs, is⟩ := List.head?_eq_some_iff.1 first
      rw [is, List.find?_cons_of_pos (by simp [up])]
    rw [exec_fabricCellSend err runs, nextCell_of_control room next, Option.elim_some, Sum.elim_inl, sendControl]
    exact congrArg _ (if_pos up)
  case hello =>
    intro s l g c err runs same room down first
    subst same
    have next : ((s.linkReady.fabPort g).control.find? fun c => (s.linkReady.fabPort g).up || isHello c) = some c := by
      simp only [down, Bool.false_or]
      exact first
    rw [exec_fabricCellSend err runs, nextCell_of_control room next, Option.elim_some, Sum.elim_inl, sendControl]
    exact congrArg _ (if_neg (by simp [down]))
  case data =>
    intro s l g w runs same room up quiet first
    subst same
    rw [exec_fabricCellSend false runs, nextCell_of_data room up quiet, first]
    rfl
  case poison =>
    intro s l g w runs same room up quiet first
    subst same
    rw [exec_fabricCellSend true runs, nextCell_of_data room up quiet, first]
    refine ⟨_, rfl, (poisonHere_sent w _).trans ?_, (poisonHere_poisonSent w _).trans ?_⟩
    · rw [useInjected_fabPort, useInjected_fab]
    · rw [useInjected_fab]
  case noCredit =>
    intro s l g err runs same quiet none0 none1
    rw [exec_fabricCellSend err runs, ← same, nextCell_of_no_credit quiet none0 none1, Option.elim_none]
  case full =>
    intro s l g err runs same full
    rw [exec_fabricCellSend err runs, ← same, FabPort.nextCell, if_pos full, Option.elim_none]
  case idle =>
    intro s l g runs same up none
    show execFabricIdleSend g s = _
    rw [execFabricIdleSend, if_neg (by simp [runs]), ← same]
    exact congrArg _ (if_pos (by simp [up, none]))
  case bad =>
    intro s g c ccrc runs up bad
    show execDataCellReceive g c ccrc s = _
    rw [execDataCellReceive, receiveCell_of_bad runs bad up]
  case here =>
    intro s g c ccrc u good received here
    show execDataCellReceive g c ccrc s = _
    rw [execDataCellReceive, good, received]
    exact congrArg _ (if_pos here)
  case relayed =>
    intro s g c ccrc u good received away first
    show execDataCellReceive g c ccrc s = _
    rw [execDataCellReceive, good, received]
    exact congrArg _ ((if_neg away).trans (if_pos first))
  case second =>
    intro s g c ccrc u good received away second
    show execDataCellReceive g c ccrc s = _
    rw [execDataCellReceive, good, received]
    exact congrArg _ ((if_neg away).trans (if_neg second))
  case noPart =>
    intro s g c u k pipe middle key pipeOf same absent
    subst key pipeOf
    have absent' : (s.rxStream (streamKey c.src (egressOf c.cls c.dstPort) c.tc)).parts.find? (fun p => p.seq = c.seq) = none := by
      rw [← absent, same, takeRx_rxStream]
    rw [localCell]
    dsimp only
    rw [← same, absent', if_neg (by simp [middle]), Option.bind_none]
  case inOrder =>
    intro s pipe k f turn alone clean
    rw [arriveFrame, if_pos turn, alone, List.length_nil, releaseHeld, takeFrame, if_neg (by simp [clean])]
  case poisoned =>
    intro s u pipe k f turn alone dirty same
    rw [arriveFrame, if_pos turn, alone, List.length_nil, releaseHeld, takeFrame, ← same, if_pos dirty]
  case early =>
    intro s pipe k f other later
    rw [arriveFrame, if_neg other, if_pos later]
  case late =>
    intro s pipe k f other past
    rw [arriveFrame, if_neg other, if_neg (by simp [past])]
  case noneHeld =>
    intro s slot pipe tc none
    show execRobTimeout slot pipe tc s = _
    rw [execRobTimeout]
    dsimp only
    rw [none]
    rfl
  case timeout =>
    intro s slot pipe tc f one none
    show execRobTimeout slot pipe tc s = _
    rw [execRobTimeout]
    dsimp only
    rw [one, none, List.foldl_cons, List.foldl_nil]
    simp only [List.filter_nil, List.map_nil, List.sum_nil, Nat.add_zero, List.length_singleton, forEach, List.foldl_nil]
end

section
/-! Sitting 5: what the HBM controllers' rows use (O39): acceptance of a request, the class that a gate serves, and the outcome of a read. -/

namespace Sys2Proof.Machine

variable {s u : State} {r : Nat}

/-! ## Acceptance -/

/-- A read that is accepted: it takes the next number and the bytes of this moment, and stands last at the gate. -/
theorem acceptHbm_read {q : HbmReq} (reads : q.write = false) (data : Bytes) (s : State) :
    (acceptHbm q data s).hbm.mem = s.hbm.mem ∧ (acceptHbm q data s).hbm.poison = s.hbm.poison ∧
    (acceptHbm q data s).hbm.nextSeq = s.hbm.nextSeq + 1 ∧ (acceptHbm q data s).hbm.gate.getLast? = some { q with
      seq := s.hbm.nextSeq
      accepted := s.time.localNs
      data := memRead s.hbm.mem (hbmAddr q.region q.addr) q.len } := by
  rw [acceptHbm]
  dsimp only
  rw [if_neg (by simp [reads])]
  refine ⟨rfl, rfl, rfl, ?_⟩
  dsimp only
  rw [List.getLast?_concat, if_neg (by simp [reads])]

/-- A write that is accepted stands in the memory at once, and last at the gate. -/
theorem acceptHbm_write {q : HbmReq} (writes : q.write = true) (data : Bytes) (s : State) :
    (acceptHbm q data s).hbm.mem = memWrite s.hbm.mem (hbmAddr q.region q.addr) data ∧
    (acceptHbm q data s).hbm.gate = s.hbm.gate ++ [{ q with
      seq := s.hbm.nextSeq
      accepted := s.time.localNs
      data := [] }] ∧ (acceptHbm q data s).hbm.pcs = s.hbm.pcs := by
  rw [acceptHbm]
  dsimp only
  rw [if_pos writes, if_pos writes]
  exact ⟨rfl, rfl, rfl⟩

/-! ## The gate -/

/-- What a class of a region lets pass: its oldest request, where that has room and budget. -/
def State.passes (s : State) (r c : Nat) : Option (HbmReq × State) :=
  match s.gateOf r c with
  | [] => none
  | q :: _ => if s.pcRoom q then (charge r c q.bursts s).map (fun s => (q, s)) else none

theorem execHbmGatePass_eq (r : Nat) (s : State) : execHbmGatePass r s = .next (match gateOrder.findSome? (s.passes r) with
    | some (q, s) => passGate q s
    | none => s) := rfl

theorem passes_of_oldest {c : Nat} {q : HbmReq} {qs : List HbmReq} (oldest : s.gateOf r c = q :: qs) (room : s.pcRoom q = true)
    (charged : charge r c q.bursts s = some u) : s.passes r c = some (q, u) := by
  rw [State.passes, oldest]
  dsimp only
  rw [if_pos room, charged]
  rfl

theorem passes_of_empty {c : Nat} (empty : s.gateOf r c = []) : s.passes r c = none := by
  rw [State.passes, empty]

/-- A class without budget lets nothing pass. -/
theorem passes_of_starved {c : Nat} (starved : ∀ q qs, s.gateOf r c = q :: qs → charge r c q.bursts s = none) : s.passes r c = none := by
  rw [State.passes]
  split
  next => rfl
  next q qs first => rw [starved q qs first]; exact ite_self _

/-! ## The outcome of a read -/

/-- A clean read of a burst that is not poisoned. -/
theorem eccRead_clean {burst : Nat} (pc : Nat) (sound : ¬(s.hbm.poison.contains burst = true)) : eccRead pc .clean burst s = (.clean, s) := by
  rw [eccRead]
  dsimp only
  rw [if_neg sound]

theorem eccRead_uncorrectable (pc burst : Nat) (s : State) : (eccRead pc .uncorrectable burst s).1 = .uncorrectable := by
  rw [eccRead]
  dsimp only
  rw [ite_self]

/-! ## The budgets -/

/-- A new period counts the requests that wait, and sets the budgets by the shares written. -/
theorem newPeriod_hbm (s : State) : (newPeriod s).hbm.ceiling = s.power.ceilingC ∧ (newPeriod s).hbm.charged = [] ∧ (newPeriod s).hbm.stats = [] ∧
    (newPeriod s).hbm.shares = s.hbm.nextShares ∧ (newPeriod s).hbm.period = s.time.localNs / 1024 ∧ (newPeriod s).hbm.mem = s.hbm.mem := by
  have kept := forEach_keeps (fun u : State => (u.power, u.time, u.hbm.nextShares, u.hbm.mem))
    (f := fun i u => if u.gateOf (i / 5) (i % 5) = [] then u else stat (i / 5) (i % 5) (fun b => { b with waiting := b.waiting + 1 }) u)
    (fun i u => by split <;> rfl) (List.range 20) s
  rw [newPeriod]
  dsimp only
  generalize forEach (List.range 20) s (fun i u => if u.gateOf (i / 5) (i % 5) = [] then u
    else stat (i / 5) (i % 5) (fun b => { b with waiting := b.waiting + 1 }) u) = v at kept ⊢
  obtain ⟨power, rest⟩ := Prod.mk.inj kept
  obtain ⟨time, rest⟩ := Prod.mk.inj rest
  obtain ⟨shares, mem⟩ := Prod.mk.inj rest
  rw [← power, ← time, ← shares, ← mem]
  split
  · rw [raise_hbm]
    exact ⟨rfl, rfl, rfl, rfl, rfl, rfl⟩
  · exact ⟨rfl, rfl, rfl, rfl, rfl, rfl⟩

end Sys2Proof.Machine

open Sys2Proof.Machine

/-- Settles O39: an accepted request's effect on the memory, the first class in order that a gate lets pass, and what the ECC of a completed read
finds decide the rows of requests; the others are their effects at the case in hand, and R367's example is computed. -/
theorem hbmRows : Obligations.HbmRows := by
  unfold Obligations.HbmRows
  refine ⟨?read, ?write, ?readBeyond, ?writeBeyond, ?writeBack, ?noWriteBack, ?flowRefused, ?flowWaits, ?flowRead, ?gateFirst, ?gateSecond, ?gateNone,
    ?refuse, ?refuseNone, ?period, ?newPeriod, ?issueFull, ?issue, ?complete, ?completeFlow, ?slotLost, ?completeNone, ?close, ?stays, ?refreshLast,
    ?refresh, ?trained, ?again, ?failed, ?selfRefresh, ?woken, ?lost, ?scrub, ?scrubNone, ?retired, ?retiredAlone, ?moves, ?noRetirement, ?locate,
    ?sample⟩
  case read =>
    intro s r c a n some inside room ready
    obtain ⟨mem, poison, next, last⟩ := acceptHbm_read (q := {
      region := r, cls := c, write := false, addr := a, len := n, bursts := chargeOf false a n, use := .other, accepted := 0 }) rfl [] s
    refine ⟨_, ?_, mem, poison, next, last⟩
    show execHbmRequestAccept (.read r c a n) s = _
    rw [execHbmRequestAccept, if_neg (Nat.not_lt.2 inside), if_neg (by simp [room, ready]; omega)]
  case write =>
    intro s r c a data some inside room ready
    obtain ⟨mem, gate, pcs⟩ := acceptHbm_write (q := {
      region := r, cls := c, write := true, addr := a, len := data.length, bursts := chargeOf true a data.length, use := .other, accepted := 0 })
      rfl data s
    refine ⟨_, ?_, mem, gate, pcs⟩
    show execHbmRequestAccept (.write r c a data) s = _
    rw [execHbmRequestAccept, if_neg (Nat.not_lt.2 inside), if_neg (by simp [room, ready, some])]
  case readBeyond => exact fun s r c a n beyond => if_pos beyond
  case writeBeyond => exact fun s r c a data beyond => if_pos beyond
  case writeBack =>
    intro s r w rest bs first bytes room ready
    show execHbmRequestAccept (.writeBack r) s = _
    rw [execHbmRequestAccept, acceptWriteBack]
    dsimp only
    rw [first]
    dsimp only
    rw [if_neg (by simp [room, ready]), bytes]
  case noWriteBack =>
    intro s r none
    show execHbmRequestAccept (.writeBack r) s = _
    rw [execHbmRequestAccept, acceptWriteBack]
    dsimp only
    rw [none]
  case flowRefused =>
    intro s r op waits ready full frame bucket
    show execHbmRequestAccept (.flowRead r) s = _
    rw [execHbmRequestAccept, acceptFlowRead, waits]
    dsimp only
    rw [if_neg (by simp [ready]), if_pos (by simp [full]), if_pos (by simp [frame, bucket])]
  case flowWaits =>
    intro s r op waits ready full other
    show execHbmRequestAccept (.flowRead r) s = _
    rw [execHbmRequestAccept, acceptFlowRead, waits]
    dsimp only
    rw [if_neg (by simp [ready]), if_pos (by simp [full]), if_neg (by
      rw [Bool.and_eq_true, decide_eq_true_eq]
      exact fun h => other.elim (fun off => by simp [off] at h) (fun past => absurd h.2 (Nat.not_lt.2 past)))]
  case flowRead =>
    intro s r op u waits ready room same
    show execHbmRequestAccept (.flowRead r) s = _
    rw [execHbmRequestAccept, acceptFlowRead, waits]
    dsimp only
    rw [if_neg (by simp [ready]), if_neg (by simp [room]), ← same]
    simp only [Bool.and_eq_true, decide_eq_true_eq]
  case gateFirst =>
    intro s r q qs u first room charged
    show execHbmGatePass r s = _
    rw [execHbmGatePass_eq, gateOrder, List.findSome?_cons, passes_of_oldest first room charged]
  case gateSecond =>
    intro s r q qs u empty first room charged
    show execHbmGatePass r s = _
    rw [execHbmGatePass_eq, gateOrder, List.findSome?_cons, passes_of_empty empty, List.findSome?_cons, passes_of_oldest first room charged]
  case gateNone =>
    intro s r starved
    show execHbmGatePass r s = _
    rw [execHbmGatePass_eq, List.findSome?_eq_none_iff.2 (fun c _ => passes_of_starved (starved c))]
  case refuse =>
    intro s r q op oldest waits
    show execFrReadRefuse r s = _
    have waits' : (State.region { s with hbm.gate := s.hbm.gate.filter (fun x => x.seq != q.seq) } r).busy.find?
        (fun op => op.issued = some q.seq) = some op := waits
    rw [execFrReadRefuse, oldest]
    dsimp only
    rw [waits']
  case refuseNone =>
    intro s r none
    show execFrReadRefuse r s = _
    rw [execFrReadRefuse, none]
  case period => exact fun s => rfl
  case newPeriod => exact newPeriod_hbm
  case issueFull => exact fun s pc full => if_pos full
  case issue =>
    intro s pc q room choice
    have row : exec (.pcIssue pc) s = execPcIssue pc s := rfl
    rw [row, execPcIssue]
    dsimp only
    rw [if_neg (Nat.not_le.2 room), choice]
    refine ⟨_, rfl, ?_, ?_, ?_, rfl, fun p other => State.setPc_pc_of_ne _ _ _ other⟩
    · rw [State.setPc_pc_self]
      rfl
    · rw [State.setPc_pc_self]
      rfl
    · rw [State.setPc_pc_self]
      rfl
  case complete =>
    intro s pc burst q rest first use reads sound
    show execHbmAccessComplete pc .clean burst s = _
    have found : eccRead pc .clean (hbmAddr q.region ((q.addr / 32 + burst) * 32) / 32) (s.setPc pc { s.pc pc with issued := rest }) =
        (.clean, s.setPc pc { s.pc pc with issued := rest }) := eccRead_clean pc sound
    have kept : ¬((decide (Sys2Proof.EccOutcome.clean = .uncorrectable) && decide ((q.addr / 32 + burst) * 32 < 2 ^ 32)) = true) := by simp
    rw [execHbmAccessComplete]
    dsimp only
    rw [first]
    dsimp only
    rw [found, ite_self]
    dsimp only
    rw [if_neg kept, use]
    dsimp only
    rw [if_neg (by simp [reads])]
  case completeFlow =>
    intro s pc burst q rest r op first use reads sound waits
    have found : eccRead pc .clean (hbmAddr q.region ((q.addr / 32 + burst) * 32) / 32) (s.setPc pc { s.pc pc with issued := rest }) =
        (.clean, s.setPc pc { s.pc pc with issued := rest }) := eccRead_clean pc sound
    have kept : ¬((decide (Sys2Proof.EccOutcome.clean = .uncorrectable) && decide ((q.addr / 32 + burst) * 32 < 2 ^ 32)) = true) := by simp
    have waits' : ((s.setPc pc { s.pc pc with issued := rest }).region r).busy.find? (fun op => op.issued = some q.seq) = some op := waits
    show execHbmAccessComplete pc .clean burst s = _
    rw [execHbmAccessComplete]
    dsimp only
    rw [first]
    dsimp only
    rw [found, ite_self]
    dsimp only
    rw [if_neg kept, use]
    dsimp only
    rw [waits']
    dsimp only
    rw [if_neg (by simp)]
    simp
  case slotLost =>
    intro s pc burst q rest r op v first use reads inside table after waits
    have found := eccRead_uncorrectable pc (hbmAddr q.region ((q.addr / 32 + burst) * 32) / 32) (s.setPc pc { s.pc pc with issued := rest })
    have asked : ((!q.write || q.addr % 32 != 0 || q.len % 32 != 0 || decide (q.bursts > q.len / 32)) &&
        decide ((q.addr / 32 + burst) * 32 < q.addr + q.len)) = true := by simp [reads, inside]
    have below : ¬((decide (Sys2Proof.EccOutcome.uncorrectable = .uncorrectable) && decide ((q.addr / 32 + burst) * 32 < 2 ^ 32)) = true) := by
      rw [Bool.and_eq_true, decide_eq_true_eq, decide_eq_true_eq]
      exact fun h => absurd h.2 (Nat.not_lt.2 table)
    have atTable : (decide (Sys2Proof.EccOutcome.uncorrectable = .uncorrectable) && decide (2 ^ 32 ≤ (q.addr / 32 + burst) * 32)) = true := by
      rw [Bool.and_eq_true, decide_eq_true_eq, decide_eq_true_eq]
      exact ⟨rfl, table⟩
    show execHbmAccessComplete pc .uncorrectable burst s = _
    rw [execHbmAccessComplete]
    dsimp only
    rw [first]
    dsimp only
    rw [if_pos asked, found, ← after, if_neg below, use]
    dsimp only
    rw [waits]
    dsimp only
    rw [if_pos atTable, atTable, Bool.true_and]
  case completeNone =>
    intro s pc ecc burst none
    show execHbmAccessComplete pc ecc burst s = _
    rw [execHbmAccessComplete]
    dsimp only
    rw [none]
  case close =>
    intro s pc bank opened idle
    exact congrArg _ (if_pos (by simp [opened, idle]))
  case stays =>
    intro s pc bank recent
    exact congrArg _ (if_neg (by simp; omega))
  case refreshLast =>
    intro s pc bank last
    exact congrArg _ (if_pos last)
  case refresh =>
    intro s pc bank more
    exact congrArg _ (if_neg (Nat.not_le.2 more))
  case trained =>
    intro s k training
    show execHbmTrainingComplete k true s = _
    rw [execHbmTrainingComplete, if_neg (by simp [training]), if_pos rfl]
  case again =>
    intro s k training few
    show execHbmTrainingComplete k false s = _
    rw [execHbmTrainingComplete, if_neg (by simp [training]), if_neg Bool.false_ne_true]
    exact congrArg _ (if_neg (by omega))
  case failed =>
    intro s k training many
    show execHbmTrainingComplete k false s = _
    rw [execHbmTrainingComplete, if_neg (by simp [training]), if_neg Bool.false_ne_true]
    exact congrArg _ (if_pos (by omega))
  case selfRefresh =>
    intro s k target moving flushed idle ready other
    show execSelfRefreshEntry k s = _
    rw [execSelfRefreshEntry, if_neg (by simp [moving, target, flushed, idle, ready])]
    exact congrArg _ (if_pos other)
  case woken =>
    intro s k restored trained asleep waking able
    show execHbmWakeReady k restored trained s = _
    rw [execHbmWakeReady, if_neg (by simp [asleep, waking])]
    exact congrArg _ (if_pos able)
  case lost =>
    intro s k asleep waking
    show execHbmWakeReady k false false s = _
    rw [execHbmWakeReady, if_neg (by simp [asleep, waking])]
    rfl
  case scrub =>
    intro s r a ecc u ready inside charged
    show execHbmScrubVisit r a ecc s = _
    rw [execHbmScrubVisit, if_neg (by simp [ready]; omega), charged]
  case scrubNone =>
    intro s r a ecc ready none
    show execHbmScrubVisit r a ecc s = _
    rw [execHbmScrubVisit, none]
    exact ite_self _
  case retired =>
    intro s ok u id done
    show execRetireRemapDrained ok s = _
    rw [execRetireRemapDrained, done]
  case retiredAlone =>
    intro s ok u done
    show execRetireRemapDrained ok s = _
    rw [execRetireRemapDrained, done]
  case moves =>
    intro s ok going
    show execRetireRemapDrained ok s = _
    rw [execRetireRemapDrained, going]
  case noRetirement =>
    intro s ok none
    have still : moveGranules s = s := by rw [moveGranules, none]
    have going : retireDone ok s = Option.none := by rw [retireDone, none]
    show execRetireRemapDrained ok s = _
    rw [execRetireRemapDrained, still, going]
  case locate =>
    intro s r ra N B g p line m sizes region granule pc lineOf mOf
    subst granule pc lineOf mOf
    split at sizes
    next big =>
      obtain ⟨rfl, rfl⟩ := sizes
      simp only [State.locate, State.bankRow, mapPc, big, if_true]
    next small =>
      obtain ⟨rfl, rfl⟩ := sizes
      simp only [State.locate, State.bankRow, mapPc, if_neg small]
  case sample =>
    intro s big
    simp only [State.locate, State.bankRow, mapPc, big, if_true]
    decide
end

section
/-! Sitting 5: the protocol's events (O40). -/

open Sys2Proof.Machine

/-- Settles O40: each event is its row's effect at the case that the pending entry, the intake or the ring is in. -/
theorem protocolRows : Obligations.ProtocolRows := by
  unfold Obligations.ProtocolRows
  refine ⟨?enters, ?readFailed, ?nested, ?noDescriptor, ?noCommand, ?readTimeout, ?writeTimeout, ?tableTimeout, ?flowTimeout, ?sent, ?sentAudited,
    ?noReply, ?notFinal, ?again, ?expires, ?group, ?flash, ?flashHolds⟩
  case enters =>
    intro s c op d opcode f described plain sound defined
    show execDmaCommandReadComplete c true opcode f s = _
    rw [execDmaCommandReadComplete, described]
    dsimp only
    rw [if_neg (by simp), if_neg (by simp [plain]), intakeFrame, sound]
    dsimp only
    rw [if_neg, if_neg (by simp [defined])]
    exact fun isDma => by simp [show f.isDma = true from isDma] at plain
  case readFailed =>
    intro s c op d opcode f described
    show execDmaCommandReadComplete c false opcode f s = _
    rw [execDmaCommandReadComplete, described]
    rfl
  case nested =>
    intro s c op d opcode f described nested
    show execDmaCommandReadComplete c true opcode f s = _
    rw [execDmaCommandReadComplete, described]
    dsimp only
    rw [if_neg (by simp), if_pos nested]
  case noDescriptor =>
    intro s c ok opcode f none
    show execDmaCommandReadComplete c ok opcode f s = _
    rw [execDmaCommandReadComplete, none]
  case noCommand =>
    intro s opcode f noTable noFlow noFrame
    show execCommandTimeout opcode f s = _
    rw [execCommandTimeout, noTable, noFlow]
    dsimp only
    rw [noFrame]
    exact ite_self _
  case readTimeout =>
    intro s opcode f g u key accepts noTable noFlow waits taken reads pass alone
    show execCommandTimeout opcode f s = _
    rw [execCommandTimeout, if_neg (by simp [accepts]), noTable]
    dsimp only
    rw [noFlow]
    dsimp only
    rw [if_neg (by simp [waits]), taken, reads]
    dsimp only
    rw [Bool.not_true, pass]
    exact congrArg (fun v => Host.Outcome.next (conclude f _ key g 0x0502 0xFFFF [] v)) (if_neg (by simp [Body.audited, alone]))
  case writeTimeout =>
    intro s opcode f g u key accepts noTable noFlow waits taken writes pass
    show execCommandTimeout opcode f s = _
    rw [execCommandTimeout, if_neg (by simp [accepts]), noTable]
    dsimp only
    rw [noFlow]
    dsimp only
    rw [if_neg (by simp [waits]), taken, writes]
    dsimp only
    rw [Bool.not_false, pass]
    rfl
  case tableTimeout =>
    intro s opcode f w accepts waits
    show execCommandTimeout opcode f s = _
    rw [execCommandTimeout, if_neg (by simp [accepts]), waits]
  case flowTimeout =>
    intro s opcode f id accepts noTable waits
    show execCommandTimeout opcode f s = _
    rw [execCommandTimeout, if_neg (by simp [accepts]), noTable]
    dsimp only
    rw [waits]
  case sent =>
    intro s id p st detail res known done first unaudited replies
    show execCompletionSend id s = _
    rw [execCompletionSend, known]
    dsimp only
    rw [done]
    dsimp only
    rw [if_neg (by simp [first]), if_neg (by simp [replies]), if_neg (by simp [unaudited])]
  case sentAudited =>
    intro s id p st detail res u known done first audited replies same
    show execCompletionSend id s = _
    rw [execCompletionSend, known]
    dsimp only
    rw [done]
    dsimp only
    rw [if_neg (by simp [first]), if_pos audited, if_neg (by simp [replies]), ← same]
  case noReply =>
    intro s id p st detail res u known done first quiet same
    show execCompletionSend id s = _
    rw [execCompletionSend, known]
    dsimp only
    rw [done]
    dsimp only
    rw [if_neg (by simp [first]), if_pos quiet, ← same]
  case notFinal =>
    intro s id p known running
    show execCompletionSend id s = _
    rw [execCompletionSend, known]
    dsimp only
    rw [running]
  case again =>
    intro s id p known sent few
    show execCompletionResend id s = _
    rw [execCompletionResend, known]
    dsimp only
    rw [if_neg (by omega), if_neg (by omega)]
  case expires =>
    intro s id p known many
    show execCompletionResend id s = _
    rw [execCompletionResend, known]
    dsimp only
    rw [if_neg (by omega), if_pos many]
  case group => exact fun s group => rfl
  case flash =>
    intro s e last same first
    subst same
    show execAuditFlashWrite s = _
    rw [execAuditFlashWrite, first]
  case flashHolds =>
    intro s last same none
    subst same
    show execAuditFlashWrite s = _
    rw [execAuditFlashWrite, none]
end

section
/-! Sitting 5: the slow-path rings (O41): the buffers that a frame is split over, and the checks of a transmit ring's frame. -/

namespace Sys2Proof.Machine

variable {s : State} {i : Nat}

/-- A split frame takes the buffers in order, gives the frame's bytes in order, and fills no buffer beyond its length. -/
theorem splitFrame_parts (b : List RxBuf) (d : Bytes) {parts : List (RxBuf × Bytes)} (split : splitFrame b d = some parts) :
    parts.map Prod.fst = b ∧ parts.flatMap Prod.snd = d ∧ ∀ p ∈ parts, p.2.length ≤ p.1.len := by
  induction b generalizing d parts with
  | nil =>
    rw [splitFrame] at split
    split at split
    next empty =>
      obtain rfl := Option.some.inj split
      exact ⟨rfl, empty.symm, fun p named => absurd named List.not_mem_nil⟩
    next => exact nomatch split
  | cons x bs ih =>
    rw [splitFrame] at split
    split at split
    next => exact nomatch split
    next =>
      obtain ⟨rest, found, rfl⟩ := Option.map_eq_some_iff.1 split
      obtain ⟨firsts, bytes, fits⟩ := ih (d.drop x.len) found
      refine ⟨by rw [List.map_cons, firsts], by rw [List.flatMap_cons, bytes, List.take_append_drop], fun p named => ?_⟩
      rcases List.mem_cons.1 named with rfl | later
      · exact List.length_take_le ..
      · exact fits p later

/-- A transmit ring in its turn, with descriptors that it lends the device, is not passed over. -/
theorem fetches_of_turn {descs : TxDescs} (opened : s.dmaOpen = true)
    (turn : nextTurn 8 (s.host.txTurn + 1) s.txWork = some i) (some : descs ≠ []) (lent : descs.length ≤ (s.ring true i).owned) :
    ¬((!s.dmaOpen || nextTurn 8 (s.host.txTurn + 1) s.txWork != Option.some i || decide (descs.length = 0) ||
      decide (descs.length > (s.ring true i).owned)) = true) := by
  simp [opened, turn, some, lent]

end Sys2Proof.Machine

open Sys2Proof.Machine

/-- Settles O41: the host port's head frame takes the buffers that `splitFrame` gives, and a fetched frame is refused or accepted by the first check
that it fails. -/
theorem ringRows : Obligations.RingRows := by
  unfold Obligations.RingRows
  refine ⟨?written, ?rxFault, ?disabled, fun b d parts => splitFrame_parts b d, ?noDescs, ?noFrame, ?txFault, ?badFlags, ?badLength, ?direct, ?piped,
    ?notTurn⟩
  case written =>
    intro s t info i bufs parts head opened en lent split
    show execRxFrameWrite bufs false s = _
    rw [execRxFrameWrite, head]
    dsimp only
    rw [if_neg (by simp [opened, en, lent]), split]
    rfl
  case rxFault =>
    intro s t info i bufs parts head opened en lent split
    show execRxFrameWrite bufs true s = _
    rw [execRxFrameWrite, head]
    dsimp only
    rw [if_neg (by simp [opened, en, lent]), split]
    rfl
  case disabled =>
    intro s t info i bufs e head off
    show execRxFrameWrite bufs e s = _
    rw [execRxFrameWrite, head]
    dsimp only
    rw [if_pos (by simp [off])]
  case noDescs =>
    intro s t info i head opened
    show execRingWaitExpire s = _
    rw [execRingWaitExpire, head]
    dsimp only
    rw [if_neg (by simp [opened])]
  case noFrame =>
    intro s none
    show execRingWaitExpire s = _
    rw [execRingWaitExpire, none]
  case txFault =>
    intro s i descs data opened turn some lent
    show execTxFrameFetch i descs data true s = _
    rw [execTxFrameFetch, if_neg (fetches_of_turn opened turn some lent), if_pos rfl]
  case badFlags =>
    intro s i descs data opened turn some lent bad
    show execTxFrameFetch i descs data false s = _
    rw [execTxFrameFetch, if_neg (fetches_of_turn opened turn some lent), if_neg Bool.false_ne_true, if_pos (by simp [bad])]
  case badLength =>
    intro s i descs data opened turn some lent flags bad
    show execTxFrameFetch i descs data false s = _
    rw [execTxFrameFetch, if_neg (fetches_of_turn opened turn some lent), if_neg Bool.false_ne_true, if_neg (by simp [flags]),
      if_pos (by simp [bad])]
  case direct =>
    intro s i d ds data w u opened turn lent flags length frame fits direct same
    subst frame same
    show execTxFrameFetch i (d :: ds) data false s = _
    rw [execTxFrameFetch, if_neg (fetches_of_turn opened turn (List.cons_ne_nil d ds) lent), if_neg Bool.false_ne_true,
      if_neg (by simp [flags]), if_neg (by simp [length])]
    dsimp only
    rw [if_neg (by simp [fits]), List.headD_cons, if_pos direct]
  case piped =>
    intro s i d ds data w u f v opened turn lent flags length frame fits piped same stored
    subst frame same
    show execTxFrameFetch i (d :: ds) data false s = _
    rw [execTxFrameFetch, if_neg (fetches_of_turn opened turn (List.cons_ne_nil d ds) lent), if_neg Bool.false_ne_true,
      if_neg (by simp [flags]), if_neg (by simp [length])]
    dsimp only
    rw [if_neg (by simp [fits]), List.headD_cons, if_neg (by simp [piped]), stored]
  case notTurn =>
    intro s i descs data e other
    exact if_pos (by simp [other])
end

section
/-! Sitting 5: Geyser's rows (O42): the descriptor that a submitted item takes, and what a grant and a completion leave. -/

namespace Sys2Proof.Machine

variable {s u : State} {h : Nat} {i : WorkItem}

/-! ## Descriptors -/

/-- The entry of a key that a filter keeps is the entry of the filtered table. -/
theorem tget_filter_of_some {α : Type} {p : α → Bool} {v : α} (t : Tab α) (found : tget t h = some v) (kept : p v = true) :
    tget (t.filter (fun e => p e.2)) h = some v := by
  induction t with
  | nil => exact nomatch found
  | cons e t ih =>
    rw [tget] at found
    split at found
    next same =>
      obtain rfl := Option.some.inj found
      rw [List.filter_cons, if_pos kept, tget, if_pos same]
    next other =>
      rw [List.filter_cons]
      split
      · rw [tget, if_neg other, ih found]
      · exact ih found

/-- A descriptor that is FREE once the freed ones have left was FREE. -/
theorem item_of_dropFreed (free : (dropFreed s).item h = none) : s.item h = none := by
  cases found : s.item h with
  | none => rfl
  | some i =>
    obtain ⟨entry, used⟩ := Option.filter_eq_some_iff.1 found
    have stays : (dropFreed s).item h = some i :=
      Option.filter_eq_some_iff.2 ⟨tget_filter_of_some (p := fun i => !s.itemGone i) _ entry used, used⟩
    rw [free] at stays
    exact nomatch stays

/-- The item of a handle that has just been set, while it is neither done nor cancelled. -/
theorem item_of_set (entry : tget s.eng.items h = some i) (runs : i.state ≠ .done) (going : i.state ≠ .cancelled) : s.item h = some i := by
  refine Option.filter_eq_some_iff.2 ⟨entry, ?_⟩
  simp [State.itemGone, runs, going]

/-- An event that a condition raises leaves the items. -/
theorem item_ite_raise (c : Prop) [Decidable c] (n : Nat) : (if c then raise n s else s).item h = s.item h := by
  split
  · simp only [State.item, State.itemGone, raise_eng, raise_ocf]
  · rfl

/-- A delayed item keeps its GEN on the list that it enters. -/
theorem listed_gen (entry : tget s.eng.items h = some i) (delayed : i.state = .delayed) :
    ((if s.isDue i.due then enterReady h i s else { s with eng.delayed := s.eng.delayed ++ [h] }).item h).map WorkItem.gen = some i.gen := by
  split
  · rw [item_of_set (i := { i with state := .ready }) (tget_tset_self ..) nofun nofun]
    rfl
  · exact congrArg (Option.map WorkItem.gen) (item_of_set (s := { s with eng.delayed := s.eng.delayed ++ [h] }) entry
      (by rw [delayed]; exact nofun) (by rw [delayed]; exact nofun))

/-- A submitted item takes a FREE descriptor, with the handle's next GEN. -/
theorem submitItem_takes (submitted : submitItem i s = some (h, u)) : s.item h = none ∧ h < 65536 ∧
    (u.item h).map WorkItem.gen = some (wrap 16 (tgetD s.eng.gens h 0 + 1)) := by
  unfold submitItem at submitted
  dsimp only at submitted
  cases free : (dropFreed s).freeHandle with
  | none =>
    rw [free] at submitted
    exact nomatch submitted
  | some k =>
    rw [free] at submitted
    obtain ⟨rfl, rfl⟩ := Prod.mk.inj (Option.some.inj submitted)
    obtain ⟨found, inside⟩ := Option.filter_eq_some_iff.1 free
    have unused : ((dropFreed s).item k).isNone = true := List.find?_some (p := fun k => ((dropFreed s).item k).isNone) found
    refine ⟨item_of_dropFreed (Option.isNone_iff_eq_none.1 unused), of_decide_eq_true inside, ?_⟩
    rw [item_ite_raise]
    show _ = some (wrap 16 (tgetD (dropFreed s).eng.gens k 0 + 1))
    generalize wrap 16 (tgetD (dropFreed s).eng.gens k 0 + 1) = gen
    exact listed_gen (i := { i with gen := gen, state := .delayed }) (tget_tset_self ..) rfl


/-! ## A grant -/

/-- A granted item runs at its executor. -/
theorem grantItem_runs (engine : Bool) (n h : Nat) (i : WorkItem) (s : State) : tget (grantItem engine n h i s).eng.runs (execKey engine n) = some h ∧
    ((grantItem engine n h i s).item h).map WorkItem.state = some .running := by
  unfold grantItem
  dsimp only
  generalize leaveLists h i _ = u
  have runs : tget (tset u.eng.runs (execKey engine n) h) (execKey engine n) = some h := tget_tset_self ..
  cases engine
  · refine ⟨runs, ?_⟩
    exact congrArg (Option.map WorkItem.state) (item_of_set (i := { i with state := .running, started := u.time.localNs, overran := false })
      (tget_tset_self ..) nofun nofun)
  · refine ⟨runs, ?_⟩
    exact congrArg (Option.map WorkItem.state) (item_of_set (i := { i with state := .running, started := u.time.localNs, overran := false })
      (tget_tset_self ..) nofun nofun)

/-! ## The energy period -/

theorem next_ite_raise (c : Prop) [Decidable c] (n : Nat) (s : State) :
    (Host.Outcome.next (if c then raise n s else s) : Host.Outcome State Fault Refusal) = .next s ∨
    (Host.Outcome.next (if c then raise n s else s) : Host.Outcome State Fault Refusal) = .next (raise n s) := by
  split
  · exact .inr rfl
  · exact .inl rfl

end Sys2Proof.Machine

open Sys2Proof.Machine

/-- Settles O42: a submitted item takes a FREE descriptor, a granted one runs at its executor, and the other rows are their effects at the executor's
case. -/
theorem geyserRows : Obligations.GeyserRows := by
  unfold Obligations.GeyserRows
  refine ⟨?releases, ?nothing, fun s i h u => submitItem_takes, ?grants, ?off, fun s engine x h i => grantItem_runs engine x h i s, ?completes,
    ?hostJob, ?engineEnd, ?opsLeft, ?idle, ?overrun, ?flagged, ?period⟩
  case releases =>
    intro s items ready
    exact congrArg _ (if_neg (by simp [ready]))
  case nothing =>
    intro s ready none
    have still : releaseDue s = s := by
      simp only [releaseDue, none, List.filter_nil, List.mergeSort_nil, List.take_nil]
      rfl
    refine congrArg _ ((if_neg (by simp [ready])).trans ?_)
    exact still
  case grants =>
    intro s engine x u h i ready running on waits same chosen first
    have rivals : (List.range (if engine then 32 else 16)).filter (fun n => n != x && u.waits engine n && u.suits engine n i && u.before engine n x) = [] := by
      refine List.filter_eq_nil_iff.2 (fun n _ => ?_)
      simp only [Bool.and_eq_true, bne_iff_ne, ne_eq, not_and]
      intro held
      obtain ⟨⟨other, waits⟩, suits⟩ := held
      simp [first n other waits suits]
    show execWorkItemGrant engine x s = _
    rw [execWorkItemGrant, if_neg (by simp [ready, running, on, waits])]
    dsimp only
    rw [← same, chosen]
    dsimp only
    rw [rivals, if_pos rfl]
  case off =>
    intro s engine x off
    exact if_pos (by simp [off])
  case completes =>
    intro s x h i r here own
    show execWorkItemComplete false x r s = _
    rw [execWorkItemComplete, here]
    dsimp only
    rw [State.readyResult, if_neg Bool.false_ne_true, if_neg (by simp [own])]
    rfl
  case hostJob =>
    intro s x h i e here job ended r
    show execWorkItemComplete false x r s = _
    rw [execWorkItemComplete, here]
    dsimp only
    rw [State.readyResult, if_neg Bool.false_ne_true, if_pos job, ended]
    rfl
  case engineEnd =>
    intro s x h i r v u here finished done same
    subst same
    show execWorkItemComplete true x r s = _
    rw [execWorkItemComplete, here]
    dsimp only
    rw [State.readyResult, if_pos rfl, finished, Option.filter_some, if_pos done]
    rfl
  case opsLeft =>
    intro s x h i r here waits
    show execWorkItemComplete true x r s = _
    rw [execWorkItemComplete, here]
    dsimp only
    rw [State.readyResult, if_pos rfl, Option.filter_eq_none_iff.2 (fun v _ => by simp [waits])]
  case idle =>
    intro s engine x r none
    show execWorkItemComplete engine x r s = _
    rw [execWorkItemComplete, none]
  case overrun =>
    intro s engine x h i here first
    show execItemLimitOverrun engine x s = _
    rw [execItemLimitOverrun, here]
    exact congrArg _ (if_neg (by simp [first]))
  case flagged =>
    intro s engine x h i here again
    show execItemLimitOverrun engine x s = _
    rw [execItemLimitOverrun, here]
    exact congrArg _ (if_pos again)
  case period =>
    intro s ready
    have row : exec .energyPeriodBoundary s = execEnergyPeriodBoundary s := rfl
    rw [row, execEnergyPeriodBoundary, if_neg (by simp [ready])]
    dsimp only
    exact ⟨_, next_ite_raise .., rfl, rfl, rfl, rfl, rfl, rfl, rfl, rfl⟩
end

section
/-! Sitting 5: the Fumarole engines' rows (O43): a word by its memory operation and its SEQ, and the outcomes of an engine at work. -/

namespace Sys2Proof.Machine

variable {s : State} {k h : Nat} {i : WorkItem}

/-! ## A word -/

/-- An ALU operation issues nothing. -/
theorem aluStep_ops (n : Nano) (e : Engine) : (aluStep n e).ops = e.ops := by
  unfold aluStep
  dsimp only
  repeat' split
  all_goals rfl

/-- A word without a memory operation goes on. -/
theorem issueMem_none {n : Nano} (quiet : n.mem = 0) (old : EngineCtx) (e : Engine) (s : State) : issueMem n old e s = .go e s := by
  unfold issueMem
  rw [quiet]
  rfl

/-- A read or a write holds the word while four operations are outstanding. -/
theorem issueMem_of_full {n : Nano} (least : 1 ≤ n.mem) (most : n.mem ≤ 3) (old : EngineCtx) {e : Engine} (full : 4 ≤ e.ops.length) (s : State) :
    issueMem n old e s = .hold := by
  unfold issueMem
  dsimp only
  split
  next zero => omega
  next four => omega
  next six => omega
  next thirteen => omega
  next => exact if_pos full

/-! ## An engine at work -/

/-- What an engine at work makes of its word, by the outcome of the parity checks. -/
def State.fetched (s : State) (k : Nat) (i : WorkItem) : ParityOutcome → Host.Outcome State Fault Refusal
  | .good => runWord k i (s.engine k) s
  | .micro => .next (parityError k 1 (s.engine k) s)
  | .nano => .next (parityError k 2 (s.engine k) s)
  | .golden => .next (goldenError k s)
  | .stateEcc => .next (stopEngine k 8 s)

theorem execMicrowordExecute_of_running (parity : ParityOutcome) (here : s.running_ true k = some (h, i)) (live : s.live true k = true)
    (going : (s.engine k).finished = none) (works : (s.engine k).state = .running) :
    execMicrowordExecute k parity s = s.fetched k i parity := by
  rw [execMicrowordExecute, here]
  dsimp only
  rw [if_neg (by simp [live, going]), if_neg (by simp [works]), if_neg (by simp [works])]
  cases parity <;> rfl

end Sys2Proof.Machine

open Sys2Proof.Machine

/-- Settles O43: a word is taken by its memory operation and its SEQ, an engine at work by the outcome of the parity checks, and an outstanding
operation by `firstDone`. -/
theorem engineRows : Obligations.EngineRows := by
  unfold Obligations.EngineRows
  refine ⟨?good, ?reserved, ?jump, ?ends, ?holds, ?retry, ?third, ?golden, ?state, ?held, ?wakes, ?stopped, ?done, ?error, ?limit, ?noWait⟩
  case good => exact fun s k h i here live going works => execMicrowordExecute_of_running .good here live going works
  case reserved =>
    intro s k i e reserved
    exact if_pos reserved
  case jump =>
    intro s k i e n m micro nano known quiet silent jumps
    rw [runWord]
    dsimp only
    rw [← micro, ← nano, if_neg (by simp [known]), issueMem_none quiet]
    dsimp only
    rw [if_pos silent, nextAddress, jumps]
    rfl
  case ends =>
    intro s k i e n m micro nano known quiet silent last
    rw [runWord]
    dsimp only
    rw [← micro, ← nano, if_neg (by simp [known]), issueMem_none quiet]
    dsimp only
    rw [if_pos silent, last]
    rfl
  case holds =>
    intro s k i e n m micro nano known least most full
    rw [runWord]
    dsimp only
    rw [← micro, ← nano, if_neg (by simp [known]), issueMem_of_full least most]
    exact full.trans (Nat.le_of_eq (congrArg List.length (aluStep_ops n { e with retries := 0 })).symm)
  case retry =>
    intro s k h i here live going works few
    exact (execMicrowordExecute_of_running .micro here live going works).trans (congrArg _ (if_neg (Nat.not_le.2 few)))
  case third =>
    intro s k h i here live going works many
    exact (execMicrowordExecute_of_running .nano here live going works).trans (congrArg _ (if_pos many))
  case golden => exact fun s k h i here live going works => execMicrowordExecute_of_running .golden here live going works
  case state => exact fun s k h i here live going works => execMicrowordExecute_of_running .stateEcc here live going works
  case held =>
    intro n c s op ops held meets
    rw [firstDone, if_pos meets]
  case wakes =>
    intro s k h i parity here live going waits holds
    show execMicrowordExecute k parity s = _
    rw [execMicrowordExecute, here]
    dsimp only
    rw [if_neg (by simp [live, going]), if_pos waits, if_pos holds]
  case stopped =>
    intro s k cause
    rw [stopEngine]
    dsimp only
    rw [State.setEngine_engine_self]
    exact ⟨rfl, rfl⟩
  case done =>
    intro s k op c u first
    show execFumaroleMemComplete k false s = _
    rw [execFumaroleMemComplete]
    dsimp only
    rw [if_neg Bool.false_ne_true, first]
  case error =>
    intro s k op first
    show execFumaroleMemComplete k true s = _
    rw [execFumaroleMemComplete]
    dsimp only
    rw [if_pos rfl, first]
  case limit =>
    intro s k waits
    exact congrArg _ (if_pos waits)
  case noWait =>
    intro s k other
    exact congrArg _ (if_neg other)
end

section
/-! Sitting 5: the work of host jobs (O44). -/

namespace Sys2Proof.Machine

variable {s u : State} {h : Nat} {i : WorkItem}

/-- A bulk insert whose blocks match the job's count, by what its blocks leave. -/
theorem execFlowBulkInsert_of_job {blocks : FlowBlocks} {c : BulkCount} {waits : Option Nat} (here : s.jobAt h = some i)
    (job : i.job = .bulkInsert blocks.length) (opened : s.dmaOpen = true)
    (run : bulkBlocks (reached i (blocks.zipIdx.drop i.bulk.next)) i.bulk s = (c, waits, u)) :
    execFlowBulkInsert h blocks s = .next (waits.elim (endJob h { i with bulk := c } 0 c.results u) (fun n =>
      { u.setItem h { i with
          bulk := c
          waits := true } with flow.cmds := tset u.flow.cmds s.flow.nextCmd { reply := .bulk h n } })) := by
  rw [execFlowBulkInsert, here]
  dsimp only
  rw [job]
  dsimp only
  rw [if_neg (by simp [opened]), run]
  cases waits <;> rfl

/-- A delayed command that its job still runs, by what its embedded frame leaves. -/
theorem runDelayedJob_of_job {tick : Nat} {f : Ocf} {c : Instr} {b : Body} (here : s.jobAt h = some i) (job : i.job = .delayed tick f)
    (cmd : i.cmd = some c) (body : bodyOf c = some b) (going : i.cancelReq = false) {a : Answer} (run : a = runEmbedded b f i.frameKey s) {j : WorkItem}
    (item : a.st.item h = some j) : runDelayedJob bodyOf h s =
      a.waits.elim (endJob h j 0 (embeddedResults a.status a.detail a.results) a.st) (fun id =>
        { a.st.setItem h { j with waits := true } with flow.cmds := tset a.st.flow.cmds id { reply := .job h b.opcode f b.changes } }) := by
  rw [runDelayedJob, here]
  dsimp only
  rw [job, cmd, Option.bind_some, body]
  dsimp only
  rw [if_neg (by simp [going]), ← run, item]
  cases a.waits <;> rfl

end Sys2Proof.Machine

open Sys2Proof.Machine

/-- Settles O44: a job does its work while the function may reach host memory, and a delayed command ends with its embedded frame or waits for its
flow operation. -/
theorem hostJobRows : Obligations.HostJobRows := by
  unfold Obligations.HostJobRows
  refine ⟨?dump, ?dumpClosed, ?bulk, ?bulkWaits, ?bulkEmpty, ?snapshot, ?cancelled, ?delayed, ?delayedWaits, ?noJob⟩
  case dump =>
    intro s h i table select cursor here job opened
    show execTableDump h s = _
    rw [execTableDump, here]
    dsimp only
    rw [job]
    exact congrArg _ (if_pos opened)
  case dumpClosed =>
    intro s h i table select cursor here job closed
    show execTableDump h s = _
    rw [execTableDump, here]
    dsimp only
    rw [job]
    exact congrArg _ (if_neg (by simp [closed]))
  case bulk => exact fun s h i blocks c u here job opened run => execFlowBulkInsert_of_job here job opened run
  case bulkWaits => exact fun s h i blocks c n u here job opened run => execFlowBulkInsert_of_job here job opened run
  case bulkEmpty =>
    intro s h i here job fresh opened
    have nothing : bulkBlocks (reached i (([] : List Sys2Proof.FlowBlock).zipIdx.drop i.bulk.next)) i.bulk s = (i.bulk, none, s) := by
      rw [fresh, reached, List.zipIdx_nil, List.drop_nil, List.take_nil, ite_self, bulkBlocks]
    have results : i.bulk.results = [(4, 0), (4, 0), (4, 0), (4, 0xFFFFFFFF), (2, 0), (2, 0)] := by rw [fresh]; rfl
    exact (execFlowBulkInsert_of_job (blocks := []) here job opened nothing).trans
      (congrArg (fun r => Host.Outcome.next (endJob h i 0 r s)) results)
  case snapshot =>
    intro s h i scope here job opened
    show execCounterSnapshot h s = _
    rw [execCounterSnapshot, here]
    dsimp only
    rw [job]
    exact congrArg _ (if_neg (by simp [opened]))
  case cancelled =>
    intro s h i tick f c b here job cmd body cancelled
    show execDelayedCommand h s = _
    rw [execDelayedCommand, runDelayedJob, here]
    dsimp only
    rw [job, cmd, Option.bind_some, body]
    exact congrArg _ (if_pos cancelled)
  case delayed =>
    intro s h i tick f c b a j here job cmd body going run item done
    show execDelayedCommand h s = _
    rw [execDelayedCommand, runDelayedJob_of_job here job cmd body going run item, done]
    rfl
  case delayedWaits =>
    intro s h i tick f c b a j id here job cmd body going run item waits
    show execDelayedCommand h s = _
    rw [execDelayedCommand, runDelayedJob_of_job here job cmd body going run item, waits]
    rfl
  case noJob =>
    intro s h none
    show execDelayedCommand h s = _
    rw [execDelayedCommand, runDelayedJob, none]
end
